-- ==== Sys2Proof/Word.lean ====
section
/-! DEFINITION. The word types of the Z1280 register space and its plainest arithmetic. -/
namespace Sys2Proof

/-- A 32-bit register word (R166: every register access is an aligned 32-bit access). -/
abbrev Word := BitVec 32
/-- One byte of memory. -/
abbrev Byte := BitVec 8

end Sys2Proof
end

