-- ==== Sys2Proof/Syntax.lean ====
section
/-! DEFINITION. The commands of the Z1280: one constructor per row of spec/opcode_table.json, with what the outside
world supplies as operands: the accessor and value of a register write, the place an event happens at, what a sensor
measured and for how long, the bytes of a frame. -/
namespace Sys2Proof

/-- Which standing input condition a clearing concerns (R70). -/
inductive EarthCondition where
  | protectiveEarthOpen
  | lineNeutralSwapped
  deriving DecidableEq, Repr, Inhabited

/-- A timing input connector (R35, R37). -/
inductive TimingInput where
  | pps
  | tenMHz
  deriving DecidableEq, Repr, Inhabited

/-- What the supervisor measures every 10 ms (R64, R65) and its sensors at that moment: input voltage in
0.01 V rms, frequency in 0.1 Hz, input and DC power in 0.1 W, junction and inlet temperature in 0.1 °C, cage
currents in mA and fan speeds in rpm. -/
structure SupplyReading where
  vrms : Nat
  freq : Nat
  inputW : Nat
  dcW : Nat
  tj : Int
  inlet : Int
  cageMa : List Nat
  fanRpm : List Nat
  deriving DecidableEq, Repr, Inhabited

/-- How the code of a flow-region record read back during re-validation (R153). -/
inductive RecordReadout where
  | clean
  | corrected (bytes : List Byte)
  | uncorrectable
  deriving DecidableEq, Repr, Inhabited

/-- What is measured of a timing input's signal (R37): on 1PPS IN the ms since the last valid rising edge; on 10 MHz IN
the amplitude in mV peak-to-peak, the frequency's offset in ppm, and for how many µs both have been so. -/
structure InputSignal where
  sinceEdgeMs : Option Nat
  amplitude : Nat
  ppm : Int
  heldUs : Nat
  deriving DecidableEq, Repr, Inhabited

/-- What a link partner of the management port offers (R41). -/
inductive LinkRate where
  | base10T
  | base100TX
  | base1000T
  deriving DecidableEq, Repr, Inhabited

/-- What a read of an on-chip store makes of a word in error (R766, R768, R776): corrected, with new data written before
the rewrite or not; or not correctable, with its syndrome. -/
inductive WordFound where
  | corrected (newData : Bool)
  | failed (syndrome : Nat)
  deriving DecidableEq, Repr, Inhabited

/-- What goes wrong within a frame on the wire (R210): an error control character, or an uncorrectable FEC codeword that
overlaps it. -/
inductive RxError where
  | errChar
  | codeword
  deriving DecidableEq, Repr, Inhabited

/-- A frame arriving at an ingress MAC: its bytes from the destination address to the last before its end, the error met
in the part of it that the command takes in, how long ago in 2⁻¹⁶ ns the timestamp unit sampled T for its first bit
(R672), and the lane of the port that carried its start block (R225). -/
structure RxFrame where
  bytes : List Byte
  err : Option RxError
  ago : Nat
  lane : Nat
  deriving DecidableEq, Repr, Inhabited

/-- What the FEC decoder of a port counts (R240): codewords corrected, codewords uncorrectable, symbols corrected. -/
structure FecCounts where
  corrCw : Nat
  uncorrCw : Nat
  corrSym : Nat
  deriving DecidableEq, Repr, Inhabited

/-- What the receive side of a port measures at a link-up (R200, R202, R224): inverted lanes, the physical lane
of each logical lane, RX_DELAY, the skew of each of the port's lanes, and TX_DELAY, in 2⁻¹⁶ ns. -/
structure LinkMeasure where
  rxInv : Nat
  laneMap : List Nat
  rxDelay : Nat
  skews : List Nat
  txDelay : Nat
  deriving DecidableEq, Repr, Inhabited

/-- The end of a frame at an ingress MAC: its port, the packet it became when it was admitted, the frame itself where it
did not, the error met since its last cell, and what the FEC decoder counted since the port's previous count. -/
structure TailIn where
  port : Nat
  pkt : Option Nat
  frame : RxFrame
  err : Option RxError
  fec : FecCounts
  deriving DecidableEq, Repr, Inhabited

/-- The fixed alarm windows aligned to the time base (R234, R268, R373, R397, R506, R756, R775). -/
inductive AlarmWindow where
  | millisecond
  | second
  deriving DecidableEq, Repr, Inhabited

/-- Which table a maintenance walk belongs to (R306). -/
inductive TableSel where
  | weir
  | emt
  deriving DecidableEq, Repr, Inhabited

/-- A soft error in the array of a table's replica (R304, R306): the entry, and what its array word holds from then on: its
valid bit, its value or key, and the mask of a Weir entry. -/
structure ArrayUpset where
  table : TableSel
  replica : Nat
  index : Nat
  valid : Bool
  val : Nat
  mask : Nat
  deriving DecidableEq, Repr, Inhabited

/-- Who issues a Flume instruction (R375, R399): a thread of a packet engine (cluster, engine, thread), or a
control engine. -/
inductive Who where
  | pe (cluster engine thread : Nat)
  | ce (k : Nat)
  deriving DecidableEq, Repr, Inhabited

/-- An uncorrectable word, or a word with a parity error, that a read of an on-chip store met (R776, R872): the store
code, the word's index within its copy, and its syndrome. -/
structure StoreError where
  store : Nat
  word : Nat
  syndrome : Nat
  deriving DecidableEq, Repr, Inhabited

/-- A DRAM request (R733): its port, the address of its first atom, 1–4 atoms of one 256 B unit, and for a write
one entry per byte, `none` where the byte enable is off. -/
structure DramReq where
  port : Nat
  addr : Nat
  atoms : Nat
  write : Bool
  data : List (Option Byte)
  deriving DecidableEq, Repr, Inhabited

/-- How the code of an atom read from DRAM turned out (R764): clean, corrected with 1 or 2 symbols in error,
uncorrectable with its syndrome, or a pattern that passes as clean under LIGHT. -/
inductive AtomOutcome where
  | clean
  | corrected (symbols : Nat) (data : List Byte)
  | uncorrectable (syndrome : Nat)
  | unseen (data : List Byte)
  deriving DecidableEq, Repr, Inhabited

/-- A UDP datagram to port 17700 (R840–R843): whether it came over IPv6, its source address and port, and its payload. -/
structure Datagram where
  v6 : Bool
  address : Nat
  port : Nat
  bytes : List Byte
  deriving DecidableEq, Repr, Inhabited

/-- A failing word of a memory test (R863): its target and its address or word index. -/
structure TestFail where
  target : Nat
  addr : Nat
  deriving DecidableEq, Repr, Inhabited

/-- The commands (spec/opcode_table.json). Every register-write command names its accessor `acc` (R172: 0–3 the
control engines, 4 the management port, 5 the boot sequencer, 6 JTAG) and the value written. -/
inductive Instr where
  /-- POWER_ON (R53): Mains input first exceeds 85 V rms and the module starts its boot sequence with a power-on reset. -/
  | powerOn (vrms : Nat) (bootsel : Bool)
  /-- RESET_RELEASE (R133): The ASIC core leaves reset after a power-on reset or a restart, and image selection and validation begin. -/
  | resetRelease
  /-- IMAGE_VALIDATION (R127): Validation of an image completes, either at boot or after an image write, and sets its status code. -/
  | imageValidation (slot : Nat) (flashOk : Bool)
  /-- SECTIONS_LOADED (R135): The image sections finish loading, and CE0–CE3 with firmware are released. -/
  | sectionsLoaded
  /-- FAULT_RECORD_WRITE (R136): A held capture or power-fail note is written to the fault ring in flash. -/
  | faultRecordWrite
  /-- DRAM_TRAINING (R138): DRAM training completes or fails for a stack. -/
  | dramTraining (stack : Nat) (ok : Bool)
  /-- SELF_REFRESH_EXIT (R136): At 150 ms of a warm or state-retaining restart, the DRAM stacks leave self-refresh. -/
  | selfRefreshExit
  /-- REGIONS_CLEARED (R136): Clearing of the DRAM regions completes. -/
  | regionsCleared
  /-- REVALIDATE_RECORD (R153): Re-validation reads one flow-region record and corrects it, zeroes it or leaves it. -/
  | revalidateRecord (readout : RecordReadout)
  /-- RECOVERY_WINDOW_CLOSE (R152): Re-validation completes, the recovery window closes, and held flow-region requests are issued. -/
  | recoveryWindowClose (micros : Nat)
  /-- BLOB_COPY_DONE (R135): The BLOB sections finish copying into DRAM. -/
  | blobCopyDone
  /-- SERDES_CALIBRATION (R138): SerDes calibration of a port group completes or fails, and its ports are enabled for link bring-up. -/
  | serdesCalibration (group : Nat) (ok : Bool)
  /-- FORWARDING_START (R270): At the VOQ forwarding step, ADMITTING is set and forwarding starts in VOQ mode. -/
  | forwardingStart
  /-- SHARED_BUFFER_MODE_CHANGE (R594): When the Reservoir free list is complete, the switch core changes to shared-buffer mode in one CORE cycle. -/
  | sharedBufferModeChange (badCells : List Nat)
  /-- CONFIRM_TIMEOUT (R131): CONFIRM_S elapses without BOOT.CONFIRM, and a fault stop with cause 0x06 starts. -/
  | confirmTimeout
  /-- SYSWD_EXPIRE (R160): The system watchdog reaches TIMEOUT, and a fault stop with cause 0x05 starts. -/
  | syswdExpire
  /-- SYSWD_HALF (R819): The system watchdog count reaches half its TIMEOUT, and event 315 is raised. -/
  | syswdHalf
  /-- FAULT_CAPTURE_CLOSE (R146): At 40 µs the capture closes, the stacks enter self-refresh, and at 41 µs the core is reset. -/
  | faultCaptureClose (captureBytes : Nat) (captureNs : Nat)
  /-- SUPPLY_MEASURE (R65): Every 10 ms the supervisor measures input and DC power, and the power conditions are evaluated. -/
  | supplyMeasure (m : SupplyReading)
  /-- SAG (R67): Input below 85 V rms for 20 ms is confirmed as a sag. -/
  | sag (vrms : Nat) (heldMs : Nat)
  /-- INTERRUPTION (R68): Input below 20 V rms for 5 ms is confirmed, and the module rides through on hold-up. -/
  | interruption (vrms : Nat) (heldMs : Nat)
  /-- BROWN_OUT (R67): Low voltage or an out-of-range frequency persisting more than 200 ms confirms a brown-out. -/
  | brownOut (vrms : Nat) (freq : Nat) (heldMs : Nat)
  /-- ORDERLY_STOP_CORE_OFF (R75): At 250 ms of an orderly stop, the ASIC core supplies are switched off. -/
  | orderlyStopCoreOff
  /-- ORDERLY_RESTART (R76): The restart condition after a brown-out or thermal stop has held, and the module restarts. -/
  | orderlyRestart (vrms : Nat) (freq : Nat) (inlet : Int) (diode : Int) (heldMs : Nat)
  /-- HIGH_INPUT (R67): An input excursion above 265 V rms is reported. -/
  | highInput (vrms : Nat)
  /-- OVER_VOLTAGE (R67): Input above 275 V rms is detected, and a relay opening is scheduled. -/
  | overVoltage (vrms : Nat)
  /-- INPUT_RELAY_OPEN (R67): The input relay opens after its over-voltage delay, and the power-fail path follows. -/
  | inputRelayOpen
  /-- SURGE (R67): Clamp current above 10 A peak is recorded as a surge. -/
  | surge (milliamps : Nat)
  /-- PE_OPEN (R67): A protective-earth impedance above 10 kΩ for 2 s is confirmed. -/
  | peOpen (ohms : Nat) (heldMs : Nat)
  /-- LN_SWAP (R67): Swapped line and neutral are confirmed over 2 s. -/
  | lnSwap (heldMs : Nat)
  /-- CONDITION_CLEAR (R70): A PE-open or swapped condition absent for 2 s is cleared. -/
  | conditionClear (which : EarthCondition) (absentMs : Nat)
  /-- RELAY_CLOSE (R71): The input relay closes after the input has been in range for 2 s, and the module boots. -/
  | relayClose (vrms : Nat) (heldMs : Nat) (bootsel : Bool)
  /-- POWER_FAIL (R80): The supply signals power fail, admission stops and the power-fail note is written to retention RAM. -/
  | powerFail (lostMs : Nat)
  /-- FUSE_TRIP (R83): A cage's electronic fuse trips on overcurrent. -/
  | fuseTrip (cage : Nat)
  /-- FUSE_RETRY (R82): One second after a trip, the fuse retries, and it latches off after the third failed retry. -/
  | fuseRetry (cage : Nat) (trips : Bool)
  /-- OPTIC_INSERTED (R33): Presence held for 100 ms marks an optic inserted, and the cage supply is switched on. -/
  | opticInserted (cage : Nat) (heldMs : Nat) (cmis : Bool)
  /-- OPTIC_REMOVED (R34): Presence deasserts, the cage supply switches off and the cage's ports go down. -/
  | opticRemoved (cage : Nat)
  /-- SHED_STEP (R85): Input power above 800 W for 100 ms sheds the next front cage from C15 downward. -/
  | shedStep
  /-- OVERLOAD_CLOCK_STEP (R90): With no cage left to shed, persisting overload lowers the Flume clock by one step. -/
  | overloadClockStep
  /-- OVERLOAD_CLOCK_RISE (R90): After 60 s below 760 W, the Flume clock rises one step. -/
  | overloadClockRise
  /-- FAN_FAILED (R92): A tachometer reads below 20 % of the commanded speed for 3 s, and the fan counts as failed. -/
  | fanFailed (fan : Nat) (percent : Nat) (heldMs : Nat)
  /-- FAN_RUNNING (R92): A failed fan reads at least 80 % of the commanded speed for 10 s, and it counts as running again. -/
  | fanRunning (fan : Nat) (percent : Nat) (heldMs : Nat)
  /-- THERMAL_STEP_DOWN (R93): An inlet or junction temperature over its threshold steps the Flume clock down. -/
  | thermalStepDown (inlet : Int) (tj : Int) (heldMs : Nat)
  /-- THERMAL_STEP_UP (R93): Temperatures held under the step-up thresholds for 60 s step the Flume clock up. -/
  | thermalStepUp (inlet : Int) (tj : Int) (heldMs : Nat)
  /-- THERMAL_STOP (R93): Tj at or above 120 °C causes a thermal stop followed by an orderly stop. -/
  | thermalStop (tj : Int)
  /-- EXCURSION_MINUTE (R95): Each minute with the inlet above 40 °C is counted, and the budget is checked. -/
  | excursionMinute (inlet : Int)
  /-- EXCURSION_LOG_WRITE (R95): The current daily excursion bin is written to flash once per hour. -/
  | excursionLogWrite (inlet : Int) (sinceMs : Nat)
  /-- INPUT_STATE_MEASURE (R37): Once per second, the DC sense level of a timing input is measured and its state code is updated. -/
  | inputStateMeasure (input : TimingInput) (millivolts : Nat) (signal : InputSignal)
  /-- PLL_LOCK_LOSS (R184): A core PLL or the reference oscillator loses lock and holds its last control word. -/
  | pllLockLoss (pll : Nat)
  /-- FREQ_MEASURE (R193): A CLK.MEAS_CMD write starts a 1 ms frequency measurement of a domain. -/
  | freqMeasure (acc : Nat) (v : Word)
  /-- FREQ_MEASURE_DONE (R194): The frequency measurement gate ends, and the result is written to CLK.MEAS_RESULT. -/
  | freqMeasureDone (khz : Nat)
  /-- PG_GATE_WRITE (R192): A CLK.PG_GATE write stops or restarts a port group's clock, taking its ports down or starting link bring-up. -/
  | pgGateWrite (acc : Nat) (v : Word)
  /-- THROTTLE_CEILING_WRITE (R113): A CEILING write changes the Flume clock at once. -/
  | throttleCeilingWrite (acc : Nat) (v : Word)
  /-- SHED_CLR (R106): A SSV.SHED_CLR command restores shed cages. -/
  | shedClr (acc : Nat) (v : Word)
  /-- FUSE_REARM (R84): A SSV.FUSE_REARM command re-arms latched cage fuses and restarts their insertion sequence. -/
  | fuseRearm (acc : Nat) (v : Word)
  /-- REGISTER_WRITE (R178): A write to a register with no row of its own takes effect at the first target-domain edge. -/
  | registerWrite (acc : Nat) (addr : Nat) (v : Word)
  /-- SVN_RAISE (R159): A keyed BOOT.SVN_RAISE write raises the fuse minimum SVN to that of the running image. -/
  | svnRaise (acc : Nat) (v : Word)
  /-- KEY_REVOKE (R159): A keyed BOOT.KEY_REVOKE write blows the revoke fuses of the named key slots. -/
  | keyRevoke (acc : Nat) (v : Word)
  /-- CONFIRM (R130): A BOOT.CONFIRM write confirms the running image and clears its failed-attempt count. -/
  | confirm (acc : Nat) (v : Word)
  /-- RESTART_COMMAND (R144): A keyed BOOT.RESTART write runs the stop steps and resets the core in the requested mode. -/
  | restartCommand (acc : Nat) (v : Word)
  /-- SYSWD_KICK (R160): A BOOT.SYSWD_KICK write restarts the system watchdog count. -/
  | syswdKick (acc : Nat) (v : Word)
  /-- SIGNAL_DETECT (R204): Signal is detected on every lane of a waiting port, and the port moves to negotiation or alignment. -/
  | signalDetect (port : Nat) (copper : Bool)
  /-- AN_COMPLETE (R204): Clause 73 negotiation and link training complete on a copper port. -/
  | anComplete (port : Nat) (ability : Nat)
  /-- ALIGNMENT_LOCK (R204): FEC and alignment-marker lock is reached on every lane, and the port enters debounce. -/
  | alignmentLock (port : Nat) (m : LinkMeasure)
  /-- DEBOUNCE_EXPIRE (R204): Lock held without fault for LINK_UP_MS brings the port up to state 5. -/
  | debounceExpire (port : Nat) (heldMs : Nat) (m : LinkMeasure) (fec : FecCounts)
  /-- REMOTE_FAULT (R204): A remote fault received on an up port moves it to state 6. -/
  | remoteFault (port : Nat)
  /-- REMOTE_FAULT_CLEAR (R204): A remote fault cleared for LINK_UP_MS returns the port to state 5. -/
  | remoteFaultClear (port : Nat) (heldMs : Nat) (m : LinkMeasure)
  /-- LINK_LOSS (R205): Loss of lock or a persisting local fault takes the port down to state 1. -/
  | linkLoss (port : Nat)
  /-- TAIL_VERDICT (R210): The ingress MAC delivers a frame's tail verdict to the flow engine, Turnout and cut-through egress MACs. -/
  | tailVerdict (t : TailIn)
  /-- PFC_FRAME_RECEIVE (R221): A good received PFC frame pauses or resumes the unicast classes it enables. -/
  | pfcFrameReceive (port : Nat) (frame : RxFrame)
  /-- PAUSE_FRAME_RECEIVE (R198): A received PAUSE frame is counted and discarded. -/
  | pauseFrameReceive (port : Nat) (frame : RxFrame)
  /-- PFC_PAUSE_EXPIRE (R221): A class's PFC pause time runs out, and the class resumes. -/
  | pfcPauseExpire (port : Nat) (cls : Nat) (quanta : Nat)
  /-- PG_CTRL_WRITE (R230): A PG.CTRL write that changes MODE, TX_INVERT or AN takes the group's ports down and restarts them. -/
  | pgCtrlWrite (acc : Nat) (group : Nat) (v : Word)
  /-- PORT_CTRL_WRITE (R236): A PORT_CTRL write enables or disables a port, or changes its cut-through, PFC, debounce or frame limit. -/
  | portCtrlWrite (acc : Nat) (port : Nat) (v : Word)
  /-- ALARM_WINDOW_END (R234): A fixed alarm window aligned to the time base ends, and its count restarts. -/
  | alarmWindowEnd (window : AlarmWindow)
  /-- FRAME_ADMIT (R269): Once 64 B of a frame have arrived, Headgate admits it to its group's header queue or drops it. -/
  | frameAdmit (port : Nat) (frame : RxFrame)
  /-- INGRESS_CELL_TAKE (R569): The ingress takes a further cell for an arriving frame, or marks the packet incomplete when none can be taken. -/
  | ingressCellTake (pkt : Nat) (err : Option RxError)
  /-- HEADER_OFFER (R242): A group offers its head header to a free slice of its own group or of another group. -/
  | headerOffer (group : Nat) (newCycle : Bool)
  /-- PARSE_START (R244): A slice starts a parse once the header's first 256 B, or the whole frame, are in the queue. -/
  | parseStart (slice : Nat) (whole : Bool)
  /-- MICROWORD_EXECUTE (R250): A slice executes one microword: it runs the checks, loads, ALU, extract, flags and cursor, and then sequences. -/
  | microwordExecute (slice : Nat) (err : Option StoreError)
  /-- PARSE_END (R264): A parse result is ready and is delivered in group order, with the malformed action applied. -/
  | parseEnd (slice : Nat)
  /-- UC_WRITE (R262): UC_CMD OP 1 commits one microword to all 20 control stores. -/
  | ucWrite (acc : Nat) (v : Word)
  /-- UC_READ (R280): UC_CMD OP 2 reads a corrected microword of group GSEL into UC_DATA. -/
  | ucRead (acc : Nat) (v : Word)
  /-- HDG_CTRL_WRITE (R276): An HDG.CTRL write sets or clears HOLD, parking or resuming parses, or changes MAX_WORDS. -/
  | hdgCtrlWrite (acc : Nat) (v : Word)
  /-- LOOKUP (R290): A lane accepts a parse result and runs the Weir and EMT searches with verification. -/
  | lookup (group : Nat) (lane : Nat) (upsets : List ArrayUpset) (err : Option StoreError)
  /-- WALK_STEP (R306): The maintenance walk compares one array entry with its verify copy, repairs it, and clamps last-hit times. -/
  | walkStep (table : TableSel) (replica : Nat) (upsets : List ArrayUpset) (err : Option StoreError)
  /-- WEIR_CMD_WRITE (R299): WEIR.CMD WRITE commits an entry to all replicas in one PARSE cycle. -/
  | weirCmdWrite (acc : Nat) (v : Word)
  /-- WEIR_CMD_INVALIDATE (R324): WEIR.CMD INVALIDATE invalidates an entry in all replicas. -/
  | weirCmdInvalidate (acc : Nat) (v : Word)
  /-- WEIR_CMD_READ (R324): WEIR.CMD READ reads an entry's verify copy and associated data into the RD registers. -/
  | weirCmdRead (acc : Nat) (v : Word)
  /-- WEIR_CMD_SEARCH (R324): WEIR.CMD SEARCH runs a verified search of one replica, using a lane cycle. -/
  | weirCmdSearch (acc : Nat) (v : Word)
  /-- WEIR_CTRL_WRITE (R323): A WEIR.CTRL write that changes WIDE invalidates every entry of every replica. -/
  | weirCtrlWrite (acc : Nat) (v : Word)
  /-- MISS_AD_COMMIT (R326): A write to MISS_AD(3) commits the accessor's shadowed MISS_AD words. -/
  | missAdCommit (acc : Nat) (v : Word)
  /-- PROFILE_COMMIT (R327): A PROF_A write commits a profile together with the accessor's shadowed segment words. -/
  | profileCommit (acc : Nat) (profile : Nat) (v : Word)
  /-- EMT_INSERT (R311): EMT.CMD INSERT adds a key at the lowest free index, or evicts an entry. -/
  | emtInsert (acc : Nat) (v : Word)
  /-- EMT_DELETE (R332): EMT.CMD DELETE invalidates an entry by key in all replicas. -/
  | emtDelete (acc : Nat) (v : Word)
  /-- EMT_CMD_LOOKUP (R332): EMT.CMD LOOKUP runs a verified search by key in one replica into the RD registers. -/
  | emtCmdLookup (acc : Nat) (v : Word)
  /-- EMT_CMD_READ (R332): EMT.CMD READ reads an entry by index from one replica into the RD registers. -/
  | emtCmdRead (acc : Nat) (v : Word)
  /-- EMT_INVALIDATE (R332): EMT.CMD INVALIDATE invalidates an entry by index in all replicas. -/
  | emtInvalidate (acc : Nat) (v : Word)
  /-- EMT_UPDATE (R332): EMT.CMD UPDATE rewrites DATA and STATIC of an entry found by key. -/
  | emtUpdate (acc : Nat) (v : Word)
  /-- LQ_POP (R317): An EMT.LQ_POP write removes the learn queue's head entry. -/
  | lqPop (acc : Nat) (v : Word)
  /-- CONTEXT_BUILD (R341): Dispatch takes a lookup result, allocates a context, and assigns its domain, sequence number, deadline and cluster. -/
  | contextBuild
  /-- CONTEXT_SLOT (R352): An engine takes the head of its cluster's ready queue into a free prefetch slot. -/
  | contextSlot (cluster : Nat) (engine : Nat)
  /-- THREAD_TAKE (R353): A free thread takes the slotted context with the earlier deadline and starts the program at ENTRY. -/
  | threadTake (cluster : Nat) (engine : Nat) (thread : Nat)
  /-- CONTEXT_END (R356): An engine signals a context's end and outcome to Turnout, and the context becomes ended. -/
  | contextEnd (ctx : Nat)
  /-- RELEASE (R357): Turnout releases the ended context whose SEQ equals its domain's REL_SEQ and hands on its copies. -/
  | release (ctx : Nat)
  /-- WATCHDOG_EXPIRE (R362): A context's watchdog reaches WD_CYCLES, and the thread takes fault WATCHDOG. -/
  | watchdogExpire (ctx : Nat)
  /-- EXCEPTION_WATCHDOG_EXPIRE (R364): The exception-entry watchdog expires, the packet goes to the Spillway, and its staged updates are cancelled. -/
  | exceptionWatchdogExpire (ctx : Nat)
  /-- LOAD_DELIVER (R386): A pending load's value arrives and is written to its slot after the delay-slot instruction. -/
  | loadDeliver (who : Who)
  /-- HELPER_RESULT (R449): A helper or flow-operation result arrives and its results are pushed, or its fault is taken. -/
  | helperResult (who : Who)
  /-- INTERRUPT_TAKE (R402): With IE = 1 and the interrupt line asserted, the control engine enters interrupt level at the interrupt vector. -/
  | interruptTake (k : Nat)
  /-- WRITE_BUFFER_DRAIN (R405): The oldest control-engine write-buffer entry drains to local memory or DRAM. -/
  | writeBufferDrain (k : Nat)
  /-- CACHE_LINE_FILL (R437): A control-engine data-cache miss completes when its line arrives from DRAM. -/
  | cacheLineFill (k : Nat)
  /-- CE_RUN_WRITE (R412): A FLM.CE_CTRL.RUN write resets a control engine or starts it at offset 0. -/
  | ceRunWrite (acc : Nat) (k : Nat) (v : Word)
  /-- PS_DATA_WRITE (R410): A FLM.PS_DATA write commits one instruction to a cluster program store. -/
  | psDataWrite (acc : Nat) (cluster : Nat) (v : Word)
  /-- SHM_DATA_ACCESS (R415): A FLM.SHM_DATA access reads or writes one cluster-shared word and may advance the address. -/
  | shmDataAccess (acc : Nat) (cluster : Nat) (store : Option Word)
  /-- NOP (R427): NOP does nothing. -/
  | nop (who : Who)
  /-- DUP (R427): DUP duplicates the top of the data stack. -/
  | dup (who : Who)
  /-- DROP (R427): DROP removes the top of the data stack. -/
  | drop (who : Who)
  /-- SWAP (R427): SWAP exchanges the top two entries. -/
  | swap (who : Who)
  /-- OVER (R427): OVER pushes a copy of the second entry. -/
  | over (who : Who)
  /-- ROT (R427): ROT rotates the top three entries. -/
  | rot (who : Who)
  /-- NIP (R427): NIP removes the second entry. -/
  | nip (who : Who)
  /-- DEPTH (R427): DEPTH pushes the stack depth. -/
  | depth (who : Who)
  /-- PUSHS (R427): PUSHS pushes a sign-extended 12-bit immediate. -/
  | pushs (who : Who)
  /-- EXT (R427): EXT shifts the top left by 12 and ORs in a 12-bit immediate. -/
  | ext (who : Who)
  /-- PICK (R427): PICK n pushes a copy of element n. -/
  | pick (who : Who)
  /-- PUT (R427): PUT n pops a value and writes it into element n. -/
  | put (who : Who)
  /-- ROLL (R427): ROLL n moves element n to the top. -/
  | roll (who : Who)
  /-- ADD (R429): ADD pushes a plus b. -/
  | addOp (who : Who)
  /-- SUB (R429): SUB pushes a minus b. -/
  | sub (who : Who)
  /-- AND (R429): AND pushes the bitwise AND. -/
  | andOp (who : Who)
  /-- OR (R429): OR pushes the bitwise OR. -/
  | orOp (who : Who)
  /-- XOR (R429): XOR pushes the bitwise XOR. -/
  | xor (who : Who)
  /-- SHL (R429): SHL shifts left by b[4:0]. -/
  | shl (who : Who)
  /-- SHR (R429): SHR shifts right with zero fill. -/
  | shr (who : Who)
  /-- SAR (R429): SAR shifts right with sign fill. -/
  | sar (who : Who)
  /-- MUL (R429): MUL pushes the low 32 bits of the product. -/
  | mul (who : Who)
  /-- MULHU (R429): MULHU pushes the high 32 bits of the unsigned product. -/
  | mulhu (who : Who)
  /-- MINU (R429): MINU pushes the unsigned minimum. -/
  | minu (who : Who)
  /-- MAXU (R429): MAXU pushes the unsigned maximum. -/
  | maxu (who : Who)
  /-- EQ (R429): EQ pushes 1 when a equals b. -/
  | eqOp (who : Who)
  /-- NE (R429): NE pushes 1 when a differs from b. -/
  | neOp (who : Who)
  /-- LTU (R429): LTU pushes the unsigned less-than result. -/
  | ltu (who : Who)
  /-- LTS (R429): LTS pushes the signed less-than result. -/
  | lts (who : Who)
  /-- NOT (R429): NOT pushes the bitwise complement. -/
  | notOp (who : Who)
  /-- NEG (R429): NEG pushes the two's-complement negation. -/
  | neg (who : Who)
  /-- CLZ (R429): CLZ pushes the count of leading zero bits. -/
  | clz (who : Who)
  /-- POPCNT (R429): POPCNT pushes the count of set bits. -/
  | popcnt (who : Who)
  /-- BSWAP16 (R429): BSWAP16 swaps the two low bytes. -/
  | bswap16 (who : Who)
  /-- BSWAP32 (R429): BSWAP32 reverses the byte order. -/
  | bswap32 (who : Who)
  /-- SEXT8 (R429): SEXT8 sign-extends the low byte. -/
  | sext8 (who : Who)
  /-- SEXT16 (R429): SEXT16 sign-extends the low half-word. -/
  | sext16 (who : Who)
  /-- ADDI (R430): ADDI adds a signed 8-bit immediate to the top. -/
  | addi (who : Who)
  /-- ANDI (R430): ANDI ANDs the top with an immediate. -/
  | andi (who : Who)
  /-- ORI (R430): ORI ORs the top with an immediate. -/
  | ori (who : Who)
  /-- XORI (R430): XORI XORs the top with an immediate. -/
  | xori (who : Who)
  /-- SHLI (R430): SHLI shifts the top left by an immediate. -/
  | shli (who : Who)
  /-- SHRI (R430): SHRI shifts the top right with zero fill. -/
  | shri (who : Who)
  /-- SARI (R430): SARI shifts the top right with sign fill. -/
  | sari (who : Who)
  /-- EQI (R430): EQI compares the top with an immediate for equality. -/
  | eqi (who : Who)
  /-- LTUI (R430): LTUI compares the top with an immediate, unsigned less-than. -/
  | ltui (who : Who)
  /-- TSTBI (R430): TSTBI extracts one bit of the top. -/
  | tstbi (who : Who)
  /-- PARITY (R431): PARITY pushes the XOR of all 32 bits. -/
  | parity (who : Who)
  /-- BREV8 (R431): BREV8 reverses the bits of the low byte. -/
  | brev8 (who : Who)
  /-- BREV16 (R431): BREV16 reverses the bits of the low half-word. -/
  | brev16 (who : Who)
  /-- BREV32 (R431): BREV32 reverses all 32 bits. -/
  | brev32 (who : Who)
  /-- CRC32C (R432): CRC32C performs one reflected CRC32C byte step. -/
  | crc32c (who : Who)
  /-- CRC16 (R433): CRC16 performs one CRC16 byte step with polynomial 0x1021. -/
  | crc16 (who : Who)
  /-- LD (R434): LD loads from a + DISP with the load delay. -/
  | ld (who : Who)
  /-- LDC (R436): LDC loads from a context or local-memory offset and pushes the value. -/
  | ldc (who : Who)
  /-- ST (R434): ST stores v at a + DISP. -/
  | st (who : Who)
  /-- STC (R434): STC stores v at a context or local-memory offset. -/
  | stc (who : Who)
  /-- FADD (R438): FADD atomically adds x to a shared or local word and returns the old value. -/
  | fadd (who : Who)
  /-- BRA (R441): BRA branches unconditionally. -/
  | bra (who : Who)
  /-- BZ (R441): BZ pops its operand and branches when it is zero. -/
  | bz (who : Who)
  /-- BNZ (R441): BNZ pops its operand and branches when it is non-zero. -/
  | bnz (who : Who)
  /-- CALL (R441): CALL pushes the return address and branches relative. -/
  | call (who : Who)
  /-- RET (R442): RET pops the return stack into PC. -/
  | ret (who : Who)
  /-- JMPS (R442): JMPS jumps to the address on the stack. -/
  | jmps (who : Who)
  /-- CALLS (R442): CALLS calls the address on the stack. -/
  | calls (who : Who)
  /-- SETRC (R445): SETRC sets RC from an immediate. -/
  | setrc (who : Who)
  /-- REP (R388): REP repeats its target RC times, letting other threads issue between iterations. -/
  | rep (who : Who)
  /-- REPX (R390): REPX repeats its target RC times exclusively on the engine. -/
  | repx (who : Who)
  /-- POPRC (R445): POPRC pops a value into RC. -/
  | poprc (who : Who)
  /-- PUSHRC (R445): PUSHRC pushes RC. -/
  | pushrc (who : Who)
  /-- TOR (R445): TOR moves a value to the return stack. -/
  | tor (who : Who)
  /-- FROMR (R445): FROMR pops the return stack onto the data stack. -/
  | fromr (who : Who)
  /-- RFETCH (R445): RFETCH copies the top of the return stack. -/
  | rfetch (who : Who)
  /-- LOOP (R446): LOOP decrements RC and branches back while it is non-zero. -/
  | loop (who : Who)
  /-- RETI (R451): RETI returns from interrupt level to RESUME and sets IE. -/
  | reti (who : Who)
  /-- EI (R451): EI sets IE. -/
  | ei (who : Who)
  /-- DI (R451): DI clears IE. -/
  | di (who : Who)
  /-- CLEAN (R407): CLEAN writes a dirty cache line to the write buffer and keeps it valid. -/
  | clean (who : Who)
  /-- INVAL (R407): INVAL discards a cache line. -/
  | inval (who : Who)
  /-- SYNC (R407): SYNC waits until the write buffer has drained. -/
  | sync (who : Who)
  /-- SETSEG (R451): SETSEG sets the current level's segment register. -/
  | setseg (who : Who)
  /-- GETSEG (R451): GETSEG pushes the current level's segment register. -/
  | getseg (who : Who)
  /-- WAIT (R452): WAIT stops issue until the interrupt line is asserted. -/
  | wait (who : Who)
  /-- H32M (R464): H32M hashes a context range with CRC32C and a finaliser. -/
  | h32m (who : Who)
  /-- SYMH (R465): SYMH computes a symmetric hash of two context ranges. -/
  | symh (who : Who)
  /-- HCALL_CRC32C (R464): The CRC32C helper computes a CRC32C over a context range. -/
  | hcallCrc32c (who : Who)
  /-- HCALL_CRC16 (R464): The CRC16 helper computes a CRC16 over a context range. -/
  | hcallCrc16 (who : Who)
  /-- CRC32 (R464): CRC32 computes the IEEE CRC32 register over a context range. -/
  | crc32 (who : Who)
  /-- CSUM (R466): CSUM computes a ones'-complement sum over a context range. -/
  | csum (who : Who)
  /-- CSUM_ADJ (R467): CSUM_ADJ incrementally updates a checksum for a changed 32-bit value. -/
  | csumAdj (who : Who)
  /-- TS_NOW (R468): TS_NOW returns a native time-base sample. -/
  | tsNow (who : Who)
  /-- TS_NS64 (R468): TS_NS64 returns the NS64 of a time-base sample. -/
  | tsNs64 (who : Who)
  /-- TS_AGE (R468): TS_AGE returns the nanoseconds since the context's ingress. -/
  | tsAge (who : Who)
  /-- ALLOC (R612): ALLOC allocates a work buffer for the cluster's owner, with fallback to larger pools. -/
  | alloc (who : Who)
  /-- FREE (R614): FREE drops a reference to a work buffer and returns it to its pool at zero. -/
  | free (who : Who)
  /-- HANDOVER (R614): HANDOVER makes another owner the named owner of a buffer. -/
  | handover (who : Who)
  /-- SHARE (R615): SHARE adds a reference to a buffer, saturating at 65,535. -/
  | share (who : Who)
  /-- BUFFER_READ (R469): READ copies work-buffer bytes into the context. -/
  | bufferRead (who : Who)
  /-- BUFFER_WRITE (R469): WRITE copies context bytes into a work buffer. -/
  | bufferWrite (who : Who)
  /-- WLOOK (R472): WLOOK performs a Weir re-lookup on a lookup lane. -/
  | wlook (who : Who) (upsets : List ArrayUpset)
  /-- ELOOK (R472): ELOOK performs an EMT re-lookup on a lookup lane. -/
  | elook (who : Who) (upsets : List ArrayUpset)
  /-- REPLACE (R474): REPLACE queues a byte-replacement edit. -/
  | replace (who : Who)
  /-- EDIT_INSERT (R474): INSERT queues an insertion edit. -/
  | editInsert (who : Who)
  /-- REMOVE (R474): REMOVE queues a byte-removal edit. -/
  | remove (who : Who)
  /-- EDIT_STAMP (R480): STAMP queues an edit that writes the departure time into the frame. -/
  | editStamp (who : Who)
  /-- SIPHON (R485): SIPHON replaces the context's Siphon request. -/
  | siphon (who : Who)
  /-- CULVERT (R486): CULVERT sets the context's Culvert request. -/
  | culvert (who : Who)
  /-- EDIT_CLEAR (R474): EDIT_CLEAR discards every queued edit. -/
  | editClear (who : Who)
  /-- EMIT (R483): EMIT ends the context with a unicast to a port and queue. -/
  | emit (who : Who)
  /-- EMIT_MC (R483): EMIT_MC ends the context with a multicast to a group. -/
  | emitMc (who : Who)
  /-- HCALL_DROP (R483): DROP ends the context with the packet dropped. -/
  | hcallDrop (who : Who)
  /-- FLOW_LOOKUP (R500): LOOKUP searches the flow store for a key and returns a handle. -/
  | flowLookup (who : Who)
  /-- CREATE (R502): CREATE reserves a position for an absent key and stages the record's creation. -/
  | flowCreate (who : Who)
  /-- FLOW_DELETE (R536): DELETE stages the invalidation of a record. -/
  | flowDelete (who : Who)
  /-- FLOW_READ (R536): READ copies speculative record bytes into the context. -/
  | flowRead (who : Who)
  /-- FLOW_WRITE (R536): WRITE stages context bytes into a record. -/
  | flowWrite (who : Who)
  /-- FADD32 (R536): FADD32 stages a 32-bit add to a record field. -/
  | fadd32 (who : Who)
  /-- FADD64 (R536): FADD64 stages a 64-bit add to a record field. -/
  | fadd64 (who : Who)
  /-- CAS32 (R536): CAS32 stages a compare-and-swap of a record word. -/
  | cas32 (who : Who)
  /-- MINU32 (R536): MINU32 stages an unsigned minimum into a record word. -/
  | minu32 (who : Who)
  /-- MAXU32 (R536): MAXU32 stages an unsigned maximum into a record word. -/
  | maxu32 (who : Who)
  /-- SETBITS32 (R536): SETBITS32 stages an OR into a record word. -/
  | setbits32 (who : Who)
  /-- CLRBITS32 (R536): CLRBITS32 stages a bit clear in a record word. -/
  | clrbits32 (who : Who)
  /-- FLOW_STAMP (R539): STAMP stages the ingress NS64 into a record field. -/
  | flowStamp (who : Who)
  /-- ACCOUNT (R536): ACCOUNT stages packet and byte counter updates and the last-seen time. -/
  | account (who : Who)
  /-- POLICE (R541): POLICE runs a token bucket in the record and returns a colour. -/
  | police (who : Who)
  /-- EXPORT (R557): EXPORT stages an IPFIX export request. -/
  | flowExport (who : Who)
  /-- ABORT (R555): ABORT cancels every entry the context has staged and frees its tag. -/
  | flowAbort (who : Who)
  /-- CONTEXT_RESOLVE (R548): A context resolves at the later of its end and its verdict, and its entries commit or cancel. -/
  | contextResolve (inst : Nat)
  /-- LOG_ENTRY_APPLY (R549): The oldest resolved log entry is applied to the committed image or removed. -/
  | logEntryApply (slice : Nat)
  /-- NOTICE_POST (R510): A notice's ring-entry write completes, and PROD advances, or the notice is lost. -/
  | noticePost (sweep : Bool)
  /-- SWEEP_COUNT (R519): SWEEP_CMD COUNT starts a sweep that counts matching idle records. -/
  | sweepCount (acc : Nat) (v : Word)
  /-- SWEEP_REPORT (R519): SWEEP_CMD REPORT starts a sweep that posts matching records to the sweep queue. -/
  | sweepReport (acc : Nat) (v : Word)
  /-- SWEEP_EXPIRE (R519): SWEEP_CMD EXPIRE starts a sweep that posts and invalidates matching records. -/
  | sweepExpire (acc : Nat) (v : Word)
  /-- SWEEP_RECORD (R519): A sweep reads one record and counts, reports, expires, skips or orphans it. -/
  | sweepRecord (slice : Nat)
  /-- SWEEP_ABORT (R521): A SWEEP_ABORT write ends a running sweep at the next record. -/
  | sweepAbort (acc : Nat) (v : Word)
  /-- EXPORT_FORMAT (R559): The exporter formats one export-ring entry into an IPFIX Data Record. -/
  | exportFormat
  /-- EXPORT_MESSAGE_SEND (R560): A full or aged IPFIX message is closed and enqueued to its port. -/
  | exportMessageSend (heldMs : Nat)
  /-- COPY_TRANSMIT_START (R629): A chosen or cut-through copy starts transmission, with edits, ECN and correctionField applied. -/
  | copyTransmitStart (port : Nat)
  /-- COPY_TRANSMIT_END (R572): A copy ends and lowers its packet's reference count, and the cells return at zero. -/
  | copyTransmitEnd (port : Nat)
  /-- SCHEDULER_CHOOSE (R629): The scheduler finally chooses a port's next copy through the port, group and queue tiers. -/
  | schedulerChoose (port : Nat) (remaining : Nat)
  /-- SLUICE_REFILL (R636): A Sluice's refill slot adds RATE to its credit and applies held writes. -/
  | sluiceRefill (sluice : Nat)
  /-- SLUICE_WRITE (R638): A Sluice RATE or BURST write is held until the Sluice's next refill slot. -/
  | sluiceWrite (acc : Nat) (sluice : Nat) (burst : Bool) (v : Word)
  /-- PFC_FRAME_SEND (R644): A PFC frame is sent at the port's next frame boundary ahead of every copy. -/
  | pfcFrameSend (port : Nat)
  /-- PFC_REFRESH (R643): While a port stays in XOFF, another PFC frame is due every half pause time. -/
  | pfcRefresh (port : Nat) (quanta : Nat)
  /-- SAMPLE_PERIOD (R646): Every SR_PERIOD µs, the sampler writes a depth and delay record for each sampled queue. -/
  | samplePeriod
  /-- MC_WRITE (R598): MC_CMD OP 1 writes a multicast group. -/
  | mcWrite (acc : Nat) (v : Word)
  /-- MC_READ (R598): MC_CMD OP 2 reads a multicast group into MC_DATA. -/
  | mcRead (acc : Nat) (v : Word)
  /-- BPM_CMD_ALLOC (R623): BPM.CMD ALLOC allocates a work buffer for the named owner. -/
  | bpmCmdAlloc (acc : Nat) (v : Word)
  /-- BPM_CMD_FREE (R623): BPM.CMD FREE frees a work buffer for the named owner. -/
  | bpmCmdFree (acc : Nat) (v : Word)
  /-- BPM_CMD_HANDOVER (R623): BPM.CMD HANDOVER transfers a buffer to a new owner. -/
  | bpmCmdHandover (acc : Nat) (v : Word)
  /-- BPM_CMD_SHARE (R623): BPM.CMD SHARE adds a reference to a buffer. -/
  | bpmCmdShare (acc : Nat) (v : Word)
  /-- POOL_INIT (R605): BPM.CMD INIT checks and starts the build of a work pool's free list. -/
  | poolInit (acc : Nat) (v : Word)
  /-- POOL_INIT_DONE (R605): A work pool's free-list build completes. -/
  | poolInitDone (pool : Nat)
  /-- TB_SET (R660): TB.CMD SET sets the time base, subject to the jump decision. -/
  | tbSet (acc : Nat) (v : Word)
  /-- TB_STEP (R660): TB.CMD STEP adds ADJ to the time base, subject to the jump decision. -/
  | tbStep (acc : Nat) (v : Word)
  /-- TB_SLEW (R661): TB.CMD SLEW spreads ADJ over SLEW_MS milliseconds. -/
  | tbSlew (acc : Nat) (v : Word)
  /-- SLEW_END (R661): A slew has added its whole amount and ends. -/
  | slewEnd
  /-- PPS_CAPTURE (R673): A valid 1PPS IN edge is captured, and the hardware servo may run. -/
  | ppsCapture (ago : Nat)
  /-- REFERENCE_LOSS (R669): The time reference is lost, and the time base enters holdover. -/
  | referenceLoss
  /-- PLL_HOLDOVER (R665): The timing PLL's frequency source is lost or changed, and the PLL enters holdover. -/
  | pllHoldover
  /-- PLL_RELOCK (R665): The timing PLL relocks to a valid source. -/
  | pllRelock
  /-- FRC_WRAP (R685): The FRC wraps, COMPAT_OFS is advanced and event 204 is raised. -/
  | frcWrap
  /-- AON_TIME_SAVE (R659): Every 1 ms, the time base copies T into the always-on timekeeper. -/
  | aonTimeSave
  /-- PPS_OUT_EDGE (R675): At each whole second plus trim, a 1PPS OUT edge is sent. -/
  | ppsOutEdge
  /-- TB_CTRL_WRITE (R689): A TB.CTRL write changing SOURCE or the frequency source changes the reference state. -/
  | tbCtrlWrite (acc : Nat) (v : Word)
  /-- TB_SERVO_WRITE (R690): A TB.SERVO write of PTP_STATE applies the state and loss rules at once. -/
  | tbServoWrite (acc : Nat) (v : Word)
  /-- TB_SNAPSHOT_READ (R658): A read of TB.SEC_LO or PPS_SEC latches the related time registers for the accessor. -/
  | tbSnapshotRead (acc : Nat) (pps : Bool)
  /-- HELLO_SEND (R698): A hello is sent on a lateral link every HELLO_MS and at entry to state 5. -/
  | helloSend (link : Nat)
  /-- HELLO_RECEIVE (R700): A hello frame is checked, and the link state, member table, master and time exchange are updated. -/
  | helloReceive (link : Nat) (frame : RxFrame)
  /-- HELLO_HOLD_EXPIRE (R705): No valid hello for HOLD × HELLO_MS takes the link out of service. -/
  | helloHoldExpire (link : Nat) (elapsedMs : Nat)
  /-- TABLE_ENTRY_EXPIRE (R706): A member-table entry that is not refreshed is removed. -/
  | tableEntryExpire (member : Nat) (elapsedMs : Nat)
  /-- STACK_MEASUREMENT (R721): Each second a non-master member delivers the lateral time-exchange offset to the servo. -/
  | stackMeasurement
  /-- DRAM_REQUEST_ACCEPT (R735): A DRAM request is accepted into its bank queue or the shared queue of a pseudo-channel. -/
  | dramRequestAccept (r : DramReq)
  /-- DRAM_COMMAND_ISSUE (R740): A pseudo-channel picks and issues a row or column command from the flow or shared side. -/
  | dramCommandIssue (chan : Nat) (column : Bool) (ready : List Nat)
  /-- DRAM_READ_COMPLETE (R742): Read data returns, is checked and corrected, and is delivered to the requestor. -/
  | dramReadComplete (chan : Nat) (outcomes : List AtomOutcome)
  /-- DRAM_REFRESH (R750): A per-bank refresh falls due and is issued or postponed. -/
  | dramRefresh (chan : Nat) (busy : Bool)
  /-- DRAM_TEMP_READ (R751): Every 1 ms, the stack temperature is read and the hot and alarm states are updated. -/
  | dramTempRead (stack : Nat) (temp : Int)
  /-- SELF_REFRESH_ENTRY (R752): A stack idle for IDLE_US enters automatic self-refresh. -/
  | selfRefreshEntry (stack : Nat) (idleUs : Nat)
  /-- ROW_IDLE_CLOSE (R745): An open row unused for 1 µs is closed. -/
  | rowIdleClose (chan : Nat) (bank : Nat) (idleNs : Nat)
  /-- ARRAY_REWRITE (R768): A corrected on-chip word is rewritten in place at the array's next free write cycle. -/
  | arrayRewrite (store : Nat) (place : Nat) (unit : Nat) (word : Nat) (found : WordFound)
  /-- SCRUB_REPAIR (R779): SCRUB_CMD REPAIR starts a scrub that writes corrected atoms back. -/
  | scrubRepair (acc : Nat) (v : Word)
  /-- SCRUB_SURVEY (R779): SCRUB_CMD SURVEY starts a read-only scrub. -/
  | scrubSurvey (acc : Nat) (v : Word)
  /-- SCRUB_ZERO (R779): A keyed SCRUB_CMD ZERO starts zeroing a range. -/
  | scrubZero (acc : Nat) (v : Word)
  /-- SCRUB_UNIT (R778): The scrubber processes one 256 B unit at its rate. -/
  | scrubUnit (outcomes : List AtomOutcome)
  /-- SCRUB_ABORT (R788): A SCRUB_ABORT write ends the running command after its current unit. -/
  | scrubAbort (acc : Nat) (v : Word)
  /-- DMA_START (R815): CH_CMD START starts a channel at CH_DESC. -/
  | dmaStart (acc : Nat) (channel : Nat) (v : Word)
  /-- DMA_STOP (R805): CH_CMD STOP moves a running channel to STOPPING. -/
  | dmaStop (acc : Nat) (channel : Nat) (v : Word)
  /-- DMA_KICK (R812): CH_CMD KICK makes an RX or TX channel refetch its descriptor at once. -/
  | dmaKick (acc : Nat) (channel : Nat) (v : Word)
  /-- DESCRIPTOR_FETCH (R804): A descriptor fetch completes, and the descriptor is checked or the fetch fails. -/
  | descriptorFetch (channel : Nat)
  /-- MOVER_ASSIGN (R798): At a CTRL cycle boundary, ready channels take, pre-empt or yield movers. -/
  | moverAssign
  /-- BEAT_ISSUE (R797): A channel holding a mover issues a beat read or write. -/
  | beatIssue (channel : Nat)
  /-- BEAT_ANSWER (R795): A beat is answered good or with an error. -/
  | beatAnswer (channel : Nat)
  /-- DESCRIPTOR_WRITEBACK (R801): A descriptor's write-back is acknowledged, the done or failure event is raised, and the channel moves on. -/
  | descriptorWriteback (channel : Nat)
  /-- DESCRIPTOR_POLL (R812): Every POLL.NS, an RX or TX channel refetches a not-owned descriptor. -/
  | descriptorPoll (channel : Nat) (waitedNs : Nat)
  /-- RX_COPY (R810): An RX channel writes a P132 copy into its descriptor's buffer. -/
  | rxCopy (channel : Nat)
  /-- TX_FRAME (R811): A TX channel offers a frame to Headgate group 20 as entering on P132. -/
  | txFrame (channel : Nat)
  /-- EVENT_RAISE (R822): An event source sets its pending bits for its routed targets and raises the interrupt line. -/
  | eventRaise (source : Nat)
  /-- EVC_PENDING_READ (R823): A read of EVC.PENDING clears the returned bits for that target. -/
  | evcPendingRead (acc : Nat) (target : Nat) (word : Nat)
  /-- EVC_SET (R826): An EVC.SET write raises a source as its block would. -/
  | evcSet (acc : Nat) (v : Word)
  /-- PMC_SNAPSHOT (R829): PMC.CMD OP 1 copies every global counter into SNAP. -/
  | pmcSnapshot (acc : Nat) (v : Word)
  /-- PMC_COUNTER_CLEAR (R838): PMC.CMD OP 2 sets every global counter and OVF to 0. -/
  | pmcCounterClear (acc : Nat) (v : Word)
  /-- SNAPSHOT_PERIOD (R829): At each SNAP_PERIOD boundary, a snapshot is taken. -/
  | snapshotPeriod
  /-- SAMPLE_CAPTURE (R831): After an engine counter wraps with SAMPLE set, the skidded instruction is captured. -/
  | sampleCapture (cluster : Nat) (engine : Nat)
  /-- BW_WINDOW_CLOSE (R833): A bandwidth window closes, and the per-port byte counts are latched. -/
  | bwWindowClose
  /-- GMP_HELLO (R847): A GMP HELLO request opens a session at the negotiated version. -/
  | gmpHello (m : Datagram)
  /-- BYE (R847): A GMP BYE closes the session. -/
  | bye (m : Datagram)
  /-- REG_READ (R850): A GMP REG_READ reads a list of registers. -/
  | regRead (m : Datagram)
  /-- REG_WRITE (R850): A GMP REG_WRITE writes a list of registers in order. -/
  | regWrite (m : Datagram)
  /-- MEM_READ (R850): A GMP MEM_READ reads local memory or DRAM. -/
  | memRead (m : Datagram)
  /-- MEM_WRITE (R850): A GMP MEM_WRITE writes local memory or DRAM. -/
  | memWrite (m : Datagram)
  /-- IMAGE_BEGIN (R851): A GMP IMAGE_BEGIN opens an image write to a slot. -/
  | imageBegin (m : Datagram)
  /-- IMAGE_DATA (R851): A GMP IMAGE_DATA programs image bytes into flash. -/
  | imageData (m : Datagram)
  /-- IMAGE_END (R851): A GMP IMAGE_END closes the write and starts validation. -/
  | imageEnd (m : Datagram)
  /-- GMP_RESTART (R852): A GMP RESTART answers and then starts the restart sequence. -/
  | gmpRestart (m : Datagram)
  /-- LOCATE (R852): A GMP LOCATE switches the locate indicators on or off. -/
  | locate (m : Datagram)
  /-- SUBSCRIBE (R847): A GMP SUBSCRIBE sets the session's event mask. -/
  | subscribe (m : Datagram)
  /-- FAULT_READ (R870): A GMP FAULT_READ returns bytes of a fault-ring record. -/
  | faultRead (m : Datagram)
  /-- SESSION_TIMEOUT (R847): A GMP session idle for SESSION_S seconds closes. -/
  | sessionTimeout (session : Nat) (idleMs : Nat)
  /-- NOTICE_POLL (R853): Every NOTICE_MS, the port reads its pending events and sends EVENT_NOTICE messages. -/
  | noticePoll
  /-- MGT_FRAME_RECEIVE (R840): A non-GMP frame on the management port is answered as ARP, neighbour discovery or echo, or discarded. -/
  | mgtFrameReceive (bytes : List Byte)
  /-- ATB_SAMPLE (R857): The on-chip converter samples a test-bus node into ATB_ADC 1,000 times a second. -/
  | atbSample (bus : Nat) (level : Nat)
  /-- IDCODE (R859): The JTAG IDCODE instruction captures the 32-bit identity. -/
  | idcode
  /-- SAMPLE_PRELOAD (R859): The JTAG SAMPLE/PRELOAD instruction samples or preloads the boundary scan. -/
  | samplePreload (pins : Nat) (preload : Nat)
  /-- EXTEST (R859): The JTAG EXTEST instruction drives the boundary scan in service boot. -/
  | extest (pins : Nat) (drive : Nat)
  /-- REGACC (R860): The JTAG REGACC Update-DR makes one register access as accessor 6. -/
  | regacc (dr : Nat)
  /-- RETREAD (R861): The JTAG RETREAD Capture-DR reads the next 4 B of retention RAM. -/
  | retread (load : Bool)
  /-- BYPASS (R859): The JTAG BYPASS instruction selects the 1-bit bypass register. -/
  | bypass (bit : Bool)
  /-- SELFTEST (R863): A GLB.SELFTEST_CMD write starts a destructive memory test of a target. -/
  | selftest (acc : Nat) (v : Word)
  /-- SELFTEST_DONE (R865): A memory test finishes, and its result is written. -/
  | selftestDone (fails : List TestFail)
  /-- TEST_LOCK (R865): A keyed TEST_LOCK write in service boot blows the JTAG lock fuse. -/
  | testLock (acc : Nat) (v : Word)
  /-- LOOPBACK_WRITE (R866): A PG.LOOPBACK write sets a loopback mode and takes the group's ports down. -/
  | loopbackWrite (acc : Nat) (group : Nat) (v : Word)
  /-- PRBS_CTRL_WRITE (R868): A PG.PRBS_CTRL write starts or restarts the PRBS generators and checkers. -/
  | prbsCtrlWrite (acc : Nat) (group : Nat) (v : Word)
  /-- MGT_LINK_CHANGE (R41): The 1000BASE-T management link comes up or goes down, changing MGT.STATUS.LINK and the RJ45 link indicator. -/
  | mgtLinkChange (partner : List LinkRate) (connected : Bool)
  /-- RIDE_THROUGH_END (R89): The input returns within 85–265 V rms after a sag or interruption, RIDE clears, PWR leaves amber fast, and the shedding time and the hold-up recharge time restart. -/
  | rideThroughEnd (vrms : Nat)
  /-- DAILY_BIN_EXPIRE (R96): A daily excursion bin leaves the 365-day window, lowering the count so that the normal thermal thresholds may return. -/
  | dailyBinExpire
  /-- ALWAYS_ON_STORE_EXHAUSTED (R80): With all input gone, the always-on store runs out, and the retention RAM, the timekeeper and TIME_VALID are lost. -/
  | alwaysOnStoreExhausted (heldMs : Nat)
  /-- LAMP_TEST_END (R56): 0.5 s after power-on reset release the lamp test ends, and the indicators show their conditions. -/
  | lampTestEnd
  /-- CORE_PLL_LOCK_RETURN (R190): A core PLL or the reference oscillator regains lock, and its CLK.PLL_STATUS bit returns to 1. -/
  | corePllLockReturn (pll : Nat)
  /-- REGISTER_READ (R169): A register read clears the RC bits it returns, latches the _HI shadow of a pair, or is recorded in GLB.ACC_ERR when it reaches an unmapped or gated address. -/
  | registerRead (acc : Nat) (addr : Nat)
  /-- UNDEFINED_OPCODE (R424): An instruction with an undefined code point issues and takes fault ILLEGAL subcode 0. -/
  | undefinedOpcode (who : Who)
  /-- TEST_LOGIC_RESET (R861): The JTAG test access port enters Test-Logic-Reset, through TRST_N or TMS, returning the RETREAD offset to 0. -/
  | testLogicReset
  /-- PRBS_CHECKER_LOCK (R868): A lane's PRBS checker gains or loses lock on the received pattern, setting its LOCK bit and starting PRBS_ERR counting. -/
  | prbsCheckerLock (group : Nat) (lane : Nat) (lock : Bool) (errors : Nat)
  deriving DecidableEq, Repr, Inhabited

end Sys2Proof
end

