-- ==== Sys2Proof/Config.lean ====
section
/-! DEFINITION. What an implementation fixes and the values the spec leaves open. A free value is an opaque constant:
nothing in Lean can evaluate it, and a statement about it holds whatever it is. -/
namespace Sys2Proof.Config

/-- The free values drawn one after another: the pseudo-random choices and the values the spec does not give. -/
opaque freeValue : Nat → Nat

/-- The fan demand in percent that an inlet temperature sets, in 0.1 °C (R91): the spec gives no curve. -/
opaque inletDemand : Int → Nat

/-- The fan demand in percent that the hottest junction sensor sets, in 0.1 °C (R91): the spec gives no curve. -/
opaque junctionDemand : Int → Nat

/-- The factory input delay of 1PPS IN in 2^-16 ns (R673): measured at manufacture, and given nowhere in the spec. -/
opaque ppsInDelay : Nat

end Sys2Proof.Config
end

