-- ==== Sys2Proof/Machine/Bits.lean ====
section
/-! DEFINITION. Bit fields, byte order, sign extension and checksums: plain functions on numbers and words that the
spec's rules are written with. -/
namespace Sys2Proof.Machine

/-- Bits [hi:lo] of a number (R13). -/
def bitsOf (n hi lo : Nat) : Nat := (n / 2 ^ lo) % 2 ^ (hi + 1 - lo)

/-- Bit `i` of a number. -/
def bitAt (n i : Nat) : Bool := n / 2 ^ i % 2 == 1

/-- A truth value as a bit. -/
def b2n (b : Bool) : Nat := if b then 1 else 0

/-- `n` with bits [hi:lo] replaced by the low bits of `v`. -/
def putBits (n hi lo v : Nat) : Nat :=
  n - bitsOf n hi lo * 2 ^ lo + (v % 2 ^ (hi + 1 - lo)) * 2 ^ lo

/-- Bits [hi:lo] of a register word. -/
def Wbits (w : Word) (hi lo : Nat) : Nat := bitsOf w.toNat hi lo

/-- A register word with bits [hi:lo] replaced. -/
def Wput (w : Word) (hi lo v : Nat) : Word := BitVec.ofNat 32 (putBits w.toNat hi lo v)

/-- The number of set bits among the low `k` bits. -/
def popCount (n : Nat) : Nat → Nat
  | 0 => 0
  | k + 1 => n % 2 + popCount (n / 2) k

/-- The set bits of `n` below `k`, in rising order. -/
def setBits (n k : Nat) : List Nat := (List.range k).filter fun i => bitAt n i

/-- A two's-complement number of `k` bits as an integer. -/
def signed (n k : Nat) : Int := if n % 2 ^ k < 2 ^ (k - 1) then (n % 2 ^ k : Nat) else (n % 2 ^ k : Nat) - (2 ^ k : Nat)

/-- An integer as a two's-complement number of `k` bits. -/
def unsigned (i : Int) (k : Nat) : Nat := (i % (2 ^ k : Nat)).toNat

/-- `i` limited to the range from `lo` to `hi`. -/
def clampInt (i lo hi : Int) : Int := if i < lo then lo else if hi < i then hi else i

/-- `n` limited to at most `m`: the saturating counters and fields. -/
def satNat (n m : Nat) : Nat := if n ≤ m then n else m

/-- Sequence numbers and deadlines compared modulo 2^n (R17). -/
def isBefore (a b n : Nat) : Bool :=
  let d := (b + 2 ^ n - a % 2 ^ n) % 2 ^ n
  0 < d && d < 2 ^ (n - 1)

/-- The little-endian bytes of a number, `k` of them (R14). -/
def leBytes (n : Nat) : Nat → List Byte
  | 0 => []
  | k + 1 => BitVec.ofNat 8 n :: leBytes (n / 256) k

/-- The number that little-endian bytes spell. -/
def leNat : List Byte → Nat
  | [] => 0
  | b :: r => b.toNat + 256 * leNat r

/-- The big-endian bytes of a number, `k` of them (network byte order, R14). -/
def beBytes (n k : Nat) : List Byte := (leBytes n k).reverse

/-- The number that big-endian bytes spell. -/
def beNat (bs : List Byte) : Nat := leNat bs.reverse

/-- Byte `i` of a list, zero where it has none. -/
def byteAt (bs : List Byte) (i : Nat) : Byte := bs.getD i 0

/-- Bytes `i` to `i + n - 1` of a list, zero where it has none. -/
def slice (bs : List Byte) (i n : Nat) : List Byte := (List.range n).map fun j => byteAt bs (i + j)

/-- One CRC32C bit step, reflected, polynomial `poly`. -/
def crcReflBits (poly : Nat) : Nat → Nat → Nat
  | 0, c => c
  | k + 1, c => crcReflBits poly k (if c % 2 = 1 then Nat.xor (c / 2) poly else c / 2)

/-- One byte step of a reflected 32-bit CRC, least significant bit first, no inversion (R432). -/
def crcReflStep (poly c : Nat) (b : Byte) : Nat := crcReflBits poly 8 (Nat.xor (c % 2 ^ 32) b.toNat)

/-- CRC32C over bytes, starting from `seed` (R432, R464). -/
def crc32cBytes (seed : Nat) (bs : List Byte) : Nat := bs.foldl (crcReflStep 0x82F63B78) seed

/-- CRC32 of IEEE 802.3, reflected, without inversion (R464). -/
def crc32Bytes (seed : Nat) (bs : List Byte) : Nat := bs.foldl (crcReflStep 0xEDB88320) seed

/-- The standard CRC32C: register started at 0xFFFF_FFFF and inverted at the end (R432). -/
def crc32cStd (bs : List Byte) : Nat := Nat.xor (crc32cBytes 0xFFFFFFFF bs) 0xFFFFFFFF

/-- One CRC16 bit step, not reflected. -/
def crc16Bits : Nat → Nat → Nat
  | 0, c => c
  | k + 1, c => crc16Bits k (if c / 0x8000 % 2 = 1 then Nat.xor (2 * c) 0x1021 % 65536 else 2 * c % 65536)

/-- One byte step of CRC16, polynomial 0x1021, most significant bit first (R433). -/
def crc16Step (c : Nat) (b : Byte) : Nat := crc16Bits 8 (Nat.xor (c % 65536) (b.toNat * 256) % 65536)

/-- CRC16 over bytes (R464). -/
def crc16Bytes (init : Nat) (bs : List Byte) : Nat := bs.foldl crc16Step (init % 65536)

/-- The finaliser of the hash helpers (R464). -/
def hashFin (x : Nat) : Nat :=
  let x := Nat.xor x (x / 2 ^ 16)
  let x := x * 0x85EBCA6B % 2 ^ 32
  let x := Nat.xor x (x / 2 ^ 13)
  let x := x * 0xC2B2AE35 % 2 ^ 32
  Nat.xor x (x / 2 ^ 16)

/-- Whether one byte string compares below another, first byte first (R465). -/
def bytesLt : List Byte → List Byte → Bool
  | [], [] => false
  | [], _ :: _ => true
  | _ :: _, [] => false
  | a :: r, b :: t => if a = b then bytesLt r t else a.toNat < b.toNat

/-- A sum folded to 16 bits in ones'-complement arithmetic (R466). -/
def onesFold (n : Nat) : Nat :=
  let a := n % 65536 + n / 65536
  let b := a % 65536 + a / 65536
  let c := b % 65536 + b / 65536
  c % 65536

/-- The sum of big-endian 16-bit words, an odd last byte being a high byte (R466). -/
def sumWords : List Byte → Nat
  | [] => 0
  | [a] => a.toNat * 256
  | a :: b :: r => a.toNat * 256 + b.toNat + sumWords r

/-- The first element satisfying `p`, with its position. -/
def firstIdx {α : Type} (l : List α) (p : α → Bool) : Option Nat := l.findIdx? p

/-- `l` with element `i` replaced. -/
def setNth {α : Type} (l : List α) (i : Nat) (a : α) : List α := l.set i a

/-- Insert into a list ordered by a key, after equals. -/
def insertBy {α : Type} (key : α → Nat) (a : α) : List α → List α
  | [] => [a]
  | b :: r => if key a < key b then a :: b :: r else b :: insertBy key a r

/-- A list of numbers sorted in rising order without repeats. -/
def sortNats (l : List Nat) : List Nat :=
  l.foldl (fun acc n => if acc.contains n then acc else insertBy id n acc) []

/-- The element of least key, the earlier one on a tie. -/
def minBy {α : Type} (key : α → Nat) : List α → Option α
  | [] => none
  | a :: r => match minBy key r with
    | none => some a
    | some b => if key b < key a then some b else some a

/-- Zero bytes up to 60 B (R477). -/
def pad60 (f : List Byte) : List Byte := f ++ List.replicate (60 - f.length) 0

/-- A frame with its FCS: the standard CRC32, least significant byte first. -/
def withFcs (f : List Byte) : List Byte := f ++ leBytes (Nat.xor (crc32Bytes 0xFFFFFFFF f) 0xFFFFFFFF) 4

/-- The wire of a stomped frame: what had been sent, padded to 60 B, with an inverted FCS (R218, R219). How much had
been sent the spec leaves to the moment of the stomp. -/
def stompWire (frame : List Byte) (sent : Nat) : List Byte :=
  let f := pad60 (frame.take sent)
  f ++ leBytes (crc32Bytes 0xFFFFFFFF f) 4

end Sys2Proof.Machine
end

