-- ==== Sys2Proof/Machine/RegMap.lean ====
section
/-! DEFINITION. The register space as the owning chapters' tables give it: one row per register (or array of
registers), with its address, the bits a write stores, the bits a read clears and the value after reset. -/
namespace Sys2Proof.Machine

/-- How a register is held. -/
inductive RegKind where
  /-- one 32-bit register -/
  | plain
  /-- the _LO of a pair whose _HI is the next word (R180) -/
  | pairLo
  /-- the _HI of a pair -/
  | pairHi
  /-- a read-only 64-bit counter, _LO then _HI -/
  | counter
  /-- a 48-bit counter that software may write, _LO then _HI -/
  | counterRW
  deriving DecidableEq, Repr, Inhabited

/-- One row of a register table: base address, up to three (stride, count) dimensions, the mask of RW bits, the
mask of RC bits and the value the Reset column gives. -/
structure RegRow where
  name : String
  base : Nat
  d1 : Nat × Nat
  d2 : Nat × Nat
  d3 : Nat × Nat
  rw : Nat
  rc : Nat
  reset : Nat
  kind : RegKind
  /-- 0; or which values differ along the array: 1 FEAT, 2 CL_OWNER, 3 DMC.PORT_CFG, 4 PG.CTRL, 5 PFC_CFG, 6 POOL, 7 EMT.KEY, 8 MC_DATA -/
  special : Nat := 0
  deriving DecidableEq, Repr, Inhabited

/-- Registers of the GLB window. -/
def rowsGlb : List RegRow := [
  ⟨"GLB.IDENT", 0x0, (0x0, 1), (0x0, 1), (0x0, 1), 0x0, 0x0, 0xb1e1280, .plain, 0⟩,
  ⟨"GLB.REVISION", 0x4, (0x0, 1), (0x0, 1), (0x0, 1), 0x0, 0x0, 0x1020300, .plain, 0⟩,
  ⟨"GLB.ACC_ERR", 0x8, (0x0, 1), (0x0, 1), (0x0, 1), 0x0, 0xc0000000, 0x0, .plain, 0⟩,
  ⟨"GLB.ACC_ADDR", 0xc, (0x0, 1), (0x0, 1), (0x0, 1), 0x0, 0x0, 0x0, .plain, 0⟩,
  ⟨"GLB.SCRATCH", 0x10, (0x0, 1), (0x0, 1), (0x0, 1), 0xffffffff, 0x0, 0x0, .plain, 0⟩,
  ⟨"GLB.SERIAL_LO", 0x14, (0x0, 1), (0x0, 1), (0x0, 1), 0x0, 0x0, 0x0, .pairLo, 0⟩,
  ⟨"GLB.SERIAL_HI", 0x18, (0x0, 1), (0x0, 1), (0x0, 1), 0x0, 0x0, 0x0, .pairHi, 0⟩,
  ⟨"GLB.SELFTEST_CMD", 0x100, (0x0, 1), (0x0, 1), (0x0, 1), 0x0, 0x0, 0x0, .plain, 0⟩,
  ⟨"GLB.SELFTEST_RESULT", 0x104, (0x0, 1), (0x0, 1), (0x0, 1), 0x0, 0x0, 0x0, .plain, 0⟩,
  ⟨"GLB.SELFTEST_ADDR_LO", 0x108, (0x0, 1), (0x0, 1), (0x0, 1), 0x0, 0x0, 0x0, .pairLo, 0⟩,
  ⟨"GLB.SELFTEST_ADDR_HI", 0x10c, (0x0, 1), (0x0, 1), (0x0, 1), 0x0, 0x0, 0x0, .pairHi, 0⟩,
  ⟨"GLB.TEST_STATUS", 0x110, (0x0, 1), (0x0, 1), (0x0, 1), 0x0, 0x0, 0x0, .plain, 0⟩,
  ⟨"GLB.TEST_LOCK", 0x114, (0x0, 1), (0x0, 1), (0x0, 1), 0x0, 0x0, 0x0, .plain, 0⟩]

/-- Registers of the SSV window. -/
def rowsSsv : List RegRow := [
  ⟨"SSV.MAINS_STATUS", 0x10000, (0x0, 1), (0x0, 1), (0x0, 1), 0x0, 0x0, 0x0, .plain, 0⟩,
  ⟨"SSV.MAINS_EVENTS", 0x10004, (0x0, 1), (0x0, 1), (0x0, 1), 0x0, 0x3f, 0x0, .plain, 0⟩,
  ⟨"SSV.POWER", 0x10008, (0x0, 1), (0x0, 1), (0x0, 1), 0x0, 0x0, 0x0, .plain, 0⟩,
  ⟨"SSV.SHED", 0x1000c, (0x0, 1), (0x0, 1), (0x0, 1), 0x0, 0x0, 0x0, .plain, 0⟩,
  ⟨"SSV.SHED_CLR", 0x10010, (0x0, 1), (0x0, 1), (0x0, 1), 0x0, 0x0, 0x0, .plain, 0⟩,
  ⟨"SSV.FUSE_STATE_LO", 0x10014, (0x0, 1), (0x0, 1), (0x0, 1), 0x0, 0x0, 0x0, .pairLo, 0⟩,
  ⟨"SSV.FUSE_STATE_HI", 0x10018, (0x0, 1), (0x0, 1), (0x0, 1), 0x0, 0x0, 0x0, .pairHi, 0⟩,
  ⟨"SSV.FUSE_REARM", 0x1001c, (0x0, 1), (0x0, 1), (0x0, 1), 0x0, 0x0, 0x0, .plain, 0⟩,
  ⟨"SSV.CAGE_I(n)", 0x10040, (0x4, 20), (0x0, 1), (0x0, 1), 0x0, 0x0, 0x0, .plain, 0⟩,
  ⟨"SSV.FAN(n)", 0x100a0, (0x4, 6), (0x0, 1), (0x0, 1), 0x0, 0x0, 0x0, .plain, 0⟩,
  ⟨"SSV.FAN_CTRL", 0x100c0, (0x0, 1), (0x0, 1), (0x0, 1), 0x8000007f, 0x0, 0x0, .plain, 0⟩,
  ⟨"SSV.TEMP", 0x100c4, (0x0, 1), (0x0, 1), (0x0, 1), 0x0, 0x0, 0x0, .plain, 0⟩,
  ⟨"SSV.THROTTLE", 0x100c8, (0x0, 1), (0x0, 1), (0x0, 1), 0x3000000, 0x0, 0x0, .plain, 0⟩,
  ⟨"SSV.EXCURSION", 0x100cc, (0x0, 1), (0x0, 1), (0x0, 1), 0x0, 0x0, 0x0, .plain, 0⟩,
  ⟨"SSV.FLASH_WEAR_A", 0x100d0, (0x0, 1), (0x0, 1), (0x0, 1), 0x0, 0x0, 0x0, .plain, 0⟩,
  ⟨"SSV.FLASH_WEAR_B", 0x100d4, (0x0, 1), (0x0, 1), (0x0, 1), 0x0, 0x0, 0x0, .plain, 0⟩,
  ⟨"SSV.FAULT_RING", 0x100d8, (0x0, 1), (0x0, 1), (0x0, 1), 0x0, 0x0, 0x0, .plain, 0⟩,
  ⟨"SSV.ATB_SEL(b)", 0x10100, (0x4, 2), (0x0, 1), (0x0, 1), 0x7ff, 0x0, 0x0, .plain, 0⟩,
  ⟨"SSV.ATB_ADC(b)", 0x10108, (0x4, 2), (0x0, 1), (0x0, 1), 0x0, 0x0, 0x0, .plain, 0⟩]

/-- Registers of the BOOT window. -/
def rowsBoot : List RegRow := [
  ⟨"BOOT.STATUS", 0x20000, (0x0, 1), (0x0, 1), (0x0, 1), 0x0, 0x0, 0x0, .plain, 0⟩,
  ⟨"BOOT.CAUSE", 0x20004, (0x0, 1), (0x0, 1), (0x0, 1), 0x0, 0x0, 0x0, .plain, 0⟩,
  ⟨"BOOT.IMG_STAT", 0x20008, (0x0, 1), (0x0, 1), (0x0, 1), 0x0, 0x0, 0xffff00, .plain, 0⟩,
  ⟨"BOOT.SEQ_A", 0x2000c, (0x0, 1), (0x0, 1), (0x0, 1), 0x0, 0x0, 0x0, .plain, 0⟩,
  ⟨"BOOT.SEQ_B", 0x20010, (0x0, 1), (0x0, 1), (0x0, 1), 0x0, 0x0, 0x0, .plain, 0⟩,
  ⟨"BOOT.SVN", 0x20014, (0x0, 1), (0x0, 1), (0x0, 1), 0x0, 0x0, 0x0, .plain, 0⟩,
  ⟨"BOOT.SVN_RAISE", 0x20018, (0x0, 1), (0x0, 1), (0x0, 1), 0x0, 0x0, 0x0, .plain, 0⟩,
  ⟨"BOOT.KEYS", 0x2001c, (0x0, 1), (0x0, 1), (0x0, 1), 0x0, 0x0, 0x0, .plain, 0⟩,
  ⟨"BOOT.KEY_REVOKE", 0x20020, (0x0, 1), (0x0, 1), (0x0, 1), 0x0, 0x0, 0x0, .plain, 0⟩,
  ⟨"BOOT.CONFIRM", 0x20024, (0x0, 1), (0x0, 1), (0x0, 1), 0x0, 0x0, 0x0, .plain, 0⟩,
  ⟨"BOOT.NEXT", 0x20028, (0x0, 1), (0x0, 1), (0x0, 1), 0x3, 0x0, 0x0, .plain, 0⟩,
  ⟨"BOOT.RESTART", 0x2002c, (0x0, 1), (0x0, 1), (0x0, 1), 0x0, 0x0, 0x0, .plain, 0⟩,
  ⟨"BOOT.SYSWD", 0x20030, (0x0, 1), (0x0, 1), (0x0, 1), 0x8000ffff, 0x0, 0x0, .plain, 0⟩,
  ⟨"BOOT.SYSWD_KICK", 0x20034, (0x0, 1), (0x0, 1), (0x0, 1), 0x0, 0x0, 0x0, .plain, 0⟩,
  ⟨"BOOT.REVAL", 0x20040, (0x0, 1), (0x0, 1), (0x0, 1), 0x0, 0x0, 0x0, .plain, 0⟩,
  ⟨"BOOT.REVAL_CORR", 0x20044, (0x0, 1), (0x0, 1), (0x0, 1), 0x0, 0x0, 0x0, .plain, 0⟩,
  ⟨"BOOT.REVAL_INVAL", 0x20048, (0x0, 1), (0x0, 1), (0x0, 1), 0x0, 0x0, 0x0, .plain, 0⟩,
  ⟨"BOOT.REVAL_INCONS", 0x2004c, (0x0, 1), (0x0, 1), (0x0, 1), 0x0, 0x0, 0x0, .plain, 0⟩,
  ⟨"BOOT.RSV_BAD", 0x20050, (0x0, 1), (0x0, 1), (0x0, 1), 0x0, 0x0, 0x0, .plain, 0⟩,
  ⟨"BOOT.RETAIN", 0x20054, (0x0, 1), (0x0, 1), (0x0, 1), 0x0, 0x0, 0x0, .plain, 0⟩]

/-- Registers of the CLK window. -/
def rowsClk : List RegRow := [
  ⟨"CLK.PLL_STATUS", 0x40000, (0x0, 1), (0x0, 1), (0x0, 1), 0x0, 0x0, 0x0, .plain, 0⟩,
  ⟨"CLK.PLL_EVENTS", 0x40004, (0x0, 1), (0x0, 1), (0x0, 1), 0x0, 0x7f, 0x0, .plain, 0⟩,
  ⟨"CLK.PG_GATE", 0x40008, (0x0, 1), (0x0, 1), (0x0, 1), 0xfffff, 0x0, 0x0, .plain, 0⟩,
  ⟨"CLK.MEAS_CMD", 0x40010, (0x0, 1), (0x0, 1), (0x0, 1), 0x0, 0x0, 0x0, .plain, 0⟩,
  ⟨"CLK.MEAS_RESULT", 0x40014, (0x0, 1), (0x0, 1), (0x0, 1), 0x0, 0x0, 0x0, .plain, 0⟩]

/-- Registers of the PG window. -/
def rowsPg : List RegRow := [
  ⟨"PG.CTRL", 0x100000, (0x4000, 20), (0x0, 1), (0x0, 1), 0x3ff03, 0x0, 0x0, .plain, 4⟩,
  ⟨"PG.STATUS", 0x100004, (0x4000, 20), (0x0, 1), (0x0, 1), 0x0, 0x0, 0x0, .plain, 0⟩,
  ⟨"PG.EVENTS", 0x100008, (0x4000, 20), (0x0, 1), (0x0, 1), 0x0, 0x3ffffff, 0x0, .plain, 0⟩,
  ⟨"PG.ALARM_THRESH", 0x10000c, (0x4000, 20), (0x0, 1), (0x0, 1), 0xffffffff, 0x0, 0x0, .plain, 0⟩,
  ⟨"PG.LANE_MAP", 0x100010, (0x4000, 20), (0x0, 1), (0x0, 1), 0x0, 0x0, 0xfac688, .plain, 0⟩,
  ⟨"PG.LOOPBACK", 0x100020, (0x4000, 20), (0x0, 1), (0x0, 1), 0x7, 0x0, 0x0, .plain, 0⟩,
  ⟨"PG.PRBS_CTRL", 0x100024, (0x4000, 20), (0x0, 1), (0x0, 1), 0x8000ff03, 0x0, 0x0, .plain, 0⟩,
  ⟨"PG.PRBS_ERR(n)", 0x100040, (0x4000, 20), (0x4, 8), (0x0, 1), 0x0, 0xffffffff, 0x0, .plain, 0⟩,
  ⟨"PORT_CTRL(s)", 0x101000, (0x4000, 20), (0x200, 8), (0x0, 1), 0xe0ff3fff, 0x0, 0xa05f2, .plain, 0⟩,
  ⟨"PORT_STAT(s)", 0x101004, (0x4000, 20), (0x200, 8), (0x0, 1), 0x0, 0x0, 0x0, .plain, 0⟩,
  ⟨"RX_DELAY(s)", 0x101008, (0x4000, 20), (0x200, 8), (0x0, 1), 0x0, 0x0, 0x0, .plain, 0⟩,
  ⟨"SKEW_MAX(s)", 0x10100c, (0x4000, 20), (0x200, 8), (0x0, 1), 0x0, 0x0, 0x0, .plain, 0⟩,
  ⟨"TX_DELAY(s)", 0x101010, (0x4000, 20), (0x200, 8), (0x0, 1), 0x0, 0x0, 0x0, .plain, 0⟩,
  ⟨"RX_TRIM(s)", 0x101014, (0x4000, 20), (0x200, 8), (0x0, 1), 0xffffffff, 0x0, 0x0, .plain, 0⟩,
  ⟨"TX_TRIM(s)", 0x101018, (0x4000, 20), (0x200, 8), (0x0, 1), 0xffffffff, 0x0, 0x0, .plain, 0⟩,
  ⟨"PFC_STAT(s)", 0x10101c, (0x4000, 20), (0x200, 8), (0x0, 1), 0x0, 0x0, 0x0, .plain, 0⟩,
  ⟨"PORT counter i", 0x101100, (0x4000, 20), (0x200, 8), (0x8, 16), 0x0, 0x0, 0x0, .counter, 0⟩]

/-- Registers of the HDG window. -/
def rowsHdg : List RegRow := [
  ⟨"HDG.CTRL", 0x180000, (0x0, 1), (0x0, 1), (0x0, 1), 0xff01, 0x0, 0x4000, .plain, 0⟩,
  ⟨"HDG.STATUS", 0x180004, (0x0, 1), (0x0, 1), (0x0, 1), 0x0, 0x0, 0x0, .plain, 0⟩,
  ⟨"HDG.FAULT_INFO", 0x180008, (0x0, 1), (0x0, 1), (0x0, 1), 0x0, 0xc0000000, 0x0, .plain, 0⟩,
  ⟨"HDG.TAG_LIMIT", 0x18000c, (0x0, 1), (0x0, 1), (0x0, 1), 0xf07, 0x0, 0x802, .plain, 0⟩,
  ⟨"HDG.UC_ADDR", 0x180010, (0x0, 1), (0x0, 1), (0x0, 1), 0x1f0fff, 0x0, 0x0, .plain, 0⟩,
  ⟨"HDG.UC_DATA(i)", 0x180014, (0x4, 6), (0x0, 1), (0x0, 1), 0xffffffff, 0x0, 0x0, .plain, 0⟩,
  ⟨"HDG.UC_CMD", 0x18002c, (0x0, 1), (0x0, 1), (0x0, 1), 0x0, 0x0, 0x0, .plain, 0⟩,
  ⟨"HDG.DIAG_SEL", 0x180040, (0x0, 1), (0x0, 1), (0x0, 1), 0xfff, 0x0, 0x0, .plain, 0⟩,
  ⟨"HDG.DIAG_DATA", 0x180044, (0x0, 1), (0x0, 1), (0x0, 1), 0x0, 0x0, 0x0, .plain, 0⟩,
  ⟨"HDG.ENTRY(p)", 0x180400, (0x4, 134), (0x0, 1), (0x0, 1), 0xfff, 0x0, 0x0, .plain, 0⟩,
  ⟨"HDG.MAL_CTRL(g)", 0x190000, (0x1000, 21), (0x0, 1), (0x0, 1), 0xffff0003, 0x0, 0x0, .plain, 0⟩,
  ⟨"HDG.EVENTS(g)", 0x190004, (0x1000, 21), (0x0, 1), (0x0, 1), 0x0, 0x3, 0x0, .plain, 0⟩,
  ⟨"HDG.QSTAT(g)", 0x190008, (0x1000, 21), (0x0, 1), (0x0, 1), 0x0, 0x0, 0x0, .plain, 0⟩,
  ⟨"HDG.PORT_LIMIT(g)", 0x19000c, (0x1000, 21), (0x0, 1), (0x0, 1), 0xff, 0x0, 0x20, .plain, 0⟩,
  ⟨"HDG.MAL_CNT(g, r)", 0x190100, (0x1000, 21), (0x8, 32), (0x0, 1), 0x0, 0x0, 0x0, .counter, 0⟩,
  ⟨"HDG.ADMIT_DROP(g, s)", 0x190200, (0x1000, 21), (0x8, 8), (0x0, 1), 0x0, 0x0, 0x0, .counter, 0⟩,
  ⟨"HDG.PARSED(g)", 0x190300, (0x1000, 21), (0x0, 1), (0x0, 1), 0x0, 0x0, 0x0, .counter, 0⟩,
  ⟨"HDG.WORDS(g)", 0x190308, (0x1000, 21), (0x0, 1), (0x0, 1), 0x0, 0x0, 0x0, .counter, 0⟩,
  ⟨"HDG.BORROWED(g)", 0x190310, (0x1000, 21), (0x0, 1), (0x0, 1), 0x0, 0x0, 0x0, .counter, 0⟩]

/-- Registers of the WEIR window. -/
def rowsWeir : List RegRow := [
  ⟨"WEIR.CTRL", 0x200000, (0x0, 1), (0x0, 1), (0x0, 1), 0x1, 0x0, 0x0, .plain, 0⟩,
  ⟨"WEIR.STATUS", 0x200004, (0x0, 1), (0x0, 1), (0x0, 1), 0x0, 0x0, 0x0, .plain, 0⟩,
  ⟨"WEIR.FH_INFO", 0x200008, (0x0, 1), (0x0, 1), (0x0, 1), 0x0, 0xc0000000, 0x0, .plain, 0⟩,
  ⟨"WEIR.CMD", 0x200010, (0x0, 1), (0x0, 1), (0x0, 1), 0x0, 0x0, 0x0, .plain, 0⟩,
  ⟨"WEIR.RESULT", 0x200014, (0x0, 1), (0x0, 1), (0x0, 1), 0x0, 0x0, 0x0, .plain, 0⟩,
  ⟨"WEIR.WR_VAL(i)", 0x200100, (0x4, 20), (0x0, 1), (0x0, 1), 0xffffffff, 0x0, 0x0, .plain, 0⟩,
  ⟨"WEIR.WR_MASK(i)", 0x200180, (0x4, 20), (0x0, 1), (0x0, 1), 0xffffffff, 0x0, 0x0, .plain, 0⟩,
  ⟨"WEIR.WR_AD(i)", 0x200200, (0x4, 4), (0x0, 1), (0x0, 1), 0xffffffff, 0x0, 0x0, .plain, 0⟩,
  ⟨"WEIR.WR_FLAGS", 0x200210, (0x0, 1), (0x0, 1), (0x0, 1), 0x1, 0x0, 0x0, .plain, 0⟩,
  ⟨"WEIR.RD_VAL(i)", 0x200300, (0x4, 20), (0x0, 1), (0x0, 1), 0x0, 0x0, 0x0, .plain, 0⟩,
  ⟨"WEIR.RD_MASK(i)", 0x200380, (0x4, 20), (0x0, 1), (0x0, 1), 0x0, 0x0, 0x0, .plain, 0⟩,
  ⟨"WEIR.RD_AD(i)", 0x200400, (0x4, 4), (0x0, 1), (0x0, 1), 0x0, 0x0, 0x0, .plain, 0⟩,
  ⟨"WEIR.RD_FLAGS", 0x200410, (0x0, 1), (0x0, 1), (0x0, 1), 0x0, 0x0, 0x0, .plain, 0⟩,
  ⟨"WEIR.MISS_AD(i)", 0x200420, (0x4, 4), (0x0, 1), (0x0, 1), 0xffffffff, 0x0, 0x0, .plain, 0⟩,
  ⟨"WEIR.PROF_A(p)", 0x201000, (0x10, 256), (0x0, 1), (0x0, 1), 0xffff8000, 0x0, 0x0, .plain, 0⟩,
  ⟨"WEIR.PROF_SEG01(p)", 0x201004, (0x10, 256), (0x0, 1), (0x0, 1), 0x7f7f7f7f, 0x0, 0x0, .plain, 0⟩,
  ⟨"WEIR.PROF_SEG23(p)", 0x201008, (0x10, 256), (0x0, 1), (0x0, 1), 0x7f7f7f7f, 0x0, 0x0, .plain, 0⟩,
  ⟨"WEIR counter k of replica r", 0x202000, (0x100, 5), (0x8, 10), (0x0, 1), 0x0, 0x0, 0x0, .counter, 0⟩]

/-- Registers of the EMT window. -/
def rowsEmt : List RegRow := [
  ⟨"EMT.CTRL", 0x240000, (0x0, 1), (0x0, 1), (0x0, 1), 0x8000ffff, 0x0, 0x3e8, .plain, 0⟩,
  ⟨"EMT.STATUS", 0x240004, (0x0, 1), (0x0, 1), (0x0, 1), 0x0, 0x0, 0x0, .plain, 0⟩,
  ⟨"EMT.FH_INFO", 0x240008, (0x0, 1), (0x0, 1), (0x0, 1), 0x0, 0xc0000000, 0x0, .plain, 0⟩,
  ⟨"EMT.KEY(i)", 0x240010, (0x4, 4), (0x0, 1), (0x0, 1), 0xffffffff, 0x0, 0x0, .plain, 7⟩,
  ⟨"EMT.DATA", 0x240020, (0x0, 1), (0x0, 1), (0x0, 1), 0xffffffff, 0x0, 0x0, .plain, 0⟩,
  ⟨"EMT.FLAGS", 0x240024, (0x0, 1), (0x0, 1), (0x0, 1), 0x1, 0x0, 0x0, .plain, 0⟩,
  ⟨"EMT.CMD", 0x24002c, (0x0, 1), (0x0, 1), (0x0, 1), 0x0, 0x0, 0x0, .plain, 0⟩,
  ⟨"EMT.RESULT", 0x240030, (0x0, 1), (0x0, 1), (0x0, 1), 0x0, 0x0, 0x0, .plain, 0⟩,
  ⟨"EMT.RD_DATA", 0x240034, (0x0, 1), (0x0, 1), (0x0, 1), 0x0, 0x0, 0x0, .plain, 0⟩,
  ⟨"EMT.RD_LAST_HIT", 0x240038, (0x0, 1), (0x0, 1), (0x0, 1), 0x0, 0x0, 0x0, .plain, 0⟩,
  ⟨"EMT.RD_FLAGS", 0x24003c, (0x0, 1), (0x0, 1), (0x0, 1), 0x0, 0x0, 0x0, .plain, 0⟩,
  ⟨"EMT.RD_KEY(i)", 0x240040, (0x4, 4), (0x0, 1), (0x0, 1), 0x0, 0x0, 0x0, .plain, 0⟩,
  ⟨"EMT.LQ_STAT", 0x240080, (0x0, 1), (0x0, 1), (0x0, 1), 0x0, 0x0, 0x0, .plain, 0⟩,
  ⟨"EMT.LQ_EVENTS", 0x240084, (0x0, 1), (0x0, 1), (0x0, 1), 0x0, 0x7, 0x0, .plain, 0⟩,
  ⟨"EMT.LQ_POP", 0x240088, (0x0, 1), (0x0, 1), (0x0, 1), 0x0, 0x0, 0x0, .plain, 0⟩,
  ⟨"EMT EVICTIONS", 0x240090, (0x0, 1), (0x0, 1), (0x0, 1), 0x0, 0x0, 0x0, .counter, 0⟩,
  ⟨"EMT LQ_LOST", 0x240098, (0x0, 1), (0x0, 1), (0x0, 1), 0x0, 0x0, 0x0, .counter, 0⟩,
  ⟨"EMT.LQ_DATA(i)", 0x2400a0, (0x4, 8), (0x0, 1), (0x0, 1), 0x0, 0x0, 0x0, .plain, 0⟩,
  ⟨"EMT counter k of replica g", 0x241000, (0x40, 20), (0x8, 8), (0x0, 1), 0x0, 0x0, 0x0, .counter, 0⟩]

/-- Registers of the DSP window. -/
def rowsDsp : List RegRow := [
  ⟨"DSP.CTRL", 0x280000, (0x0, 1), (0x0, 1), (0x0, 1), 0xffffffff, 0x0, 0xffff00ff, .plain, 0⟩,
  ⟨"DSP.HASH_SEED", 0x280004, (0x0, 1), (0x0, 1), (0x0, 1), 0xffffffff, 0x0, 0x0, .plain, 0⟩,
  ⟨"DSP.WD", 0x280008, (0x0, 1), (0x0, 1), (0x0, 1), 0xfffff, 0x0, 0x186a0, .plain, 0⟩,
  ⟨"DSP.EXC_WD", 0x28000c, (0x0, 1), (0x0, 1), (0x0, 1), 0xfffff, 0x0, 0x2710, .plain, 0⟩,
  ⟨"DSP.LIMITS", 0x280010, (0x0, 1), (0x0, 1), (0x0, 1), 0x3fff1fff, 0x0, 0x2000180, .plain, 0⟩,
  ⟨"DSP.STATUS", 0x280014, (0x0, 1), (0x0, 1), (0x0, 1), 0x0, 0x0, 0x2000, .plain, 0⟩,
  ⟨"DSP.DOM_SEL", 0x280018, (0x0, 1), (0x0, 1), (0x0, 1), 0xffff, 0x0, 0x0, .plain, 0⟩,
  ⟨"DSP.DOM_DATA", 0x28001c, (0x0, 1), (0x0, 1), (0x0, 1), 0x0, 0x0, 0x0, .plain, 0⟩,
  ⟨"DSP.DIAG_SEL", 0x280030, (0x0, 1), (0x0, 1), (0x0, 1), 0xf1fff, 0x0, 0x0, .plain, 0⟩,
  ⟨"DSP.DIAG_DATA", 0x280034, (0x0, 1), (0x0, 1), (0x0, 1), 0x0, 0x0, 0x0, .plain, 0⟩,
  ⟨"DSP.BUDGET(t)", 0x280040, (0x4, 8), (0x0, 1), (0x0, 1), 0x3fffffff, 0x0, 0x4e20, .plain, 0⟩,
  ⟨"DSP RELEASED", 0x280080, (0x0, 1), (0x0, 1), (0x0, 1), 0x0, 0x0, 0x0, .counter, 0⟩,
  ⟨"DSP BP_CYCLES", 0x280088, (0x0, 1), (0x0, 1), (0x0, 1), 0x0, 0x0, 0x0, .counter, 0⟩,
  ⟨"DSP.CL_STAT(n)", 0x281000, (0x40, 16), (0x0, 1), (0x0, 1), 0x0, 0x0, 0x0, .plain, 0⟩,
  ⟨"DSP.CL_EVENTS(n)", 0x281004, (0x40, 16), (0x0, 1), (0x0, 1), 0x0, 0x7, 0x0, .plain, 0⟩,
  ⟨"DSP.CL_ALARM(n)", 0x281008, (0x40, 16), (0x0, 1), (0x0, 1), 0xffff, 0x0, 0x0, .plain, 0⟩,
  ⟨"DSP counter k of cluster n", 0x281010, (0x40, 16), (0x8, 5), (0x0, 1), 0x0, 0x0, 0x0, .counter, 0⟩]

/-- Registers of the FLM window. -/
def rowsFlm : List RegRow := [
  ⟨"FLM.FEAT(i)", 0x300000, (0x10000, 16), (0x4, 4), (0x0, 1), 0x0, 0x0, 0x0, .plain, 1⟩,
  ⟨"FLM.CE_CTRL(e)", 0x300040, (0x10000, 16), (0x8, 4), (0x0, 1), 0x80000000, 0x0, 0x0, .plain, 0⟩,
  ⟨"FLM.CE_STATUS(e)", 0x300044, (0x10000, 16), (0x8, 4), (0x0, 1), 0x0, 0x0, 0x0, .plain, 0⟩,
  ⟨"FLM.CL_CTRL", 0x300100, (0x10000, 16), (0x0, 1), (0x0, 1), 0xffff, 0x0, 0x0, .plain, 0⟩,
  ⟨"FLM.CL_STATUS", 0x300104, (0x10000, 16), (0x0, 1), (0x0, 1), 0x0, 0x0, 0x0, .plain, 0⟩,
  ⟨"FLM.CL_EVENTS", 0x300108, (0x10000, 16), (0x0, 1), (0x0, 1), 0x0, 0x3, 0x0, .plain, 0⟩,
  ⟨"FLM.CL_ALARM", 0x30010c, (0x10000, 16), (0x0, 1), (0x0, 1), 0xffff, 0x0, 0x0, .plain, 0⟩,
  ⟨"FLM.FAULT_INFO", 0x300110, (0x10000, 16), (0x0, 1), (0x0, 1), 0x0, 0xc0000000, 0x0, .plain, 0⟩,
  ⟨"FLM.FAULT_PC", 0x300114, (0x10000, 16), (0x0, 1), (0x0, 1), 0x0, 0x0, 0x0, .plain, 0⟩,
  ⟨"FLM.PS_ADDR", 0x300120, (0x10000, 16), (0x0, 1), (0x0, 1), 0x8000ffff, 0x0, 0x0, .plain, 0⟩,
  ⟨"FLM.PS_DATA", 0x300124, (0x10000, 16), (0x0, 1), (0x0, 1), 0xffff, 0x0, 0x0, .plain, 0⟩,
  ⟨"FLM.SHM_ADDR", 0x300128, (0x10000, 16), (0x0, 1), (0x0, 1), 0x8003fffc, 0x0, 0x0, .plain, 0⟩,
  ⟨"FLM.SHM_DATA", 0x30012c, (0x10000, 16), (0x0, 1), (0x0, 1), 0xffffffff, 0x0, 0x0, .plain, 0⟩,
  ⟨"FLM.DIAG_SEL", 0x300130, (0x10000, 16), (0x0, 1), (0x0, 1), 0xff7, 0x0, 0x0, .plain, 0⟩,
  ⟨"FLM.DIAG_DATA", 0x300134, (0x10000, 16), (0x0, 1), (0x0, 1), 0x0, 0x0, 0x0, .plain, 0⟩,
  ⟨"FLM counter k of the cluster", 0x300200, (0x10000, 16), (0x8, 9), (0x0, 1), 0x0, 0x0, 0x0, .counter, 0⟩]

/-- Registers of the FLE window. -/
def rowsFle0 : List RegRow := [
  ⟨"FLE.CTRL", 0x400000, (0x0, 1), (0x0, 1), (0x0, 1), 0x1ff, 0x0, 0x20, .plain, 0⟩,
  ⟨"FLE.STATUS", 0x400004, (0x0, 1), (0x0, 1), (0x0, 1), 0x0, 0x0, 0x0, .plain, 0⟩,
  ⟨"FLE.OP_ERR_INFO", 0x400008, (0x0, 1), (0x0, 1), (0x0, 1), 0x0, 0xc0000000, 0x0, .plain, 0⟩,
  ⟨"FLE.OP_ERR_POS", 0x40000c, (0x0, 1), (0x0, 1), (0x0, 1), 0x0, 0x0, 0x0, .plain, 0⟩,
  ⟨"FLE.DIAG_SEL", 0x400040, (0x0, 1), (0x0, 1), (0x0, 1), 0xf1fff, 0x0, 0x0, .plain, 0⟩,
  ⟨"FLE.DIAG_DATA", 0x400044, (0x0, 1), (0x0, 1), (0x0, 1), 0x0, 0x0, 0x0, .plain, 0⟩,
  ⟨"FLE.EXP_CTRL", 0x400100, (0x0, 1), (0x0, 1), (0x0, 1), 0xe0000000, 0x0, 0x0, .plain, 0⟩,
  ⟨"FLE.EXP_BASE_LO", 0x400104, (0x0, 1), (0x0, 1), (0x0, 1), 0xfffff000, 0x0, 0x0, .pairLo, 0⟩,
  ⟨"FLE.EXP_BASE_HI", 0x400108, (0x0, 1), (0x0, 1), (0x0, 1), 0xff, 0x0, 0x0, .pairHi, 0⟩,
  ⟨"FLE.EXP_SIZE", 0x40010c, (0x0, 1), (0x0, 1), (0x0, 1), 0xf, 0x0, 0x0, .plain, 0⟩,
  ⟨"FLE.EXP_PROD", 0x400110, (0x0, 1), (0x0, 1), (0x0, 1), 0x0, 0x0, 0x0, .plain, 0⟩,
  ⟨"FLE.EXP_CONS", 0x400114, (0x0, 1), (0x0, 1), (0x0, 1), 0x0, 0x0, 0x0, .plain, 0⟩,
  ⟨"FLE.EXP_EVENTS", 0x400118, (0x0, 1), (0x0, 1), (0x0, 1), 0x0, 0x1, 0x0, .plain, 0⟩,
  ⟨"FLE.EXP_DOMAIN", 0x40011c, (0x0, 1), (0x0, 1), (0x0, 1), 0xffffffff, 0x0, 0x0, .plain, 0⟩,
  ⟨"FLE.EXP_PFX_LO", 0x400120, (0x0, 1), (0x0, 1), (0x0, 1), 0xffffffc0, 0x0, 0x0, .pairLo, 0⟩,
  ⟨"FLE.EXP_PFX_HI", 0x400124, (0x0, 1), (0x0, 1), (0x0, 1), 0xffffffff, 0x0, 0xff00ff00, .pairHi, 0⟩,
  ⟨"FLE.EXP_FORMAT", 0x400128, (0x0, 1), (0x0, 1), (0x0, 1), 0xffff3fff, 0x0, 0x100000a, .plain, 0⟩,
  ⟨"FLE.EXP_OUT", 0x40012c, (0x0, 1), (0x0, 1), (0x0, 1), 0xfffcff07, 0x0, 0x15e08400, .plain, 0⟩,
  ⟨"FLE.EXP_UTC", 0x400130, (0x0, 1), (0x0, 1), (0x0, 1), 0xffffffff, 0x0, 0x0, .plain, 0⟩,
  ⟨"FLE.EXP_SEQ", 0x400134, (0x0, 1), (0x0, 1), (0x0, 1), 0x0, 0x0, 0x0, .plain, 0⟩]

/-- Registers of the FLE window. -/
def rowsFle1 : List RegRow := [
  ⟨"FLE counter k", 0x400200, (0x8, 10), (0x0, 1), (0x0, 1), 0x0, 0x0, 0x0, .counter, 0⟩,
  ⟨"FLE.GEOM", 0x401000, (0x0, 1), (0x0, 1), (0x0, 1), 0x0, 0x0, 0x0, .plain, 0⟩,
  ⟨"FLE.STORE_CTRL", 0x401004, (0x0, 1), (0x0, 1), (0x0, 1), 0x80000000, 0x0, 0x0, .plain, 0⟩,
  ⟨"FLE.SHARD", 0x401008, (0x0, 1), (0x0, 1), (0x0, 1), 0xc0000000, 0x0, 0x0, .plain, 0⟩,
  ⟨"FLE.EQ_BASE_LO", 0x401010, (0x20, 2), (0x0, 1), (0x0, 1), 0xfffff000, 0x0, 0x0, .pairLo, 0⟩,
  ⟨"FLE.EQ_BASE_HI", 0x401014, (0x20, 2), (0x0, 1), (0x0, 1), 0x800000ff, 0x0, 0x0, .pairHi, 0⟩,
  ⟨"FLE.EQ_SIZE", 0x401018, (0x20, 2), (0x0, 1), (0x0, 1), 0xf, 0x0, 0x0, .plain, 0⟩,
  ⟨"FLE.EQ_PROD", 0x40101c, (0x20, 2), (0x0, 1), (0x0, 1), 0x0, 0x0, 0x0, .plain, 0⟩,
  ⟨"FLE.EQ_CONS", 0x401020, (0x20, 2), (0x0, 1), (0x0, 1), 0xffffffff, 0x0, 0x0, .plain, 0⟩,
  ⟨"FLE.EQ_EVENTS", 0x401024, (0x20, 2), (0x0, 1), (0x0, 1), 0x0, 0x3, 0x0, .plain, 0⟩,
  ⟨"FLE.EQ_LOST", 0x401028, (0x20, 2), (0x0, 1), (0x0, 1), 0x0, 0x0, 0x0, .plain, 0⟩,
  ⟨"FLE.SWEEP_CMD", 0x401060, (0x0, 1), (0x0, 1), (0x0, 1), 0x0, 0x0, 0x0, .plain, 0⟩,
  ⟨"FLE.SWEEP_IDLE_LO", 0x401064, (0x0, 1), (0x0, 1), (0x0, 1), 0xffffffff, 0x0, 0xf8475800, .pairLo, 0⟩,
  ⟨"FLE.SWEEP_IDLE_HI", 0x401068, (0x0, 1), (0x0, 1), (0x0, 1), 0xffffffff, 0x0, 0xd, .pairHi, 0⟩,
  ⟨"FLE.SWEEP_TENANT", 0x40106c, (0x0, 1), (0x0, 1), (0x0, 1), 0x8000ffff, 0x0, 0x0, .plain, 0⟩,
  ⟨"FLE.SWEEP_RATE", 0x401070, (0x0, 1), (0x0, 1), (0x0, 1), 0xff, 0x0, 0x40, .plain, 0⟩,
  ⟨"FLE.SWEEP_ABORT", 0x401074, (0x0, 1), (0x0, 1), (0x0, 1), 0x0, 0x0, 0x0, .plain, 0⟩,
  ⟨"FLE.SWEEP_RESULT", 0x401078, (0x0, 1), (0x0, 1), (0x0, 1), 0x0, 0x0, 0x0, .plain, 0⟩,
  ⟨"FLE SWEEP SCANNED, MATCHED, EXPIRED, SKIPPED, ORPHANS, LOST", 0x40107c, (0x4, 6), (0x0, 1), (0x0, 1), 0x0, 0x0, 0x0, .plain, 0⟩,
  ⟨"FLE.SWEEP_PROGRESS", 0x401094, (0x0, 1), (0x0, 1), (0x0, 1), 0x0, 0x0, 0x0, .plain, 0⟩]

/-- Registers of the FLE window. -/
def rowsFle2 : List RegRow := [
  ⟨"FLE.FS_STAT(n)", 0x401400, (0x80, 16), (0x0, 1), (0x0, 1), 0x0, 0x0, 0x0, .plain, 0⟩,
  ⟨"FLE.FS_EVENTS(n)", 0x401404, (0x80, 16), (0x0, 1), (0x0, 1), 0x0, 0x7, 0x0, .plain, 0⟩,
  ⟨"FLE.FS_ALARM(n)", 0x401408, (0x80, 16), (0x0, 1), (0x0, 1), 0xffff, 0x0, 0x0, .plain, 0⟩,
  ⟨"FLE counter k of slice n", 0x401410, (0x80, 16), (0x8, 8), (0x0, 1), 0x0, 0x0, 0x0, .counter, 0⟩]

/-- Registers of the FLE window. -/
def rowsFle : List RegRow := rowsFle0 ++ rowsFle1 ++ rowsFle2

/-- Registers of the QM window. -/
def rowsQm : List RegRow := [
  ⟨"QM.STATUS", 0x480000, (0x0, 1), (0x0, 1), (0x0, 1), 0x0, 0x0, 0x0, .plain, 0⟩,
  ⟨"QM.EVENTS", 0x480004, (0x0, 1), (0x0, 1), (0x0, 1), 0x0, 0x7, 0x0, .plain, 0⟩,
  ⟨"QM.FLUSH_INFO", 0x480008, (0x0, 1), (0x0, 1), (0x0, 1), 0x0, 0xc0000000, 0x0, .plain, 0⟩,
  ⟨"QM.ALARM_INFO", 0x48000c, (0x0, 1), (0x0, 1), (0x0, 1), 0x0, 0xc0000000, 0x0, .plain, 0⟩,
  ⟨"QM.MC_SEL", 0x480010, (0x0, 1), (0x0, 1), (0x0, 1), 0xfff, 0x0, 0x0, .plain, 0⟩,
  ⟨"QM.MC_DATA(i)", 0x480014, (0x4, 5), (0x0, 1), (0x0, 1), 0xffffffff, 0x0, 0x0, .plain, 8⟩,
  ⟨"QM.MC_CMD", 0x480028, (0x0, 1), (0x0, 1), (0x0, 1), 0x0, 0x0, 0x0, .plain, 0⟩,
  ⟨"QM.SIPHON(s)", 0x480040, (0x4, 16), (0x0, 1), (0x0, 1), 0x87ff003f, 0x0, 0x0, .plain, 0⟩,
  ⟨"QM.PROF_A(k)", 0x480080, (0x8, 8), (0x0, 1), (0x0, 1), 0x7ffff, 0x0, 0x0, .plain, 0⟩,
  ⟨"QM.PROF_B(k)", 0x480084, (0x8, 8), (0x0, 1), (0x0, 1), 0xf007ffff, 0x0, 0x70000020, .plain, 0⟩,
  ⟨"QM.VOQ_STAT(g)", 0x4800c0, (0x4, 21), (0x0, 1), (0x0, 1), 0x0, 0x0, 0x0, .plain, 0⟩,
  ⟨"QM Spillway counter i", 0x480200, (0x8, 18), (0x0, 1), (0x0, 1), 0x0, 0x0, 0x0, .counter, 0⟩,
  ⟨"QM.QCFG(p, q)", 0x481000, (0x40, 134), (0x4, 12), (0x0, 1), 0xe007ffff, 0x0, 0x0, .plain, 0⟩,
  ⟨"QM.QDEPTH(p, q)", 0x484000, (0x40, 134), (0x4, 12), (0x0, 1), 0x0, 0x0, 0x0, .plain, 0⟩,
  ⟨"QM counter k of port p", 0x488000, (0x20, 134), (0x8, 4), (0x0, 1), 0x0, 0x0, 0x0, .counter, 0⟩]

/-- Registers of the BPM window. -/
def rowsBpm0 : List RegRow := [
  ⟨"BPM.STATUS", 0x4c0000, (0x0, 1), (0x0, 1), (0x0, 1), 0x0, 0x0, 0x0, .plain, 0⟩,
  ⟨"BPM.EVENTS", 0x4c0004, (0x0, 1), (0x0, 1), (0x0, 1), 0x0, 0xff, 0x0, .plain, 0⟩,
  ⟨"BPM.ERR_INFO", 0x4c0008, (0x0, 1), (0x0, 1), (0x0, 1), 0x0, 0xc0000000, 0x0, .plain, 0⟩,
  ⟨"BPM.ERR_HANDLE", 0x4c000c, (0x0, 1), (0x0, 1), (0x0, 1), 0x0, 0x0, 0x0, .plain, 0⟩,
  ⟨"BPM.CMD", 0x4c0010, (0x0, 1), (0x0, 1), (0x0, 1), 0x0, 0x0, 0x0, .plain, 0⟩,
  ⟨"BPM.ARG0", 0x4c0014, (0x0, 1), (0x0, 1), (0x0, 1), 0xffffffff, 0x0, 0x0, .plain, 0⟩,
  ⟨"BPM.ARG1", 0x4c0018, (0x0, 1), (0x0, 1), (0x0, 1), 0xffffffff, 0x0, 0x0, .plain, 0⟩,
  ⟨"BPM.RESULT", 0x4c001c, (0x0, 1), (0x0, 1), (0x0, 1), 0x0, 0x0, 0x0, .plain, 0⟩,
  ⟨"BPM.RES_HANDLE", 0x4c0020, (0x0, 1), (0x0, 1), (0x0, 1), 0x0, 0x0, 0x0, .plain, 0⟩,
  ⟨"BPM.CL_OWNER(n)", 0x4c0040, (0x4, 16), (0x0, 1), (0x0, 1), 0x3f, 0x0, 0x0, .plain, 2⟩,
  ⟨"BPM_DOUBLE_FREE", 0x4c0080, (0x0, 1), (0x0, 1), (0x0, 1), 0x0, 0x0, 0x0, .counter, 0⟩,
  ⟨"BPM_FOREIGN_FREE", 0x4c0088, (0x0, 1), (0x0, 1), (0x0, 1), 0x0, 0x0, 0x0, .counter, 0⟩,
  ⟨"BPM.POOL_BASE_LO(k)", 0x4c0100, (0x20, 5), (0x0, 1), (0x0, 1), 0xfffff000, 0x0, 0x0, .pairLo, 6⟩,
  ⟨"BPM.POOL_BASE_HI(k)", 0x4c0104, (0x20, 5), (0x0, 1), (0x0, 1), 0xff, 0x0, 0x0, .pairHi, 6⟩,
  ⟨"BPM.POOL_COUNT(k)", 0x4c0108, (0x20, 5), (0x0, 1), (0x0, 1), 0xffffff, 0x0, 0x0, .plain, 6⟩,
  ⟨"BPM.POOL_FREE(k)", 0x4c010c, (0x20, 5), (0x0, 1), (0x0, 1), 0x0, 0x0, 0x0, .plain, 0⟩,
  ⟨"BPM.POOL_LOW(k)", 0x4c0110, (0x20, 5), (0x0, 1), (0x0, 1), 0xffffff, 0x0, 0x0, .plain, 0⟩,
  ⟨"BPM.OWN_MIN(o, k)", 0x4c2000, (0x40, 64), (0x8, 5), (0x0, 1), 0xffffff, 0x0, 0x0, .plain, 0⟩,
  ⟨"BPM.OWN_MAX(o, k)", 0x4c2004, (0x40, 64), (0x8, 5), (0x0, 1), 0xffffff, 0x0, 0x0, .plain, 0⟩,
  ⟨"BPM.HELD(o, k)", 0x4c4000, (0x20, 64), (0x4, 5), (0x0, 1), 0x0, 0x0, 0x0, .plain, 0⟩]

/-- Registers of the BPM window. -/
def rowsBpm1 : List RegRow := [
  ⟨"BPM.OWN_CTRL(o)", 0x4c4014, (0x20, 64), (0x0, 1), (0x0, 1), 0x1, 0x0, 0x0, .plain, 0⟩,
  ⟨"BPM counter c of owner o", 0x4c6000, (0x20, 64), (0x8, 4), (0x0, 1), 0x0, 0x0, 0x0, .counter, 0⟩]

/-- Registers of the BPM window. -/
def rowsBpm : List RegRow := rowsBpm0 ++ rowsBpm1

/-- Registers of the SCH window. -/
def rowsSch0 : List RegRow := [
  ⟨"SCH.CTRL", 0x500000, (0x0, 1), (0x0, 1), (0x0, 1), 0xf, 0x0, 0x0, .plain, 0⟩,
  ⟨"SCH.EVENTS", 0x500004, (0x0, 1), (0x0, 1), (0x0, 1), 0x0, 0x7, 0x0, .plain, 0⟩,
  ⟨"SCH.PFC_SA_LO", 0x500008, (0x0, 1), (0x0, 1), (0x0, 1), 0xffffffff, 0x0, 0x0, .pairLo, 0⟩,
  ⟨"SCH.PFC_SA_HI", 0x50000c, (0x0, 1), (0x0, 1), (0x0, 1), 0xffff, 0x0, 0x0, .pairHi, 0⟩,
  ⟨"SCH.SR_BASE_LO", 0x500010, (0x0, 1), (0x0, 1), (0x0, 1), 0xfffff000, 0x0, 0x0, .pairLo, 0⟩,
  ⟨"SCH.SR_BASE_HI", 0x500014, (0x0, 1), (0x0, 1), (0x0, 1), 0x800000ff, 0x0, 0x0, .pairHi, 0⟩,
  ⟨"SCH.SR_SIZE", 0x500018, (0x0, 1), (0x0, 1), (0x0, 1), 0xf, 0x0, 0x0, .plain, 0⟩,
  ⟨"SCH.SR_PROD", 0x50001c, (0x0, 1), (0x0, 1), (0x0, 1), 0x0, 0x0, 0x0, .plain, 0⟩,
  ⟨"SCH.SR_CONS", 0x500020, (0x0, 1), (0x0, 1), (0x0, 1), 0xffffffff, 0x0, 0x0, .plain, 0⟩,
  ⟨"SCH.SR_PERIOD", 0x500024, (0x0, 1), (0x0, 1), (0x0, 1), 0xffff, 0x0, 0x64, .plain, 0⟩,
  ⟨"SCH.SR_LOST", 0x500028, (0x0, 1), (0x0, 1), (0x0, 1), 0x0, 0x0, 0x0, .plain, 0⟩,
  ⟨"SCH.SR_SKIP", 0x50002c, (0x0, 1), (0x0, 1), (0x0, 1), 0x0, 0x0, 0x0, .plain, 0⟩,
  ⟨"SCH.DELAY_ALARM", 0x500030, (0x0, 1), (0x0, 1), (0x0, 1), 0xffffffff, 0x0, 0x0, .plain, 0⟩,
  ⟨"SCH.ECN_MIN(k)", 0x500100, (0x8, 8), (0x0, 1), (0x0, 1), 0x7ffff, 0x0, 0x0, .plain, 0⟩,
  ⟨"SCH.ECN_MAX(k)", 0x500104, (0x8, 8), (0x0, 1), (0x0, 1), 0x7ffff, 0x0, 0x0, .plain, 0⟩,
  ⟨"SCH.PORT_CFG(p)", 0x501000, (0x40, 134), (0x0, 1), (0x0, 1), 0xc03fc03f, 0x0, 0x14, .plain, 0⟩,
  ⟨"SCH.GRP_WEIGHT(p)", 0x501004, (0x40, 134), (0x0, 1), (0x0, 1), 0xffffffff, 0x0, 0x1010101, .plain, 0⟩,
  ⟨"SCH.QMAP(p)", 0x501008, (0x40, 134), (0x0, 1), (0x0, 1), 0xffffff, 0x0, 0x0, .plain, 0⟩,
  ⟨"SCH.PFC_CFG(p)", 0x50100c, (0x40, 134), (0x0, 1), (0x0, 1), 0x80ffffff, 0x0, 0x180c, .plain, 5⟩,
  ⟨"SCH.PFC_STAT(p)", 0x501010, (0x40, 134), (0x0, 1), (0x0, 1), 0xffff, 0x0, 0xffff, .plain, 0⟩]

/-- Registers of the SCH window. -/
def rowsSch1 : List RegRow := [
  ⟨"SCH.QSCH(p, q)", 0x504000, (0x40, 134), (0x4, 12), (0x0, 1), 0xf80000ff, 0x0, 0x1, .plain, 0⟩,
  ⟨"SCH.SLUICE_RATE(i)", 0x510000, (0x10, 2278), (0x0, 1), (0x0, 1), 0x80ffffff, 0x0, 0x0, .plain, 0⟩,
  ⟨"SCH.SLUICE_BURST(i)", 0x510004, (0x10, 2278), (0x0, 1), (0x0, 1), 0x3fffff, 0x0, 0x4000, .plain, 0⟩,
  ⟨"SCH.SLUICE_CREDIT(i)", 0x510008, (0x10, 2278), (0x0, 1), (0x0, 1), 0x0, 0x0, 0x0, .plain, 0⟩,
  ⟨"SCH counter k of port p", 0x540000, (0x20, 134), (0x8, 3), (0x0, 1), 0x0, 0x0, 0x0, .counter, 0⟩]

/-- Registers of the SCH window. -/
def rowsSch : List RegRow := rowsSch0 ++ rowsSch1

/-- Registers of the TB window. -/
def rowsTb0 : List RegRow := [
  ⟨"TB.CTRL", 0x580000, (0x0, 1), (0x0, 1), (0x0, 1), 0xf8ff0000, 0x0, 0x0, .plain, 0⟩,
  ⟨"TB.STATUS", 0x580004, (0x0, 1), (0x0, 1), (0x0, 1), 0x0, 0x0, 0xa10000, .plain, 0⟩,
  ⟨"TB.EVENTS", 0x580008, (0x0, 1), (0x0, 1), (0x0, 1), 0x0, 0xff, 0x0, .plain, 0⟩,
  ⟨"TB.SERVO", 0x58000c, (0x0, 1), (0x0, 1), (0x0, 1), 0xfc00ffff, 0x0, 0x3000000a, .plain, 0⟩,
  ⟨"TB.JUMP", 0x580010, (0x0, 1), (0x0, 1), (0x0, 1), 0x3fffffff, 0x0, 0x3e8, .plain, 0⟩,
  ⟨"TB.JUMP_INFO", 0x580014, (0x0, 1), (0x0, 1), (0x0, 1), 0x0, 0x0, 0x0, .plain, 0⟩,
  ⟨"TB.SLEW_MS", 0x580018, (0x0, 1), (0x0, 1), (0x0, 1), 0xffff, 0x0, 0x3e8, .plain, 0⟩,
  ⟨"TB.FREQ", 0x58001c, (0x0, 1), (0x0, 1), (0x0, 1), 0xffffffff, 0x0, 0x0, .plain, 0⟩,
  ⟨"TB.SEC_LO", 0x580020, (0x0, 1), (0x0, 1), (0x0, 1), 0x0, 0x0, 0x0, .plain, 0⟩,
  ⟨"TB.SEC_HI", 0x580024, (0x0, 1), (0x0, 1), (0x0, 1), 0x0, 0x0, 0x0, .plain, 0⟩,
  ⟨"TB.NS", 0x580028, (0x0, 1), (0x0, 1), (0x0, 1), 0x0, 0x0, 0x0, .plain, 0⟩,
  ⟨"TB.FRAC", 0x58002c, (0x0, 1), (0x0, 1), (0x0, 1), 0x0, 0x0, 0x0, .plain, 0⟩,
  ⟨"TB.SET_SEC_LO", 0x580030, (0x0, 1), (0x0, 1), (0x0, 1), 0xffffffff, 0x0, 0x0, .pairLo, 0⟩,
  ⟨"TB.SET_SEC_HI", 0x580034, (0x0, 1), (0x0, 1), (0x0, 1), 0xffff, 0x0, 0x0, .pairHi, 0⟩,
  ⟨"TB.SET_NS", 0x580038, (0x0, 1), (0x0, 1), (0x0, 1), 0x3fffffff, 0x0, 0x0, .plain, 0⟩,
  ⟨"TB.SET_FRAC", 0x58003c, (0x0, 1), (0x0, 1), (0x0, 1), 0xffff, 0x0, 0x0, .plain, 0⟩,
  ⟨"TB.ADJ_LO", 0x580040, (0x0, 1), (0x0, 1), (0x0, 1), 0xffffffff, 0x0, 0x0, .pairLo, 0⟩,
  ⟨"TB.ADJ_HI", 0x580044, (0x0, 1), (0x0, 1), (0x0, 1), 0xffffffff, 0x0, 0x0, .pairHi, 0⟩,
  ⟨"TB.CMD", 0x580048, (0x0, 1), (0x0, 1), (0x0, 1), 0x0, 0x0, 0x0, .plain, 0⟩,
  ⟨"TB.CMD_RESULT", 0x58004c, (0x0, 1), (0x0, 1), (0x0, 1), 0x0, 0x0, 0x0, .plain, 0⟩]

/-- Registers of the TB window. -/
def rowsTb1 : List RegRow := [
  ⟨"TB.PPS_CTRL", 0x580050, (0x0, 1), (0x0, 1), (0x0, 1), 0xf, 0x0, 0x0, .plain, 0⟩,
  ⟨"TB.PPS_IN_TRIM", 0x580054, (0x0, 1), (0x0, 1), (0x0, 1), 0xffffffff, 0x0, 0x0, .plain, 0⟩,
  ⟨"TB.PPS_OUT_TRIM", 0x580058, (0x0, 1), (0x0, 1), (0x0, 1), 0xffffffff, 0x0, 0x0, .plain, 0⟩,
  ⟨"TB.PPS_SEC", 0x58005c, (0x0, 1), (0x0, 1), (0x0, 1), 0x0, 0x0, 0x0, .plain, 0⟩,
  ⟨"TB.PPS_NS", 0x580060, (0x0, 1), (0x0, 1), (0x0, 1), 0x0, 0x0, 0x0, .plain, 0⟩,
  ⟨"TB.PPS_FRAC", 0x580064, (0x0, 1), (0x0, 1), (0x0, 1), 0x0, 0x0, 0x0, .plain, 0⟩,
  ⟨"TB.PPS_ERR", 0x580068, (0x0, 1), (0x0, 1), (0x0, 1), 0x0, 0x0, 0x0, .plain, 0⟩,
  ⟨"TB.PTP_CTRL", 0x58006c, (0x0, 1), (0x0, 1), (0x0, 1), 0x7, 0x0, 0x0, .plain, 0⟩,
  ⟨"TB.FRC_LO", 0x580070, (0x0, 1), (0x0, 1), (0x0, 1), 0x0, 0x0, 0x0, .pairLo, 0⟩,
  ⟨"TB.FRC_HI", 0x580074, (0x0, 1), (0x0, 1), (0x0, 1), 0x0, 0x0, 0x0, .pairHi, 0⟩,
  ⟨"TB.COMPAT_LO", 0x580078, (0x0, 1), (0x0, 1), (0x0, 1), 0x0, 0x0, 0x0, .pairLo, 0⟩,
  ⟨"TB.COMPAT_HI", 0x58007c, (0x0, 1), (0x0, 1), (0x0, 1), 0x0, 0x0, 0x0, .pairHi, 0⟩,
  ⟨"TB.COMPAT_OFS_LO", 0x580080, (0x0, 1), (0x0, 1), (0x0, 1), 0xffffffff, 0x0, 0x0, .pairLo, 0⟩,
  ⟨"TB.COMPAT_OFS_HI", 0x580084, (0x0, 1), (0x0, 1), (0x0, 1), 0xffffffff, 0x0, 0x0, .pairHi, 0⟩,
  ⟨"TB.COMPAT_RATE", 0x580088, (0x0, 1), (0x0, 1), (0x0, 1), 0xffffffff, 0x0, 0x0, .plain, 0⟩,
  ⟨"TB.FRC_EPOCH", 0x58008c, (0x0, 1), (0x0, 1), (0x0, 1), 0x0, 0x0, 0x0, .plain, 0⟩,
  ⟨"TB.PEER_DELAY(p)", 0x580100, (0x4, 132), (0x0, 1), (0x0, 1), 0xffffffff, 0x0, 0x0, .plain, 0⟩,
  ⟨"TB counter k", 0x580400, (0x8, 6), (0x0, 1), (0x0, 1), 0x0, 0x0, 0x0, .counter, 0⟩]

/-- Registers of the TB window. -/
def rowsTb : List RegRow := rowsTb0 ++ rowsTb1

/-- Registers of the DMC window. -/
def rowsDmc : List RegRow := [
  ⟨"Dn.STATUS", 0x600000, (0x10000, 4), (0x0, 1), (0x0, 1), 0x0, 0x0, 0x0, .plain, 0⟩,
  ⟨"Dn.EVENTS", 0x600004, (0x10000, 4), (0x0, 1), (0x0, 1), 0x0, 0xf, 0x0, .plain, 0⟩,
  ⟨"Dn.ALARM", 0x600008, (0x10000, 4), (0x0, 1), (0x0, 1), 0xffffffff, 0x0, 0x5f000000, .plain, 0⟩,
  ⟨"Dn.SR_CTRL", 0x60000c, (0x10000, 4), (0x0, 1), (0x0, 1), 0x8000ffff, 0x0, 0x80000064, .plain, 0⟩,
  ⟨"Dn.DIAG_SEL", 0x600010, (0x10000, 4), (0x0, 1), (0x0, 1), 0xf3ff, 0x0, 0x0, .plain, 0⟩,
  ⟨"Dn.DIAG_DATA", 0x600014, (0x10000, 4), (0x0, 1), (0x0, 1), 0x0, 0x0, 0x0, .plain, 0⟩,
  ⟨"DMC counter k of stack n", 0x600100, (0x10000, 4), (0x8, 8), (0x0, 1), 0x0, 0x0, 0x0, .counter, 0⟩,
  ⟨"DMC.CTRL", 0x640000, (0x0, 1), (0x0, 1), (0x0, 1), 0x30f, 0x0, 0xa, .plain, 0⟩,
  ⟨"DMC.AGE", 0x640004, (0x0, 1), (0x0, 1), (0x0, 1), 0xffff, 0x0, 0x1f4, .plain, 0⟩,
  ⟨"DMC.XLATE_LO", 0x640010, (0x0, 1), (0x0, 1), (0x0, 1), 0xffffffff, 0x0, 0x0, .pairLo, 0⟩,
  ⟨"DMC.XLATE_HI", 0x640014, (0x0, 1), (0x0, 1), (0x0, 1), 0xff, 0x0, 0x0, .pairHi, 0⟩,
  ⟨"DMC.XLATE_RESULT", 0x640018, (0x0, 1), (0x0, 1), (0x0, 1), 0x0, 0x0, 0x0, .plain, 0⟩,
  ⟨"DMC.PORT_CFG(i)", 0x640100, (0x4, 6), (0x0, 1), (0x0, 1), 0xc000ffff, 0x0, 0x0, .plain, 3⟩,
  ⟨"DMC counter k of port i", 0x640200, (0x20, 6), (0x8, 3), (0x0, 1), 0x0, 0x0, 0x0, .counter, 0⟩,
  ⟨"DMC.LAT_MAX(i)", 0x640300, (0x4, 6), (0x0, 1), (0x0, 1), 0x0, 0xffffffff, 0x0, .plain, 0⟩]

/-- Registers of the ECC window. -/
def rowsEcc0 : List RegRow := [
  ⟨"ECC.EVENTS", 0x680000, (0x0, 1), (0x0, 1), (0x0, 1), 0x0, 0x7, 0x0, .plain, 0⟩,
  ⟨"ECC.ALARM_INFO", 0x680004, (0x0, 1), (0x0, 1), (0x0, 1), 0x0, 0xc0000000, 0x0, .plain, 0⟩,
  ⟨"ECC.REGION(i)", 0x680040, (0x4, 16), (0x0, 1), (0x0, 1), 0x0, 0x0, 0x0, .plain, 0⟩,
  ⟨"ECC.REGION_ALARM(i)", 0x680080, (0x4, 17), (0x0, 1), (0x0, 1), 0xffffffff, 0x0, 0x0, .plain, 0⟩,
  ⟨"ECC.ARRAY_ALARM(k)", 0x6800e0, (0x4, 8), (0x0, 1), (0x0, 1), 0xffffffff, 0x0, 0x0, .plain, 0⟩,
  ⟨"ECC.SCRUB_CMD", 0x680200, (0x0, 1), (0x0, 1), (0x0, 1), 0x0, 0x0, 0x0, .plain, 0⟩,
  ⟨"ECC.SCRUB_START_LO", 0x680204, (0x0, 1), (0x0, 1), (0x0, 1), 0xffffff00, 0x0, 0x0, .pairLo, 0⟩,
  ⟨"ECC.SCRUB_START_HI", 0x680208, (0x0, 1), (0x0, 1), (0x0, 1), 0xff, 0x0, 0x0, .pairHi, 0⟩,
  ⟨"ECC.SCRUB_LEN", 0x68020c, (0x0, 1), (0x0, 1), (0x0, 1), 0x1fffffff, 0x0, 0x0, .plain, 0⟩,
  ⟨"ECC.SCRUB_RATE", 0x680210, (0x0, 1), (0x0, 1), (0x0, 1), 0xfff, 0x0, 0x40, .plain, 0⟩,
  ⟨"ECC.SCRUB_ABORT", 0x680214, (0x0, 1), (0x0, 1), (0x0, 1), 0x0, 0x0, 0x0, .plain, 0⟩,
  ⟨"ECC.SCRUB_RESULT", 0x680218, (0x0, 1), (0x0, 1), (0x0, 1), 0x0, 0x0, 0x0, .plain, 0⟩,
  ⟨"ECC.SCRUB_ATOMS", 0x68021c, (0x0, 1), (0x0, 1), (0x0, 1), 0x0, 0x0, 0x0, .plain, 0⟩,
  ⟨"ECC.SCRUB_CORR1", 0x680220, (0x0, 1), (0x0, 1), (0x0, 1), 0x0, 0x0, 0x0, .plain, 0⟩,
  ⟨"ECC.SCRUB_CORR2", 0x680224, (0x0, 1), (0x0, 1), (0x0, 1), 0x0, 0x0, 0x0, .plain, 0⟩,
  ⟨"ECC.SCRUB_FIRST_LO", 0x680228, (0x0, 1), (0x0, 1), (0x0, 1), 0x0, 0x0, 0x0, .pairLo, 0⟩,
  ⟨"ECC.SCRUB_FIRST_HI", 0x68022c, (0x0, 1), (0x0, 1), (0x0, 1), 0x0, 0x0, 0x0, .pairHi, 0⟩,
  ⟨"ECC.SCRUB_LAST_LO", 0x680230, (0x0, 1), (0x0, 1), (0x0, 1), 0x0, 0x0, 0x0, .pairLo, 0⟩,
  ⟨"ECC.SCRUB_LAST_HI", 0x680234, (0x0, 1), (0x0, 1), (0x0, 1), 0x0, 0x0, 0x0, .pairHi, 0⟩,
  ⟨"ECC.SCRUB_PROGRESS", 0x680238, (0x0, 1), (0x0, 1), (0x0, 1), 0x0, 0x0, 0x0, .plain, 0⟩]

/-- Registers of the ECC window. -/
def rowsEcc1 : List RegRow := [
  ⟨"ECC REGION_CORR(i)", 0x680400, (0x8, 17), (0x0, 1), (0x0, 1), 0x0, 0x0, 0x0, .counter, 0⟩,
  ⟨"ECC ARRAY_CORR(k)", 0x680500, (0x8, 8), (0x0, 1), (0x0, 1), 0x0, 0x0, 0x0, .counter, 0⟩]

/-- Registers of the ECC window. -/
def rowsEcc : List RegRow := rowsEcc0 ++ rowsEcc1

/-- Registers of the DMA window. -/
def rowsDma : List RegRow := [
  ⟨"DMA.CTRL", 0x6c0000, (0x0, 1), (0x0, 1), (0x0, 1), 0xff, 0x0, 0x40, .plain, 0⟩,
  ⟨"DMA.POLL", 0x6c0004, (0x0, 1), (0x0, 1), (0x0, 1), 0xffff, 0x0, 0x3e8, .plain, 0⟩,
  ⟨"DMA.STATUS", 0x6c0008, (0x0, 1), (0x0, 1), (0x0, 1), 0x0, 0x0, 0x0, .plain, 0⟩,
  ⟨"DMA.RXMAP(q)", 0x6c0040, (0x4, 12), (0x0, 1), (0x0, 1), 0x8000001f, 0x0, 0x0, .plain, 0⟩,
  ⟨"DMA.CH_CFG(c)", 0x6c1000, (0x40, 32), (0x0, 1), (0x0, 1), 0xf8000000, 0x0, 0x0, .plain, 0⟩,
  ⟨"DMA.CH_DESC_LO(c)", 0x6c1004, (0x40, 32), (0x0, 1), (0x0, 1), 0xffffffe0, 0x0, 0x0, .pairLo, 0⟩,
  ⟨"DMA.CH_DESC_HI(c)", 0x6c1008, (0x40, 32), (0x0, 1), (0x0, 1), 0xff, 0x0, 0x0, .pairHi, 0⟩,
  ⟨"DMA.CH_CMD(c)", 0x6c100c, (0x40, 32), (0x0, 1), (0x0, 1), 0x0, 0x0, 0x0, .plain, 0⟩,
  ⟨"DMA.CH_STAT(c)", 0x6c1010, (0x40, 32), (0x0, 1), (0x0, 1), 0x0, 0x0, 0x0, .plain, 0⟩,
  ⟨"DMA.CH_COUNT(c)", 0x6c1014, (0x40, 32), (0x0, 1), (0x0, 1), 0x0, 0x0, 0x0, .plain, 0⟩,
  ⟨"DMA.CH_ERR_LO(c)", 0x6c1018, (0x40, 32), (0x0, 1), (0x0, 1), 0x0, 0x0, 0x0, .pairLo, 0⟩,
  ⟨"DMA.CH_ERR_HI(c)", 0x6c101c, (0x40, 32), (0x0, 1), (0x0, 1), 0x0, 0x0, 0x0, .pairHi, 0⟩,
  ⟨"DMA.CH_RESULT(c)", 0x6c1020, (0x40, 32), (0x0, 1), (0x0, 1), 0x0, 0x0, 0x0, .plain, 0⟩,
  ⟨"DMA.CH_CMP_A(c)", 0x6c1024, (0x40, 32), (0x0, 1), (0x0, 1), 0x0, 0x0, 0x0, .plain, 0⟩,
  ⟨"DMA.CH_CMP_B(c)", 0x6c1028, (0x40, 32), (0x0, 1), (0x0, 1), 0x0, 0x0, 0x0, .plain, 0⟩,
  ⟨"DMA counter k of channel c", 0x6c1030, (0x40, 32), (0x8, 2), (0x0, 1), 0x0, 0x0, 0x0, .counter, 0⟩]

/-- Registers of the EVC window. -/
def rowsEvc : List RegRow := [
  ⟨"EVC.ROUTE(s)", 0x700000, (0x4, 320), (0x0, 1), (0x0, 1), 0x1f, 0x0, 0x1, .plain, 0⟩,
  ⟨"EVC.PENDING(t, w)", 0x700800, (0x40, 5), (0x4, 10), (0x0, 1), 0x0, 0xffffffff, 0x0, .plain, 0⟩,
  ⟨"EVC.ENABLE(t, w)", 0x700a00, (0x40, 5), (0x4, 10), (0x0, 1), 0xffffffff, 0x0, 0x0, .plain, 0⟩,
  ⟨"EVC.SUMMARY(t)", 0x700c00, (0x4, 5), (0x0, 1), (0x0, 1), 0x0, 0x0, 0x0, .plain, 0⟩,
  ⟨"EVC.SET", 0x700c20, (0x0, 1), (0x0, 1), (0x0, 1), 0x0, 0x0, 0x0, .plain, 0⟩,
  ⟨"EVC.LOCAL", 0x700c24, (0x0, 1), (0x0, 1), (0x0, 1), 0x0, 0x3, 0x0, .plain, 0⟩,
  ⟨"EVC.RAISED(s)", 0x701000, (0x4, 320), (0x0, 1), (0x0, 1), 0x0, 0x0, 0x0, .plain, 0⟩]

/-- Registers of the PMC window. -/
def rowsPmc : List RegRow := [
  ⟨"PMC.CTRL", 0x740000, (0x0, 1), (0x0, 1), (0x0, 1), 0x8000ffff, 0x0, 0x0, .plain, 0⟩,
  ⟨"PMC.CMD", 0x740004, (0x0, 1), (0x0, 1), (0x0, 1), 0x0, 0x0, 0x0, .plain, 0⟩,
  ⟨"PMC.EVENTS", 0x740008, (0x0, 1), (0x0, 1), (0x0, 1), 0x0, 0x7, 0x0, .plain, 0⟩,
  ⟨"PMC.OVF_LO", 0x740010, (0x0, 1), (0x0, 1), (0x0, 1), 0x0, 0xffffffff, 0x0, .pairLo, 0⟩,
  ⟨"PMC.OVF_HI", 0x740014, (0x0, 1), (0x0, 1), (0x0, 1), 0x0, 0xffffffff, 0x0, .pairHi, 0⟩,
  ⟨"PMC.SNAP_TIME_LO", 0x740018, (0x0, 1), (0x0, 1), (0x0, 1), 0x0, 0x0, 0x0, .pairLo, 0⟩,
  ⟨"PMC.SNAP_TIME_HI", 0x74001c, (0x0, 1), (0x0, 1), (0x0, 1), 0x0, 0x0, 0x0, .pairHi, 0⟩,
  ⟨"PMC.BW_CTRL", 0x740020, (0x0, 1), (0x0, 1), (0x0, 1), 0xc000ffff, 0x0, 0x3e8, .plain, 0⟩,
  ⟨"PMC.SEL(i)", 0x740100, (0x4, 64), (0x0, 1), (0x0, 1), 0xc1ff03ff, 0x0, 0x0, .plain, 0⟩,
  ⟨"PMC.CNT(i)", 0x740200, (0x8, 64), (0x0, 1), (0x0, 1), 0x0, 0x0, 0x0, .counterRW, 0⟩,
  ⟨"PMC.SNAP(i)", 0x740400, (0x8, 64), (0x0, 1), (0x0, 1), 0x0, 0x0, 0x0, .counter, 0⟩,
  ⟨"PMC.ENG_SEL(n)", 0x740800, (0x4, 16), (0x0, 1), (0x0, 1), 0xc0ff00ff, 0x0, 0xff0000, .plain, 0⟩,
  ⟨"PMC.SAMPLE_INFO(n)", 0x740880, (0x10, 16), (0x0, 1), (0x0, 1), 0x0, 0xc0000000, 0x0, .plain, 0⟩,
  ⟨"PMC.SAMPLE_CTX(n)", 0x740884, (0x10, 16), (0x0, 1), (0x0, 1), 0x0, 0x0, 0x0, .plain, 0⟩,
  ⟨"PMC.SAMPLE_LOST(n)", 0x740888, (0x10, 16), (0x0, 1), (0x0, 1), 0x0, 0x0, 0x0, .plain, 0⟩,
  ⟨"PMC.ENG(n, e, j)", 0x741000, (0x80, 16), (0x8, 16), (0x4, 2), 0xffffffff, 0x0, 0x0, .plain, 0⟩,
  ⟨"PMC.BW_RX(p)", 0x743000, (0x10, 134), (0x0, 1), (0x0, 1), 0x0, 0x0, 0x0, .plain, 0⟩,
  ⟨"PMC.BW_TX(p)", 0x743004, (0x10, 134), (0x0, 1), (0x0, 1), 0x0, 0x0, 0x0, .plain, 0⟩,
  ⟨"PMC.BW_PEAK_RX(p)", 0x743008, (0x10, 134), (0x0, 1), (0x0, 1), 0x0, 0xffffffff, 0x0, .plain, 0⟩,
  ⟨"PMC.BW_PEAK_TX(p)", 0x74300c, (0x10, 134), (0x0, 1), (0x0, 1), 0x0, 0xffffffff, 0x0, .plain, 0⟩]

/-- Registers of the STK window. -/
def rowsStk : List RegRow := [
  ⟨"STK.CTRL", 0x780000, (0x0, 1), (0x0, 1), (0x0, 1), 0xffffff00, 0x0, 0x802100, .plain, 0⟩,
  ⟨"STK.STACK_ID", 0x780004, (0x0, 1), (0x0, 1), (0x0, 1), 0xffffffff, 0x0, 0x0, .plain, 0⟩,
  ⟨"STK.TIMING", 0x780008, (0x0, 1), (0x0, 1), (0x0, 1), 0xffff, 0x0, 0x301, .plain, 0⟩,
  ⟨"STK.STATUS", 0x78000c, (0x0, 1), (0x0, 1), (0x0, 1), 0x0, 0x0, 0x11000000, .plain, 0⟩,
  ⟨"STK.MEMBER_LO(m)", 0x780040, (0x8, 8), (0x0, 1), (0x0, 1), 0x0, 0x0, 0x0, .pairLo, 0⟩,
  ⟨"STK.MEMBER_HI(m)", 0x780044, (0x8, 8), (0x0, 1), (0x0, 1), 0x0, 0x0, 0x0, .pairHi, 0⟩,
  ⟨"STK.ROUTE(m)", 0x780080, (0x4, 8), (0x0, 1), (0x0, 1), 0x80000003, 0x0, 0x0, .plain, 0⟩,
  ⟨"STK STEERED", 0x7800c0, (0x0, 1), (0x0, 1), (0x0, 1), 0x0, 0x0, 0x0, .counter, 0⟩,
  ⟨"STK UNREACH", 0x7800c8, (0x0, 1), (0x0, 1), (0x0, 1), 0x0, 0x0, 0x0, .counter, 0⟩,
  ⟨"STK.LINK_CFG(k)", 0x780100, (0x40, 4), (0x0, 1), (0x0, 1), 0x80ffffff, 0x0, 0xff0000, .plain, 0⟩,
  ⟨"STK.EXP_SERIAL(k)", 0x780104, (0x40, 4), (0x0, 1), (0x0, 1), 0xffffffff, 0x0, 0x0, .plain, 0⟩,
  ⟨"STK.LINK_STAT(k)", 0x780108, (0x40, 4), (0x0, 1), (0x0, 1), 0x0, 0x0, 0x0, .plain, 0⟩,
  ⟨"STK.PEER_SERIAL(k)", 0x78010c, (0x40, 4), (0x0, 1), (0x0, 1), 0x0, 0x0, 0x0, .plain, 0⟩,
  ⟨"STK.LINK_EVENTS(k)", 0x780110, (0x40, 4), (0x0, 1), (0x0, 1), 0x0, 0xf, 0x0, .plain, 0⟩,
  ⟨"STK.ASYM(k)", 0x780114, (0x40, 4), (0x0, 1), (0x0, 1), 0xffffffff, 0x0, 0x0, .plain, 0⟩,
  ⟨"STK.OFFSET(k)", 0x780118, (0x40, 4), (0x0, 1), (0x0, 1), 0x0, 0x0, 0x0, .plain, 0⟩,
  ⟨"STK.DELAY(k)", 0x78011c, (0x40, 4), (0x0, 1), (0x0, 1), 0x0, 0x0, 0x0, .plain, 0⟩,
  ⟨"STK counter j of link k", 0x780120, (0x40, 4), (0x8, 3), (0x0, 1), 0x0, 0x0, 0x0, .counter, 0⟩]

/-- Registers of the MGT window. -/
def rowsMgt : List RegRow := [
  ⟨"MGT.CTRL", 0x7c0000, (0x0, 1), (0x0, 1), (0x0, 1), 0xf0ff0fff, 0x0, 0x300a003c, .plain, 0⟩,
  ⟨"MGT.STATUS", 0x7c0004, (0x0, 1), (0x0, 1), (0x0, 1), 0x0, 0x0, 0x0, .plain, 0⟩,
  ⟨"MGT.EVENTS", 0x7c0008, (0x0, 1), (0x0, 1), (0x0, 1), 0x0, 0x3, 0x0, .plain, 0⟩,
  ⟨"MGT.FAIL_INFO", 0x7c000c, (0x0, 1), (0x0, 1), (0x0, 1), 0x0, 0xc0000000, 0x0, .plain, 0⟩,
  ⟨"MGT.IMG_RESULT", 0x7c0010, (0x0, 1), (0x0, 1), (0x0, 1), 0x0, 0x0, 0xff0000, .plain, 0⟩,
  ⟨"MGT.IP4", 0x7c0020, (0x0, 1), (0x0, 1), (0x0, 1), 0x0, 0x0, 0x0, .plain, 0⟩,
  ⟨"MGT.IP4_GW", 0x7c0024, (0x0, 1), (0x0, 1), (0x0, 1), 0x0, 0x0, 0x0, .plain, 0⟩,
  ⟨"MGT.ADDR_CFG", 0x7c0028, (0x0, 1), (0x0, 1), (0x0, 1), 0x0, 0x0, 0x0, .plain, 0⟩,
  ⟨"MGT.IP6(i)", 0x7c0030, (0x4, 4), (0x0, 1), (0x0, 1), 0x0, 0x0, 0x0, .plain, 0⟩,
  ⟨"MGT.GW6(i)", 0x7c0040, (0x4, 4), (0x0, 1), (0x0, 1), 0x0, 0x0, 0x0, .plain, 0⟩,
  ⟨"MGT counter k", 0x7c0080, (0x8, 6), (0x0, 1), (0x0, 1), 0x0, 0x0, 0x0, .counter, 0⟩]

/-- The register rows of the window an address lies in (R165); none for an unmapped window. -/
def windowRows (a : Nat) : List RegRow :=
  if 0x0 ≤ a ∧ a < 0x10000 then rowsGlb
  else if 0x10000 ≤ a ∧ a < 0x20000 then rowsSsv
  else if 0x20000 ≤ a ∧ a < 0x30000 then rowsBoot
  else if 0x40000 ≤ a ∧ a < 0x50000 then rowsClk
  else if 0x100000 ≤ a ∧ a < 0x150000 then rowsPg
  else if 0x180000 ≤ a ∧ a < 0x200000 then rowsHdg
  else if 0x200000 ≤ a ∧ a < 0x240000 then rowsWeir
  else if 0x240000 ≤ a ∧ a < 0x280000 then rowsEmt
  else if 0x280000 ≤ a ∧ a < 0x300000 then rowsDsp
  else if 0x300000 ≤ a ∧ a < 0x400000 then rowsFlm
  else if 0x400000 ≤ a ∧ a < 0x480000 then rowsFle
  else if 0x480000 ≤ a ∧ a < 0x4c0000 then rowsQm
  else if 0x4c0000 ≤ a ∧ a < 0x500000 then rowsBpm
  else if 0x500000 ≤ a ∧ a < 0x580000 then rowsSch
  else if 0x580000 ≤ a ∧ a < 0x600000 then rowsTb
  else if 0x600000 ≤ a ∧ a < 0x680000 then rowsDmc
  else if 0x680000 ≤ a ∧ a < 0x6c0000 then rowsEcc
  else if 0x6c0000 ≤ a ∧ a < 0x700000 then rowsDma
  else if 0x700000 ≤ a ∧ a < 0x740000 then rowsEvc
  else if 0x740000 ≤ a ∧ a < 0x780000 then rowsPmc
  else if 0x780000 ≤ a ∧ a < 0x7c0000 then rowsStk
  else if 0x7c0000 ≤ a ∧ a < 0x800000 then rowsMgt
  else []

namespace Reg

/-- GLB.IDENT (R186). -/
def glbIdent : Nat := 0x0
/-- GLB.REVISION (R186). -/
def glbRevision : Nat := 0x4
/-- GLB.ACC_ERR (R188). -/
def glbAccErr : Nat := 0x8
/-- GLB.ACC_ADDR (R188). -/
def glbAccAddr : Nat := 0xc
/-- GLB.SCRATCH (R186). -/
def glbScratch : Nat := 0x10
/-- GLB.SERIAL_LO (R186). -/
def glbSerialLo : Nat := 0x14
/-- GLB.SERIAL_HI (R186). -/
def glbSerialHi : Nat := 0x18
/-- GLB.SELFTEST_CMD (R865). -/
def glbSelftestCmd : Nat := 0x100
/-- GLB.SELFTEST_RESULT (R865). -/
def glbSelftestResult : Nat := 0x104
/-- GLB.SELFTEST_ADDR_LO (R865). -/
def glbSelftestAddrLo : Nat := 0x108
/-- GLB.SELFTEST_ADDR_HI (R865). -/
def glbSelftestAddrHi : Nat := 0x10c
/-- GLB.TEST_STATUS (R865). -/
def glbTestStatus : Nat := 0x110
/-- GLB.TEST_LOCK (R865). -/
def glbTestLock : Nat := 0x114
/-- SSV.MAINS_STATUS (R103). -/
def ssvMainsStatus : Nat := 0x10000
/-- SSV.MAINS_EVENTS (R104). -/
def ssvMainsEvents : Nat := 0x10004
/-- SSV.POWER (R105). -/
def ssvPower : Nat := 0x10008
/-- SSV.SHED (R106). -/
def ssvShed : Nat := 0x1000c
/-- SSV.SHED_CLR (R106). -/
def ssvShedClr : Nat := 0x10010
/-- SSV.FUSE_STATE_LO (R107). -/
def ssvFuseStateLo : Nat := 0x10014
/-- SSV.FUSE_STATE_HI (R107). -/
def ssvFuseStateHi : Nat := 0x10018
/-- SSV.FUSE_REARM (R108). -/
def ssvFuseRearm : Nat := 0x1001c
/-- SSV.CAGE_I(n) (R109). -/
def ssvCageI (a : Nat) : Nat := 0x10040 + 0x4 * a
/-- SSV.FAN(n) (R110). -/
def ssvFan (a : Nat) : Nat := 0x100a0 + 0x4 * a
/-- SSV.FAN_CTRL (R111). -/
def ssvFanCtrl : Nat := 0x100c0
/-- SSV.TEMP (R112). -/
def ssvTemp : Nat := 0x100c4
/-- SSV.THROTTLE (R113). -/
def ssvThrottle : Nat := 0x100c8
/-- SSV.EXCURSION (R114). -/
def ssvExcursion : Nat := 0x100cc
/-- SSV.FLASH_WEAR_A (R115). -/
def ssvFlashWearA : Nat := 0x100d0
/-- SSV.FLASH_WEAR_B (R115). -/
def ssvFlashWearB : Nat := 0x100d4
/-- SSV.FAULT_RING (R116). -/
def ssvFaultRing : Nat := 0x100d8
/-- SSV.ATB_SEL(b) (R858). -/
def ssvAtbSel (a : Nat) : Nat := 0x10100 + 0x4 * a
/-- SSV.ATB_ADC(b) (R858). -/
def ssvAtbAdc (a : Nat) : Nat := 0x10108 + 0x4 * a
/-- BOOT.STATUS (R157). -/
def bootStatus : Nat := 0x20000
/-- BOOT.CAUSE (R158). -/
def bootCause : Nat := 0x20004
/-- BOOT.IMG_STAT (R158). -/
def bootImgStat : Nat := 0x20008
/-- BOOT.SEQ_A (R158). -/
def bootSeqA : Nat := 0x2000c
/-- BOOT.SEQ_B (R158). -/
def bootSeqB : Nat := 0x20010
/-- BOOT.SVN (R158). -/
def bootSvn : Nat := 0x20014
/-- BOOT.SVN_RAISE (R159). -/
def bootSvnRaise : Nat := 0x20018
/-- BOOT.KEYS (R158). -/
def bootKeys : Nat := 0x2001c
/-- BOOT.KEY_REVOKE (R159). -/
def bootKeyRevoke : Nat := 0x20020
/-- BOOT.CONFIRM (R159). -/
def bootConfirm : Nat := 0x20024
/-- BOOT.NEXT (R159). -/
def bootNext : Nat := 0x20028
/-- BOOT.RESTART (R159). -/
def bootRestart : Nat := 0x2002c
/-- BOOT.SYSWD (R160). -/
def bootSyswd : Nat := 0x20030
/-- BOOT.SYSWD_KICK (R160). -/
def bootSyswdKick : Nat := 0x20034
/-- BOOT.REVAL (R161). -/
def bootReval : Nat := 0x20040
/-- BOOT.REVAL_CORR (R161). -/
def bootRevalCorr : Nat := 0x20044
/-- BOOT.REVAL_INVAL (R161). -/
def bootRevalInval : Nat := 0x20048
/-- BOOT.REVAL_INCONS (R161). -/
def bootRevalIncons : Nat := 0x2004c
/-- BOOT.RSV_BAD (R161). -/
def bootRsvBad : Nat := 0x20050
/-- BOOT.RETAIN (R161). -/
def bootRetain : Nat := 0x20054
/-- CLK.PLL_STATUS (R190). -/
def clkPllStatus : Nat := 0x40000
/-- CLK.PLL_EVENTS (R190). -/
def clkPllEvents : Nat := 0x40004
/-- CLK.PG_GATE (R191). -/
def clkPgGate : Nat := 0x40008
/-- CLK.MEAS_CMD (R193). -/
def clkMeasCmd : Nat := 0x40010
/-- CLK.MEAS_RESULT (R194). -/
def clkMeasResult : Nat := 0x40014
/-- PG.CTRL (R230). -/
def pgCtrl (a : Nat) : Nat := 0x100000 + 0x4000 * a
/-- PG.STATUS (R232). -/
def pgStatus (a : Nat) : Nat := 0x100004 + 0x4000 * a
/-- PG.EVENTS (R233). -/
def pgEvents (a : Nat) : Nat := 0x100008 + 0x4000 * a
/-- PG.ALARM_THRESH (R234). -/
def pgAlarmThresh (a : Nat) : Nat := 0x10000c + 0x4000 * a
/-- PG.LANE_MAP (R235). -/
def pgLaneMap (a : Nat) : Nat := 0x100010 + 0x4000 * a
/-- PG.LOOPBACK (R869). -/
def pgLoopback (a : Nat) : Nat := 0x100020 + 0x4000 * a
/-- PG.PRBS_CTRL (R869). -/
def pgPrbsCtrl (a : Nat) : Nat := 0x100024 + 0x4000 * a
/-- PG.PRBS_ERR(n) (R869). -/
def pgPrbsErr (a b : Nat) : Nat := 0x100040 + 0x4000 * a + 0x4 * b
/-- PORT_CTRL(s) (R236). -/
def portCtrl (a b : Nat) : Nat := 0x101000 + 0x4000 * a + 0x200 * b
/-- PORT_STAT(s) (R237). -/
def portStat (a b : Nat) : Nat := 0x101004 + 0x4000 * a + 0x200 * b
/-- RX_DELAY(s) (R238). -/
def rxDelay (a b : Nat) : Nat := 0x101008 + 0x4000 * a + 0x200 * b
/-- SKEW_MAX(s) (R238). -/
def skewMax (a b : Nat) : Nat := 0x10100c + 0x4000 * a + 0x200 * b
/-- TX_DELAY(s) (R238). -/
def txDelay (a b : Nat) : Nat := 0x101010 + 0x4000 * a + 0x200 * b
/-- RX_TRIM(s) (R238). -/
def rxTrim (a b : Nat) : Nat := 0x101014 + 0x4000 * a + 0x200 * b
/-- TX_TRIM(s) (R238). -/
def txTrim (a b : Nat) : Nat := 0x101018 + 0x4000 * a + 0x200 * b
/-- PFC_STAT(s) (R239). -/
def pfcStat (a b : Nat) : Nat := 0x10101c + 0x4000 * a + 0x200 * b
/-- PORT counter i (R240). -/
def portCnt (a b c : Nat) : Nat := 0x101100 + 0x4000 * a + 0x200 * b + 0x8 * c
/-- HDG.CTRL (R276). -/
def hdgCtrl : Nat := 0x180000
/-- HDG.STATUS (R277). -/
def hdgStatus : Nat := 0x180004
/-- HDG.FAULT_INFO (R278). -/
def hdgFaultInfo : Nat := 0x180008
/-- HDG.TAG_LIMIT (R279). -/
def hdgTagLimit : Nat := 0x18000c
/-- HDG.UC_ADDR (R280). -/
def hdgUcAddr : Nat := 0x180010
/-- HDG.UC_DATA(i) (R280). -/
def hdgUcData (a : Nat) : Nat := 0x180014 + 0x4 * a
/-- HDG.UC_CMD (R280). -/
def hdgUcCmd : Nat := 0x18002c
/-- HDG.DIAG_SEL (R281). -/
def hdgDiagSel : Nat := 0x180040
/-- HDG.DIAG_DATA (R281). -/
def hdgDiagData : Nat := 0x180044
/-- HDG.ENTRY(p) (R282). -/
def hdgEntry (a : Nat) : Nat := 0x180400 + 0x4 * a
/-- HDG.MAL_CTRL(g) (R283). -/
def hdgMalCtrl (a : Nat) : Nat := 0x190000 + 0x1000 * a
/-- HDG.EVENTS(g) (R284). -/
def hdgEvents (a : Nat) : Nat := 0x190004 + 0x1000 * a
/-- HDG.QSTAT(g) (R285). -/
def hdgQstat (a : Nat) : Nat := 0x190008 + 0x1000 * a
/-- HDG.PORT_LIMIT(g) (R285). -/
def hdgPortLimit (a : Nat) : Nat := 0x19000c + 0x1000 * a
/-- HDG.MAL_CNT(g, r) (R286). -/
def hdgMalCnt (a b : Nat) : Nat := 0x190100 + 0x1000 * a + 0x8 * b
/-- HDG.ADMIT_DROP(g, s) (R286). -/
def hdgAdmitDrop (a b : Nat) : Nat := 0x190200 + 0x1000 * a + 0x8 * b
/-- HDG.PARSED(g) (R286). -/
def hdgParsed (a : Nat) : Nat := 0x190300 + 0x1000 * a
/-- HDG.WORDS(g) (R286). -/
def hdgWords (a : Nat) : Nat := 0x190308 + 0x1000 * a
/-- HDG.BORROWED(g) (R286). -/
def hdgBorrowed (a : Nat) : Nat := 0x190310 + 0x1000 * a
/-- WEIR.CTRL (R323). -/
def weirCtrl : Nat := 0x200000
/-- WEIR.STATUS (R323). -/
def weirStatus : Nat := 0x200004
/-- WEIR.FH_INFO (R323). -/
def weirFhInfo : Nat := 0x200008
/-- WEIR.CMD (R324). -/
def weirCmd : Nat := 0x200010
/-- WEIR.RESULT (R324). -/
def weirResult : Nat := 0x200014
/-- WEIR.WR_VAL(i) (R325). -/
def weirWrVal (a : Nat) : Nat := 0x200100 + 0x4 * a
/-- WEIR.WR_MASK(i) (R325). -/
def weirWrMask (a : Nat) : Nat := 0x200180 + 0x4 * a
/-- WEIR.WR_AD(i) (R325). -/
def weirWrAd (a : Nat) : Nat := 0x200200 + 0x4 * a
/-- WEIR.WR_FLAGS (R325). -/
def weirWrFlags : Nat := 0x200210
/-- WEIR.RD_VAL(i) (R325). -/
def weirRdVal (a : Nat) : Nat := 0x200300 + 0x4 * a
/-- WEIR.RD_MASK(i) (R325). -/
def weirRdMask (a : Nat) : Nat := 0x200380 + 0x4 * a
/-- WEIR.RD_AD(i) (R325). -/
def weirRdAd (a : Nat) : Nat := 0x200400 + 0x4 * a
/-- WEIR.RD_FLAGS (R325). -/
def weirRdFlags : Nat := 0x200410
/-- WEIR.MISS_AD(i) (R326). -/
def weirMissAd (a : Nat) : Nat := 0x200420 + 0x4 * a
/-- WEIR.PROF_A(p) (R327). -/
def weirProfA (a : Nat) : Nat := 0x201000 + 0x10 * a
/-- WEIR.PROF_SEG01(p) (R327). -/
def weirProfSeg01 (a : Nat) : Nat := 0x201004 + 0x10 * a
/-- WEIR.PROF_SEG23(p) (R327). -/
def weirProfSeg23 (a : Nat) : Nat := 0x201008 + 0x10 * a
/-- WEIR counter k of replica r (R328). -/
def weirCnt (a b : Nat) : Nat := 0x202000 + 0x100 * a + 0x8 * b
/-- EMT.CTRL (R330). -/
def emtCtrl : Nat := 0x240000
/-- EMT.STATUS (R330). -/
def emtStatus : Nat := 0x240004
/-- EMT.FH_INFO (R330). -/
def emtFhInfo : Nat := 0x240008
/-- EMT.KEY(i) (R331). -/
def emtKey (a : Nat) : Nat := 0x240010 + 0x4 * a
/-- EMT.DATA (R331). -/
def emtData : Nat := 0x240020
/-- EMT.FLAGS (R331). -/
def emtFlags : Nat := 0x240024
/-- EMT.CMD (R332). -/
def emtCmd : Nat := 0x24002c
/-- EMT.RESULT (R332). -/
def emtResult : Nat := 0x240030
/-- EMT.RD_DATA (R331). -/
def emtRdData : Nat := 0x240034
/-- EMT.RD_LAST_HIT (R331). -/
def emtRdLastHit : Nat := 0x240038
/-- EMT.RD_FLAGS (R331). -/
def emtRdFlags : Nat := 0x24003c
/-- EMT.RD_KEY(i) (R331). -/
def emtRdKey (a : Nat) : Nat := 0x240040 + 0x4 * a
/-- EMT.LQ_STAT (R333). -/
def emtLqStat : Nat := 0x240080
/-- EMT.LQ_EVENTS (R333). -/
def emtLqEvents : Nat := 0x240084
/-- EMT.LQ_POP (R333). -/
def emtLqPop : Nat := 0x240088
/-- EMT EVICTIONS (R334). -/
def emtEvictions : Nat := 0x240090
/-- EMT LQ_LOST (R334). -/
def emtLqLost : Nat := 0x240098
/-- EMT.LQ_DATA(i) (R333). -/
def emtLqData (a : Nat) : Nat := 0x2400a0 + 0x4 * a
/-- EMT counter k of replica g (R334). -/
def emtCnt (a b : Nat) : Nat := 0x241000 + 0x40 * a + 0x8 * b
/-- DSP.CTRL (R367). -/
def dspCtrl : Nat := 0x280000
/-- DSP.HASH_SEED (R367). -/
def dspHashSeed : Nat := 0x280004
/-- DSP.WD (R368). -/
def dspWd : Nat := 0x280008
/-- DSP.EXC_WD (R368). -/
def dspExcWd : Nat := 0x28000c
/-- DSP.LIMITS (R368). -/
def dspLimits : Nat := 0x280010
/-- DSP.STATUS (R369). -/
def dspStatus : Nat := 0x280014
/-- DSP.DOM_SEL (R370). -/
def dspDomSel : Nat := 0x280018
/-- DSP.DOM_DATA (R370). -/
def dspDomData : Nat := 0x28001c
/-- DSP.DIAG_SEL (R371). -/
def dspDiagSel : Nat := 0x280030
/-- DSP.DIAG_DATA (R371). -/
def dspDiagData : Nat := 0x280034
/-- DSP.BUDGET(t) (R372). -/
def dspBudget (a : Nat) : Nat := 0x280040 + 0x4 * a
/-- DSP RELEASED (R374). -/
def dspReleased : Nat := 0x280080
/-- DSP BP_CYCLES (R374). -/
def dspBpCycles : Nat := 0x280088
/-- DSP.CL_STAT(n) (R373). -/
def dspClStat (a : Nat) : Nat := 0x281000 + 0x40 * a
/-- DSP.CL_EVENTS(n) (R373). -/
def dspClEvents (a : Nat) : Nat := 0x281004 + 0x40 * a
/-- DSP.CL_ALARM(n) (R373). -/
def dspClAlarm (a : Nat) : Nat := 0x281008 + 0x40 * a
/-- DSP counter k of cluster n (R374). -/
def dspClCnt (a b : Nat) : Nat := 0x281010 + 0x40 * a + 0x8 * b
/-- FLM.FEAT(i) (R398). -/
def flmFeat (a b : Nat) : Nat := 0x300000 + 0x10000 * a + 0x4 * b
/-- FLM.CE_CTRL(e) (R412). -/
def flmCeCtrl (a b : Nat) : Nat := 0x300040 + 0x10000 * a + 0x8 * b
/-- FLM.CE_STATUS(e) (R412). -/
def flmCeStatus (a b : Nat) : Nat := 0x300044 + 0x10000 * a + 0x8 * b
/-- FLM.CL_CTRL (R413). -/
def flmClCtrl (a : Nat) : Nat := 0x300100 + 0x10000 * a
/-- FLM.CL_STATUS (R413). -/
def flmClStatus (a : Nat) : Nat := 0x300104 + 0x10000 * a
/-- FLM.CL_EVENTS (R413). -/
def flmClEvents (a : Nat) : Nat := 0x300108 + 0x10000 * a
/-- FLM.CL_ALARM (R413). -/
def flmClAlarm (a : Nat) : Nat := 0x30010c + 0x10000 * a
/-- FLM.FAULT_INFO (R414). -/
def flmFaultInfo (a : Nat) : Nat := 0x300110 + 0x10000 * a
/-- FLM.FAULT_PC (R414). -/
def flmFaultPc (a : Nat) : Nat := 0x300114 + 0x10000 * a
/-- FLM.PS_ADDR (R415). -/
def flmPsAddr (a : Nat) : Nat := 0x300120 + 0x10000 * a
/-- FLM.PS_DATA (R415). -/
def flmPsData (a : Nat) : Nat := 0x300124 + 0x10000 * a
/-- FLM.SHM_ADDR (R415). -/
def flmShmAddr (a : Nat) : Nat := 0x300128 + 0x10000 * a
/-- FLM.SHM_DATA (R415). -/
def flmShmData (a : Nat) : Nat := 0x30012c + 0x10000 * a
/-- FLM.DIAG_SEL (R416). -/
def flmDiagSel (a : Nat) : Nat := 0x300130 + 0x10000 * a
/-- FLM.DIAG_DATA (R416). -/
def flmDiagData (a : Nat) : Nat := 0x300134 + 0x10000 * a
/-- FLM counter k of the cluster (R416). -/
def flmCnt (a b : Nat) : Nat := 0x300200 + 0x10000 * a + 0x8 * b
/-- FLE.CTRL (R564). -/
def fleCtrl : Nat := 0x400000
/-- FLE.STATUS (R564). -/
def fleStatus : Nat := 0x400004
/-- FLE.OP_ERR_INFO (R564). -/
def fleOpErrInfo : Nat := 0x400008
/-- FLE.OP_ERR_POS (R564). -/
def fleOpErrPos : Nat := 0x40000c
/-- FLE.DIAG_SEL (R565). -/
def fleDiagSel : Nat := 0x400040
/-- FLE.DIAG_DATA (R565). -/
def fleDiagData : Nat := 0x400044
/-- FLE.EXP_CTRL (R566). -/
def fleExpCtrl : Nat := 0x400100
/-- FLE.EXP_BASE_LO (R566). -/
def fleExpBaseLo : Nat := 0x400104
/-- FLE.EXP_BASE_HI (R566). -/
def fleExpBaseHi : Nat := 0x400108
/-- FLE.EXP_SIZE (R566). -/
def fleExpSize : Nat := 0x40010c
/-- FLE.EXP_PROD (R566). -/
def fleExpProd : Nat := 0x400110
/-- FLE.EXP_CONS (R566). -/
def fleExpCons : Nat := 0x400114
/-- FLE.EXP_EVENTS (R566). -/
def fleExpEvents : Nat := 0x400118
/-- FLE.EXP_DOMAIN (R566). -/
def fleExpDomain : Nat := 0x40011c
/-- FLE.EXP_PFX_LO (R566). -/
def fleExpPfxLo : Nat := 0x400120
/-- FLE.EXP_PFX_HI (R566). -/
def fleExpPfxHi : Nat := 0x400124
/-- FLE.EXP_FORMAT (R566). -/
def fleExpFormat : Nat := 0x400128
/-- FLE.EXP_OUT (R566). -/
def fleExpOut : Nat := 0x40012c
/-- FLE.EXP_UTC (R566). -/
def fleExpUtc : Nat := 0x400130
/-- FLE.EXP_SEQ (R566). -/
def fleExpSeq : Nat := 0x400134
/-- FLE counter k (R567). -/
def fleCnt (a : Nat) : Nat := 0x400200 + 0x8 * a
/-- FLE.GEOM (R531). -/
def fleGeom : Nat := 0x401000
/-- FLE.STORE_CTRL (R531). -/
def fleStoreCtrl : Nat := 0x401004
/-- FLE.SHARD (R531). -/
def fleShard : Nat := 0x401008
/-- FLE.EQ_BASE_LO (R532). -/
def fleEqBaseLo (a : Nat) : Nat := 0x401010 + 0x20 * a
/-- FLE.EQ_BASE_HI (R532). -/
def fleEqBaseHi (a : Nat) : Nat := 0x401014 + 0x20 * a
/-- FLE.EQ_SIZE (R532). -/
def fleEqSize (a : Nat) : Nat := 0x401018 + 0x20 * a
/-- FLE.EQ_PROD (R532). -/
def fleEqProd (a : Nat) : Nat := 0x40101c + 0x20 * a
/-- FLE.EQ_CONS (R532). -/
def fleEqCons (a : Nat) : Nat := 0x401020 + 0x20 * a
/-- FLE.EQ_EVENTS (R532). -/
def fleEqEvents (a : Nat) : Nat := 0x401024 + 0x20 * a
/-- FLE.EQ_LOST (R532). -/
def fleEqLost (a : Nat) : Nat := 0x401028 + 0x20 * a
/-- FLE.SWEEP_CMD (R533). -/
def fleSweepCmd : Nat := 0x401060
/-- FLE.SWEEP_IDLE_LO (R533). -/
def fleSweepIdleLo : Nat := 0x401064
/-- FLE.SWEEP_IDLE_HI (R533). -/
def fleSweepIdleHi : Nat := 0x401068
/-- FLE.SWEEP_TENANT (R533). -/
def fleSweepTenant : Nat := 0x40106c
/-- FLE.SWEEP_RATE (R533). -/
def fleSweepRate : Nat := 0x401070
/-- FLE.SWEEP_ABORT (R533). -/
def fleSweepAbort : Nat := 0x401074
/-- FLE.SWEEP_RESULT (R533). -/
def fleSweepResult : Nat := 0x401078
/-- FLE SWEEP SCANNED, MATCHED, EXPIRED, SKIPPED, ORPHANS, LOST (R533). -/
def fleSweepCnt (a : Nat) : Nat := 0x40107c + 0x4 * a
/-- FLE.SWEEP_PROGRESS (R533). -/
def fleSweepProgress : Nat := 0x401094
/-- FLE.FS_STAT(n) (R534). -/
def fleFsStat (a : Nat) : Nat := 0x401400 + 0x80 * a
/-- FLE.FS_EVENTS(n) (R534). -/
def fleFsEvents (a : Nat) : Nat := 0x401404 + 0x80 * a
/-- FLE.FS_ALARM(n) (R534). -/
def fleFsAlarm (a : Nat) : Nat := 0x401408 + 0x80 * a
/-- FLE counter k of slice n (R535). -/
def fleFsCnt (a b : Nat) : Nat := 0x401410 + 0x80 * a + 0x8 * b
/-- QM.STATUS (R597). -/
def qmStatus : Nat := 0x480000
/-- QM.EVENTS (R597). -/
def qmEvents : Nat := 0x480004
/-- QM.FLUSH_INFO (R597). -/
def qmFlushInfo : Nat := 0x480008
/-- QM.ALARM_INFO (R597). -/
def qmAlarmInfo : Nat := 0x48000c
/-- QM.MC_SEL (R598). -/
def qmMcSel : Nat := 0x480010
/-- QM.MC_DATA(i) (R598). -/
def qmMcData (a : Nat) : Nat := 0x480014 + 0x4 * a
/-- QM.MC_CMD (R598). -/
def qmMcCmd : Nat := 0x480028
/-- QM.SIPHON(s) (R599). -/
def qmSiphon (a : Nat) : Nat := 0x480040 + 0x4 * a
/-- QM.PROF_A(k) (R600). -/
def qmProfA (a : Nat) : Nat := 0x480080 + 0x8 * a
/-- QM.PROF_B(k) (R600). -/
def qmProfB (a : Nat) : Nat := 0x480084 + 0x8 * a
/-- QM.VOQ_STAT(g) (R601). -/
def qmVoqStat (a : Nat) : Nat := 0x4800c0 + 0x4 * a
/-- QM Spillway counter i (R595). -/
def qmSpill (a : Nat) : Nat := 0x480200 + 0x8 * a
/-- QM.QCFG(p, q) (R601). -/
def qmQcfg (a b : Nat) : Nat := 0x481000 + 0x40 * a + 0x4 * b
/-- QM.QDEPTH(p, q) (R601). -/
def qmQdepth (a b : Nat) : Nat := 0x484000 + 0x40 * a + 0x4 * b
/-- QM counter k of port p (R602). -/
def qmCnt (a b : Nat) : Nat := 0x488000 + 0x20 * a + 0x8 * b
/-- BPM.STATUS (R622). -/
def bpmStatus : Nat := 0x4c0000
/-- BPM.EVENTS (R622). -/
def bpmEvents : Nat := 0x4c0004
/-- BPM.ERR_INFO (R622). -/
def bpmErrInfo : Nat := 0x4c0008
/-- BPM.ERR_HANDLE (R622). -/
def bpmErrHandle : Nat := 0x4c000c
/-- BPM.CMD (R623). -/
def bpmCmd : Nat := 0x4c0010
/-- BPM.ARG0 (R623). -/
def bpmArg0 : Nat := 0x4c0014
/-- BPM.ARG1 (R623). -/
def bpmArg1 : Nat := 0x4c0018
/-- BPM.RESULT (R623). -/
def bpmResult : Nat := 0x4c001c
/-- BPM.RES_HANDLE (R623). -/
def bpmResHandle : Nat := 0x4c0020
/-- BPM.CL_OWNER(n) (R625). -/
def bpmClOwner (a : Nat) : Nat := 0x4c0040 + 0x4 * a
/-- BPM_DOUBLE_FREE (R620). -/
def bpmDoubleFree : Nat := 0x4c0080
/-- BPM_FOREIGN_FREE (R620). -/
def bpmForeignFree : Nat := 0x4c0088
/-- BPM.POOL_BASE_LO(k) (R624). -/
def bpmPoolBaseLo (a : Nat) : Nat := 0x4c0100 + 0x20 * a
/-- BPM.POOL_BASE_HI(k) (R624). -/
def bpmPoolBaseHi (a : Nat) : Nat := 0x4c0104 + 0x20 * a
/-- BPM.POOL_COUNT(k) (R624). -/
def bpmPoolCount (a : Nat) : Nat := 0x4c0108 + 0x20 * a
/-- BPM.POOL_FREE(k) (R624). -/
def bpmPoolFree (a : Nat) : Nat := 0x4c010c + 0x20 * a
/-- BPM.POOL_LOW(k) (R624). -/
def bpmPoolLow (a : Nat) : Nat := 0x4c0110 + 0x20 * a
/-- BPM.OWN_MIN(o, k) (R625). -/
def bpmOwnMin (a b : Nat) : Nat := 0x4c2000 + 0x40 * a + 0x8 * b
/-- BPM.OWN_MAX(o, k) (R625). -/
def bpmOwnMax (a b : Nat) : Nat := 0x4c2004 + 0x40 * a + 0x8 * b
/-- BPM.HELD(o, k) (R625). -/
def bpmHeld (a b : Nat) : Nat := 0x4c4000 + 0x20 * a + 0x4 * b
/-- BPM.OWN_CTRL(o) (R625). -/
def bpmOwnCtrl (a : Nat) : Nat := 0x4c4014 + 0x20 * a
/-- BPM counter c of owner o (R620). -/
def bpmOwnCnt (a b : Nat) : Nat := 0x4c6000 + 0x20 * a + 0x8 * b
/-- SCH.CTRL (R648). -/
def schCtrl : Nat := 0x500000
/-- SCH.EVENTS (R648). -/
def schEvents : Nat := 0x500004
/-- SCH.PFC_SA_LO (R648). -/
def schPfcSaLo : Nat := 0x500008
/-- SCH.PFC_SA_HI (R648). -/
def schPfcSaHi : Nat := 0x50000c
/-- SCH.SR_BASE_LO (R648). -/
def schSrBaseLo : Nat := 0x500010
/-- SCH.SR_BASE_HI (R648). -/
def schSrBaseHi : Nat := 0x500014
/-- SCH.SR_SIZE (R648). -/
def schSrSize : Nat := 0x500018
/-- SCH.SR_PROD (R648). -/
def schSrProd : Nat := 0x50001c
/-- SCH.SR_CONS (R648). -/
def schSrCons : Nat := 0x500020
/-- SCH.SR_PERIOD (R648). -/
def schSrPeriod : Nat := 0x500024
/-- SCH.SR_LOST (R648). -/
def schSrLost : Nat := 0x500028
/-- SCH.SR_SKIP (R648). -/
def schSrSkip : Nat := 0x50002c
/-- SCH.DELAY_ALARM (R648). -/
def schDelayAlarm : Nat := 0x500030
/-- SCH.ECN_MIN(k) (R648). -/
def schEcnMin (a : Nat) : Nat := 0x500100 + 0x8 * a
/-- SCH.ECN_MAX(k) (R648). -/
def schEcnMax (a : Nat) : Nat := 0x500104 + 0x8 * a
/-- SCH.PORT_CFG(p) (R649). -/
def schPortCfg (a : Nat) : Nat := 0x501000 + 0x40 * a
/-- SCH.GRP_WEIGHT(p) (R649). -/
def schGrpWeight (a : Nat) : Nat := 0x501004 + 0x40 * a
/-- SCH.QMAP(p) (R650). -/
def schQmap (a : Nat) : Nat := 0x501008 + 0x40 * a
/-- SCH.PFC_CFG(p) (R651). -/
def schPfcCfg (a : Nat) : Nat := 0x50100c + 0x40 * a
/-- SCH.PFC_STAT(p) (R651). -/
def schPfcStat (a : Nat) : Nat := 0x501010 + 0x40 * a
/-- SCH.QSCH(p, q) (R652). -/
def schQsch (a b : Nat) : Nat := 0x504000 + 0x40 * a + 0x4 * b
/-- SCH.SLUICE_RATE(i) (R653). -/
def schSluiceRate (a : Nat) : Nat := 0x510000 + 0x10 * a
/-- SCH.SLUICE_BURST(i) (R653). -/
def schSluiceBurst (a : Nat) : Nat := 0x510004 + 0x10 * a
/-- SCH.SLUICE_CREDIT(i) (R653). -/
def schSluiceCredit (a : Nat) : Nat := 0x510008 + 0x10 * a
/-- SCH counter k of port p (R654). -/
def schCnt (a b : Nat) : Nat := 0x540000 + 0x20 * a + 0x8 * b
/-- TB.CTRL (R689). -/
def tbCtrl : Nat := 0x580000
/-- TB.STATUS (R689). -/
def tbStatus : Nat := 0x580004
/-- TB.EVENTS (R689). -/
def tbEvents : Nat := 0x580008
/-- TB.SERVO (R690). -/
def tbServo : Nat := 0x58000c
/-- TB.JUMP (R690). -/
def tbJump : Nat := 0x580010
/-- TB.JUMP_INFO (R690). -/
def tbJumpInfo : Nat := 0x580014
/-- TB.SLEW_MS (R690). -/
def tbSlewMs : Nat := 0x580018
/-- TB.FREQ (R690). -/
def tbFreq : Nat := 0x58001c
/-- TB.SEC_LO (R691). -/
def tbSecLo : Nat := 0x580020
/-- TB.SEC_HI (R691). -/
def tbSecHi : Nat := 0x580024
/-- TB.NS (R691). -/
def tbNs : Nat := 0x580028
/-- TB.FRAC (R691). -/
def tbFrac : Nat := 0x58002c
/-- TB.SET_SEC_LO (R691). -/
def tbSetSecLo : Nat := 0x580030
/-- TB.SET_SEC_HI (R691). -/
def tbSetSecHi : Nat := 0x580034
/-- TB.SET_NS (R691). -/
def tbSetNs : Nat := 0x580038
/-- TB.SET_FRAC (R691). -/
def tbSetFrac : Nat := 0x58003c
/-- TB.ADJ_LO (R691). -/
def tbAdjLo : Nat := 0x580040
/-- TB.ADJ_HI (R691). -/
def tbAdjHi : Nat := 0x580044
/-- TB.CMD (R692). -/
def tbCmd : Nat := 0x580048
/-- TB.CMD_RESULT (R692). -/
def tbCmdResult : Nat := 0x58004c
/-- TB.PPS_CTRL (R693). -/
def tbPpsCtrl : Nat := 0x580050
/-- TB.PPS_IN_TRIM (R693). -/
def tbPpsInTrim : Nat := 0x580054
/-- TB.PPS_OUT_TRIM (R693). -/
def tbPpsOutTrim : Nat := 0x580058
/-- TB.PPS_SEC (R693). -/
def tbPpsSec : Nat := 0x58005c
/-- TB.PPS_NS (R693). -/
def tbPpsNs : Nat := 0x580060
/-- TB.PPS_FRAC (R693). -/
def tbPpsFrac : Nat := 0x580064
/-- TB.PPS_ERR (R693). -/
def tbPpsErr : Nat := 0x580068
/-- TB.PTP_CTRL (R693). -/
def tbPtpCtrl : Nat := 0x58006c
/-- TB.FRC_LO (R694). -/
def tbFrcLo : Nat := 0x580070
/-- TB.FRC_HI (R694). -/
def tbFrcHi : Nat := 0x580074
/-- TB.COMPAT_LO (R694). -/
def tbCompatLo : Nat := 0x580078
/-- TB.COMPAT_HI (R694). -/
def tbCompatHi : Nat := 0x58007c
/-- TB.COMPAT_OFS_LO (R694). -/
def tbCompatOfsLo : Nat := 0x580080
/-- TB.COMPAT_OFS_HI (R694). -/
def tbCompatOfsHi : Nat := 0x580084
/-- TB.COMPAT_RATE (R694). -/
def tbCompatRate : Nat := 0x580088
/-- TB.FRC_EPOCH (R694). -/
def tbFrcEpoch : Nat := 0x58008c
/-- TB.PEER_DELAY(p) (R695). -/
def tbPeerDelay (a : Nat) : Nat := 0x580100 + 0x4 * a
/-- TB counter k (R696). -/
def tbCnt (a : Nat) : Nat := 0x580400 + 0x8 * a
/-- STK.CTRL (R726). -/
def stkCtrl : Nat := 0x780000
/-- STK.STACK_ID (R726). -/
def stkStackId : Nat := 0x780004
/-- STK.TIMING (R726). -/
def stkTiming : Nat := 0x780008
/-- STK.STATUS (R727). -/
def stkStatus : Nat := 0x78000c
/-- STK.MEMBER_LO(m) (R727). -/
def stkMemberLo (a : Nat) : Nat := 0x780040 + 0x8 * a
/-- STK.MEMBER_HI(m) (R727). -/
def stkMemberHi (a : Nat) : Nat := 0x780044 + 0x8 * a
/-- STK.ROUTE(m) (R727). -/
def stkRoute (a : Nat) : Nat := 0x780080 + 0x4 * a
/-- STK STEERED (R729). -/
def stkSteered : Nat := 0x7800c0
/-- STK UNREACH (R729). -/
def stkUnreach : Nat := 0x7800c8
/-- STK.LINK_CFG(k) (R728). -/
def stkLinkCfg (a : Nat) : Nat := 0x780100 + 0x40 * a
/-- STK.EXP_SERIAL(k) (R728). -/
def stkExpSerial (a : Nat) : Nat := 0x780104 + 0x40 * a
/-- STK.LINK_STAT(k) (R728). -/
def stkLinkStat (a : Nat) : Nat := 0x780108 + 0x40 * a
/-- STK.PEER_SERIAL(k) (R728). -/
def stkPeerSerial (a : Nat) : Nat := 0x78010c + 0x40 * a
/-- STK.LINK_EVENTS(k) (R728). -/
def stkLinkEvents (a : Nat) : Nat := 0x780110 + 0x40 * a
/-- STK.ASYM(k) (R728). -/
def stkAsym (a : Nat) : Nat := 0x780114 + 0x40 * a
/-- STK.OFFSET(k) (R728). -/
def stkOffset (a : Nat) : Nat := 0x780118 + 0x40 * a
/-- STK.DELAY(k) (R728). -/
def stkDelay (a : Nat) : Nat := 0x78011c + 0x40 * a
/-- STK counter j of link k (R729). -/
def stkLinkCnt (a b : Nat) : Nat := 0x780120 + 0x40 * a + 0x8 * b
/-- Dn.STATUS (R761). -/
def dnStatus (a : Nat) : Nat := 0x600000 + 0x10000 * a
/-- Dn.EVENTS (R761). -/
def dnEvents (a : Nat) : Nat := 0x600004 + 0x10000 * a
/-- Dn.ALARM (R761). -/
def dnAlarm (a : Nat) : Nat := 0x600008 + 0x10000 * a
/-- Dn.SR_CTRL (R761). -/
def dnSrCtrl (a : Nat) : Nat := 0x60000c + 0x10000 * a
/-- Dn.DIAG_SEL (R762). -/
def dnDiagSel (a : Nat) : Nat := 0x600010 + 0x10000 * a
/-- Dn.DIAG_DATA (R762). -/
def dnDiagData (a : Nat) : Nat := 0x600014 + 0x10000 * a
/-- DMC counter k of stack n (R763). -/
def dnCnt (a b : Nat) : Nat := 0x600100 + 0x10000 * a + 0x8 * b
/-- DMC.CTRL (R758). -/
def dmcCtrl : Nat := 0x640000
/-- DMC.AGE (R758). -/
def dmcAge : Nat := 0x640004
/-- DMC.XLATE_LO (R760). -/
def dmcXlateLo : Nat := 0x640010
/-- DMC.XLATE_HI (R760). -/
def dmcXlateHi : Nat := 0x640014
/-- DMC.XLATE_RESULT (R760). -/
def dmcXlateResult : Nat := 0x640018
/-- DMC.PORT_CFG(i) (R759). -/
def dmcPortCfg (a : Nat) : Nat := 0x640100 + 0x4 * a
/-- DMC counter k of port i (R763). -/
def dmcPortCnt (a b : Nat) : Nat := 0x640200 + 0x20 * a + 0x8 * b
/-- DMC.LAT_MAX(i) (R763). -/
def dmcLatMax (a : Nat) : Nat := 0x640300 + 0x4 * a
/-- ECC.EVENTS (R786). -/
def eccEvents : Nat := 0x680000
/-- ECC.ALARM_INFO (R786). -/
def eccAlarmInfo : Nat := 0x680004
/-- ECC.REGION(i) (R786). -/
def eccRegion (a : Nat) : Nat := 0x680040 + 0x4 * a
/-- ECC.REGION_ALARM(i) (R787). -/
def eccRegionAlarm (a : Nat) : Nat := 0x680080 + 0x4 * a
/-- ECC.ARRAY_ALARM(k) (R787). -/
def eccArrayAlarm (a : Nat) : Nat := 0x6800e0 + 0x4 * a
/-- ECC.SCRUB_CMD (R788). -/
def eccScrubCmd : Nat := 0x680200
/-- ECC.SCRUB_START_LO (R788). -/
def eccScrubStartLo : Nat := 0x680204
/-- ECC.SCRUB_START_HI (R788). -/
def eccScrubStartHi : Nat := 0x680208
/-- ECC.SCRUB_LEN (R788). -/
def eccScrubLen : Nat := 0x68020c
/-- ECC.SCRUB_RATE (R788). -/
def eccScrubRate : Nat := 0x680210
/-- ECC.SCRUB_ABORT (R788). -/
def eccScrubAbort : Nat := 0x680214
/-- ECC.SCRUB_RESULT (R788). -/
def eccScrubResult : Nat := 0x680218
/-- ECC.SCRUB_ATOMS (R788). -/
def eccScrubAtoms : Nat := 0x68021c
/-- ECC.SCRUB_CORR1 (R788). -/
def eccScrubCorr1 : Nat := 0x680220
/-- ECC.SCRUB_CORR2 (R788). -/
def eccScrubCorr2 : Nat := 0x680224
/-- ECC.SCRUB_FIRST_LO (R788). -/
def eccScrubFirstLo : Nat := 0x680228
/-- ECC.SCRUB_FIRST_HI (R788). -/
def eccScrubFirstHi : Nat := 0x68022c
/-- ECC.SCRUB_LAST_LO (R788). -/
def eccScrubLastLo : Nat := 0x680230
/-- ECC.SCRUB_LAST_HI (R788). -/
def eccScrubLastHi : Nat := 0x680234
/-- ECC.SCRUB_PROGRESS (R788). -/
def eccScrubProgress : Nat := 0x680238
/-- ECC REGION_CORR(i) (R789). -/
def eccRegionCorr (a : Nat) : Nat := 0x680400 + 0x8 * a
/-- ECC ARRAY_CORR(k) (R789). -/
def eccArrayCorr (a : Nat) : Nat := 0x680500 + 0x8 * a
/-- DMA.CTRL (R814). -/
def dmaCtrl : Nat := 0x6c0000
/-- DMA.POLL (R814). -/
def dmaPoll : Nat := 0x6c0004
/-- DMA.STATUS (R814). -/
def dmaStatus : Nat := 0x6c0008
/-- DMA.RXMAP(q) (R814). -/
def dmaRxmap (a : Nat) : Nat := 0x6c0040 + 0x4 * a
/-- DMA.CH_CFG(c) (R815). -/
def dmaChCfg (a : Nat) : Nat := 0x6c1000 + 0x40 * a
/-- DMA.CH_DESC_LO(c) (R815). -/
def dmaChDescLo (a : Nat) : Nat := 0x6c1004 + 0x40 * a
/-- DMA.CH_DESC_HI(c) (R815). -/
def dmaChDescHi (a : Nat) : Nat := 0x6c1008 + 0x40 * a
/-- DMA.CH_CMD(c) (R815). -/
def dmaChCmd (a : Nat) : Nat := 0x6c100c + 0x40 * a
/-- DMA.CH_STAT(c) (R816). -/
def dmaChStat (a : Nat) : Nat := 0x6c1010 + 0x40 * a
/-- DMA.CH_COUNT(c) (R816). -/
def dmaChCount (a : Nat) : Nat := 0x6c1014 + 0x40 * a
/-- DMA.CH_ERR_LO(c) (R816). -/
def dmaChErrLo (a : Nat) : Nat := 0x6c1018 + 0x40 * a
/-- DMA.CH_ERR_HI(c) (R816). -/
def dmaChErrHi (a : Nat) : Nat := 0x6c101c + 0x40 * a
/-- DMA.CH_RESULT(c) (R817). -/
def dmaChResult (a : Nat) : Nat := 0x6c1020 + 0x40 * a
/-- DMA.CH_CMP_A(c) (R817). -/
def dmaChCmpA (a : Nat) : Nat := 0x6c1024 + 0x40 * a
/-- DMA.CH_CMP_B(c) (R817). -/
def dmaChCmpB (a : Nat) : Nat := 0x6c1028 + 0x40 * a
/-- DMA counter k of channel c (R818). -/
def dmaChCnt (a b : Nat) : Nat := 0x6c1030 + 0x40 * a + 0x8 * b
/-- EVC.ROUTE(s) (R836). -/
def evcRoute (a : Nat) : Nat := 0x700000 + 0x4 * a
/-- EVC.PENDING(t, w) (R836). -/
def evcPending (a b : Nat) : Nat := 0x700800 + 0x40 * a + 0x4 * b
/-- EVC.ENABLE(t, w) (R836). -/
def evcEnable (a b : Nat) : Nat := 0x700a00 + 0x40 * a + 0x4 * b
/-- EVC.SUMMARY(t) (R836). -/
def evcSummary (a : Nat) : Nat := 0x700c00 + 0x4 * a
/-- EVC.SET (R836). -/
def evcSet : Nat := 0x700c20
/-- EVC.LOCAL (R836). -/
def evcLocal : Nat := 0x700c24
/-- EVC.RAISED(s) (R836). -/
def evcRaised (a : Nat) : Nat := 0x701000 + 0x4 * a
/-- PMC.CTRL (R838). -/
def pmcCtrl : Nat := 0x740000
/-- PMC.CMD (R838). -/
def pmcCmd : Nat := 0x740004
/-- PMC.EVENTS (R838). -/
def pmcEvents : Nat := 0x740008
/-- PMC.OVF_LO (R838). -/
def pmcOvfLo : Nat := 0x740010
/-- PMC.OVF_HI (R838). -/
def pmcOvfHi : Nat := 0x740014
/-- PMC.SNAP_TIME_LO (R838). -/
def pmcSnapTimeLo : Nat := 0x740018
/-- PMC.SNAP_TIME_HI (R838). -/
def pmcSnapTimeHi : Nat := 0x74001c
/-- PMC.BW_CTRL (R838). -/
def pmcBwCtrl : Nat := 0x740020
/-- PMC.SEL(i) (R838). -/
def pmcSel (a : Nat) : Nat := 0x740100 + 0x4 * a
/-- PMC.CNT(i) (R838). -/
def pmcCnt (a : Nat) : Nat := 0x740200 + 0x8 * a
/-- PMC.SNAP(i) (R838). -/
def pmcSnap (a : Nat) : Nat := 0x740400 + 0x8 * a
/-- PMC.ENG_SEL(n) (R839). -/
def pmcEngSel (a : Nat) : Nat := 0x740800 + 0x4 * a
/-- PMC.SAMPLE_INFO(n) (R839). -/
def pmcSampleInfo (a : Nat) : Nat := 0x740880 + 0x10 * a
/-- PMC.SAMPLE_CTX(n) (R839). -/
def pmcSampleCtx (a : Nat) : Nat := 0x740884 + 0x10 * a
/-- PMC.SAMPLE_LOST(n) (R839). -/
def pmcSampleLost (a : Nat) : Nat := 0x740888 + 0x10 * a
/-- PMC.ENG(n, e, j) (R839). -/
def pmcEng (a b c : Nat) : Nat := 0x741000 + 0x80 * a + 0x8 * b + 0x4 * c
/-- PMC.BW_RX(p) (R839). -/
def pmcBwRx (a : Nat) : Nat := 0x743000 + 0x10 * a
/-- PMC.BW_TX(p) (R839). -/
def pmcBwTx (a : Nat) : Nat := 0x743004 + 0x10 * a
/-- PMC.BW_PEAK_RX(p) (R839). -/
def pmcBwPeakRx (a : Nat) : Nat := 0x743008 + 0x10 * a
/-- PMC.BW_PEAK_TX(p) (R839). -/
def pmcBwPeakTx (a : Nat) : Nat := 0x74300c + 0x10 * a
/-- MGT.CTRL (R855). -/
def mgtCtrl : Nat := 0x7c0000
/-- MGT.STATUS (R855). -/
def mgtStatus : Nat := 0x7c0004
/-- MGT.EVENTS (R855). -/
def mgtEvents : Nat := 0x7c0008
/-- MGT.FAIL_INFO (R855). -/
def mgtFailInfo : Nat := 0x7c000c
/-- MGT.IMG_RESULT (R855). -/
def mgtImgResult : Nat := 0x7c0010
/-- MGT.IP4 (R855). -/
def mgtIp4 : Nat := 0x7c0020
/-- MGT.IP4_GW (R855). -/
def mgtIp4Gw : Nat := 0x7c0024
/-- MGT.ADDR_CFG (R855). -/
def mgtAddrCfg : Nat := 0x7c0028
/-- MGT.IP6(i) (R855). -/
def mgtIp6 (a : Nat) : Nat := 0x7c0030 + 0x4 * a
/-- MGT.GW6(i) (R855). -/
def mgtGw6 (a : Nat) : Nat := 0x7c0040 + 0x4 * a
/-- MGT counter k (R856). -/
def mgtCnt (a : Nat) : Nat := 0x7c0080 + 0x8 * a

end Reg
end Sys2Proof.Machine
end

