-- ==== Sys2Proof/Machine/SMap.lean ====
section
/-! DEFINITION. Sparse maps from numbers to plain data, in one canonical form: keys strictly rising
and no entry equal to what an unlisted key reads as. Memory, the register file, the counters and the
per-unit tables of the module are all such maps. -/
namespace Sys2Proof.Machine

/-- A sparse map: the listed entries; an unlisted key reads as the map's default. -/
structure SMap (V : Type) where
  entries : List (Nat × V) := []
  deriving DecidableEq, Repr, Inhabited

/-- The entry listed at `k`, if there is one. -/
def smapFind {V : Type} : List (Nat × V) → Nat → Option V
  | [], _ => none
  | (a, v) :: r, k => if a = k then some v else smapFind r k

/-- The entries without any at `k`. -/
def smapErase {V : Type} (l : List (Nat × V)) (k : Nat) : List (Nat × V) := l.filter fun e => e.1 != k

/-- The entries with `k` listed as `v`, in rising order of keys. -/
def smapPut {V : Type} : List (Nat × V) → Nat → V → List (Nat × V)
  | [], k, v => [(k, v)]
  | (a, w) :: r, k, v =>
    if k < a then (k, v) :: (a, w) :: r
    else if k = a then (k, v) :: r
    else (a, w) :: smapPut r k v

namespace SMap

/-- The value at `k`, `d` where `k` is not listed. -/
def getD {V : Type} (m : SMap V) (d : V) (k : Nat) : V := (smapFind m.entries k).getD d

/-- `m` with `v` at `k`; writing the default `d` removes the entry, so that equal maps are equal data. -/
def setD {V : Type} [DecidableEq V] (m : SMap V) (d : V) (k : Nat) (v : V) : SMap V :=
  if v = d then ⟨smapErase m.entries k⟩ else ⟨smapPut m.entries k v⟩

/-- The value at `k` of a map whose unlisted keys read as the type's default. -/
def get {V : Type} [Inhabited V] (m : SMap V) (k : Nat) : V := m.getD default k

/-- `m` with `v` at `k`, for a map whose unlisted keys read as the type's default. -/
def set {V : Type} [Inhabited V] [DecidableEq V] (m : SMap V) (k : Nat) (v : V) : SMap V :=
  m.setD default k v

/-- `m` with the value at `k` changed by `f`. -/
def mod {V : Type} [Inhabited V] [DecidableEq V] (m : SMap V) (k : Nat) (f : V → V) : SMap V :=
  m.set k (f (m.get k))

/-- The keys listed, in rising order. -/
def keys {V : Type} (m : SMap V) : List Nat := m.entries.map Prod.fst

/-- The keys whose value satisfies `p` (for a `p` that the default does not satisfy, all such keys). -/
def find {V : Type} (m : SMap V) (p : V → Bool) : List Nat :=
  (m.entries.filter fun e => p e.2).map Prod.fst

/-- Whether keys rise strictly. -/
def rising {V : Type} : List (Nat × V) → Bool
  | [] => true
  | e :: r => r.all (fun f => decide (e.1 < f.1)) && rising r

/-- The canonical form: keys strictly rising and no entry equal to what an unlisted key reads as. -/
def wf {V : Type} [Inhabited V] [DecidableEq V] (m : SMap V) : Bool :=
  rising m.entries && m.entries.all fun e => decide (e.2 ≠ default)

end SMap
end Sys2Proof.Machine
end

