-- ==== Sys2Proof/Machine/Memory.lean ====
section
/-! DEFINITION. The byte memory of the address space (R162): the bytes it lists, with stretches whose contents the spec
leaves undefined (after a memory test, R863, or training, R138). -/
namespace Sys2Proof.Machine

/-- A stretch of undefined bytes, from `lo` up to `hi`: the byte at `a` is the free value numbered `c + a`. -/
structure Junk where
  lo : Nat := 0
  hi : Nat := 0
  c : Nat := 0
  deriving DecidableEq, Repr, Inhabited

/-- A byte memory: the bytes listed, and the stretches whose bytes are undefined; an address in neither reads as 0. -/
structure Mem where
  cells : SMap Byte := {}
  junk : List Junk := []
  deriving DecidableEq, Repr, Inhabited

/-- Whether a stretch covers an address. -/
def Junk.covers (j : Junk) (a : Nat) : Bool := j.lo ≤ a && a < j.hi

/-- What is left of a stretch outside the addresses from `lo` up to `hi`. -/
def Junk.without (j : Junk) (lo hi : Nat) : List Junk :=
  [{ j with hi := min j.hi lo }, { j with lo := max j.lo hi }].filter fun k => decide (k.lo < k.hi)

/-- A stretch put into a list of them by rising address. -/
def junkPut (j : Junk) : List Junk → List Junk
  | [] => [j]
  | k :: r => if j.lo < k.lo then j :: k :: r else k :: junkPut j r

/-- Whether stretches are not empty, rise and do not overlap. -/
def junkRising : List Junk → Bool
  | [] => true
  | j :: r => decide (j.lo < j.hi) && r.all (fun k => decide (j.hi ≤ k.lo)) && junkRising r

namespace Mem

/-- What an address that is not listed reads as: a free value in an undefined stretch, 0 elsewhere. -/
def unlisted (m : Mem) (a : Nat) : Byte :=
  match m.junk.find? fun j => j.covers a with
  | some j => BitVec.ofNat 8 (Config.freeValue (j.c + a))
  | none => 0

/-- One byte. -/
def get (m : Mem) (a : Nat) : Byte := m.cells.getD (m.unlisted a) a

/-- Memory with one byte stored. -/
def set (m : Mem) (a : Nat) (v : Byte) : Mem :=
  { cells := m.cells.set a v, junk := m.junk.flatMap fun j => j.without a (a + 1) }

/-- Memory with bytes stored from `a` upward. -/
def putBytes (m : Mem) (a : Nat) : List Byte → Mem
  | [] => m
  | b :: r => putBytes (m.set a b) (a + 1) r

/-- Bytes from `a` upward. -/
def getBytes (m : Mem) (a n : Nat) : List Byte := (List.range n).map fun i => m.get (a + i)

/-- Memory with the `n` bytes from `a` upward 0. -/
def clearRange (m : Mem) (a n : Nat) : Mem :=
  { cells := ⟨m.cells.entries.filter fun e => e.1 < a || a + n ≤ e.1⟩
    junk := m.junk.flatMap fun j => j.without a (a + n) }

/-- Memory with the `n` bytes from `a` upward undefined, numbered from `c`. -/
def undefine (m : Mem) (a n c : Nat) : Mem :=
  { m.clearRange a n with junk := if n = 0 then m.junk else junkPut { lo := a, hi := a + n, c := c } (m.clearRange a n).junk }

/-- The bytes from `lo` up to `hi` kept, the others 0. -/
def keep (m : Mem) (lo hi : Nat) : Mem :=
  { cells := ⟨m.cells.entries.filter fun e => lo ≤ e.1 && e.1 < hi⟩
    junk := (m.junk.map fun j => { j with lo := max j.lo lo, hi := min j.hi hi }).filter fun j => decide (j.lo < j.hi) }

/-- The canonical form: listed addresses strictly rising, no entry equal to what an unlisted address reads as, and
undefined stretches that rise, do not overlap and hold no listed address. -/
def wf (m : Mem) : Bool :=
  m.cells.wf && junkRising m.junk && m.cells.entries.all fun e => m.junk.all fun j => !j.covers e.1

end Mem
end Sys2Proof.Machine
end

