-- ==== Sys2Proof/Machine/State.lean ====
section
/-! DEFINITION. The state of the module: the register file, the counters, the memories, and the internal state of
every block, with the queue of waiting commands. -/
namespace Sys2Proof.Machine

/-- Why the machine stops. -/
inductive Fault where
  /-- raised by every meaning whose command names a unit that the module does not have (`Instr.wf`); safe: no such
  command exists on the hardware -/
  | illFormed
  deriving DecidableEq, Repr

/-- Why a command is refused. -/
inductive Refusal where
  /-- raised by an arm of `exec` for a command without a meaning; safe: nothing can be proved of it -/
  | notModelled (mnemonic : String)
  deriving DecidableEq, Repr

/-! ### Supply, cages and temperature (module supervisor) -/

/-- The electronic fuse of a cage (R82, R107). -/
inductive FuseState where
  | off | on | retrying | latched
  deriving DecidableEq, Repr, Inhabited

/-- One of the twenty cages C0–C15, L0–L3 (R26, R33, R82): optic present and answering CMIS, fuse, retries done. -/
structure Cage where
  present : Bool := false
  cmis : Bool := false
  fuse : FuseState := .off
  retries : Nat := 0
  /-- the fuse has latched and has not been re-armed since (R84) -/
  latched : Bool := false
  deriving DecidableEq, Repr, Inhabited

/-- Supply supervisor and thermal control (R64–R98). -/
structure Supply where
  /-- mains present and the module running or booting (R53) -/
  on : Bool := true
  /-- the input relay has opened on over-voltage (R67, R71) -/
  relayOpen : Bool := false
  /-- the opening scheduled by an over-voltage, in ms after it (R67) -/
  relayDue : Option Nat := none
  cages : SMap Cage := {}
  /-- input last measured, in 0.01 V rms and 0.1 Hz: at power-on the voltage that started the boot (R53) -/
  vrms : Nat := 8501
  freq : Nat := 0
  /-- DC output power last measured, in 0.1 W (R65) -/
  dcW : Nat := 0
  /-- inlet and junction temperatures last measured, in 0.1 °C (R93) -/
  inlet : Int := 0
  tj : Int := 0
  /-- sag and interruption confirmed in the ride-through in progress (R67) -/
  sagged : Bool := false
  interrupted : Bool := false
  /-- the excursion above 265 V rms in progress has been reported (R67) -/
  high : Bool := false
  /-- protective earth open, line and neutral swapped (R67, R70) -/
  peOpen : Bool := false
  lnSwap : Bool := false
  /-- fans that count as failed (R92) -/
  failed : List Nat := []
  /-- ms for which input power has stayed above 800 W (R85) -/
  overMs : Nat := 0
  /-- ms since the last shedding or overload clock step (R85, R90) -/
  sinceStepMs : Nat := 0
  /-- shedding has begun and input power has not yet been below 760 W (R85) -/
  shedding : Bool := false
  /-- ms for which input power has stayed below 760 W (R90) -/
  underMs : Nat := 0
  /-- ms for which input power has stayed above 900 W (R90) -/
  over900Ms : Nat := 0
  /-- ms since the input was last outside 85–265 V rms (R69) -/
  rechargeMs : Nat := 500
  /-- the hold-up of R68 was available when the input last left that range (R69) -/
  charged : Bool := true
  /-- Flume clock steps called for by R93: 0, 1 or 2 -/
  thermStep : Nat := 0
  /-- steps down in the over-temperature condition in progress (R93) -/
  hotSteps : Nat := 0
  /-- steps up in the low-temperature condition in progress (R93) -/
  coolSteps : Nat := 0
  /-- Flume clock steps called for by R90: 0, 1 or 2 -/
  ovlStep : Nat := 0
  /-- minutes above 40 °C in each of the 365 daily bins (R95) -/
  bins : SMap Nat := {}
  /-- the bin being counted -/
  today : Nat := 0
  deriving DecidableEq, Repr, Inhabited

/-! ### Flash, fuses, retention -/

/-- One-time-programmable fuses (R126, R128, R139, R186, R862): 48-bit serial number, SVN thermometer,
programmed and revoked key slots with their SHA-256 hashes, the service key and the JTAG lock. -/
structure Fuses where
  serial : Nat := 0
  svn : Nat := 0
  programmed : Nat := 0
  revoked : Nat := 0
  keyHash : SMap Nat := {}
  serviceKey : Nat := 0
  jtagLock : Bool := false
  deriving DecidableEq, Repr, Inhabited

/-- The two configuration flashes (R117): bytes at flash × 0x800_0000 + offset, erases per 64 KiB sector, and the
monotonic number of the next fault record (R150). -/
structure Flash where
  bytes : SMap Byte := {}
  erases : SMap Nat := {}
  nextRecord : Nat := 0
  /-- excursion bins as written to flash (R95) -/
  bins : SMap Nat := {}
  deriving DecidableEq, Repr, Inhabited

/-- The always-on domain (R133, R149): the 64 KiB retention RAM, whether the domain has kept its power, and the
timekeeper's copy of T and its validity (R659). -/
structure AlwaysOn where
  alive : Bool := true
  retention : SMap Byte := {}
  /-- DRAM held in self-refresh throughout the reset (R142) -/
  dramHeld : Bool := false
  timekeeper : Nat := 0
  timeValid : Bool := false
  deriving DecidableEq, Repr, Inhabited

/-! ### Boot and restart -/

/-- Whether the ASIC core is unpowered, held in reset or running (R133, R871). -/
inductive CoreState where
  | off | held | running
  deriving DecidableEq, Repr, Inhabited

/-- A stop in progress (R75, R146). A restart command's own sequence (R144) is part of the command. -/
inductive StopKind where
  | none
  /-- fault stop, from the freeze to the capture's close (R146) -/
  | fault
  /-- orderly stop after a brown-out or thermal stop (R75), and with the core off the wait of R76 -/
  | orderly
  deriving DecidableEq, Repr, Inhabited

/-- What a fault record says of an error: detecting block base, syndrome, failing address, region (R149). -/
structure ErrorPlace where
  base : Nat := 0
  syndrome : Nat := 0
  addr : Nat := 0
  region : Nat := 0xFFFFFFFF
  deriving DecidableEq, Repr, Inhabited

/-- The boot sequencer (R129–R144). -/
structure Boot where
  core : CoreState := .held
  stop : StopKind := .none
  /-- the fault stop in progress writes a summary and capture: no earlier one still waits for the flash (R148) -/
  capturing : Bool := false
  /-- BOOTSEL as sampled at power-on reset release (R49) -/
  bootsel : Bool := false
  /-- lamp test running (R56) -/
  lampTest : Bool := true
  /-- the first memory error after an orderly stop began, and how many more (R78) -/
  orderlyErr : Option ErrorPlace := none
  orderlyErrs : Nat := 0
  /-- the time base's run when the orderly stop in progress began, and whether its first 10 µs are over (R75) -/
  stopRun : Nat := 0
  settled : Bool := false
  /-- cause of the stop or restart (R151) -/
  cause : Nat := 0
  /-- mode requested: 0 cold, 1 warm, 2 state-retaining (R141) -/
  requested : Nat := 0
  /-- after a coincident brown-out or thermal stop the restart waits for R76 (R148): bit 0 brown-out, bit 1 thermal -/
  holdRestart : Bool := false
  holdBits : Nat := 0
  /-- image slots still to be tried, in the order of R129 -/
  order : List Nat := []
  /-- the RESTART section's values of the running image (R124): on-fault, on-orderly, on-watchdog, on-command -/
  onFault : Nat := 2
  onOrderly : Nat := 2
  onWatchdog : Nat := 1
  onCommand : Nat := 1
  confirmS : Nat := 30
  attempts : Nat := 3
  faults : Nat := 3
  windowS : Nat := 600
  /-- BOOT.CONFIRM has been written in this run (R130) -/
  confirmed : Bool := false
  /-- the system watchdog's count in ns since the last kick, and whether half of TIMEOUT has been announced (R160, R819) -/
  wdNs : Nat := 0
  wdHalf : Bool := false
  /-- the millisecond after the last TIMEOUT write, in ns of that count: no expiry comes before it (R160) -/
  wdFloor : Nat := 0
  /-- ns since the image became valid (R131) -/
  runNs : Nat := 0
  /-- slot and SEQUENCE of the image that ran before the last reset, for its fault record (R150) -/
  lastSlot : Nat := 0
  lastSeq : Nat := 0
  /-- the key slot that signs the running image (R159) -/
  keySlot : Nat := 0
  /-- steps of R136 done -/
  sectionsDone : Bool := false
  trainFails : SMap Nat := {}
  trained : List Nat := []
  srExited : Bool := false
  regionsCleared : Bool := false
  blobsDone : Bool := false
  calFails : SMap Nat := {}
  calibrated : List Nat := []
  /-- re-validation: the next record to read (R153) -/
  revalNext : Nat := 0
  /-- a DRAM stack failed training in this boot (R138) -/
  trainFailed : Bool := false
  /-- lines the UART has printed in service boot (R139) -/
  uartLines : Nat := 0
  deriving DecidableEq, Repr, Inhabited

/-! ### Ports -/

/-- Link state of a port (R204). -/
structure Port where
  /-- STATE 0–6 -/
  state : Nat := 0
  /-- CAL_VALID (R226) -/
  calValid : Bool := false
  linkDowns : Nat := 0
  /-- a remote fault is being received in state 6 or debounced in state 4 (R204) -/
  remoteFault : Bool := false
  /-- classes paused by received PFC, with the time value in quanta (R221) -/
  paused : SMap Nat := {}
  /-- copies being received that started while the port was up: packet ids with no tail verdict yet -/
  receiving : List Nat := []
  /-- the frames of `receiving` as they arrive, with the error met so far (R210) -/
  arriving : SMap RxFrame := {}
  /-- skew of each lane of the port at the last link-up, in 2^-16 ns (R224, R225) -/
  skews : List Nat := []
  /-- the time base's run at the last entry to state 5 from state 4: frames that started earlier are discarded (R873) -/
  upRun : Nat := 0
  /-- alignment lock was lost in state 4: the debounce waits for it (R204) -/
  lockLost : Bool := false
  deriving DecidableEq, Repr, Inhabited

/-- A fixed window's count (R234, R268 and the other alarms): events counted in the window in progress. -/
abbrev WindowCounts := SMap Nat

/-! ### Headgate -/

/-- State of a parse slice (R281): idle, running, stopped at a safe point, result waiting; and a slice that has
taken a header but not yet started (R244). -/
inductive SliceState where
  | idle | taken | running | stopped | waiting
  deriving DecidableEq, Repr, Inhabited

/-- The parse result of R264, with the group that admitted the packet, the packet, and whether the whole frame
had arrived when the parse started. -/
structure ParseResult where
  xbuf : SMap Byte := {}
  ofs : SMap Nat := {}
  ovalid : Nat := 0
  flags : Nat := 0
  pcls : Nat := 0
  tc : Nat := 0
  level : Nat := 0
  vlanCnt : Nat := 0
  mplsCnt : Nat := 0
  parseEnd : Nat := 0
  reason : Nat := 0
  words : Nat := 0
  port : Nat := 0
  pass : Nat := 0
  group : Nat := 0
  pkt : Nat := 0
  lenValid : Bool := false
  deriving DecidableEq, Repr, Inhabited

/-- A parse slice (R249). -/
structure Slice where
  st : SliceState := .idle
  /-- the next word is the first of the parse (a safe point, R261) -/
  first : Bool := true
  addr : Nat := 0
  cur : Nat := 0
  scratch : SMap Nat := {}
  stack : List Nat := []
  /-- available length A (R244) -/
  avail : Nat := 0
  res : ParseResult := {}
  /-- ACTION of its group when the parse ended (R267) -/
  action : Nat := 0
  deriving DecidableEq, Repr, Inhabited

/-- Headgate (R241–R286): header queues of packet numbers per group, parses started and not delivered per group
in admission order (slice numbers), slices, control stores (192-bit words at group × 4096 + address), results
delivered and waiting for a lane, and the malformed windows. -/
structure Headgate where
  queue : SMap (List Nat) := {}
  inflight : SMap (List Nat) := {}
  slices : SMap Slice := {}
  ucode : SMap Nat := {}
  out : SMap (List ParseResult) := {}
  malWindow : WindowCounts := {}
  /-- groups whose offer of the PARSE cycle in progress has been made (R242) -/
  offered : List Nat := []
  /-- the group served first, in this cycle, of those that offered to other groups' slices -/
  servedOther : Option Nat := none
  /-- the group served first so in the last earlier cycle that had such an offer -/
  servedFirst : Nat := 20
  deriving DecidableEq, Repr, Inhabited

/-! ### Weir table and EMT -/

/-- A Weir entry (R296): VALID, value, mask and associated data. -/
structure WeirEntry where
  valid : Bool := false
  val : Nat := 0
  mask : Nat := 0
  ad : Nat := 0
  deriving DecidableEq, Repr, Inhabited

/-- An EMT entry (R309). -/
structure EmtEntry where
  valid : Bool := false
  key : Nat := 0
  data : Nat := 0
  isStatic : Bool := false
  deriving DecidableEq, Repr, Inhabited

/-- An array word of a replica: what a search compares a key with (R303). The mask of an EMT word is 0. -/
structure ArrayWord where
  valid : Bool := false
  val : Nat := 0
  mask : Nat := 0
  deriving DecidableEq, Repr, Inhabited

/-- The place of a waiting call or search in the order of arrival, and the time base's run when it began to wait (R471,
R501). -/
structure Ticket where
  seq : Nat := 0
  since : Nat := 0
  deriving DecidableEq, Repr, Inhabited

/-- A WEIR.CMD SEARCH that waits for its lane (R324): the lane, the key, its ticket. -/
structure TableSearch where
  lane : Nat := 0
  key : Nat := 0
  ticket : Ticket := {}
  deriving DecidableEq, Repr, Inhabited

/-- A staged learn (R312) or a notice of the learn queue (R315). -/
structure Notice where
  kind : Nat := 0
  dstHit : Bool := false
  group : Nat := 0
  port : Nat := 0
  pcls : Nat := 0
  index : Nat := 0
  data : Nat := 0
  timeMs : Nat := 0
  key : Nat := 0
  seq : Nat := 0
  /-- packet whose tail verdict decides a staged learn -/
  pkt : Nat := 0
  deriving DecidableEq, Repr, Inhabited

/-- The lookup result of R318 with the parse result it belongs to. -/
structure LookupResult where
  parse : ParseResult := {}
  weirHit : Bool := false
  weirIndex : Nat := 0
  weirFh : Bool := false
  ad : Nat := 0
  srcHit : Bool := false
  dstHit : Bool := false
  srcIndex : Nat := 0
  dstIndex : Nat := 0
  srcData : Nat := 0
  dstData : Nat := 0
  emtFh : Bool := false
  /-- the Weir key bytes, from which the flow hash is taken (R343) -/
  key : List Byte := []
  deriving DecidableEq, Repr, Inhabited

/-- The two tables (R287–R334): the verify copies with their data, which every replica holds alike; last-hit times are kept
per replica at replica × 65,536 + index; filters list the last 16 posted source keys with their posting time in µs. -/
structure Tables where
  weir : SMap WeirEntry := {}
  emt : SMap EmtEntry := {}
  /-- array words that a soft error has made differ from their verify copies, at replica × 65,536 + index (R303, R306) -/
  weirArr : SMap (Option ArrayWord) := {}
  emtArr : SMap (Option ArrayWord) := {}
  /-- the SEARCH of WEIR.CMD that waits for its lane (R324, R471) -/
  search : Option TableSearch := none
  lastHit : SMap Nat := {}
  staged : SMap (List Notice) := {}
  filter : SMap (List (Nat × Nat)) := {}
  learnQ : List Notice := []
  noticeSeq : Nat := 0
  /-- maintenance walk position per Weir replica (0–9) and EMT replica (100 + g) (R306) -/
  walk : SMap Nat := {}
  /-- results delivered to Dispatch and not yet built -/
  out : List LookupResult := []
  deriving DecidableEq, Repr, Inhabited

/-! ### Contexts, Dispatch and Turnout -/

/-- A queued header edit (R474): REPLACE, INSERT, REMOVE or STAMP at an original frame position. -/
inductive EditKind where
  | replace | insert | remove | stamp
  deriving DecidableEq, Repr, Inhabited

structure Edit where
  kind : EditKind := .replace
  pos : Nat := 0
  len : Nat := 0
  data : List Byte := []
  deriving DecidableEq, Repr, Inhabited

/-- State of a context (R335). -/
inductive CtxState where
  | free | ready | slotted | running | exception | ended
  deriving DecidableEq, Repr, Inhabited

/-- The outcome a context ends with (R483, R486): to a port's queue, to a multicast group's queue, through the
Culvert, or dropped into a Spillway counter. -/
inductive Ending where
  | none
  | unicast (port queue : Nat)
  | multicast (group queue : Nat)
  | culvert (queue : Nat)
  | drop (counter : Nat)
  deriving DecidableEq, Repr, Inhabited

/-- One context (R335, R341): its order, deadline, place, 1 KiB context space, packet, queued edits, requests and
outcome. -/
structure Ctx where
  st : CtxState := .free
  pass : Nat := 0
  seq : Nat := 0
  domain : Nat := 0
  deadline : Nat := 0
  cluster : Nat := 0
  engine : Nat := 0
  thread : Nat := 0
  /-- the watchdog's count when it stopped (R371) -/
  wd : Nat := 0
  /-- the FLUME cycles since the restart when the watchdog's count began, in 10⁻⁶ of one (R361, R362) -/
  wdFrom : Nat := 0
  /-- when it became releasable: the time base's run then (R357) -/
  readyAt : Nat := 0
  /-- order of build, for ties of deadline (R351) -/
  built : Nat := 0
  /-- order of slotting, for ties of deadline (R353) -/
  slotted : Nat := 0
  frame : SMap Byte := {}
  pkt : Nat := 0
  avail : Nat := 0
  edits : List Edit := []
  siphonEn : Bool := false
  siphon : Nat := 0
  siphonEdited : Bool := false
  culvert : Bool := false
  ending : Ending := .none
  deriving DecidableEq, Repr, Inhabited

/-- Dispatch and Turnout (R335–R374): contexts by number, the domains' counters, ready queues, the round-robin
pointer and the deadline-miss windows. -/
structure Dispatch where
  ctxs : SMap Ctx := {}
  nextSeq : SMap Nat := {}
  relSeq : SMap Nat := {}
  rr : Nat := 15
  builds : Nat := 0
  slots : Nat := 0
  /-- the PARSE cycle of the last context built, and the clusters that accepted contexts in it (R349) -/
  buildCycle : Nat := 0
  accepted : List Nat := []
  /-- the PARSE cycle of the last release, and the domains released in it (R357) -/
  relCycle : Nat := 0
  released : List Nat := []
  missWindow : WindowCounts := {}
  deriving DecidableEq, Repr, Inhabited

/-! ### Flume engines -/

/-- A load whose value has not yet been written to its slot (R386). -/
structure PendingLoad where
  slot : Nat := 0
  value : Word := 0
  /-- the value has arrived -/
  arrived : Bool := true
  /-- the delay-slot instruction has completed -/
  delayDone : Bool := false
  /-- the cache miss that will deliver it, 0 for none -/
  tag : Nat := 0
  deriving DecidableEq, Repr, Inhabited

/-- What a thread, or one level of a control engine, computes on (R378, R399): data stack and return stack with
the top first, RC, PC, pending loads and the repeat in progress (prefix address, REPX). -/
structure Arch where
  ds : List Word := []
  rs : List Nat := []
  rc : Word := 0
  pc : Nat := 0
  pend : List PendingLoad := []
  rep : Option (Nat × Bool) := none
  deriving DecidableEq, Repr, Inhabited

/-- A helper or flow-operation call whose results have not been pushed (R449): the HCALL's address, its unit,
the results with the last on top, or its fault. -/
structure CallWait where
  pc : Nat := 0
  unit : Nat := 0
  results : List Word := []
  fault : Option (Nat × Nat) := none
  /-- a call issued and not yet accepted (R876): its function and its arguments, the last one last -/
  waiting : Option (Nat × List Nat) := none
  /-- the counter of the CORE cycles it waits (R517, R545) -/
  counter : Option Nat := none
  /-- where it stands among the calls that its unit has left waiting -/
  ticket : Option Ticket := none
  /-- bytes its result writes into the context space, and where (R394) -/
  put : Nat × List Byte := (0, [])
  deriving DecidableEq, Repr, Inhabited

/-- One hardware thread of a packet engine (R375, R378). -/
structure Thread where
  ctx : Option Nat := none
  arch : Arch := {}
  wait : Option CallWait := none
  /-- a flow operation not yet accepted whose result a fault has discarded (R876) -/
  late : Option CallWait := none
  deriving DecidableEq, Repr, Inhabited

/-- One line of a control engine's data cache (R404). -/
structure CacheLine where
  line : Nat := 0
  data : List Byte := []
  dirty : Bool := false
  used : Nat := 0
  deriving DecidableEq, Repr, Inhabited

/-- A write-buffer entry (R405): a store of up to 4 B to local memory, or a 64 B line to DRAM. -/
structure WbEntry where
  addr : Nat := 0
  data : List Byte := []
  deriving DecidableEq, Repr, Inhabited

/-- A data-cache miss waiting for its line (R437): its number, and the bytes of a store that missed. -/
structure CacheMiss where
  addr : Nat := 0
  width : Nat := 0
  tag : Nat := 0
  store : Option (List Byte) := none
  deriving DecidableEq, Repr, Inhabited

/-- A control engine (R399–R407). CE_CTRL.RUN is held in its register. -/
structure Ce where
  base : Arch := {}
  intr : Arch := {}
  /-- at interrupt level -/
  level : Bool := false
  ie : Bool := false
  segBase : Nat := 0
  segIntr : Nat := 0
  resume : Nat := 0
  halted : Bool := false
  cause : Nat := 0
  subcode : Nat := 0
  /-- WAIT in force (R452) -/
  waiting : Bool := false
  /-- SYNC in force (R407) -/
  syncing : Bool := false
  cache : List CacheLine := []
  uses : Nat := 0
  wb : List WbEntry := []
  misses : List CacheMiss := []
  deriving DecidableEq, Repr, Inhabited

/-- The FLM block (R375–R417): program stores (16-bit words at cluster × 65,536 + address), cluster-shared memory
(bytes at cluster × 262,144 + offset), threads at ((cluster × 16 + engine) × 8 + thread), the thread that issued
last and the REPX holder of each engine, control engines and the fault windows. -/
structure Flume where
  ps : SMap Nat := {}
  shm : SMap Byte := {}
  threads : SMap Thread := {}
  last : SMap Nat := {}
  repx : SMap (Option Nat) := {}
  ces : SMap Ce := {}
  faultWindow : WindowCounts := {}
  /-- tickets given to waiting calls so far -/
  tickets : Nat := 0
  /-- FLUME cycles since the restart, in 10⁻⁶ of one (R361) -/
  cycles : Nat := 0
  deriving DecidableEq, Repr, Inhabited

/-! ### Flow store and flow operations -/

/-- A cache line of a flow-engine slice (R516): which 64 B atoms it holds, which are dirty, the bytes by record
offset, and when it was last used. A line that holds no atom is absent. -/
structure FlowLine where
  have_ : Nat := 0
  dirty : Nat := 0
  data : SMap Byte := {}
  used : Nat := 0
  deriving DecidableEq, Repr, Inhabited

/-- A staged entry (R536, R543): acceptance number, the context instance that staged it, the function code, the
GEN its handle carries, its arguments and data, the ingress NS64 and the results returned. For CREATE: the home
position, the candidate index taken, the eviction cause when it evicts. -/
structure LogEntry where
  seq : Nat := 0
  inst : Nat := 0
  cluster : Nat := 0
  fn : Nat := 0
  gen : Nat := 0
  roff : Nat := 0
  x : Nat := 0
  y : Nat := 0
  bytes : List Byte := []
  tenant : Nat := 0
  home : Nat := 0
  cand : Nat := 0
  evict : Option Nat := none
  /-- a CREATE that has reserved its position (R505), or has taken over such a create (R552) -/
  own : Bool := false
  ns : Nat := 0
  results : List Nat := []
  deriving DecidableEq, Repr, Inhabited

/-- What the flow engine holds for one context instance (R545–R548): its packet, verdict and end, its staging tag,
and the records it has operated on. -/
structure FlowCtx where
  live : Bool := false
  ctx : Nat := 0
  pkt : Nat := 0
  verdict : Option Nat := none
  ended : Bool := false
  cancel : Bool := false
  /-- resolved, and whether with commit -/
  resolved : Option Bool := none
  tag : Option Nat := none
  touched : List Nat := []
  deriving DecidableEq, Repr, Inhabited

/-- A notice waiting to be written to its ring (R509). -/
structure FlowNotice where
  cause : Nat := 0
  key : Nat := 0
  gen : Nat := 0
  tenant : Nat := 0
  keyLen : Nat := 0
  record : List Byte := []
  deriving DecidableEq, Repr, Inhabited

/-- A running sweep (R519–R521): mode, slices still scanning, next position per slice, the counts SCANNED, MATCHED,
EXPIRED, SKIPPED, ORPHANS and LOST, abort asked for. -/
structure Sweep where
  mode : Nat := 0
  mask : Nat := 0
  pos : SMap Nat := {}
  cnt : SMap Nat := {}
  abort : Bool := false
  deriving DecidableEq, Repr, Inhabited

/-- An IPFIX message in assembly (R560), under the format, output and UTC values it was begun with. -/
structure IpfixMsg where
  records : List (List Byte) := []
  template : Nat := 0
  maxMsg : Nat := 0
  port : Nat := 0
  tc : Nat := 0
  utc : Nat := 0
  /-- a register write has ended it (R566) -/
  closed : Bool := false
  deriving DecidableEq, Repr, Inhabited

/-- The flow store (R488–R567). Records, lines and logs are keyed by slice × 2^26 + position. -/
structure Flow where
  /-- FLOW_BASE, the base of the flow region (R488) -/
  base : Nat := 0x2000000000
  sliceSeed : Nat := 0
  seed1 : Nat := 0
  seed2 : Nat := 0
  lines : SMap FlowLine := {}
  uses : Nat := 0
  logs : SMap (List LogEntry) := {}
  seq : Nat := 0
  insts : SMap FlowCtx := {}
  evictWindow : WindowCounts := {}
  valid : SMap Nat := {}
  eqNotices : List FlowNotice := []
  sqNotices : List FlowNotice := []
  eqSeq : Nat := 0
  sqSeq : Nat := 0
  sweep : Option Sweep := none
  msg : Option IpfixMsg := none
  deriving DecidableEq, Repr, Inhabited

/-! ### Switch core -/

/-- A packet held by the switch core (R569–R572), with what its context entered with. -/
structure Pkt where
  live : Bool := false
  port : Nat := 0
  group : Nat := 0
  pass : Nat := 0
  ts80 : Nat := 0
  /-- the frame without or with its FCS as received -/
  bytes : List Byte := []
  verdict : Option Nat := none
  /-- ingress buffer of VOQ mode, none for the Reservoir -/
  voq : Option Nat := none
  owner : Nat := 0
  cells : List Nat := []
  incomplete : Bool := false
  released : Bool := false
  refs : Nat := 0
  edits : List Edit := []
  editCells : List Nat := []
  editOwner : Nat := 0
  flags : Nat := 0
  ofs : SMap Nat := {}
  ovalid : Nat := 0
  /-- the logical port of its first pass -/
  origin : Nat := 0
  /-- jumps applied to the time base before its ingress (R682) -/
  steps : Nat := 0
  deriving DecidableEq, Repr, Inhabited

/-- A copy (R573): stored in a queue, chosen by the scheduler, waiting cut-through, or being sent. -/
inductive CopyState where
  | gone | queued | chosen | waiting | sending
  deriving DecidableEq, Repr, Inhabited

structure Copy where
  st : CopyState := .gone
  pkt : Nat := 0
  port : Nat := 0
  queue : Nat := 0
  siphon : Bool := false
  edited : Bool := true
  cut : Bool := false
  /-- multicast copy: its group (R715) -/
  group : Option Nat := none
  trunc : Nat := 0
  charge : Nat := 0
  entered : Nat := 0
  ecn : Bool := false
  voq : Option Nat := none
  deriving DecidableEq, Repr, Inhabited

/-- The switch core (R568–R602). Reservoir queues at port × 12 + queue; VOQ queues at buffer × 1,608 + that. -/
structure SwitchCore where
  /-- shared-buffer mode (R594) -/
  shared : Bool := false
  pkts : SMap Pkt := {}
  nextPkt : Nat := 1
  copies : SMap Copy := {}
  nextCopy : Nat := 1
  queues : SMap (List Nat) := {}
  voqs : SMap (List Nat) := {}
  /-- multicast groups: bit p for port p, bit 134 PRUNE -/
  groups : SMap Nat := {}
  /-- rotating pointer over ingress buffers, per port (R592) -/
  bufPtr : SMap Nat := {}
  /-- queues whose alarm is due at the next enqueue, since a QCFG write put ALARM_CELLS at or below their depth (R601) -/
  alarmNext : SMap Bool := {}
  deriving DecidableEq, Repr, Inhabited

/-! ### Buffer pools -/

/-- A pool's free list (R603–R605, R612): buffers freed since the build, the most recent first, then the numbers
from `next` up. -/
structure Pool where
  built : Bool := false
  /-- INIT accepted and the build running -/
  building : Bool := false
  base : Nat := 0
  count : Nat := 0
  freed : List Nat := []
  next : Nat := 0
  /-- low-water event raised and not re-armed (R620) -/
  fired : Bool := false
  deriving DecidableEq, Repr, Inhabited

/-- An allocated work buffer (R614): named owner and reference count, 0 when free. -/
structure Buf where
  owner : Nat := 0
  refs : Nat := 0
  deriving DecidableEq, Repr, Inhabited

/-- The buffer pool manager (R603–R626). Buffers at pool × 2^24 + number; held counts at owner × 5 + pool. -/
structure BufferPools where
  pools : SMap Pool := {}
  bufs : SMap Buf := {}
  held : SMap Nat := {}
  /-- cells of the Reservoir found bad (R137), never linked -/
  bad : List Nat := []
  deriving DecidableEq, Repr, Inhabited

/-! ### Egress -/

/-- How a frame on the wire ends (R208, R218): with a terminate character, with /E/ in its place, or cut short at a block
boundary. -/
inductive FrameEnd where
  | terminate
  | errChar
  | cut
  deriving DecidableEq, Repr, Inhabited

/-- The transmit side of a port: the copy chosen, the copy being sent, cut-through copies waiting, the PFC frames due
in order (true: for an entry to XOFF or within it; false: for a return to XON), a hello due at the port's entry to
state 5, the bytes last put on the wire, and how they ended: none while the frame is being sent (R629, R643, R698). -/
structure Tx where
  chosen : Option Nat := none
  sending : Option Nat := none
  cut : List Nat := []
  pfcDue : List Bool := []
  helloDue : Bool := false
  wire : List Byte := []
  ended : Option FrameEnd := some .terminate
  /-- the copy being sent was ended by a stomp or cut short -/
  stomped : Bool := false
  deriving DecidableEq, Repr, Inhabited

/-- What the sampler holds for a queue since its previous record (R646). -/
structure QueueStat where
  maxDepth : Nat := 0
  delayMax : Nat := 0
  copies : Nat := 0
  bytes : Nat := 0
  deriving DecidableEq, Repr, Inhabited

/-- Egress scheduling (R627–R654): deficits and pointers of the weighted tiers (groups at port × 4 + group,
queues at 1,000 + port × 12 + queue; pointers at port, and at 200 + port × 4 + group), Sluice credits and held
writes, PFC and sampling. -/
structure Egress where
  tx : SMap Tx := {}
  deficit : SMap Int := {}
  ptr : SMap Nat := {}
  credit : SMap Int := {}
  heldRate : SMap (Option Nat) := {}
  heldBurst : SMap (Option Nat) := {}
  qstat : SMap QueueStat := {}
  sampleSeq : Nat := 0
  /-- microsecond count at which the sampler's period in progress started: none before the first and after a jump (R646,
  R662) -/
  lastSample : Option Nat := none
  deriving DecidableEq, Repr, Inhabited

/-! ### Time base -/

/-- A jump applied (R660, R662): what T had advanced by when it was, and its size in 2^-48 ns. -/
structure Jump where
  atRun : Nat
  size : Int
  deriving DecidableEq, Repr, Inhabited

/-- A running slew (R661): the amount in 2^-48 ns, the edges it is spread over, and the edges done. -/
structure Slew where
  amount : Int := 0
  edges : Nat := 1
  done : Nat := 0
  deriving DecidableEq, Repr, Inhabited

/-- The time base (R655–R696): native time with a 48-bit fraction, the FRC in 2^-48 ns, the slew, the servo's
consecutive good measurements, and the second whose 1PPS OUT edge was last sent. -/
structure TimeBase where
  sec : Nat := 0
  ns : Nat := 0
  frac : Nat := 0
  frc : Nat := 0
  /-- what T has advanced by since the restart, jumps left out, in 2^-48 ns: the FRC without its wrap -/
  run : Nat := 0
  /-- the jumps applied since the restart, the latest first (R662) -/
  jumps : List Jump := []
  slew : Option Slew := none
  good : Nat := 0
  ppsOut : Nat := 0
  /-- the reference in use has been lost and holdover not yet entered for it (R669) -/
  lossDue : Bool := false
  /-- a refused jump has not been acknowledged by a read of TB.EVENTS (R670) -/
  refused : Bool := false
  /-- the running time of the always-on copy of T (R659) -/
  saved : Nat := 0
  deriving DecidableEq, Repr, Inhabited

/-! ### Stacking -/

/-- A lateral link (R697–R705, R720). -/
structure Link where
  state : Nat := 0
  good : Nat := 0
  reason : Nat := 0
  version : Nat := 0
  peerSerial : Nat := 0
  peerMember : Nat := 0
  peerLink : Nat := 0
  peerTimeOk : Bool := false
  seqTx : Nat := 0
  /-- T_TX and arrival TS80 of the last valid hello -/
  lastTx : Nat := 0
  lastRx : Nat := 0
  /-- offset of the first exchange completed in a second, in 2^-16 ns, and that second plus 1 (0: none yet) -/
  offset : Int := 0
  exSec : Nat := 0
  /-- the time base's run when the last hello was sent (R698) -/
  helloAt : Nat := 0
  /-- the last valid hello's TABLE showed this member's number with another serial, of better rank (R704) -/
  conflict : Bool := false
  deriving DecidableEq, Repr, Inhabited

/-- A member-table entry (R706). -/
structure Member where
  valid : Bool := false
  serial : Nat := 0
  priority : Nat := 0
  hops : Nat := 0
  link : Nat := 0
  deriving DecidableEq, Repr, Inhabited

/-- The STK block: links, the entries learnt on each link (link × 8 + member), the table, the master last elected
the second plus 1 of the last measurement taken, and the seconds missed in a row (R722). -/
structure Stacking where
  links : SMap Link := {}
  learnt : SMap Member := {}
  members : SMap Member := {}
  master : Nat := 0
  isolated : Bool := false
  paired : Bool := false
  lastSecond : Nat := 0
  missed : Nat := 0
  deriving DecidableEq, Repr, Inhabited

/-! ### Stacked DRAM -/

/-- A request in a pseudo-channel (R733, R735): its number, the request, its acceptance time in ns since restart,
bursts issued. -/
structure DramEntry where
  id : Nat := 0
  req : DramReq := {port := 0, addr := 0, atoms := 0, write := false, data := []}
  accepted : Nat := 0
  issued : Nat := 0
  /-- what its atoms held when its pseudo-channel accepted it: what a read returns, and what a write replaced -/
  old : List Byte := []
  /-- its first command has issued -/
  started : Bool := false
  /-- its row was activated for it -/
  activated : Bool := false
  deriving DecidableEq, Repr, Inhabited

/-- A bank's page-policy history (R746). -/
structure Predictor where
  hist : Nat := 0
  ctrs : SMap Nat := {}
  deriving DecidableEq, Repr, Inhabited

/-- A pseudo-channel (R730, R735–R750): requests waiting at its ports, bank queues, the shared queue, reads on
the interface, open rows, predictors, rotating bank pointer, share wheel, refresh rotation and postponements. -/
structure Channel where
  waiting : List DramEntry := []
  banks : SMap (List DramEntry) := {}
  shared : List DramEntry := []
  reads : List DramEntry := []
  openRow : SMap (Option Nat) := {}
  /-- banks whose last request's outcome the predictor still has to record, with that request's row -/
  lastRow : SMap (Option Nat) := {}
  predict : SMap Predictor := {}
  bankPtr : Nat := 15
  wheel : Nat := 0
  refreshBank : Nat := 0
  postponed : Nat := 0
  /-- the running time of the last slot of R750 -/
  refreshRun : Nat := 0
  deriving DecidableEq, Repr, Inhabited

/-- The stacked DRAM controller (R730, R733): pseudo-channels at stack × 32 + channel. -/
structure DramCtl where
  chans : SMap Channel := {}
  nextId : Nat := 1
  corrWindow : WindowCounts := {}
  /-- stacks whose temperature alarm has been raised and not yet ended (R751) -/
  tempHigh : List Nat := []
  /-- the running time of each stack's last temperature reading (R751) -/
  tempRun : SMap Nat := {}
  /-- the last read data delivered, per port -/
  delivered : SMap (List Byte) := {}
  deriving DecidableEq, Repr, Inhabited

/-! ### Data protection -/

/-- A running scrub (R778): mode, the REGION field as written, start address, units, units done, counts. -/
structure Scrub where
  mode : Nat := 0
  region : Nat := 0
  start : Nat := 0
  units : Nat := 0
  done : Nat := 0
  atoms : Nat := 0
  corr1 : Nat := 0
  corr2 : Nat := 0
  first : Nat := 0
  last : Nat := 0
  abort : Bool := false
  /-- the running time from which the next unit may be read (R778) -/
  next : Nat := 0
  deriving DecidableEq, Repr, Inhabited

/-- Data protection (R775, R778): correction windows (regions 0–16, array classes at 32 + k) and the scrubber. -/
structure Protection where
  corrWindow : WindowCounts := {}
  scrub : Option Scrub := none
  deriving DecidableEq, Repr, Inhabited

/-! ### DMA -/

/-- A fetched descriptor (R790). -/
structure Desc where
  addr : Nat := 0
  ctrl : Nat := 0
  len : Nat := 0
  src : Nat := 0
  dst : Nat := 0
  next : Nat := 0
  deriving DecidableEq, Repr, Inhabited

/-- Where a channel stands within its chain. -/
inductive DmaPhase where
  | none | fetch | beats | writeback | poll
  deriving DecidableEq, Repr, Inhabited

/-- An access issued and not yet answered (R795): whether it is its beat's last access, and what its target will
answer: an error code, 0 good, and the address. -/
structure DmaAnswer where
  final : Bool := false
  code : Nat := 0
  addr : Nat := 0
  deriving DecidableEq, Repr, Inhabited

/-- A channel (R796–R806). -/
structure DmaChan where
  state : Nat := 0
  kind : Nat := 0
  flowOk : Bool := false
  phase : DmaPhase := .none
  desc : Desc := {}
  count : Nat := 0
  /-- beats read ahead into the staging buffer, oldest first (R797) -/
  staged : List (List Byte) := []
  /-- next beat to read -/
  readPos : Nat := 0
  /-- next beat to write -/
  writePos : Nat := 0
  /-- accesses not yet answered, oldest first -/
  unanswered : List DmaAnswer := []
  /-- error answered so far: code and address -/
  err : Option (Nat × Nat) := none
  errLast : Bool := false
  inDesc : Bool := false
  flag : Bool := false
  queue : Nat := 0
  descs : Nat := 0
  cmpAddr : Nat := 0
  cmpCount : Nat := 0
  /-- the copy an RX channel is taking -/
  copy : Option Nat := none
  /-- beats issued since it gained its mover -/
  quantum : Nat := 0
  deriving DecidableEq, Repr, Inhabited

/-- The DMA engine (R790, R796): channels, the channel each of four movers serves (channel + 1, 0 free), and the channel that
last gained a mover. -/
structure Dma where
  chans : SMap DmaChan := {}
  movers : SMap Nat := {}
  lastGain : Nat := 31
  deriving DecidableEq, Repr, Inhabited

/-! ### Performance counters -/

/-- The PMC's working state: per engine counter ((cluster × 16 + engine) × 2 + j), instructions still to issue up to
the sampled one, and that instruction once issued (thread, PC, context) (R831); bandwidth bytes of the window in
progress (port, and 200 + port for sent bytes). -/
structure Pmc where
  armed : SMap (Option Nat) := {}
  caught : SMap (Option (Nat × Nat × Nat)) := {}
  bw : SMap Nat := {}
  /-- WIN_US of the bandwidth window in progress (R834) -/
  bwWin : Nat := 1000
  deriving DecidableEq, Repr, Inhabited

/-! ### Management port -/

/-- A GMP session (R845–R849). -/
structure Session where
  isOpen : Bool := false
  number : Nat := 0
  version : Nat := 3
  v6 : Bool := false
  address : Nat := 0
  port : Nat := 0
  key : Nat := 0
  seqOut : Nat := 0
  seqHigh : Nat := 0
  seen : List Nat := []
  lastTag : Option (Nat × Nat) := none
  lastStatus : Nat := 0
  lastBody : List Byte := []
  mask : Nat := 0
  notices : Nat := 0
  /-- open image write: slot and LENGTH -/
  image : Option (Nat × Nat) := none
  deriving DecidableEq, Repr, Inhabited

/-- The management port (R840–R856): sessions 0–3, recent HELLOs, keys, and what it last sent. -/
structure Mgmt where
  sessions : SMap Session := {}
  hellos : List (Nat × Nat) := []
  keys : SMap Nat := {}
  locate : Bool := false
  /-- slot under validation after IMAGE_END (R851) -/
  validating : Option Nat := none
  /-- the running time of the last read of the pending words (R853) -/
  polled : Nat := 0
  sent : List Datagram := []
  frame : List Byte := []
  /-- ns for which the RJ45's right indicator still lights (R44) -/
  flashNs : Nat := 0
  deriving DecidableEq, Repr, Inhabited

/-! ### Test -/

/-- The JTAG port and the memory tests (R857–R865). -/
structure TestPort where
  ir : Nat := 0x01
  dr : Nat := 0
  /-- preloaded or driven boundary-scan word -/
  boundary : Nat := 0
  driving : Bool := false
  retOfs : Nat := 0
  /-- last REGACC: address, value read -/
  accAddr : Nat := 0
  accVal : Nat := 0
  accDone : Bool := false
  selftest : Option Nat := none
  deriving DecidableEq, Repr, Inhabited

/-- The state of the module. -/
structure State where
  /-- the commands that are waiting, first in, first out -/
  pending : List Instr := []
  /-- the model's own field: how many free values have been drawn -/
  freeCtr : Nat := 0
  /-- the register file: 32-bit words by register-space address; unlisted addresses hold their reset value (R165, R175) -/
  regs : SMap Word := {}
  /-- the 64-bit and 48-bit counters, by the address of their _LO word (R180) -/
  ctrs : SMap Nat := {}
  /-- the shadows of R180, R326, R327 and R658, at accessor × 0x100_0000 + address -/
  shadows : SMap (Option Word) := {}
  /-- the value each accessor's last register read returned (R169) -/
  rdData : SMap Word := {}
  /-- the 40-bit byte address space (R162): control-engine local memories and DRAM -/
  mem : Mem := {}
  /-- the domain of the frequency measurement in progress (R193) -/
  measDomain : Nat := 0
  supply : Supply := {}
  fuses : Fuses := {}
  flash : Flash := {}
  aon : AlwaysOn := {}
  boot : Boot := {}
  ports : SMap Port := {}
  /-- fixed alarm windows of the port groups (R234): stomped frames at port, corrected FEC symbols at 200 + port -/
  portWindow : WindowCounts := {}
  hdg : Headgate := {}
  tables : Tables := {}
  dsp : Dispatch := {}
  flume : Flume := {}
  flow : Flow := {}
  qm : SwitchCore := {}
  bpm : BufferPools := {}
  sch : Egress := {}
  tb : TimeBase := {}
  stk : Stacking := {}
  dmc : DramCtl := {}
  ecc : Protection := {}
  dma : Dma := {}
  pmc : Pmc := {}
  mgt : Mgmt := {}
  test : TestPort := {}
  deriving DecidableEq, Repr, Inhabited

/-- The module right after power-on reset (R133): every register at the value its table gives, every memory, table
and queue empty, the core held in reset, the lamp test running (R56), no command waiting. -/
def State.reset : State := {}

end Sys2Proof.Machine
end

