-- ==== Sys2Proof/WellFormed.lean ====
section
/-! DEFINITION. Well-formed commands: a command names units that the module has (the accessors of R172, the groups,
ports, clusters, engines, threads, contexts, slices, channels and tables of their chapters). An ill-formed one is no
command of this module. -/
namespace Sys2Proof

/-- Whether an issuer exists: 16 clusters of 16 engines of 8 threads (R375), and four control engines (R399). -/
def Who.wf : Who → Bool
  | .pe cl e th => cl < 16 && e < 16 && th < 8
  | .ce k => k < 4

/-- A DRAM request covers 1–4 atoms of one 256 B unit through one of the six ports (R733, R734). -/
def DramReq.wf (r : DramReq) : Bool :=
  r.port < 6 && 0x2000000000 ≤ r.addr && r.addr < 0x4000000000 && r.addr % 64 == 0 && 1 ≤ r.atoms &&
  r.addr % 256 / 64 + r.atoms ≤ 4 && (r.write == false || r.data.length == 64 * r.atoms)

/-- An array has 32,768 words and ten replicas in the Weir table, 65,536 and twenty in the EMT (R296, R309). -/
def ArrayUpset.wf (u : ArrayUpset) : Bool :=
  match u.table with
  | .weir => u.replica < 10 && u.index < 32768
  | .emt => u.replica < 20 && u.index < 65536

/-- Whether a table has a replica. -/
def TableSel.hasReplica (t : TableSel) (replica : Nat) : Bool :=
  match t with
  | .weir => replica < 10
  | .emt => replica < 20

/-- The store that holds a table's verify copies (R145). -/
def TableSel.copies : TableSel → Nat
  | .weir => 0xE
  | .emt => 0x10

/-- A command whose operands name units the module has. -/
def Instr.wf (i : Instr) : Bool :=
  match i with
  | .powerOn _ _ => true
  | .resetRelease => true
  | .imageValidation slot _ => slot < 2
  | .sectionsLoaded => true
  | .faultRecordWrite => true
  | .dramTraining stack _ => stack < 4
  | .selfRefreshExit => true
  | .regionsCleared => true
  | .revalidateRecord _ => true
  | .recoveryWindowClose _ => true
  | .blobCopyDone => true
  | .serdesCalibration group _ => group < 20
  | .forwardingStart => true
  | .sharedBufferModeChange _ => true
  | .confirmTimeout => true
  | .syswdExpire => true
  | .syswdHalf => true
  | .faultCaptureClose _ _ => true
  | .supplyMeasure _ => true
  | .sag _ _ => true
  | .interruption _ _ => true
  | .brownOut _ _ _ => true
  | .orderlyStopCoreOff => true
  | .orderlyRestart _ _ _ _ _ => true
  | .highInput _ => true
  | .overVoltage _ => true
  | .inputRelayOpen => true
  | .surge _ => true
  | .peOpen _ _ => true
  | .lnSwap _ => true
  | .conditionClear _ _ => true
  | .relayClose _ _ _ => true
  | .powerFail _ => true
  | .fuseTrip cage => cage < 20
  | .fuseRetry cage _ => cage < 20
  | .opticInserted cage _ _ => cage < 20
  | .opticRemoved cage => cage < 20
  | .shedStep => true
  | .overloadClockStep => true
  | .overloadClockRise => true
  | .fanFailed fan _ _ => fan < 6
  | .fanRunning fan _ _ => fan < 6
  | .thermalStepDown _ _ _ => true
  | .thermalStepUp _ _ _ => true
  | .thermalStop _ => true
  | .excursionMinute _ => true
  | .excursionLogWrite _ _ => true
  | .inputStateMeasure _ _ _ => true
  | .pllLockLoss pll => pll < 7
  | .freqMeasure acc _ => acc < 7
  | .freqMeasureDone _ => true
  | .pgGateWrite acc _ => acc < 7
  | .throttleCeilingWrite acc _ => acc < 7
  | .shedClr acc _ => acc < 7
  | .fuseRearm acc _ => acc < 7
  | .registerWrite acc addr _ => acc < 7 && addr % 4 == 0 && addr < 0x1000000
  | .svnRaise acc _ => acc < 7
  | .keyRevoke acc _ => acc < 7
  | .confirm acc _ => acc < 7
  | .restartCommand acc _ => acc < 7
  | .syswdKick acc _ => acc < 7
  | .signalDetect port _ => port < 132
  | .anComplete port _ => port < 132
  | .alignmentLock port _ => port < 132
  | .debounceExpire port _ _ _ => port < 132
  | .remoteFault port => port < 132
  | .remoteFaultClear port _ _ => port < 132
  | .linkLoss port => port < 132
  | .tailVerdict t => t.port < 132 && t.frame.lane < 8
  | .pfcFrameReceive port frame => port < 132 && frame.lane < 8
  | .pauseFrameReceive port frame => port < 132 && frame.lane < 8
  | .pfcPauseExpire port cls _ => port < 132 && cls < 8
  | .pgCtrlWrite acc group _ => acc < 7 && group < 20
  | .portCtrlWrite acc port _ => acc < 7 && port < 132
  | .alarmWindowEnd _ => true
  | .frameAdmit port frame => port < 132 && frame.lane < 8
  | .ingressCellTake _ _ => true
  | .headerOffer group _ => group < 21
  | .parseStart slice _ => slice < 160
  | .microwordExecute slice err => slice < 160 && err.all (fun e => e.store == 0xC || e.store == 0xD)
  | .parseEnd slice => slice < 160
  | .ucWrite acc _ => acc < 7
  | .ucRead acc _ => acc < 7
  | .hdgCtrlWrite acc _ => acc < 7
  | .lookup group lane upsets err => group < 21 && lane < 20 && upsets.all ArrayUpset.wf && err.all (fun e => 0xE ≤ e.store && e.store ≤ 0x11)
  | .walkStep table replica upsets err =>
    table.hasReplica replica && upsets.all ArrayUpset.wf && err.all (fun e => e.store == table.copies)
  | .weirCmdWrite acc _ => acc < 7
  | .weirCmdInvalidate acc _ => acc < 7
  | .weirCmdRead acc _ => acc < 7
  | .weirCmdSearch acc _ => acc < 7
  | .weirCtrlWrite acc _ => acc < 7
  | .missAdCommit acc _ => acc < 7
  | .profileCommit acc profile _ => acc < 7 && profile < 256
  | .emtInsert acc _ => acc < 7
  | .emtDelete acc _ => acc < 7
  | .emtCmdLookup acc _ => acc < 7
  | .emtCmdRead acc _ => acc < 7
  | .emtInvalidate acc _ => acc < 7
  | .emtUpdate acc _ => acc < 7
  | .lqPop acc _ => acc < 7
  | .contextBuild => true
  | .contextSlot cluster engine => cluster < 16 && engine < 16
  | .threadTake cluster engine thread => cluster < 16 && engine < 16 && thread < 8
  | .contextEnd ctx => ctx < 8192
  | .release ctx => ctx < 8192
  | .watchdogExpire ctx => ctx < 8192
  | .exceptionWatchdogExpire ctx => ctx < 8192
  | .loadDeliver who => who.wf
  | .helperResult who => who.wf
  | .interruptTake k => k < 4
  | .writeBufferDrain k => k < 4
  | .cacheLineFill k => k < 4
  | .ceRunWrite acc k _ => acc < 7 && k < 4
  | .psDataWrite acc cluster _ => acc < 7 && cluster < 16
  | .shmDataAccess acc cluster _ => acc < 7 && cluster < 16
  | .nop who => who.wf
  | .dup who => who.wf
  | .drop who => who.wf
  | .swap who => who.wf
  | .over who => who.wf
  | .rot who => who.wf
  | .nip who => who.wf
  | .depth who => who.wf
  | .pushs who => who.wf
  | .ext who => who.wf
  | .pick who => who.wf
  | .put who => who.wf
  | .roll who => who.wf
  | .addOp who => who.wf
  | .sub who => who.wf
  | .andOp who => who.wf
  | .orOp who => who.wf
  | .xor who => who.wf
  | .shl who => who.wf
  | .shr who => who.wf
  | .sar who => who.wf
  | .mul who => who.wf
  | .mulhu who => who.wf
  | .minu who => who.wf
  | .maxu who => who.wf
  | .eqOp who => who.wf
  | .neOp who => who.wf
  | .ltu who => who.wf
  | .lts who => who.wf
  | .notOp who => who.wf
  | .neg who => who.wf
  | .clz who => who.wf
  | .popcnt who => who.wf
  | .bswap16 who => who.wf
  | .bswap32 who => who.wf
  | .sext8 who => who.wf
  | .sext16 who => who.wf
  | .addi who => who.wf
  | .andi who => who.wf
  | .ori who => who.wf
  | .xori who => who.wf
  | .shli who => who.wf
  | .shri who => who.wf
  | .sari who => who.wf
  | .eqi who => who.wf
  | .ltui who => who.wf
  | .tstbi who => who.wf
  | .parity who => who.wf
  | .brev8 who => who.wf
  | .brev16 who => who.wf
  | .brev32 who => who.wf
  | .crc32c who => who.wf
  | .crc16 who => who.wf
  | .ld who => who.wf
  | .ldc who => who.wf
  | .st who => who.wf
  | .stc who => who.wf
  | .fadd who => who.wf
  | .bra who => who.wf
  | .bz who => who.wf
  | .bnz who => who.wf
  | .call who => who.wf
  | .ret who => who.wf
  | .jmps who => who.wf
  | .calls who => who.wf
  | .setrc who => who.wf
  | .rep who => who.wf
  | .repx who => who.wf
  | .poprc who => who.wf
  | .pushrc who => who.wf
  | .tor who => who.wf
  | .fromr who => who.wf
  | .rfetch who => who.wf
  | .loop who => who.wf
  | .reti who => who.wf
  | .ei who => who.wf
  | .di who => who.wf
  | .clean who => who.wf
  | .inval who => who.wf
  | .sync who => who.wf
  | .setseg who => who.wf
  | .getseg who => who.wf
  | .wait who => who.wf
  | .h32m who => who.wf
  | .symh who => who.wf
  | .hcallCrc32c who => who.wf
  | .hcallCrc16 who => who.wf
  | .crc32 who => who.wf
  | .csum who => who.wf
  | .csumAdj who => who.wf
  | .tsNow who => who.wf
  | .tsNs64 who => who.wf
  | .tsAge who => who.wf
  | .alloc who => who.wf
  | .free who => who.wf
  | .handover who => who.wf
  | .share who => who.wf
  | .bufferRead who => who.wf
  | .bufferWrite who => who.wf
  | .wlook who upsets => who.wf && upsets.all ArrayUpset.wf
  | .elook who upsets => who.wf && upsets.all ArrayUpset.wf
  | .replace who => who.wf
  | .editInsert who => who.wf
  | .remove who => who.wf
  | .editStamp who => who.wf
  | .siphon who => who.wf
  | .culvert who => who.wf
  | .editClear who => who.wf
  | .emit who => who.wf
  | .emitMc who => who.wf
  | .hcallDrop who => who.wf
  | .flowLookup who => who.wf
  | .flowCreate who => who.wf
  | .flowDelete who => who.wf
  | .flowRead who => who.wf
  | .flowWrite who => who.wf
  | .fadd32 who => who.wf
  | .fadd64 who => who.wf
  | .cas32 who => who.wf
  | .minu32 who => who.wf
  | .maxu32 who => who.wf
  | .setbits32 who => who.wf
  | .clrbits32 who => who.wf
  | .flowStamp who => who.wf
  | .account who => who.wf
  | .police who => who.wf
  | .flowExport who => who.wf
  | .flowAbort who => who.wf
  | .contextResolve _ => true
  | .logEntryApply slice => slice < 16
  | .noticePost _ => true
  | .sweepCount acc _ => acc < 7
  | .sweepReport acc _ => acc < 7
  | .sweepExpire acc _ => acc < 7
  | .sweepRecord slice => slice < 16
  | .sweepAbort acc _ => acc < 7
  | .exportFormat => true
  | .exportMessageSend _ => true
  | .copyTransmitStart port => port < 134
  | .copyTransmitEnd port => port < 134
  | .schedulerChoose port _ => port < 134
  | .sluiceRefill sluice => sluice < 2278
  | .sluiceWrite acc sluice _ _ => acc < 7 && sluice < 2278
  | .pfcFrameSend port => port < 132
  | .pfcRefresh port _ => port < 132
  | .samplePeriod => true
  | .mcWrite acc _ => acc < 7
  | .mcRead acc _ => acc < 7
  | .bpmCmdAlloc acc _ => acc < 7
  | .bpmCmdFree acc _ => acc < 7
  | .bpmCmdHandover acc _ => acc < 7
  | .bpmCmdShare acc _ => acc < 7
  | .poolInit acc _ => acc < 7
  | .poolInitDone pool => 1 ≤ pool && pool < 5
  | .tbSet acc _ => acc < 7
  | .tbStep acc _ => acc < 7
  | .tbSlew acc _ => acc < 7
  | .slewEnd => true
  | .ppsCapture _ => true
  | .referenceLoss => true
  | .pllHoldover => true
  | .pllRelock => true
  | .frcWrap => true
  | .aonTimeSave => true
  | .ppsOutEdge => true
  | .tbCtrlWrite acc _ => acc < 7
  | .tbServoWrite acc _ => acc < 7
  | .tbSnapshotRead acc _ => acc < 7
  | .helloSend link => link < 4
  | .helloReceive link frame => link < 4 && frame.lane < 8
  | .helloHoldExpire link _ => link < 4
  | .tableEntryExpire member _ => member < 8
  | .stackMeasurement => true
  | .dramRequestAccept r => r.wf
  | .dramCommandIssue chan _ _ => chan < 128
  | .dramReadComplete chan _ => chan < 128
  | .dramRefresh chan _ => chan < 128
  | .dramTempRead stack _ => stack < 4
  | .selfRefreshEntry stack _ => stack < 4
  | .rowIdleClose chan bank _ => chan < 128 && bank < 16
  | .arrayRewrite store place unit word _ => 1 ≤ store && store < 0x18 && place < 20 && unit < 256 && word < 2 ^ 48
  | .scrubRepair acc _ => acc < 7
  | .scrubSurvey acc _ => acc < 7
  | .scrubZero acc _ => acc < 7
  | .scrubUnit _ => true
  | .scrubAbort acc _ => acc < 7
  | .dmaStart acc channel _ => acc < 7 && channel < 32
  | .dmaStop acc channel _ => acc < 7 && channel < 32
  | .dmaKick acc channel _ => acc < 7 && channel < 32
  | .descriptorFetch channel => channel < 32
  | .moverAssign => true
  | .beatIssue channel => channel < 32
  | .beatAnswer channel => channel < 32
  | .descriptorWriteback channel => channel < 32
  | .descriptorPoll channel _ => channel < 32
  | .rxCopy channel => channel < 32
  | .txFrame channel => channel < 32
  | .eventRaise source => source < 320
  | .evcPendingRead acc target word => acc < 7 && target < 5 && word < 10
  | .evcSet acc _ => acc < 7
  | .pmcSnapshot acc _ => acc < 7
  | .pmcCounterClear acc _ => acc < 7
  | .snapshotPeriod => true
  | .sampleCapture cluster engine => cluster < 16 && engine < 16
  | .bwWindowClose => true
  | .gmpHello _ => true
  | .bye _ => true
  | .regRead _ => true
  | .regWrite _ => true
  | .memRead _ => true
  | .memWrite _ => true
  | .imageBegin _ => true
  | .imageData _ => true
  | .imageEnd _ => true
  | .gmpRestart _ => true
  | .locate _ => true
  | .subscribe _ => true
  | .faultRead _ => true
  | .sessionTimeout session _ => session < 4
  | .noticePoll => true
  | .mgtFrameReceive _ => true
  | .atbSample bus _ => bus < 2
  | .idcode => true
  | .samplePreload _ _ => true
  | .extest _ _ => true
  | .regacc _ => true
  | .retread _ => true
  | .bypass _ => true
  | .selftest acc _ => acc < 7
  | .selftestDone _ => true
  | .testLock acc _ => acc < 7
  | .loopbackWrite acc group _ => acc < 7 && group < 20
  | .prbsCtrlWrite acc group _ => acc < 7 && group < 20
  | .mgtLinkChange _ _ => true
  | .rideThroughEnd _ => true
  | .dailyBinExpire => true
  | .alwaysOnStoreExhausted _ => true
  | .lampTestEnd => true
  | .corePllLockReturn pll => pll < 7
  | .registerRead acc addr => acc < 7 && addr % 4 == 0 && addr < 0x1000000
  | .undefinedOpcode who => who.wf
  | .testLogicReset => true
  | .prbsCheckerLock group lane _ _ => group < 20 && lane < 8

end Sys2Proof
end

