-- ==== Sys2Proof/Machine/Ops.lean ====
section
/-! DEFINITION. The named operations over registers, counters, events, memory and the small tables that every
family of commands is written with. -/
namespace Sys2Proof.Machine

/-- The three outcomes of a command. -/
abbrev Out := Host.Outcome State Fault Refusal

/-- A command that takes place only where `g` holds; where it does not, the event does not occur and the state
stays as it is. -/
def occurs (s : State) (g : Bool) (t : State) : Out := .next (if g then t else s)

/-- A command whose operands name a unit the module does not have (`Instr.wf`) is no command of this module. -/
def whenWf (wf : Bool) (o : Out) : Out := if wf then o else .fault .illFormed

/-! ### The register file -/

/-- Whether a row of a register table covers the address `a`, and if so the index along its dimensions, the
outermost first. -/
def RegRow.indexOf (r : RegRow) (a : Nat) : Option (Nat × Nat × Nat) :=
  if a < r.base then none else
  let o := a - r.base
  let i := if r.d1.1 = 0 then 0 else o / r.d1.1
  let o1 := o - i * r.d1.1
  let j := if r.d2.1 = 0 then 0 else o1 / r.d2.1
  let o2 := o1 - j * r.d2.1
  let k := if r.d3.1 = 0 then 0 else o2 / r.d3.1
  let o3 := o2 - k * r.d3.1
  let wide := r.kind = .counter ∨ r.kind = .counterRW
  if i < r.d1.2 ∧ j < r.d2.2 ∧ k < r.d3.2 ∧ (o3 = 0 ∨ (wide ∧ o3 = 4)) then some (i, j, k) else none

/-- The row that covers an address, with its index. -/
def findRow : List RegRow → Nat → Option (RegRow × Nat × Nat × Nat)
  | [], _ => none
  | r :: t, a => match r.indexOf a with
    | some ix => some (r, ix)
    | none => findRow t a

/-- The register an address names (R165); none where the window's chapter gives no such offset. -/
def regAt (a : Nat) : Option (RegRow × Nat × Nat × Nat) :=
  if a % 4 = 0 then findRow (windowRows a) a else none

/-- FLM offsets 0x000–0x0FF of every cluster window reach the same common registers (R411). -/
def canonAddr (a : Nat) : Nat :=
  if 0x300000 ≤ a ∧ a < 0x400000 ∧ a % 0x10000 < 0x100 then 0x300000 + a % 0x10000 else a

/-- Reset values that differ along an array of registers (R398, R625, R759). -/
def RegRow.resetAt (r : RegRow) (i j : Nat) : Nat :=
  if r.special = 1 then [0x02004108, 0x40100608, 0x0000041F, 0x004001FF].getD j 0
  else if r.special = 2 then 24 + i
  else if r.special = 3 then [240, 0x80000000 + 400, 0x40000000 + 1000, 0x40000000 + 2000, 0xC0000000 + 300, 20000].getD i 0
  else r.reset

/-- The bits of a register that a write stores; MODE is RO in the lateral groups (R230), PFC_CFG ignores writes for
P132 and P133 (R651), pool 0's base and count are RO (R624), KEY(3)[31:16] and MC_DATA(4)[30:6] are
reserved (R331, R598). -/
def RegRow.rwAt (r : RegRow) (i : Nat) : Nat :=
  if r.special = 4 ∧ 16 ≤ i then r.rw - 3
  else if r.special = 5 ∧ 132 ≤ i then 0
  else if r.special = 6 ∧ i = 0 then 0
  else if r.special = 7 ∧ i = 3 then 0xFFFF
  else if r.special = 8 ∧ i = 4 then 0x8000003F
  else r.rw

/-- The value of a register after reset (R175). -/
def resetOf (a : Nat) : Word :=
  match regAt a with
  | some (r, i, j, _) => BitVec.ofNat 32 (r.resetAt i j)
  | none => 0

/-- The word a register holds. -/
def State.rd (s : State) (a : Nat) : Word := s.regs.getD (resetOf a) a

/-- The state with a register holding `v`. -/
def State.wr (s : State) (a : Nat) (v : Word) : State := { s with regs := s.regs.setD (resetOf a) a v }

/-- Field [hi:lo] of a register. -/
def State.fld (s : State) (a hi lo : Nat) : Nat := Wbits (s.rd a) hi lo

/-- Bit `i` of a register. -/
def State.bit (s : State) (a i : Nat) : Bool := s.fld a i i == 1

/-- The state with field [hi:lo] of a register holding the low bits of `v`. -/
def State.setFld (s : State) (a hi lo v : Nat) : State := s.wr a (Wput (s.rd a) hi lo v)

/-- The state with bit `i` of a register set or cleared. -/
def State.setBit (s : State) (a i : Nat) (b : Bool) : State := s.setFld a i i (b2n b)

/-- The state after a write of `v` to the RW fields of the register at `a`; its other fields keep their values (R169). -/
def State.storeRw (s : State) (a : Nat) (v : Word) : State :=
  match regAt a with
  | some (r, i, _) =>
    let m := r.rwAt i
    s.wr a (BitVec.ofNat 32 (Nat.lor (Nat.land (s.rd a).toNat (2 ^ 32 - 1 - m)) (Nat.land v.toNat m)))
  | none => s

/-- The 64-bit counter whose _LO word lies at `a`. -/
def State.ctr (s : State) (a : Nat) : Nat := s.ctrs.get a

/-- The state with the counter at `a` holding `v`. -/
def State.setCtr (s : State) (a v : Nat) : State := { s with ctrs := s.ctrs.set a v }

/-- The state with `n` added to the counter at `a`, modulo 2^64. -/
def State.bump (s : State) (a : Nat) (n : Nat := 1) : State := s.setCtr a ((s.ctr a + n) % 2 ^ 64)

/-- A 32-bit register field counter that saturates at its width. -/
def State.bumpFld (s : State) (a hi lo : Nat) (n : Nat := 1) : State :=
  s.setFld a hi lo (satNat (s.fld a hi lo + n) (2 ^ (hi + 1 - lo) - 1))

/-- A 64-bit or 40-bit value held in a pair of registers, _LO at `lo` and _HI at `hi`. -/
def State.pair (s : State) (lo hi : Nat) : Nat := (s.rd lo).toNat + (s.rd hi).toNat * 2 ^ 32

/-- The state with a pair of registers holding `v`. -/
def State.setPair (s : State) (lo hi v : Nat) : State :=
  (s.wr lo (BitVec.ofNat 32 v)).wr hi (BitVec.ofNat 32 (v / 2 ^ 32))

/-! ### Events (R819–R826) -/

/-- Targets a source is routed to: CE0–CE3 in bits 0–3, the management port as target 4. -/
def State.routed (s : State) (n : Nat) : List Nat := setBits (s.fld (Reg.evcRoute n) 4 0) 5

/-- Raising event source `n`: its RAISED count goes up and its pending bit is set for each routed target (R822). -/
def State.raiseBare (s : State) (n : Nat) : State :=
  let s1 := s.setFld (Reg.evcRaised n) 31 0 (s.fld (Reg.evcRaised n) 31 0 + 1)
  (s.routed n).foldl (fun t k => t.setBit (Reg.evcPending k (n / 32)) (n % 32) true) s1

/-- The global counters that a SEL register has enabled: only registers written since reset can be. -/
def State.selected (s : State) : List (Nat × Word) :=
  s.regs.entries.filter fun e => Reg.pmcSel 0 ≤ e.1 && e.1 ≤ Reg.pmcSel 63 && Wbits e.2 31 31 == 1

/-- Whether `n` more counts wrap global counter `i` (R828). -/
def State.pmcWraps (s : State) (i n : Nat) : Bool := decide (2 ^ 48 ≤ s.ctr (Reg.pmcCnt i) + n)

/-- The state with global counter `i` raised by `n` modulo 2^48; a wrap sets its OVF bit (R828). -/
def State.pmcAdd (s : State) (i n : Nat) : State :=
  let t := s.setCtr (Reg.pmcCnt i) ((s.ctr (Reg.pmcCnt i) + n) % 2 ^ 48)
  if s.pmcWraps i n then
    (if i < 32 then t.setBit Reg.pmcOvfLo i true else t.setBit Reg.pmcOvfHi (i - 32) true)
  else t

/-- Whether a SEL register counts event `ev` at one of the instances `insts` (R827); with no instances the event has
none, and every INSTANCE counts it. -/
def selCounts (sel : Word) (ev : Nat) (insts : List Nat) : Bool :=
  Wbits sel 9 0 == ev && (insts.isEmpty || insts.contains (Wbits sel 24 16))

/-- `n` more occurrences of count event `ev` at one of the instances `insts` (R827, R828): each enabled counter that
names it goes up; a wrap with OVF_EVT raises event 312, itself a count event. The first argument bounds that chain. -/
def pmcCount : Nat → State → Nat → List Nat → Nat → State
  | 0, s, _, _, _ => s
  | k + 1, s, ev, insts, n =>
    if s.bit Reg.pmcCtrl 31 then s else
    s.selected.foldl (fun t e =>
      if selCounts e.2 ev insts then
        (if t.pmcWraps ((e.1 - Reg.pmcSel 0) / 4) n && Wbits e.2 30 30 == 1 then
          pmcCount k (((t.pmcAdd ((e.1 - Reg.pmcSel 0) / 4) n).setBit Reg.pmcEvents 0 true).raiseBare 312) 96 [312] 1
        else t.pmcAdd ((e.1 - Reg.pmcSel 0) / 4) n)
      else t) s

/-- Count event `ev` (R827). -/
def State.count (s : State) (ev : Nat) (insts : List Nat) (n : Nat := 1) : State := pmcCount 4 s ev insts n

/-- Raising event source `n`, which is itself a count event (R822, R827). -/
def State.raiseEvent (s : State) (n : Nat) : State := (s.raiseBare n).count 96 [n]

/-- Setting status bit `b` of an events register and raising the event it stands for. -/
def State.setEvent (s : State) (a b n : Nat) : State := (s.setBit a b true).raiseEvent n

/-- Whether the interrupt line of control engine `k` is asserted (R824). -/
def State.irqLine (s : State) (k : Nat) : Bool :=
  (List.range 10).any fun w =>
    Nat.land (s.rd (Reg.evcPending k w)).toNat (s.rd (Reg.evcEnable k w)).toNat != 0

/-! ### First-failure records (VALID in [31], OVERFLOW in [30]; the other fields captured only while VALID is 0) -/

/-- The word of such a record after one more failure whose captured fields are `v`. -/
def firstRecord (old v : Word) : Word :=
  if Wbits old 31 31 = 1 then Wput old 30 30 1 else Wput (Wput v 31 31 1) 30 30 (Wbits old 30 30)

/-- Recording a failure in the record register at `a`. -/
def State.record (s : State) (a : Nat) (v : Nat) : State := s.wr a (firstRecord (s.rd a) (BitVec.ofNat 32 v))

/-! ### Alarm windows -/

/-- Whether `n` more occurrences raise the alarm of a fixed window: a limit that is not 0 is reached and the alarm has
not been raised for it in this window. Key `k` counts, and `k + 4096` remembers that the alarm was raised. -/
def alarmDue (w : WindowCounts) (k n lim : Nat) : Bool :=
  lim != 0 && n != 0 && decide (lim ≤ w.get k + n) && w.get (k + 4096) == 0

/-- The window's counts after `n` more occurrences. -/
def windowAdd (w : WindowCounts) (k n lim : Nat) : WindowCounts :=
  let c := w.set k (w.get k + n)
  if alarmDue w k n lim then c.set (k + 4096) 1 else c

/-- A new limit: the alarm is set at the next count when the window's count already reaches it. -/
def windowRearm (w : WindowCounts) (k : Nat) : WindowCounts := w.set (k + 4096) 0

/-! ### Routes to other members (R709) -/

/-- The lateral link that STK.ROUTE gives toward a member: LINK with OVR, else its table entry's (R709). -/
def State.routeLink (s : State) (m : Nat) : Nat :=
  if s.bit (Reg.stkRoute m) 31 then s.fld (Reg.stkRoute m) 1 0 else (s.stk.members.get m).link

/-- Whether the link toward another member is there: it is in the table, and its link is in service (R709). -/
def State.reachable (s : State) (m : Nat) : Bool :=
  (s.stk.members.get m).valid && (s.stk.links.get (s.routeLink m)).state == 3

/-! ### Reaching a register (R167, R871) -/

/-- What comes of a register access: it reaches its register; nothing happens and nothing is recorded; or it fails
and is recorded with a KIND (R188). -/
inductive Reach where
  | ok | silent | error (kind : Nat)
  deriving DecidableEq, Repr, Inhabited

/-- Whether the ASIC core runs: neither unpowered, held in reset nor frozen by a fault stop. -/
def State.coreUp (s : State) : Bool := s.boot.core == .running && s.boot.stop != .fault

/-- Whether egress MACs start frames: the core runs and no stop has begun (R75, R146). -/
def State.mayStart (s : State) : Bool := s.coreUp && s.boot.stop == .none

/-- Where an access by an accessor goes: with the core down only JTAG reaches SSV and BOOT (R871); an unmapped
offset and a clock-gated port group fail (R167). An unmapped offset inside a gated group is reported as unmapped (DESIGN
CHOICE: R188 gives a KIND to each and no order between them). -/
def State.reach (s : State) (acc a : Nat) : Reach :=
  if !s.coreUp then (if acc = 6 ∧ 0x10000 ≤ a ∧ a < 0x30000 ∧ (regAt a).isSome then .ok else .silent)
  else if (regAt (canonAddr a)).isNone then .error 0
  else if 0x100000 ≤ a ∧ a < 0x150000 ∧ s.bit Reg.clkPgGate ((a - 0x100000) / 0x4000) then .error 1
  else .ok

/-- A failed access recorded (R188). -/
def State.accErr (s : State) (acc a kind : Nat) (write : Bool) : State :=
  let s := if s.bit Reg.glbAccErr 31 then s else s.wr Reg.glbAccAddr (BitVec.ofNat 32 (a % 2 ^ 24))
  s.record Reg.glbAccErr (acc * 2 ^ 27 + kind * 2 ^ 24 + b2n write)

/-- A control engine's register access issues only after its write buffer has drained (R406). -/
def State.busHeld (s : State) (acc : Nat) : Bool := acc < 4 && !(s.flume.ces.get acc).wb.isEmpty

/-- A register write by an accessor whose effect, where it reaches the register, is `f`. -/
def regCmd (acc a : Nat) (f : State → State) (s : State) : State :=
  if s.busHeld acc then s else
  match s.reach acc a with
  | .ok => f s
  | .silent => s
  | .error k => s.accErr acc a k true

/-- A command row that is a write of one register: it is that command where `g` holds of the value written. -/
def writeRow (wf : Bool) (acc a : Nat) (g : Bool) (f : State → State) (s : State) : Out :=
  whenWf wf (occurs s g (regCmd acc a f s))

/-! ### Command results (R173, R174) -/

/-- A command accepted: DONE = 0, BUSY = 1, REJECTED = 0, the other fields kept. -/
def State.cmdAccept (s : State) (a : Nat) : State := s.setFld a 31 29 2

/-- Whether a command is running. -/
def State.cmdBusy (s : State) (a : Nat) : Bool := s.bit a 30

/-- A command written while another runs is ignored and only sets REJECTED. -/
def State.cmdReject (s : State) (a : Nat) : State := s.setBit a 29 true

/-- A command finished: DONE = 1, BUSY = 0, the low 29 bits replaced by the result. -/
def State.cmdDone (s : State) (a v : Nat) : State :=
  s.wr a (BitVec.ofNat 32 (2 ^ 31 + s.fld a 29 29 * 2 ^ 29 + v % 2 ^ 29))

/-! ### Spillway counters (R595) -/

/-- One more packet or copy in Spillway counter `i`. -/
def State.spill (s : State) (i : Nat) (n : Nat := 1) : State := (s.bump (Reg.qmSpill i) n).count 73 [i] n

/-! ### Memory -/

/-- The address ranges of R162 that hold bytes: the four local memories and DRAM. -/
def memMapped (a : Nat) : Bool :=
  (0x1000000 ≤ a && a < 0x2000000) || (0x2000000000 ≤ a && a < 0x4000000000)

/-- Whether an address lies in DRAM. -/
def inDram (a : Nat) : Bool := 0x2000000000 ≤ a && a < 0x4000000000

/-- Whether an address lies in a control engine's local memory. -/
def inLocal (a : Nat) : Bool := 0x1000000 ≤ a && a < 0x2000000

/-- One byte of the address space. -/
def State.ldb (s : State) (a : Nat) : Byte := s.mem.get a

/-- `n` bytes from `a` upward. -/
def State.ldBytes (s : State) (a n : Nat) : List Byte := (List.range n).map fun i => s.ldb (a + i)

/-- The byte map with a list of bytes stored from `a` upward. -/
def putBytes (m : SMap Byte) (a : Nat) : List Byte → SMap Byte
  | [] => m
  | b :: r => putBytes (m.set a b) (a + 1) r

/-- Bytes of a byte map from `a` upward. -/
def getBytes (m : SMap Byte) (a n : Nat) : List Byte := (List.range n).map fun i => m.get (a + i)

/-- The state with bytes stored from `a` upward. -/
def State.stBytes (s : State) (a : Nat) (bs : List Byte) : State := { s with mem := s.mem.putBytes a bs }

/-- Memory without the bytes from `a` to `a + n - 1`: they read as zero. -/
def clearRange (m : SMap Byte) (a n : Nat) : SMap Byte :=
  ⟨m.entries.filter fun e => e.1 < a || a + n ≤ e.1⟩

/-! ### Free values -/

/-- The next free number of `k` bits, and the state with the counter advanced. -/
def State.draw (s : State) (k : Nat) : Nat × State :=
  (Config.freeValue s.freeCtr % 2 ^ k, { s with freeCtr := s.freeCtr + 1 })

/-! ### Time (R16, R657) -/

/-- NS64 of the time base. -/
def State.ns64 (s : State) : Nat := (s.tb.sec * 1000000000 + s.tb.ns) % 2 ^ 64

/-- TS80 of a native time. -/
def ts80Of (sec ns frac16 : Nat) : Nat := sec % 2 ^ 32 * 2 ^ 48 + ns * 2 ^ 18 + frac16 * 4

/-- TS80 of the time base. -/
def State.ts80 (s : State) : Nat := ts80Of s.tb.sec s.tb.ns (s.tb.frac / 2 ^ 32)

/-- Seconds, nanoseconds and fraction of a TS80. -/
def tsSec (t : Nat) : Nat := bitsOf t 79 48
def tsNs (t : Nat) : Nat := bitsOf t 47 18
def tsFrac (t : Nat) : Nat := bitsOf t 17 2

/-- Nanoseconds since restart, from the FRC (R683). -/
def State.nowNs (s : State) : Nat := s.tb.frc / 2 ^ 48

/-! ### Places -/

/-- Port group of a logical port: cage c for a front port, 16 + k for a lateral port, 20 for P132 and P133 (R29). -/
def groupOf (p : Nat) : Nat := if p < 128 then p / 8 else if p < 132 then 16 + (p - 128) else 20

/-- Sub-port of a logical port within its group. -/
def subOf (p : Nat) : Nat := if p < 128 then p % 8 else if p < 132 then 0 else p - 132

/-- Logical port of sub-port `i` of group `g`. -/
def portOf (g i : Nat) : Nat := if g < 16 then g * 8 + i else 128 + (g - 16) + i

/-- Cage mode of a group: 0 1×800G, 1 2×400G, 2 4×200G, 3 8×100G (R30, R31). -/
def State.cageMode (s : State) (g : Nat) : Nat := if g < 16 then s.fld (Reg.pgCtrl g) 1 0 else 0

/-- Sub-ports that name a port in a cage mode (R30). -/
def subPorts (mode : Nat) : List Nat :=
  if mode = 0 then [0] else if mode = 1 then [0, 4] else if mode = 2 then [0, 2, 4, 6] else List.range 8

/-- Whether a logical port exists in its cage's current mode; P132 and P133 always do. -/
def State.portExists (s : State) (p : Nat) : Bool :=
  if p < 132 then (subPorts (s.cageMode (groupOf p))).contains (subOf p) else p < 134

/-- Rate of a port in units of 100 Gb/s. -/
def State.portRate (s : State) (p : Nat) : Nat :=
  if p < 132 then [8, 4, 2, 1].getD (s.cageMode (groupOf p)) 8 else 8

/-- The ports of a group in its current mode. -/
def State.groupPorts (s : State) (g : Nat) : List Nat := (subPorts (s.cageMode g)).map (portOf g)

/-- The PORT_CTRL register of a port. -/
def portCtrlOf (p : Nat) : Nat := Reg.portCtrl (groupOf p) (subOf p)

/-- Counter `i` of a port (R240). -/
def portCtr (p i : Nat) : Nat := Reg.portCnt (groupOf p) (subOf p) i

/-- MAX_FRAME in force on a port (R236). -/
def State.maxFrame (s : State) (p : Nat) : Nat :=
  let v := s.fld (portCtrlOf p) 13 0
  if v < 64 then 64 else if p < 128 then min v 10240 else min v 10400

/-- Whether a frame's last four bytes are its FCS (R210). -/
def fcsGood (f : List Byte) : Bool := 4 ≤ f.length && f == withFcs (f.take (f.length - 4))

/-- Of two errors the one with the lower code: an error control character is code 2, a codeword code 3 (R210). -/
def lowerErr (a b : Option RxError) : Option RxError := if a = some .errChar ∨ b.isNone then a else b

/-- The verdict an error gives, `v` where there is none. -/
def errVerdict (err : Option RxError) (v : Nat) : Nat := match err with
  | some .errChar => 2
  | some .codeword => 3
  | none => v

/-- The tail verdict of a frame received whole on a port (R210): the lowest code that applies; a frame longer than
MAX_FRAME is truncated, and no FCS check is made for it. -/
def State.rxVerdict (s : State) (p : Nat) (f : List Byte) (err : Option RxError) : Nat :=
  let long := s.maxFrame p < f.length
  if !long && !fcsGood f then 1
  else errVerdict err (if long then 4 else if f.length < 64 then 5 else 0)

/-- `m` more of an engine event (R830, R831): counters j = 0 and 1 of engine `e` of cluster `n` that select `code`. -/
def State.engAdd (s : State) (n e code m : Nat) : State :=
  [0, 1].foldl (fun t j =>
    if t.fld (Reg.pmcEngSel n) (4 * j + 3) (4 * j) = code then
      let a := Reg.pmcEng n e j
      let v := t.fld a 31 0 + m
      let t1 := t.setFld a 31 0 v
      if 2 ^ 32 ≤ v ∧ t.bit (Reg.pmcEngSel n) (30 + j) then { t1 with pmc.armed := t1.pmc.armed.set ((n * 16 + e) * 2 + j) (some 3) }
      else t1
    else t) s

/-- Whether a cluster's THREAD_MASK holds a thread (R830). -/
def State.masked (s : State) (n th : Nat) : Bool := bitAt (s.fld (Reg.pmcEngSel n) 23 16) th

/-- An engine event of a thread, where THREAD_MASK holds it (R830). -/
def State.engEvent (s : State) (n e th code : Nat) : State := if s.masked n th then s.engAdd n e code 1 else s

/-! ### Threads, contexts and control engines -/

/-- Number of a thread (R375). -/
def thrNo (cl e th : Nat) : Nat := (cl * 16 + e) * 8 + th

/-- A thread of a packet engine. -/
def State.thr (s : State) (cl e th : Nat) : Thread := s.flume.threads.get (thrNo cl e th)

/-- The state with a thread replaced. -/
def State.setThr (s : State) (cl e th : Nat) (t : Thread) : State :=
  { s with flume.threads := s.flume.threads.set (thrNo cl e th) t }

/-- A context. -/
def State.ctx (s : State) (c : Nat) : Ctx := s.dsp.ctxs.get c

/-- The state with a context replaced. -/
def State.setCtx (s : State) (c : Nat) (x : Ctx) : State := { s with dsp.ctxs := s.dsp.ctxs.set c x }

/-- A control engine. -/
def State.ce (s : State) (k : Nat) : Ce := s.flume.ces.get k

/-- The state with a control engine replaced. -/
def State.setCe (s : State) (k : Nat) (c : Ce) : State := { s with flume.ces := s.flume.ces.set k c }

/-- The level a control engine runs at (R399). -/
def Ce.cur (c : Ce) : Arch := if c.level then c.intr else c.base

/-- A control engine with its current level replaced. -/
def Ce.setCur (c : Ce) (a : Arch) : Ce := if c.level then { c with intr := a } else { c with base := a }

/-- Segment register of the current level (R400). -/
def Ce.seg (c : Ce) : Nat := if c.level then c.segIntr else c.segBase

/-- The registers an issuer computes on. -/
def State.arch (s : State) : Who → Arch
  | .pe cl e th => (s.thr cl e th).arch
  | .ce k => (s.ce k).cur

/-- The state with those registers replaced. -/
def State.setArch (s : State) (w : Who) (a : Arch) : State :=
  match w with
  | .pe cl e th => s.setThr cl e th { s.thr cl e th with arch := a }
  | .ce k => s.setCe k ((s.ce k).setCur a)

end Sys2Proof.Machine
end

