-- ==== Sys2Proof/Machine/FaultStop.lean ====
section
/-! DEFINITION. The retention RAM's header and summary and the start of a fault stop (R145–R149, R754, R872, R877). -/
namespace Sys2Proof.Machine

/-! ### Retention RAM (R149) -/

/-- The little-endian number in `n` bytes of the retention RAM. -/
def State.ret (s : State) (o n : Nat) : Nat := leNat (getBytes s.aon.retention o n)

/-- The state with such a number stored. -/
def State.setRet (s : State) (o n v : Nat) : State := { s with aon.retention := putBytes s.aon.retention o (leBytes v n) }

/-- Bits of the retention FLAGS word (layout of BOOT.RETAIN, R161). -/
def retCal : Nat := 0
def retCapture : Nat := 1
def retFlushed : Nat := 2
def retNote : Nat := 3
def retHeld : Nat := 4
def retTruncated : Nat := 5

/-- A bit of the retention FLAGS. -/
def State.retFlag (s : State) (i : Nat) : Bool := bitAt (s.ret 4 4) i

/-- The state with such a bit set or cleared, under the header's MAGIC. -/
def State.setRetFlag (s : State) (i : Nat) (b : Bool) : State :=
  (s.setRet 0 4 0x54455247).setRet 4 4 (putBits (s.ret 4 4) i i (b2n b))

/-- Failed attempts of an image slot, and the state with them set; BOOT.IMG_STAT shows them in four bits. -/
def State.attempts (s : State) (slot : Nat) : Nat := s.ret (0x10 + slot) 1
def State.setAttempts (s : State) (slot n : Nat) : State := s.setRet (0x10 + slot) 1 (satNat n 15)

/-- NS64 time of the `i`-th last fault stop. -/
def State.stopTime (s : State) (i : Nat) : Nat := s.ret (0x18 + 8 * i) 8

/-- A fault stop's cause and time recorded in the header. -/
def State.noteStop (s : State) (cause : Nat) : State :=
  let t := s.ns64
  let old := getBytes s.aon.retention 0x18 24
  (({ s with aon.retention := putBytes s.aon.retention 0x20 old }.setRet 0x18 8 t).setRet 0x38 8 t).setRet 0x13 1 cause

/-- The summary (R149) of an error: cause, detecting block base, syndrome, failing address, region. -/
structure FaultInfo where
  cause : Nat
  base : Nat
  syndrome : Nat := 0
  addr : Nat := 0
  region : Nat := 0xFFFFFFFF
  /-- the DRAM stack whose read failed -/
  stack : Option Nat := none
  deriving DecidableEq, Repr, Inhabited

/-- The summary's bytes. -/
def FaultInfo.bytes (f : FaultInfo) (now coincident : Nat) : List Byte :=
  leBytes f.cause 4 ++ leBytes f.base 4 ++ leBytes f.syndrome 4 ++ leBytes f.addr 8 ++ leBytes now 8 ++
    leBytes f.region 4 ++ leBytes 0 8 ++ leBytes coincident 4

/-- A new summary stored over a cleared summary area; the capture it begins is not yet in flash. -/
def State.writeSummary (s : State) (f : FaultInfo) (coincident : Nat) : State :=
  let m := putBytes (clearRange s.aon.retention 0x200 0x200) 0x200 (f.bytes s.ns64 coincident)
  (({ s with aon.retention := m }.setRetFlag retCapture true).setRetFlag retFlushed false).setRetFlag retTruncated false

/-- A further error during a fault stop is only counted (R148), in a stop that writes a summary. -/
def State.secondError (s : State) : State :=
  if s.boot.capturing then s.setRet 0x22C 4 (satNat (s.ret 0x22C 4 + 1) 0xFFFFFFFF) else s

/-- A coincident condition noted in the summary (R148). -/
def State.coincident (s : State) (i : Nat) : State := s.setRet 0x228 4 (putBits (s.ret 0x228 4) i i 1)

/-! ### The stop -/

/-- A port's frame in progress ends with /E/ and an inverted FCS (R146, R219); how much of it had been sent the spec
leaves to the moment. -/
def State.stompTx (s : State) (p : Nat) : State :=
  let x := s.sch.tx.get p
  if x.sending.isNone then s
  else
    let r := s.draw 14
    let s := r.2
    { s with sch.tx := s.sch.tx.set p { x with sending := none, wire := stompWire x.wire (r.1 % (max 1 (x.wire.length - 3)))
                                               ended := some .errChar } }

/-- Every egress MAC ends its frame. -/
def State.stompAll (s : State) : State := (List.range 132).foldl State.stompTx s

/-- The freeze of the DRAM controllers (R754): nothing more is issued; reads already on the interface finish, and their
data is discarded as they return. -/
def State.freezeDram (s : State) (stack : Option Nat) : State :=
  let s := (List.range 4).foldl (fun t n => t.setBit (Reg.dnStatus n) 31 true) s
  match stack with
  | some n => s.setBit (Reg.dnEvents n) 1 true
  | none => s

/-- A fault stop before BOOT.CONFIRM fails the running image's attempt (R130). -/
def State.attemptFailed (s : State) (cause : Nat) : State :=
  if s.boot.confirmed || cause < 2 || 6 < cause || s.bit Reg.bootStatus 24 || s.fld Reg.bootStatus 31 28 == 0 then s
  else s.setAttempts (s.fld Reg.bootStatus 25 25) (s.attempts (s.fld Reg.bootStatus 25 25) + 1)

/-- Mode a fault stop requests (R141). -/
def State.faultMode (s : State) (cause : Nat) : Nat := if cause ≤ 4 then s.boot.onFault else s.boot.onWatchdog

/-- A memory error detected after an orderly stop has begun goes into that stop's fault record (R78): the first in
its fields, further ones counted. -/
def State.orderlyError (s : State) (f : FaultInfo) : State :=
  if 4 < f.cause then s
  else match s.boot.orderlyErr with
    | none => { s with boot.orderlyErr := some ⟨f.base, f.syndrome, f.addr, f.region⟩ }
    | some _ => { s with boot.orderlyErrs := satNat (s.boot.orderlyErrs + 1) 0xFFFFFFFF }

/-- The start of a fault stop (R145, R146): the freeze, the summary, the frames in progress. While an earlier capture
is not in flash, that one is kept and only cause and time are recorded (R148). -/
def State.beginStop (s : State) (f : FaultInfo) : State :=
  let s := (s.noteStop f.cause).attemptFailed f.cause
  let free := !(s.retFlag retCapture && !s.retFlag retFlushed)
  let s := if free then s.writeSummary f 0 else s
  let s := (({ s with boot.capturing := free }.setBit Reg.hdgStatus 31 false).freezeDram f.stack).stompAll
  { s with boot.requested := s.faultMode f.cause, boot.cause := f.cause, boot.stop := .fault }

/-- An error that stops the module. -/
def State.faultStop (s : State) (f : FaultInfo) : State :=
  if s.boot.core != .running then s
  else match s.boot.stop with
    | .fault => s.secondError
    | .orderly => s.orderlyError f
    | .none => s.beginStop f

/-- Detecting block base of an on-chip store (R872); `unit` is the instance, the cluster for a store of a cluster. -/
def storeBase (store cluster : Nat) : Nat :=
  if store ≤ 4 then 0x480000
  else if store ≤ 6 then 0x400000
  else if store ≤ 0xB then 0x300000 + 0x10000 * cluster
  else if store ≤ 0xD then 0x180000
  else if store ≤ 0xF then 0x200000
  else if store ≤ 0x11 then 0x240000
  else if store ≤ 0x14 then 0x300000
  else if store = 0x15 then 0x500000
  else if store = 0x16 then 0x6C0000
  else 0x100000 + 0x4000 * cluster

/-- Whether a store is protected by parity (R767, R872). -/
def storeParity (store : Nat) : Bool := [0xA, 0xB, 0xD, 0x14, 0x17].contains store

/-- A fault stop on an uncorrectable word of an on-chip store (R776, R872). -/
def State.storeFault (s : State) (store cluster unit word syndrome : Nat) : State :=
  s.faultStop { cause := if storeParity store then 4 else 3, base := storeBase store cluster, syndrome := syndrome
                addr := unit * 2 ^ 56 + store * 2 ^ 48 + word % 2 ^ 48 }

end Sys2Proof.Machine
end

