-- ==== Sys2Proof/Machine/FlowLog.lean ====
section
/-! DEFINITION. Flow records: where they lie, how a slice caches them, the staged entries of their logs, and the
speculative image (R488–R517, R536–R545). A record is named by its key, slice × 2^26 + position. -/
namespace Sys2Proof.Machine

/-! ### Geometry (R488–R491, R531) -/

/-- Record size R in bytes. -/
def State.recSize (s : State) : Nat := [64, 128, 256].getD (s.fld Reg.fleGeom 31 30) 64

/-- Buckets per slice, a power of two. -/
def State.buckets (s : State) : Nat := 2 ^ s.fld Reg.fleGeom 4 0

/-- Size of the flow region in bytes. -/
def State.regionSize (s : State) : Nat := 2 ^ (33 + s.fld Reg.fleGeom 29 28)

/-- Whether an address lies in the flow region. -/
def State.inFlowRegion (s : State) (a : Nat) : Bool := s.flow.base ≤ a && a < s.flow.base + s.regionSize

/-- Key of a position. -/
def recKey (slice pos : Nat) : Nat := slice * 2 ^ 26 + pos

/-- Slice and position of a key. -/
def keySlice (key : Nat) : Nat := key / 2 ^ 26
def keyPos (key : Nat) : Nat := key % 2 ^ 26

/-- DRAM address of byte `i` of a record (R490). -/
def State.recAddr (s : State) (key i : Nat) : Nat :=
  s.flow.base + (keyPos key * 16 + keySlice key) * s.recSize + i

/-- HANDLE_LO of a record (R512). -/
def handleLo (key : Nat) : Nat := keySlice key * 2 ^ 28 + keyPos key

/-! ### The cache of a slice (R516–R518) -/

/-- A byte of the committed image: the cache's, or DRAM's. -/
def State.recByte (s : State) (key i : Nat) : Byte :=
  let l := s.flow.lines.get key
  if bitAt l.have_ (i / 64) then l.data.get i else s.ldb (s.recAddr key i)

/-- The committed image of a record. -/
def State.committed (s : State) (key : Nat) : List Byte := (List.range s.recSize).map fun i => s.recByte key i

/-- The staged entries on a record, oldest first. -/
def State.log (s : State) (key : Nat) : List LogEntry := s.flow.logs.get key

/-- Whether a line is held (R516): an unresolved context has operated on its record, or entries of its log are still to
be applied or removed, a reserved create among them. -/
def State.lineHeld (s : State) (key : Nat) : Bool :=
  (s.flow.insts.entries.any fun e => e.2.live && e.2.resolved.isNone && e.2.touched.contains key) ||
  s.log key != []

/-- Lines of the set a key falls in, present ones only. -/
def State.setLines (s : State) (key : Nat) : List (Nat × FlowLine) :=
  let sets := 262144 / s.recSize
  s.flow.lines.entries.filter fun e =>
    keySlice e.1 == keySlice key && keyPos e.1 % sets == keyPos key % sets && e.2.have_ != 0

/-- Counter `k` of a slice (R535). -/
def sliceCnt (slice k : Nat) : Nat := Reg.fleFsCnt slice k

/-- A line's dirty atoms written to DRAM (R491). -/
def State.writeBack (s : State) (key : Nat) : State :=
  let l := s.flow.lines.get key
  let atoms := setBits l.dirty 4
  let s := atoms.foldl (fun t n => t.stBytes (t.recAddr key (64 * n)) ((List.range 64).map fun i => l.data.get (64 * n + i))) s
  let s := { s with flow.lines := s.flow.lines.set key { l with dirty := 0 } }
  if atoms = [] then s else s.bump (sliceCnt (keySlice key) 3) atoms.length

/-- Room for a line in its set: none while every line of a full set is held (R517). -/
def State.makeRoom (s : State) (key : Nat) : Option State :=
  if (s.flow.lines.get key).have_ ≠ 0 then some s
  else
    let set := s.setLines key
    if set.length < 16 then some s
    else match minBy (fun e : Nat × FlowLine => e.2.used) (set.filter fun e => !s.lineHeld e.1) with
      | none => none
      | some v => let s := s.writeBack v.1
                  some { s with flow.lines := s.flow.lines.set v.1 {} }

/-- The atoms of `mask` that a record's line does not hold. -/
def State.missingAtoms (s : State) (key mask : Nat) : List Nat :=
  (setBits mask 4).filter fun n => !bitAt (s.flow.lines.get key).have_ n

/-- The missing atoms of `mask` read from DRAM into a record's line, which is the one last used. -/
def State.fillLine (s : State) (key mask : Nat) : State :=
  let l := s.flow.lines.get key
  let missing := s.missingAtoms key mask
  let data := missing.foldl (fun d n =>
    (List.range 64).foldl (fun d i => d.set (64 * n + i) (s.ldb (s.recAddr key (64 * n + i)))) d) l.data
  let l' := { l with have_ := missing.foldl (fun h n => h + 2 ^ n) l.have_, data := data, used := s.flow.uses + 1 }
  { s with flow.lines := s.flow.lines.set key l', flow.uses := s.flow.uses + 1 }

/-- The atoms of `mask` brought into the cache; none where the operation must wait. Each search read of an atom 0, each
create's and operation's access to its record and each application of an entry counts here as a hit or a miss (DESIGN
CHOICE: R535 does not say which accesses count); a sweep's look at an invalid position and at a home's HOP does not. -/
def State.fetchAtoms (s : State) (key mask : Nat) : Option State :=
  match s.makeRoom key with
  | none => none
  | some t =>
    let sl := keySlice key
    let u := t.fillLine key mask
    some (if t.missingAtoms key mask = [] then u.bump (sliceCnt sl 0) else (u.bump (sliceCnt sl 1)).count 65 [sl, 16])

/-- Mask of every atom of a record. -/
def State.allAtoms (s : State) : Nat := 2 ^ (s.recSize / 64) - 1

/-- The committed image changed to `img`, in the cache; the atoms that differ become dirty. -/
def State.setCommitted (s : State) (key : Nat) (img : List Byte) : State :=
  let old := s.committed key
  let l := s.flow.lines.get key
  let n := s.recSize / 64
  let changed := (List.range n).filter fun a => slice old (64 * a) 64 != slice img (64 * a) 64
  let data := changed.foldl (fun d a => (List.range 64).foldl (fun d i => d.set (64 * a + i) (byteAt img (64 * a + i))) d) l.data
  let or_ := fun m => (changed.filter fun a => !bitAt m a).foldl (fun h a => h + 2 ^ a) m
  { s with flow.lines := s.flow.lines.set key { l with data := data, dirty := or_ l.dirty, have_ := or_ l.have_ } }

/-! ### Record fields (R492, R493) -/

/-- A little-endian field of an image. -/
def fieldOf (img : List Byte) (ofs n : Nat) : Nat := leNat (slice img ofs n)

/-- An image with bytes replaced. -/
def imgPut (img : List Byte) (ofs : Nat) (bs : List Byte) : List Byte :=
  img.take ofs ++ bs ++ img.drop (ofs + bs.length)

def recValid (img : List Byte) : Bool := bitAt (fieldOf img 0 1) 7
def recPinned (img : List Byte) : Bool := bitAt (fieldOf img 0 1) 6
def recDisplaced (img : List Byte) : Bool := bitAt (fieldOf img 0 1) 5
def recKeyLen (img : List Byte) : Nat := fieldOf img 1 1
def recGen (img : List Byte) : Nat := fieldOf img 2 2
def recTenant (img : List Byte) : Nat := fieldOf img 4 2
/-- HOP of the position: the candidate index, where HVALID is set. -/
def recHop (img : List Byte) : Option Nat := if bitAt (fieldOf img 6 2) 15 then some (fieldOf img 6 2 % 16) else none
def recKeyBytes (img : List Byte) : List Byte := slice img 0x10 (recKeyLen img)

/-- Offsets of the counters and times, by record size. -/
def pktOfs (r : Nat) : Nat := if r = 64 then 0x28 else 0x40
def lastOfs (r : Nat) : Nat := if r = 64 then 0x38 else 0x58
def firstOfs (r : Nat) : Nat := if r = 64 then 0x38 else 0x50
def recLast (r : Nat) (img : List Byte) : Nat := fieldOf img (lastOfs r) 8

/-- An image invalidated: HOP and GEN are kept (R494), and with them every other byte and bit but VALID (DESIGN CHOICE: the
spec does not say what becomes of them). -/
def recClear (img : List Byte) : List Byte := imgPut img 0 [BitVec.ofNat 8 (fieldOf img 0 1 % 128)]

/-- An image whose HOP is set to a candidate index or cleared. -/
def recSetHop (img : List Byte) (h : Option Nat) : List Byte :=
  imgPut img 6 (leBytes (match h with | some j => 0x8000 + j % 16 | none => 0) 2)

/-! ### Keys and candidates (R495–R499) -/

/-- A flow hash of a key (R496). -/
def flowHash (seed tenant : Nat) (key : List Byte) : Nat :=
  let data := BitVec.ofNat 8 (tenant / 256) :: BitVec.ofNat 8 tenant :: key
  hashFin (Nat.xor (crc32cBytes (seed % 2 ^ 32) data) (seed / 2 ^ 32))

/-- Candidate positions of a key: index j names slot j mod 8 of bucket A (j < 8) or bucket B. -/
structure Candidates where
  slice : Nat
  shard : Bool
  bucketA : Nat
  bucketB : Nat
  home : Nat
  deriving DecidableEq, Repr, Inhabited

/-- Where a key belongs (R496–R498). -/
def State.candidates (s : State) (tenant : Nat) (key : List Byte) : Candidates :=
  let hs := flowHash s.flow.sliceSeed tenant key
  let h1 := flowHash s.flow.seed1 tenant key
  let h2 := flowHash s.flow.seed2 tenant key
  let a := h1 % s.buckets
  let b := h2 % s.buckets
  { slice := hs % 16, shard := bitAt hs 4, bucketA := a, bucketB := if a = b then Nat.xor a 1 else b, home := bitsOf h1 31 29 }

/-- Record key of candidate index `j`. -/
def Candidates.at_ (c : Candidates) (j : Nat) : Nat :=
  recKey c.slice ((if j < 8 then c.bucketA else c.bucketB) * 8 + j % 8)

/-- Whether a valid record holds a key. -/
def recMatches (img : List Byte) (tenant : Nat) (key : List Byte) : Bool :=
  recValid img && recTenant img == tenant && recKeyLen img == key.length && recKeyBytes img == key

/-! ### Entries applied to an image (R536, R540, R541, R550) -/

/-- A newly created record at a position (R540, R511). -/
def createImage (r : Nat) (img : List Byte) (e : LogEntry) (hs : Nat) : List Byte :=
  let ctrl := if e.cand = e.home then 0x80 else 0xA0
  let head := [BitVec.ofNat 8 ctrl, BitVec.ofNat 8 e.bytes.length] ++ leBytes ((recGen img + 1) % 65536) 2 ++
    leBytes e.tenant 2 ++ slice img 6 2 ++ leBytes hs 4 ++ leBytes 0 4
  let img := head ++ e.bytes ++ List.replicate (r - 16 - e.bytes.length) 0
  imgPut (imgPut img (lastOfs r) (leBytes e.ns 8)) (firstOfs r) (leBytes e.ns 8)

/-- The token bucket of R541 on a block (LAST, TOKENS): the new block and the colour. -/
def policeBlock (last tokens rate burst now len : Nat) : Nat × Nat × Nat :=
  let last' := if last < now then now else last
  let tokens' := if last < now then min burst (tokens + (now - last) * rate / 256) else tokens
  let cost := len * 256
  if cost ≤ tokens' then (last', tokens' - cost, 0) else (last', tokens', 1)

/-- A 4-byte read-modify-write of an image: the image and the results. -/
def rmw32 (img : List Byte) (ofs : Nat) (f : Nat → Nat) : List Byte × List Nat :=
  let old := fieldOf img ofs 4
  (imgPut img ofs (leBytes (f old) 4), [0, old])

/-- How many results a function returns (R536). -/
def flowResults (fn : Nat) : Nat :=
  if fn = 0 ∨ fn = 1 then 3 else if fn = 6 then 3
  else if fn = 5 ∨ (7 ≤ fn ∧ fn ≤ 11) ∨ fn = 14 then 2 else if fn = 16 then 0 else 1

/-- Results of a status other than 0. -/
def statusOnly (fn st : Nat) : List Nat := st :: List.replicate (flowResults fn - 1) 0

/-- An entry applied to an image of the record at `key`: the new image and the results, the last result on top
last in the list. An entry whose record is invalid or carries another GEN has no effect (R550). -/
def applyEntry (r key hs : Nat) (img : List Byte) (e : LogEntry) : List Byte × List Nat :=
  if e.fn = 1 then
    if recMatches img e.tenant e.bytes then (img, [2, handleLo key, recGen img])
    else if e.own then
      let t := createImage r img e hs
      (t, [0, handleLo key, recGen t])
    else (img, [])
  else if !recValid img || recGen img != e.gen then (img, statusOnly e.fn 3)
  else
    let o := e.roff
    if e.fn = 2 then (recClear img, [0])
    else if e.fn = 4 then (imgPut img o e.bytes, [0])
    else if e.fn = 5 then rmw32 img o fun v => v + e.x
    else if e.fn = 6 then
      let old := fieldOf img o 8
      (imgPut img o (leBytes (unsigned ((old : Int) + signed e.x 32) 64) 8), [0, old % 2 ^ 32, old / 2 ^ 32])
    else if e.fn = 7 then
      let old := fieldOf img o 4
      if old = e.x then (imgPut img o (leBytes e.y 4), [0, old]) else (img, [6, old])
    else if e.fn = 8 then rmw32 img o fun v => min v e.x
    else if e.fn = 9 then rmw32 img o fun v => max v e.x
    else if e.fn = 10 then rmw32 img o fun v => Nat.lor v e.x
    else if e.fn = 11 then rmw32 img o fun v => v - Nat.land v e.x
    else if e.fn = 12 then (imgPut img o (leBytes e.ns 8), [0])
    else if e.fn = 13 then
      let p := pktOfs r
      let img := imgPut img p (leBytes (fieldOf img p 8 + 1) 8)
      let img := imgPut img (p + 8) (leBytes (fieldOf img (p + 8) 8 + e.x) 8)
      (imgPut img (lastOfs r) (leBytes (max (recLast r img) e.ns) 8), [0])
    else if e.fn = 14 then
      let b := policeBlock (fieldOf img o 8) (fieldOf img (o + 8) 4) (leNat (slice e.bytes 0 4)) (leNat (slice e.bytes 4 4)) e.ns e.x
      (imgPut img o (leBytes b.1 8 ++ leBytes b.2.1 4 ++ leBytes 0 4), [0, b.2.2])
    else (img, [0])

/-- KEY_HASH of a CREATE entry's key. -/
def State.entryHash (s : State) (e : LogEntry) : Nat :=
  if e.fn = 1 then flowHash s.flow.sliceSeed e.tenant e.bytes else 0

/-- The speculative image: the committed image with every entry of the log applied in order (R544). -/
def State.speculative (s : State) (key : Nat) : List Byte :=
  (s.log key).foldl (fun img e => (applyEntry s.recSize key (s.entryHash e) img e).1) (s.committed key)

/-! ### Search (R500) -/

/-- The position where a key is found, on speculative images: its home, the position the home's HOP names, or the
position an unresolved create of the key has reserved (R537). -/
def State.findKey (s : State) (tenant : Nat) (key : List Byte) : Option Nat :=
  let c := s.candidates tenant key
  let home := s.speculative (c.at_ c.home)
  if recMatches home tenant key then some (c.at_ c.home)
  else
    let viaHop := match recHop home with
      | some j => let img := s.speculative (c.at_ j)
                  if recMatches img tenant key && recDisplaced img then some (c.at_ j) else none
      | none => none
    match viaHop with
    | some k => some k
    | none => ((List.range 16).map c.at_).find? fun k =>
        ((s.log k).any fun e => e.fn == 1) && recMatches (s.speculative k) tenant key

/-- The atoms 0 a search reads, brought into the cache and counted (R500, R535). -/
def State.searchReads (s : State) (tenant : Nat) (key : List Byte) : Option State :=
  let c := s.candidates tenant key
  let home := c.at_ c.home
  match s.fetchAtoms home 1 with
  | none => none
  | some t =>
    let img := t.speculative home
    if recMatches img tenant key then some t
    else match recHop img with
      | none => some (t.bump (sliceCnt c.slice 2))
      | some j =>
        match t.fetchAtoms (c.at_ j) 1 with
        | none => none
        | some u =>
          let b := u.speculative (c.at_ j)
          some (u.bump (sliceCnt c.slice 2) (if recMatches b tenant key && recDisplaced b then 1 else 2))

/-! ### Staging and cancelling (R545, R548, R554) -/

/-- The context instance (its build number) of a context. -/
def State.instOf (s : State) (c : Nat) : Nat := (s.dsp.ctxs.get c).built

/-- A context instance. -/
def State.inst (s : State) (i : Nat) : FlowCtx := s.flow.insts.get i

/-- The state with a context instance replaced. -/
def State.setInst (s : State) (i : Nat) (x : FlowCtx) : State := { s with flow.insts := s.flow.insts.set i x }

/-- Staged entries of an instance, over all logs. -/
def State.stagedOf (s : State) (i : Nat) : Nat :=
  (s.flow.logs.entries.map fun l => (l.2.filter fun e => e.inst == i).length).sum

/-- Records on which an instance holds staged entries. -/
def State.stagedRecords (s : State) (i : Nat) : List Nat :=
  (s.flow.logs.entries.filter fun l => l.2.any fun e => e.inst == i).map Prod.fst

/-- An instance that has resolved and whose entries are gone is forgotten, and its tag is free (R545). -/
def State.retire (s : State) (i : Nat) : State :=
  let x := s.inst i
  if x.live ∧ x.resolved.isSome ∧ s.stagedOf i = 0 then s.setInst i {} else s

/-- Every staged entry of a context will be cancelled, whatever the verdict (R364, R396, R548). -/
def cancelCtx (s : State) (c : Nat) : State :=
  let i := s.instOf c
  s.setInst i { s.inst i with cancel := true }

end Sys2Proof.Machine
end

