-- ==== Sys2Proof/Machine/Flume.lean ====
section
/-! DEFINITION. What every Flume instruction shares: which thread issues, the checks of R421, the load delay, the
repeats, faults on packet engines and control engines, and the memory a program sees. -/
namespace Sys2Proof.Machine

/-! ### Places of architectural state -/

/-- Range of the PC and of return addresses (R443). -/
def pcMod : Who → Nat
  | .pe _ _ _ => 2 ^ 16
  | .ce _ => 2 ^ 21

/-- The instruction at an address: a program-store word, or a half-word of the engine's own local memory (R375, R399). -/
def State.instrAt (s : State) (w : Who) (pc : Nat) : Nat :=
  match w with
  | .pe cl _ _ => s.flume.ps.get (cl * 65536 + pc % 65536)
  | .ce k => leNat (s.ldBytes (0x1000000 + k * 0x400000 + 2 * (pc % 2 ^ 21)) 2)

/-! ### Which instruction issues (R376, R452, R459) -/

/-- The helper unit an HCALL word names. -/
def hcallUnit (w : Nat) : Option Nat := if w / 0x1000 = 0xA then some (w / 0x100 % 16) else none

/-- In-flight limit of a helper unit per cluster (R458, R546). -/
def unitLimit (u : Nat) : Nat := [32, 32, 32, 16, 64, 8, 8, 1000, 128].getD u 0

/-- Calls of a unit in flight in a cluster. -/
def State.inFlight (s : State) (cl u : Nat) : Nat :=
  ((List.range 128).filter fun i =>
    match (s.flume.threads.get (cl * 128 + i)).wait with
    | some c => c.unit == u
    | none => false).length

/-- A load value that has not arrived holds back the instruction after the delay slot (R387). -/
def Arch.blocked (a : Arch) : Bool := a.pend.any fun p => p.delayDone && !p.arrived

/-- Whether a thread is ready (R376). -/
def State.ready (s : State) (cl e th : Nat) : Bool :=
  let t := s.thr cl e th
  match t.ctx with
  | none => false
  | some c =>
    let x := s.ctx c
    (x.st == .running || x.st == .exception) && x.ending == .none && t.wait.isNone && !t.arch.blocked &&
    (match s.flume.repx.get (cl * 16 + e) with
      | none => true
      | some h => h == th) &&
    (match hcallUnit (s.instrAt (.pe cl e th) t.arch.pc) with
      | some u => u ≥ 9 || s.inFlight cl u < unitLimit u
      | none => true)

/-- The thread the engine picks: the first ready one after the thread that issued last. -/
def State.picked (s : State) (cl e : Nat) : Option Nat :=
  ((List.range 8).map fun i => (s.flume.last.get (cl * 16 + e) + i) % 8).find? fun th => s.ready cl e th

/-- Whether a control engine runs the module's programs: RUN is set, and it is not CE0 running the boot ROM of service boot
(R139). -/
def State.ceRuns (s : State) (k : Nat) : Bool := s.bit (Reg.flmCeCtrl 0 k) 31 && !(k == 0 && s.bit Reg.bootStatus 24)

/-- Whether a control engine issues its next instruction. An interrupt that can be taken comes first (R402). -/
def State.ceIssues (s : State) (k : Nat) : Bool :=
  let c := s.ce k
  s.ceRuns k && !c.halted && !c.waiting && !c.syncing && !c.cur.blocked &&
  !(c.misses.any fun m => m.store.isSome) &&
  !(!c.level && c.ie && s.irqLine k && !(match c.base.rep with | some (_, x) => x | none => false))

/-- Whether the issuer issues in this step. -/
def State.issues (s : State) : Who → Bool
  | .pe cl e th => s.boot.core == .running && s.boot.stop == .none && s.picked cl e == some th
  | .ce k => s.boot.core == .running && s.boot.stop == .none && s.ceIssues k

/-! ### Faults -/

/-- The fault word (R394). -/
def faultWord (cause sub : Nat) : Word := BitVec.ofNat 32 (cause * 2 ^ 28 + sub * 2 ^ 24)

/-- Recording a packet-engine fault: counter, FAULT_INFO, FAULT_PC and the alarm window (R397, R414). -/
def State.recordFault (s : State) (cl e th cause sub pc : Nat) (dbl : Bool) : State :=
  let s := (s.bump (Reg.flmCnt cl cause)).count 57 [cl, 16]
  let s := if s.bit (Reg.flmFaultInfo cl) 31 then s else s.wr (Reg.flmFaultPc cl) (BitVec.ofNat 32 (pc % 65536))
  let s := s.record (Reg.flmFaultInfo cl) (e * 2 ^ 24 + th * 2 ^ 20 + cause * 2 ^ 16 + sub * 2 ^ 12 + b2n dbl * 2 ^ 8)
  let lim := s.fld (Reg.flmClAlarm cl) 15 0
  let t := { s with flume.faultWindow := windowAdd s.flume.faultWindow cl 1 lim }
  if alarmDue s.flume.faultWindow cl 1 lim then t.setEvent (Reg.flmClEvents cl) 0 (124 + cl) else t

/-- The REPX hold of an engine released if the thread had it. -/
def State.freeRepx (s : State) (cl e th : Nat) : State :=
  if s.flume.repx.get (cl * 16 + e) = some th then { s with flume.repx := s.flume.repx.set (cl * 16 + e) none } else s

/-- The exception entry (R394): stacks emptied, RC, PC and fault word pushed, PC at EXC_ENTRY. -/
def State.exceptionEntry (s : State) (cl e th c cause sub pc : Nat) : State :=
  let t := s.thr cl e th
  let a : Arch := { ds := [faultWord cause sub, BitVec.ofNat 32 pc, t.arch.rc], rs := [], rc := 0,
                    pc := s.fld (Reg.flmClCtrl cl) 15 0, pend := [], rep := none }
  let late := match t.wait with
    | some w => if w.waiting.isSome then some w else t.late
    | none => t.late
  let s := s.setThr cl e th { t with arch := a, wait := none, late := late }
  let s := s.setCtx c { s.ctx c with st := .exception, wdFrom := s.flume.cycles }
  s.freeRepx cl e th

/-- A context sent to the Spillway: its staged updates cancelled and its outcome a drop (R364, R396). -/
def State.spillCtx (s : State) (c counter : Nat) : State :=
  let s := cancelCtx s c
  let x := s.ctx c
  let s := s.setCtx c { x with ending := .drop counter }
  let t := s.thr x.cluster x.engine x.thread
  let s := s.setThr x.cluster x.engine x.thread { t with wait := none, late := none, arch := { t.arch with pend := [], rep := none } }
  (s.spill counter).freeRepx x.cluster x.engine x.thread

/-- A double fault (R396). -/
def State.doubleFault (s : State) (cl c : Nat) : State :=
  let s := s.bump (Reg.flmCnt cl 8)
  let s := s.setEvent (Reg.flmClEvents cl) 1 (124 + cl)
  s.spillCtx c 5

/-- A packet-engine fault taken (R394–R397). -/
def State.peFault (s : State) (cl e th cause sub pc : Nat) : State :=
  match (s.thr cl e th).ctx with
  | none => s
  | some c =>
    let dbl := (s.ctx c).st == .exception
    let s := s.recordFault cl e th cause sub pc dbl
    if dbl then s.doubleFault cl c else s.exceptionEntry cl e th c cause sub pc

/-- A control-engine fault (R403): the fault vector at interrupt level, or a halt at interrupt level. -/
def State.ceFault (s : State) (k cause sub pc : Nat) : State :=
  let c := s.ce k
  if c.level then
    (s.setCe k { c with halted := true, cause := cause, subcode := sub }).setEvent Reg.evcLocal 1 316
  else
    s.setCe k { c with
      cause := cause, subcode := sub, level := true, resume := pc
      base := { c.base with pend := [], rep := none }
      intr := { c.intr with ds := [faultWord cause sub, BitVec.ofNat 32 pc, c.base.rc], rs := [], pc := 0x10
                            pend := [], rep := none } }

/-- A fault of the issuer. -/
def State.fault (s : State) (w : Who) (cause sub pc : Nat) : State :=
  match w with
  | .pe cl e th => s.peFault cl e th cause sub pc
  | .ce k => s.ceFault k cause sub pc

/-- The address a fault at issue reports: the REP or REPX that is repeating, or the instruction (R875). -/
def Arch.faultPc (a : Arch) : Nat := match a.rep with
  | some (p, _) => p
  | none => a.pc

/-! ### Issue -/

/-- How an instruction is encoded and what it does to the stacks: the code point's mask and pattern, its reserved
bits, its pops and pushes, whether it pops or pushes the return stack, and where it is defined (R419–R426). -/
structure OpSpec where
  mask : Nat := 0xF0FF
  pat : Nat
  resv : Nat := 0x0F00
  pops : Nat := 0
  pushes : Nat := 0
  rpop : Bool := false
  rpush : Bool := false
  control : Bool := false
  helper : Bool := false
  deriving DecidableEq, Repr, Inhabited

/-- What the body of an instruction leaves: the state, the registers, whether it set the PC itself, the load it
leaves pending, and whether its iteration ends only with a result still to come. -/
structure Done where
  s : State
  a : Arch
  jump : Bool := false
  load : Option PendingLoad := none
  deferred : Bool := false

/-- The body of an instruction: its effect, or the fault it takes. -/
abbrev Body := State → Arch → Nat → Except (Nat × Nat) Done

/-- Element in slot `k` from the bottom replaced (R378). -/
def setSlot (ds : List Word) (k : Nat) (v : Word) : List Word := ds.set (ds.length - 1 - k) v

/-- The pending loads after an instruction completed (R386): values whose slot is no longer live are discarded,
arrived ones are written, the others wait. -/
def settle (a : Arch) : Arch :=
  a.pend.foldl (fun b p =>
    if p.delayDone then { b with pend := b.pend ++ [p] }
    else if a.ds.length ≤ p.slot then b
    else if p.arrived then { b with ds := setSlot b.ds p.slot p.value }
    else { b with pend := b.pend ++ [{ p with delayDone := true }] }) { a with pend := [] }

/-- The end of an iteration (R388): RC goes down, and at 0 the thread continues after the target. -/
def endIteration (m : Nat) (a : Arch) : Arch :=
  match a.rep with
  | none => a
  | some (p, _) =>
    let rc := a.rc - 1
    if rc = 0 then { a with rc := 0, rep := none, pc := (p + 2) % m } else { a with rc := rc }

/-- One more instruction issued by an engine one of whose counters (`i`) has wrapped: the third is the sampled one
(R831, with a thread ready in every cycle). -/
def State.sampleTick (s : State) (i : Nat) (what : Nat × Nat × Nat) : State :=
  match s.pmc.armed.get i with
  | none => s
  | some n =>
    if n = 0 then s
    else
      let s := { s with pmc.armed := s.pmc.armed.set i (some (n - 1)) }
      if n = 1 then { s with pmc.caught := s.pmc.caught.set i (some what) } else s

/-- An issued instruction counted (R376, R417, R830), and the engine's rotation moved on. -/
def State.issued (s : State) (w : Who) (word : Nat) : State :=
  match w with
  | .ce _ => s
  | .pe cl e th =>
    let s := (s.bump (Reg.flmCnt cl 0)).count 56 [cl, 16]
    let s := { s with flume.last := s.flume.last.set (cl * 16 + e) (th + 1) }
    let s := [0, 1].foldl (fun t j => t.sampleTick ((cl * 16 + e) * 2 + j) (th, (s.thr cl e th).arch.pc, ((s.thr cl e th).ctx).getD 0)) s
    let s := s.engEvent cl e th 1
    match hcallUnit word with
    | some u =>
      let s := s.engEvent cl e th 4
      if u = 8 then s.engEvent cl e th 5 else s
    | none => s

/-- The checks of R421 that depend on the code point and the stacks, in order; none when all pass. -/
def OpSpec.check (o : OpSpec) (w : Who) (a : Arch) (word : Nat) : Option (Nat × Nat) :=
  let ce : Bool := match w with | .ce _ => true | .pe _ _ _ => false
  if o.helper ∧ ce then some (1, 0)
  else if o.control ∧ !ce then some (1, 2)
  else if Nat.land word o.resv ≠ 0 then some (1, 1)
  else if a.ds.length < o.pops then some (3, 1)
  else if 16 < a.ds.length - o.pops + o.pushes then some (3, 0)
  else if o.rpop ∧ a.rs = [] then some (3, 3)
  else if o.rpush ∧ 8 ≤ a.rs.length then some (3, 2)
  else none

/-- The registers after the body: pending loads settled, the new one added, the iteration ended or the PC moved on. -/
def completeArch (w : Who) (pc0 : Nat) (d : Done) : Arch :=
  let a := settle d.a
  let a := match d.load with
    | some p => { a with pend := a.pend ++ [p] }
    | none => a
  if d.deferred then (if a.rep.isSome then a else { a with pc := (pc0 + 1) % (pcMod w) })
  else if a.rep.isSome ∧ d.a.pc = pc0 then endIteration (pcMod w) a
  else if d.jump then a
  else { a with pc := (pc0 + 1) % (pcMod w) }

/-- The REPX hold of an engine follows the thread's repeat (R390). -/
def State.holdRepx (s : State) (w : Who) : State :=
  match w with
  | .ce _ => s
  | .pe cl e th =>
    match (s.thr cl e th).arch.rep with
    | some (_, true) => { s with flume.repx := s.flume.repx.set (cl * 16 + e) (some th) }
    | _ => s.freeRepx cl e th

/-- The effect of an issued instruction: the checks, then the body, then completion; or the fault it takes. -/
def runInstr (w : Who) (o : OpSpec) (s : State) (body : Body) : State :=
  let a := s.arch w
  let word := s.instrAt w a.pc
  let s1 := s.issued w word
  match o.check w a word with
  | some (c, u) => s1.fault w c u a.faultPc
  | none =>
    match body s1 a word with
    | .error (c, u) => s1.fault w c u a.faultPc
    | .ok d => (d.s.setArch w (completeArch w a.pc d)).holdRepx w

/-- One Flume instruction: where the issuer issues and the word at its PC has this instruction's code point, its
effect; otherwise this instruction does not issue and nothing changes. -/
def issue (w : Who) (o : OpSpec) (s : State) (body : Body) : Out :=
  if !w.wf then .fault .illFormed
  else if s.issues w && Nat.land (s.instrAt w (s.arch w).pc) o.mask == o.pat then .next (runInstr w o s body)
  else .next s

/-- A body that only rearranges the data stack. -/
def stackBody (f : List Word → List Word) : Body := fun s a _ => .ok { s := s, a := { a with ds := f a.ds } }

/-- Element `i` from the top, zero where there is none (the stack check has passed). -/
def nth (ds : List Word) (i : Nat) : Word := ds.getD i 0

/-- A two-operand result: ( a b -- r ). -/
def binBody (f : Word → Word → Word) : Body :=
  stackBody fun ds => f (nth ds 1) (nth ds 0) :: ds.drop 2

/-- A one-operand result: ( a -- r ). -/
def unBody (f : Word → Word) : Body := stackBody fun ds => f (nth ds 0) :: ds.drop 1

/-- A one-operand result with the word's IMM8. -/
def immBody (f : Word → Nat → Word) : Body := fun s a w =>
  .ok { s := s, a := { a with ds := f (nth a.ds 0) (w % 256) :: a.ds.drop 1 } }

/-! ### The memory a program sees (R381–R385) -/

/-- A byte of a context's space. -/
def Ctx.byte (x : Ctx) (i : Nat) : Byte := x.frame.get i

/-- What an access of a packet engine may reach. -/
inductive PeSpace where
  | frameRo | frameRw | shared | program | unmapped
  deriving DecidableEq, Repr, Inhabited

/-- The decode of R381. -/
def peSpace (a : Nat) : PeSpace :=
  if a < 0xB8 then .frameRo
  else if a < 0x100 then .frameRw
  else if a < 0x200 then .frameRo
  else if a < 0x400 then .frameRw
  else if 0x10000 ≤ a ∧ a < 0x50000 then .shared
  else if 0x100000 ≤ a ∧ a < 0x120000 then .program
  else .unmapped

/-- One byte a packet-engine load reads. -/
def State.peByte (s : State) (cl c a : Nat) : Byte :=
  match peSpace a with
  | .frameRo => (s.ctx c).byte a
  | .frameRw => (s.ctx c).byte a
  | .shared => s.flume.shm.get (cl * 0x40000 + (a - 0x10000))
  | .program => byteAt (leBytes (s.flume.ps.get (cl * 65536 + (a - 0x100000) / 2)) 2) (a % 2)
  | .unmapped => 0

/-- The checks 9 and 10 of R421 for a packet engine. -/
def peCheck (a width : Nat) (store : Bool) : Option (Nat × Nat) :=
  if a % width ≠ 0 then some (4, 0)
  else match peSpace a with
    | .unmapped => some (5, 0)
    | .frameRo => if store then some (5, 1) else none
    | .program => if store then some (5, 1) else none
    | _ => none

/-- A packet-engine load of `width` bytes, zero-extended. -/
def State.peLoad (s : State) (cl c a width : Nat) : Word :=
  BitVec.ofNat 32 (leNat ((List.range width).map fun i => s.peByte cl c (a + i)))

/-- A packet-engine store. -/
def State.peStore (s : State) (cl c a width : Nat) (v : Word) : State :=
  let bs := leBytes v.toNat width
  match peSpace a with
  | .shared => { s with flume.shm := putBytes s.flume.shm (cl * 0x40000 + (a - 0x10000)) bs }
  | .frameRw => s.setCtx c { s.ctx c with frame := putBytes (s.ctx c).frame a bs }
  | _ => s

/-! ### Control-engine memory (R400, R404–R406) -/

/-- The bytes a control engine's own write buffer holds for an address, the newest first. -/
def wbByte (wb : List WbEntry) (a : Nat) : Option Byte :=
  wb.foldl (fun r e => if e.addr ≤ a ∧ a < e.addr + e.data.length then some (byteAt e.data (a - e.addr)) else r) none

/-- The cache line that holds an address. -/
def Ce.lineOf (c : Ce) (a : Nat) : Option CacheLine := c.cache.find? fun l => l.line == a / 64

/-- One byte a control-engine load reads from local memory: its write buffer's newer value, or memory. -/
def State.ceByte (s : State) (c : Ce) (a : Nat) : Byte := (wbByte c.wb a).getD (s.ldb a)

/-- A line marked as the most recently used. -/
def Ce.touch (c : Ce) (line : Nat) : Ce :=
  { c with uses := c.uses + 1
           cache := c.cache.map fun l => if l.line = line then { l with used := c.uses + 1 } else l }

/-- The bytes of a cached line after a store into it. -/
def storeLine (l : CacheLine) (a : Nat) (bs : List Byte) : CacheLine :=
  { l with dirty := true
           data := (List.range 64).map fun i =>
             if a % 64 ≤ i ∧ i < a % 64 + bs.length then byteAt bs (i - a % 64) else byteAt l.data i }

/-- A cache with room made in the set of `line` (256 sets of 4 ways): the least recently used line leaves, to the
write buffer when it is dirty. -/
def Ce.evictFor (c : Ce) (line : Nat) : Ce :=
  let set := c.cache.filter fun l => l.line % 256 == line % 256
  if set.length < 4 then c else
  match minBy (fun l : CacheLine => l.used) set with
  | none => c
  | some v =>
    { c with cache := c.cache.filter (fun l => l.line != v.line)
             wb := if v.dirty then c.wb ++ [{ addr := v.line * 64, data := v.data }] else c.wb }

/-- A line of DRAM as the control engine would fetch it: memory with its own buffered write-backs applied. -/
def State.ceFetchLine (s : State) (c : Ce) (line : Nat) : List Byte :=
  (List.range 64).map fun i => s.ceByte c (line * 64 + i)

end Sys2Proof.Machine
end

