-- ==== Sys2Proof/Machine/Operands.lean ====
section
/-! DEFINITION. The operand forms of memory instructions and helper calls: displaced addresses, context offsets,
argument ranges (R435, R460). -/
namespace Sys2Proof.Machine

/-- The access width W encodes (R420); W = 3 is an undefined code point. -/
def widthOf (word : Nat) : Nat := 2 ^ (word / 0x400 % 4)

/-- DISP or OFS, bits [9:0] (R419). -/
def dispOf (word : Nat) : Nat := word % 0x400

/-- The 32-bit address of LD and ST: (a + DISP) mod 2^32 (R435). -/
def dispAddr (a : Word) (word : Nat) : Nat := (a.toNat + dispOf word) % 2 ^ 32

/-- The 40-bit address of a control-engine access: SEG × 2^32 + the operand (R400). -/
def segAddr (seg a : Nat) : Nat := seg * 2 ^ 32 + a % 2 ^ 32

/-- A source range of a helper call lies wholly within 0x000–0x3FF (R460). -/
def srcRange (ofs len : Nat) : Bool := ofs + len ≤ 0x400

/-- A destination range lies wholly within 0x0B8–0x0FF or within 0x200–0x3FF (R460). -/
def dstRange (ofs len : Nat) : Bool :=
  (0xB8 ≤ ofs && ofs + len ≤ 0x100) || (0x200 ≤ ofs && ofs + len ≤ 0x400)

/-- Bytes of a context's space from `ofs` on. -/
def Ctx.bytes (x : Ctx) (ofs len : Nat) : List Byte := (List.range len).map fun i => x.byte (ofs + i)

/-- A context with bytes of its space replaced. -/
def Ctx.putBytes (x : Ctx) (ofs : Nat) (bs : List Byte) : Ctx := { x with frame := Machine.putBytes x.frame ofs bs }

/-- A branch target: PC + 1 + sext(OFF10) (R441). -/
def branchTarget (m pc word : Nat) : Nat := unsigned ((pc : Int) + 1 + signed (word % 1024) 10) 32 % m

end Sys2Proof.Machine
end

