-- ==== Sys2Proof/Machine/FlumeCtl.lean ====
section
/-! DEFINITION. Control transfer, repeats and the return stack, the control extension, interrupts, deliveries and
undefined code points (R386–R403, R421–R426, R441–R447, R451–R456). -/
namespace Sys2Proof.Machine

/-! ### Control transfer (R441–R444) -/

/-- A relative branch: `taken` decides on the operand. -/
def branchBody (w : Who) (pops : Nat) (taken : Word → Bool) : Body := fun s a i =>
  let ds := a.ds.drop pops
  if taken (nth a.ds 0) then .ok { s := s, a := { a with ds := ds, pc := branchTarget (pcMod w) a.pc i }, jump := true }
  else .ok { s := s, a := { a with ds := ds } }

/-- BRA (R441). -/
def specBra : OpSpec := { mask := 0xFC00, pat := 0x3000, resv := 0 }
/-- BRA branches unconditionally. -/
def execBra (w : Who) (s : State) : Out := issue w specBra s (branchBody w 0 fun _ => true)

/-- BZ (R441). -/
def specBz : OpSpec := { mask := 0xFC00, pat := 0x3400, resv := 0, pops := 1 }
/-- BZ pops its operand and branches when it is zero (R444). -/
def execBz (w : Who) (s : State) : Out := issue w specBz s (branchBody w 1 fun a => a == 0)

/-- BNZ (R441). -/
def specBnz : OpSpec := { mask := 0xFC00, pat := 0x3800, resv := 0, pops := 1 }
/-- BNZ pops its operand and branches when it is not zero (R444). -/
def execBnz (w : Who) (s : State) : Out := issue w specBnz s (branchBody w 1 fun a => a != 0)

/-- CALL (R441). -/
def specCall : OpSpec := { mask := 0xFC00, pat := 0x3C00, resv := 0, rpush := true }
/-- CALL pushes PC + 1 on the return stack and branches. -/
def execCall (w : Who) (s : State) : Out := issue w specCall s fun t a i =>
  .ok { s := t, a := { a with rs := (a.pc + 1) % (pcMod w) :: a.rs, pc := branchTarget (pcMod w) a.pc i }, jump := true }

/-- RET (R442). -/
def specRet : OpSpec := { pat := 0x0038, rpop := true }
/-- RET pops the return stack into PC. -/
def execRet (w : Who) (s : State) : Out := issue w specRet s fun t a _ =>
  .ok { s := t, a := { a with rs := a.rs.drop 1, pc := a.rs.headD 0 }, jump := true }

/-- JMPS (R442). -/
def specJmps : OpSpec := { pat := 0x0039, pops := 1 }
/-- JMPS jumps to the address on the stack (R443). -/
def execJmps (w : Who) (s : State) : Out := issue w specJmps s fun t a _ =>
  .ok { s := t, a := { a with ds := a.ds.drop 1, pc := (nth a.ds 0).toNat % (pcMod w) }, jump := true }

/-- CALLS (R442). -/
def specCalls : OpSpec := { pat := 0x003A, pops := 1, rpush := true }
/-- CALLS calls the address on the stack (R443, R444). -/
def execCalls (w : Who) (s : State) : Out := issue w specCalls s fun t a _ =>
  .ok { s := t, a := { a with ds := a.ds.drop 1, rs := (a.pc + 1) % (pcMod w) :: a.rs
                              pc := (nth a.ds 0).toNat % (pcMod w) }, jump := true }

/-! ### Repeat and return stack (R445–R447) -/

/-- SETRC (R445). -/
def specSetrc : OpSpec := { mask := 0xFF00, pat := 0xB000, resv := 0 }
/-- SETRC sets RC to zext(IMM8). -/
def execSetrc (w : Who) (s : State) : Out := issue w specSetrc s fun t a i =>
  .ok { s := t, a := { a with rc := BitVec.ofNat 32 (i % 256) } }

/-- POPRC (R445). -/
def specPoprc : OpSpec := { mask := 0xFF00, pat := 0xB300, resv := 0xFF, pops := 1 }
/-- POPRC pops a value into RC. -/
def execPoprc (w : Who) (s : State) : Out := issue w specPoprc s fun t a _ =>
  .ok { s := t, a := { a with ds := a.ds.drop 1, rc := nth a.ds 0 } }

/-- PUSHRC (R445). -/
def specPushrc : OpSpec := { mask := 0xFF00, pat := 0xB400, resv := 0xFF, pushes := 1 }
/-- PUSHRC pushes RC. -/
def execPushrc (w : Who) (s : State) : Out := issue w specPushrc s fun t a _ =>
  .ok { s := t, a := { a with ds := a.rc :: a.ds } }

/-- TOR (R445). -/
def specTor : OpSpec := { mask := 0xFF00, pat := 0xB500, resv := 0xFF, pops := 1, rpush := true }
/-- TOR moves a value to the return stack: its low 16 bits, 21 on a control engine. -/
def execTor (w : Who) (s : State) : Out := issue w specTor s fun t a _ =>
  .ok { s := t, a := { a with ds := a.ds.drop 1, rs := (nth a.ds 0).toNat % (pcMod w) :: a.rs } }

/-- FROMR (R445). -/
def specFromr : OpSpec := { mask := 0xFF00, pat := 0xB600, resv := 0xFF, pushes := 1, rpop := true }
/-- FROMR pops the return stack onto the data stack. -/
def execFromr (w : Who) (s : State) : Out := issue w specFromr s fun t a _ =>
  .ok { s := t, a := { a with ds := BitVec.ofNat 32 (a.rs.headD 0) :: a.ds, rs := a.rs.drop 1 } }

/-- RFETCH (R445). -/
def specRfetch : OpSpec := { mask := 0xFF00, pat := 0xB700, resv := 0xFF, pushes := 1, rpop := true }
/-- RFETCH copies the return stack's top. -/
def execRfetch (w : Who) (s : State) : Out := issue w specRfetch s fun t a _ =>
  .ok { s := t, a := { a with ds := BitVec.ofNat 32 (a.rs.headD 0) :: a.ds } }

/-- LOOP (R445). -/
def specLoop : OpSpec := { mask := 0xFF00, pat := 0xB800, resv := 0 }
/-- LOOP lowers RC and branches back by IMM8 while it is not zero (R446). -/
def execLoop (w : Who) (s : State) : Out := issue w specLoop s fun t a i =>
  if a.rc = 0 then .ok { s := t, a := a }
  else
    let rc := a.rc - 1
    if rc = 0 then .ok { s := t, a := { a with rc := 0 } }
    else .ok { s := t, a := { a with rc := rc, pc := (a.pc + (pcMod w) - i % 256) % (pcMod w) }, jump := true }

/-! ### Code points (R422–R426, R455) -/

/-- Zero-operand OPs that R424 leaves undefined. -/
def zeroOpUndefined (op : Nat) : Bool :=
  op == 0 || (0x08 ≤ op && op ≤ 0x0F) || (0x2C ≤ op && op ≤ 0x2F) || (0x32 ≤ op && op ≤ 0x37) ||
  (0x3B ≤ op && op ≤ 0x3F) || 0x42 ≤ op

/-- Code points undefined for a kind of engine (R424, R425). -/
def undefinedWord (ce : Bool) (w : Nat) : Bool :=
  match w / 0x1000 with
  | 0x0 => zeroOpUndefined (w % 256)
  | 0x4 => w / 0x400 % 4 == 3
  | 0x5 => w / 0x400 % 4 == 3
  | 0x6 => w / 0x400 % 4 == 3
  | 0x7 => w / 0x400 % 4 == 3
  | 0x8 => 10 ≤ w / 256 % 16
  | 0x9 => 3 ≤ w / 256 % 16
  | 0xA => 9 ≤ w / 256 % 16 || ce
  | 0xB => 9 ≤ w / 256 % 16
  | 0xC => true
  | 0xD => 9 ≤ w / 256 % 16
  | 0xE => true
  | 0xF => true
  | _ => false

/-- Whether a reserved field of a defined word is not zero (R426). -/
def reservedBad (ce : Bool) (w : Nat) : Bool :=
  match w / 0x1000 with
  | 0x0 => w / 256 % 16 != 0
  | 0x8 => let op := w / 256 % 16
           (op == 4 || op == 5 || op == 6 || op == 9) && w / 32 % 8 != 0
  | 0x9 => w / 16 % 16 != 0
  | 0xB => let op := w / 256 % 16
           (1 ≤ op && op ≤ 7) && w % 256 != 0
  | 0xD => ce && w / 256 % 16 != 6 && w % 256 != 0
  | _ => false

/-- Repeat targets that change RC (R391, R455). -/
def changesRc (w : Nat) : Bool :=
  w / 0x1000 == 0xB && [0, 1, 2, 3, 8].contains (w / 256 % 16)

/-- Repeat targets that are illegal under REP and REPX (R455). -/
def illegalTarget (w : Nat) : Bool :=
  w / 0x1000 == 0x3 || w % 0x10000 == 0x0038 || w == 0x0039 || w == 0x003A ||
  (w / 0x1000 == 0xD && [0, 1, 2, 6, 8].contains (w / 256 % 16)) ||
  w == 0xA708 || w == 0xA709 || w == 0xA70A

/-- Checks 1–6 of R421 on a repeat target, in order. -/
def targetCheck (ce isX : Bool) (rc : Word) (w : Nat) : Option (Nat × Nat) :=
  if undefinedWord ce w then some (1, 0)
  else if !ce ∧ w / 0x1000 = 0xD then some (1, 2)
  else if reservedBad ce w then some (1, 1)
  else if changesRc w then some (2, 0)
  else if illegalTarget w then some (2, 1)
  else if isX ∧ 64 < rc.toNat then some (2, 2)
  else none

/-- REP and REPX (R388, R390, R422). -/
def repBody (w : Who) (isX : Bool) : Body := fun s a _ =>
  let ce := match w with | .ce _ => true | .pe _ _ _ => false
  match targetCheck ce isX a.rc (s.instrAt w (a.pc + 1)) with
  | some f => .error f
  | none =>
    if a.rc = 0 then .ok { s := s, a := { a with pc := (a.pc + 2) % (pcMod w) }, jump := true }
    else .ok { s := s, a := { a with rep := some (a.pc, isX), pc := (a.pc + 1) % (pcMod w) }, jump := true }

/-- REP (R445). -/
def specRep : OpSpec := { mask := 0xFF00, pat := 0xB100, resv := 0xFF }
/-- REP repeats its target RC times, letting other threads issue between iterations. -/
def execRep (w : Who) (s : State) : Out := issue w specRep s (repBody w false)

/-- REPX (R445). -/
def specRepx : OpSpec := { mask := 0xFF00, pat := 0xB200, resv := 0xFF }
/-- REPX repeats its target RC times exclusively on the engine. -/
def execRepx (w : Who) (s : State) : Out := issue w specRepx s (repBody w true)

/-- Functions that each helper unit defines (R464, R468, R469, R472, R474, R483, R536). -/
def helperDefined (unit fn : Nat) : Bool :=
  match unit with
  | 0 => fn < 2
  | 1 => fn < 3
  | 2 => fn < 2
  | 3 => fn < 3
  | 4 => fn < 6
  | 5 => fn == 0
  | 6 => fn == 0
  | 7 => fn < 7 || (8 ≤ fn && fn ≤ 10)
  | 8 => fn < 17
  | _ => false

/-- An instruction with an undefined code point (R424), or an HCALL of a function its unit does not define (R449). -/
def execUndefinedOpcode (w : Who) (s : State) : Out :=
  if !w.wf then .fault .illFormed else
  let ce := match w with | .ce _ => true | .pe _ _ _ => false
  let a := s.arch w
  let i := s.instrAt w a.pc
  if s.issues w && undefinedWord ce i then .next ((s.issued w i).fault w 1 0 a.faultPc)
  else if s.issues w && i / 0x1000 == 0xA && !helperDefined (i / 256 % 16) (i % 256) then
    .next ((s.issued w i).fault w 6 0 a.faultPc)
  else .next s

/-! ### Control extension (R451–R454) -/

/-- A control-extension instruction that changes the engine beside its stacks. -/
def ceBody (w : Who) (f : Ce → Ce) : Body := fun s a _ =>
  match w with
  | .ce k => .ok { s := s.setCe k (f (s.ce k)), a := a }
  | .pe _ _ _ => .ok { s := s, a := a }

/-- RETI (R451). -/
def specReti : OpSpec := { mask := 0xFF00, pat := 0xD000, resv := 0xFF, control := true }
/-- RETI returns from interrupt level to RESUME and sets IE; at base level it has no effect (R402). -/
def execReti (w : Who) (s : State) : Out :=
  match w with
  | .ce k =>
    if !w.wf then .fault .illFormed
    else if (s.ce k).level && s.issues w && Nat.land (s.instrAt w (s.arch w).pc) 0xFFFF == 0xD000 then
      let c := s.ce k
      .next (s.setCe k { c with level := false, ie := true, base := { c.base with pc := c.resume }
                                intr := settle c.intr })
    else issue w specReti s (ceBody w id)
  | .pe _ _ _ => issue w specReti s (ceBody w id)

/-- EI (R451). -/
def specEi : OpSpec := { mask := 0xFF00, pat := 0xD100, resv := 0xFF, control := true }
/-- EI sets IE. -/
def execEi (w : Who) (s : State) : Out := issue w specEi s (ceBody w fun c => { c with ie := true })

/-- DI (R451). -/
def specDi : OpSpec := { mask := 0xFF00, pat := 0xD200, resv := 0xFF, control := true }
/-- DI clears IE. -/
def execDi (w : Who) (s : State) : Out := issue w specDi s (ceBody w fun c => { c with ie := false })

/-- CLEAN (R451). -/
def specClean : OpSpec := { mask := 0xFF00, pat := 0xD300, resv := 0xFF, pops := 1, control := true }

/-- The line of DRAM a cache operation names (R407); none outside DRAM. -/
def cacheOpLine (c : Ce) (a : Word) : Option Nat :=
  let x := segAddr c.seg a.toNat
  if inDram x then some (x / 64) else none

/-- CLEAN writes a dirty line to the write buffer and keeps it valid; with the buffer full it waits (R407, R453). -/
def execClean (w : Who) (s : State) : Out :=
  match w with
  | .ce k =>
    if !w.wf then .fault .illFormed
    else if s.issues w && 16 ≤ (s.ce k).wb.length && Nat.land (s.instrAt w (s.arch w).pc) 0xFF00 == 0xD300 then .next s
    else issue w specClean s fun t a _ =>
      let c := t.ce k
      let c' := match cacheOpLine c (nth a.ds 0) with
        | none => c
        | some n =>
          match c.cache.find? (fun l => l.line == n && l.dirty) with
          | none => c
          | some l => { c with wb := c.wb ++ [{ addr := n * 64, data := l.data }]
                               cache := c.cache.map fun m => if m.line = n then { m with dirty := false } else m }
      .ok { s := t.setCe k c', a := { a with ds := a.ds.drop 1 } }
  | .pe _ _ _ => issue w specClean s (stackBody fun ds => ds.drop 1)

/-- INVAL (R451). -/
def specInval : OpSpec := { mask := 0xFF00, pat := 0xD400, resv := 0xFF, pops := 1, control := true }
/-- INVAL discards a line without writing it (R407). -/
def execInval (w : Who) (s : State) : Out := issue w specInval s fun t a _ =>
  match w with
  | .ce k =>
    let c := t.ce k
    let c' := match cacheOpLine c (nth a.ds 0) with
      | none => c
      | some n => { c with cache := c.cache.filter fun l => l.line != n }
    .ok { s := t.setCe k c', a := { a with ds := a.ds.drop 1 } }
  | .pe _ _ _ => .ok { s := t, a := { a with ds := a.ds.drop 1 } }

/-- SYNC (R451). -/
def specSync : OpSpec := { mask := 0xFF00, pat := 0xD500, resv := 0xFF, control := true }
/-- SYNC waits until the write buffer has drained (R407). -/
def execSync (w : Who) (s : State) : Out := issue w specSync s
  (ceBody w fun c => { c with syncing := !c.wb.isEmpty })

/-- SETSEG (R451). -/
def specSetseg : OpSpec := { mask := 0xFF00, pat := 0xD600, resv := 0, control := true }
/-- SETSEG sets the current level's segment register. -/
def execSetseg (w : Who) (s : State) : Out := issue w specSetseg s fun t a i =>
  match w with
  | .ce k =>
    let c := t.ce k
    .ok { s := t.setCe k (if c.level then { c with segIntr := i % 256 } else { c with segBase := i % 256 }), a := a }
  | .pe _ _ _ => .ok { s := t, a := a }

/-- GETSEG (R451). -/
def specGetseg : OpSpec := { mask := 0xFF00, pat := 0xD700, resv := 0xFF, pushes := 1, control := true }
/-- GETSEG pushes the current level's segment register. -/
def execGetseg (w : Who) (s : State) : Out := issue w specGetseg s fun t a _ =>
  match w with
  | .ce k => .ok { s := t, a := { a with ds := BitVec.ofNat 32 (t.ce k).seg :: a.ds } }
  | .pe _ _ _ => .ok { s := t, a := a }

/-- WAIT (R451). -/
def specWait : OpSpec := { mask := 0xFF00, pat := 0xD800, resv := 0xFF, control := true }
/-- WAIT stops issue at base level until the interrupt line is asserted; a line already asserted acts at once (R452). -/
def execWait (w : Who) (s : State) : Out := issue w specWait s fun t a _ =>
  match w with
  | .ce k =>
    let c := t.ce k
    .ok { s := t.setCe k { c with waiting := !c.level && !t.irqLine k }, a := a }
  | .pe _ _ _ => .ok { s := t, a := a }

/-! ### Interrupts, deliveries, the write buffer and the cache -/

/-- WAIT ends when the line is asserted (R452): with IE = 0 the engine goes on. -/
def Ce.wake (c : Ce) (line : Bool) : Ce := if line then { c with waiting := false } else c

/-- An interrupt taken at base level (R402), or, with IE = 0, the end of a WAIT (R452). -/
def execInterruptTake (k : Nat) (s : State) : Out :=
  if 4 ≤ k then .fault .illFormed else
  let c := s.ce k
  let inX := match c.base.rep with | some (_, x) => x | none => false
  let ok := s.boot.core == .running && s.boot.stop == .none && s.ceRuns k && !c.halted && !c.level && s.irqLine k && !inX
  if ok && c.ie then
    let resume := match c.base.rep with | some (p, _) => p | none => c.base.pc
    .next (s.setCe k { c with
      level := true, ie := false, waiting := false, resume := resume
      base := { c.base with rep := none }
      intr := { c.intr with ds := [], rs := [], pc := 0x08, pend := [], rep := none } })
  else if ok && c.waiting then .next (s.setCe k (c.wake true))
  else .next s

/-- The oldest pending load of a cache miss (`tag`, 0 for any other load) gets its value (R386), written at once when
its delay slot has completed; a load whose value has been discarded is no longer pending. -/
def arrive (a : Arch) (tag : Nat) (v : Option Word) : Arch :=
  match a.pend.findIdx? fun p => !p.arrived && p.tag == tag with
  | none => a
  | some i =>
    match a.pend[i]? with
    | none => a
    | some p =>
      let p := { p with arrived := true, value := v.getD p.value }
      if p.delayDone then
        { a with pend := a.pend.eraseIdx i
                 ds := if p.slot < a.ds.length then setSlot a.ds p.slot p.value else a.ds }
      else { a with pend := a.pend.set i p }

/-- A pending load's value arrives (R384, R386, R437). A control engine's cache misses deliver with their line. -/
def execLoadDeliver (w : Who) (s : State) : Out :=
  if w.wf then .next (s.setArch w (arrive (s.arch w) 0 none)) else .fault .illFormed

/-- The oldest write-buffer entry drains to local memory or DRAM (R405). -/
def execWriteBufferDrain (k : Nat) (s : State) : Out :=
  if 4 ≤ k then .fault .illFormed else
  let c := s.ce k
  match c.wb with
  | [] => .next s
  | e :: r => .next ((s.stBytes e.addr e.data).setCe k { c with wb := r, syncing := c.syncing && !r.isEmpty })

/-- A cache miss completes when its line arrives from DRAM (R404, R437): the line is installed, a store is written
into it, a load's value is delivered. With no room in the write buffer for the line it displaces, it waits. -/
def execCacheLineFill (k : Nat) (s : State) : Out :=
  if 4 ≤ k then .fault .illFormed else
  let c := s.ce k
  match c.misses with
  | [] => .next s
  | m :: r =>
    let line := m.addr / 64
    let c1 := if (c.lineOf m.addr).isSome then c else c.evictFor line
    if 16 < c1.wb.length then .next s else
    let c2 := if (c.lineOf m.addr).isSome then c1 else
      { c1 with cache := c1.cache ++ [{ line := line, data := s.ceFetchLine c1 line }] }
    let c3 : Ce := match m.store with
      | none => c2
      | some bs => { c2 with cache := c2.cache.map fun (l : CacheLine) => if l.line = line then storeLine l m.addr bs else l }
    let c4 := { c3.touch line with misses := r }
    let v := match c4.lineOf m.addr with
      | some l => BitVec.ofNat 32 (leNat (slice l.data (m.addr % 64) m.width))
      | none => 0
    let c5 := if m.store.isSome then c4 else
      { c4 with base := arrive c4.base m.tag (some v), intr := arrive c4.intr m.tag (some v) }
    .next (s.setCe k c5)

end Sys2Proof.Machine
end

