-- ==== Sys2Proof/Machine/Pools.lean ====
section
/-! DEFINITION. The buffer pool manager: free lists, owners and their minima and limits, work-buffer calls, the
firmware command port, and Reservoir cells (R603–R626). -/
namespace Sys2Proof.Machine

/-! ### Free lists -/

/-- Buffer size of a pool (R603). -/
def poolSize (k : Nat) : Nat := [256, 256, 1024, 4096, 16384].getD k 256

/-- A pool. -/
def State.pool (s : State) (k : Nat) : Pool := s.bpm.pools.get k

/-- The state with a pool replaced. -/
def State.setPool (s : State) (k : Nat) (p : Pool) : State := { s with bpm.pools := s.bpm.pools.set k p }

/-- Buffers linked by a pool's last build. -/
def State.poolCount (s : State) (k : Nat) : Nat :=
  if k = 0 then 393216 - s.bpm.bad.length else (s.pool k).count

/-- Numbers below `next` that were never linked: bad cells, in pool 0. -/
def State.badBelow (s : State) (k n : Nat) : Nat := if k = 0 then (s.bpm.bad.filter fun c => c < n).length else 0

/-- Free buffers of a pool; a pool not built, or being built, offers none (R605). -/
def State.poolFree (s : State) (k : Nat) : Nat :=
  let p := s.pool k
  if p.built && !p.building then p.freed.length + (s.poolCount k + s.badBelow k p.next - p.next) else 0

/-- The first number from `n` up that is not a bad cell. -/
def skipBad (bad : List Nat) : Nat → Nat → Nat
  | 0, n => n
  | f + 1, n => if bad.contains n then skipBad bad f (n + 1) else n

/-- The head of a pool's free list, and the pool without it (R605, R612). -/
def State.takeHead (s : State) (k : Nat) : Option (Nat × State) :=
  if s.poolFree k = 0 then none else
  let p := s.pool k
  match p.freed with
  | b :: r => some (b, s.setPool k { p with freed := r })
  | [] =>
    let n := if k = 0 then skipBad s.bpm.bad s.bpm.bad.length p.next else p.next
    some (n, s.setPool k { p with next := n + 1 })

/-! ### Owners (R608–R611) -/

/-- Held count of an owner in a pool. -/
def State.held (s : State) (o k : Nat) : Nat := s.bpm.held.get (o * 5 + k)

/-- The state with a held count replaced. -/
def State.setHeld (s : State) (o k n : Nat) : State := { s with bpm.held := s.bpm.held.set (o * 5 + k) n }

/-- Reserved minimum and limit of an owner in a pool (R610). -/
def State.ownMin (s : State) (o k : Nat) : Nat := s.fld (Reg.bpmOwnMin o k) 23 0
def State.ownMax (s : State) (o k : Nat) : Nat :=
  let v := s.fld (Reg.bpmOwnMax o k) 23 0
  if v = 0 ∨ s.poolCount k < v then s.poolCount k else v

/-- Free buffers not needed to meet unmet minima (R610). Only owners whose minimum register was written can have one. -/
def State.sharedFree (s : State) (k : Nat) : Nat :=
  let unmet := ((List.range 64).map fun p => s.ownMin p k - s.held p k).sum
  s.poolFree k - unmet

/-- Whether an owner may take a buffer (R610). -/
def State.mayTake (s : State) (o k : Nat) : Bool :=
  if s.poolFree k = 0 then false
  else if s.held o k < s.ownMin o k then true
  else if s.ownMax o k ≤ s.held o k then false
  else 0 < s.sharedFree k

/-- The low-water event of a pool after its free count fell (R620). -/
def State.lowWater (s : State) (k : Nat) : State :=
  let low := s.fld (Reg.bpmPoolLow k) 23 0
  let free := s.poolFree k
  let p := s.pool k
  if low ≠ 0 ∧ free < low ∧ !p.fired then (s.setPool k { p with fired := true }).setEvent Reg.bpmEvents k (240 + k)
  else s

/-- A pool re-armed when its free count has risen far enough (R620). -/
def State.lowRearm (s : State) (k : Nat) : State :=
  let low := s.fld (Reg.bpmPoolLow k) 23 0
  let p := s.pool k
  if p.fired ∧ low + low / 4 ≤ s.poolFree k then s.setPool k { p with fired := false } else s

/-- A failed allocation (R613). -/
def State.allocFail (s : State) (o : Nat) : State := (s.bump (Reg.bpmOwnCnt o 2)).setEvent Reg.bpmEvents 5 245

/-- A buffer of a pool taken for an owner; none where R610 refuses it. -/
def State.takeBuffer (s : State) (o k : Nat) : Option (Nat × State) :=
  if s.mayTake o k then
    match s.takeHead k with
    | none => none
    | some (b, t) => some (b, ((t.setHeld o k (t.held o k + 1)).bump (Reg.bpmOwnCnt o 0)).lowWater k)
  else none

/-- A buffer returned to its pool by its named owner (R609, R612). -/
def State.returnBuffer (s : State) (o k b : Nat) : State :=
  let p := s.pool k
  let t := s.setPool k { p with freed := b :: p.freed }
  ((t.setHeld o k (t.held o k - 1)).bump (Reg.bpmOwnCnt o 1)).lowRearm k

/-! ### Cells of the Reservoir (R569, R572, R618) -/

/-- A cell for an owner, counting a refusal (R613). -/
def State.takeCell (s : State) (o : Nat) : Option (Nat × State) := s.takeBuffer o 0

/-- `n` cells for an owner, all or none. -/
def takeCells : Nat → Nat → State → Option (List Nat × State)
  | 0, _, s => some ([], s)
  | n + 1, o, s => match s.takeCell o with
    | none => none
    | some (c, t) => match takeCells n o t with
      | none => none
      | some (l, u) => some (c :: l, u)

/-- Cells returned for an owner. -/
def State.returnCells (s : State) (o : Nat) (cells : List Nat) : State :=
  cells.foldl (fun t c => t.returnBuffer o 0 c) s

/-! ### Work buffers (R606, R612–R616) -/

/-- Pool and number a handle names; none where it names no work buffer (R606). -/
def State.handleBuf (s : State) (h : Nat) : Option (Nat × Nat) :=
  let k := h / 2 ^ 28 % 16
  let i := h % 2 ^ 24
  if 1 ≤ k ∧ k ≤ 4 ∧ h / 2 ^ 24 % 16 = 0 ∧ i < s.poolCount k then some (k, i) else none

/-- Key of a buffer. -/
def bufKey (k i : Nat) : Nat := k * 2 ^ 24 + i

/-- A buffer's owner and reference count. -/
def State.buf (s : State) (k i : Nat) : Buf := s.bpm.bufs.get (bufKey k i)

/-- The state with a buffer's owner and count replaced. -/
def State.setBuf (s : State) (k i : Nat) (b : Buf) : State := { s with bpm.bufs := s.bpm.bufs.set (bufKey k i) b }

/-- DRAM address of a buffer (R604). -/
def State.bufAddr (s : State) (k i : Nat) : Nat := (s.pool k).base + i * poolSize k

/-- The first of several pools in which an owner may take a buffer. -/
def tryPools (s : State) (o : Nat) : List Nat → Option (Nat × Nat × State)
  | [] => none
  | k :: r => match s.takeBuffer o k with
    | some (b, t) => some (k, b, t)
    | none => tryPools s o r

/-- ALLOC (R612): status, handle and state. -/
def State.bpmAlloc (s : State) (o size : Nat) : Nat × Nat × State :=
  let size := if size = 0 then 1 else size
  let pools := [1, 2, 3, 4].filter fun k => size ≤ poolSize k
  let pools := if s.bit (0x4C4014 + 0x20 * o) 0 then pools else pools.take 1
  match tryPools s o pools with
  | some (k, b, t) => (0, k * 2 ^ 28 + b, t.setBuf k b { owner := o, refs := 1 })
  | none => (1, 0, s.allocFail o)

/-- A double or foreign free recorded in ERR_INFO (R614, R622). -/
def State.bpmError (s : State) (foreign : Bool) (caller named h : Nat) : State :=
  let s := if s.bit Reg.bpmErrInfo 31 then s else s.wr Reg.bpmErrHandle (BitVec.ofNat 32 h)
  let s := s.record Reg.bpmErrInfo (b2n foreign * 2 ^ 16 + caller * 2 ^ 8 + named)
  if foreign then (s.bump Reg.bpmForeignFree).setEvent Reg.bpmEvents 7 247
  else (s.bump Reg.bpmDoubleFree).setEvent Reg.bpmEvents 6 246

/-- FREE (R614, R615): status and state. -/
def State.bpmFree (s : State) (o h : Nat) : Nat × State :=
  match s.handleBuf h with
  | none => (4, s)
  | some (k, i) =>
    let b := s.buf k i
    if b.refs = 0 then (2, s.bpmError false o 0 h)
    else if b.owner ≠ o then (3, s.bpmError true o b.owner h)
    else if b.refs = 65535 then (0, s)
    else if b.refs = 1 then (0, (s.setBuf k i {}).returnBuffer o k i)
    else (0, s.setBuf k i { b with refs := b.refs - 1 })

/-- HANDOVER (R609, R614): status and state. -/
def State.bpmHandover (s : State) (o h new : Nat) : Nat × State :=
  match s.handleBuf h with
  | none => (4, s)
  | some (k, i) =>
    let b := s.buf k i
    if b.refs = 0 then (4, s)
    else if b.owner ≠ o then (3, s.bpmError true o b.owner h)
    else
      let n := new % 64
      let t := s.setHeld o k (s.held o k - 1)
      (0, (t.setHeld n k (t.held n k + 1)).setBuf k i { b with owner := n })

/-- SHARE (R614, R615): status and state. -/
def State.bpmShare (s : State) (o h : Nat) : Nat × State :=
  match s.handleBuf h with
  | none => (4, s)
  | some (k, i) =>
    let b := s.buf k i
    if b.refs = 0 then (4, s)
    else if b.refs = 65535 then (0, s.bump (Reg.bpmOwnCnt o 3))
    else (0, s.setBuf k i { b with refs := b.refs + 1 })

/-- Whether a READ or WRITE of a buffer may go on: its status, and the address of its byte `boff` (R469, R619). -/
def State.bpmAccess (s : State) (h boff len : Nat) : Nat × Nat :=
  match s.handleBuf h with
  | none => (4, 0)
  | some (k, i) =>
    if (s.buf k i).refs = 0 then (4, 0)
    else if poolSize k < boff + len then (5, 0)
    else (0, s.bufAddr k i + boff)

/-! ### Firmware commands (R623) -/

/-- A BPM command finished with a code and a handle. -/
def State.bpmDone (s : State) (code h : Nat) : State :=
  (s.cmdDone Reg.bpmResult (code * 2 ^ 25)).wr Reg.bpmResHandle (BitVec.ofNat 32 h)

/-- INIT of a pool (R605): the tests in order, then the build begins; with a count of 0 it completes at once. -/
def State.bpmInit (s : State) (k : Nat) : State :=
  let base := s.fld (Reg.bpmPoolBaseLo k) 31 12 * 2 ^ 12 + s.fld (Reg.bpmPoolBaseHi k) 7 0 * 2 ^ 32
  let count := s.fld (Reg.bpmPoolCount k) 23 0
  let size := count * poolSize k
  let overlaps := (List.range 4).any fun j =>
    let p := s.pool (j + 1)
    j + 1 ≠ k && p.built && p.count != 0 && base < p.base + p.count * poolSize (j + 1) && p.base < base + size
  let inFlow := base < s.flow.base + s.regionSize && s.flow.base < base + size
  if k = 0 ∨ 5 ≤ k then s.bpmDone 7 0
  else if count ≠ 0 ∧ (!inDram base || 0x4000000000 < base + size || inFlow || overlaps) then s.bpmDone 6 0
  else if (List.range 64).any fun o => s.held o k != 0 then s.bpmDone 8 0
  else
    let p : Pool := { built := true, building := count != 0, base := base, count := count, fired := (s.pool k).fired }
    let t := s.setPool k p
    let t := if t.poolFree k < s.poolFree k then t.lowWater k else t
    if count = 0 then t.bpmDone 0 0 else t.cmdAccept Reg.bpmResult

/-- A write of BPM.CMD (R173, R623). -/
def writeBpmCmd (s : State) (v : Word) : State :=
  let op := Wbits v 3 0
  let o := Wbits v 13 8
  let a0 := (s.rd Reg.bpmArg0).toNat
  let a1 := (s.rd Reg.bpmArg1).toNat
  if op = 0 then s
  else if s.cmdBusy Reg.bpmResult then s.cmdReject Reg.bpmResult
  else
    let s := s.cmdAccept Reg.bpmResult
    if op = 1 then let r := s.bpmAlloc o a0; r.2.2.bpmDone r.1 r.2.1
    else if op = 2 then let r := s.bpmFree o a0; r.2.bpmDone r.1 0
    else if op = 3 then let r := s.bpmHandover o a0 a1; r.2.bpmDone r.1 0
    else if op = 4 then let r := s.bpmShare o a0; r.2.bpmDone r.1 0
    else if op = 5 then s.bpmInit (a0 % 8)
    else s.bpmDone 7 0

/-- BPM.CMD with OP 1: ALLOC of ARG0 bytes for the named owner. -/
def execBpmCmdAlloc (acc : Nat) (v : Word) (s : State) : Out :=
  writeRow (acc < 7) acc Reg.bpmCmd (Wbits v 3 0 == 1) (fun t => writeBpmCmd t v) s

/-- BPM.CMD with OP 2: FREE of ARG0. -/
def execBpmCmdFree (acc : Nat) (v : Word) (s : State) : Out :=
  writeRow (acc < 7) acc Reg.bpmCmd (Wbits v 3 0 == 2) (fun t => writeBpmCmd t v) s

/-- BPM.CMD with OP 3: HANDOVER of ARG0 to ARG1. -/
def execBpmCmdHandover (acc : Nat) (v : Word) (s : State) : Out :=
  writeRow (acc < 7) acc Reg.bpmCmd (Wbits v 3 0 == 3) (fun t => writeBpmCmd t v) s

/-- BPM.CMD with OP 4: SHARE of ARG0. -/
def execBpmCmdShare (acc : Nat) (v : Word) (s : State) : Out :=
  writeRow (acc < 7) acc Reg.bpmCmd (Wbits v 3 0 == 4) (fun t => writeBpmCmd t v) s

/-- BPM.CMD with OP 5: INIT of pool ARG0[2:0]. -/
def execPoolInit (acc : Nat) (v : Word) (s : State) : Out :=
  writeRow (acc < 7) acc Reg.bpmCmd (Wbits v 3 0 == 5) (fun t => writeBpmCmd t v) s

/-- The build of a pool's free list completes: the pool offers its buffers, and the command is done (R605). -/
def execPoolInitDone (pool : Nat) (s : State) : Out :=
  whenWf (1 ≤ pool && pool < 5)
    (occurs s (s.pool pool).building
      (((s.setPool pool { s.pool pool with building := false, freed := [], next := 0 }).lowRearm pool).bpmDone 0 0))

/-- What the BPM registers computed from its state read (R622, R624, R625). -/
def bpmLive (s : State) (a : Nat) : Option Nat :=
  if a = Reg.bpmStatus then some (b2n (s.pool 0).built * 2 ^ 31 + s.poolFree 0)
  else if a = Reg.bpmPoolCount 0 then some (s.poolCount 0)
  else if 0x4C0100 ≤ a ∧ a < 0x4C01A0 ∧ (a - 0x4C0100) % 0x20 = 0xC then some (s.poolFree ((a - 0x4C0100) / 0x20))
  else if 0x4C4000 ≤ a ∧ a < 0x4C4800 ∧ (a - 0x4C4000) % 0x20 < 20 then
    some (s.held ((a - 0x4C4000) / 0x20) ((a - 0x4C4000) % 0x20 / 4))
  else none

end Sys2Proof.Machine
end

