-- ==== Sys2Proof/Machine/SwitchCore.lean ====
section
/-! DEFINITION. The switch core: packets in cells, their copies and queues, release, cut-through, multicast, Siphon
sessions, ports going down and the Spillway (R207–R220, R477–R482, R568–R602). -/
namespace Sys2Proof.Machine

/-! ### Packets and copies -/

def State.pkt (s : State) (i : Nat) : Pkt := s.qm.pkts.get i
def State.setPkt (s : State) (i : Nat) (p : Pkt) : State := { s with qm.pkts := s.qm.pkts.set i p }
def State.copy (s : State) (i : Nat) : Copy := s.qm.copies.get i
def State.setCopy (s : State) (i : Nat) (c : Copy) : State := { s with qm.copies := s.qm.copies.set i c }

/-- Transmit side of a port. -/
def State.tx (s : State) (p : Nat) : Tx := s.sch.tx.get p
def State.setTx (s : State) (p : Nat) (t : Tx) : State := { s with sch.tx := s.sch.tx.set p t }

/-- Counter `k` of an egress port (R602). -/
def qmCtr (p k : Nat) : Nat := Reg.qmCnt p k

/-- Cells in use in an ingress buffer (R590). -/
def State.voqCells (s : State) (g : Nat) : List Nat :=
  (s.qm.pkts.entries.filter fun e => e.2.live && e.2.voq == some g).flatMap fun e => e.2.cells

/-- Live copies of an ingress buffer (R590, R591). -/
def State.voqCopies (s : State) (g : Nat) : Nat :=
  (s.qm.copies.entries.filter fun e => e.2.st != .gone && e.2.voq == some g && !e.2.cut).length

/-- Reservoir copy descriptors in use (R575, R597). -/
def State.copiesInUse (s : State) : Nat :=
  (s.qm.copies.entries.filter fun e => e.2.st != .gone && e.2.voq == none && !e.2.cut).length

/-- Depth of a queue in cells: the charges of its copies that have not ended (R581, R601). -/
def State.qdepth (s : State) (p q : Nat) : Nat :=
  ((s.qm.copies.entries.filter fun e => e.2.st != .gone && !e.2.cut && e.2.port == p && e.2.queue == q).map fun e => e.2.charge).sum

/-- Key of a Reservoir queue, and of an ingress buffer's queue (R575, R591). -/
def qKey (p q : Nat) : Nat := p * 12 + q
def voqKey (g p q : Nat) : Nat := g * 1608 + p * 12 + q

/-- Packet handle (R570). -/
def State.pktHandle (s : State) (i : Nat) : Nat :=
  let p := s.pkt i
  let c := p.cells.headD 0
  match p.voq with
  | some g => 2 ^ 31 + g * 2 ^ 24 + c
  | none => c

/-- Cells a frame of `n` bytes occupies (R569). -/
def cellsOf (n : Nat) : Nat := (n + 255) / 256

/-- One more cell for a packet; a packet that gets none is marked incomplete (R569, R571, R590). -/
def State.takePktCell (s : State) (i : Nat) : State × Bool :=
  let p := s.pkt i
  match p.voq with
  | some g =>
    let used := s.voqCells g
    if 1024 ≤ used.length then ((s.allocFail p.owner).setPkt i { p with incomplete := true }, false)
    else
      let c := ((List.range (used.length + 1)).find? fun n => !used.contains n).getD 0
      (s.setPkt i { p with cells := p.cells ++ [c] }, true)
  | none =>
    match s.takeCell p.owner with
    | some (c, t) => (t.setPkt i { p with cells := p.cells ++ [c] }, true)
    | none => ((s.allocFail p.owner).setPkt i { p with incomplete := true }, false)

/-- A packet's cells and edit cells returned, and the packet gone (R572). -/
def State.freePkt (s : State) (i : Nat) : State :=
  let p := s.pkt i
  let t := s.setPkt i {}
  let t := if p.voq.isSome then t else t.returnCells p.owner p.cells
  t.returnCells p.editOwner p.editCells

/-- A copy ended: its packet's reference count goes down, and at 0 the cells return (R572). -/
def State.endCopy (s : State) (i : Nat) : State :=
  let c := s.copy i
  if c.st = .gone then s else
  let t := s.setCopy i {}
  let drop := fun l : List Nat => l.filter fun n => n != i
  let t := match c.voq with
    | none => { t with qm.queues := t.qm.queues.mod (qKey c.port c.queue) drop }
    | some g => { t with qm.voqs := t.qm.voqs.mod (voqKey g c.port c.queue) drop }
  let p := t.pkt c.pkt
  if p.refs ≤ 1 then t.freePkt c.pkt else t.setPkt c.pkt { p with refs := p.refs - 1 }

/-! ### Ports as the switch core sees them (R587, R697) -/

/-- Whether a port is down for the switch core. -/
def State.portDown (s : State) (p : Nat) : Bool :=
  if p = 132 ∨ p = 133 then false
  else if 134 ≤ p then true
  else !s.portExists p || (s.ports.get p).state != 5 || (128 ≤ p && (s.stk.links.get (p - 128)).state != 3)

/-! ### Forming a copy (R474–R482, R585, R715) -/

/-- Length of the bytes an edit puts in place of those it covers. -/
def Edit.outLen (e : Edit) : Nat := match e.kind with
  | .remove => 0 | .stamp => 10 | _ => e.data.length

/-- Edits that cover a range: REPLACE, REMOVE, STAMP. -/
def Edit.isRange (e : Edit) : Bool := e.kind != .insert

/-- The frame with every edit applied at its original position; `stamp` holds the ten bytes a STAMP writes. -/
def applyEdits (edits : List Edit) (stamp : List Byte) : List Byte → Nat → Nat → List Byte
  | [], pos, _ => (edits.filter fun e => e.kind == .insert && e.pos == pos).flatMap fun e => e.data
  | b :: r, pos, skip =>
    let ins := (edits.filter fun e => e.kind == .insert && e.pos == pos).flatMap fun e => e.data
    match skip with
    | k + 1 => ins ++ applyEdits edits stamp r (pos + 1) k
    | 0 =>
      match edits.find? fun e => e.isRange && e.pos == pos with
      | none => ins ++ b :: applyEdits edits stamp r (pos + 1) 0
      | some e =>
        ins ++ (match e.kind with | .remove => [] | .stamp => stamp | _ => e.data) ++
          applyEdits edits stamp r (pos + 1) (e.len - 1)

/-- Where an original byte position stands in the edited copy; none when an edit removed the byte (R481). -/
def movedOffset (edits : List Edit) (o : Nat) : Option Nat :=
  if edits.any fun e => e.kind == .remove && e.pos ≤ o && o < e.pos + e.len then none
  else
    let add := ((edits.filter fun e => e.kind == .insert && e.pos ≤ o).map fun e => e.data.length).sum
    let del := ((edits.filter fun e => e.kind == .remove && e.pos + e.len ≤ o).map fun e => e.len).sum
    some (o + add - del)

/-- The original frame without its FCS. -/
def Pkt.body (p : Pkt) : List Byte := p.bytes.take (p.bytes.length - 4)

/-- The stack header of a multicast copy to a lateral port (R712, R715). -/
def State.mcHeader (s : State) (p : Pkt) (c : Copy) (group : Nat) : List Byte :=
  let l := s.stk.links.get (c.port - 128)
  let me := s.fld Reg.stkCtrl 29 27
  beBytes (0x020000000010 + l.peerMember) 6 ++ beBytes (0x020000000010 + me) 6 ++ beBytes 0x88B6 2 ++
    [BitVec.ofNat 8 (l.version * 16 + 3), BitVec.ofNat 8 (l.peerMember * 16 + me)] ++ beBytes group 2 ++
    [BitVec.ofNat 8 c.queue, BitVec.ofNat 8 p.port] ++ beBytes p.ts80 10 ++ beBytes 0 2

/-- A copy's frame with its packet's edits, or without them for an original-frame Siphon copy. -/
def State.editedCopy (s : State) (c : Copy) (stamp : List Byte) : List Byte :=
  let p := s.pkt c.pkt
  if c.edited then applyEdits p.edits stamp p.body 0 0 else p.body

/-- A formed frame with the stack header of a lateral multicast copy in front, cut to a Siphon session's length. -/
def State.finishForm (s : State) (c : Copy) (f : List Byte) : List Byte :=
  let f := match c.group with
    | some g => if 128 ≤ c.port ∧ c.port < 132 then s.mcHeader (s.pkt c.pkt) c g ++ f else f
    | none => f
  if c.trunc = 0 then f else f.take c.trunc

/-- A copy's bytes before its FCS and padding. -/
def State.formCopy (s : State) (c : Copy) (stamp : List Byte) : List Byte := s.finishForm c (s.editedCopy c stamp)

/-- Length of a copy on the wire, FCS included (R477, R634). -/
def State.wireLen (s : State) (c : Copy) : Nat := (pad60 (s.formCopy c (List.replicate 10 0))).length + 4

/-! ### Sluice charges (R634, R635) -/

/-- Sluices of a copy: port, group and queue. -/
def State.sluicesOf (s : State) (p q : Nat) : List Nat :=
  [p, 134 + 4 * p + s.fld (Reg.schQmap p) (2 * q + 1) (2 * q), 670 + 12 * p + q]

/-- Whether a Sluice is active. -/
def State.sluiceOn (s : State) (i : Nat) : Bool := s.bit (Reg.schSluiceRate i) 31

/-- Charge of a copy: its bytes on the wire plus the port's OVERHEAD, none for P132 and P133 (R634, R649). -/
def State.chargeOf (s : State) (c : Copy) : Nat :=
  s.wireLen c + (if c.port < 132 then s.fld (Reg.schPortCfg c.port) 5 0 else 0)

/-- A charge taken from the Sluices of a copy, saturating (R635). -/
def State.chargeSluices (s : State) (c : Copy) : State :=
  let n : Int := s.chargeOf c * 256
  (s.sluicesOf c.port c.queue).foldl (fun t i =>
    if t.sluiceOn i then
      { t with sch.credit := t.sch.credit.set i (clampInt (t.sch.credit.get i - n) (-(2 ^ 31)) (2 ^ 31 - 1)) }
    else t) s

/-! ### Admission to a queue (R575, R576, R580, R591, R601, R640) -/

/-- Profile of a queue: MAX_CELLS, MIN_CELLS and ALPHA in force (R600). -/
def State.profileOf (s : State) (p q : Nat) : Nat × Nat × Nat :=
  let k := s.fld (Reg.qmQcfg p q) 31 29
  let mx := s.fld (Reg.qmProfA k) 18 0
  (if mx = 0 ∨ 393216 < mx then 393216 else mx, s.fld (Reg.qmProfB k) 18 0, min 11 (s.fld (Reg.qmProfB k) 31 28))

/-- The admission test of a stored copy of the Reservoir. -/
def State.admits (s : State) (p q c : Nat) : Bool :=
  let d := s.qdepth p q + c
  let (mx, mn, alpha) := s.profileOf p q
  if 524288 ≤ s.copiesInUse then false
  else if d ≤ mn then true
  else if mx < d then false
  else d * 256 ≤ s.poolFree 0 * 2 ^ alpha

/-- Whether ECN marking chooses a copy entering at depth `d` with random draw `r` (R640). -/
def State.ecnChosen (s : State) (p q d r : Nat) : Bool :=
  let k := s.fld (Reg.schQsch p q) 29 27
  let mn := s.fld (Reg.schEcnMin k) 18 0
  let mx := s.fld (Reg.schEcnMax k) 18 0
  if mx ≤ mn then mn ≤ d
  else mx ≤ d || (mn ≤ d && r * (mx - mn) < (d - mn) * 65536)

/-- A stored copy put at the end of its queue. -/
def State.enqueue (s : State) (c : Copy) : State :=
  let before := s.qdepth c.port c.queue
  let after := before + c.charge
  let ecnOn := s.bit (Reg.schQsch c.port c.queue) 30 && !c.siphon
  let (r, s) := if ecnOn then s.draw 16 else (0, s)
  let c := { c with st := .queued, entered := s.ns64, ecn := ecnOn && s.ecnChosen c.port c.queue after r }
  let i := s.qm.nextCopy
  let s := { s with qm.nextCopy := i + 1 }.setCopy i c
  let s := match c.voq with
    | none => { s with qm.queues := s.qm.queues.mod (qKey c.port c.queue) fun l => l ++ [i] }
    | some g => { s with qm.voqs := s.qm.voqs.mod (voqKey g c.port c.queue) fun l => l ++ [i] }
  let s := (s.bump (qmCtr c.port 0)).count 72 [c.port]
  let k := qKey c.port c.queue
  let st := s.sch.qstat.get k
  let s := { s with sch.qstat := s.sch.qstat.set k { st with maxDepth := max st.maxDepth after } }
  let al := s.fld (Reg.qmQcfg c.port c.queue) 18 0
  let due := s.qm.alarmNext.get k
  let s := { s with qm.alarmNext := s.qm.alarmNext.set k false }
  if due ∨ (al ≠ 0 ∧ before < al ∧ al ≤ after) then
    (s.record Reg.qmAlarmInfo (c.queue * 2 ^ 16 + c.port)).setEvent Reg.qmEvents 2 258
  else s

/-- A QCFG write: with ALARM_CELLS at or below the queue's depth, the alarm is due at its next enqueue (R601). -/
def qcfgWritten (s : State) (p q : Nat) : State :=
  let al := s.fld (Reg.qmQcfg p q) 18 0
  { s with qm.alarmNext := s.qm.alarmNext.set (qKey p q) (al != 0 && decide (al ≤ s.qdepth p q)) }

/-- A copy that is not sent: a Siphon copy in SPILL_SIPHON alone, a port copy in counter `i`; with the per-port
counter `k` of R602 its reason names. -/
def State.lostCopy (s : State) (siphon : Bool) (i : Nat) (p : Nat) (k : Option Nat) : State :=
  let s := s.spill (if siphon then 16 else i)
  match k with
  | some k => if p < 134 then s.bump (qmCtr p k) else s
  | none => s

/-- Whether a copy may go cut-through (R215). -/
def State.cutThrough (s : State) (p : Pkt) (port q : Nat) : Bool :=
  p.port < 132 && s.bit (portCtrlOf p.port) 30 && s.qm.shared && s.portRate port ≤ s.portRate p.port &&
  s.qm.queues.get (qKey port q) == [] &&
  ((List.range 21).all fun g => s.qm.voqs.get (voqKey g port q) == []) && port < 132 && p.verdict.isNone

/-- One copy made by a release (R573, R580, R584, R589, R591): the state and whether the copy exists. -/
def State.makeCopy (s : State) (c : Copy) : State × Bool :=
  let p := s.pkt c.pkt
  if c.port = 133 ∧ !c.siphon ∧ 3 ≤ p.pass then (s.lostCopy false 8 133 none, false)
  else if s.portDown c.port then (s.lostCopy c.siphon 13 c.port (some 2), false)
  else if !c.siphon && s.cutThrough p c.port c.queue then
    let c := { c with cut := true, st := .waiting, charge := 0, entered := s.ns64 }
    let i := s.qm.nextCopy
    let s := ({ s with qm.nextCopy := i + 1 }.setCopy i c).chargeSluices c
    (s.setTx c.port { s.tx c.port with cut := (s.tx c.port).cut ++ [i] }, true)
  else
    let n := p.cells.length
    let c := { c with voq := p.voq, charge := if c.trunc = 0 then n else min n (c.trunc / 256) }
    let ok : Bool := match p.voq with
      | some g => decide (s.voqCopies g < 4096)
      | none => s.admits c.port c.queue c.charge
    if ok then (s.enqueue c, true) else (s.lostCopy c.siphon 12 c.port (some 1), false)

/-! ### Release (R357, R358, R571–R574, R582–R586, R714) -/

/-- What a release is asked to send (R573): port copies with their queues and the multicast group they come from,
and the Siphon request. -/
structure Outcome' where
  copies : List (Nat × Nat × Option Nat) := []
  siphon : Option (Nat × Bool) := none
  deriving DecidableEq, Repr, Inhabited

/-- Ports of a multicast group for a packet that entered on `port` (R582). -/
def State.targets (s : State) (group port : Nat) : List Nat :=
  let m := s.qm.groups.get group
  (setBits m 134).filter fun p => !(bitAt m 134 && p == port)

/-- The route toward a member: the lateral port, or none when the member is unreachable (R709). -/
def State.routeTo (s : State) (dst : Nat) : Option Nat :=
  if s.reachable dst then some (128 + s.routeLink dst) else none

/-- The DST member of a lateral copy that is to be steered: its edited bytes 12–13 hold 0x88B6 and DST is another
member (R714). -/
def State.steerDst (s : State) (c : Copy) : Option Nat :=
  if !(128 ≤ c.port && c.port < 132 && s.bit Reg.stkCtrl 26) then none else
  let f := s.formCopy c (List.replicate 10 0)
  let dst := (byteAt f 15).toNat / 16 % 8
  if slice f 12 2 ≠ [0x88, 0xB6] ∨ dst = s.fld Reg.stkCtrl 29 27 then none else some dst

/-- A port copy of a release: steered, then made. -/
def State.makePortCopy (s : State) (pkt : Nat) (x : Nat × Nat × Option Nat) : State × Bool :=
  let c : Copy := { pkt := pkt, port := x.1, queue := x.2.1, group := x.2.2 }
  match s.steerDst c with
  | none => s.makeCopy c
  | some dst =>
    match s.routeTo dst with
    | none => (((s.lostCopy false 13 c.port (some 2)).bump Reg.stkUnreach), false)
    | some p => (s.bump Reg.stkSteered).makeCopy { c with port := p }

/-- The Siphon copy of a release (R584–R586): the state and whether the copy exists. -/
def State.makeSiphon (s : State) (pkt session : Nat) (edited : Bool) : State × Bool :=
  let r := s.rd (Reg.qmSiphon session)
  let port := Wbits r 23 16
  let trunc := Wbits r 5 0
  if Wbits r 31 31 = 0 then (s, false)
  else if !s.qm.shared then (s.spill 16, false)
  else if 133 ≤ port then (s.spill 16, false)
  else s.makeCopy { pkt := pkt, port := port, queue := Wbits r 26 24, siphon := true, edited := edited
                    trunc := if trunc ≤ 40 then trunc * 256 else 0 }

/-- Edit cells a list of edits takes (R574). -/
def editCells (edits : List Edit) : Nat :=
  let d := ((edits.filter fun e => e.kind == .insert || e.kind == .replace).map fun e => e.data.length).sum
  if edits = [] then 0 else if 8 * edits.length + d ≤ 256 then 1 else 2

/-- Whether a Siphon request would make a copy: its session is enabled. -/
def State.siphonOn (s : State) (o : Outcome') : Bool := match o.siphon with
  | some (k, _) => s.bit (Reg.qmSiphon k) 31
  | none => false

/-- A release: the outcome's copies made from a packet with its edit list, or counted as R571, R574, R217 give. -/
def State.releasePkt (s : State) (pkt : Nat) (edits : List Edit) (owner : Nat) (o : Outcome') : State :=
  let p := s.pkt pkt
  let lose := fun (t : State) => (if s.siphonOn o then t.spill 16 else t).freePkt pkt
  let bad := o.copies.filter fun x => !(x.1 == 133 && 3 ≤ p.pass)
  let lim := o.copies.length - bad.length
  let limited := fun (t : State) => if lim = 0 then t else t.spill 8 lim
  let short := fun (t : State) => if bad = [] then limited t else t.spill 10
  if p.incomplete then lose (short s)
  else if p.verdict.any fun v => v != 0 then
    limited (lose (if bad = [] then s else s.spill 11 bad.length))
  else if bad = [] ∧ !s.siphonOn o then limited (s.freePkt pkt)
  else
    match takeCells (editCells edits) owner s with
    | none => lose (short (s.allocFail owner))
    | some (cells, t) =>
      let t := t.setPkt pkt { t.pkt pkt with released := true, edits := edits, editCells := cells, editOwner := owner }
      let r := o.copies.foldl (fun (a : State × Nat) x =>
        let (u, ok) := a.1.makePortCopy pkt x
        (u, a.2 + b2n ok)) (t, 0)
      let r := match o.siphon with
        | some (k, ed) => let (u, ok) := r.1.makeSiphon pkt k ed
                          (u, r.2 + b2n ok)
        | none => r
      if r.2 = 0 then r.1.freePkt pkt else r.1.setPkt pkt { r.1.pkt pkt with refs := r.2 }

/-- A packet that keeps its parse result's flags and offsets, by which its departure is stamped (R676). -/
def State.keepParse (s : State) (r : ParseResult) : State :=
  s.setPkt r.pkt { s.pkt r.pkt with flags := r.flags, ofs := r.ofs, ovalid := r.ovalid }

/-- A packet that gets no context and goes to P132 (R267, R301, R573). -/
def State.toControl (s : State) (r : ParseResult) (q : Nat) : State :=
  (s.keepParse r).releasePkt r.pkt [] 0 { copies := [(132, q, none)] }

/-! ### Verdicts, incomplete packets, ports going down -/

/-- Copies of a packet that have not ended. -/
def State.copiesOf (s : State) (pkt : Nat) : List (Nat × Copy) :=
  s.qm.copies.entries.filter fun e => e.2.st != .gone && e.2.pkt == pkt

/-- A count in a fixed alarm window of a port group and its alarm: bit `bit` of PG.EVENTS at `lim` counts (R233, R234).
`key` is the port for stomps, 200 + the port for uncorrectable codewords. -/
def State.portAlarm (s : State) (p key n lim bit : Nat) : State :=
  let g := groupOf p
  let t := { s with portWindow := windowAdd s.portWindow key n lim }
  if alarmDue s.portWindow key n lim then t.setEvent (Reg.pgEvents g) bit (84 + g) else t

/-- A frame ended by a stomp counted on its egress port (R218). -/
def State.countStomp (s : State) (p : Nat) : State :=
  ((s.bump (portCtr p 10)).count 20 [p]).portAlarm p p 1 (s.fld (Reg.pgAlarmThresh (groupOf p)) 31 16) (16 + subOf p)

/-- Every egress MAC sending a copy of the packet cut-through stomps it (R218, R219); copies not yet started and
stored copies are dropped and counted (R571, R577, R639). -/
def State.stompPkt (s : State) (pkt : Nat) : State :=
  (s.copiesOf pkt).foldl (fun t e =>
    let c := e.2
    if c.st = .sending then
      if c.cut && !(t.tx c.port).stomped then
        (t.countStomp c.port).setTx c.port { t.tx c.port with stomped := true }
      else t
    else
      let t := t.lostCopy c.siphon 11 c.port none
      let x := t.tx c.port
      let t := t.setTx c.port { x with cut := x.cut.filter (fun n => n != e.1), chosen := if x.chosen = some e.1 then none else x.chosen }
      t.endCopy e.1) s

/-- A tail verdict reaching a packet in the switch core (R213, R217, R218, R577). -/
def State.pktVerdict (s : State) (pkt v : Nat) : State :=
  let p := s.pkt pkt
  if !p.live then s else
  let t := s.setPkt pkt { p with verdict := some v }
  if v = 0 ∨ !p.released then t else t.stompPkt pkt

/-- A packet found incomplete after its release (R571). -/
def State.incompleteAfter (s : State) (pkt : Nat) : State := if (s.pkt pkt).released then s.stompPkt pkt else s

/-- A frame cut short at a block boundary: a 66-bit block carries eight of its bytes, and how many blocks had left the spec
leaves to the moment (R208). -/
def cutWire (frame : List Byte) (blocks : Nat) : List Byte := frame.take (8 * (blocks % (frame.length / 8 + 1)))

/-- Every copy for a port that has not started is flushed; a frame being sent is cut short (R207, R208, R588). -/
def State.flushPort (s : State) (p : Nat) : State :=
  let waiting := s.qm.copies.entries.filter fun e => e.2.port == p && e.2.st != .gone && e.2.st != .sending
  let s := s.setTx p { s.tx p with chosen := none, cut := [] }
  let s := waiting.foldl (fun t e => (t.lostCopy e.2.siphon 14 p (some 3)).endCopy e.1) s
  let s := if waiting = [] then s
    else (s.record Reg.qmFlushInfo (waiting.length * 2 ^ 8 + p)).setEvent Reg.qmEvents 1 257
  match (s.tx p).sending with
  | none => s
  | some i =>
    let s := if p < 132 then s.bump (portCtr p 11) else s
    let r := s.draw 14
    let x := s.tx p
    (r.2.endCopy i).setTx p { x with sending := none, stomped := false, wire := cutWire x.wire r.1, ended := some .cut }

/-! ### Registers (R597–R601) -/

/-- MC_CMD (R598). -/
def writeMcCmd (s : State) (v : Word) : State :=
  let g := s.fld Reg.qmMcSel 11 0
  let op := Wbits v 1 0
  if op = 1 then
    let lo := leNat ((List.range 4).flatMap fun i => leBytes (s.rd (Reg.qmMcData i)).toNat 4)
    let hi := s.rd (Reg.qmMcData 4)
    { s with qm.groups := s.qm.groups.set g (lo + Wbits hi 5 0 * 2 ^ 128 + Wbits hi 31 31 * 2 ^ 134) }
  else if op = 2 then
    let m := s.qm.groups.get g
    let s := (List.range 4).foldl (fun t i => t.wr (Reg.qmMcData i) (BitVec.ofNat 32 (bitsOf m (32 * i + 31) (32 * i)))) s
    s.wr (Reg.qmMcData 4) (BitVec.ofNat 32 (bitsOf m 133 128 + bitsOf m 134 134 * 2 ^ 31))
  else s

/-- MC_CMD OP 1 writes a multicast group. -/
def execMcWrite (acc : Nat) (v : Word) (s : State) : Out :=
  writeRow (acc < 7) acc Reg.qmMcCmd (Wbits v 1 0 == 1) (fun t => writeMcCmd t v) s

/-- MC_CMD OP 2 reads a multicast group into MC_DATA. -/
def execMcRead (acc : Nat) (v : Word) (s : State) : Out :=
  writeRow (acc < 7) acc Reg.qmMcCmd (Wbits v 1 0 == 2) (fun t => writeMcCmd t v) s

/-- What the QM registers computed from its state read. -/
def qmLive (s : State) (a : Nat) : Option Nat :=
  if a = Reg.qmStatus then some (b2n s.qm.shared * 2 ^ 31 + s.copiesInUse)
  else if 0x4800C0 ≤ a ∧ a < 0x480114 then
    let g := (a - 0x4800C0) / 4
    some ((s.voqCells g).length * 2 ^ 16 + s.voqCopies g)
  else if 0x484000 ≤ a ∧ a < 0x484000 + 0x40 * 134 ∧ (a - 0x484000) % 0x40 < 48 then
    some (s.qdepth ((a - 0x484000) / 0x40) ((a - 0x484000) % 0x40 / 4))
  else none

end Sys2Proof.Machine
end

