-- ==== Sys2Proof/Machine/Counters.lean ====
section
/-! DEFINITION. The event controller and the performance counters: raising a source, pending bits, snapshots,
samples and bandwidth windows (R819–R839). -/
namespace Sys2Proof.Machine

/-! ### Events -/

/-- Whether a source is one that a block raises (R819): not reserved. -/
def sourceUsed (n : Nat) : Bool :=
  n < 320 && !((195 ≤ n && n < 200) || (227 ≤ n && n < 240) || (248 ≤ n && n < 256) || n == 259 ||
    (263 ≤ n && n < 272) || n == 302 || n == 303 || (306 ≤ n && n < 312) || 317 ≤ n)

/-- An event source is raised by its block (R822); an event controller frozen by a fault stop, or without its core,
accepts none (R821). -/
def execEventRaise (source : Nat) (s : State) : Out :=
  whenWf (source < 320) (occurs s (s.coreUp && sourceUsed source) (s.raiseEvent source))

/-- The value a read of EVC.PENDING(t, w) returns to an accessor, and the bits it clears (R823). -/
def readPending (t w : Nat) (s : State) : State := s.wr (Reg.evcPending t w) 0

/-- A read of EVC.PENDING(t, w) by an accessor: it receives the word, and the bits returned are cleared for that
target only (R823). -/
def execEvcPendingRead (acc target word : Nat) (s : State) : Out :=
  whenWf (acc < 7 && target < 5 && word < 10)
    (.next (if s.busHeld acc then s else match s.reach acc (Reg.evcPending target word) with
      | .ok => readPending target word { s with rdData := s.rdData.set acc (s.rd (Reg.evcPending target word)) }
      | .silent => { s with rdData := s.rdData.set acc 0 }
      | .error k => { s with rdData := s.rdData.set acc 0 }.accErr acc (Reg.evcPending target word) k false))

/-- A write of EVC.SET (R826). -/
def writeEvcSet (s : State) (v : Word) : State := if Wbits v 8 0 < 320 then s.raiseEvent (Wbits v 8 0) else s

/-- An EVC.SET write raises a source as its block would; sources from 320 up have no effect. -/
def execEvcSet (acc : Nat) (v : Word) (s : State) : Out :=
  writeRow (acc < 7) acc Reg.evcSet true (fun t => writeEvcSet t v) s

/-- EVC.SUMMARY as it reads (R824, R836). -/
def evcLive (s : State) (a : Nat) : Option Nat :=
  if Reg.evcSummary 0 ≤ a ∧ a < Reg.evcSummary 5 then
    let t := (a - Reg.evcSummary 0) / 4
    let ws := (List.range 10).filter fun w =>
      Nat.land (s.rd (Reg.evcPending t w)).toNat (s.rd (Reg.evcEnable t w)).toNat != 0
    some ((if t < 4 ∧ ws ≠ [] then 2 ^ 31 else 0) + (ws.map fun w => 2 ^ w).sum)
  else none

/-! ### Snapshots (R829) -/

/-- Every global counter copied into SNAP, the time stamped, SNAP raised. -/
def State.snapshot (s : State) : State :=
  let s := (List.range 64).foldl (fun t i => { t with ctrs := t.ctrs.set (Reg.pmcSnap i) (t.ctr (Reg.pmcCnt i)) }) s
  (s.setPair Reg.pmcSnapTimeLo Reg.pmcSnapTimeHi s.ns64).setEvent Reg.pmcEvents 1 313

/-- Every global counter and OVF set to 0. -/
def State.clearCounters (s : State) : State :=
  let s := (List.range 64).foldl (fun t i => { t with ctrs := t.ctrs.set (Reg.pmcCnt i) 0 }) s
  (s.wr Reg.pmcOvfLo 0).wr Reg.pmcOvfHi 0

/-- A write of PMC.CMD (R838). -/
def writePmcCmd (s : State) (v : Word) : State :=
  if Wbits v 1 0 = 1 then s.snapshot else if Wbits v 1 0 = 2 then s.clearCounters else s

/-- PMC.CMD OP 1: a snapshot. -/
def execPmcSnapshot (acc : Nat) (v : Word) (s : State) : Out :=
  writeRow (acc < 7) acc Reg.pmcCmd (Wbits v 1 0 == 1) (fun t => writePmcCmd t v) s

/-- PMC.CMD OP 2: every global counter and OVF cleared. -/
def execPmcCounterClear (acc : Nat) (v : Word) (s : State) : Out :=
  writeRow (acc < 7) acc Reg.pmcCmd (Wbits v 1 0 == 2) (fun t => writePmcCmd t v) s

/-- Whether a count of microseconds is a boundary of SNAP_PERIOD. -/
def State.snapDue (s : State) (us : Nat) : Bool := s.fld Reg.pmcCtrl 15 0 != 0 && us % s.fld Reg.pmcCtrl 15 0 == 0

/-! ### Samples (R831, R832) -/

/-- One captured instruction recorded in its cluster's slot, or counted as lost. -/
def State.recordSample (s : State) (n e j : Nat) (what : Nat × Nat × Nat) : State :=
  let i := (n * 16 + e) * 2 + j
  let s := { s with pmc.armed := s.pmc.armed.set i none, pmc.caught := s.pmc.caught.set i none }
  if s.bit (Reg.pmcSampleInfo n) 31 then
    (s.setBit (Reg.pmcSampleInfo n) 30 true).setFld (Reg.pmcSampleLost n) 31 0 (s.fld (Reg.pmcSampleLost n) 31 0 + 1)
  else
    let s := s.wr (Reg.pmcSampleCtx n) (BitVec.ofNat 32 what.2.2)
    (s.record (Reg.pmcSampleInfo n) (e * 2 ^ 24 + what.1 * 2 ^ 20 + j * 2 ^ 16 + what.2.1)).raiseEvent (140 + n)

/-- The skidded instruction of an engine whose counter wrapped with SAMPLE set is captured, counter 0 before 1. -/
def execSampleCapture (cluster engine : Nat) (s : State) : Out :=
  whenWf (cluster < 16 && engine < 16)
    (.next ([0, 1].foldl (fun t j => match t.pmc.caught.get ((cluster * 16 + engine) * 2 + j) with
      | none => t
      | some what => t.recordSample cluster engine j what) s))

/-! ### Bandwidth windows (R833, R834) -/

/-- Bytes received (`p`) or sent (200 + `p`) counted in the window in progress. -/
def State.bwCount (s : State) (p n : Nat) : State :=
  if s.bit Reg.pmcBwCtrl 31 then { s with pmc.bw := s.pmc.bw.mod p fun b => b + n } else s

/-- One register pair of a closing window: the count in 16 B units latched, and the peak raised to it. -/
def latchBw (s : State) (reg peak bytes : Nat) : State :=
  let v := satNat (bytes / 16) (2 ^ 32 - 1)
  let s := s.wr reg (BitVec.ofNat 32 v)
  if (s.rd peak).toNat < v then s.wr peak (BitVec.ofNat 32 v) else s

/-- A bandwidth window starts, of the WIN_US then written; 0 acts as 1 (R834). -/
def State.startBw (s : State) : State := { s with pmc.bw := {}, pmc.bwWin := max 1 (s.fld Reg.pmcBwCtrl 15 0) }

/-- Whether a count of microseconds ends the window in progress. -/
def State.bwEnds (s : State) (us : Nat) : Bool := s.bit Reg.pmcBwCtrl 31 && us % s.pmc.bwWin == 0

/-- The window in progress ends: every port's counts are latched, and the next window starts with counts of 0. -/
def State.closeBw (s : State) : State :=
  let t := (List.range 134).foldl (fun t p =>
    latchBw (latchBw t (Reg.pmcBwRx p) (Reg.pmcBwPeakRx p) (s.pmc.bw.get p))
      (Reg.pmcBwTx p) (Reg.pmcBwPeakTx p) (s.pmc.bw.get (200 + p))) s.startBw
  if s.bit Reg.pmcBwCtrl 30 then t.setEvent Reg.pmcEvents 2 314 else t

/-- A write of BW_CTRL: setting EN starts a window; another write leaves the window in progress as it is (R833, R834). -/
def writeBwCtrl (s : State) (v : Word) : State :=
  let t := s.storeRw Reg.pmcBwCtrl v
  if t.bit Reg.pmcBwCtrl 31 && !s.bit Reg.pmcBwCtrl 31 then t.startBw else t

/-! ### The end of a received frame (R210, R211, R240) -/

/-- A frame of a tail verdict counted on its port. -/
def State.rxCount (s : State) (p verdict bytes : Nat) : State :=
  match verdict with
  | 0 => (((((s.bump (portCtr p 0)).bump (portCtr p 1) bytes).count 16 [p]).count 17 [p] bytes).bwCount p bytes)
  | 1 => s.bump (portCtr p 2)
  | 4 => s.bump (portCtr p 4)
  | 5 => s.bump (portCtr p 5)
  | _ => s.bump (portCtr p 3)

end Sys2Proof.Machine
end

