-- ==== Sys2Proof/Machine/TimeBase.lean ====
section
/-! DEFINITION. The time base: how T and the FRC advance, jumps and slews, references and the hardware servo, the
1PPS and 10 MHz connectors, and the FRC compatibility clock (R37–R39, R655–R696). -/
namespace Sys2Proof.Machine

/-! ### T as one number of 2^-48 ns (R655) -/

/-- One nanosecond in 2^-48 ns. -/
def nsUnit : Nat := 2 ^ 48

/-- Range of T: 48-bit seconds. -/
def timeSpan : Nat := 2 ^ 48 * 1000000000 * 2 ^ 48

/-- T. -/
def State.total (s : State) : Nat := (s.tb.sec * 1000000000 + s.tb.ns) * nsUnit + s.tb.frac

/-- The state with T replaced. -/
def State.setTotal (s : State) (n : Nat) : State :=
  let n := n % timeSpan
  { s with tb.sec := n / nsUnit / 1000000000, tb.ns := n / nsUnit % 1000000000, tb.frac := n % nsUnit }

/-- A time moved by a signed amount, over the range of T. -/
def moveTime (n : Nat) (d : Int) : Nat := (((n : Int) + d) % (timeSpan : Int)).toNat

/-- FREQ, signed. -/
def State.freq (s : State) : Int := signed (s.rd Reg.tbFreq).toNat 32

/-- STATE of TB.STATUS (R668). -/
def State.tbState (s : State) : Nat := s.fld Reg.tbStatus 31 29
def State.setTbState (s : State) (v : Nat) : State := s.setFld Reg.tbStatus 31 29 v

/-- TIME_VALID. -/
def State.timeValid (s : State) : Bool := s.bit Reg.tbStatus 28

/-- SOURCE as it acts: 5–7 act as 0 (R663). -/
def sourceOf (w : Word) : Nat := if Wbits w 31 29 < 5 then Wbits w 31 29 else 0
def State.source (s : State) : Nat := sourceOf (s.rd Reg.tbCtrl)

/-- Frequency source of the timing PLL with its SyncE port: SOURCE 2 takes 10 MHz IN whatever FREQ_SRC holds (R663,
R664). -/
def freqSourceOf (w : Word) : Nat × Nat :=
  let f := if sourceOf w = 2 then 1 else Wbits w 28 27
  (f, if f = 2 then Wbits w 23 16 else 0)

/-! ### The edge (R656, R661, R683, R685) -/

/-- The slew increment of the next edge. -/
def Slew.step (w : Slew) : Int :=
  if w.done < w.edges then w.amount * (w.done + 1) / w.edges - w.amount * w.done / w.edges else 0

/-- The increment of T and of the FRC at the next edge. -/
def State.tbIncrement (s : State) : Int :=
  (nsUnit : Int) + s.freq * 16 + (match s.tb.slew with | some w => w.step | none => 0)

/-- Whether the FRC wraps at the next edge. -/
def State.frcWraps (s : State) : Bool := (2 ^ 96 : Int) ≤ s.tb.frc + s.tbIncrement

/-- T after the next edge. -/
def State.nextTotal (s : State) : Nat := moveTime s.total s.tbIncrement

/-- What the wrap edge does beside the count (R685). -/
def State.frcWrapped (s : State) : State :=
  let ofs := s.pair Reg.tbCompatOfsLo Reg.tbCompatOfsHi
  let add := signed (s.rd Reg.tbCompatRate).toNat 32 * 2 ^ 24
  let s := s.setPair Reg.tbCompatOfsLo Reg.tbCompatOfsHi (unsigned ((ofs : Int) + add) 64)
  let s := s.setFld Reg.tbFrcEpoch 15 0 (s.fld Reg.tbFrcEpoch 15 0 + 1)
  s.setEvent Reg.tbEvents 4 204

/-- One TIMING edge. -/
def tbEdge (s : State) : State :=
  let d := s.tbIncrement
  let wraps := s.frcWraps
  let t := s.setTotal s.nextTotal
  let t := { t with tb.frc := (((s.tb.frc : Int) + d) % 2 ^ 96).toNat
                    tb.run := s.tb.run + d.toNat
                    tb.slew := s.tb.slew.map fun w => { w with done := min w.edges (w.done + 1) } }
  if wraps then t.frcWrapped else t

/-! ### Times sampled earlier (R657, R662, R672) -/

/-- The jumps applied since `ago` × 2^-16 ns ago: a time sampled then does not carry them. -/
def State.jumpsSince (s : State) (ago : Nat) : List Jump := s.tb.jumps.filter fun j => s.tb.run < j.atRun + ago * 2 ^ 32

/-- T as it was sampled `ago` × 2^-16 ns ago. -/
def State.sampled (s : State) (ago : Nat) : Nat :=
  moveTime s.total (-(ago * 2 ^ 32 : Nat) - ((s.jumpsSince ago).map Jump.size).sum)

/-! ### Fixed windows (R234, R268, R373, R397, R506, R756, R775) -/

/-- One microsecond of T, one millisecond, one second. -/
def usUnit : Nat := 1000 * nsUnit
def msUnit : Nat := 1000 * usUnit
def secUnit : Nat := 1000 * msUnit

/-- Whether the next edge takes T into another multiple of a unit of time. -/
def State.crosses (s : State) (unit : Nat) : Bool := s.nextTotal / unit != s.total / unit

/-- The alarm windows of one millisecond end, and new ones start: uncorrectable codewords (R234), malformed parses
(R268), deadline misses (R373), program faults (R397), evictions (R506). -/
def State.endMs (s : State) : State :=
  { s with portWindow := ⟨s.portWindow.entries.filter fun e => e.1 % 4096 < 200⟩, hdg.malWindow := {}
           dsp.missWindow := {}, flume.faultWindow := {}, flow.evictWindow := {} }

/-- The alarm windows of one second end, and new ones start: stomps (R234), corrected errors (R756, R775). -/
def State.endSecond (s : State) : State :=
  { s with portWindow := ⟨s.portWindow.entries.filter fun e => 200 ≤ e.1 % 4096⟩, dmc.corrWindow := {}, ecc.corrWindow := {} }

/-! ### Jumps (R660, R662, R670) -/

/-- The second whose 1PPS OUT edge is the last at or before a time, trim included (R675). -/
def State.ppsSecondAt (s : State) (n : Nat) : Nat :=
  (((n : Int) - signed (s.rd Reg.tbPpsOutTrim).toNat 32 * 2 ^ 32) / (secUnit : Int)).toNat

/-- The fixed alarm windows end, and new ones start (R662). -/
def State.clearWindows (s : State) : State :=
  { s with portWindow := {}, hdg.malWindow := {}, dsp.missWindow := {}, flume.faultWindow := {},
           flow.evictWindow := {}, dmc.corrWindow := {}, ecc.corrWindow := {} }

/-- A jump applied: T is `new`, and the sampler's next period starts at the first microsecond boundary after it. -/
def State.applyJump (s : State) (new : Nat) : State :=
  let j : Jump := ⟨s.tb.run, (new : Int) - s.total⟩
  let s := (s.bump (Reg.tbCnt 4)).setBit Reg.tbStatus 28 true
  let s := ({ s with aon.timeValid := true }.clearWindows).setTotal new
  let s := { s with tb.ppsOut := s.ppsSecondAt new, tb.jumps := j :: s.tb.jumps, sch.lastSample := none }
  if s.bit Reg.pmcBwCtrl 31 then s.closeBw else s

/-- A jump refused, of the signed size given in 2^-48 ns. -/
def State.refuseJump (s : State) (size : Int) : State :=
  let ns := clampInt (size / (nsUnit : Int)) (-(2 ^ 31 - 1)) (2 ^ 31 - 1)
  let s := (s.bump (Reg.tbCnt 5)).wr Reg.tbJumpInfo (BitVec.ofNat 32 (unsigned ns 32))
  { s with tb.refused := true }.setEvent Reg.tbEvents 3 203

/-- THRESH in ns. -/
def State.jumpThresh (s : State) : Nat := max 1 (s.fld Reg.tbJump 29 0)

/-- The decision on a jump of a signed size in 2^-48 ns. -/
def State.jumpAllowed (s : State) (size : Int) (force : Bool) : Bool :=
  !s.timeValid || decide (size.natAbs ≤ s.jumpThresh * nsUnit) || decide (s.fld Reg.tbStatus 19 16 ≤ 2) || force

/-- A jump decided: the state, and whether it was applied. -/
def State.jump (s : State) (new : Nat) (size : Int) (force : Bool) : State × Bool :=
  if s.jumpAllowed size force then (s.applyJump new, true) else (s.refuseJump size, false)

/-- A step by a signed amount in 2^-48 ns. -/
def State.stepBy (s : State) (d : Int) (force : Bool) : State × Bool := s.jump (moveTime s.total d) d force

/-! ### Slews (R661) -/

/-- A slew of an amount in 2^-48 ns over `ms`, replacing any in progress; at most 10^-4 ns an edge. -/
def State.startSlew (s : State) (amount : Int) (ms : Nat) : State :=
  let limit := 2 ^ 48 / 10000
  let need := (amount.natAbs + limit - 1) / limit
  ({ s with tb.slew := some { amount := amount, edges := max (max 1 ms * 1000000) need, done := 0 } }).setBit Reg.tbStatus 27 true

/-- Any slew ended. -/
def State.endSlew (s : State) : State := { s with tb.slew := none }.setBit Reg.tbStatus 27 false

/-- A slew that has added its whole amount ends. -/
def execSlewEnd (s : State) : Out :=
  occurs s (s.coreUp && (match s.tb.slew with | some w => decide (w.edges ≤ w.done) | none => false)) s.endSlew

/-! ### TB.CMD (R660, R692) -/

/-- ADJ, signed, in 2^-48 ns. -/
def State.adj (s : State) : Int := signed (s.pair Reg.tbAdjLo Reg.tbAdjHi) 64 * 2 ^ 32

/-- A command finished with a code. -/
def State.tbDone (s : State) (code : Nat) : State := s.cmdDone Reg.tbCmdResult (code * 2 ^ 27)

/-- A write of TB.CMD. -/
def writeTbCmd (s : State) (v : Word) : State :=
  let force := Wbits v 2 2 == 1
  let op := Wbits v 1 0
  if op = 0 ∨ (force ∧ Wbits v 31 16 ≠ 0xA5C3) then s
  else
    let s := s.cmdAccept Reg.tbCmdResult
    if op = 1 then
      let sec := (s.rd Reg.tbSetSecLo).toNat + s.fld Reg.tbSetSecHi 15 0 * 2 ^ 32
      let ns := s.fld Reg.tbSetNs 29 0
      if 1000000000 ≤ ns then s.tbDone 2
      else
        let new := (sec * 1000000000 + ns) * nsUnit + s.fld Reg.tbSetFrac 15 0 * 2 ^ 32
        let r := s.jump new ((new : Int) - s.total) force
        r.1.tbDone (if r.2 then 0 else 1)
    else if op = 2 then
      let r := s.stepBy s.adj force
      r.1.tbDone (if r.2 then 0 else 1)
    else (s.startSlew s.adj (s.fld Reg.tbSlewMs 15 0)).tbDone 0

/-- TB.CMD SET, under the jump decision. -/
def execTbSet (acc : Nat) (v : Word) (s : State) : Out :=
  writeRow (acc < 7) acc Reg.tbCmd (Wbits v 1 0 == 1) (fun t => writeTbCmd t v) s

/-- TB.CMD STEP, under the jump decision. -/
def execTbStep (acc : Nat) (v : Word) (s : State) : Out :=
  writeRow (acc < 7) acc Reg.tbCmd (Wbits v 1 0 == 2) (fun t => writeTbCmd t v) s

/-- TB.CMD SLEW. -/
def execTbSlew (acc : Nat) (v : Word) (s : State) : Out :=
  writeRow (acc < 7) acc Reg.tbCmd (Wbits v 1 0 == 3) (fun t => writeTbCmd t v) s

/-! ### The hardware servo (R666, R668) -/

/-- A fraction rounded to the nearest integer, halves to even, as the servo's code rounds. -/
def roundHalfEven (n : Int) (d : Nat) : Int :=
  let q := n / d
  let r := n % d * 2
  if r < d then q else if (d : Int) < r then q + 1 else if q % 2 = 0 then q else q + 1

/-- The correction of an error `e` in 2^-16 ns: a step asked for, or FREQ changed and a slew begun; and whether it was
not refused. -/
def State.servoApply (s : State) (e : Int) : State × Bool :=
  if s.jumpThresh * 65536 < e.natAbs then s.stepBy (-e * 4294967296) false
  else
    let k := s.fld Reg.tbServo 31 28
    let f := clampInt (s.freq - roundHalfEven (e * 17592186) (65536000 * 2 ^ k)) (-2147483648) 2147483647
    ((s.wr Reg.tbFreq (BitVec.ofNat 32 (unsigned f 32))).startSlew (-e * 4294967296) 1000, true)

/-- STATE after a measurement of error `e` in 2^-16 ns whose correction was, or was not, refused (R668, R671). -/
def State.servoState (s : State) (e : Int) (ok : Bool) : State :=
  let lock := max 1 (s.fld Reg.tbServo 15 0) * 65536
  let good := if e.natAbs ≤ lock then s.tb.good + 1 else 0
  if !ok && s.tbState == 3 then { s with tb.good := 0 }
  else if 4 * lock < e.natAbs then State.setTbState { s with tb.good := 0 } 1
  else if 8 ≤ good then State.setTbState { s with tb.good := good } 2
  else State.setTbState { s with tb.good := good } (if s.tbState = 3 then 1 else s.tbState)

/-- One measurement of error `e` in 2^-16 ns. -/
def State.servo (s : State) (e : Int) : State :=
  let r := (s.setFld Reg.tbStatus 15 0 (s.fld Reg.tbStatus 15 0 + 1)).servoApply e
  (r.1.setEvent Reg.tbEvents 1 201).servoState e r.2

/-! ### Loss of the reference, holdover (R669) -/

/-- Entry to holdover at a loss: FREQ stays, any slew is abandoned. -/
def State.enterHoldover (s : State) : State :=
  let s := { (s.endSlew.setTbState 3) with tb.lossDue := false, tb.good := 0 }
  (s.setEvent Reg.tbEvents 2 202).setEvent Reg.tbEvents 7 207

/-- The time base finds its reference lost. -/
def execReferenceLoss (s : State) : Out := occurs s (s.coreUp && s.tb.lossDue) s.enterHoldover

/-! ### The timing PLL (R664, R665) -/

/-- The timing PLL enters holdover. -/
def State.pllHold (s : State) : State :=
  if s.bit Reg.tbStatus 26 then s
  else (((s.setBit Reg.tbStatus 26 true).setEvent Reg.tbEvents 7 207).setBit Reg.clkPllStatus 5 false).setBit Reg.clkPllEvents 5 true

/-- Whether the frequency source now selected is there to lock to: the master itself has no lateral link toward the
master (R664). -/
def State.freqSourceOk (s : State) : Bool :=
  let (f, p) := freqSourceOf (s.rd Reg.tbCtrl)
  if f = 0 then true
  else if f = 1 then s.fld Reg.tbStatus 21 20 == 0
  else if f = 2 then p < 132 && s.portExists p && (s.ports.get p).state == 5
  else s.stk.master != s.fld Reg.stkCtrl 29 27 && s.reachable s.stk.master

/-- The timing PLL's frequency source is lost, squelched or changed. -/
def execPllHoldover (s : State) : Out := occurs s s.coreUp s.pllHold

/-- The timing PLL relocks to a valid source. -/
def execPllRelock (s : State) : Out :=
  occurs s (s.coreUp && s.freqSourceOk) ((s.setBit Reg.tbStatus 26 false).setBit Reg.clkPllStatus 5 true)

/-! ### Timing inputs and outputs (R37–R39, R673, R675) -/

/-- Whether a signal is a valid one on its input (R37). -/
def signalValid (x : InputSignal) (i : TimingInput) : Bool :=
  match i with
  | .pps => x.sinceEdgeMs.any fun t => t ≤ 1100
  | .tenMHz => 300 ≤ x.amplitude && x.ppm.natAbs ≤ 100 && 10 ≤ x.heldUs

/-- State code of a timing input (R37, R38): short before all else. -/
def inputCode (i : TimingInput) (mv : Nat) (signal : InputSignal) : Nat :=
  let vOpen := match i with | .pps => 120 | .tenMHz => 400
  if mv < 40 then 3 else if signalValid signal i then 0 else if mv ≤ vOpen then 1 else 2

/-- Once per second the DC sense level of a timing input is measured; a used input that leaves present raises its
event (R39) and may lose the reference (R669). -/
def execInputStateMeasure (input : TimingInput) (millivolts : Nat) (signal : InputSignal) (s : State) : Out :=
  occurs s s.coreUp (
    let code := inputCode input millivolts signal
    match input with
    | .pps =>
      let old := s.fld Reg.tbStatus 23 22
      let s := s.setFld Reg.tbStatus 23 22 code
      if old = 0 ∧ code ≠ 0 ∧ (s.source = 2 ∨ s.source = 3) then
        { s with tb.lossDue := true }.setEvent Reg.tbEvents 5 205
      else s
    | .tenMHz =>
      let old := s.fld Reg.tbStatus 21 20
      let s := s.setFld Reg.tbStatus 21 20 code
      if old = 0 ∧ code ≠ 0 ∧ (freqSourceOf (s.rd Reg.tbCtrl)).1 = 1 then
        let s := if s.source = 2 then { s with tb.lossDue := true } else s
        s.setEvent Reg.tbEvents 6 206
      else s)

/-- The time at the connector of a 1PPS IN edge that the capture unit took `ago` × 2^-16 ns ago, in 2^-16 ns: the factory
input delay and the trim are taken off (R673). -/
def State.ppsEdge (s : State) (ago : Nat) : Nat :=
  let span : Int := 2 ^ 48 * 1000000000 * 65536
  ((((s.sampled ago / 2 ^ 32 : Nat) : Int) - Config.ppsInDelay - signed (s.rd Reg.tbPpsInTrim).toNat 32) % span).toNat

/-- A valid edge on 1PPS IN is captured: the capture registers change together, and with SOURCE 2 or 3 the servo
measures (R666, R673). -/
def execPpsCapture (ago : Nat) (s : State) : Out :=
  whenWf true
    (occurs s (s.coreUp && s.fld Reg.tbStatus 23 22 == 0) (
      let u := s.ppsEdge ago
      let second := 1000000000 * 65536
      let r := u % second
      let e : Int := if 2 * r < second then r else (r : Int) - second
      let s := s.wr Reg.tbPpsSec (BitVec.ofNat 32 (u / second))
      let s := s.wr Reg.tbPpsNs (BitVec.ofNat 32 (r / 65536))
      let s := s.wr Reg.tbPpsFrac (BitVec.ofNat 32 (r % 65536))
      let s := s.wr Reg.tbPpsErr (BitVec.ofNat 32 (unsigned (clampInt e (-(2 ^ 31 - 1)) (2 ^ 31 - 1)) 32))
      let s := s.setEvent Reg.tbEvents 0 200
      if s.source = 2 ∨ s.source = 3 then s.servo e else s))

/-- Whether an output of a mode is on: 1 always, 2 in state 2 only, 0 and 3 never (R675, R693). -/
def State.outputOn (s : State) (mode : Nat) : Bool := mode == 1 || (mode == 2 && s.tbState == 2)

/-- Whether the 1PPS output is on, and the 10 MHz output: a squelched output drives no signal (R675). -/
def State.ppsOn (s : State) : Bool := s.outputOn (s.fld Reg.tbPpsCtrl 1 0)
def State.tenOn (s : State) : Bool := s.outputOn (s.fld Reg.tbPpsCtrl 3 2)

/-- Whether the next edge takes T to a whole second plus the trim whose 1PPS OUT edge has not been sent: an edge that a
trim written moves to before the time of the write is never reached (R675, R693). -/
def State.ppsReached (s : State) : Bool :=
  s.ppsOn && s.ppsSecondAt s.nextTotal != s.ppsSecondAt s.total && s.tb.ppsOut < s.ppsSecondAt s.nextTotal

/-- Every 1 ms T is copied into the always-on timekeeper (R659). -/
def execAonTimeSave (s : State) : Out :=
  occurs s (s.coreUp && s.tb.saved + msUnit ≤ s.tb.run) { s with aon.timekeeper := s.total, tb.saved := s.tb.run }

/-! ### Register writes (R689, R690) -/

/-- A write of TB.CTRL: a changed SOURCE enters state 1 (0 without a reference) at once, and a changed frequency
source puts the timing PLL into holdover. -/
def writeTbCtrl (s : State) (v : Word) : State :=
  let old := s.rd Reg.tbCtrl
  let t := s.storeRw Reg.tbCtrl v
  let new := t.rd Reg.tbCtrl
  let t := if Wbits old 31 29 = Wbits new 31 29 then t
    else { t with tb.good := 0, tb.lossDue := false }.setTbState (if sourceOf new = 0 then 0 else 1)
  if freqSourceOf old = freqSourceOf new then t else t.pllHold

/-- A TB.CTRL write. -/
def execTbCtrlWrite (acc : Nat) (v : Word) (s : State) : Out :=
  writeRow (acc < 7) acc Reg.tbCtrl true (fun t => writeTbCtrl t v) s

/-- A write of TB.SERVO: with SOURCE 1, PTP_STATE applies R668 and R669 at once. -/
def writeTbServo (s : State) (v : Word) : State :=
  let t := s.storeRw Reg.tbServo v
  if t.source ≠ 1 then t
  else match t.fld Reg.tbServo 27 26 with
    | 0 => t.setTbState 1
    | 1 => t.setTbState 2
    | _ => if t.tbState = 3 then t else t.enterHoldover

/-- A TB.SERVO write. -/
def execTbServoWrite (acc : Nat) (v : Word) (s : State) : Out :=
  writeRow (acc < 7) acc Reg.tbServo true (fun t => writeTbServo t v) s

/-! ### Reads (R658, R684) -/

/-- Compatibility time C. -/
def State.compat (s : State) : Nat :=
  let frc : Int := (s.tb.frc / 2 ^ 32 : Nat)
  unsigned ((s.pair Reg.tbCompatOfsLo Reg.tbCompatOfsHi : Int) + frc + frc * signed (s.rd Reg.tbCompatRate).toNat 32 / 2 ^ 40) 64

/-- What the TB registers computed from its state read. -/
def tbLive (s : State) (a : Nat) : Option Nat :=
  if a = Reg.tbSecLo then some (s.tb.sec % 2 ^ 32)
  else if a = Reg.tbSecHi then some (s.tb.sec / 2 ^ 32)
  else if a = Reg.tbNs then some s.tb.ns
  else if a = Reg.tbFrac then some (s.tb.frac / 2 ^ 32)
  else if a = Reg.tbFrcLo then some (s.tb.frc / 2 ^ 32 % 2 ^ 32)
  else if a = Reg.tbFrcHi then some (s.tb.frc / 2 ^ 64)
  else if a = Reg.tbCompatLo then some (s.compat % 2 ^ 32)
  else if a = Reg.tbCompatHi then some (s.compat / 2 ^ 32)
  else none

/-- Registers that a read of SEC_LO, or of PPS_SEC, latches for the accessor (R658, R673). -/
def latchedBy (a : Nat) : List Nat :=
  if a = Reg.tbSecLo then [Reg.tbSecHi, Reg.tbNs, Reg.tbFrac]
  else if a = Reg.tbPpsSec then [Reg.tbPpsNs, Reg.tbPpsFrac, Reg.tbPpsErr]
  else []

/-- The shadows of an accessor latched from registers. -/
def State.latch (s : State) (acc : Nat) (regs : List Nat) : State :=
  regs.foldl (fun t a =>
    { t with shadows := t.shadows.set (acc * 0x1000000 + a) (some ((tbLive s a).elim (s.rd a) fun n => BitVec.ofNat 32 n)) }) s

/-- A read of TB.SEC_LO, or of TB.PPS_SEC: the related registers are latched for the accessor. -/
def execTbSnapshotRead (acc : Nat) (pps : Bool) (s : State) : Out :=
  let a := if pps then Reg.tbPpsSec else Reg.tbSecLo
  whenWf (acc < 7)
    (.next (if s.busHeld acc then s else match s.reach acc a with
      | .ok => { s.latch acc (latchedBy a) with
                  rdData := s.rdData.set acc (if pps then s.rd a else BitVec.ofNat 32 (s.tb.sec % 2 ^ 32)) }
      | .silent => { s with rdData := s.rdData.set acc 0 }
      | .error k => { s with rdData := s.rdData.set acc 0 }.accErr acc a k false))

end Sys2Proof.Machine
end

