-- ==== Sys2Proof/Machine/Headgate.lean ====
section
/-! DEFINITION. Headgate: admission, header queues, slices, microwords, parse results and malformed packets
(R212, R241–R286), with the back-pressure that stops it (R338) and the PFC states its queues drive (R642). -/
namespace Sys2Proof.Machine

/-! ### Back-pressure (R338) -/

/-- Contexts of a cluster in the states ready, slotted, running and exception. -/
def State.clHeld (s : State) (n : Nat) : Nat :=
  (s.dsp.ctxs.entries.filter fun e => e.2.cluster == n &&
    (e.2.st == .ready || e.2.st == .slotted || e.2.st == .running || e.2.st == .exception)).length

/-- Free contexts. -/
def State.freeCtxs (s : State) : Nat := 8192 - (s.dsp.ctxs.entries.filter fun e => e.2.st != .free).length

/-- Enabled clusters: a CL_ENABLE of 0 acts as 1 (R367). -/
def State.clEnabled (s : State) (n : Nat) : Bool :=
  let m := s.fld Reg.dspCtrl 31 16
  bitAt (if m = 0 then 1 else m) n

/-- CL_LIMIT in force (R368). -/
def State.clLimit (s : State) : Nat :=
  let v := s.fld Reg.dspLimits 29 16
  if v = 0 then 1 else min v 8192

/-- Whether every enabled cluster holds CL_LIMIT contexts. -/
def State.allFull (s : State) : Bool :=
  (List.range 16).all fun n => !s.clEnabled n || s.clLimit ≤ s.clHeld n

/-- Back-pressure toward the lookup lanes. -/
def State.backPressure (s : State) : Bool := s.freeCtxs ≤ s.fld Reg.dspLimits 12 0 || s.allFull

/-! ### Header queues (R269, R285) and PFC generation (R642) -/

/-- Packets whose headers a group holds: in its queue, or taken by a slice that has not started. -/
def State.headers (s : State) (g : Nat) : List Nat :=
  s.hdg.queue.get g ++ ((s.hdg.inflight.get g).filter fun i => (s.hdg.slices.get i).st == .taken).map fun i =>
    (s.hdg.slices.get i).res.pkt

/-- Header-queue entries of a port. -/
def State.portHeaders (s : State) (p : Nat) : Nat :=
  ((s.headers (groupOf p)).filter fun i => (s.pkt i).port == p).length

/-- Entries of a group's header queue. -/
def queueSize (g : Nat) : Nat := if g = 20 then 64 else 128

/-- PORT_LIMIT in force (R285). -/
def State.portLimit (s : State) (g : Nat) : Nat :=
  let v := s.fld (Reg.hdgPortLimit g) 7 0
  if v = 0 then 1 else min v (queueSize g)

/-- XOFF and XON thresholds in force (R642). -/
def State.pfcThresholds (s : State) (p : Nat) : Nat × Nat :=
  let xoff := max 1 (s.fld (Reg.schPfcCfg p) 15 8)
  let xon := s.fld (Reg.schPfcCfg p) 7 0
  (xoff, if xoff ≤ xon then xoff - 1 else xon)

/-- One more PFC frame owed by a port; one that is not up sends none (R643, R644). -/
def State.owePfc (s : State) (p : Nat) (xoff : Bool) : State :=
  if (s.ports.get p).state = 5 then s.setTx p { s.tx p with pfcDue := (s.tx p).pfcDue ++ [xoff] } else s

/-- The comparison of a port's header-queue entries with its thresholds. -/
def State.pfcCompare (s : State) (p : Nat) : State :=
  if 132 ≤ p ∨ !s.bit (Reg.schPfcCfg p) 31 then s else
  let n := s.portHeaders p
  let (xoff, xon) := s.pfcThresholds p
  if !s.bit (Reg.schPfcStat p) 31 ∧ xoff ≤ n then
    ((s.setBit (Reg.schPfcStat p) 31 true).setEvent Reg.schEvents 1 261).owePfc p true
  else if s.bit (Reg.schPfcStat p) 31 ∧ n ≤ xon then (s.setBit (Reg.schPfcStat p) 31 false).owePfc p false
  else s

/-- Entries of a group's header queue spoken for: those held and, for a frame of P132, the one kept for the Culvert copy
that is being sent, which is not dropped at admission (R632). -/
def State.headersTaken (s : State) (p : Nat) : Nat :=
  (s.headers (groupOf p)).length + b2n (p == 132 && (s.tx 133).sending.isSome)

/-- Whether Headgate would admit a frame of a port (R269). -/
def State.mayAdmit (s : State) (p : Nat) : Bool :=
  let g := groupOf p
  s.bit Reg.hdgStatus 31 && s.headersTaken p < queueSize g && s.portHeaders p < s.portLimit g

/-- A frame refused at admission (R269). -/
def State.admitDrop (s : State) (p : Nat) : State :=
  let g := groupOf p
  ((s.bump (Reg.hdgAdmitDrop g (subOf p))).count 34 [g]).spill 0

/-- A frame admitted as a new packet with its first cell (R569): the state and the packet's number. -/
def State.admitPkt (s : State) (p : Pkt) : State × Nat :=
  let i := s.qm.nextPkt
  let g := groupOf p.port
  let p := { p with live := true, group := g, owner := g, voq := if s.qm.shared then none else some g }
  let s := ({ s with qm.nextPkt := i + 1 }.setPkt i p).takePktCell i
  let s := { s.1 with hdg.queue := s.1.hdg.queue.mod g fun l => l ++ [i] }
  (s.pfcCompare p.port, i)

/-- The cells of a frame that has arrived whole (R569, R571). -/
def takeRest : Nat → State → Nat → State
  | 0, s, _ => s
  | n + 1, s, i =>
    let p := s.pkt i
    if p.incomplete ∨ cellsOf p.bytes.length ≤ p.cells.length then s else takeRest n (s.takePktCell i).1 i

/-- A whole frame entering group 20 on P132 or P133 (R579, R811). -/
def State.admitWhole (s : State) (p : Pkt) : State × Nat :=
  let (s, i) := s.admitPkt p
  (takeRest (cellsOf p.bytes.length) s i, i)

/-! ### Timestamps of received frames (R225) -/

/-- A TS80 as a count of 2^-16 ns, and back. -/
def tsUnits (t : Nat) : Int := (((tsSec t * 1000000000 + tsNs t) * 65536 + tsFrac t : Nat) : Int)
def unitsTs (i : Int) : Nat :=
  let n := (i % (2 ^ 32 * 1000000000 * 65536 : Nat)).toNat
  ts80Of (n / 65536 / 1000000000) (n / 65536 % 1000000000) (n % 65536)

/-- The TS80 of a frame whose start block lane `lane` of port `p` carried and for which T was sampled `ago` × 2^-16 ns ago:
the sample corrected by RX_DELAY + skew + RX_TRIM (R225, R672). -/
def State.rxStamp (s : State) (p ago lane : Nat) : Nat :=
  let g := groupOf p
  let u := subOf p
  unitsTs ((s.sampled ago / 2 ^ 32 : Nat) - (s.rd (Reg.rxDelay g u)).toNat - ((s.ports.get p).skews.getD lane 0 : Nat) -
    signed (s.rd (Reg.rxTrim g u)).toNat 32)

/-- STEPS when T was sampled: the jumps applied since are not in it. -/
def State.sampledSteps (s : State) (ago : Nat) : Nat := s.ctr (Reg.tbCnt 4) - (s.jumpsSince ago).length

/-! ### Commands of arriving frames -/

/-- EtherType of a frame, its bytes 12–13. -/
def etherType (bs : List Byte) : Nat := beNat (slice bs 12 2)

/-- Whether a port's receiver delivers frames (R873). -/
def State.receives (s : State) (p : Nat) : Bool :=
  s.coreUp && s.portExists p && ((s.ports.get p).state == 5 || (s.ports.get p).state == 6)

/-- Whether a lateral link is in service; a front port always carries traffic (R697). -/
def State.carries (s : State) (p : Nat) : Bool := p < 128 || (s.stk.links.get (p - 128)).state == 3

/-- Whether a frame is one that reception takes in: its start block arrived after the port's entry to state 5 (R873). -/
def State.begunUp (s : State) (p : Nat) (f : RxFrame) : Bool :=
  s.receives p && (s.ports.get p).upRun + f.ago * 2 ^ 32 ≤ s.tb.run

/-- 64 B of a frame have arrived: Headgate admits it or drops it (R212, R214, R269, R697, R700). -/
def execFrameAdmit (port : Nat) (f : RxFrame) (s : State) : Out :=
  whenWf (port < 132 && f.lane < 8)
    (occurs s (s.begunUp port f && 64 ≤ f.bytes.length && etherType f.bytes != 0x8808 &&
        !(128 ≤ port && etherType f.bytes == 0x88B5))
      (if s.carries port && s.mayAdmit port then
        let r := s.admitPkt { port := port, origin := port, bytes := f.bytes, ts80 := s.rxStamp port f.ago f.lane
                              steps := s.sampledSteps f.ago }
        { r.1 with ports := r.1.ports.mod port fun q =>
                     { q with receiving := q.receiving ++ [r.2], arriving := q.arriving.set r.2 f } }
      else s.admitDrop port))

/-- An error met in a further part of an arriving frame (R210). -/
def State.noteErr (s : State) (port pkt : Nat) (err : Option RxError) : State :=
  { s with ports := s.ports.mod port fun q =>
             { q with arriving := q.arriving.mod pkt fun f => { f with err := lowerErr f.err err } } }

/-- A further cell of an arriving frame (R569, R571, R590). -/
def execIngressCellTake (pkt : Nat) (err : Option RxError) (s : State) : Out :=
  let p := s.pkt pkt
  occurs s (p.live && !p.incomplete && p.cells.length < cellsOf p.bytes.length &&
      (s.ports.get p.port).receiving.contains pkt)
    (let r := (s.noteErr p.port pkt err).takePktCell pkt
     if r.2 then r.1 else r.1.incompleteAfter pkt)

/-! ### Offers (R242, R243, R271) -/

/-- Free slices of a group. -/
def State.freeSlices (s : State) (g : Nat) : List Nat :=
  ((List.range 8).map fun i => 8 * g + i).filter fun i => (s.hdg.slices.get i).st == .idle

/-- The slice an offer of group `g` takes: one of its own, else one of the group with the most free slices. -/
def State.offerTo (s : State) (g : Nat) : Option Nat :=
  match if g < 20 then s.freeSlices g else [] with
  | i :: _ => some i
  | [] =>
    match minBy (fun h => 8 - (s.freeSlices h).length) (List.range 20) with
    | none => none
    | some h => (s.freeSlices h).head?

/-- The state with a slice replaced. -/
def State.setSlice (s : State) (i : Nat) (x : Slice) : State := { s with hdg.slices := s.hdg.slices.set i x }

/-- Whether a packet's bad verdict has arrived. -/
def State.badTail (s : State) (pkt : Nat) : Bool := (s.pkt pkt).verdict.any fun v => v != 0

/-- A header discarded for its bad verdict: its entry leaves and the packet is counted (R271). -/
def State.headerDiscard (s : State) (pkt : Nat) : State :=
  let port := (s.pkt pkt).port
  ((s.spill 17).freePkt pkt).pfcCompare port

/-- Whether a group may take its one offer of the PARSE cycle in progress (R242, R243). The 32 are counted from the slice's
taking of the header (DESIGN CHOICE: the spec counts parses started, and does not say whether a header taken by a slice
whose parse waits for its bytes or under HOLD is one). -/
def State.mayOffer (s : State) (g : Nat) : Bool :=
  s.coreUp && (s.hdg.queue.get g).head?.any (fun i => !s.badTail i) && !s.hdg.offered.contains g && decide ((s.hdg.inflight.get g).length < 32)

/-- Whether a group would offer its head header to a slice of its own, or to one of another group (R242). -/
def State.offersOwn (s : State) (g : Nat) : Bool := s.mayOffer g && g < 20 && s.freeSlices g != []
def State.offersOther (s : State) (g : Nat) : Bool := s.mayOffer g && !(g < 20 && s.freeSlices g != [])

/-- Place of a group in the rotating order of the offers to other groups' slices: the group after the one served first
in the previous cycle that had such an offer comes first (R242). -/
def State.offerRank (s : State) (g : Nat) : Nat := (g + 20 - s.hdg.servedFirst) % 21

/-- Whether it is a group's turn: offers to a group's own slices are served first, those to other groups' slices after
them in rotating order (R242). -/
def State.offerTurn (s : State) (g : Nat) : Bool :=
  s.offersOwn g || (List.range 21).all fun h =>
    !s.offersOwn h && (h == g || !s.offersOther h || s.offerRank g < s.offerRank h)

/-- The PARSE cycle of the offers goes on, or a new one begins. -/
def State.offerCycle (s : State) (fresh : Bool) : State :=
  if fresh then { s with hdg.offered := [], hdg.servedFirst := s.hdg.servedOther.getD s.hdg.servedFirst, hdg.servedOther := none }
  else s

/-- A group's head header handed to slice `k`. -/
def State.handOver (s : State) (g k pkt : Nat) : State :=
  let p := s.pkt pkt
  let other := if s.offersOwn g then s.hdg.servedOther else some (s.hdg.servedOther.getD g)
  { s with hdg.queue := s.hdg.queue.mod g (fun l => l.drop 1), hdg.offered := g :: s.hdg.offered, hdg.servedOther := other
           hdg.inflight := s.hdg.inflight.mod g fun l => l ++ [k] }.setSlice k
    { st := .taken, res := { port := p.port, pass := p.pass, group := g, pkt := pkt } }

/-- A group offers its head header to a free slice, in the PARSE cycle of the offer before it or in a new one; a head
whose bad verdict has arrived is discarded instead, which takes the group's offer (R242, R271). -/
def execHeaderOffer (group : Nat) (newCycle : Bool) (s : State) : Out :=
  whenWf (group < 21)
    (let t := s.offerCycle newCycle
     match t.hdg.queue.get group with
     | [] => .next s
     | i :: r =>
       if !t.coreUp || t.hdg.offered.contains group then .next s
       else if t.badTail i then
         .next ({ t with hdg.queue := t.hdg.queue.set group r, hdg.offered := group :: t.hdg.offered }.headerDiscard i)
       else match t.offerTo group with
         | none => .next s
         | some k => occurs s (t.mayOffer group && t.offerTurn group) (t.handOver group k i))

/-- A slice leaves its group's list of parses. -/
def State.sliceDone (s : State) (k : Nat) : State :=
  let g := (s.hdg.slices.get k).res.group
  { s with hdg.inflight := s.hdg.inflight.mod g (fun l => l.filter fun i => i != k), hdg.slices := s.hdg.slices.set k {} }

/-- A slice starts a parse once the first 256 B or the whole shorter frame are there (R244, R261); an entry whose bad
verdict has arrived is discarded instead (R271). -/
def execParseStart (slice : Nat) (whole : Bool) (s : State) : Out :=
  whenWf (slice < 160)
    (let x := s.hdg.slices.get slice
     let p := s.pkt x.res.pkt
     let n := p.bytes.length
     if !s.coreUp || x.st != .taken || s.bit Reg.hdgCtrl 0 then .next s
     else if s.badTail x.res.pkt then .next ((s.sliceDone slice).headerDiscard x.res.pkt)
     else if n < 256 ∧ !whole then .next s
     else
       let x := { x with st := .running, avail := min 256 (n - 4), res := { x.res with lenValid := whole } }
       .next ((s.setSlice slice x).pfcCompare x.res.port))

/-! ### Microwords (R248–R260) -/

/-- A microword's fields. -/
def uwSeq (w : Nat) : Nat := bitsOf w 191 188
def uwNext (w : Nat) : Nat := bitsOf w 187 176
def uwSp (w : Nat) : Bool := bitAt w 175
def uwLdw (w : Nat) : Nat := bitsOf w 174 172
def uwLdisp (w : Nat) : Nat := bitsOf w 171 164
def uwShr (w : Nat) : Nat := bitsOf w 163 159
def uwMask (w : Nat) : Nat := bitsOf w 158 127
def uwBsel (w : Nat) : Nat := bitsOf w 126 124
def uwAlu (w : Nat) : Nat := bitsOf w 123 121
def uwDst (w : Nat) : Nat := bitsOf w 120 118
def uwImm (w : Nat) : Nat := bitsOf w 117 102
def uwAdv (w : Nat) : Nat := bitsOf w 101 99
def uwAdvk (w : Nat) : Nat := bitsOf w 98 91
def uwXen (w : Nat) : Bool := bitAt w 90
def uwXdisp (w : Nat) : Nat := bitsOf w 89 82
def uwXlen (w : Nat) : Nat := bitsOf w 81 77
def uwXdst (w : Nat) : Nat := bitsOf w 76 70
def uwOen (w : Nat) : Bool := bitAt w 69
def uwOslot (w : Nat) : Nat := bitsOf w 68 65
def uwFen (w : Nat) : Bool := bitAt w 64
def uwFidx (w : Nat) : Nat := bitsOf w 63 59
def uwLvl (w : Nat) : Nat := bitsOf w 58 57
def uwTag (w : Nat) : Nat := bitsOf w 56 55
def uwRsn (w : Nat) : Nat := bitsOf w 54 50
def uwPcls (w : Nat) : Nat := bitsOf w 49 42
def uwPcen (w : Nat) : Bool := bitAt w 41
def uwTcen (w : Nat) : Bool := bitAt w 40

/-- The lowest microcode-fault subcode that a word meets (R251–R254, R257). -/
def uwFault (w : Nat) (stack : List Nat) : Option Nat :=
  let reserved := 5 ≤ uwLdw w || 6 ≤ uwAlu w || 5 ≤ uwDst w || 5 ≤ uwAdv w || 2 ≤ uwLvl w || uwTag w == 3 ||
    (uwXen w && (uwXlen w == 0 || 17 ≤ uwXlen w))
  if uwSeq w = 0 then some 0
  else if 13 ≤ uwSeq w then some 1
  else if reserved then some 2
  else if w % 2 ^ 40 ≠ 0 then some 3
  else if uwSeq w = 8 ∧ 4 ≤ stack.length then some 4
  else if uwSeq w = 9 ∧ stack = [] then some 5
  else if uwXen w ∧ 80 < uwXdst w + uwXlen w then some 6
  else none

/-- A level's VLAN tag count within VLAN_CNT, and its limit (R258, R279). -/
def vlanCount (v level : Nat) : Nat := bitsOf v (3 * level + 2) (3 * level)
def State.vlanLimit (s : State) : Nat := min 4 (s.fld Reg.hdgTagLimit 2 0)
def State.mplsLimit (s : State) : Nat := s.fld Reg.hdgTagLimit 11 8

/-- Checks 3–6 of R256 on a word: the reason of the first that fails. -/
def State.uwCheck (s : State) (x : Slice) (w : Nat) : Option Nat :=
  let load := x.cur + uwLdisp w + uwLdw w
  let ext := x.cur + uwXdisp w + uwXlen w
  let past := fun lim => (uwLdw w != 0 && lim < load) || (uwXen w && lim < ext)
  if past 256 ∨ (uwOen w ∧ 256 ≤ x.cur) then some 25
  else if past x.avail then some 24
  else if uwLvl w = 1 ∧ x.res.level = 2 then some 26
  else if uwTag w = 1 ∧ s.vlanLimit < vlanCount x.res.vlanCnt x.res.level + 1 then some 27
  else if uwTag w = 2 ∧ s.mplsLimit < x.res.mplsCnt + 1 then some 27
  else none

/-- Operands and result of a word (R250, R252). -/
def uwA (x : Slice) (win : List Byte) (w : Nat) : Nat :=
  if uwLdw w = 0 then x.scratch.get 0
  else Nat.land (beNat (slice win (x.cur + uwLdisp w) (uwLdw w))) (uwMask w) / 2 ^ uwShr w
def uwB (x : Slice) (w : Nat) : Nat :=
  match uwBsel w with
  | 0 => uwImm w
  | 5 => x.res.port
  | 6 => x.res.level
  | 7 => x.res.pass
  | k => x.scratch.get (k - 1)
def uwRes (w a b : Nat) : Nat :=
  match uwAlu w with
  | 1 => (a + b) % 2 ^ 32
  | 2 => (a + 2 ^ 32 - b % 2 ^ 32) % 2 ^ 32
  | 3 => Nat.land a b
  | 4 => Nat.lor a b
  | 5 => Nat.xor a b
  | _ => a

/-- CUR after a word, saturating at 511. -/
def uwCur (x : Slice) (w res : Nat) : Nat :=
  min 511 (match uwAdv w with
    | 1 => x.cur + uwAdvk w
    | 2 => x.cur + res * 4 + uwAdvk w
    | 3 => x.cur + res * 8 + uwAdvk w
    | 4 => x.cur + res + uwAdvk w
    | _ => x.cur)

/-- What comes after a word: the next address and return stack, or the end of the parse with its malformed reason. -/
inductive UwNext where
  | go (addr : Nat) (stack : List Nat)
  | done
  | malformed (reason : Nat)
  deriving DecidableEq, Repr, Inhabited

/-- Sequencing (R251) and the end that FRAG calls for (R259). -/
def uwSequence (x : Slice) (w a b res : Nat) : UwNext :=
  let inc := (x.addr + 1) % 4096
  let br := fun c : Bool => UwNext.go (if c then uwNext w else inc) x.stack
  let frag := uwFen w && uwFidx w == 1
  if uwSeq w = 12 then .malformed (uwRsn w)
  else if frag then .done
  else match uwSeq w with
    | 1 => .go inc x.stack
    | 2 => .go (uwNext w) x.stack
    | 3 => br (res == 0)
    | 4 => br (res != 0)
    | 5 => br (a < b)
    | 6 => br (b ≤ a)
    | 7 => .go ((uwNext w + res % 16) % 4096) x.stack
    | 8 => .go (uwNext w) (inc :: x.stack)
    | 9 => .go (x.stack.headD 0) (x.stack.drop 1)
    | 11 => if res = 0 then .done else .go (uwNext w) x.stack
    | _ => .done

/-- The result fields a word changes (R250 step 5, R253, R255, R258, R259). -/
def uwResult (x : Slice) (win : List Byte) (w res : Nat) : ParseResult :=
  let r := x.res
  let r := if uwXen w then { r with xbuf := putBytes r.xbuf (uwXdst w) (slice win (x.cur + uwXdisp w) (uwXlen w)) } else r
  let r := if uwOen w then { r with ofs := r.ofs.set (uwOslot w) x.cur, ovalid := Nat.lor r.ovalid (2 ^ uwOslot w) } else r
  let f := uwFidx w
  let r := if uwFen w && f != 0 && !(5 ≤ f && f ≤ 15) then { r with flags := Nat.lor r.flags (2 ^ f) } else r
  let l := x.res.level
  let r := if uwTag w = 1 then { r with vlanCnt := putBits r.vlanCnt (3 * l + 2) (3 * l) (vlanCount r.vlanCnt l + 1) } else r
  let r := if uwTag w = 2 then { r with mplsCnt := r.mplsCnt + 1 } else r
  let r := if uwLvl w = 1 then { r with level := l + 1 } else r
  let r := if uwPcen w then { r with pcls := uwPcls w } else r
  if uwTcen w then { r with tc := res % 8 } else r

/-- The end of a parse: flags that need an offset are cleared without it, the malformed outcome is set (R259, R265), and
ACTION of its group is read (R267). -/
def endParse (action : Nat) (x : Slice) (reason : Option Nat) : Slice :=
  let r := x.res
  let clear := fun (n bit : Nat) => if bitAt n bit then n - 2 ^ bit else n
  let fl := if bitAt r.ovalid 13 then r.flags else clear r.flags 2
  let fl := if bitAt r.ovalid 12 then fl else clear (clear fl 3) 4
  { x with st := .waiting, action := action
           res := { r with flags := if reason.isSome then Nat.lor fl 1 else fl, reason := reason.getD 0, parseEnd := x.cur } }

/-- A microcode fault recorded for the group that owns the slice (R257, R278). -/
def State.uwFaulted (s : State) (slice sub addr : Nat) : State :=
  let g := slice / 8
  (s.record Reg.hdgFaultInfo (g * 2 ^ 25 + slice % 8 * 2 ^ 22 + sub * 2 ^ 18 + addr)).setEvent (Reg.hdgEvents g) 1 (104 + g)

/-- One microword executed by a slice. -/
def State.runWord (s : State) (slice : Nat) (x : Slice) : State :=
  let p := s.pkt x.res.pkt
  let endParse := endParse (s.fld (Reg.hdgMalCtrl x.res.group) 1 0)
  let mx := s.fld Reg.hdgCtrl 15 8
  if (if mx = 0 then 255 else mx) ≤ x.res.words then (s.uwFaulted slice 7 x.addr).setSlice slice (endParse x (some 28))
  else
    let w := s.hdg.ucode.get (slice / 8 * 4096 + x.addr)
    let n := x.res.words + 1
    match uwFault w x.stack with
    | some sub =>
      (s.uwFaulted slice sub x.addr).setSlice slice (endParse { x with res := { x.res with words := n } } (some 29))
    | none =>
      match s.uwCheck x w with
      | some r => s.setSlice slice (endParse { x with res := { x.res with words := n } } (some r))
      | none =>
        let a := uwA x p.bytes w
        let b := uwB x w
        let res := uwRes w a b
        let y := { x with cur := uwCur x w res, first := false, res := { uwResult x p.bytes w res with words := n }
                          scratch := if uwDst w = 0 then x.scratch else x.scratch.set (uwDst w - 1) res }
        match uwSequence x w a b res with
        | .go addr st => s.setSlice slice { y with addr := addr, stack := st }
        | .done => s.setSlice slice (endParse y none)
        | .malformed r => s.setSlice slice (endParse y (some r))

/-- A control-store word that is uncorrectable, or a pipeline register with a parity error, stops the module (R776). -/
def State.sliceError (s : State) (slice : Nat) (err : Option StoreError) : State :=
  match err with
  | some e => s.storeFault e.store 0 (if e.store = 0xC then slice / 8 else slice) e.word e.syndrome
  | none => s

/-- A slice executes one microword, or stops before its next safe point while HOLD is set; stopped, it stays so until HOLD
returns to 0 (R250, R261, R282). A parse that HOLD stops before its first word reads its entry address again when it
resumes (DESIGN CHOICE: the spec does not say whether that address was fetched before the stop). -/
def execMicrowordExecute (slice : Nat) (err : Option StoreError) (s : State) : Out :=
  whenWf (slice < 160 && err.all (fun e => e.store == 0xC || e.store == 0xD))
    (let x := s.hdg.slices.get slice
     if !s.coreUp || (x.st != .running && x.st != .stopped) then .next s
     else if err.isSome then .next (s.sliceError slice err)
     else
       let x := if x.first then { x with addr := s.fld (Reg.hdgEntry x.res.port) 11 0 } else x
       let safe := x.first || uwSp (s.hdg.ucode.get (slice / 8 * 4096 + x.addr))
       if s.bit Reg.hdgCtrl 0 && (safe || x.st == .stopped) then .next (s.setSlice slice { s.hdg.slices.get slice with st := .stopped })
       else .next (s.runWord slice { x with st := .running }))

/-! ### Parse results (R246, R264–R268, R272) -/

/-- A malformed parse counted in its group, with the alarm of R268. -/
def State.malformed (s : State) (g reason : Nat) : State :=
  let s := s.bump (Reg.hdgMalCnt g reason)
  let lim := s.fld (Reg.hdgMalCtrl g) 31 16
  let t := { s with hdg.malWindow := windowAdd s.hdg.malWindow g 1 lim }
  if alarmDue s.hdg.malWindow g 1 lim then
    if g < 20 then t.setEvent (Reg.hdgEvents g) 0 (104 + g) else t.setBit (Reg.hdgEvents g) 0 true
  else t

/-- The counters of a completed parse (R286). -/
def State.parsed (s : State) (slice : Nat) (r : ParseResult) : State :=
  let g := r.group
  let s := ((s.bump (Reg.hdgParsed g)).bump (Reg.hdgWords g) r.words).count 32 [g]
  let s := s.count 33 [g] r.words
  if slice / 8 = g then s else s.bump (Reg.hdgBorrowed g)

/-- Results delivered by Headgate whose contexts are not built: the lookup pipeline holds at most 300 (R339). -/
def State.inPipeline (s : State) : Nat := (s.hdg.out.entries.map fun e => e.2.length).sum + s.tables.out.length

/-- A parse result is delivered, in the order its group admitted the frames, with the malformed action read at its end. -/
def execParseEnd (slice : Nat) (s : State) : Out :=
  whenWf (slice < 160)
    (let x := s.hdg.slices.get slice
     let r := x.res
     let g := r.group
     let bad := bitAt r.flags 0
     let action := x.action
     let through := !bad || action == 1
     if !s.coreUp || x.st != .waiting || (s.hdg.inflight.get g).head? != some slice || (through && (s.backPressure || 300 ≤ s.inPipeline)) then .next s
     else
       let s := (s.sliceDone slice).parsed slice r
       let s := if bad then s.malformed g r.reason else s
       if through then .next { s with hdg.out := s.hdg.out.mod g fun l => l ++ [r] }
       else if action = 2 then .next (s.toControl r r.tc)
       else .next ((s.spill 1).freePkt r.pkt))

/-! ### Headgate registers (R276–R281) -/

/-- HDG.UC_CMD (R262, R280). -/
def writeUcCmd (s : State) (v : Word) : State :=
  let a := s.fld Reg.hdgUcAddr 11 0
  let op := Wbits v 1 0
  let s :=
    if op = 1 then
      let w := leNat ((List.range 6).flatMap fun i => leBytes (s.rd (Reg.hdgUcData i)).toNat 4)
      { s with hdg.ucode := (List.range 20).foldl (fun m g => m.set (g * 4096 + a) w) s.hdg.ucode }
    else if op = 2 then
      let g := s.fld Reg.hdgUcAddr 20 16
      let w := if g < 20 then s.hdg.ucode.get (g * 4096 + a) else 0
      (List.range 6).foldl (fun t i => t.wr (Reg.hdgUcData i) (BitVec.ofNat 32 (w / 2 ^ (32 * i)))) s
    else s
  if Wbits v 4 4 = 1 ∧ (op = 1 ∨ op = 2) then s.setFld Reg.hdgUcAddr 11 0 (a + 1) else s

/-- UC_CMD OP 1: a microword committed to all 20 control stores. -/
def execUcWrite (acc : Nat) (v : Word) (s : State) : Out :=
  writeRow (acc < 7) acc Reg.hdgUcCmd (Wbits v 1 0 == 1) (fun t => writeUcCmd t v) s

/-- UC_CMD OP 2: a microword of group GSEL read into UC_DATA. -/
def execUcRead (acc : Nat) (v : Word) (s : State) : Out :=
  writeRow (acc < 7) acc Reg.hdgUcCmd (Wbits v 1 0 == 2) (fun t => writeUcCmd t v) s

/-- HDG.CTRL: HOLD and MAX_WORDS. -/
def writeHdgCtrl (s : State) (v : Word) : State := s.wr Reg.hdgCtrl (v &&& 0xFF01#32)

/-- A write of HDG.CTRL (R276). -/
def execHdgCtrlWrite (acc : Nat) (v : Word) (s : State) : Out :=
  writeRow (acc < 7) acc Reg.hdgCtrl true (fun t => writeHdgCtrl t v) s

/-- Code of a slice's state (R281): a slice that has only taken a header holds no parse. -/
def sliceCode : SliceState → Nat
  | .idle => 0 | .taken => 0 | .running => 1 | .stopped => 2 | .waiting => 3

/-- HDG.DIAG_DATA (R281). -/
def State.hdgDiag (s : State) : Nat :=
  let n := s.fld Reg.hdgDiagSel 7 0
  let item := s.fld Reg.hdgDiagSel 11 8
  let x := s.hdg.slices.get n
  if 160 ≤ n then 0
  else match item with
    | 0 => sliceCode x.st * 2 ^ 30 + x.cur * 2 ^ 20 + x.addr
    | 1 => x.scratch.get 0
    | 2 => x.scratch.get 1
    | 3 => x.scratch.get 2
    | 4 => x.scratch.get 3
    | 5 => x.res.words * 2 ^ 24 + x.res.level * 2 ^ 20 + x.res.vlanCnt * 2 ^ 11 + x.res.mplsCnt * 2 ^ 7 + x.stack.length
    | _ => 0

/-- What the HDG registers computed from its state read (R277, R281, R285). -/
def hdgLive (s : State) (a : Nat) : Option Nat :=
  if a = Reg.hdgStatus then
    let all := List.range 160
    let parked := s.bit Reg.hdgCtrl 0 && all.all fun i => [SliceState.idle, .taken, .stopped].contains (s.hdg.slices.get i).st
    let busy := (all.filter fun i => [SliceState.running, .stopped].contains (s.hdg.slices.get i).st).length
    some (s.fld Reg.hdgStatus 31 31 * 2 ^ 31 + b2n parked * 2 ^ 30 + busy)
  else if a = Reg.hdgDiagData then some s.hdgDiag
  else if 0x190000 ≤ a ∧ a < 0x190000 + 0x1000 * 21 ∧ a % 0x1000 = 8 then
    let g := (a - 0x190000) / 0x1000
    let started := ((s.hdg.inflight.get g).filter fun i => (s.hdg.slices.get i).st != .taken).length
    some (started * 2 ^ 16 + (s.headers g).length)
  else none

end Sys2Proof.Machine
end

