-- ==== Sys2Proof/Machine/Lookup.lean ====
section
/-! DEFINITION. The Weir table and the exact-match table: keys, verified searches, lookups, maintenance walks, the
command ports, learning and the learn queue (R287–R334). -/
namespace Sys2Proof.Machine

/-! ### Time of the tables (R310, R313) -/

/-- The LAST_HIT clock: the low 32 bits of the TAI time in ms. -/
def State.hitClock (s : State) : Nat := (s.tb.sec * 1000 + s.tb.ns / 1000000) % 2 ^ 32

/-- TAI time in µs. -/
def State.usClock (s : State) : Nat := s.tb.sec * 1000000 + s.tb.ns / 1000

/-! ### Entries -/

/-- Wide mode, key bytes and entries of the Weir table (R293, R296). -/
def State.wide (s : State) : Bool := s.bit Reg.weirCtrl 0
def State.weirKeyLen (s : State) : Nat := if s.wide then 80 else 40
def State.weirSize (s : State) : Nat := if s.wide then 16384 else 32768

/-- Indices of Weir entries that match a key, in rising order (R297). -/
def State.weirMatches (s : State) (key : Nat) : List Nat :=
  s.tables.weir.find fun e => e.valid && Nat.land (Nat.xor key e.val) e.mask == 0

/-- Indices of EMT entries that hold a key, in rising order (R309). -/
def State.emtMatches (s : State) (key : Nat) : List Nat := s.tables.emt.find fun e => e.valid && e.key == key

/-- Valid entries of the tables. -/
def State.weirValid (s : State) : Nat := (s.tables.weir.find fun e => e.valid).length
def State.emtValid (s : State) : Nat := (s.tables.emt.find fun e => e.valid).length

/-- Associated data delivered on a miss (R300). -/
def State.missAd (s : State) : Nat := leNat ((List.range 4).flatMap fun i => leBytes (s.rd (Reg.weirMissAd i)).toNat 4)

/-! ### Verified search (R303–R305) -/

/-- Outcome of a verified search: the hit, the candidates that failed verification, and whether it ended because
four of them failed. -/
structure SearchOut where
  hit : Option Nat := none
  failed : List Nat := []
  fhMiss : Bool := false
  deriving DecidableEq, Repr, Inhabited

/-- The search of an array that shows matches at `seen`: up to four candidates are verified, lowest index first; those in
`matching` pass. -/
def verifiedSearch (matching seen : List Nat) : SearchOut :=
  let four := seen.take 4
  let failed := four.takeWhile fun i => !matching.contains i
  { hit := (four.drop failed.length).head?, failed := failed, fhMiss := failed.length == 4 }

/-! ### Array words (R303, R306) -/

/-- The array words that agree with a verify copy. -/
def WeirEntry.word (e : WeirEntry) : ArrayWord := { valid := e.valid, val := e.val, mask := e.mask }
def EmtEntry.word (e : EmtEntry) : ArrayWord := { valid := e.valid, val := e.key }

/-- A soft error changes an array word. -/
def State.upset (s : State) (u : ArrayUpset) : State :=
  let k := u.replica * 65536 + u.index
  let put := fun (m : SMap (Option ArrayWord)) (w copy : ArrayWord) => m.set k (if w = copy then none else some w)
  match u.table with
  | .weir =>
    { s with tables.weirArr := put s.tables.weirArr { valid := u.valid, val := u.val, mask := u.mask } (s.tables.weir.get u.index).word }
  | .emt => { s with tables.emtArr := put s.tables.emtArr { valid := u.valid, val := u.val } (s.tables.emt.get u.index).word }

/-- Soft errors in turn. -/
def State.upsets (s : State) (us : List ArrayUpset) : State := us.foldl State.upset s

/-- The words of a replica that differ from their verify copies, by index. -/
def upsetWords (arr : SMap (Option ArrayWord)) (replica : Nat) : List (Nat × ArrayWord) :=
  arr.entries.filterMap fun e => if e.1 / 65536 = replica then e.2.map fun w => (e.1 % 65536, w) else none

/-- The indices a replica's array shows as matches, in rising order: those of `matching` whose word agrees with its copy,
and those whose differing word satisfies `p`. -/
def arraySeen (matching : List Nat) (words : List (Nat × ArrayWord)) (p : ArrayWord → Bool) (size : Nat) : List Nat :=
  sortNats ((matching.filter fun i => !words.any fun e => e.1 == i) ++
    (words.filter fun e => e.1 < size && e.2.valid && p e.2).map Prod.fst)

/-- The verified search of a Weir replica. -/
def State.weirSearch (s : State) (r key : Nat) : SearchOut :=
  let m := s.weirMatches key
  verifiedSearch m (arraySeen m (upsetWords s.tables.weirArr r) (fun w => Nat.land (Nat.xor key w.val) w.mask == 0) s.weirSize)

/-- The verified search of an EMT replica. -/
def State.emtSearch (s : State) (g key : Nat) : SearchOut :=
  let m := s.emtMatches key
  verifiedSearch m (arraySeen m (upsetWords s.tables.emtArr g) (fun w => w.val == key) 65536)

/-- An array word rewritten from its verify copy. -/
def State.weirMend (s : State) (r i : Nat) : State := { s with tables.weirArr := s.tables.weirArr.set (r * 65536 + i) none }
def State.emtMend (s : State) (g i : Nat) : State := { s with tables.emtArr := s.tables.emtArr.set (g * 65536 + i) none }

/-- False hits of a Weir replica counted, recorded and repaired (R304, R305, R328). -/
def State.weirFalseHits (s : State) (r : Nat) (o : SearchOut) : State :=
  let s := o.failed.foldl (fun t i =>
    let t := (t.bump (Reg.weirCnt 2 r)).record Reg.weirFhInfo (r * 2 ^ 24 + i)
    ((t.raiseEvent 191).weirMend r i).bump (Reg.weirCnt 3 r)) s
  if o.fhMiss then s.bump (Reg.weirCnt 4 r) else s

/-- False hits of an EMT replica (R304, R305, R334). -/
def State.emtFalseHits (s : State) (g : Nat) (o : SearchOut) : State :=
  let s := o.failed.foldl (fun t i =>
    (((t.bump (Reg.emtCnt g 5)).record Reg.emtFhInfo (g * 2 ^ 24 + i)).emtMend g i).bump (Reg.emtCnt g 6)) s
  if o.fhMiss then s.bump (Reg.emtCnt g 7) else s

/-- A Weir lookup of a lane: its replica's counters and its count events. -/
def State.weirLookup (s : State) (lane key : Nat) : SearchOut × State :=
  let r := lane / 2
  let o := s.weirSearch r key
  let s := (s.bump (Reg.weirCnt 0 r)).weirFalseHits r o
  (o, if o.hit.isSome then (s.bump (Reg.weirCnt 1 r)).count 41 [lane] else s)

/-! ### Keys (R292–R295) -/

/-- An XBUF byte; an index of 80 or above supplies 0. -/
def xbufByte (r : ParseResult) (i : Nat) : Byte := if i < 80 then r.xbuf.get i else 0

/-- The Weir key bytes of a parse result. -/
def State.weirKey (s : State) (r : ParseResult) : List Byte :=
  let a := (s.rd (Reg.weirProfSeg01 r.pcls)).toNat
  let b := (s.rd (Reg.weirProfSeg23 r.pcls)).toNat
  let seg := fun w hi => (List.range (bitsOf w (hi - 8) (hi - 14))).map fun i => xbufByte r (bitsOf w hi (hi - 6) + i)
  let k2 := b2n (bitAt r.flags 0) * 128 + r.pass * 32 + r.tc * 4 + r.level
  let ks := [BitVec.ofNat 8 r.pcls, BitVec.ofNat 8 r.port, BitVec.ofNat 8 k2] ++
    seg a 30 ++ seg a 14 ++ seg b 30 ++ seg b 14
  slice ks 0 s.weirKeyLen

/-- An EMT key of a parse result, from XBUF byte `o` on. -/
def emtKeyOf (r : ParseResult) (o : Nat) : Nat := beNat ((List.range 14).map fun j => xbufByte r (o + j))

/-! ### Learn queue (R315–R317) -/

/-- A notice posted. -/
def State.postNotice (s : State) (n : Notice) : State :=
  let n := { n with seq := s.tables.noticeSeq, pkt := 0 }
  let s := { s with tables.noticeSeq := (s.tables.noticeSeq + 1) % 65536 }
  if 4096 ≤ s.tables.learnQ.length then (s.bump Reg.emtLqLost).setEvent Reg.emtLqEvents 1 189
  else
    let t := { s with tables.learnQ := s.tables.learnQ ++ [n] }
    if s.tables.learnQ = [] then t.setEvent Reg.emtLqEvents 0 188 else t

/-- A learn whose packet's verdict is good: suppressed by the filter or posted (R313). -/
def State.postLearn (s : State) (g : Nat) (n : Notice) : State :=
  let hold := s.fld Reg.emtCtrl 15 0
  let f := s.tables.filter.get g
  if hold ≠ 0 ∧ f.any fun e => e.1 == n.key && s.usClock - e.2 < hold then s.bump (Reg.emtCnt g 2)
  else
    let f := (if 16 ≤ f.length then f.drop 1 else f) ++ [(n.key, s.usClock)]
    (({ s with tables.filter := s.tables.filter.set g f }.bump (Reg.emtCnt g 1)).postNotice n)

/-- A staged learn decided by its packet's verdict (R312). -/
def State.decideLearn (s : State) (g : Nat) (n : Notice) (good : Bool) : State :=
  if good then s.postLearn g n else s.bump (Reg.emtCnt g 3)

/-- The verdict that decides a packet's staged learns, where it is known (R312). -/
def Pkt.learnVerdict (p : Pkt) : Option Bool := if 132 ≤ p.port then some true else p.verdict.map fun v => v == 0

/-- A source miss staged by a lane. -/
def State.stageLearn (s : State) (g : Nat) (n : Notice) : State :=
  let l := s.tables.staged.get g
  if 32 ≤ l.length then s.bump (Reg.emtCnt g 4)
  else match (s.pkt n.pkt).learnVerdict with
    | some good => s.decideLearn g n good
    | none => { s with tables.staged := s.tables.staged.set g (l ++ [n]) }

/-- The staged learns of a packet decided by its tail verdict, replica by replica. -/
def State.learnVerdicts (s : State) (pkt : Nat) (good : Bool) : State :=
  (List.range 20).foldl (fun t g =>
    let l := t.tables.staged.get g
    let t := { t with tables.staged := t.tables.staged.set g (l.filter fun n => n.pkt != pkt) }
    (l.filter fun n => n.pkt == pkt).foldl (fun u n => u.decideLearn g n good) t) s

/-! ### Lookup (R290–R302, R309–R318) -/

/-- The EMT part of a lookup: source and destination searches, last-hit time, learn. -/
def State.emtLookup (s : State) (lane : Nat) (l : LookupResult) : LookupResult × State :=
  let r := l.parse
  let prof := s.rd (Reg.weirProfA r.pcls)
  if Wbits prof 30 30 = 0 then (l, s) else
  let ks := emtKeyOf r (Wbits prof 28 22)
  let kd := emtKeyOf r (Wbits prof 21 15)
  let a := s.emtSearch lane ks
  let d := s.emtSearch lane kd
  let s := (s.emtFalseHits lane a).emtFalseHits lane d
  let data := fun o : Option Nat => match o with | some i => (s.tables.emt.get i).data | none => 0
  let l := { l with srcHit := a.hit.isSome, dstHit := d.hit.isSome, srcIndex := a.hit.getD 0, dstIndex := d.hit.getD 0
                    srcData := data a.hit, dstData := data d.hit, emtFh := a.failed != [] || d.failed != [] }
  match a.hit with
  | some i => (l, { s with tables.lastHit := s.tables.lastHit.set (lane * 65536 + i) s.hitClock })
  | none =>
    let s := (s.bump (Reg.emtCnt lane 0)).count 42 [lane]
    if Wbits prof 29 29 = 0 then (l, s)
    else (l, s.stageLearn lane { kind := 0, dstHit := l.dstHit, group := r.group, port := r.port, pcls := r.pcls,
                                 index := l.dstIndex, timeMs := s.hitClock, key := ks, pkt := r.pkt })

/-- A lookup: its result and the state. -/
def State.lookup (s : State) (lane : Nat) (r : ParseResult) : LookupResult × State :=
  let s := s.count 40 [lane]
  let key := s.weirKey r
  let l : LookupResult := { parse := r, ad := s.missAd, key := key }
  let (l, s) :=
    if Wbits (s.rd (Reg.weirProfA r.pcls)) 31 31 = 0 then (l, s)
    else
      let (o, s) := s.weirLookup lane (beNat key)
      let l := { l with weirFh := o.failed != [] }
      match o.hit with
      | some i => ({ l with weirHit := true, weirIndex := i, ad := (s.tables.weir.get i).ad }, s)
      | none => (l, s)
  s.emtLookup lane l

/-- TC in force: the associated data's when TC_EN, else the parse result's (R341). -/
def LookupResult.tc (l : LookupResult) : Nat := if bitAt l.ad 116 then bitsOf l.ad 115 113 else l.parse.tc

/-- A lookup result delivered: to Dispatch, or by its disposition dropped or sent to P132 (R301, R573). -/
def State.deliver (s : State) (l : LookupResult) : State :=
  match bitsOf l.ad 127 126 with
  | 1 => (s.spill 2).freePkt l.parse.pkt
  | 2 => s.toControl l.parse l.tc
  | _ => { s with tables.out := s.tables.out ++ [l] }

/-- A verify copy or associated data that is uncorrectable stops the module (R776); lanes 2r and 2r + 1 share Weir
replica r, and lane g has EMT replica g. -/
def State.laneError (s : State) (lane : Nat) (err : Option StoreError) : State :=
  match err with
  | some e => s.storeFault e.store 0 (if e.store ≤ 0xF then lane / 2 else lane) e.word e.syndrome
  | none => s

/-! ### Who a lane serves (R287, R288, R471) -/

/-- The ticket the next call left waiting takes. -/
def State.ticket (s : State) : Ticket := { seq := s.flume.tickets, since := s.tb.run }

/-- Whether a ticket is at least 64 PARSE cycles old at 1.4 GHz. -/
def Ticket.long (t : Ticket) (run : Nat) : Bool := 320 * nsUnit ≤ 7 * (run - t.since)

/-- The tickets of a cluster's re-lookups that wait for its lane. -/
def Thread.relookups (t : Thread) : List Ticket :=
  [t.wait, t.late].filterMap fun w => match w with
    | some c => if c.unit == 5 || c.unit == 6 then c.ticket else none
    | none => none

/-- The tickets of the re-lookups and of the SEARCH that wait for a lane. -/
def State.laneWaiters (s : State) (lane : Nat) : List Ticket :=
  ((s.flume.threads.entries.filter fun e => e.1 / 128 == lane).flatMap fun e => e.2.relookups) ++
    (match s.tables.search with
    | some x => if x.lane = lane then [x.ticket] else []
    | none => [])

/-- Whether a lane's own group has a result that the lane may accept now. -/
def State.laneOwn (s : State) (lane : Nat) : Bool := !s.backPressure && s.hdg.out.get lane != []

/-- Whether a lane serves a re-lookup or a SEARCH next: the one that has waited longest, after its own group's results
unless it has waited 64 PARSE cycles. -/
def State.laneServes (s : State) (lane : Nat) (t : Ticket) : Bool :=
  ((s.laneWaiters lane).all fun u => t.seq ≤ u.seq) && (!s.laneOwn lane || t.long s.tb.run)

/-- The lane a result of a group takes: its own group's, unless a re-lookup or SEARCH has waited 64 PARSE cycles for it;
for group 20 that of the lowest-numbered group that offers none, when no re-lookup or SEARCH waits for it. -/
def State.takesLane (s : State) (group lane : Nat) : Bool :=
  if group = 20 then
    ((List.range 20).find? fun g => s.hdg.out.get g == []) == some lane && s.laneWaiters lane == []
  else group == lane && !((s.laneWaiters lane).any fun u => u.long s.tb.run)

/-- A lane accepts the next parse result of a group (R287, R288); under back-pressure it accepts none (R338). -/
def execLookup (group lane : Nat) (upsets : List ArrayUpset) (err : Option StoreError) (s : State) : Out :=
  whenWf (group < 21 && lane < 20 && upsets.all ArrayUpset.wf && err.all (fun e => 0xE ≤ e.store && e.store ≤ 0x11))
    (match s.hdg.out.get group with
    | [] => .next s
    | r :: q =>
      if !s.coreUp || s.backPressure || !s.takesLane group lane then .next s
      else if err.isSome then .next (s.laneError lane err)
      else
        let s := { s.upsets upsets with hdg.out := s.hdg.out.set group q }
        let x := s.lookup lane r
        .next (x.2.deliver x.1))

/-! ### Maintenance walks (R306, R310) -/

/-- A last-hit time raised when it lies more than 2^30 ms behind now. -/
def clampHit (now t : Nat) : Nat :=
  let d := (now + 2 ^ 32 - t % 2 ^ 32) % 2 ^ 32
  if 2 ^ 30 < d ∧ d < 2 ^ 31 then (now + 2 ^ 32 - 2 ^ 30) % 2 ^ 32 else t

/-- The word at a Weir replica's walk position compared with its copy and, where it differs, repaired. -/
def State.weirWalk (s : State) (r : Nat) : State :=
  let i := s.tables.walk.get r
  let t := { s with tables.walk := s.tables.walk.set r ((i + 1) % s.weirSize) }
  if (s.tables.weirArr.get (r * 65536 + i)).isSome then (t.weirMend r i).bump (Reg.weirCnt 3 r) else t

/-- The word at an EMT replica's walk position, and the last-hit time there. -/
def State.emtWalk (s : State) (g : Nat) : State :=
  let i := s.tables.walk.get (100 + g)
  let k := g * 65536 + i
  let t := { s with tables.walk := s.tables.walk.set (100 + g) ((i + 1) % 65536)
                    tables.lastHit := s.tables.lastHit.set k (clampHit s.hitClock (s.tables.lastHit.get k)) }
  if (s.tables.emtArr.get k).isSome then (t.emtMend g i).bump (Reg.emtCnt g 6) else t

/-- One step of a replica's walk; a verify copy that is uncorrectable stops the module (R308). -/
def execWalkStep (table : TableSel) (replica : Nat) (upsets : List ArrayUpset) (err : Option StoreError) (s : State) : Out :=
  whenWf (table.hasReplica replica && upsets.all ArrayUpset.wf && err.all (fun e => e.store == table.copies))
    (occurs s s.coreUp
      (match err with
      | some e => s.storeFault e.store 0 replica e.word e.syndrome
      | none => match table with
        | .weir => (s.upsets upsets).weirWalk replica
        | .emt => (s.upsets upsets).emtWalk replica))

/-! ### WEIR commands (R299, R323–R327) -/

/-- A command ends with a result code and an index; where no entry is concerned the index is a free value. -/
def State.tableResult (s : State) (a code : Nat) (index : Option Nat) : State :=
  match index with
  | some i => s.cmdDone a (code * 2 ^ 25 + i)
  | none => let (f, s) := s.draw (if a = Reg.emtResult then 16 else 15)
            s.cmdDone a (code * 2 ^ 25 + f)

/-- A command accepted and carried out at once. -/
def State.tableDone (s : State) (a code : Nat) (index : Option Nat) : State := (s.cmdAccept a).tableResult a code index

/-- An entry's word in every replica agrees with its copy: a command has written them all. -/
def State.weirWritten (s : State) (i : Nat) (e : WeirEntry) : State :=
  (List.range 10).foldl (fun t r => t.weirMend r i) { s with tables.weir := s.tables.weir.set i e }
def State.emtWritten (s : State) (i : Nat) (e : EmtEntry) : State :=
  (List.range 20).foldl (fun t g => t.emtMend g i) { s with tables.emt := s.tables.emt.set i e }

/-- Key bits held in staging registers, `n` words of them. -/
def State.wordsOf (s : State) (f : Nat → Nat) (n : Nat) : Nat :=
  leNat ((List.range n).flatMap fun i => leBytes (s.rd (f i)).toNat 4)

/-- A number written into registers, `n` words of it. -/
def State.setWords (s : State) (f : Nat → Nat) (n v : Nat) : State :=
  (List.range n).foldl (fun t i => t.wr (f i) (BitVec.ofNat 32 (v / 2 ^ (32 * i)))) s

/-- Words of a Weir key in force. -/
def State.weirWords (s : State) : Nat := if s.wide then 20 else 10

/-- SEARCH carried out in replica `r`. Its verified hit counts in no HITS (DESIGN CHOICE: the spec names no counter for
it). -/
def State.weirSearched (s : State) (r key : Nat) : State :=
  let o := s.weirSearch r key
  (s.weirFalseHits r o).tableResult Reg.weirResult (if o.hit.isSome then 0 else 2) o.hit

/-- SEARCH: at once where its lane serves it, else the command waits for the lane, busy. -/
def State.weirSearchCmd (s : State) (r key : Nat) : State :=
  let s := s.cmdAccept Reg.weirResult
  if s.laneServes (2 * r) s.ticket then s.weirSearched r key
  else { s with tables.search := some { lane := 2 * r, key := key, ticket := s.ticket }, flume.tickets := s.flume.tickets + 1 }

/-- A waiting SEARCH carried out once its lane serves it. -/
def State.searchStep (s : State) : State :=
  match s.tables.search with
  | none => s
  | some x => if s.laneServes x.lane x.ticket then { s with tables.search := none }.weirSearched (x.lane / 2) x.key else s

/-- WEIR.CMD. -/
def writeWeirCmd (s : State) (v : Word) : State :=
  let op := Wbits v 3 0
  let i := Wbits v 18 4
  let rsel := Wbits v 27 24
  let done := fun (t : State) => t.tableDone Reg.weirResult
  if op = 0 then s
  else if s.cmdBusy Reg.weirResult then s.cmdReject Reg.weirResult
  else if 5 ≤ op then done s 3 none
  else if (op ≤ 3 ∧ s.weirSize ≤ i) ∨ (3 ≤ op ∧ 10 ≤ rsel) then done s 1 none
  else if op = 1 then
    let e : WeirEntry := { valid := s.bit Reg.weirWrFlags 0, val := s.wordsOf Reg.weirWrVal s.weirWords
                           mask := s.wordsOf Reg.weirWrMask s.weirWords, ad := s.wordsOf Reg.weirWrAd 4 }
    done (s.weirWritten i e) 0 (some i)
  else if op = 2 then done (s.weirWritten i { s.tables.weir.get i with valid := false }) 0 (some i)
  else if op = 3 then
    let e := s.tables.weir.get i
    let m := 2 ^ (32 * s.weirWords)
    let t := ((s.setWords Reg.weirRdVal 20 (e.val % m)).setWords Reg.weirRdMask 20 (e.mask % m)).setWords Reg.weirRdAd 4 e.ad
    done (t.wr Reg.weirRdFlags (BitVec.ofNat 32 (b2n e.valid))) 0 (some i)
  else s.weirSearchCmd rsel (s.wordsOf Reg.weirWrVal s.weirWords)

/-- WEIR.CMD OP 1: WRITE. -/
def execWeirCmdWrite (acc : Nat) (v : Word) (s : State) : Out :=
  writeRow (acc < 7) acc Reg.weirCmd (Wbits v 3 0 == 1) (fun t => writeWeirCmd t v) s
/-- WEIR.CMD OP 2: INVALIDATE. -/
def execWeirCmdInvalidate (acc : Nat) (v : Word) (s : State) : Out :=
  writeRow (acc < 7) acc Reg.weirCmd (Wbits v 3 0 == 2) (fun t => writeWeirCmd t v) s
/-- WEIR.CMD OP 3: READ. -/
def execWeirCmdRead (acc : Nat) (v : Word) (s : State) : Out :=
  writeRow (acc < 7) acc Reg.weirCmd (Wbits v 3 0 == 3) (fun t => writeWeirCmd t v) s
/-- WEIR.CMD OP 4: SEARCH. -/
def execWeirCmdSearch (acc : Nat) (v : Word) (s : State) : Out :=
  writeRow (acc < 7) acc Reg.weirCmd (Wbits v 3 0 == 4) (fun t => writeWeirCmd t v) s

/-- WEIR.CTRL: a change of WIDE invalidates every entry (R323). -/
def writeWeirCtrl (s : State) (v : Word) : State :=
  let t := s.wr Reg.weirCtrl (v &&& 1#32)
  if t.wide = s.wide then t
  else { t with tables.weir := s.tables.weir.keys.foldl (fun m i => m.mod i fun e => { e with valid := false }) t.tables.weir
                tables.weirArr := {} }

/-- A write of WEIR.CTRL. -/
def execWeirCtrlWrite (acc : Nat) (v : Word) (s : State) : Out :=
  writeRow (acc < 7) acc Reg.weirCtrl true (fun t => writeWeirCtrl t v) s

/-- The word an accessor's shadow holds for an address. -/
def State.shadow (s : State) (acc a : Nat) : Option Word := s.shadows.get (acc * 2 ^ 24 + a)

/-- The state with an accessor's shadow replaced. -/
def State.setShadow (s : State) (acc a : Nat) (v : Option Word) : State :=
  { s with shadows := s.shadows.set (acc * 2 ^ 24 + a) v }

/-- A shadowed word committed. -/
def State.commitShadow (s : State) (acc a : Nat) : State :=
  match s.shadow acc a with
  | some w => (s.wr a w).setShadow acc a none
  | none => s

/-- WEIR.MISS_AD(3) with the accessor's shadowed words (R326). -/
def writeMissAd3 (acc : Nat) (s : State) (v : Word) : State :=
  ((List.range 3).foldl (fun t i => t.commitShadow acc (Reg.weirMissAd i)) s).wr (Reg.weirMissAd 3) v

/-- A write of MISS_AD(3). -/
def execMissAdCommit (acc : Nat) (v : Word) (s : State) : Out :=
  writeRow (acc < 7) acc (Reg.weirMissAd 3) true (fun t => writeMissAd3 acc t v) s

/-- WEIR.PROF_A(p) with the accessor's shadowed segment words (R327). -/
def writeProfA (acc p : Nat) (s : State) (v : Word) : State :=
  ((s.commitShadow acc (Reg.weirProfSeg01 p)).commitShadow acc (Reg.weirProfSeg23 p)).wr (Reg.weirProfA p) (v &&& 0xFFFF8000#32)

/-- A write of PROF_A. -/
def execProfileCommit (acc profile : Nat) (v : Word) (s : State) : Out :=
  writeRow (acc < 7 && profile < 256) acc (Reg.weirProfA profile) true (fun t => writeProfA acc profile t v) s

/-! ### EMT commands (R311, R331, R332) -/

/-- The later of two last-hit times (R17). -/
def laterHit (a b : Nat) : Nat := if isBefore a b 32 then b else a

/-- An entry's last-hit time: the latest among its replicas (R310). -/
def State.lastHitOf (s : State) (i : Nat) : Nat :=
  (List.range 20).foldl (fun t g => laterHit t (s.tables.lastHit.get (g * 65536 + i))) (s.tables.lastHit.get i)

/-- An entry's last-hit time set in every replica. -/
def State.setHits (s : State) (i t : Nat) : State :=
  { s with tables.lastHit := (List.range 20).foldl (fun m g => m.set (g * 65536 + i) t) s.tables.lastHit }

/-- The lowest number not in a rising list. -/
def lowestFree (l : List Nat) : Nat := l.foldl (fun k i => if i = k then k + 1 else k) 0

/-- The entry an insert evicts; none where every entry is STATIC. -/
def State.emtVictim (s : State) : Option Nat × State :=
  let l := s.tables.emt.find fun e => e.valid && !e.isStatic
  match l with
  | [] => (none, s)
  | i :: r =>
    if s.bit Reg.emtCtrl 31 then
      (some (r.foldl (fun b j => if isBefore (s.lastHitOf j) (s.lastHitOf b) 32 then j else b) i), s)
    else
      let (n, s) := s.draw 32
      (l[n % l.length]?, s)

/-- An entry written at an index, new: LAST_HIT is the clock in every replica (R311). -/
def State.emtPut (s : State) (i : Nat) (e : EmtEntry) : State :=
  (s.emtWritten i e).setHits i s.hitClock

/-- INSERT of a key that is absent (R311). -/
def State.emtInsert (s : State) (e : EmtEntry) : State :=
  let used := s.tables.emt.find fun x => x.valid
  if used.length < 65536 then
    let i := lowestFree used
    (s.emtPut i e).tableDone Reg.emtResult 0 (some i)
  else
    match s.emtVictim with
    | (none, s) => s.tableDone Reg.emtResult 4 none
    | (some i, s) =>
      let o := s.tables.emt.get i
      let n : Notice := { kind := 1, index := i, data := o.data, timeMs := s.lastHitOf i, key := o.key }
      let s := ((s.postNotice n).bump Reg.emtEvictions).setEvent Reg.emtLqEvents 2 190
      (s.emtPut i e).tableDone Reg.emtResult 3 (some i)

/-- An entry into the RD registers. Its LAST_HIT is the entry's, the latest of its replicas (R310), whatever RSEL (DESIGN
CHOICE: R332 does not say which of them OP 3 and 4 read). -/
def State.emtRead (s : State) (i : Nat) : State :=
  let e := s.tables.emt.get i
  let s := ((s.setWords Reg.emtRdKey 4 e.key).wr Reg.emtRdData (BitVec.ofNat 32 e.data)).wr Reg.emtRdLastHit (BitVec.ofNat 32 (s.lastHitOf i))
  (s.wr Reg.emtRdFlags (BitVec.ofNat 32 (b2n e.valid * 2 + b2n e.isStatic))).tableDone Reg.emtResult 0 (some i)

/-- A command by KEY carried out after a verified search of replica `g`. -/
def State.emtByKey (s : State) (op g key : Nat) : State :=
  let e : EmtEntry := { valid := true, key := key, data := (s.rd Reg.emtData).toNat, isStatic := s.bit Reg.emtFlags 0 }
  let o := s.emtSearch g key
  let s := s.emtFalseHits g o
  match o.hit with
  | none => if op = 1 then s.emtInsert e else s.tableDone Reg.emtResult 2 none
  | some k =>
    if op = 1 then s.tableDone Reg.emtResult 1 (some k)
    else if op = 2 then (s.emtWritten k { s.tables.emt.get k with valid := false }).tableDone Reg.emtResult 0 (some k)
    else if op = 3 then s.emtRead k
    else { s with tables.emt := s.tables.emt.set k e }.tableDone Reg.emtResult 0 (some k)

/-- EMT.CMD. LOOKUP searches replica RSEL and INSERT replica 0; DELETE and UPDATE too search replica 0 (DESIGN CHOICE:
R332 names none for them). -/
def writeEmtCmd (s : State) (v : Word) : State :=
  let op := Wbits v 3 0
  let i := Wbits v 19 4
  let rsel := Wbits v 28 24
  if op = 0 then s
  else if 7 ≤ op then s.tableDone Reg.emtResult 6 none
  else if (op = 3 ∨ op = 4) ∧ 20 ≤ rsel then s.tableDone Reg.emtResult 5 none
  else if op = 4 then s.emtRead i
  else if op = 5 then (s.emtWritten i { s.tables.emt.get i with valid := false }).tableDone Reg.emtResult 0 (some i)
  else s.emtByKey op (if op = 3 then rsel else 0) (s.wordsOf Reg.emtKey 4 % 2 ^ 112)

/-- EMT.CMD OP 1: INSERT. -/
def execEmtInsert (acc : Nat) (v : Word) (s : State) : Out :=
  writeRow (acc < 7) acc Reg.emtCmd (Wbits v 3 0 == 1) (fun t => writeEmtCmd t v) s
/-- EMT.CMD OP 2: DELETE. -/
def execEmtDelete (acc : Nat) (v : Word) (s : State) : Out :=
  writeRow (acc < 7) acc Reg.emtCmd (Wbits v 3 0 == 2) (fun t => writeEmtCmd t v) s
/-- EMT.CMD OP 3: LOOKUP. -/
def execEmtCmdLookup (acc : Nat) (v : Word) (s : State) : Out :=
  writeRow (acc < 7) acc Reg.emtCmd (Wbits v 3 0 == 3) (fun t => writeEmtCmd t v) s
/-- EMT.CMD OP 4: READ. -/
def execEmtCmdRead (acc : Nat) (v : Word) (s : State) : Out :=
  writeRow (acc < 7) acc Reg.emtCmd (Wbits v 3 0 == 4) (fun t => writeEmtCmd t v) s
/-- EMT.CMD OP 5: INVALIDATE. -/
def execEmtInvalidate (acc : Nat) (v : Word) (s : State) : Out :=
  writeRow (acc < 7) acc Reg.emtCmd (Wbits v 3 0 == 5) (fun t => writeEmtCmd t v) s
/-- EMT.CMD OP 6: UPDATE. -/
def execEmtUpdate (acc : Nat) (v : Word) (s : State) : Out :=
  writeRow (acc < 7) acc Reg.emtCmd (Wbits v 3 0 == 6) (fun t => writeEmtCmd t v) s

/-- EMT.LQ_POP: the head entry leaves the learn queue (R317). -/
def writeLqPop (s : State) (v : Word) : State :=
  if Wbits v 0 0 = 1 then { s with tables.learnQ := s.tables.learnQ.drop 1 } else s

/-- A write of EMT.LQ_POP. -/
def execLqPop (acc : Nat) (v : Word) (s : State) : Out :=
  writeRow (acc < 7) acc Reg.emtLqPop (Wbits v 0 0 == 1) (fun t => writeLqPop t v) s

/-- The 32 bytes of a learn-queue entry (R315). -/
def Notice.bytes (n : Notice) : List Byte :=
  let learn := n.kind == 0
  let head := n.kind * 2 ^ 30 + (if learn then b2n n.dstHit * 2 ^ 29 + n.group * 2 ^ 16 + n.port * 2 ^ 8 + n.pcls else 0)
  leBytes head 4 ++ leBytes n.index 4 ++ leBytes n.data 4 ++ leBytes n.timeMs 4 ++ beBytes n.key 14 ++ leBytes n.seq 2

/-- What the WEIR and EMT registers computed from the tables read (R323, R330, R333). -/
def tablesLive (s : State) (a : Nat) : Option Nat :=
  if a = Reg.weirStatus then some s.weirValid
  else if a = Reg.emtStatus then some s.emtValid
  else if a = Reg.emtLqStat then some s.tables.learnQ.length
  else if Reg.emtLqData 0 ≤ a ∧ a ≤ Reg.emtLqData 7 then
    match s.tables.learnQ with
    | [] => some 0
    | n :: _ => some (leNat (slice n.bytes (a - Reg.emtLqData 0) 4))
  else none

end Sys2Proof.Machine
end

