-- ==== Sys2Proof/Machine/Contexts.lean ====
section
/-! DEFINITION. Dispatch and Turnout: contexts built, placed, taken by threads, ended, released in order, and their
watchdogs (R335–R374). -/
namespace Sys2Proof.Machine

/-! ### Building (R336–R349) -/

/-- FLOW_HASH: the CRC32C of the Weir key bytes from K3 on (R343). -/
def State.flowHashOf (s : State) (l : LookupResult) : Nat := crc32cBytes (s.rd Reg.dspHashSeed).toNat (l.key.drop 3)

/-- The ordering domain of a result (R342). -/
def State.domainOf (s : State) (l : LookupResult) (fh : Nat) : Nat :=
  let d := bitsOf l.ad 95 80
  if bitsOf l.ad 79 78 = 1 then Nat.xor d (Nat.land (fh % 65536) (s.fld Reg.dspCtrl 15 0)) else d

/-- Budget of a traffic class (R372). -/
def State.budget (s : State) (tc : Nat) : Nat := min (s.fld (Reg.dspBudget tc) 29 0) 1000000000

/-- The context TS80 of a packet: the stack header's where R716 carries it, else the ingress time. -/
def State.contextTs (s : State) (p : Pkt) : Nat :=
  let l := s.stk.links.get (p.port - 128)
  let t := beNat (slice p.bytes 0x14 10)
  if 128 ≤ p.port ∧ p.port < 132 ∧ s.bit Reg.stkCtrl 25 ∧ !(p.verdict.any fun v => v != 0) ∧ l.state = 3 ∧ l.version = 2 ∧
      etherType p.bytes = 0x88B6 ∧ (byteAt p.bytes 14).toNat / 16 = 2 ∧ t ≠ 0 then t
  else p.ts80

/-- Clusters in the order the round-robin pointer visits them. -/
def State.clOrder (s : State) : List Nat := (List.range 16).map fun i => (s.dsp.rr + 1 + i) % 16

/-- The number of the PARSE cycle in progress, by the clock that has run since the restart. -/
def State.parseCycle (s : State) : Nat := s.tb.run * 1400000 / (1000000 * nsUnit)

/-- The clusters that have accepted contexts in this PARSE cycle, once for each context. -/
def State.acceptedNow (s : State) : List Nat := if s.dsp.buildCycle = s.parseCycle then s.dsp.accepted else []

/-- Whether a cluster has accepted fewer than 2 contexts in this PARSE cycle. -/
def State.clOpen (s : State) (n : Nat) : Bool := s.acceptedNow.count n < 2

/-- The cluster a new context goes to, with the clusters passed over at CL_LIMIT (R349); none where no enabled cluster can
accept one in this PARSE cycle. -/
def State.pickCluster (s : State) : Option Nat × List Nat :=
  let en := s.clOrder.filter fun n => s.clEnabled n
  if s.allFull then (en.find? s.clOpen, [])
  else
    let before := en.takeWhile fun n => s.clLimit ≤ s.clHeld n || !s.clOpen n
    ((en.drop before.length).head?, before.filter fun n => s.clLimit ≤ s.clHeld n)

/-- The lowest free context number. -/
def State.freeCtx (s : State) : Nat := lowestFree (s.dsp.ctxs.find fun c => c.st != .free)

/-- Metadata of a context (R341), offsets 0x00–0xB7. -/
def metadata (c pass cl seq dom deadline fh ts len : Nat) (l : LookupResult) (handle now : Nat) : List Byte :=
  let r := l.parse
  let bit := fun (b : Bool) (i : Nat) => b2n b * 2 ^ i
  leBytes (pass * 2 ^ 30 + cl * 2 ^ 19 + c) 4 ++ leBytes (seq * 2 ^ 16 + dom) 4 ++ leBytes deadline 4 ++ leBytes fh 4 ++
  leBytes ts 10 ++ leBytes (if r.lenValid then 2 ^ 15 + len else 0) 2 ++
  leBytes (bit (bitAt r.flags 0) 31 + r.reason * 2 ^ 26 + r.level * 2 ^ 24 + l.tc * 2 ^ 21 + r.group * 2 ^ 16 + r.pcls * 2 ^ 8 + r.port) 4 ++
  leBytes (bitsOf l.ad 125 121 * 2 ^ 27 + bitsOf l.ad 120 120 * 2 ^ 26) 4 ++
  leBytes (r.vlanCnt * 2 ^ 23 + r.mplsCnt * 2 ^ 19 + r.parseEnd * 2 ^ 10 + r.words * 4) 4 ++
  leBytes r.flags 4 ++ leBytes r.ovalid 2 ++ leBytes 0 2 ++
  ((List.range 16).map fun n => BitVec.ofNat 8 (r.ofs.get n)) ++ ((List.range 80).map fun n => r.xbuf.get n) ++
  leBytes l.ad 16 ++
  leBytes (bit l.weirHit 31 + bit l.weirFh 30 + bit l.emtFh 29 + bit l.srcHit 28 + bit l.dstHit 27 + l.weirIndex) 4 ++
  leBytes (l.dstIndex * 2 ^ 16 + l.srcIndex) 4 ++ leBytes l.srcData 4 ++ leBytes l.dstData 4 ++ leBytes handle 4 ++ leBytes now 4

/-- Available length A of a frame of `n` bytes (R244). -/
def availOf (n : Nat) : Nat := min 256 (n - 4)

/-- A context frame at build: metadata, and the header window at 0x100 (R382, R383). -/
def ctxFrame (md : List Byte) (frame : List Byte) : SMap Byte :=
  Machine.putBytes (Machine.putBytes {} 0 md) 0x100 (frame.take (availOf frame.length))

/-- Passing over a full cluster (R349). -/
def State.passOver (s : State) (n : Nat) : State := (s.bump (Reg.dspClCnt n 4)).setEvent (Reg.dspClEvents n) 0 (156 + n)

/-- A context built for a lookup result, on the cluster `cl`, with the clusters `full` passed over. -/
def State.buildCtx (s : State) (l : LookupResult) (cl : Nat) (full : List Nat) : State :=
  let r := l.parse
  let c := s.freeCtx
  let p := s.pkt r.pkt
  let ts := s.contextTs p
  let s := (s.setPkt r.pkt { p with ts80 := ts }).keepParse r
  let fh := s.flowHashOf l
  let dom := s.domainOf l fh
  let seq := s.dsp.nextSeq.get dom
  let deadline := (tsSec ts * 1000000000 + tsNs ts + s.budget l.tc) % 2 ^ 32
  let s := full.foldl State.passOver s
  let b := s.dsp.builds + 1
  let md := metadata c r.pass cl seq dom deadline fh ts p.bytes.length l (s.pktHandle r.pkt) (s.ns64 % 2 ^ 32)
  let x : Ctx := { st := .ready, pass := r.pass, seq := seq, domain := dom, deadline := deadline, cluster := cl, built := b
                   frame := ctxFrame md p.bytes, pkt := r.pkt, avail := availOf p.bytes.length
                   siphonEn := bitAt l.ad 125, siphon := bitsOf l.ad 124 121, culvert := bitAt l.ad 120 }
  let s := { s.setCtx c x with dsp.rr := cl, dsp.builds := b, dsp.nextSeq := s.dsp.nextSeq.set dom ((seq + 1) % 65536)
                               dsp.buildCycle := s.parseCycle, dsp.accepted := cl :: s.acceptedNow }
  let s := s.setInst b { live := true, ctx := c, pkt := r.pkt, verdict := if 132 ≤ p.port then some 0 else p.verdict }
  (s.bump (Reg.dspClCnt cl 0)).count 48 [cl, 16]

/-- Dispatch takes the next lookup result (R336, R339); one that no enabled cluster can accept in this PARSE cycle waits
(R349). -/
def execContextBuild (s : State) : Out :=
  match s.tables.out with
  | [] => .next s
  | l :: q =>
    let t := { s with tables.out := q }
    if s.freeCtxs = 0 then occurs s s.coreUp ((t.spill 3).freePkt l.parse.pkt)
    else match s.pickCluster with
      | (some cl, full) => occurs s s.coreUp (t.buildCtx l cl full)
      | (none, _) => .next s

/-! ### Slots and threads (R351–R353, R378, R383) -/

/-- Contexts that satisfy a test, by number. -/
def State.ctxsWith (s : State) (p : Ctx → Bool) : List (Nat × Ctx) := s.dsp.ctxs.entries.filter fun e => p e.2

/-- The context of earliest deadline, the one of lower `tie` on equal deadlines (R351, R353). -/
def earliest (tie : Ctx → Nat) : List (Nat × Ctx) → Option (Nat × Ctx)
  | [] => none
  | a :: r => match earliest tie r with
    | none => some a
    | some b => if isBefore b.2.deadline a.2.deadline 32 || (b.2.deadline == a.2.deadline && tie b.2 < tie a.2) then some b else some a

/-- The CTX word's engine and thread fields (R341). -/
def Ctx.place (x : Ctx) (engine thread : Nat) : Ctx :=
  let w := leNat ((List.range 4).map fun i => x.byte i)
  { x with frame := Machine.putBytes x.frame 0 (leBytes (putBits (putBits w 29 27 thread) 26 23 engine) 4) }

/-- An engine with a free prefetch slot takes the head of its cluster's ready queue (R352). -/
def execContextSlot (cluster engine : Nat) (s : State) : Out :=
  whenWf (cluster < 16 && engine < 16)
    (let held := s.ctxsWith fun c => c.st == .slotted && c.cluster == cluster && c.engine == engine
     match earliest (fun c => c.built) (s.ctxsWith fun c => c.st == .ready && c.cluster == cluster) with
     | none => .next s
     | some (i, x) =>
       occurs s (s.coreUp && held.length < 2)
         { s.setCtx i { x.place engine 0 with st := .slotted, engine := engine, slotted := s.dsp.slots + 1 }
           with dsp.slots := s.dsp.slots + 1 })

/-- ENTRY of a context's associated data (R301). -/
def Ctx.entry (x : Ctx) : Nat := leNat [x.byte 0x9C, x.byte 0x9D]

/-- A free thread takes its engine's slotted context of earlier deadline and starts the program at ENTRY (R353). -/
def execThreadTake (cluster engine thread : Nat) (s : State) : Out :=
  whenWf (cluster < 16 && engine < 16 && thread < 8)
    (match earliest (fun c => c.slotted) (s.ctxsWith fun c => c.st == .slotted && c.cluster == cluster && c.engine == engine) with
     | none => .next s
     | some (i, x) =>
       occurs s (s.coreUp && (s.thr cluster engine thread).ctx == none)
         (((s.setCtx i { x.place engine thread with st := .running, thread := thread, wdFrom := s.flume.cycles }).setThr cluster engine thread
           { ctx := some i, arch := { pc := x.entry } }).engEvent cluster engine thread 8))

/-! ### The end and the release of a context (R348, R356–R359) -/

/-- A missed deadline counted, with its alarm (R348, R373). -/
def State.deadlineMiss (s : State) (cl : Nat) : State :=
  let s := (s.bump (Reg.dspClCnt cl 1)).count 51 [cl, 16]
  let lim := s.fld (Reg.dspClAlarm cl) 15 0
  let t := { s with dsp.missWindow := windowAdd s.dsp.missWindow cl 1 lim }
  if alarmDue s.dsp.missWindow cl 1 lim then t.setEvent (Reg.dspClEvents cl) 1 (156 + cl) else t

/-- FLUME cycles a context's watchdog has counted: running while a thread has it, then as it stopped (R361). -/
def State.wdCount (s : State) (x : Ctx) : Nat :=
  if x.st = .running ∨ x.st = .exception then (s.flume.cycles - x.wdFrom) / 1000000 else x.wd

/-- The end of a context reaches Turnout and the flow engine; its thread is free. The oldest context of its domain is
releasable from now on (R357). -/
def execContextEnd (ctx : Nat) (s : State) : Out :=
  whenWf (ctx < 8192)
    (let x := s.ctx ctx
     occurs s (s.coreUp && (x.st == .running || x.st == .exception) && x.ending != .none)
       (let t := s.setCtx ctx { x with st := .ended, wd := s.wdCount x, readyAt := s.tb.run }
        let t := (t.setThr x.cluster x.engine x.thread {}).freeRepx x.cluster x.engine x.thread
        let t := t.setInst x.built { t.inst x.built with ended := true }
        if isBefore x.deadline (s.ns64 % 2 ^ 32) 32 then t.deadlineMiss x.cluster else t))

/-- The ended contexts that are the oldest unreleased ones of their domains, by number. -/
def State.releasable (s : State) : List (Nat × Ctx) :=
  s.ctxsWith fun c => c.st == .ended && c.seq == s.dsp.relSeq.get c.domain

/-- The domains of the contexts released in this PARSE cycle. -/
def State.releasedNow (s : State) : List Nat := if s.dsp.relCycle = s.parseCycle then s.dsp.released else []

/-- The context Turnout releases next: the one releasable for the longest, of several the lowest number; at most one of a
domain and 20 in all in a PARSE cycle. -/
def State.nextRelease (s : State) : Option Nat :=
  if 20 ≤ s.releasedNow.length then none
  else (minBy (fun e : Nat × Ctx => e.2.readyAt) (s.releasable.filter fun e => !s.releasedNow.contains e.2.domain)).map Prod.fst

/-- A domain's REL_SEQ moves on: the context that is now its oldest, where it has ended, is releasable from now on. -/
def State.advanceDomain (s : State) (domain seq : Nat) : State :=
  let t := { s with dsp.relSeq := s.dsp.relSeq.set domain ((seq + 1) % 65536) }
  (t.releasable.filter fun e => e.2.domain == domain).foldl (fun u e => u.setCtx e.1 { e.2 with readyAt := s.tb.run }) t

/-- What a context's outcome asks of the switch core (R573, R583, R585). -/
def State.outcomeOf (s : State) (x : Ctx) : Outcome' :=
  let siphon := if x.siphonEn then some (x.siphon, x.siphonEdited) else none
  match x.ending with
  | .unicast p q => { copies := [(p, q, none)], siphon := siphon }
  | .multicast g q => { copies := (s.targets g (s.pkt x.pkt).port).map fun p => (p, 8 + q, some g), siphon := siphon }
  | .culvert q => { copies := [(133, q, none)], siphon := siphon }
  | _ => {}

/-- Whether an outcome is a multicast group without a target (R583). -/
def Ctx.emptyGroup (x : Ctx) (o : Outcome') : Bool :=
  match x.ending with | .multicast _ _ => o.copies == [] | _ => false

/-- Turnout releases an ended context whose SEQ is its domain's REL_SEQ (R357, R358); in a stop it releases nothing
(R337). -/
def execRelease (ctx : Nat) (s : State) : Out :=
  whenWf (ctx < 8192)
    (let x := s.ctx ctx
     occurs s (s.boot.core == .running && s.boot.stop == .none && s.nextRelease == some ctx)
       (let o := s.outcomeOf x
        let t := (s.setCtx ctx { x with st := .free, frame := {}, edits := [], ending := .none }).advanceDomain x.domain x.seq
        let t := { t with dsp.relCycle := s.parseCycle, dsp.released := x.domain :: s.releasedNow }
        let t := (t.bump Reg.dspReleased).count 49 [x.cluster, 16]
        let t := if x.emptyGroup o then t.spill 15 else t
        t.releasePkt x.pkt x.edits (s.fld (Reg.bpmClOwner x.cluster) 5 0) o))

/-! ### Watchdogs (R361–R364) -/

/-- WD_CYCLES and EXC_CYCLES in force (R368). -/
def State.wdLimit (s : State) : Nat := max 1000 (s.fld Reg.dspWd 19 0)
def State.excLimit (s : State) : Nat := max 100 (s.fld Reg.dspExcWd 19 0)

/-- The address a watchdog fault reports: the call waited for, the repeat in progress, or the next instruction (R875). -/
def Thread.wdPc (t : Thread) : Nat := match t.wait with
  | some c => c.pc
  | none => t.arch.faultPc

/-- The watchdog count of a running context reaches WD_CYCLES: fault WATCHDOG (R361, R362). A thread that waits for a
helper result within a REPX takes it at once (DESIGN CHOICE: R362 names the next cycle for a waiting thread and the next
iteration boundary for one inside a REPX; R390 does not say which holds for both). -/
def execWatchdogExpire (ctx : Nat) (s : State) : Out :=
  whenWf (ctx < 8192)
    (let x := s.ctx ctx
     occurs s (s.coreUp && x.st == .running && x.ending == .none && s.wdLimit ≤ s.wdCount x)
       (let t := (s.bump (Reg.dspClCnt x.cluster 2)).setEvent (Reg.dspClEvents x.cluster) 2 (156 + x.cluster)
        t.peFault x.cluster x.engine x.thread 7 0 (s.thr x.cluster x.engine x.thread).wdPc))

/-- The count of a context in state exception reaches EXC_CYCLES: fault WATCHDOG recorded as a double fault, and the packet
to the Spillway (R364, R396, R397). It is no double fault of R396 that SPILL_FLM_DOUBLE or DOUBLE_FAULT counts. -/
def execExceptionWatchdogExpire (ctx : Nat) (s : State) : Out :=
  whenWf (ctx < 8192)
    (let x := s.ctx ctx
     occurs s (s.coreUp && x.st == .exception && x.ending == .none && s.excLimit ≤ s.wdCount x)
       (let t := (s.bump (Reg.dspClCnt x.cluster 3)).setEvent (Reg.dspClEvents x.cluster) 2 (156 + x.cluster)
        let t := t.recordFault x.cluster x.engine x.thread 7 0 (s.thr x.cluster x.engine x.thread).wdPc true
        t.spillCtx ctx 4))

/-- Code of a context's state (R335). -/
def ctxCode : CtxState → Nat
  | .free => 0 | .ready => 1 | .slotted => 2 | .running => 3 | .exception => 4 | .ended => 5

/-- What the DSP registers computed from the contexts read (R369–R373). -/
def dspLive (s : State) (a : Nat) : Option Nat :=
  if a = Reg.dspStatus then
    some (b2n s.backPressure * 2 ^ 31 + (s.ctxsWith fun c => c.st == .ended).length * 2 ^ 16 + s.freeCtxs)
  else if a = Reg.dspDomData then
    let d := s.fld Reg.dspDomSel 15 0
    some (s.dsp.nextSeq.get d * 2 ^ 16 + s.dsp.relSeq.get d)
  else if a = Reg.dspDiagData then
    let x := s.ctx (s.fld Reg.dspDiagSel 12 0)
    match s.fld Reg.dspDiagSel 19 16 with
    | 0 => some (ctxCode x.st * 2 ^ 29 + x.cluster * 2 ^ 25 + x.engine * 2 ^ 21 + x.thread * 2 ^ 18)
    | 1 => some (x.seq * 2 ^ 16 + x.domain)
    | 2 => some x.deadline
    | 3 => some (s.wdCount x % 2 ^ 20)
    | _ => some 0
  else if 0x281000 ≤ a ∧ a < 0x281400 ∧ a % 0x40 = 0 then
    let n := (a - 0x281000) / 0x40
    some (s.clHeld n * 2 ^ 16 + (s.ctxsWith fun c => c.st == .ready && c.cluster == n).length)
  else none

end Sys2Proof.Machine
end

