-- ==== Sys2Proof/Machine/Stacking.lean ====
section
/-! DEFINITION. Stacking over lateral links: hellos, link states and refusal, the member table, the master, deep
mode, and the time exchange (R697–R729). -/
namespace Sys2Proof.Machine

/-! ### Configuration in force (R726) -/

def State.stkMode (s : State) : Nat := if s.fld Reg.stkCtrl 31 30 = 3 then 0 else s.fld Reg.stkCtrl 31 30
def State.stkMe (s : State) : Nat := s.fld Reg.stkCtrl 29 27
def State.stkPriority (s : State) : Nat := s.fld Reg.stkCtrl 23 16
def State.verMax (s : State) : Nat := if s.fld Reg.stkCtrl 15 12 = 1 then 1 else 2
def State.verMin (s : State) : Nat := if s.fld Reg.stkCtrl 11 8 = 2 then 2 else 1
def State.helloMs (s : State) : Nat := min 100 (max 1 (s.fld Reg.stkTiming 7 0))
def State.holdMs (s : State) : Nat := min 15 (max 2 (s.fld Reg.stkTiming 15 8)) * s.helloMs

def State.link (s : State) (k : Nat) : Link := s.stk.links.get k
def State.setLink (s : State) (k : Nat) (l : Link) : State := { s with stk.links := s.stk.links.set k l }

/-- Whether a link exchanges hellos (R698). -/
def State.linkUp (s : State) (k : Nat) : Bool :=
  s.stkMode != 0 && s.bit (Reg.stkLinkCfg k) 31 && (s.ports.get (128 + k)).state == 5

/-- Raising event bit `j` of a link (R728). -/
def State.linkEvent (s : State) (k j : Nat) : State := s.setEvent (Reg.stkLinkEvents k) j (272 + 4 * k + j)

/-! ### The member table and the master (R704–R709, R717, R718) -/

/-- Rank: whether one priority and serial is better than another (R707). -/
def betterRank (p1 s1 p2 s2 : Nat) : Bool := p1 < p2 || (p1 == p2 && s1 < s2)

/-- The best entry learnt for a member: the fewest hops, then the lowest link. -/
def State.bestLearnt (s : State) (m : Nat) : Member :=
  match minBy (fun e : Member => e.hops * 4 + e.link)
      (((List.range 4).map fun k => s.stk.learnt.get (k * 8 + m)).filter fun e => e.valid) with
  | some e => e
  | none => {}

/-- The entry of the table for a member. -/
def State.tableEntry (s : State) (m : Nat) : Member :=
  if s.stkMode = 0 then {}
  else if m = s.stkMe then { valid := true, serial := s.fuses.serial, priority := s.stkPriority }
  else s.bestLearnt m

/-- Members present in a table. -/
def presentIn (t : SMap Member) : List Nat := (List.range 8).filter fun m => (t.get m).valid

/-- The member of best rank in a table. -/
def electIn (t : SMap Member) (me : Nat) : Nat :=
  (presentIn t).foldl (fun b m =>
    let x := t.get m
    let y := t.get b
    if !y.valid || betterRank x.priority x.serial y.priority y.serial then m else b) me

/-- M of R708. -/
def State.memberCount (s : State) : Nat := if s.stkMode = 0 then 1 else (presentIn s.stk.members).length

/-- The partner of deep mode. -/
def State.partner (s : State) : Option Nat := (presentIn s.stk.members).find? fun m => m != s.stkMe

/-- Pairing in deep mode after the table changed (R717, R718). -/
def State.deepPair (s : State) (masterChanged : Bool) : State :=
  match s.stkMode == 2, s.partner with
  | true, some _ =>
    if s.stk.paired ∧ !masterChanged then s
    else { s with stk.paired := true }.setFld Reg.fleShard 31 30 (if s.stk.master = s.stkMe then 2 else 3)
  | _, none =>
    if !s.stk.paired then s
    else
      let s := { s with stk.paired := false }
      if s.bit Reg.stkCtrl 24 then s.setBit Reg.fleShard 31 false else s
  | _, _ => s

/-- The table, the master and what follows from them brought up to date after what was learnt changed; `via` is the
link that left service or brought the change (R706–R708, R722). -/
def State.refreshTable (s : State) (via : Nat) : State :=
  let old := s.stk.members
  let new := (List.range 8).foldl (fun t m => t.set m (s.tableEntry m)) ({} : SMap Member)
  let master := electIn new s.stkMe
  let moved := (List.range 8).filter fun m =>
    (old.get m).valid != (new.get m).valid || (old.get m).hops != (new.get m).hops || (old.get m).serial != (new.get m).serial
  let masterChanged := master != s.stk.master
  let masterLeft := s.stk.master != s.stkMe && !(new.get s.stk.master).valid
  let linkOf := fun m : Nat => if (new.get m).valid && m != s.stkMe then (new.get m).link else via
  let links := sortNats (moved.map linkOf ++ if masterChanged then [linkOf master] else [])
  let s := { s with stk.members := new, stk.master := master }
  let s := s.setFld Reg.tbStatus 19 16 s.memberCount
  let s := links.foldl (fun t k => t.linkEvent k 2) s
  let s := if (masterChanged || masterLeft) && s.source == 4 then { s with tb.lossDue := true, stk.missed := 0 } else s
  s.deepPair masterChanged

/-! ### Link states (R701, R705) -/

/-- A link's state and refusal reason changed: the events, and, when it leaves service, the flush of its port and the
loss of what was learnt on it. -/
def State.setLinkState (s : State) (k st reason : Nat) : State :=
  let l := s.link k
  let s := s.setLink k { l with state := st, reason := if st = 2 then reason else 0, good := if st = 1 ∨ st = 3 then l.good else 0 }
  let s := if l.state ≠ st then s.linkEvent k 0 else s
  let s := if st = 2 ∧ (l.state ≠ 2 ∨ l.reason ≠ reason) then s.linkEvent k 1 else s
  if l.state = 3 ∧ st ≠ 3 then
    let s := s.flushPort (128 + k)
    let s := { s with stk.learnt := (List.range 8).foldl (fun t m => t.set (k * 8 + m) {}) s.stk.learnt }
    s.refreshTable k
  else s

/-- A lateral link brought into agreement with its port, EN and MODE (R698, R701). -/
def State.linkRefresh (s : State) (k : Nat) : State :=
  let l := s.link k
  if s.linkUp k then
    if l.state ≠ 0 then s
    else ((s.setLink k { l with good := 0 }).setLinkState k 1 0).setTx (128 + k) { s.tx (128 + k) with helloDue := true }
  else if l.state = 0 then s
  else
    let s := s.setLinkState k 0 0
    s.setLink k { s.link k with version := 0, good := 0, conflict := false }

/-- All four links brought into agreement, and the own entry of the table (R726). -/
def State.stackRefresh (s : State) : State := ((List.range 4).foldl (fun t k => t.linkRefresh k) s).refreshTable 0

/-! ### Hellos (R698–R700, R702, R703) -/

/-- The highest version both ranges hold, 0 where there is none (R702). -/
def commonVersion (lo1 hi1 lo2 hi2 : Nat) : Nat := if max lo1 lo2 ≤ min hi1 hi2 then min hi1 hi2 else 0

/-- Whether this member's hellos carry TIME_OK (R720). -/
def State.timeOk (s : State) : Bool :=
  (s.stk.master == s.stkMe && s.timeValid) || (s.source == 4 && s.tbState == 2)

/-- Departure time of a frame that starts now on a port (R225, R681). -/
def State.departure (s : State) (p : Nat) : Nat :=
  let g := groupOf p
  let u := subOf p
  unitsTs (tsUnits s.ts80 + (s.rd (Reg.txDelay g u)).toNat + signed (s.rd (Reg.txTrim g u)).toNat 32)

/-- One table entry of a hello. -/
def entryBytes (m : Nat) (e : Member) : List Byte :=
  if e.valid then beBytes e.serial 6 ++ [BitVec.ofNat 8 e.priority, BitVec.ofNat 8 (128 + m * 16 + e.hops)]
  else List.replicate 8 0

/-- The hello a member sends on a link (R699): entries learnt on that link are left out of its table. -/
def State.helloBytes (s : State) (k : Nat) : List Byte :=
  let l := s.link k
  let me := s.stkMe
  let refuse := l.state == 2
  let v1 := l.version == 1 || s.verMax == 1
  let time := fun t : Nat => beBytes (if v1 then 0 else t) 10
  let flags := b2n (s.stkMode == 2) * 128 + b2n s.timeOk * 64 + b2n refuse * 32
  beBytes 0x030000000001 6 ++ beBytes (0x020000000010 + me) 6 ++ beBytes 0x88B5 2 ++
    [BitVec.ofNat 8 (s.verMax * 16 + s.verMin), BitVec.ofNat 8 flags] ++
    beBytes (s.rd Reg.stkStackId).toNat 4 ++ beBytes s.fuses.serial 6 ++
    [BitVec.ofNat 8 s.stkPriority, BitVec.ofNat 8 (me * 16 + k)] ++ beBytes l.peerSerial 6 ++
    [BitVec.ofNat 8 ((if refuse then l.reason else 0) * 16 + l.peerLink), BitVec.ofNat 8 l.seqTx] ++
    time (s.departure (128 + k)) ++ time l.lastRx ++ time l.lastTx ++ [0, 0] ++
    (List.range 8).flatMap fun m =>
      let e := s.stk.members.get m
      if m ≠ me ∧ e.link = k then List.replicate 8 0 else entryBytes m e

/-- Whether a hello is due on a link that exchanges them: at the port's entry to state 5, and HELLO_MS after the last
(R698). -/
def State.helloDue (s : State) (k : Nat) : Bool :=
  s.linkUp k && ((s.tx (128 + k)).helloDue || s.helloMs * msUnit ≤ s.tb.run - (s.link k).helloAt)

/-- A hello is sent on a link: at the port's next frame boundary, ahead of every copy and behind a waiting PFC frame
(R698). -/
def execHelloSend (link : Nat) (s : State) : Out :=
  let p := 128 + link
  whenWf (link < 4)
    (occurs s (s.mayStart && s.helloDue link && (s.tx p).sending.isNone && (s.tx p).pfcDue.isEmpty)
      (let frame := withFcs (s.helloBytes link)
       let s := s.setTx p { s.tx p with helloDue := false, wire := frame, ended := some .terminate }
       let s := ((s.bump (portCtr p 8)).bump (portCtr p 9) frame.length).bump (Reg.stkLinkCnt link 0)
       s.setLink link { s.link link with seqTx := ((s.link link).seqTx + 1) % 256, helloAt := s.tb.run }))

/-- A hello read field by field. -/
structure Hello where
  verMax : Nat
  verMin : Nat
  deep : Bool
  timeOk : Bool
  refuse : Bool
  stackId : Nat
  serial : Nat
  priority : Nat
  member : Nat
  link : Nat
  tTx : Nat
  tRx : Nat
  tEcho : Nat
  table : List (Nat × Member)
  deriving DecidableEq, Repr, Inhabited

/-- The fields of a hello. -/
def readHello (f : List Byte) : Hello :=
  let b := fun i : Nat => (byteAt f i).toNat
  { verMax := b 14 / 16, verMin := b 14 % 16, deep := bitAt (b 15) 7, timeOk := bitAt (b 15) 6, refuse := bitAt (b 15) 5
    stackId := beNat (slice f 16 4), serial := beNat (slice f 20 6), priority := b 26, member := b 27 / 16 % 8
    link := b 27 % 4, tTx := beNat (slice f 36 10), tRx := beNat (slice f 46 10), tEcho := beNat (slice f 56 10)
    table := ((List.range 8).map fun i =>
      let e := slice f (68 + 8 * i) 8
      let c := (byteAt e 7).toNat
      (c / 16 % 8, { valid := bitAt c 7, serial := beNat (e.take 6), priority := (byteAt e 6).toNat, hops := c % 8, link := 0 })) }

/-- Whether a frame with EtherType 0x88B5 is a valid hello (R700). -/
def validHello (verdict : Nat) (f : List Byte) : Bool :=
  let b := fun i : Nat => (byteAt f i).toNat
  verdict == 0 && f.length == 136 && b 15 % 32 == 0 && b 27 / 128 == 0 && b 27 / 4 % 4 == 0 && b 34 / 4 % 4 == 0 &&
    (bitAt (b 15) 5 || b 34 / 16 == 0) && b 66 == 0 && b 67 == 0 && b 14 % 16 ≤ b 14 / 16

/-- Expected serial number of a link's peer, 0 for any. -/
def State.expSerial (s : State) (k : Nat) : Nat := (s.rd (Reg.stkExpSerial k)).toNat + s.fld (Reg.stkLinkCfg k) 15 0 * 2 ^ 32

/-- Whether a hello's table shows this member's number with another serial of better rank (R704). -/
def State.helloConflict (s : State) (h : Hello) : Bool :=
  h.table.any fun e => e.2.valid && e.1 == s.stkMe && e.2.serial != s.fuses.serial &&
    betterRank e.2.priority e.2.serial s.stkPriority s.fuses.serial

/-- The first failing check of R703, 0 when all pass. -/
def State.helloReason (s : State) (k : Nat) (h : Hello) : Nat :=
  let v := commonVersion s.verMin s.verMax h.verMin h.verMax
  let exp := s.expSerial k
  let expLink := s.fld (Reg.stkLinkCfg k) 23 16
  let deep := s.stkMode == 2
  let known := (presentIn s.stk.members).filter fun m => m != s.stkMe
  if h.serial = s.fuses.serial then 1
  else if h.stackId ≠ (s.rd Reg.stkStackId).toNat then 2
  else if (exp ≠ 0 ∧ exp ≠ h.serial) ∨ (expLink < 4 ∧ expLink ≠ h.link) then 3
  else if v = 0 then 4
  else if h.deep ≠ deep ∨ (deep ∧ v = 1) ∨ (deep ∧ known.any fun m => (s.stk.members.get m).serial != h.serial) then 5
  else if h.member = s.stkMe ∨ s.stk.isolated then 6
  else if 7 ≤ known.length ∧ !known.contains h.member then 7
  else if h.refuse then 8
  else 0

/-- The entries a hello on an in-service link brings; those it does not show stay until they expire (R706). -/
def State.learnTable (s : State) (k : Nat) (h : Hello) : State :=
  let t := (List.range 8).foldl (fun t m =>
    match h.table.find? fun e => e.2.valid && e.1 == m with
    | some e => if m = s.stkMe ∨ 7 < e.2.hops + 1 then t
                else t.set (k * 8 + m) { e.2 with hops := e.2.hops + 1, link := k }
    | none => t) s.stk.learnt
  { s with stk.learnt := t }.refreshTable k

/-- Difference of two TS80 values in 2^-16 ns, the nearer way round. -/
def tsDiff (a b : Nat) : Int :=
  let span : Int := 2 ^ 32 * 1000000000 * 65536
  let d := (tsUnits a - tsUnits b) % span
  if span / 2 ≤ d then d - span else d

/-- The time exchange of a hello received at `a2` (R720). -/
def State.timeExchange (s : State) (k : Nat) (h : Hello) (a2 : Nat) : State :=
  let l := s.link k
  if l.version ≠ 2 ∨ l.state ≠ 3 ∨ h.tEcho = 0 then s
  else
    let out := tsDiff h.tRx h.tEcho
    let back := tsDiff a2 h.tTx
    let offset := (out - back - signed (s.rd (Reg.stkAsym k)).toNat 32) / 2
    let delay := (out + back) / 2
    let s := s.wr (Reg.stkOffset k) (BitVec.ofNat 32 (unsigned (clampInt offset (-2147483647) 2147483647) 32))
    let s := s.wr (Reg.stkDelay k) (BitVec.ofNat 32 (clampInt delay 0 4294967295).toNat)
    if l.exSec = s.tb.sec + 1 then s else s.setLink k { s.link k with offset := offset, exSec := s.tb.sec + 1 }

/-- The peer's fields of a valid hello kept, and ISOLATED decided anew (R704): a member found isolated refuses every
lateral link. -/
def State.notePeer (s : State) (k : Nat) (h : Hello) (a2 : Nat) : State :=
  let inService := (s.link k).state == 3
  let was := s.stk.isolated
  let t := s.setLink k { s.link k with peerSerial := h.serial, peerMember := h.member, peerLink := h.link, peerTimeOk := h.timeOk
                                       conflict := s.helloConflict h
                                       version := commonVersion s.verMin s.verMax h.verMin h.verMax
                                       lastTx := h.tTx, lastRx := a2 }
  let now := ((List.range 4).any fun j => (t.link j).conflict) && (was || (s.helloConflict h && inService))
  let t := { t with stk.isolated := now }
  if now && !was then (List.range 4).foldl (fun u j => if (u.link j).state = 0 then u else u.setLinkState j 2 6) t else t

/-- One more consecutive valid hello that passed every check (R701): the third brings the link into service. -/
def State.helloPassed (s : State) (k : Nat) : State :=
  let t := if (s.link k).state = 2 then s.setLinkState k 1 0 else s
  let n := (t.link k).good + 1
  let t := t.setLink k { t.link k with good := n }
  if (t.link k).state = 1 ∧ 3 ≤ n then t.setLinkState k 3 0 else t

/-- A valid hello checked (R703), and its table and times taken on a link in service. -/
def State.checkHello (s : State) (k : Nat) (h : Hello) (a2 : Nat) : State :=
  let r := s.helloReason k h
  if r ≠ 0 then s.setLinkState k 2 r
  else
    let t := s.helloPassed k
    if (t.link k).state = 3 then (t.learnTable k h).timeExchange k h a2 else t

/-- A valid hello on a link: the peer's fields, the checks, the link state, the table, the time exchange. -/
def State.acceptHello (s : State) (k : Nat) (f : List Byte) (a2 : Nat) : State :=
  (s.notePeer k (readHello f) a2).checkHello k (readHello f) a2

/-- A frame with EtherType 0x88B5 on a lateral port ends at the STK block: a valid hello, or counted as bad (R700). -/
def execHelloReceive (link : Nat) (f : RxFrame) (s : State) : Out :=
  whenWf (link < 4 && f.lane < 8)
    (occurs s (s.begunUp (128 + link) f && etherType f.bytes == 0x88B5)
      (let verdict := s.rxVerdict (128 + link) f.bytes f.err
       let s := s.rxCount (128 + link) verdict f.bytes.length
       if validHello verdict f.bytes then
         let s := s.bump (Reg.stkLinkCnt link 1)
         if (s.link link).state = 0 then s else s.acceptHello link f.bytes (s.rxStamp (128 + link) f.ago f.lane)
       else (s.bump (Reg.stkLinkCnt link 2)).linkEvent link 3))

/-- HOLD × HELLO_MS passes with no valid hello on a link in service (R705). -/
def execHelloHoldExpire (link elapsedMs : Nat) (s : State) : Out :=
  whenWf (link < 4)
    (occurs s (s.coreUp && (s.link link).state == 3 && s.holdMs ≤ elapsedMs)
      (let s := s.setLink link { s.link link with good := 0 }
       s.setLinkState link 1 0))

/-- Whether some link's peer shows another serial with this member's number (R704). -/
def State.anyConflict (s : State) : Bool := (List.range 4).any fun k => (s.link k).conflict

/-- The entries that show another serial with this member's number gone from the table, and ISOLATED with them (R704). -/
def State.clearConflict (s : State) : State :=
  { (List.range 4).foldl (fun t k => t.setLink k { t.link k with conflict := false }) s with stk.isolated := false }

/-- A table entry that no hello has refreshed for HOLD × HELLO_MS is removed (R706); for this member's own number, the
conflicting entry of R704. -/
def execTableEntryExpire (member elapsedMs : Nat) (s : State) : Out :=
  let e := s.stk.members.get member
  let own := member == s.stkMe
  whenWf (member < 8)
    (occurs s (s.coreUp && (if own then s.anyConflict else e.valid) && s.holdMs ≤ elapsedMs)
      (if own then s.clearConflict
       else { s with stk.learnt := s.stk.learnt.set (e.link * 8 + member) {} }.refreshTable e.link))

/-- Whether this member takes its time from the master by the lateral time exchange (R721). -/
def State.stkFollows (s : State) : Bool := s.stkMode != 0 && s.stk.master != s.stkMe && s.source == 4

/-- Whether the first exchange of this second on the route link toward the master is done and may be delivered (R721). -/
def State.exchangeReady (s : State) : Bool :=
  let l := s.link (s.routeLink s.stk.master)
  s.stkFollows && s.stk.lastSecond != s.tb.sec + 1 && l.state == 3 && l.version == 2 && l.peerTimeOk && l.exSec == s.tb.sec + 1

/-- Once a second a member other than the master with SOURCE 4 delivers the offset of the first exchange on its route
link toward the master to the servo (R721). -/
def execStackMeasurement (s : State) : Out :=
  occurs s (s.coreUp && s.exchangeReady)
    ({ s with stk.lastSecond := s.tb.sec + 1, stk.missed := 0 }.servo (-(s.link (s.routeLink s.stk.master)).offset))

/-- A second of T has passed: one with no measurement is missed, and three in a row lose the master (R722). -/
def State.stackSecond (s : State) (ended : Nat) : State :=
  if !s.stkFollows ∨ s.stk.lastSecond = ended + 1 then s
  else { s with stk.missed := s.stk.missed + 1, tb.lossDue := s.tb.lossDue || s.stk.missed == 2 }

/-! ### Registers -/

/-- What follows from a write of an STK register (R726, R728). -/
def stkWritten (s : State) (a : Nat) : State :=
  if a = Reg.stkCtrl then s.stackRefresh
  else if Reg.stkLinkCfg 0 ≤ a ∧ a < Reg.stkLinkCfg 4 ∧ (a - Reg.stkLinkCfg 0) % 0x40 = 0 then
    s.linkRefresh ((a - Reg.stkLinkCfg 0) / 0x40)
  else s

/-- What the STK registers computed from its state read (R727, R728). -/
def stkLive (s : State) (a : Nat) : Option Nat :=
  if a = Reg.stkStatus then
    let ms := if s.stkMode = 0 then [] else presentIn s.stk.members
    some (s.stk.master * 2 ^ 29 + b2n (s.stk.master == s.stkMe) * 2 ^ 28 + s.memberCount * 2 ^ 24 +
      (ms.map fun m => 2 ^ (16 + m)).sum + b2n s.stk.isolated * 2 ^ 15 + b2n s.stk.paired * 2 ^ 14)
  else if Reg.stkMemberLo 0 ≤ a ∧ a < Reg.stkMemberLo 8 then
    let e := s.stk.members.get ((a - Reg.stkMemberLo 0) / 8)
    if !e.valid then some 0
    else if a % 8 = 0 then some (e.serial % 2 ^ 32)
    else some (2 ^ 31 + e.hops * 2 ^ 28 + e.link * 2 ^ 26 + e.priority * 2 ^ 16 + e.serial / 2 ^ 32)
  else if Reg.stkRoute 0 ≤ a ∧ a < Reg.stkRoute 8 then
    let m := (a - Reg.stkRoute 0) / 4
    let ovr := s.bit a 31
    some (b2n ovr * 2 ^ 31 + b2n (s.routeTo m).isSome * 2 ^ 30 + if ovr then s.fld a 1 0 else (s.stk.members.get m).link)
  else if Reg.stkLinkCfg 0 ≤ a ∧ a < Reg.stkLinkCfg 4 then
    let k := (a - Reg.stkLinkCfg 0) / 0x40
    let l := s.link k
    if a = Reg.stkLinkStat k then
      some (l.state * 2 ^ 30 + l.version * 2 ^ 28 + l.reason * 2 ^ 24 + l.peerLink * 2 ^ 22 + l.peerMember * 2 ^ 18 +
        b2n l.peerTimeOk * 2 ^ 17 + l.peerSerial / 2 ^ 32)
    else if a = Reg.stkPeerSerial k then some (l.peerSerial % 2 ^ 32)
    else none
  else none

end Sys2Proof.Machine
end

