-- ==== Sys2Proof/Machine/EgressForm.lean ====
section
/-! DEFINITION. The bytes a copy leaves with: STAMP edits, ECN marks, the one-step transparent clock and the FCS
(R477–R482, R640, R641, R676–R682). -/
namespace Sys2Proof.Machine

/-- Departure time of a frame that starts now on a port, in 2^-16 ns since the epoch: corrected on P0–P131 (R225,
R480). -/
def State.departUnits (s : State) (p : Nat) : Nat :=
  let now := (s.tb.sec * 1000000000 + s.tb.ns) * 65536 + s.tb.frac / 2 ^ 32
  if 132 ≤ p then now
  else
    let d := (s.rd (Reg.txDelay (groupOf p) (subOf p))).toNat
    (((now + d : Nat) : Int) + signed (s.rd (Reg.txTrim (groupOf p) (subOf p))).toNat 32).toNat

/-- The ten bytes a STAMP edit writes (R480). -/
def stampOf (units : Nat) : List Byte :=
  beBytes (units / 65536 / 1000000000) 6 ++ beBytes (units / 65536 % 1000000000) 4

/-- The incremental checksum update of R467 for one 16-bit word. -/
def csumWord (c old new : Nat) : Nat := 65535 - onesFold ((65535 - c) + 65535 + (65535 - old) + new)

/-- A 16-bit word of a frame, in network byte order. -/
def word16 (f : List Byte) (o : Nat) : Nat := beNat (slice f o 2)

/-- A frame with bytes replaced. -/
def putAt (f : List Byte) (o : Nat) (bs : List Byte) : List Byte := f.take o ++ bs ++ f.drop (o + bs.length)

/-! ### ECN (R641) -/

/-- The frame after the mark at header offset `o`, and whether it counts as marked. -/
def ecnMark (f : List Byte) (o : Nat) : List Byte × Bool :=
  let v := (byteAt f o).toNat / 16
  let b1 := (byteAt f (o + 1)).toNat
  if (v = 4 ∧ o + 20 ≤ f.length ∧ b1 % 4 = 3) ∨ (v = 6 ∧ o + 40 ≤ f.length ∧ b1 / 16 % 4 = 3) then (f, true)
  else if v = 4 ∧ o + 20 ≤ f.length ∧ b1 % 4 ≠ 0 then
    let old := word16 f o
    let new := old / 4 * 4 + 3
    (putAt (putAt f o (beBytes new 2)) (o + 10) (beBytes (csumWord (word16 f (o + 10)) old new) 2), true)
  else if v = 6 ∧ o + 40 ≤ f.length ∧ b1 / 16 % 4 ≠ 0 then
    (putAt f (o + 1) [BitVec.ofNat 8 (b1 / 64 * 64 + 48 + b1 % 16)], true)
  else (f, false)

/-- A chosen copy marked at transmission and counted (R641, R654). -/
def State.markEcn (s : State) (c : Copy) (f : List Byte) : List Byte × State :=
  if !c.ecn then (f, s)
  else
    let p := s.pkt c.pkt
    let k := s.fld Reg.schCtrl 3 0
    match if bitAt p.ovalid k then movedOffset p.edits (p.ofs.get k) else none with
    | none => (f, s.bump (Reg.schCnt c.port 1))
    | some o =>
      let r := ecnMark f o
      (r.1, s.bump (Reg.schCnt c.port (if r.2 then 0 else 1)))

/-! ### The one-step transparent clock (R676–R682) -/

/-- Offsets of the PTP and UDP headers of an edited copy, and which UDP a copy carries: none for layer 2, 4 or 6. -/
structure PtpPlace where
  ptp : Nat
  udp : Option (Nat × Nat)
  deriving DecidableEq, Repr, Inhabited

/-- Where a copy's PTP header stands after its edits; none when the copy carries no PTP_EVENT (R481). -/
def State.ptpPlace (s : State) (c : Copy) : Option PtpPlace :=
  let p := s.pkt c.pkt
  let edits := if c.edited then p.edits else []
  if !bitAt p.flags 2 then none
  else match movedOffset edits (p.ofs.get 13) with
    | none => none
    | some o =>
      let v := if bitAt p.flags 3 then 4 else if bitAt p.flags 4 then 6 else 0
      match v, movedOffset edits (p.ofs.get 12) with
      | 0, _ => some ⟨o, none⟩
      | _, none => some ⟨o, none⟩
      | v, some u => some ⟨o, some (u, v)⟩

/-- Whether a mode corrects a message type (R677). -/
def ptpCorrects (mode ty : Nat) : Bool := (mode == 1 && ty < 4) || (mode == 2 && ty == 0)

/-- The tests of R676, and the UDP/IPv6 checksum of R680. -/
def State.ptpTests (s : State) (c : Copy) (f : List Byte) (x : PtpPlace) : Bool :=
  let e := min 256 f.length
  c.port < 132 && (!c.siphon || c.edited) && x.ptp + 16 ≤ e &&
    (match x.udp with | some (u, _) => decide (u + 8 ≤ e) | none => true) &&
    (byteAt f (x.ptp + 1)).toNat % 16 == 2 &&
    ptpCorrects (s.fld Reg.tbPtpCtrl 1 0) ((byteAt f x.ptp).toNat % 16) &&
    (match x.udp with | some (u, 6) => decide (word16 f (u + 6) ≠ 0) | _ => true)

/-- The new correctionField, and whether the sum overflowed (R678). -/
def newCorrection (old add : Int) : Int × Bool :=
  let limit : Int := 2 ^ 63 - 1
  if old = limit then (limit, false)
  else if limit < old + add ∨ old + add < -limit - 1 then (limit, true)
  else (old + add, false)

/-- The UDP checksum repaired after the correctionField at `o` changed from `old` to `new` (R680). -/
def repairUdp (zero : Bool) (f : List Byte) (old new : List Byte) : Option (Nat × Nat) → List Byte
  | none => f
  | some (u, v) =>
    let c := word16 f (u + 6)
    if v = 4 ∧ zero then putAt f (u + 6) [0, 0]
    else if c = 0 then f
    else
      let c := (List.range 4).foldl (fun c i =>
        let a := word16 old (2 * i)
        let b := word16 new (2 * i)
        if a = b then c else csumWord c a b) c
      putAt f (u + 6) (beBytes (if c = 0 then 65535 else c) 2)

/-- What is added to the correctionField: the residence and, in peer-to-peer mode, PEER_DELAY; for a packet from P132
the fraction its STAMP dropped (R677–R679). -/
def State.ptpAdd (s : State) (c : Copy) (units : Nat) : Int :=
  let p := s.pkt c.pkt
  if p.origin = 132 then ((units % 65536 : Nat) : Int)
  else
    let span := 2 ^ 32 * 1000000000 * 65536
    let dep := unitsTs ((units % span : Nat) : Int)
    tsDiff dep p.ts80 + (if s.fld Reg.tbPtpCtrl 1 0 = 2 then (s.rd (Reg.tbPeerDelay p.origin)).toNat else 0)

/-- The corrected frame of a copy that passes the tests, with the counters (R696). -/
def State.ptpApply (s : State) (c : Copy) (f : List Byte) (x : PtpPlace) (units : Nat) : List Byte × State :=
  let p := s.pkt c.pkt
  let old := slice f (x.ptp + 8) 8
  let v := signed (beNat old) 64
  if v = 2 ^ 63 - 1 then (f, s)
  else
    let r := newCorrection v (s.ptpAdd c units)
    let new := beBytes (unsigned r.1 64) 8
    let g := repairUdp (s.bit Reg.tbPtpCtrl 2) (putAt f (x.ptp + 8) new) old new x.udp
    let s := s.bump (Reg.tbCnt 0)
    let s := if r.2 then s.bump (Reg.tbCnt 2) else s
    (g, if p.origin ≠ 132 ∧ p.steps ≠ s.ctr (Reg.tbCnt 4) then s.bump (Reg.tbCnt 3) else s)

/-- The correctionField update of a copy (R676–R680). -/
def State.ptpUpdate (s : State) (c : Copy) (f : List Byte) (units : Nat) : List Byte × State :=
  match s.ptpPlace c with
  | none => (f, s)
  | some x =>
    let p := s.pkt c.pkt
    let stamped := c.edited && p.edits.any fun e => e.kind == .stamp
    if p.origin = 132 ∧ !stamped then (f, s)
    else if s.ptpTests c f x then s.ptpApply c f x units
    else (f, s.bump (Reg.tbCnt 1))

/-- A copy as it is sent: edits with the departure time, the ECN mark, the correctionField, the stack header or the
cut; without padding and FCS. -/
def State.sendForm (s : State) (c : Copy) : List Byte × State :=
  let units := s.departUnits c.port
  let a := s.markEcn c (s.editedCopy c (stampOf units))
  let b := a.2.ptpUpdate c a.1 units
  (s.finishForm c b.1, b.2)

end Sys2Proof.Machine
end

