-- ==== Sys2Proof/Machine/Ports.lean ====
section
/-! DEFINITION. Front and lateral ports: link states, what a port going up or down does, the end of a received frame,
priority flow control, and the port-group registers (R195–R240, R873). -/
namespace Sys2Proof.Machine

/-! ### Link state (R204–R209) -/

/-- State of a port. -/
def State.portState (s : State) (p : Nat) : Nat := (s.ports.get p).state

/-- The state with a port changed. -/
def State.modPort (s : State) (p : Nat) (f : Port → Port) : State := { s with ports := s.ports.mod p f }

/-- Cage of a group: its own number (R82). Its fuse is on, its optic answers CMIS (R32), its SerDes are calibrated
(R136, R138) and its clock is not gated (R204). -/
def State.groupPowered (s : State) (g : Nat) : Bool :=
  (s.supply.cages.get g).fuse == .on && (s.supply.cages.get g).cmis && s.boot.calibrated.contains g && !s.bit Reg.clkPgGate g

/-- Loopback mode as it acts: 4–7 act as 0; with PRBS on, 1 and 3 act as 0 (R866, R868). -/
def State.loopMode (s : State) (g : Nat) : Nat :=
  let m := s.fld (Reg.pgLoopback g) 2 0
  if 4 ≤ m then 0 else if s.bit (Reg.pgPrbsCtrl g) 31 ∧ (m = 1 ∨ m = 3) then 0 else m

/-- Whether a group's ports are held in state 1 (R866, R868). -/
def State.groupHeld (s : State) (g : Nat) : Bool := s.bit (Reg.pgPrbsCtrl g) 31 || s.loopMode g == 3

/-- LINK_UP_MS in force. -/
def State.linkUpMs (s : State) (p : Nat) : Nat := max 1 (s.fld (portCtrlOf p) 23 16)

/-- The event of a port entering or leaving state 5 (R205). -/
def State.linkChg (s : State) (p : Nat) : State := s.setEvent (Reg.pgEvents (groupOf p)) (subOf p) (64 + groupOf p)

/-- What follows from a port's link state for a lateral link. -/
def State.lateral (s : State) (p : Nat) : State := if 128 ≤ p then s.linkRefresh (p - 128) else s

/-- A tail verdict delivered to the flow engine: every context of the packet has it (R546). -/
def State.flowVerdict (s : State) (pkt v : Nat) : State :=
  { s with flow.insts := ⟨s.flow.insts.entries.map fun e =>
      if e.2.live && e.2.pkt == pkt && e.2.verdict.isNone then (e.1, { e.2 with verdict := some v }) else e⟩ }

/-- A tail verdict delivered for a packet (R210, R213): the switch core, the flow engine, the staged learns. -/
def State.deliverVerdict (s : State) (pkt v : Nat) : State :=
  ((s.pktVerdict pkt v).flowVerdict pkt v).learnVerdicts pkt (v == 0)

/-- A frame that ended early: its packet holds its first `n` bytes. -/
def State.cutFrame (s : State) (pkt n : Nat) : State := s.setPkt pkt { s.pkt pkt with bytes := (s.pkt pkt).bytes.take n }

/-- A frame is no longer being received on a port. -/
def State.endArriving (s : State) (p pkt : Nat) : State :=
  s.modPort p fun q => { q with receiving := q.receiving.filter (fun n => n != pkt), arriving := q.arriving.set pkt default }

/-- Every frame being received on a port ends with verdict 6, or with that of an error met in the part received, which is
what its cells hold (R209, R210). -/
def State.endReceiving (s : State) (p : Nat) : State :=
  (s.ports.get p).receiving.foldl (fun t i =>
    let v := errVerdict ((t.ports.get p).arriving.get i).err 6
    (((t.endArriving p i).rxCount p v 0).cutFrame i (256 * (t.pkt i).cells.length)).deliverVerdict i v) s

/-- Leaving state 5, to `st`: the event, the count, the flush of the port's queues, the SyncE clock (R205, R207, R208,
R664). -/
def State.leaveUp (s : State) (p st : Nat) : State :=
  let s := (s.modPort p fun q => { q with state := st, calValid := false, linkDowns := satNat (q.linkDowns + 1) 65535 }).linkChg p
  let s := s.flushPort p
  let s := s.setTx p { s.tx p with pfcDue := [] }
  let s := if freqSourceOf (s.rd Reg.tbCtrl) = (2, p) then s.pllHold else s
  s.lateral p

/-- A port goes down, to state 0 or 1. -/
def State.portFall (s : State) (p st : Nat) : State :=
  let old := s.portState p
  let s := if old = 5 then s.leaveUp p st else s.modPort p fun q => { q with state := st }
  let s := s.modPort p fun q => { q with remoteFault := false, lockLost := false }
  if old = 5 ∨ old = 6 then s.endReceiving p else s

/-- A port brought into agreement with EN, its group's supply, clock and holds (R204): state 0 while it may not run. -/
def State.portRefresh (s : State) (p : Nat) : State :=
  let g := groupOf p
  let may := s.portExists p && s.bit (portCtrlOf p) 31 && s.groupPowered g
  if !may then (if s.portState p = 0 then s else s.portFall p 0)
  else if s.portState p = 0 then s.modPort p fun q => { q with state := 1 }
  else if s.groupHeld g ∧ s.portState p ≠ 1 then s.portFall p 1
  else s

/-- Every port of a group. -/
def State.groupRefresh (s : State) (g : Nat) : State := (s.groupPorts g).foldl (fun t p => t.portRefresh p) s

/-- Bring-up of every port of a group starts again: from state 1 where the port may run. -/
def State.groupRestart (s : State) (g : Nat) : State :=
  (s.groupPorts g).foldl (fun t p => (if t.portState p ≤ 1 then t else t.portFall p 1).portRefresh p) s

/-- Lanes of a port: the first and how many (R30, R31). -/
def State.lanesOf (s : State) (p : Nat) : Nat × Nat := (subOf p, 8 / (subPorts (s.cageMode (groupOf p))).length)

/-- The measurements of R224 at an entry to state 5. -/
def State.measureDelays (s : State) (p : Nat) (m : LinkMeasure) : State :=
  let g := groupOf p
  let u := subOf p
  let s := s.modPort p fun q => { q with skews := m.skews }
  ((s.wr (Reg.rxDelay g u) (BitVec.ofNat 32 m.rxDelay)).wr (Reg.skewMax g u) (BitVec.ofNat 32 (m.skews.foldl max 0))).wr
    (Reg.txDelay g u) (BitVec.ofNat 32 m.txDelay)

/-- A port enters state 5 with the delays it measured: a port generating PFC whose state is XOFF owes a frame (R643),
and a lateral link starts its hellos (R698). -/
def State.enterUp (s : State) (p : Nat) (m : LinkMeasure) : State :=
  let loop := s.loopMode (groupOf p)
  let s := s.measureDelays p m
  let s := (s.modPort p fun q => { q with state := 5, upRun := if q.state = 4 then s.tb.run else q.upRun, remoteFault := false, calValid := loop != 1 && loop != 2 }).linkChg p
  let s := if s.bit (Reg.schPfcCfg p) 31 && s.bit (Reg.schPfcStat p) 31 then s.owePfc p true else s
  s.lateral p

/-- Signal is detected on every lane of a waiting port: Clause 73 follows on a copper cable with AN on, else alignment,
with nothing resolved at this link-up (R196, R204, R232). -/
def execSignalDetect (port : Nat) (copper : Bool) (s : State) : Out :=
  whenWf (port < 132)
    (occurs s (s.coreUp && s.portState port == 1 && !s.groupHeld (groupOf port))
      (if copper && s.fld (Reg.pgCtrl (groupOf port)) 17 16 == 1 then s.modPort port fun q => { q with state := 2 }
       else (s.setBit (Reg.pgStatus (groupOf port)) 18 false).modPort port fun q => { q with state := 3 }))

/-- Clause 73 and training complete; a partner that resolves to another ability than the cage mode's gets no link
(R197). -/
def execAnComplete (port ability : Nat) (s : State) : Out :=
  whenWf (port < 132)
    (occurs s (s.coreUp && s.portState port == 2 && ability == s.cageMode (groupOf port))
      ((s.setBit (Reg.pgStatus (groupOf port)) 18 true).modPort port fun q => { q with state := 3 }))

/-- LANE_MAP with the physical lanes of a port's logical lanes recorded (R202, R235). -/
def putLanes (w : Word) (first : Nat) : List Nat → Word
  | [] => w
  | l :: r => putLanes (Wput w (3 * first + 2) (3 * first) l) (first + 1) r

/-- REVERSED and PERMUTED of a group from its lane map. -/
def State.laneOrder (s : State) (g : Nat) : State :=
  let m := s.fld (Reg.pgLaneMap g) 23 0
  let straight := 0xFAC688
  let reversed := 0x053977
  (s.setBit (Reg.pgStatus g) 16 (m == reversed)).setBit (Reg.pgStatus g) 17 (m != straight && m != reversed)

/-- FEC and alignment-marker lock on every lane, or lock found again in the debounce: polarity and lane order are recorded
(R200, R202, R235). -/
def execAlignmentLock (port : Nat) (m : LinkMeasure) (s : State) : Out :=
  let g := groupOf port
  whenWf (port < 132)
    (let (f, n) := s.lanesOf port
     occurs s (s.coreUp && (s.portState port == 3 || (s.portState port == 4 && (s.ports.get port).lockLost)) && m.laneMap.length == n && m.laneMap.all fun l => f ≤ l && l < f + n)
      (let s := s.setFld (Reg.pgStatus g) (8 + f + n - 1) (8 + f) (bitsOf m.rxInv (f + n - 1) f)
       let s := (s.wr (Reg.pgLaneMap g) (putLanes (s.rd (Reg.pgLaneMap g)) f m.laneMap)).laneOrder g
       s.modPort port fun q => { q with state := 4, lockLost := false }))

/-- What the FEC decoder of a port counted (R234, R240). -/
def State.fecCount (s : State) (p : Nat) (n : FecCounts) : State :=
  let g := groupOf p
  let s := ((s.bump (portCtr p 13) n.corrCw).bump (portCtr p 14) n.uncorrCw).bump (portCtr p 15) n.corrSym
  s.portAlarm p (200 + p) n.uncorrCw (s.fld (Reg.pgAlarmThresh g) 15 0) (8 + subOf p)

/-- Lock held without fault for LINK_UP_MS: the port is up, and the codewords decoded in the debounce are counted (R873). -/
def execDebounceExpire (port heldMs : Nat) (m : LinkMeasure) (fec : FecCounts) (s : State) : Out :=
  whenWf (port < 132)
    (occurs s (s.coreUp && s.portState port == 4 && !(s.ports.get port).remoteFault && !(s.ports.get port).lockLost &&
        s.linkUpMs port ≤ heldMs)
      ((s.fecCount port fec).enterUp port m))

/-- A remote fault is received: an up port moves to state 6; in state 4 it holds the debounce. -/
def execRemoteFault (port : Nat) (s : State) : Out :=
  whenWf (port < 132)
    (occurs s (s.coreUp && (s.portState port == 4 || s.portState port == 5 || s.portState port == 6))
      ((if s.portState port = 5 then s.leaveUp port 6 else s).modPort port fun q => { q with remoteFault := true }))

/-- A remote fault has cleared: for LINK_UP_MS, an up port returns to state 5; in state 4 the debounce goes on. -/
def execRemoteFaultClear (port heldMs : Nat) (m : LinkMeasure) (s : State) : Out :=
  whenWf (port < 132)
    (occurs s (s.coreUp && (s.ports.get port).remoteFault && (s.portState port == 4 || s.linkUpMs port ≤ heldMs))
      (if s.portState port = 6 then s.enterUp port m else s.modPort port fun q => { q with remoteFault := false }))

/-- Lock is lost, or a local fault persists: the port goes down to state 1; in state 4 the debounce waits until lock is
found again (R204). -/
def execLinkLoss (port : Nat) (s : State) : Out :=
  whenWf (port < 132)
    (occurs s (s.coreUp && 4 ≤ s.portState port && s.portState port ≤ 6)
      (if s.portState port = 4 then s.modPort port fun q => { q with lockLost := true } else s.portFall port 1))

/-! ### What a port that sends no frame puts on the line (R206) -/

/-- Idles: plain, or with local fault indicated. -/
inductive Idles where
  | plain
  | localFault
  deriving DecidableEq, Repr, Inhabited

/-- The idles a port sends: in states 1, 3 and 4 with local fault indicated. -/
def State.idles (s : State) (p : Nat) : Idles := if [1, 3, 4].contains (s.portState p) then .localFault else .plain

/-! ### The end of a received frame (R210–R214, R240) -/

/-- Whether a frame is a MAC Control frame of an opcode. -/
def macControl (op : Nat) (f : List Byte) : Bool := etherType f == 0x8808 && beNat (slice f 14 2) == op

/-- The tail of a frame that Headgate admitted: its last cells taken, and its verdict delivered (R210, R569). -/
def State.admittedTail (s : State) (t : TailIn) (i : Nat) : State :=
  let f := (s.ports.get t.port).arriving.get i
  let v := s.rxVerdict t.port f.bytes (lowerErr f.err t.err)
  let s := ((s.endArriving t.port i).rxCount t.port v f.bytes.length).fecCount t.port t.fec
  let s := if v = 4 then s.cutFrame i (s.maxFrame t.port) else s
  let was := (s.pkt i).incomplete
  let s := takeRest (cellsOf (s.pkt i).bytes.length) s i
  let s := if (s.pkt i).incomplete && !was then s.incompleteAfter i else s
  s.deliverVerdict i v

/-- The tail of a frame that no packet holds: shorter than 64 B, refused at admission, or a MAC Control frame without
effect (R212, R214). -/
def State.otherTail (s : State) (t : TailIn) : State :=
  let v := s.rxVerdict t.port t.frame.bytes (lowerErr t.frame.err t.err)
  (s.rxCount t.port v t.frame.bytes.length).fecCount t.port t.fec

/-- The ingress MAC delivers a frame's tail verdict. -/
def execTailVerdict (t : TailIn) (s : State) : Out :=
  whenWf (t.port < 132 && t.frame.lane < 8)
    (match t.pkt with
     | some i => occurs s (s.receives t.port && (s.ports.get t.port).receiving.contains i) (s.admittedTail t i)
     | none =>
       occurs s (s.begunUp t.port t.frame && !macControl 1 t.frame.bytes && !macControl 0x101 t.frame.bytes &&
           !(128 ≤ t.port && etherType t.frame.bytes == 0x88B5))
         (s.otherTail t))

/-! ### Priority-based flow control (R198, R214, R221–R223) -/

/-- The classes a PFC frame enables, each with its time value in quanta, put in force. -/
def pfcPauses (f : List Byte) (paused : SMap Nat) : SMap Nat :=
  (setBits (byteAt f 17).toNat 8).foldl (fun m n => m.set n (beNat (slice f (18 + 2 * n) 2))) paused

/-- A PFC frame ends at the MAC; a good one, with PFC_EN, pauses or resumes the classes it enables. -/
def execPfcFrameReceive (port : Nat) (f : RxFrame) (s : State) : Out :=
  whenWf (port < 132 && f.lane < 8)
    (occurs s (s.begunUp port f && macControl 0x101 f.bytes)
      (let v := s.rxVerdict port f.bytes f.err
       let s := (s.rxCount port v f.bytes.length).bump (portCtr port 6)
       if v = 0 ∧ s.bit (portCtrlOf port) 29 then s.modPort port fun q => { q with paused := pfcPauses f.bytes q.paused }
       else s))

/-- A PAUSE frame is counted and discarded. -/
def execPauseFrameReceive (port : Nat) (f : RxFrame) (s : State) : Out :=
  whenWf (port < 132 && f.lane < 8)
    (occurs s (s.begunUp port f && macControl 1 f.bytes)
      ((s.rxCount port (s.rxVerdict port f.bytes f.err) f.bytes.length).bump (portCtr port 7)))

/-- A class's pause time, counted in quanta from the end of the frame that set it, runs out, and the class resumes. -/
def execPfcPauseExpire (port cls quanta : Nat) (s : State) : Out :=
  whenWf (port < 132 && cls < 8)
    (occurs s (s.coreUp && (s.ports.get port).paused.get cls != 0 && decide ((s.ports.get port).paused.get cls ≤ quanta))
      (s.modPort port fun q => { q with paused := q.paused.set cls 0 }))

/-! ### Registers (R229–R240) -/

/-- Every per-sub-port register of a group at its reset value (R231). -/
def State.resetSubPorts (s : State) (g : Nat) : State :=
  let lo := Reg.portCtrl g 0
  let keep := fun a : Nat => a < lo || lo + 0x1000 ≤ a
  { s with regs := ⟨s.regs.entries.filter fun e => keep e.1⟩
           ctrs := ⟨s.ctrs.entries.filter fun e => keep e.1⟩
           ports := (List.range 8).foldl (fun m i => m.set (portOf g i) {}) s.ports }

/-- A write of PG.CTRL (R230, R231). -/
def writePgCtrl (s : State) (g : Nat) (v : Word) : State :=
  let old := s.rd (Reg.pgCtrl g)
  let t := s.storeRw (Reg.pgCtrl g) v
  let new := t.rd (Reg.pgCtrl g)
  if Wbits old 1 0 ≠ Wbits new 1 0 then
    let u := (s.groupPorts g).foldl (fun u p => u.portFall p 0) s
    let u := (u.storeRw (Reg.pgCtrl g) v).resetSubPorts g
    if Wbits new 1 0 = 3 then (u.wr (Reg.pgLaneMap g) 0xFAC688#32).laneOrder g else u
  else if Wbits old 17 8 ≠ Wbits new 17 8 then t.groupRestart g
  else t

/-- A PG.CTRL write. -/
def execPgCtrlWrite (acc group : Nat) (v : Word) (s : State) : Out :=
  writeRow (acc < 7 && group < 20) acc (Reg.pgCtrl group) true (fun t => writePgCtrl t group v) s

/-- A write of a port's PORT_CTRL (R236); a sub-port that names no port in the current mode ignores it (R229). -/
def writePortCtrl (s : State) (p : Nat) (v : Word) : State :=
  if !s.portExists p then s
  else
    let t := s.storeRw (portCtrlOf p) v
    let t := if t.bit (portCtrlOf p) 29 then t else t.modPort p fun q => { q with paused := {} }
    t.portRefresh p

/-- A PORT_CTRL write. -/
def execPortCtrlWrite (acc port : Nat) (v : Word) (s : State) : Out :=
  writeRow (acc < 7 && port < 132) acc (portCtrlOf port) true (fun t => writePortCtrl t port v) s

/-- What the port registers computed from its state read (R232, R237, R239). -/
def portsLive (s : State) (a : Nat) : Option Nat :=
  if a < 0x100000 ∨ 0x150000 ≤ a then none
  else
    let g := (a - 0x100000) / 0x4000
    let o := (a - 0x100000) % 0x4000
    if o = 4 then
      let up := (List.range 8).filter fun i => s.portExists (portOf g i) && (g < 16 || i == 0) && s.portState (portOf g i) == 5
      some (s.fld a 31 8 * 256 + (up.map fun i => 2 ^ i).sum)
    else if o < 0x1000 ∨ 0x2000 ≤ o then none
    else
      let u := (o - 0x1000) / 0x200
      let p := portOf g u
      if (16 ≤ g ∧ u ≠ 0) ∨ !s.portExists p then some 0
      else
        let q := s.ports.get p
        if a = Reg.portStat g u then
          some (b2n (q.state == 5) * 2 ^ 31 + q.state * 2 ^ 28 + b2n q.calValid * 2 ^ 27 + q.linkDowns)
        else if a = Reg.pfcStat g u then some (((List.range 8).filter fun c => q.paused.get c != 0).map fun c => 2 ^ c).sum
        else none

end Sys2Proof.Machine
end

