-- ==== Sys2Proof/Machine/Egress.lean ====
section
/-! DEFINITION. Egress scheduling: eligibility, the three tiers, Sluices, transmission, PFC generation and sampling
(R592, R627–R654). -/
namespace Sys2Proof.Machine

/-! ### Eligible queues (R577, R592, R621, R628, R632, R633, R809) -/

/-- Whether a stored copy may be served: its packet's good verdict has arrived. -/
def State.copyReady (s : State) (i : Nat) : Bool := (s.pkt (s.copy i).pkt).verdict == some 0

/-- Ingress buffers in the order of a port's rotating pointer: after it first (R592). -/
def State.bufferOrder (s : State) (p : Nat) : List Nat := (List.range 21).map fun i => (s.qm.bufPtr.get p + i) % 21

/-- The copy a queue would send next: from the ingress buffers while any holds a copy of the queue, else from the
Reservoir (R592, R594). -/
def State.queueHead (s : State) (p q : Nat) : Option Nat :=
  let bufs := (s.bufferOrder p).filter fun g => s.qm.voqs.get (voqKey g p q) != []
  if bufs = [] then
    match s.qm.queues.get (qKey p q) with
    | i :: _ => if s.copyReady i then some i else none
    | [] => none
  else
    match bufs.find? fun g => (s.qm.voqs.get (voqKey g p q)).head?.any s.copyReady with
    | some g => (s.qm.voqs.get (voqKey g p q)).head?
    | none => none

/-- Whether a queue holds any copy. -/
def State.queueHolds (s : State) (p q : Nat) : Bool :=
  s.qm.queues.get (qKey p q) != [] || (List.range 21).any fun g => s.qm.voqs.get (voqKey g p q) != []

/-- Whether a queue's class is paused (R221–R223). -/
def State.queuePaused (s : State) (p q : Nat) : Bool := p < 132 && q < 8 && (s.ports.get p).paused.get q != 0

/-- Credit of a Sluice; one that is not active never holds anything back (R635). -/
def State.sluiceOpen (s : State) (i : Nat) : Bool := !s.sluiceOn i || decide (0 ≤ s.sch.credit.get i)

/-- Whether the receive channel of P132 queue `q` has room (R809). -/
def State.rxRoom (s : State) (q : Nat) : Bool :=
  let c := s.dma.chans.get (s.fld (Reg.dmaRxmap q) 4 0)
  s.bit (Reg.dmaRxmap q) 31 && c.state == 1 && c.kind == 1 && c.phase == .beats && c.copy.isNone

/-- Whether Headgate group 20 takes a P133 copy (R632). -/
def State.culvertRoom (s : State) : Bool :=
  (s.headers 20).length < queueSize 20 && s.portHeaders 133 < s.portLimit 20

/-- The copy an eligible queue sends next. -/
def State.eligible (s : State) (p q : Nat) : Option Nat :=
  if s.queuePaused p q || !s.sluiceOpen (670 + 12 * p + q) || (p == 132 && !s.rxRoom q) ||
      ((s.tx p).cut.any fun i => (s.copy i).queue == q) then none
  else s.queueHead p q

/-! ### Deficit round robin (R630, R631) -/

/-- One tier: its members in ascending order, each with the charge of its next copy when it is eligible and whether it
holds copies. -/
structure Member' where
  id : Nat
  charge : Option Nat
  holds : Bool
  quantum : Nat
  deriving DecidableEq, Repr, Inhabited

/-- What a tier's choice leaves: the member, the deficits and the pointer (the member after which the rotation goes on,
plus 1; 0 before the first). -/
structure TierChoice where
  id : Nat
  deficit : SMap Int
  ptr : Nat
  deriving DecidableEq, Repr, Inhabited

/-- The members in rotation order after a pointer. -/
def rotateAfter (ms : List Member') (ptr : Nat) : List Member' :=
  (ms.filter fun m => ptr ≤ m.id) ++ (ms.filter fun m => m.id < ptr)

/-- The rotation: each member reached gains its quantum when eligible and sends while its deficit covers its next
charge; one that holds nothing loses its deficit. The first argument bounds the turns. -/
def drrWalk (key : Nat → Nat) : Nat → List Member' → List Member' → SMap Int → Option TierChoice
  | 0, _, _, _ => none
  | n + 1, all, [], d => drrWalk key n all all d
  | n + 1, all, m :: r, d =>
    match m.charge with
    | none => drrWalk key n all r (if m.holds then d else d.set (key m.id) 0)
    | some c =>
      let v := d.get (key m.id) + m.quantum
      if (c : Int) ≤ v then some ⟨m.id, d.set (key m.id) (v - c), m.id + 1⟩
      else drrWalk key n all r (d.set (key m.id) v)

/-- The choice of a weighted tier: the member the pointer is at goes on while its deficit suffices. -/
def drrChoose (key : Nat → Nat) (ms : List Member') (ptr : Nat) (d : SMap Int) : Option TierChoice :=
  if ms.all fun m => m.charge.isNone then none
  else
    let go := drrWalk key 4096 (rotateAfter ms ptr) (rotateAfter ms ptr)
    match ms.find? fun m => m.id + 1 == ptr with
    | none => go d
    | some m =>
      match m.charge with
      | some c => if (c : Int) ≤ d.get (key m.id) then some ⟨m.id, d.set (key m.id) (d.get (key m.id) - c), ptr⟩ else go d
      | none => go (if m.holds then d else d.set (key m.id) 0)

/-- The choice of a strict tier: the highest eligible member. -/
def strictChoose (ms : List Member') (ptr : Nat) (d : SMap Int) : Option TierChoice :=
  match (ms.filter fun m => m.charge.isSome).reverse with
  | m :: _ => some ⟨m.id, d, ptr⟩
  | [] => none

/-- A tier's choice by its mode (R630). -/
def tierChoose (mode : Nat) (key : Nat → Nat) (ms : List Member') (ptr : Nat) (d : SMap Int) : Option TierChoice :=
  if mode = 1 then drrChoose key ms ptr d else strictChoose ms ptr d

/-- Quantum of a weight (R631). -/
def quantumOf (w : Nat) : Nat := max 1 w * 64

/-- Queues of a group (R627, R650). -/
def State.groupQueues (s : State) (p g : Nat) : List Nat :=
  (List.range 12).filter fun q => s.fld (Reg.schQmap p) (2 * q + 1) (2 * q) == g

/-- A queue as a member of its group's tier. -/
def State.queueMember (s : State) (p q : Nat) : Member' :=
  { id := q, charge := (s.eligible p q).map fun i => s.chargeOf (s.copy i), holds := s.queueHolds p q
    quantum := quantumOf (s.fld (Reg.schQsch p q) 7 0) }

/-- The choice within a group. -/
def State.queueChoice (s : State) (p g : Nat) : Option TierChoice :=
  tierChoose (s.fld (Reg.schPortCfg p) (15 + 2 * g) (14 + 2 * g)) (fun q => 1000 + p * 12 + q)
    ((s.groupQueues p g).map fun q => s.queueMember p q) (s.sch.ptr.get (200 + p * 4 + g)) s.sch.deficit

/-- A group as a member of its port's tier. -/
def State.groupMember (s : State) (p g : Nat) : Member' :=
  { id := g
    charge := if !s.sluiceOpen (134 + 4 * p + g) then none
      else (s.queueChoice p g).bind fun c => (s.eligible p c.id).map fun i => s.chargeOf (s.copy i)
    holds := (s.groupQueues p g).any fun q => s.queueHolds p q
    quantum := quantumOf (s.fld (Reg.schGrpWeight p) (8 * g + 7) (8 * g)) }

/-- The choice among a port's groups. -/
def State.groupChoice (s : State) (p : Nat) : Option TierChoice :=
  if !s.sluiceOpen p then none
  else tierChoose (s.fld (Reg.schPortCfg p) 31 30) (fun g => p * 4 + g)
    ((List.range 4).map fun g => s.groupMember p g) (s.sch.ptr.get p) s.sch.deficit

/-- Whether a port serves copies: up, or P132, P133 (R587, R628). -/
def State.portServes (s : State) (p : Nat) : Bool := s.mayStart && !s.portDown p

/-- A copy taken from its queue as the port's choice; its Sluices are charged (R629, R634). -/
def State.takeChoice (s : State) (p i : Nat) : State :=
  let c := s.copy i
  let drop := fun l : List Nat => l.filter fun n => n != i
  let s := match c.voq with
    | none => { s with qm.queues := s.qm.queues.mod (qKey p c.queue) drop }
    | some g => { s with qm.voqs := s.qm.voqs.mod (voqKey g p c.queue) drop }
  let s := (s.setCopy i { c with st := .chosen }).chargeSluices c
  s.setTx p { s.tx p with chosen := some i }

/-- The scheduler's choice for a port; none when nothing is eligible. -/
def State.choose (s : State) (p : Nat) : Option State :=
  match s.groupChoice p with
  | none => none
  | some g =>
    match s.queueChoice p g.id with
    | none => none
    | some q =>
      match s.eligible p q.id with
      | none => none
      | some i =>
        let qd := q.deficit.get (1000 + p * 12 + q.id)
        let d := (g.deficit.entries.foldl (fun m e => m.set e.1 e.2) q.deficit)
        let d := (s.groupQueues p g.id).foldl (fun m n => m.set (1000 + p * 12 + n) (q.deficit.get (1000 + p * 12 + n))) d
        let d := (List.range 4).foldl (fun m n => m.set (p * 4 + n) (g.deficit.get (p * 4 + n))) d
        let d := d.set (1000 + p * 12 + q.id) qd
        let s := { s with sch.deficit := d, sch.ptr := (s.sch.ptr.set p g.ptr).set (200 + p * 4 + g.id) q.ptr }
        some (s.takeChoice p i)

/-- Whether the scheduler may choose a port's next copy while `remaining` bytes of the current frame remain to be sent: on
an idle port, or at 256 B or fewer (R629); not while a cut-through copy waits that may start, which goes ahead of the
copies not yet chosen (R639). -/
def State.mayChoose (s : State) (p remaining : Nat) : Bool :=
  let x := s.tx p
  s.portServes p && x.chosen.isNone && (x.sending.isNone || remaining ≤ 256) &&
    x.cut.all fun i => s.queuePaused p (s.copy i).queue

/-- The scheduler finally chooses a port's next copy. -/
def execSchedulerChoose (port remaining : Nat) (s : State) : Out :=
  whenWf (port < 134) (occurs s (s.mayChoose port remaining) ((s.choose port).getD s))

/-! ### Transmission (R479, R629, R639, R645) -/

/-- The copy that starts next on a port: the one chosen, else the first cut-through copy whose class is not paused. -/
def State.nextToStart (s : State) (p : Nat) : Option Nat :=
  match (s.tx p).chosen with
  | some i => some i
  | none => (s.tx p).cut.find? fun i => !s.queuePaused p (s.copy i).queue

/-- The sojourn of a stored copy handed to the MAC, with the delay alarm and the sampler's running values (R645,
R646). -/
def State.sojourn (s : State) (c : Copy) (wire : Nat) : State :=
  if c.cut then s
  else
    let d := satNat (s.ns64 - c.entered) (2 ^ 32 - 1)
    let k := qKey c.port c.queue
    let q := s.sch.qstat.get k
    let s := { s with sch.qstat := s.sch.qstat.set k { q with delayMax := max q.delayMax d, copies := q.copies + 1, bytes := q.bytes + wire } }
    let lim := (s.rd Reg.schDelayAlarm).toNat
    if s.bit (Reg.schQsch c.port c.queue) 31 && lim != 0 && lim ≤ d then s.setEvent Reg.schEvents 2 262 else s

/-- A copy starts: it is formed as it leaves, and its bytes go on the wire. -/
def State.startCopy (s : State) (p i : Nat) : State :=
  let c := s.copy i
  let r := s.sendForm c
  let frame := if p = 132 then r.1 else withFcs (pad60 r.1)
  let t := (r.2.sojourn c (s.wireLen c)).setCopy i { c with st := .sending }
  let x := t.tx p
  let t := t.setTx p { x with chosen := if x.chosen = some i then none else x.chosen
                              cut := x.cut.filter fun n => n != i, sending := some i, wire := frame, ended := none, stomped := false }
  let t := if c.cut then t.bump (portCtr p 12) else t
  if p = 132 then
    let ch := t.fld (Reg.dmaRxmap c.queue) 4 0
    { t with dma.chans := t.dma.chans.mod ch fun d => { d with copy := some i, queue := c.queue } }
  else t

/-- A chosen or cut-through copy starts transmission. -/
def execCopyTransmitStart (port : Nat) (s : State) : Out :=
  whenWf (port < 134)
    (match s.nextToStart port with
     | none => .next s
     | some i =>
       let x := s.tx port
       occurs s (s.portServes port && x.sending.isNone && x.pfcDue.isEmpty && !(128 ≤ port && port < 132 && s.helloDue (port - 128)) &&
           (port != 132 || s.rxRoom (s.copy i).queue) && (port != 133 || s.culvertRoom))
         (s.startCopy port i))

/-- A copy completed on a port, counted (R240, R572, R827), its descriptors and cells returned. -/
def State.finishCopy (s : State) (p i : Nat) : State :=
  let c := s.copy i
  let n := (s.tx p).wire.length
  let s := if p < 132 then (s.bump (portCtr p 8)).bump (portCtr p 9) n else s
  let s := ((s.count 18 [p]).count 19 [p] n).bwCount (200 + p) n
  let s := match c.voq with
    | some g => { s with qm.bufPtr := s.qm.bufPtr.set p (g + 1) }
    | none => s
  (s.endCopy i).setTx p { s.tx p with sending := none, stomped := false, ended := some .terminate }

/-- A copy read from P133's queue enters group 20 as a new packet (R347, R579) where Headgate admits it (R75, R269). -/
def State.culvertIn (s : State) (i : Nat) : State :=
  let o := s.pkt (s.copy i).pkt
  let p : Pkt := { port := 133, origin := o.origin, pass := o.pass + 1, ts80 := o.ts80, steps := o.steps
                   bytes := (s.tx 133).wire, verdict := some 0 }
  if s.mayAdmit 133 then (s.admitWhole p).1 else s.admitDrop 133

/-- A copy ends. -/
def execCopyTransmitEnd (port : Nat) (s : State) : Out :=
  whenWf (port < 134)
    (match (s.tx port).sending with
     | none => .next s
     | some i =>
       let x := s.tx port
       occurs s (s.coreUp && port != 132 && (!(s.copy i).cut || x.stomped || s.copyReady i))
         (if x.stomped then
            let r := s.draw 14
            let wire := stompWire x.wire (r.1 % (x.wire.length - 3))
            let t := r.2.setTx port { x with wire := wire, sending := none, ended := some .errChar, stomped := false }
            t.endCopy i
          else if port = 133 then (s.culvertIn i).finishCopy port i
          else s.finishCopy port i))

/-! ### Sluices (R634–R638) -/

/-- BURST in force, in 2^-8 B. -/
def burstLimit (w : Word) : Int := ((max 1 (Wbits w 21 0) * 256 : Nat) : Int)

/-- A Sluice's refill slot: held writes act together, then the refill. -/
def State.refill (s : State) (i : Nat) : State :=
  let on := s.sluiceOn i
  let s := match s.sch.heldRate.get i with | some v => s.wr (Reg.schSluiceRate i) (BitVec.ofNat 32 v) | none => s
  let s := match s.sch.heldBurst.get i with | some v => s.wr (Reg.schSluiceBurst i) (BitVec.ofNat 32 v) | none => s
  let lim := burstLimit (s.rd (Reg.schSluiceBurst i))
  let credit := if !s.sluiceOn i then 0 else if !on then lim
    else min lim (s.sch.credit.get i + s.fld (Reg.schSluiceRate i) 23 0)
  { s with sch.credit := s.sch.credit.set i credit, sch.heldRate := s.sch.heldRate.set i none, sch.heldBurst := s.sch.heldBurst.set i none }

/-- A Sluice reaches its refill slot. -/
def execSluiceRefill (sluice : Nat) (s : State) : Out :=
  whenWf (sluice < 2278) (occurs s s.coreUp (s.refill sluice))

/-- A write of SLUICE_RATE or SLUICE_BURST is held for the slot (R638). -/
def holdSluice (s : State) (i : Nat) (burst : Bool) (v : Word) : State :=
  if burst then { s with sch.heldBurst := s.sch.heldBurst.set i (some (Wbits v 21 0)) }
  else { s with sch.heldRate := s.sch.heldRate.set i (some (Wbits v 31 31 * 2 ^ 31 + Wbits v 23 0)) }

/-- A SLUICE_RATE or SLUICE_BURST write. -/
def execSluiceWrite (acc sluice : Nat) (burst : Bool) (v : Word) (s : State) : Out :=
  writeRow (acc < 7 && sluice < 2278) acc (if burst then Reg.schSluiceBurst sluice else Reg.schSluiceRate sluice) true
    (fun t => holdSluice t sluice burst v) s

/-! ### PFC generation (R642–R644) -/

/-- A PFC frame of a port, for XOFF or for a return to XON, without its FCS (R643). -/
def State.pfcFrame (s : State) (p : Nat) (xoff : Bool) : List Byte :=
  let sa := ((s.rd Reg.schPfcSaLo).toNat + s.fld Reg.schPfcSaHi 15 0 * 2 ^ 32 + p) % 2 ^ 48
  let mask := s.fld (Reg.schPfcCfg p) 23 16
  let time := if xoff then s.fld (Reg.schPfcStat p) 15 0 else 0
  pad60 (beBytes 0x0180C2000001 6 ++ beBytes sa 6 ++ beBytes 0x8808 2 ++ beBytes 0x0101 2 ++ beBytes mask 2 ++
    (List.range 8).flatMap fun c => beBytes (if bitAt mask c then time else 0) 2)

/-- The first PFC frame a port owes is sent at its next frame boundary. -/
def execPfcFrameSend (port : Nat) (s : State) : Out :=
  whenWf (port < 132)
    (match (s.tx port).pfcDue with
     | [] => .next s
     | xoff :: due =>
       occurs s (s.mayStart && s.portState port == 5 && (s.tx port).sending.isNone)
        (let frame := withFcs (s.pfcFrame port xoff)
         let s := ((s.bump (portCtr port 8)).bump (portCtr port 9) frame.length).bump (Reg.schCnt port 2)
         s.setTx port { s.tx port with pfcDue := due, wire := frame, ended := some .terminate }))

/-- Half a pause time after the last frame, a port still in XOFF owes another. -/
def execPfcRefresh (port quanta : Nat) (s : State) : Out :=
  whenWf (port < 132)
    (occurs s (s.coreUp && s.portState port == 5 && s.bit (Reg.schPfcCfg port) 31 && s.bit (Reg.schPfcStat port) 31 &&
        max 1 (s.fld (Reg.schPfcStat port) 15 0 / 2) ≤ quanta)
      (s.owePfc port true))

/-! ### Rings in DRAM (R508, R510, R532) -/

/-- The registers of a ring. -/
structure Ring where
  baseLo : Nat
  baseHi : Nat
  size : Nat
  prod : Nat
  cons : Nat
  deriving DecidableEq, Repr, Inhabited

/-- Entries of a ring. -/
def State.ringSize (s : State) (r : Ring) : Nat := 2 ^ (10 + min 10 (s.fld r.size 3 0))

/-- Base of a ring. -/
def State.ringBase (s : State) (r : Ring) : Nat := s.fld r.baseLo 31 12 * 2 ^ 12 + s.fld r.baseHi 7 0 * 2 ^ 32

/-- Entries written and not consumed. -/
def State.ringUsed (s : State) (r : Ring) : Nat := ((s.rd r.prod).toNat + 2 ^ 32 - (s.rd r.cons).toNat) % 2 ^ 32

/-- Whether a ring takes an entry: enabled, its base in DRAM outside the flow region, not full. -/
def State.ringTakes (s : State) (r : Ring) : Bool :=
  s.bit r.baseHi 31 && inDram (s.ringBase r) && !s.inFlowRegion (s.ringBase r) && s.ringUsed r < s.ringSize r

/-- An entry written to a ring that takes it, and PROD advanced. -/
def State.ringWrite (s : State) (r : Ring) (entry : List Byte) : State :=
  let k := (s.rd r.prod).toNat
  (s.stBytes (s.ringBase r + entry.length * (k % s.ringSize r)) entry).wr r.prod (BitVec.ofNat 32 (k + 1))

/-! ### Sampling (R646) -/

def sampleRing : Ring := ⟨Reg.schSrBaseLo, Reg.schSrBaseHi, Reg.schSrSize, Reg.schSrProd, Reg.schSrCons⟩

/-- Queues with SAMPLE = 1, in ascending port and queue order: only a written QSCH can have it. -/
def State.sampledQueues (s : State) : List (Nat × Nat) :=
  (s.regs.entries.filter fun e => Reg.schQsch 0 0 ≤ e.1 && e.1 < Reg.schQsch 134 0 && Wbits e.2 31 31 == 1).map fun e =>
    ((e.1 - Reg.schQsch 0 0) / 0x40, (e.1 - Reg.schQsch 0 0) % 0x40 / 4)

/-- A queue's record. -/
def State.sampleRecord (s : State) (p q : Nat) : List Byte :=
  let st := s.sch.qstat.get (qKey p q)
  let d := s.qdepth p q
  let fl := q * 16 + b2n s.qm.shared * 8 + b2n (s.queuePaused p q) * 4 + b2n (decide (s.sch.credit.get (670 + 12 * p + q) < 0)) * 2
  leBytes s.ns64 8 ++ [BitVec.ofNat 8 p, BitVec.ofNat 8 fl] ++ leBytes s.sch.sampleSeq 2 ++ leBytes (d % 2 ^ 19) 4 ++
    leBytes (max st.maxDepth d % 2 ^ 19) 4 ++ leBytes st.delayMax 4 ++ leBytes (satNat st.copies (2 ^ 32 - 1)) 4 ++
    leBytes (satNat (st.bytes / 4) (2 ^ 32 - 1)) 4

/-- The sampler's running values of a queue start again. -/
def State.resetQstat (s : State) (p q : Nat) : State :=
  { s with sch.qstat := s.sch.qstat.set (qKey p q) { maxDepth := s.qdepth p q } }

/-- A record written, or lost. -/
def State.writeSample (s : State) (x : Nat × Nat) : State :=
  let rec_ := s.sampleRecord x.1 x.2
  let s := { s with sch.sampleSeq := (s.sch.sampleSeq + 1) % 65536 }.resetQstat x.1 x.2
  if s.ringTakes sampleRing then s.ringWrite sampleRing rec_
  else (s.setFld Reg.schSrLost 31 0 (s.fld Reg.schSrLost 31 0 + 1)).setEvent Reg.schEvents 0 260

/-- SR_PERIOD as it acts. -/
def State.samplePeriod (s : State) : Nat := max 1 (s.fld Reg.schSrPeriod 15 0)

/-- Whether a sample period starts at a count of microseconds. -/
def State.sampleDue (s : State) (us : Nat) : Bool :=
  s.sch.lastSample.all fun l => us < l || l + s.samplePeriod ≤ us

/-- A sample period starts: a record for each sampled queue, at most 32 a microsecond; the rest are skipped. -/
def State.sampleAll (s : State) (us : Nat) : State :=
  let qs := s.sampledQueues
  let most := 32 * s.samplePeriod
  let t := (qs.take most).foldl State.writeSample { s with sch.lastSample := some us }
  t.setFld Reg.schSrSkip 31 0 (t.fld Reg.schSrSkip 31 0 + (qs.length - most))

/-! ### Registers -/

/-- A write of an SCH register held in its row: what follows from it (R646, R651). -/
def schWritten (old s : State) (a : Nat) : State :=
  if Reg.schPortCfg 0 ≤ a ∧ a < Reg.schPortCfg 134 ∧ a % 0x40 = 0xC then
    let p := (a - Reg.schPortCfg 0) / 0x40
    if s.bit a 31 then s.pfcCompare p
    else (s.setBit (Reg.schPfcStat p) 31 false).setTx p { s.tx p with pfcDue := [] }
  else if Reg.schQsch 0 0 ≤ a ∧ a < Reg.schQsch 134 0 then
    if s.bit a 31 && !old.bit a 31 then s.resetQstat ((a - Reg.schQsch 0 0) / 0x40) ((a - Reg.schQsch 0 0) % 0x40 / 4) else s
  else s

/-- What the SCH registers computed from its state read (R635, R649, R651, R653). -/
def schLive (s : State) (a : Nat) : Option Nat :=
  if Reg.schSluiceCredit 0 ≤ a ∧ a < Reg.schSluiceCredit 2278 ∧ a % 16 = 8 then
    some (unsigned (s.sch.credit.get ((a - Reg.schSluiceCredit 0) / 16)) 32)
  else if a = Reg.schPfcCfg 132 ∨ a = Reg.schPfcCfg 133 then some 0
  else none

end Sys2Proof.Machine
end

