-- ==== Sys2Proof/Machine/FlowCommit.lean ====
section
/-! DEFINITION. What becomes of staged entries: resolution, application, cancelling, evictions and their notices, sweeps
and the IPFIX exporter (R502–R510, R519–R521, R545–R567). -/
namespace Sys2Proof.Machine

/-! ### Counters, events and errors (R534, R551, R564, R567) -/

/-- Counter `k` of the flow engine, with the count event it is. -/
def State.fleCount (s : State) (k : Nat) : State :=
  let s := s.bump (Reg.fleCnt k)
  if k = 0 then s.count 66 [] else if k = 1 then s.count 67 [] else s

/-- A bit of FS_EVENTS. -/
def State.fsEvent (s : State) (slice bit : Nat) : State := s.setEvent (Reg.fleFsEvents slice) bit (172 + slice)

/-- A fault or a diverged entry recorded in OP_ERR_INFO and OP_ERR_POS. -/
def State.opErr (s : State) (kind slice cl fn pos : Nat) : State :=
  let s := if s.bit Reg.fleOpErrInfo 31 then s else s.wr Reg.fleOpErrPos (BitVec.ofNat 32 pos)
  (s.record Reg.fleOpErrInfo (slice * 2 ^ 26 + cl * 2 ^ 22 + kind * 2 ^ 18 + fn)).fsEvent slice 2

/-- An entry that diverged (R551). -/
def State.diverged (s : State) (key : Nat) (e : LogEntry) : State :=
  let s := s.fleCount 3
  if s.bit Reg.fleCtrl 8 then s.opErr 12 (keySlice key) e.cluster e.fn (handleLo key) else s

/-! ### Hops and valid records (R494, R499, R502, R505) -/

/-- Candidates of the key a record holds. -/
def State.imgCandidates (s : State) (img : List Byte) : Candidates := s.candidates (recTenant img) (recKeyBytes img)

/-- The record's home position. -/
def State.homeKey (s : State) (img : List Byte) : Nat := let c := s.imgCandidates img; c.at_ c.home

/-- The HOP of a position replaced; only its atom 0 changes. Its line has room (`hopsFit`), except at a stop, where nothing
waits and the atom goes to DRAM. -/
def State.setHop (s : State) (home : Nat) (h : Option Nat) : State :=
  let img := recSetHop (s.committed home) h
  if img = s.committed home then s
  else match s.fetchAtoms home 1 with
    | some t => t.setCommitted home img
    | none => (s.stBytes (s.recAddr home 0) (img.take 64)).bump (sliceCnt (keySlice home) 3)

/-- Whether the home of a displaced record names its position. -/
def State.hopNames (s : State) (key : Nat) (img : List Byte) : Bool :=
  let c := s.imgCandidates img
  match recHop (s.committed (c.at_ c.home)) with
  | some j => c.at_ j == key
  | none => false

/-- The home's HOP cleared when a displaced record leaves its position. -/
def State.clearHopOf (s : State) (key : Nat) (img : List Byte) : State :=
  if recDisplaced img && s.hopNames key img then s.setHop (s.homeKey img) none else s

/-- Valid records of a slice (FS_STAT). -/
def State.setValid (s : State) (slice n : Nat) : State := { s with flow.valid := s.flow.valid.set slice n }

/-- A record invalidated; GEN and HOP of its position stay, and its home's HOP is cleared when it is displaced (R519). -/
def State.invalidate (s : State) (key : Nat) : State :=
  let img := s.committed key
  let sl := keySlice key
  ((s.setCommitted key (recClear img)).setValid sl (s.flow.valid.get sl - 1)).clearHopOf key img

/-! ### Notices and export requests (R509, R557, R558) -/

/-- The notice of a record. -/
def noticeOf (cause key : Nat) (img : List Byte) : FlowNotice :=
  { cause := cause, key := key, gen := recGen img, tenant := recTenant img, keyLen := recKeyLen img, record := img }

/-- The bytes of an entry (R509, R558): `tail` fills the bytes 0x0A–0x0F. -/
def FlowNotice.bytes (n : FlowNotice) (tail : List Byte) : List Byte :=
  leBytes (handleLo n.key) 4 ++ leBytes n.gen 2 ++ leBytes n.tenant 2 ++ leBytes n.keyLen 1 ++ leBytes n.cause 1 ++
    tail ++ slice n.record 0x10 112

/-- The export ring; its enable is in EXP_CTRL. -/
def exportRing : Ring := ⟨Reg.fleExpBaseLo, Reg.fleExpBaseHi, Reg.fleExpSize, Reg.fleExpProd, Reg.fleExpCons⟩

/-- Whether the export ring takes an entry. -/
def State.exportTakes (s : State) : Bool :=
  s.bit Reg.fleExpCtrl 31 && inDram (s.ringBase exportRing) && !s.inFlowRegion (s.ringBase exportRing) &&
    s.ringUsed exportRing < s.ringSize exportRing

/-- An export request with a snapshot of the committed record. -/
def State.exportRequest (s : State) (key : Nat) (img : List Byte) (reason : Nat) : State :=
  if s.exportTakes then s.ringWrite exportRing ((noticeOf (reason % 256) key img).bytes (leBytes 0 6))
  else (s.fleCount 9).setEvent Reg.fleExpEvents 0 194

/-- The eviction queue (0) and the sweep queue (1). -/
def fleRing (q : Nat) : Ring := ⟨Reg.fleEqBaseLo q, Reg.fleEqBaseHi q, Reg.fleEqSize q, Reg.fleEqProd q, Reg.fleEqCons q⟩

/-- A bit of EQ_EVENTS or SQ_EVENTS; only the eviction queue's raise an event. -/
def State.queueEvent (s : State) (q bit : Nat) : State :=
  if q = 0 then s.setEvent (Reg.fleEqEvents 0) bit 193 else s.setBit (Reg.fleEqEvents q) bit true

/-- A notice that is lost (R510). -/
def State.loseNotice (s : State) (q : Nat) : State :=
  let s := (s.wr (Reg.fleEqLost q) (s.rd (Reg.fleEqLost q) + 1)).queueEvent q 1
  if q = 0 then s else { s with flow.sweep := s.flow.sweep.map fun w => { w with cnt := w.cnt.mod 5 fun n => n + 1 } }

/-- A notice written to its ring, or lost; SEQ advances either way. -/
def State.placeNotice (s : State) (q seq : Nat) (n : FlowNotice) : State :=
  if s.ringTakes (fleRing q) then
    let t := s.ringWrite (fleRing q) (n.bytes (leBytes seq 2 ++ leBytes s.tb.sec 4))
    if s.ringUsed (fleRing q) = 0 then t.queueEvent q 0 else t
  else s.loseNotice q

/-! ### Commit of one entry (R505, R506, R549–R551, R556) -/

/-- An eviction counted, with its alarm (R506). -/
def State.countEviction (s : State) (sl : Nat) : State :=
  let s := s.bump (sliceCnt sl 5)
  let lim := s.fld (Reg.fleFsAlarm sl) 15 0
  let t := { s with flow.evictWindow := windowAdd s.flow.evictWindow sl 1 lim }
  if alarmDue s.flow.evictWindow sl 1 lim then t.fsEvent sl 1 else t

/-- What follows the writes of a create that evicted the record `old`: the victim's home, the notice, the counts. -/
def State.evicted (s : State) (key home cause : Nat) (old : List Byte) : State :=
  let s := if s.homeKey old = home then s else s.clearHopOf key old
  let s := { s with flow.eqNotices := s.flow.eqNotices ++ [noticeOf cause key old] }
  let s := s.countEviction (keySlice key)
  if s.bit Reg.fleExpCtrl 30 then s.exportRequest key old 5 else s

/-- A create committed: the record, then the hop, then the notice of the victim. -/
def State.commitCreate (s : State) (key : Nat) (e : LogEntry) (img : List Byte) : State :=
  let old := s.committed key
  let c := s.candidates e.tenant e.bytes
  let sl := keySlice key
  let s := s.setCommitted key img
  let s := if recValid old then s else s.setValid sl (s.flow.valid.get sl + 1)
  let s := if e.cand = e.home then s else s.setHop (c.at_ e.home) (some e.cand)
  let s := s.bump (sliceCnt sl 4)
  match e.evict with
  | some cause => if recValid old then s.evicted key (c.at_ e.home) cause old else s
  | none => s

/-- An entry applied by its function's rule to the committed image: the state and the results (R550). -/
def State.applyCommitted (s : State) (key : Nat) (e : LogEntry) : State × List Nat :=
  let img := s.committed key
  let r := applyEntry s.recSize key (s.entryHash e) img e
  if e.fn = 1 then (if r.2.head? = some 0 then s.commitCreate key e r.1 else s, r.2)
  else if e.fn = 2 then (if r.2 = [0] then s.invalidate key else s, r.2)
  else if e.fn = 15 then (if r.2 = [0] then s.exportRequest key img e.x else s, r.2)
  else (s.setCommitted key r.1, r.2)

/-- A committed entry applied; one whose result differs from the one returned has diverged (R551). -/
def State.commitEntry (s : State) (key : Nat) (e : LogEntry) : State :=
  let r := s.applyCommitted key e
  if r.2 = e.results then r.1 else r.1.diverged key e

/-- The earliest CREATE of the same key in a log takes over a create that is removed (R552). -/
def takeOver (e : LogEntry) : List LogEntry → List LogEntry
  | [] => []
  | x :: r =>
    if x.fn = 1 ∧ x.tenant = e.tenant ∧ x.bytes = e.bytes then
      { x with own := true, home := e.home, cand := e.cand, evict := e.evict } :: r
    else x :: takeOver e r

/-- A cancelled entry removed without effect. -/
def State.dropEntry (s : State) (key : Nat) (e : LogEntry) : State :=
  if e.own then { s with flow.logs := s.flow.logs.mod key (takeOver e) } else s

/-- The head of a log worked off: applied when its context has committed, removed when it has cancelled. -/
def State.applyHead (s : State) (key : Nat) (e : LogEntry) : State :=
  let t := { s with flow.logs := s.flow.logs.mod key fun l => l.drop 1 }
  let t := if (s.inst e.inst).resolved = some true then t.commitEntry key e else t.dropEntry key e
  t.retire e.inst

/-- The home position whose HOP the invalidation of a record changes. -/
def State.hopOf (s : State) (key : Nat) (img : List Byte) : List Nat :=
  if recDisplaced img && s.hopNames key img then [s.homeKey img] else []

/-- The home positions whose HOP an entry changes when it is applied: a displaced create's, its victim's, and that of a
displaced record it deletes. -/
def State.entryHops (s : State) (key : Nat) (e : LogEntry) : List Nat :=
  let img := s.committed key
  if e.fn = 1 ∧ e.own then
    let c := s.candidates e.tenant e.bytes
    (if e.cand = e.home then [] else [c.at_ e.home]) ++ (if e.evict.isSome && recValid img then s.hopOf key img else [])
  else if e.fn = 2 then s.hopOf key img
  else []

/-- Whether the lines of these positions find room one after another (R517). -/
def State.hopsFit (s : State) (homes : List Nat) : Bool :=
  (homes.foldl (fun t h => t.bind fun u => u.fetchAtoms h 1) (some s)).isSome

/-- The head entries that may be worked off, of one slice or of all: their context has resolved. -/
def State.readyHeads (s : State) (slice : Option Nat) : List (Nat × LogEntry) :=
  s.flow.logs.entries.filterMap fun l => match l.2 with
    | [] => none
    | e :: _ => if (slice.all fun n => keySlice l.1 == n) && (s.inst e.inst).resolved.isSome then some (l.1, e) else none

/-- The next entry a slice works off: the one it accepted first (R549). -/
def State.nextHead (s : State) (slice : Option Nat) : Option (Nat × LogEntry) :=
  minBy (fun x : Nat × LogEntry => x.2.seq) (s.readyHeads slice)

/-- A slice applies or removes one entry; where the line of its record, or of a home whose HOP changes with it, finds no
room, it waits (R517). -/
def execLogEntryApply (slice : Nat) (s : State) : Out :=
  whenWf (slice < 16)
    (match s.nextHead (some slice) with
     | none => .next s
     | some (key, e) =>
       occurs s s.coreUp
         (if (s.inst e.inst).resolved = some true then
            match s.fetchAtoms key s.allAtoms with
            | some t => if t.hopsFit (t.entryHops key e) then t.applyHead key e else s.bump (sliceCnt slice 7)
            | none => s.bump (sliceCnt slice 7)
          else s.applyHead key e))

/-! ### Resolution (R547, R548) -/

/-- A context resolves: its entries will commit or cancel, and its records are no longer held by it. -/
def State.resolve (s : State) (i : Nat) (ok : Bool) : State :=
  ((s.setInst i { s.inst i with resolved := some ok, touched := [] }).fleCount (if ok then 0 else 1)).retire i

/-- Whether a context has both its end and its verdict. -/
def FlowCtx.due (x : FlowCtx) : Bool := x.live && x.ended && x.verdict.isSome && x.resolved.isNone

/-- A context resolves at the later of its end and its verdict. -/
def execContextResolve (inst : Nat) (s : State) : Out :=
  occurs s (s.coreUp && (s.inst inst).due)
    (s.resolve inst (!(s.inst inst).cancel && (s.inst inst).verdict == some 0))

/-- Every staged entry of an instance removed at ABORT (R555). -/
def State.abortStaged (s : State) (i : Nat) : State :=
  let s' := (s.stagedRecords i).foldl (fun t key =>
    let l := t.log key
    let kept := { t with flow.logs := t.flow.logs.set key (l.filter fun e => e.inst != i) }
    (l.filter fun e => e.inst == i).foldl (fun u e => u.dropEntry key e) kept) s
  (s'.bump (Reg.fleCnt 2) (s.stagedOf i)).setInst i { s.inst i with tag := none }

/-! ### The flow engine at a stop (R75, R518) -/

/-- Entries worked off in the order of their acceptance; the first argument bounds their number. -/
def State.drainLogs : Nat → State → State
  | 0, s => s
  | n + 1, s => match s.nextHead none with
    | none => s
    | some (key, e) => State.drainLogs n (s.applyHead key e)

/-- Contexts that have their end and verdict resolve, the others are cancelled, and every entry is worked off. -/
def State.settleFlows (s : State) : State :=
  let t := s.flow.insts.entries.foldl (fun t e =>
    if e.2.live && e.2.resolved.isNone then t.resolve e.1 (e.2.due && !e.2.cancel && e.2.verdict == some 0) else t) s
  t.drainLogs (t.flow.logs.entries.map fun l => l.2.length).sum

/-! ### Notice queues (R508–R510) -/

/-- SWEEP_RESULT and its counts when a sweep ends (R521, R533). -/
def State.sweepEnd (s : State) (cnt : SMap Nat) (code : Nat) : State :=
  let s := (s.cmdDone Reg.fleSweepResult (code * 2 ^ 26)).raiseEvent 192
  let s := (List.range 6).foldl (fun t i => t.setFld (Reg.fleSweepCnt i) 31 0 (satNat (cnt.get i) (2 ^ 32 - 1))) s
  { s with flow.sweep := none }

/-- A sweep that is through, or to be aborted, ends once its notices have been decided. -/
def State.sweepCheck (s : State) : State :=
  match s.flow.sweep with
  | none => s
  | some w => if s.flow.sqNotices = [] ∧ (w.mask = 0 ∨ w.abort) then s.sweepEnd w.cnt (if w.abort then 1 else 0) else s

/-- The next notice of a queue. -/
def State.postQueue (s : State) (q : Nat) : State :=
  if q = 0 then
    match s.flow.eqNotices with
    | [] => s
    | n :: r => { s with flow.eqNotices := r, flow.eqSeq := (s.flow.eqSeq + 1) % 65536 }.placeNotice 0 s.flow.eqSeq n
  else
    match s.flow.sqNotices with
    | [] => s
    | n :: r => ({ s with flow.sqNotices := r, flow.sqSeq := (s.flow.sqSeq + 1) % 65536 }.placeNotice 1 s.flow.sqSeq n).sweepCheck

/-- The write of a notice's entry completes and PROD advances, or the notice is lost. -/
def execNoticePost (sweep : Bool) (s : State) : Out := occurs s s.coreUp (s.postQueue (b2n sweep))

/-! ### Sweeps (R519–R521, R533) -/

/-- A write of SWEEP_CMD. -/
def writeSweepCmd (s : State) (v : Word) : State :=
  let mode := Wbits v 2 0
  if mode = 0 then s
  else if s.cmdBusy Reg.fleSweepResult then s.cmdReject Reg.fleSweepResult
  else
    let s := s.cmdAccept Reg.fleSweepResult
    if 4 ≤ mode then s.sweepEnd {} 3
    else if 2 ≤ mode ∧ !s.bit (Reg.fleEqBaseHi 1) 31 then s.sweepEnd {} 2
    else if Wbits v 31 16 = 0 then s.sweepEnd {} 0
    else { s with flow.sweep := some { mode := mode, mask := Wbits v 31 16 } }

/-- SWEEP_CMD with MODE 1. -/
def execSweepCount (acc : Nat) (v : Word) (s : State) : Out :=
  writeRow (acc < 7) acc Reg.fleSweepCmd (Wbits v 2 0 == 1) (fun t => writeSweepCmd t v) s

/-- SWEEP_CMD with MODE 2. -/
def execSweepReport (acc : Nat) (v : Word) (s : State) : Out :=
  writeRow (acc < 7) acc Reg.fleSweepCmd (Wbits v 2 0 == 2) (fun t => writeSweepCmd t v) s

/-- SWEEP_CMD with MODE 3. -/
def execSweepExpire (acc : Nat) (v : Word) (s : State) : Out :=
  writeRow (acc < 7) acc Reg.fleSweepCmd (Wbits v 2 0 == 3) (fun t => writeSweepCmd t v) s

/-- One more in count `i` of a running sweep. -/
def State.sweepAdd (s : State) (i : Nat) : State :=
  { s with flow.sweep := s.flow.sweep.map fun w => { w with cnt := w.cnt.mod i fun n => n + 1 } }

/-- Whether a record is idle, of the tenant asked for, and not PINNED (R519). -/
def State.sweepMatches (s : State) (img : List Byte) : Bool :=
  let age := (s.ns64 + 2 ^ 64 - recLast s.recSize img) % 2 ^ 64
  !recPinned img && (!s.bit Reg.fleSweepTenant 31 || recTenant img == s.fld Reg.fleSweepTenant 15 0) &&
    s.pair Reg.fleSweepIdleLo Reg.fleSweepIdleHi ≤ age && age < 2 ^ 63

/-- A matched record counted, reported or expired. -/
def State.sweepMatched (s : State) (mode key : Nat) (img : List Byte) : State :=
  let s := s.sweepAdd 1
  if mode = 1 then s
  else
    let s := { s with flow.sqNotices := s.flow.sqNotices ++ [noticeOf mode key img] }
    let s := if s.bit Reg.fleExpCtrl 29 then s.exportRequest key img (if mode = 3 then 1 else 2) else s
    if mode = 3 then (s.invalidate key).sweepAdd 2 else s

/-- What a sweep does with the valid record at a position, its line held in the cache. -/
def State.sweepRecord (s : State) (mode key : Nat) : State :=
  let img := s.committed key
  let s := s.sweepAdd 0
  if recDisplaced img && !s.hopNames key img then (s.invalidate key).sweepAdd 4
  else if s.sweepMatches img then s.sweepMatched mode key img
  else s

/-- The position of a slice passed: the slice is through after its last one. -/
def State.sweepNext (s : State) (slice : Nat) : State :=
  { s with flow.sweep := s.flow.sweep.map fun w =>
      let p := w.pos.get slice + 1
      if p < s.buckets * 8 then { w with pos := w.pos.set slice p }
      else { w with pos := w.pos.set slice 0, mask := putBits w.mask slice slice 0 } }

/-- The next position of a slice scanned. -/
def State.sweepStep (s : State) (w : Sweep) (slice : Nat) : State :=
  let key := recKey slice (w.pos.get slice)
  if !recValid (s.committed key) then (s.sweepNext slice).sweepCheck
  else if s.lineHeld key then ((s.sweepAdd 3).sweepNext slice).sweepCheck
  else match s.fetchAtoms key s.allAtoms with
    | none => s.bump (sliceCnt slice 7)
    | some t =>
      let img := t.committed key
      let hops := if w.mode = 3 && t.sweepMatches img then t.hopOf key img else []
      if t.hopsFit hops then ((t.sweepRecord w.mode key).sweepNext slice).sweepCheck else s.bump (sliceCnt slice 7)

/-- A slice of a running sweep reads its next position. -/
def execSweepRecord (slice : Nat) (s : State) : Out :=
  whenWf (slice < 16)
    (match s.flow.sweep with
     | none => .next s
     | some w => occurs s (s.coreUp && bitAt w.mask slice && s.flow.sqNotices == [] && !w.abort) (s.sweepStep w slice))

/-- A write of SWEEP_ABORT. -/
def writeSweepAbort (s : State) (v : Word) : State :=
  if Wbits v 0 0 = 1 then State.sweepCheck { s with flow.sweep := s.flow.sweep.map fun w => { w with abort := true } } else s

/-- SWEEP_ABORT. -/
def execSweepAbort (acc : Nat) (v : Word) (s : State) : Out :=
  writeRow (acc < 7) acc Reg.fleSweepAbort (Wbits v 0 0 == 1) (fun t => writeSweepAbort t v) s

/-! ### The exporter (R558–R562) -/

/-- NS64 as milliseconds less the UTC offset (R559). -/
def exportMs (ns utc : Nat) : Nat := unsigned ((ns / 1000000 : Nat) - 1000 * signed utc 32) 64

/-- An entry of the export ring as a Data Record of `k` + 33 bytes (R559). -/
def dataRecord (r k utc : Nat) (entry : List Byte) : List Byte :=
  let keyLen := (byteAt entry 8).toNat
  let img := fun o n => leNat (slice entry o n)
  ((List.range k).map fun i => if i < keyLen then byteAt entry (16 + i) else 0) ++
    beBytes (img (pktOfs r) 8) 8 ++ beBytes (img (pktOfs r + 8) 8) 8 ++
    beBytes (exportMs (img (firstOfs r) 8) utc) 8 ++ beBytes (exportMs (img (lastOfs r) 8) utc) 8 ++ [byteAt entry 9]

/-- KEY_LEN, HOLD_MS, TEMPLATE_ID and MAX_MSG in force (R566). -/
def State.expKeyLen (s : State) : Nat := min 48 (s.fld Reg.fleExpFormat 13 8)
def State.expHoldMs (s : State) : Nat := max 1 (s.fld Reg.fleExpFormat 7 0)
def State.expTemplate (s : State) : Nat := max 256 (s.fld Reg.fleExpFormat 31 16)
def State.expMaxMsg (s : State) : Nat := min 8960 (max 64 (s.fld Reg.fleExpOut 31 18))

/-- A message begun under the registers as they stand. -/
def State.newMsg (s : State) : IpfixMsg :=
  { template := s.expTemplate, maxMsg := s.expMaxMsg, port := s.fld Reg.fleExpOut 15 8, tc := s.fld Reg.fleExpOut 2 0
    utc := (s.rd Reg.fleExpUtc).toNat }

/-- Length of a message (R560). -/
def IpfixMsg.length (m : IpfixMsg) : Nat := 20 + (m.records.map List.length).sum

/-- A message that takes no further record: closed by a register write, or full. -/
def IpfixMsg.full (m : IpfixMsg) : Bool :=
  m.closed || (m.records != [] && m.maxMsg < m.length + (m.records.headD []).length)

/-- The exporter formats the entry at CONS into the message in assembly. -/
def State.formatEntry (s : State) (m : IpfixMsg) : State :=
  let k := (s.rd Reg.fleExpCons).toNat
  let entry := s.ldBytes (s.ringBase exportRing + 128 * (k % s.ringSize exportRing)) 128
  let d := dataRecord s.recSize s.expKeyLen m.utc entry
  { s with flow.msg := some { m with records := m.records ++ [d] } }.wr Reg.fleExpCons (BitVec.ofNat 32 (k + 1))

/-- The exporter formats one entry; a message that is full goes out first. -/
def execExportFormat (s : State) : Out :=
  let m := s.flow.msg.getD s.newMsg
  occurs s (s.coreUp && s.rd Reg.fleExpProd != s.rd Reg.fleExpCons && !m.full) (s.formatEntry m)

/-- The bytes of a message (R560). -/
def State.msgBytes (s : State) (m : IpfixMsg) : List Byte :=
  let t := unsigned ((s.tb.sec : Int) - signed m.utc 32) 32
  beBytes 0x000A 2 ++ beBytes m.length 2 ++ beBytes t 4 ++ beBytes (s.rd Reg.fleExpSeq).toNat 4 ++
    beBytes (s.rd Reg.fleExpDomain).toNat 4 ++ beBytes m.template 2 ++ beBytes (m.length - 16) 2 ++ m.records.flatten

/-- The IP version a prefix names at IP_OFS (R561); 0 where nothing is patched. -/
def ipVersion (f : List Byte) (len o : Nat) : Nat := if o = 0xFF ∨ len ≤ o then 0 else (byteAt f o).toNat / 16

/-- The patch of the IP header: lengths, and the IPv4 checksum. -/
def patchIp (f : List Byte) (len o : Nat) : List Byte :=
  match ipVersion f len o with
  | 4 =>
    let f := putAt (putAt f (o + 2) (beBytes (f.length - o) 2)) (o + 10) [0, 0]
    let n := (byteAt f o).toNat % 16 * 4
    putAt f (o + 10) (beBytes (65535 - onesFold (sumWords (slice f o n))) 2)
  | 6 => putAt f (o + 4) (beBytes (f.length - o - 40) 2)
  | _ => f

/-- The checksum of a UDP datagram from `u` to the end of a frame under the IPv6 header at `o`. -/
def udp6Checksum (f : List Byte) (o u : Nat) : Nat :=
  let n := f.length - u
  let c := 65535 - onesFold (sumWords (slice f (o + 8) 32) + n / 65536 + n % 65536 + 17 + sumWords (f.drop u))
  if c = 0 then 65535 else c

/-- The patch of the UDP header. -/
def patchUdp (f : List Byte) (len o u : Nat) : List Byte :=
  if u = 0xFF ∨ len ≤ u then f
  else
    let f := putAt f (u + 4) (beBytes (f.length - u) 2)
    match ipVersion f len o with
    | 4 => putAt f (u + 6) [0, 0]
    | 6 => let f := putAt f (u + 6) [0, 0]
           putAt f (u + 6) (beBytes (udp6Checksum f o u) 2)
    | _ => f

/-- A message behind its prefix, patched (R561). -/
def State.msgFrame (s : State) (m : IpfixMsg) : List Byte :=
  let len := min 128 (s.fld Reg.fleExpPfxHi 23 16)
  let base := s.fld Reg.fleExpPfxLo 31 6 * 64 + s.fld Reg.fleExpPfxHi 7 0 * 2 ^ 32
  let o := s.fld Reg.fleExpPfxHi 15 8
  patchUdp (patchIp (s.ldBytes base len ++ s.msgBytes m) len o) len o (s.fld Reg.fleExpPfxHi 31 24)

/-- A message placed in Reservoir cells and enqueued as a packet without a context (R562). -/
def State.placeMsg (s : State) (port tc : Nat) (f : List Byte) : State :=
  let i := s.qm.nextPkt
  let p : Pkt := { live := true, port := 134, origin := 134, group := 21, owner := 21, bytes := withFcs f, verdict := some 0 }
  let s := takeRest (cellsOf f.length) ({ s with qm.nextPkt := i + 1 }.setPkt i p) i
  s.releasePkt i [] 21 { copies := [(port, tc, none)] }

/-- A message sent: the counters, then the switch core; a port that names none drops it. -/
def State.sendMsg (s : State) (m : IpfixMsg) : State :=
  let f := s.msgFrame m
  let n := m.records.length
  let s := { s with flow.msg := none }.wr Reg.fleExpSeq (s.rd Reg.fleExpSeq + BitVec.ofNat 32 n)
  if !s.portExists m.port then s.spill 9
  else ((s.bump (Reg.fleCnt 7) n).bump (Reg.fleCnt 8)).placeMsg m.port m.tc f

/-- The message in assembly goes out: full, ended by a register write, or its oldest record has waited HOLD_MS. -/
def execExportMessageSend (heldMs : Nat) (s : State) : Out :=
  match s.flow.msg with
  | none => .next s
  | some m => occurs s (s.coreUp && m.records != [] && (m.full || s.expHoldMs ≤ heldMs)) (s.sendMsg m)

/-- A write of EXP_FORMAT, EXP_OUT or EXP_UTC ends the message in assembly (R566). -/
def expWritten (s : State) (a : Nat) : State :=
  if a = Reg.fleExpFormat ∨ a = Reg.fleExpOut ∨ a = Reg.fleExpUtc then
    { s with flow.msg := s.flow.msg.map fun m => { m with closed := true } }
  else s

/-! ### Registers (R534, R564, R565) -/

/-- The instance that holds a staging tag. -/
def State.tagHolder (s : State) (tag : Nat) : Option (Nat × FlowCtx) := s.flow.insts.entries.find? fun e => e.2.tag == some tag

/-- State of a tag's context (R565). -/
def FlowCtx.code (x : FlowCtx) : Nat :=
  if x.resolved.isSome then 4 else if x.ended then 2 else if x.verdict.isSome then 3 else 1

/-- DIAG_DATA. -/
def State.tagDiag (s : State) (tag item : Nat) : Nat :=
  match s.tagHolder tag with
  | none => 0
  | some (i, x) =>
    let es := s.flow.logs.entries.flatMap fun l => (l.2.filter fun e => e.inst == i).map fun e => (l.1, e.seq)
    match item with
    | 0 => x.code * 2 ^ 29 + b2n x.verdict.isSome * 2 ^ 27 + x.verdict.getD 0 * 2 ^ 24 + s.stagedOf i * 2 ^ 16 + (s.stagedRecords i).length
    | 1 => match minBy (fun e : Nat × Nat => e.2) es with
      | some e => handleLo e.1
      | none => 0
    | _ => 0

/-- Staging tags in use. -/
def State.tagsUsed (s : State) : List Nat := s.flow.insts.entries.filterMap fun e => e.2.tag

/-- What the FLE registers computed from its state read. -/
def fleLive (s : State) (a : Nat) : Option Nat :=
  if a = Reg.fleStatus then some (s.tagsUsed.length * 2 ^ 17 + (s.flow.logs.entries.map fun l => l.2.length).sum)
  else if a = Reg.fleDiagData then some (s.tagDiag (s.fld Reg.fleDiagSel 12 0) (s.fld Reg.fleDiagSel 19 16))
  else if a = Reg.fleSweepProgress then
    match s.flow.sweep with
    | none => some 0
    | some w => match (setBits w.mask 16).head? with
      | none => some 0
      | some n => some (n * 2 ^ 28 + w.pos.get n)
  else if Reg.fleFsStat 0 ≤ a ∧ a < Reg.fleFsStat 16 ∧ (a - Reg.fleFsStat 0) % 0x80 = 0 then
    some (s.flow.valid.get ((a - Reg.fleFsStat 0) / 0x80))
  else none

end Sys2Proof.Machine
end

