-- ==== Sys2Proof/Machine/FlowOps.lean ====
section
/-! DEFINITION. Flow operations as unit 8 accepts them: their checks, waits, results on the speculative image, staging,
and the position a create takes (R500–R506, R513, R527, R536–R545, R555). -/
namespace Sys2Proof.Machine

/-- What a helper unit answers to a call (R449, R462, R545): it waits and nothing is accepted yet, with
the counter of the cycles it waits, where one counts them; a HELPER fault with
a subcode; or done, with the results, the last one last, and the bytes its result writes into the context. -/
inductive Accept where
  | wait (counter : Option Nat)
  | fault (s : State) (sub : Nat)
  | done (s : State) (results : List Nat) (ofs : Nat := 0) (bytes : List Byte := [])

/-- A call of a context: cluster, context, function, arguments with the last one last, and its ticket where its unit has
left it waiting before. -/
structure Call where
  cl : Nat
  ctx : Nat
  fn : Nat
  args : List Nat
  ticket : Option Ticket := none
  deriving DecidableEq, Repr, Inhabited

/-- Argument `i` of a call. -/
def Call.arg (c : Call) (i : Nat) : Nat := c.args.getD i 0

/-! ### The ingress NS64 (R539) -/

/-- NS64 of a TS80, its upper seconds bits taken from the time base so that it is not later. -/
def State.ingressNs (s : State) (ts : Nat) : Nat :=
  let now := s.tb.sec * 1000000000 + s.tb.ns
  let at_ := fun hi => (hi * 2 ^ 32 + tsSec ts) * 1000000000 + tsNs ts
  let hi := s.tb.sec / 2 ^ 32
  (if at_ hi ≤ now then at_ hi else at_ ((hi + 2 ^ 16 - 1) % 2 ^ 16)) % 2 ^ 64

/-- The TS80 of a context (R341, offset 0x10). -/
def Ctx.ts80 (x : Ctx) : Nat := leNat (x.bytes 0x10 10)

/-! ### Checks of the arguments (R461, R538) -/

/-- First offset of the writable range of a record. -/
def writeBase (r : Nat) : Nat := pktOfs r

/-- A record field of `n` bytes, aligned to `al`, in the writable range. -/
def fieldOk (r roff n al : Nat) : Bool := roff % al == 0 && writeBase r ≤ roff && roff + n ≤ r

/-- The subcode a call's arguments take, none when they pass. -/
def Call.bad (c : Call) (r : Nat) : Option Nat :=
  let fld := fun n al => if fieldOk r (c.arg 2) n al then none else some 8
  match c.fn with
  | 0 => if c.arg 2 = 0 ∨ (if r = 64 then 24 else 48) < c.arg 2 then some 9 else if srcRange (c.arg 1) (c.arg 2) then none else some 1
  | 1 => if c.arg 2 = 0 ∨ (if r = 64 then 24 else 48) < c.arg 2 then some 9 else if srcRange (c.arg 1) (c.arg 2) then none else some 1
  | 3 => if c.arg 4 = 0 ∨ 256 < c.arg 4 then some 5 else if !dstRange (c.arg 3) (c.arg 4) then some 1
         else if c.arg 2 + c.arg 4 ≤ r then none else some 8
  | 4 => if c.arg 4 = 0 ∨ 64 < c.arg 4 then some 5 else if !srcRange (c.arg 3) (c.arg 4) then some 1 else fld (c.arg 4) 1
  | 5 => fld 4 4
  | 6 => fld 8 8
  | 7 => fld 4 4
  | 8 => fld 4 4
  | 9 => fld 4 4
  | 10 => fld 4 4
  | 11 => fld 4 4
  | 12 => fld 8 8
  | 13 => if 16383 < c.arg 2 then some 5 else none
  | 14 => if 16383 < c.arg 4 then some 5 else if !srcRange (c.arg 3) 8 then some 1 else fld 16 8
  | _ => none

/-- Whether a handle names a position of its slice (R512, R513). -/
def State.handleOk (s : State) (lo hi : Nat) : Bool :=
  lo / 2 ^ 26 % 4 == 0 && hi / 2 ^ 16 == 0 && lo % 2 ^ 26 < s.buckets * 8

/-- Record key of a handle. -/
def handleKey (lo : Nat) : Nat := recKey (lo / 2 ^ 28 % 16) (lo % 2 ^ 26)

/-- A call that faults: subcodes 8–11 are recorded, on the slice of its handle where it has a good one (R564). -/
def State.flowFault (s : State) (c : Call) (sub : Nat) : Accept :=
  let named := 2 ≤ c.fn && s.handleOk (c.arg 0) (c.arg 1)
  if sub < 8 then .fault s sub
  else .fault (s.opErr sub (if named then c.arg 0 / 2 ^ 28 % 16 else 0) c.cl c.fn (if named then c.arg 0 else 0)) sub

/-! ### Staging (R538, R543–R545) -/

/-- The limit a further entry on a record would exceed: subcode 10 or 11. -/
def State.stageLimit (s : State) (i key : Nat) : Option Nat :=
  let recs := s.stagedRecords i
  if 16 ≤ s.stagedOf i then some 10 else if !recs.contains key && 4 ≤ recs.length then some 11 else none

/-- LOG_LIMIT in force (R564). -/
def State.logLimit (s : State) : Nat := min 64 (max 1 (s.fld Reg.fleCtrl 7 0))

/-- Contexts with entries in a log. -/
def State.logCtxs (s : State) (key : Nat) : List Nat := sortNats ((s.log key).map fun e => e.inst)

/-- Staged entries of a slice. -/
def State.sliceStaged (s : State) (slice : Nat) : Nat :=
  ((s.flow.logs.entries.filter fun l => keySlice l.1 == slice).map fun l => l.2.length).sum

/-- The wait counter of an operation that finds no tag, no entry or no log place free; none when it may stage. -/
def State.stageWait (s : State) (i key : Nat) : Option Nat :=
  if ((s.inst i).tag.isNone && 8192 ≤ s.tagsUsed.length) || 4096 ≤ s.sliceStaged (keySlice key) then some 5
  else if s.logLimit ≤ (s.logCtxs key).length && !(s.logCtxs key).contains i then some 6
  else none

/-- A record counted among those an instance has operated on (R516). -/
def State.touchRec (s : State) (i key : Nat) : State :=
  let x := s.inst i
  if x.touched.contains key then s else s.setInst i { x with touched := x.touched ++ [key] }

/-- An entry at the end of its record's log, under the context's tag. -/
def State.stage (s : State) (i key : Nat) (e : LogEntry) : State :=
  let x := s.inst i
  let tag := match x.tag with
    | some t => t
    | none => ((List.range (s.tagsUsed.length + 1)).find? fun n => !s.tagsUsed.contains n).getD 0
  let s := (s.setInst i { x with tag := some tag }).touchRec i key
  { s with flow.seq := s.flow.seq + 1
           flow.logs := s.flow.logs.mod key fun l => l ++ [{ e with seq := s.flow.seq, inst := i }] }

/-- An operation that stages: its limits, its waits, then its entry and results. `s` is the state before it, `t` the
state it stages in. -/
def stageOr (s t : State) (c : Call) (i key : Nat) (e : LogEntry) (hpos : Nat) : Accept :=
  match t.stageLimit i key with
  | some sub => .fault (s.opErr sub (keySlice key) c.cl c.fn hpos) sub
  | none => match t.stageWait i key with
    | some k => .wait (some (Reg.fleCnt k))
    | none => .done (t.stage i key e) e.results

/-! ### The position of a create (R502–R505) -/

/-- Whether a position is free: its record is invalid and no uncommitted create has reserved it. -/
def State.posFree (s : State) (key : Nat) : Bool :=
  !recValid (s.committed key) && !(s.log key).any fun e => e.own

/-- The candidate index of the record the home's HOP names, when that hop is live: a valid record homed here. -/
def State.liveHop (s : State) (c : Candidates) : Option Nat :=
  match recHop (s.committed (c.at_ c.home)) with
  | none => none
  | some j =>
    let img := s.committed (c.at_ j)
    if recValid img && recDisplaced img && s.homeKey img == c.at_ c.home then some j else none

/-- Whether an unresolved create of another key has reserved the home's hop. -/
def State.hopReserved (s : State) (c : Candidates) : Bool :=
  s.flow.logs.entries.any fun l => l.2.any fun e =>
    e.own && e.cand != e.home && (let d := s.candidates e.tenant e.bytes; d.at_ d.home == c.at_ c.home)

/-- Whether the record at a candidate may be evicted: valid, neither PINNED nor held. -/
def State.evictable (s : State) (c : Candidates) (j : Nat) : Bool :=
  let img := s.committed (c.at_ j)
  recValid img && !recPinned img && !s.lineHeld (c.at_ j)

/-- Where a create goes: a candidate index, with the eviction cause where it evicts. -/
structure Place where
  cand : Nat
  evict : Option Nat := none
  deriving DecidableEq, Repr, Inhabited

/-- Lowest free candidate other than the home. -/
def State.freeCand (s : State) (c : Candidates) : Option Nat :=
  (List.range 16).find? fun j => j != c.home && s.posFree (c.at_ j)

/-- The candidates among which the victim is chosen (R503). -/
def State.victims (s : State) (c : Candidates) : List Nat :=
  let all := s.liveHop c == none && !s.hopReserved c
  (List.range 16).filter fun j => (all || j == c.home || s.liveHop c == some j) && s.evictable c j

/-- The victim: the one with the earliest last-seen time, or one picked at random. -/
def State.evictVictim (s : State) (c : Candidates) : Option Nat × State :=
  let l := s.victims c
  if l = [] then (none, s)
  else if s.bit Reg.fleStoreCtrl 31 then (minBy (fun j => recLast s.recSize (s.committed (c.at_ j))) l, s)
  else let r := s.draw 32
       (l[r.1 % l.length]?, r.2)

/-- The position R502 gives a create; none when no record is eligible. -/
def State.placeCreate (s : State) (c : Candidates) : Option Place × State :=
  if s.posFree (c.at_ c.home) then (some { cand := c.home }, s)
  else
    let open_ := if s.liveHop c == none && !s.hopReserved c then s.freeCand c else none
    match open_ with
    | some j => (some { cand := j }, s)
    | none =>
      let v := s.evictVictim c
      (v.1.map fun j => { cand := j, evict := some (b2n (s.bit Reg.fleStoreCtrl 31)) }, v.2)

/-- A create that finds no eligible record (R504). -/
def State.insertFail (s : State) (slice : Nat) : State := (s.bump (sliceCnt slice 6)).fsEvent slice 0

/-! ### Keyed operations (R500, R501, R527, R536) -/

/-- An operation started in a slice (R827). -/
def State.opStarted (s : State) (slice : Nat) : State := s.count 64 [slice, 16]

/-- The entry of a CREATE. -/
def createEntry (c : Call) (cand : Candidates) (tenant : Nat) (key : List Byte) (p : Place) (own : Bool) (ns : Nat)
    (results : List Nat) : LogEntry :=
  { cluster := c.cl, fn := 1, gen := results.getD 2 0, bytes := key, tenant := tenant, home := cand.home
    cand := p.cand, evict := p.evict, own := own, ns := ns, results := results }

/-- A create of an absent key; `s` is the state before the search, `t` after it. -/
def createNew (s t : State) (c : Call) (i : Nat) (cand : Candidates) (tenant : Nat) (key : List Byte) (ns : Nat) : Accept :=
  let p := t.placeCreate cand
  match p.1 with
  | none => .done (p.2.insertFail cand.slice) [5, 0, 0]
  | some pl =>
    let k := cand.at_ pl.cand
    match p.2.fetchAtoms k t.allAtoms with
    | none => .wait (some (sliceCnt cand.slice 7))
    | some u =>
      stageOr s u c i k (createEntry c cand tenant key pl true ns [0, handleLo k, (recGen (u.committed k) + 1) % 65536]) 0

/-- A keyed operation whose key is present: LOOKUP returns its handle, CREATE stages an entry too. -/
def keyFound (s t : State) (c : Call) (i k : Nat) (cand : Candidates) (tenant : Nat) (key : List Byte) (ns : Nat) : Accept :=
  let t := t.fillLine k t.allAtoms
  let gen := recGen (t.speculative k)
  if c.fn = 0 then .done (t.touchRec i k) [0, handleLo k, gen]
  else
    let j := ((List.range 16).find? fun j => cand.at_ j == k).getD cand.home
    stageOr s t c i k (createEntry c cand tenant key { cand := j } false ns [2, handleLo k, gen]) (handleLo k)

/-- Where the key of a keyed operation's home position lies, from its arguments. -/
def State.keyedHome (s : State) (ctx : Nat) (args : List Nat) : Nat :=
  let c := s.candidates (args.getD 0 0 % 65536) ((s.ctx ctx).bytes (args.getD 1 0) (args.getD 2 0))
  c.at_ c.home

/-- The home of a thread's keyed operation that waits undecided, and its ticket. -/
def State.undecided (s : State) (t : Thread) : List (Ticket × Nat) :=
  [t.wait, t.late].filterMap fun w => match w with
    | some c => match c.unit, c.waiting, c.ticket with
      | 8, some (fn, args), some k => if fn ≤ 1 then some (k, s.keyedHome (t.ctx.getD 0) args) else none
      | _, _, _ => none
    | none => none

/-- Whether a keyed operation that arrived earlier on the same home position has not decided its position (R501). -/
def State.keyedAhead (s : State) (c : Call) (home : Nat) : Bool :=
  s.flume.threads.entries.any fun e => (s.undecided e.2).any fun u => u.2 == home && c.ticket.all fun k => u.1.seq < k.seq

/-- LOOKUP and CREATE. -/
def acceptKeyed (s : State) (c : Call) : Accept :=
  let x := s.ctx c.ctx
  let i := s.instOf c.ctx
  let tenant := c.arg 0 % 65536
  let key := x.bytes (c.arg 1) (c.arg 2)
  let cand := s.candidates tenant key
  if s.bit Reg.fleShard 31 && cand.shard != s.bit Reg.fleShard 30 then
    .done ((s.opStarted cand.slice).fleCount 4) [4, 0, 0]
  else if s.keyedAhead c (cand.at_ cand.home) then .wait none
  else match s.searchReads tenant key with
    | none => .wait (some (sliceCnt cand.slice 7))
    | some t =>
      let t := t.opStarted cand.slice
      match t.findKey tenant key with
      | some k => keyFound s t c i k cand tenant key (s.ingressNs x.ts80)
      | none => if c.fn = 0 then .done t [1, 0, 0] else createNew s t c i cand tenant key (s.ingressNs x.ts80)

/-! ### Operations by handle (R513, R536) -/

/-- The entry of an operation by handle, its arguments taken from the call. -/
def handleEntry (c : Call) (x : Ctx) (ns : Nat) : LogEntry :=
  let e : LogEntry := { cluster := c.cl, fn := c.fn, gen := c.arg 1, roff := c.arg 2, ns := ns }
  match c.fn with
  | 4 => { e with bytes := x.bytes (c.arg 3) (c.arg 4) }
  | 7 => { e with x := c.arg 3, y := c.arg 4 }
  | 13 => { e with roff := 0, x := c.arg 2 }
  | 14 => { e with x := c.arg 4, bytes := x.bytes (c.arg 3) 8 }
  | 15 => { e with roff := 0, x := c.arg 2 % 256 }
  | _ => { e with x := c.arg 3 }

/-- An operation on the record a good handle names, its record in the cache. -/
def onRecord (s t : State) (c : Call) (i key : Nat) : Accept :=
  let x := s.ctx c.ctx
  let img := t.speculative key
  if !recValid img || recGen img != c.arg 1 then .done t (statusOnly c.fn 3)
  else
    let u := t.touchRec i key
    if c.fn = 3 then .done u [0] (c.arg 3) (slice img (c.arg 2) (c.arg 4))
    else
      let e := handleEntry c x (s.ingressNs x.ts80)
      let r := (applyEntry t.recSize key 0 img e).2
      if r.head? = some 0 then stageOr s u c i key { e with results := r } (handleLo key) else .done u r

/-- An operation by handle. -/
def acceptHandle (s : State) (c : Call) : Accept :=
  if !s.handleOk (c.arg 0) (c.arg 1) then .done (s.opStarted (c.arg 0 / 2 ^ 28 % 16)) (statusOnly c.fn 7)
  else
    let key := handleKey (c.arg 0)
    match s.fetchAtoms key s.allAtoms with
    | none => .wait (some (sliceCnt (keySlice key) 7))
    | some t => onRecord s (t.opStarted (keySlice key)) c (s.instOf c.ctx) key

/-- A flow operation as unit 8 accepts it. -/
def acceptFlow (s : State) (c : Call) : Accept :=
  if c.fn = 16 then .done ((s.abortStaged (s.instOf c.ctx)).count 64 [16]) []
  else match c.bad s.recSize with
    | some sub => s.flowFault c sub
    | none => if c.fn < 2 then acceptKeyed s c else acceptHandle s c

end Sys2Proof.Machine
end

