-- ==== Sys2Proof/Machine/Helpers.lean ====
section
/-! DEFINITION. Helper units 0–7 as they accept a call: hashes, checksums, timestamps, work buffers, re-lookups, header
edits and the ending calls (R457–R487). -/
namespace Sys2Proof.Machine

/-- The first condition of R461 that applies, else the unit's answer. -/
def checked (s : State) (lenOk rangeOk : Bool) (a : Accept) : Accept :=
  if !lenOk then .fault s 5 else if !rangeOk then .fault s 1 else a

/-- Whether a byte count lies from 1 to `m`. -/
def lenIn (n m : Nat) : Bool := 1 ≤ n && n ≤ m

/-! ### Units 0–2: hash, CRC, checksum (R464–R467) -/

/-- SYMH of two equally long strings (R465). -/
def symHash (seed : Nat) (a b : List Byte) : Nat :=
  let lo := if bytesLt b a then b else a
  let hi := if bytesLt b a then a else b
  hashFin (crc32cBytes (crc32cBytes seed lo) hi)

/-- CSUM (R466). -/
def csumRange (init : Nat) (bs : List Byte) : Nat := onesFold (init % 65536 + sumWords bs)

/-- CSUM_ADJ (R467). -/
def csumAdjust (c old new : Nat) : Nat :=
  65535 - onesFold ((65535 - c % 65536) + (65535 - old / 65536) + (65535 - old % 65536) + new / 65536 + new % 65536)

/-- A function of one context range: ( seed ofs len -- r ). -/
def rangeFn (s : State) (c : Call) (f : Nat → List Byte → Nat) : Accept :=
  checked s (lenIn (c.arg 2) 256) (srcRange (c.arg 1) (c.arg 2))
    (.done s [f (c.arg 0) ((s.ctx c.ctx).bytes (c.arg 1) (c.arg 2))])

/-- Unit 0. -/
def acceptHash (s : State) (c : Call) : Accept :=
  if c.fn = 0 then rangeFn s c fun seed bs => hashFin (crc32cBytes seed bs)
  else
    let x := s.ctx c.ctx
    checked s (lenIn (c.arg 3) 64) (srcRange (c.arg 1) (c.arg 3) && srcRange (c.arg 2) (c.arg 3))
      (.done s [symHash (c.arg 0) (x.bytes (c.arg 1) (c.arg 3)) (x.bytes (c.arg 2) (c.arg 3))])

/-- Unit 1. -/
def acceptCrc (s : State) (c : Call) : Accept :=
  rangeFn s c (match c.fn with | 0 => crc32cBytes | 1 => crc16Bytes | _ => crc32Bytes)

/-- Unit 2. -/
def acceptCsum (s : State) (c : Call) : Accept :=
  if c.fn = 0 then rangeFn s c csumRange else .done s [csumAdjust (c.arg 0) (c.arg 1) (c.arg 2)]

/-! ### Unit 3: timestamps (R468) -/

/-- The time base minus a TS80 in whole nanoseconds, seconds compared modulo 2^32; 0 when negative, saturating. -/
def State.ageOf (s : State) (ts : Nat) : Nat :=
  let d := signed ((s.tb.sec + 2 ^ 32 - tsSec ts) % 2 ^ 32) 32
  let units := (d * 1000000000 + (s.tb.ns : Int) - tsNs ts) * 65536 + ((s.tb.frac / 2 ^ 32 : Nat) : Int) - tsFrac ts
  if units < 0 then 0 else satNat (units.toNat / 65536) (2 ^ 32 - 1)

/-- Unit 3. -/
def acceptTime (s : State) (c : Call) : Accept :=
  match c.fn with
  | 0 => .done s [s.tb.sec % 2 ^ 32, s.tb.ns, s.tb.frac / 2 ^ 32]
  | 1 => .done s [s.ns64 % 2 ^ 32, s.ns64 / 2 ^ 32]
  | _ => .done s [s.ageOf (s.ctx c.ctx).ts80]

/-! ### Unit 4: work buffers (R469, R470) -/

/-- Unit 4, for the owner of the calling cluster. -/
def acceptPool (s : State) (c : Call) : Accept :=
  let o := s.fld (Reg.bpmClOwner c.cl) 5 0
  match c.fn with
  | 0 => let r := s.bpmAlloc o (c.arg 0)
         .done r.2.2 [r.1, r.2.1]
  | 1 => let r := s.bpmFree o (c.arg 0)
         .done r.2 [r.1]
  | 2 => let r := s.bpmHandover o (c.arg 0) (c.arg 1)
         .done r.2 [r.1]
  | 3 => let r := s.bpmShare o (c.arg 0)
         .done r.2 [r.1]
  | 4 => checked s (lenIn (c.arg 3) 256) (dstRange (c.arg 2) (c.arg 3))
           (let r := s.bpmAccess (c.arg 0) (c.arg 1) (c.arg 3)
            if r.1 = 0 then .done s [0] (c.arg 2) (s.ldBytes r.2 (c.arg 3)) else .done s [r.1])
  | _ => checked s (lenIn (c.arg 3) 256) (srcRange (c.arg 2) (c.arg 3))
           (let r := s.bpmAccess (c.arg 0) (c.arg 1) (c.arg 3)
            .done (if r.1 = 0 then s.stBytes r.2 ((s.ctx c.ctx).bytes (c.arg 2) (c.arg 3)) else s) [r.1])

/-! ### Units 5 and 6: re-lookups (R471–R473) -/

/-- Whether the cluster's lane serves a re-lookup now (R471). -/
def State.lanesCall (s : State) (c : Call) : Bool := s.laneServes c.cl (c.ticket.getD s.ticket)

/-- A Weir re-lookup of the cluster's lane. -/
def acceptWlook (s : State) (c : Call) : Accept :=
  let n := s.weirKeyLen
  if !srcRange (c.arg 0) n || !dstRange (c.arg 1) 16 then .fault s 1
  else if !s.lanesCall c then .wait none
  else
    let r := (s.count 40 [c.cl]).weirLookup c.cl (beNat ((s.ctx c.ctx).bytes (c.arg 0) n))
    let ad := match r.1.hit with | some i => (s.tables.weir.get i).ad | none => s.missAd
    .done r.2 [b2n r.1.hit.isSome + 2 * b2n (r.1.failed != []), r.1.hit.getD 0] (c.arg 1) (leBytes ad 16)

/-- An EMT re-lookup of the cluster's lane. -/
def acceptElook (s : State) (c : Call) : Accept :=
  if !srcRange (c.arg 0) 14 then .fault s 1
  else if !s.lanesCall c then .wait none
  else
    let o := s.emtSearch c.cl (beNat ((s.ctx c.ctx).bytes (c.arg 0) 14))
    let data := match o.hit with | some i => (s.tables.emt.get i).data | none => 0
    .done ((s.count 40 [c.cl]).emtFalseHits c.cl o) [b2n o.hit.isSome + 2 * b2n (o.failed != []), o.hit.getD 0, data]

/-! ### Unit 7: header edits (R474–R478, R485, R486) -/

/-- Whether an edit covers a range of original bytes. -/
def Edit.ranged (e : Edit) : Bool := e.kind != .insert

/-- Whether two edits conflict (R476). -/
def Edit.conflicts (a b : Edit) : Bool :=
  if a.ranged && b.ranged then a.pos < b.pos + b.len && b.pos < a.pos + a.len
  else if a.ranged then a.pos < b.pos && b.pos < a.pos + a.len
  else if b.ranged then b.pos < a.pos && a.pos < b.pos + b.len
  else false

/-- Whether a list of edits keeps within R478. -/
def editsFit (l : List Edit) : Bool :=
  let ins := ((l.filter fun e => e.kind == .insert).map fun e => e.data.length).sum
  let rep := ((l.filter fun e => e.kind == .replace).map fun e => e.data.length).sum
  l.length ≤ 32 && ins ≤ 128 && ins + rep ≤ 256

/-- An edit queued, its range or point within the available length, without conflict and within the limits. -/
def queueEdit (s : State) (c : Call) (e : Edit) : Accept :=
  let x := s.ctx c.ctx
  if x.avail < e.pos + (if e.ranged then e.len else 0) then .fault s 2
  else if x.edits.any e.conflicts then .fault s 3
  else if !editsFit (x.edits ++ [e]) then .fault s 4
  else .done (s.setCtx c.ctx { x with edits := x.edits ++ [e] }) []

/-- REPLACE and INSERT: ( fofs ofs len -- ). -/
def dataEdit (s : State) (c : Call) (k : EditKind) : Accept :=
  checked s (lenIn (c.arg 2) 64) (srcRange (c.arg 1) (c.arg 2))
    (queueEdit s c { kind := k, pos := c.arg 0, len := c.arg 2, data := (s.ctx c.ctx).bytes (c.arg 1) (c.arg 2) })

/-! ### Ending calls (R483–R487) -/

/-- A context ended with a drop into a Spillway counter. -/
def dropCtx (s : State) (c : Call) (counter : Nat) : Accept :=
  .done ((s.setCtx c.ctx { s.ctx c.ctx with ending := .drop counter }).spill counter) []

/-- A context ended with an outcome. -/
def endCtx (s : State) (c : Call) (e : Ending) : Accept := .done (s.setCtx c.ctx { s.ctx c.ctx with ending := e }) []

/-- TC in force, from the context's metadata (R341). -/
def Ctx.tcInForce (x : Ctx) : Nat := bitsOf (leNat (x.bytes 0x1C 4)) 23 21

/-- EMIT: the Culvert request comes first, then the port and the class. -/
def emitCall (s : State) (c : Call) : Accept :=
  let x := s.ctx c.ctx
  if x.culvert then endCtx s c (.culvert x.tcInForce)
  else if 133 < c.arg 0 ∨ 7 < c.arg 1 ∨ !s.portExists (c.arg 0) then dropCtx s c 7
  else endCtx s c (.unicast (c.arg 0) (c.arg 1))

/-- EMIT_MC. -/
def emitMcCall (s : State) (c : Call) : Accept :=
  let x := s.ctx c.ctx
  if x.culvert then endCtx s c (.culvert x.tcInForce)
  else if 4095 < c.arg 0 ∨ 3 < c.arg 1 then dropCtx s c 7
  else endCtx s c (.multicast (c.arg 0) (c.arg 1))

/-- Unit 7. -/
def acceptEdit (s : State) (c : Call) : Accept :=
  let x := s.ctx c.ctx
  match c.fn with
  | 0 => dataEdit s c .replace
  | 1 => dataEdit s c .insert
  | 2 => checked s (lenIn (c.arg 1) 256) true (queueEdit s c { kind := .remove, pos := c.arg 0, len := c.arg 1 })
  | 3 => queueEdit s c { kind := .stamp, pos := c.arg 0, len := 10 }
  | 4 => .done (s.setCtx c.ctx { x with siphonEn := bitAt (c.arg 0) 4, siphon := c.arg 0 % 16, siphonEdited := bitAt (c.arg 0) 5 }) []
  | 5 => .done (s.setCtx c.ctx { x with culvert := bitAt (c.arg 0) 0 }) []
  | 6 => .done (s.setCtx c.ctx { x with edits := [] }) []
  | 8 => emitCall s c
  | 9 => emitMcCall s c
  | _ => dropCtx s c 6

/-! ### Any unit -/

/-- A call as its unit accepts it. -/
def acceptCall (unit : Nat) (s : State) (c : Call) : Accept :=
  match unit with
  | 0 => acceptHash s c
  | 1 => acceptCrc s c
  | 2 => acceptCsum s c
  | 3 => acceptTime s c
  | 4 => acceptPool s c
  | 5 => acceptWlook s c
  | 6 => acceptElook s c
  | 7 => acceptEdit s c
  | _ => acceptFlow s c

end Sys2Proof.Machine
end

