-- ==== Sys2Proof/Machine/Calls.lean ====
section
/-! DEFINITION. HCALL: how a thread issues a call, waits for its results and receives them, and the HCALL of every
function of every unit (R448–R450, R459–R463, R536, R876). -/
namespace Sys2Proof.Machine

/-- HCALL of a function with `p` arguments and `q` results (R449). -/
def callSpec (unit fn p q : Nat) : OpSpec :=
  { mask := 0xFFFF, pat := 0xA000 + unit * 256 + fn, resv := 0, pops := p, pushes := q, helper := true }

/-- A thread that waits for a call. -/
def State.setWait (s : State) (cl e th : Nat) (c : CallWait) : State := s.setThr cl e th { s.thr cl e th with wait := some c }

/-- A call its unit leaves waiting, with a ticket from the first time on, and the counter of what it now waits for. -/
def State.leaveWaiting (s : State) (cl e th : Nat) (c : CallWait) (counter : Option Nat) : State :=
  match c.ticket with
  | some _ => s.setWait cl e th { c with counter := counter }
  | none => { s with flume.tickets := s.flume.tickets + 1 }.setWait cl e th { c with counter := counter, ticket := some s.ticket }

/-- What an issued call leaves when its unit has answered: its wait for results, or its fault when it returns none. -/
def callDone (s : State) (cl e th q : Nat) (c : CallWait) (fn : Nat) (args : List Nat) (a : Arch) : Accept → Except (Nat × Nat) Done
  | .wait k => .ok { s := s.leaveWaiting cl e th { c with waiting := some (fn, args) } k, a := a, deferred := true }
  | .fault t sub =>
    if q = 0 then .error (6, sub)
    else .ok { s := t.setWait cl e th { c with fault := some (6, sub) }, a := a, deferred := true }
  | .done t rs o bs =>
    if q = 0 then .ok { s := t, a := a }
    else .ok { s := t.setWait cl e th { c with results := rs.reverse.map (BitVec.ofNat 32), put := (o, bs) }, a := a, deferred := true }

/-- The body of an HCALL: the arguments popped, the call accepted or left waiting behind one not yet accepted (R463,
R876). -/
def callBody (w : Who) (unit fn p q : Nat) : Body := fun s a _ =>
  match w with
  | .ce _ => .ok { s := s, a := a }
  | .pe cl e th =>
    let t := s.thr cl e th
    let args := (a.ds.take p).reverse.map BitVec.toNat
    let a' := { a with ds := a.ds.drop p }
    let c : CallWait := { pc := a.faultPc, unit := unit }
    if t.late.isSome then .ok { s := s.setWait cl e th { c with waiting := some (fn, args) }, a := a', deferred := true }
    else callDone s cl e th q c fn args a' (acceptCall unit s { cl := cl, ctx := t.ctx.getD 0, fn := fn, args := args })

/-! ### Results (R449, R462, R876) -/

/-- A call left waiting is offered to its unit again. -/
def State.offer (s : State) (cl e th : Nat) (c : CallWait) : Accept :=
  match c.waiting with
  | none => .done s []
  | some (fn, args) => acceptCall c.unit s { cl := cl, ctx := (s.thr cl e th).ctx.getD 0, fn := fn, args := args, ticket := c.ticket }

/-- A flow operation whose result a fault has discarded: accepted at last, or still waiting. -/
def State.lateCall (s : State) (cl e th : Nat) (c : CallWait) : State :=
  let forget := fun (t : State) => t.setThr cl e th { t.thr cl e th with late := none }
  match s.offer cl e th c with
  | .wait k => s.setThr cl e th { s.thr cl e th with late := some { c with counter := k } }
  | .fault t _ => forget t
  | .done t _ _ _ => forget t

/-- A waiting call offered again: its answer becomes the thread's result to come. -/
def State.retryCall (s : State) (cl e th : Nat) (c : CallWait) : State :=
  match s.offer cl e th c with
  | .wait k => s.leaveWaiting cl e th c k
  | .fault t sub => t.setWait cl e th { c with waiting := none, ticket := none, fault := some (6, sub) }
  | .done t rs o bs => t.setWait cl e th { c with waiting := none, ticket := none, results := rs.reverse.map (BitVec.ofNat 32), put := (o, bs) }

/-- A result delivered: its bytes go into the context space, its results onto the stack, and its iteration ends; or its
fault is taken. -/
def State.deliverCall (s : State) (cl e th : Nat) (c : CallWait) : State :=
  let t := s.thr cl e th
  match c.fault with
  | some (u, f) => (s.setThr cl e th { t with wait := none }).peFault cl e th u f c.pc
  | none =>
    let n := t.ctx.getD 0
    let a := endIteration (2 ^ 16) { t.arch with ds := c.results ++ t.arch.ds }
    ((s.setCtx n ((s.ctx n).putBytes c.put.1 c.put.2)).setThr cl e th { t with wait := none, arch := a }).holdRepx (.pe cl e th)

/-- A helper or flow-operation result arrives; a call not yet accepted is offered to its unit again. -/
def execHelperResult (w : Who) (s : State) : Out :=
  if !w.wf then .fault .illFormed else
  match w with
  | .ce _ => .next s
  | .pe cl e th =>
    match (s.thr cl e th).late, (s.thr cl e th).wait with
    | some c, _ => occurs s s.coreUp (s.lateCall cl e th c)
    | none, some c => occurs s s.coreUp (if c.waiting.isSome then s.retryCall cl e th c else s.deliverCall cl e th c)
    | none, none => .next s

/-! ### The functions -/

/-- H32M ( seed ofs len -- h ) (R464). -/
def execH32m (w : Who) (s : State) : Out := issue w (callSpec 0 0 3 1) s (callBody w 0 0 3 1)

/-- SYMH ( seed ofs_a ofs_b len -- h ) (R465). -/
def execSymh (w : Who) (s : State) : Out := issue w (callSpec 0 1 4 1) s (callBody w 0 1 4 1)

/-- CRC32C ( init ofs len -- c ) (R464). -/
def execHcallCrc32c (w : Who) (s : State) : Out := issue w (callSpec 1 0 3 1) s (callBody w 1 0 3 1)

/-- CRC16 ( init ofs len -- c ) (R464). -/
def execHcallCrc16 (w : Who) (s : State) : Out := issue w (callSpec 1 1 3 1) s (callBody w 1 1 3 1)

/-- CRC32 ( init ofs len -- c ) (R464). -/
def execCrc32 (w : Who) (s : State) : Out := issue w (callSpec 1 2 3 1) s (callBody w 1 2 3 1)

/-- CSUM ( init ofs len -- s ) (R466). -/
def execCsum (w : Who) (s : State) : Out := issue w (callSpec 2 0 3 1) s (callBody w 2 0 3 1)

/-- CSUM_ADJ ( c old new -- c' ) (R467). -/
def execCsumAdj (w : Who) (s : State) : Out := issue w (callSpec 2 1 3 1) s (callBody w 2 1 3 1)

/-- TS_NOW ( -- sec_lo ns frac ) (R468). -/
def execTsNow (w : Who) (s : State) : Out := issue w (callSpec 3 0 0 3) s (callBody w 3 0 0 3)

/-- TS_NS64 ( -- lo hi ) (R468). -/
def execTsNs64 (w : Who) (s : State) : Out := issue w (callSpec 3 1 0 2) s (callBody w 3 1 0 2)

/-- TS_AGE ( -- d ) (R468). -/
def execTsAge (w : Who) (s : State) : Out := issue w (callSpec 3 2 0 1) s (callBody w 3 2 0 1)

/-- ALLOC ( size -- st h ) (R469, R612). -/
def execAlloc (w : Who) (s : State) : Out := issue w (callSpec 4 0 1 2) s (callBody w 4 0 1 2)

/-- FREE ( h -- st ) (R469, R614). -/
def execFree (w : Who) (s : State) : Out := issue w (callSpec 4 1 1 1) s (callBody w 4 1 1 1)

/-- HANDOVER ( h owner -- st ) (R469, R609). -/
def execHandover (w : Who) (s : State) : Out := issue w (callSpec 4 2 2 1) s (callBody w 4 2 2 1)

/-- SHARE ( h -- st ) (R469, R615). -/
def execShare (w : Who) (s : State) : Out := issue w (callSpec 4 3 1 1) s (callBody w 4 3 1 1)

/-- READ ( h boff ofs len -- st ) (R469). -/
def execBufferRead (w : Who) (s : State) : Out := issue w (callSpec 4 4 4 1) s (callBody w 4 4 4 1)

/-- WRITE ( h boff ofs len -- st ) (R469). -/
def execBufferWrite (w : Who) (s : State) : Out := issue w (callSpec 4 5 4 1) s (callBody w 4 5 4 1)

/-- WLOOK ( kofs adofs -- st idx ) (R472). -/
def execWlook (w : Who) (upsets : List ArrayUpset) (s : State) : Out :=
  whenWf (upsets.all ArrayUpset.wf) (issue w (callSpec 5 0 2 2) s fun t => callBody w 5 0 2 2 (t.upsets upsets))

/-- ELOOK ( kofs -- st idx data ) (R472). -/
def execElook (w : Who) (upsets : List ArrayUpset) (s : State) : Out :=
  whenWf (upsets.all ArrayUpset.wf) (issue w (callSpec 6 0 1 3) s fun t => callBody w 6 0 1 3 (t.upsets upsets))

/-- REPLACE ( fofs ofs len -- ) (R474). -/
def execReplace (w : Who) (s : State) : Out := issue w (callSpec 7 0 3 0) s (callBody w 7 0 3 0)

/-- INSERT ( fofs ofs len -- ) (R474). -/
def execEditInsert (w : Who) (s : State) : Out := issue w (callSpec 7 1 3 0) s (callBody w 7 1 3 0)

/-- REMOVE ( fofs len -- ) (R474). -/
def execRemove (w : Who) (s : State) : Out := issue w (callSpec 7 2 2 0) s (callBody w 7 2 2 0)

/-- STAMP ( fofs -- ) (R474, R480). -/
def execEditStamp (w : Who) (s : State) : Out := issue w (callSpec 7 3 1 0) s (callBody w 7 3 1 0)

/-- SIPHON ( v -- ) (R485). -/
def execSiphon (w : Who) (s : State) : Out := issue w (callSpec 7 4 1 0) s (callBody w 7 4 1 0)

/-- CULVERT ( v -- ) (R486). -/
def execCulvert (w : Who) (s : State) : Out := issue w (callSpec 7 5 1 0) s (callBody w 7 5 1 0)

/-- EDIT_CLEAR ( -- ) (R474). -/
def execEditClear (w : Who) (s : State) : Out := issue w (callSpec 7 6 0 0) s (callBody w 7 6 0 0)

/-- EMIT ( port tc -- ), which ends the context (R483, R484). -/
def execEmit (w : Who) (s : State) : Out := issue w (callSpec 7 8 2 0) s (callBody w 7 8 2 0)

/-- EMIT_MC ( group mq -- ), which ends the context (R483, R484). -/
def execEmitMc (w : Who) (s : State) : Out := issue w (callSpec 7 9 2 0) s (callBody w 7 9 2 0)

/-- DROP ( -- ), which ends the context (R483). -/
def execHcallDrop (w : Who) (s : State) : Out := issue w (callSpec 7 10 0 0) s (callBody w 7 10 0 0)

/-- LOOKUP ( tenant kofs klen -- st h ) (R500, R536). -/
def execFlowLookup (w : Who) (s : State) : Out := issue w (callSpec 8 0 3 3) s (callBody w 8 0 3 3)

/-- CREATE ( tenant kofs klen -- st h ) (R502–R505, R536). -/
def execFlowCreate (w : Who) (s : State) : Out := issue w (callSpec 8 1 3 3) s (callBody w 8 1 3 3)

/-- DELETE ( h -- st ) (R536). -/
def execFlowDelete (w : Who) (s : State) : Out := issue w (callSpec 8 2 2 1) s (callBody w 8 2 2 1)

/-- READ ( h roff ofs len -- st ) (R536). -/
def execFlowRead (w : Who) (s : State) : Out := issue w (callSpec 8 3 5 1) s (callBody w 8 3 5 1)

/-- WRITE ( h roff ofs len -- st ) (R536). -/
def execFlowWrite (w : Who) (s : State) : Out := issue w (callSpec 8 4 5 1) s (callBody w 8 4 5 1)

/-- FADD32 ( h roff x -- st old ) (R536). -/
def execFadd32 (w : Who) (s : State) : Out := issue w (callSpec 8 5 4 2) s (callBody w 8 5 4 2)

/-- FADD64 ( h roff x -- st lo hi ) (R536). -/
def execFadd64 (w : Who) (s : State) : Out := issue w (callSpec 8 6 4 3) s (callBody w 8 6 4 3)

/-- CAS32 ( h roff expect new -- st old ) (R536). -/
def execCas32 (w : Who) (s : State) : Out := issue w (callSpec 8 7 5 2) s (callBody w 8 7 5 2)

/-- MINU32 ( h roff x -- st old ) (R536). -/
def execMinu32 (w : Who) (s : State) : Out := issue w (callSpec 8 8 4 2) s (callBody w 8 8 4 2)

/-- MAXU32 ( h roff x -- st old ) (R536). -/
def execMaxu32 (w : Who) (s : State) : Out := issue w (callSpec 8 9 4 2) s (callBody w 8 9 4 2)

/-- SETBITS32 ( h roff m -- st old ) (R536). -/
def execSetbits32 (w : Who) (s : State) : Out := issue w (callSpec 8 10 4 2) s (callBody w 8 10 4 2)

/-- CLRBITS32 ( h roff m -- st old ) (R536). -/
def execClrbits32 (w : Who) (s : State) : Out := issue w (callSpec 8 11 4 2) s (callBody w 8 11 4 2)

/-- STAMP ( h roff -- st ) (R536, R539). -/
def execFlowStamp (w : Who) (s : State) : Out := issue w (callSpec 8 12 3 1) s (callBody w 8 12 3 1)

/-- ACCOUNT ( h len -- st ) (R536). -/
def execAccount (w : Who) (s : State) : Out := issue w (callSpec 8 13 3 1) s (callBody w 8 13 3 1)

/-- POLICE ( h roff pofs len -- st colour ) (R541). -/
def execPolice (w : Who) (s : State) : Out := issue w (callSpec 8 14 5 2) s (callBody w 8 14 5 2)

/-- EXPORT ( h reason -- st ) (R536, R557). -/
def execFlowExport (w : Who) (s : State) : Out := issue w (callSpec 8 15 3 1) s (callBody w 8 15 3 1)

/-- ABORT ( -- ) (R555). -/
def execFlowAbort (w : Who) (s : State) : Out := issue w (callSpec 8 16 0 0) s (callBody w 8 16 0 0)

end Sys2Proof.Machine
end

