-- ==== Sys2Proof/Machine/Flags.lean ====
section
/-! DEFINITION. The truth values and bit counts that Flume instructions push; Flume has no status flags. -/
namespace Sys2Proof.Machine

/-- A comparison's result: 1 when true, 0 when false (R429). -/
def truth (p : Prop) [Decidable p] : Word := if p then 1 else 0

/-- Leading zero bits among the top `k` bits counted down (R429). -/
def leadZerosFrom (n : Nat) : Nat → Nat
  | 0 => 0
  | k + 1 => if n / 2 ^ k % 2 = 1 then 0 else 1 + leadZerosFrom n k

/-- Leading zero bits of a word, 32 when it is 0 (R429). -/
def leadZeros (a : Word) : Word := BitVec.ofNat 32 (leadZerosFrom a.toNat 32)

/-- The low `k` bits of `n` in reversed order (R431). -/
def revBits (n : Nat) : Nat → Nat
  | 0 => 0
  | k + 1 => (n % 2) * 2 ^ k + revBits (n / 2) k

end Sys2Proof.Machine
end

