-- ==== Sys2Proof/Machine/FlumeAlu.lean ====
section
/-! DEFINITION. Stack, literal, arithmetic, logic, bit, CRC and ALU-immediate instructions (R427–R433). -/
namespace Sys2Proof.Machine

/-- NOP: no effect (R427). -/
def specNop : OpSpec := { pat := 0x0001, pops := 0, pushes := 0 }

/-- NOP: no effect (R427). -/
def execNop (w : Who) (s : State) : Out := issue w specNop s (stackBody id)

/-- DUP ( a -- a a ) (R427). -/
def specDup : OpSpec := { pat := 0x0002, pops := 1, pushes := 2 }

/-- DUP ( a -- a a ) (R427). -/
def execDup (w : Who) (s : State) : Out := issue w specDup s (stackBody fun ds => nth ds 0 :: ds)

/-- DROP ( a -- ) (R427). -/
def specDrop : OpSpec := { pat := 0x0003, pops := 1, pushes := 0 }

/-- DROP ( a -- ) (R427). -/
def execDrop (w : Who) (s : State) : Out := issue w specDrop s (stackBody fun ds => ds.drop 1)

/-- SWAP ( a b -- b a ) (R427). -/
def specSwap : OpSpec := { pat := 0x0004, pops := 2, pushes := 2 }

/-- SWAP ( a b -- b a ) (R427). -/
def execSwap (w : Who) (s : State) : Out := issue w specSwap s (stackBody fun ds => nth ds 1 :: nth ds 0 :: ds.drop 2)

/-- OVER ( a b -- a b a ) (R427). -/
def specOver : OpSpec := { pat := 0x0005, pops := 2, pushes := 3 }

/-- OVER ( a b -- a b a ) (R427). -/
def execOver (w : Who) (s : State) : Out := issue w specOver s (stackBody fun ds => nth ds 1 :: ds)

/-- ROT ( a b c -- b c a ) (R427). -/
def specRot : OpSpec := { pat := 0x0006, pops := 3, pushes := 3 }

/-- ROT ( a b c -- b c a ) (R427). -/
def execRot (w : Who) (s : State) : Out := issue w specRot s (stackBody fun ds => nth ds 2 :: nth ds 0 :: nth ds 1 :: ds.drop 3)

/-- NIP ( a b -- b ) (R427). -/
def specNip : OpSpec := { pat := 0x0007, pops := 2, pushes := 1 }

/-- NIP ( a b -- b ) (R427). -/
def execNip (w : Who) (s : State) : Out := issue w specNip s (stackBody fun ds => nth ds 0 :: ds.drop 2)

/-- DEPTH ( -- d ): the depth before the push (R427). -/
def specDepth : OpSpec := { pat := 0x0041, pops := 0, pushes := 1 }

/-- DEPTH ( -- d ): the depth before the push (R427). -/
def execDepth (w : Who) (s : State) : Out := issue w specDepth s (stackBody fun ds => BitVec.ofNat 32 ds.length :: ds)

/-- PUSHS ( -- v ): v = sext(IMM12) (R427). -/
def specPushs : OpSpec := { mask := 0xF000, pat := 0x1000, resv := 0, pops := 0, pushes := 1 }

/-- PUSHS ( -- v ): v = sext(IMM12) (R427). -/
def execPushs (w : Who) (s : State) : Out := issue w specPushs s fun t a i =>
  .ok { s := t, a := { a with ds := BitVec.ofInt 32 (signed (i % 4096) 12) :: a.ds } }

/-- EXT ( a -- v ): v = (a << 12) OR IMM12 (R427). -/
def specExt : OpSpec := { mask := 0xF000, pat := 0x2000, resv := 0, pops := 1, pushes := 1 }

/-- EXT ( a -- v ): v = (a << 12) OR IMM12 (R427). -/
def execExt (w : Who) (s : State) : Out := issue w specExt s fun t a i =>
  .ok { s := t, a := { a with ds := BitVec.ofNat 32 ((nth a.ds 0).toNat * 4096 + i % 4096) :: a.ds.drop 1 } }

/-- PICK n pushes a copy of element n (R427). -/
def specPick (n : Nat) : OpSpec := { mask := 0xFF00, pat := 0x9000, resv := 0x00F0, pops := n + 1, pushes := n + 2 }

/-- PICK n pushes a copy of element n (R427). -/
def execPick (w : Who) (s : State) : Out := issue w (specPick (s.instrAt w (s.arch w).pc % 16)) s fun t a i =>
  let n := i % 16
  .ok { s := t, a := { a with ds := nth a.ds n :: a.ds } }

/-- PUT n pops v and writes it into element n of the remaining stack (R427). -/
def specPut (n : Nat) : OpSpec := { mask := 0xFF00, pat := 0x9100, resv := 0x00F0, pops := n + 2, pushes := n + 1 }

/-- PUT n pops v and writes it into element n of the remaining stack (R427). -/
def execPut (w : Who) (s : State) : Out := issue w (specPut (s.instrAt w (s.arch w).pc % 16)) s fun t a i =>
  let n := i % 16
  .ok { s := t, a := { a with ds := (a.ds.drop 1).set n (nth a.ds 0) } }

/-- ROLL n moves element n to the top (R427). -/
def specRoll (n : Nat) : OpSpec := { mask := 0xFF00, pat := 0x9200, resv := 0x00F0, pops := n + 1, pushes := n + 1 }

/-- ROLL n moves element n to the top (R427). -/
def execRoll (w : Who) (s : State) : Out := issue w (specRoll (s.instrAt w (s.arch w).pc % 16)) s fun t a i =>
  let n := i % 16
  .ok { s := t, a := { a with ds := nth a.ds n :: a.ds.eraseIdx n } }

/-- ADD: a + b (R429). -/
def aluAdd (a b : Word) : Word := a + b

/-- ADD ( a b -- r ): a + b (R429). -/
def specAdd : OpSpec := { pat := 0x0010, pops := 2, pushes := 1 }

/-- ADD ( a b -- r ): a + b (R429). -/
def execAddOp (w : Who) (s : State) : Out := issue w specAdd s (binBody aluAdd)

/-- SUB: a − b (R429). -/
def aluSub (a b : Word) : Word := a - b

/-- SUB ( a b -- r ): a − b (R429). -/
def specSub : OpSpec := { pat := 0x0011, pops := 2, pushes := 1 }

/-- SUB ( a b -- r ): a − b (R429). -/
def execSub (w : Who) (s : State) : Out := issue w specSub s (binBody aluSub)

/-- AND: a AND b (R429). -/
def aluAnd (a b : Word) : Word := a &&& b

/-- AND ( a b -- r ): a AND b (R429). -/
def specAnd : OpSpec := { pat := 0x0012, pops := 2, pushes := 1 }

/-- AND ( a b -- r ): a AND b (R429). -/
def execAndOp (w : Who) (s : State) : Out := issue w specAnd s (binBody aluAnd)

/-- OR: a OR b (R429). -/
def aluOr (a b : Word) : Word := a ||| b

/-- OR ( a b -- r ): a OR b (R429). -/
def specOr : OpSpec := { pat := 0x0013, pops := 2, pushes := 1 }

/-- OR ( a b -- r ): a OR b (R429). -/
def execOrOp (w : Who) (s : State) : Out := issue w specOr s (binBody aluOr)

/-- XOR: a XOR b (R429). -/
def aluXor (a b : Word) : Word := a ^^^ b

/-- XOR ( a b -- r ): a XOR b (R429). -/
def specXor : OpSpec := { pat := 0x0014, pops := 2, pushes := 1 }

/-- XOR ( a b -- r ): a XOR b (R429). -/
def execXor (w : Who) (s : State) : Out := issue w specXor s (binBody aluXor)

/-- SHL: a << b[4:0] (R429). -/
def aluShl (a b : Word) : Word := a <<< (b.toNat % 32)

/-- SHL ( a b -- r ): a << b[4:0] (R429). -/
def specShl : OpSpec := { pat := 0x0015, pops := 2, pushes := 1 }

/-- SHL ( a b -- r ): a << b[4:0] (R429). -/
def execShl (w : Who) (s : State) : Out := issue w specShl s (binBody aluShl)

/-- SHR: a >> b[4:0], zero fill (R429). -/
def aluShr (a b : Word) : Word := a >>> (b.toNat % 32)

/-- SHR ( a b -- r ): a >> b[4:0], zero fill (R429). -/
def specShr : OpSpec := { pat := 0x0016, pops := 2, pushes := 1 }

/-- SHR ( a b -- r ): a >> b[4:0], zero fill (R429). -/
def execShr (w : Who) (s : State) : Out := issue w specShr s (binBody aluShr)

/-- SAR: a >> b[4:0], sign fill (R429). -/
def aluSar (a b : Word) : Word := a.sshiftRight (b.toNat % 32)

/-- SAR ( a b -- r ): a >> b[4:0], sign fill (R429). -/
def specSar : OpSpec := { pat := 0x0017, pops := 2, pushes := 1 }

/-- SAR ( a b -- r ): a >> b[4:0], sign fill (R429). -/
def execSar (w : Who) (s : State) : Out := issue w specSar s (binBody aluSar)

/-- MUL: low 32 bits of a × b (R429). -/
def aluMul (a b : Word) : Word := a * b

/-- MUL ( a b -- r ): low 32 bits of a × b (R429). -/
def specMul : OpSpec := { pat := 0x0018, pops := 2, pushes := 1 }

/-- MUL ( a b -- r ): low 32 bits of a × b (R429). -/
def execMul (w : Who) (s : State) : Out := issue w specMul s (binBody aluMul)

/-- MULHU: high 32 bits of the unsigned 64-bit product (R429). -/
def aluMulhu (a b : Word) : Word := BitVec.ofNat 32 (a.toNat * b.toNat / 2 ^ 32)

/-- MULHU ( a b -- r ): high 32 bits of the unsigned 64-bit product (R429). -/
def specMulhu : OpSpec := { pat := 0x0019, pops := 2, pushes := 1 }

/-- MULHU ( a b -- r ): high 32 bits of the unsigned 64-bit product (R429). -/
def execMulhu (w : Who) (s : State) : Out := issue w specMulhu s (binBody aluMulhu)

/-- MINU: the lower, unsigned (R429). -/
def aluMinu (a b : Word) : Word := if a.toNat ≤ b.toNat then a else b

/-- MINU ( a b -- r ): the lower, unsigned (R429). -/
def specMinu : OpSpec := { pat := 0x001a, pops := 2, pushes := 1 }

/-- MINU ( a b -- r ): the lower, unsigned (R429). -/
def execMinu (w : Who) (s : State) : Out := issue w specMinu s (binBody aluMinu)

/-- MAXU: the higher, unsigned (R429). -/
def aluMaxu (a b : Word) : Word := if a.toNat ≤ b.toNat then b else a

/-- MAXU ( a b -- r ): the higher, unsigned (R429). -/
def specMaxu : OpSpec := { pat := 0x001b, pops := 2, pushes := 1 }

/-- MAXU ( a b -- r ): the higher, unsigned (R429). -/
def execMaxu (w : Who) (s : State) : Out := issue w specMaxu s (binBody aluMaxu)

/-- EQ: 1 when a = b (R429). -/
def aluEq (a b : Word) : Word := truth (a = b)

/-- EQ ( a b -- r ): 1 when a = b (R429). -/
def specEq : OpSpec := { pat := 0x001c, pops := 2, pushes := 1 }

/-- EQ ( a b -- r ): 1 when a = b (R429). -/
def execEqOp (w : Who) (s : State) : Out := issue w specEq s (binBody aluEq)

/-- NE: 1 when a ≠ b (R429). -/
def aluNe (a b : Word) : Word := truth (a ≠ b)

/-- NE ( a b -- r ): 1 when a ≠ b (R429). -/
def specNe : OpSpec := { pat := 0x001d, pops := 2, pushes := 1 }

/-- NE ( a b -- r ): 1 when a ≠ b (R429). -/
def execNeOp (w : Who) (s : State) : Out := issue w specNe s (binBody aluNe)

/-- LTU: 1 when a < b, unsigned (R429). -/
def aluLtu (a b : Word) : Word := truth (a.toNat < b.toNat)

/-- LTU ( a b -- r ): 1 when a < b, unsigned (R429). -/
def specLtu : OpSpec := { pat := 0x001e, pops := 2, pushes := 1 }

/-- LTU ( a b -- r ): 1 when a < b, unsigned (R429). -/
def execLtu (w : Who) (s : State) : Out := issue w specLtu s (binBody aluLtu)

/-- LTS: 1 when a < b, two's complement (R429). -/
def aluLts (a b : Word) : Word := truth (a.toInt < b.toInt)

/-- LTS ( a b -- r ): 1 when a < b, two's complement (R429). -/
def specLts : OpSpec := { pat := 0x001f, pops := 2, pushes := 1 }

/-- LTS ( a b -- r ): 1 when a < b, two's complement (R429). -/
def execLts (w : Who) (s : State) : Out := issue w specLts s (binBody aluLts)

/-- NOT: NOT a (R429). -/
def aluNot (a : Word) : Word := ~~~a

/-- NOT ( a -- r ): NOT a (R429). -/
def specNot : OpSpec := { pat := 0x0020, pops := 1, pushes := 1 }

/-- NOT ( a -- r ): NOT a (R429). -/
def execNotOp (w : Who) (s : State) : Out := issue w specNot s (unBody aluNot)

/-- NEG: 0 − a (R429). -/
def aluNeg (a : Word) : Word := 0 - a

/-- NEG ( a -- r ): 0 − a (R429). -/
def specNeg : OpSpec := { pat := 0x0021, pops := 1, pushes := 1 }

/-- NEG ( a -- r ): 0 − a (R429). -/
def execNeg (w : Who) (s : State) : Out := issue w specNeg s (unBody aluNeg)

/-- CLZ: leading zero bits, 32 when a = 0 (R429). -/
def aluClz (a : Word) : Word := leadZeros a

/-- CLZ ( a -- r ): leading zero bits, 32 when a = 0 (R429). -/
def specClz : OpSpec := { pat := 0x0022, pops := 1, pushes := 1 }

/-- CLZ ( a -- r ): leading zero bits, 32 when a = 0 (R429). -/
def execClz (w : Who) (s : State) : Out := issue w specClz s (unBody aluClz)

/-- POPCNT: set bits of a (R429). -/
def aluPopcnt (a : Word) : Word := BitVec.ofNat 32 (popCount a.toNat 32)

/-- POPCNT ( a -- r ): set bits of a (R429). -/
def specPopcnt : OpSpec := { pat := 0x0023, pops := 1, pushes := 1 }

/-- POPCNT ( a -- r ): set bits of a (R429). -/
def execPopcnt (w : Who) (s : State) : Out := issue w specPopcnt s (unBody aluPopcnt)

/-- PARITY: XOR of all bits (R431). -/
def aluParity (a : Word) : Word := BitVec.ofNat 32 (popCount a.toNat 32 % 2)

/-- PARITY ( a -- r ): XOR of all bits (R431). -/
def specParity : OpSpec := { pat := 0x0024, pops := 1, pushes := 1 }

/-- PARITY ( a -- r ): XOR of all bits (R431). -/
def execParity (w : Who) (s : State) : Out := issue w specParity s (unBody aluParity)

/-- BREV8: bits of the low byte reversed (R431). -/
def aluBrev8 (a : Word) : Word := BitVec.ofNat 32 (revBits a.toNat 8)

/-- BREV8 ( a -- r ): bits of the low byte reversed (R431). -/
def specBrev8 : OpSpec := { pat := 0x0025, pops := 1, pushes := 1 }

/-- BREV8 ( a -- r ): bits of the low byte reversed (R431). -/
def execBrev8 (w : Who) (s : State) : Out := issue w specBrev8 s (unBody aluBrev8)

/-- BREV16: bits of the low half-word reversed (R431). -/
def aluBrev16 (a : Word) : Word := BitVec.ofNat 32 (revBits a.toNat 16)

/-- BREV16 ( a -- r ): bits of the low half-word reversed (R431). -/
def specBrev16 : OpSpec := { pat := 0x0026, pops := 1, pushes := 1 }

/-- BREV16 ( a -- r ): bits of the low half-word reversed (R431). -/
def execBrev16 (w : Who) (s : State) : Out := issue w specBrev16 s (unBody aluBrev16)

/-- BREV32: all bits reversed (R431). -/
def aluBrev32 (a : Word) : Word := BitVec.ofNat 32 (revBits a.toNat 32)

/-- BREV32 ( a -- r ): all bits reversed (R431). -/
def specBrev32 : OpSpec := { pat := 0x0027, pops := 1, pushes := 1 }

/-- BREV32 ( a -- r ): all bits reversed (R431). -/
def execBrev32 (w : Who) (s : State) : Out := issue w specBrev32 s (unBody aluBrev32)

/-- BSWAP16: the two low bytes swapped, the rest 0 (R429). -/
def aluBswap16 (a : Word) : Word := BitVec.ofNat 32 (leNat (leBytes a.toNat 2).reverse)

/-- BSWAP16 ( a -- r ): the two low bytes swapped, the rest 0 (R429). -/
def specBswap16 : OpSpec := { pat := 0x0028, pops := 1, pushes := 1 }

/-- BSWAP16 ( a -- r ): the two low bytes swapped, the rest 0 (R429). -/
def execBswap16 (w : Who) (s : State) : Out := issue w specBswap16 s (unBody aluBswap16)

/-- BSWAP32: byte order reversed (R429). -/
def aluBswap32 (a : Word) : Word := BitVec.ofNat 32 (leNat (leBytes a.toNat 4).reverse)

/-- BSWAP32 ( a -- r ): byte order reversed (R429). -/
def specBswap32 : OpSpec := { pat := 0x0029, pops := 1, pushes := 1 }

/-- BSWAP32 ( a -- r ): byte order reversed (R429). -/
def execBswap32 (w : Who) (s : State) : Out := issue w specBswap32 s (unBody aluBswap32)

/-- SEXT8: sext(a[7:0]) (R429). -/
def aluSext8 (a : Word) : Word := BitVec.ofInt 32 (signed a.toNat 8)

/-- SEXT8 ( a -- r ): sext(a[7:0]) (R429). -/
def specSext8 : OpSpec := { pat := 0x002a, pops := 1, pushes := 1 }

/-- SEXT8 ( a -- r ): sext(a[7:0]) (R429). -/
def execSext8 (w : Who) (s : State) : Out := issue w specSext8 s (unBody aluSext8)

/-- SEXT16: sext(a[15:0]) (R429). -/
def aluSext16 (a : Word) : Word := BitVec.ofInt 32 (signed a.toNat 16)

/-- SEXT16 ( a -- r ): sext(a[15:0]) (R429). -/
def specSext16 : OpSpec := { pat := 0x002b, pops := 1, pushes := 1 }

/-- SEXT16 ( a -- r ): sext(a[15:0]) (R429). -/
def execSext16 (w : Who) (s : State) : Out := issue w specSext16 s (unBody aluSext16)

/-- ADDI: a + sext(IMM8), `i` being IMM8 (R430). -/
def aluAddi (a : Word) (i : Nat) : Word := a + BitVec.ofInt 32 (signed i 8)

/-- ADDI ( a -- r ): a + sext(IMM8) (R430). -/
def specAddi : OpSpec := { mask := 0xFF00, pat := 0x8000, resv := 0x0, pops := 1, pushes := 1 }

/-- ADDI ( a -- r ): a + sext(IMM8) (R430). -/
def execAddi (w : Who) (s : State) : Out := issue w specAddi s (immBody aluAddi)

/-- ANDI: a AND zext(IMM8), `i` being IMM8 (R430). -/
def aluAndi (a : Word) (i : Nat) : Word := a &&& BitVec.ofNat 32 i

/-- ANDI ( a -- r ): a AND zext(IMM8) (R430). -/
def specAndi : OpSpec := { mask := 0xFF00, pat := 0x8100, resv := 0x0, pops := 1, pushes := 1 }

/-- ANDI ( a -- r ): a AND zext(IMM8) (R430). -/
def execAndi (w : Who) (s : State) : Out := issue w specAndi s (immBody aluAndi)

/-- ORI: a OR zext(IMM8), `i` being IMM8 (R430). -/
def aluOri (a : Word) (i : Nat) : Word := a ||| BitVec.ofNat 32 i

/-- ORI ( a -- r ): a OR zext(IMM8) (R430). -/
def specOri : OpSpec := { mask := 0xFF00, pat := 0x8200, resv := 0x0, pops := 1, pushes := 1 }

/-- ORI ( a -- r ): a OR zext(IMM8) (R430). -/
def execOri (w : Who) (s : State) : Out := issue w specOri s (immBody aluOri)

/-- XORI: a XOR zext(IMM8), `i` being IMM8 (R430). -/
def aluXori (a : Word) (i : Nat) : Word := a ^^^ BitVec.ofNat 32 i

/-- XORI ( a -- r ): a XOR zext(IMM8) (R430). -/
def specXori : OpSpec := { mask := 0xFF00, pat := 0x8300, resv := 0x0, pops := 1, pushes := 1 }

/-- XORI ( a -- r ): a XOR zext(IMM8) (R430). -/
def execXori (w : Who) (s : State) : Out := issue w specXori s (immBody aluXori)

/-- SHLI: a << IMM8[4:0], `i` being IMM8 (R430). -/
def aluShli (a : Word) (i : Nat) : Word := a <<< (i % 32)

/-- SHLI ( a -- r ): a << IMM8[4:0] (R430). -/
def specShli : OpSpec := { mask := 0xFF00, pat := 0x8400, resv := 0xe0, pops := 1, pushes := 1 }

/-- SHLI ( a -- r ): a << IMM8[4:0] (R430). -/
def execShli (w : Who) (s : State) : Out := issue w specShli s (immBody aluShli)

/-- SHRI: a >> IMM8[4:0], zero fill, `i` being IMM8 (R430). -/
def aluShri (a : Word) (i : Nat) : Word := a >>> (i % 32)

/-- SHRI ( a -- r ): a >> IMM8[4:0], zero fill (R430). -/
def specShri : OpSpec := { mask := 0xFF00, pat := 0x8500, resv := 0xe0, pops := 1, pushes := 1 }

/-- SHRI ( a -- r ): a >> IMM8[4:0], zero fill (R430). -/
def execShri (w : Who) (s : State) : Out := issue w specShri s (immBody aluShri)

/-- SARI: a >> IMM8[4:0], sign fill, `i` being IMM8 (R430). -/
def aluSari (a : Word) (i : Nat) : Word := a.sshiftRight (i % 32)

/-- SARI ( a -- r ): a >> IMM8[4:0], sign fill (R430). -/
def specSari : OpSpec := { mask := 0xFF00, pat := 0x8600, resv := 0xe0, pops := 1, pushes := 1 }

/-- SARI ( a -- r ): a >> IMM8[4:0], sign fill (R430). -/
def execSari (w : Who) (s : State) : Out := issue w specSari s (immBody aluSari)

/-- EQI: 1 when a = zext(IMM8), `i` being IMM8 (R430). -/
def aluEqi (a : Word) (i : Nat) : Word := truth (a = BitVec.ofNat 32 i)

/-- EQI ( a -- r ): 1 when a = zext(IMM8) (R430). -/
def specEqi : OpSpec := { mask := 0xFF00, pat := 0x8700, resv := 0x0, pops := 1, pushes := 1 }

/-- EQI ( a -- r ): 1 when a = zext(IMM8) (R430). -/
def execEqi (w : Who) (s : State) : Out := issue w specEqi s (immBody aluEqi)

/-- LTUI: 1 when a < zext(IMM8), unsigned, `i` being IMM8 (R430). -/
def aluLtui (a : Word) (i : Nat) : Word := truth (a.toNat < i)

/-- LTUI ( a -- r ): 1 when a < zext(IMM8), unsigned (R430). -/
def specLtui : OpSpec := { mask := 0xFF00, pat := 0x8800, resv := 0x0, pops := 1, pushes := 1 }

/-- LTUI ( a -- r ): 1 when a < zext(IMM8), unsigned (R430). -/
def execLtui (w : Who) (s : State) : Out := issue w specLtui s (immBody aluLtui)

/-- TSTBI: (a >> IMM8[4:0]) AND 1, `i` being IMM8 (R430). -/
def aluTstbi (a : Word) (i : Nat) : Word := (a >>> (i % 32)) &&& 1

/-- TSTBI ( a -- r ): (a >> IMM8[4:0]) AND 1 (R430). -/
def specTstbi : OpSpec := { mask := 0xFF00, pat := 0x8900, resv := 0xe0, pops := 1, pushes := 1 }

/-- TSTBI ( a -- r ): (a >> IMM8[4:0]) AND 1 (R430). -/
def execTstbi (w : Who) (s : State) : Out := issue w specTstbi s (immBody aluTstbi)

/-- CRC32C: one reflected byte step (R432). -/
def aluCrc32c (a b : Word) : Word := BitVec.ofNat 32 (crcReflStep 0x82F63B78 a.toNat (BitVec.ofNat 8 b.toNat))

/-- CRC32C ( crc b -- crc' ) (R432). -/
def specCrc32c : OpSpec := { pat := 0x0030, pops := 2, pushes := 1 }

/-- CRC32C ( crc b -- crc' ) (R432). -/
def execCrc32c (w : Who) (s : State) : Out := issue w specCrc32c s (binBody aluCrc32c)

/-- CRC16: one byte step, polynomial 0x1021 (R433). -/
def aluCrc16 (a b : Word) : Word := BitVec.ofNat 32 (crc16Step a.toNat (BitVec.ofNat 8 b.toNat))

/-- CRC16 ( crc b -- crc' ) (R433). -/
def specCrc16 : OpSpec := { pat := 0x0031, pops := 2, pushes := 1 }

/-- CRC16 ( crc b -- crc' ) (R433). -/
def execCrc16 (w : Who) (s : State) : Out := issue w specCrc16 s (binBody aluCrc16)

end Sys2Proof.Machine
end

