-- ==== Sys2Proof/Machine/Dram.lean ====
section
/-! DEFINITION. The stacked DRAM controller (R730–R763) and the accounting of corrected and uncorrectable words
(R772–R777, R786, R789). -/
namespace Sys2Proof.Machine

/-! ### Geometry (R732) -/

/-- Where an address lies: pseudo-channel (stack × 32 + number), bank, row, unit in row, atom. -/
structure DramPlace where
  chan : Nat
  bank : Nat
  row : Nat
  unit : Nat
  atom : Nat
  deriving DecidableEq, Repr, Inhabited

/-- The address map. -/
def dramMap (a : Nat) : DramPlace :=
  let u := (a - 0x2000000000) / 256
  let l := u / 128
  let ch := Nat.xor (Nat.xor (Nat.xor (Nat.xor (u % 128) (l % 128)) (l / 128 % 128)) (l / 16384 % 128)) (l / 2097152 % 2)
  { chan := ch, bank := Nat.xor (l / 4 % 16) (l / 262144 % 16), row := l / 64, unit := l % 4, atom := a / 64 % 4 }

/-- DMC.XLATE_RESULT of an address (R760). -/
def xlate (a : Nat) : Nat :=
  if inDram a then
    let m := dramMap a
    2 ^ 31 + m.chan / 32 * 2 ^ 29 + m.chan % 32 * 2 ^ 24 + m.bank * 2 ^ 20 + m.row * 16 + m.unit * 4 + m.atom
  else 0

/-! ### Regions and correction accounting (R772, R775) -/

/-- Whether a used descriptor covers an address. -/
def State.regionHolds (s : State) (i a : Nat) : Bool :=
  let w := s.rd (Reg.eccRegion i)
  Wbits w 31 31 == 1 && Wbits w 9 0 * 2 ^ 30 ≤ a && a < (Wbits w 9 0 + Wbits w 23 16) * 2 ^ 30

/-- The region of a DRAM address: 0–15, or 16 where no descriptor covers it. -/
def State.regionOf (s : State) (a : Nat) : Nat := ((List.range 16).find? fun i => s.regionHolds i a).getD 16

/-- Whether a region is STRONG. -/
def State.regionStrong (s : State) (i : Nat) : Bool := i == 16 || s.fld (Reg.eccRegion i) 29 28 == 0

/-- An alarm of ECC: its event, and the first one since the last read of ALARM_INFO recorded (R775, R786). -/
def State.eccAlarm (s : State) (array : Bool) (i : Nat) : State :=
  (s.record Reg.eccAlarmInfo (b2n array * 256 + i)).setEvent Reg.eccEvents (b2n array) (224 + b2n array)

/-- A corrected DRAM atom counted for its region. -/
def State.regionCorrected (s : State) (i : Nat) : State :=
  let lim := s.fld (Reg.eccRegionAlarm i) 23 0
  let t := { s.bump (Reg.eccRegionCorr i) with ecc.corrWindow := windowAdd s.ecc.corrWindow i 1 lim }
  if alarmDue s.ecc.corrWindow i 1 lim then t.eccAlarm false i else t

/-- A corrected on-chip word counted for its class. -/
def State.arrayCorrected (s : State) (k : Nat) : State :=
  let lim := s.fld (Reg.eccArrayAlarm k) 23 0
  let t := { s.bump (Reg.eccArrayCorr k) with ecc.corrWindow := windowAdd s.ecc.corrWindow (32 + k) 1 lim }
  if alarmDue s.ecc.corrWindow (32 + k) 1 lim then t.eccAlarm true k else t

/-- A corrected atom counted for its stack, with the stack's alarm (R756). -/
def State.stackCorrected (s : State) (n : Nat) : State :=
  let lim := s.fld (Reg.dnAlarm n) 23 0
  let t := { s.bump (Reg.dnCnt n 5) with dmc.corrWindow := windowAdd s.dmc.corrWindow n 1 lim }
  if alarmDue s.dmc.corrWindow n 1 lim then t.setEvent (Reg.dnEvents n) 0 (208 + 4 * n) else t

/-- A corrected atom at an address. -/
def State.atomCorrected (s : State) (a : Nat) : State :=
  (s.regionCorrected (s.regionOf a)).stackCorrected ((dramMap a).chan / 32)

/-- An uncorrectable atom outside the recovery window (R776). -/
def State.atomFault (s : State) (a syndrome : Nat) : State :=
  s.faultStop { cause := 2, base := 0x680000, syndrome := if s.regionStrong (s.regionOf a) then syndrome else syndrome % 65536
                addr := a, region := s.regionOf a, stack := some ((dramMap a).chan / 32) }

/-! ### Queues (R734, R735, R747, R748) -/

/-- A pseudo-channel. -/
def State.chan (s : State) (c : Nat) : Channel := s.dmc.chans.get c

/-- The state with a pseudo-channel replaced. -/
def State.setChan (s : State) (c : Nat) (x : Channel) : State := { s with dmc.chans := s.dmc.chans.set c x }

/-- The recovery window holds a flow-region request at its port (R777): a state-retaining run whose re-validation is
not done holds every request but those of port MAINT. -/
def State.windowHolds (s : State) (r : DramReq) : Bool :=
  r.port != 5 && s.inFlowRegion r.addr && !s.bit Reg.bootReval 31 &&
    (s.bit Reg.bootReval 30 || s.fld Reg.bootStatus 27 26 == 2)

/-- Whether two requests want the same queue. -/
def sameQueue (a b : DramReq) : Bool :=
  if a.port = 0 ∨ b.port = 0 then a.port == b.port && (dramMap a.addr).bank == (dramMap b.addr).bank else true

/-- Whether a request's queue has room. -/
def Channel.room (x : Channel) (r : DramReq) : Bool :=
  if r.port = 0 then (x.banks.get (dramMap r.addr).bank).length < 16 else x.shared.length < 64

/-- LAT_TARGET of a port (R759). -/
def State.latTarget (s : State) (port : Nat) : Nat := max 1 (s.fld (Reg.dmcPortCfg port) 15 0)

/-- Bytes a request enables. -/
def enabledBytes (r : DramReq) : Nat := if r.write then (r.data.filter Option.isSome).length else 64 * r.atoms

/-- A request completed (R763, R827). -/
def State.requestDone (s : State) (e : DramEntry) : State :=
  let p := e.req.port
  let lat := s.nowNs - e.accepted
  let s := (s.bump (Reg.dmcPortCnt p 0)).bump (Reg.dmcPortCnt p 1) (enabledBytes e.req)
  let s := if s.latTarget p < lat then s.bump (Reg.dmcPortCnt p 2) else s
  let s := s.setFld (Reg.dmcLatMax p) 31 0 (max (s.fld (Reg.dmcLatMax p) 31 0) (satNat lat (2 ^ 32 - 1)))
  (s.count 83 [p]).count 84 [p] lat

/-- The bytes of a write that are enabled, stored. -/
def putEnabled (m : Mem) (a : Nat) : List (Option Byte) → Mem
  | [] => m
  | some b :: r => putEnabled (m.set a b) (a + 1) r
  | none :: r => putEnabled m (a + 1) r

/-- A request accepted by its pseudo-channel: a write is complete and every later request sees it; a read will return
what its atoms hold now (R747, R748). -/
def State.dmcEnqueue (s : State) (c : Nat) (e : DramEntry) : State :=
  let e := { e with id := s.dmc.nextId, old := s.ldBytes e.req.addr (64 * e.req.atoms) }
  let s := { s with dmc.nextId := s.dmc.nextId + 1 }
  let x := s.chan c
  let b := (dramMap e.req.addr).bank
  let x := if e.req.port = 0 then { x with banks := x.banks.set b (x.banks.get b ++ [e]) } else { x with shared := x.shared ++ [e] }
  let s := s.setChan c x
  if e.req.write then { s with mem := putEnabled s.mem e.req.addr e.req.data }.requestDone e else s

/-- One waiting request offered to its queue: it enters when nothing holds it, its queue has room and no earlier one
waits for the same queue. -/
def State.offerEntry (s : State) (c : Nat) (e : DramEntry) : State :=
  let x := s.chan c
  if s.windowHolds e.req || !x.room e.req || x.waiting.any (fun w => sameQueue w.req e.req) then
    s.setChan c { x with waiting := x.waiting ++ [e] }
  else s.dmcEnqueue c e

/-- The waiting requests of a pseudo-channel offered again, oldest first. -/
def State.drainChan (s : State) (c : Nat) : State :=
  let w := (s.chan c).waiting
  w.foldl (fun t e => t.offerEntry c e) (s.setChan c { s.chan c with waiting := [] })

/-- Every pseudo-channel's waiting requests offered again. -/
def State.drainAll (s : State) : State := s.dmc.chans.keys.foldl (fun t c => t.drainChan c) s

/-- A request wakes its stack from automatic self-refresh (R752). -/
def State.wake (s : State) (n : Nat) : State :=
  if s.bit (Reg.dnStatus n) 30 && s.bit (Reg.dnStatus n) 29 then
    ((s.setBit (Reg.dnStatus n) 30 false).setBit (Reg.dnStatus n) 29 false).setEvent (Reg.dnEvents n) 2 (210 + 4 * n)
  else s

/-- Whether a stack takes requests. -/
def State.stackUp (s : State) (n : Nat) : Bool := s.coreUp && s.bit (Reg.dnStatus n) 28 && !s.bit (Reg.dnStatus n) 31

/-- A request arrives at its port. -/
def execDramRequestAccept (r : DramReq) (s : State) : Out :=
  whenWf r.wf
    (let c := (dramMap r.addr).chan
     occurs s (s.stackUp (c / 32)) ((s.wake (c / 32)).offerEntry c { req := r, accepted := s.nowNs }))

/-! ### Picks (R736–R741) -/

/-- Urgency of a request (R737). -/
def State.urgency (s : State) (e : DramEntry) : Nat := min 3 (4 * (s.nowNs - e.accepted) / s.latTarget e.req.port)

/-- Effective class of a shared-side request (R739). -/
def State.effClass (s : State) (e : DramEntry) : Nat :=
  if s.urgency e = 3 then 4
  else min 3 (s.fld (Reg.dmcPortCfg e.req.port) 31 30 + (s.nowNs - e.accepted) / max 1 (s.fld Reg.dmcAge 15 0))

/-- Every request in a pseudo-channel's queues. -/
def Channel.entries (x : Channel) : List DramEntry := x.banks.entries.flatMap (fun e => e.2) ++ x.shared

/-- Whether two requests share an atom. -/
def sharesAtom (a b : DramReq) : Bool := a.addr < b.addr + 64 * b.atoms && b.addr < a.addr + 64 * a.atoms

/-- Whether a request's row is open. -/
def Channel.rowOpen (x : Channel) (e : DramEntry) : Bool :=
  x.openRow.get (dramMap e.req.addr).bank == some (dramMap e.req.addr).row

/-- Whether a request can issue on a command bus: its timing allows it, its next command belongs to that bus, and no
earlier-accepted request shares an atom with it; a request whose bursts have begun goes first (R736, R741). -/
def Channel.canIssue (x : Channel) (column : Bool) (ready : List Nat) (e : DramEntry) : Bool :=
  ready.contains e.id && x.rowOpen e == column &&
    !(x.entries.any fun o => o.id < e.id && sharesAtom o.req e.req) &&
    !(x.entries.any fun o => o.id != e.id && o.issued != 0 &&
      (column || (dramMap o.req.addr).bank == (dramMap e.req.addr).bank))

/-- The flow side's pick (R738). -/
def State.flowPick (s : State) (x : Channel) (ok : DramEntry → Bool) : Option DramEntry :=
  let heads := (List.range 16).filterMap fun i => (x.banks.get ((x.bankPtr + 1 + i) % 16)).head?.filter ok
  match heads.find? fun e => s.urgency e == 3 with
  | some e => some e
  | none => heads.head?

/-- The better of two shared-side requests. -/
def State.better (s : State) (a b : DramEntry) : DramEntry :=
  if s.effClass a < s.effClass b ∨ (s.effClass a = s.effClass b ∧ b.id < a.id) then b else a

/-- The shared side's pick (R739). -/
def State.sharedPick (s : State) (x : Channel) (ok : DramEntry → Bool) : Option DramEntry :=
  match x.shared.filter ok with
  | [] => none
  | e :: r => some (r.foldl s.better e)

/-- The choice between the sides, and whether the share wheel turned (R740): the first FLOW_SHARE of its 16 slots are
the flow side's. -/
def State.chooseSide (s : State) (x : Channel) : Option DramEntry → Option DramEntry → Option DramEntry × Bool
  | some f, some e =>
    if s.urgency f = 3 then (some f, false)
    else if s.urgency e = 3 then (some e, false)
    else (some (if x.wheel < max 1 (s.fld Reg.dmcCtrl 3 0) then f else e), true)
  | some f, none => (some f, false)
  | none, o => (o, false)

/-! ### Commands (R740, R745, R746) -/

/-- An entry replaced in its queue. -/
def Channel.putEntry (x : Channel) (e : DramEntry) : Channel :=
  let up := fun l : List DramEntry => l.map fun o => if o.id = e.id then e else o
  if e.req.port = 0 then { x with banks := x.banks.mod (dramMap e.req.addr).bank up } else { x with shared := up x.shared }

/-- An entry removed from its queue. -/
def Channel.dropEntry (x : Channel) (e : DramEntry) : Channel :=
  let out := fun l : List DramEntry => l.filter fun o => o.id != e.id
  if e.req.port = 0 then { x with banks := x.banks.mod (dramMap e.req.addr).bank out } else { x with shared := out x.shared }

/-- The predictor's counter of a bank under its history (R746); counters are 1 after a restart. -/
def Predictor.counter (p : Predictor) : Nat := (p.ctrs.getD 1 p.hist)

/-- The predictor after an outcome. -/
def Predictor.note (p : Predictor) (same : Bool) : Predictor :=
  let c := if same then min 3 (p.counter + 1) else p.counter - 1
  { hist := (p.hist * 2 + b2n same) % 16, ctrs := p.ctrs.setD 1 p.hist c }

/-- A request's first command: the bank's predictor records whether it is for the row of the request before it. -/
def Channel.firstCommand (x : Channel) (e : DramEntry) : Channel :=
  let b := (dramMap e.req.addr).bank
  let row := (dramMap e.req.addr).row
  let x := match x.lastRow.get b with
    | some r => { x with predict := x.predict.mod b fun p => p.note (r == row) }
    | none => x
  { x with lastRow := x.lastRow.set b (some row) }

/-- A row command: the request's row is activated, or the other row of its bank closed. -/
def State.rowCommand (s : State) (c : Nat) (x : Channel) (e : DramEntry) : State :=
  let m := dramMap e.req.addr
  match x.openRow.get m.bank with
  | some _ => s.setChan c { x with openRow := x.openRow.set m.bank none }
  | none =>
    ((s.setChan c ({ x with openRow := x.openRow.set m.bank (some m.row) }.putEntry { e with activated := true, started := true })).bump
      (Reg.dnCnt (c / 32) 0)).count 82 [c / 32]

/-- Whether a write enables only part of atom `k` (R733). -/
def partialAtom (r : DramReq) (k : Nat) : Bool :=
  let n := (((List.range 64).map fun i => r.data.getD (64 * k + i) none).filter Option.isSome).length
  r.write && 0 < n && n < 64

/-- Whether the controller keeps a row open after a burst (R745). -/
def State.keepOpen (s : State) (x : Channel) (b : Nat) : Bool :=
  match s.fld Reg.dmcCtrl 9 8 with
  | 1 => true
  | 2 => false
  | _ => 2 ≤ (x.predict.get b).counter

/-- The row after a request's last burst: closed with auto-precharge, or kept. -/
def State.afterBurst (s : State) (c : Nat) (x : Channel) (e : DramEntry) : State :=
  let m := dramMap e.req.addr
  let more := x.entries.any fun o => (dramMap o.req.addr).bank == m.bank && (dramMap o.req.addr).row == m.row
  if more || s.keepOpen x m.bank then s.setChan c x
  else (s.setChan c { x with openRow := x.openRow.set m.bank none }).bump (Reg.dnCnt (c / 32) 2)

/-- Bursts counted: a partial write also reads its atom (R733, R763). -/
def State.countBurst (s : State) (c : Nat) (e : DramEntry) : State :=
  let n := c / 32
  let s := if e.req.write then (s.bump (Reg.dnCnt n 7)).count 81 [n] else s
  let s := if !e.req.write || partialAtom e.req e.issued then (s.bump (Reg.dnCnt n 6)).count 80 [n] else s
  if e.activated && e.issued == 0 then s else s.bump (Reg.dnCnt n 1)

/-- Whether reads of a request's atoms come back to be checked. -/
def readsBack (r : DramReq) : Bool := !r.write || (List.range r.atoms).any fun k => partialAtom r k

/-- A column command: one burst; after the last, the request leaves its queue. -/
def State.columnCommand (s : State) (c : Nat) (x : Channel) (e : DramEntry) : State :=
  let s := s.countBurst c e
  let e := { e with issued := e.issued + 1, started := true }
  if e.issued < e.req.atoms then s.setChan c (x.putEntry e)
  else
    let x := x.dropEntry e
    let x := if readsBack e.req then { x with reads := x.reads ++ [e] } else x
    (s.afterBurst c x e).drainChan c

/-- The picked request's next command issues. -/
def State.issue (s : State) (c : Nat) (x : Channel) (e : DramEntry) (column : Bool) : State :=
  let x := if e.started then x else x.firstCommand e
  let x := if e.req.port = 0 then { x with bankPtr := (dramMap e.req.addr).bank } else x
  let x := x.putEntry { e with started := true }
  if column then s.columnCommand c x { e with started := true } else s.rowCommand c x { e with started := true }

/-- A pseudo-channel issues a command on its row or column bus; `ready` lists the requests whose next command meets
the device timing. -/
def execDramCommandIssue (chan : Nat) (column : Bool) (ready : List Nat) (s : State) : Out :=
  whenWf (chan < 128)
    (let x := s.chan chan
     let ok := x.canIssue column ready
     let side := s.chooseSide x (s.flowPick x ok) (s.sharedPick x ok)
     match side.1 with
     | some e =>
       occurs s (s.stackUp (chan / 32))
         (s.issue chan (if side.2 then { x with wheel := (x.wheel + 1) % 16 } else x) e column)
     | none => .next s)

/-! ### Read data (R742, R755, R774–R776) -/

/-- Whether an uncorrectable read goes back to re-validation (R755). -/
def State.toRevalidation (s : State) (r : DramReq) : Bool :=
  r.port == 5 && s.bit Reg.bootReval 30 && s.inFlowRegion r.addr

/-- The outcome of one atom; its data as delivered. Under LIGHT a pattern that is itself a codeword passes as clean (R764). -/
def State.atomRead (s : State) (e : DramEntry) (k : Nat) (o : AtomOutcome) : State × List Byte :=
  let a := e.req.addr + 64 * k
  let clean := slice e.old (64 * k) 64
  if e.req.write && !partialAtom e.req k then (s, clean)
  else match o with
    | .clean => (s, clean)
    | .corrected _ d => if s.coreUp then (s.atomCorrected a, slice d 0 64) else (s, clean)
    | .uncorrectable syn => if s.toRevalidation e.req then (s, clean) else (s.atomFault a syn, clean)
    | .unseen d => (s, if s.regionStrong (s.regionOf a) then clean else slice d 0 64)

/-- The atoms of a read in order. -/
def State.readAtoms (s : State) (e : DramEntry) : Nat → List AtomOutcome → State × List Byte
  | _, [] => (s, [])
  | k, o :: r =>
    let x := s.atomRead e k o
    let y := x.1.readAtoms e (k + 1) r
    (y.1, x.2 ++ y.2)

/-- Read data returns, is checked and corrected, and goes to its requestor; after an uncorrectable atom, and in a fault
stop, nothing is delivered (R754): a further uncorrectable atom is then only counted (R148). -/
def execDramReadComplete (chan : Nat) (outcomes : List AtomOutcome) (s : State) : Out :=
  whenWf (chan < 128)
    (match (s.chan chan).reads with
     | [] => .next s
     | e :: r =>
       let t := s.setChan chan { s.chan chan with reads := r }
       let x := t.readAtoms e 0 ((List.range e.req.atoms).map fun k => outcomes.getD k .clean)
       occurs s (s.boot.core == .running)
         (if e.req.write || !x.1.coreUp then x.1
          else { x.1 with dmc.delivered := x.1.dmc.delivered.set e.req.port x.2 }.requestDone e))

/-! ### Refresh, temperature and self-refresh (R745, R750–R752) -/

/-- REFI of a stack in ns: half as long while it is hot (R750). -/
def State.refi (s : State) (n : Nat) : Nat := if s.bit (Reg.dnStatus n) 27 then 1950 else 3900

/-- Whether a pseudo-channel's next slot has come, REFI ÷ 16 after the last (R750); a fault stop holds the waits and keeps
the refresh (R754). -/
def State.refreshSlot (s : State) (c : Nat) : Bool :=
  !s.coreUp || (s.chan c).refreshRun * 16 + s.refi (c / 32) * nsUnit ≤ s.tb.run * 16

/-- A per-bank refresh falls due: postponed while its bank holds a request that can issue, at most 8 times. -/
def execDramRefresh (chan : Nat) (busy : Bool) (s : State) : Out :=
  whenWf (chan < 128)
    (let x := s.chan chan
     let b := x.refreshBank
     let holds := x.entries.any fun e => (dramMap e.req.addr).bank == b
     occurs s (s.boot.core == .running && s.bit (Reg.dnStatus (chan / 32)) 28 && !s.bit (Reg.dnStatus (chan / 32)) 30 &&
         s.refreshSlot chan)
       (let x := { x with refreshRun := s.tb.run }
        if busy && holds && decide (x.postponed < 8) then s.setChan chan { x with postponed := x.postponed + 1 }
        else (s.setChan chan { x with openRow := x.openRow.set b none, refreshBank := (b + 1) % 16, postponed := 0 }).bump
          (Reg.dnCnt (chan / 32) 3)))

/-- A stack's temperature read every 1 ms, in °C (R751): the hot state and the alarm. -/
def execDramTempRead (stack : Nat) (temp : Int) (s : State) : Out :=
  whenWf (stack < 4)
    (let t := s.setFld (Reg.dnStatus stack) 7 0 (unsigned temp 8)
     let t := if decide (85 ≤ temp) then t.setBit (Reg.dnStatus stack) 27 true
       else if decide (temp ≤ 82) then t.setBit (Reg.dnStatus stack) 27 false else t
     let high := decide (signed (s.fld (Reg.dnAlarm stack) 31 24) 8 ≤ temp)
     let was := s.dmc.tempHigh.contains stack
     let t := if high then { t with dmc.tempHigh := if was then s.dmc.tempHigh else stack :: s.dmc.tempHigh }
       else { t with dmc.tempHigh := s.dmc.tempHigh.filter fun n => n != stack }
     let t := { t with dmc.tempRun := s.dmc.tempRun.set stack s.tb.run }
     occurs s (s.coreUp && s.dmc.tempRun.get stack + msUnit ≤ s.tb.run)
       (if high && !was then t.setEvent (Reg.dnEvents stack) 3 (211 + 4 * stack) else t))

/-- Whether a stack has a request queued or in flight. -/
def State.stackBusy (s : State) (n : Nat) : Bool :=
  s.dmc.chans.entries.any fun e => e.1 / 32 == n && (!e.2.waiting.isEmpty || !e.2.entries.isEmpty || !e.2.reads.isEmpty)

/-- A stack's open rows closed. -/
def State.closeRows (s : State) (n : Nat) : State :=
  s.dmc.chans.keys.foldl (fun t c => if c / 32 = n then t.setChan c { t.chan c with openRow := {} } else t) s

/-- A stack idle for IDLE_US enters automatic self-refresh. -/
def execSelfRefreshEntry (stack idleUs : Nat) (s : State) : Out :=
  whenWf (stack < 4)
    (occurs s (s.stackUp stack && s.bit (Reg.dnSrCtrl stack) 31 && !s.bit (Reg.dnStatus stack) 30 && !s.stackBusy stack &&
        decide (max 1 (s.fld (Reg.dnSrCtrl stack) 15 0) ≤ idleUs))
      ((((s.closeRows stack).setFld (Reg.dnStatus stack) 30 29 3).bump (Reg.dnCnt stack 4)).setEvent (Reg.dnEvents stack) 2
        (210 + 4 * stack)))

/-- An open row without an access for 1 µs closes. -/
def execRowIdleClose (chan bank idleNs : Nat) (s : State) : Out :=
  whenWf (chan < 128 && bank < 16)
    (let x := s.chan chan
     occurs s (s.stackUp (chan / 32) && decide (1000 ≤ idleNs) && (x.openRow.get bank).isSome)
       (s.setChan chan { x with openRow := x.openRow.set bank none }))

/-! ### What the registers show (R760, R762) -/

/-- A pseudo-channel's diagnostic entry: the heads of the bank queues, then the shared queue in pick order. -/
def State.diagEntry (s : State) (x : Channel) (n : Nat) : Option DramEntry :=
  if n < 16 then (x.banks.get n).head?
  else if n < 24 then ((x.shared.foldl (fun l e => insertBy (fun o => (4 - s.effClass o) * 2 ^ 64 + o.id) e l) []).drop (n - 16)).head?
  else none

/-- Dn.DIAG_DATA. -/
def State.dnDiag (s : State) (n sel : Nat) : Nat :=
  match s.diagEntry (s.chan (n * 32 + sel % 32)) (sel / 32 % 32) with
  | none => 0
  | some e =>
    let m := dramMap e.req.addr
    if sel / 4096 % 16 = 0 then
      2 ^ 31 + b2n e.req.write * 2 ^ 30 + e.req.port * 2 ^ 27 + m.bank * 2 ^ 23 + s.urgency e * 2 ^ 21 +
        ((2 ^ e.req.atoms - 1) * 2 ^ m.atom % 16) * 2 ^ 17 + satNat ((s.nowNs - e.accepted) * 6 / 5) (2 ^ 17 - 1)
    else if sel / 4096 % 16 = 1 then bitsOf e.req.addr 36 6
    else 0

/-- What the DMC registers computed from its state read. -/
def dmcLive (s : State) (a : Nat) : Option Nat :=
  if a = Reg.dmcXlateResult then some (xlate ((s.rd Reg.dmcXlateLo).toNat + s.fld Reg.dmcXlateHi 7 0 * 2 ^ 32))
  else if Reg.dnStatus 0 ≤ a ∧ a < Reg.dnStatus 4 ∧ a % 0x10000 = 0x14 then
    some (s.dnDiag ((a - Reg.dnStatus 0) / 0x10000) (s.rd (a - 4)).toNat)
  else none

/-- A write of a DMC or ECC alarm limit takes effect for the window or reading in progress (R761, R775). -/
def limitWritten (s : State) (a : Nat) : State :=
  if Reg.dnAlarm 0 ≤ a ∧ a ≤ Reg.dnAlarm 3 ∧ a % 0x10000 = 8 then
    let n := (a - Reg.dnAlarm 0) / 0x10000
    { s with dmc.corrWindow := windowRearm s.dmc.corrWindow n, dmc.tempHigh := s.dmc.tempHigh.filter fun k => k != n }
  else if Reg.eccRegionAlarm 0 ≤ a ∧ a ≤ Reg.eccRegionAlarm 16 then
    { s with ecc.corrWindow := windowRearm s.ecc.corrWindow ((a - Reg.eccRegionAlarm 0) / 4) }
  else if Reg.eccArrayAlarm 0 ≤ a ∧ a ≤ Reg.eccArrayAlarm 7 then
    { s with ecc.corrWindow := windowRearm s.ecc.corrWindow (32 + (a - Reg.eccArrayAlarm 0) / 4) }
  else s

/-- The writes that the freeze discards are undone, the latest first: their atoms hold what they held before (R147). -/
def State.discardQueued (s : State) : State :=
  let es := s.dmc.chans.entries.flatMap fun c => c.2.entries.filter fun e => e.req.write && e.issued == 0
  let es := (es.foldl (fun l e => insertBy DramEntry.id e l) []).reverse
  es.foldl (fun t e => { t with mem := putEnabled t.mem e.req.addr (List.zipWith (fun d b => d.map fun _ => b) e.req.data e.old) }) s

end Sys2Proof.Machine
end

