-- ==== Sys2Proof/Machine/Dma.lean ====
section
/-! DEFINITION. The DMA engine (R790–R818): descriptors, channels, movers, beats, completion and errors, and the rings
of the control port P132. -/
namespace Sys2Proof.Machine

/-- A channel. -/
def State.dch (s : State) (c : Nat) : DmaChan := s.dma.chans.get c

/-- The state with a channel replaced. -/
def State.setDch (s : State) (c : Nat) (x : DmaChan) : State := { s with dma.chans := s.dma.chans.set c x }

/-- Whether a channel is RUNNING or STOPPING. -/
def DmaChan.busy (x : DmaChan) : Bool := x.state == 1 || x.state == 2

/-- CH_DESC. -/
def State.chDesc (s : State) (c : Nat) : Nat := s.fld (Reg.dmaChDescLo c) 31 5 * 32 + s.fld (Reg.dmaChDescHi c) 7 0 * 2 ^ 32

/-- The state with CH_DESC set by the channel. -/
def State.setChDesc (s : State) (c a : Nat) : State := s.setPair (Reg.dmaChDescLo c) (Reg.dmaChDescHi c) (a % 2 ^ 40)

/-! ### Answers (R795, R777) -/

/-- What the target of an access answers: 0 good, 1 UNMAPPED, 2 REGISTER, 3 PROTECT. -/
def State.answerOf (s : State) (x : DmaChan) (write : Bool) (a : Nat) : Nat :=
  if a < 0x1000000 then 2
  else if !memMapped a then 1
  else if write && s.inFlowRegion a && !x.flowOk then 3
  else 0

/-- Whether the recovery window holds an access at its port. -/
def State.dmaHeld (s : State) (a : Nat) : Bool := s.windowHolds { port := 3, addr := a, atoms := 1, write := false, data := [] }

/-! ### Results (R801–R805, R817) -/

/-- A channel leaves RUNNING and STOPPING: its result, and its mover returned. -/
def State.chEnd (s : State) (c state code : Nat) : State :=
  let x := s.dch c
  let s := s.cmdDone (Reg.dmaChResult c) (code * 2 ^ 26 + satNat x.descs (2 ^ 26 - 1))
  let s := s.setFld (Reg.dmaChCmpA c) 31 0 x.cmpAddr
  let s := s.wr (Reg.dmaChCmpB c) (BitVec.ofNat 32 (satNat x.cmpCount (2 ^ 24 - 1) * 256 + x.cmpAddr / 2 ^ 32 % 256))
  s.setDch c { x with state := state, phase := if state = 4 then x.phase else .none }

/-- A channel enters ERROR; the failed descriptor is still to be written back unless its fetch failed. -/
def State.chError (s : State) (c code addr : Nat) (inDesc last : Bool) : State :=
  let s := s.setDch c { s.dch c with err := some (code, addr), errLast := last, inDesc := inDesc, staged := [], unanswered := []
                                     phase := if inDesc then .none else .writeback }
  s.chEnd c 4 2

/-- A channel stops at a descriptor boundary. -/
def State.chStop (s : State) (c : Nat) : State := s.chEnd c 3 1

/-! ### Descriptors (R790–R794, R804, R812) -/

/-- The descriptor in 32 bytes. -/
def descOf (a : Nat) (bs : List Byte) : Desc :=
  { addr := a, ctrl := leNat (slice bs 0 4), len := leNat (slice bs 4 4), src := leNat (slice bs 8 8)
    dst := leNat (slice bs 16 8), next := leNat (slice bs 24 8) }

def Desc.valid (d : Desc) : Bool := bitAt d.ctrl 31
def Desc.irq (d : Desc) : Bool := bitAt d.ctrl 28
def Desc.last (d : Desc) : Bool := bitAt d.ctrl 27
def Desc.mode (d : Desc) : Nat := bitsOf d.ctrl 26 25

/-- Beats of a destination range. -/
def Desc.beats (d : Desc) : Nat := if d.len = 0 then 0 else (d.dst + d.len + 63) / 64 - d.dst / 64

/-- Whether a descriptor fails with BAD_DESC, for a channel of a kind. -/
def Desc.bad (d : Desc) (kind : Nat) : Bool :=
  bitsOf d.ctrl 15 0 != 0 || bitsOf d.len 31 28 != 0 || (!d.last && d.next % 32 != 0) ||
    (if kind = 2 then d.len < 60 || 10236 < d.len
     else kind != 1 && (d.mode == 3 || (d.mode == 0 && d.src < d.dst && d.dst < d.src + d.len)))

/-- A fetched descriptor with VALID = 1 taken up; an RX channel that was asked to stop meanwhile has no copy in progress and
stops here (R805). -/
def State.takeDesc (s : State) (c : Nat) (d : Desc) : State :=
  let x := { s.dch c with desc := d, readPos := 0, writePos := 0, staged := [], unanswered := [], flag := false, copy := none }
  if d.bad x.kind then (s.setDch c x).chError c 4 d.addr false false
  else
    let w := if x.kind = 0 then d.beats else 0
    if x.kind = 1 ∧ x.state = 2 then (s.setDch c x).chStop c
    else s.setDch c { x with count := w, phase := if x.kind = 0 ∧ w = 0 then .writeback else .beats }

/-- A descriptor with VALID = 0: it ends a memory channel; another waits, or stops when STOP was asked for. -/
def State.notOwned (s : State) (c : Nat) : State :=
  let x := s.dch c
  if x.kind = 0 then s.chEnd c 0 3
  else if x.state = 2 then s.chStop c
  else s.setDch c { x with phase := .poll }

/-- A channel fetches the descriptor at CH_DESC. -/
def State.fetchDesc (s : State) (c : Nat) : State :=
  let a := s.chDesc c
  let code := s.answerOf (s.dch c) false a
  if code ≠ 0 then (s.chError c code a true false).raiseEvent (32 + c)
  else
    let d := descOf a (s.ldBytes a 32)
    if d.valid then s.takeDesc c d else s.notOwned c

/-- A descriptor fetch. -/
def execDescriptorFetch (channel : Nat) (s : State) : Out :=
  whenWf (channel < 32)
    (occurs s (s.coreUp && (s.dch channel).busy && (s.dch channel).phase == .fetch && !s.dmaHeld (s.chDesc channel))
      (s.fetchDesc channel))

/-- Every POLL.NS a waiting RX or TX channel fetches its descriptor again. -/
def execDescriptorPoll (channel waitedNs : Nat) (s : State) : Out :=
  whenWf (channel < 32)
    (occurs s (s.coreUp && (s.dch channel).busy && (s.dch channel).phase == .poll && decide (max 1 (s.fld Reg.dmaPoll 15 0) ≤ waitedNs) &&
        !s.dmaHeld (s.chDesc channel))
      (s.fetchDesc channel))

/-! ### Movers (R797–R800) -/

/-- Beats of the current descriptor. -/
def DmaChan.total (x : DmaChan) : Nat := x.desc.beats

/-- Whether a channel may read a beat ahead. -/
def DmaChan.mayRead (x : DmaChan) : Bool := x.desc.mode != 1 && x.readPos < x.total && x.staged.length < 16

/-- Whether a channel may write a beat, or read the second side of a COMPARE. -/
def DmaChan.mayWrite (x : DmaChan) : Bool := x.writePos < x.total && (x.desc.mode == 1 || !(x.staged.headD []).isEmpty)

/-- A ready channel (R797). -/
def DmaChan.ready (x : DmaChan) : Bool :=
  x.busy && x.kind == 0 && x.phase == .beats && x.err.isNone && (x.mayRead || x.mayWrite)

/-- PRIO of a channel. -/
def State.chPrio (s : State) (c : Nat) : Nat := s.fld (Reg.dmaChCfg c) 31 30

/-- The mover a channel holds. -/
def State.moverOf (s : State) (c : Nat) : Option Nat := (List.range 4).find? fun m => s.dma.movers.get m == c + 1

/-- The state with a mover serving a channel (channel + 1), or free (0). -/
def State.setMover (s : State) (m v : Nat) : State := { s with dma.movers := s.dma.movers.set m v }

/-- Ready channels without a mover. -/
def State.waitingChans (s : State) : List Nat := (List.range 32).filter fun c => (s.dch c).ready && (s.moverOf c).isNone

/-- Movers of channels that are not ready any more are free. -/
def State.freeMovers (s : State) : State :=
  (List.range 4).foldl (fun t m => if t.dma.movers.get m ≠ 0 ∧ !(t.dch (t.dma.movers.get m - 1)).ready then t.setMover m 0 else t) s

/-- Channels that have used their quantum while one of equal PRIO waits (R800). -/
def State.yielding (s : State) : List Nat :=
  (List.range 32).filter fun c => (s.moverOf c).isSome && decide (max 1 (s.fld Reg.dmaCtrl 7 0) ≤ (s.dch c).quantum) &&
    s.waitingChans.any fun w => s.chPrio w == s.chPrio c

/-- A channel gains a mover. -/
def State.gain (s : State) (m c : Nat) : State :=
  let s := (s.setMover m (c + 1)).setDch c { s.dch c with quantum := 0 }
  { s with dma.lastGain := c }

/-- The waiting channel that goes first: highest PRIO, then channel order after the last that gained a mover. -/
def State.nextWaiting (s : State) (skip : List Nat) : Option Nat :=
  minBy (fun c => (3 - s.chPrio c) * 64 + (c + 31 - s.dma.lastGain) % 32) (s.waitingChans.filter fun c => !skip.contains c)

/-- The holder a channel of a PRIO pre-empts: the lowest PRIO, the highest channel among equals. -/
def State.victim (s : State) (prio : Nat) : Option Nat :=
  minBy (fun m => s.chPrio (s.dma.movers.get m - 1) * 64 + (31 - (s.dma.movers.get m - 1)))
    ((List.range 4).filter fun m => s.dma.movers.get m != 0 && s.chPrio (s.dma.movers.get m - 1) < prio)

/-- The boundary: waiting channels take free movers or pre-empt. The first argument bounds the takings. -/
def assignMovers (skip : List Nat) : Nat → State → State
  | 0, s => s
  | n + 1, s =>
    match s.nextWaiting skip with
    | none => s
    | some c =>
      match (List.range 4).find? fun m => s.dma.movers.get m == 0 with
      | some m => assignMovers skip n (s.gain m c)
      | none =>
        match s.victim (s.chPrio c) with
        | some m => assignMovers skip n (s.gain m c)
        | none => s

/-- Channels that have used their quantum give their movers up. -/
def State.yieldMovers (s : State) (cs : List Nat) : State :=
  cs.foldl (fun t c => match t.moverOf c with | some m => t.setMover m 0 | none => t) s

/-- A CTRL cycle boundary. -/
def State.moverBoundary (s : State) : State :=
  let s := s.freeMovers
  let ys := s.yielding
  assignMovers ys 64 (s.yieldMovers ys)

/-- Ready channels take, pre-empt or yield movers. -/
def execMoverAssign (s : State) : Out := occurs s s.coreUp s.moverBoundary

/-! ### Beats (R792, R793, R801) -/

/-- Address of beat `k`. -/
def Desc.beatAddr (d : Desc) (k : Nat) : Nat := d.dst / 64 * 64 + 64 * k

/-- The addresses of beat `k` inside the destination range. -/
def Desc.beatRange (d : Desc) (k : Nat) : Nat × Nat :=
  (max d.dst (d.beatAddr k), min (d.dst + d.len) (d.beatAddr k + 64))

/-- The 64 B source blocks that beat `k` takes its bytes from. -/
def Desc.srcBlocks (d : Desc) (k : Nat) : List Nat :=
  let r := d.beatRange k
  let a := (d.src + (r.1 - d.dst)) / 64
  let b := (d.src + (r.2 - 1 - d.dst)) / 64
  if a = b then [a * 64] else [a * 64, b * 64]

/-- The first block of a list that its target answers with an error. -/
def State.firstBad (s : State) (x : DmaChan) (write : Bool) (blocks : List Nat) : DmaAnswer :=
  match blocks.find? fun a => s.answerOf x write a != 0 with
  | some a => { code := s.answerOf x write a, addr := a }
  | none => { addr := blocks.headD 0 }

/-- The bytes beat `k` writes: copied, or of the fill pattern. -/
def Desc.beatBytes (d : Desc) (k : Nat) (staged : List Byte) : List Byte :=
  let r := d.beatRange k
  if d.mode = 1 then (List.range (r.2 - r.1)).map fun i => BitVec.ofNat 8 (d.src / 256 ^ ((r.1 + i) % 8)) else staged

/-- A beat read ahead; the place of one that an error will answer stays empty in the buffer. -/
def State.beatRead (s : State) (c : Nat) : State :=
  let x := s.dch c
  let d := x.desc
  let ans := s.firstBad x false (d.srcBlocks x.readPos)
  let r := d.beatRange x.readPos
  let x := { x with readPos := x.readPos + 1 }
  if ans.code ≠ 0 then s.setDch c { x with unanswered := x.unanswered ++ [ans], staged := x.staged ++ [[]] }
  else s.setDch c { x with staged := x.staged ++ [s.ldBytes (d.src + (r.1 - d.dst)) (r.2 - r.1)] }

/-- The differing bytes of a beat noted (R817): the first one's address and their number. -/
def DmaChan.compared (x : DmaChan) (a : Nat) (l r : List Byte) : DmaChan :=
  let ds := (List.range l.length).filter fun i => byteAt l i != byteAt r i
  match ds with
  | [] => x
  | i :: _ => { x with flag := true, cmpAddr := if x.cmpCount = 0 then a + i else x.cmpAddr, cmpCount := x.cmpCount + ds.length }

/-- The write of a beat, or the second read of a COMPARE; COUNT falls. -/
def State.beatWrite (s : State) (c : Nat) : State :=
  let x := s.dch c
  let d := x.desc
  let k := x.writePos
  let r := d.beatRange k
  let data := d.beatBytes k (x.staged.headD [])
  let ans := { s.firstBad x (d.mode != 2) [d.beatAddr k] with final := true }
  let x := { x with writePos := k + 1, count := x.count - 1, staged := x.staged.drop 1, quantum := x.quantum + 1
                    unanswered := x.unanswered ++ [ans] }
  if ans.code ≠ 0 then s.setDch c x
  else if d.mode = 2 then s.setDch c (x.compared r.1 data (s.ldBytes r.1 (r.2 - r.1)))
  else (s.setDch c x).stBytes r.1 data

/-- One CTRL cycle of a channel on its mover: at most one write and one read. -/
def State.beatIssue (s : State) (c : Nat) : State :=
  let w := (s.dch c).mayWrite
  let r := (s.dch c).mayRead
  let s := if w then s.beatWrite c else s
  if r then s.beatRead c else s

/-- Whether the recovery window holds what a channel would access next. -/
def State.beatHeld (s : State) (x : DmaChan) : Bool :=
  (x.mayWrite && s.dmaHeld (x.desc.beatAddr x.writePos)) || (x.mayRead && (x.desc.srcBlocks x.readPos).any s.dmaHeld)

/-- A channel's mover issues its beats of a cycle. -/
def execBeatIssue (channel : Nat) (s : State) : Out :=
  whenWf (channel < 32)
    (occurs s (s.coreUp && (s.moverOf channel).isSome && (s.dch channel).ready && !s.beatHeld (s.dch channel)) (s.beatIssue channel))

/-- A good answer of a beat's last access counts it (R818). -/
def State.beatGood (s : State) (c : Nat) : State := (s.bump (Reg.dmaChCnt c 0)).count 88 [c]

/-- An answer taken: good ones complete the descriptor with the last, the first error fails it (R801–R803). -/
def State.beatAnswer (s : State) (c : Nat) (a : DmaAnswer) (rest : List DmaAnswer) : State :=
  let s := if a.code = 0 ∧ a.final then s.beatGood c else s
  let x := s.dch c
  let x := { x with unanswered := rest }
  let x := if a.code ≠ 0 ∧ x.err = none then { x with err := some (a.code, a.addr), errLast := x.count == 0, staged := [] } else x
  if rest ≠ [] then s.setDch c x
  else match x.err with
    | some e => (s.setDch c x).chError c e.1 e.2 false x.errLast
    | none => s.setDch c { x with phase := if x.count = 0 then .writeback else x.phase }

/-- A beat is answered. -/
def execBeatAnswer (channel : Nat) (s : State) : Out :=
  whenWf (channel < 32)
    (match (s.dch channel).unanswered with
     | [] => .next s
     | a :: rest => occurs s (s.coreUp && (s.dch channel).phase == .beats) (s.beatAnswer channel a rest))

/-! ### Write-back (R801–R807) -/

/-- CTRL as written back. -/
def DmaChan.backCtrl (x : DmaChan) : Nat :=
  let keep := bitsOf x.desc.ctrl 28 25 * 2 ^ 25
  match x.err with
  | some e => keep + 2 ^ 29 + b2n x.flag * 2 ^ 24 + e.1 * 2 ^ 20 + x.queue * 2 ^ 16
  | none => keep + 2 ^ 30 + b2n x.flag * 2 ^ 24 + x.queue * 2 ^ 16

/-- What follows a completed descriptor: the end at LAST, the stop asked for, or the next descriptor. -/
def State.chNext (s : State) (c : Nat) : State :=
  let x := s.dch c
  if x.desc.last then s.chEnd c 0 0
  else
    let s := s.setChDesc c x.desc.next
    if x.state = 2 then s.chStop c else s.setDch c { x with phase := .fetch }

/-- A descriptor written back, acknowledged and announced. -/
def State.writeback (s : State) (c : Nat) : State :=
  let x := s.dch c
  let s := s.stBytes x.desc.addr (leBytes x.backCtrl 4)
  let s := if x.kind = 1 then s.stBytes (x.desc.addr + 4) (leBytes x.desc.len 4) else s
  let s := s.bump (Reg.dmaChCnt c 1)
  match x.err with
  | some _ => (s.setDch c { x with phase := .none }).raiseEvent (32 + c)
  | none =>
    let s := s.setDch c { x with descs := x.descs + 1 }
    (if x.desc.irq then s.raiseEvent c else s).chNext c

/-- A channel writes its descriptor back. -/
def execDescriptorWriteback (channel : Nat) (s : State) : Out :=
  whenWf (channel < 32) (occurs s (s.coreUp && (s.dch channel).phase == .writeback) (s.writeback channel))

/-! ### Commands (R805, R812, R815) -/

/-- START at CH_DESC: CH_STAT cleared, KIND and FLOW_OK taken; a write-back that an error still owes comes first
(R802, R807). -/
def State.chStart (s : State) (c : Nat) : State :=
  let s := if (s.dch c).phase = .writeback then s.writeback c else s
  let w := s.rd (Reg.dmaChCfg c)
  let kind := Wbits w 29 28
  (s.cmdAccept (Reg.dmaChResult c)).setDch c
    { state := 1, kind := if kind = 3 then 0 else kind, flowOk := Wbits w 27 27 == 1, phase := .fetch }

/-- STOP: at once where the channel waits for a descriptor or for a copy, else after its current descriptor. -/
def State.chAskStop (s : State) (c : Nat) : State :=
  let x := s.dch c
  if x.state ≠ 1 then s
  else if x.phase = .poll ∨ (x.kind = 1 ∧ x.phase = .beats ∧ x.copy = none) then s.chStop c
  else s.setDch c { x with state := 2 }

/-- KICK: a waiting RX or TX channel fetches its descriptor again at once. -/
def State.chKick (s : State) (c : Nat) : State :=
  let x := s.dch c
  if x.state = 1 ∧ x.phase = .poll then (if s.dmaHeld (s.chDesc c) then s.setDch c { x with phase := .fetch } else s.fetchDesc c)
  else s

/-- A write of CH_CMD. -/
def writeChCmd (c : Nat) (s : State) (v : Word) : State :=
  match Wbits v 1 0 with
  | 1 => if (s.dch c).busy then s.cmdReject (Reg.dmaChResult c) else s.chStart c
  | 2 => s.chAskStop c
  | 3 => s.chKick c
  | _ => s

/-- CH_CMD with START. -/
def execDmaStart (acc channel : Nat) (v : Word) (s : State) : Out :=
  writeRow (acc < 7 && channel < 32) acc (Reg.dmaChCmd channel) (Wbits v 1 0 == 1) (fun t => writeChCmd channel t v) s

/-- CH_CMD with STOP. -/
def execDmaStop (acc channel : Nat) (v : Word) (s : State) : Out :=
  writeRow (acc < 7 && channel < 32) acc (Reg.dmaChCmd channel) (Wbits v 1 0 == 2) (fun t => writeChCmd channel t v) s

/-- CH_CMD with KICK. -/
def execDmaKick (acc channel : Nat) (v : Word) (s : State) : Out :=
  writeRow (acc < 7 && channel < 32) acc (Reg.dmaChCmd channel) (Wbits v 1 0 == 3) (fun t => writeChCmd channel t v) s

/-! ### Control-port rings (R809–R812) -/

/-- The 64 B blocks of a range. -/
def blocksOf (a n : Nat) : List Nat := if n = 0 then [] else (List.range ((a + n + 63) / 64 - a / 64)).map fun i => a / 64 * 64 + 64 * i

/-- Good beats of a range before its first error. -/
def State.goodBlocks (s : State) (x : DmaChan) (write : Bool) (bs : List Nat) : List Nat :=
  bs.takeWhile fun a => s.answerOf x write a == 0

/-- A range transfer answered: the good beats counted, and an error when one block had it. -/
def State.rangeDone (s : State) (c : Nat) (write : Bool) (bs : List Nat) : State :=
  let x := s.dch c
  let good := (s.goodBlocks x write bs).length
  let s := (s.bump (Reg.dmaChCnt c 0) good).count 88 [c] good
  match bs.drop good with
  | [] => s.setDch c { x with phase := .writeback }
  | a :: r => s.chError c (s.answerOf x write a) a false r.isEmpty

/-- An RX channel writes its copy, which ends there. -/
def State.rxCopy (s : State) (c i : Nat) : State :=
  let x := s.dch c
  let bytes := (s.tx 132).wire
  let n := min bytes.length x.desc.len
  let bs := blocksOf x.desc.dst n
  let upTo := min n ((s.goodBlocks x true bs).length * 64 - x.desc.dst % 64)
  let s := s.stBytes x.desc.dst (bytes.take upTo)
  let s := s.setDch c { x with desc := { x.desc with len := n }, flag := x.desc.len < bytes.length, copy := none }
  (s.rangeDone c true bs).finishCopy 132 i

/-- An RX channel's copy is written to its buffer. -/
def execRxCopy (channel : Nat) (s : State) : Out :=
  whenWf (channel < 32)
    (match (s.dch channel).copy with
     | none => .next s
     | some i => occurs s (s.coreUp && (s.dch channel).busy && (s.dch channel).phase == .beats &&
         !((blocksOf (s.dch channel).desc.dst (s.dch channel).desc.len).any s.dmaHeld)) (s.rxCopy channel i))

/-- Whether group 20 takes a frame from P132 (R811). -/
def State.p132Room (s : State) : Bool :=
  s.bit Reg.hdgStatus 31 && (s.headers 20).length < queueSize 20 && s.portHeaders 132 < s.portLimit 20

/-- A TX channel's frame enters group 20 on P132 with a good verdict. -/
def State.txFrame (s : State) (c : Nat) : State :=
  let x := s.dch c
  let bs := blocksOf x.desc.src x.desc.len
  if (s.goodBlocks x false bs).length < bs.length then s.rangeDone c false bs
  else
    let f := withFcs (s.ldBytes x.desc.src x.desc.len)
    let s := (s.admitWhole { port := 132, origin := 132, bytes := f, ts80 := s.ts80, steps := s.ctr (Reg.tbCnt 4), verdict := some 0 }).1
    s.rangeDone c false bs

/-- A TX channel offers its frame. -/
def execTxFrame (channel : Nat) (s : State) : Out :=
  whenWf (channel < 32)
    (occurs s (s.coreUp && (s.dch channel).busy && (s.dch channel).kind == 2 && (s.dch channel).phase == .beats && s.p132Room &&
        !((blocksOf (s.dch channel).desc.src (s.dch channel).desc.len).any s.dmaHeld))
      (s.txFrame channel))

/-! ### Registers (R814–R817) -/

/-- A write of CH_DESC while the channel is busy is ignored. -/
def chDescLocked (s : State) (a : Nat) : Bool :=
  Reg.dmaChCfg 0 ≤ a && a < Reg.dmaChCfg 32 && (a % 0x40 == 4 || a % 0x40 == 8) && (s.dch ((a - Reg.dmaChCfg 0) / 0x40)).busy

/-- CH_STAT. -/
def DmaChan.stat (x : DmaChan) : Nat :=
  x.state * 2 ^ 29 + b2n x.errLast * 2 ^ 28 + b2n x.inDesc * 2 ^ 27 + ((x.err.map Prod.fst).getD 0) * 2 ^ 23 +
    (x.staged.filter fun b => !b.isEmpty).length * 2 ^ 18

/-- What the DMA registers computed from its state read. -/
def dmaLive (s : State) (a : Nat) : Option Nat :=
  if a = Reg.dmaStatus then some ((List.range 32).foldl (fun n c => n + b2n (s.dch c).busy * 2 ^ c) 0)
  else if Reg.dmaChCfg 0 ≤ a ∧ a < Reg.dmaChCfg 32 then
    let x := s.dch ((a - Reg.dmaChCfg 0) / 0x40)
    match a % 0x40 with
    | 0x10 => some x.stat
    | 0x14 => some x.count
    | 0x18 => some ((x.err.map Prod.snd).getD 0 % 2 ^ 32)
    | 0x1C => some ((x.err.map Prod.snd).getD 0 / 2 ^ 32 % 256)
    | _ => none
  else none

end Sys2Proof.Machine
end

