-- ==== Sys2Proof/Machine/Ecc.lean ====
section
/-! DEFINITION. Corrected on-chip words and the DRAM scrubber (R767, R768, R778–R788). -/
namespace Sys2Proof.Machine

/-! ### On-chip arrays -/

/-- Array class of a store that corrects (R767, R872). -/
def storeClass (store : Nat) : Option Nat :=
  [none, some 0, some 0, some 7, some 7, some 1, some 7, some 2, some 7, some 7, none, none, some 3, none, some 4, some 4,
    some 5, some 5, some 6, some 6, none, some 7, some 7, none].getD store none

/-- A read of an on-chip store finds a word in error. A corrected word is rewritten in place, unless new data came first:
in either case the store holds what it should, and the correction is counted (R768, R775). A word that cannot be corrected,
or a parity error, stops the module, whatever read it (R145, R766, R776, R872); during a fault stop it is only
counted (R148). `place` is the cluster of a cluster's store and the port group of the timestamp path. -/
def execArrayRewrite (store place unit word : Nat) (found : WordFound) (s : State) : Out :=
  whenWf (1 ≤ store && store < 0x18 && place < 20 && unit < 256 && word < 2 ^ 48)
    (match found with
     | .corrected _ => match storeClass store with
       | some k => occurs s s.coreUp (s.arrayCorrected k)
       | none => .next s
     | .failed syndrome => .next (s.storeFault store place unit word syndrome))

/-! ### The scrubber -/

/-- GiB numbers of DRAM that no used descriptor covers: region 16 (R772). -/
def State.looseGibs (s : State) : List Nat := (List.range 128).filter fun g => s.regionOf (0x2000000000 + g * 2 ^ 30) == 16

/-- Units of the range a command covers (R778, R782); none when the range does not lie wholly in DRAM. -/
def State.scrubRange (s : State) (region : Nat) : Option (Nat × Nat) :=
  if region < 16 then
    let w := s.rd (Reg.eccRegion region)
    if Wbits w 31 31 = 1 then some (Wbits w 9 0 * 2 ^ 30, Wbits w 23 16 * 2 ^ 22) else some (0, 0)
  else if region = 16 then some (0x2000000000, s.looseGibs.length * 2 ^ 22)
  else if region = 31 then
    let a := s.fld Reg.eccScrubStartLo 31 8 * 256 + s.fld Reg.eccScrubStartHi 7 0 * 2 ^ 32
    let n := s.fld Reg.eccScrubLen 28 0
    if n = 0 ∨ (0x2000000000 ≤ a ∧ a + n * 256 ≤ 0x4000000000) then some (a, n) else none
  else none

/-- Address of unit `d` of a command, in ascending order. -/
def State.scrubAddr (s : State) (x : Scrub) (d : Nat) : Nat :=
  if x.region = 16 then 0x2000000000 + s.looseGibs.getD (d / 2 ^ 22) 0 * 2 ^ 30 + d % 2 ^ 22 * 256 else x.start + d * 256

/-- The result of a command that ends (R783, R788). -/
def State.scrubEnd (s : State) (x : Scrub) (code : Nat) : State :=
  let s := s.cmdDone Reg.eccScrubResult (code * 2 ^ 26 + x.region * 2 ^ 21)
  let s := s.setFld Reg.eccScrubAtoms 31 0 x.atoms
  let s := s.setFld Reg.eccScrubCorr1 31 0 x.corr1
  let s := s.setFld Reg.eccScrubCorr2 31 0 x.corr2
  let s := s.setPair Reg.eccScrubFirstLo Reg.eccScrubFirstHi x.first
  let s := s.setPair Reg.eccScrubLastLo Reg.eccScrubLastHi x.last
  { s with ecc.scrub := none }.setEvent Reg.eccEvents 2 226

/-- A command accepted: it starts, or completes at once. -/
def State.scrubStart (s : State) (mode region : Nat) : State :=
  let s := (s.cmdAccept Reg.eccScrubResult).setFld Reg.eccScrubProgress 28 0 0
  let x : Scrub := { mode := mode, region := region }
  if s.bit Reg.bootReval 30 then s.scrubEnd x 4
  else match s.scrubRange region with
    | none => s.scrubEnd x 2
    | some r => if r.2 = 0 then s.scrubEnd x 0 else { s with ecc.scrub := some { x with start := r.1, units := r.2, next := s.tb.run } }

/-- A write of SCRUB_CMD. -/
def writeScrubCmd (s : State) (v : Word) : State :=
  let mode := Wbits v 1 0
  if mode = 0 ∨ (mode = 3 ∧ Wbits v 31 16 ≠ 0xA5C3) then s
  else if s.cmdBusy Reg.eccScrubResult then s.cmdReject Reg.eccScrubResult
  else s.scrubStart mode (Wbits v 12 8)

/-- SCRUB_CMD with MODE 1. -/
def execScrubRepair (acc : Nat) (v : Word) (s : State) : Out :=
  writeRow (acc < 7) acc Reg.eccScrubCmd (Wbits v 1 0 == 1) (fun t => writeScrubCmd t v) s

/-- SCRUB_CMD with MODE 2. -/
def execScrubSurvey (acc : Nat) (v : Word) (s : State) : Out :=
  writeRow (acc < 7) acc Reg.eccScrubCmd (Wbits v 1 0 == 2) (fun t => writeScrubCmd t v) s

/-- SCRUB_CMD with MODE 3. -/
def execScrubZero (acc : Nat) (v : Word) (s : State) : Out :=
  writeRow (acc < 7) acc Reg.eccScrubCmd (Wbits v 1 0 == 3) (fun t => writeScrubCmd t v) s

/-- The counts after a corrected atom. -/
def Scrub.corrected (x : Scrub) (a symbols : Nat) : Scrub :=
  { x with corr1 := x.corr1 + (if symbols = 2 then 0 else 1), corr2 := x.corr2 + (if symbols = 2 then 1 else 0)
           first := if x.first = 0 then a else min x.first a, last := max x.last a }

/-- One atom of a unit in mode REPAIR or SURVEY (R779, R781): two symbols are corrected under STRONG only, and a pattern
that passes as clean is not seen (R764). -/
def State.scrubAtom (s : State) (x : Scrub) (a : Nat) (o : AtomOutcome) : State × Scrub :=
  match o with
  | .clean => (s, x)
  | .corrected n d =>
    let t := s.atomCorrected a
    (if x.mode = 1 then t.stBytes a (slice d 0 64) else t, x.corrected a (if s.regionStrong (s.regionOf a) then n else 1))
  | .uncorrectable syn => (s.atomFault a syn, x)
  | .unseen _ => (s, x)

/-- The atoms of a unit in order; an uncorrectable one stops the module. -/
def State.scrubAtoms (s : State) (x : Scrub) : Nat → List AtomOutcome → State × Scrub
  | _, [] => (s, x)
  | a, o :: r =>
    let y := s.scrubAtom x a o
    if y.1.coreUp then y.1.scrubAtoms y.2 (a + 64) r else y

/-- A unit done: the command goes on, finishes, or ends as aborted. -/
def State.scrubNext (s : State) (x : Scrub) : State :=
  let s := s.setFld Reg.eccScrubProgress 28 0 x.done
  if x.abort then s.scrubEnd x 1 else if x.done = x.units then s.scrubEnd x 0 else { s with ecc.scrub := some x }

/-- The unit the scrubber is at. -/
def State.scrubUnit (s : State) (x : Scrub) (outcomes : List AtomOutcome) : State :=
  let a := s.scrubAddr x x.done
  let x := { x with done := x.done + 1, atoms := x.atoms + 4
                    next := max s.tb.run x.next + usUnit / max 1 (s.fld Reg.eccScrubRate 11 0) }
  if x.mode = 3 then { s with mem := s.mem.clearRange a 256 }.scrubNext x
  else
    let y := s.scrubAtoms x a ((List.range 4).map fun k => outcomes.getD k .clean)
    if y.1.coreUp then y.1.scrubNext y.2 else y.1

/-- The scrubber processes one 256 B unit, at most SCRUB_RATE of them in a microsecond (R778). -/
def execScrubUnit (outcomes : List AtomOutcome) (s : State) : Out :=
  match s.ecc.scrub with
  | none => .next s
  | some x => occurs s (s.coreUp && decide (x.next < s.tb.run + nsUnit)) (s.scrubUnit x outcomes)

/-- A write of SCRUB_ABORT. -/
def writeScrubAbort (s : State) (v : Word) : State :=
  if Wbits v 0 0 = 1 then { s with ecc.scrub := s.ecc.scrub.map fun x => { x with abort := true } } else s

/-- SCRUB_ABORT. -/
def execScrubAbort (acc : Nat) (v : Word) (s : State) : Out :=
  writeRow (acc < 7) acc Reg.eccScrubAbort (Wbits v 0 0 == 1) (fun t => writeScrubAbort t v) s

end Sys2Proof.Machine
end

