-- ==== Sys2Proof/Machine/Power.lean ====
section
/-! DEFINITION. The module supervisor: input conditions, cages and their fuses, shedding, the Flume clock, fans and
temperature, excursions, and the CLK block (R33, R34, R64–R116, R184–R194). The stops and restarts they lead to are in
Restart. -/
namespace Sys2Proof.Machine

/-- A supply event: the event controller runs with the core. -/
def State.ssvEvent (s : State) (n : Nat) : State := if s.coreUp then s.raiseEvent n else s

/-- A bit of MAINS_EVENTS with its event. -/
def State.mainsEvent (s : State) (b n : Nat) : State := (s.setBit Reg.ssvMainsEvents b true).ssvEvent n

/-! ### The Flume clock (R90, R93, R98, R113, R190) -/

/-- The clock step in force: the lowest clock of R93's, R90's and CEILING. -/
def State.flumeStep (s : State) : Nat := max (max s.supply.thermStep s.supply.ovlStep) (min 2 (s.fld Reg.ssvThrottle 25 24))

/-- The effect of a changed clock step: the FLUME PLL status falls for at most 1 µs. -/
def State.clockMoved (s : State) (old : Nat) : State :=
  if s.coreUp && s.flumeStep != old then s.setBit Reg.clkPllEvents 1 true else s

/-- A write of CEILING. -/
def writeThrottle (s : State) (v : Word) : State :=
  let t := s.setFld Reg.ssvThrottle 25 24 (Wbits v 25 24)
  if t.flumeStep = s.flumeStep then t else (t.clockMoved s.flumeStep).ssvEvent 297

/-- SSV.THROTTLE. -/
def execThrottleCeilingWrite (acc : Nat) (v : Word) (s : State) : Out :=
  writeRow (acc < 7) acc Reg.ssvThrottle true (fun t => writeThrottle t v) s

/-! ### Measurement (R64–R66, R103–R112) -/

/-- A time that runs on while a condition holds. -/
def runOn (cond : Bool) (ms : Nat) : Nat := if cond then ms + 10 else 0

/-- The standing input conditions as SSV.MAINS_STATUS shows them. A restart clears the register (R175) and no condition:
the next measurement shows again what still stands. -/
def State.showInput (s : State) : State :=
  let s := (s.setBit Reg.ssvMainsStatus 31 s.supply.peOpen).setBit Reg.ssvMainsStatus 30 s.supply.lnSwap
  (s.setBit Reg.ssvMainsStatus 29 (s.supply.sagged || s.supply.interrupted)).setBit Reg.ssvMainsStatus 28 s.supply.high

/-- The fans that count as failed as SSV.FAN shows them. -/
def State.showFans (s : State) : State :=
  (List.range 6).foldl (fun t n => t.setBit (Reg.ssvFan n) 31 (t.supply.failed.contains n)) s

/-- The registers of a measurement. -/
def State.showReading (s : State) (m : SupplyReading) : State :=
  let s := (s.setFld Reg.ssvMainsStatus 25 16 (satNat m.freq 1023)).setFld Reg.ssvMainsStatus 15 0 (satNat m.vrms 65535)
  let s := s.wr Reg.ssvPower (BitVec.ofNat 32 (satNat m.inputW 65535 * 65536 + satNat m.dcW 65535))
  let s := s.wr Reg.ssvTemp (BitVec.ofNat 32 (unsigned m.tj 16 * 65536 + unsigned m.inlet 16))
  let s := (List.range 20).foldl (fun t n => t.setFld (Reg.ssvCageI n) 15 0 (satNat (m.cageMa.getD n 0) 65535)) s
  (List.range 6).foldl (fun t n => t.setFld (Reg.ssvFan n) 15 0 (satNat (m.fanRpm.getD n 0) 65535)) s

/-- Fans failed. -/
def State.fansFailed (s : State) : Nat := ((List.range 6).filter fun n => s.supply.failed.contains n).length

/-- The duty in percent that a fan is driven with (R91, R111): DUTY in manual control, at most 100; otherwise the higher of
the inlet's and the junction's demand, and 100 for every fan while another has failed. The demands are free values: the
spec gives no curve. With two or more fans failed the model drives every fan at 100 %. -/
def State.fanDuty (s : State) (n : Nat) : Nat :=
  if s.bit Reg.ssvFanCtrl 31 then min 100 (s.fld Reg.ssvFanCtrl 6 0)
  else if (List.range 6).any fun k => k != n && s.supply.failed.contains k then 100
  else min 100 (max (Config.inletDemand s.supply.inlet) (Config.junctionDemand s.supply.tj))

/-- Minutes above 40 °C in the last 365 days, and whether the budget is spent (R96). -/
def State.excursion (s : State) : Nat := (s.supply.bins.entries.map Prod.snd).sum
def State.spent (s : State) : Bool := decide (5760 ≤ s.excursion)

/-- Inlet thresholds in force, in 0.1 °C: step down above the first, step up at or below the second (R93, R96, R97). -/
def State.inletDown (s : State) : Int := if 2 ≤ s.fansFailed then 350 else if s.spent then 400 else 450
def State.inletUp (s : State) : Int := if 2 ≤ s.fansFailed then 330 else if s.spent then 380 else 430

/-- The conditions of R93. -/
def State.tooHot (s : State) (inlet tj : Int) : Bool := decide (s.inletDown < inlet) || decide (1050 ≤ tj)
def State.coolEnough (s : State) (inlet tj : Int) : Bool := decide (inlet ≤ s.inletUp) && decide (tj ≤ 1000)

/-- Whether an input lies within 85–265 V rms. -/
def inRange (vrms : Nat) : Bool := decide (8500 ≤ vrms) && decide (vrms ≤ 26500)

/-- Riding through a sag or an interruption. -/
def Supply.riding (x : Supply) : Bool := x.sagged || x.interrupted

/-- The times and standing conditions a measurement moves on (R66, R69, R85, R89, R90, R93). The hold-up used counts as
available again when the input has been in range for 500 ms. -/
def Supply.timers (x : Supply) (m : SupplyReading) (hot cool : Bool) : Supply :=
  { x with
    vrms := m.vrms
    freq := m.freq
    dcW := m.dcW
    inlet := m.inlet
    tj := m.tj
    high := x.high && decide (26500 < m.vrms)
    overMs := if x.riding then 0 else if 8000 < m.inputW then x.overMs + 10 else 0
    sinceStepMs := x.sinceStepMs + 10
    shedding := x.shedding && decide (7600 ≤ m.inputW)
    underMs := runOn (decide (m.inputW < 7600)) x.underMs
    over900Ms := runOn (decide (9000 < m.inputW)) x.over900Ms
    rechargeMs := runOn (inRange m.vrms) x.rechargeMs
    charged := if inRange m.vrms then (x.charged && x.rechargeMs != 0) || decide (500 ≤ x.rechargeMs + 10) else x.charged
    relayDue := if m.vrms ≤ 27500 then none else x.relayDue
    hotSteps := if hot then x.hotSteps else 0
    coolSteps := if cool then x.coolSteps else 0 }

/-- The supervisor measures. -/
def execSupplyMeasure (m : SupplyReading) (s : State) : Out :=
  occurs s s.supply.on
    (let t := s.showReading m
     { t with supply := t.supply.timers m (t.tooHot m.inlet m.tj) (t.coolEnough m.inlet m.tj) }.showInput.showFans)

/-! ### Input conditions (R67–R71) -/

/-- A sag is confirmed: once in a ride-through. -/
def execSag (vrms heldMs : Nat) (s : State) : Out :=
  occurs s (s.supply.on && !s.supply.sagged && decide (vrms < 8500) && decide (20 ≤ heldMs))
    (let t := { s with supply.sagged := true, supply.vrms := vrms }.setBit Reg.ssvMainsStatus 29 true
     (t.setFld Reg.ssvMainsStatus 15 0 vrms).mainsEvent 0 288)

/-- An interruption is confirmed. -/
def execInterruption (vrms heldMs : Nat) (s : State) : Out :=
  occurs s (s.supply.on && !s.supply.interrupted && decide (vrms < 2000) && decide (5 ≤ heldMs))
    (let t := { s with supply.interrupted := true, supply.vrms := vrms }.setBit Reg.ssvMainsStatus 29 true
     (t.setFld Reg.ssvMainsStatus 15 0 vrms).mainsEvent 1 289)

/-- The input is back: RIDE clears, the shedding and recharge times start again, and the hold-up has been used. -/
def execRideThroughEnd (vrms : Nat) (s : State) : Out :=
  occurs s (s.supply.on && s.supply.riding && inRange vrms)
    (let t := (s.setBit Reg.ssvMainsStatus 29 false).setFld Reg.ssvMainsStatus 15 0 vrms
     { t with supply.sagged := false, supply.interrupted := false, supply.overMs := 0, supply.sinceStepMs := 0
              supply.vrms := vrms, supply.rechargeMs := 0, supply.charged := false })

/-- Input above 265 V rms: reported once per excursion. -/
def State.highInput (s : State) (vrms : Nat) : State :=
  let t := { s with supply.high := true, supply.vrms := vrms }
  let t := (t.setBit Reg.ssvMainsStatus 28 true).setFld Reg.ssvMainsStatus 15 0 (satNat vrms 65535)
  if s.supply.high then t else t.mainsEvent 3 290

/-- High input. -/
def execHighInput (vrms : Nat) (s : State) : Out :=
  occurs s (s.supply.on && decide (26500 < vrms)) (s.highInput vrms)

/-- Over-voltage: the relay opening is scheduled, 1 s on, or 20 ms above 300 V rms. -/
def execOverVoltage (vrms : Nat) (s : State) : Out :=
  occurs s (s.supply.on && decide (27500 < vrms))
    (let due := if 30000 < vrms then 20 else 1000
     { s.highInput vrms with supply.relayDue := some (match s.supply.relayDue with | some d => min d due | none => due) })

/-- The scheduled opening of the input relay; the power-fail path follows. -/
def execInputRelayOpen (s : State) : Out :=
  occurs s (s.supply.on && s.supply.relayDue.isSome) { s with supply.relayOpen := true, supply.relayDue := none }

/-- A surge is clamped. -/
def execSurge (milliamps : Nat) (s : State) : Out :=
  occurs s (s.supply.on && decide (10000 < milliamps)) (s.mainsEvent 2 290)

/-- Protective earth open. -/
def execPeOpen (ohms heldMs : Nat) (s : State) : Out :=
  occurs s (s.supply.on && !s.supply.peOpen && decide (10000 < ohms) && decide (2000 ≤ heldMs))
    (({ s with supply.peOpen := true }.setBit Reg.ssvMainsStatus 31 true).mainsEvent 4 291)

/-- Line and neutral swapped. -/
def execLnSwap (heldMs : Nat) (s : State) : Out :=
  occurs s (s.supply.on && !s.supply.lnSwap && decide (2000 ≤ heldMs))
    (({ s with supply.lnSwap := true }.setBit Reg.ssvMainsStatus 30 true).mainsEvent 5 292)

/-- A condition absent for 2 s is cleared. -/
def execConditionClear (which : EarthCondition) (absentMs : Nat) (s : State) : Out :=
  occurs s (s.supply.on && decide (2000 ≤ absentMs))
    (match which with
     | .protectiveEarthOpen => { s with supply.peOpen := false }.setBit Reg.ssvMainsStatus 31 false
     | .lineNeutralSwapped => { s with supply.lnSwap := false }.setBit Reg.ssvMainsStatus 30 false)

/-! ### Cages (R33, R34, R82–R88) -/

/-- A cage. -/
def State.cage (s : State) (n : Nat) : Cage := s.supply.cages.get n

/-- A cage changed, and the ports of its group brought into agreement. -/
def State.setCage (s : State) (n : Nat) (c : Cage) : State :=
  let t := { s with supply.cages := s.supply.cages.set n c }
  if t.coreUp then t.groupRefresh n else t

/-- Whether a front cage is shed. -/
def State.isShed (s : State) (n : Nat) : Bool := n < 16 && s.bit Reg.ssvShed n

/-- Whether cages are powered in this run: an image runs, the boot has not ended in service boot, and a cold run has
trained every DRAM stack, whose failure keeps the cages unpowered (R138, R139). -/
def State.cagesAllowed (s : State) : Bool :=
  s.supply.on && s.boot.core == .running && s.fld Reg.bootStatus 31 28 != 0 && !s.bit Reg.bootStatus 24 &&
    (s.fld Reg.bootStatus 27 26 != 0 || (List.range 4).all fun n => s.boot.trained.contains n)

/-- The low-power-mode signal of a cage (R32): an optic leaves low-power mode once it is supplied and has answered CMIS
identification. -/
def State.cageLowPower (s : State) (n : Nat) : Bool := !((s.cage n).fuse == .on && (s.cage n).cmis)

/-- The insertion sequence's end: the supply of a cage with an optic is switched on through its fuse; a fuse that has
latched stays so until it is re-armed (R84). -/
def State.powerCage (s : State) (n : Nat) : State :=
  let c := s.cage n
  if c.present && s.cagesAllowed && !s.isShed n then
    s.setCage n (if c.latched then { c with fuse := .latched } else { c with fuse := .on, retries := 0 })
  else s

/-- Presence held for 100 ms: an optic is inserted; a latched fuse is re-armed by it (R84). -/
def execOpticInserted (cage heldMs : Nat) (cmis : Bool) (s : State) : Out :=
  whenWf (cage < 20)
    (occurs s (s.supply.on && !(s.cage cage).present && decide (100 ≤ heldMs))
      ((s.setCage cage { present := true, cmis := cmis }).powerCage cage))

/-- Presence deasserts. -/
def execOpticRemoved (cage : Nat) (s : State) : Out :=
  whenWf (cage < 20) (occurs s (s.cage cage).present (s.setCage cage {}))

/-- A trip counted, with the event of its cage's group (R83, R109, R233). -/
def State.tripped (s : State) (n : Nat) : State :=
  let t := (s.bumpFld (Reg.ssvCageI n) 31 24).ssvEvent 293
  if t.coreUp then t.setEvent (Reg.pgEvents n) 24 (84 + n) else t

/-- A retry that trips; the third latches the fuse off. -/
def State.retryTrips (s : State) (n : Nat) : State :=
  let k := (s.cage n).retries + 1
  if k < 3 then (s.tripped n).setCage n { s.cage n with retries := k }
  else ((s.tripped n).setCage n { s.cage n with fuse := .latched, retries := k, latched := true }).ssvEvent 294

/-- A fuse trips. -/
def execFuseTrip (cage : Nat) (s : State) : Out :=
  whenWf (cage < 20)
    (match (s.cage cage).fuse with
     | .on => .next ((s.tripped cage).setCage cage { s.cage cage with fuse := .retrying, retries := 0 })
     | .retrying => .next (s.retryTrips cage)
     | _ => .next s)

/-- One second after a trip the fuse retries. -/
def execFuseRetry (cage : Nat) (trips : Bool) (s : State) : Out :=
  whenWf (cage < 20)
    (occurs s ((s.cage cage).fuse == .retrying)
      (if trips then s.retryTrips cage else s.setCage cage { s.cage cage with fuse := .on, retries := 0 }))

/-- SSV.FUSE_REARM: latched fuses start again at the insertion sequence. -/
def writeFuseRearm (s : State) (v : Word) : State :=
  (setBits v.toNat 20).foldl (fun t n =>
    if (t.cage n).latched then (t.setCage n { t.cage n with fuse := .off, retries := 0, latched := false }).powerCage n else t) s

/-- A FUSE_REARM write. -/
def execFuseRearm (acc : Nat) (v : Word) (s : State) : Out :=
  writeRow (acc < 7) acc Reg.ssvFuseRearm true (fun t => writeFuseRearm t v) s

/-- SSV.SHED_CLR: shed cages are restored; a latched fuse stays latched. -/
def writeShedClr (s : State) (v : Word) : State :=
  (setBits v.toNat 16).foldl (fun t n =>
    if t.isShed n then (t.setBit Reg.ssvShed n false).powerCage n else t) s

/-- A SHED_CLR write. -/
def execShedClr (acc : Nat) (v : Word) (s : State) : Out :=
  writeRow (acc < 7) acc Reg.ssvShedClr true (fun t => writeShedClr t v) s

/-! ### Shedding and overload (R85–R90) -/

/-- The next cage to shed: from C15 down, with an optic, not shed, its fuse not latched. -/
def State.nextShed (s : State) : Option Nat :=
  (List.range 16).reverse.find? fun n => (s.cage n).present && !s.isShed n && !(s.cage n).latched

/-- Whether the overload time has run: 100 ms from its start, then every 100 ms (R85, R89). -/
def State.overloadDue (s : State) : Bool :=
  s.supply.on && !s.supply.riding &&
    (if s.supply.shedding then decide (100 ≤ s.supply.sinceStepMs) else decide (100 ≤ s.supply.overMs))

/-- A cage is shed; a retry in progress stops. -/
def State.shed (s : State) (n : Nat) : State :=
  let t := ((s.setBit Reg.ssvShed n true).setCage n { s.cage n with fuse := .off, retries := 0 }).ssvEvent 296
  { t with supply.shedding := true, supply.sinceStepMs := 0 }

/-- One shedding step. -/
def execShedStep (s : State) : Out :=
  match s.nextShed with
  | some n => occurs s s.overloadDue (s.shed n)
  | none => .next s

/-- With no cage left to shed, persisting overload lowers the Flume clock. -/
def execOverloadClockStep (s : State) : Out :=
  occurs s (s.nextShed.isNone && s.overloadDue && decide (100 ≤ s.supply.overMs) && decide (s.supply.ovlStep < 2))
    (let t := { s with supply.ovlStep := s.supply.ovlStep + 1, supply.sinceStepMs := 0, supply.shedding := true }
     let t := (t.clockMoved s.flumeStep).ssvEvent 297
     if s.supply.ovlStep = 0 then t.ssvEvent 301 else t)

/-- After 60 s below 760 W the clock rises one step. -/
def execOverloadClockRise (s : State) : Out :=
  occurs s (s.supply.on && decide (0 < s.supply.ovlStep) && decide (60000 ≤ s.supply.underMs))
    (let t := { s with supply.ovlStep := s.supply.ovlStep - 1, supply.underMs := 0 }
     (t.clockMoved s.flumeStep).ssvEvent 297)

/-! ### Fans and temperature (R91–R97) -/

/-- A fan counts as failed. -/
def execFanFailed (fan percent heldMs : Nat) (s : State) : Out :=
  whenWf (fan < 6)
    (occurs s (s.supply.on && !s.supply.failed.contains fan && decide (percent < 20) && decide (3000 ≤ heldMs))
      (({ s with supply.failed := sortNats (fan :: s.supply.failed) }.setBit (Reg.ssvFan fan) 31 true).ssvEvent 295))

/-- A fan counts as running again. -/
def execFanRunning (fan percent heldMs : Nat) (s : State) : Out :=
  whenWf (fan < 6)
    (occurs s (s.supply.on && s.supply.failed.contains fan && decide (80 ≤ percent) && decide (10000 ≤ heldMs))
      (({ s with supply.failed := s.supply.failed.filter fun n => n != fan }.setBit (Reg.ssvFan fan) 31 false).ssvEvent 295))

/-- A temperature over its threshold steps the clock down: at once, and again after each 10 s for which the condition has
held. -/
def execThermalStepDown (inlet tj : Int) (heldMs : Nat) (s : State) : Out :=
  occurs s (s.supply.on && s.tooHot inlet tj && decide (10000 * s.supply.hotSteps ≤ heldMs) && decide (s.supply.thermStep < 2))
    (let t := { s with supply.thermStep := s.supply.thermStep + 1, supply.hotSteps := s.supply.hotSteps + 1, supply.coolSteps := 0 }
     (t.clockMoved s.flumeStep).ssvEvent 297)

/-- Temperatures at or under their thresholds for 60 s step the clock up, and again for each further 60 s. -/
def execThermalStepUp (inlet tj : Int) (heldMs : Nat) (s : State) : Out :=
  occurs s (s.supply.on && s.coolEnough inlet tj && decide (60000 * (s.supply.coolSteps + 1) ≤ heldMs) && decide (0 < s.supply.thermStep))
    (let t := { s with supply.thermStep := s.supply.thermStep - 1, supply.coolSteps := s.supply.coolSteps + 1, supply.hotSteps := 0 }
     (t.clockMoved s.flumeStep).ssvEvent 297)

/-- A minute with the inlet above 40 °C is counted; the budget's end raises event 300. -/
def execExcursionMinute (inlet : Int) (s : State) : Out :=
  occurs s (s.supply.on && decide (400 < inlet))
    (let t := { s with supply.bins := s.supply.bins.mod s.supply.today fun n => n + 1 }
     if t.spent && !s.spent then t.ssvEvent 300 else t)

/-- The current bin is written to flash B, once per hour while the inlet is above 40 °C. -/
def execExcursionLogWrite (inlet : Int) (sinceMs : Nat) (s : State) : Out :=
  occurs s (s.supply.on && decide (400 < inlet) && decide (3600000 ≤ sinceMs))
    { s with flash.bins := s.flash.bins.set s.supply.today (s.supply.bins.get s.supply.today)
             flash.erases := s.flash.erases.mod (2048 + 0x780) fun n => n + 1 }

/-- A day ends: the oldest bin leaves the window, in flash too, and takes the new day's count. -/
def execDailyBinExpire (s : State) : Out :=
  occurs s s.supply.on
    (let d := (s.supply.today + 1) % 365
     { s with supply.today := d, supply.bins := s.supply.bins.set d 0, flash.bins := s.flash.bins.set d 0
              flash.erases := s.flash.erases.mod (2048 + 0x780) fun n => n + 1 })

/-! ### What the SSV registers show (R103–R116) -/

/-- Code of a fuse state (R107). -/
def fuseCode : FuseState → Nat
  | .off => 0
  | .on => 1
  | .retrying => 2
  | .latched => 3

/-- The highest erase count of a flash's 64 KiB sectors. -/
def State.flashWear (s : State) (f : Nat) : Nat :=
  (s.flash.erases.entries.filter fun e => e.1 / 2048 == f).foldl (fun m e => max m e.2) 0

/-- What the SSV registers computed from its state read. With no record in the ring NEWEST is meaningless (R116): the
model shows 63, one slot before the first (DESIGN CHOICE). -/
def ssvLive (s : State) (a : Nat) : Option Nat :=
  if a = Reg.ssvFuseStateLo then some ((List.range 16).map fun n => fuseCode (s.cage n).fuse * 4 ^ n).sum
  else if a = Reg.ssvFuseStateHi then some ((List.range 4).map fun n => fuseCode (s.cage (16 + n)).fuse * 4 ^ n).sum
  else if a = Reg.ssvThrottle then some (s.flumeStep * 2 ^ 30 + s.fld Reg.ssvThrottle 25 24 * 2 ^ 24)
  else if a = Reg.ssvExcursion then some (b2n s.spent * 2 ^ 31 + satNat s.excursion (2 ^ 20 - 1))
  else if a = Reg.ssvFlashWearA then some (s.flashWear 0)
  else if a = Reg.ssvFlashWearB then some (s.flashWear 1)
  else if a = Reg.ssvFaultRing then
    some (min 64 s.flash.nextRecord * 256 + (s.flash.nextRecord + 63) % 64)
  else none

/-! ### The CLK block (R184, R189–R194) -/

/-- A core PLL or the reference oscillator loses lock; the timing PLL's loss is the time base's. -/
def execPllLockLoss (pll : Nat) (s : State) : Out :=
  whenWf (pll < 7)
    (occurs s (s.coreUp && pll != 5 && s.bit Reg.clkPllStatus pll)
      ((s.setBit Reg.clkPllStatus pll false).setBit Reg.clkPllEvents pll true))

/-- Lock returns. -/
def execCorePllLockReturn (pll : Nat) (s : State) : Out :=
  whenWf (pll < 7) (occurs s (s.coreUp && pll != 5) (s.setBit Reg.clkPllStatus pll true))

/-- A write of CLK.MEAS_CMD. -/
def writeMeasCmd (s : State) (v : Word) : State :=
  let d := Wbits v 3 0
  if s.cmdBusy Reg.clkMeasResult then s.cmdReject Reg.clkMeasResult
  else
    let t := s.cmdAccept Reg.clkMeasResult
    if d < 7 then { t with measDomain := d } else t.cmdDone Reg.clkMeasResult (d * 2 ^ 25)

/-- CLK.MEAS_CMD. -/
def execFreqMeasure (acc : Nat) (v : Word) (s : State) : Out :=
  writeRow (acc < 7) acc Reg.clkMeasCmd true (fun t => writeMeasCmd t v) s

/-- Frequency of a domain that MEAS_CMD can name, in kHz (R181, R190). -/
def State.domainKhz (s : State) (d : Nat) : Nat :=
  [1500000, [2200000, 1800000, 1400000].getD s.flumeStep 1400000, 1400000, 1000000, 1200000, 1000000, 125000].getD d 0

/-- What a measurement may be off by, in kHz: 1 kHz plus the reference tolerance of 4.6 ppm; besides, 0.1 % of a domain whose
source has lost lock, and 100 ppm of TIMING, which may follow a reference as far off as R37 takes one (R184, R193). -/
def State.measureSlack (s : State) (d : Nat) : Nat :=
  let f := s.domainKhz d
  let held := !s.bit Reg.clkPllStatus 6 || (d < 5 && !s.bit Reg.clkPllStatus d)
  1 + f * 46 / 10000000 + (if held then f / 1000 else 0) + (if d = 5 then f / 10000 else 0)

/-- The measurement's gate ends: the domain's frequency within its tolerance. -/
def execFreqMeasureDone (khz : Nat) (s : State) : Out :=
  occurs s (s.coreUp && s.cmdBusy Reg.clkMeasResult &&
      decide (s.domainKhz s.measDomain ≤ khz + s.measureSlack s.measDomain) &&
      decide (khz ≤ s.domainKhz s.measDomain + s.measureSlack s.measDomain))
    (s.cmdDone Reg.clkMeasResult (s.measDomain * 2 ^ 25 + satNat khz (2 ^ 22 - 1)))

/-- The frames in progress on a group's ports end with /E/ and an inverted FCS (R192). Which counter of the port counts them
the spec leaves open; the model counts none (DESIGN CHOICE). -/
def State.stompGroup (s : State) (g : Nat) : State :=
  (s.groupPorts g).foldl (fun t p => match (t.tx p).sending with | some i => (t.stompTx p).endCopy i | none => t) s

/-- A write of CLK.PG_GATE: groups newly gated stop, groups released start bring-up. -/
def writePgGate (s : State) (v : Word) : State :=
  let old := s.fld Reg.clkPgGate 19 0
  let new := Wbits v 19 0
  let s := ((setBits new 20).filter fun g => !bitAt old g).foldl State.stompGroup s
  let s := s.setFld Reg.clkPgGate 19 0 new
  ((List.range 20).filter fun g => bitAt old g != bitAt new g).foldl State.groupRefresh s

/-- A PG_GATE write. -/
def execPgGateWrite (acc : Nat) (v : Word) (s : State) : Out :=
  writeRow (acc < 7) acc Reg.clkPgGate true (fun t => writePgGate t v) s

end Sys2Proof.Machine
end

