-- ==== Sys2Proof/Machine/Restart.lean ====
section
/-! DEFINITION. Stops and restarts: fault records, the reset of the ASIC core, orderly stops, the power-fail path,
restart commands, the watchdog and the command registers of the BOOT block (R49, R53, R71, R75–R81, R128–R133,
R141–R151, R159, R160). -/
namespace Sys2Proof.Machine

/-! ### Fault records (R99, R150) -/

/-- What a fault record holds besides its number and the running image. -/
structure RecordBody where
  kind : Nat
  cause : Nat
  note : List Byte := []
  summary : List Byte := []
  capture : List Byte := leBytes 0xFFFFFFFF 4
  deriving DecidableEq, Repr, Inhabited

/-- The bytes of a record from 0x0010 on. -/
def State.recordTail (s : State) (r : RecordBody) (slot seq : Nat) : List Byte :=
  leBytes s.ns64 8 ++ leBytes slot 4 ++ leBytes seq 4 ++ leBytes (s.rd Reg.glbRevision).toNat 4 ++ List.replicate 220 0 ++
    slice r.note 0 256 ++ slice r.summary 0 512 ++ slice r.capture 0 61440 ++ List.replicate 3072 255

/-- A fault record written into the next slot of the ring in flash A. -/
def State.writeRecord (s : State) (r : RecordBody) (slot seq : Nat) : State :=
  let n := s.flash.nextRecord
  let tail := s.recordTail r slot seq
  let bs := leBytes 0x544C4647 4 ++ leBytes n 4 ++ [BitVec.ofNat 8 r.kind, BitVec.ofNat 8 r.cause, 0, 0] ++ leBytes (crc32cStd tail) 4 ++ tail
  { s with flash.bytes := putBytes s.flash.bytes (0x7800000 + n % 64 * 0x10000) bs
           flash.erases := s.flash.erases.mod (0x780 + n % 64) fun k => k + 1
           flash.nextRecord := n + 1 }

/-! ### The reset of the ASIC core (R133, R140, R175) -/

/-- Little-endian field of an image. -/
def State.imgNat (s : State) (slot o n : Nat) : Nat := leNat (getBytes s.flash.bytes (slot * 0x8000000 + o) n)

/-- Whether an image's MAGIC is right. -/
def State.imgMagic (s : State) (slot : Nat) : Bool := s.imgNat slot 0 4 == 0x58504C47

/-- SEQUENCE of an image, 0 when MAGIC is wrong (R158). -/
def State.imgSeq (s : State) (slot : Nat) : Nat := if s.imgMagic slot then s.imgNat slot 0xC 4 else 0

/-- SEQUENCE of the running image. -/
def State.runningSeq (s : State) : Nat := s.imgSeq (s.fld Reg.bootStatus 25 25)

/-- Whether an image runs in this boot. -/
def State.imageRuns (s : State) : Bool := s.boot.core == .running && s.fld Reg.bootStatus 31 28 != 0 && !s.bit Reg.bootStatus 24

/-- What the boot sequencer keeps over a reset of the core. -/
def State.bootKept (s : State) (core : CoreState) : Boot :=
  { core := core, bootsel := s.boot.bootsel, lampTest := s.boot.lampTest, cause := s.boot.cause, requested := s.boot.requested
    holdRestart := s.boot.holdRestart, holdBits := s.boot.holdBits, onFault := s.boot.onFault, onOrderly := s.boot.onOrderly
    onWatchdog := s.boot.onWatchdog, onCommand := s.boot.onCommand, confirmS := s.boot.confirmS, attempts := s.boot.attempts
    faults := s.boot.faults, windowS := s.boot.windowS
    lastSlot := if s.imageRuns then s.fld Reg.bootStatus 25 25 else s.boot.lastSlot
    lastSeq := if s.imageRuns then s.runningSeq else s.boot.lastSeq }

/-- DRAM after the reset: kept where it was held in self-refresh. Local memories are lost. -/
def State.memKept (s : State) : Mem := if s.aon.dramHeld then s.mem.keep 0x2000000000 0x4000000000 else {}

/-- Registers after the reset: their reset values, BOOT.NEXT kept (R159, R175). -/
def State.regsKept (s : State) : SMap Word := ⟨s.regs.entries.filter fun e => e.1 == Reg.bootNext⟩

/-- The supervisor over a reset of the core (R87, R107, R113, R114, R138, R139, R175): the cages' supplies are off until an
image runs, latched fuses stay to be re-armed, the clock steps and the times of shedding start again, and the excursion
bins are those in flash; the input's conditions, the hold-up and the failed fans go on. -/
def Supply.restarted (x : Supply) (bins : SMap Nat) : Supply :=
  { x with
    cages := ⟨x.cages.entries.map fun e => (e.1, { e.2 with fuse := .off, retries := 0 })⟩
    overMs := 0
    sinceStepMs := 0
    shedding := false
    underMs := 0
    thermStep := 0
    hotSteps := 0
    coolSteps := 0
    ovlStep := 0
    bins := bins }

/-- The ASIC core reset: the always-on domain, the input's conditions, flash and fuses are kept. -/
def State.coreReset (s : State) (core : CoreState) : State :=
  { pending := s.pending, freeCtr := s.freeCtr, rdData := s.rdData, regs := s.regsKept, mem := s.memKept
    supply := s.supply.restarted s.flash.bins, fuses := s.fuses, flash := s.flash, aon := s.aon, boot := s.bootKept core
    test := { s.test with selftest := none }, mgt := { sent := s.mgt.sent, frame := s.mgt.frame } }

/-- Whether every DRAM stack is up, so that it can enter self-refresh (R142, R753). -/
def State.dramUp (s : State) : Bool := (List.range 4).all fun n => s.bit (Reg.dnStatus n) 28

/-- The stacks enter self-refresh, or stay in it where this boot has not left it, and are held there through the
reset. -/
def State.holdDram (s : State) : State :=
  let h := s.dramUp || s.aon.dramHeld
  { s with aon.dramHeld := h }.setRetFlag retHeld h

/-- Flow-engine caches written back (R75, R518). -/
def State.writeBackAll (s : State) : State := s.flow.lines.keys.foldl State.writeBack s

/-- Every context is discarded with its Turnout state and its packet; nothing is released (R337). -/
def State.discardContexts (s : State) : State :=
  let t := (s.dsp.ctxs.entries.filter fun e => e.2.st != .free).foldl (fun t e =>
    (t.freePkt e.2.pkt).setCtx e.1 { e.2 with st := .free, frame := {}, edits := [], ending := .none }) s
  { t with dsp.nextSeq := {}, dsp.relSeq := {}, flume.threads := {}, flume.repx := {} }

/-- What is over 10 µs into the stop: cut-through copies whose verdicts have not arrived are stomped, the contexts'
staged updates are cancelled and the contexts discarded. -/
def State.settleStop (s : State) : State :=
  let late := (List.range 132).filter fun p => match (s.tx p).sending with
    | some i => (s.copy i).cut && !s.copyReady i
    | none => false
  { (late.foldl State.stompTx s).settleFlows.discardContexts with boot.settled := true }

/-- The orderly stop's clock: its first 10 µs end. -/
def State.stopEdge (s : State) : State :=
  if s.boot.stop = .orderly ∧ !s.boot.settled ∧ s.boot.stopRun + 10000 * nsUnit ≤ s.tb.run then s.settleStop else s

/-- The steps of R75 up to self-refresh entry: those of the first 10 µs, caches written back, the stacks held. -/
def State.stopSteps (s : State) : State := (if s.boot.settled then s else s.settleStop).writeBackAll.holdDram

/-! ### Orderly stops (R67, R75–R79, R93, R148) -/

/-- The header entries held are discarded, with their packets (R270). -/
def State.dropHeaders (s : State) : State :=
  let taken := s.hdg.slices.find fun x => x.st == .taken
  let t := ((List.range 21).flatMap s.headers).foldl State.freePkt s
  taken.foldl State.sliceDone { t with hdg.queue := {} }

/-- An orderly stop begins: its event, admission stopped on every port, the header entries discarded. -/
def State.beginOrderly (s : State) (cause : Nat) : State :=
  let s := s.raiseEvent (if cause = 7 then 299 else 298)
  let s := (s.setBit Reg.hdgStatus 31 false).dropHeaders
  { s with boot.stop := .orderly, boot.cause := cause, boot.requested := s.boot.onOrderly
           boot.orderlyErr := none, boot.orderlyErrs := 0, boot.stopRun := s.tb.run, boot.settled := false }

/-- A brown-out or thermal stop confirmed: an orderly stop, or a condition noted in the fault stop in progress. -/
def State.stopCondition (s : State) (cause : Nat) : State :=
  match s.boot.stop with
  | .none => s.beginOrderly cause
  | .fault =>
    let t := if s.boot.capturing then s.coincident (cause - 7) else s
    { t with boot.holdRestart := true, boot.holdBits := putBits s.boot.holdBits (cause - 7) (cause - 7) 1 }
  | .orderly => s

/-- A brown-out is confirmed. -/
def execBrownOut (vrms freq heldMs : Nat) (s : State) : Out :=
  occurs s (s.supply.on && s.boot.core == .running && decide (200 < heldMs) &&
      (decide (vrms < 7500) || decide (freq < 470) || decide (630 < freq)))
    (s.stopCondition 7)

/-- Tj at or above 120 °C. -/
def execThermalStop (tj : Int) (s : State) : Out :=
  occurs s (s.supply.on && s.boot.core == .running && decide (1200 ≤ tj)) (s.stopCondition 8)

/-- The summary of an orderly stop's record: its cause, and the memory errors it met (R78). -/
def State.orderlySummary (s : State) : List Byte :=
  let e := (s.boot.orderlyErr).getD {}
  ({ cause := s.boot.cause, base := e.base, syndrome := e.syndrome, addr := e.addr, region := e.region : FaultInfo }).bytes s.ns64 0 ++
    leBytes s.boot.orderlyErrs 4

/-- At 250 ms: the steps of R75 done, the record written, the core supplies off. -/
def State.orderlyEnd (s : State) : State :=
  let s := s.stopSteps
  let s := s.writeRecord { kind := 1, cause := s.boot.cause, summary := s.orderlySummary } (s.fld Reg.bootStatus 25 25) s.runningSeq
  let s := s.setRet 0x13 1 s.boot.cause
  let t := s.coreReset .off
  { t with boot.stop := .orderly }

/-- Whether the input still feeds an orderly stop: the relay closed and the input at 60 V rms or more (R79). -/
def State.stopFed (s : State) : Bool := !s.supply.relayOpen && decide (6000 ≤ s.supply.vrms)

/-- The ASIC core supplies are switched off at the end of an orderly stop; without input the power-fail path comes
instead (R79). -/
def execOrderlyStopCoreOff (s : State) : Out :=
  occurs s (s.boot.stop == .orderly && s.boot.core == .running && s.stopFed) s.orderlyEnd

/-- Whether the restart condition of R76 holds: after a brown-out the input in range for 2 s; after a thermal stop the
inlet and the package diode cool for 60 s. -/
def restartCondition (thermal : Bool) (vrms freq : Nat) (inlet diode : Int) (heldMs : Nat) : Bool :=
  if thermal then decide (inlet ≤ 400) && decide (diode ≤ 900) && decide (60000 ≤ heldMs)
  else decide (8500 ≤ vrms) && decide (vrms ≤ 26500) && decide (470 ≤ freq) && decide (freq ≤ 630) && decide (2000 ≤ heldMs)

/-- The wait of R76 ends: the core may be released from reset. -/
def execOrderlyRestart (vrms freq : Nat) (inlet diode : Int) (heldMs : Nat) (s : State) : Out :=
  let waits := (s.boot.stop == .orderly && s.boot.core == .off) || (s.boot.holdRestart && s.boot.core == .held)
  let thermal := if s.boot.holdRestart then bitAt s.boot.holdBits 1 else s.boot.cause == 8
  let brown := if s.boot.holdRestart then bitAt s.boot.holdBits 0 else s.boot.cause == 7
  occurs s (s.supply.on && waits && (!thermal || restartCondition true vrms freq inlet diode heldMs) &&
      (!brown || restartCondition false vrms freq inlet diode heldMs))
    { s with boot.stop := .none, boot.core := .held, boot.holdRestart := false, boot.holdBits := 0 }

/-! ### Power fail and return (R53, R71, R80, R81, R133, R148) -/

/-- 256 bytes of the power-fail note: the spec does not say what they hold. -/
def drawBytes : Nat → State → List Byte × State
  | 0, s => ([], s)
  | n + 1, s =>
    let r := s.draw 8
    let t := drawBytes n r.2
    (BitVec.ofNat 8 r.1 :: t.1, t.2)

/-- The power-fail path: idles on every port, the note in the retention RAM, then the supplies are gone. -/
def State.powerFail (s : State) : State :=
  let s := if s.boot.core = .running then { s with aon.timekeeper := s.total } else s
  let s := if s.boot.stop = .fault ∧ s.boot.capturing then s.coincident 2 else s
  let d := drawBytes 256 s
  let s := { d.2 with aon.retention := putBytes d.2.aon.retention 0x100 d.1 }.setRetFlag retNote true
  let s := (s.setRetFlag retHeld false).setRet 0x13 1 9
  let s := { s with boot.cause := 9, boot.requested := 0, boot.holdRestart := false, boot.holdBits := 0, boot.lampTest := false, aon.dramHeld := false }
  let t := s.coreReset .off
  { t with supply := { on := false, relayOpen := s.supply.relayOpen, bins := s.flash.bins, today := s.supply.today
                       cages := ⟨s.supply.cages.entries.map fun e => (e.1, { present := e.2.present, cmis := e.2.cmis })⟩ } }

/-- Hold-up through a total interruption, in ms: 20 at up to 500 W of DC output, else 10; none is sure before the store
has recharged (R68, R69). -/
def Supply.holdUpMs (x : Supply) : Nat := if !x.charged then 0 else if x.dcW ≤ 5000 then 20 else 10

/-- Whether the supply signals power fail, with the input gone for `lostMs`: hold-up is exhausted, the relay has opened,
more than 900 W have been drawn for 100 ms, or the input has fallen below 60 V rms in an orderly stop (R68–R71, R79, R80,
R90). -/
def State.powerFails (s : State) (lostMs : Nat) : Bool :=
  s.supply.relayOpen || decide (s.supply.holdUpMs < lostMs) || decide (100 ≤ s.supply.over900Ms) ||
    (s.boot.stop == .orderly && s.boot.core == .running && !s.stopFed)

/-- The supply signals power fail. -/
def execPowerFail (lostMs : Nat) (s : State) : Out := occurs s (s.supply.on && s.powerFails lostMs) s.powerFail

/-- All input gone for at least 60 s, the always-on store runs out. -/
def execAlwaysOnStoreExhausted (heldMs : Nat) (s : State) : Out :=
  occurs s (!s.supply.on && s.aon.alive && decide (60000 ≤ heldMs))
    { s with aon := { alive := false }, regs := ⟨s.regs.entries.filter fun e => e.1 != Reg.bootNext⟩ }

/-- Mains return: with the power-fail note still held, a cold restart by that path, without a new BOOTSEL sample or lamp
test; otherwise a power-on reset of everything but the fuses, with BOOTSEL sampled and the lamp test run (R133). -/
def State.mainsReturn (s : State) (vrms : Nat) (bootsel : Bool) : State :=
  let s := { s with supply.on := true, supply.relayOpen := false, supply.vrms := vrms }
  if s.aon.alive && s.retFlag retNote then { s with boot.core := .held }
  else
    { pending := s.pending, freeCtr := s.freeCtr, fuses := s.fuses, flash := s.flash
      supply := { cages := s.supply.cages, bins := s.flash.bins, today := s.supply.today, vrms := vrms }
      boot := { bootsel := bootsel } }

/-- Mains input first exceeds 85 V rms. -/
def execPowerOn (vrms : Nat) (bootsel : Bool) (s : State) : Out :=
  occurs s (!s.supply.on && !s.supply.relayOpen && decide (8500 < vrms)) (s.mainsReturn vrms bootsel)

/-- The input relay closes after 2 s in range; the module boots, where the power-fail path had taken it down. -/
def execRelayClose (vrms heldMs : Nat) (bootsel : Bool) (s : State) : Out :=
  occurs s (s.supply.relayOpen && decide (8500 ≤ vrms) && decide (vrms ≤ 26500) && decide (2000 ≤ heldMs))
    (if s.supply.on then { s with supply.relayOpen := false, supply.vrms := vrms } else s.mainsReturn vrms bootsel)

/-- The lamp test's 0.5 s are over. -/
def execLampTestEnd (s : State) : Out := occurs s s.boot.lampTest { s with boot.lampTest := false }

/-! ### Restart commands (R144, R159) -/

/-- A restart command: the steps of R75 that apply at the boot's stage, no fault record, then the reset. One that
arrives while a stop is in progress is ignored. One that JTAG writes while the core is held in reset or unpowered, a span
the spec does not speak of, the model ignores too (DESIGN CHOICE: there is nothing to reset). -/
def State.restart (s : State) (mode : Nat) : State :=
  if s.boot.stop != .none || s.boot.core != .running then s
  else
    let t := (s.stopSteps.setRet 0x13 1 1).coreReset .held
    { t with boot.cause := 1, boot.requested := if mode = 3 then s.boot.onCommand else mode }

/-- A write of BOOT.RESTART. -/
def writeRestart (s : State) (v : Word) : State := if Wbits v 31 16 = 0xA5C3 then s.restart (Wbits v 1 0) else s

/-- BOOT.RESTART. -/
def execRestartCommand (acc : Nat) (v : Word) (s : State) : Out :=
  writeRow (acc < 7) acc Reg.bootRestart (Wbits v 31 16 == 0xA5C3) (fun t => writeRestart t v) s

/-! ### Security fuses and confirmation (R128, R130, R159) -/

/-- BOOT.SVN_RAISE: MINIMUM is raised to RUNNING; it never goes back. -/
def writeSvnRaise (s : State) (v : Word) : State :=
  if Wbits v 31 16 = 0xA5C3 then { s with fuses.svn := max s.fuses.svn (s.fld Reg.bootSvn 15 8) } else s

/-- SVN_RAISE. -/
def execSvnRaise (acc : Nat) (v : Word) (s : State) : Out :=
  writeRow (acc < 7) acc Reg.bootSvnRaise (Wbits v 31 16 == 0xA5C3) (fun t => writeSvnRaise t v) s

/-- BOOT.KEY_REVOKE: the slots named are revoked, but for the one that signs the running image: naming it has no
effect. -/
def writeKeyRevoke (s : State) (v : Word) : State :=
  if Wbits v 31 16 = 0xA5C3 then
    let m := (setBits v.toNat 4).filter fun k => !(s.imageRuns && k == s.boot.keySlot)
    { s with fuses.revoked := m.foldl (fun r k => putBits r k k 1) s.fuses.revoked }
  else s

/-- KEY_REVOKE. -/
def execKeyRevoke (acc : Nat) (v : Word) (s : State) : Out :=
  writeRow (acc < 7) acc Reg.bootKeyRevoke (Wbits v 31 16 == 0xA5C3) (fun t => writeKeyRevoke t v) s

/-- BOOT.CONFIRM: the running image is confirmed and its failed attempts cleared. -/
def writeConfirm (s : State) (v : Word) : State :=
  if Wbits v 0 0 = 1 && s.imageRuns then { s with boot.confirmed := true }.setAttempts (s.fld Reg.bootStatus 25 25) 0 else s

/-- CONFIRM. -/
def execConfirm (acc : Nat) (v : Word) (s : State) : Out :=
  writeRow (acc < 7) acc Reg.bootConfirm (Wbits v 0 0 == 1) (fun t => writeConfirm t v) s

/-- CONFIRM_S has run out since the image became valid (R131, R877). -/
def execConfirmTimeout (s : State) : Out :=
  occurs s (s.coreUp && s.imageRuns && !s.boot.confirmed && s.boot.confirmS != 0 && decide (s.boot.confirmS * 1000000000 ≤ s.boot.runNs))
    (s.faultStop { cause := 6, base := 0x20000 })

/-! ### The system watchdog (R160, R819, R877) -/

/-- TIMEOUT in force, ms. -/
def State.wdTimeout (s : State) : Nat := max 1 (s.fld Reg.bootSyswd 15 0)

/-- The watchdog's count starts again. -/
def State.wdRestart (s : State) : State := { s with boot.wdNs := 0, boot.wdHalf := false, boot.wdFloor := 0 }

/-- A write of BOOT.SYSWD: enabling it starts the count; a TIMEOUT at or below the milliseconds counted expires on the next
one. -/
def writeSyswd (s : State) (v : Word) : State :=
  let t := s.storeRw Reg.bootSyswd v
  if t.bit Reg.bootSyswd 31 && !s.bit Reg.bootSyswd 31 then t.wdRestart
  else { t with boot.wdFloor := (s.boot.wdNs / 1000000 + 1) * 1000000 }

/-- BOOT.SYSWD_KICK. -/
def writeSyswdKick (s : State) (v : Word) : State :=
  if Wbits v 0 0 = 1 then s.wdRestart else s

/-- SYSWD_KICK. -/
def execSyswdKick (acc : Nat) (v : Word) (s : State) : Out :=
  writeRow (acc < 7) acc Reg.bootSyswdKick (Wbits v 0 0 == 1) (fun t => writeSyswdKick t v) s

/-- The count reaches TIMEOUT. -/
def execSyswdExpire (s : State) : Out :=
  occurs s (s.coreUp && s.bit Reg.bootSyswd 31 && decide (max (s.wdTimeout * 1000000) s.boot.wdFloor ≤ s.boot.wdNs))
    (s.faultStop { cause := 5, base := 0x20000 })

/-- The count reaches half of TIMEOUT. -/
def execSyswdHalf (s : State) : Out :=
  occurs s (s.coreUp && s.bit Reg.bootSyswd 31 && !s.boot.wdHalf && decide (s.wdTimeout / 2 * 1000000 ≤ s.boot.wdNs))
    ({ s with boot.wdHalf := true }.setEvent Reg.evcLocal 0 315)

/-- What the BOOT and GLB registers computed from fuses and the retention RAM read (R158, R161, R186). -/
def bootLive (s : State) (a : Nat) : Option Nat :=
  if a = Reg.bootSeqA then some (if s.boot.core = .running then s.imgSeq 0 else 0)
  else if a = Reg.bootSeqB then some (if s.boot.core = .running then s.imgSeq 1 else 0)
  else if a = Reg.bootImgStat then some (s.attempts 1 * 2 ^ 28 + s.attempts 0 * 2 ^ 24 + s.fld a 23 8 * 256)
  else if a = Reg.bootSvn then some (s.fld a 15 8 * 256 + s.fuses.svn)
  else if a = Reg.bootKeys then some (s.fuses.revoked % 16 * 16 + s.fuses.programmed % 16)
  else if a = Reg.bootRetain then some (s.ret 4 4 % 64)
  else if a = Reg.glbSerialLo then some (s.fuses.serial % 2 ^ 32)
  else if a = Reg.glbSerialHi then some (s.fuses.serial / 2 ^ 32 % 65536)
  else none

end Sys2Proof.Machine
end

