-- ==== Sys2Proof/Machine/Test.lean ====
section
/-! DEFINITION. Test and diagnostics: the analogue test buses, the JTAG port but for its register access, the memory
tests, loopbacks and PRBS (R857–R869). -/
namespace Sys2Proof.Machine

/-! ### Analogue test buses (R857, R858) -/

/-- Whether a node number names a node. -/
def atbNode (n : Nat) : Bool :=
  (1 ≤ n && n ≤ 8) || (16 ≤ n && n ≤ 35) || (40 ≤ n && n ≤ 59) || (64 ≤ n && n ≤ 69)

/-- The converter of a bus samples its node; with none selected the pin is at its reference. -/
def execAtbSample (bus level : Nat) (s : State) : Out :=
  whenWf (bus < 2)
    (occurs s s.supply.on
      (s.wr (Reg.ssvAtbAdc bus) (BitVec.ofNat 32 (2 ^ 31 + if atbNode (s.fld (Reg.ssvAtbSel bus) 7 0) then satNat level 4095 else 0))))

/-- A write of ATB_SEL: no sample has been taken of the new selection. -/
def writeAtbSel (s : State) (b : Nat) (v : Word) : State :=
  (s.storeRw (Reg.ssvAtbSel b) v).setBit (Reg.ssvAtbAdc b) 31 false

/-! ### JTAG (R47, R859–R862) -/

/-- An instruction loaded with its captured data register; only EXTEST drives the pins. -/
def State.jtag (s : State) (ir dr : Nat) : State := { s with test.ir := ir, test.dr := dr, test.driving := false }

/-- IDCODE. -/
def execIdcode (s : State) : Out := occurs s s.supply.on (s.jtag 0x01 0x11280A3B)

/-- SAMPLE/PRELOAD: the pins are captured, and what EXTEST will drive is loaded. -/
def execSamplePreload (pins preload : Nat) (s : State) : Out :=
  occurs s s.supply.on { s.jtag 0x02 pins with test.boundary := preload }

/-- EXTEST: honoured in service boot, else BYPASS. -/
def execExtest (pins drive : Nat) (s : State) : Out :=
  occurs s s.supply.on
    (if s.bit Reg.bootStatus 24 then { s.jtag 0x03 pins with test.boundary := drive, test.driving := true } else s.jtag 0x03 0)

/-- RETREAD: loading it returns the offset to 0; each capture reads the next 4 B of the retention RAM. -/
def execRetread (load : Bool) (s : State) : Out :=
  occurs s s.supply.on
    (if s.fuses.jtagLock then s.jtag 0x21 0
     else if load then { s.jtag 0x21 0 with test.retOfs := 0 }
     else if s.test.ir = 0x21 then { s with test.dr := s.ret s.test.retOfs 4, test.retOfs := (s.test.retOfs + 4) % 65536 }
     else s)

/-- BYPASS: the one-bit register takes the bit shifted in. -/
def execBypass (bit : Bool) (s : State) : Out := occurs s s.supply.on (s.jtag 0xFF (b2n bit))

/-- Test-Logic-Reset. -/
def execTestLogicReset (s : State) : Out := occurs s s.supply.on { s.jtag 0x01 0 with test.retOfs := 0 }

/-! ### Memory tests (R863–R865) -/

/-- A map of the keys below `n` to given values. -/
def listed {V : Type} [DecidableEq V] [Inhabited V] (n : Nat) (f : Nat → V) : SMap V :=
  ⟨((List.range n).map fun i => (i, f i)).filter fun e => decide (e.2 ≠ default)⟩

/-- Undefined contents of `n` words of `k` bits, drawn from the free values after `c`. -/
def freeNats (n k c : Nat) : SMap Nat := listed n fun i => Config.freeValue (c + i) % 2 ^ k

/-- Undefined bytes. -/
def freeBytes (n c : Nat) : SMap Byte := listed n fun i => BitVec.ofNat 8 (Config.freeValue (c + i))

/-- An undefined Weir entry and an undefined EMT entry. -/
def freeWeir (c : Nat) : WeirEntry :=
  let v := Config.freeValue c
  { valid := bitAt v 0, val := v / 2 % 2 ^ 640, mask := v / 2 ^ 641 % 2 ^ 640, ad := v / 2 ^ 1281 % 2 ^ 128 }
def freeEmt (c : Nat) : EmtEntry :=
  let v := Config.freeValue c
  { valid := bitAt v 0, isStatic := bitAt v 1, key := v / 4 % 2 ^ 112, data := v / 2 ^ 114 % 2 ^ 32 }

/-- An undefined array word of a replica. -/
def freeWord (c : Nat) : ArrayWord :=
  let v := Config.freeValue c
  { valid := bitAt v 0, val := v / 2 % 2 ^ 640, mask := v / 2 ^ 641 % 2 ^ 640 }

/-- Undefined array words of `n` replicas of `size` entries. -/
def freeArr (n size c : Nat) : SMap (Option ArrayWord) :=
  listed (n * 65536) fun k => if k % 65536 < size then some (freeWord (c + k)) else none

/-- The target of a memory test after it: its contents are undefined. -/
def State.scramble (s : State) (target : Nat) : State :=
  let c := s.freeCtr
  let s := { s with freeCtr := c + 2 ^ 40 }
  match target with
  | 2 => { s with flume.ps := freeNats (16 * 65536) 16 c }
  | 3 => { s with hdg.ucode := freeNats (20 * 4096) 192 c }
  | 4 => { s with tables.weir := (listed 32768 fun i => freeWeir (c + i)), tables.weirArr := freeArr 10 32768 (c + 2 ^ 32) }
  | 5 => { s with tables.emt := (listed 65536 fun i => freeEmt (c + i)), tables.emtArr := freeArr 20 65536 (c + 2 ^ 32) }
  | 6 => { s with mem := s.mem.undefine 0x1400000 (3 * 0x400000) c }
  | 7 => { s with flume.shm := freeBytes (16 * 262144) c
                  qm.groups := freeNats 4096 135 (c + 2 ^ 32) }
  | 8 => { s with mem := s.mem.undefine 0x2000000000 (2 ^ 37) c }
  | _ => s

/-- A write of SELFTEST_CMD. -/
def writeSelftest (s : State) (v : Word) : State :=
  let t := Wbits v 3 0
  if s.cmdBusy Reg.glbSelftestResult then s.cmdReject Reg.glbSelftestResult
  else
    let u := s.cmdAccept Reg.glbSelftestResult
    let code := if !s.bit Reg.bootStatus 24 then 2 else if 10 ≤ t then 3 else 0
    if code = 0 then { u with test.selftest := some t }
    else (u.cmdDone Reg.glbSelftestResult (code * 2 ^ 26 + t * 2 ^ 22)).setPair Reg.glbSelftestAddrLo Reg.glbSelftestAddrHi 0

/-- SELFTEST_CMD. -/
def execSelftest (acc : Nat) (v : Word) (s : State) : Out :=
  writeRow (acc < 7) acc Reg.glbSelftestCmd true (fun t => writeSelftest t v) s

/-- The result of a memory test of target `t`. -/
def State.selftestResult (s : State) (t : Nat) (fails : List TestFail) : State :=
  let f := fails.headD { target := t, addr := 0 }
  let code := if fails = [] then 0 else 1
  let s := s.cmdDone Reg.glbSelftestResult (code * 2 ^ 26 + f.target % 16 * 2 ^ 22 + satNat fails.length (2 ^ 20 - 1))
  { s.setPair Reg.glbSelftestAddrLo Reg.glbSelftestAddrHi f.addr with test.selftest := none }

/-- A memory test finishes; `fails` lists the failing words in order. -/
def execSelftestDone (fails : List TestFail) (s : State) : Out :=
  match s.test.selftest with
  | none => .next s
  | some t =>
    occurs s s.coreUp (((if t = 9 then List.range 9 else [t]).foldl State.scramble s).selftestResult t fails)

/-- GLB.TEST_LOCK. -/
def writeTestLock (s : State) (v : Word) : State :=
  if Wbits v 31 16 = 0xA5C3 && bitAt v.toNat 0 && s.bit Reg.bootStatus 24 then { s with fuses.jtagLock := true } else s

/-- TEST_LOCK. -/
def execTestLock (acc : Nat) (v : Word) (s : State) : Out :=
  writeRow (acc < 7) acc Reg.glbTestLock true (fun t => writeTestLock t v) s

/-! ### Loopbacks and PRBS (R866–R869) -/

/-- A write of PG.LOOPBACK: every port of the group goes down, and bring-up starts again where the mode allows. -/
def writeLoopback (g : Nat) (s : State) (v : Word) : State := (s.storeRw (Reg.pgLoopback g) v).groupRestart g

/-- PG.LOOPBACK. -/
def execLoopbackWrite (acc group : Nat) (v : Word) (s : State) : Out :=
  writeRow (acc < 7 && group < 20) acc (Reg.pgLoopback group) true (fun t => writeLoopback group t v) s

/-- A write of PG.PRBS_CTRL: with EN = 1 the ports are held in state 1 and the checkers start again. -/
def writePrbsCtrl (g : Nat) (s : State) (v : Word) : State :=
  let t := (s.storeRw (Reg.pgPrbsCtrl g) v).setFld (Reg.pgPrbsCtrl g) 23 16 0
  if Wbits v 31 31 = 1 then t.groupRestart g else t

/-- PG.PRBS_CTRL. -/
def execPrbsCtrlWrite (acc group : Nat) (v : Word) (s : State) : Out :=
  writeRow (acc < 7 && group < 20) acc (Reg.pgPrbsCtrl group) true (fun t => writePrbsCtrl group t v) s

/-- A lane's checker gains or loses lock; `errors` are the symbols that differed since its lock or the last report. -/
def execPrbsCheckerLock (group lane : Nat) (lock : Bool) (errors : Nat) (s : State) : Out :=
  whenWf (group < 20 && lane < 8)
    (let a := Reg.pgPrbsCtrl group
     occurs s (s.coreUp && !s.bit Reg.clkPgGate group && s.bit a 31 && s.bit a (8 + lane))
       (let t := if s.bit a (16 + lane) || lock then s.bumpFld (Reg.pgPrbsErr group lane) 31 0 errors else s
        t.setBit a (16 + lane) lock))

/-- The lock fuse as it reads. -/
def testLive (s : State) (a : Nat) : Option Nat := if a = Reg.glbTestStatus then some (b2n s.fuses.jtagLock) else none

end Sys2Proof.Machine
end

