-- ==== Sys2Proof/Machine/RegBus.lean ====
section
/-! DEFINITION. The register bus: what any accessor's read or write of any register does (R162–R180, R871), and the
FLM registers (R410–R416). -/
namespace Sys2Proof.Machine

/-! ### FLM registers (R410–R416) -/

/-- Code of a thread's state (R416); a thread whose context is in state exception is in the exception entry. -/
def State.threadCode (s : State) (cl e th : Nat) : Nat :=
  match (s.thr cl e th).ctx with
  | none => 0
  | some c => if (s.ctx c).st == .exception then 3 else if s.ready cl e th then 1 else 2

/-- FLM.DIAG_DATA: an item of a thread. -/
def State.flmDiag (s : State) (cl e th item : Nat) : Nat :=
  let t := s.thr cl e th
  match item with
  | 0 => s.threadCode cl e th * 2 ^ 29 + t.arch.ds.length * 2 ^ 24 + t.arch.rs.length * 2 ^ 20 + t.arch.pc
  | 1 => t.arch.rc.toNat
  | 2 => (nth t.arch.ds 0).toNat
  | 3 => t.ctx.getD 0
  | _ => 0

/-- FLM.CE_STATUS; an engine held in reset shows its reset value. -/
def State.ceStatus (s : State) (k : Nat) : Nat :=
  let c := s.ce k
  if !s.bit (Reg.flmCeCtrl 0 k) 31 then 0
  else b2n c.halted * 2 ^ 31 + b2n c.level * 2 ^ 30 + b2n c.ie * 2 ^ 29 + c.cause * 2 ^ 25 + c.subcode * 2 ^ 21 + c.cur.pc

/-- Threads of a cluster that hold a context. -/
def State.clBusy (s : State) (cl : Nat) : Nat :=
  ((List.range 128).filter fun i => (s.flume.threads.get (cl * 128 + i)).ctx.isSome).length

/-- The cluster-shared word at SHM_ADDR. -/
def State.shmWord (s : State) (cl : Nat) : Nat :=
  leNat (getBytes s.flume.shm (cl * 0x40000 + s.fld (Reg.flmShmAddr cl) 17 0) 4)

/-- What the FLM registers computed from its state read. -/
def flmLive (s : State) (a : Nat) : Option Nat :=
  let cl := (a - 0x300000) / 0x10000
  if Reg.flmCeCtrl 0 0 ≤ a ∧ a < Reg.flmCeCtrl 0 4 ∧ a % 8 = 4 then some (s.ceStatus ((a - Reg.flmCeCtrl 0 0) / 8))
  else match a % 0x10000 with
    | 0x104 => some (s.clBusy cl)
    | 0x124 => some (s.flume.ps.get (cl * 65536 + s.fld (Reg.flmPsAddr cl) 15 0))
    | 0x12C => some (s.shmWord cl)
    | 0x134 =>
      let sel := (s.rd (a - 4)).toNat
      some (s.flmDiag cl (bitsOf sel 7 4) (bitsOf sel 2 0) (bitsOf sel 11 8))
    | _ => none

/-- A write of CE_CTRL.RUN (R412): clearing it drains the write buffer and resets the engine; setting it starts an
engine in reset at offset 0, and a halted one at offset 0 with empty stacks. -/
def writeCeCtrl (k : Nat) (s : State) (v : Word) : State :=
  let c := s.ce k
  let run := s.bit (Reg.flmCeCtrl 0 k) 31
  if Wbits v 31 31 = 0 then
    if !run then s
    else ((c.wb.foldl (fun t e => t.stBytes e.addr e.data) s).setCe k {}).setBit (Reg.flmCeCtrl 0 k) 31 false
  else if !run then (s.setCe k {}).setBit (Reg.flmCeCtrl 0 k) 31 true
  else if c.halted then
    s.setCe k { c with base := { rc := c.base.rc }, intr := { rc := c.intr.rc }, level := false, ie := false, halted := false
                       waiting := false, syncing := false, misses := c.misses.filter fun m => m.store.isSome }
  else s

/-- A write of PS_DATA: one instruction stored at ADDR (R410, R415). -/
def writePsData (cl : Nat) (s : State) (v : Word) : State :=
  let a := s.fld (Reg.flmPsAddr cl) 15 0
  let t := { s with flume.ps := s.flume.ps.set (cl * 65536 + a) (Wbits v 15 0) }
  if s.bit (Reg.flmPsAddr cl) 31 then t.setFld (Reg.flmPsAddr cl) 15 0 (a + 1) else t

/-- ADDR moved on after an SHM_DATA access where AUTOINC is set. -/
def State.shmNext (s : State) (cl : Nat) : State :=
  if s.bit (Reg.flmShmAddr cl) 31 then s.setFld (Reg.flmShmAddr cl) 17 0 (s.fld (Reg.flmShmAddr cl) 17 0 + 4) else s

/-- A write of SHM_DATA: one word stored at ADDR. -/
def writeShmData (cl : Nat) (s : State) (v : Word) : State :=
  let a := cl * 0x40000 + s.fld (Reg.flmShmAddr cl) 17 0
  { s with flume.shm := putBytes s.flume.shm a (leBytes v.toNat 4) }.shmNext cl

/-! ### MGT.STATUS (R855) -/

/-- Sessions open. -/
def State.sessionsOpen (s : State) : List Nat := (List.range 4).filter fun i => (s.mgt.sessions.get i).isOpen

/-- What the MGT registers computed from its state read. -/
def mgtLive (s : State) (a : Nat) : Option Nat :=
  if a = Reg.mgtStatus then
    some (s.fld Reg.mgtStatus 31 31 * 2 ^ 31 + b2n s.mgt.locate * 2 ^ 30 + s.sessionsOpen.length * 2 ^ 27)
  else none

/-! ### Reading -/

/-- What the registers read that are computed from the module's state, block by block; none for a register that holds
its own value. -/
def State.live (s : State) (a : Nat) : Option Nat :=
  if a < 0x10000 then (testLive s a).or (bootLive s a)
  else if a < 0x20000 then ssvLive s a
  else if a < 0x30000 then bootLive s a
  else if a < 0x180000 then portsLive s a
  else if a < 0x200000 then hdgLive s a
  else if a < 0x280000 then tablesLive s a
  else if a < 0x300000 then dspLive s a
  else if a < 0x400000 then flmLive s a
  else if a < 0x480000 then fleLive s a
  else if a < 0x4C0000 then qmLive s a
  else if a < 0x500000 then bpmLive s a
  else if a < 0x580000 then schLive s a
  else if a < 0x600000 then tbLive s a
  else if a < 0x680000 then dmcLive s a
  else if a < 0x6C0000 then none
  else if a < 0x700000 then dmaLive s a
  else if a < 0x780000 then evcLive s a
  else if a < 0x7C0000 then stkLive s a
  else mgtLive s a

/-- The word of a 64-bit counter at its _LO or _HI address; every counter's _LO lies at a multiple of 8. -/
def State.ctrWord (s : State) (a : Nat) : Nat :=
  if a % 8 = 0 then s.ctr a % 2 ^ 32 else s.ctr (a - 4) / 2 ^ 32

/-- The current value of a register (R169, R176). -/
def State.cur (s : State) (a : Nat) : Word :=
  match s.live a with
  | some n => BitVec.ofNat 32 n
  | none => match regAt a with
    | none => 0
    | some (r, _) =>
      match r.kind with
      | .counter => BitVec.ofNat 32 (s.ctrWord a)
      | .counterRW => BitVec.ofNat 32 (s.ctrWord a)
      | _ => s.rd a

/-- Registers whose values a read of `a` latches for its accessor (R180, R658, R673). -/
def latchOf (a : Nat) : List Nat :=
  if latchedBy a ≠ [] then latchedBy a
  else match regAt a with
    | none => []
    | some (r, _) =>
      match r.kind with
      | .pairLo => [a + 4]
      | .counter => if a % 8 = 0 then [a + 4] else []
      | .counterRW => if a % 8 = 0 then [a + 4] else []
      | _ => []

/-- Whether a register is one that an accessor may hold latched. -/
def latchable (a : Nat) : Bool :=
  (latchedBy Reg.tbSecLo).contains a || (latchedBy Reg.tbPpsSec).contains a ||
  match regAt a with
  | none => false
  | some (r, _) => r.kind == .pairHi || ((r.kind == .counter || r.kind == .counterRW) && a % 8 == 4)

/-- Bits that a read of a register clears. -/
def rcMask (a : Nat) : Nat := match regAt a with
  | some (r, _) => r.rc
  | none => 0

/-- The bits of `v` that are RC cleared in the register at `a` (R169, R170). -/
def State.clearRc (s : State) (a : Nat) (v : Word) : State :=
  let m := Nat.land v.toNat (rcMask a)
  if m = 0 then s else s.wr a (BitVec.ofNat 32 (Nat.land (s.rd a).toNat (2 ^ 32 - 1 - m)))

/-- What follows from a read: TIME's amber ends with a read of TB.EVENTS (R670), an SHM_DATA read moves ADDR on. -/
def State.afterRead (s : State) (a : Nat) : State :=
  if a = Reg.tbEvents then { s with tb.refused := false }
  else if 0x300000 ≤ a ∧ a < 0x400000 ∧ a % 0x10000 = 0x12C then s.shmNext ((a - 0x300000) / 0x10000)
  else s

/-- A read that reaches its register: the value returned, and the state after it. -/
def State.readReg (s : State) (acc a : Nat) : Word × State :=
  let held := if latchable a then s.shadow acc a else none
  let v := held.getD (s.cur a)
  let t := (latchOf a).foldl (fun t b => t.setShadow acc b (some (s.cur b))) s
  let t := if held.isSome then t.setShadow acc a none else t
  (v, (t.clearRc a v).afterRead a)

/-- A register read by an accessor (R167, R169, R871). -/
def State.busRead (s : State) (acc a : Nat) : Word × State :=
  match s.reach acc a with
  | .ok => s.readReg acc (canonAddr a)
  | .silent => (0, s)
  | .error k => (0, s.accErr acc a k false)

/-! ### Writing -/

/-- A write of a register with nothing of its own to do (R169, R178, R180). -/
def State.plainWrite (s : State) (acc a : Nat) (v : Word) : State :=
  match regAt a with
  | none => s
  | some (r, _) =>
    match r.kind with
    | .plain => s.storeRw a v
    | .pairHi => s.setShadow acc (a + 1) (some v)
    | .pairLo =>
      let t := match s.shadow acc (a + 5) with
        | some h => (s.storeRw (a + 4) h).setShadow acc (a + 5) none
        | none => s
      t.storeRw a v
    | .counter => s
    | .counterRW =>
      if a % 8 = 4 then s.setShadow acc (a + 1) (some v)
      else
        let hi := match s.shadow acc (a + 5) with
          | some h => h.toNat % 65536
          | none => s.ctr a / 2 ^ 32
        { s.setShadow acc (a + 5) none with ctrs := s.ctrs.set a (hi * 2 ^ 32 + v.toNat) }

/-- A register of a sub-port that names no port in its group's mode (R229). -/
def State.subPortAbsent (s : State) (a : Nat) : Bool :=
  let g := (a - 0x100000) / 0x4000
  let o := (a - 0x100000) % 0x4000
  let u := (o - 0x1000) / 0x200
  0x100000 ≤ a && a < 0x150000 && 0x1000 ≤ o && o < 0x2000 && ((16 ≤ g && u != 0) || !s.portExists (portOf g u))

/-- Writes with an action of their own, GLB to CLK. -/
def writeBoard (s : State) (a : Nat) (v : Word) : Option State :=
  if a = Reg.glbSelftestCmd then some (writeSelftest s v)
  else if a = Reg.glbTestLock then some (writeTestLock s v)
  else if a = Reg.ssvShedClr then some (writeShedClr s v)
  else if a = Reg.ssvFuseRearm then some (writeFuseRearm s v)
  else if a = Reg.ssvThrottle then some (writeThrottle s v)
  else if a = Reg.ssvAtbSel 0 then some (writeAtbSel s 0 v)
  else if a = Reg.ssvAtbSel 1 then some (writeAtbSel s 1 v)
  else if a = Reg.bootSvnRaise then some (writeSvnRaise s v)
  else if a = Reg.bootKeyRevoke then some (writeKeyRevoke s v)
  else if a = Reg.bootConfirm then some (writeConfirm s v)
  else if a = Reg.bootRestart then some (writeRestart s v)
  else if a = Reg.bootSyswd then some (writeSyswd s v)
  else if a = Reg.bootSyswdKick then some (writeSyswdKick s v)
  else if a = Reg.clkPgGate then some (writePgGate s v)
  else if a = Reg.clkMeasCmd then some (writeMeasCmd s v)
  else none

/-- Writes with an action of their own, port groups. -/
def writePorts (s : State) (a : Nat) (v : Word) : Option State :=
  let g := (a - 0x100000) / 0x4000
  let o := (a - 0x100000) % 0x4000
  if s.subPortAbsent a then some s
  else if o = 0 then some (writePgCtrl s g v)
  else if o = 0xC then
    some { s.storeRw a v with portWindow := (s.groupPorts g).foldl (fun w p => windowRearm (windowRearm w p) (200 + p)) s.portWindow }
  else if o = 0x20 then some (writeLoopback g s v)
  else if o = 0x24 then some (writePrbsCtrl g s v)
  else if 0x1000 ≤ o ∧ o < 0x2000 ∧ o % 0x200 = 0 then some (writePortCtrl s (portOf g ((o - 0x1000) / 0x200)) v)
  else none

/-- Writes with an action of their own, HDG, WEIR and EMT. -/
def writeTables (acc : Nat) (s : State) (a : Nat) (v : Word) : Option State :=
  if a = Reg.hdgCtrl then some (writeHdgCtrl s v)
  else if a = Reg.hdgUcCmd then some (writeUcCmd s v)
  else if Reg.hdgMalCtrl 0 ≤ a ∧ a ≤ Reg.hdgMalCtrl 20 ∧ a % 0x1000 = 0 then
    some { s.storeRw a v with hdg.malWindow := windowRearm s.hdg.malWindow ((a - Reg.hdgMalCtrl 0) / 0x1000) }
  else if a = Reg.weirCtrl then some (writeWeirCtrl s v)
  else if a = Reg.weirCmd then some (writeWeirCmd s v)
  else if Reg.weirMissAd 0 ≤ a ∧ a < Reg.weirMissAd 3 then some (s.setShadow acc a (some v))
  else if a = Reg.weirMissAd 3 then some (writeMissAd3 acc s v)
  else if Reg.weirProfA 0 ≤ a ∧ a < Reg.weirProfA 256 then
    let p := (a - Reg.weirProfA 0) / 16
    if a % 16 = 0 then some (writeProfA acc p s v)
    else some (s.setShadow acc a (some (v &&& 0x7F7F7F7F#32)))
  else if a = Reg.emtCmd then some (writeEmtCmd s v)
  else if a = Reg.emtLqPop then some (writeLqPop s v)
  else none

/-- Writes with an action of their own, DSP to FLE. -/
def writeEngines (s : State) (a : Nat) (v : Word) : Option State :=
  if Reg.dspClAlarm 0 ≤ a ∧ a ≤ Reg.dspClAlarm 15 ∧ a % 0x40 = 8 then
    some { s.storeRw a v with dsp.missWindow := windowRearm s.dsp.missWindow ((a - Reg.dspClAlarm 0) / 0x40) }
  else if Reg.flmCeCtrl 0 0 ≤ a ∧ a < Reg.flmCeCtrl 0 4 ∧ a % 8 = 0 then some (writeCeCtrl ((a - Reg.flmCeCtrl 0 0) / 8) s v)
  else if 0x300000 ≤ a ∧ a < 0x400000 then
    let cl := (a - 0x300000) / 0x10000
    match a % 0x10000 with
    | 0x10C => some { s.storeRw a v with flume.faultWindow := windowRearm s.flume.faultWindow cl }
    | 0x124 => some (writePsData cl s v)
    | 0x12C => some (writeShmData cl s v)
    | _ => none
  else if a = Reg.fleSweepCmd then some (writeSweepCmd s v)
  else if a = Reg.fleSweepAbort then some (writeSweepAbort s v)
  else if a = Reg.fleExpFormat ∨ a = Reg.fleExpOut ∨ a = Reg.fleExpUtc then some ((expWritten s a).storeRw a v)
  else if Reg.fleFsAlarm 0 ≤ a ∧ a ≤ Reg.fleFsAlarm 15 ∧ (a - Reg.fleFsAlarm 0) % 0x80 = 0 then
    some { s.storeRw a v with flow.evictWindow := windowRearm s.flow.evictWindow ((a - Reg.fleFsAlarm 0) / 0x80) }
  else none

/-- Writes with an action of their own, QM to SCH. -/
def writeSwitch (acc : Nat) (s : State) (a : Nat) (v : Word) : Option State :=
  if a = Reg.qmMcCmd then some (writeMcCmd s v)
  else if 0x481000 ≤ a ∧ a < 0x481000 + 0x40 * 134 ∧ a % 0x40 < 48 then
    some (qcfgWritten (s.storeRw a v) ((a - 0x481000) / 0x40) (a % 0x40 / 4))
  else if a = Reg.bpmCmd then some (writeBpmCmd s v)
  else if Reg.schSluiceRate 0 ≤ a ∧ a < Reg.schSluiceRate 2278 then
    let i := (a - Reg.schSluiceRate 0) / 16
    match a % 16 with
    | 0 => some (holdSluice s i false v)
    | 4 => some (holdSluice s i true v)
    | _ => some s
  else if 0x500000 ≤ a ∧ a < 0x580000 then some (schWritten s (s.plainWrite acc a v) a)
  else none

/-- Writes with an action of their own, TB to DMA. -/
def writeTimeMem (s : State) (a : Nat) (v : Word) : Option State :=
  if a = Reg.tbCtrl then some (writeTbCtrl s v)
  else if a = Reg.tbServo then some (writeTbServo s v)
  else if a = Reg.tbCmd then some (writeTbCmd s v)
  else if a = Reg.eccScrubCmd then some (writeScrubCmd s v)
  else if a = Reg.eccScrubAbort then some (writeScrubAbort s v)
  else if chDescLocked s a then some s
  else if Reg.dmaChCfg 0 ≤ a ∧ a < Reg.dmaChCfg 32 ∧ a % 0x40 = 0xC then some (writeChCmd ((a - Reg.dmaChCfg 0) / 0x40) s v)
  else none

/-- Writes with an action of their own, EVC to STK. -/
def writeCtrl (s : State) (a : Nat) (v : Word) : Option State :=
  if a = Reg.evcSet then some (writeEvcSet s v)
  else if a = Reg.pmcCmd then some (writePmcCmd s v)
  else if a = Reg.pmcBwCtrl then some (writeBwCtrl s v)
  else if 0x780000 ≤ a ∧ a < 0x7C0000 then some (stkWritten (s.storeRw a v) a)
  else none

/-- A write that reaches its register. -/
def State.writeReg (s : State) (acc a : Nat) (v : Word) : State :=
  let own :=
    if a < 0x100000 then writeBoard s a v
    else if a < 0x180000 then writePorts s a v
    else if a < 0x280000 then writeTables acc s a v
    else if a < 0x480000 then writeEngines s a v
    else if a < 0x580000 then writeSwitch acc s a v
    else if a < 0x700000 then writeTimeMem s a v
    else writeCtrl s a v
  limitWritten (own.getD (s.plainWrite acc a v)) a

/-- A register write by an accessor (R167, R169, R871). -/
def State.busWrite (s : State) (acc a : Nat) (v : Word) : State :=
  match s.reach acc a with
  | .ok => s.writeReg acc (canonAddr a) v
  | .silent => s
  | .error k => s.accErr acc a k true

/-! ### Commands -/

/-- A write by an accessor (R178). -/
def execRegisterWrite (acc addr : Nat) (v : Word) (s : State) : Out :=
  whenWf (acc < 7 && addr % 4 == 0 && addr < 0x1000000)
    (.next (if s.busHeld acc then s else s.busWrite acc addr v))

/-- A read by an accessor, with the value it received kept as its last. -/
def State.readInto (s : State) (acc a : Nat) : State :=
  let r := s.busRead acc a
  { r.2 with rdData := r.2.rdData.set acc r.1 }

/-- A read by an accessor (R169). -/
def execRegisterRead (acc addr : Nat) (s : State) : Out :=
  whenWf (acc < 7 && addr % 4 == 0 && addr < 0x1000000)
    (.next (if s.busHeld acc then s else s.readInto acc addr))

/-- A write of FLM.CE_CTRL (R412). -/
def execCeRunWrite (acc k : Nat) (v : Word) (s : State) : Out :=
  writeRow (acc < 7 && k < 4) acc (Reg.flmCeCtrl 0 k) true (fun t => writeCeCtrl k t v) s

/-- A write of FLM.PS_DATA (R410). -/
def execPsDataWrite (acc cluster : Nat) (v : Word) (s : State) : Out :=
  writeRow (acc < 7 && cluster < 16) acc (Reg.flmPsData cluster) true (fun t => writePsData cluster t v) s

/-- An access of FLM.SHM_DATA (R415): a write, or a read. -/
def execShmDataAccess (acc cluster : Nat) (store : Option Word) (s : State) : Out :=
  whenWf (acc < 7 && cluster < 16)
    (.next (if s.busHeld acc then s else
      match store with
      | some v => s.busWrite acc (Reg.flmShmData cluster) v
      | none => s.readInto acc (Reg.flmShmData cluster)))

end Sys2Proof.Machine
end

