-- ==== Sys2Proof/Machine/FlumeMem.lean ====
section
/-! DEFINITION. The memory instructions LD, LDC, ST, STC and FADD (R434–R440), on packet engines and on control
engines. -/
namespace Sys2Proof.Machine

/-! ### Packet engines -/

/-- The context a thread runs. -/
def State.ctxOf (s : State) (cl e th : Nat) : Nat := ((s.thr cl e th).ctx).getD 0

/-- A cluster-shared load counted for the engine's counters (R830). -/
def State.shmEvent (s : State) (cl e th a : Nat) : State := if peSpace a == .shared then s.engEvent cl e th 6 else s

/-- A packet-engine load at `x` into the slot numbered `slot`, from the stack `ds` (R381, R384, R437). -/
def peLoadBody (cl e th x width slot : Nat) (ds : List Word) (s : State) (a : Arch) : Except (Nat × Nat) Done :=
  match peCheck x width false with
  | some f => .error f
  | none => .ok { s := s.shmEvent cl e th x, a := { a with ds := ds }
                  load := some { slot := slot, value := s.peLoad cl (s.ctxOf cl e th) x width, arrived := peSpace x != .shared } }

/-- A packet-engine store, leaving the stack `ds`. -/
def peStoreBody (cl e th x width : Nat) (v : Word) (ds : List Word) (s : State) (a : Arch) : Except (Nat × Nat) Done :=
  match peCheck x width true with
  | some f => .error f
  | none => .ok { s := s.peStore cl (s.ctxOf cl e th) x width v, a := { a with ds := ds } }

/-! ### Control engines (R163, R166, R400–R406, R435) -/

/-- Checks 9 and 10 of R421 for a control-engine access. -/
def ceCheck (x width : Nat) : Option (Nat × Nat) :=
  if x % width ≠ 0 then some (4, 0)
  else if x < 0x1000000 then (if width = 4 then none else some (4, 0))
  else if memMapped x then none else some (5, 0)

/-- Address an LDC or STC names on control engine `k`: its own local memory. -/
def localAddr (k ofs : Nat) : Nat := 0x1000000 + k * 0x400000 + ofs

/-- A control-engine load: local memory and cache hits are there at once, a register read and a cache miss arrive later. -/
def ceLoadBody (k x width slot : Nat) (ds : List Word) (s : State) (a : Arch) : Except (Nat × Nat) Done :=
  match ceCheck x width with
  | some f => .error f
  | none =>
    let c := s.ce k
    let load := fun (v : Nat) => some { slot := slot, value := BitVec.ofNat 32 v : PendingLoad }
    if x < 0x1000000 then
      let r := s.busRead k x
      .ok { s := r.2, a := { a with ds := ds }, load := some { slot := slot, value := r.1, arrived := false } }
    else if inLocal x then
      .ok { s := s, a := { a with ds := ds }, load := load (leNat ((List.range width).map fun i => s.ceByte c (x + i))) }
    else
      match c.lineOf x with
      | some l => .ok { s := s.setCe k (c.touch l.line), a := { a with ds := ds }, load := load (leNat (slice l.data (x % 64) width)) }
      | none =>
        let n := c.uses + 1
        .ok { s := s.setCe k { c with uses := n, misses := c.misses ++ [{ addr := x, width := width, tag := n }] }
              a := { a with ds := ds }, load := some { slot := slot, arrived := false, tag := n } }

/-- A control-engine store: to the register space, to the write buffer, or into the data cache. -/
def ceStoreBody (k x width : Nat) (v : Word) (ds : List Word) (s : State) (a : Arch) : Except (Nat × Nat) Done :=
  match ceCheck x width with
  | some f => .error f
  | none =>
    let c := s.ce k
    let bs := leBytes v.toNat width
    if x < 0x1000000 then .ok { s := s.busWrite k x v, a := { a with ds := ds } }
    else if inLocal x then .ok { s := s.setCe k { c with wb := c.wb ++ [{ addr := x, data := bs }] }, a := { a with ds := ds } }
    else
      match c.lineOf x with
      | some l =>
        let c := c.touch l.line
        .ok { s := s.setCe k { c with cache := c.cache.map fun m => if m.line = l.line then storeLine m x bs else m }
              a := { a with ds := ds } }
      | none => .ok { s := s.setCe k { c with misses := c.misses ++ [{ addr := x, width := width, store := some bs }] }
                      a := { a with ds := ds } }

/-- Whether a control engine's access waits before it issues: a register access for the write buffer to drain (R406), a
local store for room in it (R405). -/
def Ce.holds (c : Ce) (x width : Nat) (store : Bool) : Bool :=
  (ceCheck x width).isNone && ((x < 0x1000000 && !c.wb.isEmpty) || (store && inLocal x && decide (16 ≤ c.wb.length)))

/-! ### The instructions -/

/-- The code point of a memory instruction: its class, with W = 3 left to the undefined code points (R424). -/
def memSpec (cls pops pushes : Nat) : OpSpec := { mask := 0xF000, pat := cls * 0x1000, resv := 0, pops := pops, pushes := pushes }

/-- Issue of a memory instruction: a word with W = 3 is not this instruction, and a control engine's access that must
wait does not issue yet. -/
def issueMem (w : Who) (o : OpSpec) (s : State) (held : Ce → Arch → Nat → Bool) (body : Body) : Out :=
  let a := s.arch w
  let i := s.instrAt w a.pc
  if !w.wf then .fault .illFormed
  else if i / 0x400 % 4 = 3 then .next s
  else
    let waits := match w with
      | .pe _ _ _ => false
      | .ce k => (o.check w a i).isNone && held (s.ce k) a i
    if waits then .next s else issue w o s body

/-- The address of LD and ST (R435). -/
def ldAddr (w : Who) (s : State) (a : Arch) (i : Nat) : Nat :=
  match w with
  | .pe _ _ _ => dispAddr (nth a.ds 0) i
  | .ce k => segAddr (s.ce k).seg (dispAddr (nth a.ds 0) i)

/-- LD ( a -- v ): the slot keeps the address until the delay slot has completed (R386). -/
def execLd (w : Who) (s : State) : Out :=
  issueMem w (memSpec 4 1 1) s (fun c a i => c.holds (segAddr c.seg (dispAddr (nth a.ds 0) i)) (widthOf i) false) fun t a i =>
    match w with
    | .pe cl e th => peLoadBody cl e th (ldAddr w t a i) (widthOf i) (a.ds.length - 1) a.ds t a
    | .ce k => ceLoadBody k (ldAddr w t a i) (widthOf i) (a.ds.length - 1) a.ds t a

/-- LDC ( -- v ): the new top slot shows OFS until the delay slot has completed (R436). -/
def execLdc (w : Who) (s : State) : Out :=
  issueMem w (memSpec 5 0 1) s (fun _ _ _ => false) fun t a i =>
    let ds := BitVec.ofNat 32 (dispOf i) :: a.ds
    match w with
    | .pe cl e th => peLoadBody cl e th (dispOf i) (widthOf i) a.ds.length ds t a
    | .ce k => ceLoadBody k (localAddr k (dispOf i)) (widthOf i) a.ds.length ds t a

/-- ST ( v a -- ). -/
def execSt (w : Who) (s : State) : Out :=
  issueMem w (memSpec 6 2 0) s (fun c a i => c.holds (segAddr c.seg (dispAddr (nth a.ds 0) i)) (widthOf i) true) fun t a i =>
    match w with
    | .pe cl e th => peStoreBody cl e th (ldAddr w t a i) (widthOf i) (nth a.ds 1) (a.ds.drop 2) t a
    | .ce k => ceStoreBody k (ldAddr w t a i) (widthOf i) (nth a.ds 1) (a.ds.drop 2) t a

/-- STC ( v -- ). -/
def execStc (w : Who) (s : State) : Out :=
  issueMem w (memSpec 7 1 0) s
    (fun c _ i => match w with
      | .ce k => c.holds (localAddr k (dispOf i)) (widthOf i) true
      | .pe _ _ _ => false) fun t a i =>
    match w with
    | .pe cl e th => peStoreBody cl e th (dispOf i) (widthOf i) (nth a.ds 0) (a.ds.drop 1) t a
    | .ce k => ceStoreBody k (localAddr k (dispOf i)) (widthOf i) (nth a.ds 0) (a.ds.drop 1) t a

/-- FADD's code point. -/
def specFadd : OpSpec := { pat := 0x0040, pops := 2, pushes := 1 }

/-- FADD on cluster-shared memory (R438, R439). -/
def peFaddBody (cl e th x : Nat) (addend : Word) (s : State) (a : Arch) : Except (Nat × Nat) Done :=
  if x % 4 ≠ 0 then .error (4, 0)
  else if peSpace x != .shared then .error (5, 0)
  else
    let old := s.peLoad cl 0 x 4
    .ok { s := (s.peStore cl 0 x 4 (old + addend)).engEvent cl e th 6, a := { a with ds := a.ds.drop 1 }
          load := some { slot := a.ds.length - 2, value := old, arrived := false } }

/-- FADD on local memory: the engine's own buffered stores have gone before it, and read and write are one access. -/
def ceFaddBody (k x : Nat) (addend : Word) (s : State) (a : Arch) : Except (Nat × Nat) Done :=
  if x % 4 ≠ 0 then .error (4, 0)
  else if !inLocal x then .error (5, 0)
  else
    let c := s.ce k
    let t := (c.wb.foldl (fun t e => t.stBytes e.addr e.data) s).setCe k { c with wb := [] }
    let old := BitVec.ofNat 32 (leNat (t.ldBytes x 4))
    .ok { s := t.stBytes x (leBytes (old + addend).toNat 4), a := { a with ds := a.ds.drop 1 }
          load := some { slot := a.ds.length - 2, value := old } }

/-- FADD ( x a -- old ) (R438, R439). -/
def execFadd (w : Who) (s : State) : Out := issue w specFadd s fun t a _ =>
  match w with
  | .pe cl e th => peFaddBody cl e th (nth a.ds 0).toNat (nth a.ds 1) t a
  | .ce k => ceFaddBody k (segAddr (t.ce k).seg (nth a.ds 0).toNat) (nth a.ds 1) t a

end Sys2Proof.Machine
end

