-- ==== Sys2Proof/Machine/Capture.lean ====
section
/-! DEFINITION. The capture of a fault stop and its close (R146–R149, R753, R754, R877). -/
namespace Sys2Proof.Machine

/-- What a block's capture segment holds: its base, ranges of offsets (first, last), single offsets after them, the
diagnostic select and data offsets, and the selections read through them. -/
structure Segment where
  base : Nat
  ranges : List (Nat × Nat)
  extra : List Nat := []
  sel : Nat := 0
  data : Nat := 0
  sels : List Nat := []
  deriving DecidableEq, Repr, Inhabited

/-- Selections of `n` things and `items` items, the item at bit `k`. -/
def diagSels (n items k : Nat) : List Nat :=
  (List.range n).flatMap fun i => (List.range items).map fun j => i + j * 2 ^ k

/-- Offsets of `n` words at each of `m` strides. -/
def offsets2 (base stride m n : Nat) : List Nat :=
  (List.range m).flatMap fun i => (List.range n).map fun j => base + stride * i + 4 * j

/-- The segment of a block (R149 and the chapters that own the blocks). -/
def segmentOf (base : Nat) : Segment :=
  if 0x300000 ≤ base ∧ base < 0x400000 then
    { base := base, ranges := [(0x100, 0x134)], sel := 0x130, data := 0x134
      sels := (List.range 128).flatMap fun i => (List.range 4).map fun j => i / 8 * 16 + i % 8 + j * 256 }
  else if base = 0x400000 then
    { base := base, ranges := [(0, 0x134), (0x1000, 0x1094), (0x1400, 0x1BFC)], sel := 0x40, data := 0x44, sels := diagSels 8192 2 16 }
  else if base = 0x280000 then { base := base, ranges := [(0, 0x34)], sel := 0x30, data := 0x34, sels := diagSels 8192 4 16 }
  else if base = 0x480000 then { base := base, ranges := [(0, 0x28F)], extra := offsets2 0x4000 0x40 134 12 }
  else if base = 0x4C0000 then { base := base, ranges := [(0, 0x1FF)], extra := offsets2 0x4000 0x20 64 5 }
  else if base = 0x500000 then { base := base, ranges := [(0, 0x13C)], extra := (List.range 2278).map fun i => 0x10008 + 16 * i }
  else if base = 0x580000 then { base := base, ranges := [(0, 0x8C)] }
  else if 0x600000 ≤ base ∧ base < 0x640000 then
    { base := base, ranges := [(0, 0x14)], sel := 0x10, data := 0x14
      sels := (List.range 768).flatMap fun i => (List.range 2).map fun j => i / 24 + i % 24 * 32 + j * 4096 }
  else if base = 0x680000 then { base := base, ranges := [(0, 0x238)] }
  else if base = 0x740000 then { base := base, ranges := [(0, 0x3F), (0x800, 0x8FF)] }
  else if base = 0x700000 then { base := base, ranges := [(0x800, 0xC27)] }
  else if base = 0x180000 then
    { base := base, ranges := [(0, 0x7FFFF)], sel := 0x40, data := 0x44
      sels := (List.range 160).flatMap fun i => (List.range 6).map fun j => i + j * 256 }
  else if 0x100000 ≤ base ∧ base < 0x150000 then { base := base, ranges := [(0, 0x3FFF)] }
  else { base := base, ranges := [(0, 0xFFFF)] }

/-- Offsets of a range that are registers of the block. -/
def regOffsets (base lo hi : Nat) : List Nat :=
  (((List.range (hi / 4 + 1)).map fun i => 4 * i).filter fun o => lo ≤ o && (regAt (base + o)).isSome)

/-- One pair of a segment. -/
def pairBytes (o : Nat) (v : Word) : List Byte := leBytes o 4 ++ leBytes v.toNat 4

/-- The pairs of a segment. -/
def State.segmentPairs (s : State) (g : Segment) : List Byte :=
  (g.ranges.flatMap fun r => (regOffsets g.base r.1 r.2).flatMap fun o => pairBytes o (s.cur (g.base + o))) ++
  (g.extra.flatMap fun o => pairBytes o (s.cur (g.base + o))) ++
  (g.sels.flatMap fun k => pairBytes g.data ((s.wr (g.base + g.sel) (BitVec.ofNat 32 k)).cur (g.base + g.data)))

/-- A segment: base, byte count, pairs. -/
def segmentBytes (base : Nat) (p : List Byte) : List Byte := leBytes base 4 ++ leBytes p.length 4 ++ p

/-- The segments that `k` bytes take, the last of them cut at a whole pair. -/
def packSegments : Nat → List (Nat × List Byte) → List Byte
  | _, [] => []
  | k, (base, p) :: r =>
    if 8 + p.length ≤ k then segmentBytes base p ++ packSegments (k - (8 + p.length)) r
    else if 16 ≤ k then segmentBytes base (p.take ((k - 8) / 8 * 8))
    else []

/-- Blocks in the order of R149, the detecting block first and not again. -/
def captureOrder (detect : Nat) (stack : Option Nat) : List Nat :=
  let dmc := fun n => 0x600000 + 0x10000 * n
  let rest := (match stack with | some n => [dmc n] | none => []) ++ [0x400000, 0x280000] ++
    (List.range 16).map (fun n => 0x300000 + 0x10000 * n) ++
    ((List.range 4).filter fun n => stack != some n).map dmc ++ [0x480000, 0x4C0000, 0x700000, 0x580000]
  detect :: rest.filter fun b => b != detect

/-- The stack whose read failed, from the summary's cause and failing address. -/
def State.failingStack (s : State) : Option Nat := if s.ret 0x200 1 = 2 then some ((dramMap (s.ret 0x20C 8)).chan / 32) else none

/-- The segments to capture, in order. -/
def State.captureSegments (s : State) : List (Nat × List Byte) :=
  (captureOrder (s.ret 0x204 4) s.failingStack).map fun b => (b, s.segmentPairs (segmentOf b))

/-- The capture list in at most `k` bytes: segments as far as they fit, and the base that ends the list. -/
def State.captureList (s : State) (k : Nat) : List Byte := packSegments (k - 4) s.captureSegments ++ leBytes 0xFFFFFFFF 4

/-- Bytes of the whole list. -/
def State.captureSize (s : State) : Nat := (s.captureSegments.map fun e => 8 + e.2.length).sum + 4

/-- The capture area filled with what `n` bytes of time allowed; TRUNCATED where the area's end came first (R161). -/
def State.writeCapture (s : State) (n ns : Nat) : State :=
  let l := s.captureList (min n 61440)
  let m := putBytes (clearRange s.aon.retention 0x1000 61440) 0x1000 l
  let t := (({ s with aon.retention := m }.setRet 0x220 4 l.length).setRet 0x224 4 ns)
  t.setRetFlag retTruncated (decide (61440 < s.captureSize) && decide (61440 ≤ n))

/-- The end of a fault stop: the capture closed, what the controllers and caches held discarded, the stacks in
self-refresh, the core reset; after a coincident brown-out or thermal stop the core waits for R76 (R146–R148). -/
def State.closeStop (s : State) (n ns : Nat) : State :=
  let s := if s.boot.capturing then s.writeCapture n ns else s
  s.discardQueued.holdDram.coreReset .held

/-- A fault stop's capture is closed. -/
def execFaultCaptureClose (captureBytes captureNs : Nat) (s : State) : Out :=
  occurs s (s.boot.stop == .fault && s.boot.core == .running) (s.closeStop captureBytes captureNs)

end Sys2Proof.Machine
end

