-- ==== Sys2Proof/Machine/Crypto.lean ====
section
/-! DEFINITION. The two published algorithms the spec names and does not repeat: SHA-256 (with SHA-512, which Ed25519
needs) as FIPS 180-4 gives them, and pure Ed25519 verification as RFC 8032 gives it (R125, R126, R143, R845). -/
namespace Sys2Proof.Machine

/-! ### SHA-2 (FIPS 180-4) -/

/-- What distinguishes SHA-256 from SHA-512: word size in bits, the rotations of the four sigma functions (the last of
each small one being a shift), the round constants and the initial hash value. -/
structure Sha where
  bits : Nat
  big0 : Nat × Nat × Nat
  big1 : Nat × Nat × Nat
  small0 : Nat × Nat × Nat
  small1 : Nat × Nat × Nat
  consts : List Nat
  init : List Nat

/-- A word rotated right. -/
def Sha.rotr (h : Sha) (x n : Nat) : Nat := x / 2 ^ n + x % 2 ^ n * 2 ^ (h.bits - n)

/-- The functions Σ: three rotations. -/
def Sha.big (h : Sha) (r : Nat × Nat × Nat) (x : Nat) : Nat :=
  Nat.xor (Nat.xor (h.rotr x r.1) (h.rotr x r.2.1)) (h.rotr x r.2.2)

/-- The functions σ: two rotations and a shift. -/
def Sha.small (h : Sha) (r : Nat × Nat × Nat) (x : Nat) : Nat :=
  Nat.xor (Nat.xor (h.rotr x r.1) (h.rotr x r.2.1)) (x / 2 ^ r.2.2)

/-- The message schedule, the last word first, `n` words more. -/
def Sha.schedule (h : Sha) : Nat → List Nat → List Nat
  | 0, w => w
  | n + 1, w => h.schedule n
      ((h.small h.small1 (w.getD 1 0) + w.getD 6 0 + h.small h.small0 (w.getD 14 0) + w.getD 15 0) % 2 ^ h.bits :: w)

/-- The working variables a to h. -/
structure ShaVars where
  a : Nat
  b : Nat
  c : Nat
  d : Nat
  e : Nat
  f : Nat
  g : Nat
  h : Nat

/-- One round with its constant and its word. -/
def Sha.round (h : Sha) (v : ShaVars) (k w : Nat) : ShaVars :=
  let t1 := v.h + h.big h.big1 v.e + Nat.xor (Nat.land v.e v.f) (Nat.land (2 ^ h.bits - 1 - v.e) v.g) + k + w
  let t2 := h.big h.big0 v.a + Nat.xor (Nat.xor (Nat.land v.a v.b) (Nat.land v.a v.c)) (Nat.land v.b v.c)
  ⟨(t1 + t2) % 2 ^ h.bits, v.a, v.b, v.c, (v.d + t1) % 2 ^ h.bits, v.e, v.f, v.g⟩

/-- The hash value after one block of words. -/
def Sha.block (h : Sha) (v : ShaVars) (ws : List Nat) : ShaVars :=
  let w := (h.schedule (h.consts.length - 16) ws.reverse).reverse
  let u := (h.consts.zip w).foldl (fun u e => h.round u e.1 e.2) v
  let add := fun x y => (x + y) % 2 ^ h.bits
  ⟨add u.a v.a, add u.b v.b, add u.c v.c, add u.d v.d, add u.e v.e, add u.f v.f, add u.g v.g, add u.h v.h⟩

/-- The big-endian words of the bytes, `n` of them. -/
def Sha.words (h : Sha) : Nat → List Byte → List Nat
  | 0, _ => []
  | n + 1, bs => beNat (bs.take (h.bits / 8)) :: h.words n (bs.drop (h.bits / 8))

/-- The hash value after `n` blocks. -/
def Sha.blocks (h : Sha) : Nat → ShaVars → List Byte → ShaVars
  | 0, v, _ => v
  | n + 1, v, bs => h.blocks n (h.block v (h.words 16 bs)) (bs.drop (2 * h.bits))

/-- The padding of a message: a one bit, zeros, and its length in bits in a double word. -/
def Sha.pad (h : Sha) (len : Nat) : List Byte :=
  0x80 :: (List.replicate ((4 * h.bits - 1 - h.bits / 4 - len % (2 * h.bits)) % (2 * h.bits)) 0 ++ beBytes (8 * len) (h.bits / 4))

/-- The digest, as the number its bytes spell, first byte first. -/
def Sha.digest (h : Sha) (m : List Byte) : Nat :=
  let bs := m ++ h.pad m.length
  let i := fun k => h.init.getD k 0
  let v := h.blocks (bs.length / (2 * h.bits)) ⟨i 0, i 1, i 2, i 3, i 4, i 5, i 6, i 7⟩ bs
  [v.a, v.b, v.c, v.d, v.e, v.f, v.g, v.h].foldl (fun n x => n * 2 ^ h.bits + x) 0

/-- The round constants of SHA-256. -/
def sha256Consts : List Nat :=
  [0x428a2f98, 0x71374491, 0xb5c0fbcf, 0xe9b5dba5, 0x3956c25b, 0x59f111f1, 0x923f82a4, 0xab1c5ed5] ++
  [0xd807aa98, 0x12835b01, 0x243185be, 0x550c7dc3, 0x72be5d74, 0x80deb1fe, 0x9bdc06a7, 0xc19bf174] ++
  [0xe49b69c1, 0xefbe4786, 0x0fc19dc6, 0x240ca1cc, 0x2de92c6f, 0x4a7484aa, 0x5cb0a9dc, 0x76f988da] ++
  [0x983e5152, 0xa831c66d, 0xb00327c8, 0xbf597fc7, 0xc6e00bf3, 0xd5a79147, 0x06ca6351, 0x14292967] ++
  [0x27b70a85, 0x2e1b2138, 0x4d2c6dfc, 0x53380d13, 0x650a7354, 0x766a0abb, 0x81c2c92e, 0x92722c85] ++
  [0xa2bfe8a1, 0xa81a664b, 0xc24b8b70, 0xc76c51a3, 0xd192e819, 0xd6990624, 0xf40e3585, 0x106aa070] ++
  [0x19a4c116, 0x1e376c08, 0x2748774c, 0x34b0bcb5, 0x391c0cb3, 0x4ed8aa4a, 0x5b9cca4f, 0x682e6ff3] ++
  [0x748f82ee, 0x78a5636f, 0x84c87814, 0x8cc70208, 0x90befffa, 0xa4506ceb, 0xbef9a3f7, 0xc67178f2]

/-- SHA-256. -/
@[irreducible] def sha256 (m : List Byte) : Nat :=
  Sha.digest
    { bits := 32, big0 := (2, 13, 22), big1 := (6, 11, 25), small0 := (7, 18, 3), small1 := (17, 19, 10), consts := sha256Consts
      init := [0x6a09e667, 0xbb67ae85, 0x3c6ef372, 0xa54ff53a, 0x510e527f, 0x9b05688c, 0x1f83d9ab, 0x5be0cd19] } m

/-- The round constants of SHA-512. -/
def sha512Consts : List Nat :=
  [0x428a2f98d728ae22, 0x7137449123ef65cd, 0xb5c0fbcfec4d3b2f, 0xe9b5dba58189dbbc] ++
  [0x3956c25bf348b538, 0x59f111f1b605d019, 0x923f82a4af194f9b, 0xab1c5ed5da6d8118] ++
  [0xd807aa98a3030242, 0x12835b0145706fbe, 0x243185be4ee4b28c, 0x550c7dc3d5ffb4e2] ++
  [0x72be5d74f27b896f, 0x80deb1fe3b1696b1, 0x9bdc06a725c71235, 0xc19bf174cf692694] ++
  [0xe49b69c19ef14ad2, 0xefbe4786384f25e3, 0x0fc19dc68b8cd5b5, 0x240ca1cc77ac9c65] ++
  [0x2de92c6f592b0275, 0x4a7484aa6ea6e483, 0x5cb0a9dcbd41fbd4, 0x76f988da831153b5] ++
  [0x983e5152ee66dfab, 0xa831c66d2db43210, 0xb00327c898fb213f, 0xbf597fc7beef0ee4] ++
  [0xc6e00bf33da88fc2, 0xd5a79147930aa725, 0x06ca6351e003826f, 0x142929670a0e6e70] ++
  [0x27b70a8546d22ffc, 0x2e1b21385c26c926, 0x4d2c6dfc5ac42aed, 0x53380d139d95b3df] ++
  [0x650a73548baf63de, 0x766a0abb3c77b2a8, 0x81c2c92e47edaee6, 0x92722c851482353b] ++
  [0xa2bfe8a14cf10364, 0xa81a664bbc423001, 0xc24b8b70d0f89791, 0xc76c51a30654be30] ++
  [0xd192e819d6ef5218, 0xd69906245565a910, 0xf40e35855771202a, 0x106aa07032bbd1b8] ++
  [0x19a4c116b8d2d0c8, 0x1e376c085141ab53, 0x2748774cdf8eeb99, 0x34b0bcb5e19b48a8] ++
  [0x391c0cb3c5c95a63, 0x4ed8aa4ae3418acb, 0x5b9cca4f7763e373, 0x682e6ff3d6b2b8a3] ++
  [0x748f82ee5defb2fc, 0x78a5636f43172f60, 0x84c87814a1f0ab72, 0x8cc702081a6439ec] ++
  [0x90befffa23631e28, 0xa4506cebde82bde9, 0xbef9a3f7b2c67915, 0xc67178f2e372532b] ++
  [0xca273eceea26619c, 0xd186b8c721c0c207, 0xeada7dd6cde0eb1e, 0xf57d4f7fee6ed178] ++
  [0x06f067aa72176fba, 0x0a637dc5a2c898a6, 0x113f9804bef90dae, 0x1b710b35131c471b] ++
  [0x28db77f523047d84, 0x32caab7b40c72493, 0x3c9ebe0a15c9bebc, 0x431d67c49c100d4c] ++
  [0x4cc5d4becb3e42b6, 0x597f299cfc657e2a, 0x5fcb6fab3ad6faec, 0x6c44198c4a475817]

/-- SHA-512. -/
@[irreducible] def sha512 (m : List Byte) : Nat :=
  Sha.digest
    { bits := 64, big0 := (28, 34, 39), big1 := (14, 18, 41), small0 := (1, 8, 7), small1 := (19, 61, 6), consts := sha512Consts
      init := [0x6a09e667f3bcc908, 0xbb67ae8584caa73b, 0x3c6ef372fe94f82b, 0xa54ff53a5f1d36f1] ++
        [0x510e527fade682d1, 0x9b05688c2b3e6c1f, 0x1f83d9abfb41bd6b, 0x5be0cd19137e2179] } m

/-! ### Ed25519 (RFC 8032) -/

/-- The prime of the field. -/
def edP : Nat := 2 ^ 255 - 19

/-- The order of the base point. -/
def edL : Nat := 2 ^ 252 + 27742317777372353535851937790883648493

/-- The curve's constant d. -/
def edD : Nat := 0x52036cee2b6ffe738cc740797779e89800700a4d4141d8ab75eb4dca135978a3

/-- A power in the field, of an exponent of at most `n` bits. -/
def edPow : Nat → Nat → Nat → Nat
  | 0, _, _ => 1
  | n + 1, x, e => (if e % 2 = 1 then x else 1) * edPow n (x * x % edP) (e / 2) % edP

/-- A point in extended coordinates. -/
structure EdPoint where
  x : Nat
  y : Nat
  z : Nat
  t : Nat

/-- The neutral point. -/
def EdPoint.zero : EdPoint := ⟨0, 1, 1, 0⟩

/-- The sum of two points. -/
def EdPoint.add (p q : EdPoint) : EdPoint :=
  let a := (p.y + edP - p.x) * (q.y + edP - q.x) % edP
  let b := (p.y + p.x) * (q.y + q.x) % edP
  let c := p.t * 2 * edD * q.t % edP
  let d := p.z * 2 * q.z % edP
  let e := b + edP - a
  let f := d + edP - c
  let g := d + c
  let h := b + a
  ⟨e * f % edP, g * h % edP, f * g % edP, e * h % edP⟩

/-- A multiple of a point, of at most `n` bits. -/
def EdPoint.mul : Nat → Nat → EdPoint → EdPoint
  | 0, _, _ => .zero
  | n + 1, k, p =>
    let q := EdPoint.mul n (k / 2) (p.add p)
    if k % 2 = 1 then p.add q else q

/-- Whether two points are the same. -/
def EdPoint.same (p q : EdPoint) : Bool := p.x * q.z % edP == q.x * p.z % edP && p.y * q.z % edP == q.y * p.z % edP

/-- The base point. -/
def EdPoint.base : EdPoint :=
  let x := 0x216936d3cd6e53fec0a4e231fdd6dc5c692cc7609525a7b2c9562d608f25d51a
  let y := 0x6666666666666666666666666666666666666666666666666666666666666658
  ⟨x, y, 1, x * y % edP⟩

/-- A square root of u/v in the field, where there is one. -/
def edRoot (u v : Nat) : Option Nat :=
  let r := u * edPow 2 v 3 * edPow 252 (u * edPow 3 v 7 % edP) (2 ^ 252 - 3) % edP
  let s := v * r * r % edP
  if s = u % edP then some r
  else if s = (edP - u % edP) % edP then some (r * edPow 253 2 (2 ^ 253 - 5) % edP)
  else none

/-- The point that 32 bytes encode: y, with the sign of x in the top bit. -/
def EdPoint.decode (bs : List Byte) : Option EdPoint :=
  let n := leNat bs
  let y := n % 2 ^ 255
  let sign := n / 2 ^ 255 % 2
  if edP ≤ y then none
  else (edRoot ((y * y + edP - 1) % edP) ((edD * y * y + 1) % edP)).bind fun x =>
    if x = 0 ∧ sign = 1 then none
    else
      let x := if x % 2 = sign then x else edP - x
      some ⟨x, y, 1, x * y % edP⟩

/-- Pure Ed25519 verification of a message's signature under a public key: the group equation of RFC 8032 5.1.7, with its
cofactor. -/
@[irreducible] def ed25519Verify (key msg sig : List Byte) : Bool :=
  match EdPoint.decode (key.take 32), EdPoint.decode (sig.take 32) with
  | some a, some r =>
    let s := leNat (slice sig 32 32)
    let k := leNat (beBytes (sha512 (sig.take 32 ++ key.take 32 ++ msg)) 64) % edL
    decide (s < edL) && EdPoint.same (EdPoint.mul 4 8 (EdPoint.mul 253 s .base)) (EdPoint.mul 4 8 (r.add (EdPoint.mul 253 k a)))
  | _, _ => false

end Sys2Proof.Machine
end

