-- ==== Sys2Proof/Machine/Image.lean ====
section
/-! DEFINITION. The image format and its validation (R117–R128, R227, R319, R320, R488, R686, R724, R769–R771, R841). -/
namespace Sys2Proof.Machine

/-! ### Reading an image slot -/

/-- `n` bytes of the image in a slot. -/
def State.imgBytes (s : State) (slot o n : Nat) : List Byte := getBytes s.flash.bytes (slot * 0x8000000 + o) n

/-- LENGTH. -/
def State.imgLength (s : State) (slot : Nat) : Nat := s.imgNat slot 8 4

/-- An entry of the section table (R120). -/
structure Section where
  kind : Nat
  inst : Nat
  off : Nat
  size : Nat
  crc : Nat
  deriving DecidableEq, Repr, Inhabited

/-- The section table. -/
def State.sections (s : State) (slot : Nat) : List Section :=
  (List.range (min 64 (s.imgNat slot 6 2))).map fun i =>
    let o := 0x40 + 16 * i
    { kind := s.imgNat slot o 2, inst := s.imgNat slot (o + 2) 2, off := s.imgNat slot (o + 4) 4
      size := s.imgNat slot (o + 8) 4, crc := s.imgNat slot (o + 12) 4 }

/-- The sections of a type, in table order. -/
def State.sectionsOf (s : State) (slot kind : Nat) : List Section := (s.sections slot).filter fun x => x.kind == kind

/-- A section's payload. -/
def State.payload (s : State) (slot : Nat) (x : Section) : List Byte := s.imgBytes slot x.off x.size

/-- The payload of the one section of a type, where the image has it. -/
def State.payloadOf (s : State) (slot kind : Nat) : Option (List Byte) := ((s.sectionsOf slot kind).head?).map (s.payload slot)

/-- A little-endian field of a payload. -/
def fieldAt (p : List Byte) (o n : Nat) : Nat := leNat (slice p o n)

/-- Whether `n` bytes of a payload from `o` are zero. -/
def zeroAt (p : List Byte) (o n : Nat) : Bool := fieldAt p o n == 0

/-! ### The section table (codes 0x06, 0x08, 0x09) -/

/-- Whether a section lies within its bounds and is aligned. -/
def Section.inBounds (x : Section) (count len : Nat) : Bool :=
  x.off % 256 == 0 && 0x40 + 16 * count ≤ x.off && x.off + x.size ≤ len - 128

/-- Whether two sections overlap. -/
def Section.meets (x y : Section) : Bool := x.off < y.off + y.size && y.off < x.off + x.size

/-- Whether some two elements of a list are related. -/
def somePair {α : Type} (r : α → α → Bool) : List α → Bool
  | [] => false
  | a :: t => t.any (r a) || somePair r t

/-- Code 0x06. -/
def State.tableBad (s : State) (slot : Nat) : Bool :=
  let n := s.imgNat slot 6 2
  let l := s.sections slot
  n == 0 || 64 < n || l.any (fun x => !x.inBounds n (s.imgLength slot)) || somePair Section.meets l

/-- A repeat that R121 forbids, or a cluster covered twice. -/
def Section.clash (x y : Section) : Bool :=
  x.kind == y.kind &&
    (if x.kind = 0x6 then Nat.land x.inst y.inst != 0
     else if x.kind = 0x3 ∨ x.kind = 0xD then false
     else if x.kind = 0xE then x.inst == y.inst
     else true)

/-- Code 0x08. -/
def State.kindsBad (s : State) (slot : Nat) : Bool :=
  let l := s.sections slot
  l.any (fun x => x.kind == 0 || 0xF ≤ x.kind) || somePair Section.clash l

/-- Clusters that FLM_PROGRAM sections cover. -/
def State.clustersCovered (s : State) (slot : Nat) : Nat := (s.sectionsOf slot 6).foldl (fun m x => Nat.lor m x.inst) 0

/-- Code 0x09. -/
def State.missing (s : State) (slot : Nat) : Bool :=
  (s.sectionsOf slot 1).isEmpty || (s.sectionsOf slot 2).isEmpty || (s.sectionsOf slot 5).isEmpty ||
    s.clustersCovered slot != 0xFFFF || !((s.sectionsOf slot 0xE).any fun x => x.inst == 0)

/-! ### Reserved payload fields (code 0x07) -/

/-- Reserved fields of a DRAM_REGIONS descriptor; an unused one has every other field 0 (R769, R771). -/
def descReservedBad (p : List Byte) (i : Nat) : Bool :=
  let o := 16 * i
  !zeroAt p (o + 14) 2 || 2 ≤ fieldAt p (o + 13) 1 || (fieldAt p (o + 8) 4 == 0 && !(zeroAt p o 8 && zeroAt p (o + 12) 2))

/-- Whether a payload of a type has a reserved field that is not zero. -/
def reservedFieldBad (kind : Nat) (p : List Byte) : Bool :=
  match kind with
  | 0x1 => (List.range 16).any (descReservedBad p)
  | 0x2 => !zeroAt p 3 5
  | 0x4 => (List.range 20).any fun g => !zeroAt p (32 * g + 3) 1 || !zeroAt p (32 * g + 10) 6
  | 0x7 => !zeroAt p 1 3 || !zeroAt p 8 8 || !zeroAt p 0xC20 16
  | 0x8 => !zeroAt p 5 3 || !zeroAt p 10 6 || (List.range (fieldAt p 0 4 % 65537)).any fun n => !zeroAt p (16 + 20 * n + 15) 1
  | 0x9 => !zeroAt p 0x16 10
  | 0xA => 16 ≤ fieldAt p 8 1 || 8 ≤ fieldAt p 9 1 || !zeroAt p 0x2C 4 || (List.range 4).any fun k => !zeroAt p (0xC + 8 * k + 7) 1
  | 0xB => 8 ≤ fieldAt p 0 1 || !zeroAt p 0x2E 2
  | 0xC => !zeroAt p 10 6
  | _ => false

/-- Offset of the signature block. -/
def State.sigAt (s : State) (slot : Nat) : Nat := s.imgLength slot - 128

/-- Code 0x07. -/
def State.reservedBad (s : State) (slot : Nat) : Bool :=
  let o := s.sigAt slot
  s.imgNat slot 0x17 1 != 0 || s.imgNat slot 0x20 8 != 0 ||
    (s.sections slot).any (fun x => reservedFieldBad x.kind (s.payload slot x)) ||
    s.imgNat slot (o + 6) 2 != 0 || s.imgNat slot (o + 0x68) 24 != 0 || s.imgNat slot (o + 5) 1 != 1

/-! ### Payloads (code 0x0B) -/

/-- A used DRAM region (R769). -/
structure Region where
  base : Nat
  size : Nat
  code : Nat
  flow : Bool
  deriving DecidableEq, Repr, Inhabited

/-- Descriptor `i` as a region, size 0 where it is unused. -/
def regionAt (p : List Byte) (i : Nat) : Region :=
  let o := 16 * i
  { base := fieldAt p o 8, size := fieldAt p (o + 8) 4 * 2 ^ 30, code := fieldAt p (o + 12) 1, flow := bitAt (fieldAt p (o + 13) 1) 0 }

/-- The used regions. -/
def usedRegions (p : List Byte) : List Region := ((List.range 16).map (regionAt p)).filter fun r => r.size != 0

/-- The region marked as the flow region. -/
def flowRegion (p : List Byte) : Option Region := (usedRegions p).find? fun r => r.flow

/-- Whether a flow descriptor is as R488 and R771 require. -/
def flowBad (r : Region) (flow : List Byte) : Bool :=
  r.code == 1 || r.size != 2 ^ (33 + fieldAt flow 2 1) || r.base % r.size != 0

/-- Whether the DRAM_REGIONS payload is malformed, beside its reserved fields. -/
def regionsBad (p flow : List Byte) : Bool :=
  let l := usedRegions p
  p.length != 256 || (List.range 16).any (fun i => 2 ≤ (regionAt p i).code) ||
    l.any (fun r => r.base % 2 ^ 30 != 0 || r.base < 0x2000000000 || 0x4000000000 < r.base + r.size) ||
    somePair (fun a b => a.base < b.base + b.size && b.base < a.base + a.size) l ||
    (match l.filter fun r => r.flow with
     | [r] => flowBad r flow
     | _ => true)

/-- Whether a PORTS entry is malformed (R227). -/
def portEntryBad (p : List Byte) (g : Nat) : Bool :=
  let o := 32 * g
  let mode := fieldAt p o 1
  let mf := fieldAt p (o + 8) 2
  4 ≤ mode || (16 ≤ g && mode != 0) || 2 ≤ fieldAt p (o + 2) 1 || zeroAt p (o + 7) 1 || mf < 64 || (if g < 16 then 10240 else 10400) < mf

/-- Bytes of a WEIR_INIT entry, and its size in a mode. -/
def weirEntrySize (mode : Nat) : Nat := if mode = 1 then 180 else 100

/-- Whether the WEIR_INIT payload is malformed (R319). -/
def weirInitBad (p : List Byte) : Bool :=
  let mode := fieldAt p 0 1
  let n := fieldAt p 4 4
  let most := if mode = 1 then 16384 else 32768
  2 ≤ mode || most < n || p.length != 3120 + n * weirEntrySize mode ||
    (List.range (n % 32769)).any fun i => most ≤ fieldAt p (0xC30 + i * weirEntrySize mode) 4

/-- Key of an EMT_INIT entry. -/
def emtInitKey (p : List Byte) (n : Nat) : Nat := beNat (slice p (16 + 20 * n) 14)

/-- Whether the EMT_INIT payload is malformed (R320). -/
def emtInitBad (p : List Byte) : Bool :=
  let n := fieldAt p 0 4
  65536 < n || p.length != 16 + 20 * n || 2 ≤ fieldAt p 4 1 ||
    (List.range (n % 65537)).any (fun i => 2 ≤ fieldAt p (16 + 20 * i + 14) 1) ||
    somePair (fun a b => a == b) ((List.range (n % 65537)).map (emtInitKey p))

/-- Whether the TIME payload is malformed (R686). -/
def timeBad (p : List Byte) : Bool :=
  let out := fieldAt p 3 1
  let ptp := fieldAt p 4 1
  let th := fieldAt p 8 4
  let sl := fieldAt p 0x14 2
  p.length != 32 || 5 ≤ fieldAt p 0 1 || 4 ≤ fieldAt p 1 1 || 132 ≤ fieldAt p 2 1 ||
    out % 4 == 3 || out / 4 % 4 == 3 || 16 ≤ out || ptp % 4 == 3 || 8 ≤ ptp || 16 ≤ fieldAt p 5 1 || zeroAt p 6 2 ||
    th == 0 || 1000000000 < th || sl == 0 || 60000 < sl

/-- Whether the STACK payload is malformed (R724). -/
def stackBad (p : List Byte) : Bool :=
  let v := fieldAt p 3 1
  let ok := fun n => n == 1 || n == 2
  p.length != 48 || 3 ≤ fieldAt p 0 1 || 8 ≤ fieldAt p 1 1 || !ok (v / 16) || !ok (v % 16) || v / 16 < v % 16 ||
    zeroAt p 0xA 1 || 100 < fieldAt p 0xA 1 || fieldAt p 0xB 1 < 2 || 15 < fieldAt p 0xB 1 ||
    (List.range 4).any fun k => let l := fieldAt p (0xC + 8 * k + 6) 1; 4 ≤ l && l != 0xFF

/-- Whether the MGT payload is malformed (R841). -/
def mgtBad (p : List Byte) : Bool :=
  p.length != 176 || zeroAt p 1 1 || 3 < fieldAt p 1 1 || 32 < fieldAt p 2 1 || 128 < fieldAt p 3 1 ||
    zeroAt p 0x2C 2 || 3600 < fieldAt p 0x2C 2

/-- Whether the RESTART payload is malformed (R124). -/
def restartBad (p : List Byte) : Bool :=
  p.length != 16 || (List.range 4).any (fun i => 3 ≤ fieldAt p i 1) || 3600 < fieldAt p 4 2 || zeroAt p 6 1 || 15 < fieldAt p 6 1 ||
    fieldAt p 7 1 < 2 || 4 < fieldAt p 7 1 || zeroAt p 8 2

/-- Whether a REGINIT entry may not stand in an image (R123). -/
def reginitBad (p : List Byte) : Bool :=
  p.length % 8 != 0 || (List.range (p.length / 8)).any fun i =>
    let a := fieldAt p (8 * i) 4
    a % 4 != 0 || 0xFFFFFC < a || (0x20000 ≤ a && a < 0x30000)

/-- Whether a BLOB's target is malformed: 256 B aligned, in DRAM, outside the flow region. -/
def blobBad (p regions : List Byte) : Bool :=
  let a := fieldAt p 0 8
  let n := p.length - 8
  p.length < 8 || a % 256 != 0 || a < 0x2000000000 || 0x4000000000 < a + n ||
    (match flowRegion regions with
     | some r => a < r.base + r.size && r.base < a + max n 1
     | none => false)

/-- Whether a payload is malformed. -/
def State.payloadBad (s : State) (slot : Nat) (x : Section) : Bool :=
  let p := s.payload slot x
  let regions := (s.payloadOf slot 1).getD []
  let flow := (s.payloadOf slot 2).getD []
  match x.kind with
  | 0x1 => regionsBad p flow
  | 0x2 => p.length != 32 || 3 ≤ fieldAt p 0 1 || 2 ≤ fieldAt p 1 1 || 4 ≤ fieldAt p 2 1
  | 0x3 => reginitBad p
  | 0x4 => p.length != 640 || (List.range 20).any (portEntryBad p)
  | 0x5 => p.length == 0 || p.length % 24 != 0 || 98304 < p.length
  | 0x6 => p.length == 0 || p.length % 2 != 0 || 131072 < p.length
  | 0x7 => weirInitBad p
  | 0x8 => emtInitBad p
  | 0x9 => timeBad p
  | 0xA => stackBad p
  | 0xB => mgtBad p
  | 0xC => restartBad p
  | 0xD => blobBad p regions
  | 0xE => 4 ≤ x.inst || 0x400000 < p.length
  | _ => false

/-! ### Key, signature, security version -/

/-- Key slot that signs the image. -/
def State.sigSlot (s : State) (slot : Nat) : Nat := s.imgNat slot (s.sigAt slot + 4) 1

/-- Whether the image's key is accepted (R126). -/
def State.keyOk (s : State) (slot : Nat) : Bool :=
  let k := s.sigSlot slot
  k < 4 && bitAt s.fuses.programmed k && !bitAt s.fuses.revoked k &&
    sha256 (s.imgBytes slot (s.sigAt slot + 8) 32) == s.fuses.keyHash.get k

/-- Whether the signature is good (R125). -/
def State.sigOk (s : State) (slot : Nat) : Bool :=
  let o := s.sigAt slot
  s.imgNat slot o 4 == 0x47495347 &&
    ed25519Verify (s.imgBytes slot (o + 8) 32) (s.imgBytes slot 0 o) (s.imgBytes slot (o + 0x28) 64)

/-- SVN of the image. -/
def State.imgSvn (s : State) (slot : Nat) : Nat := s.imgNat slot 0x16 1

/-! ### Validation (R127) -/

/-- The first check that fails, by its code. -/
def firstCode : List (Nat × Bool) → Nat
  | [] => 0
  | (c, bad) :: r => if bad then c else firstCode r

/-- Status code of the image in a slot. -/
def State.validate (s : State) (slot : Nat) (flashOk : Bool) : Nat :=
  let len := s.imgLength slot
  if !s.imgMagic slot then 1
  else if s.imgNat slot 4 2 ≠ 2 then 2
  else if s.imgNat slot 0x10 4 ≠ 0x0B1E1280 then 3
  else if 0x0102 < s.imgNat slot 0x14 2 then 4
  else if len % 256 ≠ 0 ∨ len < 512 ∨ 125829120 < len then 5
  else firstCode [(6, s.tableBad slot), (7, s.reservedBad slot), (8, s.kindsBad slot), (9, s.missing slot),
    (0xA, (s.sections slot).any fun x => crc32cStd (s.payload slot x) != x.crc),
    (0xB, (s.sections slot).any (s.payloadBad slot)), (0xC, !s.keyOk slot), (0xD, !s.sigOk slot),
    (0xE, 64 < s.imgSvn slot || s.imgSvn slot < s.fuses.svn), (0xF, !flashOk)]

/-! ### The RESTART section (R124) -/

/-- A field of the image's RESTART section, its default without one. -/
def State.restartField (s : State) (slot o n d : Nat) : Nat :=
  match s.payloadOf slot 0xC with
  | some p => fieldAt p o n
  | none => d

/-- ATTEMPTS as an image gives it, for the order of R129. -/
def State.imgAttempts (s : State) (slot : Nat) : Nat :=
  let n := if s.imgMagic slot then s.restartField slot 6 1 3 else 3
  if 1 ≤ n ∧ n ≤ 15 then n else 3

end Sys2Proof.Machine
end

