-- ==== Sys2Proof/Machine/Load.lean ====
section
/-! DEFINITION. Loading the sections of a valid image (R121–R124, R135, R143, R227, R228, R319–R321, R488, R686, R724,
R769, R841). -/
namespace Sys2Proof.Machine

/-- A register written by the boot sequencer. -/
def State.bootWrite (s : State) (a v : Nat) : State := s.busWrite 5 a (BitVec.ofNat 32 v)

/-! ### DRAM_REGIONS, FLOWSTORE -/

/-- ECC.REGION of a region. -/
def regionWord (r : Region) : Nat :=
  if r.size = 0 then 0
  else 2 ^ 31 + b2n r.flow * 2 ^ 30 + r.code % 4 * 2 ^ 28 + r.size / 2 ^ 30 % 256 * 2 ^ 16 + r.base / 2 ^ 30 % 1024

/-- The DRAM_REGIONS payload: the region registers, and the base of the flow region. -/
def State.loadRegions (s : State) (p : List Byte) : State :=
  let t := (List.range 16).foldl (fun t i => t.wr (Reg.eccRegion i) (BitVec.ofNat 32 (regionWord (regionAt p i)))) s
  { t with flow.base := (flowRegion p).elim 0x2000000000 fun r => r.base }

/-- FLE.GEOM of a FLOWSTORE payload: buckets of eight records over sixteen slices. -/
def geomWord (p : List Byte) : Nat :=
  fieldAt p 0 1 * 2 ^ 30 + fieldAt p 2 1 % 4 * 2 ^ 28 + (33 + fieldAt p 2 1 - 7 - (6 + fieldAt p 0 1)) % 32

/-- The descriptor of the flow region. -/
def flowDescriptor (regions : List Byte) : List Byte :=
  (((List.range 16).map fun i => slice regions (16 * i) 16).find? fun d => fieldAt d 8 4 != 0 && bitAt (fieldAt d 13 1) 0).getD []

/-- The flow geometry digest (R143). -/
def geometryDigest (flow regions : List Byte) : List Byte :=
  beBytes (sha256 (flow ++ flowDescriptor regions) % 2 ^ 64) 8

/-- The digest of the image in a slot. -/
def State.imgDigest (s : State) (slot : Nat) : List Byte :=
  geometryDigest ((s.payloadOf slot 2).getD []) ((s.payloadOf slot 1).getD [])

/-- The FLOWSTORE payload: geometry, eviction and the seeds; the digest is saved in the retention RAM. -/
def State.loadFlow (s : State) (slot : Nat) (p : List Byte) : State :=
  let t := (s.wr Reg.fleGeom (BitVec.ofNat 32 (geomWord p))).setBit Reg.fleStoreCtrl 31 (fieldAt p 1 1 == 1)
  { t with flow.sliceSeed := fieldAt p 8 8, flow.seed1 := fieldAt p 16 8, flow.seed2 := fieldAt p 24 8
           aon.retention := putBytes t.aon.retention 8 (s.imgDigest slot) }

/-! ### REGINIT, PORTS -/

/-- A REGINIT payload: its writes in list order. -/
def State.loadReginit (s : State) (p : List Byte) : State :=
  (List.range (p.length / 8)).foldl (fun t i => t.bootWrite (fieldAt p (8 * i) 4) (fieldAt p (8 * i + 4) 4)) s

/-- PORT_CTRL of sub-port `u` from a PORTS entry. -/
def portWord (e : List Byte) (u : Nat) : Nat :=
  b2n (bitAt (fieldAt e 4 1) u) * 2 ^ 31 + b2n (bitAt (fieldAt e 5 1) u) * 2 ^ 30 + b2n (bitAt (fieldAt e 6 1) u) * 2 ^ 29 +
    fieldAt e 7 1 * 2 ^ 16 + fieldAt e 8 2 % 2 ^ 14

/-- RX_TRIM of sub-port `u`, sign-extended. -/
def trimWord (e : List Byte) (u : Nat) : Nat := unsigned (signed (fieldAt e (16 + 2 * u) 2) 16) 32

/-- A sub-port's registers from its group's entry. -/
def State.loadPort (s : State) (e : List Byte) (g u : Nat) : State :=
  (s.bootWrite (Reg.portCtrl g u) (portWord e u)).bootWrite (Reg.rxTrim g u) (trimWord e u)

/-- Entry `g` of the PORTS payload; bits of sub-ports that name no port in its mode are ignored (R228). -/
def State.loadGroup (s : State) (e : List Byte) (g : Nat) : State :=
  let t := s.bootWrite (Reg.pgCtrl g) (fieldAt e 2 1 * 2 ^ 16 + fieldAt e 1 1 * 2 ^ 8 + fieldAt e 0 1)
  (subPorts (t.cageMode g)).foldl (fun t u => t.loadPort e g u) t

/-- The PORTS payload. -/
def State.loadPorts (s : State) (p : List Byte) : State :=
  (List.range 20).foldl (fun t g => t.loadGroup (slice p (32 * g) 32) g) s

/-! ### Stores and tables -/

/-- `n` numbers stored from `base` upward. -/
def loadNats (m : SMap Nat) (base n : Nat) (f : Nat → Nat) : SMap Nat := (List.range n).foldl (fun m i => m.set (base + i) (f i)) m

/-- The HDG_UCODE payload, into the control store of every group; words beyond it are zero. -/
def State.loadUcode (s : State) (p : List Byte) : State :=
  { s with hdg.ucode := (List.range 20).foldl (fun m g => loadNats m (4096 * g) (p.length / 24) fun i => fieldAt p (24 * i) 24) {} }

/-- An FLM_PROGRAM payload, into the program stores of the clusters of its mask. -/
def State.loadProgram (s : State) (mask : Nat) (p : List Byte) : State :=
  { s with flume.ps := (setBits mask 16).foldl (fun m cl => loadNats m (65536 * cl) (p.length / 2) fun i => fieldAt p (2 * i) 2) s.flume.ps }

/-- Profile `i` of a WEIR_INIT payload. -/
def State.loadProfile (s : State) (p : List Byte) (i : Nat) : State :=
  let o := 0x20 + 12 * i
  ((s.storeRw (Reg.weirProfA i) (BitVec.ofNat 32 (fieldAt p o 4))).storeRw (Reg.weirProfSeg01 i) (BitVec.ofNat 32 (fieldAt p (o + 4) 4))).storeRw
    (Reg.weirProfSeg23 i) (BitVec.ofNat 32 (fieldAt p (o + 8) 4))

/-- An entry of a WEIR_INIT payload, its keys of `k` bytes. -/
def weirInitEntry (p : List Byte) (o k : Nat) : WeirEntry :=
  { valid := true, val := beNat (slice p (o + 4) k), mask := beNat (slice p (o + 4 + k) k), ad := fieldAt p (o + 4 + 2 * k) 16 }

/-- The entries of a WEIR_INIT payload, in list order. -/
def weirInitTable (p : List Byte) : SMap WeirEntry :=
  let mode := fieldAt p 0 1
  (List.range (fieldAt p 4 4)).foldl (fun m n =>
    let o := 0xC30 + n * weirEntrySize mode
    m.set (fieldAt p o 4) (weirInitEntry p o (if mode = 1 then 80 else 40))) {}

/-- The WEIR_INIT payload. -/
def State.loadWeir (s : State) (p : List Byte) : State :=
  let t := s.wr Reg.weirCtrl (BitVec.ofNat 32 (fieldAt p 0 1))
  let t := (List.range 4).foldl (fun t i => t.wr (Reg.weirMissAd i) (BitVec.ofNat 32 (fieldAt p (0x10 + 4 * i) 4))) t
  let t := (List.range 256).foldl (fun t i => t.loadProfile p i) t
  { t with tables.weir := weirInitTable p, tables.weirArr := {} }

/-- Entry `n` of an EMT_INIT payload. -/
def emtInitEntry (p : List Byte) (n : Nat) : EmtEntry :=
  let o := 16 + 20 * n
  { valid := true, key := emtInitKey p n, data := fieldAt p (o + 16) 4, isStatic := bitAt (fieldAt p (o + 14) 1) 0 }

/-- An EMT_INIT entry loaded, hit at the time of loading. -/
def State.loadEmtEntry (s : State) (p : List Byte) (n : Nat) : State :=
  (s.emtWritten n (emtInitEntry p n)).setHits n s.hitClock

/-- The EMT_INIT payload. -/
def State.loadEmt (s : State) (p : List Byte) : State :=
  let t := s.storeRw Reg.emtCtrl (BitVec.ofNat 32 (fieldAt p 4 1 * 2 ^ 31 + fieldAt p 8 2))
  (List.range (fieldAt p 0 4)).foldl (fun t n => t.loadEmtEntry p n) t

/-! ### TIME, STACK, MGT -/

/-- The TIME payload. -/
def State.loadTime (s : State) (p : List Byte) : State :=
  let t := s.bootWrite Reg.tbCtrl (fieldAt p 0 1 * 2 ^ 29 + fieldAt p 1 1 * 2 ^ 27 + fieldAt p 2 1 * 2 ^ 16)
  let t := t.bootWrite Reg.tbServo (putBits (putBits (t.rd Reg.tbServo).toNat 31 28 (fieldAt p 5 1)) 15 0 (fieldAt p 6 2))
  let t := (t.bootWrite Reg.tbJump (fieldAt p 8 4)).bootWrite Reg.tbSlewMs (fieldAt p 0x14 2)
  let t := (t.bootWrite Reg.tbPpsCtrl (fieldAt p 3 1)).bootWrite Reg.tbPtpCtrl (fieldAt p 4 1)
  (t.bootWrite Reg.tbPpsInTrim (fieldAt p 0xC 4)).bootWrite Reg.tbPpsOutTrim (fieldAt p 0x10 4)

/-- Link `k` of the STACK payload: its expected serial and link, the serial's high bits in LINK_CFG. -/
def State.loadLink (s : State) (p : List Byte) (k : Nat) : State :=
  let o := 0xC + 8 * k
  let en := b2n (bitAt (fieldAt p 8 1) k)
  (s.bootWrite (Reg.stkExpSerial k) (fieldAt p o 4)).bootWrite (Reg.stkLinkCfg k)
    (en * 2 ^ 31 + fieldAt p (o + 6) 1 * 2 ^ 16 + fieldAt p (o + 4) 2)

/-- STK.CTRL of the STACK payload. -/
def stackWord (p : List Byte) : Nat :=
  let f := fieldAt p 9 1
  fieldAt p 0 1 * 2 ^ 30 + fieldAt p 1 1 * 2 ^ 27 + f % 2 * 2 ^ 26 + f / 2 % 2 * 2 ^ 25 + f / 4 % 2 * 2 ^ 24 +
    fieldAt p 2 1 * 2 ^ 16 + fieldAt p 3 1 * 2 ^ 8

/-- The STACK payload. -/
def State.loadStack (s : State) (p : List Byte) : State :=
  let t := (s.bootWrite Reg.stkStackId (fieldAt p 4 4)).bootWrite Reg.stkTiming (fieldAt p 0xB 1 * 256 + fieldAt p 0xA 1)
  (List.range 4).foldl (fun t k => t.loadLink p k) (t.bootWrite Reg.stkCtrl (stackWord p))

/-- The MGT payload: the address registers, the session settings and the keys. -/
def State.loadMgt (s : State) (p : List Byte) : State :=
  let f := fieldAt p 0 1
  let w := fun (t : State) (a v : Nat) => t.wr a (BitVec.ofNat 32 v)
  let c := putBits (putBits (putBits (s.rd Reg.mgtCtrl).toNat 31 31 f) 30 28 (fieldAt p 1 1)) 11 0 (fieldAt p 0x2C 2)
  let t := w (w (w s Reg.mgtCtrl c) Reg.mgtIp4 (beNat (slice p 4 4))) Reg.mgtIp4Gw (beNat (slice p 8 4))
  let t := w t Reg.mgtAddrCfg (f / 4 % 2 * 2 ^ 17 + f / 2 % 2 * 2 ^ 16 + fieldAt p 2 1 * 2 ^ 8 + fieldAt p 3 1)
  let t := (List.range 4).foldl (fun t i => w (w t (Reg.mgtIp6 i) (beNat (slice p (0xC + 4 * i) 4))) (Reg.mgtGw6 i) (beNat (slice p (0x1C + 4 * i) 4))) t
  { t with mgt.keys := (List.range 4).foldl (fun m k => m.set k (beNat (slice p (0x30 + 32 * k) 32))) {} }

/-! ### CE_FIRMWARE and the order of loading -/

/-- An engine's firmware, at offset 0 of its local memory. -/
def State.loadFirmware (s : State) (k : Nat) (p : List Byte) : State := s.stBytes (0x1000000 + 0x400000 * k) p

/-- A section of a type loaded. -/
def State.loadSection (s : State) (slot : Nat) (x : Section) : State :=
  let p := s.payload slot x
  match x.kind with
  | 0x1 => s.loadRegions p
  | 0x2 => s.loadFlow slot p
  | 0x3 => s.loadReginit p
  | 0x4 => s.loadPorts p
  | 0x5 => s.loadUcode p
  | 0x6 => s.loadProgram x.inst p
  | 0x7 => s.loadWeir p
  | 0x8 => s.loadEmt p
  | 0x9 => s.loadTime p
  | 0xA => s.loadStack p
  | 0xB => s.loadMgt p
  | 0xE => s.loadFirmware x.inst p
  | _ => s

/-- Sections in ascending TYPE order, BLOBs left for later (R135). -/
def State.loadOrder (s : State) (slot : Nat) : List Section :=
  (List.range 15).flatMap fun k => if k = 0xD then [] else s.sectionsOf slot k

/-- Engines with firmware released at offset 0 of their local memories (R135). -/
def State.releaseEngines (s : State) (slot : Nat) : State :=
  (s.sectionsOf slot 0xE).foldl (fun t x => (t.setCe x.inst {}).setBit (Reg.flmCeCtrl 0 x.inst) 31 true) s

/-- The slot of the running image. -/
def State.runningSlot (s : State) : Nat := s.fld Reg.bootStatus 25 25

/-- Every section but the BLOBs loaded, and the engines released: PHASE 2. -/
def State.loadImage (s : State) : State :=
  let slot := s.runningSlot
  let t := ((s.loadOrder slot).foldl (fun t x => t.loadSection slot x) s).releaseEngines slot
  { t with boot.sectionsDone := true }.setFld Reg.bootStatus 31 28 2

/-- The sections finish loading. -/
def execSectionsLoaded (s : State) : Out :=
  occurs s (s.coreUp && s.boot.stop == .none && s.fld Reg.bootStatus 31 28 == 1 && !s.boot.sectionsDone) s.loadImage

end Sys2Proof.Machine
end

