-- ==== Sys2Proof/Machine/Boot.lean ====
section
/-! DEFINITION. The boot: reset release, image selection and validation, the steps of the restart timeline up to
shared-buffer mode, and re-validation of the flow region (R128–R144, R150–R155, R270, R594, R659). -/
namespace Sys2Proof.Machine

/-! ### Service boot (R132, R138, R139) -/

/-- Service boot entered: CE0 runs the boot ROM, and the UART prints the step's line. -/
def State.serviceBoot (s : State) : State :=
  let t := ((s.setFld Reg.bootStatus 31 28 6).setBit Reg.bootStatus 24 true).setBit (Reg.flmCeCtrl 0 0) 31 true
  { t with boot.uartLines := t.boot.uartLines + 1 }

/-- PHASE of the boot. -/
def State.phase (s : State) : Nat := s.fld Reg.bootStatus 31 28

/-- Mode of this run. -/
def State.runMode (s : State) : Nat := s.fld Reg.bootStatus 27 26

/-- Whether the boot goes on: the core runs and no stop has begun. -/
def State.booting (s : State) : Bool := s.coreUp && s.boot.stop == .none

/-! ### Image selection (R129, R130) -/

/-- Whether an image's failed attempts have reached its ATTEMPTS. -/
def State.usedUp (s : State) (slot : Nat) : Bool := decide (s.imgAttempts slot ≤ s.attempts slot)

/-- Both counts cleared when both have reached ATTEMPTS. -/
def State.freshAttempts (s : State) : State :=
  if s.usedUp 0 && s.usedUp 1 then (s.setAttempts 0 0).setAttempts 1 0 else s

/-- The order of the images, but for BOOT.NEXT. -/
def State.seqOrder (s : State) : List Nat :=
  let l := if s.imgSeq 0 < s.imgSeq 1 then [1, 0] else [0, 1]
  (l.filter fun i => !s.usedUp i) ++ l.filter fun i => s.usedUp i

/-- The image that BOOT.NEXT names. -/
def State.nextSlot (s : State) : Option Nat :=
  match s.fld Reg.bootNext 1 0 with
  | 1 => some 0
  | 2 => some 1
  | _ => none

/-- The order in which the images are tried; BOOT.NEXT is cleared when used. -/
def State.selectImages (s : State) : State :=
  let t := s.freshAttempts
  match s.nextSlot with
  | some i => ({ t with boot.order := [i, 1 - i] }).setFld Reg.bootNext 1 0 0
  | none => { t with boot.order := t.seqOrder }

/-! ### Reset release (R133, R140, R158, R659) -/

/-- The time base takes the always-on timekeeper's time and validity. -/
def State.loadTimekeeper (s : State) : State :=
  (s.setTotal (if s.boot.cause = 0 then 0 else s.aon.timekeeper)).setBit Reg.tbStatus 28 s.aon.timeValid

/-- What the boot block's registers read after release. -/
def State.bootShow (s : State) : State :=
  (s.setFld Reg.bootCause 31 24 s.boot.cause).setFld Reg.bootCause 23 22 s.boot.requested

/-- The stacks held in self-refresh show it. -/
def State.showHeld (s : State) : State :=
  if s.aon.dramHeld then (List.range 4).foldl (fun t n => t.setBit (Reg.dnStatus n) 30 true) s else s

/-- The core runs: PLLs locked, time loaded, images ordered, or service boot by BOOTSEL. -/
def State.release (s : State) : State :=
  let t := ({ s with boot.core := .running }.wr Reg.clkPllStatus 0x7F#32).loadTimekeeper
  let t := t.bootShow.showHeld
  if t.boot.bootsel then t.serviceBoot else t.selectImages

/-- The ASIC core leaves reset. -/
def execResetRelease (s : State) : Out :=
  occurs s (s.supply.on && s.boot.core == .held && !s.boot.holdRestart && s.boot.stop == .none) s.release

/-! ### The mode of the run (R141, R142) -/

/-- Whether this is the FAULTS-th fault stop within WINDOW_S seconds. -/
def State.faultsReached (s : State) : Bool :=
  let old := s.stopTime (s.boot.faults - 1)
  2 ≤ s.boot.cause && s.boot.cause ≤ 6 && old != 0 && decide (s.stopTime 0 - old ≤ s.boot.windowS * 1000000000)

/-- The conditions of R142 in order, each with the highest mode it leaves. The last is one of a warm or state-retaining
restart only. -/
def State.downgrades (s : State) (slot : Nat) : List (Bool × Nat) :=
  [(s.boot.cause == 0, 0), (!s.retFlag retHeld, 1), (getBytes s.aon.retention 8 8 != s.imgDigest slot, 1),
   (s.faultsReached, 0), (s.boot.cause == 9, 0), (s.boot.requested != 0 && !s.retFlag retCal, 0)]

/-- The mode run. -/
def modeRun (req : Nat) (l : List (Bool × Nat)) : Nat := l.foldl (fun m c => if c.1 then min m c.2 else m) req

/-- The reason reported: the first condition that holds, whether or not the mode requested was higher. -/
def downgradeReason (l : List (Bool × Nat)) : Nat :=
  match l.findIdx? Prod.fst with
  | some i => i + 1
  | none => 0

/-! ### Validation (R127, R851) -/

/-- The RESTART section's values. -/
def State.takeRestart (s : State) (slot : Nat) : State :=
  { s with boot.onFault := s.restartField slot 0 1 2, boot.onOrderly := s.restartField slot 1 1 2
           boot.onWatchdog := s.restartField slot 2 1 1, boot.onCommand := s.restartField slot 3 1 1
           boot.confirmS := s.restartField slot 4 2 30, boot.attempts := s.restartField slot 6 1 3
           boot.faults := s.restartField slot 7 1 3, boot.windowS := s.restartField slot 8 2 600
           boot.keySlot := s.sigSlot slot, boot.runNs := 0, boot.confirmed := false }

/-- A cold run discards the saved calibration (R140). -/
def State.dropCal (s : State) : State :=
  { s with aon.retention := clearRange s.aon.retention 0x400 0xC00 }.setRetFlag retCal false

/-- The registers of a run in a mode. -/
def State.showRun (s : State) (slot mode reason : Nat) : State :=
  let t := ((s.setFld Reg.bootStatus 31 28 1).setFld Reg.bootStatus 27 26 mode).setFld Reg.bootStatus 25 25 slot
  ((t.setFld Reg.bootCause 21 20 mode).setFld Reg.bootCause 19 16 reason).setFld Reg.bootSvn 15 8 (s.imgSvn slot)

/-- The image in a slot runs: the mode, the registers, its RESTART values, the header's slot and SEQUENCE, the cages
powered. -/
def State.runImage (s : State) (slot : Nat) : State :=
  let l := s.downgrades slot
  let mode := modeRun s.boot.requested l
  let t := ((s.showRun slot mode (downgradeReason l)).takeRestart slot).setRet 0x12 1 slot
  let t := t.setRet 0x14 4 (s.imgSeq slot)
  (List.range 20).foldl State.powerCage (if mode = 0 then t.dropCal else t)

/-- The status code of a slot. -/
def State.setStat (s : State) (slot code : Nat) : State := s.setFld Reg.bootImgStat (15 + 8 * slot) (8 + 8 * slot) code

/-- The end of a validation at boot: the image runs, the other is tried, or service boot follows. -/
def State.bootValidated (s : State) (slot code : Nat) : State :=
  let t := s.setStat slot code
  if code = 0 then t.runImage slot
  else match t.boot.order.tail with
    | [] => { t with boot.order := [] }.serviceBoot
    | r => { t with boot.order := r }

/-- The end of a validation after an image write. -/
def State.writeValidated (s : State) (slot code : Nat) : State :=
  { s.setStat slot code with mgt.validating := none }.cmdDone Reg.mgtImgResult (slot * 2 ^ 28 + code * 2 ^ 16)

/-- Validation of a slot completes. -/
def State.validated (s : State) (slot : Nat) (flashOk : Bool) : State :=
  let code := s.validate slot flashOk
  if s.phase = 0 ∧ s.boot.order.head? = some slot then s.bootValidated slot code
  else if s.mgt.validating = some slot then s.writeValidated slot code
  else s

/-- Validation of an image completes. -/
def execImageValidation (slot : Nat) (flashOk : Bool) (s : State) : Out :=
  whenWf (slot < 2) (occurs s s.booting (s.validated slot flashOk))

/-! ### Fault records (R136, R140, R148, R150) -/

/-- The held capture written to the ring; a cold run keeps it no longer. -/
def State.flushCapture (s : State) : State :=
  let r : RecordBody := { kind := 0, cause := s.ret 0x200 1, summary := getBytes s.aon.retention 0x200 512
                          capture := getBytes s.aon.retention 0x1000 61440 }
  let t := (s.writeRecord r s.boot.lastSlot s.boot.lastSeq).setRetFlag retFlushed true
  if s.runMode = 0 then
    { t with aon.retention := clearRange (clearRange t.aon.retention 0x1000 61440) 0x200 0x200 }.setRetFlag retCapture false
  else t

/-- The held power-fail note written to the ring. -/
def State.flushNote (s : State) : State :=
  (s.writeRecord { kind := 2, cause := 9, note := getBytes s.aon.retention 0x100 256 } s.boot.lastSlot s.boot.lastSeq).setRetFlag retNote false

/-- The capture, then the note. -/
def State.flushHeld (s : State) : State :=
  let t := if s.retFlag retCapture && !s.retFlag retFlushed then s.flushCapture else s
  if t.retFlag retNote then t.flushNote else t

/-- The fault record and the power-fail note are written, when held. -/
def execFaultRecordWrite (s : State) : Out := occurs s (s.booting && s.imageRuns && s.boot.sectionsDone) s.flushHeld

/-! ### DRAM training, SerDes calibration (R136, R138) -/

/-- Whether a port group's calibration has ended. -/
def State.calEnded (s : State) (g : Nat) : Bool := s.boot.calibrated.contains g || 3 ≤ s.boot.calFails.get g

/-- The calibration saved once every stack is trained and every group's calibration has ended. What it holds the spec
does not say. -/
def State.saveCal (s : State) : State :=
  if (List.range 4).all (fun n => s.boot.trained.contains n) && (List.range 20).all s.calEnded then
    let d := drawBytes 0xC00 s
    { d.2 with aon.retention := putBytes d.2.aon.retention 0x400 d.1 }.setRetFlag retCal true
  else s

/-- The first training of a boot: test patterns in every stack. -/
def State.startTraining (s : State) : State :=
  if s.boot.trained = [] ∧ s.boot.trainFails = {} then
    ((List.range 4).foldl (fun (t : State) k => t.setFld (Reg.dnStatus k) 30 28 0) { s with aon.dramHeld := false }).scramble 8
  else s

/-- Training failed for good: the record, cages unpowered, service boot. -/
def State.trainingFailed (s : State) (n : Nat) : State :=
  let i : FaultInfo := { cause := 0xA, base := 0x600000 + 0x10000 * n }
  let t := s.writeRecord { kind := 0, cause := 0xA, summary := i.bytes s.ns64 0 } s.runningSlot s.runningSeq
  let t := (List.range 4).foldl (fun t k => (t.setCe k {}).setBit (Reg.flmCeCtrl 0 k) 31 false) t
  let t := (List.range 20).foldl (fun t c => t.setCage c { t.cage c with fuse := .off, retries := 0 }) t
  { t with boot.trainFailed := true }.serviceBoot

/-- A stack's training ends; with the last stack trained the cages are powered. -/
def State.train (s : State) (n : Nat) (ok : Bool) : State :=
  let t := s.startTraining
  if ok then
    (List.range 20).foldl State.powerCage ({ t with boot.trained := t.boot.trained ++ [n] }.setBit (Reg.dnStatus n) 28 true).saveCal
  else
    let k := t.boot.trainFails.get n + 1
    let u := { t with boot.trainFails := t.boot.trainFails.set n k }
    if 3 ≤ k then u.trainingFailed n else u

/-- DRAM training completes or fails for a stack. -/
def execDramTraining (stack : Nat) (ok : Bool) (s : State) : Out :=
  whenWf (stack < 4)
    (occurs s (s.booting && s.imageRuns && s.runMode == 0 && !s.boot.trained.contains stack) (s.train stack ok))

/-- A group's calibration ends: its ports are enabled, or after the third failure stay in state 0. -/
def State.calibrate (s : State) (g : Nat) (ok : Bool) : State :=
  if ok then ({ s with boot.calibrated := s.boot.calibrated ++ [g] }.groupRefresh g).saveCal
  else
    let k := s.boot.calFails.get g + 1
    let t := { s with boot.calFails := s.boot.calFails.set g k }
    if 3 ≤ k then (t.setEvent (Reg.pgEvents g) 25 (84 + g)).saveCal else t

/-- SerDes calibration of a port group completes or fails. -/
def execSerdesCalibration (group : Nat) (ok : Bool) (s : State) : Out :=
  whenWf (group < 20) (occurs s (s.booting && s.imageRuns && !s.calEnded group) (s.calibrate group ok))

/-! ### DRAM regions, BLOBs, self-refresh exit (R135, R136, R140) -/

/-- The step to PHASE 3. -/
def State.phaseCheck (s : State) : State :=
  if s.phase = 2 ∧ s.boot.regionsCleared ∧ s.boot.blobsDone ∧ (s.runMode ≠ 2 ∨ s.bit Reg.bootReval 31)
  then s.setFld Reg.bootStatus 31 28 3 else s

/-- The DRAM stacks leave self-refresh; in a state-retaining restart the recovery window opens (R152). -/
def State.exitSelfRefresh (s : State) : State :=
  let t := (List.range 4).foldl (fun t n => t.setFld (Reg.dnStatus n) 30 28 1) s
  let t := { t with aon.dramHeld := false, boot.srExited := true }
  if s.runMode = 2 then t.setBit Reg.bootReval 30 true else t

/-- Self-refresh exit. -/
def execSelfRefreshExit (s : State) : Out :=
  occurs s (s.booting && s.imageRuns && s.boot.sectionsDone && s.runMode != 0 && !s.boot.srExited) s.exitSelfRefresh

/-- The regions of the running image. -/
def State.runRegions (s : State) : List Region := usedRegions ((s.payloadOf s.runningSlot 1).getD [])

/-- DRAM cleared, with what no descriptor covers (R772); in a state-retaining run all but the flow region, which is
re-validated. -/
def State.clearDram (s : State) : Mem :=
  if s.runMode = 2 then
    (s.mem.clearRange 0x2000000000 (s.flow.base - 0x2000000000)).clearRange (s.flow.base + s.regionSize)
      (0x4000000000 - (s.flow.base + s.regionSize))
  else s.mem.clearRange 0x2000000000 0x2000000000

/-- Regions cleared. -/
def State.clearRegions (s : State) : State :=
  let t := { s with mem := s.clearDram, boot.regionsCleared := true }
  State.phaseCheck (if s.runMode = 2 then t else { t with flow.valid := {} })

/-- Clearing of the DRAM regions completes. -/
def execRegionsCleared (s : State) : Out :=
  occurs s (s.booting && s.imageRuns && s.boot.sectionsDone && !s.boot.regionsCleared &&
      (if s.runMode = 0 then (List.range 4).all fun n => s.boot.trained.contains n else s.boot.srExited)) s.clearRegions

/-- A BLOB copied to its target. -/
def State.copyBlob (s : State) (p : List Byte) : State := s.stBytes (fieldAt p 0 8) (p.drop 8)

/-- The BLOB sections copied. -/
def State.copyBlobs (s : State) : State :=
  let t := (s.sectionsOf s.runningSlot 0xD).foldl (fun t x => t.copyBlob (s.payload s.runningSlot x)) s
  State.phaseCheck { t with boot.blobsDone := true }

/-- The BLOB sections finish copying. -/
def execBlobCopyDone (s : State) : Out :=
  occurs s (s.booting && s.imageRuns && s.boot.regionsCleared && !s.boot.blobsDone) s.copyBlobs

/-! ### Re-validation (R152–R155) -/

/-- Records of the flow region. -/
def State.recordCount (s : State) : Nat := s.regionSize / s.recSize

/-- Longest key of a record (R490). -/
def State.keyMax (s : State) : Nat := if s.recSize = 64 then 24 else 48

/-- A record found uncorrectable or inconsistent is written as zeros and counted. -/
def State.zeroRecord (s : State) (i counter : Nat) : State :=
  { s with mem := s.mem.clearRange (s.flow.base + i * s.recSize) s.recSize }.bumpFld counter 31 0

/-- A record read without an uncorrectable error. -/
def State.goodRecord (s : State) (i : Nat) : State :=
  let img := s.ldBytes (s.flow.base + i * s.recSize) s.recSize
  if !recValid img then s
  else if s.keyMax < recKeyLen img then s.zeroRecord i Reg.bootRevalIncons
  else { s with flow.valid := s.flow.valid.mod (i % 16) fun n => n + 1 }

/-- Record `i` read. -/
def State.revalidate (s : State) (i : Nat) : RecordReadout → State
  | .clean => s.goodRecord i
  | .corrected bs => ((s.stBytes (s.flow.base + i * s.recSize) (slice bs 0 s.recSize)).bumpFld Reg.bootRevalCorr 31 0).goodRecord i
  | .uncorrectable => s.zeroRecord i Reg.bootRevalInval

/-- Re-validation reads the next record. -/
def execRevalidateRecord (readout : RecordReadout) (s : State) : Out :=
  occurs s (s.booting && s.bit Reg.bootReval 30 && decide (s.boot.revalNext < s.recordCount))
    (let t := s.revalidate s.boot.revalNext readout
     { t with boot.revalNext := s.boot.revalNext + 1 })

/-- The recovery window closes: held flow-region requests are issued. -/
def State.closeWindow (s : State) (micros : Nat) : State :=
  (s.wr Reg.bootReval (BitVec.ofNat 32 (2 ^ 31 + satNat micros (2 ^ 24 - 1)))).drainAll.phaseCheck

/-- Every record has been read. -/
def execRecoveryWindowClose (micros : Nat) (s : State) : Out :=
  occurs s (s.booting && s.bit Reg.bootReval 30 && s.boot.revalNext == s.recordCount) (s.closeWindow micros)

/-! ### Forwarding (R136, R137, R270, R594) -/

/-- Forwarding starts in VOQ mode, once the ports have been enabled: every group's calibration has ended. -/
def execForwardingStart (s : State) : Out :=
  occurs s (s.booting && s.phase == 3 && (List.range 20).all s.calEnded) ((s.setBit Reg.hdgStatus 31 true).setFld Reg.bootStatus 31 28 4)

/-- Cells of the Reservoir (R568). -/
def reservoirCells : Nat := 393216

/-- The free list complete without the bad cells, and shared-buffer mode. -/
def State.sharedMode (s : State) (badCells : List Nat) : State :=
  let bad := sortNats (badCells.filter fun c => c < reservoirCells)
  let t := { s with bpm.bad := bad, qm.shared := true }.setPool 0 { built := true, count := reservoirCells }
  let t := t.setFld Reg.bootRsvBad 18 0 bad.length
  (t.setEvent Reg.qmEvents 0 256).setFld Reg.bootStatus 31 28 5

/-- The switch core changes to shared-buffer mode. -/
def execSharedBufferModeChange (badCells : List Nat) (s : State) : Out :=
  occurs s (s.booting && s.phase == 4) (s.sharedMode badCells)

end Sys2Proof.Machine
end

