-- ==== Sys2Proof/Machine/Gmp.lean ====
section
/-! DEFINITION. GMP messages: format, authentication, sessions, replay and responses (R842–R849, R856). -/
namespace Sys2Proof.Machine

/-! ### Messages (R843, R844) -/

/-- A message as its header gives it; `head` and `mac` are the sizes of header and HMAC. -/
structure Gmp where
  ver : Nat
  ty : Nat
  key : Nat
  session : Nat
  seq : Nat
  tag : Nat
  head : Nat
  mac : Nat
  body : List Byte
  signed : List Byte
  hmac : List Byte
  deriving DecidableEq, Repr, Inhabited

/-- TYPE of a datagram. -/
def gmpType (m : Datagram) : Nat := (byteAt m.bytes 3).toNat

/-- A field in network byte order. -/
def beAt (p : List Byte) (o n : Nat) : Nat := beNat (slice p o n)

/-- The largest UDP payload of a datagram (R842). -/
def payloadLimit (m : Datagram) : Nat := if m.v6 then 1452 else 1472

/-- The message of a datagram; none where it is too long for one packet, or shorter than its header, MAGIC is wrong,
VERSION gives no header, or LENGTH disagrees with it. -/
def parseGmp (m : Datagram) : Option Gmp :=
  let p := m.bytes
  let v := beAt p 2 1
  let head := if v = 1 then 24 else 32
  let mac := if v = 1 then 16 else 32
  let len := if v = 1 then beAt p 0x14 2 else beAt p 0x18 2
  if payloadLimit m < p.length ∨ p.length < head ∨ beAt p 0 2 ≠ 0x4750 ∨ v = 0 ∨ 3 < v ∨ p.length ≠ head + len + mac then none
  else some { ver := v, ty := beAt p 3 1, key := beAt p 4 1, session := beAt p 8 4
              seq := if v = 1 then beAt p 0xC 4 else beAt p 0xC 8
              tag := if v = 1 then beAt p 0x10 4 else beAt p 0x14 4
              head := head, mac := mac, body := slice p head len, signed := p.take (head + len), hmac := slice p (head + len) mac }

/-! ### Authentication (R845) -/

/-- HMAC-SHA-256 with a 32-byte key (RFC 2104). -/
def hmacSha (key : Nat) (msg : List Byte) : List Byte :=
  let k := beBytes key 32 ++ List.replicate 32 0
  let inner := sha256 (k.map (fun b => b ^^^ 0x36#8) ++ msg)
  beBytes (sha256 (k.map (fun b => b ^^^ 0x5C#8) ++ beBytes inner 32)) 32

/-- Whether the module is in service boot. -/
def State.service (s : State) : Bool := s.bit Reg.bootStatus 24

/-- The key that KEY names: a used slot, or the service key in service boot. -/
def State.gmpKey (s : State) (k : Nat) : Option Nat :=
  if k = 0xFF then (if s.service then some s.fuses.serviceKey else none)
  else if k < 4 ∧ s.mgt.keys.get k ≠ 0 ∧ !s.service then some (s.mgt.keys.get k)
  else none

/-- Whether the message is authenticated. -/
def State.authentic (s : State) (g : Gmp) : Bool :=
  match s.gmpKey g.key with
  | some key => (hmacSha key g.signed).take g.mac == g.hmac
  | none => false

/-! ### Counters and the link (R41, R44, R856) -/

/-- Whether frames pass on the management port: the core runs and the link is up (R41). -/
def State.mgtUp (s : State) : Bool := s.coreUp && s.bit Reg.mgtStatus 31

/-- A frame received or sent: the RJ45's right indicator lights for 50 ms (R44). -/
def State.mgtActivity (s : State) : State := { s with mgt.flashNs := 50000000 }

/-- One more in counter `k` of the management port. -/
def State.mgtCount (s : State) (k : Nat) : State := s.bump (Reg.mgtCnt k)

/-- A mismatched HMAC or key. -/
def State.authFail (s : State) (g : Gmp) : State :=
  ((s.mgtCount 2).record Reg.mgtFailInfo (g.ver % 4 * 2 ^ 16 + g.key % 256 * 2 ^ 8 + g.ty % 256)).setEvent Reg.mgtEvents 0 304

/-! ### Sending (R842, R843, R845) -/

/-- A session. -/
def State.session (s : State) (i : Nat) : Session := s.mgt.sessions.get i

/-- The state with a session replaced. -/
def State.setSession (s : State) (i : Nat) (x : Session) : State := { s with mgt.sessions := s.mgt.sessions.set i x }

/-- What a message to a client carries beside its payload. -/
structure Reply where
  ver : Nat
  ty : Nat
  key : Nat
  flags : Nat
  status : Nat
  session : Nat
  seq : Nat
  tag : Nat
  deriving DecidableEq, Repr, Inhabited

/-- The header of a message to a client. -/
def Reply.header (r : Reply) (len : Nat) : List Byte :=
  let front := beBytes 0x4750 2 ++ beBytes r.ver 1 ++ beBytes r.ty 1 ++ beBytes r.key 1 ++ beBytes r.flags 1 ++
    beBytes r.status 2 ++ beBytes r.session 4
  if r.ver = 1 then front ++ beBytes r.seq 4 ++ beBytes r.tag 4 ++ beBytes len 2 ++ [0, 0]
  else front ++ beBytes r.seq 8 ++ beBytes r.tag 4 ++ beBytes len 2 ++ List.replicate 6 0

/-- The whole message under a key. -/
def Reply.message (r : Reply) (key : Nat) (body : List Byte) : List Byte :=
  let m := r.header body.length ++ body
  m ++ (hmacSha key m).take (if r.ver = 1 then 16 else 32)

/-- A message sent to an address and port; without a link none leaves. -/
def State.transmit (s : State) (dest : Datagram) (r : Reply) (body : List Byte) : State :=
  if s.bit Reg.mgtStatus 31 then
    { s with mgt.sent := s.mgt.sent ++ [{ dest with bytes := r.message ((s.gmpKey r.key).getD 0) body }] }.mgtActivity.mgtCount 1
  else s

/-- The response to a request of session `i`, in its version, with its next SEQ. -/
def State.respond (s : State) (i : Nat) (m : Datagram) (g : Gmp) (status : Nat) (body : List Byte) : State :=
  let x := s.session i
  (s.setSession i { x with seqOut := x.seqOut + 1 }).transmit m
    { ver := x.version, ty := g.ty, key := g.key, flags := 1, status := status, session := x.number, seq := x.seqOut + 1, tag := g.tag } body

/-! ### HELLO (R847) -/

/-- VMAX in force. -/
def State.gmpVmax (s : State) : Nat := let v := s.fld Reg.mgtCtrl 30 28; if 1 ≤ v ∧ v ≤ 3 then v else 3

/-- Versions the port speaks, the highest first; only 3 in service boot (R139). -/
def State.gmpVersions (s : State) : List Nat :=
  if s.service then [3] else [3, 2, 1].filter fun v => decide (v ≤ s.gmpVmax) && (v != 1 || s.bit Reg.mgtCtrl 31)

/-- The module's range: lowest version in [7:4], highest in [3:0]. -/
def State.gmpRange (s : State) : Nat := if s.service then 0x33 else (if s.bit Reg.mgtCtrl 31 then 16 else 32) + s.gmpVmax

/-- A session number no open session has. -/
def State.freshNumber (s : State) (n : Nat) : Nat :=
  (((List.range 6).map fun i => (n + i) % 2 ^ 32).find? fun k => k != 0 && !((s.sessionsOpen.map fun i => (s.session i).number).contains k)).getD 1

/-- The lowest free session. -/
def State.freeSession (s : State) : Option Nat := (List.range 4).find? fun i => !(s.session i).isOpen

/-- A session opened for a HELLO, its number and its first notice number free. -/
def State.openSession (s : State) (i : Nat) (m : Datagram) (g : Gmp) (v : Nat) : State :=
  let a := s.draw 32
  let b := a.2.draw 16
  b.2.setSession i { isOpen := true, number := s.freshNumber a.1, version := v, v6 := m.v6, address := m.address, port := m.port
                     key := g.key, notices := b.1 }

/-- A HELLO answered without a session: the SESSION field and the payload's session and version are not given. -/
def State.helloRefused (s : State) (m : Datagram) (g : Gmp) (v status : Nat) : State :=
  let a := s.draw 32
  let b := a.2.draw 8
  b.2.transmit m { ver := v, ty := 1, key := g.key, flags := 1, status := status, session := a.1, seq := 1, tag := g.tag }
    (beBytes a.1 4 ++ beBytes b.1 1 ++ beBytes s.gmpRange 1)

/-- An accepted HELLO. -/
def State.hello (s : State) (m : Datagram) (g : Gmp) : State :=
  let r := beNat g.body
  if g.body.length ≠ 1 then s.helloRefused m g g.ver 1
  else match s.gmpVersions.find? fun v => decide (bitsOf r 7 4 ≤ v) && decide (v ≤ bitsOf r 3 0) with
    | none => (s.helloRefused m g g.ver 2).setEvent Reg.mgtEvents 1 305
    | some v => match s.freeSession with
      | none => s.helloRefused m g v 4
      | some i =>
        let t := s.openSession i m g v
        t.respond i m g 0 (beBytes (t.session i).number 4 ++ beBytes v 1 ++ beBytes s.gmpRange 1)

/-- An authenticated HELLO request (R846). -/
def State.helloRequest (s : State) (m : Datagram) (g : Gmp) : State :=
  if g.session ≠ 0 then s.mgtCount 4
  else if s.mgt.hellos.contains (g.key, g.seq) then s.mgtCount 3
  else ({ s with mgt.hellos := (s.mgt.hellos ++ [(g.key, g.seq)]).drop (s.mgt.hellos.length - 63) }.mgtCount 0).hello m g

/-! ### Other requests (R846–R849) -/

/-- What carrying out a request gives: its status, its payload, the state. -/
structure Served where
  status : Nat := 0
  body : List Byte := []
  st : State
  deriving DecidableEq, Repr, Inhabited

/-- The open session a message names, in its version. -/
def State.sessionOf (s : State) (g : Gmp) : Option Nat :=
  s.sessionsOpen.find? fun i => (s.session i).number == g.session && (s.session i).version == g.ver

/-- Whether SEQ is a replay in a session. -/
def Session.replay (x : Session) (seq : Nat) : Bool := decide (seq + 64 ≤ x.seqHigh) || x.seen.contains seq

/-- A session with SEQ accepted. -/
def Session.accept (x : Session) (seq : Nat) : Session :=
  let h := max x.seqHigh seq
  { x with seqHigh := h, seen := (x.seen ++ [seq]).filter fun k => decide (h < k + 64) }

/-- Whether a request's TYPE is defined in a version. -/
def typeKnown (ty ver : Nat) : Bool :=
  [0x02, 0x10, 0x11, 0x20, 0x21, 0x22, 0x30].contains ty || (2 ≤ ver && [0x12, 0x13].contains ty) ||
    (ver == 3 && [0x31, 0x40, 0x50].contains ty)

/-- An accepted request carried out, its response kept and sent. A request whose own effect has reset the core, and
with it the sessions, is not answered. -/
def State.carryOut (s : State) (i : Nat) (m : Datagram) (g : Gmp) (f : State → Nat → List Byte → Served) : State :=
  let d := if typeKnown g.ty (s.session i).version then f s i g.body else { status := 3, st := s }
  if (d.st.session i).isOpen then
    (d.st.setSession i { d.st.session i with lastTag := some (g.tag, g.ty), lastStatus := d.status, lastBody := d.body }).respond i m g d.status d.body
  else d.st

/-- An authenticated request of a session. -/
def State.sessionRequest (s : State) (i : Nat) (m : Datagram) (g : Gmp) (f : State → Nat → List Byte → Served) : State :=
  let x := s.session i
  if x.replay g.seq then s.mgtCount 3
  else
    let t := (s.setSession i (x.accept g.seq)).mgtCount 0
    if x.lastTag = some (g.tag, g.ty) then (t.mgtCount 5).respond i m g x.lastStatus x.lastBody
    else t.carryOut i m g f

/-- A datagram to port 17700 received (R846); `f` carries its request out. -/
def State.gmpReceive (s : State) (m : Datagram) (f : State → Nat → List Byte → Served) : State :=
  let s := { s with mgt.sent := [] }.mgtActivity
  match parseGmp m with
  | none => s.mgtCount 4
  | some g =>
    if !s.authentic g then s.authFail g
    else if g.ty = 1 then s.helloRequest m g
    else match s.sessionOf g with
      | none => s.mgtCount 4
      | some i => s.sessionRequest i m g f

/-- A row that is a datagram of one TYPE. -/
def gmpRow (ty : Nat) (m : Datagram) (f : State → Nat → List Byte → Served) (s : State) : Out :=
  occurs s (s.mgtUp && gmpType m == ty) (s.gmpReceive m f)

end Sys2Proof.Machine
end

