-- ==== Sys2Proof/Machine/Mgmt.lean ====
section
/-! DEFINITION. The GMP requests, sessions' ends and event notices (R847–R853, R870). -/
namespace Sys2Proof.Machine

/-- A request refused with a status. -/
def refuse (s : State) (status : Nat) : Served := { status := status, st := s }

/-! ### Registers and memory (R850) -/

/-- The addresses of a list whose items are `w` bytes long. -/
def addrsOf (b : List Byte) (w : Nat) : List Nat := (List.range (b.length / w)).map fun i => beAt b (w * i) 4

/-- Whether a payload is a list of 1–64 items of `w` bytes. -/
def listOk (b : List Byte) (w : Nat) : Bool := b.length % w == 0 && 0 < b.length && b.length ≤ 64 * w

/-- Reads in list order. -/
def readAll : List Nat → State → List Byte × State
  | [], s => ([], s)
  | a :: l, s =>
    let r := s.busRead 4 a
    let q := readAll l r.2
    (beBytes r.1.toNat 4 ++ q.1, q.2)

/-- REG_READ carried out; service boot permits reads of GLB, SSV and BOOT. -/
def doRegRead (s : State) (_ : Nat) (b : List Byte) : Served :=
  let l := addrsOf b 4
  if !listOk b 4 then refuse s 1
  else if s.service && l.any (fun a => decide (0x30000 ≤ a)) then refuse s 7
  else if l.any fun a => a % 4 != 0 then refuse s 5
  else { body := (readAll l s).1, st := (readAll l s).2 }

/-- REG_WRITE carried out. -/
def doRegWrite (s : State) (_ : Nat) (b : List Byte) : Served :=
  if !listOk b 8 then refuse s 1
  else if s.service then refuse s 7
  else if (addrsOf b 8).any fun a => a % 4 != 0 then refuse s 5
  else { st := (List.range (b.length / 8)).foldl (fun t i => t.busWrite 4 (beAt b (8 * i) 4) (BitVec.ofNat 32 (beAt b (8 * i + 4) 4))) s }

/-- Whether `n` bytes from `a` are all local memory or DRAM. -/
def rangeMapped (a n : Nat) : Bool := memMapped a && memMapped (a + n - 1) && (inDram a == inDram (a + n - 1))

/-- MEM_READ carried out. -/
def doMemRead (s : State) (_ : Nat) (b : List Byte) : Served :=
  let a := beAt b 0 8
  let n := beAt b 8 2
  if b.length ≠ 10 ∨ n = 0 ∨ 1024 < n then refuse s 1
  else if s.service then refuse s 7
  else if !rangeMapped a n then refuse s 6
  else { body := s.ldBytes a n, st := s }

/-- MEM_WRITE carried out. -/
def doMemWrite (s : State) (_ : Nat) (b : List Byte) : Served :=
  let a := beAt b 0 8
  let n := b.length - 8
  if b.length < 9 ∨ 1024 < n then refuse s 1
  else if s.service then refuse s 7
  else if !rangeMapped a n then refuse s 6
  else { st := s.stBytes a (b.drop 8) }

/-! ### Images (R118, R851) -/

/-- Bytes of an image slot. -/
def slotBytes : Nat := 0x7800000

/-- The sectors of `n` bytes of a slot erased. -/
def State.eraseSlot (s : State) (slot n : Nat) : State :=
  let k := (n + 0xFFFF) / 0x10000
  { s with flash.bytes := clearRange s.flash.bytes (slot * 0x8000000) (k * 0x10000)
           flash.erases := (List.range k).foldl (fun m i => m.mod (slot * 0x800 + i) fun c => c + 1) s.flash.erases }

/-- Whether another session has an image write open. -/
def State.writeElsewhere (s : State) (i : Nat) : Bool := s.sessionsOpen.any fun j => j != i && (s.session j).image.isSome

/-- IMAGE_BEGIN carried out. -/
def doImageBegin (s : State) (i : Nat) (b : List Byte) : Served :=
  let slot := beAt b 0 1
  let n := beAt b 1 4
  if b.length ≠ 5 ∨ 2 ≤ slot ∨ slotBytes < n then refuse s 1
  else if !s.service && slot == s.runningSlot then refuse s 7
  else if s.writeElsewhere i then refuse s 4
  else { st := (s.setSession i { s.session i with image := some (slot, n) }).eraseSlot slot n }

/-- IMAGE_DATA carried out. -/
def doImageData (s : State) (i : Nat) (b : List Byte) : Served :=
  let o := beAt b 0 4
  let n := b.length - 4
  if b.length < 5 ∨ 1024 < n then refuse s 1
  else match (s.session i).image with
    | none => refuse s 8
    | some (slot, len) =>
      if len < o + n then refuse s 1
      else { st := { s with flash.bytes := putBytes s.flash.bytes (slot * 0x8000000 + o) (b.drop 4) } }

/-- The start of a validation, rejected while another runs. -/
def State.startValidation (s : State) (slot : Nat) : State :=
  if s.mgt.validating.isSome then s.cmdReject Reg.mgtImgResult
  else { s with mgt.validating := some slot }.cmdAccept Reg.mgtImgResult

/-- IMAGE_END carried out. -/
def doImageEnd (s : State) (i : Nat) (b : List Byte) : Served :=
  if b ≠ [] then refuse s 1
  else match (s.session i).image with
    | none => refuse s 8
    | some (slot, _) => { st := (s.setSession i { s.session i with image := none }).startValidation slot }

/-! ### The other requests (R852, R853, R870) -/

/-- Whether a RESTART request will be obeyed. -/
def State.restartOk (s : State) (b : List Byte) : Bool := b.length == 1 && beNat b < 4 && s.boot.stop == .none

/-- RESTART answered; what it starts follows the answer. -/
def doRestart (s : State) (_ : Nat) (b : List Byte) : Served :=
  if b.length ≠ 1 ∨ 4 ≤ beNat b then refuse s 1 else if s.boot.stop ≠ .none then refuse s 8 else { st := s }

/-- LOCATE carried out. -/
def doLocate (s : State) (_ : Nat) (b : List Byte) : Served :=
  if b.length ≠ 1 ∨ 2 ≤ beNat b then refuse s 1
  else if s.service then refuse s 7
  else { st := { s with mgt.locate := beNat b == 1 } }

/-- SUBSCRIBE carried out. -/
def doSubscribe (s : State) (i : Nat) (b : List Byte) : Served :=
  if b.length ≠ 40 then refuse s 1
  else if s.service then refuse s 7
  else { st := s.setSession i { s.session i with mask := beNat b } }

/-- FAULT_READ carried out. -/
def doFaultRead (s : State) (_ : Nat) (b : List Byte) : Served :=
  let slot := beAt b 0 1
  let o := beAt b 1 4
  let n := beAt b 5 2
  if b.length ≠ 7 ∨ 64 ≤ slot ∨ n = 0 ∨ 1024 < n ∨ 0x10000 < o + n then refuse s 1
  else { body := getBytes s.flash.bytes (0x7800000 + slot * 0x10000 + o) n, st := s }

/-! ### The rows -/

/-- GMP_HELLO, and a datagram of a TYPE that no request has. -/
def execGmpHello (m : Datagram) (s : State) : Out :=
  occurs s (s.mgtUp && !typeKnown (gmpType m) 3) (s.gmpReceive m fun t _ _ => refuse t 3)

/-- REG_READ. -/
def execRegRead (m : Datagram) (s : State) : Out := gmpRow 0x10 m doRegRead s

/-- REG_WRITE. -/
def execRegWrite (m : Datagram) (s : State) : Out := gmpRow 0x11 m doRegWrite s

/-- MEM_READ. -/
def execMemRead (m : Datagram) (s : State) : Out := gmpRow 0x12 m doMemRead s

/-- MEM_WRITE. -/
def execMemWrite (m : Datagram) (s : State) : Out := gmpRow 0x13 m doMemWrite s

/-- IMAGE_BEGIN. -/
def execImageBegin (m : Datagram) (s : State) : Out := gmpRow 0x20 m doImageBegin s

/-- IMAGE_DATA. -/
def execImageData (m : Datagram) (s : State) : Out := gmpRow 0x21 m doImageData s

/-- IMAGE_END. -/
def execImageEnd (m : Datagram) (s : State) : Out := gmpRow 0x22 m doImageEnd s

/-- LOCATE. -/
def execLocate (m : Datagram) (s : State) : Out := gmpRow 0x31 m doLocate s

/-- SUBSCRIBE. -/
def execSubscribe (m : Datagram) (s : State) : Out := gmpRow 0x40 m doSubscribe s

/-- FAULT_READ. -/
def execFaultRead (m : Datagram) (s : State) : Out := gmpRow 0x50 m doFaultRead s

/-- The session in which a datagram is carried out as a new request: accepted, and no repetition of the last. -/
def State.freshRequest (s : State) (m : Datagram) : Option (Nat × Gmp) :=
  match parseGmp m with
  | none => none
  | some g =>
    if !s.authentic g then none
    else match s.sessionOf g with
      | none => none
      | some i =>
        let x := s.session i
        if x.replay g.seq || x.lastTag == some (g.tag, g.ty) then none else some (i, g)

/-- BYE: the session closes once it is answered. -/
def State.bye (s : State) (m : Datagram) : State :=
  let t := s.gmpReceive m fun t _ b => if b = [] then { st := t } else refuse t 1
  match s.freshRequest m with
  | some (i, g) => if g.body = [] then t.setSession i {} else t
  | none => t

/-- BYE. -/
def execBye (m : Datagram) (s : State) : Out := occurs s (s.mgtUp && gmpType m == 0x02) (s.bye m)

/-- RESTART: the answer, then the sequence of R144. -/
def State.gmpRestart (s : State) (m : Datagram) : State :=
  let t := s.gmpReceive m doRestart
  match s.freshRequest m with
  | some (_, g) => if s.restartOk g.body then t.restart (beNat g.body) else t
  | none => t

/-- RESTART. -/
def execGmpRestart (m : Datagram) (s : State) : Out := occurs s (s.mgtUp && gmpType m == 0x30) (s.gmpRestart m)

/-! ### Time-outs and notices (R847, R853) -/

/-- SESSION_S in force. -/
def State.sessionS (s : State) : Nat := min 3600 (max 1 (s.fld Reg.mgtCtrl 11 0))

/-- A session idle for SESSION_S closes. -/
def execSessionTimeout (session idleMs : Nat) (s : State) : Out :=
  whenWf (session < 4)
    (occurs s (s.coreUp && (s.session session).isOpen && decide (s.sessionS * 1000 ≤ idleMs)) (s.setSession session {}))

/-- The words of target 4 that hold enabled bits. -/
def State.noticeWords (s : State) : List Nat :=
  (List.range 10).filter fun w => Nat.land (s.rd (Reg.evcPending 4 w)).toNat (s.rd (Reg.evcEnable 4 w)).toNat != 0

/-- The sources that some version-3 session subscribes: the bits of others are cleared and not sent (R853). -/
def State.subscribed (s : State) : Nat :=
  (s.sessionsOpen.filter fun i => (s.session i).version == 3).foldl (fun n i => Nat.lor n (s.session i).mask) 0

/-- The enabled sources pending that some session subscribes, bit `n` for source `n`. -/
def State.noticeBits (s : State) : Nat :=
  Nat.land s.subscribed
    (s.noticeWords.map fun w => Nat.land (s.rd (Reg.evcPending 4 w)).toNat (s.rd (Reg.evcEnable 4 w)).toNat * 2 ^ (32 * w)).sum

/-- An EVENT_NOTICE to a session; its TAG is not given. -/
def State.notice (s : State) (i bits : Nat) : State :=
  let x := s.session i
  let n := (x.notices + 1) % 65536
  let d := s.draw 32
  (d.2.setSession i { x with seqOut := x.seqOut + 1, notices := n }).transmit
    { v6 := x.v6, address := x.address, port := x.port, bytes := [] }
    { ver := x.version, ty := 0x41, key := x.key, flags := 0, status := 0, session := x.number, seq := x.seqOut + 1, tag := d.1 }
    (beBytes n 2 ++ [0, 0] ++ beBytes s.ns64 8 ++ beBytes bits 40)

/-- The sessions that a notice of these sources goes to. -/
def State.subscribers (s : State) (bits : Nat) : List Nat :=
  s.sessionsOpen.filter fun i => (s.session i).version == 3 && Nat.land (s.session i).mask bits != 0

/-- The pending words read and cleared, and the notices sent. -/
def State.poll (s : State) : State :=
  let bits := s.noticeBits
  let t := s.noticeWords.foldl (fun t w => readPending 4 w t) { s with mgt.sent := [], mgt.polled := s.tb.run }
  (s.subscribers bits).foldl (fun t i => t.notice i bits) t

/-- NOTICE_MS in force, as a time (R855). -/
def State.noticeTime (s : State) : Nat := max 1 (s.fld Reg.mgtCtrl 23 16) * msUnit

/-- NOTICE_MS has passed since the last poll (R853). -/
def execNoticePoll (s : State) : Out := occurs s (s.coreUp && s.mgt.polled + s.noticeTime ≤ s.tb.run) s.poll

/-- The management link comes up or goes down: it comes up only with a partner that offers 1000BASE-T (R41). -/
def execMgtLinkChange (partner : List LinkRate) (connected : Bool) (s : State) : Out :=
  occurs s s.coreUp (s.setBit Reg.mgtStatus 31 (connected && partner.contains .base1000T))

end Sys2Proof.Machine
end

