-- ==== Sys2Proof/Machine/MgtNet.lean ====
section
/-! DEFINITION. What the management port answers beside GMP: ARP, IPv6 neighbour discovery, echo (R840–R842), with the
frame layouts of RFC 826, RFC 791, RFC 792, RFC 4443 and RFC 4861 (PRESUMED); and the JTAG register access (R860). -/
namespace Sys2Proof.Machine

/-! ### Addresses (R840, R841) -/

/-- The port's MAC address. -/
def State.mgtMac (s : State) : List Byte := 2 :: beBytes (s.fuses.serial % 2 ^ 40) 5

/-- The link-local address formed from the MAC address. -/
def State.linkLocal (s : State) : List Byte :=
  let m := s.mgtMac
  beBytes 0xFE80 2 ++ List.replicate 6 0 ++ [byteAt m 0 ^^^ 2#8] ++ slice m 1 2 ++ [0xFF, 0xFE] ++ slice m 3 3

/-- The port's IPv6 addresses. -/
def State.own6 (s : State) : List (List Byte) :=
  s.linkLocal :: (if s.bit Reg.mgtAddrCfg 17 && !s.service then
    [(List.range 4).flatMap fun i => beBytes (s.rd (Reg.mgtIp6 i)).toNat 4] else [])

/-- The port's IPv4 address. -/
def State.own4 (s : State) : Option (List Byte) :=
  if s.bit Reg.mgtAddrCfg 16 && !s.service then some (beBytes (s.rd Reg.mgtIp4).toNat 4) else none

/-! ### Checksums -/

/-- The ones'-complement checksum of bytes. -/
def inetSum (bs : List Byte) : List Byte := beBytes (Nat.xor (onesFold (sumWords bs)) 0xFFFF) 2

/-- The checksum of an ICMPv6 message under its addresses. -/
def icmp6Sum (src dst msg : List Byte) : List Byte := inetSum (src ++ dst ++ beBytes msg.length 4 ++ [0, 0, 0, 58] ++ msg)

/-- An ICMPv6 message with its checksum. -/
def icmp6Msg (src dst : List Byte) (front rest : List Byte) : List Byte :=
  front ++ icmp6Sum src dst (front ++ [0, 0] ++ rest) ++ rest

/-! ### Answers -/

/-- A frame from the port. -/
def State.mgtFrameTo (s : State) (dst : List Byte) (etherType : Nat) (p : List Byte) : List Byte :=
  dst ++ s.mgtMac ++ beBytes etherType 2 ++ p

/-- The answer to an ARP request for the port's address. -/
def State.arpAnswer (s : State) (p : List Byte) : Option (List Byte) :=
  match s.own4 with
  | none => none
  | some a =>
    if slice p 0 8 = [0, 1, 8, 0, 6, 4, 0, 1] ∧ slice p 24 4 = a then
      some (s.mgtFrameTo (slice p 8 6) 0x0806 ([0, 1, 8, 0, 6, 4, 0, 2] ++ s.mgtMac ++ a ++ slice p 8 10))
    else none

/-- An IPv4 packet whose TTL and identification are not given. -/
def ip4Packet (ttl ident : Nat) (src dst msg : List Byte) : List Byte :=
  let front := [0x45, 0] ++ beBytes (20 + msg.length) 2 ++ beBytes ident 2 ++ [0, 0] ++ beBytes ttl 1 ++ [1]
  front ++ inetSum (front ++ [0, 0] ++ src ++ dst) ++ src ++ dst ++ msg

/-- The message of an IPv4 packet. -/
def ip4Payload (p : List Byte) : List Byte :=
  let h := (byteAt p 0).toNat % 16 * 4
  slice p h (beAt p 2 2 - h)

/-- The answer to an ICMP echo request for the port's address. -/
def State.echo4 (s : State) (mac p : List Byte) (ttl ident : Nat) : Option (List Byte) :=
  match s.own4 with
  | none => none
  | some a =>
    let msg := ip4Payload p
    if slice p 16 4 = a ∧ byteAt p 9 = 1 ∧ slice msg 0 2 = [8, 0] then
      let rest := msg.drop 4
      some (s.mgtFrameTo mac 0x0800 (ip4Packet ttl ident a (slice p 12 4) ([0, 0] ++ inetSum ([0, 0, 0, 0] ++ rest) ++ rest)))
    else none

/-- An IPv6 packet with an ICMPv6 message. -/
def ip6Packet (hops : Nat) (src dst msg : List Byte) : List Byte :=
  [0x60, 0, 0, 0] ++ beBytes msg.length 2 ++ [58] ++ beBytes hops 1 ++ src ++ dst ++ msg

/-- The answer to a neighbour solicitation or an ICMPv6 echo request for one of the port's addresses. -/
def State.answer6 (s : State) (mac p : List Byte) (hops : Nat) : Option (List Byte) :=
  let src := slice p 8 16
  let msg := slice p 40 (beAt p 4 2)
  let target := slice msg 8 16
  if byteAt p 6 ≠ 58 then none
  else if byteAt msg 0 = 135 ∧ s.own6.contains target then
    some (s.mgtFrameTo mac 0x86DD (ip6Packet 255 target src (icmp6Msg target src [136, 0] ([0x60, 0, 0, 0] ++ target ++ [2, 1] ++ s.mgtMac))))
  else if byteAt msg 0 = 128 ∧ s.own6.contains (slice p 24 16) then
    some (s.mgtFrameTo mac 0x86DD (ip6Packet hops (slice p 24 16) src (icmp6Msg (slice p 24 16) src [129, 0] (msg.drop 4))))
  else none

/-! ### Reception -/

/-- Whether a frame is an IP fragment. -/
def ipFragment (et : Nat) (p : List Byte) : Bool :=
  (et == 0x0800 && beAt p 6 2 % 0x4000 != 0) || (et == 0x86DD && byteAt p 6 == 44)

/-- The answer to a frame, the values it takes that the spec does not give drawn. -/
def State.answerFrame (s : State) (f : List Byte) (a b : Nat) : Option (List Byte) :=
  let p := f.drop 14
  let et := beAt f 12 2
  if et = 0x0806 then s.arpAnswer p
  else if et = 0x0800 then s.echo4 (slice f 6 6) p a b
  else if et = 0x86DD then s.answer6 (slice f 6 6) p a
  else none

/-- A frame that carries no GMP datagram: counted when it is a fragment, answered, or discarded. -/
def State.mgtReceive (s : State) (f : List Byte) : State :=
  if ipFragment (beAt f 12 2) (f.drop 14) then s.mgtCount 4
  else
    let a := s.draw 8
    let b := a.2.draw 16
    match s.answerFrame f a.1 b.1 with
    | some r => { b.2.mgtActivity with mgt.frame := r }
    | none => s

/-- A frame arrives on the management port. -/
def execMgtFrameReceive (bytes : List Byte) (s : State) : Out := occurs s s.mgtUp (s.mgtActivity.mgtReceive bytes)

/-! ### REGACC (R860, R862) -/

/-- What Capture-DR loads under REGACC. -/
def State.regaccCapture (s : State) : Nat := b2n s.test.accDone * 2 ^ 56 + s.test.accAddr * 2 ^ 32 + s.test.accVal

/-- The register access of an Update-DR. -/
def State.regaccAccess (s : State) (dr : Nat) : State :=
  let a := bitsOf dr 55 34 * 4
  if bitAt dr 56 then
    let t := s.busWrite 6 a (BitVec.ofNat 32 dr)
    { t with test.accAddr := a, test.accVal := 0, test.accDone := true }
  else
    let r := s.busRead 6 a
    { r.2 with test.accAddr := a, test.accVal := r.1.toNat, test.accDone := true }

/-- REGACC: Capture-DR, then Update-DR with the bits shifted in; BYPASS on a locked module. -/
def execRegacc (dr : Nat) (s : State) : Out :=
  occurs s s.supply.on
    (if s.fuses.jtagLock then s.jtag 0x20 0
     else (s.jtag 0x20 s.regaccCapture).regaccAccess dr)

end Sys2Proof.Machine
end

