-- ==== Sys2Proof/Machine/Cycles.lean ====
section
/-! DEFINITION. What is counted by the cycle: the domains' cycles, back-pressure, cells in use, threads that wait, the
waits of flow operations, and the engine events that last (R340, R517, R545, R827, R830). -/
namespace Sys2Proof.Machine

/-- Cycles of a clock of `khz` between two running times. -/
def cyclesBetween (khz a b : Nat) : Nat := b * khz / (1000000 * nsUnit) - a * khz / (1000000 * nsUnit)

/-- Whether a thread waits for a helper or flow-operation result (R376). -/
def Thread.waits (t : Thread) : Bool := t.wait.isSome

/-- Cells of pool 0 in use. -/
def State.cellsUsed (s : State) : Nat := if (s.pool 0).built then s.poolCount 0 - s.poolFree 0 else 0

/-- The PMC's count events of the four domains' cycles, and of what lasts in them (R827). -/
def State.countDomains (s : State) (core flume parse ctrl : Nat) : State :=
  if s.selected.isEmpty then s
  else
    let s := (((s.count 1 [] core).count 2 [] flume).count 3 [] parse).count 4 [] ctrl
    let s := if s.backPressure then s.count 50 [] parse else s
    let s := (List.range 16).foldl (fun t n =>
      t.count 58 [n] (flume * (s.flume.threads.entries.filter fun x => x.1 / 128 == n && x.2.waits).length)) s
    s.count 74 [] (core * s.cellsUsed)

/-- The waits of the flow operations left waiting, in CORE cycles (R517, R545); those of STAGE_WAITS and LOG_WAITS are a
count event too (R827). -/
def State.countWaits (s : State) (core : Nat) : State :=
  s.flume.threads.entries.foldl (fun t x =>
    (([x.2.wait, x.2.late].filterMap id).filterMap CallWait.counter).foldl (fun t a =>
      let t := t.bump a core
      if a = Reg.fleCnt 5 ∨ a = Reg.fleCnt 6 then t.count 68 [] core else t) t) s

/-- The engine events of one engine that last: its masked threads hold a context, wait, or one of them blocks the others
inside a REPX (R830). -/
def State.countEngine (s : State) (flume n e : Nat) : State :=
  let ts := (List.range 8).filter (s.masked n)
  let holds := ts.any fun th => (s.thr n e th).ctx.isSome
  let waits := (ts.filter fun th => (s.thr n e th).waits).length
  let rep := ts.any fun th => s.flume.repx.get (n * 16 + e) == some th
  ((s.engAdd n e 2 (flume * b2n holds)).engAdd n e 3 (flume * waits)).engAdd n e 7 (flume * b2n rep)

/-- The engine events that last, in the clusters whose ENG_SEL has been written. -/
def State.countEngines (s : State) (flume : Nat) : State :=
  (s.regs.entries.filter fun r => Reg.pmcEngSel 0 ≤ r.1 && r.1 ≤ Reg.pmcEngSel 15).foldl (fun t r =>
    (List.range 16).foldl (fun t e => t.countEngine flume ((r.1 - Reg.pmcEngSel 0) / 4) e) t) s

/-- What the cycles of an edge count: `s` is the state before it, `t` after the time base's. -/
def State.countCycles (s t : State) : State :=
  let of := fun d : Nat => cyclesBetween (s.domainKhz d) s.tb.run t.tb.run
  let flume := t.flume.cycles / 1000000 - s.flume.cycles / 1000000
  let t := if s.backPressure then t.bump Reg.dspBpCycles (of 2) else t
  ((t.countDomains (of 0) flume (of 2) (of 3)).countWaits (of 0)).countEngines flume

end Sys2Proof.Machine
end

