-- ==== Sys2Proof/Machine/Tick.lean ====
section
/-! DEFINITION. What happens at a clock edge whatever is commanded: one edge of the TIMING clock, 1 ns (R656, R659,
R131, R160), with what T's reaching a boundary brings: the ends of the fixed windows and of the bandwidth window, the
second of the lateral time exchange (R722), the periodic snapshot, the sampler, the 1PPS OUT edge. A row that is such a moment is the edge at which it comes. -/
namespace Sys2Proof.Machine

/-- What T's reaching a new microsecond brings, `us` microseconds in all: the bandwidth window ends (R833), the periodic
snapshot is taken (R829), a sample period starts (R646). -/
def State.newMicro (s : State) (us : Nat) : State :=
  let s := if s.bwEnds us then s.closeBw else s
  let s := if s.snapDue us then s.snapshot else s
  if s.sampleDue us then s.sampleAll us else s

/-- What T's reaching boundaries brings to `t`, the state after an edge that began at `s`. -/
def State.boundaries (s t : State) : State :=
  let t := if s.ppsReached then { t with tb.ppsOut := s.ppsSecondAt s.nextTotal } else t
  if !s.crosses usUnit then t
  else
    let t := if s.crosses msUnit then t.endMs else t
    let t := if s.crosses secUnit then t.endSecond.stackSecond s.tb.sec else t
    t.newMicro (s.nextTotal / usUnit)

/-- The FLUME domain's cycles of one nanosecond (R181, R361). -/
def State.flumeEdge (s : State) : State := { s with flume.cycles := s.flume.cycles + s.domainKhz 1 }

/-- The running core's edge: a waiting SEARCH is served (R471), the time base counts, the watchdog and the confirmation time run,
and what is counted by the cycle is. -/
def State.coreTick (s : State) : State :=
  let s := s.searchStep.stopEdge
  let t := tbEdge { s.flumeEdge with boot.wdNs := if s.bit Reg.bootSyswd 31 then s.boot.wdNs + 1 else s.boot.wdNs
                                     boot.runNs := if s.imageRuns then s.boot.runNs + 1 else s.boot.runNs }
  s.boundaries (s.countCycles t)

/-- One edge: with the core reset or unpowered the always-on timekeeper counts on. The flash of the RJ45's right indicator
runs out (R44). -/
def tick (s : State) : State :=
  let s := { s with mgt.flashNs := s.mgt.flashNs - 1 }
  if s.coreUp then s.coreTick
  else if s.aon.alive ∧ s.boot.core ≠ .running then { s with aon.timekeeper := (s.aon.timekeeper + nsUnit) % timeSpan }
  else s

/-! ### Rows that are the edge of a moment -/

/-- The FRC wraps (R685). -/
def execFrcWrap (s : State) : Out := occurs s (s.coreUp && s.frcWraps) (tick s)

/-- A fixed alarm window ends, and its counts restart (R234, R268, R373, R397, R506, R756, R775). -/
def execAlarmWindowEnd (window : AlarmWindow) (s : State) : Out :=
  occurs s (s.coreUp && s.crosses (match window with | .millisecond => msUnit | .second => secUnit)) (tick s)

/-- The time base reaches a SNAP_PERIOD boundary: a snapshot, where a period is set (R829). -/
def execSnapshotPeriod (s : State) : Out :=
  occurs s (s.coreUp && s.crosses usUnit && s.snapDue (s.nextTotal / usUnit)) (tick s)

/-- A bandwidth window closes (R833). -/
def execBwWindowClose (s : State) : Out :=
  occurs s (s.coreUp && s.crosses usUnit && s.bwEnds (s.nextTotal / usUnit)) (tick s)

/-- A sample period starts (R646). -/
def execSamplePeriod (s : State) : Out :=
  occurs s (s.coreUp && s.crosses usUnit && s.sampleDue (s.nextTotal / usUnit)) (tick s)

/-- A 1PPS OUT edge is sent (R675). -/
def execPpsOutEdge (s : State) : Out := occurs s (s.coreUp && s.ppsReached) (tick s)

end Sys2Proof.Machine
end

