-- ==== Sys2Proof/Machine/Dispatch.lean ====
section
/-! DEFINITION. The effect of a command: one arm per row of the command table, each one call of its meaning. -/
namespace Sys2Proof.Machine

/-- The effect of a command on everything but the queue. -/
def exec (i : Instr) (s : State) : Host.Outcome State Fault Refusal :=
  match i with
  | .powerOn vrms bootsel => Sys2Proof.Machine.execPowerOn vrms bootsel s
  | .resetRelease => Sys2Proof.Machine.execResetRelease s
  | .imageValidation slot flashOk => Sys2Proof.Machine.execImageValidation slot flashOk s
  | .sectionsLoaded => Sys2Proof.Machine.execSectionsLoaded s
  | .faultRecordWrite => Sys2Proof.Machine.execFaultRecordWrite s
  | .dramTraining stack ok => Sys2Proof.Machine.execDramTraining stack ok s
  | .selfRefreshExit => Sys2Proof.Machine.execSelfRefreshExit s
  | .regionsCleared => Sys2Proof.Machine.execRegionsCleared s
  | .revalidateRecord readout => Sys2Proof.Machine.execRevalidateRecord readout s
  | .recoveryWindowClose micros => Sys2Proof.Machine.execRecoveryWindowClose micros s
  | .blobCopyDone => Sys2Proof.Machine.execBlobCopyDone s
  | .serdesCalibration group ok => Sys2Proof.Machine.execSerdesCalibration group ok s
  | .forwardingStart => Sys2Proof.Machine.execForwardingStart s
  | .sharedBufferModeChange badCells => Sys2Proof.Machine.execSharedBufferModeChange badCells s
  | .confirmTimeout => Sys2Proof.Machine.execConfirmTimeout s
  | .syswdExpire => Sys2Proof.Machine.execSyswdExpire s
  | .syswdHalf => Sys2Proof.Machine.execSyswdHalf s
  | .faultCaptureClose captureBytes captureNs => Sys2Proof.Machine.execFaultCaptureClose captureBytes captureNs s
  | .supplyMeasure m => Sys2Proof.Machine.execSupplyMeasure m s
  | .sag vrms heldMs => Sys2Proof.Machine.execSag vrms heldMs s
  | .interruption vrms heldMs => Sys2Proof.Machine.execInterruption vrms heldMs s
  | .brownOut vrms freq heldMs => Sys2Proof.Machine.execBrownOut vrms freq heldMs s
  | .orderlyStopCoreOff => Sys2Proof.Machine.execOrderlyStopCoreOff s
  | .orderlyRestart vrms freq inlet diode heldMs => Sys2Proof.Machine.execOrderlyRestart vrms freq inlet diode heldMs s
  | .highInput vrms => Sys2Proof.Machine.execHighInput vrms s
  | .overVoltage vrms => Sys2Proof.Machine.execOverVoltage vrms s
  | .inputRelayOpen => Sys2Proof.Machine.execInputRelayOpen s
  | .surge milliamps => Sys2Proof.Machine.execSurge milliamps s
  | .peOpen ohms heldMs => Sys2Proof.Machine.execPeOpen ohms heldMs s
  | .lnSwap heldMs => Sys2Proof.Machine.execLnSwap heldMs s
  | .conditionClear which absentMs => Sys2Proof.Machine.execConditionClear which absentMs s
  | .relayClose vrms heldMs bootsel => Sys2Proof.Machine.execRelayClose vrms heldMs bootsel s
  | .powerFail lostMs => Sys2Proof.Machine.execPowerFail lostMs s
  | .fuseTrip cage => Sys2Proof.Machine.execFuseTrip cage s
  | .fuseRetry cage trips => Sys2Proof.Machine.execFuseRetry cage trips s
  | .opticInserted cage heldMs cmis => Sys2Proof.Machine.execOpticInserted cage heldMs cmis s
  | .opticRemoved cage => Sys2Proof.Machine.execOpticRemoved cage s
  | .shedStep => Sys2Proof.Machine.execShedStep s
  | .overloadClockStep => Sys2Proof.Machine.execOverloadClockStep s
  | .overloadClockRise => Sys2Proof.Machine.execOverloadClockRise s
  | .fanFailed fan percent heldMs => Sys2Proof.Machine.execFanFailed fan percent heldMs s
  | .fanRunning fan percent heldMs => Sys2Proof.Machine.execFanRunning fan percent heldMs s
  | .thermalStepDown inlet tj heldMs => Sys2Proof.Machine.execThermalStepDown inlet tj heldMs s
  | .thermalStepUp inlet tj heldMs => Sys2Proof.Machine.execThermalStepUp inlet tj heldMs s
  | .thermalStop tj => Sys2Proof.Machine.execThermalStop tj s
  | .excursionMinute inlet => Sys2Proof.Machine.execExcursionMinute inlet s
  | .excursionLogWrite inlet sinceMs => Sys2Proof.Machine.execExcursionLogWrite inlet sinceMs s
  | .inputStateMeasure input millivolts signal => Sys2Proof.Machine.execInputStateMeasure input millivolts signal s
  | .pllLockLoss pll => Sys2Proof.Machine.execPllLockLoss pll s
  | .freqMeasure acc v => Sys2Proof.Machine.execFreqMeasure acc v s
  | .freqMeasureDone khz => Sys2Proof.Machine.execFreqMeasureDone khz s
  | .pgGateWrite acc v => Sys2Proof.Machine.execPgGateWrite acc v s
  | .throttleCeilingWrite acc v => Sys2Proof.Machine.execThrottleCeilingWrite acc v s
  | .shedClr acc v => Sys2Proof.Machine.execShedClr acc v s
  | .fuseRearm acc v => Sys2Proof.Machine.execFuseRearm acc v s
  | .registerWrite acc addr v => Sys2Proof.Machine.execRegisterWrite acc addr v s
  | .svnRaise acc v => Sys2Proof.Machine.execSvnRaise acc v s
  | .keyRevoke acc v => Sys2Proof.Machine.execKeyRevoke acc v s
  | .confirm acc v => Sys2Proof.Machine.execConfirm acc v s
  | .restartCommand acc v => Sys2Proof.Machine.execRestartCommand acc v s
  | .syswdKick acc v => Sys2Proof.Machine.execSyswdKick acc v s
  | .signalDetect port copper => Sys2Proof.Machine.execSignalDetect port copper s
  | .anComplete port ability => Sys2Proof.Machine.execAnComplete port ability s
  | .alignmentLock port m => Sys2Proof.Machine.execAlignmentLock port m s
  | .debounceExpire port heldMs m fec => Sys2Proof.Machine.execDebounceExpire port heldMs m fec s
  | .remoteFault port => Sys2Proof.Machine.execRemoteFault port s
  | .remoteFaultClear port heldMs m => Sys2Proof.Machine.execRemoteFaultClear port heldMs m s
  | .linkLoss port => Sys2Proof.Machine.execLinkLoss port s
  | .tailVerdict t => Sys2Proof.Machine.execTailVerdict t s
  | .pfcFrameReceive port frame => Sys2Proof.Machine.execPfcFrameReceive port frame s
  | .pauseFrameReceive port frame => Sys2Proof.Machine.execPauseFrameReceive port frame s
  | .pfcPauseExpire port cls quanta => Sys2Proof.Machine.execPfcPauseExpire port cls quanta s
  | .pgCtrlWrite acc group v => Sys2Proof.Machine.execPgCtrlWrite acc group v s
  | .portCtrlWrite acc port v => Sys2Proof.Machine.execPortCtrlWrite acc port v s
  | .alarmWindowEnd window => Sys2Proof.Machine.execAlarmWindowEnd window s
  | .frameAdmit port frame => Sys2Proof.Machine.execFrameAdmit port frame s
  | .ingressCellTake pkt err => Sys2Proof.Machine.execIngressCellTake pkt err s
  | .headerOffer group newCycle => Sys2Proof.Machine.execHeaderOffer group newCycle s
  | .parseStart slice whole => Sys2Proof.Machine.execParseStart slice whole s
  | .microwordExecute slice err => Sys2Proof.Machine.execMicrowordExecute slice err s
  | .parseEnd slice => Sys2Proof.Machine.execParseEnd slice s
  | .ucWrite acc v => Sys2Proof.Machine.execUcWrite acc v s
  | .ucRead acc v => Sys2Proof.Machine.execUcRead acc v s
  | .hdgCtrlWrite acc v => Sys2Proof.Machine.execHdgCtrlWrite acc v s
  | .lookup group lane upsets err => Sys2Proof.Machine.execLookup group lane upsets err s
  | .walkStep table replica upsets err => Sys2Proof.Machine.execWalkStep table replica upsets err s
  | .weirCmdWrite acc v => Sys2Proof.Machine.execWeirCmdWrite acc v s
  | .weirCmdInvalidate acc v => Sys2Proof.Machine.execWeirCmdInvalidate acc v s
  | .weirCmdRead acc v => Sys2Proof.Machine.execWeirCmdRead acc v s
  | .weirCmdSearch acc v => Sys2Proof.Machine.execWeirCmdSearch acc v s
  | .weirCtrlWrite acc v => Sys2Proof.Machine.execWeirCtrlWrite acc v s
  | .missAdCommit acc v => Sys2Proof.Machine.execMissAdCommit acc v s
  | .profileCommit acc profile v => Sys2Proof.Machine.execProfileCommit acc profile v s
  | .emtInsert acc v => Sys2Proof.Machine.execEmtInsert acc v s
  | .emtDelete acc v => Sys2Proof.Machine.execEmtDelete acc v s
  | .emtCmdLookup acc v => Sys2Proof.Machine.execEmtCmdLookup acc v s
  | .emtCmdRead acc v => Sys2Proof.Machine.execEmtCmdRead acc v s
  | .emtInvalidate acc v => Sys2Proof.Machine.execEmtInvalidate acc v s
  | .emtUpdate acc v => Sys2Proof.Machine.execEmtUpdate acc v s
  | .lqPop acc v => Sys2Proof.Machine.execLqPop acc v s
  | .contextBuild => Sys2Proof.Machine.execContextBuild s
  | .contextSlot cluster engine => Sys2Proof.Machine.execContextSlot cluster engine s
  | .threadTake cluster engine thread => Sys2Proof.Machine.execThreadTake cluster engine thread s
  | .contextEnd ctx => Sys2Proof.Machine.execContextEnd ctx s
  | .release ctx => Sys2Proof.Machine.execRelease ctx s
  | .watchdogExpire ctx => Sys2Proof.Machine.execWatchdogExpire ctx s
  | .exceptionWatchdogExpire ctx => Sys2Proof.Machine.execExceptionWatchdogExpire ctx s
  | .loadDeliver who => Sys2Proof.Machine.execLoadDeliver who s
  | .helperResult who => Sys2Proof.Machine.execHelperResult who s
  | .interruptTake k => Sys2Proof.Machine.execInterruptTake k s
  | .writeBufferDrain k => Sys2Proof.Machine.execWriteBufferDrain k s
  | .cacheLineFill k => Sys2Proof.Machine.execCacheLineFill k s
  | .ceRunWrite acc k v => Sys2Proof.Machine.execCeRunWrite acc k v s
  | .psDataWrite acc cluster v => Sys2Proof.Machine.execPsDataWrite acc cluster v s
  | .shmDataAccess acc cluster store => Sys2Proof.Machine.execShmDataAccess acc cluster store s
  | .nop who => Sys2Proof.Machine.execNop who s
  | .dup who => Sys2Proof.Machine.execDup who s
  | .drop who => Sys2Proof.Machine.execDrop who s
  | .swap who => Sys2Proof.Machine.execSwap who s
  | .over who => Sys2Proof.Machine.execOver who s
  | .rot who => Sys2Proof.Machine.execRot who s
  | .nip who => Sys2Proof.Machine.execNip who s
  | .depth who => Sys2Proof.Machine.execDepth who s
  | .pushs who => Sys2Proof.Machine.execPushs who s
  | .ext who => Sys2Proof.Machine.execExt who s
  | .pick who => Sys2Proof.Machine.execPick who s
  | .put who => Sys2Proof.Machine.execPut who s
  | .roll who => Sys2Proof.Machine.execRoll who s
  | .addOp who => Sys2Proof.Machine.execAddOp who s
  | .sub who => Sys2Proof.Machine.execSub who s
  | .andOp who => Sys2Proof.Machine.execAndOp who s
  | .orOp who => Sys2Proof.Machine.execOrOp who s
  | .xor who => Sys2Proof.Machine.execXor who s
  | .shl who => Sys2Proof.Machine.execShl who s
  | .shr who => Sys2Proof.Machine.execShr who s
  | .sar who => Sys2Proof.Machine.execSar who s
  | .mul who => Sys2Proof.Machine.execMul who s
  | .mulhu who => Sys2Proof.Machine.execMulhu who s
  | .minu who => Sys2Proof.Machine.execMinu who s
  | .maxu who => Sys2Proof.Machine.execMaxu who s
  | .eqOp who => Sys2Proof.Machine.execEqOp who s
  | .neOp who => Sys2Proof.Machine.execNeOp who s
  | .ltu who => Sys2Proof.Machine.execLtu who s
  | .lts who => Sys2Proof.Machine.execLts who s
  | .notOp who => Sys2Proof.Machine.execNotOp who s
  | .neg who => Sys2Proof.Machine.execNeg who s
  | .clz who => Sys2Proof.Machine.execClz who s
  | .popcnt who => Sys2Proof.Machine.execPopcnt who s
  | .bswap16 who => Sys2Proof.Machine.execBswap16 who s
  | .bswap32 who => Sys2Proof.Machine.execBswap32 who s
  | .sext8 who => Sys2Proof.Machine.execSext8 who s
  | .sext16 who => Sys2Proof.Machine.execSext16 who s
  | .addi who => Sys2Proof.Machine.execAddi who s
  | .andi who => Sys2Proof.Machine.execAndi who s
  | .ori who => Sys2Proof.Machine.execOri who s
  | .xori who => Sys2Proof.Machine.execXori who s
  | .shli who => Sys2Proof.Machine.execShli who s
  | .shri who => Sys2Proof.Machine.execShri who s
  | .sari who => Sys2Proof.Machine.execSari who s
  | .eqi who => Sys2Proof.Machine.execEqi who s
  | .ltui who => Sys2Proof.Machine.execLtui who s
  | .tstbi who => Sys2Proof.Machine.execTstbi who s
  | .parity who => Sys2Proof.Machine.execParity who s
  | .brev8 who => Sys2Proof.Machine.execBrev8 who s
  | .brev16 who => Sys2Proof.Machine.execBrev16 who s
  | .brev32 who => Sys2Proof.Machine.execBrev32 who s
  | .crc32c who => Sys2Proof.Machine.execCrc32c who s
  | .crc16 who => Sys2Proof.Machine.execCrc16 who s
  | .ld who => Sys2Proof.Machine.execLd who s
  | .ldc who => Sys2Proof.Machine.execLdc who s
  | .st who => Sys2Proof.Machine.execSt who s
  | .stc who => Sys2Proof.Machine.execStc who s
  | .fadd who => Sys2Proof.Machine.execFadd who s
  | .bra who => Sys2Proof.Machine.execBra who s
  | .bz who => Sys2Proof.Machine.execBz who s
  | .bnz who => Sys2Proof.Machine.execBnz who s
  | .call who => Sys2Proof.Machine.execCall who s
  | .ret who => Sys2Proof.Machine.execRet who s
  | .jmps who => Sys2Proof.Machine.execJmps who s
  | .calls who => Sys2Proof.Machine.execCalls who s
  | .setrc who => Sys2Proof.Machine.execSetrc who s
  | .rep who => Sys2Proof.Machine.execRep who s
  | .repx who => Sys2Proof.Machine.execRepx who s
  | .poprc who => Sys2Proof.Machine.execPoprc who s
  | .pushrc who => Sys2Proof.Machine.execPushrc who s
  | .tor who => Sys2Proof.Machine.execTor who s
  | .fromr who => Sys2Proof.Machine.execFromr who s
  | .rfetch who => Sys2Proof.Machine.execRfetch who s
  | .loop who => Sys2Proof.Machine.execLoop who s
  | .reti who => Sys2Proof.Machine.execReti who s
  | .ei who => Sys2Proof.Machine.execEi who s
  | .di who => Sys2Proof.Machine.execDi who s
  | .clean who => Sys2Proof.Machine.execClean who s
  | .inval who => Sys2Proof.Machine.execInval who s
  | .sync who => Sys2Proof.Machine.execSync who s
  | .setseg who => Sys2Proof.Machine.execSetseg who s
  | .getseg who => Sys2Proof.Machine.execGetseg who s
  | .wait who => Sys2Proof.Machine.execWait who s
  | .h32m who => Sys2Proof.Machine.execH32m who s
  | .symh who => Sys2Proof.Machine.execSymh who s
  | .hcallCrc32c who => Sys2Proof.Machine.execHcallCrc32c who s
  | .hcallCrc16 who => Sys2Proof.Machine.execHcallCrc16 who s
  | .crc32 who => Sys2Proof.Machine.execCrc32 who s
  | .csum who => Sys2Proof.Machine.execCsum who s
  | .csumAdj who => Sys2Proof.Machine.execCsumAdj who s
  | .tsNow who => Sys2Proof.Machine.execTsNow who s
  | .tsNs64 who => Sys2Proof.Machine.execTsNs64 who s
  | .tsAge who => Sys2Proof.Machine.execTsAge who s
  | .alloc who => Sys2Proof.Machine.execAlloc who s
  | .free who => Sys2Proof.Machine.execFree who s
  | .handover who => Sys2Proof.Machine.execHandover who s
  | .share who => Sys2Proof.Machine.execShare who s
  | .bufferRead who => Sys2Proof.Machine.execBufferRead who s
  | .bufferWrite who => Sys2Proof.Machine.execBufferWrite who s
  | .wlook who upsets => Sys2Proof.Machine.execWlook who upsets s
  | .elook who upsets => Sys2Proof.Machine.execElook who upsets s
  | .replace who => Sys2Proof.Machine.execReplace who s
  | .editInsert who => Sys2Proof.Machine.execEditInsert who s
  | .remove who => Sys2Proof.Machine.execRemove who s
  | .editStamp who => Sys2Proof.Machine.execEditStamp who s
  | .siphon who => Sys2Proof.Machine.execSiphon who s
  | .culvert who => Sys2Proof.Machine.execCulvert who s
  | .editClear who => Sys2Proof.Machine.execEditClear who s
  | .emit who => Sys2Proof.Machine.execEmit who s
  | .emitMc who => Sys2Proof.Machine.execEmitMc who s
  | .hcallDrop who => Sys2Proof.Machine.execHcallDrop who s
  | .flowLookup who => Sys2Proof.Machine.execFlowLookup who s
  | .flowCreate who => Sys2Proof.Machine.execFlowCreate who s
  | .flowDelete who => Sys2Proof.Machine.execFlowDelete who s
  | .flowRead who => Sys2Proof.Machine.execFlowRead who s
  | .flowWrite who => Sys2Proof.Machine.execFlowWrite who s
  | .fadd32 who => Sys2Proof.Machine.execFadd32 who s
  | .fadd64 who => Sys2Proof.Machine.execFadd64 who s
  | .cas32 who => Sys2Proof.Machine.execCas32 who s
  | .minu32 who => Sys2Proof.Machine.execMinu32 who s
  | .maxu32 who => Sys2Proof.Machine.execMaxu32 who s
  | .setbits32 who => Sys2Proof.Machine.execSetbits32 who s
  | .clrbits32 who => Sys2Proof.Machine.execClrbits32 who s
  | .flowStamp who => Sys2Proof.Machine.execFlowStamp who s
  | .account who => Sys2Proof.Machine.execAccount who s
  | .police who => Sys2Proof.Machine.execPolice who s
  | .flowExport who => Sys2Proof.Machine.execFlowExport who s
  | .flowAbort who => Sys2Proof.Machine.execFlowAbort who s
  | .contextResolve inst => Sys2Proof.Machine.execContextResolve inst s
  | .logEntryApply slice => Sys2Proof.Machine.execLogEntryApply slice s
  | .noticePost sweep => Sys2Proof.Machine.execNoticePost sweep s
  | .sweepCount acc v => Sys2Proof.Machine.execSweepCount acc v s
  | .sweepReport acc v => Sys2Proof.Machine.execSweepReport acc v s
  | .sweepExpire acc v => Sys2Proof.Machine.execSweepExpire acc v s
  | .sweepRecord slice => Sys2Proof.Machine.execSweepRecord slice s
  | .sweepAbort acc v => Sys2Proof.Machine.execSweepAbort acc v s
  | .exportFormat => Sys2Proof.Machine.execExportFormat s
  | .exportMessageSend heldMs => Sys2Proof.Machine.execExportMessageSend heldMs s
  | .copyTransmitStart port => Sys2Proof.Machine.execCopyTransmitStart port s
  | .copyTransmitEnd port => Sys2Proof.Machine.execCopyTransmitEnd port s
  | .schedulerChoose port remaining => Sys2Proof.Machine.execSchedulerChoose port remaining s
  | .sluiceRefill sluice => Sys2Proof.Machine.execSluiceRefill sluice s
  | .sluiceWrite acc sluice burst v => Sys2Proof.Machine.execSluiceWrite acc sluice burst v s
  | .pfcFrameSend port => Sys2Proof.Machine.execPfcFrameSend port s
  | .pfcRefresh port quanta => Sys2Proof.Machine.execPfcRefresh port quanta s
  | .samplePeriod => Sys2Proof.Machine.execSamplePeriod s
  | .mcWrite acc v => Sys2Proof.Machine.execMcWrite acc v s
  | .mcRead acc v => Sys2Proof.Machine.execMcRead acc v s
  | .bpmCmdAlloc acc v => Sys2Proof.Machine.execBpmCmdAlloc acc v s
  | .bpmCmdFree acc v => Sys2Proof.Machine.execBpmCmdFree acc v s
  | .bpmCmdHandover acc v => Sys2Proof.Machine.execBpmCmdHandover acc v s
  | .bpmCmdShare acc v => Sys2Proof.Machine.execBpmCmdShare acc v s
  | .poolInit acc v => Sys2Proof.Machine.execPoolInit acc v s
  | .poolInitDone pool => Sys2Proof.Machine.execPoolInitDone pool s
  | .tbSet acc v => Sys2Proof.Machine.execTbSet acc v s
  | .tbStep acc v => Sys2Proof.Machine.execTbStep acc v s
  | .tbSlew acc v => Sys2Proof.Machine.execTbSlew acc v s
  | .slewEnd => Sys2Proof.Machine.execSlewEnd s
  | .ppsCapture ago => Sys2Proof.Machine.execPpsCapture ago s
  | .referenceLoss => Sys2Proof.Machine.execReferenceLoss s
  | .pllHoldover => Sys2Proof.Machine.execPllHoldover s
  | .pllRelock => Sys2Proof.Machine.execPllRelock s
  | .frcWrap => Sys2Proof.Machine.execFrcWrap s
  | .aonTimeSave => Sys2Proof.Machine.execAonTimeSave s
  | .ppsOutEdge => Sys2Proof.Machine.execPpsOutEdge s
  | .tbCtrlWrite acc v => Sys2Proof.Machine.execTbCtrlWrite acc v s
  | .tbServoWrite acc v => Sys2Proof.Machine.execTbServoWrite acc v s
  | .tbSnapshotRead acc pps => Sys2Proof.Machine.execTbSnapshotRead acc pps s
  | .helloSend link => Sys2Proof.Machine.execHelloSend link s
  | .helloReceive link frame => Sys2Proof.Machine.execHelloReceive link frame s
  | .helloHoldExpire link elapsedMs => Sys2Proof.Machine.execHelloHoldExpire link elapsedMs s
  | .tableEntryExpire member elapsedMs => Sys2Proof.Machine.execTableEntryExpire member elapsedMs s
  | .stackMeasurement => Sys2Proof.Machine.execStackMeasurement s
  | .dramRequestAccept r => Sys2Proof.Machine.execDramRequestAccept r s
  | .dramCommandIssue chan column ready => Sys2Proof.Machine.execDramCommandIssue chan column ready s
  | .dramReadComplete chan outcomes => Sys2Proof.Machine.execDramReadComplete chan outcomes s
  | .dramRefresh chan busy => Sys2Proof.Machine.execDramRefresh chan busy s
  | .dramTempRead stack temp => Sys2Proof.Machine.execDramTempRead stack temp s
  | .selfRefreshEntry stack idleUs => Sys2Proof.Machine.execSelfRefreshEntry stack idleUs s
  | .rowIdleClose chan bank idleNs => Sys2Proof.Machine.execRowIdleClose chan bank idleNs s
  | .arrayRewrite store place unit word found => Sys2Proof.Machine.execArrayRewrite store place unit word found s
  | .scrubRepair acc v => Sys2Proof.Machine.execScrubRepair acc v s
  | .scrubSurvey acc v => Sys2Proof.Machine.execScrubSurvey acc v s
  | .scrubZero acc v => Sys2Proof.Machine.execScrubZero acc v s
  | .scrubUnit outcomes => Sys2Proof.Machine.execScrubUnit outcomes s
  | .scrubAbort acc v => Sys2Proof.Machine.execScrubAbort acc v s
  | .dmaStart acc channel v => Sys2Proof.Machine.execDmaStart acc channel v s
  | .dmaStop acc channel v => Sys2Proof.Machine.execDmaStop acc channel v s
  | .dmaKick acc channel v => Sys2Proof.Machine.execDmaKick acc channel v s
  | .descriptorFetch channel => Sys2Proof.Machine.execDescriptorFetch channel s
  | .moverAssign => Sys2Proof.Machine.execMoverAssign s
  | .beatIssue channel => Sys2Proof.Machine.execBeatIssue channel s
  | .beatAnswer channel => Sys2Proof.Machine.execBeatAnswer channel s
  | .descriptorWriteback channel => Sys2Proof.Machine.execDescriptorWriteback channel s
  | .descriptorPoll channel waitedNs => Sys2Proof.Machine.execDescriptorPoll channel waitedNs s
  | .rxCopy channel => Sys2Proof.Machine.execRxCopy channel s
  | .txFrame channel => Sys2Proof.Machine.execTxFrame channel s
  | .eventRaise source => Sys2Proof.Machine.execEventRaise source s
  | .evcPendingRead acc target word => Sys2Proof.Machine.execEvcPendingRead acc target word s
  | .evcSet acc v => Sys2Proof.Machine.execEvcSet acc v s
  | .pmcSnapshot acc v => Sys2Proof.Machine.execPmcSnapshot acc v s
  | .pmcCounterClear acc v => Sys2Proof.Machine.execPmcCounterClear acc v s
  | .snapshotPeriod => Sys2Proof.Machine.execSnapshotPeriod s
  | .sampleCapture cluster engine => Sys2Proof.Machine.execSampleCapture cluster engine s
  | .bwWindowClose => Sys2Proof.Machine.execBwWindowClose s
  | .gmpHello m => Sys2Proof.Machine.execGmpHello m s
  | .bye m => Sys2Proof.Machine.execBye m s
  | .regRead m => Sys2Proof.Machine.execRegRead m s
  | .regWrite m => Sys2Proof.Machine.execRegWrite m s
  | .memRead m => Sys2Proof.Machine.execMemRead m s
  | .memWrite m => Sys2Proof.Machine.execMemWrite m s
  | .imageBegin m => Sys2Proof.Machine.execImageBegin m s
  | .imageData m => Sys2Proof.Machine.execImageData m s
  | .imageEnd m => Sys2Proof.Machine.execImageEnd m s
  | .gmpRestart m => Sys2Proof.Machine.execGmpRestart m s
  | .locate m => Sys2Proof.Machine.execLocate m s
  | .subscribe m => Sys2Proof.Machine.execSubscribe m s
  | .faultRead m => Sys2Proof.Machine.execFaultRead m s
  | .sessionTimeout session idleMs => Sys2Proof.Machine.execSessionTimeout session idleMs s
  | .noticePoll => Sys2Proof.Machine.execNoticePoll s
  | .mgtFrameReceive bytes => Sys2Proof.Machine.execMgtFrameReceive bytes s
  | .atbSample bus level => Sys2Proof.Machine.execAtbSample bus level s
  | .idcode => Sys2Proof.Machine.execIdcode s
  | .samplePreload pins preload => Sys2Proof.Machine.execSamplePreload pins preload s
  | .extest pins drive => Sys2Proof.Machine.execExtest pins drive s
  | .regacc dr => Sys2Proof.Machine.execRegacc dr s
  | .retread load => Sys2Proof.Machine.execRetread load s
  | .bypass bit => Sys2Proof.Machine.execBypass bit s
  | .selftest acc v => Sys2Proof.Machine.execSelftest acc v s
  | .selftestDone fails => Sys2Proof.Machine.execSelftestDone fails s
  | .testLock acc v => Sys2Proof.Machine.execTestLock acc v s
  | .loopbackWrite acc group v => Sys2Proof.Machine.execLoopbackWrite acc group v s
  | .prbsCtrlWrite acc group v => Sys2Proof.Machine.execPrbsCtrlWrite acc group v s
  | .mgtLinkChange partner connected => Sys2Proof.Machine.execMgtLinkChange partner connected s
  | .rideThroughEnd vrms => Sys2Proof.Machine.execRideThroughEnd vrms s
  | .dailyBinExpire => Sys2Proof.Machine.execDailyBinExpire s
  | .alwaysOnStoreExhausted heldMs => Sys2Proof.Machine.execAlwaysOnStoreExhausted heldMs s
  | .lampTestEnd => Sys2Proof.Machine.execLampTestEnd s
  | .corePllLockReturn pll => Sys2Proof.Machine.execCorePllLockReturn pll s
  | .registerRead acc addr => Sys2Proof.Machine.execRegisterRead acc addr s
  | .undefinedOpcode who => Sys2Proof.Machine.execUndefinedOpcode who s
  | .testLogicReset => Sys2Proof.Machine.execTestLogicReset s
  | .prbsCheckerLock group lane lock errors => Sys2Proof.Machine.execPrbsCheckerLock group lane lock errors s

end Sys2Proof.Machine
end

