-- ==== Sys2Proof/Safety.lean ====
section
/-! DEFINITION. What the statements are stated with: the canonical form of memory, the invariant every step keeps, what
differs between two states, and the terms in which Flume instructions are described. -/
namespace Sys2Proof.Machine

/-! ### Memory and the queue -/

/-- The canonical form of a byte memory: addresses strictly rising, no entry equal to what an unlisted address reads
as. -/
def Memory.wf (m : Mem) : Bool := m.wf

/-- The three byte memories of the module in canonical form: DRAM with the local memories, flash, retention RAM. -/
def State.memoriesOk (s : State) : Prop :=
  Memory.wf s.mem ∧ s.flash.bytes.wf ∧ s.aon.retention.wf

/-- Every waiting command names units the module has. -/
def State.queueOk (s : State) : Prop := ∀ c ∈ s.pending, c.wf = true

/-- The tables that statements search or compare, in canonical form: the Weir, the EMT, the flow engine's context
instances and update logs, the contexts, the usage bins of the supply and those kept in flash. -/
def State.tablesOk (s : State) : Prop :=
  s.tables.weir.wf ∧ s.tables.emt.wf ∧ s.flow.insts.wf ∧ s.flow.logs.wf ∧ s.dsp.ctxs.wf ∧ s.supply.bins.wf ∧ s.flash.bins.wf

/-- The invariant every step keeps. -/
def State.sound (s : State) : Prop := s.queueOk ∧ s.memoriesOk ∧ s.tablesOk

/-! ### Stack depths (R378) -/

/-- The stacks of a thread or of a level of a control engine within their depths: 16 words of data, 8 return addresses. -/
def Arch.fits (a : Arch) : Prop := a.ds.length ≤ 16 ∧ a.rs.length ≤ 8

/-- How many results the call of a unit's function returns (R464–R474, R536). -/
def callResults (unit fn : Nat) : Nat :=
  match unit with
  | 3 => if fn = 0 then 3 else if fn = 1 then 2 else 1
  | 4 => if fn = 0 then 2 else 1
  | 5 => 2
  | 6 => 3
  | 7 => 0
  | _ => if unit < 3 then 1 else flowResults fn

/-- The results a waiting thread still has to find room for: none when its call ends in a fault. -/
def CallWait.owed (c : CallWait) : Nat :=
  if c.fault.isSome then 0
  else match c.waiting with
    | some (fn, _) => callResults c.unit fn
    | none => c.results.length

/-- Every stack within its depth, the results a waiting thread has to come among them. -/
def State.stacksOk (s : State) : Prop :=
  (∀ n, (s.flume.threads.get n).arch.fits ∧
    ∀ c, (s.flume.threads.get n).wait = some c → (s.flume.threads.get n).arch.ds.length + c.owed ≤ 16) ∧
  ∀ k, (s.ce k).base.fits ∧ (s.ce k).intr.fits

/-! ### What a command leaves alone -/

/-- Registers other than those listed read as before. -/
def State.regsBut (s t : State) (l : List Nat) : Prop := ∀ a, a ∉ l → t.rd a = s.rd a

/-- Counters other than those listed hold what they held. -/
def State.ctrsBut (s t : State) (l : List Nat) : Prop := ∀ a, a ∉ l → t.ctr a = s.ctr a

/-- Event `n` has been raised (R822): its RAISED count has gone up by one and it pends for every target it is routed to.
(Event 312 can be raised once more by the performance counter that counts it.) -/
def State.raised (s t : State) (n : Nat) : Prop :=
  (n ≠ 312 → t.rd (Reg.evcRaised n) = s.rd (Reg.evcRaised n) + 1) ∧
  ∀ k < 5, bitAt (s.fld (Reg.evcRoute n) 4 0) k = true → t.bit (Reg.evcPending k (n / 32)) (n % 32) = true

/-- Event `n` has been raised, and registers below the event controller's other than those listed read as before. -/
def State.regsRaised (s t : State) (l : List Nat) (n : Nat) : Prop :=
  s.raised t n ∧ ∀ a, a < 0x700000 → a ∉ l → t.rd a = s.rd a

/-- An accessor's access to the register at `a` issues and reaches it (R167, R406, R871). -/
def State.reaches (s : State) (acc a : Nat) : Prop := acc < 7 ∧ s.busHeld acc = false ∧ s.reach acc a = .ok

/-- A result register after a command that completed at once: DONE, not BUSY, not REJECTED, the other fields `v`
(R173). -/
def resultWord (v : Nat) : Word := BitVec.ofNat 32 (2 ^ 31 + v)

/-! ### The tables -/

/-- Weir entry `i` matches a key (R297). -/
def State.weirMatch (s : State) (key i : Nat) : Prop :=
  (s.tables.weir.get i).valid = true ∧ Nat.land (Nat.xor key (s.tables.weir.get i).val) (s.tables.weir.get i).mask = 0

/-- EMT entry `i` holds a key (R309). -/
def State.emtMatch (s : State) (key i : Nat) : Prop :=
  (s.tables.emt.get i).valid = true ∧ (s.tables.emt.get i).key = key

/-- `i` is the lowest index of which `p` holds. -/
def lowest (p : Nat → Prop) (i : Nat) : Prop := p i ∧ ∀ j < i, ¬ p j

/-! ### Flume instructions -/

/-- The word at an issuer's PC. -/
def State.wordOf (s : State) (w : Who) : Nat := s.instrAt w (s.arch w).pc

/-- The issuer exists and issues in this step, and the word at its PC matches a code point with reserved bits zero. -/
def State.atWord (s : State) (w : Who) (mask pat resv : Nat) : Prop :=
  w.wf = true ∧ s.issues w = true ∧ Nat.land (s.wordOf w) mask = pat ∧ Nat.land (s.wordOf w) resv = 0

/-- The state after an instruction issued in `s` whose effect beside its issuer's registers is `t`: the registers `a`
with pending loads settled (R386) and an iteration ended or the PC moved on (R388). -/
def State.completed (s t : State) (w : Who) (a : Arch) (jump : Bool := false) (load : Option PendingLoad := none)
    (deferred : Bool := false) : State :=
  (t.setArch w (completeArch w (s.arch w).pc { s := t, a := a, jump := jump, load := load, deferred := deferred })).holdRepx w

/-- An instruction counted as issued (R376, R417). -/
def State.counted (s : State) (w : Who) : State := s.issued w (s.wordOf w)

/-- What an instruction leaves that changes its issuer's registers to `a` and nothing else. -/
def State.leaves (s : State) (w : Who) (a : Arch) (jump : Bool := false) : State := s.completed (s.counted w) w a jump

/-- The same where only the data stack changes. -/
def State.leavesStack (s : State) (w : Who) (ds : List Word) : State := s.leaves w { s.arch w with ds := ds }

/-- What an HCALL with `p` arguments leaves whose unit has answered with `results`, the last one last, and with bytes
for the context space: the arguments popped, the thread waiting for its results, the state beside it `t` (R449). -/
def State.called (s t : State) (cl e th unit p : Nat) (results : List Nat) (put : Nat × List Byte := (0, [])) : State :=
  s.completed (t.setWait cl e th
      { pc := (s.arch (.pe cl e th)).faultPc, unit := unit, results := results.reverse.map (BitVec.ofNat 32), put := put })
    (.pe cl e th) { s.arch (.pe cl e th) with ds := (s.arch (.pe cl e th)).ds.drop p } false none true

/-- The same where the unit has answered with fault HELPER and a subcode. -/
def State.calledFault (s t : State) (cl e th unit p sub : Nat) : State :=
  s.completed (t.setWait cl e th { pc := (s.arch (.pe cl e th)).faultPc, unit := unit, fault := some (6, sub) })
    (.pe cl e th) { s.arch (.pe cl e th) with ds := (s.arch (.pe cl e th)).ds.drop p } false none true

/-- The thread of a packet engine is at an HCALL of function `fn` of `unit`, running context `c`, with the arguments
`args` on its stack, the first one deepest, over `r`, and room for `q` results. -/
def State.atCall (s : State) (cl e th c unit fn q : Nat) (args : List Word) (r : List Word) : Prop :=
  s.atWord (.pe cl e th) 0xFFFF (0xA000 + unit * 256 + fn) 0 ∧ (s.thr cl e th).ctx = some c ∧ (s.thr cl e th).late = none ∧
  (s.arch (.pe cl e th)).ds = args.reverse ++ r ∧ r.length + q ≤ 16

/-- A flow record lies wholly in its slice's cache (R516). -/
def State.cached (s : State) (key : Nat) : Prop := ∀ n < s.recSize / 64, bitAt (s.flow.lines.get key).have_ n = true

/-- A context instance has room to stage a further entry on a record (R538, R543–R545). -/
def State.mayStage (s : State) (i key : Nat) : Prop := s.stageLimit i key = none ∧ s.stageWait i key = none

/-- A thread is at a flow operation by handle (R513, R536): the handle names position `key`, whose record lies in the
cache, is valid on its speculative image `img` and carries the handle's GEN. -/
def State.atHandle (s : State) (cl e th c fn q : Nat) (args r : List Word) (key : Nat) (img : List Byte) : Prop :=
  s.atCall cl e th c 8 fn q args r ∧ s.handleOk (args.getD 0 0).toNat (args.getD 1 0).toNat = true ∧
  handleKey (args.getD 0 0).toNat = key ∧ s.cached key ∧ s.speculative key = img ∧ recValid img = true ∧
  recGen img = (args.getD 1 0).toNat

/-- What a staged flow operation leaves: the thread waiting for its results, one more entry of its instance at the end
of the record's log, the speculative image `img`, the committed image and every other log as before (R538, R543). -/
def State.stages (s t : State) (cl e th c key : Nat) (results r : List Word) (img : List Byte) : Prop :=
  (t.thr cl e th).wait = some { pc := (s.arch (.pe cl e th)).faultPc, unit := 8, results := results.reverse } ∧
  ((s.arch (.pe cl e th)).pend = [] → (t.arch (.pe cl e th)).ds = r) ∧
  t.speculative key = img ∧ t.committed key = s.committed key ∧ (∀ k, k ≠ key → t.log k = s.log k) ∧
  (∃ en : LogEntry, t.log key = s.log key ++ [en] ∧ en.inst = s.instOf c) ∧
  t.mem = s.mem ∧ (∀ a, a < 0x700000 → t.rd a = s.rd a)

/-- The same for an instruction that takes a fault at its issue. -/
def State.faults (s : State) (w : Who) (cause sub : Nat) : State :=
  (s.counted w).fault w cause sub (s.arch w).faultPc

/-! ### The management port -/

/-- The state in which an accepted request of session `i` is carried out: nothing sent, its SEQ noted and counted
(R846). -/
def State.accepted (s : State) (i : Nat) (g : Gmp) : State :=
  ({ s with mgt.sent := [] }.mgtActivity.setSession i ((s.session i).accept g.seq)).mgtCount 0

/-- A request answered: its response kept with the session and sent (R845, R846). -/
def State.answer (s : State) (i : Nat) (m : Datagram) (g : Gmp) (status : Nat) (body : List Byte) : State :=
  (s.setSession i { s.session i with lastTag := some (g.tag, g.ty), lastStatus := status, lastBody := body }).respond i m g status body

end Sys2Proof.Machine
end

