-- ==== Sys2Proof/Certificates/Slice0/Obligations.lean ====
section
/-! DEFINITION. The statements for the provers. -/

open Sys2Proof Sys2Proof.Machine

/-! ## The data stack (R427–R433) -/

/-- R427: the stack instructions, element 0 on top, and STACK subcode 1 where the depth is below the need. -/
def Obligations.StackInstructions : Prop :=
  ∀ (w : Who) (s : State) (ds : List Word), (s.arch w).ds = ds → ds.length ≤ 16 →
    (s.atWord w 0xF0FF 0x0001 0x0F00 → exec (.nop w) s = .next (s.leavesStack w ds)) ∧
    (∀ a r, ds = a :: r → ds.length < 16 → s.atWord w 0xF0FF 0x0002 0x0F00 →
      exec (.dup w) s = .next (s.leavesStack w (a :: a :: r))) ∧
    (∀ a r, ds = a :: r → s.atWord w 0xF0FF 0x0003 0x0F00 → exec (.drop w) s = .next (s.leavesStack w r)) ∧
    (∀ a b r, ds = b :: a :: r → s.atWord w 0xF0FF 0x0004 0x0F00 →
      exec (.swap w) s = .next (s.leavesStack w (a :: b :: r))) ∧
    (∀ a b r, ds = b :: a :: r → ds.length < 16 → s.atWord w 0xF0FF 0x0005 0x0F00 →
      exec (.over w) s = .next (s.leavesStack w (a :: b :: a :: r))) ∧
    (∀ a b c r, ds = c :: b :: a :: r → s.atWord w 0xF0FF 0x0006 0x0F00 →
      exec (.rot w) s = .next (s.leavesStack w (a :: c :: b :: r))) ∧
    (∀ a b r, ds = b :: a :: r → s.atWord w 0xF0FF 0x0007 0x0F00 →
      exec (.nip w) s = .next (s.leavesStack w (b :: r))) ∧
    (ds.length < 16 → s.atWord w 0xF0FF 0x0041 0x0F00 →
      exec (.depth w) s = .next (s.leavesStack w (BitVec.ofNat 32 ds.length :: ds))) ∧
    (ds.length < 16 → s.atWord w 0xF000 0x1000 0 →
      exec (.pushs w) s = .next (s.leavesStack w ((BitVec.ofNat 12 (s.wordOf w)).signExtend 32 :: ds))) ∧
    (∀ a r, ds = a :: r → s.atWord w 0xF000 0x2000 0 →
      exec (.ext w) s = .next (s.leavesStack w ((a.extractLsb' 0 20 ++ BitVec.ofNat 12 (s.wordOf w)) :: r))) ∧
    (∀ l x r, ds = l ++ x :: r → ds.length < 16 → s.atWord w 0xFF0F (0x9000 + l.length) 0x00F0 →
      exec (.pick w) s = .next (s.leavesStack w (x :: (l ++ x :: r)))) ∧
    (∀ v l x r, ds = v :: (l ++ x :: r) → s.atWord w 0xFF0F (0x9100 + l.length) 0x00F0 →
      exec (.put w) s = .next (s.leavesStack w (l ++ v :: r))) ∧
    (∀ l x r, ds = l ++ x :: r → s.atWord w 0xFF0F (0x9200 + l.length) 0x00F0 →
      exec (.roll w) s = .next (s.leavesStack w (x :: (l ++ r)))) ∧
    -- a depth below the stated need: STACK subcode 1
    (∀ n < 16,
      (s.atWord w 0xFF0F (0x9000 + n) 0x00F0 → ds.length < n + 1 → exec (.pick w) s = .next (s.faults w 3 1)) ∧
      (s.atWord w 0xFF0F (0x9100 + n) 0x00F0 → ds.length < n + 2 → exec (.put w) s = .next (s.faults w 3 1)) ∧
      (s.atWord w 0xFF0F (0x9200 + n) 0x00F0 → ds.length < n + 1 → exec (.roll w) s = .next (s.faults w 3 1))) ∧
    (∀ e ∈ ([(Instr.dup, 0x0002, 1), (Instr.drop, 0x0003, 1), (Instr.swap, 0x0004, 2), (Instr.over, 0x0005, 2), (Instr.rot, 0x0006, 3),
        (Instr.nip, 0x0007, 2)] : List ((Who → Instr) × Nat × Nat)),
      s.atWord w 0xF0FF e.2.1 0x0F00 → ds.length < e.2.2 → exec (e.1 w) s = .next (s.faults w 3 1)) ∧
    (s.atWord w 0xF000 0x2000 0 → ds = [] → exec (.ext w) s = .next (s.faults w 3 1))

/-- R429, R432, R433: the instructions that take two operands and push one result. -/
def Obligations.TwoOperandResults : Prop :=
  ∀ (w : Who) (s : State) (a b : Word) (r : List Word), (s.arch w).ds = b :: a :: r → r.length ≤ 14 →
    (s.atWord w 0xF0FF 0x0010 0x0F00 → exec (.addOp w) s = .next (s.leavesStack w (BitVec.ofNat 32 (a.toNat + b.toNat) :: r))) ∧
    (s.atWord w 0xF0FF 0x0011 0x0F00 →
      exec (.sub w) s = .next (s.leavesStack w (BitVec.ofInt 32 (a.toInt - b.toInt) :: r))) ∧
    (s.atWord w 0xF0FF 0x0012 0x0F00 → exec (.andOp w) s = .next (s.leavesStack w ((a &&& b) :: r))) ∧
    (s.atWord w 0xF0FF 0x0013 0x0F00 → exec (.orOp w) s = .next (s.leavesStack w ((a ||| b) :: r))) ∧
    (s.atWord w 0xF0FF 0x0014 0x0F00 → exec (.xor w) s = .next (s.leavesStack w ((a ^^^ b) :: r))) ∧
    (s.atWord w 0xF0FF 0x0015 0x0F00 →
      exec (.shl w) s = .next (s.leavesStack w (BitVec.ofNat 32 (a.toNat * 2 ^ (b.toNat % 32)) :: r))) ∧
    (s.atWord w 0xF0FF 0x0016 0x0F00 →
      exec (.shr w) s = .next (s.leavesStack w (BitVec.ofNat 32 (a.toNat / 2 ^ (b.toNat % 32)) :: r))) ∧
    (s.atWord w 0xF0FF 0x0017 0x0F00 →
      exec (.sar w) s = .next (s.leavesStack w (BitVec.ofInt 32 (a.toInt / 2 ^ (b.toNat % 32)) :: r))) ∧
    (s.atWord w 0xF0FF 0x0018 0x0F00 →
      exec (.mul w) s = .next (s.leavesStack w (BitVec.ofNat 32 (a.toNat * b.toNat) :: r))) ∧
    (s.atWord w 0xF0FF 0x0019 0x0F00 →
      exec (.mulhu w) s = .next (s.leavesStack w ((a.zeroExtend 64 * b.zeroExtend 64).extractLsb' 32 32 :: r))) ∧
    (s.atWord w 0xF0FF 0x001A 0x0F00 →
      exec (.minu w) s = .next (s.leavesStack w (BitVec.ofNat 32 (min a.toNat b.toNat) :: r))) ∧
    (s.atWord w 0xF0FF 0x001B 0x0F00 →
      exec (.maxu w) s = .next (s.leavesStack w (BitVec.ofNat 32 (max a.toNat b.toNat) :: r))) ∧
    (s.atWord w 0xF0FF 0x001C 0x0F00 → exec (.eqOp w) s = .next (s.leavesStack w ((if a = b then 1 else 0) :: r))) ∧
    (s.atWord w 0xF0FF 0x001D 0x0F00 → exec (.neOp w) s = .next (s.leavesStack w ((if a = b then 0 else 1) :: r))) ∧
    (s.atWord w 0xF0FF 0x001E 0x0F00 → exec (.ltu w) s = .next (s.leavesStack w ((if a < b then 1 else 0) :: r))) ∧
    (s.atWord w 0xF0FF 0x001F 0x0F00 → exec (.lts w) s = .next (s.leavesStack w ((if a.slt b then 1 else 0) :: r))) ∧
    (s.atWord w 0xF0FF 0x0030 0x0F00 →
      exec (.crc32c w) s = .next (s.leavesStack w
        ((fun c : Word => if c.getLsbD 0 then (c >>> 1) ^^^ 0x82F63B78#32 else c >>> 1)^[8]
          (a ^^^ (b.extractLsb' 0 8).zeroExtend 32) :: r))) ∧
    (s.atWord w 0xF0FF 0x0031 0x0F00 →
      exec (.crc16 w) s = .next (s.leavesStack w
        (((fun c : BitVec 16 => if c.getLsbD 15 then (c <<< 1) ^^^ 0x1021#16 else c <<< 1)^[8]
          (a.extractLsb' 0 16 ^^^ (b.extractLsb' 0 8 ++ 0#8))).zeroExtend 32 :: r)))

/-- R429, R431: the instructions that replace the top of the data stack. -/
def Obligations.OneOperandResults : Prop :=
  ∀ (w : Who) (s : State) (a : Word) (r : List Word), (s.arch w).ds = a :: r → r.length ≤ 15 →
    (s.atWord w 0xF0FF 0x0020 0x0F00 → exec (.notOp w) s = .next (s.leavesStack w (BitVec.ofNat 32 (2 ^ 32 - 1 - a.toNat) :: r))) ∧
    (s.atWord w 0xF0FF 0x0021 0x0F00 → exec (.neg w) s = .next (s.leavesStack w (BitVec.ofInt 32 (-a.toInt) :: r))) ∧
    (s.atWord w 0xF0FF 0x0022 0x0F00 → ∃ z ≤ 32, exec (.clz w) s = .next (s.leavesStack w (BitVec.ofNat 32 z :: r)) ∧
      a.toNat < 2 ^ (32 - z) ∧ (z < 32 → 2 ^ (31 - z) ≤ a.toNat)) ∧
    (s.atWord w 0xF0FF 0x0023 0x0F00 →
      exec (.popcnt w) s = .next (s.leavesStack w (BitVec.ofNat 32 ((List.range 32).countP fun i => a.getLsbD i) :: r))) ∧
    (s.atWord w 0xF0FF 0x0024 0x0F00 →
      exec (.parity w) s = .next (s.leavesStack w
        ((if ((List.range 32).countP fun i => a.getLsbD i) % 2 = 1 then 1 else 0) :: r))) ∧
    (s.atWord w 0xF0FF 0x0025 0x0F00 → ∃ v : Word, exec (.brev8 w) s = .next (s.leavesStack w (v :: r)) ∧
      ∀ i < 32, v.getLsbD i = (decide (i < 8) && a.getLsbD (7 - i))) ∧
    (s.atWord w 0xF0FF 0x0026 0x0F00 → ∃ v : Word, exec (.brev16 w) s = .next (s.leavesStack w (v :: r)) ∧
      ∀ i < 32, v.getLsbD i = (decide (i < 16) && a.getLsbD (15 - i))) ∧
    (s.atWord w 0xF0FF 0x0027 0x0F00 → ∃ v : Word, exec (.brev32 w) s = .next (s.leavesStack w (v :: r)) ∧
      ∀ i < 32, v.getLsbD i = a.getLsbD (31 - i)) ∧
    (s.atWord w 0xF0FF 0x0028 0x0F00 → exec (.bswap16 w) s = .next (s.leavesStack w
      ((0#16 ++ (a.extractLsb' 0 8 ++ a.extractLsb' 8 8)) :: r))) ∧
    (s.atWord w 0xF0FF 0x0029 0x0F00 → exec (.bswap32 w) s = .next (s.leavesStack w
      ((a.extractLsb' 0 8 ++ a.extractLsb' 8 8 ++ a.extractLsb' 16 8 ++ a.extractLsb' 24 8) :: r))) ∧
    (s.atWord w 0xF0FF 0x002A 0x0F00 → exec (.sext8 w) s = .next (s.leavesStack w ((a.extractLsb' 0 8).signExtend 32 :: r))) ∧
    (s.atWord w 0xF0FF 0x002B 0x0F00 → exec (.sext16 w) s = .next (s.leavesStack w ((a.extractLsb' 0 16).signExtend 32 :: r)))

/-- R430: the immediate class, IMM8 in [7:0] of the word. -/
def Obligations.ImmediateResults : Prop :=
  ∀ (w : Who) (s : State) (a : Word) (r : List Word) (i : BitVec 8), (s.arch w).ds = a :: r → r.length ≤ 15 →
    BitVec.ofNat 8 (s.wordOf w) = i →
    (s.atWord w 0xFF00 0x8000 0 → exec (.addi w) s = .next (s.leavesStack w ((a + i.signExtend 32) :: r))) ∧
    (s.atWord w 0xFF00 0x8100 0 → exec (.andi w) s = .next (s.leavesStack w ((a &&& i.zeroExtend 32) :: r))) ∧
    (s.atWord w 0xFF00 0x8200 0 → exec (.ori w) s = .next (s.leavesStack w ((a ||| i.zeroExtend 32) :: r))) ∧
    (s.atWord w 0xFF00 0x8300 0 → exec (.xori w) s = .next (s.leavesStack w ((a ^^^ i.zeroExtend 32) :: r))) ∧
    (s.atWord w 0xFF00 0x8400 0xE0 → exec (.shli w) s = .next (s.leavesStack w ((a <<< i.toNat) :: r))) ∧
    (s.atWord w 0xFF00 0x8500 0xE0 → exec (.shri w) s = .next (s.leavesStack w ((a >>> i.toNat) :: r))) ∧
    (s.atWord w 0xFF00 0x8600 0xE0 → exec (.sari w) s = .next (s.leavesStack w (a.sshiftRight i.toNat :: r))) ∧
    (s.atWord w 0xFF00 0x8700 0 → exec (.eqi w) s = .next (s.leavesStack w ((if a.toNat = i.toNat then 1 else 0) :: r))) ∧
    (s.atWord w 0xFF00 0x8800 0 → exec (.ltui w) s = .next (s.leavesStack w ((if a.toNat < i.toNat then 1 else 0) :: r))) ∧
    (s.atWord w 0xFF00 0x8900 0xE0 → exec (.tstbi w) s = .next (s.leavesStack w ((if a.getLsbD i.toNat then 1 else 0) :: r)))

/-! ## Control transfer, repeats and the return stack (R441–R447) -/

/-- R441–R444: the target of a relative branch is PC + 1 + sext(OFF10) within the PC's width. -/
def Obligations.ControlTransfers : Prop :=
  ∀ (w : Who) (s : State) (a : Arch) (target : Nat), s.arch w = a → a.ds.length ≤ 16 →
    target = ((a.pc + 1 + (BitVec.ofNat 10 (s.wordOf w)).toInt) % (pcMod w : Int)).toNat →
    (s.atWord w 0xFC00 0x3000 0 → exec (.bra w) s = .next (s.leaves w { a with pc := target } true)) ∧
    (∀ v r, a.ds = v :: r → s.atWord w 0xFC00 0x3400 0 → exec (.bz w) s = .next
      (if v = 0 then s.leaves w { a with ds := r, pc := target } true else s.leaves w { a with ds := r })) ∧
    (∀ v r, a.ds = v :: r → s.atWord w 0xFC00 0x3800 0 → exec (.bnz w) s = .next
      (if v = 0 then s.leaves w { a with ds := r } else s.leaves w { a with ds := r, pc := target } true)) ∧
    (a.rs.length < 8 → s.atWord w 0xFC00 0x3C00 0 → exec (.call w) s = .next
      (s.leaves w { a with rs := (a.pc + 1) % pcMod w :: a.rs, pc := target } true)) ∧
    (∀ p q, a.rs = p :: q → s.atWord w 0xF0FF 0x0038 0x0F00 → exec (.ret w) s = .next
      (s.leaves w { a with rs := q, pc := p } true)) ∧
    (∀ v r, a.ds = v :: r → s.atWord w 0xF0FF 0x0039 0x0F00 → exec (.jmps w) s = .next
      (s.leaves w { a with ds := r, pc := v.toNat % pcMod w } true)) ∧
    (∀ v r, a.ds = v :: r → a.rs.length < 8 → s.atWord w 0xF0FF 0x003A 0x0F00 → exec (.calls w) s = .next
      (s.leaves w { a with ds := r, rs := (a.pc + 1) % pcMod w :: a.rs, pc := v.toNat % pcMod w } true))

/-- R422, R445–R447, R455: RC, the repeat prefixes and the return stack; a prefix over an illegal target takes the fault
of the first check that fails, neither word takes effect, and RC keeps its value. -/
def Obligations.RepeatsAndReturnStack : Prop :=
  (∀ (w : Who) (s : State) (a : Arch), s.arch w = a → a.ds.length ≤ 16 →
      (s.atWord w 0xFF00 0xB000 0 → exec (.setrc w) s = .next
        (s.leaves w { a with rc := (BitVec.ofNat 8 (s.wordOf w)).zeroExtend 32 })) ∧
      (∀ v r, a.ds = v :: r → s.atWord w 0xFF00 0xB300 0xFF → exec (.poprc w) s = .next
        (s.leaves w { a with ds := r, rc := v })) ∧
      (a.ds.length < 16 → s.atWord w 0xFF00 0xB400 0xFF → exec (.pushrc w) s = .next
        (s.leaves w { a with ds := a.rc :: a.ds })) ∧
      (∀ v r, a.ds = v :: r → a.rs.length < 8 → s.atWord w 0xFF00 0xB500 0xFF → exec (.tor w) s = .next
        (s.leaves w { a with ds := r, rs := v.toNat % pcMod w :: a.rs })) ∧
      (∀ p q, a.rs = p :: q → a.ds.length < 16 → s.atWord w 0xFF00 0xB600 0xFF → exec (.fromr w) s = .next
        (s.leaves w { a with ds := BitVec.ofNat 32 p :: a.ds, rs := q })) ∧
      (∀ p q, a.rs = p :: q → a.ds.length < 16 → s.atWord w 0xFF00 0xB700 0xFF → exec (.rfetch w) s = .next
        (s.leaves w { a with ds := BitVec.ofNat 32 p :: a.ds })) ∧
      (s.atWord w 0xFF00 0xB800 0 → exec (.loop w) s = .next
        (if a.rc = 0 ∨ a.rc = 1 then s.leaves w { a with rc := 0 }
         else s.leaves w { a with rc := a.rc - 1, pc := (a.pc + pcMod w - (BitVec.ofNat 8 (s.wordOf w)).toNat) % pcMod w } true)) ∧
      (∀ x : Bool, targetCheck (match w with | .ce _ => true | .pe _ _ _ => false) x a.rc (s.instrAt w (a.pc + 1)) = none →
        s.atWord w 0xFF00 (if x then 0xB200 else 0xB100) 0xFF →
        exec (if x then .repx w else .rep w) s = .next
          (if a.rc = 0 then s.leaves w { a with pc := (a.pc + 2) % pcMod w } true
           else s.leaves w { a with rep := some (a.pc, x), pc := (a.pc + 1) % pcMod w } true))) ∧
  (∀ (w : Who) (s : State) (x ce : Bool) (i : Nat), (s.arch w).ds.length ≤ 16 →
      ce = (match w with | .ce _ => true | .pe _ _ _ => false) → i = s.instrAt w ((s.arch w).pc + 1) → i < 0x10000 →
      s.atWord w 0xFF00 (if x then 0xB200 else 0xB100) 0xFF →
      let e := exec (if x then .repx w else .rep w) s
      (i / 0x100 = 0xB0 ∨ i = 0xB100 ∨ i = 0xB200 ∨ i = 0xB300 ∨ i / 0x100 = 0xB8 → e = .next (s.faults w 2 0)) ∧
      (i / 0x1000 = 0x3 ∨ i = 0x0038 ∨ i = 0x0039 ∨ i = 0x003A → e = .next (s.faults w 2 1)) ∧
      (ce = true → i = 0xD000 ∨ i = 0xD100 ∨ i = 0xD200 ∨ i / 0x100 = 0xD6 ∨ i = 0xD800 → e = .next (s.faults w 2 1)) ∧
      (ce = false → i = 0xA708 ∨ i = 0xA709 ∨ i = 0xA70A → e = .next (s.faults w 2 1)) ∧
      (ce = false → 0xD000 ≤ i → i ≤ 0xD8FF → e = .next (s.faults w 1 2)) ∧
      (x = true → 64 < (s.arch w).rc.toNat → i = 0x0010 → e = .next (s.faults w 2 2)))

/-! ## Faults (R393–R403, R421–R426) -/

/-- R421 checks 3 and 7, R422–R426, R442, R444, R445: each stack, arithmetic and immediate instruction with its code
point, reserved bits, pops and pushes; undefined code points, control-extension words on a packet engine, and the
return stack's underflow and overflow. -/
def Obligations.InstructionChecks : Prop :=
  (∀ e ∈ ([(Instr.nop, 0xF0FF, 0x0001, 0x0F00, 0, 0), (Instr.dup, 0xF0FF, 0x0002, 0x0F00, 1, 2),
       (Instr.drop, 0xF0FF, 0x0003, 0x0F00, 1, 0), (Instr.swap, 0xF0FF, 0x0004, 0x0F00, 2, 2),
       (Instr.over, 0xF0FF, 0x0005, 0x0F00, 2, 3), (Instr.rot, 0xF0FF, 0x0006, 0x0F00, 3, 3),
       (Instr.nip, 0xF0FF, 0x0007, 0x0F00, 2, 1), (Instr.depth, 0xF0FF, 0x0041, 0x0F00, 0, 1),
       (Instr.pushs, 0xF000, 0x1000, 0, 0, 1), (Instr.ext, 0xF000, 0x2000, 0, 1, 1),
       (Instr.addOp, 0xF0FF, 0x0010, 0x0F00, 2, 1), (Instr.sub, 0xF0FF, 0x0011, 0x0F00, 2, 1),
       (Instr.mul, 0xF0FF, 0x0018, 0x0F00, 2, 1), (Instr.sar, 0xF0FF, 0x0017, 0x0F00, 2, 1),
       (Instr.lts, 0xF0FF, 0x001F, 0x0F00, 2, 1), (Instr.notOp, 0xF0FF, 0x0020, 0x0F00, 1, 1),
       (Instr.clz, 0xF0FF, 0x0022, 0x0F00, 1, 1), (Instr.crc16, 0xF0FF, 0x0031, 0x0F00, 2, 1),
       (Instr.addi, 0xFF00, 0x8000, 0, 1, 1), (Instr.shli, 0xFF00, 0x8400, 0xE0, 1, 1),
       (Instr.tstbi, 0xFF00, 0x8900, 0xE0, 1, 1), (Instr.poprc, 0xFF00, 0xB300, 0xFF, 1, 0),
       (Instr.pushrc, 0xFF00, 0xB400, 0xFF, 0, 1)] : List ((Who → Instr) × Nat × Nat × Nat × Nat × Nat)),
   ∀ (w : Who) (s : State), s.atWord w e.2.1 e.2.2.1 0 → (s.arch w).ds.length ≤ 16 →
     (Nat.land (s.wordOf w) e.2.2.2.1 ≠ 0 → exec (e.1 w) s = .next (s.faults w 1 1)) ∧
     (Nat.land (s.wordOf w) e.2.2.2.1 = 0 → (s.arch w).ds.length < e.2.2.2.2.1 → exec (e.1 w) s = .next (s.faults w 3 1)) ∧
     (Nat.land (s.wordOf w) e.2.2.2.1 = 0 → e.2.2.2.2.1 ≤ (s.arch w).ds.length →
       16 + e.2.2.2.2.1 < (s.arch w).ds.length + e.2.2.2.2.2 → exec (e.1 w) s = .next (s.faults w 3 0))) ∧
  (∀ (w : Who) (s : State), (s.arch w).ds.length ≤ 16 →
     (w.wf = true → s.issues w = true → s.wordOf w < 0x10000 →
       (s.wordOf w = 0 ∨ 0xE000 ≤ s.wordOf w ∨ s.wordOf w / 0x1000 = 0xC ∨ s.wordOf w / 0x400 = 0x13 ∨
         s.wordOf w / 0x400 = 0x17 ∨ s.wordOf w / 0x400 = 0x1B ∨ s.wordOf w / 0x400 = 0x1F ∨
         (0x8A00 ≤ s.wordOf w ∧ s.wordOf w < 0x9000) ∨ (0x9300 ≤ s.wordOf w ∧ s.wordOf w < 0xA000) ∨
         (0xA900 ≤ s.wordOf w ∧ s.wordOf w < 0xB000) ∨ (0xB900 ≤ s.wordOf w ∧ s.wordOf w < 0xD000) ∨ (0xD900 ≤ s.wordOf w ∧ s.wordOf w < 0xE000) ∨
         (∃ k, w = .ce k ∧ 0xA000 ≤ s.wordOf w ∧ s.wordOf w < 0xB000)) →
       exec (.undefinedOpcode w) s = .next (s.faults w 1 0)) ∧
     (∀ cl e th, w = .pe cl e th → w.wf = true → s.issues w = true → 0xA000 ≤ s.wordOf w → s.wordOf w < 0xA900 →
       helperDefined (s.wordOf w / 256 % 16) (s.wordOf w % 256) = false → exec (.undefinedOpcode w) s = .next (s.faults w 6 0)) ∧
     (∀ cl e th, w = .pe cl e th → ∀ c ∈ ([(Instr.reti, 0xD000), (Instr.ei, 0xD100), (Instr.di, 0xD200), (Instr.clean, 0xD300),
       (Instr.inval, 0xD400), (Instr.sync, 0xD500), (Instr.setseg, 0xD600), (Instr.getseg, 0xD700), (Instr.wait, 0xD800)] :
         List ((Who → Instr) × Nat)),
       s.atWord w 0xFF00 c.2 0 → exec (c.1 w) s = .next (s.faults w 1 2)) ∧
     ((s.arch w).rs = [] →
       (s.atWord w 0xF0FF 0x0038 0x0F00 → exec (.ret w) s = .next (s.faults w 3 3)) ∧
       ((s.arch w).ds.length < 16 → s.atWord w 0xFF00 0xB600 0xFF → exec (.fromr w) s = .next (s.faults w 3 3)) ∧
       ((s.arch w).ds.length < 16 → s.atWord w 0xFF00 0xB700 0xFF → exec (.rfetch w) s = .next (s.faults w 3 3))) ∧
     (8 ≤ (s.arch w).rs.length →
       (s.atWord w 0xFC00 0x3C00 0 → exec (.call w) s = .next (s.faults w 3 2)) ∧
       ((s.arch w).ds ≠ [] → s.atWord w 0xF0FF 0x003A 0x0F00 → exec (.calls w) s = .next (s.faults w 3 2)) ∧
       ((s.arch w).ds ≠ [] → s.atWord w 0xFF00 0xB500 0xFF → exec (.tor w) s = .next (s.faults w 3 2))))

/-! ## Loads, stores and fetch-and-add (R381–R386, R434–R440) -/

/-- R381, R385, R434–R436, R438, R439: memory instructions of a packet engine. A load leaves its value pending in the slot
of its address, arrived unless it comes from cluster-shared memory; FADD on cluster-shared memory adds in place,
elsewhere it takes ALIGN or BOUNDS; a store writes the low bytes of its value, least significant first, and nothing
else. Rests on the model's choice of log entry 86. -/
def Obligations.PacketEngineMemory : Prop :=
  (∀ (cl e th c wi x : Nat) (s : State) (w : Who) (a : Arch), w = .pe cl e th → s.arch w = a → a.ds.length ≤ 16 →
      (s.thr cl e th).ctx = some c → s.wordOf w / 0x400 % 4 = wi → wi < 3 →
      (∀ d r, a.ds = d :: r → x = (d.toNat + s.wordOf w % 0x400) % 2 ^ 32 → s.atWord w 0xF000 0x4000 0 →
        exec (.ld w) s = .next (match peCheck x (2 ^ wi) false with
          | some (k, u) => s.faults w k u
          | none => s.completed ((s.counted w).shmEvent cl e th x) w a false
              (some { slot := r.length, value := s.peLoad cl c x (2 ^ wi), arrived := decide (x < 0x10000 ∨ 0x50000 ≤ x) }))) ∧
      (a.ds.length < 16 → x = s.wordOf w % 0x400 → s.atWord w 0xF000 0x5000 0 →
        exec (.ldc w) s = .next (if x % 2 ^ wi ≠ 0 then s.faults w 4 0
          else s.completed (s.counted w) w { a with ds := BitVec.ofNat 32 x :: a.ds } false
            (some { slot := a.ds.length, value := s.peLoad cl c x (2 ^ wi) }))) ∧
      (∀ d v r, a.ds = d :: v :: r → x = (d.toNat + s.wordOf w % 0x400) % 2 ^ 32 → s.atWord w 0xF000 0x6000 0 →
        exec (.st w) s = .next (match peCheck x (2 ^ wi) true with
          | some (k, u) => s.faults w k u
          | none => s.completed ((s.counted w).peStore cl c x (2 ^ wi) v) w { a with ds := r })) ∧
      (∀ v r, a.ds = v :: r → x = s.wordOf w % 0x400 → s.atWord w 0xF000 0x7000 0 →
        exec (.stc w) s = .next (match peCheck x (2 ^ wi) true with
          | some (k, u) => s.faults w k u
          | none => s.completed ((s.counted w).peStore cl c x (2 ^ wi) v) w { a with ds := r }))) ∧
  (∀ (cl e th : Nat) (s : State) (w : Who) (a : Arch) (d v : Word) (r : List Word), w = .pe cl e th → s.arch w = a →
      a.ds = d :: v :: r → a.ds.length ≤ 16 → s.atWord w 0xF0FF 0x0040 0x0F00 →
      exec (.fadd w) s = .next
        (if d.toNat % 4 ≠ 0 then s.faults w 4 0
         else if d.toNat < 0x10000 ∨ 0x50000 ≤ d.toNat then s.faults w 5 0
         else s.completed (((s.counted w).peStore cl 0 d.toNat 4 (s.peLoad cl 0 d.toNat 4 + v)).engEvent cl e th 6) w
           { a with ds := v :: r } false (some { slot := r.length, value := s.peLoad cl 0 d.toNat 4, arrived := false }))) ∧
  (∀ (s : State) (cl c x wi : Nat) (v : Word), wi < 3 → peCheck x (2 ^ wi) true = none →
      let t := s.peStore cl c x (2 ^ wi) v
      (∀ i < 2 ^ wi, t.peByte cl c (x + i) = v.extractLsb' (8 * i) 8) ∧
      (∀ y, y < x ∨ x + 2 ^ wi ≤ y → t.peByte cl c y = s.peByte cl c y) ∧
      (∀ d y, d ≠ c → (t.ctx d).byte y = (s.ctx d).byte y) ∧
      (∀ k y, k ≠ cl → k < 16 → cl < 16 → 0x10000 ≤ y → y < 0x50000 → t.peByte k c y = s.peByte k c y) ∧
      t.mem = s.mem ∧ t.flume.ps = s.flume.ps ∧ t.regs = s.regs ∧ t.ctrs = s.ctrs)

/-- R400, R404, R405, R434, R435, R437: memory instructions of a control engine on local memory, and those that hit or
miss the data cache. Rests on the model's choice of log entry 86. -/
def Obligations.ControlEngineMemory : Prop :=
  (∀ (k wi x : Nat) (s : State) (w : Who) (a : Arch) (ce : Ce), w = .ce k → s.ce k = ce → s.arch w = a → a.ds.length ≤ 16 →
      s.wordOf w / 0x400 % 4 = wi → wi < 3 → x % 2 ^ wi = 0 →
      let local_ := 0x1000000 ≤ x ∧ x < 0x2000000
      let loc := 0x1000000 + k * 0x400000 + s.wordOf w % 0x400
      let val := BitVec.ofNat 32 (leNat ((List.range (2 ^ wi)).map fun i => s.ceByte ce (x + i)))
      let entry : WbEntry := { addr := x, data := [] }
      (∀ d r, a.ds = d :: r → x = ce.seg * 2 ^ 32 + (d.toNat + s.wordOf w % 0x400) % 2 ^ 32 → s.atWord w 0xF000 0x4000 0 →
        (local_ → exec (.ld w) s = .next (s.completed s w a false (some { slot := r.length, value := val }))) ∧
        (∀ l, 0x2000000000 ≤ x → x < 0x4000000000 → ce.lineOf x = some l → exec (.ld w) s = .next
          (s.completed (s.setCe k (ce.touch l.line)) w a false
            (some { slot := r.length, value := BitVec.ofNat 32 (leNat (slice l.data (x % 64) (2 ^ wi))) })))) ∧
      (x = loc → k < 4 → a.ds.length < 16 → s.atWord w 0xF000 0x5000 0 →
        exec (.ldc w) s = .next (s.completed s w { a with ds := BitVec.ofNat 32 (s.wordOf w % 0x400) :: a.ds } false
          (some { slot := a.ds.length, value := val }))) ∧
      (∀ d v r, a.ds = d :: v :: r → x = ce.seg * 2 ^ 32 + (d.toNat + s.wordOf w % 0x400) % 2 ^ 32 → s.atWord w 0xF000 0x6000 0 →
        (local_ → ce.wb.length < 16 → exec (.st w) s = .next
          (s.completed (s.setCe k { ce with wb := ce.wb ++ [{ entry with data := leBytes v.toNat (2 ^ wi) }] }) w { a with ds := r }))) ∧
      (∀ v r, a.ds = v :: r → x = loc → k < 4 → ce.wb.length < 16 → s.atWord w 0xF000 0x7000 0 →
        exec (.stc w) s = .next
          (s.completed (s.setCe k { ce with wb := ce.wb ++ [{ entry with data := leBytes v.toNat (2 ^ wi) }] }) w { a with ds := r }))) ∧
  (∀ (k wi x : Nat) (s : State) (w : Who) (a : Arch) (ce : Ce) (d v : Word) (r : List Word), w = .ce k → s.ce k = ce →
      s.arch w = a → a.ds.length ≤ 16 → s.wordOf w / 0x400 % 4 = wi → wi < 3 → x % 2 ^ wi = 0 →
      x = ce.seg * 2 ^ 32 + (d.toNat + s.wordOf w % 0x400) % 2 ^ 32 → 0x2000000000 ≤ x → x < 0x4000000000 →
      (∀ l, a.ds = d :: v :: r → s.atWord w 0xF000 0x6000 0 → ce.lineOf x = some l → exec (.st w) s = .next
        (s.completed (s.setCe k { ce.touch l.line with
          cache := (ce.touch l.line).cache.map fun m => if m.line = l.line then storeLine m x (leBytes v.toNat (2 ^ wi)) else m }) w
          { a with ds := r })) ∧
      (a.ds = d :: v :: r → s.atWord w 0xF000 0x6000 0 → ce.lineOf x = none → exec (.st w) s = .next
        (s.completed (s.setCe k { ce with
          misses := ce.misses ++ [{ addr := x, width := 2 ^ wi, store := some (leBytes v.toNat (2 ^ wi)) }] }) w { a with ds := r })) ∧
      (a.ds = d :: r → s.atWord w 0xF000 0x4000 0 → ce.lineOf x = none → exec (.ld w) s = .next
        (s.completed (s.setCe k { ce with uses := ce.uses + 1
                                          misses := ce.misses ++ [{ addr := x, width := 2 ^ wi, tag := ce.uses + 1 }] }) w a false
          (some { slot := r.length, arrived := false, tag := ce.uses + 1 }))))

/-- R163, R166, R405, R406, R421, R435, R438, R454: a control engine's register accesses, its accesses that wait, its
access faults and its fetch-and-add. Rests on the model's choices of log entries 85 and 86. -/
def Obligations.ControlEngineAccesses : Prop :=
  ∀ (k wi x : Nat) (s : State) (w : Who) (a : Arch) (ce : Ce) (d v : Word) (r : List Word), w = .ce k → s.ce k = ce →
    s.arch w = a → a.ds.length ≤ 16 → s.wordOf w / 0x400 % 4 = wi → wi < 3 →
    (x = ce.seg * 2 ^ 32 + (d.toNat + s.wordOf w % 0x400) % 2 ^ 32 → a.ds = d :: v :: r →
      (s.atWord w 0xF000 0x4000 0 → x % 2 ^ wi ≠ 0 ∨ (x < 0x1000000 ∧ wi ≠ 2) → exec (.ld w) s = .next (s.faults w 4 0)) ∧
      (s.atWord w 0xF000 0x6000 0 → x % 2 ^ wi ≠ 0 ∨ (x < 0x1000000 ∧ wi ≠ 2) → exec (.st w) s = .next (s.faults w 4 0)) ∧
      (s.atWord w 0xF000 0x4000 0 → x % 2 ^ wi = 0 → 0x2000000 ≤ x → x < 0x2000000000 ∨ 0x4000000000 ≤ x →
        exec (.ld w) s = .next (s.faults w 5 0)) ∧
      (s.atWord w 0xF000 0x4000 0 → x < 0x1000000 → x % 4 = 0 → wi = 2 → exec (.ld w) s = .next
        (if ce.wb = [] then s.completed (s.busRead k x).2 w a false
          (some { slot := r.length + 1, value := (s.busRead k x).1, arrived := false }) else s)) ∧
      (s.atWord w 0xF000 0x6000 0 → x < 0x1000000 → x % 4 = 0 → wi = 2 → exec (.st w) s = .next
        (if ce.wb = [] then s.completed (s.busWrite k x v) w { a with ds := r } else s)) ∧
      (s.atWord w 0xF000 0x6000 0 → 0x1000000 ≤ x → x < 0x2000000 → x % 2 ^ wi = 0 → 16 ≤ ce.wb.length → exec (.st w) s = .next s)) ∧
    (x = ce.seg * 2 ^ 32 + d.toNat → a.ds = d :: v :: r → s.atWord w 0xF0FF 0x0040 0x0F00 →
      let u := (ce.wb.foldl (fun t e => t.stBytes e.addr e.data) s).setCe k { ce with wb := [] }
      let old := BitVec.ofNat 32 (leNat (u.ldBytes x 4))
      exec (.fadd w) s = .next
        (if x % 4 ≠ 0 then s.faults w 4 0
         else if x < 0x1000000 ∨ 0x2000000 ≤ x then s.faults w 5 0
         else s.completed (u.stBytes x (leBytes (old + v).toNat 4)) w { a with ds := v :: r } false
           (some { slot := r.length, value := old })))

/-! ## Control engines (R399–R407, R451–R453) -/

/-- R402, R407, R451, R452: the control extension. -/
def Obligations.ControlExtension : Prop :=
  ∀ (k : Nat) (s : State) (w : Who) (a : Arch) (c : Ce), w = .ce k → s.ce k = c → s.arch w = a → a.ds.length ≤ 16 →
    (s.atWord w 0xFF00 0xD000 0xFF → c.level = false → exec (.reti w) s = .next (s.completed (s.setCe k c) w a)) ∧
    (s.atWord w 0xFFFF 0xD000 0 → c.level = true → exec (.reti w) s = .next
      (s.setCe k { c with level := false, ie := true, base := { c.base with pc := c.resume }, intr := settle c.intr })) ∧
    (s.atWord w 0xFF00 0xD100 0xFF → exec (.ei w) s = .next (s.completed (s.setCe k { c with ie := true }) w a)) ∧
    (s.atWord w 0xFF00 0xD200 0xFF → exec (.di w) s = .next (s.completed (s.setCe k { c with ie := false }) w a)) ∧
    (∀ d r, a.ds = d :: r → c.wb.length < 16 → s.atWord w 0xFF00 0xD300 0xFF →
      (¬ inDram (c.seg * 2 ^ 32 + d.toNat) → exec (.clean w) s = .next (s.completed (s.setCe k c) w { a with ds := r })) ∧
      (∀ l, inDram (c.seg * 2 ^ 32 + d.toNat) →
        c.cache.find? (fun m => m.line == (c.seg * 2 ^ 32 + d.toNat) / 64 && m.dirty) = some l →
        exec (.clean w) s = .next (s.completed (s.setCe k { c with
          wb := c.wb ++ [{ addr := (c.seg * 2 ^ 32 + d.toNat) / 64 * 64, data := l.data }]
          cache := c.cache.map fun m => if m.line = (c.seg * 2 ^ 32 + d.toNat) / 64 then { m with dirty := false } else m }) w
          { a with ds := r }))) ∧
    (∀ d r, a.ds = d :: r → s.atWord w 0xFF00 0xD400 0xFF → exec (.inval w) s = .next
      (s.completed (s.setCe k { c with cache := if inDram (c.seg * 2 ^ 32 + d.toNat) then
        (c.cache.filter fun l => l.line != (c.seg * 2 ^ 32 + d.toNat) / 64) else c.cache }) w { a with ds := r })) ∧
    (s.atWord w 0xFF00 0xD500 0xFF → exec (.sync w) s = .next
      (s.completed (s.setCe k { c with syncing := decide (c.wb ≠ []) }) w a)) ∧
    (s.atWord w 0xFF00 0xD600 0 → exec (.setseg w) s = .next (s.completed
      (s.setCe k (if c.level then { c with segIntr := s.wordOf w % 256 } else { c with segBase := s.wordOf w % 256 })) w a)) ∧
    (a.ds.length < 16 → s.atWord w 0xFF00 0xD700 0xFF → exec (.getseg w) s = .next
      (s.leaves w { a with ds := BitVec.ofNat 32 (if c.level then c.segIntr else c.segBase) :: a.ds })) ∧
    (s.atWord w 0xFF00 0xD800 0xFF → exec (.wait w) s = .next
      (s.completed (s.setCe k { c with waiting := decide (c.level = false ∧ s.irqLine k = false) }) w a))

/-- R386, R401, R402, R404, R405: interrupts, arriving loads, the write buffer and line fills. -/
def Obligations.ControlEngineEvents : Prop :=
  ∀ (k : Nat) (s : State) (c : Ce), k < 4 → s.ce k = c →
    (s.boot.core = .running → s.boot.stop = .none → s.bit (Reg.flmCeCtrl 0 k) 31 = true → c.halted = false → c.level = false →
      s.irqLine k = true → (∀ p, c.base.rep ≠ some (p, true)) →
      exec (.interruptTake k) s = .next (if c.ie then
          s.setCe k { c with
            level := true, ie := false, waiting := false
            resume := (match c.base.rep with | some (p, _) => p | none => c.base.pc)
            base := { c.base with rep := none }, intr := { ds := [], rs := [], rc := c.intr.rc, pc := 0x08 } }
        else if c.waiting then s.setCe k { c with waiting := false } else s)) ∧
    (∀ e r, c.wb = e :: r → exec (.writeBufferDrain k) s = .next
      ((s.stBytes e.addr e.data).setCe k { c with wb := r, syncing := c.syncing && decide (r ≠ []) })) ∧
    (∀ m r, c.misses = m :: r → m.store = none → c.lineOf m.addr = none →
      (c.cache.filter fun l => l.line % 256 == m.addr / 64 % 256).length < 4 → c.wb.length ≤ 16 →
      ∃ t, exec (.cacheLineFill k) s = .next t ∧ (t.ce k).misses = r ∧ t.mem = s.mem ∧ t.regs = s.regs ∧ (t.ce k).wb = c.wb ∧
        ∃ l, (t.ce k).lineOf m.addr = some l ∧ (l.data = (List.range 64).map fun i => s.ceByte c (m.addr / 64 * 64 + i)) ∧
          (t.ce k).base = arrive c.base m.tag (some (BitVec.ofNat 32 (leNat (slice l.data (m.addr % 64) m.width)))) ∧
          (t.ce k).intr = arrive c.intr m.tag (some (BitVec.ofNat 32 (leNat (slice l.data (m.addr % 64) m.width)))))

/-- R384, R386, R387, R437: an arriving load value is kept for the completion of its delay slot, or written at once where
that has completed; a value whose slot is no longer live is lost. -/
def Obligations.LoadDelivery : Prop :=
  ∀ (w : Who) (s : State) (a : Arch) (p : PendingLoad) (rest : List PendingLoad), w.wf = true → s.arch w = a →
    a.pend = p :: rest → p.arrived = false → p.tag = 0 →
    exec (.loadDeliver w) s = .next (s.setArch w
      (if p.delayDone then
        { a with pend := rest
                 ds := if p.slot < a.ds.length then a.ds.set (a.ds.length - 1 - p.slot) p.value else a.ds }
      else { a with pend := { p with arrived := true } :: rest }))

/-- R386, R388, R392–R396, R403, R418: what the completion of an instruction does to its issuer's registers: the PC moves
on within its width; a pending load's value is written after the instruction's own writes, waits for its arrival, or
is discarded where its slot is no longer live; under a repeat prefix RC goes down and at 0 the thread continues after
the target. And what a fault leaves of its issuer: a first fault in a context enters the exception entry; a fault in
state exception ends the context with a drop; a control engine goes to its fault vector or halts. -/
def Obligations.CompletionAndFaultEntry : Prop :=
  (∀ (w : Who) (s : State) (a : Arch),
     (a.pend = [] → a.rep = none → completeArch w a.pc { s := s, a := a } = { a with pc := (a.pc + 1) % pcMod w }) ∧
     (a.pend = [] → a.rep = none → ∀ p, completeArch w p { s := s, a := a, jump := true } = a) ∧
     (∀ p, a.pend = [p] → a.rep = none → p.delayDone = false →
       completeArch w a.pc { s := s, a := a } = { a with
         pc := (a.pc + 1) % pcMod w
         ds := if p.arrived ∧ p.slot < a.ds.length then a.ds.set (a.ds.length - 1 - p.slot) p.value else a.ds
         pend := if p.arrived ∨ a.ds.length ≤ p.slot then [] else [{ p with delayDone := true }] }) ∧
     (∀ l : PendingLoad, a.pend = [] → a.rep = none →
       completeArch w a.pc { s := s, a := a, load := some l } = { a with pc := (a.pc + 1) % pcMod w, pend := [l] }) ∧
     (∀ p x, a.pend = [] → a.rep = some (p, x) → a.rc = 1 →
       completeArch w a.pc { s := s, a := a } = { a with rc := 0, rep := none, pc := (p + 2) % pcMod w }) ∧
     (∀ p x, a.pend = [] → a.rep = some (p, x) → a.rc ≠ 1 →
       completeArch w a.pc { s := s, a := a } = { a with rc := a.rc - 1 })) ∧
  (∀ (s : State) (cl e th cause sub pc c : Nat), cl < 16 → (s.thr cl e th).ctx = some c → (s.ctx c).st ≠ .exception →
    let t := s.fault (.pe cl e th) cause sub pc
    (t.thr cl e th).arch.ds = [BitVec.ofNat 32 (cause * 2 ^ 28 + sub * 2 ^ 24), BitVec.ofNat 32 pc, (s.thr cl e th).arch.rc] ∧
    (t.thr cl e th).arch.rs = [] ∧ (t.thr cl e th).arch.rc = 0 ∧ (t.thr cl e th).arch.pend = [] ∧
    (t.thr cl e th).arch.rep = none ∧ (t.thr cl e th).arch.pc = s.fld (Reg.flmClCtrl cl) 15 0 ∧
    (t.thr cl e th).wait = none ∧ (t.ctx c).st = .exception ∧ (t.ctx c).frame = (s.ctx c).frame ∧
    (t.ctx c).edits = (s.ctx c).edits ∧ t.mem = s.mem ∧ t.flume.shm = s.flume.shm) ∧
  (∀ (s : State) (cl e th cause sub pc c : Nat), (s.thr cl e th).ctx = some c → (s.ctx c).st = .exception →
    (s.ctx c).cluster = cl → (s.ctx c).engine = e → (s.ctx c).thread = th →
    let t := s.fault (.pe cl e th) cause sub pc
    (t.ctx c).ending = .drop 5 ∧ (t.thr cl e th).wait = none) ∧
  (∀ (s : State) (k cause sub pc : Nat), (s.ce k).level = false →
    let t := s.fault (.ce k) cause sub pc
    (t.ce k).level = true ∧ (t.ce k).resume = pc ∧ (t.ce k).intr.pc = 0x10 ∧ (t.ce k).intr.rs = [] ∧
    (t.ce k).intr.ds = [BitVec.ofNat 32 (cause * 2 ^ 28 + sub * 2 ^ 24), BitVec.ofNat 32 pc, (s.ce k).base.rc] ∧
    (t.ce k).cause = cause ∧ (t.ce k).subcode = sub ∧ (t.ce k).wb = (s.ce k).wb ∧ t.regs = s.regs ∧ t.mem = s.mem) ∧
  (∀ (s : State) (k cause sub pc : Nat), (s.ce k).level = true →
    let t := s.fault (.ce k) cause sub pc
    (t.ce k) = { s.ce k with halted := true, cause := cause, subcode := sub } ∧ t.bit Reg.evcLocal 1 = true ∧ t.mem = s.mem)

/-! ## Helper calls (R449, R457–R487) -/

/-- R461, R464–R468: the hash, CRC and checksum helpers over context bytes with their argument faults (LEN outside its
range is HELPER subcode 5, a source range outside the context space subcode 1), and the timestamp helpers. Rests on
the model's choice of log entry 80. -/
def Obligations.HashChecksumAndTimeCalls : Prop :=
  (∀ (cl e th c : Nat) (s : State) (seed ofs ofb len : Word) (r : List Word),
      let w := Who.pe cl e th
      let bytes := fun (o : Word) => (List.range len.toNat).map fun i => (s.ctx c).frame.get (o.toNat + i)
      let okay := 1 ≤ len.toNat ∧ len.toNat ≤ 256 ∧ ofs.toNat + len.toNat ≤ 0x400
      (∀ u ∈ ([(Instr.h32m, 0, 0, fun bs => hashFin (crc32cBytes seed.toNat bs)),
          (Instr.hcallCrc32c, 1, 0, fun bs => crc32cBytes seed.toNat bs),
          (Instr.hcallCrc16, 1, 1, fun bs => crc16Bytes seed.toNat bs), (Instr.crc32, 1, 2, fun bs => crc32Bytes seed.toNat bs),
          (Instr.csum, 2, 0, fun bs => onesFold (seed.toNat % 65536 + sumWords bs))] :
          List ((Who → Instr) × Nat × Nat × (List Byte → Nat))),
        s.atCall cl e th c u.2.1 u.2.2.1 1 [seed, ofs, len] r →
        (okay → exec (u.1 w) s = .next (s.called (s.counted w) cl e th u.2.1 3 [u.2.2.2 (bytes ofs)])) ∧
        (len = 0 ∨ 256 < len.toNat → exec (u.1 w) s = .next (s.calledFault (s.counted w) cl e th u.2.1 3 5)) ∧
        (1 ≤ len.toNat → len.toNat ≤ 256 → 0x400 < ofs.toNat + len.toNat →
          exec (u.1 w) s = .next (s.calledFault (s.counted w) cl e th u.2.1 3 1))) ∧
      (s.atCall cl e th c 0 1 1 [seed, ofs, ofb, len] r → 1 ≤ len.toNat → len.toNat ≤ 64 → ofs.toNat + len.toNat ≤ 0x400 →
        ofb.toNat + len.toNat ≤ 0x400 → exec (.symh w) s = .next (s.called (s.counted w) cl e th 0 4
          [hashFin (crc32cBytes seed.toNat (if bytesLt (bytes ofb) (bytes ofs) then bytes ofb ++ bytes ofs else bytes ofs ++ bytes ofb))])) ∧
      (s.atCall cl e th c 2 1 1 [seed, ofs, len] r → exec (.csumAdj w) s = .next (s.called (s.counted w) cl e th 2 3
        [65535 - onesFold ((65535 - seed.toNat % 65536) + (65535 - ofs.toNat / 65536) + (65535 - ofs.toNat % 65536)
          + len.toNat / 65536 + len.toNat % 65536)]))) ∧
  (∀ (cl e th c : Nat) (s : State) (r : List Word),
      let w := Who.pe cl e th
      (s.atCall cl e th c 3 0 3 [] r → exec (.tsNow w) s = .next
        (s.called (s.counted w) cl e th 3 0 [s.tb.sec % 2 ^ 32, s.tb.ns, s.tb.frac / 2 ^ 32])) ∧
      (s.atCall cl e th c 3 1 2 [] r → exec (.tsNs64 w) s = .next
        (s.called (s.counted w) cl e th 3 0
          [(s.tb.sec * 1000000000 + s.tb.ns) % 2 ^ 64 % 2 ^ 32, (s.tb.sec * 1000000000 + s.tb.ns) % 2 ^ 64 / 2 ^ 32])) ∧
      (s.atCall cl e th c 3 2 1 [] r → exec (.tsAge w) s = .next
        (s.called (s.counted w) cl e th 3 0 [s.ageOf (leNat ((List.range 10).map fun i => (s.ctx c).frame.get (0x10 + i)))])))

/-- R462, R469, R470, R612–R615: the work-buffer helpers, for the owner of the calling cluster. Rests on the model's
choices of log entries 46 and 80. -/
def Obligations.BufferCalls : Prop :=
  ∀ (cl e th c : Nat) (s : State) (x y ofs len : Word) (r : List Word),
    let w := Who.pe cl e th
    let k := s.counted w
    let o := s.fld (Reg.bpmClOwner cl) 5 0
    cl < 16 →
    (s.atCall cl e th c 4 0 2 [x] r → exec (.alloc w) s = .next
      (s.called (k.bpmAlloc o x.toNat).2.2 cl e th 4 1 [(k.bpmAlloc o x.toNat).1, (k.bpmAlloc o x.toNat).2.1])) ∧
    (s.atCall cl e th c 4 1 1 [x] r → exec (.free w) s = .next
      (s.called (k.bpmFree o x.toNat).2 cl e th 4 1 [(k.bpmFree o x.toNat).1])) ∧
    (s.atCall cl e th c 4 2 1 [x, y] r → exec (.handover w) s = .next
      (s.called (k.bpmHandover o x.toNat y.toNat).2 cl e th 4 2 [(k.bpmHandover o x.toNat y.toNat).1])) ∧
    (s.atCall cl e th c 4 3 1 [x] r → exec (.share w) s = .next
      (s.called (k.bpmShare o x.toNat).2 cl e th 4 1 [(k.bpmShare o x.toNat).1])) ∧
    (s.atCall cl e th c 4 4 1 [x, y, ofs, len] r → 1 ≤ len.toNat → len.toNat ≤ 256 →
      (0xB8 ≤ ofs.toNat ∧ ofs.toNat + len.toNat ≤ 0x100) ∨ (0x200 ≤ ofs.toNat ∧ ofs.toNat + len.toNat ≤ 0x400) →
      exec (.bufferRead w) s = .next
        (if (s.bpmAccess x.toNat y.toNat len.toNat).1 = 0 then
          s.called k cl e th 4 4 [0] (ofs.toNat, (List.range len.toNat).map fun i => s.mem.get ((s.bpmAccess x.toNat y.toNat len.toNat).2 + i))
        else s.called k cl e th 4 4 [(s.bpmAccess x.toNat y.toNat len.toNat).1])) ∧
    (s.atCall cl e th c 4 5 1 [x, y, ofs, len] r → 1 ≤ len.toNat → len.toNat ≤ 256 → ofs.toNat + len.toNat ≤ 0x400 →
      exec (.bufferWrite w) s = .next
        (if (s.bpmAccess x.toNat y.toNat len.toNat).1 = 0 then
          s.called (k.stBytes (s.bpmAccess x.toNat y.toNat len.toNat).2
            ((List.range len.toNat).map fun i => (s.ctx c).frame.get (ofs.toNat + i))) cl e th 4 4 [0]
        else s.called k cl e th 4 4 [(s.bpmAccess x.toNat y.toNat len.toNat).1]))

/-- R474–R478, R485, R486: header edits as they are queued. -/
def Obligations.HeaderEdits : Prop :=
  ∀ (cl e th c : Nat) (s : State) (pos ofs len : Word) (r : List Word),
    let w := Who.pe cl e th
    let k := s.counted w
    let x := s.ctx c
    let done := fun (y : Ctx) => s.completed (k.setCtx c y) w { s.arch w with ds := r }
    let bytes := (List.range len.toNat).map fun i => x.frame.get (ofs.toNat + i)
    (∀ u ∈ ([(Instr.replace, 0, EditKind.replace), (Instr.editInsert, 1, EditKind.insert)] : List ((Who → Instr) × Nat × EditKind)),
      s.atCall cl e th c 7 u.2.1 0 [pos, ofs, len] r → 1 ≤ len.toNat → len.toNat ≤ 64 → ofs.toNat + len.toNat ≤ 0x400 →
      let d : Edit := { kind := u.2.2, pos := pos.toNat, len := len.toNat, data := bytes }
      exec (u.1 w) s = .next
        (if x.avail < pos.toNat + (if u.2.2 = .replace then len.toNat else 0) then s.faults w 6 2
         else if x.edits.any d.conflicts then s.faults w 6 3
         else if editsFit (x.edits ++ [d]) then done { x with edits := x.edits ++ [d] } else s.faults w 6 4)) ∧
    (s.atCall cl e th c 7 2 0 [pos, len] r → 1 ≤ len.toNat → len.toNat ≤ 256 →
      let d : Edit := { kind := .remove, pos := pos.toNat, len := len.toNat }
      exec (.remove w) s = .next
        (if x.avail < pos.toNat + len.toNat then s.faults w 6 2
         else if x.edits.any d.conflicts then s.faults w 6 3
         else if editsFit (x.edits ++ [d]) then done { x with edits := x.edits ++ [d] } else s.faults w 6 4)) ∧
    (s.atCall cl e th c 7 3 0 [pos] r →
      let d : Edit := { kind := .stamp, pos := pos.toNat, len := 10 }
      exec (.editStamp w) s = .next
        (if x.avail < pos.toNat + 10 then s.faults w 6 2
         else if x.edits.any d.conflicts then s.faults w 6 3
         else if editsFit (x.edits ++ [d]) then done { x with edits := x.edits ++ [d] } else s.faults w 6 4)) ∧
    (s.atCall cl e th c 7 4 0 [pos] r → exec (.siphon w) s = .next
      (done { x with siphonEn := pos.getLsbD 4, siphon := pos.toNat % 16, siphonEdited := pos.getLsbD 5 })) ∧
    (s.atCall cl e th c 7 5 0 [pos] r → exec (.culvert w) s = .next (done { x with culvert := pos.getLsbD 0 })) ∧
    (s.atCall cl e th c 7 6 0 [] r → exec (.editClear w) s = .next (done { x with edits := [] }))

/-- R483, R484, R486: the calls that end a context: a Culvert request first, then an invalid destination dropped into
Spillway counter 7, a valid one kept as the outcome; DROP counts in Spillway counter 6. -/
def Obligations.EndingCalls : Prop :=
  ∀ (cl e th c : Nat) (s : State) (p q : Word) (r : List Word),
    let w := Who.pe cl e th
    let k := s.counted w
    let x := s.ctx c
    let ends := fun (n : Ending) => s.completed (k.setCtx c { x with ending := n }) w { s.arch w with ds := r }
    let drops := fun (n : Nat) => s.completed ((k.setCtx c { x with ending := .drop n }).spill n) w { s.arch w with ds := r }
    let tc := bitsOf (leNat ((List.range 4).map fun i => x.frame.get (0x1C + i))) 23 21
    (s.atCall cl e th c 7 8 0 [p, q] r → exec (.emit w) s = .next
      (if x.culvert then ends (.culvert tc)
       else if p.toNat ≤ 133 ∧ q.toNat ≤ 7 ∧ s.portExists p.toNat = true then ends (.unicast p.toNat q.toNat) else drops 7)) ∧
    (s.atCall cl e th c 7 9 0 [p, q] r → exec (.emitMc w) s = .next
      (if x.culvert then ends (.culvert tc)
       else if p.toNat ≤ 4095 ∧ q.toNat ≤ 3 then ends (.multicast p.toNat q.toNat) else drops 7)) ∧
    (s.atCall cl e th c 7 10 0 [] r → exec (.hcallDrop w) s = .next (drops 6))

/-- R449, R450, R462: a result arrives: its bytes enter the context space, its words go onto the stack and the thread goes
on; a fault that arrives with a result is taken with the HCALL's address. Rests on the model's choice of log entry 79. -/
def Obligations.ResultDelivery : Prop :=
  ∀ (cl e th c : Nat) (s : State) (k : CallWait), (Who.pe cl e th).wf = true → s.coreUp = true →
    (s.thr cl e th).ctx = some c → (s.thr cl e th).late = none → (s.thr cl e th).wait = some k → k.waiting = none →
    (k.fault = none → (s.thr cl e th).arch.rep = none → ∃ t, exec (.helperResult (.pe cl e th)) s = .next t ∧
      (t.thr cl e th).wait = none ∧ (t.thr cl e th).arch = { (s.thr cl e th).arch with ds := k.results ++ (s.thr cl e th).arch.ds } ∧
      (∀ i < k.put.2.length, (t.ctx c).byte (k.put.1 + i) = k.put.2.getD i 0) ∧
      (∀ y, y < k.put.1 ∨ k.put.1 + k.put.2.length ≤ y → (t.ctx c).byte y = (s.ctx c).byte y) ∧
      t.regs = s.regs ∧ t.ctrs = s.ctrs ∧ t.mem = s.mem ∧ t.flow = s.flow) ∧
    (∀ u f, k.fault = some (u, f) → exec (.helperResult (.pe cl e th)) s = .next
      ((s.setThr cl e th { s.thr cl e th with wait := none }).fault (.pe cl e th) u f k.pc))

/-- R471–R473: the re-lookup helpers, in the lane of the calling cluster once it serves them. Rests on the model's choices
of log entries 80 and 131. -/
def Obligations.RelookupCalls : Prop :=
  ∀ (cl e th c : Nat) (s : State) (kofs adofs : Word) (r : List Word) (us : List ArrayUpset),
    let w := Who.pe cl e th
    let k := (s.counted w).upsets us
    us.all ArrayUpset.wf = true →
    let bytes := fun (o n : Nat) => (List.range n).map fun i => (s.ctx c).frame.get (o + i)
    (s.atCall cl e th c 5 0 2 [kofs, adofs] r → kofs.toNat + s.weirKeyLen ≤ 0x400 →
      (0xB8 ≤ adofs.toNat ∧ adofs.toNat + 16 ≤ 0x100) ∨ (0x200 ≤ adofs.toNat ∧ adofs.toNat + 16 ≤ 0x400) →
      k.laneServes cl k.ticket = true →
      let o := (k.count 40 [cl]).weirLookup cl (beNat (bytes kofs.toNat s.weirKeyLen))
      exec (.wlook w us) s = .next (s.called o.2 cl e th 5 2
        [(if o.1.hit.isSome then 1 else 0) + (if o.1.failed = [] then 0 else 2), o.1.hit.getD 0]
        (adofs.toNat, leBytes (match o.1.hit with | some i => (s.tables.weir.get i).ad | none => s.missAd) 16))) ∧
    (s.atCall cl e th c 5 0 2 [kofs, adofs] r →
      0x400 < kofs.toNat + s.weirKeyLen ∨ adofs.toNat < 0xB8 ∨ (0x100 < adofs.toNat + 16 ∧ adofs.toNat < 0x200) ∨ 0x400 < adofs.toNat + 16 →
      exec (.wlook w us) s = .next (s.calledFault k cl e th 5 2 1)) ∧
    (s.atCall cl e th c 5 0 2 [kofs, adofs] r → kofs.toNat + s.weirKeyLen ≤ 0x400 →
      (0xB8 ≤ adofs.toNat ∧ adofs.toNat + 16 ≤ 0x100) ∨ (0x200 ≤ adofs.toNat ∧ adofs.toNat + 16 ≤ 0x400) →
      k.laneServes cl k.ticket = false → ∃ t x, exec (.wlook w us) s = .next t ∧ (t.thr cl e th).wait = some x ∧
        x.waiting = some (0, [kofs.toNat, adofs.toNat]) ∧ x.ticket = some k.ticket ∧
        t.flume.tickets = k.flume.tickets + 1 ∧ t.tables = k.tables) ∧
    (s.atCall cl e th c 6 0 3 [kofs] r → 0x400 < kofs.toNat + 14 →
      exec (.elook w us) s = .next (s.calledFault k cl e th 6 1 1)) ∧
    (s.atCall cl e th c 6 0 3 [kofs] r → kofs.toNat + 14 ≤ 0x400 →
      k.laneServes cl k.ticket = true →
      let o := k.emtSearch cl (beNat (bytes kofs.toNat 14))
      exec (.elook w us) s = .next (s.called ((k.count 40 [cl]).emtFalseHits cl o) cl e th 6 1
        [(if o.hit.isSome then 1 else 0) + (if o.failed = [] then 0 else 2), o.hit.getD 0,
          (match o.hit with | some i => (s.tables.emt.get i).data | none => 0)])) ∧
    (s.atCall cl e th c 6 0 3 [kofs] r → kofs.toNat + 14 ≤ 0x400 → k.laneServes cl k.ticket = false →
      ∃ t x, exec (.elook w us) s = .next t ∧ (t.thr cl e th).wait = some x ∧ x.waiting = some (0, [kofs.toNat]) ∧
        x.ticket = some k.ticket ∧ t.flume.tickets = k.flume.tickets + 1 ∧ t.tables = k.tables)

/-! ## The tables (R287–R334) -/

/-- R297, R298, R303–R305, R309: where a replica's array words agree with the verify copies, a search hits the lowest
matching index, and misses only where no entry matches; a word that differs shows a match of its own; a verified
search tries at most four candidates, lowest index first. -/
def Obligations.FirstMatchAndVerifiedSearch : Prop :=
  (∀ (s : State) (r key : Nat), s.tables.weir.wf = true → s.tables.emt.wf = true →
      (upsetWords s.tables.weirArr r = [] →
        (∀ i, (s.weirSearch r key).hit = some i ↔ lowest (s.weirMatch key) i) ∧
        ((s.weirSearch r key).hit = none ↔ ∀ i, ¬ s.weirMatch key i)) ∧
      (upsetWords s.tables.emtArr r = [] →
        (∀ i, (s.emtSearch r key).hit = some i ↔ lowest (s.emtMatch key) i) ∧
        ((s.emtSearch r key).hit = none ↔ ∀ i, ¬ s.emtMatch key i))) ∧
  (∀ (matching : List Nat) (words : List (Nat × ArrayWord)) (p : ArrayWord → Bool) (size i : Nat),
      i ∈ arraySeen matching words p size ↔
        (i ∈ matching ∧ ∀ w, (i, w) ∉ words) ∨ (i < size ∧ ∃ w, (i, w) ∈ words ∧ w.valid = true ∧ p w = true)) ∧
  (∀ (matching seen : List Nat), seen.Pairwise (· < ·) →
      let o := verifiedSearch matching seen
      o.failed.length ≤ 4 ∧ (∀ i ∈ o.failed, i ∈ seen ∧ i ∉ matching) ∧
      (∀ i, o.hit = some i → i ∈ matching ∧ i ∈ seen ∧ o.failed.length ≤ 3 ∧ ∀ j ∈ seen, j < i → j ∈ o.failed) ∧
      (o.hit = none → o.failed.length = 4 ∨ ∀ i ∈ seen, i ∉ matching) ∧
      (o.fhMiss = true ↔ o.failed.length = 4))

/-- R287, R288, R290, R300, R301, R308, R310, R312, R318, R471: a lookup of a sound array: what each search finds, the
result with its associated data, where its disposition takes it, and the learn that a source miss stages; a verify
copy that cannot be corrected stops the module; the lane that group 20's result takes, and what a re-lookup waits
behind. Rests on the model's choices of log entries 47, 48 and 131. -/
def Obligations.LookupResults : Prop :=
  (∀ (g lane : Nat) (s : State) (r : ParseResult) (q : List ParseResult) (w so de : Option Nat), g < 21 → lane < 20 →
     s.hdg.out.get g = r :: q → s.coreUp = true → s.backPressure = false → s.takesLane g lane = true →
     upsetWords s.tables.weirArr (lane / 2) = [] → upsetWords s.tables.emtArr lane = [] →
     s.tables.weir.wf = true → s.tables.emt.wf = true →
     let prof := s.rd (Reg.weirProfA r.pcls)
     let found := fun (on : Nat) (m : Nat → Prop) (o : Option Nat) => match o with
       | some i => on = 1 ∧ lowest m i
       | none => on = 0 ∨ ∀ j, ¬ m j
     let key := s.weirKey r
     let src := emtKeyOf r (Wbits prof 28 22)
     found (Wbits prof 31 31) (s.weirMatch (beNat key)) w → found (Wbits prof 30 30) (s.emtMatch src) so →
     found (Wbits prof 30 30) (s.emtMatch (emtKeyOf r (Wbits prof 21 15))) de →
     let data := fun o : Option Nat => match o with
       | some i => (s.tables.emt.get i).data
       | none => 0
     let l : LookupResult := {
       parse := r, key := key, weirHit := w.isSome, weirIndex := w.getD 0
       ad := match w with
         | some i => (s.tables.weir.get i).ad
         | none => s.missAd
       srcHit := so.isSome, srcIndex := so.getD 0, srcData := data so
       dstHit := de.isSome, dstIndex := de.getD 0, dstData := data de }
     let hop := bitsOf l.ad 127 126
     let misses := so = none ∧ Wbits prof 30 30 = 1
     ∃ t, exec (.lookup g lane [] none) s = .next t ∧ t.hdg.out.get g = q ∧
       t.tables.out = (if hop = 1 ∨ hop = 2 then s.tables.out else s.tables.out ++ [l]) ∧
       (hop = 1 → t.ctr (Reg.qmSpill 2) = (s.ctr (Reg.qmSpill 2) + 1) % 2 ^ 64 ∧ (t.pkt r.pkt).live = false) ∧
       (hop = 0 ∨ hop = 3 →
         (∀ i, so = some i → t.tables.lastHit.get (lane * 65536 + i) = s.hitClock) ∧
         (misses → t.ctr (Reg.emtCnt lane 0) = (s.ctr (Reg.emtCnt lane 0) + 1) % 2 ^ 64) ∧
         (misses → Wbits prof 29 29 = 1 → (s.tables.staged.get lane).length < 32 → (s.pkt r.pkt).port < 132 →
           (s.pkt r.pkt).verdict = none → t.tables.learnQ = s.tables.learnQ ∧ t.tables.staged.get lane = s.tables.staged.get lane ++
             [{ kind := 0, dstHit := de.isSome, group := r.group, port := r.port, pcls := r.pcls, index := de.getD 0
                timeMs := s.hitClock, key := src, pkt := r.pkt }]) ∧
         (¬ misses ∨ Wbits prof 29 29 = 0 → t.tables.learnQ = s.tables.learnQ ∧ t.tables.staged = s.tables.staged ∧
           ∀ a, a < 0x700000 → t.rd a = s.rd a) ∧
         (Wbits prof 31 31 = 1 → t.ctr (Reg.weirCnt 0 (lane / 2)) = (s.ctr (Reg.weirCnt 0 (lane / 2)) + 1) % 2 ^ 64) ∧
         t.tables.weir = s.tables.weir ∧ t.tables.emt = s.tables.emt ∧ t.mem = s.mem ∧ t.dsp = s.dsp ∧ t.qm = s.qm)) ∧
  (∀ (g lane : Nat) (us : List ArrayUpset) (e : StoreError) (s : State), g < 21 → lane < 20 → us.all ArrayUpset.wf = true →
     0xE ≤ e.store → e.store ≤ 0x11 → s.hdg.out.get g ≠ [] → s.coreUp = true → s.backPressure = false →
     s.takesLane g lane = true → s.boot.stop = .none → ∃ t, exec (.lookup g lane us (some e)) s = .next t ∧
       t.boot.stop = .fault ∧ t.boot.cause = 3 ∧ t.tables.out = s.tables.out ∧ t.hdg.out = s.hdg.out) ∧
  (∀ (s : State) (lane : Nat), s.takesLane 20 lane = true ↔
      (lane < 20 ∧ s.hdg.out.get lane = [] ∧ s.laneWaiters lane = [] ∧ ∀ g < lane, s.hdg.out.get g ≠ [])) ∧
  (∀ (s : State) (lane : Nat) (us : List ArrayUpset), s.takesLane 20 lane = false → us.all ArrayUpset.wf = true → lane < 20 →
      exec (.lookup 20 lane us none) s = .next s) ∧
  (∀ (s : State) (g lane : Nat), g < 20 → s.takesLane g lane = true →
      lane = g ∧ ∀ u ∈ s.laneWaiters lane, 7 * (s.tb.run - u.since) < 320 * 2 ^ 48) ∧
  (∀ (s : State) (lane : Nat) (t : Ticket), s.laneServes lane t = true →
      (∀ u ∈ s.laneWaiters lane, t.seq ≤ u.seq) ∧
      (s.backPressure = false → s.hdg.out.get lane ≠ [] → 320 * 2 ^ 48 ≤ 7 * (s.tb.run - t.since)))

/-- R304, R306, R308, R310: one step of a maintenance walk: the next entry in index order; a word that differs from its
copy is repaired and counted, a last-hit time too far behind is raised, and an uncorrectable copy stops the module.
Rests on the model's choices of log entries 51 and 121. -/
def Obligations.WalkSteps : Prop :=
  ∀ (r : Nat) (us : List ArrayUpset) (s : State), s.coreUp = true → us.all ArrayUpset.wf = true →
    let k := s.upsets us
    (r < 10 →
      let i := k.tables.walk.get r
      exec (.walkStep .weir r us none) s = .next
        ((if (k.tables.weirArr.get (r * 65536 + i)).isSome then fun t : State => (t.weirMend r i).bump (Reg.weirCnt 3 r) else id)
          { k with tables.walk := k.tables.walk.set r ((i + 1) % s.weirSize) })) ∧
    (r < 20 →
      let i := s.tables.walk.get (100 + r)
      ∃ t, exec (.walkStep .emt r us none) s = .next t ∧
      t.tables.walk.get (100 + r) = (i + 1) % 65536 ∧ t.tables.emt = s.tables.emt ∧
      t.tables.emtArr.get (r * 65536 + i) = none ∧
      (∀ j, j ≠ r * 65536 + i → t.tables.emtArr.get j = k.tables.emtArr.get j) ∧
      (s.tables.lastHit.get (r * 65536 + i) < 2 ^ 32 →
        t.tables.lastHit.get (r * 65536 + i) =
          if 2 ^ 30 < (s.hitClock + 2 ^ 32 - s.tables.lastHit.get (r * 65536 + i)) % 2 ^ 32 ∧
            (s.hitClock + 2 ^ 32 - s.tables.lastHit.get (r * 65536 + i)) % 2 ^ 32 < 2 ^ 31
          then (s.hitClock + 2 ^ 32 - 2 ^ 30) % 2 ^ 32 else s.tables.lastHit.get (r * 65536 + i)) ∧
      (∀ j, j ≠ r * 65536 + i → t.tables.lastHit.get j = s.tables.lastHit.get j) ∧
      t.regs = s.regs ∧ t.mem = s.mem ∧
      t.ctr (Reg.emtCnt r 6) =
        if (k.tables.emtArr.get (r * 65536 + i)).isSome then (s.ctr (Reg.emtCnt r 6) + 1) % 2 ^ 64 else s.ctr (Reg.emtCnt r 6)) ∧
    (∀ table e, TableSel.hasReplica table r = true → e.store = TableSel.copies table →
      exec (.walkStep table r us (some e)) s = .next (s.storeFault e.store 0 r e.word e.syndrome))

/-- R299, R323–R327: the WEIR commands, the writes that commit staged words, WEIR.CTRL, the miss data and the lookup
profiles. Rests on the model's choices of log entries 49, 50, 117 and 131. -/
def Obligations.WeirCommands : Prop :=
  (∀ (acc i : Nat) (v : Word) (s : State), s.reaches acc Reg.weirCmd → s.bit Reg.weirResult 30 = false → Wbits v 18 4 = i → i < s.weirSize →
      let words := fun (f : Nat → Nat) (n : Nat) => leNat ((List.range n).flatMap fun k => leBytes (s.rd (f k)).toNat 4)
      let n := if s.bit Reg.weirCtrl 0 then 20 else 10
      -- the entry's word agrees with its copy in every replica, and no other word changes
      let agree := fun t : State => (∀ r < 10, t.tables.weirArr.get (r * 65536 + i) = none) ∧
        ∀ j, (∀ r < 10, j ≠ r * 65536 + i) → t.tables.weirArr.get j = s.tables.weirArr.get j
      (Wbits v 3 0 = 1 → ∃ t, exec (.weirCmdWrite acc v) s = .next t ∧
        t = { s with regs := t.regs, tables.weir := t.tables.weir, tables.weirArr := t.tables.weirArr } ∧ agree t ∧
        t.tables.weir.get i = { valid := s.bit Reg.weirWrFlags 0, val := words Reg.weirWrVal n, mask := words Reg.weirWrMask n,
                                ad := words Reg.weirWrAd 4 } ∧
        (∀ j, j ≠ i → t.tables.weir.get j = s.tables.weir.get j) ∧ t.rd Reg.weirResult = resultWord i ∧
        s.regsBut t [Reg.weirResult]) ∧
      (Wbits v 3 0 = 2 → ∃ t, exec (.weirCmdInvalidate acc v) s = .next t ∧
        t = { s with regs := t.regs, tables.weir := t.tables.weir, tables.weirArr := t.tables.weirArr } ∧ agree t ∧
        t.tables.weir.get i = { s.tables.weir.get i with valid := false } ∧
        (∀ j, j ≠ i → t.tables.weir.get j = s.tables.weir.get j) ∧ t.rd Reg.weirResult = resultWord i ∧
        s.regsBut t [Reg.weirResult]) ∧
      (Wbits v 3 0 = 3 → Wbits v 27 24 < 10 → ∃ t, exec (.weirCmdRead acc v) s = .next t ∧ t = { s with regs := t.regs } ∧
        (∀ k < n, (t.rd (Reg.weirRdVal k)).toNat = (s.tables.weir.get i).val / 2 ^ (32 * k) % 2 ^ 32) ∧
        (∀ k < n, (t.rd (Reg.weirRdMask k)).toNat = (s.tables.weir.get i).mask / 2 ^ (32 * k) % 2 ^ 32) ∧
        (∀ k, n ≤ k → k < 20 → t.rd (Reg.weirRdVal k) = 0 ∧ t.rd (Reg.weirRdMask k) = 0) ∧
        (∀ k < 4, (t.rd (Reg.weirRdAd k)).toNat = (s.tables.weir.get i).ad / 2 ^ (32 * k) % 2 ^ 32) ∧
        t.rd Reg.weirRdFlags = (if (s.tables.weir.get i).valid then 1 else 0) ∧ t.rd Reg.weirResult = resultWord i ∧
        ∀ a, (a < 0x200300 ∨ 0x200414 ≤ a) → a ≠ Reg.weirResult → t.rd a = s.rd a) ∧
      (Wbits v 3 0 = 4 → Wbits v 27 24 < 10 → s.tables.weir.wf = true →
        upsetWords s.tables.weirArr (Wbits v 27 24) = [] → s.laneServes (2 * Wbits v 27 24) s.ticket = true →
        (∀ k, lowest (s.weirMatch (words Reg.weirWrVal n)) k → k < 2 ^ 15 → ∃ t, exec (.weirCmdSearch acc v) s = .next t ∧
          t = { s with regs := t.regs } ∧ t.rd Reg.weirResult = resultWord k ∧ s.regsBut t [Reg.weirResult]) ∧
        ((∀ k, ¬ s.weirMatch (words Reg.weirWrVal n) k) → ∃ t x, exec (.weirCmdSearch acc v) s = .next t ∧ x < 2 ^ 15 ∧
          t = { s with regs := t.regs, freeCtr := s.freeCtr + 1 } ∧ t.rd Reg.weirResult = resultWord (2 * 2 ^ 25 + x) ∧
          s.regsBut t [Reg.weirResult])) ∧
      (Wbits v 3 0 = 4 → Wbits v 27 24 < 10 → s.laneServes (2 * Wbits v 27 24) s.ticket = false →
        ∃ t, exec (.weirCmdSearch acc v) s = .next t ∧ t.bit Reg.weirResult 30 = true ∧ s.regsBut t [Reg.weirResult] ∧
          t.tables.search = some { lane := 2 * Wbits v 27 24, key := words Reg.weirWrVal n, ticket := s.ticket })) ∧
  (∀ (acc : Nat) (v : Word) (s : State), s.reaches acc Reg.weirCmd → s.bit Reg.weirResult 30 = true → Wbits v 3 0 = 4 →
      exec (.weirCmdSearch acc v) s = .next (s.cmdReject Reg.weirResult)) ∧
  (∀ (acc p : Nat) (v : Word) (s : State), p < 256 →
      (s.reaches acc Reg.weirCtrl → ∃ t, exec (.weirCtrlWrite acc v) s = .next t ∧ t.rd Reg.weirCtrl = v &&& 1 ∧
        s.regsBut t [Reg.weirCtrl] ∧
        (s.bit Reg.weirCtrl 0 = v.getLsbD 0 → t.tables = s.tables) ∧
        (s.bit Reg.weirCtrl 0 ≠ v.getLsbD 0 → s.tables.weir.wf = true → (∀ i, (t.tables.weir.get i).valid = false) ∧
          t.tables.emt = s.tables.emt)) ∧
      (s.reaches acc (Reg.weirMissAd 3) → ∃ t, exec (.missAdCommit acc v) s = .next t ∧ t.rd (Reg.weirMissAd 3) = v ∧
        (∀ k < 3, t.rd (Reg.weirMissAd k) = ((s.shadow acc (Reg.weirMissAd k)).getD (s.rd (Reg.weirMissAd k))) ∧
          t.shadow acc (Reg.weirMissAd k) = none) ∧
        s.regsBut t [Reg.weirMissAd 0, Reg.weirMissAd 1, Reg.weirMissAd 2, Reg.weirMissAd 3] ∧ t.tables = s.tables) ∧
      (s.reaches acc (Reg.weirProfA p) → ∃ t, exec (.profileCommit acc p v) s = .next t ∧
        t.rd (Reg.weirProfA p) = v &&& 0xFFFF8000#32 ∧
        (∀ a ∈ [Reg.weirProfSeg01 p, Reg.weirProfSeg23 p], t.rd a = (s.shadow acc a).getD (s.rd a) ∧ t.shadow acc a = none) ∧
        s.regsBut t [Reg.weirProfA p, Reg.weirProfSeg01 p, Reg.weirProfSeg23 p] ∧ t.tables = s.tables))

/-- R311, R317, R331, R332: the EMT commands and the learn queue's pop. Rests on the model's choices of log entries 46,
49, 50, 115, 116 and 132. -/
def Obligations.EmtCommands : Prop :=
  ∀ (acc i : Nat) (v : Word) (s : State) (e : EmtEntry), s.reaches acc Reg.emtCmd → s.tables.emt.wf = true →
    (∀ g < 20, upsetWords s.tables.emtArr g = []) →
    (∀ k, 65536 ≤ k → (s.tables.emt.get k).valid = false) →
    let key := leNat ((List.range 4).flatMap fun k => leBytes (s.rd (Reg.emtKey k)).toNat 4) % 2 ^ 112
    e = { valid := true, key := key, data := (s.rd Reg.emtData).toNat, isStatic := s.bit Reg.emtFlags 0 } →
    (Wbits v 3 0 = 1 → (∀ k, ¬ s.emtMatch key k) → lowest (fun k => (s.tables.emt.get k).valid = false) i → i < 65536 →
      ∃ t, exec (.emtInsert acc v) s = .next t ∧ t.tables.emt.get i = e ∧
        (∀ j, j ≠ i → t.tables.emt.get j = s.tables.emt.get j) ∧
        (∀ g < 20, t.tables.lastHit.get (g * 65536 + i) = s.hitClock) ∧ t.rd Reg.emtResult = resultWord i ∧
        s.regsBut t [Reg.emtResult] ∧ t.tables.learnQ = s.tables.learnQ) ∧
    (Wbits v 3 0 = 1 → lowest (s.emtMatch key) i → i < 65536 → ∃ t, exec (.emtInsert acc v) s = .next t ∧
      t = { s with regs := t.regs } ∧ t.rd Reg.emtResult = resultWord (2 ^ 25 + i) ∧ s.regsBut t [Reg.emtResult]) ∧
    (Wbits v 3 0 = 2 → lowest (s.emtMatch key) i → i < 65536 → ∃ t, exec (.emtDelete acc v) s = .next t ∧
      (t.tables.emt.get i).valid = false ∧ (∀ j, j ≠ i → t.tables.emt.get j = s.tables.emt.get j) ∧
      t.rd Reg.emtResult = resultWord i ∧ s.regsBut t [Reg.emtResult] ∧ t.tables.learnQ = s.tables.learnQ) ∧
    (Wbits v 3 0 = 3 → Wbits v 28 24 < 20 → lowest (s.emtMatch key) i → i < 65536 → ∃ t, exec (.emtCmdLookup acc v) s = .next t ∧
      t = { s with regs := t.regs } ∧ t.rd Reg.emtRdData = BitVec.ofNat 32 (s.tables.emt.get i).data ∧
      t.rd Reg.emtRdFlags = BitVec.ofNat 32 (2 + (if (s.tables.emt.get i).isStatic then 1 else 0)) ∧
      (∀ k < 4, t.rd (Reg.emtRdKey k) = BitVec.ofNat 32 (key / 2 ^ (32 * k))) ∧
      t.rd Reg.emtRdLastHit = BitVec.ofNat 32 (s.lastHitOf i) ∧ t.rd Reg.emtResult = resultWord i) ∧
    (Wbits v 3 0 = 4 → Wbits v 28 24 < 20 → Wbits v 19 4 = i → ∃ t, exec (.emtCmdRead acc v) s = .next t ∧
      t = { s with regs := t.regs } ∧ t.rd Reg.emtRdData = BitVec.ofNat 32 (s.tables.emt.get i).data ∧
      t.rd Reg.emtRdFlags = BitVec.ofNat 32 ((if (s.tables.emt.get i).valid then 2 else 0) +
        (if (s.tables.emt.get i).isStatic then 1 else 0)) ∧
      (∀ k < 4, t.rd (Reg.emtRdKey k) = BitVec.ofNat 32 ((s.tables.emt.get i).key / 2 ^ (32 * k))) ∧
      t.rd Reg.emtRdLastHit = BitVec.ofNat 32 (s.lastHitOf i) ∧ t.rd Reg.emtResult = resultWord i) ∧
    (Wbits v 3 0 = 5 → Wbits v 19 4 = i → ∃ t, exec (.emtInvalidate acc v) s = .next t ∧ (t.tables.emt.get i).valid = false ∧
      (∀ j, j ≠ i → t.tables.emt.get j = s.tables.emt.get j) ∧ t.rd Reg.emtResult = resultWord i ∧
      s.regsBut t [Reg.emtResult] ∧ t.tables.learnQ = s.tables.learnQ) ∧
    (Wbits v 3 0 = 6 → lowest (s.emtMatch key) i → i < 65536 → ∃ t, exec (.emtUpdate acc v) s = .next t ∧ t.tables.emt.get i = e ∧
      (∀ j, j ≠ i → t.tables.emt.get j = s.tables.emt.get j) ∧ t.tables.lastHit = s.tables.lastHit ∧
      t.rd Reg.emtResult = resultWord i ∧ s.regsBut t [Reg.emtResult]) ∧
    (Wbits v 3 0 = 2 ∨ Wbits v 3 0 = 6 → (∀ k, ¬ s.emtMatch key k) → ∃ t x,
      (Wbits v 3 0 = 2 → exec (.emtDelete acc v) s = .next t) ∧ (Wbits v 3 0 = 6 → exec (.emtUpdate acc v) s = .next t) ∧
      t = { s with regs := t.regs, freeCtr := s.freeCtr + 1 } ∧ x < 2 ^ 16 ∧ t.rd Reg.emtResult = resultWord (2 * 2 ^ 25 + x) ∧
      s.regsBut t [Reg.emtResult]) ∧
    (s.reaches acc Reg.emtLqPop → Wbits v 0 0 = 1 → exec (.lqPop acc v) s = .next
      { s with tables.learnQ := s.tables.learnQ.drop 1 })

/-! ## Flow operations (R488–R567) -/

/-- R536, R538–R541, R544: operations by handle on a cached record, at the offsets and lengths those rules allow: their
results, and the speculative image the record then has; and the token bucket of POLICE. Rests on the model's choices
of log entries 71, 119 and 120. -/
def Obligations.FlowOperationsByHandle : Prop :=
  (∀ (cl e th c key : Nat) (s : State) (lo hi x y z : Word) (r : List Word) (img : List Byte),
      let w := Who.pe cl e th
      let ns := s.ingressNs (leNat ((List.range 10).map fun i => (s.ctx c).frame.get (0x10 + i)))
      let bytes := fun (o n : Nat) => (List.range n).map fun i => (s.ctx c).frame.get (o + i)
      let old := fieldOf img x.toNat 4
      let put := fun (v : Nat) => imgPut img x.toNat (leBytes v 4)
      let field := fun (n al : Nat) => x.toNat % al = 0 ∧ writeBase s.recSize ≤ x.toNat ∧ x.toNat + n ≤ s.recSize
      let one := fun (i : Instr) (results : List Word) (img' : List Byte) =>
        ∃ t, exec i s = .next t ∧ s.stages t cl e th c key results r img'
      s.mayStage (s.instOf c) key → s.flow.insts.wf = true →
      (s.atHandle cl e th c 2 1 [lo, hi] r key img → one (.flowDelete w) [0] (recClear img)) ∧
      (s.atHandle cl e th c 3 1 [lo, hi, x, y, z] r key img → 1 ≤ z.toNat → z.toNat ≤ 256 → x.toNat + z.toNat ≤ s.recSize →
        (0xB8 ≤ y.toNat ∧ y.toNat + z.toNat ≤ 0x100) ∨ (0x200 ≤ y.toNat ∧ y.toNat + z.toNat ≤ 0x400) →
        ∃ t, exec (.flowRead w) s = .next t ∧
          (t.thr cl e th).wait = some { pc := (s.arch w).faultPc, unit := 8, results := [0],
                                        put := (y.toNat, slice img x.toNat z.toNat) } ∧
          (∀ k, t.log k = s.log k) ∧ t.mem = s.mem) ∧
      (s.atHandle cl e th c 4 1 [lo, hi, x, y, z] r key img → 1 ≤ z.toNat → z.toNat ≤ 64 → y.toNat + z.toNat ≤ 0x400 →
        field z.toNat 1 → one (.flowWrite w) [0] (imgPut img x.toNat (bytes y.toNat z.toNat))) ∧
      (s.atHandle cl e th c 5 2 [lo, hi, x, y] r key img → field 4 4 →
        one (.fadd32 w) [0, BitVec.ofNat 32 old] (put ((old + y.toNat) % 2 ^ 32))) ∧
      (s.atHandle cl e th c 6 3 [lo, hi, x, y] r key img → field 8 8 →
        let v := fieldOf img x.toNat 8
        one (.fadd64 w) [0, BitVec.ofNat 32 v, BitVec.ofNat 32 (v / 2 ^ 32)]
          (imgPut img x.toNat (leBytes (BitVec.ofNat 64 v + y.signExtend 64).toNat 8))) ∧
      (s.atHandle cl e th c 7 2 [lo, hi, x, y, z] r key img → field 4 4 →
        (old = y.toNat → one (.cas32 w) [0, BitVec.ofNat 32 old] (put z.toNat)) ∧
        (old ≠ y.toNat → ∃ t, exec (.cas32 w) s = .next t ∧
          (t.thr cl e th).wait = some { pc := (s.arch w).faultPc, unit := 8, results := [BitVec.ofNat 32 old, 6] } ∧
          ∀ k, t.log k = s.log k)) ∧
      (s.atHandle cl e th c 8 2 [lo, hi, x, y] r key img → field 4 4 →
        one (.minu32 w) [0, BitVec.ofNat 32 old] (put (min old y.toNat))) ∧
      (s.atHandle cl e th c 9 2 [lo, hi, x, y] r key img → field 4 4 →
        one (.maxu32 w) [0, BitVec.ofNat 32 old] (put (max old y.toNat))) ∧
      (s.atHandle cl e th c 10 2 [lo, hi, x, y] r key img → field 4 4 →
        one (.setbits32 w) [0, BitVec.ofNat 32 old] (put (BitVec.ofNat 32 old ||| y).toNat)) ∧
      (s.atHandle cl e th c 11 2 [lo, hi, x, y] r key img → field 4 4 →
        one (.clrbits32 w) [0, BitVec.ofNat 32 old] (put (BitVec.ofNat 32 old &&& ~~~y).toNat)) ∧
      (s.atHandle cl e th c 12 1 [lo, hi, x] r key img → field 8 8 →
        one (.flowStamp w) [0] (imgPut img x.toNat (leBytes ns 8))) ∧
      (s.atHandle cl e th c 13 1 [lo, hi, x] r key img → x.toNat ≤ 16383 →
        let p := pktOfs s.recSize
        let a := imgPut img p (leBytes (fieldOf img p 8 + 1) 8)
        let b := imgPut a (p + 8) (leBytes (fieldOf a (p + 8) 8 + x.toNat) 8)
        one (.account w) [0] (imgPut b (lastOfs s.recSize) (leBytes (max (fieldOf b (lastOfs s.recSize) 8) ns) 8))) ∧
      (s.atHandle cl e th c 14 2 [lo, hi, x, y, z] r key img → z.toNat ≤ 16383 → y.toNat + 8 ≤ 0x400 → field 16 8 →
        let b := policeBlock (fieldOf img x.toNat 8) (fieldOf img (x.toNat + 8) 4) (leNat (bytes y.toNat 4))
          (leNat (bytes (y.toNat + 4) 4)) ns z.toNat
        one (.police w) [0, BitVec.ofNat 32 b.2.2] (imgPut img x.toNat (leBytes b.1 8 ++ leBytes b.2.1 4 ++ leBytes 0 4))) ∧
      (s.atHandle cl e th c 15 1 [lo, hi, x] r key img → one (.flowExport w) [0] img)) ∧
  (∀ (last tokens rate burst now len : Nat),
      let b := policeBlock last tokens rate burst now len
      let have_ := if now ≤ last then tokens else min burst (tokens + (now - last) * rate / 256)
      (len * 256 ≤ have_ → b.2.2 = 0 ∧ b.2.1 = have_ - len * 256) ∧ (have_ < len * 256 → b.2.2 = 1 ∧ b.2.1 = have_) ∧
      b.1 = max last now ∧ (tokens ≤ burst → b.2.1 ≤ burst))

/-- R500, R501, R502, R522, R536, R537, R555: LOOKUP and CREATE of a key whose slice is not sharded away, and ABORT. Rests
on the model's choices of log entries 71, 73 and 120. -/
def Obligations.KeyedFlowOperations : Prop :=
  ∀ (cl e th c k : Nat) (s u : State) (tenant kofs klen : Word) (r : List Word),
    let w := Who.pe cl e th
    let key := (List.range klen.toNat).map fun i => (s.ctx c).frame.get (kofs.toNat + i)
    let cand := s.candidates (tenant.toNat % 65536) key
    let okay := 1 ≤ klen.toNat ∧ klen.toNat ≤ (if s.recSize = 64 then 24 else 48) ∧ kofs.toNat + klen.toNat ≤ 0x400 ∧
      s.bit Reg.fleShard 31 = false ∧ (s.counted w).searchReads (tenant.toNat % 65536) key = some u ∧
      -- no keyed operation that came earlier on the home position is still undecided (R501)
      ∀ e ∈ s.flume.threads.entries, ∀ x ∈ (s.counted w).undecided e.2, x.2 ≠ cand.at_ cand.home
    let t := u.opStarted cand.slice
    let f := fun p : Nat => t.fillLine p t.allAtoms
    s.flow.insts.wf = true →
    (s.atCall cl e th c 8 0 3 [tenant, kofs, klen] r → okay → exec (.flowLookup w) s = .next
      (match t.findKey (tenant.toNat % 65536) key with
       | some p => s.called ((f p).touchRec (s.instOf c) p) cl e th 8 3 [0, handleLo p, recGen ((f p).speculative p)]
       | none => s.called t cl e th 8 3 [1, 0, 0])) ∧
    (s.atCall cl e th c 8 1 3 [tenant, kofs, klen] r → okay → t.findKey (tenant.toNat % 65536) key = some k →
      t.mayStage (s.instOf c) k → ∃ v, exec (.flowCreate w) s = .next v ∧
        (v.thr cl e th).wait = some ({ pc := (s.arch w).faultPc, unit := 8
                                       results := [BitVec.ofNat 32 (recGen ((f k).speculative k)), BitVec.ofNat 32 (handleLo k), 2] }) ∧
        v.log k ≠ s.log k ∧ (∀ j, j ≠ k → v.log j = s.log j) ∧ v.mem = t.mem) ∧
    (s.atCall cl e th c 8 1 3 [tenant, kofs, klen] r → okay → t.findKey (tenant.toNat % 65536) key = none →
      t.posFree (cand.at_ cand.home) = true → k = cand.at_ cand.home → t.cached k → t.mayStage (s.instOf c) k →
      ∃ v en, exec (.flowCreate w) s = .next v ∧
        (v.thr cl e th).wait = some ({ pc := (s.arch w).faultPc, unit := 8
                                       results := [BitVec.ofNat 32 ((recGen (t.committed k) + 1) % 65536), BitVec.ofNat 32 (handleLo k), 0] }) ∧
        v.log k = t.log k ++ [en] ∧ en.fn = 1 ∧ en.own = true ∧ en.bytes = key ∧ en.tenant = tenant.toNat % 65536 ∧
        en.inst = s.instOf c ∧ (∀ j, j ≠ k → v.log j = s.log j) ∧ v.mem = t.mem) ∧
    (s.atCall cl e th c 8 16 0 [] r → exec (.flowAbort w) s = .next
      (s.completed (((s.counted w).abortStaged (s.instOf c)).count 64 [16]) w { s.arch w with ds := r })) ∧
    (s.flow.logs.wf = true → ∀ i, (s.abortStaged i).stagedOf i = 0 ∧ ((s.abortStaged i).inst i).tag = none ∧
      ∀ j, j ≠ i → (s.abortStaged i).stagedOf j = s.stagedOf j)

/-! ## Start, stops and restarts (R75–R81, R128–R161) -/

/-- R53, R80, R129, R133, R136, R137, R140, R158, R270, R594: power-on, reset release and the steps of the boot. Rests on
the model's choices of log entries 6, 23, 32, 37 and 39. -/
def Obligations.StartOfModule : Prop :=
  ∀ (s : State),
    (∀ v b, s.supply.on = false → s.supply.relayOpen = false → 8500 < v → s.aon.alive = false →
      ∃ t, exec (.powerOn v b) s = .next t ∧ t.regs = State.reset.regs ∧ t.ctrs = State.reset.ctrs ∧ t.mem = State.reset.mem ∧
        t.aon = State.reset.aon ∧ t.boot = { State.reset.boot with bootsel := b } ∧ t.flume = State.reset.flume ∧
        t.tables = State.reset.tables ∧ t.qm = State.reset.qm ∧ t.tb = State.reset.tb ∧ t.supply.on = true ∧
        t.fuses = s.fuses ∧ t.flash = s.flash ∧ t.pending = s.pending) ∧
    (∀ v b, s.supply.on = false → s.supply.relayOpen = false → 8500 < v → s.aon.alive = true → s.retFlag retNote = true →
      exec (.powerOn v b) s = .next { s with
        boot.core := .held, supply.on := true, supply.relayOpen := false, supply.vrms := v }) ∧
    (s.supply.on = true → s.boot.core = .held → s.boot.holdRestart = false → s.boot.stop = .none →
      ∃ t, exec .resetRelease s = .next t ∧ t.boot.core = .running ∧ t.rd Reg.clkPllStatus = 0x7F ∧
        t.tb.sec = (if s.boot.cause = 0 then 0 else s.aon.timekeeper / 2 ^ 48 / 1000000000 % 2 ^ 48) ∧
        t.bit Reg.tbStatus 28 = s.aon.timeValid ∧
        (s.boot.bootsel = true → t.fld Reg.bootStatus 31 28 = 6 ∧ t.bit Reg.bootStatus 24 = true ∧ t.bit (Reg.flmCeCtrl 0 0) 31 = true ∧
          t.boot.uartLines = s.boot.uartLines + 1) ∧
        (s.boot.bootsel = false → s.fld Reg.bootNext 1 0 = 1 → t.boot.order = [0, 1] ∧ t.fld Reg.bootNext 1 0 = 0) ∧
        (s.boot.bootsel = false → s.fld Reg.bootNext 1 0 = 2 → t.boot.order = [1, 0] ∧ t.fld Reg.bootNext 1 0 = 0) ∧
        (s.boot.bootsel = false → s.fld Reg.bootNext 1 0 = 0 → s.attempts 0 < s.imgAttempts 0 → s.attempts 1 < s.imgAttempts 1 →
          t.boot.order = if s.imgSeq 0 < s.imgSeq 1 then [1, 0] else [0, 1]) ∧
        t.mem = s.mem ∧ t.flash = s.flash ∧ t.fuses = s.fuses) ∧
    (∀ slot ok, slot < 2 → s.boot.core = .running → s.boot.stop = .none → s.fld Reg.bootStatus 31 28 = 0 →
      s.boot.order.head? = some slot →
      (s.validate slot ok = 0 → ∃ t, exec (.imageValidation slot ok) s = .next t ∧ t.fld Reg.bootStatus 31 28 = 1 ∧
        t.fld Reg.bootStatus 25 25 = slot ∧ t.fld Reg.bootImgStat (15 + 8 * slot) (8 + 8 * slot) = 0 ∧
        t.fld Reg.bootSvn 15 8 = s.imgSvn slot % 256 ∧ t.boot.confirmed = false ∧ t.boot.runNs = 0 ∧ t.mem = s.mem ∧ t.flash = s.flash) ∧
      (s.validate slot ok ≠ 0 → s.boot.order.tail ≠ [] → ∃ t, exec (.imageValidation slot ok) s = .next t ∧
        t.fld Reg.bootImgStat (15 + 8 * slot) (8 + 8 * slot) = s.validate slot ok % 256 ∧
        t.boot = { s.boot with order := s.boot.order.tail } ∧ s.regsBut t [Reg.bootImgStat] ∧ t.mem = s.mem) ∧
      (s.validate slot ok ≠ 0 → s.boot.order.tail = [] → ∃ t, exec (.imageValidation slot ok) s = .next t ∧
        t.fld Reg.bootStatus 31 28 = 6 ∧ t.bit Reg.bootStatus 24 = true ∧ t.bit (Reg.flmCeCtrl 0 0) 31 = true ∧
        t.boot.uartLines = s.boot.uartLines + 1 ∧ s.regsBut t [Reg.bootImgStat, Reg.bootStatus, Reg.flmCeCtrl 0 0] ∧ t.mem = s.mem)) ∧
    (s.boot.core = .running → s.boot.stop = .none → s.fld Reg.bootStatus 31 28 = 1 → s.boot.sectionsDone = false →
      ∃ t, exec .sectionsLoaded s = .next t ∧ t.fld Reg.bootStatus 31 28 = 2 ∧ t.boot.sectionsDone = true ∧
        (∀ x ∈ s.sectionsOf s.runningSlot 0xE, x.inst < 4 → t.bit (Reg.flmCeCtrl 0 x.inst) 31 = true ∧ t.ce x.inst = {})) ∧
    (s.boot.core = .running → s.boot.stop = .none → s.fld Reg.bootStatus 31 28 = 3 → (∀ g < 20, s.calEnded g = true) →
      ∃ t, exec .forwardingStart s = .next t ∧ t = { s with regs := t.regs } ∧ t.bit Reg.hdgStatus 31 = true ∧
        t.fld Reg.bootStatus 31 28 = 4 ∧ s.regsBut t [Reg.hdgStatus, Reg.bootStatus]) ∧
    (∀ bad, s.boot.core = .running → s.boot.stop = .none → s.fld Reg.bootStatus 31 28 = 4 → bad.Nodup → (∀ c ∈ bad, c < 393216) →
      ∃ t, exec (.sharedBufferModeChange bad) s = .next t ∧ t.qm.shared = true ∧ t.fld Reg.bootStatus 31 28 = 5 ∧
        t.fld Reg.bootRsvBad 18 0 = bad.length ∧ t.bit Reg.qmEvents 0 = true ∧ (∀ c, c ∈ t.bpm.bad ↔ c ∈ bad) ∧
        t.mem = s.mem ∧ t.dsp = s.dsp)

/-- R136, R138, R140, R150, R152–R155: training, calibration, self-refresh exit, the clearing of regions, re-validation
and the fault record of a boot. Rests on the model's choices of log entries 32, 33, 36, 37, 38 and 41. -/
def Obligations.BootSteps : Prop :=
  ∀ (s : State), s.boot.core = .running → s.boot.stop = .none → s.imageRuns = true →
    (s.boot.sectionsDone = true → s.retFlag retCapture = true → s.retFlag retFlushed = false → s.retFlag retNote = false →
      ∃ t, exec .faultRecordWrite s = .next t ∧ t.flash.nextRecord = s.flash.nextRecord + 1 ∧ t.retFlag retFlushed = true ∧
        getBytes t.flash.bytes (0x7800000 + s.flash.nextRecord % 64 * 0x10000) 4 = [0x47, 0x46, 0x4C, 0x54] ∧
        t.regs = s.regs ∧ t.mem = s.mem) ∧
    (∀ n, n < 4 → s.fld Reg.bootStatus 27 26 = 0 → n ∉ s.boot.trained →
      (∃ t, exec (.dramTraining n true) s = .next t ∧ t.bit (Reg.dnStatus n) 28 = true ∧ t.boot.trained = s.boot.trained ++ [n]) ∧
      (s.boot.trainFails.get n = 2 → ∃ t, exec (.dramTraining n false) s = .next t ∧ t.boot.trainFailed = true ∧
        t.fld Reg.bootStatus 31 28 = 6 ∧ t.bit Reg.bootStatus 24 = true ∧ (∀ g < 20, (t.cage g).fuse = .off) ∧
        ∀ k < 4, t.bit (Reg.flmCeCtrl 0 k) 31 = decide (k = 0))) ∧
    (∀ g, g < 20 → g ∉ s.boot.calibrated → s.boot.calFails.get g < 3 →
      (∃ t, exec (.serdesCalibration g true) s = .next t ∧ t.boot.calibrated = s.boot.calibrated ++ [g] ∧ t.mem = s.mem) ∧
      (s.boot.calFails.get g = 2 → ∃ t, exec (.serdesCalibration g false) s = .next t ∧ t.bit (Reg.pgEvents g) 25 = true ∧
        t.boot.calibrated = s.boot.calibrated ∧ t.mem = s.mem)) ∧
    (s.boot.sectionsDone = true → s.fld Reg.bootStatus 27 26 ≠ 0 → s.boot.srExited = false →
      ∃ t, exec .selfRefreshExit s = .next t ∧ (∀ n < 4, t.fld (Reg.dnStatus n) 30 28 = 1) ∧ t.aon = { s.aon with dramHeld := false } ∧
        t.boot = { s.boot with srExited := true } ∧ (s.fld Reg.bootStatus 27 26 = 2 → t.bit Reg.bootReval 30 = true) ∧
        s.regsBut t [Reg.dnStatus 0, Reg.dnStatus 1, Reg.dnStatus 2, Reg.dnStatus 3, Reg.bootReval] ∧ t.mem = s.mem) ∧
    (s.boot.sectionsDone = true → s.boot.regionsCleared = false → s.fld Reg.bootStatus 27 26 = 1 ∨ s.fld Reg.bootStatus 27 26 = 2 →
      s.boot.srExited = true →
      0x2000000000 ≤ s.flow.base → s.flow.base + s.regionSize ≤ 0x4000000000 →
      let cleared := fun a => inDram a = true ∧ ¬ (s.fld Reg.bootStatus 27 26 = 2 ∧ s.flow.base ≤ a ∧ a < s.flow.base + s.regionSize)
      ∃ t, exec .regionsCleared s = .next t ∧ t.boot = { s.boot with regionsCleared := true } ∧
        (∀ a, cleared a → t.mem.get a = 0) ∧ (∀ a, ¬ cleared a → t.mem.get a = s.mem.get a) ∧ s.regsBut t [Reg.bootStatus] ∧
        (s.fld Reg.bootStatus 27 26 = 1 → t.flow.valid = {})) ∧
    (∀ c, s.boot.revalNext < s.recordCount → s.bit Reg.bootReval 30 = true →
      let a := s.flow.base + s.boot.revalNext * s.recSize
      (c = .uncorrectable → ∃ t, exec (.revalidateRecord c) s = .next t ∧ t.boot = { s.boot with revalNext := s.boot.revalNext + 1 } ∧
        (∀ x, a ≤ x → x < a + s.recSize → t.mem.get x = 0) ∧ (∀ x, x < a ∨ a + s.recSize ≤ x → t.mem.get x = s.mem.get x) ∧
        t.fld Reg.bootRevalInval 31 0 = min (s.fld Reg.bootRevalInval 31 0 + 1) (2 ^ 32 - 1) ∧ s.regsBut t [Reg.bootRevalInval] ∧
        t.flow = s.flow) ∧
      (c = .clean → recValid (s.ldBytes a s.recSize) = true → s.keyMax < recKeyLen (s.ldBytes a s.recSize) →
        ∃ t, exec (.revalidateRecord c) s = .next t ∧ (∀ x, a ≤ x → x < a + s.recSize → t.mem.get x = 0) ∧
        t.fld Reg.bootRevalIncons 31 0 = min (s.fld Reg.bootRevalIncons 31 0 + 1) (2 ^ 32 - 1) ∧
        s.regsBut t [Reg.bootRevalIncons] ∧ t.flow = s.flow) ∧
      (c = .clean → recValid (s.ldBytes a s.recSize) = true → recKeyLen (s.ldBytes a s.recSize) ≤ s.keyMax →
        exec (.revalidateRecord c) s = .next { s with
          flow.valid := s.flow.valid.set (s.boot.revalNext % 16) (s.flow.valid.get (s.boot.revalNext % 16) + 1)
          boot.revalNext := s.boot.revalNext + 1 })) ∧
    (∀ us, us < 2 ^ 24 → s.bit Reg.bootReval 30 = true → s.boot.revalNext = s.recordCount → s.dmc.chans = {} →
      ∃ t, exec (.recoveryWindowClose us) s = .next t ∧ t.rd Reg.bootReval = BitVec.ofNat 32 (2 ^ 31 + us) ∧
        s.regsBut t [Reg.bootReval, Reg.bootStatus] ∧ t.mem = s.mem) ∧
    (s.boot.regionsCleared = true → s.boot.blobsDone = false →
      ∃ t, exec .blobCopyDone s = .next t ∧ t.boot = { s.boot with blobsDone := true } ∧ s.regsBut t [Reg.bootStatus] ∧
        (∀ x p, s.sectionsOf s.runningSlot 0xD = [x] → s.payload s.runningSlot x = p →
          (∀ i, i + 8 < p.length → t.mem.get (fieldAt p 0 8 + i) = p.getD (8 + i) 0) ∧
          ∀ a, a < fieldAt p 0 8 ∨ fieldAt p 0 8 + (p.length - 8) ≤ a → t.mem.get a = s.mem.get a))

/-- R130, R131, R145–R148, R159, R160: fault stops and what starts them, their end, the watchdog, restart commands and the
security commands. Rests on the model's choices of log entries 12, 24, 26, 29 and 30. -/
def Obligations.FaultStopsAndRestarts : Prop :=
  ∀ (s : State), s.boot.core = .running →
    let started := fun (t : State) (cause : Nat) =>
      t.boot.stop = .fault ∧ t.boot.cause = cause ∧ t.boot.core = .running ∧
      t.boot.requested = (if cause ≤ 4 then s.boot.onFault else s.boot.onWatchdog) ∧ (∀ n < 4, t.bit (Reg.dnStatus n) 31 = true) ∧
      t.ret 0x13 1 = cause ∧ t.stopTime 0 = s.ns64 ∧ (s.retFlag retCapture = false → t.ret 0x200 4 = cause ∧ t.retFlag retCapture = true) ∧
      (s.retFlag retCapture = true → s.retFlag retFlushed = false → t.ret 0x200 4 = s.ret 0x200 4) ∧
      (∀ p < 132, (t.sch.tx.get p).sending = none) ∧ t.mem = s.mem ∧ t.flash = s.flash ∧
      t.bit Reg.hdgStatus 31 = false ∧ s.regsBut t [Reg.dnStatus 0, Reg.dnStatus 1, Reg.dnStatus 2, Reg.dnStatus 3, Reg.hdgStatus]
    (s.boot.stop = .none → s.imageRuns = true → s.boot.confirmed = false → s.boot.confirmS ≠ 0 →
      s.boot.confirmS * 1000000000 ≤ s.boot.runNs → ∃ t, exec .confirmTimeout s = .next t ∧ started t 6 ∧
        t.attempts (s.fld Reg.bootStatus 25 25) = min 15 (s.attempts (s.fld Reg.bootStatus 25 25) + 1)) ∧
    (s.boot.stop = .none → s.bit Reg.bootSyswd 31 = true → max 1 (s.fld Reg.bootSyswd 15 0) * 1000000 ≤ s.boot.wdNs →
      s.boot.wdFloor ≤ s.boot.wdNs →
      ∃ t, exec .syswdExpire s = .next t ∧ started t 5) ∧
    (s.boot.stop ≠ .fault → s.bit Reg.bootSyswd 31 = true → s.boot.wdHalf = false →
      max 1 (s.fld Reg.bootSyswd 15 0) / 2 * 1000000 ≤ s.boot.wdNs → ∃ t, exec .syswdHalf s = .next t ∧
        t.boot = { s.boot with wdHalf := true } ∧ t.bit Reg.evcLocal 0 = true ∧
        (∀ a, a < 0x700000 → t.rd a = s.rd a) ∧ t.mem = s.mem) ∧
    (∀ n ns, s.boot.stop = .fault → s.dmc.chans = {} → ∃ t, exec (.faultCaptureClose n ns) s = .next t ∧ t.boot.core = .held ∧
      t.boot.stop = .none ∧ t.boot.cause = s.boot.cause ∧ t.boot.requested = s.boot.requested ∧ t.boot.holdRestart = s.boot.holdRestart ∧
      (∀ a, t.rd a = if a = Reg.bootNext then s.rd a else State.reset.rd a) ∧ t.ctrs = {} ∧ t.flume = State.reset.flume ∧
      t.aon.dramHeld = (s.dramUp || s.aon.dramHeld) ∧ t.retFlag retHeld = (s.dramUp || s.aon.dramHeld) ∧
      (∀ a, inDram a = true → t.mem.get a = if s.dramUp || s.aon.dramHeld then s.mem.get a else 0) ∧
      (∀ a, inDram a = false → t.mem.get a = 0) ∧ t.flash = s.flash ∧ t.fuses = s.fuses ∧
      t.supply.on = s.supply.on ∧ t.supply.sagged = s.supply.sagged ∧ t.supply.interrupted = s.supply.interrupted ∧
      t.supply.failed = s.supply.failed ∧ t.supply.thermStep = 0 ∧ t.supply.ovlStep = 0 ∧ t.supply.shedding = false ∧
      t.supply.bins = s.flash.bins ∧ (∀ c, t.cage c = { s.cage c with fuse := .off, retries := 0 }) ∧
      (s.boot.capturing = true → 20 ≤ n → n ≤ 61440 → ∃ l, l.length + 4 ≤ n ∧ t.ret 0x220 4 = l.length + 4 ∧
        getBytes t.aon.retention 0x1000 (l.length + 4) = l ++ leBytes 0xFFFFFFFF 4 ∧ l.take 4 = leBytes (s.ret 0x204 4) 4)) ∧
    (∀ acc v, s.reaches acc Reg.bootRestart → Wbits v 31 16 = 0xA5C3 →
      (s.boot.stop = .none → ∃ t, exec (.restartCommand acc v) s = .next t ∧ t.boot.core = .held ∧ t.boot.cause = 1 ∧
        t.boot.requested = (if Wbits v 1 0 = 3 then s.boot.onCommand else Wbits v 1 0) ∧
        (∀ a, t.rd a = if a = Reg.bootNext then s.rd a else State.reset.rd a) ∧ t.flash = s.flash ∧ t.fuses = s.fuses ∧
        t.aon.dramHeld = (s.dramUp || s.aon.dramHeld)) ∧
      (s.boot.stop ≠ .none → exec (.restartCommand acc v) s = .next s)) ∧
    (∀ acc v, s.reaches acc Reg.bootSvnRaise → Wbits v 31 16 = 0xA5C3 →
      exec (.svnRaise acc v) s = .next { s with fuses.svn := max s.fuses.svn (s.fld Reg.bootSvn 15 8) }) ∧
    (∀ acc v, s.reaches acc Reg.bootKeyRevoke → Wbits v 31 16 = 0xA5C3 → ∃ m, exec (.keyRevoke acc v) s = .next { s with fuses.revoked := m } ∧
      ∀ k, bitAt m k = (bitAt s.fuses.revoked k || (decide (k < 4) && v.getLsbD k && !(s.imageRuns && k == s.boot.keySlot)))) ∧
    (∀ acc v, s.reaches acc Reg.bootConfirm → v.getLsbD 0 = true → s.imageRuns = true → ∃ t, exec (.confirm acc v) s = .next t ∧
      t.boot = { s.boot with confirmed := true } ∧ t.attempts (s.fld Reg.bootStatus 25 25) = 0 ∧
      t.attempts (1 - s.fld Reg.bootStatus 25 25) = s.attempts (1 - s.fld Reg.bootStatus 25 25) ∧ t.regs = s.regs ∧ t.mem = s.mem) ∧
    (∀ acc v, s.reaches acc Reg.bootSyswdKick → v.getLsbD 0 = true →
      exec (.syswdKick acc v) s = .next { s with boot.wdNs := 0, boot.wdHalf := false, boot.wdFloor := 0 })

/-- R53, R56, R67, R71, R75–R81, R93, R148: orderly stops, power fail, and what ends them. Rests on the model's choices of
log entries 22, 23, 24 and 81. -/
def Obligations.OrderlyStopsAndPowerFail : Prop :=
  ∀ (s : State),
    let stopped := fun (t : State) (cause event : Nat) =>
      t.boot = { s.boot with
        stop := .orderly, cause := cause, requested := s.boot.onOrderly, orderlyErr := none, orderlyErrs := 0, stopRun := s.tb.run, settled := false } ∧
      t.bit Reg.hdgStatus 31 = false ∧ s.raised t event ∧ (∀ g < 21, t.headers g = []) ∧ t.mem = s.mem ∧
      ((∀ g < 21, s.headers g = []) → t.qm = s.qm ∧ s.regsRaised t [Reg.hdgStatus] event)
    (∀ vrms freq ms, s.supply.on = true → s.boot.core = .running → 200 < ms → vrms < 7500 ∨ freq < 470 ∨ 630 < freq →
      (s.boot.stop = .none → ∃ t, exec (.brownOut vrms freq ms) s = .next t ∧ stopped t 7 299) ∧
      (s.boot.stop = .fault → ∃ t, exec (.brownOut vrms freq ms) s = .next t ∧ t.boot.holdRestart = true ∧ bitAt t.boot.holdBits 0 = true ∧
        t.boot = { s.boot with holdRestart := true, holdBits := t.boot.holdBits } ∧
        (s.boot.capturing = true → bitAt (t.ret 0x228 4) 0 = true) ∧ (s.boot.capturing = false → t.aon = s.aon) ∧ t.regs = s.regs)) ∧
    (∀ tj, s.supply.on = true → s.boot.core = .running → 1200 ≤ tj →
      (s.boot.stop = .none → ∃ t, exec (.thermalStop tj) s = .next t ∧ stopped t 8 298) ∧
      (s.boot.stop = .fault → ∃ t, exec (.thermalStop tj) s = .next t ∧ t.boot.holdRestart = true ∧ bitAt t.boot.holdBits 1 = true ∧
        t.boot = { s.boot with holdRestart := true, holdBits := t.boot.holdBits } ∧
        (s.boot.capturing = true → bitAt (t.ret 0x228 4) 1 = true) ∧ (s.boot.capturing = false → t.aon = s.aon) ∧ t.regs = s.regs)) ∧
    (s.boot.stop = .orderly → s.boot.core = .running → s.supply.relayOpen = false → 6000 ≤ s.supply.vrms → ∃ t, exec .orderlyStopCoreOff s = .next t ∧ t.boot.core = .off ∧
      t.boot.stop = .orderly ∧ t.boot.cause = s.boot.cause ∧ t.boot.requested = s.boot.requested ∧
      (∀ a, t.rd a = if a = Reg.bootNext then s.rd a else State.reset.rd a) ∧ t.flash.nextRecord = s.flash.nextRecord + 1 ∧
      getBytes t.flash.bytes (0x7800000 + s.flash.nextRecord % 64 * 0x10000) 4 = [0x47, 0x46, 0x4C, 0x54] ∧
      getBytes t.flash.bytes (0x7800008 + s.flash.nextRecord % 64 * 0x10000) 2 = [1, BitVec.ofNat 8 s.boot.cause] ∧
      t.aon.dramHeld = (s.dramUp || s.aon.dramHeld) ∧ t.fuses = s.fuses) ∧
    (∀ vrms freq inlet diode ms, s.supply.on = true → s.boot.stop = .orderly → s.boot.core = .off → s.boot.holdRestart = false →
      s.boot.cause = 7 ∨ s.boot.cause = 8 →
      exec (.orderlyRestart vrms freq inlet diode ms) s = .next
        (if (s.boot.cause = 7 ∧ 8500 ≤ vrms ∧ vrms ≤ 26500 ∧ 470 ≤ freq ∧ freq ≤ 630 ∧ 2000 ≤ ms) ∨
            (s.boot.cause = 8 ∧ inlet ≤ 400 ∧ diode ≤ 900 ∧ 60000 ≤ ms)
         then { s with boot.stop := .none, boot.core := .held, boot.holdBits := 0 } else s)) ∧
    (∀ ms, s.supply.on = true →
      s.supply.relayOpen = true ∨ (if s.supply.charged = false then 0 else if s.supply.dcW ≤ 5000 then 20 else 10) < ms ∨
        100 ≤ s.supply.over900Ms ∨ (s.boot.stop = .orderly ∧ s.boot.core = .running ∧ s.supply.vrms < 6000) →
      ∃ t, exec (.powerFail ms) s = .next t ∧ t.supply.on = false ∧ t.boot.core = .off ∧ t.boot.cause = 9 ∧
      t.boot.requested = 0 ∧ t.boot.stop = .none ∧ t.retFlag retNote = true ∧ t.retFlag retHeld = false ∧ t.aon.dramHeld = false ∧
      (s.boot.core = .running → t.aon.timekeeper = s.total) ∧ (s.boot.core ≠ .running → t.aon.timekeeper = s.aon.timekeeper) ∧
      (∀ a, t.rd a = if a = Reg.bootNext then s.rd a else State.reset.rd a) ∧ (∀ a, t.mem.get a = 0) ∧ t.flash = s.flash ∧
      t.fuses = s.fuses ∧ s.freeCtr ≤ t.freeCtr) ∧
    (∀ ms, s.supply.on = false → s.aon.alive = true → 60000 ≤ ms → ∃ t, exec (.alwaysOnStoreExhausted ms) s = .next t ∧
      t.aon = { alive := false } ∧ (∀ a, t.rd a = if a = Reg.bootNext then State.reset.rd a else s.rd a) ∧ t.flash = s.flash ∧
      t.fuses = s.fuses) ∧
    (∀ v ms b, s.supply.relayOpen = true → 8500 ≤ v → v ≤ 26500 → 2000 ≤ ms →
      (s.supply.on = true → exec (.relayClose v ms b) s = .next { s with supply.relayOpen := false, supply.vrms := v }) ∧
      (s.supply.on = false → s.aon.alive = true → s.retFlag retNote = true → exec (.relayClose v ms b) s = .next
        { s with supply.on := true, supply.relayOpen := false, supply.vrms := v, boot.core := .held })) ∧
    (s.boot.lampTest = true → exec .lampTestEnd s = .next { s with boot.lampTest := false })

/-! ## Supply, cages, fans and clocks (R33–R34, R64–R116, R184–R194) -/

/-- R64–R71, R95, R103–R106: what the supervisor measures and the input conditions it confirms, with the core running.
Rests on the model's choices of log entries 21 and 137. -/
def Obligations.SupplyConditions : Prop :=
  ∀ (s : State), s.supply.on = true → s.coreUp = true →
    (∀ m : SupplyReading, m.freq ≤ 1023 → m.vrms ≤ 65535 → m.inputW ≤ 65535 → m.dcW ≤ 65535 →
      ∃ t, exec (.supplyMeasure m) s = .next t ∧ t.fld Reg.ssvMainsStatus 15 0 = m.vrms ∧ t.fld Reg.ssvMainsStatus 25 16 = m.freq ∧
        t.fld Reg.ssvPower 31 16 = m.inputW ∧ t.fld Reg.ssvPower 15 0 = m.dcW ∧
        (∀ n < 20, t.fld (Reg.ssvCageI n) 15 0 = min 65535 (m.cageMa.getD n 0) ∧
          t.fld (Reg.ssvCageI n) 31 24 = s.fld (Reg.ssvCageI n) 31 24) ∧
        (∀ n < 6, t.fld (Reg.ssvFan n) 15 0 = min 65535 (m.fanRpm.getD n 0) ∧ t.bit (Reg.ssvFan n) 31 = decide (n ∈ s.supply.failed)) ∧
        t.bit Reg.ssvMainsStatus 31 = s.supply.peOpen ∧ t.bit Reg.ssvMainsStatus 30 = s.supply.lnSwap ∧
        t.bit Reg.ssvMainsStatus 29 = (s.supply.sagged || s.supply.interrupted) ∧
        t.bit Reg.ssvMainsStatus 28 = (s.supply.high && decide (26500 < m.vrms)) ∧
        t.supply.over900Ms = (if 9000 < m.inputW then s.supply.over900Ms + 10 else 0) ∧
        t.supply.rechargeMs = (if 8500 ≤ m.vrms ∧ m.vrms ≤ 26500 then s.supply.rechargeMs + 10 else 0) ∧
        t.supply.cages = s.supply.cages ∧ t.supply.bins = s.supply.bins ∧
        t.supply.thermStep = s.supply.thermStep ∧ t.supply.ovlStep = s.supply.ovlStep ∧
        t.supply.underMs = (if m.inputW < 7600 then s.supply.underMs + 10 else 0) ∧
        t.supply.relayDue = (if m.vrms ≤ 27500 then none else s.supply.relayDue) ∧ t = { s with regs := t.regs, supply := t.supply }) ∧
    (∀ e ∈ ([(Instr.sag, 8500, 20, 0, 288, true), (Instr.interruption, 2000, 5, 1, 289, false)] :
        List ((Nat → Nat → Instr) × Nat × Nat × Nat × Nat × Bool)), ∀ v ms, v < e.2.1 → e.2.2.1 ≤ ms → v < 65536 →
      (if e.2.2.2.2.2 then s.supply.sagged else s.supply.interrupted) = false →
      ∃ t, exec (e.1 v ms) s = .next t ∧ t.bit Reg.ssvMainsStatus 29 = true ∧ t.fld Reg.ssvMainsStatus 15 0 = v ∧
        t.bit Reg.ssvMainsEvents e.2.2.2.1 = true ∧ s.regsRaised t [Reg.ssvMainsStatus, Reg.ssvMainsEvents] e.2.2.2.2.1 ∧
        t.supply = (if e.2.2.2.2.2 then { s.supply with sagged := true, vrms := v } else { s.supply with interrupted := true, vrms := v }) ∧ t.boot = s.boot) ∧
    (∀ v, s.supply.sagged = true ∨ s.supply.interrupted = true → 8500 ≤ v → v ≤ 26500 → ∃ t, exec (.rideThroughEnd v) s = .next t ∧
      t.bit Reg.ssvMainsStatus 29 = false ∧ t.fld Reg.ssvMainsStatus 15 0 = v ∧ s.regsBut t [Reg.ssvMainsStatus] ∧
      t = { s with
        regs := t.regs, supply.sagged := false, supply.interrupted := false, supply.overMs := 0
        supply.sinceStepMs := 0, supply.vrms := v, supply.rechargeMs := 0, supply.charged := false }) ∧
    (∀ v, 26500 < v → v < 65536 →
      (s.supply.high = false → ∃ t, exec (.highInput v) s = .next t ∧ t.bit Reg.ssvMainsStatus 28 = true ∧
        t.fld Reg.ssvMainsStatus 15 0 = v ∧ t.bit Reg.ssvMainsEvents 3 = true ∧
        s.regsRaised t [Reg.ssvMainsStatus, Reg.ssvMainsEvents] 290 ∧ t.supply = { s.supply with high := true, vrms := v }) ∧
      (s.supply.high = true → ∃ t, exec (.highInput v) s = .next t ∧ t.fld Reg.ssvMainsStatus 15 0 = v ∧
        t.bit Reg.ssvMainsStatus 28 = true ∧ s.regsBut t [Reg.ssvMainsStatus] ∧ t = { s with regs := t.regs, supply.vrms := v }) ∧
      (27500 < v → ∃ t, exec (.overVoltage v) s = .next t ∧ t.bit Reg.ssvMainsStatus 28 = true ∧
        t.supply = { s.supply with high := true, vrms := v, relayDue := some (match s.supply.relayDue with
          | some d => min d (if 30000 < v then 20 else 1000)
          | none => if 30000 < v then 20 else 1000) } ∧ t.mem = s.mem)) ∧
    (∀ d, s.supply.relayDue = some d →
      exec .inputRelayOpen s = .next { s with supply.relayOpen := true, supply.relayDue := none }) ∧
    (∀ ma, 10000 < ma → ∃ t, exec (.surge ma) s = .next t ∧ t.bit Reg.ssvMainsEvents 2 = true ∧
      s.regsRaised t [Reg.ssvMainsEvents] 290 ∧ t.supply = s.supply) ∧
    (∀ ohms ms, 10000 < ohms → 2000 ≤ ms → s.supply.peOpen = false → ∃ t, exec (.peOpen ohms ms) s = .next t ∧
      t.bit Reg.ssvMainsStatus 31 = true ∧ t.bit Reg.ssvMainsEvents 4 = true ∧
      s.regsRaised t [Reg.ssvMainsStatus, Reg.ssvMainsEvents] 291 ∧ t.supply = { s.supply with peOpen := true }) ∧
    (∀ ms, 2000 ≤ ms → s.supply.lnSwap = false → ∃ t, exec (.lnSwap ms) s = .next t ∧
      t.bit Reg.ssvMainsStatus 30 = true ∧ t.bit Reg.ssvMainsEvents 5 = true ∧
      s.regsRaised t [Reg.ssvMainsStatus, Reg.ssvMainsEvents] 292 ∧ t.supply = { s.supply with lnSwap := true }) ∧
    (∀ (w : EarthCondition) ms b, b = (match w with | .protectiveEarthOpen => 31 | .lineNeutralSwapped => 30) → 2000 ≤ ms →
      ∃ t, exec (.conditionClear w ms) s = .next t ∧ t.bit Reg.ssvMainsStatus b = false ∧
        (∀ i < 32, i ≠ b → t.bit Reg.ssvMainsStatus i = s.bit Reg.ssvMainsStatus i) ∧ s.regsBut t [Reg.ssvMainsStatus] ∧
        t = { s with regs := t.regs, supply := t.supply } ∧
        t.supply = (match w with
          | .protectiveEarthOpen => { s.supply with peOpen := false }
          | .lineNeutralSwapped => { s.supply with lnSwap := false })) ∧
    (exec .dailyBinExpire s = .next { s with
      supply.today := (s.supply.today + 1) % 365, supply.bins := s.supply.bins.set ((s.supply.today + 1) % 365) 0
      flash.bins := s.flash.bins.set ((s.supply.today + 1) % 365) 0
      flash.erases := s.flash.erases.set (2048 + 0x780) (s.flash.erases.get (2048 + 0x780) + 1) }) ∧
    (∀ (inlet : Int) ms, 400 < inlet → 3600000 ≤ ms → exec (.excursionLogWrite inlet ms) s = .next { s with
      flash.bins := s.flash.bins.set s.supply.today (s.supply.bins.get s.supply.today)
      flash.erases := s.flash.erases.set (2048 + 0x780) (s.flash.erases.get (2048 + 0x780) + 1) })

/-- R33, R34, R84, R138, R139: an optic inserted or removed, and a latched fuse re-armed, with the core running. The ports
of a cage's group follow its supply. Rests on the model's choices of log entries 19 and 134. -/
def Obligations.CageSupply : Prop :=
  ∀ (s : State), s.supply.on = true → s.coreUp = true →
    let allowed := s.imageRuns = true ∧ (s.fld Reg.bootStatus 27 26 ≠ 0 ∨ ∀ k < 4, k ∈ s.boot.trained)
    let others := fun (t : State) (n : Nat) => (∀ k, k ≠ n → t.cage k = s.cage k) ∧ t.mem = s.mem ∧ t.boot = s.boot ∧ t.flash = s.flash
    (∀ n ms cmis, n < 20 → (s.cage n).present = false → 100 ≤ ms →
      ∃ t, exec (.opticInserted n ms cmis) s = .next t ∧ others t n ∧
        (allowed → s.isShed n = false → t.cage n = { present := true, cmis := cmis, fuse := .on }) ∧
        (¬ allowed ∨ s.isShed n = true → t.cage n = { present := true, cmis := cmis })) ∧
    (∀ n, n < 20 → (s.cage n).present = true → ∃ t, exec (.opticRemoved n) s = .next t ∧ t.cage n = {} ∧ others t n ∧
      ∀ p ∈ s.groupPorts n, t.portState p = 0) ∧
    (∀ acc n, n < 20 → s.reaches acc Reg.ssvFuseRearm → (s.cage n).latched = true →
      ∃ t, exec (.fuseRearm acc (BitVec.ofNat 32 (2 ^ n))) s = .next t ∧ others t n ∧
        (allowed → (s.cage n).present = true → s.isShed n = false →
          t.cage n = { s.cage n with fuse := .on, retries := 0, latched := false }) ∧
        (¬ allowed ∨ (s.cage n).present = false ∨ s.isShed n = true →
          t.cage n = { s.cage n with fuse := .off, retries := 0, latched := false }))

/-- R82–R84, R107, R109: an electronic fuse that trips, its retries and its latching, with the core running. Rests on the
model's choice of log entry 20. -/
def Obligations.CageFuses : Prop :=
  ∀ (s : State), s.supply.on = true → s.coreUp = true →
    let tripped := fun (t : State) (n : Nat) => t.fld (Reg.ssvCageI n) 31 24 = min 255 (s.fld (Reg.ssvCageI n) 31 24 + 1) ∧
      t.fld (Reg.ssvCageI n) 15 0 = s.fld (Reg.ssvCageI n) 15 0 ∧ t.bit (Reg.pgEvents n) 24 = true
    let others := fun (t : State) (n : Nat) => (∀ k, k ≠ n → t.cage k = s.cage k) ∧ t.mem = s.mem ∧ t.boot = s.boot ∧ t.flash = s.flash
    (∀ n, n < 20 → (s.cage n).fuse = .on → ∃ t, exec (.fuseTrip n) s = .next t ∧ tripped t n ∧ others t n ∧
      t.cage n = { s.cage n with fuse := .retrying, retries := 0 } ∧ ∀ p ∈ s.groupPorts n, t.portState p = 0) ∧
    (∀ n, n < 20 → (s.cage n).fuse = .retrying →
      (∃ t, exec (.fuseRetry n false) s = .next t ∧ t.cage n = { s.cage n with fuse := .on, retries := 0 } ∧ others t n) ∧
      (∃ t, exec (.fuseRetry n true) s = .next t ∧ tripped t n ∧ others t n ∧
        t.cage n = (if (s.cage n).retries < 2 then { s.cage n with retries := (s.cage n).retries + 1 }
          else { s.cage n with fuse := .latched, retries := (s.cage n).retries + 1, latched := true })))

/-- R85–R89, R94, R108: load shed cage by cage, and restored by SHED_CLR, with the core running. Rests on the model's
choice of log entry 20. -/
def Obligations.CageShedding : Prop :=
  ∀ (s : State), s.supply.on = true → s.coreUp = true →
    let allowed := s.imageRuns = true ∧ (s.fld Reg.bootStatus 27 26 ≠ 0 ∨ ∀ k < 4, k ∈ s.boot.trained)
    let others := fun (t : State) (n : Nat) => (∀ k, k ≠ n → t.cage k = s.cage k) ∧ t.mem = s.mem ∧ t.boot = s.boot ∧ t.flash = s.flash
    (∀ n, n < 16 → s.supply.sagged = false → s.supply.interrupted = false →
      (if s.supply.shedding then 100 ≤ s.supply.sinceStepMs else 100 ≤ s.supply.overMs) →
      (s.cage n).present = true → s.isShed n = false → (s.cage n).latched = false →
      (∀ k, n < k → k < 16 → (s.cage k).present = false ∨ s.isShed k = true ∨ (s.cage k).latched = true) →
      ∃ t, exec .shedStep s = .next t ∧ t.isShed n = true ∧ (∀ k < 16, k ≠ n → t.isShed k = s.isShed k) ∧ others t n ∧
        t.cage n = { s.cage n with fuse := .off, retries := 0 } ∧ t.supply.shedding = true ∧ t.supply.sinceStepMs = 0) ∧
    (∀ acc n, n < 16 → s.reaches acc Reg.ssvShedClr → s.isShed n = true →
      ∃ t, exec (.shedClr acc (BitVec.ofNat 32 (2 ^ n))) s = .next t ∧ others t n ∧ t.isShed n = false ∧
        (∀ k < 16, k ≠ n → t.isShed k = s.isShed k) ∧
        ((s.cage n).present = true → allowed → (s.cage n).latched = false → t.cage n = { s.cage n with fuse := .on, retries := 0 }) ∧
        ((s.cage n).present = true → allowed → (s.cage n).latched = true → t.cage n = { s.cage n with fuse := .latched }) ∧
        ((s.cage n).present = false ∨ ¬ allowed → t.cage n = s.cage n))

/-- R90–R98, R112, R113, R189–R194: fans, the Flume clock's steps (overload, temperature and CEILING), the PLLs, the
frequency measurement and the gating of port groups. Rests on the model's choices of log entries 107, 112 and 136. -/
def Obligations.ClockStepsAndFans : Prop :=
  (∀ (s : State), s.supply.on = true → s.coreUp = true →
      let step := max (max s.supply.thermStep s.supply.ovlStep) (min 2 (s.fld Reg.ssvThrottle 25 24))
      let moved := fun (t : State) (step' : Nat) => t.flumeStep = step' ∧
        (step' ≠ step → t.bit Reg.clkPllEvents 1 = true) ∧ (∀ a, a < 0x700000 → a ≠ Reg.clkPllEvents → t.rd a = s.rd a) ∧
        t.boot = s.boot ∧ t.mem = s.mem
      (s.nextShed = none → s.supply.sagged = false → s.supply.interrupted = false → 100 ≤ s.supply.overMs → 100 ≤ s.supply.sinceStepMs → s.supply.ovlStep < 2 →
        ∃ t, exec .overloadClockStep s = .next t ∧ s.raised t 297 ∧
          moved t (max (max s.supply.thermStep (s.supply.ovlStep + 1)) (min 2 (s.fld Reg.ssvThrottle 25 24))) ∧
          (s.supply.ovlStep = 0 → s.raised t 301) ∧
          t.supply = { s.supply with ovlStep := s.supply.ovlStep + 1, sinceStepMs := 0, shedding := true }) ∧
      (0 < s.supply.ovlStep → 60000 ≤ s.supply.underMs → ∃ t, exec .overloadClockRise s = .next t ∧ s.raised t 297 ∧
        moved t (max (max s.supply.thermStep (s.supply.ovlStep - 1)) (min 2 (s.fld Reg.ssvThrottle 25 24))) ∧
        t.supply = { s.supply with ovlStep := s.supply.ovlStep - 1, underMs := 0 }) ∧
      (∀ (inlet tj : Int) ms, s.inletDown < inlet ∨ 1050 ≤ tj → 10000 * s.supply.hotSteps ≤ ms → s.supply.thermStep < 2 →
        ∃ t, exec (.thermalStepDown inlet tj ms) s = .next t ∧ s.raised t 297 ∧
          moved t (max (max (s.supply.thermStep + 1) s.supply.ovlStep) (min 2 (s.fld Reg.ssvThrottle 25 24))) ∧
          t.supply = { s.supply with thermStep := s.supply.thermStep + 1, hotSteps := s.supply.hotSteps + 1, coolSteps := 0 }) ∧
      (∀ (inlet tj : Int) ms, inlet ≤ s.inletUp → tj ≤ 1000 → 60000 * (s.supply.coolSteps + 1) ≤ ms → 0 < s.supply.thermStep →
        ∃ t, exec (.thermalStepUp inlet tj ms) s = .next t ∧ s.raised t 297 ∧
          moved t (max (max (s.supply.thermStep - 1) s.supply.ovlStep) (min 2 (s.fld Reg.ssvThrottle 25 24))) ∧
          t.supply = { s.supply with thermStep := s.supply.thermStep - 1, coolSteps := s.supply.coolSteps + 1, hotSteps := 0 }) ∧
      (∀ acc v, s.reaches acc Reg.ssvThrottle → ∃ t, exec (.throttleCeilingWrite acc v) s = .next t ∧
        t.fld Reg.ssvThrottle 25 24 = Wbits v 25 24 ∧ t.supply = s.supply ∧
        t.flumeStep = max (max s.supply.thermStep s.supply.ovlStep) (min 2 (Wbits v 25 24)) ∧
        (t.flumeStep ≠ step → t.bit Reg.clkPllEvents 1 = true ∧ s.raised t 297) ∧
        (∀ a, a < 0x700000 → a ≠ Reg.clkPllEvents → a ≠ Reg.ssvThrottle → t.rd a = s.rd a)) ∧
      (∀ fan pc ms, fan < 6 → pc < 20 → 3000 ≤ ms → fan ∉ s.supply.failed → ∃ t, exec (.fanFailed fan pc ms) s = .next t ∧
        t.bit (Reg.ssvFan fan) 31 = true ∧ s.regsRaised t [Reg.ssvFan fan] 295 ∧ t.fansFailed = s.fansFailed + 1 ∧
        (∀ k, k ∈ t.supply.failed ↔ k = fan ∨ k ∈ s.supply.failed) ∧ t.supply = { s.supply with failed := t.supply.failed } ∧
        (s.bit Reg.ssvFanCtrl 31 = false → ∀ k < 6, k ≠ fan → t.fanDuty k = 100)) ∧
      (∀ fan pc ms, fan < 6 → 80 ≤ pc → 10000 ≤ ms → fan ∈ s.supply.failed → ∃ t, exec (.fanRunning fan pc ms) s = .next t ∧
        t.bit (Reg.ssvFan fan) 31 = false ∧ s.regsRaised t [Reg.ssvFan fan] 295 ∧ t.fansFailed + 1 = s.fansFailed ∧
        (∀ k, k ∈ t.supply.failed ↔ k ≠ fan ∧ k ∈ s.supply.failed) ∧ t.supply = { s.supply with failed := t.supply.failed } ∧
        (s.bit Reg.ssvFanCtrl 31 = true → ∀ k, t.fanDuty k = min 100 (s.fld Reg.ssvFanCtrl 6 0))) ∧
      (∀ inlet : Int, 400 < inlet → s.supply.bins.wf = true → ∃ t, exec (.excursionMinute inlet) s = .next t ∧
        t.supply = { s.supply with bins := s.supply.bins.set s.supply.today (s.supply.bins.get s.supply.today + 1) } ∧
        t.excursion = s.excursion + 1 ∧ (s.excursion = 5759 → s.raised t 300) ∧ (∀ a, a < 0x700000 → t.rd a = s.rd a))) ∧
  (∀ (s : State), s.coreUp = true →
      (∀ p, p < 7 → p ≠ 5 → s.bit Reg.clkPllStatus p = true → ∃ t, exec (.pllLockLoss p) s = .next t ∧
        t.bit Reg.clkPllStatus p = false ∧ t.bit Reg.clkPllEvents p = true ∧
        (∀ i < 32, i ≠ p → t.bit Reg.clkPllStatus i = s.bit Reg.clkPllStatus i ∧ t.bit Reg.clkPllEvents i = s.bit Reg.clkPllEvents i) ∧
        s.regsBut t [Reg.clkPllStatus, Reg.clkPllEvents] ∧ t = { s with regs := t.regs }) ∧
      (∀ p, p < 7 → p ≠ 5 → ∃ t, exec (.corePllLockReturn p) s = .next t ∧ t.bit Reg.clkPllStatus p = true ∧
        (∀ i < 32, i ≠ p → t.bit Reg.clkPllStatus i = s.bit Reg.clkPllStatus i) ∧ s.regsBut t [Reg.clkPllStatus] ∧
        t = { s with regs := t.regs }) ∧
      (∀ acc v, s.reaches acc Reg.clkMeasCmd →
        (s.bit Reg.clkMeasResult 30 = true → ∃ t, exec (.freqMeasure acc v) s = .next t ∧ t.bit Reg.clkMeasResult 29 = true ∧
          t.bit Reg.clkMeasResult 30 = true ∧ t = { s with regs := t.regs } ∧ s.regsBut t [Reg.clkMeasResult]) ∧
        (s.bit Reg.clkMeasResult 30 = false → Wbits v 3 0 < 7 → ∃ t, exec (.freqMeasure acc v) s = .next t ∧
          t.fld Reg.clkMeasResult 31 29 = 2 ∧ t = { s with regs := t.regs, measDomain := Wbits v 3 0 } ∧ s.regsBut t [Reg.clkMeasResult]) ∧
        (s.bit Reg.clkMeasResult 30 = false → 7 ≤ Wbits v 3 0 → ∃ t, exec (.freqMeasure acc v) s = .next t ∧
          t.rd Reg.clkMeasResult = resultWord (Wbits v 3 0 * 2 ^ 25) ∧ t = { s with regs := t.regs } ∧ s.regsBut t [Reg.clkMeasResult])) ∧
      (∀ khz f, s.bit Reg.clkMeasResult 30 = true → s.measDomain < 7 →
        f = ([1500000, [2200000, 1800000, 1400000].getD s.flumeStep 1400000, 1400000, 1000000, 1200000, 1000000, 125000] :
          List Nat).getD s.measDomain 0 → f ≤ khz + 1 → khz ≤ f + 1 → ∃ t, exec (.freqMeasureDone khz) s = .next t ∧
        t.bit Reg.clkMeasResult 31 = true ∧ t.bit Reg.clkMeasResult 30 = false ∧ t.fld Reg.clkMeasResult 28 25 = s.measDomain ∧
        t.fld Reg.clkMeasResult 21 0 = min khz (2 ^ 22 - 1) ∧ s.regsBut t [Reg.clkMeasResult] ∧ t = { s with regs := t.regs }) ∧
      (∀ acc v, s.reaches acc Reg.clkPgGate → ∃ t, exec (.pgGateWrite acc v) s = .next t ∧ t.fld Reg.clkPgGate 19 0 = Wbits v 19 0 ∧
        (∀ g < 20, v.getLsbD g = true → s.bit Reg.clkPgGate g = false → ∀ p ∈ s.groupPorts g, t.portState p = 0) ∧
        (∀ g < 20, v.getLsbD g = s.bit Reg.clkPgGate g → ∀ p ∈ s.groupPorts g, t.portState p = s.portState p) ∧
        t.mem = s.mem ∧ t.boot = s.boot))

/-! ## The time base (R37–R39, R655–R696) -/

/-- R656, R659–R662, R670, R683, R685, R692: how T and the free-running counter move: an edge, jumps, slews, the wrap and
the timekeeper's copy. Rests on the model's choices of log entries 1, 57 and 58. -/
def Obligations.TimeMoves : Prop :=
  ∀ (s : State), s.coreUp = true →
    let span : Int := 2 ^ 48 * 1000000000 * 2 ^ 48
    let freq := signed (s.rd Reg.tbFreq).toNat 32
    let adj := signed ((s.rd Reg.tbAdjLo).toNat + (s.rd Reg.tbAdjHi).toNat * 2 ^ 32) 64 * 2 ^ 32
    let allowed := fun (size : Int) => s.bit Reg.tbStatus 28 = false ∨ size.natAbs ≤ max 1 (s.fld Reg.tbJump 29 0) * 2 ^ 48 ∨
      s.fld Reg.tbStatus 19 16 ≤ 2
    let applied := fun (t : State) (new : Int) => (t.total : Int) = new ∧ t.bit Reg.tbStatus 28 = true ∧ t.aon.timeValid = true ∧
      t.ctr (Reg.tbCnt 4) = (s.ctr (Reg.tbCnt 4) + 1) % 2 ^ 64 ∧ t.rd Reg.tbCmdResult = resultWord 0 ∧ t.portWindow = {} ∧
      t.hdg.malWindow = {} ∧ t.ecc.corrWindow = {} ∧ t.tb.frc = s.tb.frc ∧ t.tb.slew = s.tb.slew ∧
      ∀ a, a < 0x700000 → a ≠ Reg.tbStatus → a ≠ Reg.tbCmdResult → t.rd a = s.rd a
    let refused := fun (t : State) (size : Int) => t.total = s.total ∧ t.tb.refused = true ∧
      t.ctr (Reg.tbCnt 5) = (s.ctr (Reg.tbCnt 5) + 1) % 2 ^ 64 ∧ t.rd Reg.tbCmdResult = resultWord (2 ^ 27) ∧
      t.rd Reg.tbJumpInfo = BitVec.ofInt 32 (clampInt (size / 2 ^ 48) (-(2 ^ 31 - 1)) (2 ^ 31 - 1)) ∧
      t.bit Reg.tbEvents 3 = true ∧ s.regsRaised t [Reg.tbCmdResult, Reg.tbJumpInfo, Reg.tbEvents] 203
    (∀ d : Int, (s.tb.slew = none ∧ d = 2 ^ 48 + freq * 16) ∨ (∃ w, s.tb.slew = some w ∧ w.done < w.edges ∧
        d = 2 ^ 48 + freq * 16 + (w.amount * (w.done + 1) / w.edges - w.amount * w.done / w.edges)) →
      ((tbEdge s).total : Int) = (s.total + d) % span ∧ ((tbEdge s).tb.frc : Int) = (s.tb.frc + d) % 2 ^ 96 ∧
      ((s.tb.frc : Int) + d < 2 ^ 96 → tbEdge s = { s with tb := (tbEdge s).tb }) ∧
      ((tick s).total : Int) = (s.total + d) % span ∧ ((tick s).tb.frc : Int) = (s.tb.frc + d) % 2 ^ 96 ∧
      (2 ^ 96 ≤ (s.tb.frc : Int) + d → exec .frcWrap s = .next (tick s) ∧ (tick s).bit Reg.tbEvents 4 = true ∧
        (tick s).fld Reg.tbFrcEpoch 15 0 = (s.fld Reg.tbFrcEpoch 15 0 + 1) % 65536 ∧
        s.regsRaised (tbEdge s) [Reg.tbEvents, Reg.tbFrcEpoch, Reg.tbCompatOfsLo, Reg.tbCompatOfsHi] 204)) ∧
    (∀ acc v new, s.reaches acc Reg.tbCmd → Wbits v 2 0 = 1 →
      new = (((s.rd Reg.tbSetSecLo).toNat + s.fld Reg.tbSetSecHi 15 0 * 2 ^ 32) * 1000000000 + s.fld Reg.tbSetNs 29 0) * 2 ^ 48 +
        s.fld Reg.tbSetFrac 15 0 * 2 ^ 32 →
      (s.fld Reg.tbSetNs 29 0 < 1000000000 → allowed ((new : Int) - s.total) → ∃ t, exec (.tbSet acc v) s = .next t ∧ applied t new) ∧
      (s.fld Reg.tbSetNs 29 0 < 1000000000 → ¬ allowed ((new : Int) - s.total) →
        ∃ t, exec (.tbSet acc v) s = .next t ∧ refused t ((new : Int) - s.total)) ∧
      (1000000000 ≤ s.fld Reg.tbSetNs 29 0 → ∃ t, exec (.tbSet acc v) s = .next t ∧ t = { s with regs := t.regs } ∧
        t.rd Reg.tbCmdResult = resultWord (2 * 2 ^ 27) ∧ s.regsBut t [Reg.tbCmdResult])) ∧
    (∀ acc v, s.reaches acc Reg.tbCmd → Wbits v 2 0 = 2 →
      (allowed adj → ∃ t, exec (.tbStep acc v) s = .next t ∧ applied t ((s.total + adj) % span)) ∧
      (¬ allowed adj → ∃ t, exec (.tbStep acc v) s = .next t ∧ refused t adj)) ∧
    (∀ acc v, s.reaches acc Reg.tbCmd → Wbits v 2 0 = 3 → ∃ t, exec (.tbSlew acc v) s = .next t ∧
      (let n := max (max 1 (s.fld Reg.tbSlewMs 15 0) * 1000000) ((adj.natAbs + 2 ^ 48 / 10000 - 1) / (2 ^ 48 / 10000))
       t.tb = { s.tb with slew := some { amount := adj, edges := n, done := 0 } }) ∧
      t.bit Reg.tbStatus 27 = true ∧ t.rd Reg.tbCmdResult = resultWord 0 ∧ s.regsBut t [Reg.tbStatus, Reg.tbCmdResult]) ∧
    (∀ w, s.tb.slew = some w → w.edges ≤ w.done → ∃ t, exec .slewEnd s = .next t ∧ t = { s with regs := t.regs, tb.slew := none } ∧
      t.bit Reg.tbStatus 27 = false ∧ s.regsBut t [Reg.tbStatus]) ∧
    (s.tb.saved + 1000000 * 2 ^ 48 ≤ s.tb.run → exec .aonTimeSave s = .next { s with aon.timekeeper := s.total, tb.saved := s.tb.run })

/-- R37–R39, R658, R663–R669, R673, R675, R689, R690, R693: references, holdover, the timing PLL, the timing inputs and
outputs, the settings and the snapshot reads. Rests on the model's choices of log entries 14, 57, 58, 105 and 106. -/
def Obligations.TimeReferences : Prop :=
  ∀ (s : State), s.coreUp = true →
    (s.tb.lossDue = true → ∃ t, exec .referenceLoss s = .next t ∧ t.fld Reg.tbStatus 31 29 = 3 ∧ t.bit Reg.tbStatus 27 = false ∧
      t.bit Reg.tbEvents 2 = true ∧ t.bit Reg.tbEvents 7 = true ∧ t.tb = { s.tb with slew := none, lossDue := false, good := 0 } ∧
      s.raised t 202 ∧ s.raised t 207 ∧ t.rd Reg.tbFreq = s.rd Reg.tbFreq ∧ t.total = s.total) ∧
    (s.bit Reg.tbStatus 26 = false → ∃ t, exec .pllHoldover s = .next t ∧ t.bit Reg.tbStatus 26 = true ∧
      t.bit Reg.clkPllStatus 5 = false ∧ t.bit Reg.clkPllEvents 5 = true ∧ t.bit Reg.tbEvents 7 = true ∧
      s.regsRaised t [Reg.tbStatus, Reg.tbEvents, Reg.clkPllStatus, Reg.clkPllEvents] 207 ∧ t.tb = s.tb) ∧
    ((freqSourceOf (s.rd Reg.tbCtrl)).1 = 0 ∨ ((freqSourceOf (s.rd Reg.tbCtrl)).1 = 1 ∧ s.fld Reg.tbStatus 21 20 = 0) →
      ∃ t, exec .pllRelock s = .next t ∧ t.bit Reg.tbStatus 26 = false ∧ t.bit Reg.clkPllStatus 5 = true ∧
        s.regsBut t [Reg.tbStatus, Reg.clkPllStatus] ∧ t = { s with regs := t.regs }) ∧
    (∀ mv (x : InputSignal) valid code, (valid = true ↔ ∃ ms, x.sinceEdgeMs = some ms ∧ ms ≤ 1100) →
      code = (if mv < 40 then 3 else if valid = true then 0 else if mv ≤ 120 then 1 else 2) →
      ∃ t, exec (.inputStateMeasure .pps mv x) s = .next t ∧ t.fld Reg.tbStatus 23 22 = code ∧
        (s.fld Reg.tbStatus 23 22 = 0 → code ≠ 0 → s.source = 2 ∨ s.source = 3 →
          t.tb = { s.tb with lossDue := true } ∧ t.bit Reg.tbEvents 5 = true ∧ s.regsRaised t [Reg.tbStatus, Reg.tbEvents] 205) ∧
        (s.fld Reg.tbStatus 23 22 ≠ 0 ∨ code = 0 → t = { s with regs := t.regs } ∧ s.regsBut t [Reg.tbStatus])) ∧
    (∀ mv (x : InputSignal) valid code, (valid = true ↔ 300 ≤ x.amplitude ∧ -100 ≤ x.ppm ∧ x.ppm ≤ 100 ∧ 10 ≤ x.heldUs) →
      code = (if mv < 40 then 3 else if valid = true then 0 else if mv ≤ 400 then 1 else 2) →
      ∃ t, exec (.inputStateMeasure .tenMHz mv x) s = .next t ∧ t.fld Reg.tbStatus 21 20 = code ∧
        (s.fld Reg.tbStatus 21 20 = 0 → code ≠ 0 → s.source = 2 →
          t.tb = { s.tb with lossDue := true } ∧ t.bit Reg.tbEvents 6 = true ∧ s.regsRaised t [Reg.tbStatus, Reg.tbEvents] 206) ∧
        (s.fld Reg.tbStatus 21 20 ≠ 0 ∨ code = 0 → t = { s with regs := t.regs } ∧ s.regsBut t [Reg.tbStatus])) ∧
    (∀ ago taken u : Nat, (∀ j ∈ s.tb.jumps, j.atRun + ago * 2 ^ 32 ≤ s.tb.run) →
      (taken : Int) = ((s.total : Int) - (ago * 2 ^ 32 : Nat)) % (2 ^ 48 * 1000000000 * 2 ^ 48) → s.fld Reg.tbStatus 23 22 = 0 → s.source ≠ 2 → s.source ≠ 3 →
      (u : Int) = (((taken / 2 ^ 32 : Nat) : Int) - Config.ppsInDelay - signed (s.rd Reg.tbPpsInTrim).toNat 32) %
        (2 ^ 48 * 1000000000 * 65536) →
      ∃ t, exec (.ppsCapture ago) s = .next t ∧ (t.rd Reg.tbPpsSec).toNat = u / 65536 / 1000000000 % 2 ^ 32 ∧
        (t.rd Reg.tbPpsNs).toNat = u / 65536 % 1000000000 ∧ (t.rd Reg.tbPpsFrac).toNat = u % 65536 ∧
        t.bit Reg.tbEvents 0 = true ∧ t.tb = s.tb ∧
        s.regsRaised t [Reg.tbPpsSec, Reg.tbPpsNs, Reg.tbPpsFrac, Reg.tbPpsErr, Reg.tbEvents] 200) ∧
    (∀ now next : Int, now = ((s.total : Int) - signed (s.rd Reg.tbPpsOutTrim).toNat 32 * 2 ^ 32) / (1000000000 * 2 ^ 48) →
      next = (((tbEdge s).total : Int) - signed (s.rd Reg.tbPpsOutTrim).toNat 32 * 2 ^ 32) / (1000000000 * 2 ^ 48) →
      s.fld Reg.tbPpsCtrl 1 0 = 1 ∨ (s.fld Reg.tbPpsCtrl 1 0 = 2 ∧ s.fld Reg.tbStatus 31 29 = 2) → 0 ≤ now → now < next →
      (s.tb.ppsOut : Int) < next → exec .ppsOutEdge s = .next (tick s) ∧ ((tick s).tb.ppsOut : Int) = next) ∧
    (s.tenOn = true ↔ s.fld Reg.tbPpsCtrl 3 2 = 1 ∨ (s.fld Reg.tbPpsCtrl 3 2 = 2 ∧ s.fld Reg.tbStatus 31 29 = 2)) ∧
    (∀ acc v, s.reaches acc Reg.tbCtrl → ∃ t, exec (.tbCtrlWrite acc v) s = .next t ∧
      t.fld Reg.tbCtrl 31 27 = Wbits v 31 27 ∧ t.fld Reg.tbCtrl 23 16 = Wbits v 23 16 ∧
      (Wbits v 31 29 ≠ s.fld Reg.tbCtrl 31 29 → t.fld Reg.tbStatus 31 29 = if Wbits v 31 29 = 0 ∨ 5 ≤ Wbits v 31 29 then 0 else 1) ∧
      (Wbits v 31 27 = s.fld Reg.tbCtrl 31 27 → Wbits v 23 16 = s.fld Reg.tbCtrl 23 16 → t.rd Reg.tbStatus = s.rd Reg.tbStatus ∧ t.tb = s.tb) ∧
      (freqSourceOf (t.rd Reg.tbCtrl) ≠ freqSourceOf (s.rd Reg.tbCtrl) → t.bit Reg.tbStatus 26 = true) ∧ t.mem = s.mem) ∧
    (∀ acc v, s.reaches acc Reg.tbServo → s.source = 1 → ∃ t, exec (.tbServoWrite acc v) s = .next t ∧
      t.fld Reg.tbStatus 31 29 = (if Wbits v 27 26 = 0 then 1 else if Wbits v 27 26 = 1 then 2 else 3) ∧
      t.fld Reg.tbServo 27 26 = Wbits v 27 26 ∧ t.rd Reg.tbFreq = s.rd Reg.tbFreq ∧ t.total = s.total) ∧
    (∀ acc, s.reaches acc Reg.tbSecLo → ∃ t, exec (.tbSnapshotRead acc false) s = .next t ∧
      t.rdData.get acc = BitVec.ofNat 32 s.tb.sec ∧ t.shadow acc Reg.tbSecHi = some (BitVec.ofNat 32 (s.tb.sec / 2 ^ 32)) ∧
      t.shadow acc Reg.tbNs = some (BitVec.ofNat 32 s.tb.ns) ∧ t.shadow acc Reg.tbFrac = some (BitVec.ofNat 32 (s.tb.frac / 2 ^ 32)) ∧
      t = { s with shadows := t.shadows, rdData := t.rdData }) ∧
    (∀ acc, s.reaches acc Reg.tbPpsSec → ∃ t, exec (.tbSnapshotRead acc true) s = .next t ∧
      t.rdData.get acc = s.rd Reg.tbPpsSec ∧ (∀ a ∈ [Reg.tbPpsNs, Reg.tbPpsFrac, Reg.tbPpsErr], t.shadow acc a = some (s.rd a)) ∧
      t = { s with shadows := t.shadows, rdData := t.rdData })

/-! ## The register bus, events and performance counters (R162–R188, R819–R839) -/

/-- R167, R169, R170, R180, R188, R410, R412, R415, R871: writes and reads by an accessor with the core running. Rests on
the model's choices of log entries 13, 14, 16, 84 and 111. -/
def Obligations.RegisterBus : Prop :=
  ∀ (s : State) (acc : Nat), acc < 7 → s.coreUp = true → s.busHeld acc = false →
    (∀ v n, n < 320 → ∀ e ∈ ([(Reg.bootNext, 0x3), (Reg.tbJump, 0x3FFFFFFF), (Reg.tbFreq, 0xFFFFFFFF), (Reg.glbIdent, 0),
        (Reg.clkPllStatus, 0), (Reg.evcRoute n, 0x1F), (Reg.flmClCtrl (n % 16), 0xFFFF), (Reg.pmcSel (n % 64), 0xC1FF03FF)] :
          List (Nat × Word)),
      ∃ t, exec (.registerWrite acc e.1 v) s = .next t ∧ t.rd e.1 = (s.rd e.1 &&& ~~~e.2) ||| (v &&& e.2) ∧
        t = { s with regs := t.regs } ∧ s.regsBut t [e.1]) ∧
    (∀ a v, a % 4 = 0 → a < 0x1000000 → regAt (canonAddr a) = none →
      (s.bit Reg.glbAccErr 31 = false → ∃ t, exec (.registerWrite acc a v) s = .next t ∧ t = { s with regs := t.regs } ∧
        t.rd Reg.glbAccAddr = BitVec.ofNat 32 a ∧ t.bit Reg.glbAccErr 31 = true ∧ t.fld Reg.glbAccErr 29 27 = acc ∧
        t.fld Reg.glbAccErr 26 24 = 0 ∧ t.bit Reg.glbAccErr 0 = true ∧ s.regsBut t [Reg.glbAccErr, Reg.glbAccAddr]) ∧
      (s.bit Reg.glbAccErr 31 = true → ∃ t, exec (.registerWrite acc a v) s = .next t ∧ t.bit Reg.glbAccErr 30 = true ∧
        t.fld Reg.glbAccErr 29 0 = s.fld Reg.glbAccErr 29 0 ∧ s.regsBut t [Reg.glbAccErr]) ∧
      (∃ t, exec (.registerRead acc a) s = .next t ∧ t.rdData.get acc = 0 ∧ (s.bit Reg.glbAccErr 31 = false →
        t.bit Reg.glbAccErr 31 = true ∧ t.bit Reg.glbAccErr 0 = false) ∧ s.regsBut t [Reg.glbAccErr, Reg.glbAccAddr])) ∧
    (∀ g o, g < 20 → o ∈ [0, 0xC, 0x20] → s.bit Reg.clkPgGate g = true → s.bit Reg.glbAccErr 31 = false →
      ∃ t, exec (.registerWrite acc (0x100000 + 0x4000 * g + o) 0) s = .next t ∧ t = { s with regs := t.regs } ∧
        t.bit Reg.glbAccErr 31 = true ∧ t.fld Reg.glbAccErr 26 24 = 1 ∧ s.regsBut t [Reg.glbAccErr, Reg.glbAccAddr]) ∧
    (∀ e ∈ ([(Reg.bootNext, 0), (Reg.tbFreq, 0), (Reg.qmEvents, 0x7), (Reg.ssvMainsEvents, 0x3F), (Reg.clkPllEvents, 0x7F),
        (Reg.glbAccErr, 0xC0000000)] : List (Nat × Word)),
      ∃ t, exec (.registerRead acc e.1) s = .next t ∧ t.rdData.get acc = s.rd e.1 ∧ t.rd e.1 = s.rd e.1 &&& ~~~e.2 ∧
        (∀ k, k ≠ acc → t.rdData.get k = s.rdData.get k) ∧ s.regsBut t [e.1] ∧ t = { s with regs := t.regs, rdData := t.rdData }) ∧
    (∀ i, i < 16 → ∃ t u, exec (.registerRead acc (Reg.qmSpill i)) s = .next t ∧
      t.rdData.get acc = BitVec.ofNat 32 (s.ctr (Reg.qmSpill i)) ∧ t.regs = s.regs ∧ t.ctrs = s.ctrs ∧
      exec (.registerRead acc (Reg.qmSpill i + 4)) { t with ctrs := {} } = .next u ∧
      u.rdData.get acc = BitVec.ofNat 32 (s.ctr (Reg.qmSpill i) / 2 ^ 32)) ∧
    (∀ k v, k < 4 → s.bit (Reg.flmCeCtrl 0 k) 31 = false → Wbits v 31 31 = 1 → ∃ t, exec (.ceRunWrite acc k v) s = .next t ∧
      t.bit (Reg.flmCeCtrl 0 k) 31 = true ∧ t.ce k = {} ∧ (∀ j, j ≠ k → t.ce j = s.ce j) ∧ s.regsBut t [Reg.flmCeCtrl 0 k] ∧ t.mem = s.mem) ∧
    (∀ k v, k < 4 → s.bit (Reg.flmCeCtrl 0 k) 31 = true → Wbits v 31 31 = 0 → (s.ce k).wb = [] →
      ∃ t, exec (.ceRunWrite acc k v) s = .next t ∧ t.bit (Reg.flmCeCtrl 0 k) 31 = false ∧ t.ce k = {} ∧
        (∀ j, j ≠ k → t.ce j = s.ce j) ∧ s.regsBut t [Reg.flmCeCtrl 0 k] ∧ t.mem = s.mem) ∧
    (∀ cl v, cl < 16 → let at_ := 65536 * cl + s.fld (Reg.flmPsAddr cl) 15 0
      ∃ t, exec (.psDataWrite acc cl v) s = .next t ∧ t.flume.ps.get at_ = Wbits v 15 0 ∧
        (∀ j, j ≠ at_ → t.flume.ps.get j = s.flume.ps.get j) ∧
        t.fld (Reg.flmPsAddr cl) 15 0 = (s.fld (Reg.flmPsAddr cl) 15 0 + if s.bit (Reg.flmPsAddr cl) 31 then 1 else 0) % 65536 ∧
        s.regsBut t [Reg.flmPsAddr cl] ∧ t.mem = s.mem ∧ t.flume.shm = s.flume.shm) ∧
    (∀ cl v, cl < 16 → let at_ := 0x40000 * cl + s.fld (Reg.flmShmAddr cl) 17 0
      (∃ t, exec (.shmDataAccess acc cl (some v)) s = .next t ∧ getBytes t.flume.shm at_ 4 = leBytes v.toNat 4 ∧
        (∀ j, j < at_ ∨ at_ + 4 ≤ j → t.flume.shm.get j = s.flume.shm.get j) ∧ t.mem = s.mem ∧ s.regsBut t [Reg.flmShmAddr cl] ∧
        t.fld (Reg.flmShmAddr cl) 17 0 = (s.fld (Reg.flmShmAddr cl) 17 0 + if s.bit (Reg.flmShmAddr cl) 31 then 4 else 0) % 2 ^ 18) ∧
      (∃ t, exec (.shmDataAccess acc cl none) s = .next t ∧ t.rdData.get acc = BitVec.ofNat 32 (leNat (getBytes s.flume.shm at_ 4)) ∧
        t.flume = s.flume ∧ s.regsBut t [Reg.flmShmAddr cl] ∧
        t.fld (Reg.flmShmAddr cl) 17 0 = (s.fld (Reg.flmShmAddr cl) 17 0 + if s.bit (Reg.flmShmAddr cl) 31 then 4 else 0) % 2 ^ 18))

/-- R821–R834, R838: raising events, the pending words, snapshots, clearing, samples and bandwidth windows. Rests on the
model's choices of log entries 16, 17, 56, 99 and 133. -/
def Obligations.EventsAndCounters : Prop :=
  ∀ (s : State), s.coreUp = true →
    (∀ n, n < 320 → sourceUsed n = true → ∃ t, exec (.eventRaise n) s = .next t ∧ s.regsRaised t [] n ∧ t.mem = s.mem ∧
      t.boot = s.boot ∧ (s.selected = [] → (∀ a, t.ctr a = s.ctr a) ∧
        ∀ k < 5, ∀ w < 10, ∀ i < 32, ¬ (w = n / 32 ∧ i = n % 32) → t.bit (Reg.evcPending k w) i = s.bit (Reg.evcPending k w) i)) ∧
    (∀ acc v, s.reaches acc Reg.evcSet → (Wbits v 8 0 < 320 → ∃ t, exec (.evcSet acc v) s = .next t ∧
        s.regsRaised t [] (Wbits v 8 0) ∧ t.mem = s.mem ∧ t.boot = s.boot) ∧
      (320 ≤ Wbits v 8 0 → exec (.evcSet acc v) s = .next s)) ∧
    (∀ acc t w, t < 5 → w < 10 → s.reaches acc (Reg.evcPending t w) → ∃ u, exec (.evcPendingRead acc t w) s = .next u ∧
      u.rdData.get acc = s.rd (Reg.evcPending t w) ∧ u.rd (Reg.evcPending t w) = 0 ∧ s.regsBut u [Reg.evcPending t w] ∧
      u = { s with regs := u.regs, rdData := u.rdData }) ∧
    (let taken := fun (t : State) => (∀ i < 64, t.ctr (Reg.pmcSnap i) = s.ctr (Reg.pmcCnt i)) ∧
        (t.rd Reg.pmcSnapTimeLo).toNat + (t.rd Reg.pmcSnapTimeHi).toNat * 2 ^ 32 = s.ns64 ∧ t.bit Reg.pmcEvents 1 = true ∧
        s.regsRaised t [] 313
     (∀ acc v, s.reaches acc Reg.pmcCmd → Wbits v 1 0 = 1 → ∃ t, exec (.pmcSnapshot acc v) s = .next t ∧ taken t) ∧
     (∀ us, us = (tbEdge s).total / (1000 * 2 ^ 48) → us ≠ s.total / (1000 * 2 ^ 48) → s.fld Reg.pmcCtrl 15 0 ≠ 0 →
        us % s.fld Reg.pmcCtrl 15 0 = 0 → exec .snapshotPeriod s = .next (tick s) ∧ (tick s).bit Reg.pmcEvents 1 = true ∧
        ((tick s).rd Reg.pmcSnapTimeLo).toNat + ((tick s).rd Reg.pmcSnapTimeHi).toNat * 2 ^ 32 = (tbEdge s).ns64)) ∧
    (∀ acc v, s.reaches acc Reg.pmcCmd → Wbits v 1 0 = 2 → ∃ t, exec (.pmcCounterClear acc v) s = .next t ∧
      (∀ i < 64, t.ctr (Reg.pmcCnt i) = 0) ∧ t.rd Reg.pmcOvfLo = 0 ∧ t.rd Reg.pmcOvfHi = 0 ∧
      (∀ a, (∀ i < 64, a ≠ Reg.pmcCnt i) → t.ctr a = s.ctr a) ∧ s.regsBut t [Reg.pmcOvfLo, Reg.pmcOvfHi] ∧
      t = { s with regs := t.regs, ctrs := t.ctrs }) ∧
    (∀ cl e th pc c, cl < 16 → e < 16 → th < 8 → pc < 2 ^ 16 → s.pmc.caught.get ((cl * 16 + e) * 2) = some (th, pc, c) →
      s.pmc.caught.get ((cl * 16 + e) * 2 + 1) = none →
      (s.bit (Reg.pmcSampleInfo cl) 31 = false → ∃ t, exec (.sampleCapture cl e) s = .next t ∧
        t.bit (Reg.pmcSampleInfo cl) 31 = true ∧ t.fld (Reg.pmcSampleInfo cl) 27 24 = e ∧ t.fld (Reg.pmcSampleInfo cl) 22 20 = th ∧
        t.fld (Reg.pmcSampleInfo cl) 15 0 = pc ∧ t.rd (Reg.pmcSampleCtx cl) = BitVec.ofNat 32 c ∧ s.raised t (140 + cl) ∧
        t.pmc.caught.get ((cl * 16 + e) * 2) = none) ∧
      (s.bit (Reg.pmcSampleInfo cl) 31 = true → ∃ t, exec (.sampleCapture cl e) s = .next t ∧ t.bit (Reg.pmcSampleInfo cl) 30 = true ∧
        t.rd (Reg.pmcSampleLost cl) = s.rd (Reg.pmcSampleLost cl) + 1 ∧
        s.regsBut t [Reg.pmcSampleInfo cl, Reg.pmcSampleLost cl])) ∧
    (∀ us t, us = (tbEdge s).total / (1000 * 2 ^ 48) → us ≠ s.total / (1000 * 2 ^ 48) → s.bit Reg.pmcBwCtrl 31 = true →
      us % s.pmc.bwWin = 0 → t = tick s → exec .bwWindowClose s = .next t ∧ t.pmc.bw = {} ∧ t.pmc.bwWin = max 1 (s.fld Reg.pmcBwCtrl 15 0) ∧
      (∀ p < 134, t.rd (Reg.pmcBwRx p) = BitVec.ofNat 32 (min (s.pmc.bw.get p / 16) (2 ^ 32 - 1)) ∧
        t.rd (Reg.pmcBwTx p) = BitVec.ofNat 32 (min (s.pmc.bw.get (200 + p) / 16) (2 ^ 32 - 1)) ∧
        (t.rd (Reg.pmcBwPeakRx p)).toNat = max (s.rd (Reg.pmcBwPeakRx p)).toNat (min (s.pmc.bw.get p / 16) (2 ^ 32 - 1)) ∧
        (t.rd (Reg.pmcBwPeakTx p)).toNat = max (s.rd (Reg.pmcBwPeakTx p)).toNat (min (s.pmc.bw.get (200 + p) / 16) (2 ^ 32 - 1))) ∧
      (s.bit Reg.pmcBwCtrl 30 = true → s.raised t 314 ∧ t.bit Reg.pmcEvents 2 = true) ∧ (∀ a, a < 0x700000 → s.closeBw.rd a = s.rd a))

/-! ## Test and diagnostics (R184, R857–R869) -/

/-- R47, R139, R857–R869: the analogue buses, the JTAG port, the memory tests, the test lock, loopbacks and PRBS. Rests on
the model's choices of log entries 87 and 97. -/
def Obligations.TestAndDiagnostics : Prop :=
  ∀ (s : State), s.supply.on = true →
    let ir := fun (t : State) (ir dr : Nat) => t.test.ir = ir ∧ t.test.dr = dr ∧ t.test.selftest = s.test.selftest
    (∀ b level, b < 2 → ∃ t, exec (.atbSample b level) s = .next t ∧ t.bit (Reg.ssvAtbAdc b) 31 = true ∧
      (atbNode (s.fld (Reg.ssvAtbSel b) 7 0) = true → t.fld (Reg.ssvAtbAdc b) 11 0 = min level 4095) ∧
      (atbNode (s.fld (Reg.ssvAtbSel b) 7 0) = false → t.fld (Reg.ssvAtbAdc b) 11 0 = 0) ∧
      t = { s with regs := t.regs } ∧ s.regsBut t [Reg.ssvAtbAdc b]) ∧
    (∃ t, exec .idcode s = .next t ∧ ir t 0x01 0x11280A3B ∧ t.test.driving = false ∧ t = { s with test := t.test }) ∧
    (∀ pins pre, ∃ t, exec (.samplePreload pins pre) s = .next t ∧ ir t 0x02 pins ∧ t.test.boundary = pre ∧ t.test.driving = false ∧
      t = { s with test := t.test }) ∧
    (∀ pins drive, (s.bit Reg.bootStatus 24 = true → ∃ t, exec (.extest pins drive) s = .next t ∧ ir t 0x03 pins ∧
        t.test.boundary = drive ∧ t.test.driving = true ∧ t = { s with test := t.test }) ∧
      (s.bit Reg.bootStatus 24 = false → ∃ t, exec (.extest pins drive) s = .next t ∧ ir t 0x03 0 ∧ t.test.driving = false ∧
        t = { s with test := t.test })) ∧
    (∀ b, ∃ t, exec (.bypass b) s = .next t ∧ ir t 0xFF (if b then 1 else 0) ∧ t.test.driving = false ∧ t = { s with test := t.test }) ∧
    (∃ t, exec .testLogicReset s = .next t ∧ t.test.ir = 0x01 ∧ t.test.retOfs = 0 ∧ t.test.driving = false ∧ t = { s with test := t.test }) ∧
    (s.fuses.jtagLock = false → (∃ t, exec (.retread true) s = .next t ∧ t.test.ir = 0x21 ∧ t.test.retOfs = 0 ∧ t = { s with test := t.test }) ∧
      (s.test.ir = 0x21 → ∃ t, exec (.retread false) s = .next t ∧
        t.test = { s.test with dr := leNat (getBytes s.aon.retention s.test.retOfs 4), retOfs := (s.test.retOfs + 4) % 65536 } ∧
        t = { s with test := t.test })) ∧
    (s.fuses.jtagLock = true → ∀ l dr, (∃ t, exec (.retread l) s = .next t ∧ ir t 0x21 0 ∧ t = { s with test := t.test }) ∧
      ∃ t, exec (.regacc dr) s = .next t ∧ ir t 0x20 0 ∧ t = { s with test := t.test }) ∧
    (∀ dr a, s.fuses.jtagLock = false → a = dr / 2 ^ 34 % 2 ^ 22 * 4 →
      (dr / 2 ^ 56 % 2 = 0 → ∃ t, exec (.regacc dr) s = .next t ∧ t.test.ir = 0x20 ∧ t.test.accAddr = a ∧ t.test.accDone = true ∧
        t.test.accVal = ((s.jtag 0x20 s.regaccCapture).busRead 6 a).1.toNat ∧
        t.test.dr = (if s.test.accDone then 2 ^ 56 else 0) + s.test.accAddr * 2 ^ 32 + s.test.accVal) ∧
      (dr / 2 ^ 56 % 2 = 1 → ∃ t, exec (.regacc dr) s = .next t ∧ t.test.accAddr = a ∧ t.test.accDone = true ∧
        (∀ x, t.rd x = ((s.jtag 0x20 s.regaccCapture).busWrite 6 a (BitVec.ofNat 32 dr)).rd x))) ∧
    (∀ acc v, s.reaches acc Reg.glbSelftestCmd →
      (s.bit Reg.glbSelftestResult 30 = true → ∃ t, exec (.selftest acc v) s = .next t ∧ t.bit Reg.glbSelftestResult 29 = true ∧
        t = { s with regs := t.regs } ∧ s.regsBut t [Reg.glbSelftestResult]) ∧
      (s.bit Reg.glbSelftestResult 30 = false → s.bit Reg.bootStatus 24 = true → Wbits v 3 0 < 10 →
        ∃ t, exec (.selftest acc v) s = .next t ∧ t.fld Reg.glbSelftestResult 31 29 = 2 ∧
        t = { s with regs := t.regs, test.selftest := some (Wbits v 3 0) } ∧ s.regsBut t [Reg.glbSelftestResult]) ∧
      (∀ c, s.bit Reg.glbSelftestResult 30 = false → (s.bit Reg.bootStatus 24 = false ∧ c = 2) ∨
          (s.bit Reg.bootStatus 24 = true ∧ 10 ≤ Wbits v 3 0 ∧ c = 3) →
        ∃ t, exec (.selftest acc v) s = .next t ∧ t.rd Reg.glbSelftestResult = resultWord (c * 2 ^ 26 + Wbits v 3 0 * 2 ^ 22) ∧
        t = { s with regs := t.regs } ∧ s.regsBut t [Reg.glbSelftestResult, Reg.glbSelftestAddrLo, Reg.glbSelftestAddrHi])) ∧
    (∀ tgt fails, s.coreUp = true → s.test.selftest = some tgt → tgt < 10 → s.bit Reg.glbSelftestResult 29 = false →
      (∀ f ∈ fails, f.target < 10 ∧ f.addr < 2 ^ 64) → fails.length < 2 ^ 20 →
      ∃ t, exec (.selftestDone fails) s = .next t ∧ t.test.selftest = none ∧ s.freeCtr ≤ t.freeCtr ∧
        (fails = [] → t.rd Reg.glbSelftestResult = resultWord (tgt * 2 ^ 22)) ∧
        (∀ f r, fails = f :: r → t.rd Reg.glbSelftestResult = resultWord (2 ^ 26 + f.target * 2 ^ 22 + fails.length) ∧
          (t.rd Reg.glbSelftestAddrLo).toNat + (t.rd Reg.glbSelftestAddrHi).toNat * 2 ^ 32 = f.addr) ∧
        s.regsBut t [Reg.glbSelftestResult, Reg.glbSelftestAddrLo, Reg.glbSelftestAddrHi] ∧ t.flash = s.flash ∧ t.aon = s.aon ∧
        (tgt = 0 ∨ tgt = 1 → t.mem = s.mem ∧ t.flume = s.flume ∧ t.tables = s.tables)) ∧
    (∀ acc v, s.reaches acc Reg.glbTestLock → exec (.testLock acc v) s = .next
      (if Wbits v 31 16 = 0xA5C3 ∧ v.getLsbD 0 = true ∧ s.bit Reg.bootStatus 24 = true then { s with fuses.jtagLock := true } else s)) ∧
    (∀ acc g v, g < 20 → s.reaches acc (Reg.pgLoopback g) → ∃ t, exec (.loopbackWrite acc g v) s = .next t ∧
      t.fld (Reg.pgLoopback g) 2 0 = Wbits v 2 0 ∧ (∀ p ∈ s.groupPorts g, t.portState p ≤ 1) ∧
      (∀ p, groupOf p ≠ g → t.portState p = s.portState p) ∧ t.mem = s.mem ∧ t.boot = s.boot) ∧
    (∀ acc g v, g < 20 → s.reaches acc (Reg.pgPrbsCtrl g) → ∃ t, exec (.prbsCtrlWrite acc g v) s = .next t ∧
      t.bit (Reg.pgPrbsCtrl g) 31 = v.getLsbD 31 ∧ t.fld (Reg.pgPrbsCtrl g) 23 16 = 0 ∧
      (v.getLsbD 31 = true → ∀ p ∈ s.groupPorts g, t.portState p ≤ 1) ∧ (v.getLsbD 31 = false → t.ports = s.ports) ∧
      t.mem = s.mem ∧ t.boot = s.boot) ∧
    (∀ g lane lock n, g < 20 → lane < 8 → s.coreUp = true → s.bit Reg.clkPgGate g = false → s.bit (Reg.pgPrbsCtrl g) 31 = true →
      s.bit (Reg.pgPrbsCtrl g) (8 + lane) = true → ∃ t, exec (.prbsCheckerLock g lane lock n) s = .next t ∧
        t.bit (Reg.pgPrbsCtrl g) (16 + lane) = lock ∧
        (s.bit (Reg.pgPrbsCtrl g) (16 + lane) = true ∨ lock = true →
          (t.rd (Reg.pgPrbsErr g lane)).toNat = min ((s.rd (Reg.pgPrbsErr g lane)).toNat + n) (2 ^ 32 - 1)) ∧
        t = { s with regs := t.regs } ∧ s.regsBut t [Reg.pgPrbsCtrl g, Reg.pgPrbsErr g lane])

/-! ## Ports (R30, R195–R240, R873) -/

/-- R204–R209, R224, R229–R231, R236: a port's way up and down, and the registers that set it. Rests on the model's
choices of log entries 42, 126 and 127. -/
def Obligations.PortStates : Prop :=
  ∀ (s : State) (p g u : Nat), s.coreUp = true → p < 132 → g = groupOf p → u = subOf p →
    let only := fun (t : State) => (∀ k, k ≠ p → t.ports.get k = s.ports.get k) ∧ t.mem = s.mem ∧ t.boot = s.boot ∧ t.supply = s.supply
    let to_ := fun (t : State) (st : Nat) => t.ports.get p = { s.ports.get p with state := st } ∧ only t
    let changed := fun (t : State) => t.bit (Reg.pgEvents g) u = true ∧ s.raised t (64 + g)
    (s.portState p = 1 → s.groupHeld g = false →
      (s.fld (Reg.pgCtrl g) 17 16 = 1 → ∃ t, exec (.signalDetect p true) s = .next t ∧ t.regs = s.regs ∧ to_ t 2) ∧
      (∀ copper, copper = false ∨ s.fld (Reg.pgCtrl g) 17 16 ≠ 1 → ∃ t, exec (.signalDetect p copper) s = .next t ∧ to_ t 3 ∧
        t.bit (Reg.pgStatus g) 18 = false ∧ s.regsBut t [Reg.pgStatus g])) ∧
    (s.portState p = 2 → ∃ t, exec (.anComplete p (s.cageMode g)) s = .next t ∧ to_ t 3 ∧ t.bit (Reg.pgStatus g) 18 = true ∧
      s.regsBut t [Reg.pgStatus g]) ∧
    (∀ m : LinkMeasure, s.portState p = 3 ∨ (s.portState p = 4 ∧ (s.ports.get p).lockLost = true) → m.laneMap.length = 8 / (subPorts (s.cageMode g)).length →
      (∀ l ∈ m.laneMap, u ≤ l ∧ l < u + m.laneMap.length) → u + m.laneMap.length ≤ 8 →
      ∃ t, exec (.alignmentLock p m) s = .next t ∧ only t ∧
        t.ports.get p = { s.ports.get p with state := 4, lockLost := false } ∧
        (∀ i < m.laneMap.length, t.fld (Reg.pgLaneMap g) (3 * (u + i) + 2) (3 * (u + i)) = m.laneMap.getD i 0 ∧
          t.bit (Reg.pgStatus g) (8 + u + i) = bitAt m.rxInv (u + i)) ∧
        s.regsBut t [Reg.pgStatus g, Reg.pgLaneMap g]) ∧
    (∀ ms (m : LinkMeasure) (n : FecCounts), s.portState p = 4 → (s.ports.get p).remoteFault = false → (s.ports.get p).lockLost = false →
      max 1 (s.fld (Reg.portCtrl g u) 23 16) ≤ ms → ∃ t, exec (.debounceExpire p ms m n) s = .next t ∧ t.portState p = 5 ∧ changed t ∧ only t ∧
        t.rd (Reg.rxDelay g u) = BitVec.ofNat 32 m.rxDelay ∧ t.rd (Reg.txDelay g u) = BitVec.ofNat 32 m.txDelay ∧
        t.rd (Reg.skewMax g u) = BitVec.ofNat 32 (m.skews.foldl max 0) ∧ (t.ports.get p).skews = m.skews ∧
        (t.ports.get p).linkDowns = (s.ports.get p).linkDowns ∧ (t.ports.get p).upRun = s.tb.run ∧
        (∀ e ∈ [(13, n.corrCw), (14, n.uncorrCw), (15, n.corrSym)],
          t.ctr (portCtr p e.1) = (s.ctr (portCtr p e.1) + e.2) % 2 ^ 64)) ∧
    (s.portState p = 4 ∨ s.portState p = 6 → ∃ t, exec (.remoteFault p) s = .next t ∧ only t ∧ t.regs = s.regs ∧
      t.ports.get p = { s.ports.get p with remoteFault := true }) ∧
    (s.portState p = 5 → ∃ t, exec (.remoteFault p) s = .next t ∧ t.portState p = 6 ∧ changed t ∧ only t ∧
      (t.ports.get p).remoteFault = true ∧ (t.ports.get p).receiving = (s.ports.get p).receiving ∧
      (t.ports.get p).linkDowns = min ((s.ports.get p).linkDowns + 1) 65535 ∧ (t.sch.tx.get p).sending = none) ∧
    (∀ ms (m : LinkMeasure), (s.ports.get p).remoteFault = true →
      (s.portState p = 4 → ∃ t, exec (.remoteFaultClear p ms m) s = .next t ∧ only t ∧ t.regs = s.regs ∧
        t.ports.get p = { s.ports.get p with remoteFault := false }) ∧
      (s.portState p = 6 → max 1 (s.fld (Reg.portCtrl g u) 23 16) ≤ ms → ∃ t, exec (.remoteFaultClear p ms m) s = .next t ∧
        t.portState p = 5 ∧ (t.ports.get p).remoteFault = false ∧ changed t ∧ only t)) ∧
    (s.portState p = 4 → ∃ t, exec (.linkLoss p) s = .next t ∧ only t ∧ t.regs = s.regs ∧
      t.ports.get p = { s.ports.get p with lockLost := true }) ∧
    (s.portState p = 5 ∨ s.portState p = 6 → ∃ t, exec (.linkLoss p) s = .next t ∧ t.portState p = 1 ∧ only t ∧
      (s.portState p = 5 → changed t ∧ (t.ports.get p).linkDowns = min ((s.ports.get p).linkDowns + 1) 65535) ∧
      (t.ports.get p).receiving = []) ∧
    (∀ acc v, s.reaches acc (Reg.pgCtrl g) → g < 16 →
      (Wbits v 1 0 ≠ s.fld (Reg.pgCtrl g) 1 0 → ∃ t, exec (.pgCtrlWrite acc g v) s = .next t ∧ t.cageMode g = Wbits v 1 0 ∧
        (∀ i < 8, t.ports.get (8 * g + i) = {} ∧ t.rd (Reg.portCtrl g i) = resetOf (Reg.portCtrl g i) ∧ ∀ k < 16, t.ctr (Reg.portCnt g i k) = 0) ∧
        (∀ k, groupOf k ≠ g → t.ports.get k = s.ports.get k) ∧ t.mem = s.mem) ∧
      (Wbits v 1 0 = s.fld (Reg.pgCtrl g) 1 0 → Wbits v 17 8 = s.fld (Reg.pgCtrl g) 17 8 → ∃ t, exec (.pgCtrlWrite acc g v) s = .next t ∧
        t.ports = s.ports ∧ s.regsBut t [Reg.pgCtrl g] ∧ t = { s with regs := t.regs })) ∧
    (∀ acc v, s.reaches acc (Reg.portCtrl g u) → s.portExists p = true → ∃ t, exec (.portCtrlWrite acc p v) s = .next t ∧ only t ∧
      t.fld (Reg.portCtrl g u) 31 29 = Wbits v 31 29 ∧ t.fld (Reg.portCtrl g u) 13 0 = Wbits v 13 0 ∧
      (v.getLsbD 31 = false → t.portState p = 0) ∧
      (v.getLsbD 31 = true → s.groupPowered g = true → s.portState p = 0 → t.portState p = 1) ∧
      (v.getLsbD 29 = false → (t.ports.get p).paused = {}))

/-- R198, R210–R214, R221–R223, R234, R240, R662: the end of a received frame, received flow control and the ends of the
alarm windows. Rests on the model's choices of log entries 15, 45, 125 and 133. -/
def Obligations.ReceivedFrames : Prop :=
  ∀ (s : State) (p : Nat), p < 132 → s.receives p = true →
    let counted := fun (t : State) (l : List (Nat × Nat)) =>
      (∀ e ∈ l, t.ctr (portCtr p e.1) = (s.ctr (portCtr p e.1) + e.2) % 2 ^ 64) ∧
      (∀ k < 16, k ∉ l.map Prod.fst → t.ctr (portCtr p k) = s.ctr (portCtr p k)) ∧
      (∀ q k, q < 132 → q ≠ p → k < 16 → t.ctr (portCtr q k) = s.ctr (portCtr q k))
    let verdictCtr := fun (v bytes : Nat) => if v = 0 then [(0, 1), (1, bytes)] else if v = 1 then [(2, 1)] else if v = 4 then [(4, 1)]
      else if v = 5 then [(5, 1)] else [(3, 1)]
    let longest := if s.fld (portCtrlOf p) 13 0 < 64 then 64 else min (s.fld (portCtrlOf p) 13 0) (if p < 128 then 10240 else 10400)
    let verdict := fun (f : List Byte) (err : Option RxError) =>
      if f.length ≤ longest ∧ fcsGood f = false then 1 else match err with
        | some .errChar => 2
        | some .codeword => 3
        | none => if longest < f.length then 4 else if f.length < 64 then 5 else 0
    let begun := fun (f : RxFrame) => f.lane < 8 ∧ (s.ports.get p).upRun + f.ago * 2 ^ 32 ≤ s.tb.run
    let control := fun (op : Nat) (f : RxFrame) => etherType f.bytes = 0x8808 ∧ beNat (slice f.bytes 14 2) = op
    (∀ t : TailIn, t.port = p → t.pkt = none → begun t.frame → ¬ control 1 t.frame → ¬ control 0x101 t.frame →
      (128 ≤ p → etherType t.frame.bytes ≠ 0x88B5) → ∃ u, exec (.tailVerdict t) s = .next u ∧ u.ports = s.ports ∧
      counted u (verdictCtr (verdict t.frame.bytes (lowerErr t.frame.err t.err)) t.frame.bytes.length ++
        [(13, t.fec.corrCw), (14, t.fec.uncorrCw), (15, t.fec.corrSym)]) ∧ u.qm = s.qm ∧ u.mem = s.mem) ∧
    (∀ (t : TailIn) i f v, t.port = p → t.frame.lane < 8 → t.pkt = some i → i ∈ (s.ports.get p).receiving →
      f = (s.ports.get p).arriving.get i → v = verdict f.bytes (lowerErr f.err t.err) → ∃ u, exec (.tailVerdict t) s = .next u ∧
      i ∉ (u.ports.get p).receiving ∧ (∀ k, k ≠ p → u.ports.get k = s.ports.get k) ∧
      (∀ n, (s.flow.insts.get n).live = true → (s.flow.insts.get n).pkt = i → (s.flow.insts.get n).verdict = none → s.flow.insts.wf = true →
        (u.flow.insts.get n).verdict = some v) ∧
      (∀ e ∈ verdictCtr v f.bytes.length ++ [(13, t.fec.corrCw), (14, t.fec.uncorrCw), (15, t.fec.corrSym)],
        u.ctr (portCtr p e.1) = (s.ctr (portCtr p e.1) + e.2) % 2 ^ 64) ∧ u.mem = s.mem) ∧
    (∀ (f : RxFrame) v, begun f → control 0x101 f → v = verdict f.bytes f.err → ∃ t, exec (.pfcFrameReceive p f) s = .next t ∧
      counted t (verdictCtr v f.bytes.length ++ [(6, 1)]) ∧ t.qm = s.qm ∧
      (v = 0 → s.bit (portCtrlOf p) 29 = true → ∀ c < 8, (t.ports.get p).paused.get c =
        if bitAt (byteAt f.bytes 17).toNat c then beNat (slice f.bytes (18 + 2 * c) 2) else (s.ports.get p).paused.get c) ∧
      (v ≠ 0 ∨ s.bit (portCtrlOf p) 29 = false → t.ports = s.ports) ∧ (∀ k, k ≠ p → t.ports.get k = s.ports.get k)) ∧
    (∀ f : RxFrame, begun f → control 1 f → ∃ t, exec (.pauseFrameReceive p f) s = .next t ∧
      counted t (verdictCtr (verdict f.bytes f.err) f.bytes.length ++ [(7, 1)]) ∧ t.ports = s.ports ∧ t.qm = s.qm) ∧
    (∀ c quanta, c < 8 → (s.ports.get p).paused.get c ≠ 0 → (s.ports.get p).paused.get c ≤ quanta →
      ∃ t, exec (.pfcPauseExpire p c quanta) s = .next t ∧ (t.ports.get p).paused.get c = 0 ∧
      (∀ k, k ≠ c → (t.ports.get p).paused.get k = (s.ports.get p).paused.get k) ∧ (∀ k, k ≠ p → t.ports.get k = s.ports.get k) ∧
      t = { s with ports := t.ports }) ∧
    (let ms := fun t : State => t.total / (1000000 * 2 ^ 48)
     let sec := fun t : State => t.total / (1000000000 * 2 ^ 48)
     (ms (tbEdge s) ≠ ms s → exec (.alarmWindowEnd .millisecond) s = .next (tick s) ∧ (tick s).hdg.malWindow = {} ∧
        (tick s).dsp.missWindow = {} ∧ (tick s).flume.faultWindow = {} ∧ (tick s).flow.evictWindow = {} ∧
        (∀ k, 200 ≤ k % 4096 → (tick s).portWindow.get k = 0)) ∧
     (sec (tbEdge s) ≠ sec s → exec (.alarmWindowEnd .second) s = .next (tick s) ∧ (tick s).dmc.corrWindow = {} ∧
        (tick s).ecc.corrWindow = {} ∧ (∀ k, k % 4096 < 200 → (tick s).portWindow.get k = 0)) ∧
     (s.boot.stop = .none →
        (ms (tbEdge s) = ms s → ∀ k, 200 ≤ k % 4096 → (tick s).portWindow.get k = s.portWindow.get k) ∧
        (sec (tbEdge s) = sec s → ∀ k, k % 4096 < 200 → (tick s).portWindow.get k = s.portWindow.get k)))

/-! ## Headgate (R241–R286) -/

/-- R212, R225, R242–R244, R261, R269, R271, R569, R590: a frame's admission, its cells, the offer of its header to a
slice and the start of the parse. Cells are stated for an ingress buffer, those of the Reservoir with the buffers.
Rests on the model's choices of log entries 46, 54, 105, 113 and 129. -/
def Obligations.HeadgateAdmission : Prop :=
  ∀ (s : State), s.coreUp = true →
    (∀ (f : RxFrame) p i g, p < 128 → f.lane < 8 → s.receives p = true → (s.ports.get p).upRun + f.ago * 2 ^ 32 ≤ s.tb.run →
      64 ≤ f.bytes.length → etherType f.bytes ≠ 0x8808 → i = s.qm.nextPkt → g = groupOf p →
      (s.mayAdmit p = true → ∃ t, exec (.frameAdmit p f) s = .next t ∧ (t.pkt i).live = true ∧ (t.pkt i).port = p ∧
        (t.pkt i).bytes = f.bytes ∧ (t.pkt i).verdict = none ∧
        ((∀ j ∈ s.tb.jumps, j.atRun + f.ago * 2 ^ 32 ≤ s.tb.run) → ∀ taken u : Nat,
          (taken : Int) = ((s.total : Int) - (f.ago * 2 ^ 32 : Nat)) % (2 ^ 48 * 1000000000 * 2 ^ 48) →
          (u : Int) = (((taken / 2 ^ 32 : Nat) : Int) - (s.rd (Reg.rxDelay g (subOf p))).toNat -
            ((s.ports.get p).skews.getD f.lane 0 : Nat) - signed (s.rd (Reg.rxTrim g (subOf p))).toNat 32) % (2 ^ 32 * 1000000000 * 65536) →
          (t.pkt i).ts80 = ts80Of (u / 65536 / 1000000000) (u / 65536 % 1000000000) (u % 65536)) ∧
        t.qm.nextPkt = i + 1 ∧ t.hdg.queue.get g = s.hdg.queue.get g ++ [i] ∧
        (∀ k, k ≠ g → t.hdg.queue.get k = s.hdg.queue.get k) ∧
        (t.ports.get p).receiving = (s.ports.get p).receiving ++ [i] ∧ (t.ports.get p).arriving.get i = f ∧ (∀ k, k ≠ i → t.pkt k = s.pkt k) ∧ t.mem = s.mem ∧
        (s.qm.shared = false → (t.pkt i).voq = some g ∧ (t.pkt i).cells.length ≤ 1)) ∧
      (s.mayAdmit p = false → ∃ t, exec (.frameAdmit p f) s = .next t ∧ t.qm = s.qm ∧ t.hdg = s.hdg ∧ t.ports = s.ports ∧
        t.ctr (Reg.hdgAdmitDrop g (subOf p)) = (s.ctr (Reg.hdgAdmitDrop g (subOf p)) + 1) % 2 ^ 64 ∧
        t.ctr (Reg.qmSpill 0) = (s.ctr (Reg.qmSpill 0) + 1) % 2 ^ 64 ∧ ∀ a, a < 0x700000 → t.rd a = s.rd a)) ∧
    (∀ i g err, (s.pkt i).live = true → (s.pkt i).voq = some g → (s.pkt i).incomplete = false →
      (s.pkt i).cells.length < ((s.pkt i).bytes.length + 255) / 256 → i ∈ (s.ports.get (s.pkt i).port).receiving → (s.voqCells g).length < 1024 →
      ∃ t c, exec (.ingressCellTake i err) s = .next t ∧ t.pkt i = { s.pkt i with cells := (s.pkt i).cells ++ [c] } ∧ c ∉ s.voqCells g ∧
        c ≤ (s.voqCells g).length ∧ (∀ k, k ≠ i → t.pkt k = s.pkt k) ∧ t.regs = s.regs ∧ t.bpm = s.bpm) ∧
    (∀ (g : Nat) (fresh : Bool) i r, g < 21 → s.hdg.queue.get g = i :: r → (s.hdg.inflight.get g).length < 32 →
      (∀ v, (s.pkt i).verdict = some v → v = 0) → fresh = true ∨ g ∉ s.hdg.offered →
      let idle := fun n : Nat => (s.hdg.slices.get n).st = .idle
      let free := fun h : Nat => ((List.range 8).filter fun j => (s.hdg.slices.get (8 * h + j)).st == .idle).length
      let takes := fun n : Nat => ∃ t, exec (.headerOffer g fresh) s = .next t ∧ t.hdg.queue.get g = r ∧
        t.hdg.inflight.get g = s.hdg.inflight.get g ++ [n] ∧ (t.hdg.slices.get n).st = .taken ∧ (t.hdg.slices.get n).res.pkt = i ∧
        (t.hdg.slices.get n).res.port = (s.pkt i).port ∧ (t.hdg.slices.get n).res.group = g ∧ g ∈ t.hdg.offered ∧
        (∀ j, j ≠ n → t.hdg.slices.get j = s.hdg.slices.get j) ∧ t = { s with hdg := t.hdg }
      (∀ k, g < 20 → k < 8 → idle (8 * g + k) → (∀ j < k, ¬ idle (8 * g + j)) → takes (8 * g + k)) ∧
      (∀ h k, g = 20 ∨ free g = 0 → (∀ j < 21, j ≠ g → s.hdg.queue.get j = []) → h < 20 → k < 8 → idle (8 * h + k) →
        (∀ j < k, ¬ idle (8 * h + j)) → (∀ j < 20, free j ≤ free h) → (∀ j < h, free j < free h) → takes (8 * h + k))) ∧
    (∀ g, g < 21 → g ∈ s.hdg.offered → exec (.headerOffer g false) s = .next s) ∧
    (∀ (g : Nat) (fresh : Bool) i r v, g < 21 → s.hdg.queue.get g = i :: r → (s.pkt i).verdict = some v → v ≠ 0 →
      fresh = true ∨ g ∉ s.hdg.offered → ∃ t, exec (.headerOffer g fresh) s = .next t ∧
      t.hdg.queue.get g = r ∧ t.hdg.slices = s.hdg.slices ∧ (t.pkt i).live = false ∧
      t.ctr (Reg.qmSpill 17) = (s.ctr (Reg.qmSpill 17) + 1) % 2 ^ 64) ∧
    (∀ k whole n, k < 160 → (s.hdg.slices.get k).st = .taken → s.bit Reg.hdgCtrl 0 = false →
      n = (s.pkt (s.hdg.slices.get k).res.pkt).bytes.length → 256 ≤ n ∨ whole = true →
      (∀ v, (s.pkt (s.hdg.slices.get k).res.pkt).verdict = some v → v = 0) → ∃ t, exec (.parseStart k whole) s = .next t ∧
        (t.hdg.slices.get k).st = .running ∧ (t.hdg.slices.get k).avail = min 256 (n - 4) ∧
        (t.hdg.slices.get k).res = { (s.hdg.slices.get k).res with lenValid := whole } ∧
        (∀ j, j ≠ k → t.hdg.slices.get j = s.hdg.slices.get j) ∧ t.hdg.queue = s.hdg.queue ∧ t.qm = s.qm) ∧
    (∀ k whole, k < 160 → (s.hdg.slices.get k).st = .taken → s.bit Reg.hdgCtrl 0 = true → exec (.parseStart k whole) s = .next s)

/-- R246, R248–R257, R262, R264–R268, R272, R276, R280, R286: one microword, the end of a parse and the control store.
Rests on the model's choices of log entries 52, 53, 54 and 114. -/
def Obligations.HeadgateParsing : Prop :=
  ∀ (s : State), s.coreUp = true →
    (∀ (k : Nat) (x : Slice) (w a b res : Nat), k < 160 → s.hdg.slices.get k = x → x.st = .running → x.first = false →
      s.bit Reg.hdgCtrl 0 = false → w = s.hdg.ucode.get (k / 8 * 4096 + x.addr) → w % 2 ^ 40 = 0 →
      x.res.words < (if s.fld Reg.hdgCtrl 15 8 = 0 then 255 else s.fld Reg.hdgCtrl 15 8) →
      -- no operand is loaded, nothing extracted, no field of the result written: LDW, XEN, OEN, FEN, LVL, TAG, PCEN, TCEN are 0
      w / 2 ^ 172 % 8 = 0 → w / 2 ^ 90 % 2 = 0 → w / 2 ^ 69 % 2 = 0 → w / 2 ^ 64 % 2 = 0 → w / 2 ^ 57 % 4 = 0 → w / 2 ^ 55 % 4 = 0 →
      w / 2 ^ 40 % 4 = 0 → w / 2 ^ 118 % 8 < 5 → w / 2 ^ 99 % 8 < 5 →
      a = x.scratch.get 0 → (w / 2 ^ 124 % 8 = 0 ∧ b = w / 2 ^ 102 % 2 ^ 16) ∨ (w / 2 ^ 124 % 8 = 2 ∧ b = x.scratch.get 1) →
      (w / 2 ^ 121 % 8, res) ∈ [(0, a), (1, (a + b) % 2 ^ 32), (3, Nat.land a b), (4, Nat.lor a b), (5, Nat.xor a b)] →
      let y : Slice := { x with
        cur := min 511 (match w / 2 ^ 99 % 8 with
          | 1 => x.cur + w / 2 ^ 91 % 256
          | 2 => x.cur + res * 4 + w / 2 ^ 91 % 256
          | 3 => x.cur + res * 8 + w / 2 ^ 91 % 256
          | 4 => x.cur + res + w / 2 ^ 91 % 256
          | _ => x.cur)
        res := { x.res with words := x.res.words + 1 }
        scratch := if w / 2 ^ 118 % 8 = 0 then x.scratch else x.scratch.set (w / 2 ^ 118 % 8 - 1) res }
      let next := w / 2 ^ 176 % 4096
      let go := fun (c : Bool) => exec (.microwordExecute k none) s = .next (s.setSlice k { y with addr := if c then next else (x.addr + 1) % 4096 })
      (w / 2 ^ 188 = 1 → go false) ∧ (w / 2 ^ 188 = 2 → go true) ∧ (w / 2 ^ 188 = 3 → go (res == 0)) ∧ (w / 2 ^ 188 = 4 → go (res != 0)) ∧
      (w / 2 ^ 188 = 5 → go (decide (a < b))) ∧ (w / 2 ^ 188 = 6 → go (decide (b ≤ a))) ∧
      (w / 2 ^ 188 = 7 → exec (.microwordExecute k none) s = .next (s.setSlice k { y with addr := (next + res % 16) % 4096 })) ∧
      (w / 2 ^ 188 = 8 → x.stack.length < 4 → exec (.microwordExecute k none) s = .next
        (s.setSlice k { y with addr := next, stack := (x.addr + 1) % 4096 :: x.stack })) ∧
      (∀ p q, w / 2 ^ 188 = 9 → x.stack = p :: q → exec (.microwordExecute k none) s = .next (s.setSlice k { y with addr := p, stack := q })) ∧
      (w / 2 ^ 188 = 10 → ∃ t, exec (.microwordExecute k none) s = .next t ∧ (t.hdg.slices.get k).st = .waiting ∧
        (t.hdg.slices.get k).res.reason = 0 ∧ (t.hdg.slices.get k).res.parseEnd = y.cur ∧
        (t.hdg.slices.get k).action = s.fld (Reg.hdgMalCtrl x.res.group) 1 0 ∧ t = { s with hdg := t.hdg }) ∧
      (w / 2 ^ 188 = 12 → ∃ t, exec (.microwordExecute k none) s = .next t ∧ (t.hdg.slices.get k).st = .waiting ∧
        (t.hdg.slices.get k).res.reason = w / 2 ^ 50 % 32 ∧ bitAt (t.hdg.slices.get k).res.flags 0 = true ∧
        (t.hdg.slices.get k).action = s.fld (Reg.hdgMalCtrl x.res.group) 1 0 ∧ t = { s with hdg := t.hdg })) ∧
    (∀ k g r, k < 160 → (s.hdg.slices.get k).st = .waiting → (s.hdg.slices.get k).res = r → r.group = g → g < 21 →
      (s.hdg.inflight.get g).head? = some k → (s.hdg.inflight.get g).Nodup →
      let ends := fun (t : State) => (t.hdg.slices.get k) = {} ∧ (∀ j, j ≠ k → t.hdg.slices.get j = s.hdg.slices.get j) ∧
        t.hdg.inflight.get g = (s.hdg.inflight.get g).tail ∧ t.ctr (Reg.hdgParsed g) = (s.ctr (Reg.hdgParsed g) + 1) % 2 ^ 64 ∧
        t.ctr (Reg.hdgWords g) = (s.ctr (Reg.hdgWords g) + r.words) % 2 ^ 64 ∧ t.mem = s.mem
      let full := 300 ≤ (s.hdg.out.entries.map fun e => e.2.length).sum + s.tables.out.length
      (bitAt r.flags 0 = false → s.backPressure = false → ¬ full → ∃ t, exec (.parseEnd k) s = .next t ∧ ends t ∧
        t.hdg.out.get g = s.hdg.out.get g ++ [r] ∧ t.qm = s.qm) ∧
      (bitAt r.flags 0 = false → s.backPressure = true ∨ full → exec (.parseEnd k) s = .next s) ∧
      (bitAt r.flags 0 = true → (s.hdg.slices.get k).action = 1 → s.backPressure = false → ¬ full → r.reason < 32 →
        ∃ t, exec (.parseEnd k) s = .next t ∧ ends t ∧ t.hdg.out.get g = s.hdg.out.get g ++ [r] ∧ t.qm = s.qm ∧
        t.ctr (Reg.hdgMalCnt g r.reason) = (s.ctr (Reg.hdgMalCnt g r.reason) + 1) % 2 ^ 64) ∧
      (bitAt r.flags 0 = true → (s.hdg.slices.get k).action = 2 → r.reason < 32 → ∃ t, exec (.parseEnd k) s = .next t ∧ ends t ∧
        t.hdg.out = s.hdg.out ∧ t.ctr (Reg.hdgMalCnt g r.reason) = (s.ctr (Reg.hdgMalCnt g r.reason) + 1) % 2 ^ 64) ∧
      (bitAt r.flags 0 = true → (s.hdg.slices.get k).action = 0 → r.reason < 32 → ∃ t, exec (.parseEnd k) s = .next t ∧ ends t ∧
        t.hdg.out = s.hdg.out ∧ (t.pkt r.pkt).live = false ∧
        t.ctr (Reg.hdgMalCnt g r.reason) = (s.ctr (Reg.hdgMalCnt g r.reason) + 1) % 2 ^ 64 ∧
        t.ctr (Reg.qmSpill 1) = (s.ctr (Reg.qmSpill 1) + 1) % 2 ^ 64)) ∧
    (∀ acc v, s.reaches acc Reg.hdgUcCmd → Wbits v 1 0 = 1 → let at_ := s.fld Reg.hdgUcAddr 11 0
      ∃ t, exec (.ucWrite acc v) s = .next t ∧
        (∀ g < 20, t.hdg.ucode.get (g * 4096 + at_) = leNat ((List.range 6).flatMap fun i => leBytes (s.rd (Reg.hdgUcData i)).toNat 4)) ∧
        (∀ n, n % 4096 ≠ at_ ∨ 20 * 4096 ≤ n → t.hdg.ucode.get n = s.hdg.ucode.get n) ∧ t = { s with regs := t.regs, hdg := t.hdg } ∧
        t.fld Reg.hdgUcAddr 11 0 = (at_ + if v.getLsbD 4 then 1 else 0) % 4096 ∧ s.regsBut t [Reg.hdgUcAddr]) ∧
    (∀ acc v, s.reaches acc Reg.hdgUcCmd → Wbits v 1 0 = 2 → s.fld Reg.hdgUcAddr 20 16 < 20 → ∃ t, exec (.ucRead acc v) s = .next t ∧
      (∀ i < 6, (t.rd (Reg.hdgUcData i)).toNat =
        s.hdg.ucode.get (s.fld Reg.hdgUcAddr 20 16 * 4096 + s.fld Reg.hdgUcAddr 11 0) / 2 ^ (32 * i) % 2 ^ 32) ∧ t = { s with regs := t.regs } ∧
      ∀ a, a ≠ Reg.hdgUcAddr → (∀ i < 6, a ≠ Reg.hdgUcData i) → t.rd a = s.rd a) ∧
    (∀ acc v, s.reaches acc Reg.hdgCtrl → ∃ t, exec (.hdgCtrlWrite acc v) s = .next t ∧ t.rd Reg.hdgCtrl = v &&& 0xFF01 ∧
      s.regsBut t [Reg.hdgCtrl] ∧ t = { s with regs := t.regs })

/-! ## Dispatch and Turnout (R335–R374) -/

/-- R336–R349, R351–R353, R357–R364, R378: contexts built, placed, taken by a thread, ended, released in their domain's
order, and the watchdogs. Rests on the model's choices of log entries 46, 102, 118 and 130. -/
def Obligations.ContextLife : Prop :=
  ∀ (s : State), s.coreUp = true →
    (∀ l q c dom n, s.tables.out = l :: q → s.dsp.ctxs.wf = true → s.freeCtxs ≠ 0 → lowest (fun c => (s.ctx c).st = .free) c →
      dom = s.domainOf l (s.flowHashOf l) → n < 16 → n = (s.dsp.rr + 1) % 16 → s.clEnabled n = true → s.clHeld n < s.clLimit →
      (s.dsp.buildCycle = s.parseCycle → s.dsp.accepted.count n < 2) →
      ∃ t, exec .contextBuild s = .next t ∧ t.tables.out = q ∧ (t.ctx c).st = .ready ∧ (t.ctx c).pkt = l.parse.pkt ∧
        (t.ctx c).domain = dom ∧ (t.ctx c).seq = s.dsp.nextSeq.get dom ∧ t.dsp.nextSeq.get dom = (s.dsp.nextSeq.get dom + 1) % 65536 ∧
        (t.ctx c).cluster = n ∧ t.dsp.rr = n ∧ (t.ctx c).built = s.dsp.builds + 1 ∧ (t.ctx c).ending = .none ∧ (t.ctx c).edits = [] ∧
        (let ts := s.contextTs (s.pkt l.parse.pkt)
         (t.ctx c).deadline = (tsSec ts * 1000000000 + tsNs ts + min (s.fld (Reg.dspBudget l.tc) 29 0) 1000000000) % 2 ^ 32) ∧
        (∀ i, i < (t.ctx c).avail → (t.ctx c).byte (0x100 + i) = (s.pkt l.parse.pkt).bytes.getD i 0) ∧
        (t.ctx c).avail = min 256 ((s.pkt l.parse.pkt).bytes.length - 4) ∧ (∀ d, d ≠ c → t.ctx d = s.ctx d) ∧
        t.ctr (Reg.dspClCnt n 0) = (s.ctr (Reg.dspClCnt n 0) + 1) % 2 ^ 64 ∧ t.mem = s.mem ∧ ∀ a, a < 0x700000 → t.rd a = s.rd a) ∧
    (s.freeCtxs ≠ 0 → s.dsp.buildCycle = s.parseCycle → (∀ n < 16, s.clEnabled n = true → 2 ≤ s.dsp.accepted.count n) →
      exec .contextBuild s = .next s) ∧
    (∀ l q, s.tables.out = l :: q → s.freeCtxs = 0 → ∃ t, exec .contextBuild s = .next t ∧ t.tables.out = q ∧ t.dsp = s.dsp ∧
      (t.pkt l.parse.pkt).live = false ∧ t.ctr (Reg.qmSpill 3) = (s.ctr (Reg.qmSpill 3) + 1) % 2 ^ 64) ∧
    (∀ cl e i, cl < 16 → e < 16 → s.dsp.ctxs.wf = true → (s.ctx i).st = .ready → (s.ctx i).cluster = cl →
      (∀ k, k ≠ i → (s.ctx k).st = .ready → (s.ctx k).cluster = cl → isBefore (s.ctx i).deadline (s.ctx k).deadline 32 = true) →
      (∀ k, (s.ctx k).st = .slotted → (s.ctx k).cluster = cl → (s.ctx k).engine ≠ e) →
      ∃ t, exec (.contextSlot cl e) s = .next t ∧ (t.ctx i).st = .slotted ∧ (t.ctx i).engine = e ∧
        (∀ a, 4 ≤ a → (t.ctx i).byte a = (s.ctx i).byte a) ∧ leNat ((List.range 4).map fun a => (t.ctx i).byte a) / 2 ^ 23 % 16 = e ∧
        (∀ k, k ≠ i → t.ctx k = s.ctx k) ∧ t.flume = s.flume ∧ t.regs = s.regs) ∧
    (∀ cl e th i, cl < 16 → e < 16 → th < 8 → s.dsp.ctxs.wf = true → (s.ctx i).st = .slotted → (s.ctx i).cluster = cl → (s.ctx i).engine = e →
      (∀ k, k ≠ i → (s.ctx k).st = .slotted → (s.ctx k).cluster = cl → (s.ctx k).engine = e →
        isBefore (s.ctx i).deadline (s.ctx k).deadline 32 = true) →
      (s.thr cl e th).ctx = none → ∃ t, exec (.threadTake cl e th) s = .next t ∧ (t.ctx i).st = .running ∧ (t.ctx i).thread = th ∧
        (t.thr cl e th).ctx = some i ∧ (t.thr cl e th).wait = none ∧
        (t.thr cl e th).arch = { pc := leNat [(s.ctx i).byte 0x9C, (s.ctx i).byte 0x9D] } ∧
        leNat ((List.range 4).map fun a => (t.ctx i).byte a) / 2 ^ 27 % 8 = th ∧ (∀ a, 4 ≤ a → (t.ctx i).byte a = (s.ctx i).byte a) ∧
        (t.ctx i).wdFrom = s.flume.cycles ∧
        (∀ k, k ≠ i → t.ctx k = s.ctx k) ∧ (∀ a, a < 0x740000 → t.rd a = s.rd a) ∧ t.mem = s.mem) ∧
    (∀ c x, c < 8192 → s.ctx c = x → x.st = .running ∨ x.st = .exception → x.ending ≠ .none → x.cluster < 16 →
      ∃ t, exec (.contextEnd c) s = .next t ∧ 
        t.ctx c = { x with st := .ended, wd := (s.flume.cycles - x.wdFrom) / 1000000, readyAt := s.tb.run } ∧ (∀ k, k ≠ c → t.ctx k = s.ctx k) ∧
        t.thr x.cluster x.engine x.thread = {} ∧ (t.inst x.built).ended = true ∧
        t.ctr (Reg.dspClCnt x.cluster 1) = (if isBefore x.deadline (s.ns64 % 2 ^ 32) 32
          then (s.ctr (Reg.dspClCnt x.cluster 1) + 1) % 2 ^ 64 else s.ctr (Reg.dspClCnt x.cluster 1)) ∧ t.mem = s.mem ∧ t.qm = s.qm) ∧
    (∀ c x, c < 8192 → s.ctx c = x → x.st = .ended → s.dsp.ctxs.wf = true →
      (x.seq ≠ s.dsp.relSeq.get x.domain → exec (.release c) s = .next s) ∧
      (s.boot.stop ≠ .none → exec (.release c) s = .next s) ∧
      (s.dsp.relCycle = s.parseCycle → 20 ≤ s.dsp.released.length ∨ x.domain ∈ s.dsp.released → exec (.release c) s = .next s) ∧
      (∀ n, x.seq = s.dsp.relSeq.get x.domain → s.boot.stop = .none →
        (s.dsp.relCycle = s.parseCycle → s.dsp.released.length < 20 ∧ x.domain ∉ s.dsp.released) →
        (∀ k, k ≠ c → (s.ctx k).st = .ended → (s.ctx k).seq = s.dsp.relSeq.get (s.ctx k).domain →
          x.readyAt < (s.ctx k).readyAt ∨ (x.readyAt = (s.ctx k).readyAt ∧ c < k)) → x.ending = .drop n → x.siphonEn = false → (s.pkt x.pkt).incomplete = false →
        (∀ v, (s.pkt x.pkt).verdict = some v → v = 0) →
        ∃ t, exec (.release c) s = .next t ∧ (t.ctx c).st = .free ∧
          (∀ k, k ≠ c → t.ctx k = if (s.ctx k).st = .ended ∧ (s.ctx k).domain = x.domain ∧ (s.ctx k).seq = (x.seq + 1) % 65536
            then { s.ctx k with readyAt := s.tb.run } else s.ctx k) ∧
          t.dsp.relSeq.get x.domain = (x.seq + 1) % 65536 ∧ (∀ d, d ≠ x.domain → t.dsp.relSeq.get d = s.dsp.relSeq.get d) ∧
          t.ctr Reg.dspReleased = (s.ctr Reg.dspReleased + 1) % 2 ^ 64 ∧ (t.pkt x.pkt).live = false ∧ t.qm.copies = s.qm.copies ∧
          t.mem = s.mem)) ∧
    (∀ c x, c < 8192 → s.ctx c = x → x.st = .running → x.ending = .none →
      max 1000 (s.fld Reg.dspWd 19 0) ≤ (s.flume.cycles - x.wdFrom) / 1000000 → x.cluster < 16 →
      (s.thr x.cluster x.engine x.thread).ctx = some c → ∃ t, exec (.watchdogExpire c) s = .next t ∧ (t.ctx c).st = .exception ∧
        (t.thr x.cluster x.engine x.thread).arch.ds.head? = some (BitVec.ofNat 32 (7 * 2 ^ 28)) ∧
        (t.thr x.cluster x.engine x.thread).arch.pc = s.fld (Reg.flmClCtrl x.cluster) 15 0 ∧
        t.bit (Reg.dspClEvents x.cluster) 2 = true ∧ t.ctr (Reg.dspClCnt x.cluster 2) = (s.ctr (Reg.dspClCnt x.cluster 2) + 1) % 2 ^ 64 ∧
        s.raised t (156 + x.cluster) ∧ t.mem = s.mem) ∧
    (∀ c x, c < 8192 → s.ctx c = x → x.st = .exception → x.ending = .none →
      max 100 (s.fld Reg.dspExcWd 19 0) ≤ (s.flume.cycles - x.wdFrom) / 1000000 → x.cluster < 16 →
      ∃ t, exec (.exceptionWatchdogExpire c) s = .next t ∧ (t.ctx c).ending = .drop 4 ∧ (∀ k, k ≠ c → t.ctx k = s.ctx k) ∧
        t.bit (Reg.dspClEvents x.cluster) 2 = true ∧ t.ctr (Reg.dspClCnt x.cluster 3) = (s.ctr (Reg.dspClCnt x.cluster 3) + 1) % 2 ^ 64 ∧
        t.ctr (Reg.qmSpill 4) = (s.ctr (Reg.qmSpill 4) + 1) % 2 ^ 64 ∧
        t.ctr (Reg.flmCnt x.cluster 7) = (s.ctr (Reg.flmCnt x.cluster 7) + 1) % 2 ^ 64 ∧ t.bit (Reg.flmFaultInfo x.cluster) 31 = true ∧
        (s.bit (Reg.flmFaultInfo x.cluster) 31 = false → t.bit (Reg.flmFaultInfo x.cluster) 8 = true ∧
          t.fld (Reg.flmFaultInfo x.cluster) 19 16 = 7) ∧ s.raised t (156 + x.cluster))

/-! ## The flow engine's own work (R502–R510, R519–R521, R533, R547–R567) -/

/-- R505, R506, R508–R510, R547–R552: a context resolves, its entries are applied or removed oldest first, and notices
reach their rings. Rests on the model's choices of log entries 74, 75, 76 and 119. -/
def Obligations.StagedEntries : Prop :=
  ∀ (s : State), s.coreUp = true →
    (∀ i, (s.inst i).due = true →
      (let ok := !(s.inst i).cancel && (s.inst i).verdict == some 0
       ∃ t, exec (.contextResolve i) s = .next t ∧ (s.stagedOf i = 0 → t.inst i = {}) ∧
        (s.stagedOf i ≠ 0 → t.inst i = { s.inst i with resolved := some ok, touched := [] }) ∧ (∀ j, j ≠ i → t.inst j = s.inst j) ∧
        t.ctr (Reg.fleCnt (if ok then 0 else 1)) = (s.ctr (Reg.fleCnt (if ok then 0 else 1)) + 1) % 2 ^ 64 ∧
        t.flow.logs = s.flow.logs ∧ t.flow.lines = s.flow.lines ∧ t.mem = s.mem ∧ ∀ a, a < 0x700000 → t.rd a = s.rd a)) ∧
    (∀ i, (s.inst i).due = false → exec (.contextResolve i) s = .next s) ∧
    (∀ n key e l, n < 16 → s.nextHead (some n) = some (key, e) → s.log key = e :: l → (s.inst e.inst).resolved = some false →
      ∃ t, exec (.logEntryApply n) s = .next t ∧ t.log key = (if e.own then takeOver e l else l) ∧ (∀ k, k ≠ key → t.log k = s.log k) ∧
        (∀ k, t.committed k = s.committed k) ∧ t.mem = s.mem ∧ t.regs = s.regs ∧ t.ctrs = s.ctrs ∧ t.flow.eqNotices = s.flow.eqNotices) ∧
    (∀ n key e l img res, n < 16 → s.nextHead (some n) = some (key, e) → s.log key = e :: l → (s.inst e.inst).resolved = some true →
      s.cached key → (∀ h ∈ s.entryHops key e, s.cached h) → (img, res) = applyEntry s.recSize key (s.entryHash e) (s.committed key) e → img.length = s.recSize →
      ∃ t, exec (.logEntryApply n) s = .next t ∧ t.log key = l ∧ (∀ k, k ≠ key → t.log k = s.log k) ∧
        (e.fn ≠ 1 → e.fn ≠ 2 → e.fn ≠ 15 → t.committed key = img ∧ (∀ k, k ≠ key → t.committed k = s.committed k) ∧ t.mem = s.mem ∧
          (res = e.results → t.regs = s.regs ∧ t.ctr (Reg.fleCnt 3) = s.ctr (Reg.fleCnt 3)) ∧
          (res ≠ e.results → t.ctr (Reg.fleCnt 3) = (s.ctr (Reg.fleCnt 3) + 1) % 2 ^ 64 ∧
            (s.bit Reg.fleCtrl 8 = true → t.bit (Reg.fleFsEvents (keySlice key)) 2 = true ∧ t.bit Reg.fleOpErrInfo 31 = true))) ∧
        (e.fn = 2 → res = [0] → recDisplaced (s.committed key) = false → t.committed key = recClear (s.committed key) ∧
          (∀ k, k ≠ key → t.committed k = s.committed k) ∧ t.flow.valid.get (keySlice key) = s.flow.valid.get (keySlice key) - 1) ∧
        (e.fn = 1 → e.own = true → recMatches (s.committed key) e.tenant e.bytes = false → e.cand = e.home → e.evict = none →
          recValid (s.committed key) = false → t.committed key = img ∧ (∀ k, k ≠ key → t.committed k = s.committed k) ∧
          t.flow.valid.get (keySlice key) = s.flow.valid.get (keySlice key) + 1 ∧ t.flow.eqNotices = s.flow.eqNotices ∧
          t.ctr (Reg.fleFsCnt (keySlice key) 4) = (s.ctr (Reg.fleFsCnt (keySlice key) 4) + 1) % 2 ^ 64)) ∧
    (∀ n, n < 16 → s.nextHead (some n) = none → exec (.logEntryApply n) s = .next s) ∧
    (∀ n l, s.flow.eqNotices = n :: l → s.ringTakes (fleRing 0) = true →
      ∃ t, exec (.noticePost false) s = .next t ∧ t.flow.eqNotices = l ∧ t.flow.eqSeq = (s.flow.eqSeq + 1) % 65536 ∧
        t.mem = s.mem.putBytes (s.ringBase (fleRing 0) + 128 * ((s.rd (Reg.fleEqProd 0)).toNat % s.ringSize (fleRing 0)))
          (leBytes (handleLo n.key) 4 ++ leBytes n.gen 2 ++ leBytes n.tenant 2 ++ leBytes n.keyLen 1 ++ leBytes n.cause 1 ++
            (leBytes s.flow.eqSeq 2 ++ leBytes s.tb.sec 4) ++ slice n.record 0x10 112) ∧
        t.rd (Reg.fleEqProd 0) = s.rd (Reg.fleEqProd 0) + 1 ∧
        (s.rd (Reg.fleEqProd 0) = s.rd (Reg.fleEqCons 0) → t.bit (Reg.fleEqEvents 0) 0 = true ∧ s.raised t 193) ∧
        (∀ a, a < 0x700000 → a ≠ Reg.fleEqProd 0 → a ≠ Reg.fleEqEvents 0 → t.rd a = s.rd a)) ∧
    (∀ n l, s.flow.eqNotices = n :: l → s.ringTakes (fleRing 0) = false →
      ∃ t, exec (.noticePost false) s = .next t ∧ t.flow.eqNotices = l ∧ t.flow.eqSeq = (s.flow.eqSeq + 1) % 65536 ∧ t.mem = s.mem ∧
        t.rd (Reg.fleEqLost 0) = s.rd (Reg.fleEqLost 0) + 1 ∧ t.bit (Reg.fleEqEvents 0) 1 = true ∧
        s.regsRaised t [Reg.fleEqLost 0, Reg.fleEqEvents 0] 193) ∧
    (∀ n l, s.flow.sweep = none → s.flow.sqNotices = n :: l → ∃ t, exec (.noticePost true) s = .next t ∧ t.flow.sqNotices = l ∧
      t.flow.sqSeq = (s.flow.sqSeq + 1) % 65536 ∧ t.tables = s.tables ∧
      (if s.ringTakes (fleRing 1) then t.rd (Reg.fleEqProd 1) = s.rd (Reg.fleEqProd 1) + 1 ∧ t.ctrs = s.ctrs
       else t.mem = s.mem ∧ t.rd (Reg.fleEqLost 1) = s.rd (Reg.fleEqLost 1) + 1 ∧ t.bit (Reg.fleEqEvents 1) 1 = true))

/-- R519–R521, R533, R558–R562: the sweeps and the IPFIX exporter. Rests on the model's choices of log entries 76, 77 and
119. -/
def Obligations.SweepsAndExport : Prop :=
  ∀ (s : State), s.coreUp = true →
    (∀ acc v m, s.reaches acc Reg.fleSweepCmd → 1 ≤ m → m ≤ 3 → Wbits v 2 0 = m → s.cmdBusy Reg.fleSweepResult = false →
      ∃ t, (if m = 1 then exec (.sweepCount acc v) s else if m = 2 then exec (.sweepReport acc v) s else exec (.sweepExpire acc v) s) = .next t ∧
        t.mem = s.mem ∧ t.flow.lines = s.flow.lines ∧ t.flow.logs = s.flow.logs ∧
        (m ≠ 1 → s.bit (Reg.fleEqBaseHi 1) 31 = false → t.rd Reg.fleSweepResult = resultWord (2 * 2 ^ 26) ∧ t.flow.sweep = none) ∧
        ((m = 1 ∨ s.bit (Reg.fleEqBaseHi 1) 31 = true) → Wbits v 31 16 ≠ 0 → t.rd Reg.fleSweepResult = Wput (s.rd Reg.fleSweepResult) 31 29 2 ∧
          t.flow.sweep = some { mode := m, mask := Wbits v 31 16 } ∧ s.regsBut t [Reg.fleSweepResult])) ∧
    (∀ w n key, s.flow.sweep = some w → n < 16 → bitAt w.mask n = true → w.abort = false → s.flow.sqNotices = [] → key = recKey n (w.pos.get n) →
      w.pos.get n + 1 < s.buckets * 8 → (recValid (s.committed key) = true → s.lineHeld key = false → s.cached key) →
      (w.mode = 3 → recDisplaced (s.committed key) = true → s.cached (s.homeKey (s.committed key))) →
      ∃ t u, exec (.sweepRecord n) s = .next t ∧ t.flow.sweep = some u ∧ u.mode = w.mode ∧ u.mask = w.mask ∧
        u.pos.get n = w.pos.get n + 1 ∧ (∀ k, k ≠ n → u.pos.get k = w.pos.get k) ∧ t.flow.logs = s.flow.logs ∧
        (recValid (s.committed key) = false → u.cnt = w.cnt ∧ t.flow.lines = s.flow.lines ∧ t.flow.sqNotices = []) ∧
        (recValid (s.committed key) = true → s.lineHeld key = true → u.cnt.get 3 = w.cnt.get 3 + 1 ∧ u.cnt.get 0 = w.cnt.get 0 ∧
          t.flow.lines = s.flow.lines ∧ t.flow.sqNotices = []) ∧
        (recValid (s.committed key) = true → s.lineHeld key = false → recDisplaced (s.committed key) = true →
          s.hopNames key (s.committed key) = false → t.committed key = recClear (s.committed key) ∧ u.cnt.get 4 = w.cnt.get 4 + 1 ∧
          t.flow.sqNotices = []) ∧
        (recValid (s.committed key) = true → s.lineHeld key = false → recDisplaced (s.committed key) = false →
          u.cnt.get 0 = w.cnt.get 0 + 1 ∧
          (s.sweepMatches (s.committed key) = false → u.cnt.get 1 = w.cnt.get 1 ∧ t.committed key = s.committed key ∧ t.flow.sqNotices = []) ∧
          (s.sweepMatches (s.committed key) = true → u.cnt.get 1 = w.cnt.get 1 + 1 ∧
            (w.mode = 1 → t.committed key = s.committed key ∧ t.flow.sqNotices = []) ∧
            (w.mode = 2 → s.bit Reg.fleExpCtrl 29 = false → t.committed key = s.committed key ∧
              t.flow.sqNotices = [noticeOf 2 key (s.committed key)]) ∧
            (w.mode = 3 → s.bit Reg.fleExpCtrl 29 = false → t.committed key = recClear (s.committed key) ∧ u.cnt.get 2 = w.cnt.get 2 + 1 ∧
              t.flow.sqNotices = [noticeOf 3 key (s.committed key)])))) ∧
    (∀ img, s.sweepMatches img = true ↔ recPinned img = false ∧ (s.bit Reg.fleSweepTenant 31 = true → recTenant img = s.fld Reg.fleSweepTenant 15 0) ∧
      s.pair Reg.fleSweepIdleLo Reg.fleSweepIdleHi ≤ (s.ns64 + 2 ^ 64 - recLast s.recSize img) % 2 ^ 64 ∧
      (s.ns64 + 2 ^ 64 - recLast s.recSize img) % 2 ^ 64 < 2 ^ 63) ∧
    (∀ acc v w, s.reaches acc Reg.fleSweepAbort → Wbits v 0 0 = 1 → s.flow.sweep = some w →
      ∃ t, exec (.sweepAbort acc v) s = .next t ∧ t.mem = s.mem ∧ t.flow.logs = s.flow.logs ∧ t.flow.lines = s.flow.lines ∧
        (s.flow.sqNotices ≠ [] → t = { s with flow := t.flow } ∧ t.flow.sweep = some { w with abort := true }) ∧
        (s.flow.sqNotices = [] → t.flow.sweep = none ∧ t.rd Reg.fleSweepResult = BitVec.ofNat 32 (2 ^ 31 + s.fld Reg.fleSweepResult 29 29 * 2 ^ 29 + 2 ^ 26) ∧
          s.raised t 192 ∧ ∀ i < 6, t.rd (Reg.fleSweepCnt i) = BitVec.ofNat 32 (satNat (w.cnt.get i) (2 ^ 32 - 1)))) ∧
    (∀ m k entry, s.flow.msg.getD s.newMsg = m → m.full = false → s.rd Reg.fleExpProd ≠ s.rd Reg.fleExpCons → k = (s.rd Reg.fleExpCons).toNat →
      entry = s.mem.getBytes (s.ringBase exportRing + 128 * (k % s.ringSize exportRing)) 128 →
      exec .exportFormat s = .next ({ s with flow.msg := some { m with records := m.records ++ [dataRecord s.recSize s.expKeyLen m.utc entry] } }.wr
        Reg.fleExpCons (s.rd Reg.fleExpCons + 1))) ∧
    (∀ r k utc entry, (dataRecord r k utc entry).length = k + 33) ∧
    (∀ ms m, s.flow.msg = some m → m.records ≠ [] → (m.full = true ∨ s.expHoldMs ≤ ms) →
      ∃ t, exec (.exportMessageSend ms) s = .next t ∧ t.flow.msg = none ∧ t.rd Reg.fleExpSeq = s.rd Reg.fleExpSeq + BitVec.ofNat 32 m.records.length ∧
        t.flow.lines = s.flow.lines ∧ t.mem = s.mem ∧ (∀ a, a < 0x480000 → a ≠ Reg.fleExpSeq → t.rd a = s.rd a) ∧
        (s.portExists m.port = false → t.ctr (Reg.qmSpill 9) = (s.ctr (Reg.qmSpill 9) + 1) % 2 ^ 64 ∧ t.qm = s.qm) ∧
        (s.portExists m.port = true → t.ctr (Reg.fleCnt 7) = (s.ctr (Reg.fleCnt 7) + m.records.length) % 2 ^ 64 ∧
          t.ctr (Reg.fleCnt 8) = (s.ctr (Reg.fleCnt 8) + 1) % 2 ^ 64)) ∧
    (∀ m, s.msgBytes m = beBytes 0x000A 2 ++ beBytes m.length 2 ++ beBytes (unsigned ((s.tb.sec : Int) - signed m.utc 32) 32) 4 ++
      beBytes (s.rd Reg.fleExpSeq).toNat 4 ++ beBytes (s.rd Reg.fleExpDomain).toNat 4 ++ beBytes m.template 2 ++ beBytes (m.length - 16) 2 ++ m.records.flatten)

/-! ## The switch core's egress side (R572, R592, R598, R627–R654) -/

/-- R592, R598, R628–R631, R634–R638, R642–R646: the scheduler's choice, copies on the wire, Sluices, PFC frames, the
sampler and the multicast groups. Rests on the model's choices of log entries 44, 45, 63, 128 and 133. -/
def Obligations.EgressAndGroups : Prop :=
  ∀ (s : State),
    (∀ p rest g q i, p < 134 → s.portServes p = true → (s.tx p).chosen = none → (s.tx p).sending = none ∨ rest ≤ 256 →
      (∀ j ∈ (s.tx p).cut, s.queuePaused p (s.copy j).queue = true) → s.groupChoice p = some g → s.queueChoice p g.id = some q →
      s.eligible p q.id = some i → ∃ t, exec (.schedulerChoose p rest) s = .next t ∧ (t.tx p).chosen = some i ∧ t.copy i = { s.copy i with st := .chosen } ∧
        ((s.copy i).voq = none → t.qm.queues.get (qKey p (s.copy i).queue) = (s.qm.queues.get (qKey p (s.copy i).queue)).filter fun n => n != i) ∧
        t.sch.ptr.get p = g.ptr ∧ t.sch.ptr.get (200 + p * 4 + g.id) = q.ptr ∧ (∀ j, j ≠ p → t.tx j = s.tx j) ∧ (∀ j, j ≠ i → t.copy j = s.copy j) ∧
        (∀ n, n ∉ s.sluicesOf (s.copy i).port (s.copy i).queue → t.sch.credit.get n = s.sch.credit.get n) ∧
        t.regs = s.regs ∧ t.ctrs = s.ctrs ∧ t.mem = s.mem) ∧
    (∀ p rest, p < 134 → s.groupChoice p = none ∨ ((s.tx p).sending ≠ none ∧ 256 < rest) ∨
        (∃ j ∈ (s.tx p).cut, s.queuePaused p (s.copy j).queue = false) → exec (.schedulerChoose p rest) s = .next s) ∧
    (∀ ms ptr d c, ms.Pairwise (fun (a b : Member') => a.id < b.id) → strictChoose ms ptr d = some c → c.deficit = d ∧ c.ptr = ptr ∧
      (∃ m ∈ ms, m.id = c.id ∧ m.charge ≠ none) ∧ ∀ m ∈ ms, m.charge ≠ none → m.id ≤ c.id) ∧
    (∀ key ms ptr d c, drrChoose key ms ptr d = some c → (∃ m ∈ ms, m.id = c.id ∧ m.charge ≠ none) ∧ 0 ≤ c.deficit.get (key c.id)) ∧
    (∀ p i, p < 134 → s.portServes p = true → (s.tx p).sending = none → (s.tx p).pfcDue = [] →
      (128 ≤ p → p < 132 → s.helloDue (p - 128) = false) →
      s.nextToStart p = some i → (p = 132 → s.rxRoom (s.copy i).queue = true) → (p = 133 → s.culvertRoom = true) →
      ∃ t, exec (.copyTransmitStart p) s = .next t ∧ (t.tx p).sending = some i ∧ t.copy i = { s.copy i with st := .sending } ∧
        (t.tx p).wire = (let f := (s.sendForm (s.copy i)).1; if p = 132 then f else withFcs (pad60 f)) ∧
        (t.tx p).chosen = (if (s.tx p).chosen = some i then none else (s.tx p).chosen) ∧ (t.tx p).cut = (s.tx p).cut.filter (fun n => n != i) ∧
        (∀ j, j ≠ p → t.tx j = s.tx j) ∧ (∀ j, j ≠ i → t.copy j = s.copy j) ∧ t.qm.pkts = s.qm.pkts ∧ t.mem = s.mem ∧
        ∀ a, a < 0x480000 → t.rd a = s.rd a) ∧
    (∀ p i k, p < 132 → s.coreUp = true → (s.tx p).sending = some i → (s.tx p).stomped = false → (s.copy i).cut = false → (s.copy i).st ≠ .gone →
      k = (s.copy i).pkt → ∃ t, exec (.copyTransmitEnd p) s = .next t ∧ (t.tx p).sending = none ∧ (t.tx p).ended = some .terminate ∧ t.copy i = {} ∧
        (1 < (s.pkt k).refs → t.pkt k = { s.pkt k with refs := (s.pkt k).refs - 1 }) ∧ ((s.pkt k).refs ≤ 1 → t.pkt k = {}) ∧
        t.ctr (portCtr p 8) = (s.ctr (portCtr p 8) + 1) % 2 ^ 64 ∧
        t.ctr (portCtr p 9) = (s.ctr (portCtr p 9) + (s.tx p).wire.length) % 2 ^ 64 ∧ (∀ j, j ≠ p → t.tx j = s.tx j) ∧
        (∀ j, j ≠ i → t.copy j = s.copy j) ∧ (∀ j, j ≠ k → t.pkt j = s.pkt j) ∧ t.mem = s.mem ∧ ∀ a, a < 0x480000 → t.rd a = s.rd a) ∧
    (∀ i, i < 2278 → s.coreUp = true → ∃ t, exec (.sluiceRefill i) s = .next t ∧ t.sch.heldRate.get i = none ∧ t.sch.heldBurst.get i = none ∧
      t.rd (Reg.schSluiceRate i) = (match s.sch.heldRate.get i with | some v => BitVec.ofNat 32 v | none => s.rd (Reg.schSluiceRate i)) ∧
      t.rd (Reg.schSluiceBurst i) = (match s.sch.heldBurst.get i with | some v => BitVec.ofNat 32 v | none => s.rd (Reg.schSluiceBurst i)) ∧
      t.sch.credit.get i = (if t.sluiceOn i = false then 0 else if s.sluiceOn i = false then burstLimit (t.rd (Reg.schSluiceBurst i))
        else min (burstLimit (t.rd (Reg.schSluiceBurst i))) (s.sch.credit.get i + t.fld (Reg.schSluiceRate i) 23 0)) ∧
      (∀ j, j ≠ i → t.sch.credit.get j = s.sch.credit.get j) ∧ s.regsBut t [Reg.schSluiceRate i, Reg.schSluiceBurst i] ∧
      t.mem = s.mem ∧ t.qm = s.qm ∧ t.sch.tx = s.sch.tx ∧ t.ctrs = s.ctrs) ∧
    (∀ acc i b v, i < 2278 → s.reaches acc (if b then Reg.schSluiceBurst i else Reg.schSluiceRate i) →
      exec (.sluiceWrite acc i b v) s = .next (if b then { s with sch.heldBurst := s.sch.heldBurst.set i (some (Wbits v 21 0)) }
        else { s with sch.heldRate := s.sch.heldRate.set i (some (Wbits v 31 31 * 2 ^ 31 + Wbits v 23 0)) })) ∧
    (∀ p xoff due, p < 132 → s.mayStart = true → s.portState p = 5 → (s.tx p).sending = none → (s.tx p).pfcDue = xoff :: due →
      ∃ t, exec (.pfcFrameSend p) s = .next t ∧
        t.tx p = { s.tx p with pfcDue := due, wire := withFcs (s.pfcFrame p xoff), ended := some .terminate } ∧
        t.ctr (Reg.schCnt p 2) = (s.ctr (Reg.schCnt p 2) + 1) % 2 ^ 64 ∧ t.ctr (portCtr p 8) = (s.ctr (portCtr p 8) + 1) % 2 ^ 64 ∧
        s.ctrsBut t [Reg.schCnt p 2, portCtr p 8, portCtr p 9] ∧ t.sch.credit = s.sch.credit ∧ (∀ j, j ≠ p → t.tx j = s.tx j) ∧
        t.regs = s.regs ∧ t.qm = s.qm ∧ t.mem = s.mem) ∧
    (∀ p n, p < 132 → s.coreUp = true → s.portState p = 5 → s.bit (Reg.schPfcCfg p) 31 = true → s.bit (Reg.schPfcStat p) 31 = true →
      max 1 (s.fld (Reg.schPfcStat p) 15 0 / 2) ≤ n → exec (.pfcRefresh p n) s = .next (s.setTx p { s.tx p with pfcDue := (s.tx p).pfcDue ++ [true] })) ∧
    (∀ us, s.coreUp = true → us = (tbEdge s).total / (1000 * 2 ^ 48) → us ≠ s.total / (1000 * 2 ^ 48) →
      (∀ l, s.sch.lastSample = some l → us < l ∨ l + max 1 (s.fld Reg.schSrPeriod 15 0) ≤ us) →
      exec .samplePeriod s = .next (tick s) ∧ (tick s).sch.lastSample = some us) ∧
    (∀ us, s.sampledQueues = [] → ∃ t, t = s.sampleAll us ∧ t = { s with regs := t.regs, sch.lastSample := some us } ∧ ∀ a, t.rd a = s.rd a) ∧
    (∀ us x, s.sampledQueues = [x] → s.ringTakes sampleRing = true → ∃ t, t = s.sampleAll us ∧
      t.mem = s.mem.putBytes (s.ringBase sampleRing + 32 * ((s.rd Reg.schSrProd).toNat % s.ringSize sampleRing)) (s.sampleRecord x.1 x.2) ∧
      t.rd Reg.schSrProd = s.rd Reg.schSrProd + 1 ∧ t.sch.sampleSeq = (s.sch.sampleSeq + 1) % 65536 ∧ s.regsBut t [Reg.schSrProd] ∧
      t.sch.qstat.get (qKey x.1 x.2) = { maxDepth := s.qdepth x.1 x.2 } ∧ t.qm = s.qm ∧ t.ctrs = s.ctrs) ∧
    (∀ us x, s.sampledQueues = [x] → s.ringTakes sampleRing = false → ∃ t, t = s.sampleAll us ∧ t.mem = s.mem ∧
      t.rd Reg.schSrLost = s.rd Reg.schSrLost + 1 ∧ t.bit Reg.schEvents 0 = true ∧ s.regsRaised t [Reg.schSrLost, Reg.schEvents] 260 ∧ t.qm = s.qm) ∧
    (∀ acc v g, s.reaches acc Reg.qmMcCmd → g = s.fld Reg.qmMcSel 11 0 →
      (Wbits v 1 0 = 1 → ∃ t, exec (.mcWrite acc v) s = .next t ∧ t = { s with qm.groups := t.qm.groups } ∧
        (∀ k, k ≠ g → t.qm.groups.get k = s.qm.groups.get k) ∧
        (∀ p < 134, bitAt (t.qm.groups.get g) p = s.bit (Reg.qmMcData (p / 32)) (p % 32)) ∧
        bitAt (t.qm.groups.get g) 134 = s.bit (Reg.qmMcData 4) 31) ∧
      (Wbits v 1 0 = 2 → ∃ t, exec (.mcRead acc v) s = .next t ∧ t = { s with regs := t.regs } ∧
        (∀ p < 134, t.bit (Reg.qmMcData (p / 32)) (p % 32) = bitAt (s.qm.groups.get g) p) ∧
        t.bit (Reg.qmMcData 4) 31 = bitAt (s.qm.groups.get g) 134 ∧
        s.regsBut t [Reg.qmMcData 0, Reg.qmMcData 1, Reg.qmMcData 2, Reg.qmMcData 3, Reg.qmMcData 4]))

/-! ## Buffer pools (R603–R626) -/

/-- R605, R609, R612–R615, R623: the commands of the buffer pool manager. Rests on the model's choice of log entry 46. -/
def Obligations.BufferPools : Prop :=
  ∀ (s : State) (acc : Nat) (v : Word), s.reaches acc Reg.bpmCmd → s.cmdBusy Reg.bpmResult = false →
    let o := Wbits v 13 8
    let h := (s.rd Reg.bpmArg0).toNat
    let frame := fun (t : State) => t.mem = s.mem ∧ t.qm = s.qm ∧ t.flow = s.flow ∧ t.dsp = s.dsp ∧
      ∀ a, a < 0x700000 → a ≠ Reg.bpmResult → a ≠ Reg.bpmResHandle → a ≠ Reg.bpmEvents → t.rd a = s.rd a
    (Wbits v 3 0 = 1 → h ≤ 16384 → (∀ k, (k, h) ∈ [(1, min h 256), (2, max 257 (min h 1024)), (3, max 1025 (min h 4096)), (4, max 4097 h)] →
      s.mayTake o k = true → ∃ t n, exec (.bpmCmdAlloc acc v) s = .next t ∧ frame t ∧ t.rd Reg.bpmResult = resultWord 0 ∧
        t.rd Reg.bpmResHandle = BitVec.ofNat 32 (k * 2 ^ 28 + n) ∧ t.buf k n = { owner := o, refs := 1 } ∧ t.held o k = s.held o k + 1 ∧
        ((s.pool k).freed.head? = some n ∨ (s.pool k).freed = [] ∧ n = (s.pool k).next) ∧
        (∀ x y, bufKey x y ≠ bufKey k n → t.buf x y = s.buf x y) ∧
        t.ctr (Reg.bpmOwnCnt o 0) = (s.ctr (Reg.bpmOwnCnt o 0) + 1) % 2 ^ 64)) ∧
    (Wbits v 3 0 = 1 → (16384 < h ∨ ∀ k, 1 ≤ k → k ≤ 4 → s.mayTake o k = false) → ∃ t, exec (.bpmCmdAlloc acc v) s = .next t ∧ frame t ∧
      t.rd Reg.bpmResult = resultWord (2 ^ 25) ∧ t.bpm = s.bpm ∧ t.bit Reg.bpmEvents 5 = true ∧ s.raised t 245 ∧
      t.ctr (Reg.bpmOwnCnt o 2) = (s.ctr (Reg.bpmOwnCnt o 2) + 1) % 2 ^ 64) ∧
    (∀ k i, s.handleBuf h = some (k, i) → (s.buf k i).owner = o →
      (Wbits v 3 0 = 2 → (s.buf k i).refs = 1 → ∃ t, exec (.bpmCmdFree acc v) s = .next t ∧ frame t ∧ t.rd Reg.bpmResult = resultWord 0 ∧
        t.buf k i = {} ∧ (t.pool k).freed = i :: (s.pool k).freed ∧ t.held o k = s.held o k - 1 ∧
        t.ctr (Reg.bpmOwnCnt o 1) = (s.ctr (Reg.bpmOwnCnt o 1) + 1) % 2 ^ 64) ∧
      (Wbits v 3 0 = 2 → 1 < (s.buf k i).refs → (s.buf k i).refs < 65535 → ∃ t, exec (.bpmCmdFree acc v) s = .next t ∧ frame t ∧
        t.rd Reg.bpmResult = resultWord 0 ∧ t.buf k i = { s.buf k i with refs := (s.buf k i).refs - 1 } ∧ t.bpm.pools = s.bpm.pools ∧
        t.bpm.held = s.bpm.held) ∧
      (Wbits v 3 0 = 3 → (s.buf k i).refs ≠ 0 → (s.rd Reg.bpmArg1).toNat % 64 ≠ o → ∃ t, exec (.bpmCmdHandover acc v) s = .next t ∧ frame t ∧
        t.rd Reg.bpmResult = resultWord 0 ∧ t.buf k i = { s.buf k i with owner := (s.rd Reg.bpmArg1).toNat % 64 } ∧
        t.held o k = s.held o k - 1 ∧ t.held ((s.rd Reg.bpmArg1).toNat % 64) k = s.held ((s.rd Reg.bpmArg1).toNat % 64) k + 1 ∧
        t.bpm.pools = s.bpm.pools)) ∧
    (∀ k i, s.handleBuf h = some (k, i) → Wbits v 3 0 = 4 → (s.buf k i).refs ≠ 0 → ∃ t, exec (.bpmCmdShare acc v) s = .next t ∧ frame t ∧
      t.rd Reg.bpmResult = resultWord 0 ∧ t.bpm.pools = s.bpm.pools ∧ t.bpm.held = s.bpm.held ∧
      ((s.buf k i).refs < 65535 → t.buf k i = { s.buf k i with refs := (s.buf k i).refs + 1 }) ∧
      ((s.buf k i).refs = 65535 → t.buf k i = s.buf k i ∧ t.ctr (Reg.bpmOwnCnt o 3) = (s.ctr (Reg.bpmOwnCnt o 3) + 1) % 2 ^ 64)) ∧
    (s.handleBuf h = none → (Wbits v 3 0 = 2 → ∃ t, exec (.bpmCmdFree acc v) s = .next t ∧ frame t ∧ t.rd Reg.bpmResult = resultWord (4 * 2 ^ 25) ∧ t.bpm = s.bpm)) ∧
    (∀ k, k = (s.rd Reg.bpmArg0).toNat % 8 → Wbits v 3 0 = 5 → 1 ≤ k → k ≤ 4 → (∀ w < 64, s.held w k = 0) →
      (let n := s.fld (Reg.bpmPoolCount k) 23 0
       let b := s.fld (Reg.bpmPoolBaseLo k) 31 12 * 2 ^ 12 + s.fld (Reg.bpmPoolBaseHi k) 7 0 * 2 ^ 32
       (n = 0 ∨ (0x2000000000 ≤ b ∧ b + n * poolSize k ≤ 0x4000000000 ∧ (b + n * poolSize k ≤ s.flow.base ∨ s.flow.base + s.regionSize ≤ b) ∧
          ∀ j, 1 ≤ j → j ≤ 4 → j ≠ k → (s.pool j).built = true → (s.pool j).count ≠ 0 →
            b + n * poolSize k ≤ (s.pool j).base ∨ (s.pool j).base + (s.pool j).count * poolSize j ≤ b)) →
        ∃ t, exec (.poolInit acc v) s = .next t ∧ frame t ∧ t.poolFree k = 0 ∧ (t.pool k).base = b ∧ (t.pool k).count = n ∧
          (∀ j, j ≠ k → t.pool j = s.pool j) ∧
          t.rd Reg.bpmResult = (if n = 0 then resultWord 0 else Wput (s.rd Reg.bpmResult) 31 29 2))) ∧
    (∀ k, k = (s.rd Reg.bpmArg0).toNat % 8 → Wbits v 3 0 = 5 → 1 ≤ k → k ≤ 4 → (∃ w < 64, s.held w k ≠ 0) → s.fld (Reg.bpmPoolCount k) 23 0 = 0 →
      ∃ t, exec (.poolInit acc v) s = .next t ∧ frame t ∧ t.rd Reg.bpmResult = resultWord (8 * 2 ^ 25) ∧ t.bpm = s.bpm) ∧
    (∀ (u : State) k, 1 ≤ k → k ≤ 4 → (u.pool k).building = true → (u.pool k).built = true → ∃ t, exec (.poolInitDone k) u = .next t ∧
      t.poolFree k = (u.pool k).count ∧ (t.pool k).freed = [] ∧ (t.pool k).next = 0 ∧ t.bit Reg.bpmResult 31 = true ∧ t.bit Reg.bpmResult 30 = false ∧
      (∀ j, j ≠ k → t.pool j = u.pool j) ∧ u.regsBut t [Reg.bpmResult, Reg.bpmResHandle] ∧ t.mem = u.mem ∧ t.bpm.bufs = u.bpm.bufs)

/-! ## Stacking (R697–R729) -/

/-- R698–R701, R703, R705–R707, R721: hellos sent and received, links leaving service, the member table, the master and
the offsets delivered to the servo. Rests on the model's choices of log entries 55, 59, 60, 61 and 105. -/
def Obligations.Stacking : Prop :=
  ∀ (s : State),
    (∀ k, k < 4 → s.mayStart = true → s.linkUp k = true →
      (s.tx (128 + k)).helloDue = true ∨ s.helloMs * (1000000 * 2 ^ 48) ≤ s.tb.run - (s.link k).helloAt →
      (s.tx (128 + k)).sending = none → (s.tx (128 + k)).pfcDue = [] →
      ∃ t, exec (.helloSend k) s = .next t ∧ (s.helloBytes k).length = 132 ∧
        t.tx (128 + k) = { s.tx (128 + k) with helloDue := false, wire := withFcs (s.helloBytes k), ended := some .terminate } ∧
        t.link k = { s.link k with seqTx := ((s.link k).seqTx + 1) % 256, helloAt := s.tb.run } ∧ (∀ j, j ≠ k → t.link j = s.link j) ∧
        (∀ p, p ≠ 128 + k → t.tx p = s.tx p) ∧ t.ctr (Reg.stkLinkCnt k 0) = (s.ctr (Reg.stkLinkCnt k 0) + 1) % 2 ^ 64 ∧
        s.ctrsBut t [Reg.stkLinkCnt k 0, portCtr (128 + k) 8, portCtr (128 + k) 9] ∧ t.regs = s.regs ∧ t.mem = s.mem ∧ t.qm = s.qm) ∧
    (∀ k, k < 4 → (s.tx (128 + k)).helloDue = false → s.tb.run - (s.link k).helloAt < s.helloMs * (1000000 * 2 ^ 48) →
      exec (.helloSend k) s = .next s) ∧
    (∀ k (f : RxFrame), k < 4 → f.lane < 8 → s.receives (128 + k) = true → (s.ports.get (128 + k)).upRun + f.ago * 2 ^ 32 ≤ s.tb.run →
      etherType f.bytes = 0x88B5 → validHello (s.rxVerdict (128 + k) f.bytes f.err) f.bytes = false →
      ∃ t, exec (.helloReceive k f) s = .next t ∧ t.stk = s.stk ∧ t.bit (Reg.stkLinkEvents k) 3 = true ∧
        s.regsRaised t [] (272 + 4 * k + 3) ∧ t.ctr (Reg.stkLinkCnt k 2) = (s.ctr (Reg.stkLinkCnt k 2) + 1) % 2 ^ 64 ∧ t.qm = s.qm ∧ t.mem = s.mem) ∧
    (∀ k (f : RxFrame) h, k < 4 → f.lane < 8 → s.receives (128 + k) = true → (s.ports.get (128 + k)).upRun + f.ago * 2 ^ 32 ≤ s.tb.run →
      etherType f.bytes = 0x88B5 → validHello (s.rxVerdict (128 + k) f.bytes f.err) f.bytes = true → h = readHello f.bytes →
      s.stk.isolated = false → s.helloConflict h = false → (s.link k).state = 1 →
      ∃ t, exec (.helloReceive k f) s = .next t ∧ (t.link k).peerSerial = h.serial ∧ (t.link k).peerMember = h.member ∧
        (t.link k).version = commonVersion s.verMin s.verMax h.verMin h.verMax ∧ (t.link k).lastRx = s.rxStamp (128 + k) f.ago f.lane ∧ (∀ j, j ≠ k → t.link j = s.link j) ∧
        t.ctr (Reg.stkLinkCnt k 1) = (s.ctr (Reg.stkLinkCnt k 1) + 1) % 2 ^ 64 ∧ t.mem = s.mem ∧
        (s.helloReason k h ≠ 0 → (t.link k).state = 2 ∧ (t.link k).reason = s.helloReason k h ∧ t.stk.members = s.stk.members ∧
          t.bit (Reg.stkLinkEvents k) 0 = true ∧ t.bit (Reg.stkLinkEvents k) 1 = true) ∧
        (s.helloReason k h = 0 → (s.link k).good < 2 → (t.link k).state = 1 ∧ (t.link k).good = (s.link k).good + 1 ∧ t.stk.members = s.stk.members) ∧
        (s.helloReason k h = 0 → 2 ≤ (s.link k).good → (∀ x, (s.stk.learnt.get x).link < 4) → (t.link k).state = 3 ∧ t.bit (Reg.stkLinkEvents k) 0 = true ∧
          ∀ m < 8, t.stk.members.get m = t.tableEntry m)) ∧
    (∀ k ms, k < 4 → s.coreUp = true → (s.link k).state = 3 → s.holdMs ≤ ms → (∀ x, (s.stk.learnt.get x).link < 4) →
      ∃ t, exec (.helloHoldExpire k ms) s = .next t ∧ (t.link k).state = 1 ∧ (t.link k).good = 0 ∧ (∀ j, j ≠ k → t.link j = s.link j) ∧
        (∀ m < 8, t.stk.learnt.get (k * 8 + m) = {} ∧ t.stk.members.get m = t.tableEntry m) ∧ t.bit (Reg.stkLinkEvents k) 0 = true ∧
        s.raised t (272 + 4 * k) ∧ (t.tx (128 + k)).sending = none ∧ (t.tx (128 + k)).chosen = none ∧ t.mem = s.mem) ∧
    (∀ m ms e, m < 8 → s.coreUp = true → s.stk.members.get m = e → e.valid = true → m ≠ s.stkMe → s.holdMs ≤ ms → e.link < 4 →
      (∀ x, (s.stk.learnt.get x).link < 4) → ∃ t, exec (.tableEntryExpire m ms) s = .next t ∧ t.stk.learnt.get (e.link * 8 + m) = {} ∧
        (∀ x < 8, t.stk.members.get x = t.tableEntry x) ∧ t.stk.master = electIn t.stk.members s.stkMe ∧ t.stk.links = s.stk.links ∧
        t.fld Reg.tbStatus 19 16 = t.memberCount % 16 ∧ t.qm = s.qm ∧ t.mem = s.mem) ∧
    (∀ ms, s.coreUp = true → (∃ k < 4, (s.link k).conflict = true) → s.holdMs ≤ ms → ∃ t, exec (.tableEntryExpire s.stkMe ms) s = .next t ∧
      t.stk.isolated = false ∧ (∀ k < 4, (t.link k).conflict = false) ∧ t.stk.members = s.stk.members ∧ t = { s with stk := t.stk }) ∧
    (∀ (t : SMap Member) me, me < 8 → presentIn t ≠ [] → electIn t me ∈ presentIn t ∧ ∀ m ∈ presentIn t,
      betterRank (t.get m).priority (t.get m).serial (t.get (electIn t me)).priority (t.get (electIn t me)).serial = false) ∧
    (∀ l, l = s.link (if s.bit (Reg.stkRoute s.stk.master) 31 then s.fld (Reg.stkRoute s.stk.master) 1 0 else (s.stk.members.get s.stk.master).link) →
      s.coreUp = true → s.stkMode ≠ 0 → s.stk.master ≠ s.stkMe → s.source = 4 → s.stk.lastSecond ≠ s.tb.sec + 1 →
      (l.state = 3 → l.version = 2 → l.peerTimeOk = true → l.exSec = s.tb.sec + 1 → ∃ t, exec .stackMeasurement s = .next t ∧
        t = State.servo { s with stk.lastSecond := s.tb.sec + 1, stk.missed := 0 } (-l.offset) ∧ t.stk.missed = 0 ∧ t.mem = s.mem) ∧
      (l.state ≠ 3 ∨ l.version ≠ 2 ∨ l.peerTimeOk = false ∨ l.exSec ≠ s.tb.sec + 1 → exec .stackMeasurement s = .next s) ∧
      (s.tb.ns < 1000000000 → s.tb.frac < 2 ^ 48 → (tbEdge s).tb.sec ≠ s.tb.sec → (tick s).stk.missed = s.stk.missed + 1 ∧ (s.stk.missed = 2 → (tick s).tb.lossDue = true)))

/-! ## Stacked DRAM and data protection (R732–R763, R767–R789) -/

/-- R732–R735, R738–R742, R745–R748, R750–R752, R763: requests accepted, their commands and data, refresh, temperature,
self-refresh and idle rows. Rests on the model's choices of log entries 66, 67, 68, 122 and 123. -/
def Obligations.DramRequests : Prop :=
  ∀ (s : State),
    (∀ r c e, r.wf = true → (dramMap r.addr).chan = c → s.stackUp (c / 32) = true → s.bit (Reg.dnStatus (c / 32)) 30 = false →
      s.windowHolds r = false → (s.chan c).room r = true → (s.chan c).waiting = [] →
      e = ({ id := s.dmc.nextId, req := r, accepted := s.nowNs, old := s.mem.getBytes r.addr (64 * r.atoms) } : DramEntry) →
      ∃ t, exec (.dramRequestAccept r) s = .next t ∧ t.dmc.nextId = s.dmc.nextId + 1 ∧
        (r.port = 0 → (t.chan c).banks.get (dramMap r.addr).bank = (s.chan c).banks.get (dramMap r.addr).bank ++ [e] ∧
          (t.chan c).shared = (s.chan c).shared) ∧
        (r.port ≠ 0 → (t.chan c).shared = (s.chan c).shared ++ [e] ∧ (t.chan c).banks = (s.chan c).banks) ∧
        (∀ d, d ≠ c → t.chan d = s.chan d) ∧ (∀ a, a < 0x700000 → t.rd a = s.rd a) ∧
        (r.write = false → t.mem = s.mem ∧ t.ctrs = s.ctrs) ∧
        (r.write = true → t.ctr (Reg.dmcPortCnt r.port 0) = (s.ctr (Reg.dmcPortCnt r.port 0) + 1) % 2 ^ 64 ∧
          (∀ i, i < 64 * r.atoms → t.mem.get (r.addr + i) = ((r.data.getD i none).getD (s.mem.get (r.addr + i)))) ∧
          ∀ a, (a < r.addr ∨ r.addr + 64 * r.atoms ≤ a) → t.mem.get a = s.mem.get a)) ∧
    (∀ r c, r.wf = true → (dramMap r.addr).chan = c → s.stackUp (c / 32) = true → s.bit (Reg.dnStatus (c / 32)) 30 = false →
      (s.windowHolds r = true ∨ (s.chan c).room r = false) → exec (.dramRequestAccept r) s = .next (s.setChan c
        { s.chan c with waiting := (s.chan c).waiting ++ [{ req := r, accepted := s.nowNs }] })) ∧
    (∀ e : DramEntry, s.urgency e = min 3 (4 * (s.nowNs - e.accepted) / max 1 (s.fld (Reg.dmcPortCfg e.req.port) 15 0)) ∧
      s.effClass e = (if s.urgency e = 3 then 4 else
        min 3 (s.fld (Reg.dmcPortCfg e.req.port) 31 30 + (s.nowNs - e.accepted) / max 1 (s.fld Reg.dmcAge 15 0)))) ∧
    (∀ r n, r.wf = true → (dramMap r.addr).chan / 32 = n → s.stackUp n = true → s.bit (Reg.dnStatus n) 30 = true → s.bit (Reg.dnStatus n) 29 = true →
      ∃ t, exec (.dramRequestAccept r) s = .next t ∧ t.bit (Reg.dnStatus n) 30 = false ∧ t.bit (Reg.dnStatus n) 29 = false ∧
        t.bit (Reg.dnEvents n) 2 = true ∧ s.raised t (210 + 4 * n)) ∧
    (∀ x ok e, s.sharedPick x ok = some e → e ∈ x.shared ∧ ok e = true ∧ ∀ o ∈ x.shared, ok o = true →
      s.effClass o < s.effClass e ∨ (s.effClass o = s.effClass e ∧ e.id ≤ o.id)) ∧
    (∀ f e : DramEntry, ∀ x, s.urgency f ≠ 3 → s.urgency e ≠ 3 → s.chooseSide x (some f) (some e) =
      (some (if x.wheel < max 1 (s.fld Reg.dmcCtrl 3 0) then f else e), true)) ∧
    (∀ c ready e (x : Channel), c < 128 → s.chan c = x → s.stackUp (c / 32) = true → s.flowPick x (x.canIssue false ready) = none →
      s.sharedPick x (x.canIssue false ready) = some e → e.req.port ≠ 0 → ∃ t, exec (.dramCommandIssue c false ready) s = .next t ∧
        (x.openRow.get (dramMap e.req.addr).bank = none → (t.chan c).openRow.get (dramMap e.req.addr).bank = some (dramMap e.req.addr).row ∧
          t.ctr (Reg.dnCnt (c / 32) 0) = (s.ctr (Reg.dnCnt (c / 32) 0) + 1) % 2 ^ 64) ∧
        (x.openRow.get (dramMap e.req.addr).bank ≠ none → (t.chan c).openRow.get (dramMap e.req.addr).bank = none ∧ t.ctrs = s.ctrs) ∧
        (∀ b, b ≠ (dramMap e.req.addr).bank → (t.chan c).openRow.get b = x.openRow.get b) ∧ (t.chan c).shared.length = x.shared.length ∧
        (t.chan c).reads = x.reads ∧ (∀ d, d ≠ c → t.chan d = s.chan d) ∧ t.mem = s.mem ∧ ∀ a, a < 0x700000 → t.rd a = s.rd a) ∧
    (∀ c ready e (x : Channel), c < 128 → s.chan c = x → s.stackUp (c / 32) = true → s.flowPick x (x.canIssue true ready) = none →
      s.sharedPick x (x.canIssue true ready) = some e → e.req.port ≠ 0 → e.req.write = false → e.issued + 1 = e.req.atoms → x.waiting = [] →
      ∃ t o, exec (.dramCommandIssue c true ready) s = .next t ∧ (t.chan c).reads = x.reads ++ [o] ∧ o.id = e.id ∧ o.req = e.req ∧ o.old = e.old ∧
        (t.chan c).shared = x.shared.filter (fun o => o.id != e.id) ∧ (t.chan c).banks = x.banks ∧ (∀ d, d ≠ c → t.chan d = s.chan d) ∧
        t.ctr (Reg.dnCnt (c / 32) 6) = (s.ctr (Reg.dnCnt (c / 32) 6) + 1) % 2 ^ 64 ∧ t.mem = s.mem ∧ ∀ a, a < 0x700000 → t.rd a = s.rd a) ∧
    (∀ c outs e l, c < 128 → s.coreUp = true → (s.chan c).reads = e :: l → e.req.write = false →
      ((∀ k < e.req.atoms, outs.getD k .clean = .clean) → e.req.port < 6 → ∃ t, exec (.dramReadComplete c outs) s = .next t ∧ (t.chan c).reads = l ∧
        t.dmc.delivered.get e.req.port = ((List.range e.req.atoms).flatMap fun k => slice e.old (64 * k) 64) ∧
        (∀ p, p ≠ e.req.port → t.dmc.delivered.get p = s.dmc.delivered.get p) ∧ t.mem = s.mem ∧
        t.ctr (Reg.dmcPortCnt e.req.port 0) = (s.ctr (Reg.dmcPortCnt e.req.port 0) + 1) % 2 ^ 64 ∧
        ∀ a, a < 0x700000 → a ≠ Reg.dmcLatMax e.req.port → t.rd a = s.rd a) ∧
      (∀ n d rest, e.req.atoms = 1 → e.req.port < 6 → inDram e.req.addr = true → outs = .corrected n d :: rest →
        ∃ t, exec (.dramReadComplete c outs) s = .next t ∧ t.dmc.delivered.get e.req.port = slice d 0 64 ∧ t.mem = s.mem ∧
          t.ctr (Reg.eccRegionCorr (s.regionOf e.req.addr)) = (s.ctr (Reg.eccRegionCorr (s.regionOf e.req.addr)) + 1) % 2 ^ 64 ∧
          t.ctr (Reg.dnCnt ((dramMap e.req.addr).chan / 32) 5) = (s.ctr (Reg.dnCnt ((dramMap e.req.addr).chan / 32) 5) + 1) % 2 ^ 64) ∧
      (∀ d rest, e.req.atoms = 1 → e.req.port < 6 → outs = .unseen d :: rest → ∃ t, exec (.dramReadComplete c outs) s = .next t ∧
        t.dmc.delivered.get e.req.port = (if s.regionStrong (s.regionOf e.req.addr) then slice e.old 0 64 else slice d 0 64) ∧
        t.mem = s.mem ∧ t.ctr (Reg.eccRegionCorr (s.regionOf e.req.addr)) = s.ctr (Reg.eccRegionCorr (s.regionOf e.req.addr)) ∧ t.boot = s.boot) ∧
      (∀ syn rest, 1 ≤ e.req.atoms → s.boot.stop = .none → outs = .uncorrectable syn :: rest → s.toRevalidation e.req = false →
        ∃ t, exec (.dramReadComplete c outs) s = .next t ∧ t.boot.stop = .fault ∧ t.boot.cause = 2 ∧ t.dmc.delivered = s.dmc.delivered)) ∧
    (∀ c busy, c < 128 → s.boot.core = .running → s.bit (Reg.dnStatus (c / 32)) 28 = true → s.bit (Reg.dnStatus (c / 32)) 30 = false →
      (s.coreUp = false ∨ (s.chan c).refreshRun * 16 + (if s.bit (Reg.dnStatus (c / 32)) 27 then 1950 else 3900) * 2 ^ 48 ≤ s.tb.run * 16) →
      (busy = false ∨ 8 ≤ (s.chan c).postponed → ∃ t, exec (.dramRefresh c busy) s = .next t ∧ t.chan c = { s.chan c with
          openRow := (s.chan c).openRow.set (s.chan c).refreshBank none, refreshBank := ((s.chan c).refreshBank + 1) % 16, postponed := 0, refreshRun := s.tb.run } ∧
        t.ctr (Reg.dnCnt (c / 32) 3) = (s.ctr (Reg.dnCnt (c / 32) 3) + 1) % 2 ^ 64 ∧ (∀ d, d ≠ c → t.chan d = s.chan d) ∧ t.regs = s.regs ∧ t.mem = s.mem) ∧
      (busy = true → (s.chan c).postponed < 8 → (∃ e ∈ (s.chan c).entries, (dramMap e.req.addr).bank = (s.chan c).refreshBank) →
        exec (.dramRefresh c busy) s = .next (s.setChan c { s.chan c with postponed := (s.chan c).postponed + 1, refreshRun := s.tb.run }))) ∧
    (∀ n x, n < 4 → s.coreUp = true → s.dmc.tempRun.get n + 10 ^ 6 * 2 ^ 48 ≤ s.tb.run → ∃ t, exec (.dramTempRead n x) s = .next t ∧ t.fld (Reg.dnStatus n) 7 0 = unsigned x 8 ∧
      (t.bit (Reg.dnStatus n) 27 = true ↔ 85 ≤ x ∨ (82 < x ∧ s.bit (Reg.dnStatus n) 27 = true)) ∧
      (signed (s.fld (Reg.dnAlarm n) 31 24) 8 ≤ x → n ∉ s.dmc.tempHigh → t.bit (Reg.dnEvents n) 3 = true ∧
        s.regsRaised t [Reg.dnStatus n, Reg.dnEvents n] (211 + 4 * n)) ∧
      (x < signed (s.fld (Reg.dnAlarm n) 31 24) 8 → s.regsBut t [Reg.dnStatus n]) ∧ t.dmc.chans = s.dmc.chans ∧
      t.dmc.tempRun.get n = s.tb.run ∧ t.mem = s.mem) ∧
    (∀ n us, n < 4 → s.stackUp n = true → s.bit (Reg.dnSrCtrl n) 31 = true → s.bit (Reg.dnStatus n) 30 = false → s.stackBusy n = false →
      max 1 (s.fld (Reg.dnSrCtrl n) 15 0) ≤ us → ∃ t, exec (.selfRefreshEntry n us) s = .next t ∧ t.bit (Reg.dnStatus n) 30 = true ∧
        t.bit (Reg.dnStatus n) 29 = true ∧ (∀ c, c / 32 = n → t.chan c = { s.chan c with openRow := {} }) ∧ (∀ c, c / 32 ≠ n → t.chan c = s.chan c) ∧
        t.ctr (Reg.dnCnt n 4) = (s.ctr (Reg.dnCnt n 4) + 1) % 2 ^ 64 ∧ t.bit (Reg.dnEvents n) 2 = true ∧
        s.regsRaised t [Reg.dnStatus n, Reg.dnEvents n] (210 + 4 * n) ∧ t.mem = s.mem) ∧
    (∀ c b ns, c < 128 → b < 16 → s.stackUp (c / 32) = true → 1000 ≤ ns → (s.chan c).openRow.get b ≠ none →
      exec (.rowIdleClose c b ns) s = .next (s.setChan c { s.chan c with openRow := (s.chan c).openRow.set b none }))

/-- R767, R768, R775, R778–R783, R787, R788: corrections in on-chip stores and the DRAM scrubber. Rests on the model's
choices of log entries 69, 121 and 124. -/
def Obligations.CorrectionAndScrubbing : Prop :=
  ∀ (s : State),
    (∀ store p u w nd, 1 ≤ store → store < 0x18 → p < 20 → u < 256 → w < 2 ^ 48 →
      ∃ t, exec (.arrayRewrite store p u w (.corrected nd)) s = .next t ∧ t.mem = s.mem ∧ t.tables = s.tables ∧ t.flume = s.flume ∧ (storeClass store = none → t = s) ∧
      (∀ k, storeClass store = some k → s.coreUp = true → t.ctr (Reg.eccArrayCorr k) = (s.ctr (Reg.eccArrayCorr k) + 1) % 2 ^ 64 ∧
        (s.fld (Reg.eccArrayAlarm k) 23 0 = 0 → t.regs = s.regs) ∧
        (alarmDue s.ecc.corrWindow (32 + k) 1 (s.fld (Reg.eccArrayAlarm k) 23 0) = true → t.bit Reg.eccEvents 1 = true ∧ t.bit Reg.eccAlarmInfo 31 = true ∧
          s.regsRaised t [Reg.eccAlarmInfo, Reg.eccEvents] 225))) ∧
    (∀ store p u w syn, 1 ≤ store → store < 0x18 → p < 20 → u < 256 → w < 2 ^ 48 → s.boot.core = .running → s.boot.stop = .none →
      ∃ t, exec (.arrayRewrite store p u w (.failed syn)) s = .next t ∧ t.boot.stop = .fault ∧
        t.boot.cause = (if store = 0x0A ∨ store = 0x0B ∨ store = 0x0D ∨ store = 0x14 ∨ store = 0x17 then 4 else 3)) ∧
    (∀ acc v m r, s.reaches acc Reg.eccScrubCmd → s.cmdBusy Reg.eccScrubResult = false → 1 ≤ m → m ≤ 3 → Wbits v 1 0 = m →
      (m = 3 → Wbits v 31 16 = 0xA5C3) → Wbits v 12 8 = r → s.bit Reg.bootReval 30 = false →
      ∃ t, (if m = 1 then exec (.scrubRepair acc v) s else if m = 2 then exec (.scrubSurvey acc v) s else exec (.scrubZero acc v) s) = .next t ∧
        t.mem = s.mem ∧
        (s.scrubRange r = none → t.rd Reg.eccScrubResult = resultWord (2 * 2 ^ 26 + r * 2 ^ 21) ∧ t.ecc.scrub = none) ∧
        (∀ a, s.scrubRange r = some (a, 0) → t.rd Reg.eccScrubResult = resultWord (r * 2 ^ 21) ∧ t.ecc.scrub = none) ∧
        (∀ a n, s.scrubRange r = some (a, n) → n ≠ 0 → t.ecc.scrub = some { mode := m, region := r, start := a, units := n, next := s.tb.run } ∧
          t.rd Reg.eccScrubResult = Wput (s.rd Reg.eccScrubResult) 31 29 2 ∧ t.fld Reg.eccScrubProgress 28 0 = 0 ∧
          s.regsBut t [Reg.eccScrubResult, Reg.eccScrubProgress] ∧ t.ctrs = s.ctrs)) ∧
    (∀ outs x, s.ecc.scrub = some x → s.coreUp = true → x.next < s.tb.run + 2 ^ 48 → x.region < 32 → (x.mode ≠ 3 → ∀ k < 4, outs.getD k .clean = .clean) →
      ∃ t, exec (.scrubUnit outs) s = .next t ∧
        (∀ a, t.mem.get a = if x.mode = 3 ∧ s.scrubAddr x x.done ≤ a ∧ a < s.scrubAddr x x.done + 256 then 0 else s.mem.get a) ∧
        t.fld Reg.eccScrubProgress 28 0 = (x.done + 1) % 2 ^ 29 ∧
        (x.abort = false → x.done + 1 ≠ x.units → t.ecc.scrub = some { x with
            done := x.done + 1, atoms := x.atoms + 4, next := max s.tb.run x.next + 1000 * 2 ^ 48 / max 1 (s.fld Reg.eccScrubRate 11 0) } ∧
          s.regsBut t [Reg.eccScrubProgress]) ∧
        (x.abort = true ∨ x.done + 1 = x.units → t.ecc.scrub = none ∧ t.rd Reg.eccScrubAtoms = BitVec.ofNat 32 (x.atoms + 4) ∧
          t.bit Reg.eccScrubResult 31 = true ∧ t.bit Reg.eccScrubResult 30 = false ∧ t.fld Reg.eccScrubResult 28 26 = b2n x.abort ∧
          t.bit Reg.eccEvents 2 = true ∧ s.raised t 226)) ∧
    (∀ outs x n d, s.ecc.scrub = some x → s.coreUp = true → x.next < s.tb.run + 2 ^ 48 → x.abort = false → x.done + 1 ≠ x.units → x.mode = 1 ∨ x.mode = 2 →
      outs = [.corrected n d] → inDram (s.scrubAddr x x.done) = true →
      ∃ t y, exec (.scrubUnit outs) s = .next t ∧ t.ecc.scrub = some y ∧ y.done = x.done + 1 ∧
        y.corr1 = x.corr1 + (if n = 2 ∧ s.regionStrong (s.regionOf (s.scrubAddr x x.done)) = true then 0 else 1) ∧
        y.corr2 = x.corr2 + (if n = 2 ∧ s.regionStrong (s.regionOf (s.scrubAddr x x.done)) = true then 1 else 0) ∧
        t.mem = (if x.mode = 1 then s.mem.putBytes (s.scrubAddr x x.done) (slice d 0 64) else s.mem) ∧
        t.ctr (Reg.eccRegionCorr (s.regionOf (s.scrubAddr x x.done))) = (s.ctr (Reg.eccRegionCorr (s.regionOf (s.scrubAddr x x.done))) + 1) % 2 ^ 64) ∧
    (∀ outs x syn, s.ecc.scrub = some x → s.boot.core = .running → s.boot.stop = .none → x.next < s.tb.run + 2 ^ 48 → x.mode = 1 ∨ x.mode = 2 →
      outs = [.uncorrectable syn] → ∃ t, exec (.scrubUnit outs) s = .next t ∧ t.boot.stop = .fault ∧ t.boot.cause = 2 ∧ t.mem = s.mem) ∧
    (∀ acc v, s.reaches acc Reg.eccScrubAbort → Wbits v 0 0 = 1 →
      exec (.scrubAbort acc v) s = .next { s with ecc.scrub := s.ecc.scrub.map fun x => { x with abort := true } })

/-! ## The DMA engine (R790–R818) -/

/-- R790–R794, R797–R805, R812: commands, descriptors, movers, beats, answers and write-back of the DMA channels. Rests on
the model's choices of log entries 46, 66 and 70. -/
def Obligations.DmaChannels : Prop :=
  ∀ (s : State) (c : Nat) (x : DmaChan), c < 32 → s.dch c = x →
    (∀ acc v, s.reaches acc (Reg.dmaChCmd c) → Wbits v 1 0 = 1 →
      (x.busy = true → exec (.dmaStart acc c v) s = .next (s.setBit (Reg.dmaChResult c) 29 true)) ∧
      (x.busy = false → x.phase ≠ .writeback → ∃ t, exec (.dmaStart acc c v) s = .next t ∧
        t.dch c = { state := 1, phase := .fetch, kind := if s.fld (Reg.dmaChCfg c) 29 28 = 3 then 0 else s.fld (Reg.dmaChCfg c) 29 28, flowOk := s.bit (Reg.dmaChCfg c) 27 } ∧
        t.rd (Reg.dmaChResult c) = Wput (s.rd (Reg.dmaChResult c)) 31 29 2 ∧ s.regsBut t [Reg.dmaChResult c] ∧ (∀ d, d ≠ c → t.dch d = s.dch d) ∧
        t.mem = s.mem ∧ t.ctrs = s.ctrs) ∧
      (x.busy = false → x.phase = .writeback → x.kind ≠ 1 → x.err ≠ none → ∃ t, exec (.dmaStart acc c v) s = .next t ∧
        t.dch c = { state := 1, phase := .fetch, kind := if s.fld (Reg.dmaChCfg c) 29 28 = 3 then 0 else s.fld (Reg.dmaChCfg c) 29 28, flowOk := s.bit (Reg.dmaChCfg c) 27 } ∧
        s.regsRaised t [Reg.dmaChResult c] (32 + c) ∧ (∀ d, d ≠ c → t.dch d = s.dch d) ∧
        t.mem = s.mem.putBytes x.desc.addr (leBytes x.backCtrl 4) ∧ t.ctr (Reg.dmaChCnt c 1) = (s.ctr (Reg.dmaChCnt c 1) + 1) % 2 ^ 64)) ∧
    (∀ acc v, s.reaches acc (Reg.dmaChCmd c) → Wbits v 1 0 = 2 → x.state = 1 →
      (x.phase ≠ .poll → x.kind ≠ 1 → exec (.dmaStop acc c v) s = .next (s.setDch c { x with state := 2 })) ∧
      (x.phase = .poll → ∃ t, exec (.dmaStop acc c v) s = .next t ∧ t.dch c = { x with state := 3, phase := .none } ∧
        t.bit (Reg.dmaChResult c) 31 = true ∧ t.bit (Reg.dmaChResult c) 30 = false ∧ t.fld (Reg.dmaChResult c) 28 26 = 1 ∧
        t.fld (Reg.dmaChResult c) 25 0 = min x.descs (2 ^ 26 - 1) ∧ s.regsBut t [Reg.dmaChResult c, Reg.dmaChCmpA c, Reg.dmaChCmpB c] ∧
        (∀ d, d ≠ c → t.dch d = s.dch d) ∧ t.mem = s.mem)) ∧
    (∀ a d, s.coreUp = true → a = s.chDesc c → s.dmaHeld a = false → x.busy = true → d = descOf a (s.mem.getBytes a 32) →
      let took := fun (t : State) => t.mem = s.mem ∧ (∀ e, e ≠ c → t.dch e = s.dch e) ∧
        (s.answerOf x false a = 0 → d.valid = true → d.bad x.kind = false → x.kind = 1 → x.state = 2 → (t.dch c).state = 3 ∧
          (t.dch c).phase = .none ∧ t.fld (Reg.dmaChResult c) 28 26 = 1) ∧
        (s.answerOf x false a = 0 → d.valid = true → d.bad x.kind = false → x.kind ≠ 1 ∨ x.state = 1 → t.regs = s.regs ∧ (t.dch c).desc = d ∧ (t.dch c).state = x.state ∧
          (t.dch c).staged = [] ∧ (t.dch c).count = (if x.kind = 0 then d.beats else 0) ∧
          (t.dch c).phase = (if x.kind = 0 ∧ d.beats = 0 then .writeback else .beats)) ∧
        (s.answerOf x false a = 0 → d.valid = true → d.bad x.kind = true → (t.dch c).state = 4 ∧ (t.dch c).err = some (4, d.addr) ∧
          (t.dch c).phase = .writeback ∧ t.fld (Reg.dmaChResult c) 28 26 = 2) ∧
        (s.answerOf x false a = 0 → d.valid = false → x.kind = 0 → (t.dch c).state = 0 ∧ t.fld (Reg.dmaChResult c) 28 26 = 3 ∧
          t.bit (Reg.dmaChResult c) 31 = true) ∧
        (s.answerOf x false a = 0 → d.valid = false → x.kind ≠ 0 → x.state = 1 → t.dch c = { x with phase := .poll } ∧ t.regs = s.regs) ∧
        (s.answerOf x false a ≠ 0 → (t.dch c).state = 4 ∧ (t.dch c).err = some (s.answerOf x false a, a) ∧ (t.dch c).inDesc = true ∧
          (t.dch c).phase = .none ∧ t.fld (Reg.dmaChResult c) 28 26 = 2 ∧ s.raised t (32 + c))
      (x.phase = .fetch → ∃ t, exec (.descriptorFetch c) s = .next t ∧ took t) ∧
      (∀ ns, x.phase = .poll → max 1 (s.fld Reg.dmaPoll 15 0) ≤ ns → ∃ t, exec (.descriptorPoll c ns) s = .next t ∧ took t) ∧
      (∀ acc v, s.reaches acc (Reg.dmaChCmd c) → Wbits v 1 0 = 3 → x.phase = .poll → x.state = 1 →
        ∃ t, exec (.dmaKick acc c v) s = .next t ∧ took t)) ∧
    (s.coreUp = true → ∃ t, exec .moverAssign s = .next t ∧ t = { s with dma := t.dma } ∧
      (∀ d, (t.dch d) = { s.dch d with quantum := (t.dch d).quantum }) ∧
      ((∀ m < 4, s.dma.movers.get m = 0) → s.waitingChans = [c] → t.moverOf c = some 0 ∧ (t.dch c).quantum = 0 ∧ t.dma.lastGain = c) ∧
      ((∀ m < 4, s.dma.movers.get m = 0) → s.waitingChans = [] → t.dma.lastGain = s.dma.lastGain ∧ ∀ m < 4, t.dma.movers.get m = 0)) ∧
    (∀ skip d e, s.nextWaiting skip = some d → d ∈ s.waitingChans ∧ d ∉ skip ∧
      (e ∈ s.waitingChans → e ∉ skip → s.chPrio e ≤ s.chPrio d)) ∧
    (∀ r n, s.coreUp = true → s.moverOf c ≠ none → x.ready = true → s.beatHeld x = false →
      (x.mayWrite = false → r = x.desc.beatRange x.readPos → (∀ b ∈ x.desc.srcBlocks x.readPos, s.answerOf x false b = 0) →
        exec (.beatIssue c) s = .next (s.setDch c { x with readPos := x.readPos + 1
                                                           staged := x.staged ++ [s.mem.getBytes (x.desc.src + (r.1 - x.desc.dst)) (r.2 - r.1)] })) ∧
      (∀ b l, x.mayWrite = false → x.desc.srcBlocks x.readPos = b :: l → s.answerOf x false b ≠ 0 → exec (.beatIssue c) s = .next (s.setDch c
        { x with readPos := x.readPos + 1, staged := x.staged ++ [[]],
                 unanswered := x.unanswered ++ [{ code := s.answerOf x false b, addr := b }] })) ∧
      (x.mayRead = false → r = x.desc.beatRange x.writePos → n = x.desc.beatAddr x.writePos → s.answerOf x (x.desc.mode != 2) n = 0 →
        ∃ t, exec (.beatIssue c) s = .next t ∧ (t.dch c).writePos = x.writePos + 1 ∧ (t.dch c).count = x.count - 1 ∧
          (t.dch c).unanswered = x.unanswered ++ [{ final := true, addr := n }] ∧ (t.dch c).staged = x.staged.drop 1 ∧
          (x.desc.mode ≠ 2 → t.mem = s.mem.putBytes r.1 (x.desc.beatBytes x.writePos (x.staged.headD [])) ∧ (t.dch c).flag = x.flag) ∧
          (x.desc.mode = 2 → t.mem = s.mem ∧ ((t.dch c).flag = true ↔ x.flag = true ∨ ∃ i, i < (x.staged.headD []).length ∧
            byteAt (x.staged.headD []) i ≠ byteAt (s.mem.getBytes r.1 (r.2 - r.1)) i)) ∧
          (∀ d, d ≠ c → t.dch d = s.dch d) ∧ t.regs = s.regs) ∧
      (x.mayRead = false → n = x.desc.beatAddr x.writePos → s.answerOf x (x.desc.mode != 2) n ≠ 0 → ∃ t, exec (.beatIssue c) s = .next t ∧
        t.mem = s.mem ∧ (t.dch c).unanswered = x.unanswered ++ [{ final := true, code := s.answerOf x (x.desc.mode != 2) n, addr := n }])) ∧
    (∀ a rest, s.coreUp = true → x.phase = .beats → x.unanswered = a :: rest →
      (a.code = 0 → rest ≠ [] ∨ x.err = none → ∃ t, exec (.beatAnswer c) s = .next t ∧
        t.dch c = { x with unanswered := rest, phase := if rest = [] ∧ x.count = 0 then .writeback else .beats } ∧
        (a.final = true → t.ctr (Reg.dmaChCnt c 0) = (s.ctr (Reg.dmaChCnt c 0) + 1) % 2 ^ 64) ∧ t.mem = s.mem ∧ ∀ r, r < 0x700000 → t.rd r = s.rd r) ∧
      (a.code ≠ 0 → x.err = none → rest = [] → ∃ t, exec (.beatAnswer c) s = .next t ∧ (t.dch c).state = 4 ∧ (t.dch c).err = some (a.code, a.addr) ∧
        (t.dch c).phase = .writeback ∧ t.fld (Reg.dmaChResult c) 28 26 = 2 ∧ t.mem = s.mem)) ∧
    (s.coreUp = true → x.phase = .writeback → x.kind ≠ 1 → ∃ t, exec (.descriptorWriteback c) s = .next t ∧
      t.mem = s.mem.putBytes x.desc.addr (leBytes x.backCtrl 4) ∧ t.ctr (Reg.dmaChCnt c 1) = (s.ctr (Reg.dmaChCnt c 1) + 1) % 2 ^ 64 ∧
      (∀ d, d ≠ c → t.dch d = s.dch d) ∧
      (x.err ≠ none → t.dch c = { x with phase := .none } ∧ s.regsRaised t [] (32 + c)) ∧
      (x.err = none → (t.dch c).descs = x.descs + 1 ∧ (x.desc.irq = true → s.raised t c) ∧
        (x.desc.last = true → (t.dch c).state = 0 ∧ (t.dch c).phase = .none ∧ t.bit (Reg.dmaChResult c) 31 = true ∧ t.fld (Reg.dmaChResult c) 28 26 = 0) ∧
        (x.desc.last = false → t.chDesc c = x.desc.next % 2 ^ 40 / 32 * 32 ∧ (x.state = 1 → (t.dch c).state = 1 ∧ (t.dch c).phase = .fetch) ∧
          (x.state = 2 → (t.dch c).state = 3 ∧ t.fld (Reg.dmaChResult c) 28 26 = 1)))) ∧
    (∀ i, s.coreUp = true → x.busy = true → x.phase = .beats → x.copy = some i → (s.copy i).st ≠ .gone → (s.tx 132).wire.length ≤ x.desc.len →
      (blocksOf x.desc.dst x.desc.len).any s.dmaHeld = false → (∀ a ∈ blocksOf x.desc.dst (s.tx 132).wire.length, s.answerOf x true a = 0) →
      ∃ t, exec (.rxCopy c) s = .next t ∧ t.mem = s.mem.putBytes x.desc.dst (s.tx 132).wire ∧ (t.dch c).desc.len = (s.tx 132).wire.length ∧
        (t.dch c).copy = none ∧ (t.dch c).flag = false ∧ (t.dch c).phase = .writeback ∧ t.copy i = {} ∧ (t.tx 132).sending = none) ∧
    (∀ f, s.coreUp = true → x.busy = true → x.kind = 2 → x.phase = .beats → s.p132Room = true →
      (blocksOf x.desc.src x.desc.len).any s.dmaHeld = false → (∀ a ∈ blocksOf x.desc.src x.desc.len, s.answerOf x false a = 0) →
      f = withFcs (s.mem.getBytes x.desc.src x.desc.len) → ∃ t, exec (.txFrame c) s = .next t ∧ (t.pkt s.qm.nextPkt).bytes = f ∧
        (t.pkt s.qm.nextPkt).port = 132 ∧ (t.pkt s.qm.nextPkt).live = true ∧ (t.pkt s.qm.nextPkt).verdict = some 0 ∧
        t.hdg.queue.get 20 = s.hdg.queue.get 20 ++ [s.qm.nextPkt] ∧ (t.dch c).phase = .writeback ∧ (∀ i, i ≠ s.qm.nextPkt → t.pkt i = s.pkt i) ∧
        t.mem = s.mem)

/-! ## The management port (R41, R840–R856, R870) -/

/-- R841, R844–R851, R853, R856: messages, sessions and requests of the management protocol, event notices and other
frames on the port. Rests on the model's choices of log entries 88, 90, 91, 93 and 135. -/
def Obligations.ManagementPort : Prop :=
  ∀ (s : State), s.coreUp = true →
    (∀ (u : State) i m g st body, u.bit Reg.mgtStatus 31 = true → (u.answer i m g st body).mgt.sent = u.mgt.sent ++ [{ m with bytes := ({ ver := (u.session i).version, ty := g.ty, key := g.key, flags := 1, status := st, session := (u.session i).number, seq := (u.session i).seqOut + 1, tag := g.tag } : Reply).message ((u.gmpKey g.key).getD 0) body }] ∧
      (u.answer i m g st body).session i = { u.session i with lastTag := some (g.tag, g.ty), lastStatus := st, lastBody := body, seqOut := (u.session i).seqOut + 1 } ∧
      (∀ j, j ≠ i → (u.answer i m g st body).session j = u.session j) ∧ (u.answer i m g st body).regs = u.regs ∧
      (u.answer i m g st body).mem = u.mem ∧ (u.answer i m g st body).flash = u.flash) ∧
    (∀ m i g u, s.bit Reg.mgtStatus 31 = true → s.freshRequest m = some (i, g) → u = s.accepted i g → g.ty = gmpType m → (u.session i).isOpen = true →
      (gmpType m = 0x10 → listOk g.body 4 = true → (∀ a ∈ addrsOf g.body 4, a % 4 = 0 ∧ (s.service = true → a < 0x30000)) →
        exec (.regRead m) s = .next ((readAll (addrsOf g.body 4) u).2.answer i m g 0 (readAll (addrsOf g.body 4) u).1)) ∧
      (gmpType m = 0x11 → listOk g.body 8 = true → s.service = false → (∀ a ∈ addrsOf g.body 8, a % 4 = 0) →
        ∀ w, w = (List.range (g.body.length / 8)).foldl (fun t i => t.busWrite 4 (beAt g.body (8 * i) 4) (BitVec.ofNat 32 (beAt g.body (8 * i + 4) 4))) u →
        exec (.regWrite m) s = .next (if (w.session i).isOpen then w.answer i m g 0 [] else w)) ∧
      (gmpType m = 0x12 → 2 ≤ (s.session i).version → g.body.length = 10 → 1 ≤ beAt g.body 8 2 → beAt g.body 8 2 ≤ 1024 → s.service = false →
        exec (.memRead m) s = .next (if rangeMapped (beAt g.body 0 8) (beAt g.body 8 2)
          then u.answer i m g 0 (s.mem.getBytes (beAt g.body 0 8) (beAt g.body 8 2)) else u.answer i m g 6 [])) ∧
      (gmpType m = 0x13 → 2 ≤ (s.session i).version → 9 ≤ g.body.length → g.body.length ≤ 1032 → s.service = false →
        exec (.memWrite m) s = .next (if rangeMapped (beAt g.body 0 8) (g.body.length - 8)
          then State.answer { u with mem := u.mem.putBytes (beAt g.body 0 8) (g.body.drop 8) } i m g 0 [] else u.answer i m g 6 [])) ∧
      (gmpType m = 0x20 → g.body.length = 5 → beAt g.body 0 1 < 2 → beAt g.body 1 4 ≤ 0x7800000 → (s.service = true ∨ beAt g.body 0 1 ≠ s.runningSlot) →
        s.writeElsewhere i = false → exec (.imageBegin m) s = .next
          (((u.setSession i { u.session i with image := some (beAt g.body 0 1, beAt g.body 1 4) }).eraseSlot (beAt g.body 0 1) (beAt g.body 1 4)).answer i m g 0 [])) ∧
      (∀ slot len, gmpType m = 0x21 → 5 ≤ g.body.length → g.body.length ≤ 1028 → (s.session i).image = some (slot, len) →
        exec (.imageData m) s = .next (if len < beAt g.body 0 4 + (g.body.length - 4) then u.answer i m g 1 []
          else State.answer { u with flash.bytes := putBytes u.flash.bytes (slot * 0x8000000 + beAt g.body 0 4) (g.body.drop 4) } i m g 0 [])) ∧
      (∀ slot len, gmpType m = 0x22 → g.body = [] → (s.session i).image = some (slot, len) →
        exec (.imageEnd m) s = .next (((u.setSession i { u.session i with image := none }).startValidation slot).answer i m g 0 [])) ∧
      (gmpType m = 0x30 → g.body.length = 1 → beNat g.body < 4 → s.boot.stop = .none →
        exec (.gmpRestart m) s = .next ((u.answer i m g 0 []).restart (beNat g.body))) ∧
      (gmpType m = 0x31 → (s.session i).version = 3 → g.body.length = 1 → beNat g.body < 2 → s.service = false →
        exec (.locate m) s = .next (State.answer { u with mgt.locate := beNat g.body == 1 } i m g 0 [])) ∧
      (gmpType m = 0x40 → (s.session i).version = 3 → g.body.length = 40 → s.service = false →
        exec (.subscribe m) s = .next ((u.setSession i { u.session i with mask := beNat g.body }).answer i m g 0 [])) ∧
      (gmpType m = 0x50 → (s.session i).version = 3 → g.body.length = 7 → beAt g.body 0 1 < 64 → 1 ≤ beAt g.body 5 2 → beAt g.body 5 2 ≤ 1024 →
        beAt g.body 1 4 + beAt g.body 5 2 ≤ 0x10000 → exec (.faultRead m) s = .next
          (u.answer i m g 0 (getBytes s.flash.bytes (0x7800000 + beAt g.body 0 1 * 0x10000 + beAt g.body 1 4) (beAt g.body 5 2)))) ∧
      (gmpType m = 0x02 → g.body = [] → exec (.bye m) s = .next ((u.answer i m g 0 []).setSession i {}))) ∧
    (∀ m g i v, s.bit Reg.mgtStatus 31 = true → gmpType m = 1 → parseGmp m = some g → s.authentic g = true → g.ty = 1 → g.session = 0 → (g.key, g.seq) ∉ s.mgt.hellos →
      g.body.length = 1 → (s.gmpVersions.find? fun v => decide (bitsOf (beNat g.body) 7 4 ≤ v) && decide (v ≤ bitsOf (beNat g.body) 3 0)) = some v →
      s.freeSession = some i → ∃ t, exec (.gmpHello m) s = .next t ∧ (t.session i).isOpen = true ∧ (t.session i).version = v ∧ (t.session i).key = g.key ∧
        (t.session i).address = m.address ∧ (t.session i).port = m.port ∧ (t.session i).seqOut = 1 ∧ (t.session i).number ≠ 0 ∧
        (∀ j, j < 4 → j ≠ i → (s.session j).isOpen = true → (t.session j).number ≠ (t.session i).number) ∧ (∀ j, j ≠ i → t.session j = s.session j) ∧
        t.mgt.sent.length = 1 ∧ (g.key, g.seq) ∈ t.mgt.hellos ∧ t.regs = s.regs ∧ t.mem = s.mem) ∧
    (∀ m g, s.bit Reg.mgtStatus 31 = true → gmpType m = 1 → parseGmp m = some g → s.authentic g = false → ∃ t, exec (.gmpHello m) s = .next t ∧ t.mgt.sent = [] ∧
      t.mgt.sessions = s.mgt.sessions ∧ t.ctr (Reg.mgtCnt 2) = (s.ctr (Reg.mgtCnt 2) + 1) % 2 ^ 64 ∧ t.bit Reg.mgtEvents 0 = true ∧
      t.bit Reg.mgtFailInfo 31 = true ∧ s.raised t 304 ∧ t.mem = s.mem) ∧
    (∀ m, s.bit Reg.mgtStatus 31 = true → gmpType m = 1 → parseGmp m = none → ∃ t, exec (.gmpHello m) s = .next t ∧
      t.mgt = { s.mgt with sent := [], flashNs := 50000000 } ∧ t.regs = s.regs ∧
      t.ctr (Reg.mgtCnt 4) = (s.ctr (Reg.mgtCnt 4) + 1) % 2 ^ 64 ∧ s.ctrsBut t [Reg.mgtCnt 4] ∧ t.mem = s.mem) ∧
    (∀ i ms, i < 4 → (s.session i).isOpen = true → min 3600 (max 1 (s.fld Reg.mgtCtrl 11 0)) * 1000 ≤ ms →
      exec (.sessionTimeout i ms) s = .next (s.setSession i {})) ∧
    (s.mgt.polled + s.noticeTime ≤ s.tb.run → ∃ t, exec .noticePoll s = .next t ∧ t.mgt.polled = s.tb.run ∧
      t.mgt.sent.length = (if s.bit Reg.mgtStatus 31 then (s.subscribers s.noticeBits).length else 0) ∧
      (∀ w < 10, t.rd (Reg.evcPending 4 w) = if w ∈ s.noticeWords then 0 else s.rd (Reg.evcPending 4 w)) ∧
      s.regsBut t (s.noticeWords.map (Reg.evcPending 4)) ∧
      (∀ i < 4, i ∉ s.subscribers s.noticeBits → t.session i = s.session i) ∧
      (∀ i ∈ s.subscribers s.noticeBits, (t.session i).notices = ((s.session i).notices + 1) % 65536 ∧ (t.session i).seqOut = (s.session i).seqOut + 1) ∧
      t.mem = s.mem) ∧
    (∀ f, s.bit Reg.mgtStatus 31 = true → ipFragment (beAt f 12 2) (f.drop 14) = true →
      exec (.mgtFrameReceive f) s = .next ({ s with mgt.flashNs := 50000000 }.mgtCount 4)) ∧
    (∀ f a, s.bit Reg.mgtStatus 31 = true → ipFragment (beAt f 12 2) (f.drop 14) = false → beAt f 12 2 = 0x0806 → s.own4 = some a → slice f 14 8 = [0, 1, 8, 0, 6, 4, 0, 1] →
      slice f 38 4 = a → ∃ t, exec (.mgtFrameReceive f) s = .next t ∧ t = { s with freeCtr := s.freeCtr + 2, mgt := t.mgt } ∧
        t.mgt = { s.mgt with flashNs := 50000000, frame := slice f 22 6 ++ s.mgtMac ++ beBytes 0x0806 2 ++ ([0, 1, 8, 0, 6, 4, 0, 2] ++ s.mgtMac ++ a ++ slice f 22 10) }) ∧
    (s.bit Reg.mgtStatus 31 = false → ∀ m f, exec (.gmpHello m) s = .next s ∧ exec (.regRead m) s = .next s ∧
      exec (.regWrite m) s = .next s ∧ exec (.mgtFrameReceive f) s = .next s) ∧
    (∀ partner, (.base1000T ∈ partner → exec (.mgtLinkChange partner true) s = .next (s.setBit Reg.mgtStatus 31 true)) ∧
      (.base1000T ∉ partner → exec (.mgtLinkChange partner true) s = .next (s.setBit Reg.mgtStatus 31 false)) ∧
      exec (.mgtLinkChange partner false) s = .next (s.setBit Reg.mgtStatus 31 false))

/-! ## The machine as a whole -/

/-- The model's form of a block (log entry 1): the command at the front of the queue runs on the state with the rest of
the queue; with none waiting the step is one clock edge, which completes and leaves the queue empty. Rests on the
model's choice of log entry 1. -/
def Obligations.StepRunsFront : Prop :=
  ∀ (s : State),
    (∀ c q, s.pending = c :: q → step s = exec c { s with pending := q }) ∧
    (s.pending = [] → ∃ t, step s = .next t ∧ t.pending = [] ∧ t.mgt.flashNs = s.mgt.flashNs - 1 ∧
      (s.sampledQueues = [] → t.mem = s.mem) ∧
      (s.coreUp = true → t.boot.wdNs = s.boot.wdNs + (if s.bit Reg.bootSyswd 31 then 1 else 0) ∧
        t.boot.runNs = s.boot.runNs + (if s.imageRuns then 1 else 0)) ∧
      (s.coreUp = false → s.aon.alive = true → s.boot.core ≠ .running →
        t = { s with mgt.flashNs := s.mgt.flashNs - 1, aon.timekeeper := (s.aon.timekeeper + nsUnit) % timeSpan }))

/-- R133, R175, R270, R285, R372, R566, R690, R726, R758, R761: the module right after power-on reset: the core held in
reset, every counter zero, memory with nothing listed, no command waiting, and registers at the values their tables
give. What the spec gives no reset value for stands as log entry 103 says; this statement names none of it. Rests on
the model's choices of log entries 6 and 7. -/
def Obligations.ResetState : Prop :=
  State.reset.sound ∧ State.reset.pending = [] ∧ State.reset.boot.core = .held ∧ State.reset.boot.lampTest = true ∧
  (∀ a, State.reset.ctr a = 0) ∧ State.reset.mem = {} ∧
  (∀ a, State.reset.rd a = match regAt a with
    | some (r, i, j, _) => BitVec.ofNat 32 (r.resetAt i j)
    | none => 0) ∧
  (∀ g < 20, State.reset.fld (Reg.hdgPortLimit g) 7 0 = 32) ∧ (∀ c < 8, State.reset.rd (Reg.dspBudget c) = 20000) ∧
  State.reset.fld Reg.fleExpFormat 7 0 = 10 ∧ State.reset.fld Reg.fleExpFormat 31 16 = 256 ∧ State.reset.fld Reg.tbServo 31 28 = 3 ∧
  State.reset.fld Reg.tbServo 15 0 = 10 ∧ State.reset.fld Reg.stkTiming 7 0 = 1 ∧ State.reset.fld Reg.stkTiming 15 8 = 3 ∧
  (∀ n < 4, State.reset.fld (Reg.dnAlarm n) 31 24 = 95 ∧ State.reset.fld (Reg.dnAlarm n) 23 0 = 0) ∧
  State.reset.fld Reg.dmcAge 15 0 = 500 ∧ State.reset.fld Reg.dmaPoll 15 0 = 1000 ∧
  State.reset.fld Reg.mgtCtrl 30 28 = 3 ∧ State.reset.fld Reg.mgtCtrl 23 16 = 10 ∧ State.reset.fld Reg.mgtCtrl 11 0 = 60 ∧
  State.reset.bit Reg.hdgStatus 31 = false ∧ State.reset.bit Reg.bpmResult 31 = false ∧ State.reset.bit Reg.bpmResult 30 = false

/-- Every command whose operands name units the module has completes in a next state from every state; the others end in
the fault illFormed. (The last is the model's choice, log entry 3.) Rests on the model's choices of log entries 2 and
3. -/
def Obligations.WellFormedCompletes : Prop :=
  ∀ (c : Instr) (s : State),
    (c.wf = true → ∃ t, exec c s = .next t) ∧ (c.wf = false → exec c s = .fault .illFormed)

/-- The invariant every step keeps, from every state that has it: each waiting command names units the module has, and the
byte memories and the tables keep their canonical form (keys strictly rising, no entry equal to what an unlisted one
reads as). -/
def Obligations.EveryStepSound : Prop :=
  ∀ (s t : State), s.sound → step s = .next t → t.sound

/-- R378: the stacks of every thread and of both levels of every control engine stay within their depths, 16 words of data
and 8 return addresses, the results a waiting thread has to come among them: every step keeps it, and it holds after
reset. -/
def Obligations.StackDepthsKept : Prop :=
  State.reset.stacksOk ∧ ∀ (s t : State), s.stacksOk → step s = .next t → t.stacksOk
end

