-- ==== Sys2Proof/Laws/Bits.lean ====
section
/-! SUPPORT. Laws of bit fields: a field read after a field written. -/
set_option Elab.async false
namespace Sys2Proof.Machine

/-- A number split at bit `lo` and at bit `lo + w`. -/
theorem split_field (n lo w : Nat) :
    n = n / 2 ^ (lo + w) * 2 ^ (lo + w) + (n / 2 ^ lo % 2 ^ w) * 2 ^ lo + n % 2 ^ lo := by
  have h1 := Nat.div_add_mod n (2 ^ lo)
  have h2 := Nat.div_add_mod (n / 2 ^ lo) (2 ^ w)
  rw [Nat.div_div_eq_div_mul, ← Nat.pow_add] at h2
  calc n = 2 ^ lo * (n / 2 ^ lo) + n % 2 ^ lo := h1.symm
    _ = 2 ^ lo * (2 ^ w * (n / 2 ^ (lo + w)) + n / 2 ^ lo % 2 ^ w) + n % 2 ^ lo := by rw [h2]
    _ = _ := by rw [Nat.pow_add]; ring

/-- A number with a field replaced, in the same parts. -/
theorem putBits_eq (n lo w v : Nat) (hw : 0 < w) :
    putBits n (lo + w - 1) lo v = n / 2 ^ (lo + w) * 2 ^ (lo + w) + (v % 2 ^ w) * 2 ^ lo + n % 2 ^ lo := by
  have e : lo + w - 1 + 1 - lo = w := by omega
  unfold putBits bitsOf
  rw [e]
  have h := split_field n lo w
  have h3 : n - n / 2 ^ lo % 2 ^ w * 2 ^ lo = n / 2 ^ (lo + w) * 2 ^ (lo + w) + n % 2 ^ lo := by omega
  rw [h3]; omega

/-- Parts of a number of the split form. -/
theorem parts_mod (a b c lo w : Nat) (hb : b < 2 ^ w) (hc : c < 2 ^ lo) :
    (a * 2 ^ (lo + w) + b * 2 ^ lo + c) % 2 ^ lo = c ∧ (a * 2 ^ (lo + w) + b * 2 ^ lo + c) / 2 ^ lo % 2 ^ w = b ∧
      (a * 2 ^ (lo + w) + b * 2 ^ lo + c) / 2 ^ (lo + w) = a := by
  have e : a * 2 ^ (lo + w) + b * 2 ^ lo + c = c + (a * 2 ^ w + b) * 2 ^ lo := by rw [Nat.pow_add]; ring
  have hd : (a * 2 ^ (lo + w) + b * 2 ^ lo + c) / 2 ^ lo = a * 2 ^ w + b := by
    rw [e, Nat.add_mul_div_right _ _ (Nat.two_pow_pos lo), Nat.div_eq_of_lt hc, Nat.zero_add]
  refine ⟨?_, ?_, ?_⟩
  · rw [e, Nat.add_mul_mod_self_right, Nat.mod_eq_of_lt hc]
  · rw [hd, Nat.add_comm, Nat.add_mul_mod_self_right, Nat.mod_eq_of_lt hb]
  · rw [Nat.pow_add, ← Nat.div_div_eq_div_mul, ← Nat.pow_add, hd, Nat.add_comm,
      Nat.add_mul_div_right _ _ (Nat.two_pow_pos w), Nat.div_eq_of_lt hb, Nat.zero_add]

theorem bitsOf_putBits_same (n hi lo v : Nat) (h : lo ≤ hi) : bitsOf (putBits n hi lo v) hi lo = v % 2 ^ (hi + 1 - lo) := by
  obtain ⟨w, hw, rfl⟩ : ∃ w, 0 < w ∧ hi = lo + w - 1 := ⟨hi + 1 - lo, by omega, by omega⟩
  rw [putBits_eq _ _ _ _ hw]
  unfold bitsOf
  rw [show lo + w - 1 + 1 - lo = w by omega]
  exact (parts_mod _ _ _ lo w (Nat.mod_lt _ (Nat.two_pow_pos w)) (Nat.mod_lt _ (Nat.two_pow_pos lo))).2.1

theorem bitsOf_putBits_above (n hi lo v h l : Nat) (hl : lo ≤ hi) (ho : hi < l) : bitsOf (putBits n hi lo v) h l = bitsOf n h l := by
  obtain ⟨w, hw, rfl⟩ : ∃ w, 0 < w ∧ hi = lo + w - 1 := ⟨hi + 1 - lo, by omega, by omega⟩
  rw [putBits_eq _ _ _ _ hw]
  unfold bitsOf
  have e : l = lo + w + (l - lo - w) := by omega
  rw [e, Nat.pow_add _ (lo + w), ← Nat.div_div_eq_div_mul, ← Nat.div_div_eq_div_mul,
    (parts_mod _ _ _ lo w (Nat.mod_lt _ (Nat.two_pow_pos w)) (Nat.mod_lt _ (Nat.two_pow_pos lo))).2.2]


theorem bitsOf_mod (n h l k : Nat) (hk : h < k) : bitsOf (n % 2 ^ k) h l = bitsOf n h l := by
  unfold bitsOf
  by_cases hl : l ≤ h
  · apply Nat.eq_of_testBit_eq
    intro i
    simp only [Nat.testBit_mod_two_pow, Nat.testBit_div_two_pow]
    by_cases hi : i < h + 1 - l
    · simp [hi, show l + i < k by omega, show i + l < k by omega]
    · simp [hi]
  · rw [show h + 1 - l = 0 by omega]; simp [Nat.mod_one]

theorem bitsOf_putBits_below (n hi lo v h l : Nat) (hl : lo ≤ hi) (ho : h < lo) : bitsOf (putBits n hi lo v) h l = bitsOf n h l := by
  obtain ⟨w, hw, rfl⟩ : ∃ w, 0 < w ∧ hi = lo + w - 1 := ⟨hi + 1 - lo, by omega, by omega⟩
  rw [putBits_eq _ _ _ _ hw, ← bitsOf_mod _ _ _ lo ho, 
    (parts_mod _ _ _ lo w (Nat.mod_lt _ (Nat.two_pow_pos w)) (Nat.mod_lt _ (Nat.two_pow_pos lo))).1, bitsOf_mod _ _ _ lo ho]

theorem putBits_lt (n hi lo v k : Nat) (hl : lo ≤ hi) (hk : hi < k) (hn : n < 2 ^ k) : putBits n hi lo v < 2 ^ k := by
  obtain ⟨w, hw, rfl⟩ : ∃ w, 0 < w ∧ hi = lo + w - 1 := ⟨hi + 1 - lo, by omega, by omega⟩
  rw [putBits_eq _ _ _ _ hw]
  obtain ⟨m, rfl⟩ : ∃ m, k = lo + w + m := ⟨k - lo - w, by omega⟩
  have h1 : n / 2 ^ (lo + w) < 2 ^ m := by
    rw [Nat.div_lt_iff_lt_mul (Nat.two_pow_pos _), ← Nat.pow_add, Nat.add_comm m]; exact hn
  have h2 : v % 2 ^ w < 2 ^ w := Nat.mod_lt _ (Nat.two_pow_pos w)
  have h3 : n % 2 ^ lo < 2 ^ lo := Nat.mod_lt _ (Nat.two_pow_pos lo)
  have h4 : v % 2 ^ w * 2 ^ lo + n % 2 ^ lo < 2 ^ (lo + w) := by
    rw [Nat.pow_add, Nat.mul_comm (2 ^ lo)]
    calc v % 2 ^ w * 2 ^ lo + n % 2 ^ lo < v % 2 ^ w * 2 ^ lo + 2 ^ lo := by omega
      _ = (v % 2 ^ w + 1) * 2 ^ lo := by ring
      _ ≤ 2 ^ w * 2 ^ lo := Nat.mul_le_mul_right _ h2
  calc n / 2 ^ (lo + w) * 2 ^ (lo + w) + v % 2 ^ w * 2 ^ lo + n % 2 ^ lo
      < n / 2 ^ (lo + w) * 2 ^ (lo + w) + 2 ^ (lo + w) := by omega
    _ = (n / 2 ^ (lo + w) + 1) * 2 ^ (lo + w) := by ring
    _ ≤ 2 ^ m * 2 ^ (lo + w) := Nat.mul_le_mul_right _ h1
    _ = 2 ^ (lo + w + m) := by rw [← Nat.pow_add, Nat.add_comm m]

/-! ### Register words -/

theorem Wput_toNat (w : Word) (hi lo v : Nat) (hl : lo ≤ hi) (hh : hi < 32) : (Wput w hi lo v).toNat = putBits w.toNat hi lo v := by
  simp only [Wput, BitVec.toNat_ofNat]
  exact Nat.mod_eq_of_lt (putBits_lt _ _ _ _ 32 hl hh w.isLt)

/-- The field written. -/
theorem Wbits_Wput_same (w : Word) (hi lo v : Nat) (hl : lo ≤ hi) (hh : hi < 32) :
    Wbits (Wput w hi lo v) hi lo = v % 2 ^ (hi + 1 - lo) := by
  rw [Wbits, Wput_toNat _ _ _ _ hl hh, bitsOf_putBits_same _ _ _ _ hl]

/-- A field above or below the one written. -/
theorem Wbits_Wput_other (w : Word) (hi lo v h l : Nat) (hl : lo ≤ hi) (hh : hi < 32) (ho : h < lo ∨ hi < l) :
    Wbits (Wput w hi lo v) h l = Wbits w h l := by
  rw [Wbits, Wput_toNat _ _ _ _ hl hh, Wbits]
  rcases ho with ho | ho
  · exact bitsOf_putBits_below _ _ _ _ _ _ hl ho
  · exact bitsOf_putBits_above _ _ _ _ _ _ hl ho

theorem Wbits_lt (w : Word) (hi lo : Nat) : Wbits w hi lo < 2 ^ (hi + 1 - lo) := Nat.mod_lt _ (Nat.two_pow_pos _)

/-! ### Bytes -/

@[simp] theorem leBytes_length (n k : Nat) : (leBytes n k).length = k := by
  induction k generalizing n with
  | zero => rfl
  | succ k ih => simp [leBytes, ih]

@[simp] theorem beBytes_length (n k : Nat) : (beBytes n k).length = k := by simp [beBytes]

@[simp] theorem slice_length (bs : List Byte) (i n : Nat) : (slice bs i n).length = n := by simp [slice]

/-- The number that the little-endian bytes of a number spell. -/
theorem leNat_leBytes (n k : Nat) : leNat (leBytes n k) = n % 256 ^ k := by
  induction k generalizing n with
  | zero => simp [leBytes, leNat, Nat.mod_one]
  | succ k ih =>
    have e : 256 ^ (k + 1) = 256 * 256 ^ k := by rw [Nat.pow_succ, Nat.mul_comm]
    simp only [leBytes, leNat, ih, BitVec.toNat_ofNat, e]
    exact (Nat.mod_mul (a := 256) (b := 256 ^ k) (x := n)).symm

end Sys2Proof.Machine
end

