-- ==== Sys2Proof/Laws/Map.lean ====
section
/-! SUPPORT. Laws of sparse maps: a read after a write, and the canonical form. -/
set_option Elab.async false
namespace Sys2Proof.Machine

variable {V : Type}

theorem smapFind_erase (l : List (Nat × V)) (k j : Nat) :
    smapFind (smapErase l k) j = if j = k then none else smapFind l j := by
  induction l with
  | nil => simp [smapErase, smapFind]
  | cons e r ih =>
    obtain ⟨a, v⟩ := e
    simp only [smapErase] at ih ⊢
    by_cases h : a = k
    · subst h
      simp only [bne_self_eq_false, Bool.false_eq_true, not_false_eq_true, List.filter_cons_of_neg, ih]
      by_cases hj : j = a
      · simp [hj]
      · simp [hj, smapFind, Ne.symm hj]
    · rw [List.filter_cons_of_pos (by simp [h])]
      simp only [smapFind, ih]
      by_cases hj : j = k
      · subst hj; simp [h]
      · simp [hj]

theorem smapFind_put (l : List (Nat × V)) (k j : Nat) (v : V) :
    smapFind (smapPut l k v) j = if j = k then some v else smapFind l j := by
  induction l with
  | nil => simp [smapPut, smapFind, eq_comm]
  | cons e r ih =>
    obtain ⟨a, w⟩ := e
    simp only [smapPut]
    split
    · simp only [smapFind]
      by_cases hj : j = k
      · simp [hj]
      · simp [hj, Ne.symm hj]
    · split
      · subst k
        simp only [smapFind]
        by_cases hj : j = a
        · simp [hj]
        · simp [hj, Ne.symm hj]
      · rename_i h1 h2
        simp only [smapFind, ih]
        by_cases hj : j = k
        · subst hj; simp [Ne.symm h2]
        · simp [hj]

namespace SMap

variable [DecidableEq V]

/-- A read after a write. -/
@[simp] theorem getD_setD (m : SMap V) (d d' : V) (k j : Nat) (v : V) :
    (m.setD d k v).getD d' j = if j = k then (if v = d then d' else v) else m.getD d' j := by
  simp only [getD, setD]
  split
  · simp only [smapFind_erase]; split <;> simp
  · simp only [smapFind_put]; split <;> simp

variable [Inhabited V]

@[simp] theorem get_set (m : SMap V) (k j : Nat) (v : V) : (m.set k v).get j = if j = k then v else m.get j := by
  simp only [get, set, getD_setD]
  by_cases h : v = default <;> simp [h]

@[simp] theorem get_empty (j : Nat) : (({} : SMap V)).get j = default := rfl

@[simp] theorem get_mod (m : SMap V) (k j : Nat) (f : V → V) : (m.mod k f).get j = if j = k then f (m.get k) else m.get j := by
  simp [mod]

/-! ### The canonical form -/

theorem rising_cons (e : Nat × V) (r : List (Nat × V)) :
    rising (e :: r) = true ↔ (∀ f ∈ r, e.1 < f.1) ∧ rising r = true := by
  simp [rising]

theorem rising_filter (l : List (Nat × V)) (p : Nat × V → Bool) (h : rising l = true) : rising (l.filter p) = true := by
  induction l with
  | nil => simp [rising]
  | cons e r ih =>
    rw [rising_cons] at h
    rw [List.filter_cons]
    split
    · rw [rising_cons]
      exact ⟨fun f hf => h.1 f (List.mem_of_mem_filter hf), ih h.2⟩
    · exact ih h.2

theorem mem_put {l : List (Nat × V)} {k : Nat} {v : V} {e : Nat × V} (h : e ∈ smapPut l k v) : e = (k, v) ∨ e ∈ l := by
  induction l with
  | nil => simp [smapPut] at h; exact .inl h
  | cons x r ih =>
    obtain ⟨a, w⟩ := x
    simp only [smapPut] at h
    split at h
    · rcases List.mem_cons.mp h with h | h
      · exact .inl h
      · exact .inr h
    · split at h
      · rcases List.mem_cons.mp h with h | h
        · exact .inl h
        · exact .inr (List.mem_cons_of_mem _ h)
      · rcases List.mem_cons.mp h with h | h
        · exact .inr (h ▸ List.mem_cons_self)
        · rcases ih h with h | h
          · exact .inl h
          · exact .inr (List.mem_cons_of_mem _ h)

theorem rising_put (l : List (Nat × V)) (k : Nat) (v : V) (h : rising l = true) : rising (smapPut l k v) = true := by
  induction l with
  | nil => simp [smapPut, rising]
  | cons x r ih =>
    obtain ⟨a, w⟩ := x
    have h' := h
    rw [rising_cons] at h
    simp only [smapPut]
    split
    · rename_i hk
      rw [rising_cons]
      refine ⟨?_, h'⟩
      intro f hf
      rcases List.mem_cons.mp hf with hf | hf
      · subst hf; exact hk
      · exact lt_trans hk (h.1 f hf)
    · split
      · rename_i hk
        rw [rising_cons]
        exact ⟨fun f hf => hk ▸ h.1 f hf, h.2⟩
      · rename_i h1 h2
        rw [rising_cons]
        refine ⟨?_, ih h.2⟩
        intro f hf
        rcases mem_put hf with hf | hf
        · subst hf; simp only; omega
        · exact h.1 f hf

@[simp] theorem wf_empty : (({} : SMap V)).wf = true := rfl

/-- A write keeps the canonical form. -/
theorem wf_set {m : SMap V} (h : m.wf = true) (k : Nat) (v : V) : (m.set k v).wf = true := by
  simp only [wf, Bool.and_eq_true, List.all_eq_true, decide_eq_true_eq] at h ⊢
  simp only [set, setD]
  split
  · refine ⟨rising_filter _ _ h.1, fun e he => h.2 e (List.mem_of_mem_filter he)⟩
  · rename_i hv
    refine ⟨rising_put _ _ _ h.1, fun e he => ?_⟩
    rcases mem_put he with he | he
    · subst he; exact hv
    · exact h.2 e he

/-- A selection of entries keeps the canonical form. -/
theorem wf_filter {m : SMap V} (h : m.wf = true) (p : Nat × V → Bool) : (⟨m.entries.filter p⟩ : SMap V).wf = true := by
  simp only [wf, Bool.and_eq_true, List.all_eq_true, decide_eq_true_eq] at h ⊢
  exact ⟨rising_filter _ _ h.1, fun e he => h.2 e (List.mem_of_mem_filter he)⟩

end SMap
end Sys2Proof.Machine
end

