-- ==== Sys2Proof/Laws/State.lean ====
section
/-! SUPPORT. What the named updates of the state leave alone, field by field, and the register file's laws. -/
set_option Elab.async false
namespace Sys2Proof.Machine

variable (s : State)

@[simp] theorem State.wr_pending (a : Nat) (v : Word) : (s.wr a v).pending = s.pending := rfl
@[simp] theorem State.wr_freeCtr (a : Nat) (v : Word) : (s.wr a v).freeCtr = s.freeCtr := rfl
@[simp] theorem State.wr_ctrs (a : Nat) (v : Word) : (s.wr a v).ctrs = s.ctrs := rfl
@[simp] theorem State.wr_shadows (a : Nat) (v : Word) : (s.wr a v).shadows = s.shadows := rfl
@[simp] theorem State.wr_rdData (a : Nat) (v : Word) : (s.wr a v).rdData = s.rdData := rfl
@[simp] theorem State.wr_mem (a : Nat) (v : Word) : (s.wr a v).mem = s.mem := rfl
@[simp] theorem State.wr_measDomain (a : Nat) (v : Word) : (s.wr a v).measDomain = s.measDomain := rfl
@[simp] theorem State.wr_supply (a : Nat) (v : Word) : (s.wr a v).supply = s.supply := rfl
@[simp] theorem State.wr_fuses (a : Nat) (v : Word) : (s.wr a v).fuses = s.fuses := rfl
@[simp] theorem State.wr_flash (a : Nat) (v : Word) : (s.wr a v).flash = s.flash := rfl
@[simp] theorem State.wr_aon (a : Nat) (v : Word) : (s.wr a v).aon = s.aon := rfl
@[simp] theorem State.wr_boot (a : Nat) (v : Word) : (s.wr a v).boot = s.boot := rfl
@[simp] theorem State.wr_ports (a : Nat) (v : Word) : (s.wr a v).ports = s.ports := rfl
@[simp] theorem State.wr_portWindow (a : Nat) (v : Word) : (s.wr a v).portWindow = s.portWindow := rfl
@[simp] theorem State.wr_hdg (a : Nat) (v : Word) : (s.wr a v).hdg = s.hdg := rfl
@[simp] theorem State.wr_tables (a : Nat) (v : Word) : (s.wr a v).tables = s.tables := rfl
@[simp] theorem State.wr_dsp (a : Nat) (v : Word) : (s.wr a v).dsp = s.dsp := rfl
@[simp] theorem State.wr_flume (a : Nat) (v : Word) : (s.wr a v).flume = s.flume := rfl
@[simp] theorem State.wr_flow (a : Nat) (v : Word) : (s.wr a v).flow = s.flow := rfl
@[simp] theorem State.wr_qm (a : Nat) (v : Word) : (s.wr a v).qm = s.qm := rfl
@[simp] theorem State.wr_bpm (a : Nat) (v : Word) : (s.wr a v).bpm = s.bpm := rfl
@[simp] theorem State.wr_sch (a : Nat) (v : Word) : (s.wr a v).sch = s.sch := rfl
@[simp] theorem State.wr_tb (a : Nat) (v : Word) : (s.wr a v).tb = s.tb := rfl
@[simp] theorem State.wr_stk (a : Nat) (v : Word) : (s.wr a v).stk = s.stk := rfl
@[simp] theorem State.wr_dmc (a : Nat) (v : Word) : (s.wr a v).dmc = s.dmc := rfl
@[simp] theorem State.wr_ecc (a : Nat) (v : Word) : (s.wr a v).ecc = s.ecc := rfl
@[simp] theorem State.wr_dma (a : Nat) (v : Word) : (s.wr a v).dma = s.dma := rfl
@[simp] theorem State.wr_pmc (a : Nat) (v : Word) : (s.wr a v).pmc = s.pmc := rfl
@[simp] theorem State.wr_mgt (a : Nat) (v : Word) : (s.wr a v).mgt = s.mgt := rfl
@[simp] theorem State.wr_test (a : Nat) (v : Word) : (s.wr a v).test = s.test := rfl

@[simp] theorem State.setFld_pending (a hi lo v : Nat) : (s.setFld a hi lo v).pending = s.pending := rfl
@[simp] theorem State.setFld_freeCtr (a hi lo v : Nat) : (s.setFld a hi lo v).freeCtr = s.freeCtr := rfl
@[simp] theorem State.setFld_ctrs (a hi lo v : Nat) : (s.setFld a hi lo v).ctrs = s.ctrs := rfl
@[simp] theorem State.setFld_shadows (a hi lo v : Nat) : (s.setFld a hi lo v).shadows = s.shadows := rfl
@[simp] theorem State.setFld_rdData (a hi lo v : Nat) : (s.setFld a hi lo v).rdData = s.rdData := rfl
@[simp] theorem State.setFld_mem (a hi lo v : Nat) : (s.setFld a hi lo v).mem = s.mem := rfl
@[simp] theorem State.setFld_measDomain (a hi lo v : Nat) : (s.setFld a hi lo v).measDomain = s.measDomain := rfl
@[simp] theorem State.setFld_supply (a hi lo v : Nat) : (s.setFld a hi lo v).supply = s.supply := rfl
@[simp] theorem State.setFld_fuses (a hi lo v : Nat) : (s.setFld a hi lo v).fuses = s.fuses := rfl
@[simp] theorem State.setFld_flash (a hi lo v : Nat) : (s.setFld a hi lo v).flash = s.flash := rfl
@[simp] theorem State.setFld_aon (a hi lo v : Nat) : (s.setFld a hi lo v).aon = s.aon := rfl
@[simp] theorem State.setFld_boot (a hi lo v : Nat) : (s.setFld a hi lo v).boot = s.boot := rfl
@[simp] theorem State.setFld_ports (a hi lo v : Nat) : (s.setFld a hi lo v).ports = s.ports := rfl
@[simp] theorem State.setFld_portWindow (a hi lo v : Nat) : (s.setFld a hi lo v).portWindow = s.portWindow := rfl
@[simp] theorem State.setFld_hdg (a hi lo v : Nat) : (s.setFld a hi lo v).hdg = s.hdg := rfl
@[simp] theorem State.setFld_tables (a hi lo v : Nat) : (s.setFld a hi lo v).tables = s.tables := rfl
@[simp] theorem State.setFld_dsp (a hi lo v : Nat) : (s.setFld a hi lo v).dsp = s.dsp := rfl
@[simp] theorem State.setFld_flume (a hi lo v : Nat) : (s.setFld a hi lo v).flume = s.flume := rfl
@[simp] theorem State.setFld_flow (a hi lo v : Nat) : (s.setFld a hi lo v).flow = s.flow := rfl
@[simp] theorem State.setFld_qm (a hi lo v : Nat) : (s.setFld a hi lo v).qm = s.qm := rfl
@[simp] theorem State.setFld_bpm (a hi lo v : Nat) : (s.setFld a hi lo v).bpm = s.bpm := rfl
@[simp] theorem State.setFld_sch (a hi lo v : Nat) : (s.setFld a hi lo v).sch = s.sch := rfl
@[simp] theorem State.setFld_tb (a hi lo v : Nat) : (s.setFld a hi lo v).tb = s.tb := rfl
@[simp] theorem State.setFld_stk (a hi lo v : Nat) : (s.setFld a hi lo v).stk = s.stk := rfl
@[simp] theorem State.setFld_dmc (a hi lo v : Nat) : (s.setFld a hi lo v).dmc = s.dmc := rfl
@[simp] theorem State.setFld_ecc (a hi lo v : Nat) : (s.setFld a hi lo v).ecc = s.ecc := rfl
@[simp] theorem State.setFld_dma (a hi lo v : Nat) : (s.setFld a hi lo v).dma = s.dma := rfl
@[simp] theorem State.setFld_pmc (a hi lo v : Nat) : (s.setFld a hi lo v).pmc = s.pmc := rfl
@[simp] theorem State.setFld_mgt (a hi lo v : Nat) : (s.setFld a hi lo v).mgt = s.mgt := rfl
@[simp] theorem State.setFld_test (a hi lo v : Nat) : (s.setFld a hi lo v).test = s.test := rfl

@[simp] theorem State.setBit_pending (a i : Nat) (b : Bool) : (s.setBit a i b).pending = s.pending := rfl
@[simp] theorem State.setBit_freeCtr (a i : Nat) (b : Bool) : (s.setBit a i b).freeCtr = s.freeCtr := rfl
@[simp] theorem State.setBit_ctrs (a i : Nat) (b : Bool) : (s.setBit a i b).ctrs = s.ctrs := rfl
@[simp] theorem State.setBit_shadows (a i : Nat) (b : Bool) : (s.setBit a i b).shadows = s.shadows := rfl
@[simp] theorem State.setBit_rdData (a i : Nat) (b : Bool) : (s.setBit a i b).rdData = s.rdData := rfl
@[simp] theorem State.setBit_mem (a i : Nat) (b : Bool) : (s.setBit a i b).mem = s.mem := rfl
@[simp] theorem State.setBit_measDomain (a i : Nat) (b : Bool) : (s.setBit a i b).measDomain = s.measDomain := rfl
@[simp] theorem State.setBit_supply (a i : Nat) (b : Bool) : (s.setBit a i b).supply = s.supply := rfl
@[simp] theorem State.setBit_fuses (a i : Nat) (b : Bool) : (s.setBit a i b).fuses = s.fuses := rfl
@[simp] theorem State.setBit_flash (a i : Nat) (b : Bool) : (s.setBit a i b).flash = s.flash := rfl
@[simp] theorem State.setBit_aon (a i : Nat) (b : Bool) : (s.setBit a i b).aon = s.aon := rfl
@[simp] theorem State.setBit_boot (a i : Nat) (b : Bool) : (s.setBit a i b).boot = s.boot := rfl
@[simp] theorem State.setBit_ports (a i : Nat) (b : Bool) : (s.setBit a i b).ports = s.ports := rfl
@[simp] theorem State.setBit_portWindow (a i : Nat) (b : Bool) : (s.setBit a i b).portWindow = s.portWindow := rfl
@[simp] theorem State.setBit_hdg (a i : Nat) (b : Bool) : (s.setBit a i b).hdg = s.hdg := rfl
@[simp] theorem State.setBit_tables (a i : Nat) (b : Bool) : (s.setBit a i b).tables = s.tables := rfl
@[simp] theorem State.setBit_dsp (a i : Nat) (b : Bool) : (s.setBit a i b).dsp = s.dsp := rfl
@[simp] theorem State.setBit_flume (a i : Nat) (b : Bool) : (s.setBit a i b).flume = s.flume := rfl
@[simp] theorem State.setBit_flow (a i : Nat) (b : Bool) : (s.setBit a i b).flow = s.flow := rfl
@[simp] theorem State.setBit_qm (a i : Nat) (b : Bool) : (s.setBit a i b).qm = s.qm := rfl
@[simp] theorem State.setBit_bpm (a i : Nat) (b : Bool) : (s.setBit a i b).bpm = s.bpm := rfl
@[simp] theorem State.setBit_sch (a i : Nat) (b : Bool) : (s.setBit a i b).sch = s.sch := rfl
@[simp] theorem State.setBit_tb (a i : Nat) (b : Bool) : (s.setBit a i b).tb = s.tb := rfl
@[simp] theorem State.setBit_stk (a i : Nat) (b : Bool) : (s.setBit a i b).stk = s.stk := rfl
@[simp] theorem State.setBit_dmc (a i : Nat) (b : Bool) : (s.setBit a i b).dmc = s.dmc := rfl
@[simp] theorem State.setBit_ecc (a i : Nat) (b : Bool) : (s.setBit a i b).ecc = s.ecc := rfl
@[simp] theorem State.setBit_dma (a i : Nat) (b : Bool) : (s.setBit a i b).dma = s.dma := rfl
@[simp] theorem State.setBit_pmc (a i : Nat) (b : Bool) : (s.setBit a i b).pmc = s.pmc := rfl
@[simp] theorem State.setBit_mgt (a i : Nat) (b : Bool) : (s.setBit a i b).mgt = s.mgt := rfl
@[simp] theorem State.setBit_test (a i : Nat) (b : Bool) : (s.setBit a i b).test = s.test := rfl

@[simp] theorem State.setPair_pending (lo hi v : Nat) : (s.setPair lo hi v).pending = s.pending := rfl
@[simp] theorem State.setPair_freeCtr (lo hi v : Nat) : (s.setPair lo hi v).freeCtr = s.freeCtr := rfl
@[simp] theorem State.setPair_ctrs (lo hi v : Nat) : (s.setPair lo hi v).ctrs = s.ctrs := rfl
@[simp] theorem State.setPair_shadows (lo hi v : Nat) : (s.setPair lo hi v).shadows = s.shadows := rfl
@[simp] theorem State.setPair_rdData (lo hi v : Nat) : (s.setPair lo hi v).rdData = s.rdData := rfl
@[simp] theorem State.setPair_mem (lo hi v : Nat) : (s.setPair lo hi v).mem = s.mem := rfl
@[simp] theorem State.setPair_measDomain (lo hi v : Nat) : (s.setPair lo hi v).measDomain = s.measDomain := rfl
@[simp] theorem State.setPair_supply (lo hi v : Nat) : (s.setPair lo hi v).supply = s.supply := rfl
@[simp] theorem State.setPair_fuses (lo hi v : Nat) : (s.setPair lo hi v).fuses = s.fuses := rfl
@[simp] theorem State.setPair_flash (lo hi v : Nat) : (s.setPair lo hi v).flash = s.flash := rfl
@[simp] theorem State.setPair_aon (lo hi v : Nat) : (s.setPair lo hi v).aon = s.aon := rfl
@[simp] theorem State.setPair_boot (lo hi v : Nat) : (s.setPair lo hi v).boot = s.boot := rfl
@[simp] theorem State.setPair_ports (lo hi v : Nat) : (s.setPair lo hi v).ports = s.ports := rfl
@[simp] theorem State.setPair_portWindow (lo hi v : Nat) : (s.setPair lo hi v).portWindow = s.portWindow := rfl
@[simp] theorem State.setPair_hdg (lo hi v : Nat) : (s.setPair lo hi v).hdg = s.hdg := rfl
@[simp] theorem State.setPair_tables (lo hi v : Nat) : (s.setPair lo hi v).tables = s.tables := rfl
@[simp] theorem State.setPair_dsp (lo hi v : Nat) : (s.setPair lo hi v).dsp = s.dsp := rfl
@[simp] theorem State.setPair_flume (lo hi v : Nat) : (s.setPair lo hi v).flume = s.flume := rfl
@[simp] theorem State.setPair_flow (lo hi v : Nat) : (s.setPair lo hi v).flow = s.flow := rfl
@[simp] theorem State.setPair_qm (lo hi v : Nat) : (s.setPair lo hi v).qm = s.qm := rfl
@[simp] theorem State.setPair_bpm (lo hi v : Nat) : (s.setPair lo hi v).bpm = s.bpm := rfl
@[simp] theorem State.setPair_sch (lo hi v : Nat) : (s.setPair lo hi v).sch = s.sch := rfl
@[simp] theorem State.setPair_tb (lo hi v : Nat) : (s.setPair lo hi v).tb = s.tb := rfl
@[simp] theorem State.setPair_stk (lo hi v : Nat) : (s.setPair lo hi v).stk = s.stk := rfl
@[simp] theorem State.setPair_dmc (lo hi v : Nat) : (s.setPair lo hi v).dmc = s.dmc := rfl
@[simp] theorem State.setPair_ecc (lo hi v : Nat) : (s.setPair lo hi v).ecc = s.ecc := rfl
@[simp] theorem State.setPair_dma (lo hi v : Nat) : (s.setPair lo hi v).dma = s.dma := rfl
@[simp] theorem State.setPair_pmc (lo hi v : Nat) : (s.setPair lo hi v).pmc = s.pmc := rfl
@[simp] theorem State.setPair_mgt (lo hi v : Nat) : (s.setPair lo hi v).mgt = s.mgt := rfl
@[simp] theorem State.setPair_test (lo hi v : Nat) : (s.setPair lo hi v).test = s.test := rfl

@[simp] theorem State.bumpFld_pending (a hi lo n : Nat) : (s.bumpFld a hi lo n).pending = s.pending := rfl
@[simp] theorem State.bumpFld_freeCtr (a hi lo n : Nat) : (s.bumpFld a hi lo n).freeCtr = s.freeCtr := rfl
@[simp] theorem State.bumpFld_ctrs (a hi lo n : Nat) : (s.bumpFld a hi lo n).ctrs = s.ctrs := rfl
@[simp] theorem State.bumpFld_shadows (a hi lo n : Nat) : (s.bumpFld a hi lo n).shadows = s.shadows := rfl
@[simp] theorem State.bumpFld_rdData (a hi lo n : Nat) : (s.bumpFld a hi lo n).rdData = s.rdData := rfl
@[simp] theorem State.bumpFld_mem (a hi lo n : Nat) : (s.bumpFld a hi lo n).mem = s.mem := rfl
@[simp] theorem State.bumpFld_measDomain (a hi lo n : Nat) : (s.bumpFld a hi lo n).measDomain = s.measDomain := rfl
@[simp] theorem State.bumpFld_supply (a hi lo n : Nat) : (s.bumpFld a hi lo n).supply = s.supply := rfl
@[simp] theorem State.bumpFld_fuses (a hi lo n : Nat) : (s.bumpFld a hi lo n).fuses = s.fuses := rfl
@[simp] theorem State.bumpFld_flash (a hi lo n : Nat) : (s.bumpFld a hi lo n).flash = s.flash := rfl
@[simp] theorem State.bumpFld_aon (a hi lo n : Nat) : (s.bumpFld a hi lo n).aon = s.aon := rfl
@[simp] theorem State.bumpFld_boot (a hi lo n : Nat) : (s.bumpFld a hi lo n).boot = s.boot := rfl
@[simp] theorem State.bumpFld_ports (a hi lo n : Nat) : (s.bumpFld a hi lo n).ports = s.ports := rfl
@[simp] theorem State.bumpFld_portWindow (a hi lo n : Nat) : (s.bumpFld a hi lo n).portWindow = s.portWindow := rfl
@[simp] theorem State.bumpFld_hdg (a hi lo n : Nat) : (s.bumpFld a hi lo n).hdg = s.hdg := rfl
@[simp] theorem State.bumpFld_tables (a hi lo n : Nat) : (s.bumpFld a hi lo n).tables = s.tables := rfl
@[simp] theorem State.bumpFld_dsp (a hi lo n : Nat) : (s.bumpFld a hi lo n).dsp = s.dsp := rfl
@[simp] theorem State.bumpFld_flume (a hi lo n : Nat) : (s.bumpFld a hi lo n).flume = s.flume := rfl
@[simp] theorem State.bumpFld_flow (a hi lo n : Nat) : (s.bumpFld a hi lo n).flow = s.flow := rfl
@[simp] theorem State.bumpFld_qm (a hi lo n : Nat) : (s.bumpFld a hi lo n).qm = s.qm := rfl
@[simp] theorem State.bumpFld_bpm (a hi lo n : Nat) : (s.bumpFld a hi lo n).bpm = s.bpm := rfl
@[simp] theorem State.bumpFld_sch (a hi lo n : Nat) : (s.bumpFld a hi lo n).sch = s.sch := rfl
@[simp] theorem State.bumpFld_tb (a hi lo n : Nat) : (s.bumpFld a hi lo n).tb = s.tb := rfl
@[simp] theorem State.bumpFld_stk (a hi lo n : Nat) : (s.bumpFld a hi lo n).stk = s.stk := rfl
@[simp] theorem State.bumpFld_dmc (a hi lo n : Nat) : (s.bumpFld a hi lo n).dmc = s.dmc := rfl
@[simp] theorem State.bumpFld_ecc (a hi lo n : Nat) : (s.bumpFld a hi lo n).ecc = s.ecc := rfl
@[simp] theorem State.bumpFld_dma (a hi lo n : Nat) : (s.bumpFld a hi lo n).dma = s.dma := rfl
@[simp] theorem State.bumpFld_pmc (a hi lo n : Nat) : (s.bumpFld a hi lo n).pmc = s.pmc := rfl
@[simp] theorem State.bumpFld_mgt (a hi lo n : Nat) : (s.bumpFld a hi lo n).mgt = s.mgt := rfl
@[simp] theorem State.bumpFld_test (a hi lo n : Nat) : (s.bumpFld a hi lo n).test = s.test := rfl

@[simp] theorem State.setCtr_pending (a v : Nat) : (s.setCtr a v).pending = s.pending := rfl
@[simp] theorem State.setCtr_freeCtr (a v : Nat) : (s.setCtr a v).freeCtr = s.freeCtr := rfl
@[simp] theorem State.setCtr_regs (a v : Nat) : (s.setCtr a v).regs = s.regs := rfl
@[simp] theorem State.setCtr_shadows (a v : Nat) : (s.setCtr a v).shadows = s.shadows := rfl
@[simp] theorem State.setCtr_rdData (a v : Nat) : (s.setCtr a v).rdData = s.rdData := rfl
@[simp] theorem State.setCtr_mem (a v : Nat) : (s.setCtr a v).mem = s.mem := rfl
@[simp] theorem State.setCtr_measDomain (a v : Nat) : (s.setCtr a v).measDomain = s.measDomain := rfl
@[simp] theorem State.setCtr_supply (a v : Nat) : (s.setCtr a v).supply = s.supply := rfl
@[simp] theorem State.setCtr_fuses (a v : Nat) : (s.setCtr a v).fuses = s.fuses := rfl
@[simp] theorem State.setCtr_flash (a v : Nat) : (s.setCtr a v).flash = s.flash := rfl
@[simp] theorem State.setCtr_aon (a v : Nat) : (s.setCtr a v).aon = s.aon := rfl
@[simp] theorem State.setCtr_boot (a v : Nat) : (s.setCtr a v).boot = s.boot := rfl
@[simp] theorem State.setCtr_ports (a v : Nat) : (s.setCtr a v).ports = s.ports := rfl
@[simp] theorem State.setCtr_portWindow (a v : Nat) : (s.setCtr a v).portWindow = s.portWindow := rfl
@[simp] theorem State.setCtr_hdg (a v : Nat) : (s.setCtr a v).hdg = s.hdg := rfl
@[simp] theorem State.setCtr_tables (a v : Nat) : (s.setCtr a v).tables = s.tables := rfl
@[simp] theorem State.setCtr_dsp (a v : Nat) : (s.setCtr a v).dsp = s.dsp := rfl
@[simp] theorem State.setCtr_flume (a v : Nat) : (s.setCtr a v).flume = s.flume := rfl
@[simp] theorem State.setCtr_flow (a v : Nat) : (s.setCtr a v).flow = s.flow := rfl
@[simp] theorem State.setCtr_qm (a v : Nat) : (s.setCtr a v).qm = s.qm := rfl
@[simp] theorem State.setCtr_bpm (a v : Nat) : (s.setCtr a v).bpm = s.bpm := rfl
@[simp] theorem State.setCtr_sch (a v : Nat) : (s.setCtr a v).sch = s.sch := rfl
@[simp] theorem State.setCtr_tb (a v : Nat) : (s.setCtr a v).tb = s.tb := rfl
@[simp] theorem State.setCtr_stk (a v : Nat) : (s.setCtr a v).stk = s.stk := rfl
@[simp] theorem State.setCtr_dmc (a v : Nat) : (s.setCtr a v).dmc = s.dmc := rfl
@[simp] theorem State.setCtr_ecc (a v : Nat) : (s.setCtr a v).ecc = s.ecc := rfl
@[simp] theorem State.setCtr_dma (a v : Nat) : (s.setCtr a v).dma = s.dma := rfl
@[simp] theorem State.setCtr_pmc (a v : Nat) : (s.setCtr a v).pmc = s.pmc := rfl
@[simp] theorem State.setCtr_mgt (a v : Nat) : (s.setCtr a v).mgt = s.mgt := rfl
@[simp] theorem State.setCtr_test (a v : Nat) : (s.setCtr a v).test = s.test := rfl

@[simp] theorem State.bump_pending (a n : Nat) : (s.bump a n).pending = s.pending := rfl
@[simp] theorem State.bump_freeCtr (a n : Nat) : (s.bump a n).freeCtr = s.freeCtr := rfl
@[simp] theorem State.bump_regs (a n : Nat) : (s.bump a n).regs = s.regs := rfl
@[simp] theorem State.bump_shadows (a n : Nat) : (s.bump a n).shadows = s.shadows := rfl
@[simp] theorem State.bump_rdData (a n : Nat) : (s.bump a n).rdData = s.rdData := rfl
@[simp] theorem State.bump_mem (a n : Nat) : (s.bump a n).mem = s.mem := rfl
@[simp] theorem State.bump_measDomain (a n : Nat) : (s.bump a n).measDomain = s.measDomain := rfl
@[simp] theorem State.bump_supply (a n : Nat) : (s.bump a n).supply = s.supply := rfl
@[simp] theorem State.bump_fuses (a n : Nat) : (s.bump a n).fuses = s.fuses := rfl
@[simp] theorem State.bump_flash (a n : Nat) : (s.bump a n).flash = s.flash := rfl
@[simp] theorem State.bump_aon (a n : Nat) : (s.bump a n).aon = s.aon := rfl
@[simp] theorem State.bump_boot (a n : Nat) : (s.bump a n).boot = s.boot := rfl
@[simp] theorem State.bump_ports (a n : Nat) : (s.bump a n).ports = s.ports := rfl
@[simp] theorem State.bump_portWindow (a n : Nat) : (s.bump a n).portWindow = s.portWindow := rfl
@[simp] theorem State.bump_hdg (a n : Nat) : (s.bump a n).hdg = s.hdg := rfl
@[simp] theorem State.bump_tables (a n : Nat) : (s.bump a n).tables = s.tables := rfl
@[simp] theorem State.bump_dsp (a n : Nat) : (s.bump a n).dsp = s.dsp := rfl
@[simp] theorem State.bump_flume (a n : Nat) : (s.bump a n).flume = s.flume := rfl
@[simp] theorem State.bump_flow (a n : Nat) : (s.bump a n).flow = s.flow := rfl
@[simp] theorem State.bump_qm (a n : Nat) : (s.bump a n).qm = s.qm := rfl
@[simp] theorem State.bump_bpm (a n : Nat) : (s.bump a n).bpm = s.bpm := rfl
@[simp] theorem State.bump_sch (a n : Nat) : (s.bump a n).sch = s.sch := rfl
@[simp] theorem State.bump_tb (a n : Nat) : (s.bump a n).tb = s.tb := rfl
@[simp] theorem State.bump_stk (a n : Nat) : (s.bump a n).stk = s.stk := rfl
@[simp] theorem State.bump_dmc (a n : Nat) : (s.bump a n).dmc = s.dmc := rfl
@[simp] theorem State.bump_ecc (a n : Nat) : (s.bump a n).ecc = s.ecc := rfl
@[simp] theorem State.bump_dma (a n : Nat) : (s.bump a n).dma = s.dma := rfl
@[simp] theorem State.bump_pmc (a n : Nat) : (s.bump a n).pmc = s.pmc := rfl
@[simp] theorem State.bump_mgt (a n : Nat) : (s.bump a n).mgt = s.mgt := rfl
@[simp] theorem State.bump_test (a n : Nat) : (s.bump a n).test = s.test := rfl

@[simp] theorem State.record_pending (a v : Nat) : (s.record a v).pending = s.pending := State.wr_pending s _ _
@[simp] theorem State.record_freeCtr (a v : Nat) : (s.record a v).freeCtr = s.freeCtr := State.wr_freeCtr s _ _
@[simp] theorem State.record_ctrs (a v : Nat) : (s.record a v).ctrs = s.ctrs := State.wr_ctrs s _ _
@[simp] theorem State.record_shadows (a v : Nat) : (s.record a v).shadows = s.shadows := State.wr_shadows s _ _
@[simp] theorem State.record_rdData (a v : Nat) : (s.record a v).rdData = s.rdData := State.wr_rdData s _ _
@[simp] theorem State.record_mem (a v : Nat) : (s.record a v).mem = s.mem := State.wr_mem s _ _
@[simp] theorem State.record_measDomain (a v : Nat) : (s.record a v).measDomain = s.measDomain := State.wr_measDomain s _ _
@[simp] theorem State.record_supply (a v : Nat) : (s.record a v).supply = s.supply := State.wr_supply s _ _
@[simp] theorem State.record_fuses (a v : Nat) : (s.record a v).fuses = s.fuses := State.wr_fuses s _ _
@[simp] theorem State.record_flash (a v : Nat) : (s.record a v).flash = s.flash := State.wr_flash s _ _
@[simp] theorem State.record_aon (a v : Nat) : (s.record a v).aon = s.aon := State.wr_aon s _ _
@[simp] theorem State.record_boot (a v : Nat) : (s.record a v).boot = s.boot := State.wr_boot s _ _
@[simp] theorem State.record_ports (a v : Nat) : (s.record a v).ports = s.ports := State.wr_ports s _ _
@[simp] theorem State.record_portWindow (a v : Nat) : (s.record a v).portWindow = s.portWindow := State.wr_portWindow s _ _
@[simp] theorem State.record_hdg (a v : Nat) : (s.record a v).hdg = s.hdg := State.wr_hdg s _ _
@[simp] theorem State.record_tables (a v : Nat) : (s.record a v).tables = s.tables := State.wr_tables s _ _
@[simp] theorem State.record_dsp (a v : Nat) : (s.record a v).dsp = s.dsp := State.wr_dsp s _ _
@[simp] theorem State.record_flume (a v : Nat) : (s.record a v).flume = s.flume := State.wr_flume s _ _
@[simp] theorem State.record_flow (a v : Nat) : (s.record a v).flow = s.flow := State.wr_flow s _ _
@[simp] theorem State.record_qm (a v : Nat) : (s.record a v).qm = s.qm := State.wr_qm s _ _
@[simp] theorem State.record_bpm (a v : Nat) : (s.record a v).bpm = s.bpm := State.wr_bpm s _ _
@[simp] theorem State.record_sch (a v : Nat) : (s.record a v).sch = s.sch := State.wr_sch s _ _
@[simp] theorem State.record_tb (a v : Nat) : (s.record a v).tb = s.tb := State.wr_tb s _ _
@[simp] theorem State.record_stk (a v : Nat) : (s.record a v).stk = s.stk := State.wr_stk s _ _
@[simp] theorem State.record_dmc (a v : Nat) : (s.record a v).dmc = s.dmc := State.wr_dmc s _ _
@[simp] theorem State.record_ecc (a v : Nat) : (s.record a v).ecc = s.ecc := State.wr_ecc s _ _
@[simp] theorem State.record_dma (a v : Nat) : (s.record a v).dma = s.dma := State.wr_dma s _ _
@[simp] theorem State.record_pmc (a v : Nat) : (s.record a v).pmc = s.pmc := State.wr_pmc s _ _
@[simp] theorem State.record_mgt (a v : Nat) : (s.record a v).mgt = s.mgt := State.wr_mgt s _ _
@[simp] theorem State.record_test (a v : Nat) : (s.record a v).test = s.test := State.wr_test s _ _

@[simp] theorem State.cmdAccept_pending (a : Nat) : (s.cmdAccept a).pending = s.pending := State.setFld_pending s _ _ _ _
@[simp] theorem State.cmdAccept_freeCtr (a : Nat) : (s.cmdAccept a).freeCtr = s.freeCtr := State.setFld_freeCtr s _ _ _ _
@[simp] theorem State.cmdAccept_ctrs (a : Nat) : (s.cmdAccept a).ctrs = s.ctrs := State.setFld_ctrs s _ _ _ _
@[simp] theorem State.cmdAccept_shadows (a : Nat) : (s.cmdAccept a).shadows = s.shadows := State.setFld_shadows s _ _ _ _
@[simp] theorem State.cmdAccept_rdData (a : Nat) : (s.cmdAccept a).rdData = s.rdData := State.setFld_rdData s _ _ _ _
@[simp] theorem State.cmdAccept_mem (a : Nat) : (s.cmdAccept a).mem = s.mem := State.setFld_mem s _ _ _ _
@[simp] theorem State.cmdAccept_measDomain (a : Nat) : (s.cmdAccept a).measDomain = s.measDomain := State.setFld_measDomain s _ _ _ _
@[simp] theorem State.cmdAccept_supply (a : Nat) : (s.cmdAccept a).supply = s.supply := State.setFld_supply s _ _ _ _
@[simp] theorem State.cmdAccept_fuses (a : Nat) : (s.cmdAccept a).fuses = s.fuses := State.setFld_fuses s _ _ _ _
@[simp] theorem State.cmdAccept_flash (a : Nat) : (s.cmdAccept a).flash = s.flash := State.setFld_flash s _ _ _ _
@[simp] theorem State.cmdAccept_aon (a : Nat) : (s.cmdAccept a).aon = s.aon := State.setFld_aon s _ _ _ _
@[simp] theorem State.cmdAccept_boot (a : Nat) : (s.cmdAccept a).boot = s.boot := State.setFld_boot s _ _ _ _
@[simp] theorem State.cmdAccept_ports (a : Nat) : (s.cmdAccept a).ports = s.ports := State.setFld_ports s _ _ _ _
@[simp] theorem State.cmdAccept_portWindow (a : Nat) : (s.cmdAccept a).portWindow = s.portWindow := State.setFld_portWindow s _ _ _ _
@[simp] theorem State.cmdAccept_hdg (a : Nat) : (s.cmdAccept a).hdg = s.hdg := State.setFld_hdg s _ _ _ _
@[simp] theorem State.cmdAccept_tables (a : Nat) : (s.cmdAccept a).tables = s.tables := State.setFld_tables s _ _ _ _
@[simp] theorem State.cmdAccept_dsp (a : Nat) : (s.cmdAccept a).dsp = s.dsp := State.setFld_dsp s _ _ _ _
@[simp] theorem State.cmdAccept_flume (a : Nat) : (s.cmdAccept a).flume = s.flume := State.setFld_flume s _ _ _ _
@[simp] theorem State.cmdAccept_flow (a : Nat) : (s.cmdAccept a).flow = s.flow := State.setFld_flow s _ _ _ _
@[simp] theorem State.cmdAccept_qm (a : Nat) : (s.cmdAccept a).qm = s.qm := State.setFld_qm s _ _ _ _
@[simp] theorem State.cmdAccept_bpm (a : Nat) : (s.cmdAccept a).bpm = s.bpm := State.setFld_bpm s _ _ _ _
@[simp] theorem State.cmdAccept_sch (a : Nat) : (s.cmdAccept a).sch = s.sch := State.setFld_sch s _ _ _ _
@[simp] theorem State.cmdAccept_tb (a : Nat) : (s.cmdAccept a).tb = s.tb := State.setFld_tb s _ _ _ _
@[simp] theorem State.cmdAccept_stk (a : Nat) : (s.cmdAccept a).stk = s.stk := State.setFld_stk s _ _ _ _
@[simp] theorem State.cmdAccept_dmc (a : Nat) : (s.cmdAccept a).dmc = s.dmc := State.setFld_dmc s _ _ _ _
@[simp] theorem State.cmdAccept_ecc (a : Nat) : (s.cmdAccept a).ecc = s.ecc := State.setFld_ecc s _ _ _ _
@[simp] theorem State.cmdAccept_dma (a : Nat) : (s.cmdAccept a).dma = s.dma := State.setFld_dma s _ _ _ _
@[simp] theorem State.cmdAccept_pmc (a : Nat) : (s.cmdAccept a).pmc = s.pmc := State.setFld_pmc s _ _ _ _
@[simp] theorem State.cmdAccept_mgt (a : Nat) : (s.cmdAccept a).mgt = s.mgt := State.setFld_mgt s _ _ _ _
@[simp] theorem State.cmdAccept_test (a : Nat) : (s.cmdAccept a).test = s.test := State.setFld_test s _ _ _ _

@[simp] theorem State.cmdReject_pending (a : Nat) : (s.cmdReject a).pending = s.pending := State.setBit_pending s _ _ _
@[simp] theorem State.cmdReject_freeCtr (a : Nat) : (s.cmdReject a).freeCtr = s.freeCtr := State.setBit_freeCtr s _ _ _
@[simp] theorem State.cmdReject_ctrs (a : Nat) : (s.cmdReject a).ctrs = s.ctrs := State.setBit_ctrs s _ _ _
@[simp] theorem State.cmdReject_shadows (a : Nat) : (s.cmdReject a).shadows = s.shadows := State.setBit_shadows s _ _ _
@[simp] theorem State.cmdReject_rdData (a : Nat) : (s.cmdReject a).rdData = s.rdData := State.setBit_rdData s _ _ _
@[simp] theorem State.cmdReject_mem (a : Nat) : (s.cmdReject a).mem = s.mem := State.setBit_mem s _ _ _
@[simp] theorem State.cmdReject_measDomain (a : Nat) : (s.cmdReject a).measDomain = s.measDomain := State.setBit_measDomain s _ _ _
@[simp] theorem State.cmdReject_supply (a : Nat) : (s.cmdReject a).supply = s.supply := State.setBit_supply s _ _ _
@[simp] theorem State.cmdReject_fuses (a : Nat) : (s.cmdReject a).fuses = s.fuses := State.setBit_fuses s _ _ _
@[simp] theorem State.cmdReject_flash (a : Nat) : (s.cmdReject a).flash = s.flash := State.setBit_flash s _ _ _
@[simp] theorem State.cmdReject_aon (a : Nat) : (s.cmdReject a).aon = s.aon := State.setBit_aon s _ _ _
@[simp] theorem State.cmdReject_boot (a : Nat) : (s.cmdReject a).boot = s.boot := State.setBit_boot s _ _ _
@[simp] theorem State.cmdReject_ports (a : Nat) : (s.cmdReject a).ports = s.ports := State.setBit_ports s _ _ _
@[simp] theorem State.cmdReject_portWindow (a : Nat) : (s.cmdReject a).portWindow = s.portWindow := State.setBit_portWindow s _ _ _
@[simp] theorem State.cmdReject_hdg (a : Nat) : (s.cmdReject a).hdg = s.hdg := State.setBit_hdg s _ _ _
@[simp] theorem State.cmdReject_tables (a : Nat) : (s.cmdReject a).tables = s.tables := State.setBit_tables s _ _ _
@[simp] theorem State.cmdReject_dsp (a : Nat) : (s.cmdReject a).dsp = s.dsp := State.setBit_dsp s _ _ _
@[simp] theorem State.cmdReject_flume (a : Nat) : (s.cmdReject a).flume = s.flume := State.setBit_flume s _ _ _
@[simp] theorem State.cmdReject_flow (a : Nat) : (s.cmdReject a).flow = s.flow := State.setBit_flow s _ _ _
@[simp] theorem State.cmdReject_qm (a : Nat) : (s.cmdReject a).qm = s.qm := State.setBit_qm s _ _ _
@[simp] theorem State.cmdReject_bpm (a : Nat) : (s.cmdReject a).bpm = s.bpm := State.setBit_bpm s _ _ _
@[simp] theorem State.cmdReject_sch (a : Nat) : (s.cmdReject a).sch = s.sch := State.setBit_sch s _ _ _
@[simp] theorem State.cmdReject_tb (a : Nat) : (s.cmdReject a).tb = s.tb := State.setBit_tb s _ _ _
@[simp] theorem State.cmdReject_stk (a : Nat) : (s.cmdReject a).stk = s.stk := State.setBit_stk s _ _ _
@[simp] theorem State.cmdReject_dmc (a : Nat) : (s.cmdReject a).dmc = s.dmc := State.setBit_dmc s _ _ _
@[simp] theorem State.cmdReject_ecc (a : Nat) : (s.cmdReject a).ecc = s.ecc := State.setBit_ecc s _ _ _
@[simp] theorem State.cmdReject_dma (a : Nat) : (s.cmdReject a).dma = s.dma := State.setBit_dma s _ _ _
@[simp] theorem State.cmdReject_pmc (a : Nat) : (s.cmdReject a).pmc = s.pmc := State.setBit_pmc s _ _ _
@[simp] theorem State.cmdReject_mgt (a : Nat) : (s.cmdReject a).mgt = s.mgt := State.setBit_mgt s _ _ _
@[simp] theorem State.cmdReject_test (a : Nat) : (s.cmdReject a).test = s.test := State.setBit_test s _ _ _

@[simp] theorem State.cmdDone_pending (a v : Nat) : (s.cmdDone a v).pending = s.pending := State.wr_pending s _ _
@[simp] theorem State.cmdDone_freeCtr (a v : Nat) : (s.cmdDone a v).freeCtr = s.freeCtr := State.wr_freeCtr s _ _
@[simp] theorem State.cmdDone_ctrs (a v : Nat) : (s.cmdDone a v).ctrs = s.ctrs := State.wr_ctrs s _ _
@[simp] theorem State.cmdDone_shadows (a v : Nat) : (s.cmdDone a v).shadows = s.shadows := State.wr_shadows s _ _
@[simp] theorem State.cmdDone_rdData (a v : Nat) : (s.cmdDone a v).rdData = s.rdData := State.wr_rdData s _ _
@[simp] theorem State.cmdDone_mem (a v : Nat) : (s.cmdDone a v).mem = s.mem := State.wr_mem s _ _
@[simp] theorem State.cmdDone_measDomain (a v : Nat) : (s.cmdDone a v).measDomain = s.measDomain := State.wr_measDomain s _ _
@[simp] theorem State.cmdDone_supply (a v : Nat) : (s.cmdDone a v).supply = s.supply := State.wr_supply s _ _
@[simp] theorem State.cmdDone_fuses (a v : Nat) : (s.cmdDone a v).fuses = s.fuses := State.wr_fuses s _ _
@[simp] theorem State.cmdDone_flash (a v : Nat) : (s.cmdDone a v).flash = s.flash := State.wr_flash s _ _
@[simp] theorem State.cmdDone_aon (a v : Nat) : (s.cmdDone a v).aon = s.aon := State.wr_aon s _ _
@[simp] theorem State.cmdDone_boot (a v : Nat) : (s.cmdDone a v).boot = s.boot := State.wr_boot s _ _
@[simp] theorem State.cmdDone_ports (a v : Nat) : (s.cmdDone a v).ports = s.ports := State.wr_ports s _ _
@[simp] theorem State.cmdDone_portWindow (a v : Nat) : (s.cmdDone a v).portWindow = s.portWindow := State.wr_portWindow s _ _
@[simp] theorem State.cmdDone_hdg (a v : Nat) : (s.cmdDone a v).hdg = s.hdg := State.wr_hdg s _ _
@[simp] theorem State.cmdDone_tables (a v : Nat) : (s.cmdDone a v).tables = s.tables := State.wr_tables s _ _
@[simp] theorem State.cmdDone_dsp (a v : Nat) : (s.cmdDone a v).dsp = s.dsp := State.wr_dsp s _ _
@[simp] theorem State.cmdDone_flume (a v : Nat) : (s.cmdDone a v).flume = s.flume := State.wr_flume s _ _
@[simp] theorem State.cmdDone_flow (a v : Nat) : (s.cmdDone a v).flow = s.flow := State.wr_flow s _ _
@[simp] theorem State.cmdDone_qm (a v : Nat) : (s.cmdDone a v).qm = s.qm := State.wr_qm s _ _
@[simp] theorem State.cmdDone_bpm (a v : Nat) : (s.cmdDone a v).bpm = s.bpm := State.wr_bpm s _ _
@[simp] theorem State.cmdDone_sch (a v : Nat) : (s.cmdDone a v).sch = s.sch := State.wr_sch s _ _
@[simp] theorem State.cmdDone_tb (a v : Nat) : (s.cmdDone a v).tb = s.tb := State.wr_tb s _ _
@[simp] theorem State.cmdDone_stk (a v : Nat) : (s.cmdDone a v).stk = s.stk := State.wr_stk s _ _
@[simp] theorem State.cmdDone_dmc (a v : Nat) : (s.cmdDone a v).dmc = s.dmc := State.wr_dmc s _ _
@[simp] theorem State.cmdDone_ecc (a v : Nat) : (s.cmdDone a v).ecc = s.ecc := State.wr_ecc s _ _
@[simp] theorem State.cmdDone_dma (a v : Nat) : (s.cmdDone a v).dma = s.dma := State.wr_dma s _ _
@[simp] theorem State.cmdDone_pmc (a v : Nat) : (s.cmdDone a v).pmc = s.pmc := State.wr_pmc s _ _
@[simp] theorem State.cmdDone_mgt (a v : Nat) : (s.cmdDone a v).mgt = s.mgt := State.wr_mgt s _ _
@[simp] theorem State.cmdDone_test (a v : Nat) : (s.cmdDone a v).test = s.test := State.wr_test s _ _

@[simp] theorem State.stBytes_pending (a : Nat) (bs : List Byte) : (s.stBytes a bs).pending = s.pending := rfl
@[simp] theorem State.stBytes_freeCtr (a : Nat) (bs : List Byte) : (s.stBytes a bs).freeCtr = s.freeCtr := rfl
@[simp] theorem State.stBytes_regs (a : Nat) (bs : List Byte) : (s.stBytes a bs).regs = s.regs := rfl
@[simp] theorem State.stBytes_ctrs (a : Nat) (bs : List Byte) : (s.stBytes a bs).ctrs = s.ctrs := rfl
@[simp] theorem State.stBytes_shadows (a : Nat) (bs : List Byte) : (s.stBytes a bs).shadows = s.shadows := rfl
@[simp] theorem State.stBytes_rdData (a : Nat) (bs : List Byte) : (s.stBytes a bs).rdData = s.rdData := rfl
@[simp] theorem State.stBytes_measDomain (a : Nat) (bs : List Byte) : (s.stBytes a bs).measDomain = s.measDomain := rfl
@[simp] theorem State.stBytes_supply (a : Nat) (bs : List Byte) : (s.stBytes a bs).supply = s.supply := rfl
@[simp] theorem State.stBytes_fuses (a : Nat) (bs : List Byte) : (s.stBytes a bs).fuses = s.fuses := rfl
@[simp] theorem State.stBytes_flash (a : Nat) (bs : List Byte) : (s.stBytes a bs).flash = s.flash := rfl
@[simp] theorem State.stBytes_aon (a : Nat) (bs : List Byte) : (s.stBytes a bs).aon = s.aon := rfl
@[simp] theorem State.stBytes_boot (a : Nat) (bs : List Byte) : (s.stBytes a bs).boot = s.boot := rfl
@[simp] theorem State.stBytes_ports (a : Nat) (bs : List Byte) : (s.stBytes a bs).ports = s.ports := rfl
@[simp] theorem State.stBytes_portWindow (a : Nat) (bs : List Byte) : (s.stBytes a bs).portWindow = s.portWindow := rfl
@[simp] theorem State.stBytes_hdg (a : Nat) (bs : List Byte) : (s.stBytes a bs).hdg = s.hdg := rfl
@[simp] theorem State.stBytes_tables (a : Nat) (bs : List Byte) : (s.stBytes a bs).tables = s.tables := rfl
@[simp] theorem State.stBytes_dsp (a : Nat) (bs : List Byte) : (s.stBytes a bs).dsp = s.dsp := rfl
@[simp] theorem State.stBytes_flume (a : Nat) (bs : List Byte) : (s.stBytes a bs).flume = s.flume := rfl
@[simp] theorem State.stBytes_flow (a : Nat) (bs : List Byte) : (s.stBytes a bs).flow = s.flow := rfl
@[simp] theorem State.stBytes_qm (a : Nat) (bs : List Byte) : (s.stBytes a bs).qm = s.qm := rfl
@[simp] theorem State.stBytes_bpm (a : Nat) (bs : List Byte) : (s.stBytes a bs).bpm = s.bpm := rfl
@[simp] theorem State.stBytes_sch (a : Nat) (bs : List Byte) : (s.stBytes a bs).sch = s.sch := rfl
@[simp] theorem State.stBytes_tb (a : Nat) (bs : List Byte) : (s.stBytes a bs).tb = s.tb := rfl
@[simp] theorem State.stBytes_stk (a : Nat) (bs : List Byte) : (s.stBytes a bs).stk = s.stk := rfl
@[simp] theorem State.stBytes_dmc (a : Nat) (bs : List Byte) : (s.stBytes a bs).dmc = s.dmc := rfl
@[simp] theorem State.stBytes_ecc (a : Nat) (bs : List Byte) : (s.stBytes a bs).ecc = s.ecc := rfl
@[simp] theorem State.stBytes_dma (a : Nat) (bs : List Byte) : (s.stBytes a bs).dma = s.dma := rfl
@[simp] theorem State.stBytes_pmc (a : Nat) (bs : List Byte) : (s.stBytes a bs).pmc = s.pmc := rfl
@[simp] theorem State.stBytes_mgt (a : Nat) (bs : List Byte) : (s.stBytes a bs).mgt = s.mgt := rfl
@[simp] theorem State.stBytes_test (a : Nat) (bs : List Byte) : (s.stBytes a bs).test = s.test := rfl

@[simp] theorem State.setThr_pending (cl e th : Nat) (x : Thread) : (s.setThr cl e th x).pending = s.pending := rfl
@[simp] theorem State.setThr_freeCtr (cl e th : Nat) (x : Thread) : (s.setThr cl e th x).freeCtr = s.freeCtr := rfl
@[simp] theorem State.setThr_regs (cl e th : Nat) (x : Thread) : (s.setThr cl e th x).regs = s.regs := rfl
@[simp] theorem State.setThr_ctrs (cl e th : Nat) (x : Thread) : (s.setThr cl e th x).ctrs = s.ctrs := rfl
@[simp] theorem State.setThr_shadows (cl e th : Nat) (x : Thread) : (s.setThr cl e th x).shadows = s.shadows := rfl
@[simp] theorem State.setThr_rdData (cl e th : Nat) (x : Thread) : (s.setThr cl e th x).rdData = s.rdData := rfl
@[simp] theorem State.setThr_mem (cl e th : Nat) (x : Thread) : (s.setThr cl e th x).mem = s.mem := rfl
@[simp] theorem State.setThr_measDomain (cl e th : Nat) (x : Thread) : (s.setThr cl e th x).measDomain = s.measDomain := rfl
@[simp] theorem State.setThr_supply (cl e th : Nat) (x : Thread) : (s.setThr cl e th x).supply = s.supply := rfl
@[simp] theorem State.setThr_fuses (cl e th : Nat) (x : Thread) : (s.setThr cl e th x).fuses = s.fuses := rfl
@[simp] theorem State.setThr_flash (cl e th : Nat) (x : Thread) : (s.setThr cl e th x).flash = s.flash := rfl
@[simp] theorem State.setThr_aon (cl e th : Nat) (x : Thread) : (s.setThr cl e th x).aon = s.aon := rfl
@[simp] theorem State.setThr_boot (cl e th : Nat) (x : Thread) : (s.setThr cl e th x).boot = s.boot := rfl
@[simp] theorem State.setThr_ports (cl e th : Nat) (x : Thread) : (s.setThr cl e th x).ports = s.ports := rfl
@[simp] theorem State.setThr_portWindow (cl e th : Nat) (x : Thread) : (s.setThr cl e th x).portWindow = s.portWindow := rfl
@[simp] theorem State.setThr_hdg (cl e th : Nat) (x : Thread) : (s.setThr cl e th x).hdg = s.hdg := rfl
@[simp] theorem State.setThr_tables (cl e th : Nat) (x : Thread) : (s.setThr cl e th x).tables = s.tables := rfl
@[simp] theorem State.setThr_dsp (cl e th : Nat) (x : Thread) : (s.setThr cl e th x).dsp = s.dsp := rfl
@[simp] theorem State.setThr_flow (cl e th : Nat) (x : Thread) : (s.setThr cl e th x).flow = s.flow := rfl
@[simp] theorem State.setThr_qm (cl e th : Nat) (x : Thread) : (s.setThr cl e th x).qm = s.qm := rfl
@[simp] theorem State.setThr_bpm (cl e th : Nat) (x : Thread) : (s.setThr cl e th x).bpm = s.bpm := rfl
@[simp] theorem State.setThr_sch (cl e th : Nat) (x : Thread) : (s.setThr cl e th x).sch = s.sch := rfl
@[simp] theorem State.setThr_tb (cl e th : Nat) (x : Thread) : (s.setThr cl e th x).tb = s.tb := rfl
@[simp] theorem State.setThr_stk (cl e th : Nat) (x : Thread) : (s.setThr cl e th x).stk = s.stk := rfl
@[simp] theorem State.setThr_dmc (cl e th : Nat) (x : Thread) : (s.setThr cl e th x).dmc = s.dmc := rfl
@[simp] theorem State.setThr_ecc (cl e th : Nat) (x : Thread) : (s.setThr cl e th x).ecc = s.ecc := rfl
@[simp] theorem State.setThr_dma (cl e th : Nat) (x : Thread) : (s.setThr cl e th x).dma = s.dma := rfl
@[simp] theorem State.setThr_pmc (cl e th : Nat) (x : Thread) : (s.setThr cl e th x).pmc = s.pmc := rfl
@[simp] theorem State.setThr_mgt (cl e th : Nat) (x : Thread) : (s.setThr cl e th x).mgt = s.mgt := rfl
@[simp] theorem State.setThr_test (cl e th : Nat) (x : Thread) : (s.setThr cl e th x).test = s.test := rfl

@[simp] theorem State.setCtx_pending (c : Nat) (x : Ctx) : (s.setCtx c x).pending = s.pending := rfl
@[simp] theorem State.setCtx_freeCtr (c : Nat) (x : Ctx) : (s.setCtx c x).freeCtr = s.freeCtr := rfl
@[simp] theorem State.setCtx_regs (c : Nat) (x : Ctx) : (s.setCtx c x).regs = s.regs := rfl
@[simp] theorem State.setCtx_ctrs (c : Nat) (x : Ctx) : (s.setCtx c x).ctrs = s.ctrs := rfl
@[simp] theorem State.setCtx_shadows (c : Nat) (x : Ctx) : (s.setCtx c x).shadows = s.shadows := rfl
@[simp] theorem State.setCtx_rdData (c : Nat) (x : Ctx) : (s.setCtx c x).rdData = s.rdData := rfl
@[simp] theorem State.setCtx_mem (c : Nat) (x : Ctx) : (s.setCtx c x).mem = s.mem := rfl
@[simp] theorem State.setCtx_measDomain (c : Nat) (x : Ctx) : (s.setCtx c x).measDomain = s.measDomain := rfl
@[simp] theorem State.setCtx_supply (c : Nat) (x : Ctx) : (s.setCtx c x).supply = s.supply := rfl
@[simp] theorem State.setCtx_fuses (c : Nat) (x : Ctx) : (s.setCtx c x).fuses = s.fuses := rfl
@[simp] theorem State.setCtx_flash (c : Nat) (x : Ctx) : (s.setCtx c x).flash = s.flash := rfl
@[simp] theorem State.setCtx_aon (c : Nat) (x : Ctx) : (s.setCtx c x).aon = s.aon := rfl
@[simp] theorem State.setCtx_boot (c : Nat) (x : Ctx) : (s.setCtx c x).boot = s.boot := rfl
@[simp] theorem State.setCtx_ports (c : Nat) (x : Ctx) : (s.setCtx c x).ports = s.ports := rfl
@[simp] theorem State.setCtx_portWindow (c : Nat) (x : Ctx) : (s.setCtx c x).portWindow = s.portWindow := rfl
@[simp] theorem State.setCtx_hdg (c : Nat) (x : Ctx) : (s.setCtx c x).hdg = s.hdg := rfl
@[simp] theorem State.setCtx_tables (c : Nat) (x : Ctx) : (s.setCtx c x).tables = s.tables := rfl
@[simp] theorem State.setCtx_flume (c : Nat) (x : Ctx) : (s.setCtx c x).flume = s.flume := rfl
@[simp] theorem State.setCtx_flow (c : Nat) (x : Ctx) : (s.setCtx c x).flow = s.flow := rfl
@[simp] theorem State.setCtx_qm (c : Nat) (x : Ctx) : (s.setCtx c x).qm = s.qm := rfl
@[simp] theorem State.setCtx_bpm (c : Nat) (x : Ctx) : (s.setCtx c x).bpm = s.bpm := rfl
@[simp] theorem State.setCtx_sch (c : Nat) (x : Ctx) : (s.setCtx c x).sch = s.sch := rfl
@[simp] theorem State.setCtx_tb (c : Nat) (x : Ctx) : (s.setCtx c x).tb = s.tb := rfl
@[simp] theorem State.setCtx_stk (c : Nat) (x : Ctx) : (s.setCtx c x).stk = s.stk := rfl
@[simp] theorem State.setCtx_dmc (c : Nat) (x : Ctx) : (s.setCtx c x).dmc = s.dmc := rfl
@[simp] theorem State.setCtx_ecc (c : Nat) (x : Ctx) : (s.setCtx c x).ecc = s.ecc := rfl
@[simp] theorem State.setCtx_dma (c : Nat) (x : Ctx) : (s.setCtx c x).dma = s.dma := rfl
@[simp] theorem State.setCtx_pmc (c : Nat) (x : Ctx) : (s.setCtx c x).pmc = s.pmc := rfl
@[simp] theorem State.setCtx_mgt (c : Nat) (x : Ctx) : (s.setCtx c x).mgt = s.mgt := rfl
@[simp] theorem State.setCtx_test (c : Nat) (x : Ctx) : (s.setCtx c x).test = s.test := rfl

@[simp] theorem State.setCe_pending (k : Nat) (c : Ce) : (s.setCe k c).pending = s.pending := rfl
@[simp] theorem State.setCe_freeCtr (k : Nat) (c : Ce) : (s.setCe k c).freeCtr = s.freeCtr := rfl
@[simp] theorem State.setCe_regs (k : Nat) (c : Ce) : (s.setCe k c).regs = s.regs := rfl
@[simp] theorem State.setCe_ctrs (k : Nat) (c : Ce) : (s.setCe k c).ctrs = s.ctrs := rfl
@[simp] theorem State.setCe_shadows (k : Nat) (c : Ce) : (s.setCe k c).shadows = s.shadows := rfl
@[simp] theorem State.setCe_rdData (k : Nat) (c : Ce) : (s.setCe k c).rdData = s.rdData := rfl
@[simp] theorem State.setCe_mem (k : Nat) (c : Ce) : (s.setCe k c).mem = s.mem := rfl
@[simp] theorem State.setCe_measDomain (k : Nat) (c : Ce) : (s.setCe k c).measDomain = s.measDomain := rfl
@[simp] theorem State.setCe_supply (k : Nat) (c : Ce) : (s.setCe k c).supply = s.supply := rfl
@[simp] theorem State.setCe_fuses (k : Nat) (c : Ce) : (s.setCe k c).fuses = s.fuses := rfl
@[simp] theorem State.setCe_flash (k : Nat) (c : Ce) : (s.setCe k c).flash = s.flash := rfl
@[simp] theorem State.setCe_aon (k : Nat) (c : Ce) : (s.setCe k c).aon = s.aon := rfl
@[simp] theorem State.setCe_boot (k : Nat) (c : Ce) : (s.setCe k c).boot = s.boot := rfl
@[simp] theorem State.setCe_ports (k : Nat) (c : Ce) : (s.setCe k c).ports = s.ports := rfl
@[simp] theorem State.setCe_portWindow (k : Nat) (c : Ce) : (s.setCe k c).portWindow = s.portWindow := rfl
@[simp] theorem State.setCe_hdg (k : Nat) (c : Ce) : (s.setCe k c).hdg = s.hdg := rfl
@[simp] theorem State.setCe_tables (k : Nat) (c : Ce) : (s.setCe k c).tables = s.tables := rfl
@[simp] theorem State.setCe_dsp (k : Nat) (c : Ce) : (s.setCe k c).dsp = s.dsp := rfl
@[simp] theorem State.setCe_flow (k : Nat) (c : Ce) : (s.setCe k c).flow = s.flow := rfl
@[simp] theorem State.setCe_qm (k : Nat) (c : Ce) : (s.setCe k c).qm = s.qm := rfl
@[simp] theorem State.setCe_bpm (k : Nat) (c : Ce) : (s.setCe k c).bpm = s.bpm := rfl
@[simp] theorem State.setCe_sch (k : Nat) (c : Ce) : (s.setCe k c).sch = s.sch := rfl
@[simp] theorem State.setCe_tb (k : Nat) (c : Ce) : (s.setCe k c).tb = s.tb := rfl
@[simp] theorem State.setCe_stk (k : Nat) (c : Ce) : (s.setCe k c).stk = s.stk := rfl
@[simp] theorem State.setCe_dmc (k : Nat) (c : Ce) : (s.setCe k c).dmc = s.dmc := rfl
@[simp] theorem State.setCe_ecc (k : Nat) (c : Ce) : (s.setCe k c).ecc = s.ecc := rfl
@[simp] theorem State.setCe_dma (k : Nat) (c : Ce) : (s.setCe k c).dma = s.dma := rfl
@[simp] theorem State.setCe_pmc (k : Nat) (c : Ce) : (s.setCe k c).pmc = s.pmc := rfl
@[simp] theorem State.setCe_mgt (k : Nat) (c : Ce) : (s.setCe k c).mgt = s.mgt := rfl
@[simp] theorem State.setCe_test (k : Nat) (c : Ce) : (s.setCe k c).test = s.test := rfl

@[simp] theorem State.setRet_pending (o n v : Nat) : (s.setRet o n v).pending = s.pending := rfl
@[simp] theorem State.setRet_freeCtr (o n v : Nat) : (s.setRet o n v).freeCtr = s.freeCtr := rfl
@[simp] theorem State.setRet_regs (o n v : Nat) : (s.setRet o n v).regs = s.regs := rfl
@[simp] theorem State.setRet_ctrs (o n v : Nat) : (s.setRet o n v).ctrs = s.ctrs := rfl
@[simp] theorem State.setRet_shadows (o n v : Nat) : (s.setRet o n v).shadows = s.shadows := rfl
@[simp] theorem State.setRet_rdData (o n v : Nat) : (s.setRet o n v).rdData = s.rdData := rfl
@[simp] theorem State.setRet_mem (o n v : Nat) : (s.setRet o n v).mem = s.mem := rfl
@[simp] theorem State.setRet_measDomain (o n v : Nat) : (s.setRet o n v).measDomain = s.measDomain := rfl
@[simp] theorem State.setRet_supply (o n v : Nat) : (s.setRet o n v).supply = s.supply := rfl
@[simp] theorem State.setRet_fuses (o n v : Nat) : (s.setRet o n v).fuses = s.fuses := rfl
@[simp] theorem State.setRet_flash (o n v : Nat) : (s.setRet o n v).flash = s.flash := rfl
@[simp] theorem State.setRet_boot (o n v : Nat) : (s.setRet o n v).boot = s.boot := rfl
@[simp] theorem State.setRet_ports (o n v : Nat) : (s.setRet o n v).ports = s.ports := rfl
@[simp] theorem State.setRet_portWindow (o n v : Nat) : (s.setRet o n v).portWindow = s.portWindow := rfl
@[simp] theorem State.setRet_hdg (o n v : Nat) : (s.setRet o n v).hdg = s.hdg := rfl
@[simp] theorem State.setRet_tables (o n v : Nat) : (s.setRet o n v).tables = s.tables := rfl
@[simp] theorem State.setRet_dsp (o n v : Nat) : (s.setRet o n v).dsp = s.dsp := rfl
@[simp] theorem State.setRet_flume (o n v : Nat) : (s.setRet o n v).flume = s.flume := rfl
@[simp] theorem State.setRet_flow (o n v : Nat) : (s.setRet o n v).flow = s.flow := rfl
@[simp] theorem State.setRet_qm (o n v : Nat) : (s.setRet o n v).qm = s.qm := rfl
@[simp] theorem State.setRet_bpm (o n v : Nat) : (s.setRet o n v).bpm = s.bpm := rfl
@[simp] theorem State.setRet_sch (o n v : Nat) : (s.setRet o n v).sch = s.sch := rfl
@[simp] theorem State.setRet_tb (o n v : Nat) : (s.setRet o n v).tb = s.tb := rfl
@[simp] theorem State.setRet_stk (o n v : Nat) : (s.setRet o n v).stk = s.stk := rfl
@[simp] theorem State.setRet_dmc (o n v : Nat) : (s.setRet o n v).dmc = s.dmc := rfl
@[simp] theorem State.setRet_ecc (o n v : Nat) : (s.setRet o n v).ecc = s.ecc := rfl
@[simp] theorem State.setRet_dma (o n v : Nat) : (s.setRet o n v).dma = s.dma := rfl
@[simp] theorem State.setRet_pmc (o n v : Nat) : (s.setRet o n v).pmc = s.pmc := rfl
@[simp] theorem State.setRet_mgt (o n v : Nat) : (s.setRet o n v).mgt = s.mgt := rfl
@[simp] theorem State.setRet_test (o n v : Nat) : (s.setRet o n v).test = s.test := rfl

@[simp] theorem State.setRetFlag_pending (i : Nat) (b : Bool) : (s.setRetFlag i b).pending = s.pending := rfl
@[simp] theorem State.setRetFlag_freeCtr (i : Nat) (b : Bool) : (s.setRetFlag i b).freeCtr = s.freeCtr := rfl
@[simp] theorem State.setRetFlag_regs (i : Nat) (b : Bool) : (s.setRetFlag i b).regs = s.regs := rfl
@[simp] theorem State.setRetFlag_ctrs (i : Nat) (b : Bool) : (s.setRetFlag i b).ctrs = s.ctrs := rfl
@[simp] theorem State.setRetFlag_shadows (i : Nat) (b : Bool) : (s.setRetFlag i b).shadows = s.shadows := rfl
@[simp] theorem State.setRetFlag_rdData (i : Nat) (b : Bool) : (s.setRetFlag i b).rdData = s.rdData := rfl
@[simp] theorem State.setRetFlag_mem (i : Nat) (b : Bool) : (s.setRetFlag i b).mem = s.mem := rfl
@[simp] theorem State.setRetFlag_measDomain (i : Nat) (b : Bool) : (s.setRetFlag i b).measDomain = s.measDomain := rfl
@[simp] theorem State.setRetFlag_supply (i : Nat) (b : Bool) : (s.setRetFlag i b).supply = s.supply := rfl
@[simp] theorem State.setRetFlag_fuses (i : Nat) (b : Bool) : (s.setRetFlag i b).fuses = s.fuses := rfl
@[simp] theorem State.setRetFlag_flash (i : Nat) (b : Bool) : (s.setRetFlag i b).flash = s.flash := rfl
@[simp] theorem State.setRetFlag_boot (i : Nat) (b : Bool) : (s.setRetFlag i b).boot = s.boot := rfl
@[simp] theorem State.setRetFlag_ports (i : Nat) (b : Bool) : (s.setRetFlag i b).ports = s.ports := rfl
@[simp] theorem State.setRetFlag_portWindow (i : Nat) (b : Bool) : (s.setRetFlag i b).portWindow = s.portWindow := rfl
@[simp] theorem State.setRetFlag_hdg (i : Nat) (b : Bool) : (s.setRetFlag i b).hdg = s.hdg := rfl
@[simp] theorem State.setRetFlag_tables (i : Nat) (b : Bool) : (s.setRetFlag i b).tables = s.tables := rfl
@[simp] theorem State.setRetFlag_dsp (i : Nat) (b : Bool) : (s.setRetFlag i b).dsp = s.dsp := rfl
@[simp] theorem State.setRetFlag_flume (i : Nat) (b : Bool) : (s.setRetFlag i b).flume = s.flume := rfl
@[simp] theorem State.setRetFlag_flow (i : Nat) (b : Bool) : (s.setRetFlag i b).flow = s.flow := rfl
@[simp] theorem State.setRetFlag_qm (i : Nat) (b : Bool) : (s.setRetFlag i b).qm = s.qm := rfl
@[simp] theorem State.setRetFlag_bpm (i : Nat) (b : Bool) : (s.setRetFlag i b).bpm = s.bpm := rfl
@[simp] theorem State.setRetFlag_sch (i : Nat) (b : Bool) : (s.setRetFlag i b).sch = s.sch := rfl
@[simp] theorem State.setRetFlag_tb (i : Nat) (b : Bool) : (s.setRetFlag i b).tb = s.tb := rfl
@[simp] theorem State.setRetFlag_stk (i : Nat) (b : Bool) : (s.setRetFlag i b).stk = s.stk := rfl
@[simp] theorem State.setRetFlag_dmc (i : Nat) (b : Bool) : (s.setRetFlag i b).dmc = s.dmc := rfl
@[simp] theorem State.setRetFlag_ecc (i : Nat) (b : Bool) : (s.setRetFlag i b).ecc = s.ecc := rfl
@[simp] theorem State.setRetFlag_dma (i : Nat) (b : Bool) : (s.setRetFlag i b).dma = s.dma := rfl
@[simp] theorem State.setRetFlag_pmc (i : Nat) (b : Bool) : (s.setRetFlag i b).pmc = s.pmc := rfl
@[simp] theorem State.setRetFlag_mgt (i : Nat) (b : Bool) : (s.setRetFlag i b).mgt = s.mgt := rfl
@[simp] theorem State.setRetFlag_test (i : Nat) (b : Bool) : (s.setRetFlag i b).test = s.test := rfl

/-! ### Operations on registers and counters -/

/-- A write of RW fields changes the register file alone. -/
theorem State.storeRw_eq (a : Nat) (v : Word) : s.storeRw a v = { s with regs := (s.storeRw a v).regs } := by
  unfold State.storeRw; split <;> rfl

/-- Raising a source without counting it changes the register file alone. -/
theorem State.raiseBare_eq (n : Nat) : s.raiseBare n = { s with regs := (s.raiseBare n).regs } := by
  unfold State.raiseBare
  have : ∀ (l : List Nat) (t : State), l.foldl (fun t k => t.setBit (Reg.evcPending k (n / 32)) (n % 32) true) t =
      { t with regs := (l.foldl (fun t k => t.setBit (Reg.evcPending k (n / 32)) (n % 32) true) t).regs } := by
    intro l
    induction l with
    | nil => intro t; rfl
    | cons k l ih => intro t; rw [List.foldl_cons, ih]; rfl
  rw [this]; rfl

/-- `t` differs from `s` in registers and counters alone. -/
def State.RegsCtrs (s t : State) : Prop := t = { s with regs := t.regs, ctrs := t.ctrs }

theorem State.RegsCtrs.trans {s t u : State} (h : s.RegsCtrs t) (k : t.RegsCtrs u) : s.RegsCtrs u := by
  unfold State.RegsCtrs at *; rw [k, h]

theorem State.RegsCtrs.of_regs {s : State} (r : SMap Word) : s.RegsCtrs { s with regs := r } := rfl
theorem State.RegsCtrs.of_ctrs {s : State} (c : SMap Nat) : s.RegsCtrs { s with ctrs := c } := rfl

theorem State.regsCtrs_setCtr (a v : Nat) : s.RegsCtrs (s.setCtr a v) := State.RegsCtrs.of_ctrs _
theorem State.regsCtrs_setBit (a i : Nat) (b : Bool) : s.RegsCtrs (s.setBit a i b) := State.RegsCtrs.of_regs _

theorem State.regsCtrs_raiseBare (n : Nat) : s.RegsCtrs (s.raiseBare n) := by
  unfold State.RegsCtrs
  rw [State.raiseBare_eq]

theorem State.regsCtrs_pmcAdd (i n : Nat) : s.RegsCtrs (s.pmcAdd i n) := by
  unfold State.pmcAdd
  simp only
  split
  · split <;> exact (State.regsCtrs_setCtr _ _ _).trans (State.regsCtrs_setBit _ _ _ _)
  · exact State.regsCtrs_setCtr _ _ _

/-- A fold whose every step changes registers and counters alone does so too. -/
theorem foldl_regs_ctrs {α : Type} (f : State → α → State) (h : ∀ (t : State) e, t.RegsCtrs (f t e)) :
    ∀ (l : List α) (t : State), t.RegsCtrs (l.foldl f t) := by
  intro l
  induction l with
  | nil => intro t; rfl
  | cons e l ih => intro t; rw [List.foldl_cons]; exact (h t e).trans (ih _)

/-- Counting an event changes registers and counters alone. -/
theorem pmcCount_eq (k : Nat) : ∀ (s : State) (ev : Nat) (is : List Nat) (n : Nat), s.RegsCtrs (pmcCount k s ev is n) := by
  induction k with
  | zero => intros; rfl
  | succ k ih =>
    intro s ev is n
    unfold pmcCount
    split
    · rfl
    · apply foldl_regs_ctrs
      intro t e
      split
      · split
        · exact (((State.regsCtrs_pmcAdd _ _ _).trans (State.regsCtrs_setBit _ _ _ _)).trans
            (State.regsCtrs_raiseBare _ _)).trans (ih _ _ _ _)
        · exact State.regsCtrs_pmcAdd _ _ _
      · rfl

theorem State.count_eq (ev : Nat) (is : List Nat) (n : Nat) :
    s.count ev is n = { s with regs := (s.count ev is n).regs, ctrs := (s.count ev is n).ctrs } := pmcCount_eq 4 s ev is n

theorem State.raiseEvent_eq (n : Nat) :
    s.raiseEvent n = { s with regs := (s.raiseEvent n).regs, ctrs := (s.raiseEvent n).ctrs } := by
  unfold State.raiseEvent; rw [State.count_eq, State.raiseBare_eq]

theorem State.setEvent_eq (a b n : Nat) :
    s.setEvent a b n = { s with regs := (s.setEvent a b n).regs, ctrs := (s.setEvent a b n).ctrs } := by
  unfold State.setEvent; rw [State.raiseEvent_eq]; rfl

theorem State.spill_eq (i n : Nat) : s.spill i n = { s with regs := (s.spill i n).regs, ctrs := (s.spill i n).ctrs } := by
  unfold State.spill; rw [State.count_eq]; rfl

theorem State.accErr_eq (acc a k : Nat) (w : Bool) : s.accErr acc a k w = { s with regs := (s.accErr acc a k w).regs } := by
  unfold State.accErr; split <;> rfl

@[simp] theorem State.raiseBare_pending (n : Nat) : (s.raiseBare n).pending = s.pending := by rw [State.raiseBare_eq]
@[simp] theorem State.raiseBare_freeCtr (n : Nat) : (s.raiseBare n).freeCtr = s.freeCtr := by rw [State.raiseBare_eq]
@[simp] theorem State.raiseBare_ctrs (n : Nat) : (s.raiseBare n).ctrs = s.ctrs := by rw [State.raiseBare_eq]
@[simp] theorem State.raiseBare_shadows (n : Nat) : (s.raiseBare n).shadows = s.shadows := by rw [State.raiseBare_eq]
@[simp] theorem State.raiseBare_rdData (n : Nat) : (s.raiseBare n).rdData = s.rdData := by rw [State.raiseBare_eq]
@[simp] theorem State.raiseBare_mem (n : Nat) : (s.raiseBare n).mem = s.mem := by rw [State.raiseBare_eq]
@[simp] theorem State.raiseBare_measDomain (n : Nat) : (s.raiseBare n).measDomain = s.measDomain := by rw [State.raiseBare_eq]
@[simp] theorem State.raiseBare_supply (n : Nat) : (s.raiseBare n).supply = s.supply := by rw [State.raiseBare_eq]
@[simp] theorem State.raiseBare_fuses (n : Nat) : (s.raiseBare n).fuses = s.fuses := by rw [State.raiseBare_eq]
@[simp] theorem State.raiseBare_flash (n : Nat) : (s.raiseBare n).flash = s.flash := by rw [State.raiseBare_eq]
@[simp] theorem State.raiseBare_aon (n : Nat) : (s.raiseBare n).aon = s.aon := by rw [State.raiseBare_eq]
@[simp] theorem State.raiseBare_boot (n : Nat) : (s.raiseBare n).boot = s.boot := by rw [State.raiseBare_eq]
@[simp] theorem State.raiseBare_ports (n : Nat) : (s.raiseBare n).ports = s.ports := by rw [State.raiseBare_eq]
@[simp] theorem State.raiseBare_portWindow (n : Nat) : (s.raiseBare n).portWindow = s.portWindow := by rw [State.raiseBare_eq]
@[simp] theorem State.raiseBare_hdg (n : Nat) : (s.raiseBare n).hdg = s.hdg := by rw [State.raiseBare_eq]
@[simp] theorem State.raiseBare_tables (n : Nat) : (s.raiseBare n).tables = s.tables := by rw [State.raiseBare_eq]
@[simp] theorem State.raiseBare_dsp (n : Nat) : (s.raiseBare n).dsp = s.dsp := by rw [State.raiseBare_eq]
@[simp] theorem State.raiseBare_flume (n : Nat) : (s.raiseBare n).flume = s.flume := by rw [State.raiseBare_eq]
@[simp] theorem State.raiseBare_flow (n : Nat) : (s.raiseBare n).flow = s.flow := by rw [State.raiseBare_eq]
@[simp] theorem State.raiseBare_qm (n : Nat) : (s.raiseBare n).qm = s.qm := by rw [State.raiseBare_eq]
@[simp] theorem State.raiseBare_bpm (n : Nat) : (s.raiseBare n).bpm = s.bpm := by rw [State.raiseBare_eq]
@[simp] theorem State.raiseBare_sch (n : Nat) : (s.raiseBare n).sch = s.sch := by rw [State.raiseBare_eq]
@[simp] theorem State.raiseBare_tb (n : Nat) : (s.raiseBare n).tb = s.tb := by rw [State.raiseBare_eq]
@[simp] theorem State.raiseBare_stk (n : Nat) : (s.raiseBare n).stk = s.stk := by rw [State.raiseBare_eq]
@[simp] theorem State.raiseBare_dmc (n : Nat) : (s.raiseBare n).dmc = s.dmc := by rw [State.raiseBare_eq]
@[simp] theorem State.raiseBare_ecc (n : Nat) : (s.raiseBare n).ecc = s.ecc := by rw [State.raiseBare_eq]
@[simp] theorem State.raiseBare_dma (n : Nat) : (s.raiseBare n).dma = s.dma := by rw [State.raiseBare_eq]
@[simp] theorem State.raiseBare_pmc (n : Nat) : (s.raiseBare n).pmc = s.pmc := by rw [State.raiseBare_eq]
@[simp] theorem State.raiseBare_mgt (n : Nat) : (s.raiseBare n).mgt = s.mgt := by rw [State.raiseBare_eq]
@[simp] theorem State.raiseBare_test (n : Nat) : (s.raiseBare n).test = s.test := by rw [State.raiseBare_eq]
@[simp] theorem State.storeRw_pending (a : Nat) (v : Word) : (s.storeRw a v).pending = s.pending := by rw [State.storeRw_eq]
@[simp] theorem State.storeRw_freeCtr (a : Nat) (v : Word) : (s.storeRw a v).freeCtr = s.freeCtr := by rw [State.storeRw_eq]
@[simp] theorem State.storeRw_ctrs (a : Nat) (v : Word) : (s.storeRw a v).ctrs = s.ctrs := by rw [State.storeRw_eq]
@[simp] theorem State.storeRw_shadows (a : Nat) (v : Word) : (s.storeRw a v).shadows = s.shadows := by rw [State.storeRw_eq]
@[simp] theorem State.storeRw_rdData (a : Nat) (v : Word) : (s.storeRw a v).rdData = s.rdData := by rw [State.storeRw_eq]
@[simp] theorem State.storeRw_mem (a : Nat) (v : Word) : (s.storeRw a v).mem = s.mem := by rw [State.storeRw_eq]
@[simp] theorem State.storeRw_measDomain (a : Nat) (v : Word) : (s.storeRw a v).measDomain = s.measDomain := by rw [State.storeRw_eq]
@[simp] theorem State.storeRw_supply (a : Nat) (v : Word) : (s.storeRw a v).supply = s.supply := by rw [State.storeRw_eq]
@[simp] theorem State.storeRw_fuses (a : Nat) (v : Word) : (s.storeRw a v).fuses = s.fuses := by rw [State.storeRw_eq]
@[simp] theorem State.storeRw_flash (a : Nat) (v : Word) : (s.storeRw a v).flash = s.flash := by rw [State.storeRw_eq]
@[simp] theorem State.storeRw_aon (a : Nat) (v : Word) : (s.storeRw a v).aon = s.aon := by rw [State.storeRw_eq]
@[simp] theorem State.storeRw_boot (a : Nat) (v : Word) : (s.storeRw a v).boot = s.boot := by rw [State.storeRw_eq]
@[simp] theorem State.storeRw_ports (a : Nat) (v : Word) : (s.storeRw a v).ports = s.ports := by rw [State.storeRw_eq]
@[simp] theorem State.storeRw_portWindow (a : Nat) (v : Word) : (s.storeRw a v).portWindow = s.portWindow := by rw [State.storeRw_eq]
@[simp] theorem State.storeRw_hdg (a : Nat) (v : Word) : (s.storeRw a v).hdg = s.hdg := by rw [State.storeRw_eq]
@[simp] theorem State.storeRw_tables (a : Nat) (v : Word) : (s.storeRw a v).tables = s.tables := by rw [State.storeRw_eq]
@[simp] theorem State.storeRw_dsp (a : Nat) (v : Word) : (s.storeRw a v).dsp = s.dsp := by rw [State.storeRw_eq]
@[simp] theorem State.storeRw_flume (a : Nat) (v : Word) : (s.storeRw a v).flume = s.flume := by rw [State.storeRw_eq]
@[simp] theorem State.storeRw_flow (a : Nat) (v : Word) : (s.storeRw a v).flow = s.flow := by rw [State.storeRw_eq]
@[simp] theorem State.storeRw_qm (a : Nat) (v : Word) : (s.storeRw a v).qm = s.qm := by rw [State.storeRw_eq]
@[simp] theorem State.storeRw_bpm (a : Nat) (v : Word) : (s.storeRw a v).bpm = s.bpm := by rw [State.storeRw_eq]
@[simp] theorem State.storeRw_sch (a : Nat) (v : Word) : (s.storeRw a v).sch = s.sch := by rw [State.storeRw_eq]
@[simp] theorem State.storeRw_tb (a : Nat) (v : Word) : (s.storeRw a v).tb = s.tb := by rw [State.storeRw_eq]
@[simp] theorem State.storeRw_stk (a : Nat) (v : Word) : (s.storeRw a v).stk = s.stk := by rw [State.storeRw_eq]
@[simp] theorem State.storeRw_dmc (a : Nat) (v : Word) : (s.storeRw a v).dmc = s.dmc := by rw [State.storeRw_eq]
@[simp] theorem State.storeRw_ecc (a : Nat) (v : Word) : (s.storeRw a v).ecc = s.ecc := by rw [State.storeRw_eq]
@[simp] theorem State.storeRw_dma (a : Nat) (v : Word) : (s.storeRw a v).dma = s.dma := by rw [State.storeRw_eq]
@[simp] theorem State.storeRw_pmc (a : Nat) (v : Word) : (s.storeRw a v).pmc = s.pmc := by rw [State.storeRw_eq]
@[simp] theorem State.storeRw_mgt (a : Nat) (v : Word) : (s.storeRw a v).mgt = s.mgt := by rw [State.storeRw_eq]
@[simp] theorem State.storeRw_test (a : Nat) (v : Word) : (s.storeRw a v).test = s.test := by rw [State.storeRw_eq]
@[simp] theorem State.accErr_pending (acc a k : Nat) (w : Bool) : (s.accErr acc a k w).pending = s.pending := by rw [State.accErr_eq]
@[simp] theorem State.accErr_freeCtr (acc a k : Nat) (w : Bool) : (s.accErr acc a k w).freeCtr = s.freeCtr := by rw [State.accErr_eq]
@[simp] theorem State.accErr_ctrs (acc a k : Nat) (w : Bool) : (s.accErr acc a k w).ctrs = s.ctrs := by rw [State.accErr_eq]
@[simp] theorem State.accErr_shadows (acc a k : Nat) (w : Bool) : (s.accErr acc a k w).shadows = s.shadows := by rw [State.accErr_eq]
@[simp] theorem State.accErr_rdData (acc a k : Nat) (w : Bool) : (s.accErr acc a k w).rdData = s.rdData := by rw [State.accErr_eq]
@[simp] theorem State.accErr_mem (acc a k : Nat) (w : Bool) : (s.accErr acc a k w).mem = s.mem := by rw [State.accErr_eq]
@[simp] theorem State.accErr_measDomain (acc a k : Nat) (w : Bool) : (s.accErr acc a k w).measDomain = s.measDomain := by rw [State.accErr_eq]
@[simp] theorem State.accErr_supply (acc a k : Nat) (w : Bool) : (s.accErr acc a k w).supply = s.supply := by rw [State.accErr_eq]
@[simp] theorem State.accErr_fuses (acc a k : Nat) (w : Bool) : (s.accErr acc a k w).fuses = s.fuses := by rw [State.accErr_eq]
@[simp] theorem State.accErr_flash (acc a k : Nat) (w : Bool) : (s.accErr acc a k w).flash = s.flash := by rw [State.accErr_eq]
@[simp] theorem State.accErr_aon (acc a k : Nat) (w : Bool) : (s.accErr acc a k w).aon = s.aon := by rw [State.accErr_eq]
@[simp] theorem State.accErr_boot (acc a k : Nat) (w : Bool) : (s.accErr acc a k w).boot = s.boot := by rw [State.accErr_eq]
@[simp] theorem State.accErr_ports (acc a k : Nat) (w : Bool) : (s.accErr acc a k w).ports = s.ports := by rw [State.accErr_eq]
@[simp] theorem State.accErr_portWindow (acc a k : Nat) (w : Bool) : (s.accErr acc a k w).portWindow = s.portWindow := by rw [State.accErr_eq]
@[simp] theorem State.accErr_hdg (acc a k : Nat) (w : Bool) : (s.accErr acc a k w).hdg = s.hdg := by rw [State.accErr_eq]
@[simp] theorem State.accErr_tables (acc a k : Nat) (w : Bool) : (s.accErr acc a k w).tables = s.tables := by rw [State.accErr_eq]
@[simp] theorem State.accErr_dsp (acc a k : Nat) (w : Bool) : (s.accErr acc a k w).dsp = s.dsp := by rw [State.accErr_eq]
@[simp] theorem State.accErr_flume (acc a k : Nat) (w : Bool) : (s.accErr acc a k w).flume = s.flume := by rw [State.accErr_eq]
@[simp] theorem State.accErr_flow (acc a k : Nat) (w : Bool) : (s.accErr acc a k w).flow = s.flow := by rw [State.accErr_eq]
@[simp] theorem State.accErr_qm (acc a k : Nat) (w : Bool) : (s.accErr acc a k w).qm = s.qm := by rw [State.accErr_eq]
@[simp] theorem State.accErr_bpm (acc a k : Nat) (w : Bool) : (s.accErr acc a k w).bpm = s.bpm := by rw [State.accErr_eq]
@[simp] theorem State.accErr_sch (acc a k : Nat) (w : Bool) : (s.accErr acc a k w).sch = s.sch := by rw [State.accErr_eq]
@[simp] theorem State.accErr_tb (acc a k : Nat) (w : Bool) : (s.accErr acc a k w).tb = s.tb := by rw [State.accErr_eq]
@[simp] theorem State.accErr_stk (acc a k : Nat) (w : Bool) : (s.accErr acc a k w).stk = s.stk := by rw [State.accErr_eq]
@[simp] theorem State.accErr_dmc (acc a k : Nat) (w : Bool) : (s.accErr acc a k w).dmc = s.dmc := by rw [State.accErr_eq]
@[simp] theorem State.accErr_ecc (acc a k : Nat) (w : Bool) : (s.accErr acc a k w).ecc = s.ecc := by rw [State.accErr_eq]
@[simp] theorem State.accErr_dma (acc a k : Nat) (w : Bool) : (s.accErr acc a k w).dma = s.dma := by rw [State.accErr_eq]
@[simp] theorem State.accErr_pmc (acc a k : Nat) (w : Bool) : (s.accErr acc a k w).pmc = s.pmc := by rw [State.accErr_eq]
@[simp] theorem State.accErr_mgt (acc a k : Nat) (w : Bool) : (s.accErr acc a k w).mgt = s.mgt := by rw [State.accErr_eq]
@[simp] theorem State.accErr_test (acc a k : Nat) (w : Bool) : (s.accErr acc a k w).test = s.test := by rw [State.accErr_eq]
@[simp] theorem State.count_pending (ev : Nat) (is : List Nat) (n : Nat) : (s.count ev is n).pending = s.pending := by rw [State.count_eq]
@[simp] theorem State.count_freeCtr (ev : Nat) (is : List Nat) (n : Nat) : (s.count ev is n).freeCtr = s.freeCtr := by rw [State.count_eq]
@[simp] theorem State.count_shadows (ev : Nat) (is : List Nat) (n : Nat) : (s.count ev is n).shadows = s.shadows := by rw [State.count_eq]
@[simp] theorem State.count_rdData (ev : Nat) (is : List Nat) (n : Nat) : (s.count ev is n).rdData = s.rdData := by rw [State.count_eq]
@[simp] theorem State.count_mem (ev : Nat) (is : List Nat) (n : Nat) : (s.count ev is n).mem = s.mem := by rw [State.count_eq]
@[simp] theorem State.count_measDomain (ev : Nat) (is : List Nat) (n : Nat) : (s.count ev is n).measDomain = s.measDomain := by rw [State.count_eq]
@[simp] theorem State.count_supply (ev : Nat) (is : List Nat) (n : Nat) : (s.count ev is n).supply = s.supply := by rw [State.count_eq]
@[simp] theorem State.count_fuses (ev : Nat) (is : List Nat) (n : Nat) : (s.count ev is n).fuses = s.fuses := by rw [State.count_eq]
@[simp] theorem State.count_flash (ev : Nat) (is : List Nat) (n : Nat) : (s.count ev is n).flash = s.flash := by rw [State.count_eq]
@[simp] theorem State.count_aon (ev : Nat) (is : List Nat) (n : Nat) : (s.count ev is n).aon = s.aon := by rw [State.count_eq]
@[simp] theorem State.count_boot (ev : Nat) (is : List Nat) (n : Nat) : (s.count ev is n).boot = s.boot := by rw [State.count_eq]
@[simp] theorem State.count_ports (ev : Nat) (is : List Nat) (n : Nat) : (s.count ev is n).ports = s.ports := by rw [State.count_eq]
@[simp] theorem State.count_portWindow (ev : Nat) (is : List Nat) (n : Nat) : (s.count ev is n).portWindow = s.portWindow := by rw [State.count_eq]
@[simp] theorem State.count_hdg (ev : Nat) (is : List Nat) (n : Nat) : (s.count ev is n).hdg = s.hdg := by rw [State.count_eq]
@[simp] theorem State.count_tables (ev : Nat) (is : List Nat) (n : Nat) : (s.count ev is n).tables = s.tables := by rw [State.count_eq]
@[simp] theorem State.count_dsp (ev : Nat) (is : List Nat) (n : Nat) : (s.count ev is n).dsp = s.dsp := by rw [State.count_eq]
@[simp] theorem State.count_flume (ev : Nat) (is : List Nat) (n : Nat) : (s.count ev is n).flume = s.flume := by rw [State.count_eq]
@[simp] theorem State.count_flow (ev : Nat) (is : List Nat) (n : Nat) : (s.count ev is n).flow = s.flow := by rw [State.count_eq]
@[simp] theorem State.count_qm (ev : Nat) (is : List Nat) (n : Nat) : (s.count ev is n).qm = s.qm := by rw [State.count_eq]
@[simp] theorem State.count_bpm (ev : Nat) (is : List Nat) (n : Nat) : (s.count ev is n).bpm = s.bpm := by rw [State.count_eq]
@[simp] theorem State.count_sch (ev : Nat) (is : List Nat) (n : Nat) : (s.count ev is n).sch = s.sch := by rw [State.count_eq]
@[simp] theorem State.count_tb (ev : Nat) (is : List Nat) (n : Nat) : (s.count ev is n).tb = s.tb := by rw [State.count_eq]
@[simp] theorem State.count_stk (ev : Nat) (is : List Nat) (n : Nat) : (s.count ev is n).stk = s.stk := by rw [State.count_eq]
@[simp] theorem State.count_dmc (ev : Nat) (is : List Nat) (n : Nat) : (s.count ev is n).dmc = s.dmc := by rw [State.count_eq]
@[simp] theorem State.count_ecc (ev : Nat) (is : List Nat) (n : Nat) : (s.count ev is n).ecc = s.ecc := by rw [State.count_eq]
@[simp] theorem State.count_dma (ev : Nat) (is : List Nat) (n : Nat) : (s.count ev is n).dma = s.dma := by rw [State.count_eq]
@[simp] theorem State.count_pmc (ev : Nat) (is : List Nat) (n : Nat) : (s.count ev is n).pmc = s.pmc := by rw [State.count_eq]
@[simp] theorem State.count_mgt (ev : Nat) (is : List Nat) (n : Nat) : (s.count ev is n).mgt = s.mgt := by rw [State.count_eq]
@[simp] theorem State.count_test (ev : Nat) (is : List Nat) (n : Nat) : (s.count ev is n).test = s.test := by rw [State.count_eq]
@[simp] theorem State.raiseEvent_pending (n : Nat) : (s.raiseEvent n).pending = s.pending := by rw [State.raiseEvent_eq]
@[simp] theorem State.raiseEvent_freeCtr (n : Nat) : (s.raiseEvent n).freeCtr = s.freeCtr := by rw [State.raiseEvent_eq]
@[simp] theorem State.raiseEvent_shadows (n : Nat) : (s.raiseEvent n).shadows = s.shadows := by rw [State.raiseEvent_eq]
@[simp] theorem State.raiseEvent_rdData (n : Nat) : (s.raiseEvent n).rdData = s.rdData := by rw [State.raiseEvent_eq]
@[simp] theorem State.raiseEvent_mem (n : Nat) : (s.raiseEvent n).mem = s.mem := by rw [State.raiseEvent_eq]
@[simp] theorem State.raiseEvent_measDomain (n : Nat) : (s.raiseEvent n).measDomain = s.measDomain := by rw [State.raiseEvent_eq]
@[simp] theorem State.raiseEvent_supply (n : Nat) : (s.raiseEvent n).supply = s.supply := by rw [State.raiseEvent_eq]
@[simp] theorem State.raiseEvent_fuses (n : Nat) : (s.raiseEvent n).fuses = s.fuses := by rw [State.raiseEvent_eq]
@[simp] theorem State.raiseEvent_flash (n : Nat) : (s.raiseEvent n).flash = s.flash := by rw [State.raiseEvent_eq]
@[simp] theorem State.raiseEvent_aon (n : Nat) : (s.raiseEvent n).aon = s.aon := by rw [State.raiseEvent_eq]
@[simp] theorem State.raiseEvent_boot (n : Nat) : (s.raiseEvent n).boot = s.boot := by rw [State.raiseEvent_eq]
@[simp] theorem State.raiseEvent_ports (n : Nat) : (s.raiseEvent n).ports = s.ports := by rw [State.raiseEvent_eq]
@[simp] theorem State.raiseEvent_portWindow (n : Nat) : (s.raiseEvent n).portWindow = s.portWindow := by rw [State.raiseEvent_eq]
@[simp] theorem State.raiseEvent_hdg (n : Nat) : (s.raiseEvent n).hdg = s.hdg := by rw [State.raiseEvent_eq]
@[simp] theorem State.raiseEvent_tables (n : Nat) : (s.raiseEvent n).tables = s.tables := by rw [State.raiseEvent_eq]
@[simp] theorem State.raiseEvent_dsp (n : Nat) : (s.raiseEvent n).dsp = s.dsp := by rw [State.raiseEvent_eq]
@[simp] theorem State.raiseEvent_flume (n : Nat) : (s.raiseEvent n).flume = s.flume := by rw [State.raiseEvent_eq]
@[simp] theorem State.raiseEvent_flow (n : Nat) : (s.raiseEvent n).flow = s.flow := by rw [State.raiseEvent_eq]
@[simp] theorem State.raiseEvent_qm (n : Nat) : (s.raiseEvent n).qm = s.qm := by rw [State.raiseEvent_eq]
@[simp] theorem State.raiseEvent_bpm (n : Nat) : (s.raiseEvent n).bpm = s.bpm := by rw [State.raiseEvent_eq]
@[simp] theorem State.raiseEvent_sch (n : Nat) : (s.raiseEvent n).sch = s.sch := by rw [State.raiseEvent_eq]
@[simp] theorem State.raiseEvent_tb (n : Nat) : (s.raiseEvent n).tb = s.tb := by rw [State.raiseEvent_eq]
@[simp] theorem State.raiseEvent_stk (n : Nat) : (s.raiseEvent n).stk = s.stk := by rw [State.raiseEvent_eq]
@[simp] theorem State.raiseEvent_dmc (n : Nat) : (s.raiseEvent n).dmc = s.dmc := by rw [State.raiseEvent_eq]
@[simp] theorem State.raiseEvent_ecc (n : Nat) : (s.raiseEvent n).ecc = s.ecc := by rw [State.raiseEvent_eq]
@[simp] theorem State.raiseEvent_dma (n : Nat) : (s.raiseEvent n).dma = s.dma := by rw [State.raiseEvent_eq]
@[simp] theorem State.raiseEvent_pmc (n : Nat) : (s.raiseEvent n).pmc = s.pmc := by rw [State.raiseEvent_eq]
@[simp] theorem State.raiseEvent_mgt (n : Nat) : (s.raiseEvent n).mgt = s.mgt := by rw [State.raiseEvent_eq]
@[simp] theorem State.raiseEvent_test (n : Nat) : (s.raiseEvent n).test = s.test := by rw [State.raiseEvent_eq]
@[simp] theorem State.setEvent_pending (a b n : Nat) : (s.setEvent a b n).pending = s.pending := by rw [State.setEvent_eq]
@[simp] theorem State.setEvent_freeCtr (a b n : Nat) : (s.setEvent a b n).freeCtr = s.freeCtr := by rw [State.setEvent_eq]
@[simp] theorem State.setEvent_shadows (a b n : Nat) : (s.setEvent a b n).shadows = s.shadows := by rw [State.setEvent_eq]
@[simp] theorem State.setEvent_rdData (a b n : Nat) : (s.setEvent a b n).rdData = s.rdData := by rw [State.setEvent_eq]
@[simp] theorem State.setEvent_mem (a b n : Nat) : (s.setEvent a b n).mem = s.mem := by rw [State.setEvent_eq]
@[simp] theorem State.setEvent_measDomain (a b n : Nat) : (s.setEvent a b n).measDomain = s.measDomain := by rw [State.setEvent_eq]
@[simp] theorem State.setEvent_supply (a b n : Nat) : (s.setEvent a b n).supply = s.supply := by rw [State.setEvent_eq]
@[simp] theorem State.setEvent_fuses (a b n : Nat) : (s.setEvent a b n).fuses = s.fuses := by rw [State.setEvent_eq]
@[simp] theorem State.setEvent_flash (a b n : Nat) : (s.setEvent a b n).flash = s.flash := by rw [State.setEvent_eq]
@[simp] theorem State.setEvent_aon (a b n : Nat) : (s.setEvent a b n).aon = s.aon := by rw [State.setEvent_eq]
@[simp] theorem State.setEvent_boot (a b n : Nat) : (s.setEvent a b n).boot = s.boot := by rw [State.setEvent_eq]
@[simp] theorem State.setEvent_ports (a b n : Nat) : (s.setEvent a b n).ports = s.ports := by rw [State.setEvent_eq]
@[simp] theorem State.setEvent_portWindow (a b n : Nat) : (s.setEvent a b n).portWindow = s.portWindow := by rw [State.setEvent_eq]
@[simp] theorem State.setEvent_hdg (a b n : Nat) : (s.setEvent a b n).hdg = s.hdg := by rw [State.setEvent_eq]
@[simp] theorem State.setEvent_tables (a b n : Nat) : (s.setEvent a b n).tables = s.tables := by rw [State.setEvent_eq]
@[simp] theorem State.setEvent_dsp (a b n : Nat) : (s.setEvent a b n).dsp = s.dsp := by rw [State.setEvent_eq]
@[simp] theorem State.setEvent_flume (a b n : Nat) : (s.setEvent a b n).flume = s.flume := by rw [State.setEvent_eq]
@[simp] theorem State.setEvent_flow (a b n : Nat) : (s.setEvent a b n).flow = s.flow := by rw [State.setEvent_eq]
@[simp] theorem State.setEvent_qm (a b n : Nat) : (s.setEvent a b n).qm = s.qm := by rw [State.setEvent_eq]
@[simp] theorem State.setEvent_bpm (a b n : Nat) : (s.setEvent a b n).bpm = s.bpm := by rw [State.setEvent_eq]
@[simp] theorem State.setEvent_sch (a b n : Nat) : (s.setEvent a b n).sch = s.sch := by rw [State.setEvent_eq]
@[simp] theorem State.setEvent_tb (a b n : Nat) : (s.setEvent a b n).tb = s.tb := by rw [State.setEvent_eq]
@[simp] theorem State.setEvent_stk (a b n : Nat) : (s.setEvent a b n).stk = s.stk := by rw [State.setEvent_eq]
@[simp] theorem State.setEvent_dmc (a b n : Nat) : (s.setEvent a b n).dmc = s.dmc := by rw [State.setEvent_eq]
@[simp] theorem State.setEvent_ecc (a b n : Nat) : (s.setEvent a b n).ecc = s.ecc := by rw [State.setEvent_eq]
@[simp] theorem State.setEvent_dma (a b n : Nat) : (s.setEvent a b n).dma = s.dma := by rw [State.setEvent_eq]
@[simp] theorem State.setEvent_pmc (a b n : Nat) : (s.setEvent a b n).pmc = s.pmc := by rw [State.setEvent_eq]
@[simp] theorem State.setEvent_mgt (a b n : Nat) : (s.setEvent a b n).mgt = s.mgt := by rw [State.setEvent_eq]
@[simp] theorem State.setEvent_test (a b n : Nat) : (s.setEvent a b n).test = s.test := by rw [State.setEvent_eq]
@[simp] theorem State.spill_pending (i n : Nat) : (s.spill i n).pending = s.pending := by rw [State.spill_eq]
@[simp] theorem State.spill_freeCtr (i n : Nat) : (s.spill i n).freeCtr = s.freeCtr := by rw [State.spill_eq]
@[simp] theorem State.spill_shadows (i n : Nat) : (s.spill i n).shadows = s.shadows := by rw [State.spill_eq]
@[simp] theorem State.spill_rdData (i n : Nat) : (s.spill i n).rdData = s.rdData := by rw [State.spill_eq]
@[simp] theorem State.spill_mem (i n : Nat) : (s.spill i n).mem = s.mem := by rw [State.spill_eq]
@[simp] theorem State.spill_measDomain (i n : Nat) : (s.spill i n).measDomain = s.measDomain := by rw [State.spill_eq]
@[simp] theorem State.spill_supply (i n : Nat) : (s.spill i n).supply = s.supply := by rw [State.spill_eq]
@[simp] theorem State.spill_fuses (i n : Nat) : (s.spill i n).fuses = s.fuses := by rw [State.spill_eq]
@[simp] theorem State.spill_flash (i n : Nat) : (s.spill i n).flash = s.flash := by rw [State.spill_eq]
@[simp] theorem State.spill_aon (i n : Nat) : (s.spill i n).aon = s.aon := by rw [State.spill_eq]
@[simp] theorem State.spill_boot (i n : Nat) : (s.spill i n).boot = s.boot := by rw [State.spill_eq]
@[simp] theorem State.spill_ports (i n : Nat) : (s.spill i n).ports = s.ports := by rw [State.spill_eq]
@[simp] theorem State.spill_portWindow (i n : Nat) : (s.spill i n).portWindow = s.portWindow := by rw [State.spill_eq]
@[simp] theorem State.spill_hdg (i n : Nat) : (s.spill i n).hdg = s.hdg := by rw [State.spill_eq]
@[simp] theorem State.spill_tables (i n : Nat) : (s.spill i n).tables = s.tables := by rw [State.spill_eq]
@[simp] theorem State.spill_dsp (i n : Nat) : (s.spill i n).dsp = s.dsp := by rw [State.spill_eq]
@[simp] theorem State.spill_flume (i n : Nat) : (s.spill i n).flume = s.flume := by rw [State.spill_eq]
@[simp] theorem State.spill_flow (i n : Nat) : (s.spill i n).flow = s.flow := by rw [State.spill_eq]
@[simp] theorem State.spill_qm (i n : Nat) : (s.spill i n).qm = s.qm := by rw [State.spill_eq]
@[simp] theorem State.spill_bpm (i n : Nat) : (s.spill i n).bpm = s.bpm := by rw [State.spill_eq]
@[simp] theorem State.spill_sch (i n : Nat) : (s.spill i n).sch = s.sch := by rw [State.spill_eq]
@[simp] theorem State.spill_tb (i n : Nat) : (s.spill i n).tb = s.tb := by rw [State.spill_eq]
@[simp] theorem State.spill_stk (i n : Nat) : (s.spill i n).stk = s.stk := by rw [State.spill_eq]
@[simp] theorem State.spill_dmc (i n : Nat) : (s.spill i n).dmc = s.dmc := by rw [State.spill_eq]
@[simp] theorem State.spill_ecc (i n : Nat) : (s.spill i n).ecc = s.ecc := by rw [State.spill_eq]
@[simp] theorem State.spill_dma (i n : Nat) : (s.spill i n).dma = s.dma := by rw [State.spill_eq]
@[simp] theorem State.spill_pmc (i n : Nat) : (s.spill i n).pmc = s.pmc := by rw [State.spill_eq]
@[simp] theorem State.spill_mgt (i n : Nat) : (s.spill i n).mgt = s.mgt := by rw [State.spill_eq]
@[simp] theorem State.spill_test (i n : Nat) : (s.spill i n).test = s.test := by rw [State.spill_eq]

/-! ### The register file -/

/-- A register read after a register write. -/
@[simp] theorem State.rd_wr (a b : Nat) (v : Word) : (s.wr a v).rd b = if b = a then v else s.rd b := by
  simp only [State.rd, State.wr, SMap.getD_setD]
  by_cases h : b = a
  · subst h; by_cases hv : v = resetOf b <;> simp [hv]
  · simp [h]

theorem State.fld_wr (a b hi lo : Nat) (v : Word) : (s.wr a v).fld b hi lo = if b = a then Wbits v hi lo else s.fld b hi lo := by
  simp only [State.fld, State.rd_wr]; split <;> rfl

/-- A field read after a write of the same field. -/
theorem State.fld_setFld_same (a hi lo v : Nat) (hl : lo ≤ hi) (hh : hi < 32) :
    (s.setFld a hi lo v).fld a hi lo = v % 2 ^ (hi + 1 - lo) := by
  simp only [State.setFld, State.fld_wr, if_true, Wbits_Wput_same _ _ _ _ hl hh]

/-- A field read after a write of another field of the same register. -/
theorem State.fld_setFld_apart (a hi lo v h l : Nat) (hl : lo ≤ hi) (hh : hi < 32) (ho : h < lo ∨ hi < l) :
    (s.setFld a hi lo v).fld a h l = s.fld a h l := by
  rw [State.setFld, State.fld_wr, if_pos rfl, Wbits_Wput_other _ _ _ _ _ _ hl hh ho]; rfl

/-- A field read after a write of another register. -/
theorem State.fld_setFld_other (a b hi lo v h l : Nat) (hb : b ≠ a) : (s.setFld a hi lo v).fld b h l = s.fld b h l := by
  simp only [State.setFld, State.fld_wr, hb, if_false]

theorem State.rd_setFld_other (a b hi lo v : Nat) (hb : b ≠ a) : (s.setFld a hi lo v).rd b = s.rd b := by
  simp only [State.setFld, State.rd_wr, hb, if_false]

theorem State.bit_setBit_same (a i : Nat) (b : Bool) (hi : i < 32) : (s.setBit a i b).bit a i = b := by
  simp only [State.setBit, State.bit, State.fld_setFld_same _ _ _ _ _ (Nat.le_refl i) hi]
  cases b <;> simp [b2n]

theorem State.bit_setBit_other (a c i j : Nat) (b : Bool) (hi : i < 32) (h : c ≠ a ∨ j ≠ i) : (s.setBit a i b).bit c j = s.bit c j := by
  simp only [State.setBit, State.bit]
  by_cases hc : c = a
  · subst hc
    rw [State.fld_setFld_apart _ _ _ _ _ _ _ (Nat.le_refl i) hi (by omega)]
  · rw [State.fld_setFld_other _ _ _ _ _ _ _ _ hc]

theorem State.rd_setBit_other (a c i : Nat) (b : Bool) (hc : c ≠ a) : (s.setBit a i b).rd c = s.rd c := by
  simp only [State.setBit, State.rd_setFld_other _ _ _ _ _ _ hc]

/-- A counter after an addition. -/
@[simp] theorem State.ctr_bump (a b n : Nat) : (s.bump a n).ctr b = if b = a then (s.ctr a + n) % 2 ^ 64 else s.ctr b := by
  simp only [State.ctr, State.bump, State.setCtr, SMap.get_set]

@[simp] theorem State.rd_bump (a b n : Nat) : (s.bump a n).rd b = s.rd b := rfl
@[simp] theorem State.ctr_wr (a b : Nat) (v : Word) : (s.wr a v).ctr b = s.ctr b := rfl

end Sys2Proof.Machine
end

