-- ==== Sys2Proof/Laws/Events.lean ====
section
/-! SUPPORT. Registers and counters that raising or counting an event leaves alone: all outside the event controller's
and the performance counters' windows. -/
set_option Elab.async false
namespace Sys2Proof.Machine

variable (s : State)

theorem State.rd_raiseBare (n c : Nat) (hc : c < 0x700000) : (s.raiseBare n).rd c = s.rd c := by
  unfold State.raiseBare
  have : ∀ (l : List Nat) (t : State),
      (l.foldl (fun t k => t.setBit (Reg.evcPending k (n / 32)) (n % 32) true) t).rd c = t.rd c := by
    intro l
    induction l with
    | nil => intro t; rfl
    | cons k l ih =>
      intro t
      rw [List.foldl_cons, ih, State.rd_setBit_other]
      simp only [Reg.evcPending]; omega
  rw [this, State.rd_setFld_other]
  simp only [Reg.evcRaised]; omega

theorem State.rd_pmcAdd (i n c : Nat) (hc : c < 0x700000) : (s.pmcAdd i n).rd c = s.rd c := by
  unfold State.pmcAdd
  simp only
  split
  · split <;> rw [State.rd_setBit_other] <;> first | rfl | (simp only [Reg.pmcOvfLo, Reg.pmcOvfHi]; omega)
  · rfl

theorem rd_foldl {α : Type} (f : State → α → State) (c : Nat) (h : ∀ (t : State) e, (f t e).rd c = t.rd c) :
    ∀ (l : List α) (t : State), (l.foldl f t).rd c = t.rd c := by
  intro l
  induction l with
  | nil => intro t; rfl
  | cons e l ih => intro t; rw [List.foldl_cons, ih, h]

theorem rd_pmcCount (k c : Nat) (hc : c < 0x700000) :
    ∀ (s : State) (ev : Nat) (is : List Nat) (n : Nat), (pmcCount k s ev is n).rd c = s.rd c := by
  induction k with
  | zero => intros; rfl
  | succ k ih =>
    intro s ev is n
    unfold pmcCount
    split
    · rfl
    · apply rd_foldl
      intro t e
      split
      · split
        · rw [ih, State.rd_raiseBare _ _ _ hc, State.rd_setBit_other, State.rd_pmcAdd _ _ _ _ hc]
          simp only [Reg.pmcEvents]; omega
        · exact State.rd_pmcAdd _ _ _ _ hc
      · rfl

theorem State.rd_count (ev : Nat) (is : List Nat) (n c : Nat) (hc : c < 0x700000) : (s.count ev is n).rd c = s.rd c :=
  rd_pmcCount 4 c hc s ev is n

theorem State.rd_raiseEvent (n c : Nat) (hc : c < 0x700000) : (s.raiseEvent n).rd c = s.rd c := by
  unfold State.raiseEvent; rw [State.rd_count _ _ _ _ _ hc, State.rd_raiseBare _ _ _ hc]

theorem State.rd_setEvent (a b n c : Nat) (hc : c < 0x700000) : (s.setEvent a b n).rd c = (s.setBit a b true).rd c := by
  unfold State.setEvent; rw [State.rd_raiseEvent _ _ _ hc]

theorem State.ctr_raiseBare (n c : Nat) : (s.raiseBare n).ctr c = s.ctr c := by rw [State.raiseBare_eq]; rfl

theorem ctr_foldl {α : Type} (f : State → α → State) (c : Nat) (h : ∀ (t : State) e, (f t e).ctr c = t.ctr c) :
    ∀ (l : List α) (t : State), (l.foldl f t).ctr c = t.ctr c := by
  intro l
  induction l with
  | nil => intro t; rfl
  | cons e l ih => intro t; rw [List.foldl_cons, ih, h]

theorem State.ctr_setBit (a i : Nat) (b : Bool) (c : Nat) : (s.setBit a i b).ctr c = s.ctr c := rfl

theorem State.ctr_pmcAdd (i n c : Nat) (hc : c < 0x740000) : (s.pmcAdd i n).ctr c = s.ctr c := by
  have h : (s.setCtr (Reg.pmcCnt i) ((s.ctr (Reg.pmcCnt i) + n) % 2 ^ 48)).ctr c = s.ctr c := by
    simp only [State.ctr, State.setCtr, SMap.get_set]
    rw [if_neg]; simp only [Reg.pmcCnt]; omega
  unfold State.pmcAdd
  simp only
  split
  · split <;> exact h
  · exact h

theorem ctr_pmcCount (k c : Nat) (hc : c < 0x740000) :
    ∀ (s : State) (ev : Nat) (is : List Nat) (n : Nat), (pmcCount k s ev is n).ctr c = s.ctr c := by
  induction k with
  | zero => intros; rfl
  | succ k ih =>
    intro s ev is n
    unfold pmcCount
    split
    · rfl
    · apply ctr_foldl
      intro t e
      split
      · split
        · rw [ih, State.ctr_raiseBare, State.ctr_setBit, State.ctr_pmcAdd _ _ _ _ hc]
        · exact State.ctr_pmcAdd _ _ _ _ hc
      · rfl

theorem State.ctr_count (ev : Nat) (is : List Nat) (n c : Nat) (hc : c < 0x740000) : (s.count ev is n).ctr c = s.ctr c :=
  ctr_pmcCount 4 c hc s ev is n

theorem State.ctr_raiseEvent (n c : Nat) (hc : c < 0x740000) : (s.raiseEvent n).ctr c = s.ctr c := by
  unfold State.raiseEvent; rw [State.ctr_count _ _ _ _ _ hc, State.ctr_raiseBare]

end Sys2Proof.Machine
end

