-- ==== Sys2Proof/Laws/Flume.lean ====
section
/-! SUPPORT. What the issue of a Flume instruction does, said once. -/
set_option Elab.async false
namespace Sys2Proof.Machine

/-- Everything an issue answers: no such issuer, nothing issued, or the instruction run. -/
theorem issue_cases (w : Who) (o : OpSpec) (s : State) (body : Body) :
    (w.wf = false ∧ issue w o s body = .fault .illFormed) ∨
    (w.wf = true ∧ issue w o s body = .next s) ∨
    (w.wf = true ∧ s.issues w = true ∧ Nat.land (s.wordOf w) o.mask = o.pat ∧ issue w o s body = .next (runInstr w o s body)) := by
  unfold issue State.wordOf
  generalize Nat.land (s.instrAt w (s.arch w).pc) o.mask = n
  cases w.wf
  · simp
  · cases s.issues w
    · simp
    · by_cases h : n = o.pat <;> simp [h]

/-- An instruction at its word issues. -/
theorem issue_next {w : Who} {o : OpSpec} {s : State} {body : Body} (hw : w.wf = true) (hi : s.issues w = true)
    (hm : Nat.land (s.wordOf w) o.mask = o.pat) : issue w o s body = .next (runInstr w o s body) := by
  have hm' : (Nat.land (s.instrAt w (s.arch w).pc) o.mask == o.pat) = true := beq_iff_eq.mpr hm
  simp only [issue, hw, hi, hm', Bool.not_true, Bool.and_self, if_true, Bool.false_eq_true, if_false]

/-- The checks of R421 pass for an instruction of any engine that leaves the return stack alone. -/
theorem check_none {o : OpSpec} {w : Who} {a : Arch} {i : Nat} (hh : o.helper = false) (hc : o.control = false)
    (hr : Nat.land i o.resv = 0) (hp : o.pops ≤ a.ds.length) (hq : a.ds.length - o.pops + o.pushes ≤ 16)
    (h1 : o.rpop = false) (h2 : o.rpush = false) : o.check w a i = none := by
  unfold OpSpec.check
  have hp' : ¬ a.ds.length < o.pops := by omega
  have hq' : ¬ 16 < a.ds.length - o.pops + o.pushes := by omega
  simp only [hh, hc, hr, h1, h2, hp', hq', ne_eq, not_true_eq_false, if_false, Bool.false_eq_true, false_and]

/-- An instruction whose checks pass and whose body succeeds. -/
theorem runInstr_ok {w : Who} {o : OpSpec} {s : State} {body : Body} {d : Done}
    (hc : o.check w (s.arch w) (s.wordOf w) = none)
    (hb : body (s.issued w (s.wordOf w)) (s.arch w) (s.wordOf w) = .ok d) :
    runInstr w o s body = (d.s.setArch w (completeArch w (s.arch w).pc d)).holdRepx w := by
  unfold State.wordOf at hc hb
  simp only [runInstr, hc, hb]

/-- An instruction that fails a check takes the fault. -/
theorem runInstr_check {w : Who} {o : OpSpec} {s : State} {body : Body} {c u : Nat}
    (hc : o.check w (s.arch w) (s.wordOf w) = some (c, u)) : runInstr w o s body = s.faults w c u := by
  unfold State.wordOf at hc
  simp only [runInstr, hc, State.faults, State.counted, State.wordOf]

/-- An instruction whose body takes a fault. -/
theorem runInstr_error {w : Who} {o : OpSpec} {s : State} {body : Body} {c u : Nat}
    (hc : o.check w (s.arch w) (s.wordOf w) = none)
    (hb : body (s.issued w (s.wordOf w)) (s.arch w) (s.wordOf w) = .error (c, u)) :
    runInstr w o s body = s.faults w c u := by
  unfold State.wordOf at hc hb
  simp only [runInstr, hc, hb, State.faults, State.counted, State.wordOf]

/-- An instruction that works on its issuer's registers alone. -/
theorem issue_leaves {w : Who} {o : OpSpec} {s : State} {body : Body} {a : Arch} {j : Bool}
    (h : s.atWord w o.mask o.pat o.resv) (hc : o.check w (s.arch w) (s.wordOf w) = none)
    (hb : ∀ t, body t (s.arch w) (s.wordOf w) = .ok { s := t, a := a, jump := j }) :
    issue w o s body = .next (s.leaves w a j) := by
  rw [issue_next h.1 h.2.1 h.2.2.1, runInstr_ok hc (hb _)]
  rfl

/-- An instruction that only rearranges the data stack. -/
theorem issue_stack {w : Who} {o : OpSpec} {s : State} {f : List Word → List Word}
    (h : s.atWord w o.mask o.pat o.resv) (hh : o.helper = false) (hc : o.control = false)
    (h1 : o.rpop = false) (h2 : o.rpush = false)
    (hp : o.pops ≤ (s.arch w).ds.length) (hq : (s.arch w).ds.length - o.pops + o.pushes ≤ 16) :
    issue w o s (stackBody f) = .next (s.leavesStack w (f (s.arch w).ds)) :=
  issue_leaves h (check_none hh hc h.2.2.2 hp hq h1 h2) fun _ => rfl

end Sys2Proof.Machine
end

