-- ==== Sys2Proof/Laws/Memory.lean ====
section
/-! SUPPORT. Laws of the byte memories: a read after a write, what a write leaves alone, and the canonical form, which every
operation keeps. -/
set_option Elab.async false
namespace Sys2Proof.Machine

/-! ### Stretches of undefined bytes -/

theorem Junk.covers_iff (j : Junk) (a : Nat) : j.covers a = true ↔ j.lo ≤ a ∧ a < j.hi := by
  simp [Junk.covers]

/-- What is left of a stretch covers what the stretch covered outside the addresses taken out, under the same number. -/
theorem Junk.find_without (j : Junk) (lo hi b : Nat) (h : lo < hi) (hb : b < lo ∨ hi ≤ b) :
    ((j.without lo hi).find? fun k => k.covers b).map Junk.c = if j.covers b then some j.c else none := by
  unfold Junk.without
  by_cases h1 : j.lo < min j.hi lo <;> by_cases h2 : max j.lo hi < j.hi <;> by_cases c : j.lo ≤ b <;>
    by_cases d : b < j.hi <;> by_cases e : b < lo <;> by_cases f : hi ≤ b <;>
    first
      | (exfalso; omega)
      | simp [h1, h2, List.filter_cons, List.find?_cons, Junk.covers, c, d, e, f]

theorem Junk.without_mem {j k : Junk} {lo hi : Nat} (h : k ∈ j.without lo hi) :
    k.lo < k.hi ∧ k.c = j.c ∧ j.lo ≤ k.lo ∧ k.hi ≤ j.hi ∧ (k.hi ≤ lo ∨ hi ≤ k.lo) := by
  unfold Junk.without at h
  rw [List.mem_filter] at h
  obtain ⟨h, hk⟩ := h
  have hk := of_decide_eq_true hk
  rcases List.mem_cons.mp h with h | h
  · subst h
    exact ⟨hk, rfl, le_refl _, Nat.min_le_left _ _, .inl (Nat.min_le_right _ _)⟩
  · rcases List.mem_singleton.mp h with rfl
    exact ⟨hk, rfl, Nat.le_max_left _ _, le_refl _, .inr (Nat.le_max_right _ _)⟩

theorem junkRising_cons (j : Junk) (r : List Junk) :
    junkRising (j :: r) = true ↔ j.lo < j.hi ∧ (∀ k ∈ r, j.hi ≤ k.lo) ∧ junkRising r = true := by
  simp [junkRising, and_assoc]

theorem junkRising_append {l r : List Junk} (hl : junkRising l = true) (hr : junkRising r = true)
    (h : ∀ j ∈ l, ∀ k ∈ r, j.hi ≤ k.lo) : junkRising (l ++ r) = true := by
  induction l with
  | nil => exact hr
  | cons j l ih =>
    rw [junkRising_cons] at hl
    rw [List.cons_append, junkRising_cons]
    refine ⟨hl.1, fun k hk => ?_, ih hl.2.2 fun i hi => h i (List.mem_cons_of_mem _ hi)⟩
    rcases List.mem_append.mp hk with hk | hk
    · exact hl.2.1 k hk
    · exact h j List.mem_cons_self k hk

theorem Junk.without_rising (j : Junk) (lo hi : Nat) (h : lo ≤ hi) : junkRising (j.without lo hi) = true := by
  unfold Junk.without
  by_cases h1 : j.lo < min j.hi lo <;> by_cases h2 : max j.lo hi < j.hi <;>
    simp [h1, h2, List.filter_cons, junkRising] <;> omega

/-- Taking addresses out of every stretch keeps the stretches rising. -/
theorem junkRising_without (l : List Junk) (lo hi : Nat) (h : lo ≤ hi) (hl : junkRising l = true) :
    junkRising (l.flatMap fun j => j.without lo hi) = true := by
  induction l with
  | nil => rfl
  | cons j l ih =>
    rw [junkRising_cons] at hl
    rw [List.flatMap_cons]
    refine junkRising_append (j.without_rising lo hi h) (ih hl.2.2) fun i hi k hk => ?_
    obtain ⟨m, hm, hk⟩ := List.mem_flatMap.mp hk
    have := hl.2.1 m hm
    have a := Junk.without_mem hi
    have b := Junk.without_mem hk
    omega

theorem mem_junkPut {j k : Junk} {l : List Junk} (h : k ∈ junkPut j l) : k = j ∨ k ∈ l := by
  induction l with
  | nil => simpa [junkPut] using h
  | cons i l ih =>
    simp only [junkPut] at h
    split at h
    · exact List.mem_cons.mp h
    · rcases List.mem_cons.mp h with h | h
      · exact .inr (h ▸ List.mem_cons_self)
      · exact (ih h).imp id (List.mem_cons_of_mem _)

theorem junkRising_put {j : Junk} {l : List Junk} (hj : j.lo < j.hi) (hl : junkRising l = true)
    (h : ∀ k ∈ l, k.hi ≤ j.lo ∨ j.hi ≤ k.lo) : junkRising (junkPut j l) = true := by
  induction l with
  | nil => simp [junkPut, junkRising, hj]
  | cons i l ih =>
    have hl' := hl
    rw [junkRising_cons] at hl
    have hi := h i List.mem_cons_self
    simp only [junkPut]
    split
    · rw [junkRising_cons]
      refine ⟨hj, fun k hk => ?_, hl'⟩
      rcases List.mem_cons.mp hk with rfl | hk
      · omega
      · have := hl.2.1 k hk; omega
    · rw [junkRising_cons]
      refine ⟨hl.1, fun k hk => ?_, ih hl.2.2 fun k hk => h k (List.mem_cons_of_mem _ hk)⟩
      rcases mem_junkPut hk with rfl | hk
      · omega
      · exact hl.2.1 k hk

namespace Mem

/-! ### Reads after writes -/

theorem unlisted_eq (m : Mem) (a : Nat) :
    m.unlisted a = match (m.junk.find? fun j => j.covers a).map Junk.c with
      | some c => BitVec.ofNat 8 (Config.freeValue (c + a))
      | none => 0 := by
  unfold unlisted
  cases m.junk.find? fun j => j.covers a <;> rfl

theorem find_flatMap (l : List Junk) (lo hi b : Nat) (h : lo < hi) (hb : b < lo ∨ hi ≤ b) :
    ((l.flatMap fun j => j.without lo hi).find? fun k => k.covers b).map Junk.c = (l.find? fun j => j.covers b).map Junk.c := by
  induction l with
  | nil => rfl
  | cons j l ih =>
    rw [List.flatMap_cons, List.find?_append, List.find?_cons]
    have e := j.find_without lo hi b h hb
    cases hc : j.covers b with
    | true =>
      rw [hc, if_pos rfl] at e
      cases hf : (j.without lo hi).find? fun k => k.covers b with
      | none => rw [hf] at e; simp at e
      | some k => rw [hf] at e; simpa using e
    | false =>
      rw [hc, if_neg (by simp)] at e
      cases hf : (j.without lo hi).find? fun k => k.covers b with
      | none => simpa using ih
      | some k => rw [hf] at e; simp at e

theorem find_none (l : List Junk) (lo hi b : Nat) (h1 : lo ≤ b) (h2 : b < hi) :
    (l.flatMap fun j => j.without lo hi).find? (fun k => k.covers b) = none := by
  rw [List.find?_eq_none]
  intro k hk
  obtain ⟨j, _, hk⟩ := List.mem_flatMap.mp hk
  have := Junk.without_mem hk
  rw [Junk.covers_iff]
  omega

/-- A read after a store of one byte. -/
@[simp] theorem get_set (m : Mem) (a b : Nat) (v : Byte) : (m.set a v).get b = if b = a then v else m.get b := by
  have hd : (default : Byte) = 0 := rfl
  by_cases h : b = a
  · subst h
    simp only [get, set, SMap.set, SMap.getD_setD, if_pos, hd]
    split
    · rename_i h0
      rw [unlisted_eq, find_none m.junk b (b + 1) b (le_refl _) (Nat.lt_succ_self _)]
      exact h0.symm
    · rfl
  · simp only [get, set, SMap.set, SMap.getD_setD, if_neg h]
    rw [unlisted_eq, unlisted_eq m, find_flatMap m.junk a (a + 1) b (Nat.lt_succ_self _) (by omega)]

/-- A read outside the bytes stored. -/
theorem get_putBytes_ne (m : Mem) (a b : Nat) (l : List Byte) (h : b < a ∨ a + l.length ≤ b) :
    (m.putBytes a l).get b = m.get b := by
  induction l generalizing m a with
  | nil => rfl
  | cons x l ih =>
    simp only [List.length_cons] at h
    rw [putBytes, ih _ _ (by omega), get_set, if_neg (by omega)]

/-- A read of a byte stored. -/
theorem get_putBytes (m : Mem) (a i : Nat) (l : List Byte) (h : i < l.length) : (m.putBytes a l).get (a + i) = l[i] := by
  induction l generalizing m a i with
  | nil => simp at h
  | cons x l ih =>
    rw [putBytes]
    cases i with
    | zero => rw [get_putBytes_ne _ _ _ _ (by omega), get_set]; simp
    | succ i =>
      rw [show a + (i + 1) = a + 1 + i by omega, ih _ _ _ (by simpa using h)]
      rfl

@[simp] theorem getBytes_length (m : Mem) (a n : Nat) : (m.getBytes a n).length = n := by simp [getBytes]

/-- What is stored is read back. -/
theorem getBytes_putBytes (m : Mem) (a : Nat) (l : List Byte) : (m.putBytes a l).getBytes a l.length = l := by
  apply List.ext_getElem (by simp)
  intro i h1 h2
  simp only [getBytes, List.getElem_map, List.getElem_range]
  exact m.get_putBytes a i l h2

@[simp] theorem get_empty (a : Nat) : (({} : Mem)).get a = 0 := rfl

/-! ### The canonical form -/

theorem wf_iff (m : Mem) : m.wf = true ↔
    m.cells.wf = true ∧ junkRising m.junk = true ∧ ∀ e ∈ m.cells.entries, ∀ j ∈ m.junk, j.covers e.1 = false := by
  simp [wf, and_assoc]

theorem wf_empty : (({} : Mem)).wf = true := rfl

/-- A store keeps the canonical form. -/
theorem wf_set {m : Mem} (h : m.wf = true) (a : Nat) (v : Byte) : (m.set a v).wf = true := by
  rw [wf_iff] at h ⊢
  refine ⟨SMap.wf_set h.1 a v, junkRising_without _ _ _ (by omega) h.2.1, fun e he k hk => ?_⟩
  obtain ⟨j, hj, hk⟩ := List.mem_flatMap.mp hk
  have hw := Junk.without_mem hk
  rw [Bool.eq_false_iff, Ne, Junk.covers_iff]
  intro hc
  have he' : e.1 = a ∨ e ∈ m.cells.entries := by
    simp only [set, SMap.set, SMap.setD] at he
    split at he
    · exact .inr (List.mem_of_mem_filter he)
    · exact (SMap.mem_put he).imp (fun x => by rw [x]) id
  rcases he' with he' | he'
  · omega
  · have := h.2.2 e he' j hj
    rw [Bool.eq_false_iff, Ne, Junk.covers_iff] at this
    omega

theorem wf_putBytes {m : Mem} (h : m.wf = true) (a : Nat) (l : List Byte) : (m.putBytes a l).wf = true := by
  induction l generalizing m a with
  | nil => exact h
  | cons x l ih => exact ih (wf_set h a x) _

theorem wf_clearRange {m : Mem} (h : m.wf = true) (a n : Nat) : (m.clearRange a n).wf = true := by
  rw [wf_iff] at h ⊢
  refine ⟨SMap.wf_filter h.1 _, junkRising_without _ _ _ (by omega) h.2.1, fun e he k hk => ?_⟩
  obtain ⟨j, hj, hk⟩ := List.mem_flatMap.mp hk
  have hw := Junk.without_mem hk
  have := h.2.2 e (List.mem_of_mem_filter he) j hj
  rw [Bool.eq_false_iff, Ne, Junk.covers_iff] at this ⊢
  omega

theorem wf_undefine {m : Mem} (h : m.wf = true) (a n c : Nat) : (m.undefine a n c).wf = true := by
  have hc := wf_clearRange h a n
  unfold undefine
  split
  · rename_i h0
    rw [wf_iff] at h hc ⊢
    exact ⟨hc.1, h.2.1, fun e he => h.2.2 e (List.mem_of_mem_filter he)⟩
  · rename_i h0
    rw [wf_iff] at hc ⊢
    refine ⟨hc.1, junkRising_put (by simp only; omega) hc.2.1 fun k hk => ?_, fun e he k hk => ?_⟩
    · obtain ⟨j, _, hk⟩ := List.mem_flatMap.mp hk
      have := (Junk.without_mem hk).2.2.2.2
      simp only; omega
    · rcases mem_junkPut hk with rfl | hk
      · have hp := (List.mem_filter.mp he).2
        simp only [Bool.or_eq_true, decide_eq_true_eq] at hp
        rw [Bool.eq_false_iff, Ne, Junk.covers_iff]
        simp only; omega
      · exact hc.2.2 e he k hk

theorem keep_rising (l : List Junk) (lo hi : Nat) (h : junkRising l = true) :
    junkRising ((l.map fun j => { j with lo := max j.lo lo, hi := min j.hi hi }).filter fun j => decide (j.lo < j.hi)) = true := by
  induction l with
  | nil => rfl
  | cons j l ih =>
    rw [junkRising_cons] at h
    rw [List.map_cons, List.filter_cons]
    split
    · rename_i hd
      rw [junkRising_cons]
      refine ⟨of_decide_eq_true hd, fun k hk => ?_, ih h.2.2⟩
      obtain ⟨i, hi, rfl⟩ := List.mem_map.mp (List.mem_of_mem_filter hk)
      have := h.2.1 i hi
      simp only; omega
    · exact ih h.2.2

theorem wf_keep {m : Mem} (h : m.wf = true) (lo hi : Nat) : (m.keep lo hi).wf = true := by
  rw [wf_iff] at h ⊢
  refine ⟨SMap.wf_filter h.1 _, keep_rising _ _ _ h.2.1, fun e he k hk => ?_⟩
  obtain ⟨j, hj, rfl⟩ := List.mem_map.mp (List.mem_of_mem_filter hk)
  have := h.2.2 e (List.mem_of_mem_filter he) j hj
  rw [Bool.eq_false_iff, Ne, Junk.covers_iff] at this ⊢
  simp only; omega

end Mem

/-! ### Flash and retention RAM -/

theorem get_putBytes_ne (m : SMap Byte) (a b : Nat) (l : List Byte) (h : b < a ∨ a + l.length ≤ b) :
    (putBytes m a l).get b = m.get b := by
  induction l generalizing m a with
  | nil => rfl
  | cons x l ih =>
    simp only [List.length_cons] at h
    rw [putBytes, ih _ _ (by omega), SMap.get_set, if_neg (by omega)]

theorem get_putBytes (m : SMap Byte) (a i : Nat) (l : List Byte) (h : i < l.length) : (putBytes m a l).get (a + i) = l[i] := by
  induction l generalizing m a i with
  | nil => simp at h
  | cons x l ih =>
    rw [putBytes]
    cases i with
    | zero => rw [get_putBytes_ne _ _ _ _ (by omega), SMap.get_set]; simp
    | succ i =>
      rw [show a + (i + 1) = a + 1 + i by omega, ih _ _ _ (by simpa using h)]
      rfl

theorem wf_putBytes {m : SMap Byte} (h : m.wf = true) (a : Nat) (l : List Byte) : (putBytes m a l).wf = true := by
  induction l generalizing m a with
  | nil => exact h
  | cons x l ih => exact ih (SMap.wf_set h a x) _

theorem wf_clearRange {m : SMap Byte} (h : m.wf = true) (a n : Nat) : (clearRange m a n).wf = true := SMap.wf_filter h _

/-! ### The module's memories -/

theorem State.reset_memories :
    State.reset.mem.wf = true ∧ State.reset.flash.bytes.wf = true ∧ State.reset.aon.retention.wf = true := ⟨rfl, rfl, rfl⟩

theorem State.mem_stBytes_wf {s : State} (h : s.mem.wf = true) (a : Nat) (l : List Byte) : (s.stBytes a l).mem.wf = true :=
  Mem.wf_putBytes h a l

/-- A byte read after a store. -/
theorem State.mem_stBytes_ne (s : State) (a b : Nat) (l : List Byte) (h : b < a ∨ a + l.length ≤ b) :
    (s.stBytes a l).mem.get b = s.mem.get b := Mem.get_putBytes_ne _ _ _ _ h

end Sys2Proof.Machine
end

