-- ==== Sys2Proof/Laws/PerInstr.lean ====
section
/-! SUPPORT. What a well-formed command names, command by command: an accessor that reaches registers is one of the seven
of R172, and the issuer of a Flume instruction exists (R375, R399). -/
set_option Elab.async false
namespace Sys2Proof.Laws.Described

/-- The accessor of a register command. -/
def accessor : Instr → Option Nat
  | .freqMeasure acc _ => some acc
  | .pgGateWrite acc _ => some acc
  | .throttleCeilingWrite acc _ => some acc
  | .shedClr acc _ => some acc
  | .fuseRearm acc _ => some acc
  | .registerWrite acc _ _ => some acc
  | .svnRaise acc _ => some acc
  | .keyRevoke acc _ => some acc
  | .confirm acc _ => some acc
  | .restartCommand acc _ => some acc
  | .syswdKick acc _ => some acc
  | .pgCtrlWrite acc _ _ => some acc
  | .portCtrlWrite acc _ _ => some acc
  | .ucWrite acc _ => some acc
  | .ucRead acc _ => some acc
  | .hdgCtrlWrite acc _ => some acc
  | .weirCmdWrite acc _ => some acc
  | .weirCmdInvalidate acc _ => some acc
  | .weirCmdRead acc _ => some acc
  | .weirCmdSearch acc _ => some acc
  | .weirCtrlWrite acc _ => some acc
  | .missAdCommit acc _ => some acc
  | .profileCommit acc _ _ => some acc
  | .emtInsert acc _ => some acc
  | .emtDelete acc _ => some acc
  | .emtCmdLookup acc _ => some acc
  | .emtCmdRead acc _ => some acc
  | .emtInvalidate acc _ => some acc
  | .emtUpdate acc _ => some acc
  | .lqPop acc _ => some acc
  | .ceRunWrite acc _ _ => some acc
  | .psDataWrite acc _ _ => some acc
  | .shmDataAccess acc _ _ => some acc
  | .sweepCount acc _ => some acc
  | .sweepReport acc _ => some acc
  | .sweepExpire acc _ => some acc
  | .sweepAbort acc _ => some acc
  | .sluiceWrite acc _ _ _ => some acc
  | .mcWrite acc _ => some acc
  | .mcRead acc _ => some acc
  | .bpmCmdAlloc acc _ => some acc
  | .bpmCmdFree acc _ => some acc
  | .bpmCmdHandover acc _ => some acc
  | .bpmCmdShare acc _ => some acc
  | .poolInit acc _ => some acc
  | .tbSet acc _ => some acc
  | .tbStep acc _ => some acc
  | .tbSlew acc _ => some acc
  | .tbCtrlWrite acc _ => some acc
  | .tbServoWrite acc _ => some acc
  | .tbSnapshotRead acc _ => some acc
  | .scrubRepair acc _ => some acc
  | .scrubSurvey acc _ => some acc
  | .scrubZero acc _ => some acc
  | .scrubAbort acc _ => some acc
  | .dmaStart acc _ _ => some acc
  | .dmaStop acc _ _ => some acc
  | .dmaKick acc _ _ => some acc
  | .evcPendingRead acc _ _ => some acc
  | .evcSet acc _ => some acc
  | .pmcSnapshot acc _ => some acc
  | .pmcCounterClear acc _ => some acc
  | .selftest acc _ => some acc
  | .testLock acc _ => some acc
  | .loopbackWrite acc _ _ => some acc
  | .prbsCtrlWrite acc _ _ => some acc
  | .registerRead acc _ => some acc
  | _ => none

/-- The issuer of a Flume instruction. -/
def issuer : Instr → Option Who
  | .loadDeliver who => some who
  | .helperResult who => some who
  | .nop who => some who
  | .dup who => some who
  | .drop who => some who
  | .swap who => some who
  | .over who => some who
  | .rot who => some who
  | .nip who => some who
  | .depth who => some who
  | .pushs who => some who
  | .ext who => some who
  | .pick who => some who
  | .put who => some who
  | .roll who => some who
  | .addOp who => some who
  | .sub who => some who
  | .andOp who => some who
  | .orOp who => some who
  | .xor who => some who
  | .shl who => some who
  | .shr who => some who
  | .sar who => some who
  | .mul who => some who
  | .mulhu who => some who
  | .minu who => some who
  | .maxu who => some who
  | .eqOp who => some who
  | .neOp who => some who
  | .ltu who => some who
  | .lts who => some who
  | .notOp who => some who
  | .neg who => some who
  | .clz who => some who
  | .popcnt who => some who
  | .bswap16 who => some who
  | .bswap32 who => some who
  | .sext8 who => some who
  | .sext16 who => some who
  | .addi who => some who
  | .andi who => some who
  | .ori who => some who
  | .xori who => some who
  | .shli who => some who
  | .shri who => some who
  | .sari who => some who
  | .eqi who => some who
  | .ltui who => some who
  | .tstbi who => some who
  | .parity who => some who
  | .brev8 who => some who
  | .brev16 who => some who
  | .brev32 who => some who
  | .crc32c who => some who
  | .crc16 who => some who
  | .ld who => some who
  | .ldc who => some who
  | .st who => some who
  | .stc who => some who
  | .fadd who => some who
  | .bra who => some who
  | .bz who => some who
  | .bnz who => some who
  | .call who => some who
  | .ret who => some who
  | .jmps who => some who
  | .calls who => some who
  | .setrc who => some who
  | .rep who => some who
  | .repx who => some who
  | .poprc who => some who
  | .pushrc who => some who
  | .tor who => some who
  | .fromr who => some who
  | .rfetch who => some who
  | .loop who => some who
  | .reti who => some who
  | .ei who => some who
  | .di who => some who
  | .clean who => some who
  | .inval who => some who
  | .sync who => some who
  | .setseg who => some who
  | .getseg who => some who
  | .wait who => some who
  | .h32m who => some who
  | .symh who => some who
  | .hcallCrc32c who => some who
  | .hcallCrc16 who => some who
  | .crc32 who => some who
  | .csum who => some who
  | .csumAdj who => some who
  | .tsNow who => some who
  | .tsNs64 who => some who
  | .tsAge who => some who
  | .alloc who => some who
  | .free who => some who
  | .handover who => some who
  | .share who => some who
  | .bufferRead who => some who
  | .bufferWrite who => some who
  | .wlook who _ => some who
  | .elook who _ => some who
  | .replace who => some who
  | .editInsert who => some who
  | .remove who => some who
  | .editStamp who => some who
  | .siphon who => some who
  | .culvert who => some who
  | .editClear who => some who
  | .emit who => some who
  | .emitMc who => some who
  | .hcallDrop who => some who
  | .flowLookup who => some who
  | .flowCreate who => some who
  | .flowDelete who => some who
  | .flowRead who => some who
  | .flowWrite who => some who
  | .fadd32 who => some who
  | .fadd64 who => some who
  | .cas32 who => some who
  | .minu32 who => some who
  | .maxu32 who => some who
  | .setbits32 who => some who
  | .clrbits32 who => some who
  | .flowStamp who => some who
  | .account who => some who
  | .police who => some who
  | .flowExport who => some who
  | .flowAbort who => some who
  | .undefinedOpcode who => some who
  | _ => none

/-- A well-formed command's accessor is one of the seven, and its issuer exists. -/
def Statement (i : Instr) : Prop :=
  i.wf = true → (∀ a, accessor i = some a → a < 7) ∧ ∀ w, issuer i = some w → w.wf = true

/-- A command that names neither. -/
theorem of_none {i : Instr} (ha : accessor i = none) (hw : issuer i = none) : Statement i :=
  fun _ => ⟨fun _ h => absurd (ha.symm.trans h) nofun, fun _ h => absurd (hw.symm.trans h) nofun⟩

/-- A command of an issuer. -/
theorem of_issuer {i : Instr} {w : Who} (ha : accessor i = none) (hw : issuer i = some w) (h : i.wf = true → w.wf = true) : Statement i :=
  fun hi => ⟨fun _ e => absurd (ha.symm.trans e) nofun, fun _ e => by cases hw.symm.trans e; exact h hi⟩

/-- A command of an accessor. -/
theorem of_accessor {i : Instr} {a : Nat} (ha : accessor i = some a) (hw : issuer i = none) (h : i.wf = true → a < 7) :
    Statement i :=
  fun hi => ⟨fun _ e => by cases ha.symm.trans e; exact h hi, fun _ e => absurd (hw.symm.trans e) nofun⟩

end Sys2Proof.Laws.Described

namespace Sys2Proof.Laws

theorem Described.powerOn (vrms : Nat) (bootsel : Bool) : Described.Statement (.powerOn vrms bootsel) := Described.of_none rfl rfl
theorem Described.resetRelease : Described.Statement (.resetRelease) := Described.of_none rfl rfl
theorem Described.imageValidation (slot : Nat) (flashOk : Bool) : Described.Statement (.imageValidation slot flashOk) := Described.of_none rfl rfl
theorem Described.sectionsLoaded : Described.Statement (.sectionsLoaded) := Described.of_none rfl rfl
theorem Described.faultRecordWrite : Described.Statement (.faultRecordWrite) := Described.of_none rfl rfl
theorem Described.dramTraining (stack : Nat) (ok : Bool) : Described.Statement (.dramTraining stack ok) := Described.of_none rfl rfl
theorem Described.selfRefreshExit : Described.Statement (.selfRefreshExit) := Described.of_none rfl rfl
theorem Described.regionsCleared : Described.Statement (.regionsCleared) := Described.of_none rfl rfl
theorem Described.revalidateRecord (readout : RecordReadout) : Described.Statement (.revalidateRecord readout) := Described.of_none rfl rfl
theorem Described.recoveryWindowClose (micros : Nat) : Described.Statement (.recoveryWindowClose micros) := Described.of_none rfl rfl
theorem Described.blobCopyDone : Described.Statement (.blobCopyDone) := Described.of_none rfl rfl
theorem Described.serdesCalibration (group : Nat) (ok : Bool) : Described.Statement (.serdesCalibration group ok) := Described.of_none rfl rfl
theorem Described.forwardingStart : Described.Statement (.forwardingStart) := Described.of_none rfl rfl
theorem Described.sharedBufferModeChange (badCells : List Nat) : Described.Statement (.sharedBufferModeChange badCells) := Described.of_none rfl rfl
theorem Described.confirmTimeout : Described.Statement (.confirmTimeout) := Described.of_none rfl rfl
theorem Described.syswdExpire : Described.Statement (.syswdExpire) := Described.of_none rfl rfl
theorem Described.syswdHalf : Described.Statement (.syswdHalf) := Described.of_none rfl rfl
theorem Described.faultCaptureClose (captureBytes : Nat) (captureNs : Nat) : Described.Statement (.faultCaptureClose captureBytes captureNs) := Described.of_none rfl rfl
theorem Described.supplyMeasure (m : SupplyReading) : Described.Statement (.supplyMeasure m) := Described.of_none rfl rfl
theorem Described.sag (vrms : Nat) (heldMs : Nat) : Described.Statement (.sag vrms heldMs) := Described.of_none rfl rfl
theorem Described.interruption (vrms : Nat) (heldMs : Nat) : Described.Statement (.interruption vrms heldMs) := Described.of_none rfl rfl
theorem Described.brownOut (vrms : Nat) (freq : Nat) (heldMs : Nat) : Described.Statement (.brownOut vrms freq heldMs) := Described.of_none rfl rfl
theorem Described.orderlyStopCoreOff : Described.Statement (.orderlyStopCoreOff) := Described.of_none rfl rfl
theorem Described.orderlyRestart (vrms : Nat) (freq : Nat) (inlet : Int) (diode : Int) (heldMs : Nat) : Described.Statement (.orderlyRestart vrms freq inlet diode heldMs) := Described.of_none rfl rfl
theorem Described.highInput (vrms : Nat) : Described.Statement (.highInput vrms) := Described.of_none rfl rfl
theorem Described.overVoltage (vrms : Nat) : Described.Statement (.overVoltage vrms) := Described.of_none rfl rfl
theorem Described.inputRelayOpen : Described.Statement (.inputRelayOpen) := Described.of_none rfl rfl
theorem Described.surge (milliamps : Nat) : Described.Statement (.surge milliamps) := Described.of_none rfl rfl
theorem Described.peOpen (ohms : Nat) (heldMs : Nat) : Described.Statement (.peOpen ohms heldMs) := Described.of_none rfl rfl
theorem Described.lnSwap (heldMs : Nat) : Described.Statement (.lnSwap heldMs) := Described.of_none rfl rfl
theorem Described.conditionClear (which : EarthCondition) (absentMs : Nat) : Described.Statement (.conditionClear which absentMs) := Described.of_none rfl rfl
theorem Described.relayClose (vrms : Nat) (heldMs : Nat) (bootsel : Bool) : Described.Statement (.relayClose vrms heldMs bootsel) := Described.of_none rfl rfl
theorem Described.powerFail (lostMs : Nat) : Described.Statement (.powerFail lostMs) := Described.of_none rfl rfl
theorem Described.fuseTrip (cage : Nat) : Described.Statement (.fuseTrip cage) := Described.of_none rfl rfl
theorem Described.fuseRetry (cage : Nat) (trips : Bool) : Described.Statement (.fuseRetry cage trips) := Described.of_none rfl rfl
theorem Described.opticInserted (cage : Nat) (heldMs : Nat) (cmis : Bool) : Described.Statement (.opticInserted cage heldMs cmis) := Described.of_none rfl rfl
theorem Described.opticRemoved (cage : Nat) : Described.Statement (.opticRemoved cage) := Described.of_none rfl rfl
theorem Described.shedStep : Described.Statement (.shedStep) := Described.of_none rfl rfl
theorem Described.overloadClockStep : Described.Statement (.overloadClockStep) := Described.of_none rfl rfl
theorem Described.overloadClockRise : Described.Statement (.overloadClockRise) := Described.of_none rfl rfl
theorem Described.fanFailed (fan : Nat) (percent : Nat) (heldMs : Nat) : Described.Statement (.fanFailed fan percent heldMs) := Described.of_none rfl rfl
theorem Described.fanRunning (fan : Nat) (percent : Nat) (heldMs : Nat) : Described.Statement (.fanRunning fan percent heldMs) := Described.of_none rfl rfl
theorem Described.thermalStepDown (inlet : Int) (tj : Int) (heldMs : Nat) : Described.Statement (.thermalStepDown inlet tj heldMs) := Described.of_none rfl rfl
theorem Described.thermalStepUp (inlet : Int) (tj : Int) (heldMs : Nat) : Described.Statement (.thermalStepUp inlet tj heldMs) := Described.of_none rfl rfl
theorem Described.thermalStop (tj : Int) : Described.Statement (.thermalStop tj) := Described.of_none rfl rfl
theorem Described.excursionMinute (inlet : Int) : Described.Statement (.excursionMinute inlet) := Described.of_none rfl rfl
theorem Described.excursionLogWrite (inlet : Int) (sinceMs : Nat) : Described.Statement (.excursionLogWrite inlet sinceMs) := Described.of_none rfl rfl
theorem Described.inputStateMeasure (input : TimingInput) (millivolts : Nat) (signal : InputSignal) : Described.Statement (.inputStateMeasure input millivolts signal) := Described.of_none rfl rfl
theorem Described.pllLockLoss (pll : Nat) : Described.Statement (.pllLockLoss pll) := Described.of_none rfl rfl
theorem Described.freqMeasure (acc : Nat) (v : Word) : Described.Statement (.freqMeasure acc v) := Described.of_accessor rfl rfl fun h => of_decide_eq_true h
theorem Described.freqMeasureDone (khz : Nat) : Described.Statement (.freqMeasureDone khz) := Described.of_none rfl rfl
theorem Described.pgGateWrite (acc : Nat) (v : Word) : Described.Statement (.pgGateWrite acc v) := Described.of_accessor rfl rfl fun h => of_decide_eq_true h
theorem Described.throttleCeilingWrite (acc : Nat) (v : Word) : Described.Statement (.throttleCeilingWrite acc v) := Described.of_accessor rfl rfl fun h => of_decide_eq_true h
theorem Described.shedClr (acc : Nat) (v : Word) : Described.Statement (.shedClr acc v) := Described.of_accessor rfl rfl fun h => of_decide_eq_true h
theorem Described.fuseRearm (acc : Nat) (v : Word) : Described.Statement (.fuseRearm acc v) := Described.of_accessor rfl rfl fun h => of_decide_eq_true h
theorem Described.registerWrite (acc : Nat) (addr : Nat) (v : Word) : Described.Statement (.registerWrite acc addr v) := Described.of_accessor rfl rfl fun h => of_decide_eq_true (Bool.and_eq_true_iff.mp (Bool.and_eq_true_iff.mp h).1).1
theorem Described.svnRaise (acc : Nat) (v : Word) : Described.Statement (.svnRaise acc v) := Described.of_accessor rfl rfl fun h => of_decide_eq_true h
theorem Described.keyRevoke (acc : Nat) (v : Word) : Described.Statement (.keyRevoke acc v) := Described.of_accessor rfl rfl fun h => of_decide_eq_true h
theorem Described.confirm (acc : Nat) (v : Word) : Described.Statement (.confirm acc v) := Described.of_accessor rfl rfl fun h => of_decide_eq_true h
theorem Described.restartCommand (acc : Nat) (v : Word) : Described.Statement (.restartCommand acc v) := Described.of_accessor rfl rfl fun h => of_decide_eq_true h
theorem Described.syswdKick (acc : Nat) (v : Word) : Described.Statement (.syswdKick acc v) := Described.of_accessor rfl rfl fun h => of_decide_eq_true h
theorem Described.signalDetect (port : Nat) (copper : Bool) : Described.Statement (.signalDetect port copper) := Described.of_none rfl rfl
theorem Described.anComplete (port : Nat) (ability : Nat) : Described.Statement (.anComplete port ability) := Described.of_none rfl rfl
theorem Described.alignmentLock (port : Nat) (m : LinkMeasure) : Described.Statement (.alignmentLock port m) := Described.of_none rfl rfl
theorem Described.debounceExpire (port : Nat) (heldMs : Nat) (m : LinkMeasure) (fec : FecCounts) : Described.Statement (.debounceExpire port heldMs m fec) := Described.of_none rfl rfl
theorem Described.remoteFault (port : Nat) : Described.Statement (.remoteFault port) := Described.of_none rfl rfl
theorem Described.remoteFaultClear (port : Nat) (heldMs : Nat) (m : LinkMeasure) : Described.Statement (.remoteFaultClear port heldMs m) := Described.of_none rfl rfl
theorem Described.linkLoss (port : Nat) : Described.Statement (.linkLoss port) := Described.of_none rfl rfl
theorem Described.tailVerdict (t : TailIn) : Described.Statement (.tailVerdict t) := Described.of_none rfl rfl
theorem Described.pfcFrameReceive (port : Nat) (frame : RxFrame) : Described.Statement (.pfcFrameReceive port frame) := Described.of_none rfl rfl
theorem Described.pauseFrameReceive (port : Nat) (frame : RxFrame) : Described.Statement (.pauseFrameReceive port frame) := Described.of_none rfl rfl
theorem Described.pfcPauseExpire (port : Nat) (cls : Nat) (quanta : Nat) : Described.Statement (.pfcPauseExpire port cls quanta) := Described.of_none rfl rfl
theorem Described.pgCtrlWrite (acc : Nat) (group : Nat) (v : Word) : Described.Statement (.pgCtrlWrite acc group v) := Described.of_accessor rfl rfl fun h => of_decide_eq_true (Bool.and_eq_true_iff.mp h).1
theorem Described.portCtrlWrite (acc : Nat) (port : Nat) (v : Word) : Described.Statement (.portCtrlWrite acc port v) := Described.of_accessor rfl rfl fun h => of_decide_eq_true (Bool.and_eq_true_iff.mp h).1
theorem Described.alarmWindowEnd (window : AlarmWindow) : Described.Statement (.alarmWindowEnd window) := Described.of_none rfl rfl
theorem Described.frameAdmit (port : Nat) (frame : RxFrame) : Described.Statement (.frameAdmit port frame) := Described.of_none rfl rfl
theorem Described.ingressCellTake (pkt : Nat) (err : Option RxError) : Described.Statement (.ingressCellTake pkt err) := Described.of_none rfl rfl
theorem Described.headerOffer (group : Nat) (newCycle : Bool) : Described.Statement (.headerOffer group newCycle) := Described.of_none rfl rfl
theorem Described.parseStart (slice : Nat) (whole : Bool) : Described.Statement (.parseStart slice whole) := Described.of_none rfl rfl
theorem Described.microwordExecute (slice : Nat) (err : Option StoreError) : Described.Statement (.microwordExecute slice err) := Described.of_none rfl rfl
theorem Described.parseEnd (slice : Nat) : Described.Statement (.parseEnd slice) := Described.of_none rfl rfl
theorem Described.ucWrite (acc : Nat) (v : Word) : Described.Statement (.ucWrite acc v) := Described.of_accessor rfl rfl fun h => of_decide_eq_true h
theorem Described.ucRead (acc : Nat) (v : Word) : Described.Statement (.ucRead acc v) := Described.of_accessor rfl rfl fun h => of_decide_eq_true h
theorem Described.hdgCtrlWrite (acc : Nat) (v : Word) : Described.Statement (.hdgCtrlWrite acc v) := Described.of_accessor rfl rfl fun h => of_decide_eq_true h
theorem Described.lookup (group : Nat) (lane : Nat) (upsets : List ArrayUpset) (err : Option StoreError) : Described.Statement (.lookup group lane upsets err) := Described.of_none rfl rfl
theorem Described.walkStep (table : TableSel) (replica : Nat) (upsets : List ArrayUpset) (err : Option StoreError) : Described.Statement (.walkStep table replica upsets err) := Described.of_none rfl rfl
theorem Described.weirCmdWrite (acc : Nat) (v : Word) : Described.Statement (.weirCmdWrite acc v) := Described.of_accessor rfl rfl fun h => of_decide_eq_true h
theorem Described.weirCmdInvalidate (acc : Nat) (v : Word) : Described.Statement (.weirCmdInvalidate acc v) := Described.of_accessor rfl rfl fun h => of_decide_eq_true h
theorem Described.weirCmdRead (acc : Nat) (v : Word) : Described.Statement (.weirCmdRead acc v) := Described.of_accessor rfl rfl fun h => of_decide_eq_true h
theorem Described.weirCmdSearch (acc : Nat) (v : Word) : Described.Statement (.weirCmdSearch acc v) := Described.of_accessor rfl rfl fun h => of_decide_eq_true h
theorem Described.weirCtrlWrite (acc : Nat) (v : Word) : Described.Statement (.weirCtrlWrite acc v) := Described.of_accessor rfl rfl fun h => of_decide_eq_true h
theorem Described.missAdCommit (acc : Nat) (v : Word) : Described.Statement (.missAdCommit acc v) := Described.of_accessor rfl rfl fun h => of_decide_eq_true h
theorem Described.profileCommit (acc : Nat) (profile : Nat) (v : Word) : Described.Statement (.profileCommit acc profile v) := Described.of_accessor rfl rfl fun h => of_decide_eq_true (Bool.and_eq_true_iff.mp h).1
theorem Described.emtInsert (acc : Nat) (v : Word) : Described.Statement (.emtInsert acc v) := Described.of_accessor rfl rfl fun h => of_decide_eq_true h
theorem Described.emtDelete (acc : Nat) (v : Word) : Described.Statement (.emtDelete acc v) := Described.of_accessor rfl rfl fun h => of_decide_eq_true h
theorem Described.emtCmdLookup (acc : Nat) (v : Word) : Described.Statement (.emtCmdLookup acc v) := Described.of_accessor rfl rfl fun h => of_decide_eq_true h
theorem Described.emtCmdRead (acc : Nat) (v : Word) : Described.Statement (.emtCmdRead acc v) := Described.of_accessor rfl rfl fun h => of_decide_eq_true h
theorem Described.emtInvalidate (acc : Nat) (v : Word) : Described.Statement (.emtInvalidate acc v) := Described.of_accessor rfl rfl fun h => of_decide_eq_true h
theorem Described.emtUpdate (acc : Nat) (v : Word) : Described.Statement (.emtUpdate acc v) := Described.of_accessor rfl rfl fun h => of_decide_eq_true h
theorem Described.lqPop (acc : Nat) (v : Word) : Described.Statement (.lqPop acc v) := Described.of_accessor rfl rfl fun h => of_decide_eq_true h
theorem Described.contextBuild : Described.Statement (.contextBuild) := Described.of_none rfl rfl
theorem Described.contextSlot (cluster : Nat) (engine : Nat) : Described.Statement (.contextSlot cluster engine) := Described.of_none rfl rfl
theorem Described.threadTake (cluster : Nat) (engine : Nat) (thread : Nat) : Described.Statement (.threadTake cluster engine thread) := Described.of_none rfl rfl
theorem Described.contextEnd (ctx : Nat) : Described.Statement (.contextEnd ctx) := Described.of_none rfl rfl
theorem Described.release (ctx : Nat) : Described.Statement (.release ctx) := Described.of_none rfl rfl
theorem Described.watchdogExpire (ctx : Nat) : Described.Statement (.watchdogExpire ctx) := Described.of_none rfl rfl
theorem Described.exceptionWatchdogExpire (ctx : Nat) : Described.Statement (.exceptionWatchdogExpire ctx) := Described.of_none rfl rfl
theorem Described.loadDeliver (who : Who) : Described.Statement (.loadDeliver who) := Described.of_issuer rfl rfl id
theorem Described.helperResult (who : Who) : Described.Statement (.helperResult who) := Described.of_issuer rfl rfl id
theorem Described.interruptTake (k : Nat) : Described.Statement (.interruptTake k) := Described.of_none rfl rfl
theorem Described.writeBufferDrain (k : Nat) : Described.Statement (.writeBufferDrain k) := Described.of_none rfl rfl
theorem Described.cacheLineFill (k : Nat) : Described.Statement (.cacheLineFill k) := Described.of_none rfl rfl
theorem Described.ceRunWrite (acc : Nat) (k : Nat) (v : Word) : Described.Statement (.ceRunWrite acc k v) := Described.of_accessor rfl rfl fun h => of_decide_eq_true (Bool.and_eq_true_iff.mp h).1
theorem Described.psDataWrite (acc : Nat) (cluster : Nat) (v : Word) : Described.Statement (.psDataWrite acc cluster v) := Described.of_accessor rfl rfl fun h => of_decide_eq_true (Bool.and_eq_true_iff.mp h).1
theorem Described.shmDataAccess (acc : Nat) (cluster : Nat) (store : Option Word) : Described.Statement (.shmDataAccess acc cluster store) := Described.of_accessor rfl rfl fun h => of_decide_eq_true (Bool.and_eq_true_iff.mp h).1
theorem Described.nop (who : Who) : Described.Statement (.nop who) := Described.of_issuer rfl rfl id
theorem Described.dup (who : Who) : Described.Statement (.dup who) := Described.of_issuer rfl rfl id
theorem Described.drop (who : Who) : Described.Statement (.drop who) := Described.of_issuer rfl rfl id
theorem Described.swap (who : Who) : Described.Statement (.swap who) := Described.of_issuer rfl rfl id
theorem Described.over (who : Who) : Described.Statement (.over who) := Described.of_issuer rfl rfl id
theorem Described.rot (who : Who) : Described.Statement (.rot who) := Described.of_issuer rfl rfl id
theorem Described.nip (who : Who) : Described.Statement (.nip who) := Described.of_issuer rfl rfl id
theorem Described.depth (who : Who) : Described.Statement (.depth who) := Described.of_issuer rfl rfl id
theorem Described.pushs (who : Who) : Described.Statement (.pushs who) := Described.of_issuer rfl rfl id
theorem Described.ext (who : Who) : Described.Statement (.ext who) := Described.of_issuer rfl rfl id
theorem Described.pick (who : Who) : Described.Statement (.pick who) := Described.of_issuer rfl rfl id
theorem Described.put (who : Who) : Described.Statement (.put who) := Described.of_issuer rfl rfl id
theorem Described.roll (who : Who) : Described.Statement (.roll who) := Described.of_issuer rfl rfl id
theorem Described.addOp (who : Who) : Described.Statement (.addOp who) := Described.of_issuer rfl rfl id
theorem Described.sub (who : Who) : Described.Statement (.sub who) := Described.of_issuer rfl rfl id
theorem Described.andOp (who : Who) : Described.Statement (.andOp who) := Described.of_issuer rfl rfl id
theorem Described.orOp (who : Who) : Described.Statement (.orOp who) := Described.of_issuer rfl rfl id
theorem Described.xor (who : Who) : Described.Statement (.xor who) := Described.of_issuer rfl rfl id
theorem Described.shl (who : Who) : Described.Statement (.shl who) := Described.of_issuer rfl rfl id
theorem Described.shr (who : Who) : Described.Statement (.shr who) := Described.of_issuer rfl rfl id
theorem Described.sar (who : Who) : Described.Statement (.sar who) := Described.of_issuer rfl rfl id
theorem Described.mul (who : Who) : Described.Statement (.mul who) := Described.of_issuer rfl rfl id
theorem Described.mulhu (who : Who) : Described.Statement (.mulhu who) := Described.of_issuer rfl rfl id
theorem Described.minu (who : Who) : Described.Statement (.minu who) := Described.of_issuer rfl rfl id
theorem Described.maxu (who : Who) : Described.Statement (.maxu who) := Described.of_issuer rfl rfl id
theorem Described.eqOp (who : Who) : Described.Statement (.eqOp who) := Described.of_issuer rfl rfl id
theorem Described.neOp (who : Who) : Described.Statement (.neOp who) := Described.of_issuer rfl rfl id
theorem Described.ltu (who : Who) : Described.Statement (.ltu who) := Described.of_issuer rfl rfl id
theorem Described.lts (who : Who) : Described.Statement (.lts who) := Described.of_issuer rfl rfl id
theorem Described.notOp (who : Who) : Described.Statement (.notOp who) := Described.of_issuer rfl rfl id
theorem Described.neg (who : Who) : Described.Statement (.neg who) := Described.of_issuer rfl rfl id
theorem Described.clz (who : Who) : Described.Statement (.clz who) := Described.of_issuer rfl rfl id
theorem Described.popcnt (who : Who) : Described.Statement (.popcnt who) := Described.of_issuer rfl rfl id
theorem Described.bswap16 (who : Who) : Described.Statement (.bswap16 who) := Described.of_issuer rfl rfl id
theorem Described.bswap32 (who : Who) : Described.Statement (.bswap32 who) := Described.of_issuer rfl rfl id
theorem Described.sext8 (who : Who) : Described.Statement (.sext8 who) := Described.of_issuer rfl rfl id
theorem Described.sext16 (who : Who) : Described.Statement (.sext16 who) := Described.of_issuer rfl rfl id
theorem Described.addi (who : Who) : Described.Statement (.addi who) := Described.of_issuer rfl rfl id
theorem Described.andi (who : Who) : Described.Statement (.andi who) := Described.of_issuer rfl rfl id
theorem Described.ori (who : Who) : Described.Statement (.ori who) := Described.of_issuer rfl rfl id
theorem Described.xori (who : Who) : Described.Statement (.xori who) := Described.of_issuer rfl rfl id
theorem Described.shli (who : Who) : Described.Statement (.shli who) := Described.of_issuer rfl rfl id
theorem Described.shri (who : Who) : Described.Statement (.shri who) := Described.of_issuer rfl rfl id
theorem Described.sari (who : Who) : Described.Statement (.sari who) := Described.of_issuer rfl rfl id
theorem Described.eqi (who : Who) : Described.Statement (.eqi who) := Described.of_issuer rfl rfl id
theorem Described.ltui (who : Who) : Described.Statement (.ltui who) := Described.of_issuer rfl rfl id
theorem Described.tstbi (who : Who) : Described.Statement (.tstbi who) := Described.of_issuer rfl rfl id
theorem Described.parity (who : Who) : Described.Statement (.parity who) := Described.of_issuer rfl rfl id
theorem Described.brev8 (who : Who) : Described.Statement (.brev8 who) := Described.of_issuer rfl rfl id
theorem Described.brev16 (who : Who) : Described.Statement (.brev16 who) := Described.of_issuer rfl rfl id
theorem Described.brev32 (who : Who) : Described.Statement (.brev32 who) := Described.of_issuer rfl rfl id
theorem Described.crc32c (who : Who) : Described.Statement (.crc32c who) := Described.of_issuer rfl rfl id
theorem Described.crc16 (who : Who) : Described.Statement (.crc16 who) := Described.of_issuer rfl rfl id
theorem Described.ld (who : Who) : Described.Statement (.ld who) := Described.of_issuer rfl rfl id
theorem Described.ldc (who : Who) : Described.Statement (.ldc who) := Described.of_issuer rfl rfl id
theorem Described.st (who : Who) : Described.Statement (.st who) := Described.of_issuer rfl rfl id
theorem Described.stc (who : Who) : Described.Statement (.stc who) := Described.of_issuer rfl rfl id
theorem Described.fadd (who : Who) : Described.Statement (.fadd who) := Described.of_issuer rfl rfl id
theorem Described.bra (who : Who) : Described.Statement (.bra who) := Described.of_issuer rfl rfl id
theorem Described.bz (who : Who) : Described.Statement (.bz who) := Described.of_issuer rfl rfl id
theorem Described.bnz (who : Who) : Described.Statement (.bnz who) := Described.of_issuer rfl rfl id
theorem Described.call (who : Who) : Described.Statement (.call who) := Described.of_issuer rfl rfl id
theorem Described.ret (who : Who) : Described.Statement (.ret who) := Described.of_issuer rfl rfl id
theorem Described.jmps (who : Who) : Described.Statement (.jmps who) := Described.of_issuer rfl rfl id
theorem Described.calls (who : Who) : Described.Statement (.calls who) := Described.of_issuer rfl rfl id
theorem Described.setrc (who : Who) : Described.Statement (.setrc who) := Described.of_issuer rfl rfl id
theorem Described.rep (who : Who) : Described.Statement (.rep who) := Described.of_issuer rfl rfl id
theorem Described.repx (who : Who) : Described.Statement (.repx who) := Described.of_issuer rfl rfl id
theorem Described.poprc (who : Who) : Described.Statement (.poprc who) := Described.of_issuer rfl rfl id
theorem Described.pushrc (who : Who) : Described.Statement (.pushrc who) := Described.of_issuer rfl rfl id
theorem Described.tor (who : Who) : Described.Statement (.tor who) := Described.of_issuer rfl rfl id
theorem Described.fromr (who : Who) : Described.Statement (.fromr who) := Described.of_issuer rfl rfl id
theorem Described.rfetch (who : Who) : Described.Statement (.rfetch who) := Described.of_issuer rfl rfl id
theorem Described.loop (who : Who) : Described.Statement (.loop who) := Described.of_issuer rfl rfl id
theorem Described.reti (who : Who) : Described.Statement (.reti who) := Described.of_issuer rfl rfl id
theorem Described.ei (who : Who) : Described.Statement (.ei who) := Described.of_issuer rfl rfl id
theorem Described.di (who : Who) : Described.Statement (.di who) := Described.of_issuer rfl rfl id
theorem Described.clean (who : Who) : Described.Statement (.clean who) := Described.of_issuer rfl rfl id
theorem Described.inval (who : Who) : Described.Statement (.inval who) := Described.of_issuer rfl rfl id
theorem Described.sync (who : Who) : Described.Statement (.sync who) := Described.of_issuer rfl rfl id
theorem Described.setseg (who : Who) : Described.Statement (.setseg who) := Described.of_issuer rfl rfl id
theorem Described.getseg (who : Who) : Described.Statement (.getseg who) := Described.of_issuer rfl rfl id
theorem Described.wait (who : Who) : Described.Statement (.wait who) := Described.of_issuer rfl rfl id
theorem Described.h32m (who : Who) : Described.Statement (.h32m who) := Described.of_issuer rfl rfl id
theorem Described.symh (who : Who) : Described.Statement (.symh who) := Described.of_issuer rfl rfl id
theorem Described.hcallCrc32c (who : Who) : Described.Statement (.hcallCrc32c who) := Described.of_issuer rfl rfl id
theorem Described.hcallCrc16 (who : Who) : Described.Statement (.hcallCrc16 who) := Described.of_issuer rfl rfl id
theorem Described.crc32 (who : Who) : Described.Statement (.crc32 who) := Described.of_issuer rfl rfl id
theorem Described.csum (who : Who) : Described.Statement (.csum who) := Described.of_issuer rfl rfl id
theorem Described.csumAdj (who : Who) : Described.Statement (.csumAdj who) := Described.of_issuer rfl rfl id
theorem Described.tsNow (who : Who) : Described.Statement (.tsNow who) := Described.of_issuer rfl rfl id
theorem Described.tsNs64 (who : Who) : Described.Statement (.tsNs64 who) := Described.of_issuer rfl rfl id
theorem Described.tsAge (who : Who) : Described.Statement (.tsAge who) := Described.of_issuer rfl rfl id
theorem Described.alloc (who : Who) : Described.Statement (.alloc who) := Described.of_issuer rfl rfl id
theorem Described.free (who : Who) : Described.Statement (.free who) := Described.of_issuer rfl rfl id
theorem Described.handover (who : Who) : Described.Statement (.handover who) := Described.of_issuer rfl rfl id
theorem Described.share (who : Who) : Described.Statement (.share who) := Described.of_issuer rfl rfl id
theorem Described.bufferRead (who : Who) : Described.Statement (.bufferRead who) := Described.of_issuer rfl rfl id
theorem Described.bufferWrite (who : Who) : Described.Statement (.bufferWrite who) := Described.of_issuer rfl rfl id
theorem Described.wlook (who : Who) (upsets : List ArrayUpset) : Described.Statement (.wlook who upsets) :=
  Described.of_issuer rfl rfl fun h => (Bool.and_eq_true_iff.mp h).1
theorem Described.elook (who : Who) (upsets : List ArrayUpset) : Described.Statement (.elook who upsets) :=
  Described.of_issuer rfl rfl fun h => (Bool.and_eq_true_iff.mp h).1
theorem Described.replace (who : Who) : Described.Statement (.replace who) := Described.of_issuer rfl rfl id
theorem Described.editInsert (who : Who) : Described.Statement (.editInsert who) := Described.of_issuer rfl rfl id
theorem Described.remove (who : Who) : Described.Statement (.remove who) := Described.of_issuer rfl rfl id
theorem Described.editStamp (who : Who) : Described.Statement (.editStamp who) := Described.of_issuer rfl rfl id
theorem Described.siphon (who : Who) : Described.Statement (.siphon who) := Described.of_issuer rfl rfl id
theorem Described.culvert (who : Who) : Described.Statement (.culvert who) := Described.of_issuer rfl rfl id
theorem Described.editClear (who : Who) : Described.Statement (.editClear who) := Described.of_issuer rfl rfl id
theorem Described.emit (who : Who) : Described.Statement (.emit who) := Described.of_issuer rfl rfl id
theorem Described.emitMc (who : Who) : Described.Statement (.emitMc who) := Described.of_issuer rfl rfl id
theorem Described.hcallDrop (who : Who) : Described.Statement (.hcallDrop who) := Described.of_issuer rfl rfl id
theorem Described.flowLookup (who : Who) : Described.Statement (.flowLookup who) := Described.of_issuer rfl rfl id
theorem Described.flowCreate (who : Who) : Described.Statement (.flowCreate who) := Described.of_issuer rfl rfl id
theorem Described.flowDelete (who : Who) : Described.Statement (.flowDelete who) := Described.of_issuer rfl rfl id
theorem Described.flowRead (who : Who) : Described.Statement (.flowRead who) := Described.of_issuer rfl rfl id
theorem Described.flowWrite (who : Who) : Described.Statement (.flowWrite who) := Described.of_issuer rfl rfl id
theorem Described.fadd32 (who : Who) : Described.Statement (.fadd32 who) := Described.of_issuer rfl rfl id
theorem Described.fadd64 (who : Who) : Described.Statement (.fadd64 who) := Described.of_issuer rfl rfl id
theorem Described.cas32 (who : Who) : Described.Statement (.cas32 who) := Described.of_issuer rfl rfl id
theorem Described.minu32 (who : Who) : Described.Statement (.minu32 who) := Described.of_issuer rfl rfl id
theorem Described.maxu32 (who : Who) : Described.Statement (.maxu32 who) := Described.of_issuer rfl rfl id
theorem Described.setbits32 (who : Who) : Described.Statement (.setbits32 who) := Described.of_issuer rfl rfl id
theorem Described.clrbits32 (who : Who) : Described.Statement (.clrbits32 who) := Described.of_issuer rfl rfl id
theorem Described.flowStamp (who : Who) : Described.Statement (.flowStamp who) := Described.of_issuer rfl rfl id
theorem Described.account (who : Who) : Described.Statement (.account who) := Described.of_issuer rfl rfl id
theorem Described.police (who : Who) : Described.Statement (.police who) := Described.of_issuer rfl rfl id
theorem Described.flowExport (who : Who) : Described.Statement (.flowExport who) := Described.of_issuer rfl rfl id
theorem Described.flowAbort (who : Who) : Described.Statement (.flowAbort who) := Described.of_issuer rfl rfl id
theorem Described.contextResolve (inst : Nat) : Described.Statement (.contextResolve inst) := Described.of_none rfl rfl
theorem Described.logEntryApply (slice : Nat) : Described.Statement (.logEntryApply slice) := Described.of_none rfl rfl
theorem Described.noticePost (sweep : Bool) : Described.Statement (.noticePost sweep) := Described.of_none rfl rfl
theorem Described.sweepCount (acc : Nat) (v : Word) : Described.Statement (.sweepCount acc v) := Described.of_accessor rfl rfl fun h => of_decide_eq_true h
theorem Described.sweepReport (acc : Nat) (v : Word) : Described.Statement (.sweepReport acc v) := Described.of_accessor rfl rfl fun h => of_decide_eq_true h
theorem Described.sweepExpire (acc : Nat) (v : Word) : Described.Statement (.sweepExpire acc v) := Described.of_accessor rfl rfl fun h => of_decide_eq_true h
theorem Described.sweepRecord (slice : Nat) : Described.Statement (.sweepRecord slice) := Described.of_none rfl rfl
theorem Described.sweepAbort (acc : Nat) (v : Word) : Described.Statement (.sweepAbort acc v) := Described.of_accessor rfl rfl fun h => of_decide_eq_true h
theorem Described.exportFormat : Described.Statement (.exportFormat) := Described.of_none rfl rfl
theorem Described.exportMessageSend (heldMs : Nat) : Described.Statement (.exportMessageSend heldMs) := Described.of_none rfl rfl
theorem Described.copyTransmitStart (port : Nat) : Described.Statement (.copyTransmitStart port) := Described.of_none rfl rfl
theorem Described.copyTransmitEnd (port : Nat) : Described.Statement (.copyTransmitEnd port) := Described.of_none rfl rfl
theorem Described.schedulerChoose (port : Nat) (remaining : Nat) : Described.Statement (.schedulerChoose port remaining) := Described.of_none rfl rfl
theorem Described.sluiceRefill (sluice : Nat) : Described.Statement (.sluiceRefill sluice) := Described.of_none rfl rfl
theorem Described.sluiceWrite (acc : Nat) (sluice : Nat) (burst : Bool) (v : Word) : Described.Statement (.sluiceWrite acc sluice burst v) := Described.of_accessor rfl rfl fun h => of_decide_eq_true (Bool.and_eq_true_iff.mp h).1
theorem Described.pfcFrameSend (port : Nat) : Described.Statement (.pfcFrameSend port) := Described.of_none rfl rfl
theorem Described.pfcRefresh (port : Nat) (quanta : Nat) : Described.Statement (.pfcRefresh port quanta) := Described.of_none rfl rfl
theorem Described.samplePeriod : Described.Statement (.samplePeriod) := Described.of_none rfl rfl
theorem Described.mcWrite (acc : Nat) (v : Word) : Described.Statement (.mcWrite acc v) := Described.of_accessor rfl rfl fun h => of_decide_eq_true h
theorem Described.mcRead (acc : Nat) (v : Word) : Described.Statement (.mcRead acc v) := Described.of_accessor rfl rfl fun h => of_decide_eq_true h
theorem Described.bpmCmdAlloc (acc : Nat) (v : Word) : Described.Statement (.bpmCmdAlloc acc v) := Described.of_accessor rfl rfl fun h => of_decide_eq_true h
theorem Described.bpmCmdFree (acc : Nat) (v : Word) : Described.Statement (.bpmCmdFree acc v) := Described.of_accessor rfl rfl fun h => of_decide_eq_true h
theorem Described.bpmCmdHandover (acc : Nat) (v : Word) : Described.Statement (.bpmCmdHandover acc v) := Described.of_accessor rfl rfl fun h => of_decide_eq_true h
theorem Described.bpmCmdShare (acc : Nat) (v : Word) : Described.Statement (.bpmCmdShare acc v) := Described.of_accessor rfl rfl fun h => of_decide_eq_true h
theorem Described.poolInit (acc : Nat) (v : Word) : Described.Statement (.poolInit acc v) := Described.of_accessor rfl rfl fun h => of_decide_eq_true h
theorem Described.poolInitDone (pool : Nat) : Described.Statement (.poolInitDone pool) := Described.of_none rfl rfl
theorem Described.tbSet (acc : Nat) (v : Word) : Described.Statement (.tbSet acc v) := Described.of_accessor rfl rfl fun h => of_decide_eq_true h
theorem Described.tbStep (acc : Nat) (v : Word) : Described.Statement (.tbStep acc v) := Described.of_accessor rfl rfl fun h => of_decide_eq_true h
theorem Described.tbSlew (acc : Nat) (v : Word) : Described.Statement (.tbSlew acc v) := Described.of_accessor rfl rfl fun h => of_decide_eq_true h
theorem Described.slewEnd : Described.Statement (.slewEnd) := Described.of_none rfl rfl
theorem Described.ppsCapture (ago : Nat) : Described.Statement (.ppsCapture ago) := Described.of_none rfl rfl
theorem Described.referenceLoss : Described.Statement (.referenceLoss) := Described.of_none rfl rfl
theorem Described.pllHoldover : Described.Statement (.pllHoldover) := Described.of_none rfl rfl
theorem Described.pllRelock : Described.Statement (.pllRelock) := Described.of_none rfl rfl
theorem Described.frcWrap : Described.Statement (.frcWrap) := Described.of_none rfl rfl
theorem Described.aonTimeSave : Described.Statement (.aonTimeSave) := Described.of_none rfl rfl
theorem Described.ppsOutEdge : Described.Statement (.ppsOutEdge) := Described.of_none rfl rfl
theorem Described.tbCtrlWrite (acc : Nat) (v : Word) : Described.Statement (.tbCtrlWrite acc v) := Described.of_accessor rfl rfl fun h => of_decide_eq_true h
theorem Described.tbServoWrite (acc : Nat) (v : Word) : Described.Statement (.tbServoWrite acc v) := Described.of_accessor rfl rfl fun h => of_decide_eq_true h
theorem Described.tbSnapshotRead (acc : Nat) (pps : Bool) : Described.Statement (.tbSnapshotRead acc pps) := Described.of_accessor rfl rfl fun h => of_decide_eq_true h
theorem Described.helloSend (link : Nat) : Described.Statement (.helloSend link) := Described.of_none rfl rfl
theorem Described.helloReceive (link : Nat) (frame : RxFrame) : Described.Statement (.helloReceive link frame) := Described.of_none rfl rfl
theorem Described.helloHoldExpire (link : Nat) (elapsedMs : Nat) : Described.Statement (.helloHoldExpire link elapsedMs) := Described.of_none rfl rfl
theorem Described.tableEntryExpire (member : Nat) (elapsedMs : Nat) : Described.Statement (.tableEntryExpire member elapsedMs) := Described.of_none rfl rfl
theorem Described.stackMeasurement : Described.Statement (.stackMeasurement) := Described.of_none rfl rfl
theorem Described.dramRequestAccept (r : DramReq) : Described.Statement (.dramRequestAccept r) := Described.of_none rfl rfl
theorem Described.dramCommandIssue (chan : Nat) (column : Bool) (ready : List Nat) : Described.Statement (.dramCommandIssue chan column ready) := Described.of_none rfl rfl
theorem Described.dramReadComplete (chan : Nat) (outcomes : List AtomOutcome) : Described.Statement (.dramReadComplete chan outcomes) := Described.of_none rfl rfl
theorem Described.dramRefresh (chan : Nat) (busy : Bool) : Described.Statement (.dramRefresh chan busy) := Described.of_none rfl rfl
theorem Described.dramTempRead (stack : Nat) (temp : Int) : Described.Statement (.dramTempRead stack temp) := Described.of_none rfl rfl
theorem Described.selfRefreshEntry (stack : Nat) (idleUs : Nat) : Described.Statement (.selfRefreshEntry stack idleUs) := Described.of_none rfl rfl
theorem Described.rowIdleClose (chan : Nat) (bank : Nat) (idleNs : Nat) : Described.Statement (.rowIdleClose chan bank idleNs) := Described.of_none rfl rfl
theorem Described.arrayRewrite (store : Nat) (place : Nat) (unit : Nat) (word : Nat) (found : WordFound) : Described.Statement (.arrayRewrite store place unit word found) := Described.of_none rfl rfl
theorem Described.scrubRepair (acc : Nat) (v : Word) : Described.Statement (.scrubRepair acc v) := Described.of_accessor rfl rfl fun h => of_decide_eq_true h
theorem Described.scrubSurvey (acc : Nat) (v : Word) : Described.Statement (.scrubSurvey acc v) := Described.of_accessor rfl rfl fun h => of_decide_eq_true h
theorem Described.scrubZero (acc : Nat) (v : Word) : Described.Statement (.scrubZero acc v) := Described.of_accessor rfl rfl fun h => of_decide_eq_true h
theorem Described.scrubUnit (outcomes : List AtomOutcome) : Described.Statement (.scrubUnit outcomes) := Described.of_none rfl rfl
theorem Described.scrubAbort (acc : Nat) (v : Word) : Described.Statement (.scrubAbort acc v) := Described.of_accessor rfl rfl fun h => of_decide_eq_true h
theorem Described.dmaStart (acc : Nat) (channel : Nat) (v : Word) : Described.Statement (.dmaStart acc channel v) := Described.of_accessor rfl rfl fun h => of_decide_eq_true (Bool.and_eq_true_iff.mp h).1
theorem Described.dmaStop (acc : Nat) (channel : Nat) (v : Word) : Described.Statement (.dmaStop acc channel v) := Described.of_accessor rfl rfl fun h => of_decide_eq_true (Bool.and_eq_true_iff.mp h).1
theorem Described.dmaKick (acc : Nat) (channel : Nat) (v : Word) : Described.Statement (.dmaKick acc channel v) := Described.of_accessor rfl rfl fun h => of_decide_eq_true (Bool.and_eq_true_iff.mp h).1
theorem Described.descriptorFetch (channel : Nat) : Described.Statement (.descriptorFetch channel) := Described.of_none rfl rfl
theorem Described.moverAssign : Described.Statement (.moverAssign) := Described.of_none rfl rfl
theorem Described.beatIssue (channel : Nat) : Described.Statement (.beatIssue channel) := Described.of_none rfl rfl
theorem Described.beatAnswer (channel : Nat) : Described.Statement (.beatAnswer channel) := Described.of_none rfl rfl
theorem Described.descriptorWriteback (channel : Nat) : Described.Statement (.descriptorWriteback channel) := Described.of_none rfl rfl
theorem Described.descriptorPoll (channel : Nat) (waitedNs : Nat) : Described.Statement (.descriptorPoll channel waitedNs) := Described.of_none rfl rfl
theorem Described.rxCopy (channel : Nat) : Described.Statement (.rxCopy channel) := Described.of_none rfl rfl
theorem Described.txFrame (channel : Nat) : Described.Statement (.txFrame channel) := Described.of_none rfl rfl
theorem Described.eventRaise (source : Nat) : Described.Statement (.eventRaise source) := Described.of_none rfl rfl
theorem Described.evcPendingRead (acc : Nat) (target : Nat) (word : Nat) : Described.Statement (.evcPendingRead acc target word) := Described.of_accessor rfl rfl fun h => of_decide_eq_true (Bool.and_eq_true_iff.mp (Bool.and_eq_true_iff.mp h).1).1
theorem Described.evcSet (acc : Nat) (v : Word) : Described.Statement (.evcSet acc v) := Described.of_accessor rfl rfl fun h => of_decide_eq_true h
theorem Described.pmcSnapshot (acc : Nat) (v : Word) : Described.Statement (.pmcSnapshot acc v) := Described.of_accessor rfl rfl fun h => of_decide_eq_true h
theorem Described.pmcCounterClear (acc : Nat) (v : Word) : Described.Statement (.pmcCounterClear acc v) := Described.of_accessor rfl rfl fun h => of_decide_eq_true h
theorem Described.snapshotPeriod : Described.Statement (.snapshotPeriod) := Described.of_none rfl rfl
theorem Described.sampleCapture (cluster : Nat) (engine : Nat) : Described.Statement (.sampleCapture cluster engine) := Described.of_none rfl rfl
theorem Described.bwWindowClose : Described.Statement (.bwWindowClose) := Described.of_none rfl rfl
theorem Described.gmpHello (m : Datagram) : Described.Statement (.gmpHello m) := Described.of_none rfl rfl
theorem Described.bye (m : Datagram) : Described.Statement (.bye m) := Described.of_none rfl rfl
theorem Described.regRead (m : Datagram) : Described.Statement (.regRead m) := Described.of_none rfl rfl
theorem Described.regWrite (m : Datagram) : Described.Statement (.regWrite m) := Described.of_none rfl rfl
theorem Described.memRead (m : Datagram) : Described.Statement (.memRead m) := Described.of_none rfl rfl
theorem Described.memWrite (m : Datagram) : Described.Statement (.memWrite m) := Described.of_none rfl rfl
theorem Described.imageBegin (m : Datagram) : Described.Statement (.imageBegin m) := Described.of_none rfl rfl
theorem Described.imageData (m : Datagram) : Described.Statement (.imageData m) := Described.of_none rfl rfl
theorem Described.imageEnd (m : Datagram) : Described.Statement (.imageEnd m) := Described.of_none rfl rfl
theorem Described.gmpRestart (m : Datagram) : Described.Statement (.gmpRestart m) := Described.of_none rfl rfl
theorem Described.locate (m : Datagram) : Described.Statement (.locate m) := Described.of_none rfl rfl
theorem Described.subscribe (m : Datagram) : Described.Statement (.subscribe m) := Described.of_none rfl rfl
theorem Described.faultRead (m : Datagram) : Described.Statement (.faultRead m) := Described.of_none rfl rfl
theorem Described.sessionTimeout (session : Nat) (idleMs : Nat) : Described.Statement (.sessionTimeout session idleMs) := Described.of_none rfl rfl
theorem Described.noticePoll : Described.Statement (.noticePoll) := Described.of_none rfl rfl
theorem Described.mgtFrameReceive (bytes : List Byte) : Described.Statement (.mgtFrameReceive bytes) := Described.of_none rfl rfl
theorem Described.atbSample (bus : Nat) (level : Nat) : Described.Statement (.atbSample bus level) := Described.of_none rfl rfl
theorem Described.idcode : Described.Statement (.idcode) := Described.of_none rfl rfl
theorem Described.samplePreload (pins : Nat) (preload : Nat) : Described.Statement (.samplePreload pins preload) := Described.of_none rfl rfl
theorem Described.extest (pins : Nat) (drive : Nat) : Described.Statement (.extest pins drive) := Described.of_none rfl rfl
theorem Described.regacc (dr : Nat) : Described.Statement (.regacc dr) := Described.of_none rfl rfl
theorem Described.retread (load : Bool) : Described.Statement (.retread load) := Described.of_none rfl rfl
theorem Described.bypass (bit : Bool) : Described.Statement (.bypass bit) := Described.of_none rfl rfl
theorem Described.selftest (acc : Nat) (v : Word) : Described.Statement (.selftest acc v) := Described.of_accessor rfl rfl fun h => of_decide_eq_true h
theorem Described.selftestDone (fails : List TestFail) : Described.Statement (.selftestDone fails) := Described.of_none rfl rfl
theorem Described.testLock (acc : Nat) (v : Word) : Described.Statement (.testLock acc v) := Described.of_accessor rfl rfl fun h => of_decide_eq_true h
theorem Described.loopbackWrite (acc : Nat) (group : Nat) (v : Word) : Described.Statement (.loopbackWrite acc group v) := Described.of_accessor rfl rfl fun h => of_decide_eq_true (Bool.and_eq_true_iff.mp h).1
theorem Described.prbsCtrlWrite (acc : Nat) (group : Nat) (v : Word) : Described.Statement (.prbsCtrlWrite acc group v) := Described.of_accessor rfl rfl fun h => of_decide_eq_true (Bool.and_eq_true_iff.mp h).1
theorem Described.mgtLinkChange (partner : List LinkRate) (connected : Bool) : Described.Statement (.mgtLinkChange partner connected) := Described.of_none rfl rfl
theorem Described.rideThroughEnd (vrms : Nat) : Described.Statement (.rideThroughEnd vrms) := Described.of_none rfl rfl
theorem Described.dailyBinExpire : Described.Statement (.dailyBinExpire) := Described.of_none rfl rfl
theorem Described.alwaysOnStoreExhausted (heldMs : Nat) : Described.Statement (.alwaysOnStoreExhausted heldMs) := Described.of_none rfl rfl
theorem Described.lampTestEnd : Described.Statement (.lampTestEnd) := Described.of_none rfl rfl
theorem Described.corePllLockReturn (pll : Nat) : Described.Statement (.corePllLockReturn pll) := Described.of_none rfl rfl
theorem Described.registerRead (acc : Nat) (addr : Nat) : Described.Statement (.registerRead acc addr) := Described.of_accessor rfl rfl fun h => of_decide_eq_true (Bool.and_eq_true_iff.mp (Bool.and_eq_true_iff.mp h).1).1
theorem Described.undefinedOpcode (who : Who) : Described.Statement (.undefinedOpcode who) := Described.of_issuer rfl rfl id
theorem Described.testLogicReset : Described.Statement (.testLogicReset) := Described.of_none rfl rfl
theorem Described.prbsCheckerLock (group : Nat) (lane : Nat) (lock : Bool) (errors : Nat) : Described.Statement (.prbsCheckerLock group lane lock errors) := Described.of_none rfl rfl

end Sys2Proof.Laws
end

