-- ==== Sys2Proof/Machine/Indicators.lean ====
section
/-! DEFINITION. What the indicators show (R55–R63): functions of the state alone. -/
namespace Sys2Proof.Machine

/-- Colour and timing of an indicator. -/
inductive Light where
  | off | greenSteady | greenSlow | greenFast | amberSteady | amberSlow | amberFast | alternating | blueSteady | yellow
  deriving DecidableEq, Repr, Inhabited

/-- The first condition that holds decides (R57). -/
def firstLight : List (Bool × Light) → Light
  | [] => .off
  | (c, l) :: r => if c then l else firstLight r

/-- An indicator: off without mains, amber during the lamp test (R56). -/
def State.lit (s : State) (l : Light) : Light :=
  if !s.supply.on then .off else if s.boot.lampTest then .amberSteady else l

/-- Whether an image is invalid: by its status code, and while that reads "not yet checked" by what a check of a readable
flash would give. -/
def State.imageBad (s : State) (slot : Nat) : Bool :=
  let c := s.fld Reg.bootImgStat (15 + 8 * slot) (8 + 8 * slot)
  if c = 0xFF then s.validate slot true != 0 else c != 0

/-- Whether neither image is valid. -/
def State.noImage (s : State) : Bool := s.bit Reg.bootStatus 24 && s.imageBad 0 && s.imageBad 1

/-- Throttled, a fan failed, a cage latched off or cages shed. -/
def State.degraded (s : State) : Bool :=
  s.flumeStep != 0 || s.fansFailed != 0 || (List.range 20).any fun n => (s.cage n).fuse == .latched || s.isShed n

/-- STATUS (R58): the orderly stop's pattern shows from its 250 ms step (R75). -/
def State.statusLight (s : State) : Light :=
  s.lit (firstLight
    [(s.boot.stop == .fault || (s.boot.core == .held && !s.boot.holdRestart && 2 ≤ s.boot.cause && s.boot.cause ≤ 6), .amberFast),
     ((s.boot.stop == .orderly && s.boot.core == .off) || s.boot.holdRestart, .amberSteady), (s.noImage || s.boot.trainFailed, .amberSlow),
     (s.phase < 4 || s.phase == 6, .greenSlow), (s.phase == 4, .greenFast), (s.degraded, .alternating), (true, .greenSteady)])

/-- A configured timing input is short or open. -/
def State.inputBad (s : State) : Bool :=
  ((s.source == 2 || s.source == 3) && 2 ≤ s.fld Reg.tbStatus 23 22) ||
    ((freqSourceOf (s.rd Reg.tbCtrl)).1 == 1 && 2 ≤ s.fld Reg.tbStatus 21 20)

/-- TIME (R59, R668). -/
def State.timeLight (s : State) : Light :=
  s.lit (firstLight
    [(s.inputBad, .amberFast), (s.tb.refused, .amberSlow), (s.source == 0, .off), (s.tbState == 3, .amberSteady),
     (s.tbState == 1, .greenSlow), (s.tbState == 2, .greenSteady)])

/-- Configured ports of a cage, and those up. -/
def State.portsOn (s : State) (g : Nat) : List Nat := (s.groupPorts g).filter fun p => s.bit (portCtrlOf p) 31
def State.portsUp (s : State) (g : Nat) : List Nat := (s.portsOn g).filter fun p => s.portState p == 5

/-- A cage indicator (R60). -/
def State.cageLight (s : State) (g : Nat) : Light :=
  s.lit (firstLight
    [((s.cage g).fuse == .latched || s.isShed g, .amberFast), ((s.cage g).fuse == .retrying, .amberSlow),
     (16 ≤ g && (s.stk.links.get (g - 16)).state == 2, .alternating),
     (!(s.cage g).present || s.portsOn g == [], .off), (s.portsUp g == [], .amberSteady),
     (s.portsUp g != s.portsOn g, .greenSlow), (true, .greenSteady)])

/-- PWR (R61), from what the supervisor holds of the input. For an input out of range that is no sag, interruption or high
input yet, R61 has no row; the model shows off (DESIGN CHOICE). -/
def State.powerLight (s : State) : Light :=
  let x := s.supply
  s.lit (firstLight
    [(x.riding || 26500 < x.vrms, .amberFast), (x.peOpen || x.lnSwap, .amberSteady),
     (inRange x.vrms && 470 ≤ x.freq && x.freq ≤ 630, .greenSteady)])

/-- FAN (R62). -/
def State.fanLight (s : State) : Light :=
  s.lit (firstLight [(2 ≤ s.fansFailed, .amberFast), (s.fansFailed == 1, .amberSteady), (true, .greenSteady)])

/-- The RJ45's left indicator: the link (R44). The lamp test leaves both out (R56). -/
def State.mgtLinkLight (s : State) : Light :=
  if s.supply.on && s.bit Reg.mgtStatus 31 then .greenSteady else .off

/-- The RJ45's right indicator: 50 ms per frame received or sent (R44). -/
def State.mgtFrameLight (s : State) : Light :=
  if s.supply.on && 0 < s.mgt.flashNs then .yellow else .off

/-- LOCATE (R56, R63): blue during the lamp test and while locate is on. -/
def State.locateLight (s : State) : Light :=
  if !s.supply.on then .off else if s.boot.lampTest || s.mgt.locate then .blueSteady else .off

end Sys2Proof.Machine
end

