-- ==== Sys2Proof/Tests/Setup.lean ====
section
/-! SUPPORT. Small states that the tests and witnesses start from. -/
set_option Elab.async false
set_option linter.all false
namespace Sys2Proof.Tests
open Sys2Proof Sys2Proof.Machine

/-- The module with its core running. -/
def up : State := { State.reset with boot.core := .running }
/-- A thread of a packet engine, the last one. -/
def pe7 : Who := .pe 15 15 7
/-- That thread running context 8191, registers `a`, its program store holding `words` from its PC. -/
def peSt (words : List Nat) (a : Arch) : State :=
  { up with
    dsp.ctxs := (up.dsp.ctxs).set 8191 { st := .running, cluster := 15, engine := 15, thread := 7, avail := 256 }
    flume.threads := (up.flume.threads).set (thrNo 15 15 7) { ctx := some 8191, arch := a }
    flume.ps := words.zipIdx.foldl (fun m e => m.set (15 * 65536 + (a.pc + e.2) % 65536) e.1) {} }
/-- Control engine 3, released, registers `a`, its local memory holding `words` from its PC. -/
def ceSt (words : List Nat) (a : Arch) : State :=
  { (up.setBit (Reg.flmCeCtrl 0 3) 31 true).setCe 3 { base := a } with
    mem := Mem.putBytes {} (0x1000000 + 3 * 0x400000 + 2 * a.pc) (words.flatMap fun w => leBytes w 2) }
/-- What holds of every listed entry and of an unlisted one holds at every key. -/
theorem smapFind_forall {V : Type} (d : V) (P : Nat → V → Prop) (hd : ∀ k, P k d) :
    ∀ l : List (Nat × V), (∀ e ∈ l, P e.1 e.2) → ∀ k, P k ((smapFind l k).getD d)
  | [], _, k => hd k
  | e :: r, h, k => by
    have ih := smapFind_forall d P hd r (fun x hx => h x (List.mem_cons_of_mem _ hx)) k
    have h0 := h e List.mem_cons_self
    unfold smapFind
    split
    · rename_i hk; subst hk; exact h0
    · exact ih

/-- The same for a table. -/
theorem forallGet {V : Type} [Inhabited V] (m : SMap V) (P : Nat → V → Prop) (h : ∀ e ∈ m.entries, P e.1 e.2)
    (hd : ∀ k, P k default) (k : Nat) : P k (m.get k) := smapFind_forall default P hd m.entries h k

end Sys2Proof.Tests
end

