-- ==== Sys2Proof/Tests/Slice0.lean ====
section
/-! SUPPORT. Tests: the well-formedness smoke, single steps against the spec's tables and worked examples, the fixed
algorithms against their published test vectors, and the witnesses of the whole-machine statements. -/
set_option Elab.async false
set_option linter.all false
namespace Sys2Proof.Tests
open Sys2Proof Sys2Proof.Machine

/-- A next state of which `p` holds. -/
def after (o : Out) (p : State → Bool) : Bool := match o with | .next t => p t | _ => false

/-! ### Well-formedness: each check refuses a command that fails it alone -/

/-- A frame whose start block came on a ninth lane. -/
abbrev offLane : RxFrame := { bytes := [], err := none, ago := 0, lane := 8 }

/-- A word of a table's array that an upset leaves invalid. -/
abbrev upset (t : TableSel) (replica index : Nat) : ArrayUpset :=
  { table := t, replica := replica, index := index, valid := false, val := 0, mask := 0 }

theorem test_wf_refuses_1 : ([.imageValidation 2 true, .dramTraining 4 true, .serdesCalibration 20 true, .fuseTrip 20,
    .fuseRetry 20 true, .opticInserted 20 0 true, .opticRemoved 20, .fanFailed 6 0 0,
    .fanRunning 6 0 0, .pllLockLoss 7, .freqMeasure 7 0, .pgGateWrite 7 0,
    .throttleCeilingWrite 7 0, .shedClr 7 0, .fuseRearm 7 0, .registerWrite 7 0 0,
    .registerWrite 0 0x1000000 0, .svnRaise 7 0, .keyRevoke 7 0, .confirm 7 0,
    .restartCommand 7 0, .syswdKick 7 0, .signalDetect 132 true, .anComplete 132 0,
    .alignmentLock 132 default, .debounceExpire 132 0 default default, .remoteFault 132, .remoteFaultClear 132 0 default,
    .linkLoss 132, .pfcFrameReceive 132 default, .pfcFrameReceive 0 offLane, .pauseFrameReceive 132 default,
    .pauseFrameReceive 0 offLane, .pfcPauseExpire 132 0 0, .pfcPauseExpire 0 8 0, .pgCtrlWrite 7 0 0] : List Instr).all (fun c => !c.wf) = true := by decide

theorem test_wf_refuses_2 : ([.pgCtrlWrite 0 20 0, .portCtrlWrite 7 0 0, .portCtrlWrite 0 132 0, .headerOffer 21 true,
    .parseStart 160 true, .microwordExecute 160 none, .parseEnd 160, .ucWrite 7 0,
    .ucRead 7 0, .hdgCtrlWrite 7 0, .lookup 21 0 [] none, .lookup 0 20 [] none,
    .weirCmdWrite 7 0, .weirCmdInvalidate 7 0, .weirCmdRead 7 0, .weirCmdSearch 7 0,
    .weirCtrlWrite 7 0, .missAdCommit 7 0, .profileCommit 7 0 0, .profileCommit 0 256 0,
    .emtInsert 7 0, .emtDelete 7 0, .emtCmdLookup 7 0, .emtCmdRead 7 0,
    .emtInvalidate 7 0, .emtUpdate 7 0, .lqPop 7 0, .contextSlot 16 0,
    .contextSlot 0 16, .threadTake 16 0 0, .threadTake 0 16 0, .threadTake 0 0 8,
    .contextEnd 8192, .release 8192, .watchdogExpire 8192, .exceptionWatchdogExpire 8192] : List Instr).all (fun c => !c.wf) = true := by decide

theorem test_wf_refuses_3 : ([.interruptTake 4, .writeBufferDrain 4, .cacheLineFill 4, .ceRunWrite 7 0 0,
    .ceRunWrite 0 4 0, .psDataWrite 7 0 0, .psDataWrite 0 16 0, .shmDataAccess 7 0 none,
    .shmDataAccess 0 16 none, .logEntryApply 16, .sweepCount 7 0, .sweepReport 7 0,
    .sweepExpire 7 0, .sweepRecord 16, .sweepAbort 7 0, .copyTransmitStart 134,
    .copyTransmitEnd 134, .schedulerChoose 134 0, .sluiceRefill 2278, .sluiceWrite 7 0 true 0,
    .sluiceWrite 0 2278 true 0, .pfcFrameSend 132, .pfcRefresh 132 0, .mcWrite 7 0,
    .mcRead 7 0, .bpmCmdAlloc 7 0, .bpmCmdFree 7 0, .bpmCmdHandover 7 0,
    .bpmCmdShare 7 0, .poolInit 7 0, .poolInitDone 5, .tbSet 7 0,
    .tbStep 7 0, .tbSlew 7 0] : List Instr).all (fun c => !c.wf) = true := by decide

theorem test_wf_refuses_4 : ([.tbCtrlWrite 7 0, .tbServoWrite 7 0, .tbSnapshotRead 7 true,
    .helloSend 4, .helloReceive 4 default, .helloReceive 0 offLane,
    .helloHoldExpire 4 0, .tableEntryExpire 8 0, .dramCommandIssue 128 true [], .dramReadComplete 128 [],
    .dramRefresh 128 true, .dramTempRead 4 0, .selfRefreshEntry 4 0, .rowIdleClose 128 0 0,
    .rowIdleClose 0 16 0, .arrayRewrite 0x18 0 0 0 default, .arrayRewrite 1 20 0 0 default, .arrayRewrite 1 0 256 0 default,
    .scrubRepair 7 0, .scrubSurvey 7 0, .scrubZero 7 0, .scrubAbort 7 0,
    .dmaStart 7 0 0, .dmaStart 0 32 0, .dmaStop 7 0 0, .dmaStop 0 32 0,
    .dmaKick 7 0 0, .dmaKick 0 32 0, .descriptorFetch 32, .beatIssue 32,
    .beatAnswer 32, .descriptorWriteback 32, .descriptorPoll 32 0, .rxCopy 32] : List Instr).all (fun c => !c.wf) = true := by decide

theorem test_wf_refuses_5 : ([.txFrame 32, .eventRaise 320, .evcPendingRead 7 0 0, .evcPendingRead 0 5 0,
    .evcPendingRead 0 0 10, .evcSet 7 0, .pmcSnapshot 7 0, .pmcCounterClear 7 0,
    .sampleCapture 16 0, .sampleCapture 0 16, .sessionTimeout 4 0, .atbSample 2 0,
    .selftest 7 0, .testLock 7 0, .loopbackWrite 7 0 0, .loopbackWrite 0 20 0,
    .prbsCtrlWrite 7 0 0, .prbsCtrlWrite 0 20 0, .corePllLockReturn 7, .registerRead 7 0,
    .registerRead 0 0x1000000, .prbsCheckerLock 20 0 true 0, .prbsCheckerLock 0 8 true 0, .registerWrite 7 0 0,
    .registerWrite 0 2 0, .registerWrite 0 0x1000000 0, .registerRead 7 0, .registerRead 0 2,
    .registerRead 0 0x1000000, .tailVerdict { (default : TailIn) with port := 132 }, .tailVerdict { (default : TailIn) with frame := offLane }, .frameAdmit 132 default, .frameAdmit 0 offLane,
    .microwordExecute 0 (some { store := 0xB, word := 0, syndrome := 0 }), .microwordExecute 0 (some { store := 0xE, word := 0, syndrome := 0 }), .lookup 0 0 [] (some { store := 0xD, word := 0, syndrome := 0 }), .lookup 0 0 [] (some { store := 0x12, word := 0, syndrome := 0 })] : List Instr).all (fun c => !c.wf) = true := by decide

theorem test_wf_refuses_6 : ([.walkStep .weir 10 [] none, .walkStep .emt 20 [] none, .walkStep .weir 0 [] (some { store := 0x10, word := 0, syndrome := 0 }),
    .walkStep .emt 0 [upset .weir 10 0] none, .lookup 0 0 [upset .weir 0 32768] none, .wlook pe7 [upset .emt 20 0], .elook pe7 [upset .emt 0 65536], .poolInitDone 0, .arrayRewrite 0 0 0 0 default,
    .arrayRewrite 1 0 0 (2 ^ 48) default, .dramRequestAccept { ({ port := 0, addr := 0x2000000000, atoms := 1, write := false, data := [] : DramReq }) with port := 6 }, .dramRequestAccept { ({ port := 0, addr := 0x2000000000, atoms := 1, write := false, data := [] : DramReq }) with addr := 0x1FFFFFFFC0 }, .dramRequestAccept { ({ port := 0, addr := 0x2000000000, atoms := 1, write := false, data := [] : DramReq }) with addr := 0x4000000000 },
    .dramRequestAccept { ({ port := 0, addr := 0x2000000000, atoms := 1, write := false, data := [] : DramReq }) with addr := 0x2000000001 }, .dramRequestAccept { ({ port := 0, addr := 0x2000000000, atoms := 1, write := false, data := [] : DramReq }) with atoms := 0 }, .dramRequestAccept { ({ port := 0, addr := 0x2000000000, atoms := 1, write := false, data := [] : DramReq }) with atoms := 5 }, .dramRequestAccept { ({ port := 0, addr := 0x2000000000, atoms := 1, write := false, data := [] : DramReq }) with addr := 0x2000000040, atoms := 4 },
    .dramRequestAccept { ({ port := 0, addr := 0x2000000000, atoms := 1, write := false, data := [] : DramReq }) with write := true }] : List Instr).all (fun c => !c.wf) = true := by decide

theorem test_wf_issuer_1 : ∀ w ∈ [Who.pe 16 0 0, Who.pe 0 16 0, Who.pe 0 0 8, Who.ce 4], ([.loadDeliver w, .helperResult w, .nop w, .dup w, .drop w, .swap w, .over w, .rot w,
    .nip w, .depth w, .pushs w, .ext w, .pick w, .put w, .roll w, .addOp w,
    .sub w, .andOp w, .orOp w, .xor w, .shl w, .shr w, .sar w, .mul w,
    .mulhu w, .minu w, .maxu w, .eqOp w, .neOp w, .ltu w, .lts w, .notOp w,
    .neg w, .clz w, .popcnt w, .bswap16 w, .bswap32 w, .sext8 w, .sext16 w, .addi w,
    .andi w, .ori w, .xori w, .shli w] : List Instr).all (fun c => !c.wf) = true := by decide

theorem test_wf_issuer_2 : ∀ w ∈ [Who.pe 16 0 0, Who.pe 0 16 0, Who.pe 0 0 8, Who.ce 4], ([.shri w, .sari w, .eqi w, .ltui w, .tstbi w, .parity w, .brev8 w, .brev16 w,
    .brev32 w, .crc32c w, .crc16 w, .ld w, .ldc w, .st w, .stc w, .fadd w,
    .bra w, .bz w, .bnz w, .call w, .ret w, .jmps w, .calls w, .setrc w,
    .rep w, .repx w, .poprc w, .pushrc w, .tor w, .fromr w, .rfetch w, .loop w,
    .reti w, .ei w, .di w, .clean w, .inval w, .sync w, .setseg w, .getseg w,
    .wait w, .h32m w, .symh w, .hcallCrc32c w] : List Instr).all (fun c => !c.wf) = true := by decide

theorem test_wf_issuer_3 : ∀ w ∈ [Who.pe 16 0 0, Who.pe 0 16 0, Who.pe 0 0 8, Who.ce 4], ([.hcallCrc16 w, .crc32 w, .csum w, .csumAdj w, .tsNow w, .tsNs64 w, .tsAge w, .alloc w,
    .free w, .handover w, .share w, .bufferRead w, .bufferWrite w, .wlook w [], .elook w [], .replace w,
    .editInsert w, .remove w, .editStamp w, .siphon w, .culvert w, .editClear w, .emit w, .emitMc w,
    .hcallDrop w, .flowLookup w, .flowCreate w, .flowDelete w, .flowRead w, .flowWrite w, .fadd32 w, .fadd64 w,
    .cas32 w, .minu32 w, .maxu32 w, .setbits32 w, .clrbits32 w, .flowStamp w, .account w, .police w,
    .flowExport w, .flowAbort w, .undefinedOpcode w] : List Instr).all (fun c => !c.wf) = true := by decide

/-- The same operands within their bounds are taken. -/
theorem test_wf_accepts : ([.imageValidation 1 true, .registerWrite 6 0xFFFFFC 0, .walkStep .weir 9 [upset .weir 9 32767] none, .walkStep .emt 19 [upset .emt 19 65535] (some { store := 0x10, word := 0, syndrome := 0 }), .poolInitDone 4,
    .arrayRewrite 0x17 19 255 (2 ^ 48 - 1) default, .threadTake 15 15 7, .addOp pe7, .addOp (.ce 3), .dramRequestAccept { port := 0, addr := 0x2000000000, atoms := 1, write := false, data := [] : DramReq }] : List Instr).all Instr.wf = true := by
  decide

/-- An ill-formed command ends in the fault of that name and in nothing else. -/
theorem test_ill_formed : exec (.fuseTrip 20) up = .fault .illFormed ∧ exec (.addOp (.ce 4)) up = .fault .illFormed ∧
    exec (.registerRead 0 2) up = .fault .illFormed := ⟨rfl, rfl, rfl⟩

/-! ### Flume (chapters 9 and 10) -/

/-- The data stack of the last thread after one instruction. -/
def dsIs (o : Out) (l : List Word) : Bool := after o fun t => (t.arch pe7).ds == l

/-- R429: a + b modulo 2³²; a − b with b on top. -/
theorem test_add_wraps_sub_order :
    (dsIs (exec (.addOp pe7) (peSt [0x0010] { ds := [1, 0xFFFFFFFF] })) [0] &&
     dsIs (exec (.sub pe7) (peSt [0x0011] { ds := [3, 10] })) [7]) = true := by decide +kernel

/-- R429: a shift counts b[4:0]; SAR fills with the sign. -/
theorem test_shift_counts :
    (dsIs (exec (.shl pe7) (peSt [0x0015] { ds := [33, 5] })) [10] &&
     dsIs (exec (.sar pe7) (peSt [0x0017] { ds := [31, 0x80000000] })) [0xFFFFFFFF] &&
     dsIs (exec (.shr pe7) (peSt [0x0016] { ds := [31, 0x80000000] })) [1]) = true := by decide +kernel

/-- R429: the high half of the product; signed and unsigned order. -/
theorem test_mulhu_lts_ltu :
    (dsIs (exec (.mulhu pe7) (peSt [0x0019] { ds := [0xFFFFFFFF, 0xFFFFFFFF] })) [0xFFFFFFFE] &&
     dsIs (exec (.lts pe7) (peSt [0x001F] { ds := [0, 0xFFFFFFFF] })) [1] &&
     dsIs (exec (.ltu pe7) (peSt [0x001E] { ds := [0, 0xFFFFFFFF] })) [0]) = true := by decide +kernel

/-- R429, R431: leading zeros of 0, byte order, the bits of the low byte reversed. -/
theorem test_clz_bswap_brev :
    (dsIs (exec (.clz pe7) (peSt [0x0022] { ds := [0] })) [32] &&
     dsIs (exec (.bswap32 pe7) (peSt [0x0029] { ds := [0x01020304] })) [0x04030201] &&
     dsIs (exec (.brev8 pe7) (peSt [0x0025] { ds := [0x101] })) [0x80]) = true := by decide +kernel

/-- The example of chapter 10: 0x100A, 0x2090, 0x2807 give 0x0A09_0807. -/
theorem test_constant_in_three_words :
    (dsIs (exec (.pushs pe7) (peSt [0x100A] {})) [0xA] && dsIs (exec (.ext pe7) (peSt [0x2090] { ds := [0xA] })) [0xA090] &&
     dsIs (exec (.ext pe7) (peSt [0x2807] { ds := [0xA090] })) [0x0A090807] &&
     dsIs (exec (.pushs pe7) (peSt [0x1FFF] {})) [0xFFFFFFFF]) = true := by decide +kernel

/-- The CRC32C example of chapter 10, its stack steps: PICK 2, PUT 2. -/
theorem test_pick_put :
    (dsIs (exec (.pick pe7) (peSt [0x9002] { ds := [0x31, 0xFFFFFFFF, 0x200] })) [0x200, 0x31, 0xFFFFFFFF, 0x200] &&
     dsIs (exec (.put pe7) (peSt [0x9102] { ds := [0x201, 0x31, 0xFFFFFFFF, 0x200] })) [0x31, 0xFFFFFFFF, 0x201]) = true := by
  decide +kernel

/-- The same example: nine CRC32C instructions over "123456789", and NOT, give 0xE306_9283. -/
theorem test_crc32c_check :
    ((List.range 9).foldl (fun c i => aluCrc32c c (BitVec.ofNat 32 (0x31 + i))) 0xFFFFFFFF ^^^ 0xFFFFFFFF) = (0xE3069283 : Word) := by
  decide +kernel

/-- R445, the repeated ADD of chapter 10: its first iteration, and its last, after which the thread goes on behind it. -/
theorem test_rep_add :
    (after (exec (.addOp pe7) (peSt [0x0010] { ds := [7, 6, 5, 4, 3], rc := 4, pc := 0x122, rep := some (0x121, false) })) (fun t =>
       (t.arch pe7).ds == [13, 5, 4, 3] && (t.arch pe7).rc == 3 && (t.arch pe7).pc == 0x122) &&
     after (exec (.addOp pe7) (peSt [0x0010] { ds := [22, 3], rc := 1, pc := 0x122, rep := some (0x121, false) })) (fun t =>
       (t.arch pe7).ds == [25] && (t.arch pe7).rc == 0 && (t.arch pe7).pc == 0x123)) = true := by decide +kernel

/-- The same example: REP aimed at POPRC takes REPEAT_TARGET; the entry finds RC 0, PC 0x123 and 0x2000_0000. -/
theorem test_rep_poprc_faults :
    after (exec (.rep pe7) (peSt [0xB100, 0xB300] { ds := [25], pc := 0x123 })) (fun t =>
      (t.arch pe7).ds == [0x20000000, 0x123, 0] && (t.ctx 8191).st == .exception) = true := by decide +kernel

/-- R421, R394: a pop of an empty stack takes STACK, subcode 1. -/
theorem test_underflow : dsIs (exec (.drop pe7) (peSt [0x0003] { pc := 9, rc := 6 })) [0x31000000, 9, 6] = true := by decide +kernel

/-- R441: BRA −1 branches to itself; BZ pops and, on a value that is not zero, goes on. -/
theorem test_branches :
    (after (exec (.bra pe7) (peSt [0x33FF] { pc := 0x40 })) (fun t => (t.arch pe7).pc == 0x40) &&
     after (exec (.bz pe7) (peSt [0x3405] { ds := [1], pc := 0x40 })) (fun t => (t.arch pe7).pc == 0x41 && (t.arch pe7).ds == [])) = true := by
  decide +kernel

/-- R446: LOOP 6 at 0x49 targets 0x43 while RC is not 0. -/
theorem test_loop :
    (after (exec (.loop pe7) (peSt [0xB806] { rc := 2, pc := 0x49 })) (fun t => (t.arch pe7).pc == 0x43 && (t.arch pe7).rc == 1) &&
     after (exec (.loop pe7) (peSt [0xB806] { rc := 1, pc := 0x49 })) (fun t => (t.arch pe7).pc == 0x4A && (t.arch pe7).rc == 0)) = true := by
  decide +kernel

/-- The delay slot of chapter 9: a load keeps its address in its slot until the next instruction has completed. -/
theorem test_load_delay :
    (after (exec (.ld pe7) { peSt [0x4800] { ds := [0x10040] } with flume.shm := putBytes {} (15 * 0x40000 + 0x40) [0x34, 0x12, 0, 0] }) (fun t =>
       (t.arch pe7).ds == [0x10040] && (t.arch pe7).pend.map (fun p => (p.slot, p.value, p.arrived)) == [(0, 0x1234, false)]) &&
     after (exec (.loadDeliver pe7) (peSt [0] { ds := [8, 0x10040], pend := [{ slot := 0, value := 0x1234, arrived := false, delayDone := true }] })) (fun t =>
       (t.arch pe7).ds == [8, 0x1234] && (t.arch pe7).pend == [])) = true := by decide +kernel

/-- R438: FADD on cluster-shared memory adds at once and delivers the old value later. -/
theorem test_fadd :
    after (exec (.fadd pe7) (peSt [0x0040] { ds := [0x10000, 5] })) (fun t =>
      t.peLoad 15 0 0x10000 4 == 5 && (t.arch pe7).ds == [5] && (t.arch pe7).pend.map (fun p => p.value) == [0]) = true := by decide +kernel

/-- R402, R451: RETI at interrupt level returns to base level at RESUME with IE set. -/
theorem test_reti :
    after (exec (.reti (.ce 3)) (ceSt [0xD000] {} |>.setCe 3 { level := true, resume := 0x77 })) (fun t =>
      !(t.ce 3).level && (t.ce 3).ie && (t.ce 3).base.pc == 0x77) = true := by decide +kernel

/-- R451: SETSEG and GETSEG use the segment register of the current level. -/
theorem test_segment :
    (after (exec (.setseg (.ce 3)) (ceSt [0xD60F] {})) (fun t => (t.ce 3).segBase == 15 && (t.ce 3).segIntr == 0) &&
     after (exec (.getseg (.ce 3)) (ceSt [0xD700] {} |>.setCe 3 { segBase := 9 })) (fun t => (t.ce 3).base.ds == [9])) = true := by
  decide +kernel

/-- RFC 1624's example through HCALL CSUM_ADJ (R467): 0xDD2F with 0x5555 replaced by 0x3285 gives 0. -/
theorem test_csum_adj :
    after (exec (.csumAdj pe7) (peSt [0xA201] { ds := [0x3285, 0x5555, 0xDD2F] })) (fun t =>
      (t.thr 15 15 7).wait.map (fun c => c.results) == some [0]) = true := by decide +kernel

/-- R483: DROP of the packet by HCALL ends the context. -/
theorem test_hcall_drop : after (exec (.hcallDrop pe7) (peSt [0xA70A] {})) (fun t => (t.ctx 8191).ending == .drop 6) = true := by
  decide +kernel

/-! ### Registers, events, counters -/

/-- R826: EVC.SET raises its event. -/
theorem test_evc_set :
    after (exec (.evcSet 4 223) (up.wr (Reg.evcRoute 223) 1)) (fun t =>
      t.rd (Reg.evcRaised 223) == 1 && t.bit (Reg.evcPending 0 6) 31) = true := by decide +kernel

/-- R823: a read of a pending word clears it for that target alone. -/
theorem test_pending_read :
    after (exec (.evcPendingRead 4 0 6) ((up.wr (Reg.evcPending 0 6) 5).wr (Reg.evcPending 1 6) 5)) (fun t =>
      t.rdData.get 4 == 5 && t.rd (Reg.evcPending 0 6) == 0 && t.rd (Reg.evcPending 1 6) == 5) = true := by decide +kernel

/-- R859: the JTAG identification code. -/
theorem test_idcode : after (exec .idcode up) (fun t => t.test.dr == 0x11280A3B) = true := by decide +kernel

/-! ### Power, ports, time -/

/-- R53: the boot starts above 85 V rms, not at it. -/
theorem test_power_on :
    (after (exec (.powerOn 8501 false) { State.reset with supply := { State.reset.supply with on := false } }) (fun t => t.supply.on) &&
     after (exec (.powerOn 8500 false) { State.reset with supply := { State.reset.supply with on := false } }) (fun t => !t.supply.on)) = true := by
  decide +kernel

/-- R92: a fan below 20 % for 3 s has failed, and event 295 is raised. -/
theorem test_fan_failed :
    (after (exec (.fanFailed 5 19 3000) { up with supply := { up.supply with on := true } }) (fun t => t.bit (Reg.ssvFan 5) 31 && t.rd (Reg.evcRaised 295) == 1) &&
     after (exec (.fanFailed 5 20 3000) { up with supply := { up.supply with on := true } }) (fun t => !t.bit (Reg.ssvFan 5) 31)) = true := by
  decide +kernel

/-- R636, R638: RATE 27,307 of chapter 16's example is held, and taken at the Sluice's slot; the bucket, empty, gains as much. -/
theorem test_sluice_rate :
    (after (exec (.sluiceWrite 4 2277 false 0x80006AAB) up) (fun t => t.rd (Reg.schSluiceRate 2277) == 0 && t.sch.heldRate.get 2277 == some 0x80006AAB) &&
     after (exec (.sluiceRefill 2277) { up with sch.heldRate := SMap.set {} 2277 (some 0x80006AAB) }) (fun t => t.rd (Reg.schSluiceRate 2277) == 0x80006AAB)) = true := by
  decide +kernel

/-! ### Tables, memory, DMA -/

/-- R297, R298: of two matching entries the lower index wins. -/
theorem test_weir_search :
    after (exec (.weirCmdSearch 4 4) { up with tables.weir := (({} : SMap WeirEntry).set 9 { valid := true }).set 20000 { valid := true } }) (fun t =>
      t.rd Reg.weirResult == 0x80000009) = true := by decide +kernel

/-- The example of chapter 19: where 0x2F_8B11_6B80 lies. -/
theorem test_dram_map : dramMap 0x2F8B116B80 = { chan := 25, bank := 15, row := 0x7C58, unit := 2, atom := 2 } := by decide

/-- R815: a channel started twice is rejected the second time. -/
theorem test_dma_start :
    (after (exec (.dmaStart 4 31 1) (up.wr (Reg.dmaChCfg 31) 0)) (fun t => (t.dch 31).busy) &&
     after (exec (.dmaStart 4 31 1) { up with dma.chans := SMap.set {} 31 { state := 1 } }) (fun t => t.dch 31 == { state := 1 })) = true := by
  decide +kernel

/-! ### The fixed algorithms against their published test vectors -/

/-- Bytes of a number, most significant first. -/
def hex (v n : Nat) : List Byte := beBytes v n

/-- FIPS 180-4: "abc". -/
theorem test_sha256 : sha256 [0x61, 0x62, 0x63] = 0xba7816bf8f01cfea414140de5dae2223b00361a396177a9cb410ff61f20015ad := by decide +kernel

/-- FIPS 180-4: "abc". -/
theorem test_sha512 : sha512 [0x61, 0x62, 0x63] = 0xddaf35a193617abacc417349ae20413112e6fa4e89a97ea20a9eeee64b55d39a2192992a274fc1a836ba3c23a3feebbd454d4423643ce80e2a9ac94fa54ca49f := by
  decide +kernel

/-- RFC 8032, section 7.1, test 1: the empty message; and the same signature on another message. -/
theorem test_ed25519 :
    let pk := hex 0xd75a980182b10ab7d54bfed3c964073a0ee172f3daa62325af021a68f707511a 32
    let sg := hex 0xe5564300c360ac729086e2cc806e828a84877f1eb8e5d974d873e065224901555fb8821590a33bacc61e39701cf9b46bd25bf5f0595bbe24655141438e7a100b 64
    ed25519Verify pk [] sg = true ∧ ed25519Verify pk [1] sg = false := by decide +kernel

/-! ### The statements about the whole machine -/

/-- `Obligations.StepRunsFront`: a waiting command. -/
theorem witness_StepRunsFront_front :
    ({ up with pending := [.nop pe7, .lampTestEnd] } : State).pending = .nop pe7 :: [.lampTestEnd] := rfl

/-- `Obligations.WellFormedCompletes`: a well-formed command and one that is not. -/
theorem witness_WellFormedCompletes : (Instr.nop pe7).wf = true ∧ (Instr.nop (.ce 4)).wf = false := by decide

/-- `Obligations.EveryStepSound`: a sound state with a command waiting, which steps. -/
theorem witness_EveryStepSound :
    ({ up with pending := [.nop (.ce 0)] } : State).sound ∧ ∃ t, step { up with pending := [.nop (.ce 0)] } = .next t := by
  refine ⟨⟨?_, ?_, ?_⟩, _, rfl⟩
  · intro c h
    have e : c = .nop (.ce 0) := List.mem_singleton.mp h
    rw [e]; decide
  · unfold State.memoriesOk Memory.wf; decide +kernel
  · unfold State.tablesOk; decide +kernel

/-- A thread whose stacks are full. -/
def fullThread : State := peSt [1] { ds := List.replicate 16 0, rs := List.replicate 8 0 }

/-- `Obligations.StackDepthsKept`: that state keeps the depths, and steps. -/
theorem witness_StackDepthsKept :
    fullThread.stacksOk ∧ ∃ t, step { fullThread with pending := [.nop pe7] } = .next t := by
  refine ⟨⟨?_, ?_⟩, _, rfl⟩
  · refine forallGet fullThread.flume.threads
      (fun _ (e : Thread) => e.arch.fits ∧ ∀ c, e.wait = some c → e.arch.ds.length + c.owed ≤ 16) ?_
      fun _ => ⟨by unfold Arch.fits; decide, nofun⟩
    intro e h
    have e0 : e = (thrNo 15 15 7, { ctx := some 8191, arch := { ds := List.replicate 16 0, rs := List.replicate 8 0 } }) :=
      List.mem_singleton.mp h
    subst e0
    exact ⟨by unfold Arch.fits; decide, nofun⟩
  · exact forallGet fullThread.flume.ces (fun _ (e : Ce) => e.base.fits ∧ e.intr.fits) nofun fun _ => by unfold Arch.fits; decide


end Sys2Proof.Tests
end

