-- ==== Sys2Proof/Tests/WitnessCalls.lean ====
section
/-! SUPPORT. Witnesses: for every clause of a statement, a concrete state and operands that meet its hypotheses together. -/
set_option Elab.async false
set_option linter.all false

namespace Sys2Proof.Tests.D
open Sys2Proof Sys2Proof.Machine Sys2Proof.Tests

def frame : SMap Byte := putBytes {} 0x100 ((List.range 64).map fun i => BitVec.ofNat 8 (i*7+3))
def hs (word : Nat) (ds : List Word) : State := (peSt [word] {ds := ds}).setCtx 8191 { st := .running, cluster := 15, engine := 15, thread := 7, avail := 256, frame := frame }
def H (w : Nat) := hs w [9,0x100,0xFFFFFFFF,5]
def H2 (w : Nat) := hs w [257,0x100,7,5]
def H3 (w : Nat) := hs w [256,0x301,7,5]
def tbS (w : Nat) (ds : List Word) : State := { hs w ds with tb.sec := 2^40+77, tb.ns := 999999999, tb.frac := 2^47+5 }
def w1 : List Word := [5]
def w2 : (Who → Instr) × ℕ × ℕ × (List Byte → ℕ) := (Instr.h32m, 0, 0, fun bs => hashFin (crc32cBytes (0xFFFFFFFF : Word).toNat bs))
def w3 : (Who → Instr) × ℕ × ℕ × (List Byte → ℕ) := (Instr.h32m, 0, 0, fun bs => hashFin (crc32cBytes (7 : Word).toNat bs))
def w4 : (Who → Instr) × ℕ × ℕ × (List Byte → ℕ) := (Instr.csum, 2, 0, fun bs => onesFold ((7 : Word).toNat % 65536 + sumWords bs))
def w5 : State := hs 0xA001 [8,0x120,0x100,7,5]
def w6 : State := hs 0xA201 [0x12345678,0x89ABCDEF,0xDD2F,5]
def w7 : State := tbS 0xA300 [5]
def w8 : State := tbS 0xA301 [5]
def w9 : State := tbS 0xA302 [5]

/-- Clauses of `Obligations.HashChecksumAndTimeCalls`, each with all its hypotheses met together. -/
theorem witness_HashChecksumAndTimeCalls :
    /- 1.1.1 -/ (w2 ∈ [(Instr.h32m, 0, 0, fun (bs : List Byte) => hashFin (crc32cBytes ((4294967295 : Word).toNat) bs)), (Instr.hcallCrc32c, 1, 0, fun (bs : List Byte) => crc32cBytes ((4294967295 : Word).toNat) bs), (Instr.hcallCrc16, 1, 1, fun (bs : List Byte) => crc16Bytes ((4294967295 : Word).toNat) bs), (Instr.crc32, 1, 2, fun (bs : List Byte) => crc32Bytes ((4294967295 : Word).toNat) bs), (Instr.csum, 2, 0, fun (bs : List Byte) => onesFold ((4294967295 : Word).toNat % 65536 + sumWords bs))] ∧ ((H 40960).atCall 15 15 7 8191 w2.2.1 w2.2.2.1 1 [4294967295, 256, 9] w1 ∧ (1 ≤ (9 : Word).toNat ∧ (9 : Word).toNat ≤ 256 ∧ (256 : Word).toNat + (9 : Word).toNat ≤ 1024))) ∧
    /- 1.1.2 -/ (w3 ∈ [(Instr.h32m, 0, 0, fun (bs : List Byte) => hashFin (crc32cBytes ((7 : Word).toNat) bs)), (Instr.hcallCrc32c, 1, 0, fun (bs : List Byte) => crc32cBytes ((7 : Word).toNat) bs), (Instr.hcallCrc16, 1, 1, fun (bs : List Byte) => crc16Bytes ((7 : Word).toNat) bs), (Instr.crc32, 1, 2, fun (bs : List Byte) => crc32Bytes ((7 : Word).toNat) bs), (Instr.csum, 2, 0, fun (bs : List Byte) => onesFold ((7 : Word).toNat % 65536 + sumWords bs))] ∧ ((H2 40960).atCall 15 15 7 8191 w3.2.1 w3.2.2.1 1 [7, 256, 257] w1 ∧ (257 = 0 ∨ 256 < (257 : Word).toNat))) ∧
    /- 1.1.3 -/ (w4 ∈ [(Instr.h32m, 0, 0, fun (bs : List Byte) => hashFin (crc32cBytes ((7 : Word).toNat) bs)), (Instr.hcallCrc32c, 1, 0, fun (bs : List Byte) => crc32cBytes ((7 : Word).toNat) bs), (Instr.hcallCrc16, 1, 1, fun (bs : List Byte) => crc16Bytes ((7 : Word).toNat) bs), (Instr.crc32, 1, 2, fun (bs : List Byte) => crc32Bytes ((7 : Word).toNat) bs), (Instr.csum, 2, 0, fun (bs : List Byte) => onesFold ((7 : Word).toNat % 65536 + sumWords bs))] ∧ ((H3 41472).atCall 15 15 7 8191 w4.2.1 w4.2.2.1 1 [7, 769, 256] w1 ∧ 1 ≤ (256 : Word).toNat ∧ (256 : Word).toNat ≤ 256 ∧ 1024 < (769 : Word).toNat + (256 : Word).toNat)) ∧
    /- 1.2 -/ (w5.atCall 15 15 7 8191 0 1 1 [7, 256, 288, 8] w1 ∧ 1 ≤ (8 : Word).toNat ∧ (8 : Word).toNat ≤ 64 ∧ (256 : Word).toNat + (8 : Word).toNat ≤ 1024 ∧ (288 : Word).toNat + (8 : Word).toNat ≤ 1024) :=
  ⟨⟨by unfold w2; simp,
    by unfold State.atCall; unfold State.atWord; decide +kernel⟩,
   ⟨by unfold w3; simp,
    by unfold State.atCall; unfold State.atWord; decide +kernel⟩,
   ⟨by unfold w4; simp,
    by unfold State.atCall; unfold State.atWord; decide +kernel⟩,
   by unfold State.atCall; unfold State.atWord; decide +kernel⟩

/-- Clauses of `Obligations.HashChecksumAndTimeCalls`, each with all its hypotheses met together. -/
theorem witness_HashChecksumAndTimeCalls_2 :
    /- 1.3 -/ (w6.atCall 15 15 7 8191 2 1 1 [56623, 2309737967, 305419896] w1) ∧
    /- 2.1 -/ (w7.atCall 15 15 7 8191 3 0 3 [] w1) ∧
    /- 2.2 -/ (w8.atCall 15 15 7 8191 3 1 2 [] w1) ∧
    /- 2.3 -/ (w9.atCall 15 15 7 8191 3 2 1 [] w1) :=
  ⟨by unfold State.atCall; unfold State.atWord; decide +kernel,
   by unfold State.atCall; unfold State.atWord; decide +kernel,
   by unfold State.atCall; unfold State.atWord; decide +kernel,
   by unfold State.atCall; unfold State.atWord; decide +kernel⟩

end Sys2Proof.Tests.D

namespace Sys2Proof.Tests.D2
open Sys2Proof Sys2Proof.Machine Sys2Proof.Tests

def frame : SMap Byte := putBytes {} 0x100 ((List.range 64).map fun i => BitVec.ofNat 8 (i*7+3))
def hs (word : Nat) (ds : List Word) : State := (peSt [word] {ds := ds}).setCtx 8191 { st := .running, cluster := 15, engine := 15, thread := 7, avail := 256, frame := frame }
def bp (w : Nat) (ds : List Word) (f : State → State := id) : State := f { hs w ds with bpm.pools := (({} : SMap Pool)).set 1 { built := true, base := 0x2000000000, count := 10, next := 5 }, bpm.bufs := (({} : SMap Buf)).set (2^24+3) {owner := 15+1, refs := 1}, bpm.held := (({} : SMap Nat)).set ((15+1)*5+1) 1 }
def hsx (word : Nat) (ds : List Word) (f : Ctx → Ctx) : State := let s := hs word ds; s.setCtx 8191 (f (s.ctx 8191))
def e5 : Edit := {kind := .replace, pos := 5, len := 3, data := [1,2,3]}
def wt (k : CallWait) := (hs 0x0001 [5]).setThr 15 15 7 { ctx := some 8191, arch := {ds := [5], pc := 3}, wait := some k }
def wl (w : Nat) (ds : List Word) : State := { hs w ds with tables.weir := (({} : SMap WeirEntry).set 3 {valid := true, ad := 77}).set 9 {valid := true, ad := 78}, tables.emt := (({} : SMap EmtEntry).set 3 {valid := true, data := 7, key := beNat ((List.range 14).map fun i => frame.get (0x100+i))}) }
def nf : List ArrayUpset := []
def wlB (w : Nat) (ds : List Word) : State := { wl w ds with hdg.out := SMap.set {} 15 [{}] }
def w1 : State := bp 0xA400 [1,5]
def w2 : List Word := [5]
def w3 : State := bp 0xA401 [0x10000003,5]
def w4 : State := bp 0xA402 [2,0x10000003,5]
def w5 : State := bp 0xA403 [0x10000003,5]
def w6 : State := bp 0xA404 [256,0x300,3,0x10000003,5]
def w7 : State := bp 0xA405 [256,0x300,3,0x10000003,5]
def w8 : State := hs 0xA700 [64,0x100,192,5]
def w9 : (Who → Instr) × ℕ × EditKind := (Instr.replace, 0, EditKind.replace)
def w10 : State := hsx 0xA702 [256,0,5] id
def w11 : State := hsx 0xA703 [246,5] id
def w12 : State := hsx 0xA704 [0x3F,5] id
def w13 : State := hsx 0xA705 [0xFFFFFFFF,5] id
def w14 : State := hsx 0xA706 [5] fun c => {c with edits := [e5]}
def w15 : State := hs 0xA708 [7,133,5]
def w16 : State := hsx 0xA709 [3,4095,5] id
def w17 : State := hsx 0xA70A [5] id
def w18 : State := wt {pc := 2, unit := 4, results := [0], put := (0x300,[1,2,3])}
def w19 : CallWait := {pc := 2, unit := 4, results := [0], put := (0x300,[1,2,3])}
def w20 : State := wt {pc := 2, unit := 4, fault := some (6,5)}
def w21 : CallWait := {pc := 2, unit := 4, fault := some (6,5)}
def w22 : State := wl 0xA500 [0x3F0,0x3D8,5]
def w23 : State := wl 0xA500 [0x3F0,0x3D9,5]
def w24 : State := wl 0xA600 [0x100,5]
def wlDst : State := wl 0xA500 [0xB7,0x3D8,5]
def elSrc : State := wl 0xA600 [0x3F3,5]
def w25 : State := wl 0 []
def w29 : List ℕ := [1,2,3,4]
def w30 : State := wlB 0xA600 [0x100,5]
def wlWait : State := wlB 0xA500 [0x3F0,0x3D8,5]

/-- Clauses of `Obligations.BufferCalls`, each with all its hypotheses met together. -/
theorem witness_BufferCalls :
    /- 1 -/ (w1.atCall 15 15 7 8191 4 0 2 [1] w2) ∧
    /- 2 -/ (w3.atCall 15 15 7 8191 4 1 1 [268435459] w2) ∧
    /- 3 -/ (w4.atCall 15 15 7 8191 4 2 1 [268435459, 2] w2) ∧
    /- 4 -/ (w5.atCall 15 15 7 8191 4 3 1 [268435459] w2) :=
  ⟨by unfold State.atCall; unfold State.atWord; decide +kernel,
   by unfold State.atCall; unfold State.atWord; decide +kernel,
   by unfold State.atCall; unfold State.atWord; decide +kernel,
   by unfold State.atCall; unfold State.atWord; decide +kernel⟩

/-- Clauses of `Obligations.BufferCalls`, each with all its hypotheses met together. -/
theorem witness_BufferCalls_2 :
    /- 5 -/ (w6.atCall 15 15 7 8191 4 4 1 [268435459, 3, 768, 256] w2 ∧ 1 ≤ (256 : Word).toNat ∧ (256 : Word).toNat ≤ 256 ∧ (184 ≤ (768 : Word).toNat ∧ (768 : Word).toNat + (256 : Word).toNat ≤ 256 ∨ 512 ≤ (768 : Word).toNat ∧ (768 : Word).toNat + (256 : Word).toNat ≤ 1024)) ∧
    /- 6 -/ (w7.atCall 15 15 7 8191 4 5 1 [268435459, 3, 768, 256] w2 ∧ 1 ≤ (256 : Word).toNat ∧ (256 : Word).toNat ≤ 256 ∧ (768 : Word).toNat + (256 : Word).toNat ≤ 1024) :=
  ⟨by unfold State.atCall; unfold State.atWord; decide +kernel,
   by unfold State.atCall; unfold State.atWord; decide +kernel⟩

/-- Clauses of `Obligations.HeaderEdits`, each with all its hypotheses met together. -/
theorem witness_HeaderEdits :
    /- 1 -/ (w9 ∈ [(Instr.replace, 0, EditKind.replace), (Instr.editInsert, 1, EditKind.insert)] ∧ (w8.atCall 15 15 7 8191 7 w9.2.1 0 [192, 256, 64] w2 ∧ 1 ≤ (64 : Word).toNat ∧ (64 : Word).toNat ≤ 64 ∧ (256 : Word).toNat + (64 : Word).toNat ≤ 1024)) ∧
    /- 2 -/ (w10.atCall 15 15 7 8191 7 2 0 [0, 256] w2 ∧ 1 ≤ (256 : Word).toNat ∧ (256 : Word).toNat ≤ 256) ∧
    /- 3 -/ (w11.atCall 15 15 7 8191 7 3 0 [246] w2) ∧
    /- 4 -/ (w12.atCall 15 15 7 8191 7 4 0 [63] w2) :=
  ⟨⟨by repeat (first | exact List.mem_cons_self | apply List.mem_cons_of_mem),
    by unfold State.atCall; unfold State.atWord; decide +kernel⟩,
   by unfold State.atCall; unfold State.atWord; decide +kernel,
   by unfold State.atCall; unfold State.atWord; decide +kernel,
   by unfold State.atCall; unfold State.atWord; decide +kernel⟩

/-- Clauses of `Obligations.HeaderEdits`, each with all its hypotheses met together. -/
theorem witness_HeaderEdits_2 :
    /- 5 -/ (w13.atCall 15 15 7 8191 7 5 0 [4294967295] w2) ∧
    /- 6 -/ (w14.atCall 15 15 7 8191 7 6 0 [] w2) :=
  ⟨by unfold State.atCall; unfold State.atWord; decide +kernel,
   by unfold State.atCall; unfold State.atWord; decide +kernel⟩

/-- Clauses of `Obligations.EndingCalls`, each with all its hypotheses met together. -/
theorem witness_EndingCalls :
    /- 1 -/ (w15.atCall 15 15 7 8191 7 8 0 [133, 7] w2) ∧
    /- 2 -/ (w16.atCall 15 15 7 8191 7 9 0 [4095, 3] w2) ∧
    /- 3 -/ (w17.atCall 15 15 7 8191 7 10 0 [] w2) :=
  ⟨by unfold State.atCall; unfold State.atWord; decide +kernel,
   by unfold State.atCall; unfold State.atWord; decide +kernel,
   by unfold State.atCall; unfold State.atWord; decide +kernel⟩

/-- Clauses of `Obligations.ResultDelivery`, each with all its hypotheses met together. -/
theorem witness_ResultDelivery :
    /- 1 -/ ((Who.pe 15 15 7).wf = true ∧ w18.coreUp = true ∧ (w18.thr 15 15 7).ctx = some 8191 ∧ (w18.thr 15 15 7).late = none ∧ (w18.thr 15 15 7).wait = some w19 ∧ w19.waiting = none ∧ w19.fault = none ∧ (w18.thr 15 15 7).arch.rep = none) ∧
    /- 2 -/ ((Who.pe 15 15 7).wf = true ∧ w20.coreUp = true ∧ (w20.thr 15 15 7).ctx = some 8191 ∧ (w20.thr 15 15 7).late = none ∧ (w20.thr 15 15 7).wait = some w21 ∧ w21.waiting = none ∧ w21.fault = some (6, 5)) :=
  ⟨by decide +kernel,
   by decide +kernel⟩

/-- Clauses of `Obligations.RelookupCalls`, each with all its hypotheses met together. -/
theorem witness_RelookupCalls :
    /- 1 -/ (nf.all ArrayUpset.wf = true ∧ w22.atCall 15 15 7 8191 5 0 2 [984, 1008] w2 ∧ (984 : Word).toNat + w22.weirKeyLen ≤ 1024 ∧ (184 ≤ (1008 : Word).toNat ∧ (1008 : Word).toNat + 16 ≤ 256 ∨ 512 ≤ (1008 : Word).toNat ∧ (1008 : Word).toNat + 16 ≤ 1024) ∧ ((w22.counted (Who.pe 15 15 7)).upsets nf).laneServes 15 ((w22.counted (Who.pe 15 15 7)).upsets nf).ticket = true) ∧
    /- 2 -/ (nf.all ArrayUpset.wf = true ∧ w23.atCall 15 15 7 8191 5 0 2 [985, 1008] w2 ∧ 1024 < (985 : Word).toNat + w23.weirKeyLen) ∧
    /- 3 -/ (nf.all ArrayUpset.wf = true ∧ w24.atCall 15 15 7 8191 6 0 3 [256] w2 ∧ (256 : Word).toNat + 14 ≤ 1024 ∧ ((w24.counted (Who.pe 15 15 7)).upsets nf).laneServes 15 ((w24.counted (Who.pe 15 15 7)).upsets nf).ticket = true) ∧
    /- 4 -/ (nf.all ArrayUpset.wf = true ∧ w30.atCall 15 15 7 8191 6 0 3 [256] w2 ∧ (256 : Word).toNat + 14 ≤ 1024 ∧ ((w30.counted (Who.pe 15 15 7)).upsets nf).laneServes 15 ((w30.counted (Who.pe 15 15 7)).upsets nf).ticket = false) :=
  ⟨by unfold State.atCall; unfold State.atWord; decide +kernel,
   by unfold State.atCall; unfold State.atWord; decide +kernel,
   by unfold State.atCall; unfold State.atWord; decide +kernel,
   by unfold State.atCall; unfold State.atWord; decide +kernel⟩

/-- Clauses of `Obligations.RelookupCalls`, each with all its hypotheses met together. -/
theorem witness_RelookupCalls_2 :
    /- 2 -/ (nf.all ArrayUpset.wf = true ∧ wlDst.atCall 15 15 7 8191 5 0 2 [984, 183] w2 ∧ (183 : Word).toNat < 0xB8) ∧
    /- 3 -/ (nf.all ArrayUpset.wf = true ∧ wlWait.atCall 15 15 7 8191 5 0 2 [984, 1008] w2 ∧ (984 : Word).toNat + wlWait.weirKeyLen ≤ 1024 ∧ 512 ≤ (1008 : Word).toNat ∧ (1008 : Word).toNat + 16 ≤ 1024 ∧ ((wlWait.counted (Who.pe 15 15 7)).upsets nf).laneServes 15 ((wlWait.counted (Who.pe 15 15 7)).upsets nf).ticket = false) ∧
    /- 4 -/ (nf.all ArrayUpset.wf = true ∧ elSrc.atCall 15 15 7 8191 6 0 3 [1011] w2 ∧ 1024 < (1011 : Word).toNat + 14) :=
  ⟨by unfold State.atCall; unfold State.atWord; decide +kernel,
   by unfold State.atCall; unfold State.atWord; decide +kernel,
   by unfold State.atCall; unfold State.atWord; decide +kernel⟩

/-- Clauses of `Obligations.FirstMatchAndVerifiedSearch`, each with all its hypotheses met together. -/
theorem witness_FirstMatchAndVerifiedSearch :
    /- 1.1.1 -/ (w25.tables.weir.wf = true ∧ w25.tables.emt.wf = true ∧ upsetWords w25.tables.weirArr 9 = []) ∧
    /- 1.1.2 -/ (w25.tables.weir.wf = true ∧ w25.tables.emt.wf = true ∧ upsetWords w25.tables.weirArr 9 = []) ∧
    /- 1.2.1 -/ (w25.tables.weir.wf = true ∧ w25.tables.emt.wf = true ∧ upsetWords w25.tables.emtArr 19 = []) ∧
    /- 1.2.2 -/ (w25.tables.weir.wf = true ∧ w25.tables.emt.wf = true ∧ upsetWords w25.tables.emtArr 19 = []) :=
  ⟨by decide +kernel,
   by decide +kernel,
   by decide +kernel,
   by decide +kernel⟩

/-- Clauses of `Obligations.FirstMatchAndVerifiedSearch`, each with all its hypotheses met together. -/
theorem witness_FirstMatchAndVerifiedSearch_2 :
    /- 3 -/ (List.Pairwise (fun (x1 x2 : ℕ) => x1 < x2) w29) :=
  by decide +kernel

end Sys2Proof.Tests.D2

namespace Sys2Proof.Tests.E
open Sys2Proof Sys2Proof.Machine Sys2Proof.Tests

def pr : ParseResult := {group := 19, xbuf := putBytes {} 0 ((List.range 40).map fun i => BitVec.ofNat 8 (i+1))}
def lk (profA : Word) (f : State → State) : State := f ({up with hdg.out := ({} : SMap (List ParseResult)).set 19 [pr, {}]}.wr (Reg.weirProfA 0) profA)
def base (s : State) : LookupResult := { parse := pr, ad := s.missAd, key := s.weirKey pr }
def wlk (s : State) : State := { s with tables.weir := (({} : SMap WeirEntry).set 3 {valid := true, ad := 77}).set 9 {valid := true, ad := 78}}
def elk (s : State) : State := { s with tables.emt := (({} : SMap EmtEntry).set 3 {valid := true, data := 7, key := emtKeyOf pr 2})}
def wkS (lh : Nat) : State := {lk 0 elk with tables.walk := ({} : SMap Nat).set 119 3, tables.lastHit := ({} : SMap Nat).set (19*65536+3) lh, tb.sec := 2^22}
def wc (wide : Bool) : State := (((((wlk up).setBit Reg.weirCtrl 0 wide).wr (Reg.weirWrVal 0) 5).wr (Reg.weirWrMask 9) 0xFFFFFFFF).wr Reg.weirWrFlags 1).wr (Reg.weirWrAd 3) 0x12345678
def v0 (op idx lane : Nat) : Word := BitVec.ofNat 32 (op + idx * 16 + lane*2^24)
def shd (s : State) : State := (s.setShadow 4 (Reg.weirMissAd 0) (some 5)).setShadow 4 (Reg.weirProfSeg01 255) (some 0x00010002)
def ec : State := (((elk up).wr (Reg.emtKey 0) 5).wr Reg.emtData 9).wr Reg.emtFlags 1
def ek (k : Nat) : State := {ec with tables.emt := ({} : SMap EmtEntry).set 3 {valid := true, key := k, data := 7, isStatic := true}}
def ee (k : Nat) : EmtEntry := { valid := true, key := k, data := 9, isStatic := true }
def ln (f : State → State) : State := f {up with hdg.out := ((SMap.set {} 0 [{}]).set 1 [{}]).set 20 [{}]}
def lnW (since : Nat) : State := ln fun s => {s with tb.run := 100 * 2^48, tables.search := some {lane := 1, ticket := {seq := 4, since := since}}}
def w2 : List ArrayUpset := [{ table := .weir, replica := 9, index := 32767, valid := false, val := 1, mask := 1 }]
def w3 : State := {lk 0 wlk with tables.walk := ({} : SMap Nat).set 9 32767}
def w4 : List ArrayUpset := [{ table := .emt, replica := 19, index := 3, valid := false, val := 1, mask := 0 }]
def w5 : State := {ek 5 with tables.learnQ := [{}, {}]}
def w6 : State := {ek 5 with tables.emt := {}}
def w7 : State := {wc false with tables.weir := {}}
def w8 : List ArrayUpset := []
def w9 : StoreError := { store := 0x10, word := 5, syndrome := 7 }
def w10 : State := {wc false with hdg.out := SMap.set {} 18 [{}]}
def w11 : State := (wc false).setBit Reg.weirResult 30 true
def w12 : Ticket := {seq := 4, since := 2^48}

/-- The state of a lookup of group 19 with the profile word `p`. -/
def lkOk (s : State) (p : Word) : Prop :=
  (s.hdg.out.get 19 = [pr, {}] ∧ s.coreUp = true ∧ s.backPressure = false ∧ s.takesLane 19 19 = true ∧
    upsetWords s.tables.weirArr 9 = [] ∧ upsetWords s.tables.emtArr 19 = [] ∧
    s.tables.weir.wf = true ∧ s.tables.emt.wf = true) ∧ s.rd (Reg.weirProfA pr.pcls) = p

def wlkA (ad : Nat) (s : State) : State := { s with tables.weir := ({} : SMap WeirEntry).set 3 {valid := true, ad := ad} }

/-- The searches of `Obligations.LookupResults`: none; a Weir search without a match; one that finds entry 3; an EMT search
that finds entry 3 as the source and no destination; one that finds it as both. -/
theorem witness_LookupResults :
    (lkOk (lk 0 id) 0 ∧ bitsOf (base (lk 0 id)).ad 127 126 = 0) ∧
    (lkOk (lk 0x80000000 id) 0x80000000 ∧ ∀ j, ¬ (lk 0x80000000 id).weirMatch (beNat ((lk 0x80000000 id).weirKey pr)) j) ∧
    (lkOk (lk 0x80000000 wlk) 0x80000000 ∧ lowest ((lk 0x80000000 wlk).weirMatch (beNat ((lk 0x80000000 wlk).weirKey pr))) 3) ∧
    (lkOk (lk 0x40820000 elk) 0x40820000 ∧ lowest ((lk 0x40820000 elk).emtMatch (emtKeyOf pr (Wbits 0x40820000 28 22))) 3 ∧
      ∀ j, ¬ (lk 0x40820000 elk).emtMatch (emtKeyOf pr (Wbits 0x40820000 21 15)) j) ∧
    (lkOk (lk 0x40810000 elk) 0x40810000 ∧ lowest ((lk 0x40810000 elk).emtMatch (emtKeyOf pr (Wbits 0x40810000 28 22))) 3 ∧
      lowest ((lk 0x40810000 elk).emtMatch (emtKeyOf pr (Wbits 0x40810000 21 15))) 3) :=
  ⟨by unfold lkOk; decide +kernel,
   ⟨by unfold lkOk; decide +kernel,
    forallGet (lk 0x80000000 id).tables.weir
      (fun _ e => ¬ (e.valid = true ∧ Nat.land (Nat.xor (beNat ((lk 0x80000000 id).weirKey pr)) e.val) e.mask = 0))
      (by decide +kernel) fun _ h => nomatch h.1⟩,
   by unfold lkOk lowest State.weirMatch; decide +kernel,
   ⟨by unfold lkOk; decide +kernel, by unfold lowest State.emtMatch; decide +kernel,
    forallGet (lk 0x40820000 elk).tables.emt
      (fun _ e => ¬ (e.valid = true ∧ e.key = emtKeyOf pr (Wbits 0x40820000 21 15))) (by decide +kernel) fun _ h => nomatch h.1⟩,
   by unfold lkOk lowest State.emtMatch; decide +kernel⟩

/-- Dispositions 1 and 2 of `Obligations.LookupResults`; a source miss that learns, its destination found; a verify copy
that cannot be corrected; a result of group 20. -/
theorem witness_LookupResults_2 :
    (lkOk (lk 0x80000000 (wlkA (2 ^ 126))) 0x80000000 ∧
      lowest ((lk 0x80000000 (wlkA (2 ^ 126))).weirMatch (beNat ((lk 0x80000000 (wlkA (2 ^ 126))).weirKey pr))) 3) ∧
    (lkOk (lk 0x80000000 (wlkA (2 ^ 127))) 0x80000000 ∧
      lowest ((lk 0x80000000 (wlkA (2 ^ 127))).weirMatch (beNat ((lk 0x80000000 (wlkA (2 ^ 127))).weirKey pr))) 3) ∧
    (lkOk (lk 0x60410000 elk) 0x60410000 ∧ lowest ((lk 0x60410000 elk).emtMatch (emtKeyOf pr (Wbits 0x60410000 21 15))) 3 ∧
      (∀ j, ¬ (lk 0x60410000 elk).emtMatch (emtKeyOf pr (Wbits 0x60410000 28 22)) j) ∧
      ((lk 0x60410000 elk).tables.staged.get 19).length < 32 ∧ ((lk 0x60410000 elk).pkt pr.pkt).port < 132 ∧
      ((lk 0x60410000 elk).pkt pr.pkt).verdict = none) ∧
    ((lk 0 id).hdg.out.get 19 ≠ [] ∧ (lk 0 id).coreUp = true ∧ (lk 0 id).backPressure = false ∧
      (lk 0 id).takesLane 19 19 = true ∧ (lk 0 id).boot.stop = .none ∧ 0xE ≤ w9.store ∧ w9.store ≤ 0x11) ∧
    ((ln id).hdg.out.get 20 = [{}] ∧ (ln id).coreUp = true ∧ (ln id).backPressure = false ∧ (ln id).takesLane 20 2 = true ∧
      upsetWords (ln id).tables.weirArr 1 = [] ∧ upsetWords (ln id).tables.emtArr 2 = [] ∧
      (ln id).tables.weir.wf = true ∧ (ln id).tables.emt.wf = true) :=
  ⟨by unfold lkOk lowest State.weirMatch; decide +kernel,
   by unfold lkOk lowest State.weirMatch; decide +kernel,
   ⟨by unfold lkOk; decide +kernel, by unfold lowest State.emtMatch; decide +kernel,
    forallGet (lk 0x60410000 elk).tables.emt
      (fun _ e => ¬ (e.valid = true ∧ e.key = emtKeyOf pr (Wbits 0x60410000 28 22))) (by decide +kernel) (fun _ h => nomatch h.1),
    by decide +kernel⟩,
   by decide +kernel,
   by decide +kernel⟩

/-- Clauses of `Obligations.WalkSteps`, each with all its hypotheses met together. -/
theorem witness_WalkSteps :
    /- 1 -/ (w3.coreUp = true ∧ w2.all ArrayUpset.wf = true) ∧
    /- 2 -/ ((wkS 5).coreUp = true ∧ w4.all ArrayUpset.wf = true) ∧
    /- 3 -/ ((wkS 5).coreUp = true ∧ w8.all ArrayUpset.wf = true ∧ TableSel.emt.hasReplica 19 = true ∧ w9.store = TableSel.emt.copies) :=
  ⟨by decide +kernel,
   by decide +kernel,
   by decide +kernel⟩

/-- Clauses of `Obligations.WeirCommands`, each with all its hypotheses met together. -/
theorem witness_WeirCommands :
    /- 1.1 -/ ((wc false).reaches 4 Reg.weirCmd ∧ (wc false).bit Reg.weirResult 30 = false ∧ Wbits (v0 1 32767 0) 18 4 = 32767 ∧ 32767 < (wc false).weirSize ∧ Wbits (v0 1 32767 0) 3 0 = 1) ∧
    /- 1.2 -/ ((wc true).reaches 4 Reg.weirCmd ∧ (wc true).bit Reg.weirResult 30 = false ∧ Wbits (v0 2 3 0) 18 4 = 3 ∧ 3 < (wc true).weirSize ∧ Wbits (v0 2 3 0) 3 0 = 2) ∧
    /- 1.3 -/ ((wc true).reaches 4 Reg.weirCmd ∧ (wc true).bit Reg.weirResult 30 = false ∧ Wbits (v0 3 3 9) 18 4 = 3 ∧ 3 < (wc true).weirSize ∧ Wbits (v0 3 3 9) 3 0 = 3 ∧ Wbits (v0 3 3 9) 27 24 < 10) ∧
    /- 1.4.1 -/ ((wc false).reaches 4 Reg.weirCmd ∧ (wc false).bit Reg.weirResult 30 = false ∧ Wbits (v0 4 3 9) 18 4 = 3 ∧ 3 < (wc false).weirSize ∧ Wbits (v0 4 3 9) 3 0 = 4 ∧ Wbits (v0 4 3 9) 27 24 < 10 ∧ (wc false).tables.weir.wf = true ∧ upsetWords (wc false).tables.weirArr (Wbits (v0 4 3 9) 27 24) = [] ∧ (wc false).laneServes (2 * Wbits (v0 4 3 9) 27 24) (wc false).ticket = true ∧ (lowest ((wc false).weirMatch (leNat (List.flatMap (fun (k : ℕ) => leBytes (BitVec.toNat ((wc false).rd (Reg.weirWrVal k))) 4) (List.range (if (wc false).bit Reg.weirCtrl 0 = true then 20 else 10))))) 3)) :=
  ⟨by unfold State.reaches; decide +kernel,
   by unfold State.reaches; decide +kernel,
   by unfold State.reaches; decide +kernel,
   by unfold State.reaches; unfold State.weirMatch; unfold lowest; decide +kernel⟩

/-- Clauses of `Obligations.WeirCommands`, each with all its hypotheses met together. -/
theorem witness_WeirCommands_2 :
    /- 3.1 -/ ((wc false).reaches 4 Reg.weirCtrl) ∧
    /- 3.2 -/ ((shd (wc false)).reaches 4 (Reg.weirMissAd 3)) ∧
    /- 3.3 -/ ((shd (wc false)).reaches 4 (Reg.weirProfA 255)) ∧
    /- 1.4.2 -/ ((w7.reaches 4 Reg.weirCmd ∧ w7.bit Reg.weirResult 30 = false ∧ Wbits (v0 4 3 9) 18 4 = 3 ∧ 3 < w7.weirSize ∧ Wbits (v0 4 3 9) 3 0 = 4 ∧ Wbits (v0 4 3 9) 27 24 < 10 ∧ w7.tables.weir.wf = true ∧ upsetWords w7.tables.weirArr (Wbits (v0 4 3 9) 27 24) = [] ∧ w7.laneServes (2 * Wbits (v0 4 3 9) 27 24) w7.ticket = true) ∧ (∀ (k : ℕ), ¬w7.weirMatch (leNat (List.flatMap (fun (k : ℕ) => leBytes (BitVec.toNat (w7.rd (Reg.weirWrVal k))) 4) (List.range (if w7.bit Reg.weirCtrl 0 = true then 20 else 10)))) k)) :=
  ⟨by unfold State.reaches; decide +kernel,
   by unfold State.reaches; decide +kernel,
   by unfold State.reaches; decide +kernel,
   ⟨by unfold State.reaches; decide +kernel,
    forallGet w7.tables.weir (fun _ e => ¬(e.valid = true ∧ Nat.land (Nat.xor (leNat (List.flatMap (fun (k : ℕ) => leBytes (BitVec.toNat (w7.rd (Reg.weirWrVal k))) 4) (List.range (if w7.bit Reg.weirCtrl 0 = true then 20 else 10)))) e.val) e.mask = 0)) (by decide +kernel) fun _ h => nomatch h.1⟩⟩

/-- Clauses of `Obligations.WeirCommands`, each with all its hypotheses met together. -/
theorem witness_WeirCommands_3 :
    /- 1.5 -/ (w10.reaches 4 Reg.weirCmd ∧ w10.bit Reg.weirResult 30 = false ∧ Wbits (v0 4 3 9) 18 4 = 3 ∧ 3 < w10.weirSize ∧ Wbits (v0 4 3 9) 3 0 = 4 ∧ Wbits (v0 4 3 9) 27 24 < 10 ∧ w10.laneServes (2 * Wbits (v0 4 3 9) 27 24) w10.ticket = false) ∧
    /- 2 -/ (w11.reaches 4 Reg.weirCmd ∧ w11.bit Reg.weirResult 30 = true ∧ Wbits (v0 4 3 9) 3 0 = 4) :=
  ⟨by unfold State.reaches; decide +kernel,
   by unfold State.reaches; decide +kernel⟩

/-- Clauses of `Obligations.EmtCommands`, each with all its hypotheses met together. -/
theorem witness_EmtCommands :
    /- 1 -/ (((ek 6).reaches 4 Reg.emtCmd ∧ (ek 6).tables.emt.wf = true ∧ (∀ g < 20, upsetWords (ek 6).tables.emtArr g = []) ∧ ee 5 = { valid := true, key := leNat (List.flatMap (fun (k : ℕ) => leBytes (BitVec.toNat ((ek 6).rd (Reg.emtKey k))) 4) (List.range 4)) % 2 ^ 112, data := BitVec.toNat ((ek 6).rd Reg.emtData), isStatic := (ek 6).bit Reg.emtFlags 0 } ∧ Wbits (v0 1 0 0) 3 0 = 1 ∧ lowest (fun (k : ℕ) => ((ek 6).tables.emt.get k).valid = false) 0) ∧ (∀ (k : ℕ), 65536 ≤ k → ((ek 6).tables.emt.get k).valid = false) ∧ (∀ (k : ℕ), ¬(ek 6).emtMatch (leNat (List.flatMap (fun (k : ℕ) => leBytes (BitVec.toNat ((ek 6).rd (Reg.emtKey k))) 4) (List.range 4)) % 2 ^ 112) k)) ∧
    /- 2 -/ (((ek 5).reaches 4 Reg.emtCmd ∧ (ek 5).tables.emt.wf = true ∧ (∀ g < 20, upsetWords (ek 5).tables.emtArr g = []) ∧ ee 5 = { valid := true, key := leNat (List.flatMap (fun (k : ℕ) => leBytes (BitVec.toNat ((ek 5).rd (Reg.emtKey k))) 4) (List.range 4)) % 2 ^ 112, data := BitVec.toNat ((ek 5).rd Reg.emtData), isStatic := (ek 5).bit Reg.emtFlags 0 } ∧ Wbits (v0 1 0 0) 3 0 = 1 ∧ lowest ((ek 5).emtMatch (leNat (List.flatMap (fun (k : ℕ) => leBytes (BitVec.toNat ((ek 5).rd (Reg.emtKey k))) 4) (List.range 4)) % 2 ^ 112)) 3) ∧ (∀ (k : ℕ), 65536 ≤ k → ((ek 5).tables.emt.get k).valid = false)) ∧
    /- 3 -/ (((ek 5).reaches 4 Reg.emtCmd ∧ (ek 5).tables.emt.wf = true ∧ (∀ g < 20, upsetWords (ek 5).tables.emtArr g = []) ∧ ee 5 = { valid := true, key := leNat (List.flatMap (fun (k : ℕ) => leBytes (BitVec.toNat ((ek 5).rd (Reg.emtKey k))) 4) (List.range 4)) % 2 ^ 112, data := BitVec.toNat ((ek 5).rd Reg.emtData), isStatic := (ek 5).bit Reg.emtFlags 0 } ∧ Wbits (v0 2 0 0) 3 0 = 2 ∧ lowest ((ek 5).emtMatch (leNat (List.flatMap (fun (k : ℕ) => leBytes (BitVec.toNat ((ek 5).rd (Reg.emtKey k))) 4) (List.range 4)) % 2 ^ 112)) 3) ∧ (∀ (k : ℕ), 65536 ≤ k → ((ek 5).tables.emt.get k).valid = false)) ∧
    /- 4 -/ (((ek 5).reaches 4 Reg.emtCmd ∧ (ek 5).tables.emt.wf = true ∧ (∀ g < 20, upsetWords (ek 5).tables.emtArr g = []) ∧ ee 5 = { valid := true, key := leNat (List.flatMap (fun (k : ℕ) => leBytes (BitVec.toNat ((ek 5).rd (Reg.emtKey k))) 4) (List.range 4)) % 2 ^ 112, data := BitVec.toNat ((ek 5).rd Reg.emtData), isStatic := (ek 5).bit Reg.emtFlags 0 } ∧ Wbits (v0 3 0 19) 3 0 = 3 ∧ Wbits (v0 3 0 19) 28 24 < 20 ∧ lowest ((ek 5).emtMatch (leNat (List.flatMap (fun (k : ℕ) => leBytes (BitVec.toNat ((ek 5).rd (Reg.emtKey k))) 4) (List.range 4)) % 2 ^ 112)) 3) ∧ (∀ (k : ℕ), 65536 ≤ k → ((ek 5).tables.emt.get k).valid = false)) :=
  ⟨⟨by unfold State.reaches; unfold lowest; decide +kernel,
    forallGet (ek 6).tables.emt (fun k e => 65536 ≤ k → e.valid = false) (by decide +kernel) fun _ _ => rfl,
    forallGet (ek 6).tables.emt (fun _ e => ¬(e.valid = true ∧ e.key = (leNat (List.flatMap (fun (k : ℕ) => leBytes (BitVec.toNat ((ek 6).rd (Reg.emtKey k))) 4) (List.range 4)) % 2 ^ 112))) (by decide +kernel) fun _ h => nomatch h.1⟩,
   ⟨by unfold State.reaches; unfold State.emtMatch; unfold lowest; decide +kernel,
    forallGet (ek 5).tables.emt (fun k e => 65536 ≤ k → e.valid = false) (by decide +kernel) fun _ _ => rfl⟩,
   ⟨by unfold State.reaches; unfold State.emtMatch; unfold lowest; decide +kernel,
    forallGet (ek 5).tables.emt (fun k e => 65536 ≤ k → e.valid = false) (by decide +kernel) fun _ _ => rfl⟩,
   ⟨by unfold State.reaches; unfold State.emtMatch; unfold lowest; decide +kernel,
    forallGet (ek 5).tables.emt (fun k e => 65536 ≤ k → e.valid = false) (by decide +kernel) fun _ _ => rfl⟩⟩

/-- Clauses of `Obligations.EmtCommands`, each with all its hypotheses met together. -/
theorem witness_EmtCommands_2 :
    /- 5 -/ (((ek 5).reaches 4 Reg.emtCmd ∧ (ek 5).tables.emt.wf = true ∧ (∀ g < 20, upsetWords (ek 5).tables.emtArr g = []) ∧ ee 5 = { valid := true, key := leNat (List.flatMap (fun (k : ℕ) => leBytes (BitVec.toNat ((ek 5).rd (Reg.emtKey k))) 4) (List.range 4)) % 2 ^ 112, data := BitVec.toNat ((ek 5).rd Reg.emtData), isStatic := (ek 5).bit Reg.emtFlags 0 } ∧ Wbits (v0 4 3 19) 3 0 = 4 ∧ Wbits (v0 4 3 19) 28 24 < 20 ∧ Wbits (v0 4 3 19) 19 4 = 3) ∧ (∀ (k : ℕ), 65536 ≤ k → ((ek 5).tables.emt.get k).valid = false)) ∧
    /- 6 -/ (((ek 5).reaches 4 Reg.emtCmd ∧ (ek 5).tables.emt.wf = true ∧ (∀ g < 20, upsetWords (ek 5).tables.emtArr g = []) ∧ ee 5 = { valid := true, key := leNat (List.flatMap (fun (k : ℕ) => leBytes (BitVec.toNat ((ek 5).rd (Reg.emtKey k))) 4) (List.range 4)) % 2 ^ 112, data := BitVec.toNat ((ek 5).rd Reg.emtData), isStatic := (ek 5).bit Reg.emtFlags 0 } ∧ Wbits (v0 5 3 19) 3 0 = 5 ∧ Wbits (v0 5 3 19) 19 4 = 3) ∧ (∀ (k : ℕ), 65536 ≤ k → ((ek 5).tables.emt.get k).valid = false)) ∧
    /- 7 -/ (((ek 5).reaches 4 Reg.emtCmd ∧ (ek 5).tables.emt.wf = true ∧ (∀ g < 20, upsetWords (ek 5).tables.emtArr g = []) ∧ ee 5 = { valid := true, key := leNat (List.flatMap (fun (k : ℕ) => leBytes (BitVec.toNat ((ek 5).rd (Reg.emtKey k))) 4) (List.range 4)) % 2 ^ 112, data := BitVec.toNat ((ek 5).rd Reg.emtData), isStatic := (ek 5).bit Reg.emtFlags 0 } ∧ Wbits (v0 6 3 19) 3 0 = 6 ∧ lowest ((ek 5).emtMatch (leNat (List.flatMap (fun (k : ℕ) => leBytes (BitVec.toNat ((ek 5).rd (Reg.emtKey k))) 4) (List.range 4)) % 2 ^ 112)) 3) ∧ (∀ (k : ℕ), 65536 ≤ k → ((ek 5).tables.emt.get k).valid = false)) ∧
    /- 9 -/ ((w5.reaches 4 Reg.emtCmd ∧ w5.tables.emt.wf = true ∧ (∀ g < 20, upsetWords w5.tables.emtArr g = []) ∧ ee 5 = { valid := true, key := leNat (List.flatMap (fun (k : ℕ) => leBytes (BitVec.toNat (w5.rd (Reg.emtKey k))) 4) (List.range 4)) % 2 ^ 112, data := BitVec.toNat (w5.rd Reg.emtData), isStatic := w5.bit Reg.emtFlags 0 } ∧ w5.reaches 4 Reg.emtLqPop ∧ Wbits 1 0 0 = 1) ∧ (∀ (k : ℕ), 65536 ≤ k → (w5.tables.emt.get k).valid = false)) :=
  ⟨⟨by unfold State.reaches; decide +kernel,
    forallGet (ek 5).tables.emt (fun k e => 65536 ≤ k → e.valid = false) (by decide +kernel) fun _ _ => rfl⟩,
   ⟨by unfold State.reaches; decide +kernel,
    forallGet (ek 5).tables.emt (fun k e => 65536 ≤ k → e.valid = false) (by decide +kernel) fun _ _ => rfl⟩,
   ⟨by unfold State.reaches; unfold State.emtMatch; unfold lowest; decide +kernel,
    forallGet (ek 5).tables.emt (fun k e => 65536 ≤ k → e.valid = false) (by decide +kernel) fun _ _ => rfl⟩,
   ⟨by unfold State.reaches; decide +kernel,
    forallGet w5.tables.emt (fun k e => 65536 ≤ k → e.valid = false) (by decide +kernel) fun _ _ => rfl⟩⟩

/-- Clauses of `Obligations.EmtCommands`, each with all its hypotheses met together. -/
theorem witness_EmtCommands_3 :
    /- 8 -/ ((w6.reaches 4 Reg.emtCmd ∧ w6.tables.emt.wf = true ∧ (∀ g < 20, upsetWords w6.tables.emtArr g = []) ∧ ee 5 = { valid := true, key := leNat (List.flatMap (fun (k : ℕ) => leBytes (BitVec.toNat (w6.rd (Reg.emtKey k))) 4) (List.range 4)) % 2 ^ 112, data := BitVec.toNat (w6.rd Reg.emtData), isStatic := w6.bit Reg.emtFlags 0 } ∧ (Wbits (v0 6 3 19) 3 0 = 2 ∨ Wbits (v0 6 3 19) 3 0 = 6)) ∧ (∀ (k : ℕ), 65536 ≤ k → (w6.tables.emt.get k).valid = false) ∧ (∀ (k : ℕ), ¬w6.emtMatch (leNat (List.flatMap (fun (k : ℕ) => leBytes (BitVec.toNat (w6.rd (Reg.emtKey k))) 4) (List.range 4)) % 2 ^ 112) k)) :=
  ⟨by unfold State.reaches; decide +kernel,
    forallGet w6.tables.emt (fun k e => 65536 ≤ k → e.valid = false) (by decide +kernel) fun _ _ => rfl,
    forallGet w6.tables.emt (fun _ e => ¬(e.valid = true ∧ e.key = (leNat (List.flatMap (fun (k : ℕ) => leBytes (BitVec.toNat (w6.rd (Reg.emtKey k))) 4) (List.range 4)) % 2 ^ 112))) (by decide +kernel) fun _ h => nomatch h.1⟩

/-- Clauses of `Obligations.LookupResults`, each with all its hypotheses met together. -/
theorem witness_LaneOrder :
    /- 2 -/ ((ln id).takesLane 20 1 = false ∧ w8.all ArrayUpset.wf = true) ∧
    /- 3 -/ ((lnW (60 * 2 ^ 48)).takesLane 1 1 = true) ∧
    /- 4 -/ ((lnW (2 ^ 48)).laneServes 1 w12 = true) :=
  ⟨by decide +kernel,
   by decide +kernel,
   by decide +kernel⟩

end Sys2Proof.Tests.E

namespace Sys2Proof.Tests.F
open Sys2Proof Sys2Proof.Machine Sys2Proof.Tests

def frame : SMap Byte := putBytes {} 0x100 ((List.range 64).map fun i => BitVec.ofNat 8 (i*7+3))
def hs (word : Nat) (ds : List Word) : State := (peSt [word] {ds := ds}).setCtx 8191 { st := .running, cluster := 15, engine := 15, thread := 7, avail := 256, frame := frame }
def img0 (n : Nat) : List Byte := [0x80, 4] ++ leBytes 7 2 ++ leBytes 3 2 ++ leBytes 0 2 ++ leBytes 0 8 ++ [1,2,3,4] ++ (List.range (n-20)).map fun i => BitVec.ofNat 8 (250 - i)
def fl (geom : Nat) (fn : Nat) (args : List Word) : State :=
  let s := hs (0xA800+fn) (args.reverse ++ [5])
  let s := { (s.setFld Reg.fleGeom 31 30 geom).setFld Reg.fleGeom 4 0 10 with tb.sec := 5, tb.ns := 77 }
  { s with flow.lines := ({} : SMap FlowLine).set (recKey 15 5) { have_ := 15, data := putBytes {} 0 (img0 (64*2^geom)) } }
def LO : Word := BitVec.ofNat 32 (15*2^28+5)
def K := recKey 15 5
def cas (x : Word) := fl 0 7 [LO, 7,0x38,x,9]
def kf (fn : Nat) (rec : Bool) (f : State → State := id) : State :=
  let s := hs (0xA800+fn) [4, 0x100, 3, 5]
  let s := { (s.setFld Reg.fleGeom 31 30 0).setFld Reg.fleGeom 4 0 10 with tb.sec := 5, tb.ns := 77 }
  let key := (List.range 4).map fun i => (s.ctx 8191).frame.get (0x100 + i)
  let c := s.candidates 3 key
  f (if rec then { s with flow.lines := ({} : SMap FlowLine).set (c.at_ c.home) { have_ := 1, data := putBytes {} 0 (imgPut (img0 64) 16 key) } } else s)
def hk : Nat := let s := kf 0 false; let c := s.candidates 3 ((List.range 4).map fun i => (s.ctx 8191).frame.get (0x100 + i)); c.at_ c.home
def uOf (s : State) : State := ((s.counted pe7).searchReads 3 ((List.range 4).map fun i => (s.ctx 8191).frame.get (0x100 + i))).getD s
def stg : State := let s := hs 0xA810 [5]; { s with flow.logs := (({} : SMap (List LogEntry)).set 3 [{inst := 0}, {inst := 1}]).set 5 [{inst := 0}], flow.insts := ({} : SMap FlowCtx).set 0 {live := true, ctx := 8191, tag := some 4} }
def w1 : State := fl 0 2 [LO, 7]
def w2 : List Word := [5]
def w3 : State := fl 2 3 [LO, 7,0,0x300,256]
def w4 : State := fl 2 4 [LO, 7,192,0x100,64]
def w5 : State := fl 2 5 [LO, 7,0x40,0xFFFFFFFF]
def w6 : State := fl 0 6 [LO, 7,0x38,0xFFFFFFFF]
def w7 : State := fl 0 8 [LO, 7,0x3C,0xFFFF]
def w8 : State := fl 0 9 [LO, 7,0x3C,0xFFFFFFFF]
def w9 : State := fl 0 10 [LO, 7,0x3C,0xF0F0F0F0]
def w10 : State := fl 0 11 [LO, 7,0x3C,0xF0F0F0F0]
def w11 : State := fl 0 12 [LO, 7,0x38]
def w12 : State := fl 0 13 [LO, 7,16383]
def w13 : State := fl 0 14 [LO, 7,0x30,0x100,1000]
def w14 : State := fl 0 15 [LO, 7,0xFFFF]

/-- Clauses of `Obligations.FlowOperationsByHandle`, each with all its hypotheses met together. -/
theorem witness_FlowOperationsByHandle :
    /- 1.1 -/ (w1.mayStage (w1.instOf 8191) K ∧ w1.flow.insts.wf = true ∧ w1.atHandle 15 15 7 8191 2 1 [LO, 7] w2 K (img0 64)) ∧
    /- 1.2 -/ (w3.mayStage (w3.instOf 8191) K ∧ w3.flow.insts.wf = true ∧ w3.atHandle 15 15 7 8191 3 1 [LO, 7, 0, 768, 256] w2 K (img0 256) ∧ 1 ≤ (256 : Word).toNat ∧ (256 : Word).toNat ≤ 256 ∧ (0 : Word).toNat + (256 : Word).toNat ≤ w3.recSize ∧ (184 ≤ (768 : Word).toNat ∧ (768 : Word).toNat + (256 : Word).toNat ≤ 256 ∨ 512 ≤ (768 : Word).toNat ∧ (768 : Word).toNat + (256 : Word).toNat ≤ 1024)) ∧
    /- 1.3 -/ (w4.mayStage (w4.instOf 8191) K ∧ w4.flow.insts.wf = true ∧ w4.atHandle 15 15 7 8191 4 1 [LO, 7, 192, 256, 64] w2 K (img0 256) ∧ 1 ≤ (64 : Word).toNat ∧ (64 : Word).toNat ≤ 64 ∧ (256 : Word).toNat + (64 : Word).toNat ≤ 1024 ∧ ((192 : Word).toNat % 1 = 0 ∧ writeBase w4.recSize ≤ (192 : Word).toNat ∧ (192 : Word).toNat + (64 : Word).toNat ≤ w4.recSize)) ∧
    /- 1.4 -/ (w5.mayStage (w5.instOf 8191) K ∧ w5.flow.insts.wf = true ∧ w5.atHandle 15 15 7 8191 5 2 [LO, 7, 64, 4294967295] w2 K (img0 256) ∧ ((64 : Word).toNat % 4 = 0 ∧ writeBase w5.recSize ≤ (64 : Word).toNat ∧ (64 : Word).toNat + 4 ≤ w5.recSize)) :=
  ⟨by unfold State.atHandle; unfold State.atCall; unfold State.atWord; unfold State.cached; unfold State.mayStage; decide +kernel,
   by unfold State.atHandle; unfold State.atCall; unfold State.atWord; unfold State.cached; unfold State.mayStage; decide +kernel,
   by unfold State.atHandle; unfold State.atCall; unfold State.atWord; unfold State.cached; unfold State.mayStage; decide +kernel,
   by unfold State.atHandle; unfold State.atCall; unfold State.atWord; unfold State.cached; unfold State.mayStage; decide +kernel⟩

/-- Clauses of `Obligations.FlowOperationsByHandle`, each with all its hypotheses met together. -/
theorem witness_FlowOperationsByHandle_2 :
    /- 1.5 -/ (w6.mayStage (w6.instOf 8191) K ∧ w6.flow.insts.wf = true ∧ w6.atHandle 15 15 7 8191 6 3 [LO, 7, 56, 4294967295] w2 K (img0 64) ∧ ((56 : Word).toNat % 8 = 0 ∧ writeBase w6.recSize ≤ (56 : Word).toNat ∧ (56 : Word).toNat + 8 ≤ w6.recSize)) ∧
    /- 1.6.1 -/ ((cas 3553940950).mayStage ((cas 3553940950).instOf 8191) K ∧ (cas 3553940950).flow.insts.wf = true ∧ (cas 3553940950).atHandle 15 15 7 8191 7 2 [LO, 7, 56, 3553940950, 9] w2 K (img0 64) ∧ ((56 : Word).toNat % 4 = 0 ∧ writeBase (cas 3553940950).recSize ≤ (56 : Word).toNat ∧ (56 : Word).toNat + 4 ≤ (cas 3553940950).recSize) ∧ fieldOf (img0 64) ((56 : Word).toNat) 4 = (3553940950 : Word).toNat) ∧
    /- 1.6.2 -/ ((cas 3553940951).mayStage ((cas 3553940951).instOf 8191) K ∧ (cas 3553940951).flow.insts.wf = true ∧ (cas 3553940951).atHandle 15 15 7 8191 7 2 [LO, 7, 56, 3553940951, 9] w2 K (img0 64) ∧ ((56 : Word).toNat % 4 = 0 ∧ writeBase (cas 3553940951).recSize ≤ (56 : Word).toNat ∧ (56 : Word).toNat + 4 ≤ (cas 3553940951).recSize) ∧ fieldOf (img0 64) ((56 : Word).toNat) 4 ≠ (3553940951 : Word).toNat) ∧
    /- 1.7 -/ (w7.mayStage (w7.instOf 8191) K ∧ w7.flow.insts.wf = true ∧ w7.atHandle 15 15 7 8191 8 2 [LO, 7, 60, 65535] w2 K (img0 64) ∧ ((60 : Word).toNat % 4 = 0 ∧ writeBase w7.recSize ≤ (60 : Word).toNat ∧ (60 : Word).toNat + 4 ≤ w7.recSize)) :=
  ⟨by unfold State.atHandle; unfold State.atCall; unfold State.atWord; unfold State.cached; unfold State.mayStage; decide +kernel,
   by unfold State.atHandle; unfold State.atCall; unfold State.atWord; unfold State.cached; unfold State.mayStage; decide +kernel,
   by unfold State.atHandle; unfold State.atCall; unfold State.atWord; unfold State.cached; unfold State.mayStage; decide +kernel,
   by unfold State.atHandle; unfold State.atCall; unfold State.atWord; unfold State.cached; unfold State.mayStage; decide +kernel⟩

/-- Clauses of `Obligations.FlowOperationsByHandle`, each with all its hypotheses met together. -/
theorem witness_FlowOperationsByHandle_3 :
    /- 1.8 -/ (w8.mayStage (w8.instOf 8191) K ∧ w8.flow.insts.wf = true ∧ w8.atHandle 15 15 7 8191 9 2 [LO, 7, 60, 4294967295] w2 K (img0 64) ∧ ((60 : Word).toNat % 4 = 0 ∧ writeBase w8.recSize ≤ (60 : Word).toNat ∧ (60 : Word).toNat + 4 ≤ w8.recSize)) ∧
    /- 1.9 -/ (w9.mayStage (w9.instOf 8191) K ∧ w9.flow.insts.wf = true ∧ w9.atHandle 15 15 7 8191 10 2 [LO, 7, 60, 4042322160] w2 K (img0 64) ∧ ((60 : Word).toNat % 4 = 0 ∧ writeBase w9.recSize ≤ (60 : Word).toNat ∧ (60 : Word).toNat + 4 ≤ w9.recSize)) ∧
    /- 1.10 -/ (w10.mayStage (w10.instOf 8191) K ∧ w10.flow.insts.wf = true ∧ w10.atHandle 15 15 7 8191 11 2 [LO, 7, 60, 4042322160] w2 K (img0 64) ∧ ((60 : Word).toNat % 4 = 0 ∧ writeBase w10.recSize ≤ (60 : Word).toNat ∧ (60 : Word).toNat + 4 ≤ w10.recSize)) ∧
    /- 1.11 -/ (w11.mayStage (w11.instOf 8191) K ∧ w11.flow.insts.wf = true ∧ w11.atHandle 15 15 7 8191 12 1 [LO, 7, 56] w2 K (img0 64) ∧ ((56 : Word).toNat % 8 = 0 ∧ writeBase w11.recSize ≤ (56 : Word).toNat ∧ (56 : Word).toNat + 8 ≤ w11.recSize)) :=
  ⟨by unfold State.atHandle; unfold State.atCall; unfold State.atWord; unfold State.cached; unfold State.mayStage; decide +kernel,
   by unfold State.atHandle; unfold State.atCall; unfold State.atWord; unfold State.cached; unfold State.mayStage; decide +kernel,
   by unfold State.atHandle; unfold State.atCall; unfold State.atWord; unfold State.cached; unfold State.mayStage; decide +kernel,
   by unfold State.atHandle; unfold State.atCall; unfold State.atWord; unfold State.cached; unfold State.mayStage; decide +kernel⟩

/-- Clauses of `Obligations.FlowOperationsByHandle`, each with all its hypotheses met together. -/
theorem witness_FlowOperationsByHandle_4 :
    /- 1.12 -/ (w12.mayStage (w12.instOf 8191) K ∧ w12.flow.insts.wf = true ∧ w12.atHandle 15 15 7 8191 13 1 [LO, 7, 16383] w2 K (img0 64) ∧ (16383 : Word).toNat ≤ 16383) ∧
    /- 1.13 -/ (w13.mayStage (w13.instOf 8191) K ∧ w13.flow.insts.wf = true ∧ w13.atHandle 15 15 7 8191 14 2 [LO, 7, 48, 256, 1000] w2 K (img0 64) ∧ (1000 : Word).toNat ≤ 16383 ∧ (256 : Word).toNat + 8 ≤ 1024 ∧ ((48 : Word).toNat % 8 = 0 ∧ writeBase w13.recSize ≤ (48 : Word).toNat ∧ (48 : Word).toNat + 16 ≤ w13.recSize)) ∧
    /- 1.14 -/ (w14.mayStage (w14.instOf 8191) K ∧ w14.flow.insts.wf = true ∧ w14.atHandle 15 15 7 8191 15 1 [LO, 7, 65535] w2 K (img0 64)) :=
  ⟨by unfold State.atHandle; unfold State.atCall; unfold State.atWord; unfold State.cached; unfold State.mayStage; decide +kernel,
   by unfold State.atHandle; unfold State.atCall; unfold State.atWord; unfold State.cached; unfold State.mayStage; decide +kernel,
   by unfold State.atHandle; unfold State.atCall; unfold State.atWord; unfold State.cached; unfold State.mayStage; decide +kernel⟩

/-- Clauses of `Obligations.KeyedFlowOperations`, each with all its hypotheses met together. -/
theorem witness_KeyedFlowOperations :
    /- 1 -/ ((kf 0 true).flow.insts.wf = true ∧ (kf 0 true).atCall 15 15 7 8191 8 0 3 [3, 256, 4] w2 ∧ (1 ≤ (4 : Word).toNat ∧ ((4 : Word).toNat ≤ if (kf 0 true).recSize = 64 then 24 else 48) ∧ (256 : Word).toNat + (4 : Word).toNat ≤ 1024 ∧ (kf 0 true).bit Reg.fleShard 31 = false ∧ ((kf 0 true).counted (Who.pe 15 15 7)).searchReads ((3 : Word).toNat % 65536) (List.map (fun (i : ℕ) => ((kf 0 true).ctx 8191).frame.get ((256 : Word).toNat + i)) (List.range ((4 : Word).toNat))) = some (uOf (kf 0 true)) ∧ ∀ e ∈ (kf 0 true).flume.threads.entries, ∀ x ∈ ((kf 0 true).counted (Who.pe 15 15 7)).undecided e.2, x.2 ≠ ((kf 0 true).candidates ((3 : Word).toNat % 65536) (List.map (fun (i : ℕ) => ((kf 0 true).ctx 8191).frame.get ((256 : Word).toNat + i)) (List.range ((4 : Word).toNat)))).at_ ((kf 0 true).candidates ((3 : Word).toNat % 65536) (List.map (fun (i : ℕ) => ((kf 0 true).ctx 8191).frame.get ((256 : Word).toNat + i)) (List.range ((4 : Word).toNat)))).home)) ∧
    /- 2 -/ ((kf 1 true).flow.insts.wf = true ∧ (kf 1 true).atCall 15 15 7 8191 8 1 3 [3, 256, 4] w2 ∧ (1 ≤ (4 : Word).toNat ∧ ((4 : Word).toNat ≤ if (kf 1 true).recSize = 64 then 24 else 48) ∧ (256 : Word).toNat + (4 : Word).toNat ≤ 1024 ∧ (kf 1 true).bit Reg.fleShard 31 = false ∧ ((kf 1 true).counted (Who.pe 15 15 7)).searchReads ((3 : Word).toNat % 65536) (List.map (fun (i : ℕ) => ((kf 1 true).ctx 8191).frame.get ((256 : Word).toNat + i)) (List.range ((4 : Word).toNat))) = some (uOf (kf 1 true)) ∧ ∀ e ∈ (kf 1 true).flume.threads.entries, ∀ x ∈ ((kf 1 true).counted (Who.pe 15 15 7)).undecided e.2, x.2 ≠ ((kf 1 true).candidates ((3 : Word).toNat % 65536) (List.map (fun (i : ℕ) => ((kf 1 true).ctx 8191).frame.get ((256 : Word).toNat + i)) (List.range ((4 : Word).toNat)))).at_ ((kf 1 true).candidates ((3 : Word).toNat % 65536) (List.map (fun (i : ℕ) => ((kf 1 true).ctx 8191).frame.get ((256 : Word).toNat + i)) (List.range ((4 : Word).toNat)))).home) ∧ ((uOf (kf 1 true)).opStarted ((kf 1 true).candidates ((3 : Word).toNat % 65536) (List.map (fun (i : ℕ) => ((kf 1 true).ctx 8191).frame.get ((256 : Word).toNat + i)) (List.range ((4 : Word).toNat)))).slice).findKey ((3 : Word).toNat % 65536) (List.map (fun (i : ℕ) => ((kf 1 true).ctx 8191).frame.get ((256 : Word).toNat + i)) (List.range ((4 : Word).toNat))) = some hk ∧ ((uOf (kf 1 true)).opStarted ((kf 1 true).candidates ((3 : Word).toNat % 65536) (List.map (fun (i : ℕ) => ((kf 1 true).ctx 8191).frame.get ((256 : Word).toNat + i)) (List.range ((4 : Word).toNat)))).slice).mayStage ((kf 1 true).instOf 8191) hk) ∧
    /- 3 -/ ((kf 1 false).flow.insts.wf = true ∧ (kf 1 false).atCall 15 15 7 8191 8 1 3 [3, 256, 4] w2 ∧ (1 ≤ (4 : Word).toNat ∧ ((4 : Word).toNat ≤ if (kf 1 false).recSize = 64 then 24 else 48) ∧ (256 : Word).toNat + (4 : Word).toNat ≤ 1024 ∧ (kf 1 false).bit Reg.fleShard 31 = false ∧ ((kf 1 false).counted (Who.pe 15 15 7)).searchReads ((3 : Word).toNat % 65536) (List.map (fun (i : ℕ) => ((kf 1 false).ctx 8191).frame.get ((256 : Word).toNat + i)) (List.range ((4 : Word).toNat))) = some (uOf (kf 1 false)) ∧ ∀ e ∈ (kf 1 false).flume.threads.entries, ∀ x ∈ ((kf 1 false).counted (Who.pe 15 15 7)).undecided e.2, x.2 ≠ ((kf 1 false).candidates ((3 : Word).toNat % 65536) (List.map (fun (i : ℕ) => ((kf 1 false).ctx 8191).frame.get ((256 : Word).toNat + i)) (List.range ((4 : Word).toNat)))).at_ ((kf 1 false).candidates ((3 : Word).toNat % 65536) (List.map (fun (i : ℕ) => ((kf 1 false).ctx 8191).frame.get ((256 : Word).toNat + i)) (List.range ((4 : Word).toNat)))).home) ∧ ((uOf (kf 1 false)).opStarted ((kf 1 false).candidates ((3 : Word).toNat % 65536) (List.map (fun (i : ℕ) => ((kf 1 false).ctx 8191).frame.get ((256 : Word).toNat + i)) (List.range ((4 : Word).toNat)))).slice).findKey ((3 : Word).toNat % 65536) (List.map (fun (i : ℕ) => ((kf 1 false).ctx 8191).frame.get ((256 : Word).toNat + i)) (List.range ((4 : Word).toNat))) = none ∧ ((uOf (kf 1 false)).opStarted ((kf 1 false).candidates ((3 : Word).toNat % 65536) (List.map (fun (i : ℕ) => ((kf 1 false).ctx 8191).frame.get ((256 : Word).toNat + i)) (List.range ((4 : Word).toNat)))).slice).posFree (((kf 1 false).candidates ((3 : Word).toNat % 65536) (List.map (fun (i : ℕ) => ((kf 1 false).ctx 8191).frame.get ((256 : Word).toNat + i)) (List.range ((4 : Word).toNat)))).at_ ((kf 1 false).candidates ((3 : Word).toNat % 65536) (List.map (fun (i : ℕ) => ((kf 1 false).ctx 8191).frame.get ((256 : Word).toNat + i)) (List.range ((4 : Word).toNat)))).home) = true ∧ hk = ((kf 1 false).candidates ((3 : Word).toNat % 65536) (List.map (fun (i : ℕ) => ((kf 1 false).ctx 8191).frame.get ((256 : Word).toNat + i)) (List.range ((4 : Word).toNat)))).at_ ((kf 1 false).candidates ((3 : Word).toNat % 65536) (List.map (fun (i : ℕ) => ((kf 1 false).ctx 8191).frame.get ((256 : Word).toNat + i)) (List.range ((4 : Word).toNat)))).home ∧ ((uOf (kf 1 false)).opStarted ((kf 1 false).candidates ((3 : Word).toNat % 65536) (List.map (fun (i : ℕ) => ((kf 1 false).ctx 8191).frame.get ((256 : Word).toNat + i)) (List.range ((4 : Word).toNat)))).slice).cached hk ∧ ((uOf (kf 1 false)).opStarted ((kf 1 false).candidates ((3 : Word).toNat % 65536) (List.map (fun (i : ℕ) => ((kf 1 false).ctx 8191).frame.get ((256 : Word).toNat + i)) (List.range ((4 : Word).toNat)))).slice).mayStage ((kf 1 false).instOf 8191) hk) ∧
    /- 4 -/ (stg.flow.insts.wf = true ∧ stg.atCall 15 15 7 8191 8 16 0 [] w2) :=
  ⟨by unfold State.atCall; unfold State.atWord; decide +kernel,
   by unfold State.atCall; unfold State.atWord; unfold State.mayStage; decide +kernel,
   by unfold State.atCall; unfold State.atWord; unfold State.cached; unfold State.mayStage; decide +kernel,
   by unfold State.atCall; unfold State.atWord; decide +kernel⟩

/-- Clauses of `Obligations.KeyedFlowOperations`, each with all its hypotheses met together. -/
theorem witness_KeyedFlowOperations_2 :
    /- 5 -/ (stg.flow.insts.wf = true ∧ stg.flow.logs.wf = true) :=
  by decide +kernel

end Sys2Proof.Tests.F
end

