-- ==== Sys2Proof/Tests/WitnessDma.lean ====
section
/-! SUPPORT. Witnesses: for every clause of a statement, a concrete state and operands that meet its hypotheses together. -/
set_option Elab.async false
set_option linter.all false

namespace Sys2Proof.Tests.P
open Sys2Proof Sys2Proof.Machine Sys2Proof.Tests

def dm (x : DmaChan) (f : State → State := id) : State := f { up with dma.chans := SMap.set {} 31 x, mem := Mem.putBytes {} 0x2400000000 (leBytes (2^31+2^27+2^28) 4 ++ leBytes 100 4 ++ leBytes 0x2400000103 8 ++ leBytes 0x2400001007 8 ++ leBytes 0 8 ++ (List.range 8).map fun i => BitVec.ofNat 8 i) }
def dsc (s : State) : State := (s.wr (Reg.dmaChDescLo 31) 0).wr (Reg.dmaChDescHi 31) 0x24
def run (k : Nat) : DmaChan := {state := 1, kind := k, phase := .fetch}
def D (m : Nat) : Desc := {descOf 0x2400000000 ((dm (run 0) dsc).mem.getBytes 0x2400000000 32) with ctrl := 2^31+2^28+2^27+m*2^25}
def bt (m : Nat) (f : DmaChan → DmaChan := id) : DmaChan := f {state := 1, kind := 0, phase := .beats, desc := D m, count := (D m).beats}
def mv (s : State) : State := {s with dma.movers := SMap.set {} 3 32}
def st (m : Nat) : DmaChan := bt m fun x => {x with readPos := 3, staged := if m = 1 then [] else [(List.range 57).map fun i => BitVec.ofNat 8 (i*3), List.replicate 43 7]}
def an (c : Nat) (n : Nat) : DmaChan := {bt 0 with count := n, unanswered := [{final := true, code := c, addr := 5}]}
def rx : DmaChan := {bt 0 with kind := 1, copy := some 4}
def txc : DmaChan := {bt 0 with kind := 2}
def stBad : DmaChan := {st 0 with desc := {(st 0).desc with dst := 0x5000000000}}
def rdBad : DmaChan := bt 0 fun x => {x with desc := {x.desc with src := 0x5000000000}}
def wb4 : DmaChan := {bt 0 with phase := .writeback, state := 4, err := some (3,4)}
def w1 : State := dm {} fun s => s.wr (Reg.dmaChCfg 31) 0xF8000000
def w2 : DmaChan := {}
def w3 : State := dm {run 1 with phase := .poll, descs := 2^27}
def w4 : DmaChan := {run 1 with phase := .poll, descs := 2^27}
def w5 : Desc := descOf 0x2400000000 ((dm (run 0) dsc).mem.getBytes 0x2400000000 32)
def w6 : State := dm {run 1 with phase := .poll} dsc
def w7 : DmaChan := {run 1 with phase := .poll}
def w8 : DmaAnswer := {final := true, code := 0, addr := 5}
def w9 : List DmaAnswer := []
def w10 : DmaAnswer := {final := true, code := 3, addr := 5}
def w11 : State := dm {bt 0 with phase := .writeback}
def w12 : DmaChan := {bt 0 with phase := .writeback}
def w13 : State := dm rx fun s => {s with qm.copies := SMap.set {} 4 {st := .sending, pkt := 1, port := 132}, qm.pkts := SMap.set {} 1 {live := true, refs := 1, bytes := [1,2]}, sch.tx := SMap.set {} 132 {sending := some 4, wire := List.replicate 100 5}}
def w14 : State := dm txc fun s => s.setBit Reg.hdgStatus 31 true
def w15 : List Byte := withFcs ((dm txc).mem.getBytes (D 0).src 100)
def w16 : List ℕ := []
def w17 : List ℕ := (rdBad.desc.srcBlocks 0).tail

/-- Clauses of `Obligations.DmaChannels`, each with all its hypotheses met together. -/
theorem witness_DmaChannels :
    /- 1.1 -/ ((dm (run 0)).dch 31 = run 0 ∧ (dm (run 0)).reaches 0 (Reg.dmaChCmd 31) ∧ Wbits 1 1 0 = 1 ∧ (run 0).busy = true) ∧
    /- 1.2 -/ (w1.dch 31 = w2 ∧ w1.reaches 0 (Reg.dmaChCmd 31) ∧ Wbits 1 1 0 = 1 ∧ w2.busy = false ∧ w2.phase ≠ DmaPhase.writeback) ∧
    /- 2.1 -/ ((dm (run 0)).dch 31 = run 0 ∧ (dm (run 0)).reaches 0 (Reg.dmaChCmd 31) ∧ Wbits 2 1 0 = 2 ∧ (run 0).state = 1 ∧ (run 0).phase ≠ DmaPhase.poll ∧ (run 0).kind ≠ 1) ∧
    /- 2.2 -/ (w3.dch 31 = w4 ∧ w3.reaches 0 (Reg.dmaChCmd 31) ∧ Wbits 2 1 0 = 2 ∧ w4.state = 1 ∧ w4.phase = DmaPhase.poll) :=
  ⟨by unfold State.reaches; decide +kernel,
   by unfold State.reaches; decide +kernel,
   by unfold State.reaches; decide +kernel,
   by unfold State.reaches; decide +kernel⟩

/-- Clauses of `Obligations.DmaChannels`, each with all its hypotheses met together. -/
theorem witness_DmaChannels_2 :
    /- 3.1 -/ ((dm (run 0) dsc).dch 31 = run 0 ∧ (dm (run 0) dsc).coreUp = true ∧ 154618822656 = (dm (run 0) dsc).chDesc 31 ∧ (dm (run 0) dsc).dmaHeld 154618822656 = false ∧ (run 0).busy = true ∧ w5 = descOf 154618822656 ((dm (run 0) dsc).mem.getBytes 154618822656 32) ∧ (run 0).phase = DmaPhase.fetch) ∧
    /- 3.2 -/ (w6.dch 31 = w7 ∧ w6.coreUp = true ∧ 154618822656 = w6.chDesc 31 ∧ w6.dmaHeld 154618822656 = false ∧ w7.busy = true ∧ w5 = descOf 154618822656 (w6.mem.getBytes 154618822656 32) ∧ w7.phase = DmaPhase.poll ∧ max 1 (w6.fld Reg.dmaPoll 15 0) ≤ 65535) ∧
    /- 3.3 -/ (w6.dch 31 = w7 ∧ w6.coreUp = true ∧ 154618822656 = w6.chDesc 31 ∧ w6.dmaHeld 154618822656 = false ∧ w7.busy = true ∧ w5 = descOf 154618822656 (w6.mem.getBytes 154618822656 32) ∧ w6.reaches 0 (Reg.dmaChCmd 31) ∧ Wbits 3 1 0 = 3 ∧ w7.phase = DmaPhase.poll ∧ w7.state = 1) ∧
    /- 4 -/ ((dm (bt 0)).dch 31 = bt 0 ∧ (dm (bt 0)).coreUp = true) :=
  ⟨by decide +kernel,
   by decide +kernel,
   by unfold State.reaches; decide +kernel,
   by decide +kernel⟩

/-- Clauses of `Obligations.DmaChannels`, each with all its hypotheses met together. -/
theorem witness_DmaChannels_3 :
    /- 6.1 -/ ((dm (bt 0) mv).dch 31 = bt 0 ∧ (dm (bt 0) mv).coreUp = true ∧ (dm (bt 0) mv).moverOf 31 ≠ none ∧ (bt 0).ready = true ∧ (dm (bt 0) mv).beatHeld (bt 0) = false ∧ (bt 0).mayWrite = false ∧ (bt 0).desc.beatRange 0 = (bt 0).desc.beatRange (bt 0).readPos ∧ (∀ b ∈ (bt 0).desc.srcBlocks (bt 0).readPos, (dm (bt 0) mv).answerOf (bt 0) false b = 0)) ∧
    /- 6.3 -/ ((dm (st 0) mv).dch 31 = st 0 ∧ (dm (st 0) mv).coreUp = true ∧ (dm (st 0) mv).moverOf 31 ≠ none ∧ (st 0).ready = true ∧ (dm (st 0) mv).beatHeld (st 0) = false ∧ (st 0).mayRead = false ∧ (st 0).desc.beatRange 0 = (st 0).desc.beatRange (st 0).writePos ∧ (st 0).desc.beatAddr 0 = (st 0).desc.beatAddr (st 0).writePos ∧ (dm (st 0) mv).answerOf (st 0) ((st 0).desc.mode != 2) ((st 0).desc.beatAddr 0) = 0) ∧
    /- 7.1 -/ ((dm (an 0 0)).dch 31 = an 0 0 ∧ (dm (an 0 0)).coreUp = true ∧ (an 0 0).phase = DmaPhase.beats ∧ (an 0 0).unanswered = w8 :: w9 ∧ w8.code = 0 ∧ (w9 ≠ [] ∨ (an 0 0).err = none)) ∧
    /- 7.2 -/ ((dm (an 3 1)).dch 31 = an 3 1 ∧ (dm (an 3 1)).coreUp = true ∧ (an 3 1).phase = DmaPhase.beats ∧ (an 3 1).unanswered = w10 :: w9 ∧ w10.code ≠ 0 ∧ (an 3 1).err = none ∧ w9 = []) :=
  ⟨by decide +kernel,
   by decide +kernel,
   by decide +kernel,
   by decide +kernel⟩

/-- Clauses of `Obligations.DmaChannels`, each with all its hypotheses met together. -/
theorem witness_DmaChannels_4 :
    /- 8 -/ (w11.dch 31 = w12 ∧ w11.coreUp = true ∧ w12.phase = DmaPhase.writeback ∧ w12.kind ≠ 1) ∧
    /- 9 -/ (w13.dch 31 = rx ∧ w13.coreUp = true ∧ rx.busy = true ∧ rx.phase = DmaPhase.beats ∧ rx.copy = some 4 ∧ (w13.copy 4).st ≠ CopyState.gone ∧ (w13.tx 132).wire.length ≤ rx.desc.len ∧ (blocksOf rx.desc.dst rx.desc.len).any w13.dmaHeld = false ∧ (∀ a ∈ blocksOf rx.desc.dst (w13.tx 132).wire.length, w13.answerOf rx true a = 0)) ∧
    /- 10 -/ (w14.dch 31 = txc ∧ w14.coreUp = true ∧ txc.busy = true ∧ txc.kind = 2 ∧ txc.phase = DmaPhase.beats ∧ w14.p132Room = true ∧ (blocksOf txc.desc.src txc.desc.len).any w14.dmaHeld = false ∧ (∀ a ∈ blocksOf txc.desc.src txc.desc.len, w14.answerOf txc false a = 0) ∧ w15 = withFcs (w14.mem.getBytes txc.desc.src txc.desc.len)) ∧
    /- 5 -/ ((dm (bt 0)).dch 31 = bt 0 ∧ (dm (bt 0)).nextWaiting w16 = some 31) :=
  ⟨by decide +kernel,
   by decide +kernel,
   by decide +kernel,
   by decide +kernel⟩

/-- Clauses of `Obligations.DmaChannels`, each with all its hypotheses met together. -/
theorem witness_DmaChannels_5 :
    /- 6.4 -/ ((dm stBad mv).dch 31 = stBad ∧ (dm stBad mv).coreUp = true ∧ (dm stBad mv).moverOf 31 ≠ none ∧ stBad.ready = true ∧ (dm stBad mv).beatHeld stBad = false ∧ stBad.mayRead = false ∧ stBad.desc.beatAddr 0 = stBad.desc.beatAddr stBad.writePos ∧ (dm stBad mv).answerOf stBad (stBad.desc.mode != 2) (stBad.desc.beatAddr 0) ≠ 0) ∧
    /- 6.2 -/ ((dm rdBad mv).dch 31 = rdBad ∧ (dm rdBad mv).coreUp = true ∧ (dm rdBad mv).moverOf 31 ≠ none ∧ rdBad.ready = true ∧ (dm rdBad mv).beatHeld rdBad = false ∧ rdBad.mayWrite = false ∧ rdBad.desc.srcBlocks rdBad.readPos = (rdBad.desc.srcBlocks 0).headD 0 :: w17 ∧ (dm rdBad mv).answerOf rdBad false ((rdBad.desc.srcBlocks 0).headD 0) ≠ 0) ∧
    /- 1.3 -/ ((dm wb4).dch 31 = wb4 ∧ (dm wb4).reaches 0 (Reg.dmaChCmd 31) ∧ Wbits 1 1 0 = 1 ∧ wb4.busy = false ∧ wb4.phase = DmaPhase.writeback ∧ wb4.kind ≠ 1 ∧ wb4.err ≠ none) :=
  ⟨by decide +kernel,
   by decide +kernel,
   by unfold State.reaches; decide +kernel⟩

/-- Clauses of `Obligations.StepRunsFront`, each with all its hypotheses met together. -/
theorem witness_StepRunsFront :
    /- 2 -/ (up.pending = []) :=
  by decide +kernel

end Sys2Proof.Tests.P

namespace Sys2Proof.Tests.Q
open Sys2Proof Sys2Proof.Machine Sys2Proof.Tests

def ss : Session := {isOpen := true, number := 0x12345678, version := 3, v6 := false, address := 9, port := 10, key := 3, seqHigh := 70, seen := [70]}
def mg (f : State → State := id) : State := f { up.setBit Reg.mgtStatus 31 true with tb.run := 2^100, mgt.keys := SMap.set {} 3 77, mgt.sessions := SMap.set {} 2 ss }
def msg (ty : Nat) (body : List Byte) (ver : Nat := 3) (num : Nat := 0x12345678) (seq : Nat := 71) : Datagram := {v6 := false, address := 9, port := 10, bytes := Reply.message {ver := ver, ty := ty, key := 3, flags := 0, status := 0, session := num, seq := seq, tag := 5} 77 body}
def gg (m : Datagram) : Gmp := (parseGmp m).getD default
def m10 := msg 0x10 (beBytes Reg.bootNext 4 ++ beBytes Reg.glbIdent 4)
def m11 := msg 0x11 (beBytes Reg.bootNext 4 ++ beBytes 2 4)
def m12 := msg 0x12 (beBytes 0x2000000000 8 ++ beBytes 1024 2)
def m13 := msg 0x13 (beBytes 0x3FFFFFFFFC 8 ++ [1,2,3,4])
def m20 := msg 0x20 (beBytes 0 1 ++ beBytes 100000 4)
def im (s : State) : State := {s with mgt.sessions := SMap.set {} 2 {ss with image := some (1, 1000)}}
def m21 := msg 0x21 (beBytes 996 4 ++ [1,2,3,4])
def m22 := msg 0x22 []
def m30 := msg 0x30 [3]
def m31 := msg 0x31 [1]
def m40 := msg 0x40 (List.replicate 40 0xFF)
def m50 := msg 0x50 ([63] ++ beBytes 0xFFFF 4 ++ beBytes 1 2)
def m02 := msg 0x02 []
def m01 := msg 0x01 [0x13] 3 0 9
def m01b : Datagram := {m01 with bytes := m01.bytes.dropLast ++ [0]}
def own (s : State) : State := (s.wr Reg.mgtIp4 0x0A000001).setBit Reg.mgtAddrCfg 16 true
def arp : List Byte := List.replicate 12 3 ++ [8,6] ++ [0, 1, 8, 0, 6, 4, 0, 1] ++ [1,2,3,4,5,6] ++ [10,0,0,2] ++ List.replicate 6 0 ++ [10,0,0,1]
def frag : List Byte := List.replicate 12 3 ++ [8,0] ++ [0x45,0,0,40,0,0,0x20,0,64,17,0,0] ++ List.replicate 20 0
def w4 : State := (List.range ((gg m11).body.length / 8)).foldl (fun t i => t.busWrite 4 (beAt (gg m11).body (8 * i) 4) (BitVec.ofNat 32 (beAt (gg m11).body (8 * i + 4) 4))) (mg.accepted 2 (gg m11))
def w5 : State := mg fun s => s.setFld Reg.bootStatus 31 25 0x21
def w6 : State := (mg fun s => s.setFld Reg.bootStatus 31 25 0x21).accepted 2 (gg m20)
def w7 : State := (mg im).accepted 2 (gg m21)
def w8 : State := (mg im).accepted 2 (gg m22)
def w9 : State := (mg im).accepted 2 (gg m30)
def w10 : State := (mg im).accepted 2 (gg m31)
def w11 : State := (mg im).accepted 2 (gg m40)
def w12 : State := (mg im).accepted 2 (gg m50)
def w13 : State := (mg im).accepted 2 (gg m02)
def w14 : Datagram := {m01 with bytes := m01.bytes.dropLast}
def w15 : List Byte := [10,0,0,1]
def w16 : State := mg fun s => s.setBit Reg.mgtStatus 31 false
def w18 : List LinkRate := [.base100TX, .base1000T]
def w19 : List LinkRate := [.base10T, .base100TX]

/-- Clauses of `Obligations.ManagementPort`, each with all its hypotheses met together. -/
theorem witness_ManagementPort :
    /- 1 -/ (mg.coreUp = true ∧ mg.bit Reg.mgtStatus 31 = true) ∧
    /- 2.1 -/ (mg.coreUp = true ∧ mg.bit Reg.mgtStatus 31 = true ∧ mg.freshRequest m10 = some (2, gg m10) ∧ (gg m10).ty = gmpType m10 ∧ ((mg.accepted 2 (gg m10)).session 2).isOpen = true ∧ gmpType m10 = 16 ∧ listOk (gg m10).body 4 = true ∧ (∀ a ∈ addrsOf (gg m10).body 4, a % 4 = 0 ∧ (mg.service = true → a < 196608))) ∧
    /- 2.2 -/ (mg.coreUp = true ∧ mg.bit Reg.mgtStatus 31 = true ∧ mg.freshRequest m11 = some (2, gg m11) ∧ (gg m11).ty = gmpType m11 ∧ ((mg.accepted 2 (gg m11)).session 2).isOpen = true ∧ gmpType m11 = 17 ∧ listOk (gg m11).body 8 = true ∧ mg.service = false ∧ (∀ a ∈ addrsOf (gg m11).body 8, a % 4 = 0) ∧ w4 = List.foldl (fun (t : State) (i : ℕ) => t.busWrite 4 (beAt (gg m11).body (8 * i) 4) (BitVec.ofNat 32 (beAt (gg m11).body (8 * i + 4) 4))) (mg.accepted 2 (gg m11)) (List.range ((gg m11).body.length / 8))) ∧
    /- 2.3 -/ (mg.coreUp = true ∧ mg.bit Reg.mgtStatus 31 = true ∧ mg.freshRequest m12 = some (2, gg m12) ∧ (gg m12).ty = gmpType m12 ∧ ((mg.accepted 2 (gg m12)).session 2).isOpen = true ∧ gmpType m12 = 18 ∧ 2 ≤ (mg.session 2).version ∧ (gg m12).body.length = 10 ∧ 1 ≤ beAt (gg m12).body 8 2 ∧ beAt (gg m12).body 8 2 ≤ 1024 ∧ mg.service = false) :=
  ⟨by decide +kernel,
   by decide +kernel,
   by decide +kernel,
   by decide +kernel⟩

/-- Clauses of `Obligations.ManagementPort`, each with all its hypotheses met together. -/
theorem witness_ManagementPort_2 :
    /- 2.4 -/ (mg.coreUp = true ∧ mg.bit Reg.mgtStatus 31 = true ∧ mg.freshRequest m13 = some (2, gg m13) ∧ (gg m13).ty = gmpType m13 ∧ ((mg.accepted 2 (gg m13)).session 2).isOpen = true ∧ gmpType m13 = 19 ∧ 2 ≤ (mg.session 2).version ∧ 9 ≤ (gg m13).body.length ∧ (gg m13).body.length ≤ 1032 ∧ mg.service = false) ∧
    /- 2.5 -/ (w5.coreUp = true ∧ w5.bit Reg.mgtStatus 31 = true ∧ w5.freshRequest m20 = some (2, gg m20) ∧ w6 = w5.accepted 2 (gg m20) ∧ (gg m20).ty = gmpType m20 ∧ (w6.session 2).isOpen = true ∧ gmpType m20 = 32 ∧ (gg m20).body.length = 5 ∧ beAt (gg m20).body 0 1 < 2 ∧ beAt (gg m20).body 1 4 ≤ 125829120 ∧ (w5.service = true ∨ beAt (gg m20).body 0 1 ≠ w5.runningSlot) ∧ w5.writeElsewhere 2 = false) ∧
    /- 2.6 -/ ((mg im).coreUp = true ∧ (mg im).bit Reg.mgtStatus 31 = true ∧ (mg im).freshRequest m21 = some (2, gg m21) ∧ w7 = (mg im).accepted 2 (gg m21) ∧ (gg m21).ty = gmpType m21 ∧ (w7.session 2).isOpen = true ∧ gmpType m21 = 33 ∧ 5 ≤ (gg m21).body.length ∧ (gg m21).body.length ≤ 1028 ∧ ((mg im).session 2).image = some (1, 1000)) ∧
    /- 2.7 -/ ((mg im).coreUp = true ∧ (mg im).bit Reg.mgtStatus 31 = true ∧ (mg im).freshRequest m22 = some (2, gg m22) ∧ w8 = (mg im).accepted 2 (gg m22) ∧ (gg m22).ty = gmpType m22 ∧ (w8.session 2).isOpen = true ∧ gmpType m22 = 34 ∧ (gg m22).body = [] ∧ ((mg im).session 2).image = some (1, 1000)) :=
  ⟨by decide +kernel,
   by decide +kernel,
   by decide +kernel,
   by decide +kernel⟩

/-- Clauses of `Obligations.ManagementPort`, each with all its hypotheses met together. -/
theorem witness_ManagementPort_3 :
    /- 2.8 -/ ((mg im).coreUp = true ∧ (mg im).bit Reg.mgtStatus 31 = true ∧ (mg im).freshRequest m30 = some (2, gg m30) ∧ w9 = (mg im).accepted 2 (gg m30) ∧ (gg m30).ty = gmpType m30 ∧ (w9.session 2).isOpen = true ∧ gmpType m30 = 48 ∧ (gg m30).body.length = 1 ∧ beNat (gg m30).body < 4 ∧ (mg im).boot.stop = StopKind.none) ∧
    /- 2.9 -/ ((mg im).coreUp = true ∧ (mg im).bit Reg.mgtStatus 31 = true ∧ (mg im).freshRequest m31 = some (2, gg m31) ∧ w10 = (mg im).accepted 2 (gg m31) ∧ (gg m31).ty = gmpType m31 ∧ (w10.session 2).isOpen = true ∧ gmpType m31 = 49 ∧ ((mg im).session 2).version = 3 ∧ (gg m31).body.length = 1 ∧ beNat (gg m31).body < 2 ∧ (mg im).service = false) ∧
    /- 2.10 -/ ((mg im).coreUp = true ∧ (mg im).bit Reg.mgtStatus 31 = true ∧ (mg im).freshRequest m40 = some (2, gg m40) ∧ w11 = (mg im).accepted 2 (gg m40) ∧ (gg m40).ty = gmpType m40 ∧ (w11.session 2).isOpen = true ∧ gmpType m40 = 64 ∧ ((mg im).session 2).version = 3 ∧ (gg m40).body.length = 40 ∧ (mg im).service = false) ∧
    /- 2.11 -/ ((mg im).coreUp = true ∧ (mg im).bit Reg.mgtStatus 31 = true ∧ (mg im).freshRequest m50 = some (2, gg m50) ∧ w12 = (mg im).accepted 2 (gg m50) ∧ (gg m50).ty = gmpType m50 ∧ (w12.session 2).isOpen = true ∧ gmpType m50 = 80 ∧ ((mg im).session 2).version = 3 ∧ (gg m50).body.length = 7 ∧ beAt (gg m50).body 0 1 < 64 ∧ 1 ≤ beAt (gg m50).body 5 2 ∧ beAt (gg m50).body 5 2 ≤ 1024 ∧ beAt (gg m50).body 1 4 + beAt (gg m50).body 5 2 ≤ 65536) :=
  ⟨by decide +kernel,
   by decide +kernel,
   by decide +kernel,
   by decide +kernel⟩

/-- Clauses of `Obligations.ManagementPort`, each with all its hypotheses met together. -/
theorem witness_ManagementPort_4 :
    /- 2.12 -/ ((mg im).coreUp = true ∧ (mg im).bit Reg.mgtStatus 31 = true ∧ (mg im).freshRequest m02 = some (2, gg m02) ∧ w13 = (mg im).accepted 2 (gg m02) ∧ (gg m02).ty = gmpType m02 ∧ (w13.session 2).isOpen = true ∧ gmpType m02 = 2 ∧ (gg m02).body = []) ∧
    /- 3 -/ (mg.coreUp = true ∧ mg.bit Reg.mgtStatus 31 = true ∧ gmpType m01 = 1 ∧ parseGmp m01 = some (gg m01) ∧ mg.authentic (gg m01) = true ∧ (gg m01).ty = 1 ∧ (gg m01).session = 0 ∧ ((gg m01).key, (gg m01).seq) ∉ mg.mgt.hellos ∧ (gg m01).body.length = 1 ∧ List.find? (fun (v : ℕ) => decide (bitsOf (beNat (gg m01).body) 7 4 ≤ v) && decide (v ≤ bitsOf (beNat (gg m01).body) 3 0)) mg.gmpVersions = some 3 ∧ mg.freeSession = some 0) ∧
    /- 4 -/ (mg.coreUp = true ∧ mg.bit Reg.mgtStatus 31 = true ∧ gmpType m01b = 1 ∧ parseGmp m01b = some (gg m01b) ∧ mg.authentic (gg m01b) = false) ∧
    /- 5 -/ (mg.coreUp = true ∧ mg.bit Reg.mgtStatus 31 = true ∧ gmpType w14 = 1 ∧ parseGmp w14 = none) :=
  ⟨by decide +kernel,
   by decide +kernel,
   by decide +kernel,
   by decide +kernel⟩

/-- Clauses of `Obligations.ManagementPort`, each with all its hypotheses met together. -/
theorem witness_ManagementPort_5 :
    /- 6 -/ (mg.coreUp = true ∧ (mg.session 2).isOpen = true ∧ min 3600 (max 1 (mg.fld Reg.mgtCtrl 11 0)) * 1000 ≤ 3600000) ∧
    /- 7 -/ (mg.coreUp = true ∧ mg.mgt.polled + mg.noticeTime ≤ mg.tb.run) ∧
    /- 9 -/ ((mg own).coreUp = true ∧ (mg own).bit Reg.mgtStatus 31 = true ∧ ipFragment (beAt arp 12 2) (List.drop 14 arp) = false ∧ beAt arp 12 2 = 2054 ∧ (mg own).own4 = some w15 ∧ slice arp 14 8 = [0, 1, 8, 0, 6, 4, 0, 1] ∧ slice arp 38 4 = w15) ∧
    /- 8 -/ ((mg own).coreUp = true ∧ (mg own).bit Reg.mgtStatus 31 = true ∧ ipFragment (beAt frag 12 2) (List.drop 14 frag) = true) :=
  ⟨by decide +kernel,
   by decide +kernel,
   by decide +kernel,
   by decide +kernel⟩

/-- Clauses of `Obligations.ManagementPort`, each with all its hypotheses met together. -/
theorem witness_ManagementPort_6 :
    /- 10 -/ (w16.coreUp = true ∧ w16.bit Reg.mgtStatus 31 = false) ∧
    /- 11.3 -/ (mg.coreUp = true) ∧
    /- 11.1 -/ (mg.coreUp = true ∧ LinkRate.base1000T ∈ w18) ∧
    /- 11.2 -/ (mg.coreUp = true ∧ LinkRate.base1000T ∉ w19) :=
  ⟨by decide +kernel,
   by decide +kernel,
   by decide +kernel,
   by decide +kernel⟩

end Sys2Proof.Tests.Q
end

