-- ==== Sys2Proof/Tests/WitnessFlume.lean ====
section
/-! SUPPORT. Witnesses: for every clause of a statement, a concrete state and operands that meet its hypotheses together. -/
set_option Elab.async false
set_option linter.all false

namespace Sys2Proof.Tests.B0
open Sys2Proof Sys2Proof.Machine Sys2Proof.Tests

def w1 : State := peSt [1] { ds := [1,2,3,4,5,6,7,8,9,10,11,12,13,14,15,16] }
def w2 : List Word := [1,2,3,4,5,6,7,8,9,10,11,12,13,14,15,16]
def w3 : State := peSt [2] { ds := [1,2,3,4,5,6,7,8,9,10,11,12,13,14,15] }
def w4 : List Word := [1,2,3,4,5,6,7,8,9,10,11,12,13,14,15]
def w5 : List Word := [2,3,4,5,6,7,8,9,10,11,12,13,14,15]
def w6 : State := peSt [3] { ds := [7] }
def w7 : List Word := [7]
def w8 : List Word := []
def w9 : State := peSt [4] { ds := [7,8] }
def w10 : List Word := [7,8]
def w11 : State := peSt [5] { ds := [7,8] }
def w12 : State := peSt [6] { ds := [7,8,9] }
def w13 : List Word := [7,8,9]
def w14 : State := peSt [7] { ds := [7,8] }
def w15 : State := peSt [65] { ds := [1,2,3,4,5,6,7,8,9,10,11,12,13,14,15] }
def w16 : State := peSt [8191] { ds := [1,2,3,4,5,6,7,8,9,10,11,12,13,14,15] }
def w17 : State := peSt [12287] { ds := [0xFFFFFFFF] }
def w18 : List Word := [0xFFFFFFFF]
def w19 : State := peSt [36865] { ds := [7,8,9] }
def w20 : List Word := [9]
def w21 : State := peSt [37121] { ds := [7,8,9] }
def w22 : List Word := [8]
def w23 : State := peSt [37378] { ds := [7,8,9] }
def w24 : State := peSt [36864] { ds := [] }
def w25 : State := peSt [37120] { ds := [1] }
def w26 : List Word := [1]
def w27 : State := peSt [37376] { ds := [] }
def w28 : State := peSt [2] { ds := [] }
def w29 : State := peSt [12287] { ds := [] }
def w30 : State := peSt [16] { ds := [9,7,1,2,3,4,5,6,7,8,9,10,11,12,13,14] }
def w31 : List Word := [1,2,3,4,5,6,7,8,9,10,11,12,13,14]
def w32 : State := peSt [17] { ds := [9,7,1,2,3,4,5,6,7,8,9,10,11,12,13,14] }
def w33 : State := peSt [18] { ds := [9,7,1,2,3,4,5,6,7,8,9,10,11,12,13,14] }
def w34 : State := peSt [19] { ds := [9,7,1,2,3,4,5,6,7,8,9,10,11,12,13,14] }
def w35 : State := peSt [20] { ds := [9,7,1,2,3,4,5,6,7,8,9,10,11,12,13,14] }
def w36 : State := peSt [21] { ds := [9,7,1,2,3,4,5,6,7,8,9,10,11,12,13,14] }
def w37 : State := peSt [22] { ds := [9,7,1,2,3,4,5,6,7,8,9,10,11,12,13,14] }
def w38 : State := peSt [23] { ds := [9,7,1,2,3,4,5,6,7,8,9,10,11,12,13,14] }
def w39 : State := peSt [24] { ds := [9,7,1,2,3,4,5,6,7,8,9,10,11,12,13,14] }
def w40 : State := peSt [25] { ds := [9,7,1,2,3,4,5,6,7,8,9,10,11,12,13,14] }
def w41 : State := peSt [26] { ds := [9,7,1,2,3,4,5,6,7,8,9,10,11,12,13,14] }
def w42 : State := peSt [27] { ds := [9,7,1,2,3,4,5,6,7,8,9,10,11,12,13,14] }
def w43 : State := peSt [28] { ds := [9,7,1,2,3,4,5,6,7,8,9,10,11,12,13,14] }
def w44 : State := peSt [29] { ds := [9,7,1,2,3,4,5,6,7,8,9,10,11,12,13,14] }
def w45 : State := peSt [30] { ds := [9,7,1,2,3,4,5,6,7,8,9,10,11,12,13,14] }
def w46 : State := peSt [31] { ds := [9,7,1,2,3,4,5,6,7,8,9,10,11,12,13,14] }
def w47 : State := peSt [48] { ds := [9,7,1,2,3,4,5,6,7,8,9,10,11,12,13,14] }
def w48 : State := peSt [49] { ds := [9,7,1,2,3,4,5,6,7,8,9,10,11,12,13,14] }
def w49 : State := peSt [32] { ds := [0,5] }
def w50 : List Word := [5]
def w51 : State := peSt [33] { ds := [0,5] }
def w52 : State := peSt [34] { ds := [0,5] }
def w53 : State := peSt [35] { ds := [0,5] }
def w54 : State := peSt [36] { ds := [0,5] }
def w55 : State := peSt [37] { ds := [0,5] }
def w56 : State := peSt [38] { ds := [0,5] }
def w57 : State := peSt [39] { ds := [0,5] }
def w58 : State := peSt [40] { ds := [0,5] }
def w59 : State := peSt [41] { ds := [0,5] }
def w60 : State := peSt [42] { ds := [0,5] }
def w61 : State := peSt [43] { ds := [0,5] }
def w62 : State := peSt [32799] { ds := [0,5] }
def w63 : State := peSt [33055] { ds := [0,5] }
def w64 : State := peSt [33311] { ds := [0,5] }
def w65 : State := peSt [33567] { ds := [0,5] }
def w66 : State := peSt [33823] { ds := [0,5] }
def w67 : State := peSt [34079] { ds := [0,5] }
def w68 : State := peSt [34335] { ds := [0,5] }
def w69 : State := peSt [34591] { ds := [0,5] }
def w70 : State := peSt [34847] { ds := [0,5] }
def w71 : State := peSt [35103] { ds := [0,5] }

/-- Clauses of `Obligations.StackInstructions`, each with all its hypotheses met together. -/
theorem witness_StackInstructions :
    /- 1 -/ ((w1.arch pe7).ds = w2 ∧ w2.length ≤ 16 ∧ w1.atWord pe7 61695 1 3840) ∧
    /- 2 -/ ((w3.arch pe7).ds = w4 ∧ w4.length ≤ 16 ∧ w4 = 1 :: w5 ∧ w4.length < 16 ∧ w3.atWord pe7 61695 2 3840) ∧
    /- 3 -/ ((w6.arch pe7).ds = w7 ∧ w7.length ≤ 16 ∧ w7 = 7 :: w8 ∧ w6.atWord pe7 61695 3 3840) ∧
    /- 4 -/ ((w9.arch pe7).ds = w10 ∧ w10.length ≤ 16 ∧ w10 = 7 :: 8 :: w8 ∧ w9.atWord pe7 61695 4 3840) :=
  ⟨by unfold State.atWord; decide +kernel,
   by unfold State.atWord; decide +kernel,
   by unfold State.atWord; decide +kernel,
   by unfold State.atWord; decide +kernel⟩

/-- Clauses of `Obligations.StackInstructions`, each with all its hypotheses met together. -/
theorem witness_StackInstructions_2 :
    /- 5 -/ ((w11.arch pe7).ds = w10 ∧ w10.length ≤ 16 ∧ w10 = 7 :: 8 :: w8 ∧ w10.length < 16 ∧ w11.atWord pe7 61695 5 3840) ∧
    /- 6 -/ ((w12.arch pe7).ds = w13 ∧ w13.length ≤ 16 ∧ w13 = 7 :: 8 :: 9 :: w8 ∧ w12.atWord pe7 61695 6 3840) ∧
    /- 7 -/ ((w14.arch pe7).ds = w10 ∧ w10.length ≤ 16 ∧ w10 = 7 :: 8 :: w8 ∧ w14.atWord pe7 61695 7 3840) ∧
    /- 8 -/ ((w15.arch pe7).ds = w4 ∧ w4.length ≤ 16 ∧ w4.length < 16 ∧ w15.atWord pe7 61695 65 3840) :=
  ⟨by unfold State.atWord; decide +kernel,
   by unfold State.atWord; decide +kernel,
   by unfold State.atWord; decide +kernel,
   by unfold State.atWord; decide +kernel⟩

/-- Clauses of `Obligations.StackInstructions`, each with all its hypotheses met together. -/
theorem witness_StackInstructions_3 :
    /- 9 -/ ((w16.arch pe7).ds = w4 ∧ w4.length ≤ 16 ∧ w4.length < 16 ∧ w16.atWord pe7 61440 4096 0) ∧
    /- 10 -/ ((w17.arch pe7).ds = w18 ∧ w18.length ≤ 16 ∧ w18 = 4294967295 :: w8 ∧ w17.atWord pe7 61440 8192 0) ∧
    /- 11 -/ ((w19.arch pe7).ds = w13 ∧ w13.length ≤ 16 ∧ w13 = w7 ++ 8 :: w20 ∧ w13.length < 16 ∧ w19.atWord pe7 65295 (36864 + w7.length) 240) ∧
    /- 12 -/ ((w21.arch pe7).ds = w13 ∧ w13.length ≤ 16 ∧ w13 = 7 :: (w22 ++ 9 :: w8) ∧ w21.atWord pe7 65295 (37120 + w22.length) 240) :=
  ⟨by unfold State.atWord; decide +kernel,
   by unfold State.atWord; decide +kernel,
   by unfold State.atWord; decide +kernel,
   by unfold State.atWord; decide +kernel⟩

/-- Clauses of `Obligations.StackInstructions`, each with all its hypotheses met together. -/
theorem witness_StackInstructions_4 :
    /- 13 -/ ((w23.arch pe7).ds = w13 ∧ w13.length ≤ 16 ∧ w13 = w10 ++ 9 :: w8 ∧ w23.atWord pe7 65295 (37376 + w10.length) 240) ∧
    /- 14.1 -/ ((w24.arch pe7).ds = w8 ∧ w8.length ≤ 16 ∧ w24.atWord pe7 65295 (36864 + 0) 240 ∧ w8.length < 0 + 1) ∧
    /- 14.2 -/ ((w25.arch pe7).ds = w26 ∧ w26.length ≤ 16 ∧ w25.atWord pe7 65295 (37120 + 0) 240 ∧ w26.length < 0 + 2) ∧
    /- 14.3 -/ ((w27.arch pe7).ds = w8 ∧ w8.length ≤ 16 ∧ w27.atWord pe7 65295 (37376 + 0) 240 ∧ w8.length < 0 + 1) :=
  ⟨by unfold State.atWord; decide +kernel,
   by unfold State.atWord; decide +kernel,
   by unfold State.atWord; decide +kernel,
   by unfold State.atWord; decide +kernel⟩

/-- Clauses of `Obligations.StackInstructions`, each with all its hypotheses met together. -/
theorem witness_StackInstructions_5 :
    /- 15 -/ ((Instr.dup, 2, 1) ∈ [(Instr.dup, 2, 1), (Instr.drop, 3, 1), (Instr.swap, 4, 2), (Instr.over, 5, 2), (Instr.rot, 6, 3), (Instr.nip, 7, 2)] ∧ ((w28.arch pe7).ds = w8 ∧ w8.length ≤ 16 ∧ w28.atWord pe7 61695 (Instr.dup, 2, 1).2.1 3840 ∧ w8.length < (Instr.dup, 2, 1).2.2)) ∧
    /- 16 -/ ((w29.arch pe7).ds = w8 ∧ w8.length ≤ 16 ∧ w29.atWord pe7 61440 8192 0 ∧ w8 = []) :=
  ⟨⟨by repeat (first | exact List.mem_cons_self | apply List.mem_cons_of_mem),
    by unfold State.atWord; decide +kernel⟩,
   by unfold State.atWord; decide +kernel⟩

/-- Clauses of `Obligations.TwoOperandResults`, each with all its hypotheses met together. -/
theorem witness_TwoOperandResults :
    /- 1 -/ ((w30.arch pe7).ds = 9 :: 7 :: w31 ∧ w31.length ≤ 14 ∧ w30.atWord pe7 61695 16 3840) ∧
    /- 2 -/ ((w32.arch pe7).ds = 9 :: 7 :: w31 ∧ w31.length ≤ 14 ∧ w32.atWord pe7 61695 17 3840) ∧
    /- 3 -/ ((w33.arch pe7).ds = 9 :: 7 :: w31 ∧ w31.length ≤ 14 ∧ w33.atWord pe7 61695 18 3840) ∧
    /- 4 -/ ((w34.arch pe7).ds = 9 :: 7 :: w31 ∧ w31.length ≤ 14 ∧ w34.atWord pe7 61695 19 3840) :=
  ⟨by unfold State.atWord; decide +kernel,
   by unfold State.atWord; decide +kernel,
   by unfold State.atWord; decide +kernel,
   by unfold State.atWord; decide +kernel⟩

/-- Clauses of `Obligations.TwoOperandResults`, each with all its hypotheses met together. -/
theorem witness_TwoOperandResults_2 :
    /- 5 -/ ((w35.arch pe7).ds = 9 :: 7 :: w31 ∧ w31.length ≤ 14 ∧ w35.atWord pe7 61695 20 3840) ∧
    /- 6 -/ ((w36.arch pe7).ds = 9 :: 7 :: w31 ∧ w31.length ≤ 14 ∧ w36.atWord pe7 61695 21 3840) ∧
    /- 7 -/ ((w37.arch pe7).ds = 9 :: 7 :: w31 ∧ w31.length ≤ 14 ∧ w37.atWord pe7 61695 22 3840) ∧
    /- 8 -/ ((w38.arch pe7).ds = 9 :: 7 :: w31 ∧ w31.length ≤ 14 ∧ w38.atWord pe7 61695 23 3840) :=
  ⟨by unfold State.atWord; decide +kernel,
   by unfold State.atWord; decide +kernel,
   by unfold State.atWord; decide +kernel,
   by unfold State.atWord; decide +kernel⟩

/-- Clauses of `Obligations.TwoOperandResults`, each with all its hypotheses met together. -/
theorem witness_TwoOperandResults_3 :
    /- 9 -/ ((w39.arch pe7).ds = 9 :: 7 :: w31 ∧ w31.length ≤ 14 ∧ w39.atWord pe7 61695 24 3840) ∧
    /- 10 -/ ((w40.arch pe7).ds = 9 :: 7 :: w31 ∧ w31.length ≤ 14 ∧ w40.atWord pe7 61695 25 3840) ∧
    /- 11 -/ ((w41.arch pe7).ds = 9 :: 7 :: w31 ∧ w31.length ≤ 14 ∧ w41.atWord pe7 61695 26 3840) ∧
    /- 12 -/ ((w42.arch pe7).ds = 9 :: 7 :: w31 ∧ w31.length ≤ 14 ∧ w42.atWord pe7 61695 27 3840) :=
  ⟨by unfold State.atWord; decide +kernel,
   by unfold State.atWord; decide +kernel,
   by unfold State.atWord; decide +kernel,
   by unfold State.atWord; decide +kernel⟩

/-- Clauses of `Obligations.TwoOperandResults`, each with all its hypotheses met together. -/
theorem witness_TwoOperandResults_4 :
    /- 13 -/ ((w43.arch pe7).ds = 9 :: 7 :: w31 ∧ w31.length ≤ 14 ∧ w43.atWord pe7 61695 28 3840) ∧
    /- 14 -/ ((w44.arch pe7).ds = 9 :: 7 :: w31 ∧ w31.length ≤ 14 ∧ w44.atWord pe7 61695 29 3840) ∧
    /- 15 -/ ((w45.arch pe7).ds = 9 :: 7 :: w31 ∧ w31.length ≤ 14 ∧ w45.atWord pe7 61695 30 3840) ∧
    /- 16 -/ ((w46.arch pe7).ds = 9 :: 7 :: w31 ∧ w31.length ≤ 14 ∧ w46.atWord pe7 61695 31 3840) :=
  ⟨by unfold State.atWord; decide +kernel,
   by unfold State.atWord; decide +kernel,
   by unfold State.atWord; decide +kernel,
   by unfold State.atWord; decide +kernel⟩

/-- Clauses of `Obligations.TwoOperandResults`, each with all its hypotheses met together. -/
theorem witness_TwoOperandResults_5 :
    /- 17 -/ ((w47.arch pe7).ds = 9 :: 7 :: w31 ∧ w31.length ≤ 14 ∧ w47.atWord pe7 61695 48 3840) ∧
    /- 18 -/ ((w48.arch pe7).ds = 9 :: 7 :: w31 ∧ w31.length ≤ 14 ∧ w48.atWord pe7 61695 49 3840) :=
  ⟨by unfold State.atWord; decide +kernel,
   by unfold State.atWord; decide +kernel⟩

/-- Clauses of `Obligations.OneOperandResults`, each with all its hypotheses met together. -/
theorem witness_OneOperandResults :
    /- 1 -/ ((w49.arch pe7).ds = 0 :: w50 ∧ w50.length ≤ 15 ∧ w49.atWord pe7 61695 32 3840) ∧
    /- 2 -/ ((w51.arch pe7).ds = 0 :: w50 ∧ w50.length ≤ 15 ∧ w51.atWord pe7 61695 33 3840) ∧
    /- 3 -/ ((w52.arch pe7).ds = 0 :: w50 ∧ w50.length ≤ 15 ∧ w52.atWord pe7 61695 34 3840) ∧
    /- 4 -/ ((w53.arch pe7).ds = 0 :: w50 ∧ w50.length ≤ 15 ∧ w53.atWord pe7 61695 35 3840) :=
  ⟨by unfold State.atWord; decide +kernel,
   by unfold State.atWord; decide +kernel,
   by unfold State.atWord; decide +kernel,
   by unfold State.atWord; decide +kernel⟩

/-- Clauses of `Obligations.OneOperandResults`, each with all its hypotheses met together. -/
theorem witness_OneOperandResults_2 :
    /- 5 -/ ((w54.arch pe7).ds = 0 :: w50 ∧ w50.length ≤ 15 ∧ w54.atWord pe7 61695 36 3840) ∧
    /- 6 -/ ((w55.arch pe7).ds = 0 :: w50 ∧ w50.length ≤ 15 ∧ w55.atWord pe7 61695 37 3840) ∧
    /- 7 -/ ((w56.arch pe7).ds = 0 :: w50 ∧ w50.length ≤ 15 ∧ w56.atWord pe7 61695 38 3840) ∧
    /- 8 -/ ((w57.arch pe7).ds = 0 :: w50 ∧ w50.length ≤ 15 ∧ w57.atWord pe7 61695 39 3840) :=
  ⟨by unfold State.atWord; decide +kernel,
   by unfold State.atWord; decide +kernel,
   by unfold State.atWord; decide +kernel,
   by unfold State.atWord; decide +kernel⟩

/-- Clauses of `Obligations.OneOperandResults`, each with all its hypotheses met together. -/
theorem witness_OneOperandResults_3 :
    /- 9 -/ ((w58.arch pe7).ds = 0 :: w50 ∧ w50.length ≤ 15 ∧ w58.atWord pe7 61695 40 3840) ∧
    /- 10 -/ ((w59.arch pe7).ds = 0 :: w50 ∧ w50.length ≤ 15 ∧ w59.atWord pe7 61695 41 3840) ∧
    /- 11 -/ ((w60.arch pe7).ds = 0 :: w50 ∧ w50.length ≤ 15 ∧ w60.atWord pe7 61695 42 3840) ∧
    /- 12 -/ ((w61.arch pe7).ds = 0 :: w50 ∧ w50.length ≤ 15 ∧ w61.atWord pe7 61695 43 3840) :=
  ⟨by unfold State.atWord; decide +kernel,
   by unfold State.atWord; decide +kernel,
   by unfold State.atWord; decide +kernel,
   by unfold State.atWord; decide +kernel⟩

/-- Clauses of `Obligations.ImmediateResults`, each with all its hypotheses met together. -/
theorem witness_ImmediateResults :
    /- 1 -/ ((w62.arch pe7).ds = 0 :: w50 ∧ w50.length ≤ 15 ∧ BitVec.ofNat 8 (w62.wordOf pe7) = 31 ∧ w62.atWord pe7 65280 32768 0) ∧
    /- 2 -/ ((w63.arch pe7).ds = 0 :: w50 ∧ w50.length ≤ 15 ∧ BitVec.ofNat 8 (w63.wordOf pe7) = 31 ∧ w63.atWord pe7 65280 33024 0) ∧
    /- 3 -/ ((w64.arch pe7).ds = 0 :: w50 ∧ w50.length ≤ 15 ∧ BitVec.ofNat 8 (w64.wordOf pe7) = 31 ∧ w64.atWord pe7 65280 33280 0) ∧
    /- 4 -/ ((w65.arch pe7).ds = 0 :: w50 ∧ w50.length ≤ 15 ∧ BitVec.ofNat 8 (w65.wordOf pe7) = 31 ∧ w65.atWord pe7 65280 33536 0) :=
  ⟨by unfold State.atWord; decide +kernel,
   by unfold State.atWord; decide +kernel,
   by unfold State.atWord; decide +kernel,
   by unfold State.atWord; decide +kernel⟩

/-- Clauses of `Obligations.ImmediateResults`, each with all its hypotheses met together. -/
theorem witness_ImmediateResults_2 :
    /- 5 -/ ((w66.arch pe7).ds = 0 :: w50 ∧ w50.length ≤ 15 ∧ BitVec.ofNat 8 (w66.wordOf pe7) = 31 ∧ w66.atWord pe7 65280 33792 224) ∧
    /- 6 -/ ((w67.arch pe7).ds = 0 :: w50 ∧ w50.length ≤ 15 ∧ BitVec.ofNat 8 (w67.wordOf pe7) = 31 ∧ w67.atWord pe7 65280 34048 224) ∧
    /- 7 -/ ((w68.arch pe7).ds = 0 :: w50 ∧ w50.length ≤ 15 ∧ BitVec.ofNat 8 (w68.wordOf pe7) = 31 ∧ w68.atWord pe7 65280 34304 224) ∧
    /- 8 -/ ((w69.arch pe7).ds = 0 :: w50 ∧ w50.length ≤ 15 ∧ BitVec.ofNat 8 (w69.wordOf pe7) = 31 ∧ w69.atWord pe7 65280 34560 0) :=
  ⟨by unfold State.atWord; decide +kernel,
   by unfold State.atWord; decide +kernel,
   by unfold State.atWord; decide +kernel,
   by unfold State.atWord; decide +kernel⟩

/-- Clauses of `Obligations.ImmediateResults`, each with all its hypotheses met together. -/
theorem witness_ImmediateResults_3 :
    /- 9 -/ ((w70.arch pe7).ds = 0 :: w50 ∧ w50.length ≤ 15 ∧ BitVec.ofNat 8 (w70.wordOf pe7) = 31 ∧ w70.atWord pe7 65280 34816 0) ∧
    /- 10 -/ ((w71.arch pe7).ds = 0 :: w50 ∧ w50.length ≤ 15 ∧ BitVec.ofNat 8 (w71.wordOf pe7) = 31 ∧ w71.atWord pe7 65280 35072 224) :=
  ⟨by unfold State.atWord; decide +kernel,
   by unfold State.atWord; decide +kernel⟩

end Sys2Proof.Tests.B0

namespace Sys2Proof.Tests.B
open Sys2Proof Sys2Proof.Machine Sys2Proof.Tests

def w1 : State := peSt [13311] { ds := [1,2], pc := 0 }
def w2 : Arch := ({ ds := [1,2], pc := 0 } : Arch)
def w3 : State := peSt [14335] { ds := [0,2], pc := 0 }
def w4 : Arch := ({ ds := [0,2], pc := 0 } : Arch)
def w5 : List Word := [2]
def w6 : State := peSt [15359] { ds := [0,2], pc := 0 }
def w7 : State := peSt [16383] { ds := [0,2], pc := 0, rs := [1,2,3,4,5,6,7] }
def w8 : Arch := ({ ds := [0,2], pc := 0, rs := [1,2,3,4,5,6,7] } : Arch)
def w9 : State := peSt [56] { ds := [1], pc := 9, rs := [77,2] }
def w10 : Arch := ({ ds := [1], pc := 9, rs := [77,2] } : Arch)
def w11 : List ℕ := [2]
def w12 : State := peSt [57] { ds := [0xFFFFFFFF,2], pc := 9 }
def w13 : Arch := ({ ds := [0xFFFFFFFF,2], pc := 9 } : Arch)
def w14 : State := peSt [58] { ds := [0x00345678,2], pc := 9, rs := [1,2,3,4,5,6,7] }
def w15 : Arch := ({ ds := [0x00345678,2], pc := 9, rs := [1,2,3,4,5,6,7] } : Arch)
def w16 : State := peSt [45311] { ds := [1,2,3,4,5,6,7,8,9,10,11,12,13,14,15], pc := 3, rc := 9 }
def w17 : Arch := ({ ds := [1,2,3,4,5,6,7,8,9,10,11,12,13,14,15], pc := 3, rc := 9 } : Arch)
def w18 : State := peSt [45824] { ds := [9], rc := 3 }
def w19 : Arch := ({ ds := [9], rc := 3 } : Arch)
def w20 : List Word := []
def w21 : State := peSt [46080] { ds := [1,2,3,4,5,6,7,8,9,10,11,12,13,14,15], rc := 0xFFFFFFFF }
def w22 : Arch := ({ ds := [1,2,3,4,5,6,7,8,9,10,11,12,13,14,15], rc := 0xFFFFFFFF } : Arch)
def w23 : State := peSt [46336] { ds := [0xFFFFFFFF], rs := [1,2,3,4,5,6,7] }
def w24 : Arch := ({ ds := [0xFFFFFFFF], rs := [1,2,3,4,5,6,7] } : Arch)
def w25 : State := peSt [46592] { ds := [1,2,3,4,5,6,7,8,9,10,11,12,13,14,15], rs := [65535] }
def w26 : Arch := ({ ds := [1,2,3,4,5,6,7,8,9,10,11,12,13,14,15], rs := [65535] } : Arch)
def w27 : List ℕ := []
def w28 : State := peSt [46848] { ds := [1,2,3,4,5,6,7,8,9,10,11,12,13,14,15], rs := [65535] }
def w29 : State := peSt [47107] { rc := 0, pc := 1 }
def w30 : Arch := ({ rc := 0, pc := 1 } : Arch)
def w31 : State := peSt [45568,16] { ds := [1,2], rc := 0, pc := 5 }
def w32 : Arch := ({ ds := [1,2], rc := 0, pc := 5 } : Arch)
def w33 : State := peSt [45568,45311] { ds := [], rc := 2, pc := 5 }
def w34 : State := peSt [45568,12288] { ds := [], rc := 2, pc := 5 }
def w35 : State := peSt [45568,42760] { ds := [], rc := 2, pc := 5 }
def w36 : State := peSt [45568,53248] { ds := [], rc := 2, pc := 5 }
def w37 : State := peSt [45568,16] { ds := [], rc := 65, pc := 5 }
def w38 : (Who → Instr) × ℕ × ℕ × ℕ × ℕ × ℕ := (Instr.nop, 61695, 1, 3840, 0, 0)
def w39 : State := peSt [257] { ds := [] }
def w40 : (Who → Instr) × ℕ × ℕ × ℕ × ℕ × ℕ := (Instr.dup, 61695, 2, 3840, 1, 2)
def w41 : State := peSt [2] { ds := [] }
def w42 : State := peSt [2] { ds := [1, 1, 1, 1, 1, 1, 1, 1, 1, 1, 1, 1, 1, 1, 1, 1] }
def w43 : State := peSt [0] { ds := [1] }
def w44 : State := peSt [40963] { ds := [1] }
def w45 : State := peSt [53248] { ds := [] }
def w46 : State := peSt [56] { ds := [1,2,3,4,5,6,7,8,9,10,11,12,13,14,15] }
def w47 : State := peSt [46592] { ds := [1,2,3,4,5,6,7,8,9,10,11,12,13,14,15] }
def w48 : State := peSt [46848] { ds := [1,2,3,4,5,6,7,8,9,10,11,12,13,14,15] }
def w49 : State := peSt [15360] { ds := [1,2,3,4,5,6,7,8,9,10,11,12,13,14,15], rs := [1,2,3,4,5,6,7,8] }
def w50 : State := peSt [58] { ds := [1,2,3,4,5,6,7,8,9,10,11,12,13,14,15], rs := [1,2,3,4,5,6,7,8] }
def w51 : State := peSt [46336] { ds := [1,2,3,4,5,6,7,8,9,10,11,12,13,14,15], rs := [1,2,3,4,5,6,7,8] }
def w52 : State := ceSt [45568,53248] { ds := [], rc := 2, pc := 5 }

/-- Clauses of `Obligations.ControlTransfers`, each with all its hypotheses met together. -/
theorem witness_ControlTransfers :
    /- 1 -/ (w1.arch pe7 = w2 ∧ w2.ds.length ≤ 16 ∧ 0 = (((↑w2.pc : ℤ) + 1 + (BitVec.ofNat 10 (w1.wordOf pe7)).toInt) % (↑(pcMod pe7) : ℤ)).toNat ∧ w1.atWord pe7 64512 12288 0) ∧
    /- 2 -/ (w3.arch pe7 = w4 ∧ w4.ds.length ≤ 16 ∧ 0 = (((↑w4.pc : ℤ) + 1 + (BitVec.ofNat 10 (w3.wordOf pe7)).toInt) % (↑(pcMod pe7) : ℤ)).toNat ∧ w4.ds = 0 :: w5 ∧ w3.atWord pe7 64512 13312 0) ∧
    /- 3 -/ (w6.arch pe7 = w4 ∧ w4.ds.length ≤ 16 ∧ 0 = (((↑w4.pc : ℤ) + 1 + (BitVec.ofNat 10 (w6.wordOf pe7)).toInt) % (↑(pcMod pe7) : ℤ)).toNat ∧ w4.ds = 0 :: w5 ∧ w6.atWord pe7 64512 14336 0) ∧
    /- 4 -/ (w7.arch pe7 = w8 ∧ w8.ds.length ≤ 16 ∧ 0 = (((↑w8.pc : ℤ) + 1 + (BitVec.ofNat 10 (w7.wordOf pe7)).toInt) % (↑(pcMod pe7) : ℤ)).toNat ∧ w8.rs.length < 8 ∧ w7.atWord pe7 64512 15360 0) :=
  ⟨by unfold State.atWord; decide +kernel,
   by unfold State.atWord; decide +kernel,
   by unfold State.atWord; decide +kernel,
   by unfold State.atWord; decide +kernel⟩

/-- Clauses of `Obligations.ControlTransfers`, each with all its hypotheses met together. -/
theorem witness_ControlTransfers_2 :
    /- 5 -/ (w9.arch pe7 = w10 ∧ w10.ds.length ≤ 16 ∧ 66 = (((↑w10.pc : ℤ) + 1 + (BitVec.ofNat 10 (w9.wordOf pe7)).toInt) % (↑(pcMod pe7) : ℤ)).toNat ∧ w10.rs = 77 :: w11 ∧ w9.atWord pe7 61695 56 3840) ∧
    /- 6 -/ (w12.arch pe7 = w13 ∧ w13.ds.length ≤ 16 ∧ 67 = (((↑w13.pc : ℤ) + 1 + (BitVec.ofNat 10 (w12.wordOf pe7)).toInt) % (↑(pcMod pe7) : ℤ)).toNat ∧ w13.ds = 4294967295 :: w5 ∧ w12.atWord pe7 61695 57 3840) ∧
    /- 7 -/ (w14.arch pe7 = w15 ∧ w15.ds.length ≤ 16 ∧ 68 = (((↑w15.pc : ℤ) + 1 + (BitVec.ofNat 10 (w14.wordOf pe7)).toInt) % (↑(pcMod pe7) : ℤ)).toNat ∧ w15.ds = 3430008 :: w5 ∧ w15.rs.length < 8 ∧ w14.atWord pe7 61695 58 3840) :=
  ⟨by unfold State.atWord; decide +kernel,
   by unfold State.atWord; decide +kernel,
   by unfold State.atWord; decide +kernel⟩

/-- Clauses of `Obligations.RepeatsAndReturnStack`, each with all its hypotheses met together. -/
theorem witness_RepeatsAndReturnStack :
    /- 1.1 -/ (w16.arch pe7 = w17 ∧ w17.ds.length ≤ 16 ∧ w16.atWord pe7 65280 45056 0) ∧
    /- 1.2 -/ (w18.arch pe7 = w19 ∧ w19.ds.length ≤ 16 ∧ w19.ds = 9 :: w20 ∧ w18.atWord pe7 65280 45824 255) ∧
    /- 1.3 -/ (w21.arch pe7 = w22 ∧ w22.ds.length ≤ 16 ∧ w22.ds.length < 16 ∧ w21.atWord pe7 65280 46080 255) ∧
    /- 1.4 -/ (w23.arch pe7 = w24 ∧ w24.ds.length ≤ 16 ∧ w24.ds = 4294967295 :: w20 ∧ w24.rs.length < 8 ∧ w23.atWord pe7 65280 46336 255) :=
  ⟨by unfold State.atWord; decide +kernel,
   by unfold State.atWord; decide +kernel,
   by unfold State.atWord; decide +kernel,
   by unfold State.atWord; decide +kernel⟩

/-- Clauses of `Obligations.RepeatsAndReturnStack`, each with all its hypotheses met together. -/
theorem witness_RepeatsAndReturnStack_2 :
    /- 1.5 -/ (w25.arch pe7 = w26 ∧ w26.ds.length ≤ 16 ∧ w26.rs = 65535 :: w27 ∧ w26.ds.length < 16 ∧ w25.atWord pe7 65280 46592 255) ∧
    /- 1.6 -/ (w28.arch pe7 = w26 ∧ w26.ds.length ≤ 16 ∧ w26.rs = 65535 :: w27 ∧ w26.ds.length < 16 ∧ w28.atWord pe7 65280 46848 255) ∧
    /- 1.7 -/ (w29.arch pe7 = w30 ∧ w30.ds.length ≤ 16 ∧ w29.atWord pe7 65280 47104 0) ∧
    /- 1.8 -/ (w31.arch pe7 = w32 ∧ w32.ds.length ≤ 16 ∧ (targetCheck
    (match pe7 with
    | Who.ce k => true
    | Who.pe cluster engine thread => false)
    true w32.rc (w31.instrAt pe7 (w32.pc + 1)) =
    none) ∧ (w31.atWord pe7 65280 (if true = true then 45568 else 45312) 255)) :=
  ⟨by unfold State.atWord; decide +kernel,
   by unfold State.atWord; decide +kernel,
   by unfold State.atWord; decide +kernel,
   by unfold State.atWord; decide +kernel⟩

/-- Clauses of `Obligations.RepeatsAndReturnStack`, each with all its hypotheses met together. -/
theorem witness_RepeatsAndReturnStack_3 :
    /- 2.1 -/ ((w33.arch pe7).ds.length ≤ 16 ∧ (false =
    match pe7 with
    | Who.ce k => true
    | Who.pe cluster engine thread => false) ∧ 45311 = w33.instrAt pe7 ((w33.arch pe7).pc + 1) ∧ (w33.atWord pe7 65280 (if true = true then 45568 else 45312) 255)) ∧
    /- 2.2 -/ ((w34.arch pe7).ds.length ≤ 16 ∧ (false =
    match pe7 with
    | Who.ce k => true
    | Who.pe cluster engine thread => false) ∧ 12288 = w34.instrAt pe7 ((w34.arch pe7).pc + 1) ∧ (w34.atWord pe7 65280 (if true = true then 45568 else 45312) 255)) ∧
    /- 2.4 -/ ((w35.arch pe7).ds.length ≤ 16 ∧ (false =
    match pe7 with
    | Who.ce k => true
    | Who.pe cluster engine thread => false) ∧ 42760 = w35.instrAt pe7 ((w35.arch pe7).pc + 1) ∧ (w35.atWord pe7 65280 (if true = true then 45568 else 45312) 255)) ∧
    /- 2.5 -/ ((w36.arch pe7).ds.length ≤ 16 ∧ (false =
    match pe7 with
    | Who.ce k => true
    | Who.pe cluster engine thread => false) ∧ 53248 = w36.instrAt pe7 ((w36.arch pe7).pc + 1) ∧ (w36.atWord pe7 65280 (if true = true then 45568 else 45312) 255)) :=
  ⟨by unfold State.atWord; decide +kernel,
   by unfold State.atWord; decide +kernel,
   by unfold State.atWord; decide +kernel,
   by unfold State.atWord; decide +kernel⟩

/-- Clauses of `Obligations.RepeatsAndReturnStack`, each with all its hypotheses met together. -/
theorem witness_RepeatsAndReturnStack_4 :
    /- 2.6 -/ ((w37.arch pe7).ds.length ≤ 16 ∧ (false =
    match pe7 with
    | Who.ce k => true
    | Who.pe cluster engine thread => false) ∧ 16 = w37.instrAt pe7 ((w37.arch pe7).pc + 1) ∧ (w37.atWord pe7 65280 (if true = true then 45568 else 45312) 255) ∧ 64 < BitVec.toNat (w37.arch pe7).rc) ∧
    /- 2.3 -/ ((w52.arch (Who.ce 3)).ds.length ≤ 16 ∧ (true =
    match Who.ce 3 with
    | Who.ce k => true
    | Who.pe cluster engine thread => false) ∧ 53248 = w52.instrAt (Who.ce 3) ((w52.arch (Who.ce 3)).pc + 1) ∧ (w52.atWord (Who.ce 3) 65280 (if true = true then 45568 else 45312) 255)) :=
  ⟨by unfold State.atWord; decide +kernel,
   by unfold State.atWord; decide +kernel⟩

/-- Clauses of `Obligations.InstructionChecks`, each with all its hypotheses met together. -/
theorem witness_StackChecks :
    /- 1 -/ (w38 ∈ [(Instr.nop, 61695, 1, 3840, 0, 0), (Instr.dup, 61695, 2, 3840, 1, 2), (Instr.drop, 61695, 3, 3840, 1, 0), (Instr.swap, 61695, 4, 3840, 2, 2), (Instr.over, 61695, 5, 3840, 2, 3), (Instr.rot, 61695, 6, 3840, 3, 3), (Instr.nip, 61695, 7, 3840, 2, 1), (Instr.depth, 61695, 65, 3840, 0, 1), (Instr.pushs, 61440, 4096, 0, 0, 1), (Instr.ext, 61440, 8192, 0, 1, 1), (Instr.addOp, 61695, 16, 3840, 2, 1), (Instr.sub, 61695, 17, 3840, 2, 1), (Instr.mul, 61695, 24, 3840, 2, 1), (Instr.sar, 61695, 23, 3840, 2, 1), (Instr.lts, 61695, 31, 3840, 2, 1), (Instr.notOp, 61695, 32, 3840, 1, 1), (Instr.clz, 61695, 34, 3840, 1, 1), (Instr.crc16, 61695, 49, 3840, 2, 1), (Instr.addi, 65280, 32768, 0, 1, 1), (Instr.shli, 65280, 33792, 224, 1, 1), (Instr.tstbi, 65280, 35072, 224, 1, 1), (Instr.poprc, 65280, 45824, 255, 1, 0), (Instr.pushrc, 65280, 46080, 255, 0, 1)] ∧ (w39.atWord pe7 w38.2.1 w38.2.2.1 0 ∧ (w39.arch pe7).ds.length ≤ 16 ∧ (w39.wordOf pe7).land w38.2.2.2.1 ≠ 0)) ∧
    /- 2 -/ (w40 ∈ [(Instr.nop, 61695, 1, 3840, 0, 0), (Instr.dup, 61695, 2, 3840, 1, 2), (Instr.drop, 61695, 3, 3840, 1, 0), (Instr.swap, 61695, 4, 3840, 2, 2), (Instr.over, 61695, 5, 3840, 2, 3), (Instr.rot, 61695, 6, 3840, 3, 3), (Instr.nip, 61695, 7, 3840, 2, 1), (Instr.depth, 61695, 65, 3840, 0, 1), (Instr.pushs, 61440, 4096, 0, 0, 1), (Instr.ext, 61440, 8192, 0, 1, 1), (Instr.addOp, 61695, 16, 3840, 2, 1), (Instr.sub, 61695, 17, 3840, 2, 1), (Instr.mul, 61695, 24, 3840, 2, 1), (Instr.sar, 61695, 23, 3840, 2, 1), (Instr.lts, 61695, 31, 3840, 2, 1), (Instr.notOp, 61695, 32, 3840, 1, 1), (Instr.clz, 61695, 34, 3840, 1, 1), (Instr.crc16, 61695, 49, 3840, 2, 1), (Instr.addi, 65280, 32768, 0, 1, 1), (Instr.shli, 65280, 33792, 224, 1, 1), (Instr.tstbi, 65280, 35072, 224, 1, 1), (Instr.poprc, 65280, 45824, 255, 1, 0), (Instr.pushrc, 65280, 46080, 255, 0, 1)] ∧ (w41.atWord pe7 w40.2.1 w40.2.2.1 0 ∧ (w41.arch pe7).ds.length ≤ 16 ∧ (w41.wordOf pe7).land w40.2.2.2.1 = 0 ∧ (w41.arch pe7).ds.length < w40.2.2.2.2.1)) ∧
    /- 3 -/ (w40 ∈ [(Instr.nop, 61695, 1, 3840, 0, 0), (Instr.dup, 61695, 2, 3840, 1, 2), (Instr.drop, 61695, 3, 3840, 1, 0), (Instr.swap, 61695, 4, 3840, 2, 2), (Instr.over, 61695, 5, 3840, 2, 3), (Instr.rot, 61695, 6, 3840, 3, 3), (Instr.nip, 61695, 7, 3840, 2, 1), (Instr.depth, 61695, 65, 3840, 0, 1), (Instr.pushs, 61440, 4096, 0, 0, 1), (Instr.ext, 61440, 8192, 0, 1, 1), (Instr.addOp, 61695, 16, 3840, 2, 1), (Instr.sub, 61695, 17, 3840, 2, 1), (Instr.mul, 61695, 24, 3840, 2, 1), (Instr.sar, 61695, 23, 3840, 2, 1), (Instr.lts, 61695, 31, 3840, 2, 1), (Instr.notOp, 61695, 32, 3840, 1, 1), (Instr.clz, 61695, 34, 3840, 1, 1), (Instr.crc16, 61695, 49, 3840, 2, 1), (Instr.addi, 65280, 32768, 0, 1, 1), (Instr.shli, 65280, 33792, 224, 1, 1), (Instr.tstbi, 65280, 35072, 224, 1, 1), (Instr.poprc, 65280, 45824, 255, 1, 0), (Instr.pushrc, 65280, 46080, 255, 0, 1)] ∧ (w42.atWord pe7 w40.2.1 w40.2.2.1 0 ∧ (w42.arch pe7).ds.length ≤ 16 ∧ (w42.wordOf pe7).land w40.2.2.2.1 = 0 ∧ w40.2.2.2.2.1 ≤ (w42.arch pe7).ds.length ∧ 16 + w40.2.2.2.2.1 < (w42.arch pe7).ds.length + w40.2.2.2.2.2)) :=
  ⟨⟨by repeat (first | exact List.mem_cons_self | apply List.mem_cons_of_mem),
    by unfold State.atWord; decide +kernel⟩,
   ⟨by repeat (first | exact List.mem_cons_self | apply List.mem_cons_of_mem),
    by unfold State.atWord; decide +kernel⟩,
   ⟨by repeat (first | exact List.mem_cons_self | apply List.mem_cons_of_mem),
    by unfold State.atWord; decide +kernel⟩⟩

/-- Clauses of `Obligations.InstructionChecks`, each with all its hypotheses met together. -/
theorem witness_CodePointAndReturnStackFaults :
    /- 1 -/ (((w43.arch pe7).ds.length ≤ 16 ∧ pe7.wf = true ∧ w43.issues pe7 = true ∧ w43.wordOf pe7 < 65536) ∧ (w43.wordOf pe7 = 0 ∨ 57344 ≤ w43.wordOf pe7 ∨ w43.wordOf pe7 / 4096 = 12 ∨ w43.wordOf pe7 / 1024 = 19 ∨ w43.wordOf pe7 / 1024 = 23 ∨ w43.wordOf pe7 / 1024 = 27 ∨ w43.wordOf pe7 / 1024 = 31 ∨ 35328 ≤ w43.wordOf pe7 ∧ w43.wordOf pe7 < 36864 ∨ 37632 ≤ w43.wordOf pe7 ∧ w43.wordOf pe7 < 40960 ∨ 43264 ≤ w43.wordOf pe7 ∧ w43.wordOf pe7 < 45056 ∨ 47360 ≤ w43.wordOf pe7 ∧ w43.wordOf pe7 < 53248 ∨ 55552 ≤ w43.wordOf pe7 ∧ w43.wordOf pe7 < 57344 ∨ ∃ (k : ℕ), pe7 = Who.ce k ∧ 40960 ≤ w43.wordOf pe7 ∧ w43.wordOf pe7 < 45056)) ∧
    /- 2 -/ ((w44.arch pe7).ds.length ≤ 16 ∧ pe7 = Who.pe 15 15 7 ∧ pe7.wf = true ∧ w44.issues pe7 = true ∧ 40960 ≤ w44.wordOf pe7 ∧ w44.wordOf pe7 < 43264 ∧ helperDefined (w44.wordOf pe7 / 256 % 16) (w44.wordOf pe7 % 256) = false) ∧
    /- 3 -/ ((Instr.reti, 53248) ∈ [(Instr.reti, 53248), (Instr.ei, 53504), (Instr.di, 53760), (Instr.clean, 54016), (Instr.inval, 54272), (Instr.sync, 54528), (Instr.setseg, 54784), (Instr.getseg, 55040), (Instr.wait, 55296)] ∧ ((w45.arch pe7).ds.length ≤ 16 ∧ pe7 = Who.pe 15 15 7 ∧ w45.atWord pe7 65280 (Instr.reti, 53248).2 0)) ∧
    /- 4.1 -/ ((w46.arch pe7).ds.length ≤ 16 ∧ (w46.arch pe7).rs = [] ∧ w46.atWord pe7 61695 56 3840) :=
  ⟨⟨by decide +kernel,
    Or.inl (by decide +kernel)⟩,
   by decide +kernel,
   ⟨by repeat (first | exact List.mem_cons_self | apply List.mem_cons_of_mem),
    by unfold State.atWord; decide +kernel⟩,
   by unfold State.atWord; decide +kernel⟩

/-- Clauses of `Obligations.InstructionChecks`, each with all its hypotheses met together. -/
theorem witness_CodePointAndReturnStackFaults_2 :
    /- 4.2 -/ ((w47.arch pe7).ds.length ≤ 16 ∧ (w47.arch pe7).rs = [] ∧ (w47.arch pe7).ds.length < 16 ∧ w47.atWord pe7 65280 46592 255) ∧
    /- 4.3 -/ ((w48.arch pe7).ds.length ≤ 16 ∧ (w48.arch pe7).rs = [] ∧ (w48.arch pe7).ds.length < 16 ∧ w48.atWord pe7 65280 46848 255) ∧
    /- 5.1 -/ ((w49.arch pe7).ds.length ≤ 16 ∧ 8 ≤ (w49.arch pe7).rs.length ∧ w49.atWord pe7 64512 15360 0) ∧
    /- 5.2 -/ ((w50.arch pe7).ds.length ≤ 16 ∧ 8 ≤ (w50.arch pe7).rs.length ∧ (w50.arch pe7).ds ≠ [] ∧ w50.atWord pe7 61695 58 3840) :=
  ⟨by unfold State.atWord; decide +kernel,
   by unfold State.atWord; decide +kernel,
   by unfold State.atWord; decide +kernel,
   by unfold State.atWord; decide +kernel⟩

/-- Clauses of `Obligations.InstructionChecks`, each with all its hypotheses met together. -/
theorem witness_CodePointAndReturnStackFaults_3 :
    /- 5.3 -/ ((w51.arch pe7).ds.length ≤ 16 ∧ 8 ≤ (w51.arch pe7).rs.length ∧ (w51.arch pe7).ds ≠ [] ∧ w51.atWord pe7 65280 46336 255) :=
  by unfold State.atWord; decide +kernel

end Sys2Proof.Tests.B

namespace Sys2Proof.Tests.C
open Sys2Proof Sys2Proof.Machine Sys2Proof.Tests

def ctx1 (s : State) (x : Ctx) : State := s.setCtx 8191 { x with cluster := 15, engine := 15, thread := 7 }
def cl1 : CacheLine := { line := 0x2000000040/64, data := List.replicate 64 0xAB }
def ce1 (w : Nat) (a : Arch) (f : Ce → Ce) : State := let s := ceSt [w] a; s.setCe 3 (f (s.ce 3))
def n0 : Nat := 0x1000000 + 3*0x400000
def ceA (w : Nat) := ce1 w {ds := [0x40,9]} fun c => {c with segBase := 0x20, cache := [cl1]}
def ceB (w : Nat) := ce1 w {ds := [0x40,9]} fun c => {c with segBase := 0x20}
def ceW := ce1 0x6400 {ds := [0x1FFFF00,9]} fun c => {c with wb := List.replicate 16 {}}
def ceF (x : Word) := ce1 0x40 {ds := [x,9]} fun c => {c with wb := [{addr := 0x1C00200, data := [1,2]}]}
def lv (w : Nat) (a : Arch) := (ceSt [] a).setCe 3 { level := true, intr := a, resume := 77 }|>.stBytes (n0+2*a.pc) (leBytes w 2)
def clD : CacheLine := { cl1 with dirty := true }
def ceC (w : Nat) (l : CacheLine) := ce1 w {ds := [0x41]} fun c => {c with segBase := 0x20, cache := [l]}
def irqSt (f : Ce → Ce) : State := let s := ((ceSt [1] {ds := [1], pc := 5}).wr (Reg.evcPending 3 9) 0x80000000).wr (Reg.evcEnable 3 9) 0x80000000; s.setCe 3 (f (s.ce 3))
def ceWb := ce1 0x6400 {ds := [0x1FFFF00,9]} fun c => {c with syncing := true, wb := [{addr := 0x1C00200, data := [1,2]}]}
def ceM := ce1 0x6400 {ds := [0x40,9], pend := [{slot := 1, arrived := false, tag := 1, delayDone := true}]} fun c => {c with misses := [{addr := 0x2000000042, width := 2, tag := 1}]}
def ld (p : PendingLoad) := peSt [1] {ds := [1,2], pend := [p]}
def w1 : State := peSt [1] {ds := [5,6], rs := [2], rc := 7, pc := 9}
def w2 : State := ctx1 (peSt [1] {ds := [5,6], rs := [2], rc := 7, pc := 9}) { st := .exception }
def w3 : State := ceSt [1] {ds := [5,6], rs := [2], rc := 7, pc := 9}
def w4 : State := (ceSt [1] {ds := [5,6], rs := [2], rc := 7, pc := 9}).setCe 3 { level := true }
def w5 : State := peSt [0x4003] {ds := [0x10]}
def w6 : Arch := {ds := [0x10]}
def w7 : List Word := []
def w8 : State := peSt [0x57FE] {ds := [0x400,9]}
def w9 : Arch := {ds := [0x400,9]}
def w10 : State := peSt [0x680C] {ds := [0x10000,9]}
def w11 : Arch := {ds := [0x10000,9]}
def w12 : State := peSt [0x7BFC] {ds := [0x12345678]}
def w13 : Arch := {ds := [0x12345678]}
def w14 : State := peSt [0x40] {ds := [0x10000,9]}
def w16 : State := ceSt [0x4804] {ds := [0x1C00200,9]}
def w17 : Arch := {ds := [0x1C00200,9]}
def w18 : Ce := (ceSt [0x4804] {ds := [0x1C00200,9]}).ce 3
def w19 : List Word := [9]
def w20 : State := ce1 0x4402 {ds := [0x40,9]} fun c => {c with segBase := 0x20, cache := [cl1]}
def w21 : Arch := {ds := [0x40,9]}
def w22 : Ce := (ce1 0x4402 {ds := [0x40,9]} fun c => {c with segBase := 0x20, cache := [cl1]}).ce 3
def w23 : State := ceSt [0x57FE] {ds := [0x40,9]}
def w24 : Ce := (ceSt [0x57FE] {ds := [0x40,9]}).ce 3
def w25 : State := ceSt [0x6406] {ds := [0x1FFFFF8,9]}
def w26 : Arch := {ds := [0x1FFFFF8,9]}
def w27 : Ce := (ceSt [0x6406] {ds := [0x1FFFFF8,9]}).ce 3
def w28 : State := ceSt [0x77FE] {ds := [0x40,9]}
def w29 : Ce := (ceSt [0x77FE] {ds := [0x40,9]}).ce 3
def w30 : State := ceSt [0x4401] {ds := [0x1000040,9]}
def w31 : Arch := {ds := [0x1000040,9]}
def w32 : Ce := (ceSt [0x4401] {ds := [0x1000040,9]}).ce 3
def w33 : State := ceSt [0x6400] {ds := [0x40,9]}
def w34 : Ce := (ceSt [0x6400] {ds := [0x40,9]}).ce 3
def w35 : State := ceSt [0x4400] {ds := [0x2000000,9]}
def w36 : Arch := {ds := [0x2000000,9]}
def w37 : Ce := (ceSt [0x4400] {ds := [0x2000000,9]}).ce 3
def w38 : State := ceSt [0x4804] {ds := [0x20000,9]}
def w39 : Arch := {ds := [0x20000,9]}
def w40 : Ce := (ceSt [0x4804] {ds := [0x20000,9]}).ce 3
def w41 : State := ceSt [0x6804] {ds := [0x20000,9]}
def w42 : Ce := (ceSt [0x6804] {ds := [0x20000,9]}).ce 3
def w43 : Arch := {ds := [0x1FFFF00,9]}
def w44 : State := ceSt [0xD000] {ds := [1]}
def w45 : Arch := {ds := [1]}
def w46 : Ce := (ceSt [0xD000] {ds := [1]}).ce 3
def w47 : State := lv 0xD000 {ds := [1], pc := 8}
def w48 : Arch := {ds := [1], pc := 8}
def w49 : Ce := (lv 0xD000 {ds := [1], pc := 8}).ce 3
def w50 : State := lv 0xD100 {ds := [1], pc := 8}
def w51 : Ce := (lv 0xD100 {ds := [1], pc := 8}).ce 3
def w52 : State := lv 0xD200 {ds := [1], pc := 8}
def w53 : Ce := (lv 0xD200 {ds := [1], pc := 8}).ce 3
def w54 : State := lv 0xD300 {ds := [1], pc := 8}
def w55 : Ce := (lv 0xD300 {ds := [1], pc := 8}).ce 3
def w56 : Arch := {ds := [0x41]}
def w57 : State := ceW.stBytes n0 (leBytes 0xD500 2)
def w58 : State := irqSt fun c => {c with ie := true}
def w59 : Ce := (irqSt fun c => {c with ie := true}).ce 3
def w60 : WbEntry := {addr := 0x1C00200, data := [1,2]}
def w61 : List WbEntry := []
def w62 : CacheMiss := {addr := 0x2000000042, width := 2, tag := 1}
def w63 : List CacheMiss := []
def w64 : State := ld {slot := 1, value := 5, arrived := false}
def w65 : Arch := {ds := [1,2], pend := [{slot := 1, value := 5, arrived := false}]}
def w66 : PendingLoad := {slot := 1, value := 5, arrived := false}
def w67 : List PendingLoad := []
def w68 : Arch := {ds := [1], pc := 65535}
def w69 : Arch := {ds := [1], pc := 65535, pend := [{slot := 0, value := 9}]}
def w70 : PendingLoad := {slot := 0, value := 9}
def w72 : Arch := {ds := [1], pc := 5, rc := 1, rep := some (4,true)}
def w73 : Arch := {ds := [1], pc := 5, rc := 2, rep := some (4,true)}

/-- Clauses of `Obligations.CompletionAndFaultEntry`, each with all its hypotheses met together. -/
theorem witness_FaultEntry :
    /- 1 -/ ((w1.thr 15 15 7).ctx = some 8191 ∧ (w1.ctx 8191).st ≠ CtxState.exception) ∧
    /- 2 -/ ((w2.thr 15 15 7).ctx = some 8191 ∧ (w2.ctx 8191).st = CtxState.exception ∧ (w2.ctx 8191).cluster = 15 ∧ (w2.ctx 8191).engine = 15 ∧ (w2.ctx 8191).thread = 7) ∧
    /- 3 -/ ((w3.ce 3).level = false) ∧
    /- 4 -/ ((w4.ce 3).level = true) :=
  ⟨by decide +kernel,
   by decide +kernel,
   by decide +kernel,
   by decide +kernel⟩

/-- Clauses of `Obligations.PacketEngineMemory`, each with all its hypotheses met together. -/
theorem witness_PacketEngineMemory :
    /- 1.1 -/ (pe7 = Who.pe 15 15 7 ∧ w5.arch pe7 = w6 ∧ w6.ds.length ≤ 16 ∧ (w5.thr 15 15 7).ctx = some 8191 ∧ w5.wordOf pe7 / 1024 % 4 = 0 ∧ w6.ds = 16 :: w7 ∧ 19 = ((16 : Word).toNat + w5.wordOf pe7 % 1024) % 2 ^ 32 ∧ w5.atWord pe7 61440 16384 0) ∧
    /- 1.2 -/ (pe7 = Who.pe 15 15 7 ∧ w8.arch pe7 = w9 ∧ w9.ds.length ≤ 16 ∧ (w8.thr 15 15 7).ctx = some 8191 ∧ w8.wordOf pe7 / 1024 % 4 = 1 ∧ w9.ds.length < 16 ∧ 1022 = w8.wordOf pe7 % 1024 ∧ w8.atWord pe7 61440 20480 0) ∧
    /- 1.3 -/ (pe7 = Who.pe 15 15 7 ∧ w10.arch pe7 = w11 ∧ w11.ds.length ≤ 16 ∧ (w10.thr 15 15 7).ctx = some 8191 ∧ w10.wordOf pe7 / 1024 % 4 = 2 ∧ w11.ds = 65536 :: 9 :: w7 ∧ 65548 = ((65536 : Word).toNat + w10.wordOf pe7 % 1024) % 2 ^ 32 ∧ w10.atWord pe7 61440 24576 0) ∧
    /- 1.4 -/ (pe7 = Who.pe 15 15 7 ∧ w12.arch pe7 = w13 ∧ w13.ds.length ≤ 16 ∧ (w12.thr 15 15 7).ctx = some 8191 ∧ w12.wordOf pe7 / 1024 % 4 = 2 ∧ w13.ds = 305419896 :: w7 ∧ 1020 = w12.wordOf pe7 % 1024 ∧ w12.atWord pe7 61440 28672 0) :=
  ⟨by unfold State.atWord; decide +kernel,
   by unfold State.atWord; decide +kernel,
   by unfold State.atWord; decide +kernel,
   by unfold State.atWord; decide +kernel⟩

/-- Clauses of `Obligations.PacketEngineMemory`, each with all its hypotheses met together. -/
theorem witness_PacketEngineMemory_2 :
    /- 2 -/ (pe7 = Who.pe 15 15 7 ∧ w14.arch pe7 = w11 ∧ w11.ds = 65536 :: 9 :: w7 ∧ w11.ds.length ≤ 16 ∧ w14.atWord pe7 61695 64 3840) ∧
    /- 3 -/ (peCheck 184 (2 ^ 2) true = none) :=
  ⟨by unfold State.atWord; decide +kernel,
   by decide +kernel⟩

/-- Clauses of `Obligations.ControlEngineMemory`, each with all its hypotheses met together. -/
theorem witness_ControlEngineMemory :
    /- 1.1.1 -/ (w16.ce 3 = w18 ∧ w16.arch (Who.ce 3) = w17 ∧ w17.ds.length ≤ 16 ∧ w16.wordOf (Who.ce 3) / 1024 % 4 = 2 ∧ (n0 + 516) % 2 ^ 2 = 0 ∧ w17.ds = 29360640 :: w19 ∧ n0 + 516 = w18.seg * 2 ^ 32 + ((29360640 : Word).toNat + w16.wordOf (Who.ce 3) % 1024) % 2 ^ 32 ∧ w16.atWord (Who.ce 3) 61440 16384 0 ∧ (16777216 ≤ n0 + 516 ∧ n0 + 516 < 33554432)) ∧
    /- 1.1.2 -/ (w20.ce 3 = w22 ∧ w20.arch (Who.ce 3) = w21 ∧ w21.ds.length ≤ 16 ∧ w20.wordOf (Who.ce 3) / 1024 % 4 = 1 ∧ w21.ds = 64 :: w19 ∧ 137438953538 = w22.seg * 2 ^ 32 + ((64 : Word).toNat + w20.wordOf (Who.ce 3) % 1024) % 2 ^ 32 ∧ w20.atWord (Who.ce 3) 61440 16384 0 ∧ w22.lineOf 137438953538 = some cl1) ∧
    /- 1.2 -/ (w23.ce 3 = w24 ∧ w23.arch (Who.ce 3) = w21 ∧ w21.ds.length ≤ 16 ∧ w23.wordOf (Who.ce 3) / 1024 % 4 = 1 ∧ (n0 + 1022) % 2 ^ 1 = 0 ∧ n0 + 1022 = 16777216 + 3 * 4194304 + w23.wordOf (Who.ce 3) % 1024 ∧ w21.ds.length < 16 ∧ w23.atWord (Who.ce 3) 61440 20480 0) ∧
    /- 1.3 -/ (w25.ce 3 = w27 ∧ w25.arch (Who.ce 3) = w26 ∧ w26.ds.length ≤ 16 ∧ w25.wordOf (Who.ce 3) / 1024 % 4 = 1 ∧ w26.ds = 33554424 :: 9 :: w7 ∧ 33554430 = w27.seg * 2 ^ 32 + ((33554424 : Word).toNat + w25.wordOf (Who.ce 3) % 1024) % 2 ^ 32 ∧ w25.atWord (Who.ce 3) 61440 24576 0 ∧ w27.wb.length < 16) :=
  ⟨by unfold State.atWord; decide +kernel,
   by unfold State.atWord; decide +kernel,
   by unfold State.atWord; decide +kernel,
   by unfold State.atWord; decide +kernel⟩

/-- Clauses of `Obligations.ControlEngineMemory`, each with all its hypotheses met together. -/
theorem witness_ControlEngineMemory_2 :
    /- 1.4 -/ (w28.ce 3 = w29 ∧ w28.arch (Who.ce 3) = w21 ∧ w21.ds.length ≤ 16 ∧ w28.wordOf (Who.ce 3) / 1024 % 4 = 1 ∧ (n0 + 1022) % 2 ^ 1 = 0 ∧ w21.ds = 64 :: w19 ∧ n0 + 1022 = 16777216 + 3 * 4194304 + w28.wordOf (Who.ce 3) % 1024 ∧ w29.wb.length < 16 ∧ w28.atWord (Who.ce 3) 61440 28672 0) ∧
    /- 2.1 -/ ((ceA 25602).arch (Who.ce 3) = w21 ∧ w21.ds.length ≤ 16 ∧ (ceA 25602).wordOf (Who.ce 3) / 1024 % 4 = 1 ∧ 137438953538 = ((ceA 25602).ce 3).seg * 2 ^ 32 + ((64 : Word).toNat + (ceA 25602).wordOf (Who.ce 3) % 1024) % 2 ^ 32 ∧ w21.ds = 64 :: 9 :: w7 ∧ (ceA 25602).atWord (Who.ce 3) 61440 24576 0 ∧ ((ceA 25602).ce 3).lineOf 137438953538 = some cl1) ∧
    /- 2.2 -/ ((ceB 25602).arch (Who.ce 3) = w21 ∧ w21.ds.length ≤ 16 ∧ (ceB 25602).wordOf (Who.ce 3) / 1024 % 4 = 1 ∧ 137438953538 = ((ceB 25602).ce 3).seg * 2 ^ 32 + ((64 : Word).toNat + (ceB 25602).wordOf (Who.ce 3) % 1024) % 2 ^ 32 ∧ w21.ds = 64 :: 9 :: w7 ∧ (ceB 25602).atWord (Who.ce 3) 61440 24576 0 ∧ ((ceB 25602).ce 3).lineOf 137438953538 = none) ∧
    /- 2.3 -/ ((ceB 17410).arch (Who.ce 3) = w21 ∧ w21.ds.length ≤ 16 ∧ (ceB 17410).wordOf (Who.ce 3) / 1024 % 4 = 1 ∧ 137438953538 = ((ceB 17410).ce 3).seg * 2 ^ 32 + ((64 : Word).toNat + (ceB 17410).wordOf (Who.ce 3) % 1024) % 2 ^ 32 ∧ w21.ds = 64 :: w19 ∧ (ceB 17410).atWord (Who.ce 3) 61440 16384 0 ∧ ((ceB 17410).ce 3).lineOf 137438953538 = none) :=
  ⟨by unfold State.atWord; decide +kernel,
   by unfold State.atWord; decide +kernel,
   by unfold State.atWord; decide +kernel,
   by unfold State.atWord; decide +kernel⟩

/-- Clauses of `Obligations.ControlEngineAccesses`, each with all its hypotheses met together. -/
theorem witness_ControlEngineAccesses :
    /- 1.1 -/ (w30.ce 3 = w32 ∧ w30.arch (Who.ce 3) = w31 ∧ w31.ds.length ≤ 16 ∧ w30.wordOf (Who.ce 3) / 1024 % 4 = 1 ∧ 16777281 = w32.seg * 2 ^ 32 + ((16777280 : Word).toNat + w30.wordOf (Who.ce 3) % 1024) % 2 ^ 32 ∧ w31.ds = 16777280 :: 9 :: w7 ∧ w30.atWord (Who.ce 3) 61440 16384 0) ∧
    /- 1.2 -/ (w33.ce 3 = w34 ∧ w33.arch (Who.ce 3) = w21 ∧ w21.ds.length ≤ 16 ∧ w33.wordOf (Who.ce 3) / 1024 % 4 = 1 ∧ 64 = w34.seg * 2 ^ 32 + ((64 : Word).toNat + w33.wordOf (Who.ce 3) % 1024) % 2 ^ 32 ∧ w21.ds = 64 :: 9 :: w7 ∧ w33.atWord (Who.ce 3) 61440 24576 0) ∧
    /- 1.3 -/ (w35.ce 3 = w37 ∧ w35.arch (Who.ce 3) = w36 ∧ w36.ds.length ≤ 16 ∧ w35.wordOf (Who.ce 3) / 1024 % 4 = 1 ∧ 33554432 = w37.seg * 2 ^ 32 + ((33554432 : Word).toNat + w35.wordOf (Who.ce 3) % 1024) % 2 ^ 32 ∧ w36.ds = 33554432 :: 9 :: w7 ∧ w35.atWord (Who.ce 3) 61440 16384 0) ∧
    /- 1.4 -/ (w38.ce 3 = w40 ∧ w38.arch (Who.ce 3) = w39 ∧ w39.ds.length ≤ 16 ∧ w38.wordOf (Who.ce 3) / 1024 % 4 = 2 ∧ 131076 = w40.seg * 2 ^ 32 + ((131072 : Word).toNat + w38.wordOf (Who.ce 3) % 1024) % 2 ^ 32 ∧ w39.ds = 131072 :: 9 :: w7 ∧ w38.atWord (Who.ce 3) 61440 16384 0) :=
  ⟨by unfold State.atWord; decide +kernel,
   by unfold State.atWord; decide +kernel,
   by unfold State.atWord; decide +kernel,
   by unfold State.atWord; decide +kernel⟩

/-- Clauses of `Obligations.ControlEngineAccesses`, each with all its hypotheses met together. -/
theorem witness_ControlEngineAccesses_2 :
    /- 1.5 -/ (w41.ce 3 = w42 ∧ w41.arch (Who.ce 3) = w39 ∧ w39.ds.length ≤ 16 ∧ w41.wordOf (Who.ce 3) / 1024 % 4 = 2 ∧ 131076 = w42.seg * 2 ^ 32 + ((131072 : Word).toNat + w41.wordOf (Who.ce 3) % 1024) % 2 ^ 32 ∧ w39.ds = 131072 :: 9 :: w7 ∧ w41.atWord (Who.ce 3) 61440 24576 0) ∧
    /- 1.6 -/ (ceW.arch (Who.ce 3) = w43 ∧ w43.ds.length ≤ 16 ∧ ceW.wordOf (Who.ce 3) / 1024 % 4 = 1 ∧ 33554176 = (ceW.ce 3).seg * 2 ^ 32 + ((33554176 : Word).toNat + ceW.wordOf (Who.ce 3) % 1024) % 2 ^ 32 ∧ w43.ds = 33554176 :: 9 :: w7 ∧ ceW.atWord (Who.ce 3) 61440 24576 0 ∧ 16 ≤ (ceW.ce 3).wb.length) ∧
    /- 2 -/ ((ceF 29360640).arch (Who.ce 3) = w17 ∧ w17.ds.length ≤ 16 ∧ (ceF 29360640).wordOf (Who.ce 3) / 1024 % 4 = 0 ∧ 29360640 = ((ceF 29360640).ce 3).seg * 2 ^ 32 + (29360640 : Word).toNat ∧ w17.ds = 29360640 :: 9 :: w7 ∧ (ceF 29360640).atWord (Who.ce 3) 61695 64 3840) :=
  ⟨by unfold State.atWord; decide +kernel,
   by unfold State.atWord; decide +kernel,
   by unfold State.atWord; decide +kernel⟩

/-- Clauses of `Obligations.ControlExtension`, each with all its hypotheses met together. -/
theorem witness_ControlExtension :
    /- 1 -/ (w44.ce 3 = w46 ∧ w44.arch (Who.ce 3) = w45 ∧ w45.ds.length ≤ 16 ∧ w44.atWord (Who.ce 3) 65280 53248 255 ∧ w46.level = false) ∧
    /- 2 -/ (w47.ce 3 = w49 ∧ w47.arch (Who.ce 3) = w48 ∧ w48.ds.length ≤ 16 ∧ w47.atWord (Who.ce 3) 65535 53248 0 ∧ w49.level = true) ∧
    /- 3 -/ (w50.ce 3 = w51 ∧ w50.arch (Who.ce 3) = w48 ∧ w48.ds.length ≤ 16 ∧ w50.atWord (Who.ce 3) 65280 53504 255) ∧
    /- 4 -/ (w52.ce 3 = w53 ∧ w52.arch (Who.ce 3) = w48 ∧ w48.ds.length ≤ 16 ∧ w52.atWord (Who.ce 3) 65280 53760 255) :=
  ⟨by unfold State.atWord; decide +kernel,
   by unfold State.atWord; decide +kernel,
   by unfold State.atWord; decide +kernel,
   by unfold State.atWord; decide +kernel⟩

/-- Clauses of `Obligations.ControlExtension`, each with all its hypotheses met together. -/
theorem witness_ControlExtension_2 :
    /- 5.1 -/ (w54.ce 3 = w55 ∧ w54.arch (Who.ce 3) = w48 ∧ w48.ds.length ≤ 16 ∧ w48.ds = 1 :: w7 ∧ w55.wb.length < 16 ∧ w54.atWord (Who.ce 3) 65280 54016 255 ∧ ¬inDram (w55.seg * 2 ^ 32 + (1 : Word).toNat) = true) ∧
    /- 5.2 -/ ((ceC 54016 clD).arch (Who.ce 3) = w56 ∧ w56.ds.length ≤ 16 ∧ w56.ds = 65 :: w7 ∧ ((ceC 54016 clD).ce 3).wb.length < 16 ∧ (ceC 54016 clD).atWord (Who.ce 3) 65280 54016 255 ∧ inDram (((ceC 54016 clD).ce 3).seg * 2 ^ 32 + (65 : Word).toNat) = true ∧ List.find? (fun (m : CacheLine) => m.line == (((ceC 54016 clD).ce 3).seg * 2 ^ 32 + (65 : Word).toNat) / 64 && m.dirty) ((ceC 54016 clD).ce 3).cache = some clD) ∧
    /- 6 -/ ((ceC 54272 clD).arch (Who.ce 3) = w56 ∧ w56.ds.length ≤ 16 ∧ w56.ds = 65 :: w7 ∧ (ceC 54272 clD).atWord (Who.ce 3) 65280 54272 255) ∧
    /- 7 -/ (w57.ce 3 = ceW.ce 3 ∧ w57.arch (Who.ce 3) = w43 ∧ w43.ds.length ≤ 16 ∧ w57.atWord (Who.ce 3) 65280 54528 255) :=
  ⟨by unfold State.atWord; decide +kernel,
   by unfold State.atWord; decide +kernel,
   by unfold State.atWord; decide +kernel,
   by unfold State.atWord; decide +kernel⟩

/-- Clauses of `Obligations.ControlExtension`, each with all its hypotheses met together. -/
theorem witness_ControlExtension_3 :
    /- 8 -/ ((ceC 55039 clD).arch (Who.ce 3) = w56 ∧ w56.ds.length ≤ 16 ∧ (ceC 55039 clD).atWord (Who.ce 3) 65280 54784 0) ∧
    /- 9 -/ ((ceC 55040 clD).arch (Who.ce 3) = w56 ∧ w56.ds.length ≤ 16 ∧ w56.ds.length < 16 ∧ (ceC 55040 clD).atWord (Who.ce 3) 65280 55040 255) ∧
    /- 10 -/ ((ceC 55296 clD).arch (Who.ce 3) = w56 ∧ w56.ds.length ≤ 16 ∧ (ceC 55296 clD).atWord (Who.ce 3) 65280 55296 255) :=
  ⟨by unfold State.atWord; decide +kernel,
   by unfold State.atWord; decide +kernel,
   by unfold State.atWord; decide +kernel⟩

/-- Clauses of `Obligations.ControlEngineEvents`, each with all its hypotheses met together. -/
theorem witness_ControlEngineEvents :
    /- 1 -/ ((w58.ce 3 = w59 ∧ w58.boot.core = CoreState.running ∧ w58.boot.stop = StopKind.none ∧ w58.bit (Reg.flmCeCtrl 0 3) 31 = true ∧ w59.halted = false ∧ w59.level = false ∧ w58.irqLine 3 = true) ∧ (∀ (p : ℕ), w59.base.rep ≠ some (p, true))) ∧
    /- 2 -/ ((ceWb.ce 3).wb = w60 :: w61) ∧
    /- 3 -/ ((ceM.ce 3).misses = w62 :: w63 ∧ w62.store = none ∧ (ceM.ce 3).lineOf w62.addr = none ∧ (List.filter (fun (l : CacheLine) => l.line % 256 == w62.addr / 64 % 256) (ceM.ce 3).cache).length < 4 ∧ (ceM.ce 3).wb.length ≤ 16) :=
  ⟨⟨by decide +kernel,
    fun p => by show (none : Option (Nat × Bool)) ≠ _; exact nofun⟩,
   by decide +kernel,
   by decide +kernel⟩

/-- Clauses of `Obligations.LoadDelivery`, each with all its hypotheses met together. -/
theorem witness_LoadDelivery :
    /-  -/ (pe7.wf = true ∧ w64.arch pe7 = w65 ∧ w65.pend = w66 :: w67 ∧ w66.arrived = false ∧ w66.tag = 0) :=
  by decide +kernel

/-- Clauses of `Obligations.CompletionAndFaultEntry`, each with all its hypotheses met together. -/
theorem witness_InstructionCompletion :
    /- 1 -/ (w68.pend = [] ∧ w68.rep = none) ∧
    /- 2 -/ (w68.pend = [] ∧ w68.rep = none) ∧
    /- 3 -/ (w69.pend = [w70] ∧ w69.rep = none ∧ w70.delayDone = false) ∧
    /- 4 -/ (w68.pend = [] ∧ w68.rep = none) :=
  ⟨by decide +kernel,
   by decide +kernel,
   by decide +kernel,
   by decide +kernel⟩

/-- Clauses of `Obligations.CompletionAndFaultEntry`, each with all its hypotheses met together. -/
theorem witness_InstructionCompletion_2 :
    /- 5 -/ (w72.pend = [] ∧ w72.rep = some (4, true) ∧ w72.rc = 1) ∧
    /- 6 -/ (w73.pend = [] ∧ w73.rep = some (4, true) ∧ w73.rc ≠ 1) :=
  ⟨by decide +kernel,
   by decide +kernel⟩

end Sys2Proof.Tests.C
end

