-- ==== Sys2Proof/Tests/WitnessModule.lean ====
section
/-! SUPPORT. Witnesses: for every clause of a statement, a concrete state and operands that meet its hypotheses together. -/
set_option Elab.async false
set_option linter.all false

namespace Sys2Proof.Tests.G
open Sys2Proof Sys2Proof.Machine Sys2Proof.Tests

def n2 (v k : Nat) := leBytes v k
def hdr : List Byte := n2 0x58504C47 4 ++ n2 2 2 ++ n2 5 2 ++ n2 0x700 4 ++ n2 9 4 ++ n2 0x0B1E1280 4 ++ n2 0x0102 2 ++ n2 3 1 ++ n2 0 1 ++ n2 0 40
def pay1 : List Byte := n2 0x2000000000 8 ++ n2 8 4 ++ n2 0 1 ++ n2 1 1 ++ n2 0 2 ++ List.replicate 240 0
def pay2 : List Byte := List.replicate 32 0
def pay5 : List Byte := List.replicate 24 0
def pay6 : List Byte := n2 1 2
def payE : List Byte := n2 1 1
def pad (b : List Byte) : List Byte := b ++ List.replicate (256 - b.length) 0
def sec (k i o : Nat) (p : List Byte) : List Byte := n2 k 2 ++ n2 i 2 ++ n2 o 4 ++ n2 p.length 4 ++ n2 (crc32cStd p) 4
def table : List Byte := sec 1 0 0x100 pay1 ++ sec 2 0 0x200 pay2 ++ sec 5 0 0x300 pay5 ++ sec 6 0xFFFF 0x400 pay6 ++ sec 0xE 0 0x500 payE
def pk : List Byte := [234, 74, 108, 99, 226, 156, 82, 10, 190, 245, 80, 123, 19, 46, 197, 249, 149, 71, 118, 174, 190, 190, 123, 146, 66, 30, 234, 105, 20, 70, 210, 44]
def sg : List Byte := [200, 138, 142, 227, 145, 38, 7, 134, 224, 231, 204, 226, 99, 98, 208, 204, 206, 9, 183, 1, 140, 218, 58, 156, 61, 168, 216, 86, 71, 183, 212, 174, 41, 88, 170, 175, 17, 237, 17, 97, 114, 38, 234, 178, 184, 242, 127, 196, 24, 44, 128, 143, 103, 191, 224, 26, 198, 169, 65, 96, 29, 241, 189, 9]
def sigb : List Byte := n2 0x47495347 4 ++ n2 0 1 ++ n2 1 1 ++ n2 0 2 ++ pk ++ sg ++ List.replicate 24 0
def image : List Byte := pad (hdr ++ table) ++ pad pay1 ++ pad pay2 ++ pad pay5 ++ pad pay6 ++ pad payE ++ (List.replicate 128 0 ++ sigb)
def im (s : State) : State := { s with flash.bytes := ⟨(image.zipIdx.filter fun e => e.1 ≠ 0).map fun e => (e.2, e.1)⟩, fuses.programmed := 1, fuses.keyHash := ⟨[(0, 115115690999285728789394789926526155690485131888432483235396469268611078699145)]⟩ }
def held (f : State → State) : State := f State.reset
def off (f : State → State) : State := f { State.reset with supply.on := false, boot.core := .off }
def bo (o : List Nat) (f : State → State := id) : State := f { up with boot.order := o }
def bs (f : State → State := id) : State := f { (up.setFld Reg.bootStatus 31 28 2) with boot.sectionsDone := true }
def memd (s : State) : State := im { s with mem := ((({} : Mem).set 0x2000000000 7).set 0x2200000000 8).set 0x1000000 9 }
def rv (f : State → State) : State := bs fun s => f ({ s.setBit Reg.bootReval 30 true with boot.revalNext := 1, flow.base := 0x2000000000, mem := Mem.putBytes {} 0x2000000040 ([0x80, 25] ++ List.replicate 62 3)})
def w1 : State := off fun s => {s with aon.alive := false}
def w2 : State := off fun s => s.setRetFlag retNote true
def w3 : State := held fun s => {s with boot.bootsel := true, aon.timekeeper := 7*2^48*1000000000+2^48*5}
def w4 : State := im (bo [0])
def w5 : State := bo [1,0]
def w6 : State := bo [1]
def w7 : State := (im (bo [])).setFld Reg.bootStatus 31 28 1
def w8 : State := {im (bo []) with boot.calibrated := List.range 19, boot.calFails := SMap.set {} 19 3}.setFld Reg.bootStatus 31 28 3
def w9 : State := (im (bo [])).setFld Reg.bootStatus 31 28 4
def w10 : List ℕ := [0,393215]
def w11 : State := bs fun s => (s.setRetFlag retCapture true)
def w12 : State := bs fun s => {s with boot.trainFails := ({} : SMap Nat).set 3 2}
def w13 : State := bs fun s => {s with boot.calFails := ({} : SMap Nat).set 19 2}
def w14 : State := bs fun s => (s.setFld Reg.bootStatus 27 26 2)
def w15 : State := bs fun s => memd {(s.setFld Reg.bootStatus 27 26 1) with boot.srExited := true}
def w16 : State := rv fun s => {s with mem := s.mem.set 0x2000000041 24}
def w17 : State := rv fun s => {s with boot.revalNext := s.recordCount}
def w18 : State := bs fun s => {im s with boot.regionsCleared := true}

/-! The image of `w4`: its bytes, the signature over them, and that every check of R127 passes. -/

/-- Bytes read in two stretches. -/
theorem getBytes_add (m : SMap Byte) (a i j : Nat) : getBytes m a (i + j) = getBytes m a i ++ getBytes m (a + i) j := by
  simp [getBytes, List.range_add, Nat.add_assoc, Function.comp_def]

set_option maxRecDepth 100000 in
theorem image_0 : w4.imgBytes 0 0 256 = pad (hdr ++ table) := by decide +kernel

set_option maxRecDepth 100000 in
theorem image_1 : w4.imgBytes 0 0x100 256 = pad pay1 := by decide +kernel

set_option maxRecDepth 100000 in
theorem image_2 : w4.imgBytes 0 0x200 256 = pad pay2 := by decide +kernel

set_option maxRecDepth 100000 in
theorem image_3 : w4.imgBytes 0 0x300 256 = pad pay5 := by decide +kernel

set_option maxRecDepth 100000 in
theorem image_4 : w4.imgBytes 0 0x400 256 = pad pay6 := by decide +kernel

set_option maxRecDepth 100000 in
theorem image_5 : w4.imgBytes 0 0x500 384 = pad payE ++ List.replicate 128 0 := by decide +kernel

set_option maxRecDepth 100000 in
theorem image_pk : w4.imgBytes 0 (w4.sigAt 0 + 8) 32 = pk := by decide +kernel

set_option maxRecDepth 100000 in
theorem image_sg : w4.imgBytes 0 (w4.sigAt 0 + 0x28) 64 = sg := by decide +kernel

set_option maxRecDepth 100000 in
theorem image_at : w4.sigAt 0 = 0x100 + (0x100 + (0x100 + (0x100 + (0x100 + (0x180))))) ∧ w4.imgNat 0 (w4.sigAt 0) 4 = 0x47495347 := by decide +kernel

set_option maxRecDepth 100000 in
theorem image_all : w4.imgBytes 0 0 (w4.sigAt 0) =
    pad (hdr ++ table) ++ (pad pay1 ++ (pad pay2 ++ (pad pay5 ++ (pad pay6 ++ (pad payE ++ List.replicate 128 0))))) := by
  rw [image_at.1, ← image_0, ← image_1, ← image_2, ← image_3, ← image_4, ← image_5]
  simp only [State.imgBytes, getBytes_add]

set_option maxRecDepth 100000 in
theorem image_signed : ed25519Verify pk (pad (hdr ++ table) ++ (pad pay1 ++ (pad pay2 ++ (pad pay5 ++ (pad pay6 ++ (pad payE ++ List.replicate 128 0)))))) sg = true := by
  decide +kernel

set_option maxRecDepth 100000 in
theorem image_sigOk : w4.sigOk 0 = true := by
  show (w4.imgNat 0 (w4.sigAt 0) 4 == 0x47495347 && ed25519Verify (w4.imgBytes 0 (w4.sigAt 0 + 8) 32) (w4.imgBytes 0 0 (w4.sigAt 0)) (w4.imgBytes 0 (w4.sigAt 0 + 0x28) 64)) = true
  rw [image_pk, image_sg, image_all, image_signed, image_at.2]; rfl

set_option maxRecDepth 100000 in
theorem image_keyOk : w4.keyOk 0 = true := by decide +kernel

set_option maxRecDepth 100000 in
theorem image_crcs : ((w4.sections 0).any fun x => crc32cStd (w4.payload 0 x) != x.crc) = false := by decide +kernel

set_option maxRecDepth 100000 in
theorem image_payloads : (w4.sections 0).any (w4.payloadBad 0) = false := by decide +kernel

set_option maxRecDepth 100000 in
theorem image_reserved : w4.reservedBad 0 = false := by decide +kernel

set_option maxRecDepth 100000 in
theorem image_tables : w4.tableBad 0 = false ∧ w4.kindsBad 0 = false ∧ w4.missing 0 = false := by decide +kernel

set_option maxRecDepth 100000 in
theorem image_head : w4.imgMagic 0 = true ∧ w4.imgNat 0 4 2 = 2 ∧ w4.imgNat 0 0x10 4 = 0x0B1E1280 ∧ w4.imgNat 0 0x14 2 = 0x102 ∧ w4.imgLength 0 = 0x700 ∧
    (64 < w4.imgSvn 0 || w4.imgSvn 0 < w4.fuses.svn) = false := by decide +kernel

set_option maxRecDepth 100000 in
theorem image_valid : w4.validate 0 true = 0 := by
  simp only [State.validate, image_head, image_tables, image_reserved, image_crcs, image_payloads, image_keyOk, image_sigOk]
  rfl

set_option maxRecDepth 100000 in
set_option maxHeartbeats 4000000 in
/-- Clauses of `Obligations.StartOfModule`, each with all its hypotheses met together. -/
theorem witness_StartOfModule :
    /- 1 -/ (w1.supply.on = false ∧ w1.supply.relayOpen = false ∧ w1.aon.alive = false) ∧
    /- 2 -/ (w2.supply.on = false ∧ w2.supply.relayOpen = false ∧ w2.aon.alive = true ∧ w2.retFlag retNote = true) ∧
    /- 3 -/ (w3.supply.on = true ∧ w3.boot.core = CoreState.held ∧ w3.boot.holdRestart = false ∧ w3.boot.stop = StopKind.none) ∧
    /- 4.1 -/ (w4.boot.core = CoreState.running ∧ w4.boot.stop = StopKind.none ∧ w4.fld Reg.bootStatus 31 28 = 0 ∧ w4.boot.order.head? = some 0 ∧ w4.validate 0 true = 0) :=
  ⟨by decide +kernel,
   by decide +kernel,
   by decide +kernel,
   by refine ⟨?_, ?_, ?_, ?_, image_valid⟩ <;> decide +kernel⟩

set_option maxRecDepth 100000 in
set_option maxHeartbeats 4000000 in
/-- Clauses of `Obligations.StartOfModule`, each with all its hypotheses met together. -/
theorem witness_StartOfModule_2 :
    /- 4.2 -/ (w5.boot.core = CoreState.running ∧ w5.boot.stop = StopKind.none ∧ w5.fld Reg.bootStatus 31 28 = 0 ∧ w5.boot.order.head? = some 1 ∧ w5.validate 1 true ≠ 0 ∧ w5.boot.order.tail ≠ []) ∧
    /- 4.3 -/ (w6.boot.core = CoreState.running ∧ w6.boot.stop = StopKind.none ∧ w6.fld Reg.bootStatus 31 28 = 0 ∧ w6.boot.order.head? = some 1 ∧ w6.validate 1 true ≠ 0 ∧ w6.boot.order.tail = []) ∧
    /- 5 -/ (w7.boot.core = CoreState.running ∧ w7.boot.stop = StopKind.none ∧ w7.fld Reg.bootStatus 31 28 = 1 ∧ w7.boot.sectionsDone = false) ∧
    /- 6 -/ (w8.boot.core = CoreState.running ∧ w8.boot.stop = StopKind.none ∧ w8.fld Reg.bootStatus 31 28 = 3 ∧ (∀ g < 20, w8.calEnded g = true)) :=
  ⟨by decide +kernel,
   by decide +kernel,
   by decide +kernel,
   by decide +kernel⟩

/-- Clauses of `Obligations.StartOfModule`, each with all its hypotheses met together. -/
theorem witness_StartOfModule_3 :
    /- 7 -/ (w9.boot.core = CoreState.running ∧ w9.boot.stop = StopKind.none ∧ w9.fld Reg.bootStatus 31 28 = 4 ∧ w10.Nodup ∧ (∀ c ∈ w10, c < 393216)) :=
  by decide +kernel

/-- Clauses of `Obligations.BootSteps`, each with all its hypotheses met together. -/
theorem witness_BootSteps :
    /- 1 -/ (w11.boot.core = CoreState.running ∧ w11.boot.stop = StopKind.none ∧ w11.imageRuns = true ∧ w11.boot.sectionsDone = true ∧ w11.retFlag retCapture = true ∧ w11.retFlag retFlushed = false ∧ w11.retFlag retNote = false) ∧
    /- 2.1 -/ (bs.boot.core = CoreState.running ∧ bs.boot.stop = StopKind.none ∧ bs.imageRuns = true ∧ bs.fld Reg.bootStatus 27 26 = 0 ∧ 3 ∉ bs.boot.trained) ∧
    /- 2.2 -/ (w12.boot.core = CoreState.running ∧ w12.boot.stop = StopKind.none ∧ w12.imageRuns = true ∧ w12.fld Reg.bootStatus 27 26 = 0 ∧ 3 ∉ w12.boot.trained ∧ w12.boot.trainFails.get 3 = 2) ∧
    /- 3.1 -/ (bs.boot.core = CoreState.running ∧ bs.boot.stop = StopKind.none ∧ bs.imageRuns = true ∧ 19 ∉ bs.boot.calibrated ∧ bs.boot.calFails.get 19 < 3) :=
  ⟨by decide +kernel,
   by decide +kernel,
   by decide +kernel,
   by decide +kernel⟩

/-- Clauses of `Obligations.BootSteps`, each with all its hypotheses met together. -/
theorem witness_BootSteps_2 :
    /- 3.2 -/ (w13.boot.core = CoreState.running ∧ w13.boot.stop = StopKind.none ∧ w13.imageRuns = true ∧ 19 ∉ w13.boot.calibrated ∧ w13.boot.calFails.get 19 < 3 ∧ w13.boot.calFails.get 19 = 2) ∧
    /- 4 -/ (w14.boot.core = CoreState.running ∧ w14.boot.stop = StopKind.none ∧ w14.imageRuns = true ∧ w14.boot.sectionsDone = true ∧ w14.fld Reg.bootStatus 27 26 ≠ 0 ∧ w14.boot.srExited = false) ∧
    /- 5 -/ (w15.boot.core = CoreState.running ∧ w15.boot.stop = StopKind.none ∧ w15.imageRuns = true ∧ w15.boot.sectionsDone = true ∧ w15.boot.regionsCleared = false ∧ (w15.fld Reg.bootStatus 27 26 = 1 ∨ w15.fld Reg.bootStatus 27 26 = 2) ∧ w15.boot.srExited = true ∧ 137438953472 ≤ w15.flow.base ∧ w15.flow.base + w15.regionSize ≤ 274877906944) ∧
    /- 6.1 -/ ((rv id).boot.core = CoreState.running ∧ (rv id).boot.stop = StopKind.none ∧ (rv id).imageRuns = true ∧ (rv id).boot.revalNext < (rv id).recordCount ∧ (rv id).bit Reg.bootReval 30 = true) :=
  ⟨by decide +kernel,
   by decide +kernel,
   by decide +kernel,
   by decide +kernel⟩

/-- Clauses of `Obligations.BootSteps`, each with all its hypotheses met together. -/
theorem witness_BootSteps_3 :
    /- 6.2 -/ ((rv id).boot.core = CoreState.running ∧ (rv id).boot.stop = StopKind.none ∧ (rv id).imageRuns = true ∧ (rv id).boot.revalNext < (rv id).recordCount ∧ (rv id).bit Reg.bootReval 30 = true ∧ recValid ((rv id).ldBytes ((rv id).flow.base + (rv id).boot.revalNext * (rv id).recSize) (rv id).recSize) = true ∧ (rv id).keyMax < recKeyLen ((rv id).ldBytes ((rv id).flow.base + (rv id).boot.revalNext * (rv id).recSize) (rv id).recSize)) ∧
    /- 6.3 -/ (w16.boot.core = CoreState.running ∧ w16.boot.stop = StopKind.none ∧ w16.imageRuns = true ∧ w16.boot.revalNext < w16.recordCount ∧ w16.bit Reg.bootReval 30 = true ∧ recValid (w16.ldBytes (w16.flow.base + w16.boot.revalNext * w16.recSize) w16.recSize) = true ∧ recKeyLen (w16.ldBytes (w16.flow.base + w16.boot.revalNext * w16.recSize) w16.recSize) ≤ w16.keyMax) ∧
    /- 7 -/ (w17.boot.core = CoreState.running ∧ w17.boot.stop = StopKind.none ∧ w17.imageRuns = true ∧ w17.bit Reg.bootReval 30 = true ∧ w17.boot.revalNext = w17.recordCount ∧ w17.dmc.chans = { }) ∧
    /- 8 -/ (w18.boot.core = CoreState.running ∧ w18.boot.stop = StopKind.none ∧ w18.imageRuns = true ∧ w18.boot.regionsCleared = true ∧ w18.boot.blobsDone = false) :=
  ⟨by decide +kernel,
   by decide +kernel,
   by decide +kernel,
   by decide +kernel⟩

end Sys2Proof.Tests.G

namespace Sys2Proof.Tests.H
open Sys2Proof Sys2Proof.Machine Sys2Proof.Tests

def conf (f : State → State) : State := f ((({ up with boot.confirmS := 30, boot.runNs := 30000000000 }).setFld Reg.bootStatus 31 28 3))
def os (f : State → State) : State := f up
def od (f : State → State) : State := f {up with boot.stop := .orderly, boot.cause := 7, supply.vrms := 6000}
def w1 : State := conf fun s => {(s.setBit Reg.bootSyswd 31 true) with boot.wdNs := 1000000}
def w2 : State := conf fun s => {((s.setBit Reg.bootSyswd 31 true).setFld Reg.bootSyswd 15 0 5) with boot.wdNs := 5000000}
def w3 : State := conf fun s => {s with boot.stop := .fault, boot.capturing := true}
def w4 : State := conf fun s => {s with boot.stop := .orderly}
def w5 : State := conf fun s => s.setFld Reg.bootSvn 15 8 7
def w6 : State := conf fun s => (s.setFld Reg.bootSvn 15 8 7)
def w7 : State := os fun s => {s with boot.stop := .fault}
def w8 : State := od fun s => {s with boot.core := .off}
def w9 : State := od fun s => {s with supply.vrms := 5999}
def w10 : State := os fun s => {s with boot.core := .off, supply.on := false}
def w11 : State := os fun s => {s with supply.relayOpen := true}
def w12 : State := os fun s => ({s with supply.relayOpen := true, boot.core := .off, supply.on := false}.setRetFlag retNote true)
def w13 : State := os fun s => {s with boot.lampTest := true}

/-- Clauses of `Obligations.FaultStopsAndRestarts`, each with all its hypotheses met together. -/
theorem witness_FaultStopsAndRestarts :
    /- 1 -/ ((conf id).boot.core = CoreState.running ∧ (conf id).boot.stop = StopKind.none ∧ (conf id).imageRuns = true ∧ (conf id).boot.confirmed = false ∧ (conf id).boot.confirmS ≠ 0 ∧ (conf id).boot.confirmS * 1000000000 ≤ (conf id).boot.runNs) ∧
    /- 2 -/ (w1.boot.core = CoreState.running ∧ w1.boot.stop = StopKind.none ∧ w1.bit Reg.bootSyswd 31 = true ∧ max 1 (w1.fld Reg.bootSyswd 15 0) * 1000000 ≤ w1.boot.wdNs ∧ w1.boot.wdFloor ≤ w1.boot.wdNs) ∧
    /- 3 -/ (w2.boot.core = CoreState.running ∧ w2.boot.stop ≠ StopKind.fault ∧ w2.bit Reg.bootSyswd 31 = true ∧ w2.boot.wdHalf = false ∧ max 1 (w2.fld Reg.bootSyswd 15 0) / 2 * 1000000 ≤ w2.boot.wdNs) ∧
    /- 4 -/ (w3.boot.core = CoreState.running ∧ w3.boot.stop = StopKind.fault ∧ w3.dmc.chans = { }) :=
  ⟨by decide +kernel,
   by decide +kernel,
   by decide +kernel,
   by decide +kernel⟩

/-- Clauses of `Obligations.FaultStopsAndRestarts`, each with all its hypotheses met together. -/
theorem witness_FaultStopsAndRestarts_2 :
    /- 5.1 -/ ((conf id).boot.core = CoreState.running ∧ (conf id).reaches 0 Reg.bootRestart ∧ Wbits 2781020163 31 16 = 42435 ∧ (conf id).boot.stop = StopKind.none) ∧
    /- 5.2 -/ (w4.boot.core = CoreState.running ∧ w4.reaches 0 Reg.bootRestart ∧ Wbits 2781020162 31 16 = 42435 ∧ w4.boot.stop ≠ StopKind.none) ∧
    /- 6 -/ (w5.boot.core = CoreState.running ∧ w5.reaches 0 Reg.bootSvnRaise ∧ Wbits 2781020162 31 16 = 42435) ∧
    /- 7 -/ (w5.boot.core = CoreState.running ∧ w5.reaches 0 Reg.bootKeyRevoke ∧ Wbits 2781020175 31 16 = 42435) :=
  ⟨by unfold State.reaches; decide +kernel,
   by unfold State.reaches; decide +kernel,
   by unfold State.reaches; decide +kernel,
   by unfold State.reaches; decide +kernel⟩

/-- Clauses of `Obligations.FaultStopsAndRestarts`, each with all its hypotheses met together. -/
theorem witness_FaultStopsAndRestarts_3 :
    /- 8 -/ (w6.boot.core = CoreState.running ∧ w6.reaches 0 Reg.bootConfirm ∧ (1 : Word).getLsbD 0 = true ∧ w6.imageRuns = true) ∧
    /- 9 -/ (w6.boot.core = CoreState.running ∧ w6.reaches 0 Reg.bootSyswdKick ∧ (1 : Word).getLsbD 0 = true) :=
  ⟨by unfold State.reaches; decide +kernel,
   by unfold State.reaches; decide +kernel⟩

/-- Clauses of `Obligations.OrderlyStopsAndPowerFail`, each with all its hypotheses met together. -/
theorem witness_OrderlyStopsAndPowerFail :
    /- 1.1 -/ ((os id).supply.on = true ∧ (os id).boot.core = CoreState.running ∧ (os id).boot.stop = StopKind.none) ∧
    /- 1.2 -/ (w7.supply.on = true ∧ w7.boot.core = CoreState.running ∧ w7.boot.stop = StopKind.fault) ∧
    /- 2.1 -/ ((os id).supply.on = true ∧ (os id).boot.core = CoreState.running ∧ (os id).boot.stop = StopKind.none) ∧
    /- 2.2 -/ (w7.supply.on = true ∧ w7.boot.core = CoreState.running ∧ w7.boot.stop = StopKind.fault) :=
  ⟨by decide +kernel,
   by decide +kernel,
   by decide +kernel,
   by decide +kernel⟩

/-- Clauses of `Obligations.OrderlyStopsAndPowerFail`, each with all its hypotheses met together. -/
theorem witness_OrderlyStopsAndPowerFail_2 :
    /- 3 -/ ((od id).boot.stop = StopKind.orderly ∧ (od id).boot.core = CoreState.running ∧ (od id).supply.relayOpen = false ∧ 6000 ≤ (od id).supply.vrms) ∧
    /- 4 -/ (w8.supply.on = true ∧ w8.boot.stop = StopKind.orderly ∧ w8.boot.core = CoreState.off ∧ w8.boot.holdRestart = false ∧ (w8.boot.cause = 7 ∨ w8.boot.cause = 8)) ∧
    /- 5 -/ (w9.supply.on = true ∧ (w9.supply.relayOpen = true ∨ (if w9.supply.charged = false then 0 else if w9.supply.dcW ≤ 5000 then 20 else 10) < 0 ∨ 100 ≤ w9.supply.over900Ms ∨ w9.boot.stop = StopKind.orderly ∧ w9.boot.core = CoreState.running ∧ w9.supply.vrms < 6000)) ∧
    /- 6 -/ (w10.supply.on = false ∧ w10.aon.alive = true) :=
  ⟨by decide +kernel,
   by decide +kernel,
   by decide +kernel,
   by decide +kernel⟩

/-- Clauses of `Obligations.OrderlyStopsAndPowerFail`, each with all its hypotheses met together. -/
theorem witness_OrderlyStopsAndPowerFail_3 :
    /- 7.1 -/ (w11.supply.relayOpen = true ∧ w11.supply.on = true) ∧
    /- 7.2 -/ (w12.supply.relayOpen = true ∧ w12.supply.on = false ∧ w12.aon.alive = true ∧ w12.retFlag retNote = true) ∧
    /- 8 -/ (w13.boot.lampTest = true) :=
  ⟨by decide +kernel,
   by decide +kernel,
   by decide +kernel⟩

end Sys2Proof.Tests.H

namespace Sys2Proof.Tests.I
open Sys2Proof Sys2Proof.Machine Sys2Proof.Tests

def sp (f : State → State) : State := f up
def rdg : SupplyReading := { vrms := 23000, freq := 500, inputW := 7000, dcW := 6000, tj := 800, inlet := 250, cageMa := List.replicate 20 1000, fanRpm := [5000,5000,5000,5000,5000,5000] }
def cg (n : Nat) (c : Cage) (f : State → State := id) : State := f {up with supply.cages := up.supply.cages.set n c}
def run (s : State) : State := s.setFld Reg.bootStatus 31 28 3
def cl (f : State → State) : State := f up
def w1 : (ℕ → ℕ → Instr) × ℕ × ℕ × ℕ × ℕ × Bool := (Instr.sag, 8500, 20, 0, 288, true)
def w2 : State := sp fun s => {s.setBit Reg.ssvMainsStatus 29 true with supply.sagged := true}
def w3 : State := sp fun s => {s with supply.high := true}
def w4 : State := sp fun s => {s with supply.relayDue := some 500}
def w5 : State := sp fun s => s.setBit Reg.ssvMainsStatus 31 true
def w6 : State := sp fun s => {s with supply.today := 364}
def w7 : State := sp fun s => {s with supply.today := 364, supply.bins := SMap.set {} 364 9}
def w8 : State := cg 0 {}
def w9 : State := cg 19 {present := true, fuse := .on} run
def w10 : State := cg 19 {present := true, fuse := .latched, retries := 3, latched := true} fun s => run {s with boot.trained := [3,2,1,0]}
def w11 : State := cg 19 {present := true, fuse := .retrying} run
def w12 : State := cg 15 {present := true, fuse := .on} fun s => run {s with supply.overMs := 100}
def w13 : State := cg 15 {present := true, fuse := .off} fun s => run ((s.setBit Reg.ssvShed 15 true).setFld Reg.bootStatus 27 26 1)
def w14 : State := cl fun s => {s with supply.overMs := 100, supply.sinceStepMs := 100}
def w15 : State := cl fun s => {s with supply.underMs := 60000, supply.ovlStep := 1}
def w16 : State := cl fun s => {s with supply.thermStep := 1}
def w17 : State := cl fun s => {s.setBit (Reg.ssvFan 5) 31 true with supply.failed := [5]}
def w18 : State := cl fun s => {s with supply.bins := SMap.set {} 3 5759}
def w19 : State := cl fun s => s.setFld Reg.clkPllStatus 6 0 127
def w20 : State := cl fun s => s
def w21 : State := cl fun s => s.setBit Reg.clkMeasResult 30 true
def w22 : State := cl fun s => s.wr Reg.clkMeasResult 0xA0000123
def w23 : State := cl fun s => {s.wr Reg.clkMeasResult 0x60000123 with measDomain := 6}
def w24 : State := cl fun s => (s.wr Reg.clkPgGate 0x3)

/-- Clauses of `Obligations.SupplyConditions`, each with all its hypotheses met together. -/
theorem witness_SupplyConditions :
    /- 1 -/ ((sp id).supply.on = true ∧ (sp id).coreUp = true ∧ rdg.freq ≤ 1023 ∧ rdg.vrms ≤ 65535 ∧ rdg.inputW ≤ 65535 ∧ rdg.dcW ≤ 65535) ∧
    /- 2 -/ (w1 ∈ [(Instr.sag, 8500, 20, 0, 288, true), (Instr.interruption, 2000, 5, 1, 289, false)] ∧ ((sp id).supply.on = true ∧ (sp id).coreUp = true ∧ 8499 < w1.2.1 ∧ w1.2.2.1 ≤ 20 ∧ ((if w1.2.2.2.2.2 = true then (sp id).supply.sagged else (sp id).supply.interrupted) = false))) ∧
    /- 3 -/ (w2.supply.on = true ∧ w2.coreUp = true ∧ (w2.supply.sagged = true ∨ w2.supply.interrupted = true)) ∧
    /- 4.1 -/ ((sp id).supply.on = true ∧ (sp id).coreUp = true ∧ (sp id).supply.high = false) :=
  ⟨by decide +kernel,
   ⟨by repeat (first | exact List.mem_cons_self | apply List.mem_cons_of_mem),
    by decide +kernel⟩,
   by decide +kernel,
   by decide +kernel⟩

/-- Clauses of `Obligations.SupplyConditions`, each with all its hypotheses met together. -/
theorem witness_SupplyConditions_2 :
    /- 4.2 -/ (w3.supply.on = true ∧ w3.coreUp = true ∧ w3.supply.high = true) ∧
    /- 4.3 -/ ((sp id).supply.on = true ∧ (sp id).coreUp = true) ∧
    /- 5 -/ (w4.supply.on = true ∧ w4.coreUp = true ∧ w4.supply.relayDue = some 500) ∧
    /- 6 -/ ((sp id).supply.on = true ∧ (sp id).coreUp = true) :=
  ⟨by decide +kernel,
   by decide +kernel,
   by decide +kernel,
   by decide +kernel⟩

/-- Clauses of `Obligations.SupplyConditions`, each with all its hypotheses met together. -/
theorem witness_SupplyConditions_3 :
    /- 7 -/ ((sp id).supply.on = true ∧ (sp id).coreUp = true ∧ (sp id).supply.peOpen = false) ∧
    /- 8 -/ ((sp id).supply.on = true ∧ (sp id).coreUp = true ∧ (sp id).supply.lnSwap = false) ∧
    /- 9 -/ (w5.supply.on = true ∧ w5.coreUp = true ∧ (31 =
    match EarthCondition.protectiveEarthOpen with
    | EarthCondition.protectiveEarthOpen => 31
    | EarthCondition.lineNeutralSwapped => 30)) ∧
    /- 10 -/ (w6.supply.on = true ∧ w6.coreUp = true) :=
  ⟨by decide +kernel,
   by decide +kernel,
   by decide +kernel,
   by decide +kernel⟩

/-- Clauses of `Obligations.SupplyConditions`, each with all its hypotheses met together. -/
theorem witness_SupplyConditions_4 :
    /- 11 -/ (w7.supply.on = true ∧ w7.coreUp = true) :=
  by decide +kernel

/-- Clauses of `Obligations.CageSupply`, each with all its hypotheses met together. -/
theorem witness_CageSupply :
    /- 1 -/ (w8.supply.on = true ∧ w8.coreUp = true ∧ (w8.cage 19).present = false) ∧
    /- 2 -/ (w9.supply.on = true ∧ w9.coreUp = true ∧ (w9.cage 19).present = true) ∧
    /- 3 -/ (w10.supply.on = true ∧ w10.coreUp = true ∧ w10.reaches 0 Reg.ssvFuseRearm ∧ (w10.cage 19).latched = true) :=
  ⟨by decide +kernel,
   by decide +kernel,
   by unfold State.reaches; decide +kernel⟩

/-- Clauses of `Obligations.CageFuses`, each with all its hypotheses met together. -/
theorem witness_CageFuses :
    /- 1 -/ (w9.supply.on = true ∧ w9.coreUp = true ∧ (w9.cage 19).fuse = FuseState.on) ∧
    /- 2.1 -/ (w11.supply.on = true ∧ w11.coreUp = true ∧ (w11.cage 19).fuse = FuseState.retrying) :=
  ⟨by decide +kernel,
   by decide +kernel⟩

/-- Clauses of `Obligations.CageShedding`, each with all its hypotheses met together. -/
theorem witness_CageShedding :
    /- 1 -/ ((w12.supply.on = true ∧ w12.coreUp = true ∧ w12.supply.sagged = false ∧ w12.supply.interrupted = false ∧ (if w12.supply.shedding = true then 100 ≤ w12.supply.sinceStepMs else 100 ≤ w12.supply.overMs) ∧ (w12.cage 15).present = true ∧ w12.isShed 15 = false ∧ (w12.cage 15).latched = false) ∧ (∀ (k : ℕ), 15 < k → k < 16 → (w12.cage k).present = false ∨ w12.isShed k = true ∨ (w12.cage k).latched = true)) ∧
    /- 2 -/ (w13.supply.on = true ∧ w13.coreUp = true ∧ w13.reaches 0 Reg.ssvShedClr ∧ w13.isShed 15 = true) :=
  ⟨⟨by decide +kernel,
    fun k a b => absurd b (by omega)⟩,
   by unfold State.reaches; decide +kernel⟩

/-- Clauses of `Obligations.ClockStepsAndFans`, each with all its hypotheses met together. -/
theorem witness_ClockStepsAndFans :
    /- 1.1 -/ (w14.supply.on = true ∧ w14.coreUp = true ∧ w14.nextShed = none ∧ w14.supply.sagged = false ∧ w14.supply.interrupted = false ∧ 100 ≤ w14.supply.overMs ∧ 100 ≤ w14.supply.sinceStepMs ∧ w14.supply.ovlStep < 2) ∧
    /- 1.2 -/ (w15.supply.on = true ∧ w15.coreUp = true ∧ 0 < w15.supply.ovlStep ∧ 60000 ≤ w15.supply.underMs) ∧
    /- 1.3 -/ ((cl id).supply.on = true ∧ (cl id).coreUp = true ∧ ((cl id).inletDown < 451 ∨ 1050 ≤ 0) ∧ 10000 * (cl id).supply.hotSteps ≤ 0 ∧ (cl id).supply.thermStep < 2) ∧
    /- 1.4 -/ (w16.supply.on = true ∧ w16.coreUp = true ∧ -10 ≤ w16.inletUp ∧ 60000 * (w16.supply.coolSteps + 1) ≤ 60000 ∧ 0 < w16.supply.thermStep) :=
  ⟨by decide +kernel,
   by decide +kernel,
   by decide +kernel,
   by decide +kernel⟩

/-- Clauses of `Obligations.ClockStepsAndFans`, each with all its hypotheses met together. -/
theorem witness_ClockStepsAndFans_2 :
    /- 1.5 -/ (w16.supply.on = true ∧ w16.coreUp = true ∧ w16.reaches 0 Reg.ssvThrottle) ∧
    /- 1.6 -/ ((cl id).supply.on = true ∧ (cl id).coreUp = true ∧ 5 ∉ (cl id).supply.failed) ∧
    /- 1.7 -/ (w17.supply.on = true ∧ w17.coreUp = true ∧ 5 ∈ w17.supply.failed) ∧
    /- 1.8 -/ (w18.supply.on = true ∧ w18.coreUp = true ∧ w18.supply.bins.wf = true) :=
  ⟨by unfold State.reaches; decide +kernel,
   by decide +kernel,
   by decide +kernel,
   by decide +kernel⟩

/-- Clauses of `Obligations.ClockStepsAndFans`, each with all its hypotheses met together. -/
theorem witness_ClockStepsAndFans_3 :
    /- 2.1 -/ (w19.coreUp = true ∧ w19.bit Reg.clkPllStatus 6 = true) ∧
    /- 2.2 -/ (w20.coreUp = true) ∧
    /- 2.3.1 -/ (w21.coreUp = true ∧ w21.reaches 0 Reg.clkMeasCmd ∧ w21.bit Reg.clkMeasResult 30 = true) ∧
    /- 2.3.2 -/ (w22.coreUp = true ∧ w22.reaches 0 Reg.clkMeasCmd ∧ w22.bit Reg.clkMeasResult 30 = false ∧ Wbits 6 3 0 < 7) :=
  ⟨by decide +kernel,
   by decide +kernel,
   by unfold State.reaches; decide +kernel,
   by unfold State.reaches; decide +kernel⟩

/-- Clauses of `Obligations.ClockStepsAndFans`, each with all its hypotheses met together. -/
theorem witness_ClockStepsAndFans_4 :
    /- 2.3.3 -/ (w22.coreUp = true ∧ w22.reaches 0 Reg.clkMeasCmd ∧ w22.bit Reg.clkMeasResult 30 = false ∧ 7 ≤ Wbits 7 3 0) ∧
    /- 2.4 -/ (w23.coreUp = true ∧ w23.bit Reg.clkMeasResult 30 = true ∧ w23.measDomain < 7 ∧ 125000 = [1500000, [2200000, 1800000, 1400000].getD w23.flumeStep 1400000, 1400000, 1000000, 1200000, 1000000, 125000].getD w23.measDomain 0) ∧
    /- 2.5 -/ (w24.coreUp = true ∧ w24.reaches 0 Reg.clkPgGate) :=
  ⟨by unfold State.reaches; decide +kernel,
   by decide +kernel,
   by unfold State.reaches; decide +kernel⟩

end Sys2Proof.Tests.I
end

