-- ==== Sys2Proof/Tests/WitnessPorts.lean ====
section
/-! SUPPORT. Witnesses: for every clause of a statement, a concrete state and operands that meet its hypotheses together. -/
set_option Elab.async false
set_option linter.all false

namespace Sys2Proof.Tests.J
open Sys2Proof Sys2Proof.Machine Sys2Proof.Tests

def tm (f : State → State) : State := f { up with tb.sec := 5, tb.ns := 7, tb.frac := 2^40 }
def newT (s : State) : Nat := (((s.rd Reg.tbSetSecLo).toNat + s.fld Reg.tbSetSecHi 15 0 * 2 ^ 32) * 1000000000 + s.fld Reg.tbSetNs 29 0) * 2 ^ 48 +
        s.fld Reg.tbSetFrac 15 0 * 2 ^ 32
def ts (f : State → State) : State := f (((((tm id).wr Reg.tbSetSecLo 0xFFFFFFFF).wr Reg.tbSetSecHi 0x1FFFF).wr Reg.tbSetNs 999999999).wr Reg.tbSetFrac 0xFFFF)
def vld (s : State) : State := ((s.setBit Reg.tbStatus 28 true).setFld Reg.tbStatus 19 16 3).wr Reg.tbJump 1000
def pin (trim : Word) : State := ts fun s => (s.setFld Reg.tbStatus 23 22 0).wr Reg.tbPpsInTrim trim
def pinT (trim : Word) (ago : Nat) : Nat := ((((pin trim).total : Int) - (ago * 2 ^ 32 : Nat)) % (2 ^ 48 * 1000000000 * 2 ^ 48)).toNat
def pinU (trim : Word) (ago : Nat) : Nat := ((((pinT trim ago / 2 ^ 32 : Nat) : Int) - Config.ppsInDelay - signed trim.toNat 32) % (2 ^ 48 * 1000000000 * 65536)).toNat
def pout (m : Nat) (st : Nat) (ns : Nat) (trim : Word) : State := {((up.setFld Reg.tbPpsCtrl 1 0 m).setFld Reg.tbStatus 31 29 st).wr Reg.tbPpsOutTrim trim with tb.sec := 5, tb.ns := ns}
def w1 : State := tm fun s => {s.wr Reg.tbFreq 0xFFFFFFF0 with tb.frc := 2^96-1}
def w2 : State := ts fun s => (vld s).wr Reg.tbSetNs 1000000000
def w3 : State := ts fun s => ((vld s).wr Reg.tbAdjLo 1000#32)
def w4 : State := ts fun s => (((vld s).wr Reg.tbAdjHi 0xFFFF0000)).wr Reg.tbAdjLo (-65536000#32)
def w5 : State := ts fun s => (((vld s).wr Reg.tbAdjHi 0x8FFF0000)).wr Reg.tbAdjLo (-65536000#32)
def w6 : State := ts fun s => {s.setBit Reg.tbStatus 27 true with tb.slew := some {amount := 3, edges := 2, done := 2}}
def w7 : Slew := {amount := 3, edges := 2, done := 2}
def w8 : State := ts fun s => {s with tb.run := 1000000 * 2^48}
def w9 : State := ts fun s => {s.setFld Reg.tbStatus 31 29 2 with tb.lossDue := true, tb.good := 4}
def w10 : State := ts fun s => (s.setBit Reg.clkPllStatus 5 true).setBit Reg.tbStatus 26 false
def w11 : State := ts fun s => (s.setBit Reg.clkPllStatus 5 false).setBit Reg.tbStatus 26 true
def w12 : State := ts fun s => s.setFld Reg.tbCtrl 31 29 2
def w13 : InputSignal := { sinceEdgeMs := some 1100, amplitude := 0, ppm := 0, heldUs := 0 }
def w14 : State := ts fun s => (s.setFld Reg.tbStatus 21 20 0).setFld Reg.tbCtrl 31 29 2
def w15 : InputSignal := { sinceEdgeMs := none, amplitude := 299, ppm := -100, heldUs := 10 }
def w16 : State := ts fun s => s.setFld Reg.tbCtrl 31 29 1
def w17 : State := up.setFld Reg.tbPpsCtrl 3 2 1
def w18 : State := up.setFld Reg.glbAccErr 31 28 8
def w19 : State := up.setFld Reg.clkPgGate 19 0 0x80000
def w20 : State := {up with ctrs := SMap.set {} (Reg.qmSpill 15) (2^40+7)}
def w21 : State := (up.setBit (Reg.flmCeCtrl 0 3) 31 true).setCe 3 {base := {pc := 5}}
def w22 : State := up.setFld (Reg.flmPsAddr 15) 31 0 0x8000FFFF
def w23 : State := up.setFld (Reg.flmShmAddr 15) 31 0 0x8003FFFC

/-- Clauses of `Obligations.TimeMoves`, each with all its hypotheses met together. -/
theorem witness_TimeMoves :
    /- 1.1 -/ (((tm id).coreUp = true) ∧ ((tm id).tb.slew = none ∧ 2 ^ 48 = 2 ^ 48 + signed (BitVec.toNat ((tm id).rd Reg.tbFreq)) 32 * 16 ∨ ∃ (w : Slew), (tm id).tb.slew = some w ∧ w.done < w.edges ∧ 2 ^ 48 = 2 ^ 48 + signed (BitVec.toNat ((tm id).rd Reg.tbFreq)) 32 * 16 + (w.amount * ((↑w.done : ℤ) + 1) / (↑w.edges : ℤ) - w.amount * (↑w.done : ℤ) / (↑w.edges : ℤ)))) ∧
    /- 1.2 -/ (((tm id).coreUp = true) ∧ ((tm id).tb.slew = none ∧ 2 ^ 48 = 2 ^ 48 + signed (BitVec.toNat ((tm id).rd Reg.tbFreq)) 32 * 16 ∨ ∃ (w : Slew), (tm id).tb.slew = some w ∧ w.done < w.edges ∧ 2 ^ 48 = 2 ^ 48 + signed (BitVec.toNat ((tm id).rd Reg.tbFreq)) 32 * 16 + (w.amount * ((↑w.done : ℤ) + 1) / (↑w.edges : ℤ) - w.amount * (↑w.done : ℤ) / (↑w.edges : ℤ)))) ∧
    /- 1.3 -/ (((tm id).coreUp = true ∧ (↑(tm id).tb.frc : ℤ) + 2 ^ 48 < 2 ^ 96) ∧ ((tm id).tb.slew = none ∧ 2 ^ 48 = 2 ^ 48 + signed (BitVec.toNat ((tm id).rd Reg.tbFreq)) 32 * 16 ∨ ∃ (w : Slew), (tm id).tb.slew = some w ∧ w.done < w.edges ∧ 2 ^ 48 = 2 ^ 48 + signed (BitVec.toNat ((tm id).rd Reg.tbFreq)) 32 * 16 + (w.amount * ((↑w.done : ℤ) + 1) / (↑w.edges : ℤ) - w.amount * (↑w.done : ℤ) / (↑w.edges : ℤ)))) ∧
    /- 1.4 -/ (((tm id).coreUp = true) ∧ ((tm id).tb.slew = none ∧ 2 ^ 48 = 2 ^ 48 + signed (BitVec.toNat ((tm id).rd Reg.tbFreq)) 32 * 16 ∨ ∃ (w : Slew), (tm id).tb.slew = some w ∧ w.done < w.edges ∧ 2 ^ 48 = 2 ^ 48 + signed (BitVec.toNat ((tm id).rd Reg.tbFreq)) 32 * 16 + (w.amount * ((↑w.done : ℤ) + 1) / (↑w.edges : ℤ) - w.amount * (↑w.done : ℤ) / (↑w.edges : ℤ)))) :=
  ⟨⟨by decide +kernel,
    Or.inl (by decide +kernel)⟩,
   ⟨by decide +kernel,
    Or.inl (by decide +kernel)⟩,
   ⟨by decide +kernel,
    Or.inl (by decide +kernel)⟩,
   ⟨by decide +kernel,
    Or.inl (by decide +kernel)⟩⟩

/-- Clauses of `Obligations.TimeMoves`, each with all its hypotheses met together. -/
theorem witness_TimeMoves_2 :
    /- 1.5 -/ (((tm id).coreUp = true) ∧ ((tm id).tb.slew = none ∧ 2 ^ 48 = 2 ^ 48 + signed (BitVec.toNat ((tm id).rd Reg.tbFreq)) 32 * 16 ∨ ∃ (w : Slew), (tm id).tb.slew = some w ∧ w.done < w.edges ∧ 2 ^ 48 = 2 ^ 48 + signed (BitVec.toNat ((tm id).rd Reg.tbFreq)) 32 * 16 + (w.amount * ((↑w.done : ℤ) + 1) / (↑w.edges : ℤ) - w.amount * (↑w.done : ℤ) / (↑w.edges : ℤ)))) ∧
    /- 1.6 -/ ((w1.coreUp = true ∧ 2 ^ 96 ≤ (↑w1.tb.frc : ℤ) + (2 ^ 48 - 256)) ∧ (w1.tb.slew = none ∧ 2 ^ 48 - 256 = 2 ^ 48 + signed (BitVec.toNat (w1.rd Reg.tbFreq)) 32 * 16 ∨ ∃ (w : Slew), w1.tb.slew = some w ∧ w.done < w.edges ∧ 2 ^ 48 - 256 = 2 ^ 48 + signed (BitVec.toNat (w1.rd Reg.tbFreq)) 32 * 16 + (w.amount * ((↑w.done : ℤ) + 1) / (↑w.edges : ℤ) - w.amount * (↑w.done : ℤ) / (↑w.edges : ℤ)))) ∧
    /- 2.1 -/ ((ts id).coreUp = true ∧ (ts id).reaches 0 Reg.tbCmd ∧ Wbits 1 2 0 = 1 ∧ newT (ts id) = ((BitVec.toNat ((ts id).rd Reg.tbSetSecLo) + (ts id).fld Reg.tbSetSecHi 15 0 * 2 ^ 32) * 1000000000 + (ts id).fld Reg.tbSetNs 29 0) * 2 ^ 48 + (ts id).fld Reg.tbSetFrac 15 0 * 2 ^ 32 ∧ (ts id).fld Reg.tbSetNs 29 0 < 1000000000 ∧ ((ts id).bit Reg.tbStatus 28 = false ∨ ((↑(newT (ts id)) : ℤ) - (↑(ts id).total : ℤ)).natAbs ≤ max 1 ((ts id).fld Reg.tbJump 29 0) * 2 ^ 48 ∨ (ts id).fld Reg.tbStatus 19 16 ≤ 2)) ∧
    /- 2.2 -/ ((ts vld).coreUp = true ∧ (ts vld).reaches 0 Reg.tbCmd ∧ Wbits 1 2 0 = 1 ∧ newT (ts id) = ((BitVec.toNat ((ts vld).rd Reg.tbSetSecLo) + (ts vld).fld Reg.tbSetSecHi 15 0 * 2 ^ 32) * 1000000000 + (ts vld).fld Reg.tbSetNs 29 0) * 2 ^ 48 + (ts vld).fld Reg.tbSetFrac 15 0 * 2 ^ 32 ∧ (ts vld).fld Reg.tbSetNs 29 0 < 1000000000 ∧ (¬((ts vld).bit Reg.tbStatus 28 = false ∨ ((↑(newT (ts id)) : ℤ) - (↑(ts vld).total : ℤ)).natAbs ≤ max 1 ((ts vld).fld Reg.tbJump 29 0) * 2 ^ 48 ∨ (ts vld).fld Reg.tbStatus 19 16 ≤ 2))) :=
  ⟨⟨by decide +kernel,
    Or.inl (by decide +kernel)⟩,
   ⟨by decide +kernel,
    Or.inl (by decide +kernel)⟩,
   by unfold State.reaches; decide +kernel,
   by unfold State.reaches; decide +kernel⟩

/-- Clauses of `Obligations.TimeMoves`, each with all its hypotheses met together. -/
theorem witness_TimeMoves_3 :
    /- 2.3 -/ (w2.coreUp = true ∧ w2.reaches 0 Reg.tbCmd ∧ Wbits 1 2 0 = 1 ∧ newT (ts id) + 2 ^ 48 = ((BitVec.toNat (w2.rd Reg.tbSetSecLo) + w2.fld Reg.tbSetSecHi 15 0 * 2 ^ 32) * 1000000000 + w2.fld Reg.tbSetNs 29 0) * 2 ^ 48 + w2.fld Reg.tbSetFrac 15 0 * 2 ^ 32 ∧ 1000000000 ≤ w2.fld Reg.tbSetNs 29 0) ∧
    /- 3.1 -/ (w3.coreUp = true ∧ w3.reaches 0 Reg.tbCmd ∧ Wbits 2 2 0 = 2 ∧ (w3.bit Reg.tbStatus 28 = false ∨ (signed (BitVec.toNat (w3.rd Reg.tbAdjLo) + BitVec.toNat (w3.rd Reg.tbAdjHi) * 2 ^ 32) 64 * 2 ^ 32).natAbs ≤ max 1 (w3.fld Reg.tbJump 29 0) * 2 ^ 48 ∨ w3.fld Reg.tbStatus 19 16 ≤ 2)) ∧
    /- 3.2 -/ (w4.coreUp = true ∧ w4.reaches 0 Reg.tbCmd ∧ Wbits 2 2 0 = 2 ∧ (¬(w4.bit Reg.tbStatus 28 = false ∨ (signed (BitVec.toNat (w4.rd Reg.tbAdjLo) + BitVec.toNat (w4.rd Reg.tbAdjHi) * 2 ^ 32) 64 * 2 ^ 32).natAbs ≤ max 1 (w4.fld Reg.tbJump 29 0) * 2 ^ 48 ∨ w4.fld Reg.tbStatus 19 16 ≤ 2))) ∧
    /- 4 -/ (w5.coreUp = true ∧ w5.reaches 0 Reg.tbCmd ∧ Wbits 3 2 0 = 3) :=
  ⟨by unfold State.reaches; decide +kernel,
   by unfold State.reaches; decide +kernel,
   by unfold State.reaches; decide +kernel,
   by unfold State.reaches; decide +kernel⟩

/-- Clauses of `Obligations.TimeMoves`, each with all its hypotheses met together. -/
theorem witness_TimeMoves_4 :
    /- 5 -/ (w6.coreUp = true ∧ w6.tb.slew = some w7 ∧ w7.edges ≤ w7.done) ∧
    /- 6 -/ (w8.coreUp = true ∧ w8.tb.saved + 1000000 * 2 ^ 48 ≤ w8.tb.run) :=
  ⟨by decide +kernel,
   by decide +kernel⟩

/-- Clauses of `Obligations.TimeReferences`, each with all its hypotheses met together. -/
theorem witness_TimeReferences :
    /- 1 -/ (w9.coreUp = true ∧ w9.tb.lossDue = true) ∧
    /- 2 -/ (w10.coreUp = true ∧ w10.bit Reg.tbStatus 26 = false) ∧
    /- 3 -/ (w11.coreUp = true ∧ ((freqSourceOf (w11.rd Reg.tbCtrl)).1 = 0 ∨ (freqSourceOf (w11.rd Reg.tbCtrl)).1 = 1 ∧ w11.fld Reg.tbStatus 21 20 = 0)) ∧
    /- 4 -/ (w12.coreUp = true ∧ (true = true ↔ ∃ (ms : ℕ), w13.sinceEdgeMs = some ms ∧ ms ≤ 1100) ∧ (3 = if 39 < 40 then 3 else if true = true then 0 else if 39 ≤ 120 then 1 else 2)) :=
  ⟨by decide +kernel,
   by decide +kernel,
   by decide +kernel,
   by decide +kernel⟩

/-- Clauses of `Obligations.TimeReferences`, each with all its hypotheses met together. -/
theorem witness_TimeReferences_2 :
    /- 5 -/ (w14.coreUp = true ∧ (false = true ↔ 300 ≤ w15.amplitude ∧ -100 ≤ w15.ppm ∧ w15.ppm ≤ 100 ∧ 10 ≤ w15.heldUs) ∧ (2 = if 401 < 40 then 3 else if false = true then 0 else if 401 ≤ 400 then 1 else 2)) ∧
    /- 9 -/ ((ts id).coreUp = true ∧ (ts id).reaches 0 Reg.tbCtrl) ∧
    /- 10 -/ (w16.coreUp = true ∧ w16.reaches 0 Reg.tbServo ∧ w16.source = 1) ∧
    /- 11 -/ ((ts id).coreUp = true ∧ (ts id).reaches 6 Reg.tbSecLo) :=
  ⟨by decide +kernel,
   by unfold State.reaches; decide +kernel,
   by unfold State.reaches; decide +kernel,
   by unfold State.reaches; decide +kernel⟩

/-- Clauses of `Obligations.TimeReferences`, each with all its hypotheses met together. -/
theorem witness_TimeReferences_3 :
    /- 12 -/ ((ts id).coreUp = true ∧ (ts id).reaches 6 Reg.tbPpsSec) ∧
    /- 6 -/ (((pin 1).coreUp = true ∧ (∀ j ∈ (pin 1).tb.jumps, j.atRun + 0 * 2 ^ 32 ≤ (pin 1).tb.run) ∧ (↑(pinT 1 0) : ℤ) = ((↑(pin 1).total : ℤ) - (↑(0 * 2 ^ 32) : ℤ)) % (2 ^ 48 * 1000000000 * 2 ^ 48) ∧ (pin 1).fld Reg.tbStatus 23 22 = 0 ∧ (pin 1).source ≠ 2 ∧ (pin 1).source ≠ 3) ∧ (↑(pinU 1 0) : ℤ) = (((pinT 1 0 / 2 ^ 32 : ℕ) : ℤ) - (↑Config.ppsInDelay : ℤ) - signed (BitVec.toNat ((pin 1).rd Reg.tbPpsInTrim)) 32) % (2 ^ 48 * 1000000000 * 65536)) ∧
    /- 7 -/ ((pout 1 0 999999999 0).coreUp = true ∧ 5 = ((↑(pout 1 0 999999999 0).total : ℤ) - signed (BitVec.toNat ((pout 1 0 999999999 0).rd Reg.tbPpsOutTrim)) 32 * 2 ^ 32) / (1000000000 * 2 ^ 48) ∧ 6 = ((↑(tbEdge (pout 1 0 999999999 0)).total : ℤ) - signed (BitVec.toNat ((pout 1 0 999999999 0).rd Reg.tbPpsOutTrim)) 32 * 2 ^ 32) / (1000000000 * 2 ^ 48) ∧ ((pout 1 0 999999999 0).fld Reg.tbPpsCtrl 1 0 = 1 ∨ (pout 1 0 999999999 0).fld Reg.tbPpsCtrl 1 0 = 2 ∧ (pout 1 0 999999999 0).fld Reg.tbStatus 31 29 = 2) ∧ (↑(pout 1 0 999999999 0).tb.ppsOut : ℤ) < 6) ∧
    /- 8 -/ (w17.coreUp = true) :=
  ⟨by unfold State.reaches; decide +kernel,
   ⟨by decide +kernel,
    by unfold pinU; exact Int.toNat_of_nonneg (Int.emod_nonneg _ (by decide))⟩,
   by decide +kernel,
   by decide +kernel⟩

/-- Clauses of `Obligations.RegisterBus`, each with all its hypotheses met together. -/
theorem witness_RegisterBus :
    /- 1 -/ (up.coreUp = true ∧ up.busHeld 6 = false ∧ (Reg.bootNext, 3) ∈ [(Reg.bootNext, 3), (Reg.tbJump, 1073741823), (Reg.tbFreq, 4294967295), (Reg.glbIdent, 0), (Reg.clkPllStatus, 0), (Reg.evcRoute 319, 31), (Reg.flmClCtrl (319 % 16), 65535), (Reg.pmcSel (319 % 64), 3254715391)]) ∧
    /- 2.1 -/ (up.coreUp = true ∧ up.busHeld 0 = false ∧ regAt (canonAddr 16777212) = none ∧ up.bit Reg.glbAccErr 31 = false) ∧
    /- 2.2 -/ (w18.coreUp = true ∧ w18.busHeld 5 = false ∧ regAt (canonAddr 16777212) = none ∧ w18.bit Reg.glbAccErr 31 = true) ∧
    /- 2.3 -/ (w18.coreUp = true ∧ w18.busHeld 5 = false ∧ regAt (canonAddr 16777212) = none) :=
  ⟨by decide +kernel,
   by decide +kernel,
   by decide +kernel,
   by decide +kernel⟩

/-- Clauses of `Obligations.RegisterBus`, each with all its hypotheses met together. -/
theorem witness_RegisterBus_2 :
    /- 3 -/ (w19.coreUp = true ∧ w19.busHeld 5 = false ∧ 12 ∈ [0, 12, 32] ∧ w19.bit Reg.clkPgGate 19 = true ∧ w19.bit Reg.glbAccErr 31 = false) ∧
    /- 4 -/ ((up.wr Reg.qmEvents 7).coreUp = true ∧ (up.wr Reg.qmEvents 7).busHeld 5 = false ∧ (Reg.qmEvents, 7) ∈ [(Reg.bootNext, 0), (Reg.tbFreq, 0), (Reg.qmEvents, 7), (Reg.ssvMainsEvents, 63), (Reg.clkPllEvents, 127), (Reg.glbAccErr, 3221225472)]) ∧
    /- 5 -/ (w20.coreUp = true ∧ w20.busHeld 5 = false) ∧
    /- 6 -/ (up.coreUp = true ∧ up.busHeld 5 = false ∧ up.bit (Reg.flmCeCtrl 0 3) 31 = false ∧ Wbits 2147483648 31 31 = 1) :=
  ⟨by decide +kernel,
   by decide +kernel,
   by decide +kernel,
   by decide +kernel⟩

/-- Clauses of `Obligations.RegisterBus`, each with all its hypotheses met together. -/
theorem witness_RegisterBus_3 :
    /- 7 -/ (w21.coreUp = true ∧ w21.busHeld 5 = false ∧ w21.bit (Reg.flmCeCtrl 0 3) 31 = true ∧ Wbits 0 31 31 = 0 ∧ (w21.ce 3).wb = []) ∧
    /- 8 -/ (w22.coreUp = true ∧ w22.busHeld 5 = false) ∧
    /- 9.1 -/ (w23.coreUp = true ∧ w23.busHeld 5 = false) :=
  ⟨by decide +kernel,
   by decide +kernel,
   by decide +kernel⟩

end Sys2Proof.Tests.J

namespace Sys2Proof.Tests.K
open Sys2Proof Sys2Proof.Machine Sys2Proof.Tests

def tm (f : State → State) : State := f { up with tb.sec := 5, tb.ns := 7, tb.frac := 2^40 }
def rt (n k : Nat) (f : State → State := id) : State := f (tm fun s => s.wr (Reg.evcRoute n) (BitVec.ofNat 32 k))
def edgeAt (us : Nat) (s : State) : State := {s with tb.sec := 0, tb.ns := us * 1000 - 1, tb.frac := 0}
def td (f : State → State := id) : State := f up
def safeM (s : State) : State := s.setBit Reg.bootStatus 24 true
def stt (n : Nat) : State := td fun s => {safeM s with test.selftest := some n}
def po (p st : Nat) (f : State → State := id) : State := f { up with ports := SMap.set {} p {state := st} }
def ti : TailIn := {port := 131, pkt := none, frame := {bytes := withFcs (List.replicate 60 7), err := none, ago := 0, lane := 7}, err := none, fec := {corrCw := 1, uncorrCw := 2, corrSym := 3}}
def mf (s : State) : State := s.setFld (portCtrlOf 131) 13 0 9000
def rxSt : State := mf {up with ports := SMap.set {} 131 {state := 5, receiving := [3], arriving := SMap.set {} 3 ti.frame}, qm.pkts := SMap.set {} 3 {live := true, port := 131}, flow.insts := SMap.set {} 1 {live := true, pkt := 3}}
def mcf (op : List Byte) : List Byte := withFcs (List.replicate 12 1 ++ [0x88, 0x08] ++ op ++ [0, 0xAA, 0, 9, 0, 1, 0, 2, 0xFF, 0xFF, 0, 3, 0, 4, 0, 5, 1, 0] ++ List.replicate 26 0)
def cf (op : List Byte) : RxFrame := {bytes := mcf op, err := none, ago := 3, lane := 7}
def upFor (s : State) : State := {s with tb.run := 3 * 2^32}
def win (s : State) : State := {s with portWindow := ((SMap.set {} 131 5).set 331 6).set 4300 7, hdg.malWindow := SMap.set {} 3 4, ecc.corrWindow := SMap.set {} 3 5, tb.ns := 999999999}
def win2 (s : State) : State := {win s with tb.ns := 5}
def w1 : State := rt 319 31 fun s => s.wr (Reg.evcPending 4 9) 0x80000001
def w2 : State := rt 313 31 fun s => {s with ctrs := SMap.set {} (Reg.pmcCnt 63) 99}
def w3 : State := edgeAt 131070 (rt 313 31 fun s => {s.wr Reg.pmcCtrl 65535 with ctrs := SMap.set {} (Reg.pmcCnt 63) 99})
def w4 : State := rt 313 31 fun s => {s.wr Reg.pmcOvfLo 65535 with ctrs := SMap.set {} (Reg.pmcCnt 63) 99}
def w5 : State := rt 155 31 fun s => {s with pmc.caught := SMap.set {} 510 (some (7,65535,8191))}
def w6 : State := rt 155 31 fun s => {s.wr (Reg.pmcSampleInfo 15) 0x80000000 with pmc.caught := SMap.set {} 510 (some (7,65535,8191))}
def w7 : State := edgeAt 14 (rt 314 31 fun s => {s.wr Reg.pmcBwCtrl 0xC0000000 with pmc.bw := SMap.set (SMap.set {} 133 (2^40)) 333 160, pmc.bwWin := 7 })
def w8 : State := tick (edgeAt 14 (rt 314 31 fun s => {s.wr Reg.pmcBwCtrl 0xC0000000 with pmc.bw := SMap.set (SMap.set {} 133 (2^40)) 333 160, pmc.bwWin := 7 }))
def w9 : State := td fun s => {s with test.driving := true}
def w10 : State := td fun s => safeM s
def w11 : State := td fun s => {s with test.ir := 0x21, test.retOfs := 65532, aon.retention := SMap.set {} 65535 9}
def w12 : State := td fun s => {s with fuses.jtagLock := true}
def w13 : State := td fun s => s.wr Reg.bootNext 2
def w14 : State := td fun s => s.wr Reg.glbSelftestResult 0x40000000
def w15 : List TestFail := []
def w16 : State := td fun s => {s with ports := (SMap.set {} 120 {state := 5})}
def w17 : State := td fun s => {s.setFld (Reg.pgPrbsCtrl 15) 31 0 0x8000FFFF with ports := (SMap.set {} 120 {state := 5})}
def w18 : State := po 124 3 fun s => s.setFld (Reg.pgCtrl 15) 1 0 1
def w19 : LinkMeasure := {rxInv := 0xA5, laneMap := [4,7,6,5], rxDelay := 1, skews := [2,9,3,1], txDelay := 3}
def w20 : State := po 124 4 fun s => s.setFld (Reg.pgCtrl 15) 1 0 1
def w23 : State := {up with ports := SMap.set {} 124 {state := 4, remoteFault := true}}
def w24 : State := {up with ports := SMap.set {} 124 {state := 6, remoteFault := true}}
def w25 : State := po 120 6 fun s => {s.setFld (Reg.portCtrl 15 0) 13 0 0x3fff with ctrs := SMap.set {} (Reg.portCnt 15 0 15) 9}
def w26 : State := po 120 0 fun s => {s with supply.cages := SMap.set {} 15 {present := true, fuse := .on, cmis := true}, boot.calibrated := [15]}
def w27 : TailIn := {ti with pkt := some 3}
def w28 : State := po 131 5 fun s => upFor (mf (s.setFld (portCtrlOf 131) 29 29 1))
def w29 : RxFrame := cf [1,1]
def w30 : State := po 131 5 fun s => upFor (mf s)
def w31 : RxFrame := cf [0,1]
def w32 : State := {up with ports := SMap.set {} 131 {state := 5, paused := SMap.set {} 7 4}}

/-- Clauses of `Obligations.EventsAndCounters`, each with all its hypotheses met together. -/
theorem witness_EventsAndCounters :
    /- 1 -/ ((rt 316 31).coreUp = true ∧ sourceUsed 316 = true) ∧
    /- 2.1 -/ ((rt 319 31).coreUp = true ∧ (rt 319 31).reaches 0 Reg.evcSet ∧ Wbits 319 8 0 < 320) ∧
    /- 2.2 -/ ((rt 319 31).coreUp = true ∧ (rt 319 31).reaches 0 Reg.evcSet ∧ 320 ≤ Wbits 511 8 0) ∧
    /- 3 -/ (w1.coreUp = true ∧ w1.reaches 5 (Reg.evcPending 4 9)) :=
  ⟨by decide +kernel,
   by unfold State.reaches; decide +kernel,
   by unfold State.reaches; decide +kernel,
   by unfold State.reaches; decide +kernel⟩

/-- Clauses of `Obligations.EventsAndCounters`, each with all its hypotheses met together. -/
theorem witness_EventsAndCounters_2 :
    /- 4.1 -/ (w2.coreUp = true ∧ w2.reaches 0 Reg.pmcCmd ∧ Wbits 1 1 0 = 1) ∧
    /- 4.2 -/ (w3.coreUp = true ∧ 131070 = (tbEdge w3).total / (1000 * 2 ^ 48) ∧ 131070 ≠ w3.total / (1000 * 2 ^ 48) ∧ w3.fld Reg.pmcCtrl 15 0 ≠ 0 ∧ 131070 % w3.fld Reg.pmcCtrl 15 0 = 0) ∧
    /- 5 -/ (w4.coreUp = true ∧ w4.reaches 0 Reg.pmcCmd ∧ Wbits 2 1 0 = 2) ∧
    /- 6.1 -/ (w5.coreUp = true ∧ w5.pmc.caught.get ((15 * 16 + 15) * 2) = some (7, 65535, 8191) ∧ w5.pmc.caught.get ((15 * 16 + 15) * 2 + 1) = none ∧ w5.bit (Reg.pmcSampleInfo 15) 31 = false) :=
  ⟨by unfold State.reaches; decide +kernel,
   by decide +kernel,
   by unfold State.reaches; decide +kernel,
   by decide +kernel⟩

/-- Clauses of `Obligations.EventsAndCounters`, each with all its hypotheses met together. -/
theorem witness_EventsAndCounters_3 :
    /- 6.2 -/ (w6.coreUp = true ∧ w6.pmc.caught.get ((15 * 16 + 15) * 2) = some (7, 65535, 8191) ∧ w6.pmc.caught.get ((15 * 16 + 15) * 2 + 1) = none ∧ w6.bit (Reg.pmcSampleInfo 15) 31 = true) ∧
    /- 7 -/ (w7.coreUp = true ∧ 14 = (tbEdge w7).total / (1000 * 2 ^ 48) ∧ 14 ≠ w7.total / (1000 * 2 ^ 48) ∧ w7.bit Reg.pmcBwCtrl 31 = true ∧ 14 % w7.pmc.bwWin = 0 ∧ w8 = tick w7) :=
  ⟨by decide +kernel,
   by decide +kernel⟩

/-- Clauses of `Obligations.TestAndDiagnostics`, each with all its hypotheses met together. -/
theorem witness_TestAndDiagnostics :
    /- 1 -/ (td.supply.on = true) ∧
    /- 2 -/ (td.supply.on = true) ∧
    /- 3 -/ (w9.supply.on = true) ∧
    /- 4.1 -/ (w10.supply.on = true ∧ w10.bit Reg.bootStatus 24 = true) :=
  ⟨by decide +kernel,
   by decide +kernel,
   by decide +kernel,
   by decide +kernel⟩

/-- Clauses of `Obligations.TestAndDiagnostics`, each with all its hypotheses met together. -/
theorem witness_TestAndDiagnostics_2 :
    /- 4.2 -/ (td.supply.on = true ∧ td.bit Reg.bootStatus 24 = false) ∧
    /- 5 -/ (td.supply.on = true) ∧
    /- 6 -/ (td.supply.on = true) ∧
    /- 7.1 -/ (td.supply.on = true ∧ td.fuses.jtagLock = false) :=
  ⟨by decide +kernel,
   by decide +kernel,
   by decide +kernel,
   by decide +kernel⟩

/-- Clauses of `Obligations.TestAndDiagnostics`, each with all its hypotheses met together. -/
theorem witness_TestAndDiagnostics_3 :
    /- 7.2 -/ (w11.supply.on = true ∧ w11.fuses.jtagLock = false ∧ w11.test.ir = 33) ∧
    /- 8 -/ (w12.supply.on = true ∧ w12.fuses.jtagLock = true) ∧
    /- 9.1 -/ (w13.supply.on = true ∧ w13.fuses.jtagLock = false ∧ Reg.bootNext = Reg.bootNext / 4 * 2 ^ 34 / 2 ^ 34 % 2 ^ 22 * 4 ∧ Reg.bootNext / 4 * 2 ^ 34 / 2 ^ 56 % 2 = 0) ∧
    /- 9.2 -/ (w13.supply.on = true ∧ w13.fuses.jtagLock = false ∧ Reg.bootNext = (Reg.bootNext / 4 * 2 ^ 34 + 2 ^ 56 + 2 ^ 32 * 3 + 3) / 2 ^ 34 % 2 ^ 22 * 4 ∧ (Reg.bootNext / 4 * 2 ^ 34 + 2 ^ 56 + 2 ^ 32 * 3 + 3) / 2 ^ 56 % 2 = 1) :=
  ⟨by decide +kernel,
   by decide +kernel,
   by decide +kernel,
   by decide +kernel⟩

/-- Clauses of `Obligations.TestAndDiagnostics`, each with all its hypotheses met together. -/
theorem witness_TestAndDiagnostics_4 :
    /- 10.1 -/ (w14.supply.on = true ∧ w14.reaches 6 Reg.glbSelftestCmd ∧ w14.bit Reg.glbSelftestResult 30 = true) ∧
    /- 10.2 -/ (w10.supply.on = true ∧ w10.reaches 6 Reg.glbSelftestCmd ∧ w10.bit Reg.glbSelftestResult 30 = false ∧ w10.bit Reg.bootStatus 24 = true ∧ Wbits 9 3 0 < 10) ∧
    /- 10.3 -/ (w10.supply.on = true ∧ w10.reaches 6 Reg.glbSelftestCmd ∧ w10.bit Reg.glbSelftestResult 30 = false ∧ (w10.bit Reg.bootStatus 24 = false ∧ 3 = 2 ∨ w10.bit Reg.bootStatus 24 = true ∧ 10 ≤ Wbits 10 3 0 ∧ 3 = 3)) ∧
    /- 11 -/ ((stt 9).supply.on = true ∧ (stt 9).coreUp = true ∧ (stt 9).test.selftest = some 9 ∧ (stt 9).bit Reg.glbSelftestResult 29 = false ∧ (∀ f ∈ w15, f.target < 10 ∧ f.addr < 2 ^ 64) ∧ w15.length < 2 ^ 20) :=
  ⟨by unfold State.reaches; decide +kernel,
   by unfold State.reaches; decide +kernel,
   by unfold State.reaches; decide +kernel,
   by decide +kernel⟩

/-- Clauses of `Obligations.TestAndDiagnostics`, each with all its hypotheses met together. -/
theorem witness_TestAndDiagnostics_5 :
    /- 12 -/ ((td safeM).supply.on = true ∧ (td safeM).reaches 0 Reg.glbTestLock) ∧
    /- 13 -/ (td.supply.on = true ∧ td.reaches 0 (Reg.pgLoopback 19)) ∧
    /- 14 -/ (w16.supply.on = true ∧ w16.reaches 0 (Reg.pgPrbsCtrl 15)) ∧
    /- 15 -/ (w17.supply.on = true ∧ w17.coreUp = true ∧ w17.bit Reg.clkPgGate 15 = false ∧ w17.bit (Reg.pgPrbsCtrl 15) 31 = true ∧ w17.bit (Reg.pgPrbsCtrl 15) (8 + 7) = true) :=
  ⟨by unfold State.reaches; decide +kernel,
   by unfold State.reaches; decide +kernel,
   by unfold State.reaches; decide +kernel,
   by decide +kernel⟩

/-- Clauses of `Obligations.PortStates`, each with all its hypotheses met together. -/
theorem witness_PortStates :
    /- 1 -/ ((po 131 1).coreUp = true ∧ 19 = groupOf 131 ∧ 0 = subOf 131 ∧ (po 131 1).portState 131 = 1 ∧ (po 131 1).groupHeld 19 = false) ∧
    /- 2 -/ ((po 120 2).coreUp = true ∧ 15 = groupOf 120 ∧ 0 = subOf 120 ∧ (po 120 2).portState 120 = 2) ∧
    /- 3 -/ (w18.coreUp = true ∧ 15 = groupOf 124 ∧ 4 = subOf 124 ∧ (w18.portState 124 = 3 ∨ w18.portState 124 = 4 ∧ (w18.ports.get 124).lockLost = true) ∧ w19.laneMap.length = 8 / (subPorts (w18.cageMode 15)).length ∧ (∀ l ∈ w19.laneMap, 4 ≤ l ∧ l < 4 + w19.laneMap.length) ∧ 4 + w19.laneMap.length ≤ 8) ∧
    /- 4 -/ (w20.coreUp = true ∧ 15 = groupOf 124 ∧ 4 = subOf 124 ∧ w20.portState 124 = 4 ∧ (w20.ports.get 124).remoteFault = false ∧ (w20.ports.get 124).lockLost = false ∧ max 1 (w20.fld (Reg.portCtrl 15 4) 23 16) ≤ 255) :=
  ⟨by decide +kernel,
   by decide +kernel,
   by decide +kernel,
   by decide +kernel⟩

/-- Clauses of `Obligations.PortStates`, each with all its hypotheses met together. -/
theorem witness_PortStates_2 :
    /- 5 -/ ((po 124 4).coreUp = true ∧ 15 = groupOf 124 ∧ 4 = subOf 124 ∧ ((po 124 4).portState 124 = 4 ∨ (po 124 4).portState 124 = 6)) ∧
    /- 6 -/ ((po 124 5).coreUp = true ∧ 15 = groupOf 124 ∧ 4 = subOf 124 ∧ (po 124 5).portState 124 = 5) ∧
    /- 7.1 -/ (w23.coreUp = true ∧ 15 = groupOf 124 ∧ 4 = subOf 124 ∧ (w23.ports.get 124).remoteFault = true ∧ w23.portState 124 = 4) ∧
    /- 7.2 -/ (w24.coreUp = true ∧ 15 = groupOf 124 ∧ 4 = subOf 124 ∧ (w24.ports.get 124).remoteFault = true ∧ w24.portState 124 = 6 ∧ max 1 (w24.fld (Reg.portCtrl 15 4) 23 16) ≤ 255) :=
  ⟨by decide +kernel,
   by decide +kernel,
   by decide +kernel,
   by decide +kernel⟩

/-- Clauses of `Obligations.PortStates`, each with all its hypotheses met together. -/
theorem witness_PortStates_3 :
    /- 8 -/ ((po 124 4).coreUp = true ∧ 15 = groupOf 124 ∧ 4 = subOf 124 ∧ (po 124 4).portState 124 = 4) ∧
    /- 9 -/ ((po 124 5).coreUp = true ∧ 15 = groupOf 124 ∧ 4 = subOf 124 ∧ ((po 124 5).portState 124 = 5 ∨ (po 124 5).portState 124 = 6)) ∧
    /- 10.1 -/ (w25.coreUp = true ∧ 15 = groupOf 120 ∧ 0 = subOf 120 ∧ w25.reaches 0 (Reg.pgCtrl 15) ∧ Wbits 2 1 0 ≠ w25.fld (Reg.pgCtrl 15) 1 0) ∧
    /- 10.2 -/ (w25.coreUp = true ∧ 15 = groupOf 120 ∧ 0 = subOf 120 ∧ w25.reaches 0 (Reg.pgCtrl 15) ∧ Wbits 4294705152 1 0 = w25.fld (Reg.pgCtrl 15) 1 0 ∧ Wbits 4294705152 17 8 = w25.fld (Reg.pgCtrl 15) 17 8) :=
  ⟨by decide +kernel,
   by decide +kernel,
   by unfold State.reaches; decide +kernel,
   by unfold State.reaches; decide +kernel⟩

/-- Clauses of `Obligations.PortStates`, each with all its hypotheses met together. -/
theorem witness_PortStates_4 :
    /- 11 -/ (w26.coreUp = true ∧ 15 = groupOf 120 ∧ 0 = subOf 120 ∧ w26.reaches 0 (Reg.portCtrl 15 0) ∧ w26.portExists 120 = true) :=
  by unfold State.reaches; decide +kernel

/-- Clauses of `Obligations.ReceivedFrames`, each with all its hypotheses met together. -/
theorem witness_ReceivedFrames :
    /- 1 -/ ((po 131 5 mf).receives 131 = true ∧ ti.port = 131 ∧ ti.pkt = none ∧ (ti.frame.lane < 8 ∧ ((po 131 5 mf).ports.get 131).upRun + ti.frame.ago * 2 ^ 32 ≤ (po 131 5 mf).tb.run) ∧ (¬(etherType ti.frame.bytes = 34824 ∧ beNat (slice ti.frame.bytes 14 2) = 1)) ∧ (¬(etherType ti.frame.bytes = 34824 ∧ beNat (slice ti.frame.bytes 14 2) = 257)) ∧ (128 ≤ 131 → etherType ti.frame.bytes ≠ 34997)) ∧
    /- 2 -/ (rxSt.receives 131 = true ∧ w27.port = 131 ∧ w27.frame.lane < 8 ∧ w27.pkt = some 3 ∧ 3 ∈ (rxSt.ports.get 131).receiving ∧ ti.frame = (rxSt.ports.get 131).arriving.get 3 ∧ (0 =
    if (ti.frame.bytes.length ≤ if rxSt.fld (portCtrlOf 131) 13 0 < 64 then 64 else min (rxSt.fld (portCtrlOf 131) 13 0) (if 131 < 128 then 10240 else 10400)) ∧ fcsGood ti.frame.bytes = false then 1
    else
    match lowerErr ti.frame.err w27.err with
    | some RxError.errChar => 2
    | some RxError.codeword => 3
    | none => if (if rxSt.fld (portCtrlOf 131) 13 0 < 64 then 64 else min (rxSt.fld (portCtrlOf 131) 13 0) (if 131 < 128 then 10240 else 10400)) < ti.frame.bytes.length then 4 else if ti.frame.bytes.length < 64 then 5 else 0)) ∧
    /- 3 -/ (w28.receives 131 = true ∧ (w29.lane < 8 ∧ (w28.ports.get 131).upRun + w29.ago * 2 ^ 32 ≤ w28.tb.run) ∧ (etherType w29.bytes = 34824 ∧ beNat (slice w29.bytes 14 2) = 257) ∧ (0 =
    if (w29.bytes.length ≤ if w28.fld (portCtrlOf 131) 13 0 < 64 then 64 else min (w28.fld (portCtrlOf 131) 13 0) (if 131 < 128 then 10240 else 10400)) ∧ fcsGood w29.bytes = false then 1
    else
    match w29.err with
    | some RxError.errChar => 2
    | some RxError.codeword => 3
    | none => if (if w28.fld (portCtrlOf 131) 13 0 < 64 then 64 else min (w28.fld (portCtrlOf 131) 13 0) (if 131 < 128 then 10240 else 10400)) < w29.bytes.length then 4 else if w29.bytes.length < 64 then 5 else 0)) ∧
    /- 4 -/ (w30.receives 131 = true ∧ (w31.lane < 8 ∧ (w30.ports.get 131).upRun + w31.ago * 2 ^ 32 ≤ w30.tb.run) ∧ (etherType w31.bytes = 34824 ∧ beNat (slice w31.bytes 14 2) = 1)) :=
  ⟨by decide +kernel,
   by decide +kernel,
   by decide +kernel,
   by decide +kernel⟩

/-- Clauses of `Obligations.ReceivedFrames`, each with all its hypotheses met together. -/
theorem witness_ReceivedFrames_2 :
    /- 5 -/ (w32.receives 131 = true ∧ (w32.ports.get 131).paused.get 7 ≠ 0 ∧ (w32.ports.get 131).paused.get 7 ≤ 4) ∧
    /- 6.1 -/ ((po 131 5 win).receives 131 = true ∧ (tbEdge (po 131 5 win)).total / (1000000 * 2 ^ 48) ≠ (po 131 5 win).total / (1000000 * 2 ^ 48)) ∧
    /- 6.2 -/ ((po 131 5 win).receives 131 = true ∧ (tbEdge (po 131 5 win)).total / (1000000000 * 2 ^ 48) ≠ (po 131 5 win).total / (1000000000 * 2 ^ 48)) ∧
    /- 6.3 -/ ((po 131 5 win2).receives 131 = true ∧ (po 131 5 win2).boot.stop = StopKind.none) :=
  ⟨by decide +kernel,
   by decide +kernel,
   by decide +kernel,
   by decide +kernel⟩

end Sys2Proof.Tests.K

namespace Sys2Proof.Tests.L
open Sys2Proof Sys2Proof.Machine Sys2Proof.Tests

def fr (p n : Nat) : RxFrame := {bytes := List.replicate n 7, err := none, ago := p, lane := 7}
def po (p st : Nat) (f : State → State := id) : State := f { up.setBit Reg.hdgStatus 31 true with ports := SMap.set {} p {state := st}, tb.run := 200 * 2^32, tb.sec := 7 }
def ip (f : Pkt → Pkt := id) (h : State → State := id) : State := h {po 120 5 with ports := SMap.set {} 120 {state := 5, receiving := [1]}, qm.nextPkt := 2, qm.pkts := SMap.set {} 1 (f {live := true, port := 120, group := 15, owner := 15, voq := some 15, bytes := List.replicate 600 3, cells := [0]}), hdg.queue := SMap.set {} 15 [1]}
def tk (f : Pkt → Pkt := id) (h : State → State := id) : State := ip f fun s => h {s with hdg.queue := {}, hdg.inflight := SMap.set {} 15 [127], hdg.slices := SMap.set {} 127 {st := .taken, res := {pkt := 1, group := 15, port := 120}}}
def mw (br fn bsel dst cur : Nat) (extra : Nat := 0) : Nat := br*2^188 + 100*2^176 + fn*2^121 + bsel*2^124 + dst*2^118 + 5*2^102 + cur*2^99 + 7*2^91 + extra
def ms (w : Nat) (x : Slice → Slice := id) : State := {up with hdg.ucode := SMap.set {} (159/8*4096+4095) w, hdg.slices := SMap.set {} 159 (x {st := .running, first := false, addr := 4095, cur := 500, scratch := ((SMap.set {} 0 9).set 1 5), stack := [3], res := {group := 19}})}
def ma : Nat := mw 1 1 0 1 1
def lr : LookupResult := {parse := {pkt := 1, group := 15, port := 120, tc := 7}, ad := 0xFFFF*2^80}
def pe (fl : Nat) (r : Nat := 0) (act : Nat := 0) : State := tk id fun s => {s with hdg.slices := SMap.set {} 127 {st := .waiting, action := act, res := {pkt := 1, group := 15, port := 120, flags := fl, reason := r, words := 9}}}
def cb (f : State → State := id) : State := ip id fun s => f {s with tables.out := [lr, lr], tb.sec := 3}
def cx (l : List (Nat × Ctx)) (f : State → State := id) : State := ip id fun s => f {s with dsp.ctxs := ⟨l⟩}
def rn (f : Ctx → Ctx) (h : State → State := id) : State := h { (peSt [0] {ds := [1]}) with dsp.ctxs := SMap.set {} 8191 (f {st := .running, cluster := 15, engine := 15, thread := 7, built := 5, ending := .unicast 3 2, pkt := 1}), qm.pkts := SMap.set {} 1 {live := true, bytes := List.replicate 64 3, voq := some 2, cells := [0]}, qm.nextPkt := 2, tb.sec := 3}
def cR (f : Ctx → Ctx) : Ctx := (rn f).ctx 8191
def wdS (n : Nat) (s : State) : State := {s.wr (Reg.flmClCtrl 15) 0x1234 with flume.cycles := n}
def w1 : State := po 120 5 fun s => s.setBit Reg.hdgStatus 31 false
def w2 : List ℕ := []
def w3 : State := ip id fun s => {s with hdg.queue := SMap.set {} 20 [1], hdg.slices := SMap.set {} 8 {st := .waiting}}
def w4 : State := ip id fun s => {s with hdg.queue := SMap.set {} 20 [1], hdg.slices := SMap.set {} 8 {st := .waiting}, hdg.offered := [20]}
def w5 : State := ip (fun p => {p with verdict := some 3})
def w6 : State := tk id (fun s => s.setBit Reg.hdgCtrl 0 true)
def w7 : Slice := (ms (mw 1 1 0 1 1)).hdg.slices.get 159
def w8 : State := ms (mw 12 0 2 0 0 (31*2^50))
def w9 : ParseResult := {pkt := 1, group := 15, port := 120, words := 9}
def w10 : State := {pe 0 with tables.out := List.replicate 300 lr}
def w11 : ParseResult := {pkt := 1, group := 15, port := 120, words := 9, flags := 1, reason := 31}
def w12 : State := ((up.wr (Reg.hdgUcData 5) 0xFFFFFFFF).wr (Reg.hdgUcData 0) 7).wr Reg.hdgUcAddr 4095
def w13 : State := (ms ma).wr Reg.hdgUcAddr 0x130FFF
def w14 : List LookupResult := [lr]
def w15 : State := cb fun s => {s with dsp.ctxs := ⟨(List.range 8192).map fun i => (i, {st := .ready})⟩}
def w16 : State := cb fun s => {s with dsp.buildCycle := s.parseCycle, dsp.accepted := (List.range 32).map (· / 2)}
def w17 : State := cx [(3,{st := .ready, cluster := 15, deadline := 5}),(9,{st := .ready, cluster := 15, deadline := 0xFFFFFFF0, frame := SMap.set {} 3 0xFF})]
def w18 : State := cx [(3,{st := .slotted, cluster := 15, engine := 15, deadline := 5}),(9,{st := .slotted, cluster := 15, engine := 15, deadline := 0xFFFFFFF0, frame := SMap.set {} 3 0xFF})]
def w19 : State := rn fun c => {c with st := .ended, seq := 4}
def w20 : Ctx := cR fun c => {c with st := .ended, seq := 4}
def w21 : State := rn (fun c => {c with st := .ended, seq := 4}) fun s => {s with boot.stop := .orderly}
def w22 : State := rn (fun c => {c with st := .ended, seq := 4}) fun s => {s with dsp.relCycle := s.parseCycle, dsp.released := [0]}
def w23 : State := rn (fun c => {c with st := .ended, seq := 65535, ending := .drop 12}) fun s => {s with dsp.relSeq := SMap.set {} 0 65535, tb.run := 9}
def w24 : Ctx := cR fun c => {c with st := .ended, seq := 65535, ending := .drop 12}
def w25 : State := rn (fun c => {c with ending := .none}) (wdS (2^60))
def w26 : Ctx := cR fun c => {c with ending := .none}
def w27 : State := rn (fun c => {c with ending := .none, st := .exception}) (wdS (2^60))
def w28 : Ctx := cR fun c => {c with ending := .none, st := .exception}

/-- Clauses of `Obligations.HeadgateAdmission`, each with all its hypotheses met together. -/
theorem witness_HeadgateAdmission :
    /- 1.1 -/ ((po 120 5).coreUp = true ∧ (fr 120 64).lane < 8 ∧ (po 120 5).receives 120 = true ∧ ((po 120 5).ports.get 120).upRun + (fr 120 64).ago * 2 ^ 32 ≤ (po 120 5).tb.run ∧ 64 ≤ (fr 120 64).bytes.length ∧ etherType (fr 120 64).bytes ≠ 34824 ∧ 1 = (po 120 5).qm.nextPkt ∧ 15 = groupOf 120 ∧ (po 120 5).mayAdmit 120 = true) ∧
    /- 1.2 -/ (w1.coreUp = true ∧ (fr 120 64).lane < 8 ∧ w1.receives 120 = true ∧ (w1.ports.get 120).upRun + (fr 120 64).ago * 2 ^ 32 ≤ w1.tb.run ∧ 64 ≤ (fr 120 64).bytes.length ∧ etherType (fr 120 64).bytes ≠ 34824 ∧ 1 = w1.qm.nextPkt ∧ 15 = groupOf 120 ∧ w1.mayAdmit 120 = false) ∧
    /- 2 -/ (ip.coreUp = true ∧ (ip.pkt 1).live = true ∧ (ip.pkt 1).voq = some 15 ∧ (ip.pkt 1).incomplete = false ∧ (ip.pkt 1).cells.length < ((ip.pkt 1).bytes.length + 255) / 256 ∧ 1 ∈ (ip.ports.get (ip.pkt 1).port).receiving ∧ (ip.voqCells 15).length < 1024) ∧
    /- 3.1 -/ ((ip.coreUp = true ∧ ip.hdg.queue.get 15 = 1 :: w2 ∧ (ip.hdg.inflight.get 15).length < 32 ∧ (true = true ∨ 15 ∉ ip.hdg.offered) ∧ (ip.hdg.slices.get (8 * 15 + 0)).st = SliceState.idle ∧ (∀ j < 0, ¬(ip.hdg.slices.get (8 * 15 + j)).st = SliceState.idle)) ∧ (∀ (v : ℕ), (ip.pkt 1).verdict = some v → v = 0)) :=
  ⟨by decide +kernel,
   by decide +kernel,
   by decide +kernel,
   ⟨by decide +kernel,
    fun v h => by
    rcases (show (ip.pkt 1).verdict = none ∨ (ip.pkt 1).verdict = some 0 by decide +kernel) with e | e <;> rw [e] at h <;> cases h <;> rfl⟩⟩

/-- Clauses of `Obligations.HeadgateAdmission`, each with all its hypotheses met together. -/
theorem witness_HeadgateAdmission_2 :
    /- 3.2 -/ ((w3.coreUp = true ∧ w3.hdg.queue.get 20 = 1 :: w2 ∧ (w3.hdg.inflight.get 20).length < 32 ∧ (true = true ∨ 20 ∉ w3.hdg.offered) ∧ (20 = 20 ∨ (List.filter (fun (j : ℕ) => (w3.hdg.slices.get (8 * 20 + j)).st == SliceState.idle) (List.range 8)).length = 0) ∧ (∀ j < 21, j ≠ 20 → w3.hdg.queue.get j = []) ∧ (w3.hdg.slices.get (8 * 0 + 0)).st = SliceState.idle ∧ (∀ j < 0, ¬(w3.hdg.slices.get (8 * 0 + j)).st = SliceState.idle) ∧ (∀ j < 20, (List.filter (fun (j_1 : ℕ) => (w3.hdg.slices.get (8 * j + j_1)).st == SliceState.idle) (List.range 8)).length ≤ (List.filter (fun (j : ℕ) => (w3.hdg.slices.get (8 * 0 + j)).st == SliceState.idle) (List.range 8)).length) ∧ (∀ j < 0, (List.filter (fun (j_1 : ℕ) => (w3.hdg.slices.get (8 * j + j_1)).st == SliceState.idle) (List.range 8)).length < (List.filter (fun (j : ℕ) => (w3.hdg.slices.get (8 * 0 + j)).st == SliceState.idle) (List.range 8)).length)) ∧ (∀ (v : ℕ), (w3.pkt 1).verdict = some v → v = 0)) ∧
    /- 4 -/ (w4.coreUp = true ∧ 20 ∈ w4.hdg.offered) ∧
    /- 5 -/ (w5.coreUp = true ∧ w5.hdg.queue.get 15 = 1 :: w2 ∧ (w5.pkt 1).verdict = some 3 ∧ (true = true ∨ 15 ∉ w5.hdg.offered)) ∧
    /- 6 -/ ((tk.coreUp = true ∧ (tk.hdg.slices.get 127).st = SliceState.taken ∧ tk.bit Reg.hdgCtrl 0 = false ∧ 600 = (tk.pkt (tk.hdg.slices.get 127).res.pkt).bytes.length ∧ (256 ≤ 600 ∨ false = true)) ∧ (∀ (v : ℕ), (tk.pkt (tk.hdg.slices.get 127).res.pkt).verdict = some v → v = 0)) :=
  ⟨⟨by decide +kernel,
    fun v h => by
    rcases (show (w3.pkt 1).verdict = none ∨ (w3.pkt 1).verdict = some 0 by decide +kernel) with e | e <;> rw [e] at h <;> cases h <;> rfl⟩,
   by decide +kernel,
   by decide +kernel,
   ⟨by decide +kernel,
    fun v h => by
    rcases (show (tk.pkt (tk.hdg.slices.get 127).res.pkt).verdict = none ∨ (tk.pkt (tk.hdg.slices.get 127).res.pkt).verdict = some 0 by decide +kernel) with e | e <;> rw [e] at h <;> cases h <;> rfl⟩⟩

/-- Clauses of `Obligations.HeadgateAdmission`, each with all its hypotheses met together. -/
theorem witness_HeadgateAdmission_3 :
    /- 7 -/ (w6.coreUp = true ∧ (w6.hdg.slices.get 127).st = SliceState.taken ∧ w6.bit Reg.hdgCtrl 0 = true) :=
  by decide +kernel

/-- Clauses of `Obligations.HeadgateParsing`, each with all its hypotheses met together. -/
theorem witness_HeadgateParsing :
    /- 1.1 -/ ((ms (mw 1 1 0 1 1)).coreUp = true ∧ (ms (mw 1 1 0 1 1)).hdg.slices.get 159 = w7 ∧ w7.st = SliceState.running ∧ w7.first = false ∧ (ms (mw 1 1 0 1 1)).bit Reg.hdgCtrl 0 = false ∧ mw 1 1 0 1 1 = (ms (mw 1 1 0 1 1)).hdg.ucode.get (159 / 8 * 4096 + w7.addr) ∧ mw 1 1 0 1 1 % 2 ^ 40 = 0 ∧ (w7.res.words < if (ms (mw 1 1 0 1 1)).fld Reg.hdgCtrl 15 8 = 0 then 255 else (ms (mw 1 1 0 1 1)).fld Reg.hdgCtrl 15 8) ∧ mw 1 1 0 1 1 / 2 ^ 172 % 8 = 0 ∧ mw 1 1 0 1 1 / 2 ^ 90 % 2 = 0 ∧ mw 1 1 0 1 1 / 2 ^ 69 % 2 = 0 ∧ mw 1 1 0 1 1 / 2 ^ 64 % 2 = 0 ∧ mw 1 1 0 1 1 / 2 ^ 57 % 4 = 0 ∧ mw 1 1 0 1 1 / 2 ^ 55 % 4 = 0 ∧ mw 1 1 0 1 1 / 2 ^ 40 % 4 = 0 ∧ mw 1 1 0 1 1 / 2 ^ 118 % 8 < 5 ∧ mw 1 1 0 1 1 / 2 ^ 99 % 8 < 5 ∧ 9 = w7.scratch.get 0 ∧ (mw 1 1 0 1 1 / 2 ^ 124 % 8 = 0 ∧ 5 = mw 1 1 0 1 1 / 2 ^ 102 % 2 ^ 16 ∨ mw 1 1 0 1 1 / 2 ^ 124 % 8 = 2 ∧ 5 = w7.scratch.get 1) ∧ (mw 1 1 0 1 1 / 2 ^ 121 % 8, 14) ∈ [(0, 9), (1, (9 + 5) % 2 ^ 32), (3, Nat.land 9 5), (4, Nat.lor 9 5), (5, Nat.xor 9 5)] ∧ mw 1 1 0 1 1 / 2 ^ 188 = 1) ∧
    /- 1.2 -/ ((ms (mw 2 3 2 2 2)).coreUp = true ∧ (ms (mw 2 3 2 2 2)).hdg.slices.get 159 = w7 ∧ w7.st = SliceState.running ∧ w7.first = false ∧ (ms (mw 2 3 2 2 2)).bit Reg.hdgCtrl 0 = false ∧ mw 2 3 2 2 2 = (ms (mw 2 3 2 2 2)).hdg.ucode.get (159 / 8 * 4096 + w7.addr) ∧ mw 2 3 2 2 2 % 2 ^ 40 = 0 ∧ (w7.res.words < if (ms (mw 2 3 2 2 2)).fld Reg.hdgCtrl 15 8 = 0 then 255 else (ms (mw 2 3 2 2 2)).fld Reg.hdgCtrl 15 8) ∧ mw 2 3 2 2 2 / 2 ^ 172 % 8 = 0 ∧ mw 2 3 2 2 2 / 2 ^ 90 % 2 = 0 ∧ mw 2 3 2 2 2 / 2 ^ 69 % 2 = 0 ∧ mw 2 3 2 2 2 / 2 ^ 64 % 2 = 0 ∧ mw 2 3 2 2 2 / 2 ^ 57 % 4 = 0 ∧ mw 2 3 2 2 2 / 2 ^ 55 % 4 = 0 ∧ mw 2 3 2 2 2 / 2 ^ 40 % 4 = 0 ∧ mw 2 3 2 2 2 / 2 ^ 118 % 8 < 5 ∧ mw 2 3 2 2 2 / 2 ^ 99 % 8 < 5 ∧ 9 = w7.scratch.get 0 ∧ (mw 2 3 2 2 2 / 2 ^ 124 % 8 = 0 ∧ 5 = mw 2 3 2 2 2 / 2 ^ 102 % 2 ^ 16 ∨ mw 2 3 2 2 2 / 2 ^ 124 % 8 = 2 ∧ 5 = w7.scratch.get 1) ∧ (mw 2 3 2 2 2 / 2 ^ 121 % 8, 1) ∈ [(0, 9), (1, (9 + 5) % 2 ^ 32), (3, Nat.land 9 5), (4, Nat.lor 9 5), (5, Nat.xor 9 5)] ∧ mw 2 3 2 2 2 / 2 ^ 188 = 2) ∧
    /- 1.3 -/ ((ms (mw 3 5 2 4 3)).coreUp = true ∧ (ms (mw 3 5 2 4 3)).hdg.slices.get 159 = w7 ∧ w7.st = SliceState.running ∧ w7.first = false ∧ (ms (mw 3 5 2 4 3)).bit Reg.hdgCtrl 0 = false ∧ mw 3 5 2 4 3 = (ms (mw 3 5 2 4 3)).hdg.ucode.get (159 / 8 * 4096 + w7.addr) ∧ mw 3 5 2 4 3 % 2 ^ 40 = 0 ∧ (w7.res.words < if (ms (mw 3 5 2 4 3)).fld Reg.hdgCtrl 15 8 = 0 then 255 else (ms (mw 3 5 2 4 3)).fld Reg.hdgCtrl 15 8) ∧ mw 3 5 2 4 3 / 2 ^ 172 % 8 = 0 ∧ mw 3 5 2 4 3 / 2 ^ 90 % 2 = 0 ∧ mw 3 5 2 4 3 / 2 ^ 69 % 2 = 0 ∧ mw 3 5 2 4 3 / 2 ^ 64 % 2 = 0 ∧ mw 3 5 2 4 3 / 2 ^ 57 % 4 = 0 ∧ mw 3 5 2 4 3 / 2 ^ 55 % 4 = 0 ∧ mw 3 5 2 4 3 / 2 ^ 40 % 4 = 0 ∧ mw 3 5 2 4 3 / 2 ^ 118 % 8 < 5 ∧ mw 3 5 2 4 3 / 2 ^ 99 % 8 < 5 ∧ 9 = w7.scratch.get 0 ∧ (mw 3 5 2 4 3 / 2 ^ 124 % 8 = 0 ∧ 5 = mw 3 5 2 4 3 / 2 ^ 102 % 2 ^ 16 ∨ mw 3 5 2 4 3 / 2 ^ 124 % 8 = 2 ∧ 5 = w7.scratch.get 1) ∧ (mw 3 5 2 4 3 / 2 ^ 121 % 8, 12) ∈ [(0, 9), (1, (9 + 5) % 2 ^ 32), (3, Nat.land 9 5), (4, Nat.lor 9 5), (5, Nat.xor 9 5)] ∧ mw 3 5 2 4 3 / 2 ^ 188 = 3) ∧
    /- 1.4 -/ ((ms (mw 4 4 2 3 4)).coreUp = true ∧ (ms (mw 4 4 2 3 4)).hdg.slices.get 159 = w7 ∧ w7.st = SliceState.running ∧ w7.first = false ∧ (ms (mw 4 4 2 3 4)).bit Reg.hdgCtrl 0 = false ∧ mw 4 4 2 3 4 = (ms (mw 4 4 2 3 4)).hdg.ucode.get (159 / 8 * 4096 + w7.addr) ∧ mw 4 4 2 3 4 % 2 ^ 40 = 0 ∧ (w7.res.words < if (ms (mw 4 4 2 3 4)).fld Reg.hdgCtrl 15 8 = 0 then 255 else (ms (mw 4 4 2 3 4)).fld Reg.hdgCtrl 15 8) ∧ mw 4 4 2 3 4 / 2 ^ 172 % 8 = 0 ∧ mw 4 4 2 3 4 / 2 ^ 90 % 2 = 0 ∧ mw 4 4 2 3 4 / 2 ^ 69 % 2 = 0 ∧ mw 4 4 2 3 4 / 2 ^ 64 % 2 = 0 ∧ mw 4 4 2 3 4 / 2 ^ 57 % 4 = 0 ∧ mw 4 4 2 3 4 / 2 ^ 55 % 4 = 0 ∧ mw 4 4 2 3 4 / 2 ^ 40 % 4 = 0 ∧ mw 4 4 2 3 4 / 2 ^ 118 % 8 < 5 ∧ mw 4 4 2 3 4 / 2 ^ 99 % 8 < 5 ∧ 9 = w7.scratch.get 0 ∧ (mw 4 4 2 3 4 / 2 ^ 124 % 8 = 0 ∧ 5 = mw 4 4 2 3 4 / 2 ^ 102 % 2 ^ 16 ∨ mw 4 4 2 3 4 / 2 ^ 124 % 8 = 2 ∧ 5 = w7.scratch.get 1) ∧ (mw 4 4 2 3 4 / 2 ^ 121 % 8, 13) ∈ [(0, 9), (1, (9 + 5) % 2 ^ 32), (3, Nat.land 9 5), (4, Nat.lor 9 5), (5, Nat.xor 9 5)] ∧ mw 4 4 2 3 4 / 2 ^ 188 = 4) :=
  ⟨by decide +kernel,
   by decide +kernel,
   by decide +kernel,
   by decide +kernel⟩

/-- Clauses of `Obligations.HeadgateParsing`, each with all its hypotheses met together. -/
theorem witness_HeadgateParsing_2 :
    /- 1.5 -/ ((ms (mw 5 0 2 0 0)).coreUp = true ∧ (ms (mw 5 0 2 0 0)).hdg.slices.get 159 = w7 ∧ w7.st = SliceState.running ∧ w7.first = false ∧ (ms (mw 5 0 2 0 0)).bit Reg.hdgCtrl 0 = false ∧ mw 5 0 2 0 0 = (ms (mw 5 0 2 0 0)).hdg.ucode.get (159 / 8 * 4096 + w7.addr) ∧ mw 5 0 2 0 0 % 2 ^ 40 = 0 ∧ (w7.res.words < if (ms (mw 5 0 2 0 0)).fld Reg.hdgCtrl 15 8 = 0 then 255 else (ms (mw 5 0 2 0 0)).fld Reg.hdgCtrl 15 8) ∧ mw 5 0 2 0 0 / 2 ^ 172 % 8 = 0 ∧ mw 5 0 2 0 0 / 2 ^ 90 % 2 = 0 ∧ mw 5 0 2 0 0 / 2 ^ 69 % 2 = 0 ∧ mw 5 0 2 0 0 / 2 ^ 64 % 2 = 0 ∧ mw 5 0 2 0 0 / 2 ^ 57 % 4 = 0 ∧ mw 5 0 2 0 0 / 2 ^ 55 % 4 = 0 ∧ mw 5 0 2 0 0 / 2 ^ 40 % 4 = 0 ∧ mw 5 0 2 0 0 / 2 ^ 118 % 8 < 5 ∧ mw 5 0 2 0 0 / 2 ^ 99 % 8 < 5 ∧ 9 = w7.scratch.get 0 ∧ (mw 5 0 2 0 0 / 2 ^ 124 % 8 = 0 ∧ 5 = mw 5 0 2 0 0 / 2 ^ 102 % 2 ^ 16 ∨ mw 5 0 2 0 0 / 2 ^ 124 % 8 = 2 ∧ 5 = w7.scratch.get 1) ∧ (mw 5 0 2 0 0 / 2 ^ 121 % 8, 9) ∈ [(0, 9), (1, (9 + 5) % 2 ^ 32), (3, Nat.land 9 5), (4, Nat.lor 9 5), (5, Nat.xor 9 5)] ∧ mw 5 0 2 0 0 / 2 ^ 188 = 5) ∧
    /- 1.6 -/ ((ms (mw 6 0 2 0 0)).coreUp = true ∧ (ms (mw 6 0 2 0 0)).hdg.slices.get 159 = w7 ∧ w7.st = SliceState.running ∧ w7.first = false ∧ (ms (mw 6 0 2 0 0)).bit Reg.hdgCtrl 0 = false ∧ mw 6 0 2 0 0 = (ms (mw 6 0 2 0 0)).hdg.ucode.get (159 / 8 * 4096 + w7.addr) ∧ mw 6 0 2 0 0 % 2 ^ 40 = 0 ∧ (w7.res.words < if (ms (mw 6 0 2 0 0)).fld Reg.hdgCtrl 15 8 = 0 then 255 else (ms (mw 6 0 2 0 0)).fld Reg.hdgCtrl 15 8) ∧ mw 6 0 2 0 0 / 2 ^ 172 % 8 = 0 ∧ mw 6 0 2 0 0 / 2 ^ 90 % 2 = 0 ∧ mw 6 0 2 0 0 / 2 ^ 69 % 2 = 0 ∧ mw 6 0 2 0 0 / 2 ^ 64 % 2 = 0 ∧ mw 6 0 2 0 0 / 2 ^ 57 % 4 = 0 ∧ mw 6 0 2 0 0 / 2 ^ 55 % 4 = 0 ∧ mw 6 0 2 0 0 / 2 ^ 40 % 4 = 0 ∧ mw 6 0 2 0 0 / 2 ^ 118 % 8 < 5 ∧ mw 6 0 2 0 0 / 2 ^ 99 % 8 < 5 ∧ 9 = w7.scratch.get 0 ∧ (mw 6 0 2 0 0 / 2 ^ 124 % 8 = 0 ∧ 5 = mw 6 0 2 0 0 / 2 ^ 102 % 2 ^ 16 ∨ mw 6 0 2 0 0 / 2 ^ 124 % 8 = 2 ∧ 5 = w7.scratch.get 1) ∧ (mw 6 0 2 0 0 / 2 ^ 121 % 8, 9) ∈ [(0, 9), (1, (9 + 5) % 2 ^ 32), (3, Nat.land 9 5), (4, Nat.lor 9 5), (5, Nat.xor 9 5)] ∧ mw 6 0 2 0 0 / 2 ^ 188 = 6) ∧
    /- 1.7 -/ ((ms (mw 7 0 2 0 0)).coreUp = true ∧ (ms (mw 7 0 2 0 0)).hdg.slices.get 159 = w7 ∧ w7.st = SliceState.running ∧ w7.first = false ∧ (ms (mw 7 0 2 0 0)).bit Reg.hdgCtrl 0 = false ∧ mw 7 0 2 0 0 = (ms (mw 7 0 2 0 0)).hdg.ucode.get (159 / 8 * 4096 + w7.addr) ∧ mw 7 0 2 0 0 % 2 ^ 40 = 0 ∧ (w7.res.words < if (ms (mw 7 0 2 0 0)).fld Reg.hdgCtrl 15 8 = 0 then 255 else (ms (mw 7 0 2 0 0)).fld Reg.hdgCtrl 15 8) ∧ mw 7 0 2 0 0 / 2 ^ 172 % 8 = 0 ∧ mw 7 0 2 0 0 / 2 ^ 90 % 2 = 0 ∧ mw 7 0 2 0 0 / 2 ^ 69 % 2 = 0 ∧ mw 7 0 2 0 0 / 2 ^ 64 % 2 = 0 ∧ mw 7 0 2 0 0 / 2 ^ 57 % 4 = 0 ∧ mw 7 0 2 0 0 / 2 ^ 55 % 4 = 0 ∧ mw 7 0 2 0 0 / 2 ^ 40 % 4 = 0 ∧ mw 7 0 2 0 0 / 2 ^ 118 % 8 < 5 ∧ mw 7 0 2 0 0 / 2 ^ 99 % 8 < 5 ∧ 9 = w7.scratch.get 0 ∧ (mw 7 0 2 0 0 / 2 ^ 124 % 8 = 0 ∧ 5 = mw 7 0 2 0 0 / 2 ^ 102 % 2 ^ 16 ∨ mw 7 0 2 0 0 / 2 ^ 124 % 8 = 2 ∧ 5 = w7.scratch.get 1) ∧ (mw 7 0 2 0 0 / 2 ^ 121 % 8, 9) ∈ [(0, 9), (1, (9 + 5) % 2 ^ 32), (3, Nat.land 9 5), (4, Nat.lor 9 5), (5, Nat.xor 9 5)] ∧ mw 7 0 2 0 0 / 2 ^ 188 = 7) ∧
    /- 1.8 -/ ((ms (mw 8 0 2 0 0)).coreUp = true ∧ (ms (mw 8 0 2 0 0)).hdg.slices.get 159 = w7 ∧ w7.st = SliceState.running ∧ w7.first = false ∧ (ms (mw 8 0 2 0 0)).bit Reg.hdgCtrl 0 = false ∧ mw 8 0 2 0 0 = (ms (mw 8 0 2 0 0)).hdg.ucode.get (159 / 8 * 4096 + w7.addr) ∧ mw 8 0 2 0 0 % 2 ^ 40 = 0 ∧ (w7.res.words < if (ms (mw 8 0 2 0 0)).fld Reg.hdgCtrl 15 8 = 0 then 255 else (ms (mw 8 0 2 0 0)).fld Reg.hdgCtrl 15 8) ∧ mw 8 0 2 0 0 / 2 ^ 172 % 8 = 0 ∧ mw 8 0 2 0 0 / 2 ^ 90 % 2 = 0 ∧ mw 8 0 2 0 0 / 2 ^ 69 % 2 = 0 ∧ mw 8 0 2 0 0 / 2 ^ 64 % 2 = 0 ∧ mw 8 0 2 0 0 / 2 ^ 57 % 4 = 0 ∧ mw 8 0 2 0 0 / 2 ^ 55 % 4 = 0 ∧ mw 8 0 2 0 0 / 2 ^ 40 % 4 = 0 ∧ mw 8 0 2 0 0 / 2 ^ 118 % 8 < 5 ∧ mw 8 0 2 0 0 / 2 ^ 99 % 8 < 5 ∧ 9 = w7.scratch.get 0 ∧ (mw 8 0 2 0 0 / 2 ^ 124 % 8 = 0 ∧ 5 = mw 8 0 2 0 0 / 2 ^ 102 % 2 ^ 16 ∨ mw 8 0 2 0 0 / 2 ^ 124 % 8 = 2 ∧ 5 = w7.scratch.get 1) ∧ (mw 8 0 2 0 0 / 2 ^ 121 % 8, 9) ∈ [(0, 9), (1, (9 + 5) % 2 ^ 32), (3, Nat.land 9 5), (4, Nat.lor 9 5), (5, Nat.xor 9 5)] ∧ mw 8 0 2 0 0 / 2 ^ 188 = 8 ∧ w7.stack.length < 4) :=
  ⟨by decide +kernel,
   by decide +kernel,
   by decide +kernel,
   by decide +kernel⟩

/-- Clauses of `Obligations.HeadgateParsing`, each with all its hypotheses met together. -/
theorem witness_HeadgateParsing_3 :
    /- 1.9 -/ ((ms (mw 9 0 2 0 0)).coreUp = true ∧ (ms (mw 9 0 2 0 0)).hdg.slices.get 159 = w7 ∧ w7.st = SliceState.running ∧ w7.first = false ∧ (ms (mw 9 0 2 0 0)).bit Reg.hdgCtrl 0 = false ∧ mw 9 0 2 0 0 = (ms (mw 9 0 2 0 0)).hdg.ucode.get (159 / 8 * 4096 + w7.addr) ∧ mw 9 0 2 0 0 % 2 ^ 40 = 0 ∧ (w7.res.words < if (ms (mw 9 0 2 0 0)).fld Reg.hdgCtrl 15 8 = 0 then 255 else (ms (mw 9 0 2 0 0)).fld Reg.hdgCtrl 15 8) ∧ mw 9 0 2 0 0 / 2 ^ 172 % 8 = 0 ∧ mw 9 0 2 0 0 / 2 ^ 90 % 2 = 0 ∧ mw 9 0 2 0 0 / 2 ^ 69 % 2 = 0 ∧ mw 9 0 2 0 0 / 2 ^ 64 % 2 = 0 ∧ mw 9 0 2 0 0 / 2 ^ 57 % 4 = 0 ∧ mw 9 0 2 0 0 / 2 ^ 55 % 4 = 0 ∧ mw 9 0 2 0 0 / 2 ^ 40 % 4 = 0 ∧ mw 9 0 2 0 0 / 2 ^ 118 % 8 < 5 ∧ mw 9 0 2 0 0 / 2 ^ 99 % 8 < 5 ∧ 9 = w7.scratch.get 0 ∧ (mw 9 0 2 0 0 / 2 ^ 124 % 8 = 0 ∧ 5 = mw 9 0 2 0 0 / 2 ^ 102 % 2 ^ 16 ∨ mw 9 0 2 0 0 / 2 ^ 124 % 8 = 2 ∧ 5 = w7.scratch.get 1) ∧ (mw 9 0 2 0 0 / 2 ^ 121 % 8, 9) ∈ [(0, 9), (1, (9 + 5) % 2 ^ 32), (3, Nat.land 9 5), (4, Nat.lor 9 5), (5, Nat.xor 9 5)] ∧ mw 9 0 2 0 0 / 2 ^ 188 = 9 ∧ w7.stack = 3 :: w2) ∧
    /- 1.10 -/ ((ms (mw 10 0 2 0 0)).coreUp = true ∧ (ms (mw 10 0 2 0 0)).hdg.slices.get 159 = w7 ∧ w7.st = SliceState.running ∧ w7.first = false ∧ (ms (mw 10 0 2 0 0)).bit Reg.hdgCtrl 0 = false ∧ mw 10 0 2 0 0 = (ms (mw 10 0 2 0 0)).hdg.ucode.get (159 / 8 * 4096 + w7.addr) ∧ mw 10 0 2 0 0 % 2 ^ 40 = 0 ∧ (w7.res.words < if (ms (mw 10 0 2 0 0)).fld Reg.hdgCtrl 15 8 = 0 then 255 else (ms (mw 10 0 2 0 0)).fld Reg.hdgCtrl 15 8) ∧ mw 10 0 2 0 0 / 2 ^ 172 % 8 = 0 ∧ mw 10 0 2 0 0 / 2 ^ 90 % 2 = 0 ∧ mw 10 0 2 0 0 / 2 ^ 69 % 2 = 0 ∧ mw 10 0 2 0 0 / 2 ^ 64 % 2 = 0 ∧ mw 10 0 2 0 0 / 2 ^ 57 % 4 = 0 ∧ mw 10 0 2 0 0 / 2 ^ 55 % 4 = 0 ∧ mw 10 0 2 0 0 / 2 ^ 40 % 4 = 0 ∧ mw 10 0 2 0 0 / 2 ^ 118 % 8 < 5 ∧ mw 10 0 2 0 0 / 2 ^ 99 % 8 < 5 ∧ 9 = w7.scratch.get 0 ∧ (mw 10 0 2 0 0 / 2 ^ 124 % 8 = 0 ∧ 5 = mw 10 0 2 0 0 / 2 ^ 102 % 2 ^ 16 ∨ mw 10 0 2 0 0 / 2 ^ 124 % 8 = 2 ∧ 5 = w7.scratch.get 1) ∧ (mw 10 0 2 0 0 / 2 ^ 121 % 8, 9) ∈ [(0, 9), (1, (9 + 5) % 2 ^ 32), (3, Nat.land 9 5), (4, Nat.lor 9 5), (5, Nat.xor 9 5)] ∧ mw 10 0 2 0 0 / 2 ^ 188 = 10) ∧
    /- 1.11 -/ (w8.coreUp = true ∧ w8.hdg.slices.get 159 = w7 ∧ w7.st = SliceState.running ∧ w7.first = false ∧ w8.bit Reg.hdgCtrl 0 = false ∧ mw 12 0 2 0 0 (31 * 2 ^ 50) = w8.hdg.ucode.get (159 / 8 * 4096 + w7.addr) ∧ mw 12 0 2 0 0 (31 * 2 ^ 50) % 2 ^ 40 = 0 ∧ (w7.res.words < if w8.fld Reg.hdgCtrl 15 8 = 0 then 255 else w8.fld Reg.hdgCtrl 15 8) ∧ mw 12 0 2 0 0 (31 * 2 ^ 50) / 2 ^ 172 % 8 = 0 ∧ mw 12 0 2 0 0 (31 * 2 ^ 50) / 2 ^ 90 % 2 = 0 ∧ mw 12 0 2 0 0 (31 * 2 ^ 50) / 2 ^ 69 % 2 = 0 ∧ mw 12 0 2 0 0 (31 * 2 ^ 50) / 2 ^ 64 % 2 = 0 ∧ mw 12 0 2 0 0 (31 * 2 ^ 50) / 2 ^ 57 % 4 = 0 ∧ mw 12 0 2 0 0 (31 * 2 ^ 50) / 2 ^ 55 % 4 = 0 ∧ mw 12 0 2 0 0 (31 * 2 ^ 50) / 2 ^ 40 % 4 = 0 ∧ mw 12 0 2 0 0 (31 * 2 ^ 50) / 2 ^ 118 % 8 < 5 ∧ mw 12 0 2 0 0 (31 * 2 ^ 50) / 2 ^ 99 % 8 < 5 ∧ 9 = w7.scratch.get 0 ∧ (mw 12 0 2 0 0 (31 * 2 ^ 50) / 2 ^ 124 % 8 = 0 ∧ 5 = mw 12 0 2 0 0 (31 * 2 ^ 50) / 2 ^ 102 % 2 ^ 16 ∨ mw 12 0 2 0 0 (31 * 2 ^ 50) / 2 ^ 124 % 8 = 2 ∧ 5 = w7.scratch.get 1) ∧ (mw 12 0 2 0 0 (31 * 2 ^ 50) / 2 ^ 121 % 8, 9) ∈ [(0, 9), (1, (9 + 5) % 2 ^ 32), (3, Nat.land 9 5), (4, Nat.lor 9 5), (5, Nat.xor 9 5)] ∧ mw 12 0 2 0 0 (31 * 2 ^ 50) / 2 ^ 188 = 12) ∧
    /- 2.1 -/ ((pe 0).coreUp = true ∧ ((pe 0).hdg.slices.get 127).st = SliceState.waiting ∧ ((pe 0).hdg.slices.get 127).res = w9 ∧ w9.group = 15 ∧ ((pe 0).hdg.inflight.get 15).head? = some 127 ∧ ((pe 0).hdg.inflight.get 15).Nodup ∧ bitAt w9.flags 0 = false ∧ (pe 0).backPressure = false ∧ ¬300 ≤ (List.map (fun (e : ℕ × List ParseResult) => e.2.length) (pe 0).hdg.out.entries).sum + (pe 0).tables.out.length) :=
  ⟨by decide +kernel,
   by decide +kernel,
   by decide +kernel,
   by decide +kernel⟩

/-- Clauses of `Obligations.HeadgateParsing`, each with all its hypotheses met together. -/
theorem witness_HeadgateParsing_4 :
    /- 2.2 -/ (w10.coreUp = true ∧ (w10.hdg.slices.get 127).st = SliceState.waiting ∧ (w10.hdg.slices.get 127).res = w9 ∧ w9.group = 15 ∧ (w10.hdg.inflight.get 15).head? = some 127 ∧ (w10.hdg.inflight.get 15).Nodup ∧ bitAt w9.flags 0 = false ∧ (w10.backPressure = true ∨ 300 ≤ (List.map (fun (e : ℕ × List ParseResult) => e.2.length) w10.hdg.out.entries).sum + w10.tables.out.length)) ∧
    /- 2.3 -/ ((pe 1 31 1).coreUp = true ∧ ((pe 1 31 1).hdg.slices.get 127).st = SliceState.waiting ∧ ((pe 1 31 1).hdg.slices.get 127).res = w11 ∧ w11.group = 15 ∧ ((pe 1 31 1).hdg.inflight.get 15).head? = some 127 ∧ ((pe 1 31 1).hdg.inflight.get 15).Nodup ∧ bitAt w11.flags 0 = true ∧ ((pe 1 31 1).hdg.slices.get 127).action = 1 ∧ (pe 1 31 1).backPressure = false ∧ ¬300 ≤ (List.map (fun (e : ℕ × List ParseResult) => e.2.length) (pe 1 31 1).hdg.out.entries).sum + (pe 1 31 1).tables.out.length ∧ w11.reason < 32) ∧
    /- 2.4 -/ ((pe 1 31 2).coreUp = true ∧ ((pe 1 31 2).hdg.slices.get 127).st = SliceState.waiting ∧ ((pe 1 31 2).hdg.slices.get 127).res = w11 ∧ w11.group = 15 ∧ ((pe 1 31 2).hdg.inflight.get 15).head? = some 127 ∧ ((pe 1 31 2).hdg.inflight.get 15).Nodup ∧ bitAt w11.flags 0 = true ∧ ((pe 1 31 2).hdg.slices.get 127).action = 2 ∧ w11.reason < 32) ∧
    /- 2.5 -/ ((pe 1 31).coreUp = true ∧ ((pe 1 31).hdg.slices.get 127).st = SliceState.waiting ∧ ((pe 1 31).hdg.slices.get 127).res = w11 ∧ w11.group = 15 ∧ ((pe 1 31).hdg.inflight.get 15).head? = some 127 ∧ ((pe 1 31).hdg.inflight.get 15).Nodup ∧ bitAt w11.flags 0 = true ∧ ((pe 1 31).hdg.slices.get 127).action = 0 ∧ w11.reason < 32) :=
  ⟨by decide +kernel,
   by decide +kernel,
   by decide +kernel,
   by decide +kernel⟩

/-- Clauses of `Obligations.HeadgateParsing`, each with all its hypotheses met together. -/
theorem witness_HeadgateParsing_5 :
    /- 3 -/ (w12.coreUp = true ∧ w12.reaches 0 Reg.hdgUcCmd ∧ Wbits 17 1 0 = 1) ∧
    /- 4 -/ (w13.coreUp = true ∧ w13.reaches 0 Reg.hdgUcCmd ∧ Wbits 18 1 0 = 2 ∧ w13.fld Reg.hdgUcAddr 20 16 < 20) ∧
    /- 5 -/ (w13.coreUp = true ∧ w13.reaches 0 Reg.hdgCtrl) :=
  ⟨by unfold State.reaches; decide +kernel,
   by unfold State.reaches; decide +kernel,
   by unfold State.reaches; decide +kernel⟩

/-- Clauses of `Obligations.ContextLife`, each with all its hypotheses met together. -/
theorem witness_ContextLife :
    /- 1 -/ (cb.coreUp = true ∧ cb.tables.out = lr :: w14 ∧ cb.dsp.ctxs.wf = true ∧ cb.freeCtxs ≠ 0 ∧ lowest (fun (c : ℕ) => (cb.ctx c).st = CtxState.free) 0 ∧ 65535 = cb.domainOf lr (cb.flowHashOf lr) ∧ 0 = (cb.dsp.rr + 1) % 16 ∧ cb.clEnabled 0 = true ∧ cb.clHeld 0 < cb.clLimit ∧ (cb.dsp.buildCycle = cb.parseCycle → List.count 0 cb.dsp.accepted < 2)) ∧
    /- 3 -/ (w15.coreUp = true ∧ w15.tables.out = lr :: w14 ∧ w15.freeCtxs = 0) ∧
    /- 2 -/ (w16.coreUp = true ∧ w16.freeCtxs ≠ 0 ∧ w16.dsp.buildCycle = w16.parseCycle ∧ (∀ n < 16, w16.clEnabled n = true → 2 ≤ List.count n w16.dsp.accepted)) ∧
    /- 4 -/ ((w17.coreUp = true ∧ w17.dsp.ctxs.wf = true ∧ (w17.ctx 9).st = CtxState.ready ∧ (w17.ctx 9).cluster = 15) ∧ (∀ (k : ℕ), k ≠ 9 → (w17.ctx k).st = CtxState.ready → (w17.ctx k).cluster = 15 → isBefore (w17.ctx 9).deadline (w17.ctx k).deadline 32 = true) ∧ (∀ (k : ℕ), (w17.ctx k).st = CtxState.slotted → (w17.ctx k).cluster = 15 → (w17.ctx k).engine ≠ 15)) :=
  ⟨by unfold lowest; decide +kernel,
   by decide +kernel,
   by decide +kernel,
   ⟨by decide +kernel,
    forallGet w17.dsp.ctxs (fun k e => k ≠ 9 → e.st = CtxState.ready → e.cluster = 15 → isBefore (w17.ctx 9).deadline e.deadline 32 = true) (by decide +kernel) fun _ => by first | decide +revert | (intro _ h; exact absurd h (by decide)),
    forallGet w17.dsp.ctxs (fun k e => e.st = CtxState.slotted → e.cluster = 15 → e.engine ≠ 15) (by decide +kernel) fun _ => by first | decide +revert | (intro _ h; exact absurd h (by decide))⟩⟩

/-- Clauses of `Obligations.ContextLife`, each with all its hypotheses met together. -/
theorem witness_ContextLife_2 :
    /- 5 -/ ((w18.coreUp = true ∧ w18.dsp.ctxs.wf = true ∧ (w18.ctx 9).st = CtxState.slotted ∧ (w18.ctx 9).cluster = 15 ∧ (w18.ctx 9).engine = 15 ∧ (w18.thr 15 15 7).ctx = none) ∧ (∀ (k : ℕ), k ≠ 9 → (w18.ctx k).st = CtxState.slotted → (w18.ctx k).cluster = 15 → (w18.ctx k).engine = 15 → isBefore (w18.ctx 9).deadline (w18.ctx k).deadline 32 = true)) ∧
    /- 6 -/ ((rn id).coreUp = true ∧ (rn id).ctx 8191 = cR id ∧ ((cR id).st = CtxState.running ∨ (cR id).st = CtxState.exception) ∧ (cR id).ending ≠ Ending.none ∧ (cR id).cluster < 16) ∧
    /- 7.1 -/ (w19.coreUp = true ∧ w19.ctx 8191 = w20 ∧ w20.st = CtxState.ended ∧ w19.dsp.ctxs.wf = true ∧ w20.seq ≠ w19.dsp.relSeq.get w20.domain) ∧
    /- 7.2 -/ (w21.coreUp = true ∧ w21.ctx 8191 = w20 ∧ w20.st = CtxState.ended ∧ w21.dsp.ctxs.wf = true ∧ w21.boot.stop ≠ StopKind.none) :=
  ⟨⟨by decide +kernel,
    forallGet w18.dsp.ctxs (fun k e => k ≠ 9 → e.st = CtxState.slotted → e.cluster = 15 → e.engine = 15 → isBefore (w18.ctx 9).deadline e.deadline 32 = true) (by decide +kernel) fun _ => by first | decide +revert | (intro _ h; exact absurd h (by decide))⟩,
   by decide +kernel,
   by decide +kernel,
   by decide +kernel⟩

/-- Clauses of `Obligations.ContextLife`, each with all its hypotheses met together. -/
theorem witness_ContextLife_3 :
    /- 7.3 -/ (w22.coreUp = true ∧ w22.ctx 8191 = w20 ∧ w20.st = CtxState.ended ∧ w22.dsp.ctxs.wf = true ∧ w22.dsp.relCycle = w22.parseCycle ∧ (20 ≤ w22.dsp.released.length ∨ w20.domain ∈ w22.dsp.released)) ∧
    /- 7.4 -/ ((w23.coreUp = true ∧ w23.ctx 8191 = w24 ∧ w24.st = CtxState.ended ∧ w23.dsp.ctxs.wf = true ∧ w24.seq = w23.dsp.relSeq.get w24.domain ∧ w23.boot.stop = StopKind.none ∧ (w23.dsp.relCycle = w23.parseCycle → w23.dsp.released.length < 20 ∧ w24.domain ∉ w23.dsp.released) ∧ w24.ending = Ending.drop 12 ∧ w24.siphonEn = false ∧ (w23.pkt w24.pkt).incomplete = false) ∧ (∀ (k : ℕ), k ≠ 8191 → (w23.ctx k).st = CtxState.ended → (w23.ctx k).seq = w23.dsp.relSeq.get (w23.ctx k).domain → w24.readyAt < (w23.ctx k).readyAt ∨ w24.readyAt = (w23.ctx k).readyAt ∧ 8191 < k) ∧ (∀ (v : ℕ), (w23.pkt w24.pkt).verdict = some v → v = 0)) ∧
    /- 8 -/ (w25.coreUp = true ∧ w25.ctx 8191 = w26 ∧ w26.st = CtxState.running ∧ w26.ending = Ending.none ∧ max 1000 (w25.fld Reg.dspWd 19 0) ≤ (w25.flume.cycles - w26.wdFrom) / 1000000 ∧ w26.cluster < 16 ∧ (w25.thr w26.cluster w26.engine w26.thread).ctx = some 8191) ∧
    /- 9 -/ (w27.coreUp = true ∧ w27.ctx 8191 = w28 ∧ w28.st = CtxState.exception ∧ w28.ending = Ending.none ∧ max 100 (w27.fld Reg.dspExcWd 19 0) ≤ (w27.flume.cycles - w28.wdFrom) / 1000000 ∧ w28.cluster < 16) :=
  ⟨by decide +kernel,
   ⟨by decide +kernel,
    forallGet w23.dsp.ctxs (fun k e => k ≠ 8191 → e.st = CtxState.ended → e.seq = w23.dsp.relSeq.get e.domain → w24.readyAt < e.readyAt ∨ w24.readyAt = e.readyAt ∧ 8191 < k) (by decide +kernel) fun _ => by first | decide +revert | (intro _ h; exact absurd h (by decide)),
    fun v h => by
    rcases (show (w23.pkt w24.pkt).verdict = none ∨ (w23.pkt w24.pkt).verdict = some 0 by decide +kernel) with e | e <;> rw [e] at h <;> cases h <;> rfl⟩,
   by decide +kernel,
   by decide +kernel⟩

end Sys2Proof.Tests.L
end

