-- ==== Sys2Proof/Tests/WitnessQueues.lean ====
section
/-! SUPPORT. Witnesses: for every clause of a statement, a concrete state and operands that meet its hypotheses together. -/
set_option Elab.async false
set_option linter.all false

namespace Sys2Proof.Tests.M
open Sys2Proof Sys2Proof.Machine Sys2Proof.Tests

def img0 (n : Nat) : List Byte := [0x80, 4] ++ leBytes 7 2 ++ leBytes 3 2 ++ leBytes 0 2 ++ leBytes 0 8 ++ [1,2,3,4] ++ (List.range (n-20)).map fun i => BitVec.ofNat 8 (250 - i)
def K := recKey 15 5
def fs (geom : Nat) (l : List LogEntry) (img : List Byte) (c : FlowCtx) (f : State → State := id) : State :=
  let s := { (up.setFld Reg.fleGeom 31 30 geom).setFld Reg.fleGeom 4 0 10 with tb.sec := 5, tb.ns := 77 }
  f { s with flow.lines := ({} : SMap FlowLine).set K { have_ := 15, data := putBytes {} 0 img }, flow.logs := SMap.set {} K l, flow.insts := SMap.set {} 4 c }
def c0 : FlowCtx := {live := true, ctx := 7, pkt := 1, ended := true, verdict := some 0, touched := [K]}
def e0 : LogEntry := {seq := 1, inst := 4, cluster := 1, fn := 4, gen := 7, roff := 0x38, bytes := [1,2,3,4], ns := 88, results := [0]}
def cr (ok : Bool) : FlowCtx := {c0 with resolved := some ok, touched := []}
def ap (e : LogEntry) (img : List Byte) (g : Nat := 0) := applyEntry (fs g [e] img (cr true)).recSize K ((fs g [e] img (cr true)).entryHash e) ((fs g [e] img (cr true)).committed K) e
def nt : FlowNotice := {cause := 3, key := K, gen := 7, tenant := 3, keyLen := 4, record := img0 64}
def rg (en : Bool) (f : State → State := id) : State := fs 0 [] (img0 64) c0 fun s => f {((s.wr (Reg.fleEqBaseHi 0) (if en then 0x80000022 else 0x22)).wr (Reg.fleEqBaseHi 1) (if en then 0x80000022 else 0x22)).wr (Reg.evcRoute 193) 31 with flow.eqNotices := [nt], flow.eqSeq := 65535, flow.sqNotices := [nt]}
def sw (m : Nat) : Sweep := {mode := m, mask := 0x8000, pos := SMap.set {} 15 5}
def swS (m : Nat) (img : List Byte) (f : State → State := id) : State := fs 0 [] img {c0 with touched := []} fun s => f {s with flow.sweep := some (sw m)}
def old : List Byte := (img0 64).take 0x38 ++ leBytes 4999999999 8
def exS (f : State → State := id) : State := rg true fun s => f {((s.wr Reg.fleExpBaseHi 0x80000023).wr Reg.fleExpProd 0).wr Reg.fleExpCons 0xFFFFFFFF with mem := s.mem.putBytes (0x2300000000+1023*128) ((List.range 128).map fun i => BitVec.ofNat 8 (i+5)) }
def mm : IpfixMsg := exS.newMsg
def m1 : IpfixMsg := {mm with records := [List.replicate 81 3, List.replicate 81 4]}
def w1 : State := fs 0 [e0] (img0 64) c0
def w2 : State := fs 0 [e0] (img0 64) {c0 with ended := false}
def w3 : State := fs 0 [e0] (img0 64) (cr false)
def w4 : List LogEntry := []
def w5 : State := fs 0 [e0] (img0 64) (cr true)
def w6 : State := fs 0 [] (img0 64) c0
def w7 : List FlowNotice := []
def w8 : State := swS 3 old fun s => {s with flow.sqNotices := [nt]}
def w9 : List Byte := exS.mem.getBytes (exS.ringBase exportRing + 128 * (0xFFFFFFFF % exS.ringSize exportRing)) 128
def w11 : State := exS fun s => {s with flow.msg := some {m1 with closed := true}}
def w12 : IpfixMsg := {m1 with closed := true}

/-- Clauses of `Obligations.StagedEntries`, each with all its hypotheses met together. -/
theorem witness_StagedEntries :
    /- 1 -/ (w1.coreUp = true ∧ (w1.inst 4).due = true) ∧
    /- 2 -/ (w2.coreUp = true ∧ (w2.inst 4).due = false) ∧
    /- 3 -/ (w3.coreUp = true ∧ w3.nextHead (some 15) = some (K, e0) ∧ w3.log K = e0 :: w4 ∧ (w3.inst e0.inst).resolved = some false) ∧
    /- 4 -/ (w5.coreUp = true ∧ w5.nextHead (some 15) = some (K, e0) ∧ w5.log K = e0 :: w4 ∧ (w5.inst e0.inst).resolved = some true ∧ w5.cached K ∧ (∀ h ∈ w5.entryHops K e0, w5.cached h) ∧ ((ap e0 (img0 64)).1, (ap e0 (img0 64)).2) = applyEntry w5.recSize K (w5.entryHash e0) (w5.committed K) e0 ∧ (ap e0 (img0 64)).1.length = w5.recSize) :=
  ⟨by decide +kernel,
   by decide +kernel,
   by decide +kernel,
   by unfold State.cached; decide +kernel⟩

/-- Clauses of `Obligations.StagedEntries`, each with all its hypotheses met together. -/
theorem witness_StagedEntries_2 :
    /- 5 -/ (w6.coreUp = true ∧ w6.nextHead (some 15) = none) ∧
    /- 6 -/ ((rg true).coreUp = true ∧ (rg true).flow.eqNotices = nt :: w7 ∧ (rg true).ringTakes (fleRing 0) = true) ∧
    /- 7 -/ ((rg false).coreUp = true ∧ (rg false).flow.eqNotices = nt :: w7 ∧ (rg false).ringTakes (fleRing 0) = false) ∧
    /- 8 -/ ((rg true).coreUp = true ∧ (rg true).flow.sweep = none ∧ (rg true).flow.sqNotices = nt :: w7) :=
  ⟨by decide +kernel,
   by decide +kernel,
   by decide +kernel,
   by decide +kernel⟩

/-- Clauses of `Obligations.SweepsAndExport`, each with all its hypotheses met together. -/
theorem witness_SweepsAndExport :
    /- 1 -/ ((rg true).coreUp = true ∧ (rg true).reaches 0 Reg.fleSweepCmd ∧ Wbits 4294901761 2 0 = 1 ∧ (rg true).cmdBusy Reg.fleSweepResult = false) ∧
    /- 2 -/ ((swS 1 (img0 64)).coreUp = true ∧ (swS 1 (img0 64)).flow.sweep = some (sw 1) ∧ bitAt (sw 1).mask 15 = true ∧ (sw 1).abort = false ∧ (swS 1 (img0 64)).flow.sqNotices = [] ∧ K = recKey 15 ((sw 1).pos.get 15) ∧ (sw 1).pos.get 15 + 1 < (swS 1 (img0 64)).buckets * 8 ∧ (recValid ((swS 1 (img0 64)).committed K) = true → (swS 1 (img0 64)).lineHeld K = false → (swS 1 (img0 64)).cached K) ∧ ((sw 1).mode = 3 → recDisplaced ((swS 1 (img0 64)).committed K) = true → (swS 1 (img0 64)).cached ((swS 1 (img0 64)).homeKey ((swS 1 (img0 64)).committed K)))) ∧
    /- 3 -/ ((swS 3 old).coreUp = true) ∧
    /- 4 -/ (w8.coreUp = true ∧ w8.reaches 0 Reg.fleSweepAbort ∧ Wbits 1 0 0 = 1 ∧ w8.flow.sweep = some (sw 3)) :=
  ⟨by unfold State.reaches; decide +kernel,
   by unfold State.cached; decide +kernel,
   by decide +kernel,
   by unfold State.reaches; decide +kernel⟩

/-- Clauses of `Obligations.SweepsAndExport`, each with all its hypotheses met together. -/
theorem witness_SweepsAndExport_2 :
    /- 5 -/ (exS.coreUp = true ∧ exS.flow.msg.getD exS.newMsg = mm ∧ mm.full = false ∧ exS.rd Reg.fleExpProd ≠ exS.rd Reg.fleExpCons ∧ 4294967295 = BitVec.toNat (exS.rd Reg.fleExpCons) ∧ w9 = exS.mem.getBytes (exS.ringBase exportRing + 128 * (4294967295 % exS.ringSize exportRing)) 128) ∧
    /- 6 -/ (exS.coreUp = true) ∧
    /- 7 -/ (w11.coreUp = true ∧ w11.flow.msg = some w12 ∧ w12.records ≠ [] ∧ (w12.full = true ∨ w11.expHoldMs ≤ 0)) ∧
    /- 8 -/ (exS.coreUp = true) :=
  ⟨by decide +kernel,
   by decide +kernel,
   by decide +kernel,
   by decide +kernel⟩

end Sys2Proof.Tests.M

namespace Sys2Proof.Tests.N
open Sys2Proof Sys2Proof.Machine Sys2Proof.Tests

def eg (p q : Nat) (f : State → State := id) (v : Option Nat := none) : State :=
  f { (up.setBit (Reg.portCtrl (groupOf p) (subOf p)) 31 true) with
    ports := SMap.set {} p {state := 5}
    qm.pkts := SMap.set {} 1 {live := true, bytes := (List.range 70).map fun i => BitVec.ofNat 8 i, verdict := some 0, refs := 1, cells := [0], voq := v}, qm.nextPkt := 2
    qm.copies := SMap.set {} 4 {st := .queued, pkt := 1, port := p, queue := q, voq := v}, qm.nextCopy := 5
    qm.queues := (if v = none then SMap.set {} (qKey p q) [4] else {})
    qm.shared := v.isNone, stk.links := SMap.set {} 3 {state := 3}
    qm.voqs := (match v with | none => {} | some g => SMap.set {} (voqKey g p q) [4]) }
def G (s : State) (p : Nat) : TierChoice := (s.groupChoice p).getD ⟨0,{},0⟩
def Q (s : State) (p : Nat) : TierChoice := (s.queueChoice p (G s p).id).getD ⟨0,{},0⟩
def mb : List Member' := [⟨0, some 3, true, 1⟩, ⟨2, none, true, 1⟩, ⟨5, some 4, true, 9⟩]
def chs (p q : Nat) (f : State → State := id) : State := eg p q fun s => f {s with qm.queues := {}, qm.copies := s.qm.copies.set 4 {s.qm.copies.get 4 with st := .chosen}, sch.tx := SMap.set {} p {chosen := some 4}}
def snd (r : Nat) (f : State → State := id) : State := eg 131 11 fun s => f {s with qm.queues := {}, qm.copies := s.qm.copies.set 4 {s.qm.copies.get 4 with st := .sending}, qm.pkts := s.qm.pkts.set 1 {s.qm.pkts.get 1 with refs := r}, sch.tx := SMap.set {} 131 {sending := some 4, wire := List.replicate 74 3}}
def edgeAt (us : Nat) (s : State) : State := {s with tb.sec := 0, tb.ns := us * 1000 - 1, tb.frac := 0}
def smp (en : Bool) (f : State → State := id) : State := f (((eg 131 11).setBit (Reg.schQsch 131 11) 31 true).wr Reg.schSrBaseHi (if en then 0x80000030 else 0x30))
def mc (f : State → State := id) : State := f ((((up.wr (Reg.qmMcData 4) 0xFFFFFFFF).wr (Reg.qmMcData 0) 0x1234).wr (Reg.qmMcData 1) 0xFFFFFFFF).wr Reg.qmMcSel 4095)
def pl (f : State → State := id) : State := f { up with bpm.pools := ((SMap.set {} 1 { built := true, base := 0x2000000000, count := 10, next := 5 }).set 4 { built := true, base := 0x2100000000, count := 100, next := 5, freed := [3] }), bpm.bufs := SMap.set {} (2^24+3) {owner := 63, refs := 1}, bpm.held := SMap.set {} (63*5+1) 1 }
def V (k : Nat) : Word := BitVec.ofNat 32 (k + 63*256)
def hh (f : State → State := id) : State := pl fun s => f (s.wr Reg.bpmArg0 0x10000003)
def pb (b n : Nat) (f : State → State := id) : State := pl fun s => f (((({s with bpm.held := {}}.wr Reg.bpmArg0 3).wr (Reg.bpmPoolBaseLo 3) (BitVec.ofNat 32 b)).wr (Reg.bpmPoolBaseHi 3) (BitVec.ofNat 32 (b / 2^32))).wr (Reg.bpmPoolCount 3) (BitVec.ofNat 32 n))
def w1 : SMap ℤ := {}
def w2 : TierChoice := ⟨5,{},3⟩
def w3 : ℕ → ℕ := fun i => i
def w4 : TierChoice := (drrChoose (fun i => i) mb 3 {}).getD ⟨0,{},0⟩
def w5 : State := {eg 131 11 with sch.tx := SMap.set {} 131 {pfcDue := [true, false]}}
def w6 : List Bool := [false]
def w7 : State := (eg 131 11).setBit (Reg.schPfcCfg 131) 31 true |>.setBit (Reg.schPfcStat 131) 31 true
def w8 : State := edgeAt 99 {up with sch.lastSample := some 100}
def w9 : State := mc fun s => {s with qm.groups := SMap.set {} 4095 (2^134 + 2^133 + 5)}
def w10 : State := pl fun s => s.wr Reg.bpmArg0 256
def w11 : State := pl fun s => s.wr Reg.bpmArg0 16385
def w12 : State := hh fun s => {s with bpm.bufs := SMap.set {} (2^24+3) {owner := 63, refs := 65534}}
def w13 : State := hh fun s => s.wr Reg.bpmArg1 5
def w14 : State := pl fun s => s.wr Reg.bpmArg0 0
def w15 : State := pb 0x3800000000 0 fun s => {s with bpm.held := SMap.set {} (63*5+3) 1}
def w16 : State := {pl with bpm.pools := SMap.set {} 4 {built := true, building := true, count := 7}}

/-- Clauses of `Obligations.EgressAndGroups`, each with all its hypotheses met together. -/
theorem witness_EgressAndGroups :
    /- 1 -/ ((eg 131 11).portServes 131 = true ∧ ((eg 131 11).tx 131).chosen = none ∧ (((eg 131 11).tx 131).sending = none ∨ 256 ≤ 256) ∧ (∀ j ∈ ((eg 131 11).tx 131).cut, (eg 131 11).queuePaused 131 ((eg 131 11).copy j).queue = true) ∧ (eg 131 11).groupChoice 131 = some (G (eg 131 11) 131) ∧ (eg 131 11).queueChoice 131 (G (eg 131 11) 131).id = some (Q (eg 131 11) 131) ∧ (eg 131 11).eligible 131 (Q (eg 131 11) 131).id = some 4) ∧
    /- 2 -/ ((up.groupChoice 131 = none ∨ (up.tx 131).sending ≠ none ∧ 256 < 0 ∨ ∃ j ∈ (up.tx 131).cut, up.queuePaused 131 (up.copy j).queue = false)) ∧
    /- 3 -/ (List.Pairwise (fun (a b : Member') => a.id < b.id) mb ∧ strictChoose mb 3 w1 = some w2) ∧
    /- 4 -/ (drrChoose w3 mb 3 w1 = some w4) :=
  ⟨by decide +kernel,
   by decide +kernel,
   by decide +kernel,
   by decide +kernel⟩

/-- Clauses of `Obligations.EgressAndGroups`, each with all its hypotheses met together. -/
theorem witness_EgressAndGroups_2 :
    /- 5 -/ ((chs 131 11).portServes 131 = true ∧ ((chs 131 11).tx 131).sending = none ∧ ((chs 131 11).tx 131).pfcDue = [] ∧ (128 ≤ 131 → 131 < 132 → (chs 131 11).helloDue (131 - 128) = false) ∧ (chs 131 11).nextToStart 131 = some 4 ∧ (131 = 132 → (chs 131 11).rxRoom ((chs 131 11).copy 4).queue = true) ∧ (131 = 133 → (chs 131 11).culvertRoom = true)) ∧
    /- 6 -/ ((snd 1).coreUp = true ∧ ((snd 1).tx 131).sending = some 4 ∧ ((snd 1).tx 131).stomped = false ∧ ((snd 1).copy 4).cut = false ∧ ((snd 1).copy 4).st ≠ CopyState.gone ∧ 1 = ((snd 1).copy 4).pkt) ∧
    /- 7 -/ (up.coreUp = true) ∧
    /- 8 -/ ((up.reaches 0 (if true = true then Reg.schSluiceBurst 2277 else Reg.schSluiceRate 2277))) :=
  ⟨by decide +kernel,
   by decide +kernel,
   by decide +kernel,
   by unfold State.reaches; decide +kernel⟩

/-- Clauses of `Obligations.EgressAndGroups`, each with all its hypotheses met together. -/
theorem witness_EgressAndGroups_3 :
    /- 9 -/ (w5.mayStart = true ∧ w5.portState 131 = 5 ∧ (w5.tx 131).sending = none ∧ (w5.tx 131).pfcDue = true :: w6) ∧
    /- 10 -/ (w7.coreUp = true ∧ w7.portState 131 = 5 ∧ w7.bit (Reg.schPfcCfg 131) 31 = true ∧ w7.bit (Reg.schPfcStat 131) 31 = true ∧ max 1 (w7.fld (Reg.schPfcStat 131) 15 0 / 2) ≤ 99999) ∧
    /- 11 -/ (w8.coreUp = true ∧ 99 = (tbEdge w8).total / (1000 * 2 ^ 48) ∧ 99 ≠ w8.total / (1000 * 2 ^ 48) ∧ (∀ (l : ℕ), w8.sch.lastSample = some l → 99 < l ∨ l + max 1 (w8.fld Reg.schSrPeriod 15 0) ≤ 99)) ∧
    /- 12 -/ (up.sampledQueues = []) :=
  ⟨by decide +kernel,
   by decide +kernel,
   by decide +kernel,
   by decide +kernel⟩

/-- Clauses of `Obligations.EgressAndGroups`, each with all its hypotheses met together. -/
theorem witness_EgressAndGroups_4 :
    /- 13 -/ ((smp true).sampledQueues = [(131, 11)] ∧ (smp true).ringTakes sampleRing = true) ∧
    /- 14 -/ ((smp false).sampledQueues = [(131, 11)] ∧ (smp false).ringTakes sampleRing = false) ∧
    /- 15.1 -/ (mc.reaches 0 Reg.qmMcCmd ∧ 4095 = mc.fld Reg.qmMcSel 11 0 ∧ Wbits 1 1 0 = 1) ∧
    /- 15.2 -/ (w9.reaches 0 Reg.qmMcCmd ∧ 4095 = w9.fld Reg.qmMcSel 11 0 ∧ Wbits 2 1 0 = 2) :=
  ⟨by decide +kernel,
   by decide +kernel,
   by unfold State.reaches; decide +kernel,
   by unfold State.reaches; decide +kernel⟩

/-- Clauses of `Obligations.BufferPools`, each with all its hypotheses met together. -/
theorem witness_BufferPools :
    /- 1 -/ (w10.reaches 0 Reg.bpmCmd ∧ w10.cmdBusy Reg.bpmResult = false ∧ Wbits (V 1) 3 0 = 1 ∧ BitVec.toNat (w10.rd Reg.bpmArg0) ≤ 16384 ∧ (1, BitVec.toNat (w10.rd Reg.bpmArg0)) ∈ [(1, min (BitVec.toNat (w10.rd Reg.bpmArg0)) 256), (2, max 257 (min (BitVec.toNat (w10.rd Reg.bpmArg0)) 1024)), (3, max 1025 (min (BitVec.toNat (w10.rd Reg.bpmArg0)) 4096)), (4, max 4097 (BitVec.toNat (w10.rd Reg.bpmArg0)))] ∧ w10.mayTake (Wbits (V 1) 13 8) 1 = true) ∧
    /- 2 -/ ((w11.reaches 0 Reg.bpmCmd ∧ w11.cmdBusy Reg.bpmResult = false ∧ Wbits (V 1) 3 0 = 1) ∧ (16384 < BitVec.toNat (w11.rd Reg.bpmArg0) ∨ ∀ (k : ℕ), 1 ≤ k → k ≤ 4 → w11.mayTake (Wbits (V 1) 13 8) k = false)) ∧
    /- 3.1 -/ (hh.reaches 0 Reg.bpmCmd ∧ hh.cmdBusy Reg.bpmResult = false ∧ hh.handleBuf (BitVec.toNat (hh.rd Reg.bpmArg0)) = some (1, 3) ∧ (hh.buf 1 3).owner = Wbits (V 2) 13 8 ∧ Wbits (V 2) 3 0 = 2 ∧ (hh.buf 1 3).refs = 1) ∧
    /- 3.2 -/ (w12.reaches 0 Reg.bpmCmd ∧ w12.cmdBusy Reg.bpmResult = false ∧ w12.handleBuf (BitVec.toNat (w12.rd Reg.bpmArg0)) = some (1, 3) ∧ (w12.buf 1 3).owner = Wbits (V 2) 13 8 ∧ Wbits (V 2) 3 0 = 2 ∧ 1 < (w12.buf 1 3).refs ∧ (w12.buf 1 3).refs < 65535) :=
  ⟨by unfold State.reaches; decide +kernel,
   ⟨by unfold State.reaches; decide +kernel,
    Or.inl (by decide +kernel)⟩,
   by unfold State.reaches; decide +kernel,
   by unfold State.reaches; decide +kernel⟩

/-- Clauses of `Obligations.BufferPools`, each with all its hypotheses met together. -/
theorem witness_BufferPools_2 :
    /- 3.3 -/ (w13.reaches 0 Reg.bpmCmd ∧ w13.cmdBusy Reg.bpmResult = false ∧ w13.handleBuf (BitVec.toNat (w13.rd Reg.bpmArg0)) = some (1, 3) ∧ (w13.buf 1 3).owner = Wbits (V 3) 13 8 ∧ Wbits (V 3) 3 0 = 3 ∧ (w13.buf 1 3).refs ≠ 0 ∧ BitVec.toNat (w13.rd Reg.bpmArg1) % 64 ≠ Wbits (V 3) 13 8) ∧
    /- 4 -/ (hh.reaches 0 Reg.bpmCmd ∧ hh.cmdBusy Reg.bpmResult = false ∧ hh.handleBuf (BitVec.toNat (hh.rd Reg.bpmArg0)) = some (1, 3) ∧ Wbits (V 4) 3 0 = 4 ∧ (hh.buf 1 3).refs ≠ 0) ∧
    /- 5 -/ (w14.reaches 0 Reg.bpmCmd ∧ w14.cmdBusy Reg.bpmResult = false ∧ w14.handleBuf (BitVec.toNat (w14.rd Reg.bpmArg0)) = none ∧ Wbits (V 2) 3 0 = 2) ∧
    /- 6 -/ ((pb 171798691840 16).reaches 0 Reg.bpmCmd ∧ (pb 171798691840 16).cmdBusy Reg.bpmResult = false ∧ 3 = BitVec.toNat ((pb 171798691840 16).rd Reg.bpmArg0) % 8 ∧ Wbits (V 5) 3 0 = 5 ∧ (∀ w < 64, (pb 171798691840 16).held w 3 = 0) ∧ ((pb 171798691840 16).fld (Reg.bpmPoolCount 3) 23 0 = 0 ∨ 137438953472 ≤ (pb 171798691840 16).fld (Reg.bpmPoolBaseLo 3) 31 12 * 2 ^ 12 + (pb 171798691840 16).fld (Reg.bpmPoolBaseHi 3) 7 0 * 2 ^ 32 ∧ (pb 171798691840 16).fld (Reg.bpmPoolBaseLo 3) 31 12 * 2 ^ 12 + (pb 171798691840 16).fld (Reg.bpmPoolBaseHi 3) 7 0 * 2 ^ 32 + (pb 171798691840 16).fld (Reg.bpmPoolCount 3) 23 0 * poolSize 3 ≤ 274877906944 ∧ ((pb 171798691840 16).fld (Reg.bpmPoolBaseLo 3) 31 12 * 2 ^ 12 + (pb 171798691840 16).fld (Reg.bpmPoolBaseHi 3) 7 0 * 2 ^ 32 + (pb 171798691840 16).fld (Reg.bpmPoolCount 3) 23 0 * poolSize 3 ≤ (pb 171798691840 16).flow.base ∨ (pb 171798691840 16).flow.base + (pb 171798691840 16).regionSize ≤ (pb 171798691840 16).fld (Reg.bpmPoolBaseLo 3) 31 12 * 2 ^ 12 + (pb 171798691840 16).fld (Reg.bpmPoolBaseHi 3) 7 0 * 2 ^ 32) ∧ ∀ (j : ℕ), 1 ≤ j → j ≤ 4 → j ≠ 3 → ((pb 171798691840 16).pool j).built = true → ((pb 171798691840 16).pool j).count ≠ 0 → (pb 171798691840 16).fld (Reg.bpmPoolBaseLo 3) 31 12 * 2 ^ 12 + (pb 171798691840 16).fld (Reg.bpmPoolBaseHi 3) 7 0 * 2 ^ 32 + (pb 171798691840 16).fld (Reg.bpmPoolCount 3) 23 0 * poolSize 3 ≤ ((pb 171798691840 16).pool j).base ∨ ((pb 171798691840 16).pool j).base + ((pb 171798691840 16).pool j).count * poolSize j ≤ (pb 171798691840 16).fld (Reg.bpmPoolBaseLo 3) 31 12 * 2 ^ 12 + (pb 171798691840 16).fld (Reg.bpmPoolBaseHi 3) 7 0 * 2 ^ 32)) :=
  ⟨by unfold State.reaches; decide +kernel,
   by unfold State.reaches; decide +kernel,
   by unfold State.reaches; decide +kernel,
   by unfold State.reaches; decide +kernel⟩

/-- Clauses of `Obligations.BufferPools`, each with all its hypotheses met together. -/
theorem witness_BufferPools_3 :
    /- 7 -/ (w15.reaches 0 Reg.bpmCmd ∧ w15.cmdBusy Reg.bpmResult = false ∧ 3 = BitVec.toNat (w15.rd Reg.bpmArg0) % 8 ∧ Wbits (V 5) 3 0 = 5 ∧ (∃ w < 64, w15.held w 3 ≠ 0) ∧ w15.fld (Reg.bpmPoolCount 3) 23 0 = 0) ∧
    /- 8 -/ (up.reaches 0 Reg.bpmCmd ∧ up.cmdBusy Reg.bpmResult = false ∧ (w16.pool 4).building = true ∧ (w16.pool 4).built = true) :=
  ⟨by unfold State.reaches; decide +kernel,
   by unfold State.reaches; decide +kernel⟩

end Sys2Proof.Tests.N

namespace Sys2Proof.Tests.O
open Sys2Proof Sys2Proof.Machine Sys2Proof.Tests

def sk (f : State → State := id) : State := f { ((((up.setBit (Reg.stkLinkCfg 3) 31 true).setFld Reg.stkCtrl 31 30 1).setFld Reg.stkCtrl 29 27 7).setFld Reg.stkCtrl 23 16 9).setFld (Reg.stkLinkCfg 3) 23 16 0xFF with ports := SMap.set {} 131 {state := 5}, stk.links := SMap.set {} 3 {state := 1, seqTx := 255}, fuses.serial := 5, tb.sec := 3 }
def late (s : State) : State := {s with tb.run := 2^100}
def hi (_ : State) (b : List Byte) : RxFrame := {bytes := withFcs b, err := none, ago := 2^40, lane := 7}
def peer : State := sk fun s => { s.setFld Reg.stkCtrl 29 27 2 with fuses.serial := 77 }
def hb : List Byte := peer.helloBytes 3
def inS (f : State → State := id) : State := sk fun s => f {s with stk.links := SMap.set {} 3 {state := 3, version := 2, peerTimeOk := true, exSec := 4, offset := -9}, stk.learnt := SMap.set {} (24+2) {valid := true, serial := 77, priority := 3, link := 3}, stk.members := (SMap.set {} 2 {valid := true, serial := 77, priority := 3, link := 3}).set 7 {valid := true, serial := 5, priority := 9}, stk.master := 2, sch.tx := SMap.set {} 131 {sending := some 4, chosen := some 5}}
def src4 (f : State → State := id) : State := inS fun s => f (s.setFld Reg.tbCtrl 31 29 4)
def dr (f : State → State := id) : State := f { (List.range 4).foldl (fun s n => s.setBit (Reg.dnStatus n) 28 true) up with mem := Mem.putBytes {} 0x2000000000 ((List.range 200).map fun i => BitVec.ofNat 8 (i+1)) }
def rd (p : Nat) (a : Nat) (n : Nat) : DramReq := {port := p, addr := a, atoms := n, write := false, data := []}
def wr (p : Nat) (a : Nat) (n : Nat) : DramReq := {port := p, addr := a, atoms := n, write := true, data := (List.range (64*n)).map fun i => if i % 3 = 0 then none else some (BitVec.ofNat 8 (i+100))}
def CH (a : Nat) : Nat := (dramMap a).chan
def en (s : State) (r : DramReq) : DramEntry := { id := s.dmc.nextId, req := r, accepted := s.nowNs, old := s.mem.getBytes r.addr (64 * r.atoms) }
def eA : DramEntry := {id := 3, req := rd 1 0x2000000000 1, old := List.replicate 64 9}
def eB : DramEntry := {id := 4, req := rd 1 0x2000000040 1, old := List.replicate 64 8}
def ch0 (x : Channel) (f : State → State := id) : State := dr fun s => f (s.setChan 0 x)
def sc (x : Scrub) (f : State → State := id) : State := dr fun s => f {s with ecc.scrub := some x}
def x1 : Scrub := {mode := 1, region := 16, start := 0x2000000000, units := 4, done := 0}
def w1 : RxFrame := {hi sk hb with err := some .errChar}
def w2 : Hello := readHello (withFcs hb)
def w3 : State := inS fun s => {s with stk.isolated := true, stk.links := s.stk.links.set 2 {conflict := true}}
def w4 : State := src4 fun s => {s with tb.sec := 9, stk.missed := 2}
def w5 : State := src4 fun s => {s with tb.sec := 9, stk.missed := 2, tb.ns := 999999999, tb.frac := 2^48-1}
def w6 : DramEntry := en dr (rd 5 0x2000000040 3)
def w7 : State := dr fun s => s.wr Reg.bootReval 0x40000000
def w9 : State := dr fun s => s.setFld (Reg.dnStatus 0) 30 29 3
def w10 : State := ch0 {shared := [eA, eB]}
def w11 : Channel := {shared := [eA, eB]}
def w12 : DramEntry → Bool := fun _ => true
def w13 : List ℕ := [3,4]
def w14 : State := ch0 {shared := [eA, eB], openRow := SMap.set {} 0 (some 0)}
def w15 : Channel := {shared := [eA, eB], openRow := SMap.set {} 0 (some 0)}
def w16 : State := ch0 {reads := [eA, eB]}
def w17 : List AtomOutcome := []
def w18 : List DramEntry := [eB]
def w19 : List AtomOutcome := [.corrected 2 (List.replicate 64 4)]
def w20 : List AtomOutcome := [.unseen (List.replicate 64 4)]
def w21 : List AtomOutcome := [.uncorrectable 4]
def w22 : State := ch0 {openRow := SMap.set {} 15 (some 4), refreshBank := 15} late
def w23 : State := ch0 {shared := [eA, eB], refreshBank := 0, postponed := 7} late
def w24 : State := dr fun s => s.setFld (Reg.dnSrCtrl 3) 31 31 1 |>.setChan 127 {openRow := SMap.set {} 4 (some 1)}
def w25 : State := ch0 {openRow := SMap.set {} 15 (some 4), refreshBank := 15}
def w26 : List AtomOutcome := [.uncorrectable 3]
def w27 : List AtomOutcome := [.corrected 2 (List.replicate 64 7)]

/-- Clauses of `Obligations.Stacking`, each with all its hypotheses met together. -/
theorem witness_Stacking :
    /- 1 -/ ((sk late).mayStart = true ∧ (sk late).linkUp 3 = true ∧ (((sk late).tx (128 + 3)).helloDue = true ∨ (sk late).helloMs * (1000000 * 2 ^ 48) ≤ (sk late).tb.run - ((sk late).link 3).helloAt) ∧ ((sk late).tx (128 + 3)).sending = none ∧ ((sk late).tx (128 + 3)).pfcDue = []) ∧
    /- 2 -/ ((sk.tx (128 + 3)).helloDue = false ∧ sk.tb.run - (sk.link 3).helloAt < sk.helloMs * (1000000 * 2 ^ 48)) ∧
    /- 3 -/ (w1.lane < 8 ∧ (sk late).receives (128 + 3) = true ∧ ((sk late).ports.get (128 + 3)).upRun + w1.ago * 2 ^ 32 ≤ (sk late).tb.run ∧ etherType w1.bytes = 34997 ∧ validHello ((sk late).rxVerdict (128 + 3) w1.bytes w1.err) w1.bytes = false) ∧
    /- 4 -/ ((hi sk hb).lane < 8 ∧ (sk late).receives (128 + 3) = true ∧ ((sk late).ports.get (128 + 3)).upRun + (hi sk hb).ago * 2 ^ 32 ≤ (sk late).tb.run ∧ etherType (hi sk hb).bytes = 34997 ∧ validHello ((sk late).rxVerdict (128 + 3) (hi sk hb).bytes (hi sk hb).err) (hi sk hb).bytes = true ∧ w2 = readHello (hi sk hb).bytes ∧ (sk late).stk.isolated = false ∧ (sk late).helloConflict w2 = false ∧ ((sk late).link 3).state = 1) :=
  ⟨by decide +kernel,
   by decide +kernel,
   by decide +kernel,
   by decide +kernel⟩

/-- Clauses of `Obligations.Stacking`, each with all its hypotheses met together. -/
theorem witness_Stacking_2 :
    /- 5 -/ ((inS.coreUp = true ∧ (inS.link 3).state = 3 ∧ inS.holdMs ≤ 15 * 100) ∧ (∀ (x : ℕ), (inS.stk.learnt.get x).link < 4)) ∧
    /- 6 -/ ((inS.coreUp = true ∧ (inS.stk.members.get 2).valid = true ∧ 2 ≠ inS.stkMe ∧ inS.holdMs ≤ 15 * 100 ∧ (inS.stk.members.get 2).link < 4) ∧ (∀ (x : ℕ), (inS.stk.learnt.get x).link < 4)) ∧
    /- 7 -/ (w3.coreUp = true ∧ (∃ k < 4, (w3.link k).conflict = true) ∧ w3.holdMs ≤ 15 * 100) ∧
    /- 8.1 -/ (presentIn inS.stk.members ≠ []) :=
  ⟨⟨by decide +kernel,
    forallGet inS.stk.learnt (fun _ e => e.link < 4) (by decide +kernel) fun _ => by decide⟩,
   ⟨by decide +kernel,
    forallGet inS.stk.learnt (fun _ e => e.link < 4) (by decide +kernel) fun _ => by decide⟩,
   by decide +kernel,
   by decide +kernel⟩

/-- Clauses of `Obligations.Stacking`, each with all its hypotheses met together. -/
theorem witness_Stacking_3 :
    /- 8.2 -/ (presentIn inS.stk.members ≠ [] ∧ 2 ∈ presentIn inS.stk.members) ∧
    /- 9.1 -/ ((src4.link 3 = src4.link (if src4.bit (Reg.stkRoute src4.stk.master) 31 = true then src4.fld (Reg.stkRoute src4.stk.master) 1 0 else (src4.stk.members.get src4.stk.master).link)) ∧ src4.coreUp = true ∧ src4.stkMode ≠ 0 ∧ src4.stk.master ≠ src4.stkMe ∧ src4.source = 4 ∧ src4.stk.lastSecond ≠ src4.tb.sec + 1 ∧ (src4.link 3).state = 3 ∧ (src4.link 3).version = 2 ∧ (src4.link 3).peerTimeOk = true ∧ (src4.link 3).exSec = src4.tb.sec + 1) ∧
    /- 9.2 -/ ((src4.link 3 = w4.link (if w4.bit (Reg.stkRoute w4.stk.master) 31 = true then w4.fld (Reg.stkRoute w4.stk.master) 1 0 else (w4.stk.members.get w4.stk.master).link)) ∧ w4.coreUp = true ∧ w4.stkMode ≠ 0 ∧ w4.stk.master ≠ w4.stkMe ∧ w4.source = 4 ∧ w4.stk.lastSecond ≠ w4.tb.sec + 1 ∧ ((src4.link 3).state ≠ 3 ∨ (src4.link 3).version ≠ 2 ∨ (src4.link 3).peerTimeOk = false ∨ (src4.link 3).exSec ≠ w4.tb.sec + 1)) ∧
    /- 9.3 -/ ((src4.link 3 = w5.link (if w5.bit (Reg.stkRoute w5.stk.master) 31 = true then w5.fld (Reg.stkRoute w5.stk.master) 1 0 else (w5.stk.members.get w5.stk.master).link)) ∧ w5.coreUp = true ∧ w5.stkMode ≠ 0 ∧ w5.stk.master ≠ w5.stkMe ∧ w5.source = 4 ∧ w5.stk.lastSecond ≠ w5.tb.sec + 1 ∧ w5.tb.ns < 1000000000 ∧ w5.tb.frac < 2 ^ 48 ∧ (tbEdge w5).tb.sec ≠ w5.tb.sec) :=
  ⟨by decide +kernel,
   by decide +kernel,
   by decide +kernel,
   by decide +kernel⟩

/-- Clauses of `Obligations.DramRequests`, each with all its hypotheses met together. -/
theorem witness_DramRequests :
    /- 1 -/ ((rd 5 137438953536 3).wf = true ∧ (dramMap (rd 5 137438953536 3).addr).chan = CH 137438953536 ∧ dr.stackUp (CH 137438953536 / 32) = true ∧ dr.bit (Reg.dnStatus (CH 137438953536 / 32)) 30 = false ∧ dr.windowHolds (rd 5 137438953536 3) = false ∧ (dr.chan (CH 137438953536)).room (rd 5 137438953536 3) = true ∧ (dr.chan (CH 137438953536)).waiting = [] ∧ w6 = { id := dr.dmc.nextId, req := rd 5 137438953536 3, accepted := dr.nowNs, old := dr.mem.getBytes (rd 5 137438953536 3).addr (64 * (rd 5 137438953536 3).atoms) }) ∧
    /- 2 -/ ((rd 0 137438953536 3).wf = true ∧ (dramMap (rd 0 137438953536 3).addr).chan = CH 137438953536 ∧ w7.stackUp (CH 137438953536 / 32) = true ∧ w7.bit (Reg.dnStatus (CH 137438953536 / 32)) 30 = false ∧ (w7.windowHolds (rd 0 137438953536 3) = true ∨ (w7.chan (CH 137438953536)).room (rd 0 137438953536 3) = false)) ∧
    /- 4 -/ ((rd 1 137438953472 3).wf = true ∧ (dramMap (rd 1 137438953472 3).addr).chan / 32 = 0 ∧ w9.stackUp 0 = true ∧ w9.bit (Reg.dnStatus 0) 30 = true ∧ w9.bit (Reg.dnStatus 0) 29 = true) ∧
    /- 5 -/ (w10.sharedPick w11 w12 = some eA) :=
  ⟨by decide +kernel,
   by decide +kernel,
   by decide +kernel,
   by decide +kernel⟩

/-- Clauses of `Obligations.DramRequests`, each with all its hypotheses met together. -/
theorem witness_DramRequests_2 :
    /- 6 -/ (w10.urgency eA ≠ 3 ∧ w10.urgency eB ≠ 3) ∧
    /- 7 -/ (w10.chan 0 = w11 ∧ w10.stackUp (0 / 32) = true ∧ w10.flowPick w11 (w11.canIssue false w13) = none ∧ w10.sharedPick w11 (w11.canIssue false w13) = some eA ∧ eA.req.port ≠ 0) ∧
    /- 8 -/ (w14.chan 0 = w15 ∧ w14.stackUp (0 / 32) = true ∧ w14.flowPick w15 (w15.canIssue true w13) = none ∧ w14.sharedPick w15 (w15.canIssue true w13) = some eA ∧ eA.req.port ≠ 0 ∧ eA.req.write = false ∧ eA.issued + 1 = eA.req.atoms ∧ w15.waiting = []) ∧
    /- 9.1 -/ (w16.coreUp = true ∧ (w16.chan 0).reads = eA :: w18 ∧ eA.req.write = false ∧ (∀ k < eA.req.atoms, w17.getD k AtomOutcome.clean = AtomOutcome.clean) ∧ eA.req.port < 6) :=
  ⟨by decide +kernel,
   by decide +kernel,
   by decide +kernel,
   by decide +kernel⟩

/-- Clauses of `Obligations.DramRequests`, each with all its hypotheses met together. -/
theorem witness_DramRequests_3 :
    /- 9.2 -/ (w16.coreUp = true ∧ (w16.chan 0).reads = eA :: w18 ∧ eA.req.write = false ∧ eA.req.atoms = 1 ∧ eA.req.port < 6 ∧ inDram eA.req.addr = true ∧ w19 = AtomOutcome.corrected 2 (List.replicate 64 4) :: w17) ∧
    /- 9.3 -/ (w16.coreUp = true ∧ (w16.chan 0).reads = eA :: w18 ∧ eA.req.write = false ∧ eA.req.atoms = 1 ∧ eA.req.port < 6 ∧ w20 = AtomOutcome.unseen (List.replicate 64 4) :: w17) ∧
    /- 9.4 -/ (w16.coreUp = true ∧ (w16.chan 0).reads = eA :: w18 ∧ eA.req.write = false ∧ 1 ≤ eA.req.atoms ∧ w16.boot.stop = StopKind.none ∧ w21 = AtomOutcome.uncorrectable 4 :: w17 ∧ w16.toRevalidation eA.req = false) ∧
    /- 10.1 -/ (w22.boot.core = CoreState.running ∧ w22.bit (Reg.dnStatus (0 / 32)) 28 = true ∧ w22.bit (Reg.dnStatus (0 / 32)) 30 = false ∧ (w22.coreUp = false ∨ (w22.chan 0).refreshRun * 16 + (if w22.bit (Reg.dnStatus (0 / 32)) 27 = true then 1950 else 3900) * 2 ^ 48 ≤ w22.tb.run * 16) ∧ (false = false ∨ 8 ≤ (w22.chan 0).postponed)) :=
  ⟨by decide +kernel,
   by decide +kernel,
   by decide +kernel,
   by decide +kernel⟩

/-- Clauses of `Obligations.DramRequests`, each with all its hypotheses met together. -/
theorem witness_DramRequests_4 :
    /- 10.2 -/ (w23.boot.core = CoreState.running ∧ w23.bit (Reg.dnStatus (0 / 32)) 28 = true ∧ w23.bit (Reg.dnStatus (0 / 32)) 30 = false ∧ (w23.coreUp = false ∨ (w23.chan 0).refreshRun * 16 + (if w23.bit (Reg.dnStatus (0 / 32)) 27 = true then 1950 else 3900) * 2 ^ 48 ≤ w23.tb.run * 16) ∧ (w23.chan 0).postponed < 8 ∧ (∃ e ∈ (w23.chan 0).entries, (dramMap e.req.addr).bank = (w23.chan 0).refreshBank)) ∧
    /- 11 -/ ((dr late).coreUp = true ∧ (dr late).dmc.tempRun.get 3 + 10 ^ 6 * 2 ^ 48 ≤ (dr late).tb.run) ∧
    /- 12 -/ (w24.stackUp 3 = true ∧ w24.bit (Reg.dnSrCtrl 3) 31 = true ∧ w24.bit (Reg.dnStatus 3) 30 = false ∧ w24.stackBusy 3 = false ∧ max 1 (w24.fld (Reg.dnSrCtrl 3) 15 0) ≤ 65535) ∧
    /- 13 -/ (w25.stackUp (0 / 32) = true ∧ (w25.chan 0).openRow.get 15 ≠ none) :=
  ⟨by decide +kernel,
   by decide +kernel,
   by decide +kernel,
   by decide +kernel⟩

/-- Clauses of `Obligations.CorrectionAndScrubbing`, each with all its hypotheses met together. -/
theorem witness_CorrectionAndScrubbing :
    /- 2 -/ (dr.boot.core = CoreState.running ∧ dr.boot.stop = StopKind.none) ∧
    /- 3 -/ (dr.reaches 0 Reg.eccScrubCmd ∧ dr.cmdBusy Reg.eccScrubResult = false ∧ Wbits 4097 1 0 = 1 ∧ (1 = 3 → Wbits 4097 31 16 = 42435) ∧ Wbits 4097 12 8 = 16 ∧ dr.bit Reg.bootReval 30 = false) ∧
    /- 4 -/ ((sc x1).ecc.scrub = some x1 ∧ (sc x1).coreUp = true ∧ x1.next < (sc x1).tb.run + 2 ^ 48 ∧ x1.region < 32 ∧ (x1.mode ≠ 3 → ∀ k < 4, w17.getD k AtomOutcome.clean = AtomOutcome.clean)) ∧
    /- 6 -/ ((sc x1).ecc.scrub = some x1 ∧ (sc x1).boot.core = CoreState.running ∧ (sc x1).boot.stop = StopKind.none ∧ x1.next < (sc x1).tb.run + 2 ^ 48 ∧ (x1.mode = 1 ∨ x1.mode = 2) ∧ w26 = [AtomOutcome.uncorrectable 3]) :=
  ⟨by decide +kernel,
   by unfold State.reaches; decide +kernel,
   by decide +kernel,
   by decide +kernel⟩

/-- Clauses of `Obligations.CorrectionAndScrubbing`, each with all its hypotheses met together. -/
theorem witness_CorrectionAndScrubbing_2 :
    /- 7 -/ ((sc x1).reaches 0 Reg.eccScrubAbort ∧ Wbits 1 0 0 = 1) ∧
    /- 5 -/ ((sc x1).ecc.scrub = some x1 ∧ (sc x1).coreUp = true ∧ x1.next < (sc x1).tb.run + 2 ^ 48 ∧ x1.abort = false ∧ x1.done + 1 ≠ x1.units ∧ (x1.mode = 1 ∨ x1.mode = 2) ∧ w27 = [AtomOutcome.corrected 2 (List.replicate 64 7)] ∧ inDram ((sc x1).scrubAddr x1 x1.done) = true) :=
  ⟨by unfold State.reaches; decide +kernel,
   by decide +kernel⟩

end Sys2Proof.Tests.O
end

section
/-! PROOFS. The tables' searches (R297–R309): the keys of a sparse map that a search of it lists, sorted numbers, the
candidates of a verified search. -/
namespace Sys2Proof.Machine

/-! ### The keys a sparse map lists -/

section
variable {V : Type} [DecidableEq V] [Inhabited V]

/-- In the canonical form a key is listed at most once, so what is read at it is what is listed. -/
theorem smapFind_eq_some_iff {l : List (Nat × V)} (h : SMap.rising l = true) (k : Nat) (v : V) :
    smapFind l k = some v ↔ (k, v) ∈ l := by
  induction l with
  | nil => simp [smapFind]
  | cons e r ih =>
    obtain ⟨a, w⟩ := e
    obtain ⟨habove, hr⟩ := (SMap.rising_cons _ _).mp h
    by_cases hak : a = k
    · subst hak
      have hnot : (a, v) ∉ r := fun hv => lt_irrefl a (habove _ hv)
      simp [smapFind, hnot, eq_comm]
    · simp [smapFind, hak, Ne.symm hak, ih hr]

/-- A search for values that the unlisted ones are not among lists the keys that read as such a value. -/
theorem SMap.mem_find {m : SMap V} (h : m.wf = true) {p : V → Bool} (hp : p default = false) (k : Nat) :
    k ∈ m.find p ↔ p (m.get k) = true := by
  have hrise : SMap.rising m.entries = true := (Bool.and_eq_true_iff.mp h).1
  have hlisted : k ∈ m.find p ↔ ∃ v, smapFind m.entries k = some v ∧ p v = true := by
    simp [SMap.find, smapFind_eq_some_iff hrise]
  rw [hlisted, SMap.get, SMap.getD]
  cases smapFind m.entries k <;> simp [hp]

theorem SMap.pairwise_keys {l : List (Nat × V)} (h : SMap.rising l = true) : (l.map Prod.fst).Pairwise (· < ·) := by
  induction l with
  | nil => exact List.Pairwise.nil
  | cons e r ih =>
    obtain ⟨habove, hr⟩ := (SMap.rising_cons _ _).mp h
    exact List.pairwise_cons.mpr ⟨List.forall_mem_map.mpr habove, ih hr⟩

theorem SMap.pairwise_find {m : SMap V} (h : m.wf = true) (p : V → Bool) : (m.find p).Pairwise (· < ·) :=
  SMap.pairwise_keys (SMap.rising_filter _ _ (Bool.and_eq_true_iff.mp h).1)

end

/-! ### Sorted numbers -/

@[simp] theorem mem_insertBy {α : Type} (key : α → Nat) (a x : α) (l : List α) :
    x ∈ insertBy key a l ↔ x = a ∨ x ∈ l := by
  induction l with
  | nil => simp [insertBy]
  | cons b r ih =>
    rw [insertBy]
    split
    · simp
    · simp [ih, or_left_comm]

theorem insertBy_of_above {α : Type} (key : α → Nat) (a : α) (l : List α) (h : ∀ x ∈ l, key x ≤ key a) :
    insertBy key a l = l ++ [a] := by
  induction l with
  | nil => rfl
  | cons b r ih =>
    obtain ⟨hb, hr⟩ := List.forall_mem_cons.mp h
    rw [insertBy, if_neg (by omega), ih hr, List.cons_append]

/-- One step of `sortNats`: a number put in its place, unless it is there already. -/
def insertNew (acc : List Nat) (n : Nat) : List Nat := if acc.contains n then acc else insertBy id n acc

theorem sortNats_eq_foldl (l : List Nat) : sortNats l = l.foldl insertNew [] := rfl

@[simp] theorem mem_insertNew (acc : List Nat) (n i : Nat) : i ∈ insertNew acc n ↔ i = n ∨ i ∈ acc := by
  rw [insertNew]
  split
  · rename_i hn
    exact ⟨.inr, Or.rec (fun h => h ▸ List.contains_iff_mem.mp hn) id⟩
  · exact mem_insertBy ..

theorem insertNew_of_above {acc : List Nat} {n : Nat} (h : ∀ x ∈ acc, x < n) : insertNew acc n = acc ++ [n] := by
  have hnew : n ∉ acc := fun hn => lt_irrefl n (h n hn)
  rw [insertNew, if_neg (by simpa using hnew), insertBy_of_above id n acc fun x hx => (h x hx).le]

theorem mem_foldl_insertNew (l acc : List Nat) (i : Nat) : i ∈ l.foldl insertNew acc ↔ i ∈ acc ∨ i ∈ l := by
  induction l generalizing acc with
  | nil => simp
  | cons n r ih => simp [ih, or_assoc, or_left_comm]

theorem foldl_insertNew_of_pairwise {l acc : List Nat} (h : (acc ++ l).Pairwise (· < ·)) :
    l.foldl insertNew acc = acc ++ l := by
  induction l generalizing acc with
  | nil => simp
  | cons n r ih =>
    have hbelow : ∀ x ∈ acc, x < n := fun x hx => (List.pairwise_append.mp h).2.2 x hx n List.mem_cons_self
    rw [List.foldl_cons, insertNew_of_above hbelow, ih (by simpa using h), List.append_assoc, List.singleton_append]

@[simp] theorem mem_sortNats (l : List Nat) (i : Nat) : i ∈ sortNats l ↔ i ∈ l := by
  simp [sortNats_eq_foldl, mem_foldl_insertNew]

theorem sortNats_of_pairwise {l : List Nat} (h : l.Pairwise (· < ·)) : sortNats l = l :=
  foldl_insertNew_of_pairwise (acc := []) h

/-- The head of a rising list is the lowest of its members. -/
theorem head?_eq_some_iff_lowest {l : List Nat} (h : l.Pairwise (· < ·)) {p : Nat → Prop} (hp : ∀ j, j ∈ l ↔ p j)
    (i : Nat) : l.head? = some i ↔ lowest p i := by
  simp only [lowest, ← hp]
  cases l with
  | nil => simp
  | cons a r =>
    have hr := (List.pairwise_cons.mp h).1
    constructor
    · rintro ⟨⟩
      exact ⟨List.mem_cons_self, fun j hj hm => by grind⟩
    · rintro ⟨hi, hlow⟩
      have ha : ¬ a < i := fun hai => hlow a hai List.mem_cons_self
      grind

/-! ### What an array shows -/

theorem arraySeen_nil {matching : List Nat} (h : matching.Pairwise (· < ·)) (p : ArrayWord → Bool) (size : Nat) :
    arraySeen matching [] p size = matching := by
  simp [arraySeen, sortNats_of_pairwise h]

theorem mem_arraySeen (matching : List Nat) (words : List (Nat × ArrayWord)) (p : ArrayWord → Bool) (size i : Nat) :
    i ∈ arraySeen matching words p size ↔
      (i ∈ matching ∧ ∀ w, (i, w) ∉ words) ∨ (i < size ∧ ∃ w, (i, w) ∈ words ∧ w.valid = true ∧ p w = true) := by
  rw [arraySeen, mem_sortNats, List.mem_append]
  apply or_congr
  · have hnone : (!words.any fun e => e.1 == i) = true ↔ ∀ w, (i, w) ∉ words := by
      simp only [Bool.not_eq_true', List.any_eq_false, beq_iff_eq, Prod.forall]
      exact ⟨fun h w hw => h i w hw rfl, fun h a w hw ha => h w (ha ▸ hw)⟩
    rw [List.mem_filter, hnone]
  · simp only [List.mem_map, List.mem_filter, Bool.and_eq_true, decide_eq_true_eq, Prod.exists, exists_and_right,
      exists_eq_right]
    grind

/-! ### Verified searches -/

/-- The candidates that fail are those of the first four that come before the first in `matching`. -/
theorem verifiedSearch_failed (matching seen : List Nat) :
    (verifiedSearch matching seen).failed = (seen.take 4).takeWhile fun i => !matching.contains i := rfl

theorem verifiedSearch_fhMiss (matching seen : List Nat) :
    (verifiedSearch matching seen).fhMiss = true ↔ (verifiedSearch matching seen).failed.length = 4 :=
  beq_iff_eq

/-- The hit is the first of the first four candidates that is in `matching`. -/
theorem verifiedSearch_hit (matching seen : List Nat) :
    (verifiedSearch matching seen).hit = (seen.take 4).find? matching.contains := by
  have hsplit := List.takeWhile_append_dropWhile (p := fun i => !matching.contains i) (l := seen.take 4)
  have hdrop : (seen.take 4).drop (verifiedSearch matching seen).failed.length =
      (seen.take 4).dropWhile fun i => !matching.contains i := by
    rw [verifiedSearch_failed]
    exact (congrArg (List.drop _) hsplit.symm).trans List.drop_left
  rw [List.find?_eq_head?_dropWhile_not, ← hdrop]
  rfl

/-- A search of an array that shows exactly the matches hits the first of them. -/
theorem verifiedSearch_self_hit (matching : List Nat) : (verifiedSearch matching matching).hit = matching.head? := by
  rw [verifiedSearch_hit]
  cases matching <;> simp

theorem verifiedSearch_failed_length_le (matching seen : List Nat) : (verifiedSearch matching seen).failed.length ≤ 4 :=
  ((List.takeWhile_sublist _).length_le).trans (List.length_take_le _ _)

theorem mem_verifiedSearch_failed {matching seen : List Nat} {i : Nat} (h : i ∈ (verifiedSearch matching seen).failed) :
    i ∈ seen ∧ i ∉ matching :=
  ⟨List.mem_of_mem_take ((List.takeWhile_sublist _).subset h), by simpa using List.mem_takeWhile_imp h⟩

/-- A hit is in `matching`, and of the four candidates exactly the failed ones come before it. -/
theorem verifiedSearch_hit_some {matching seen : List Nat} {i : Nat} (h : (verifiedSearch matching seen).hit = some i) :
    i ∈ matching ∧ ∃ rest, seen.take 4 = (verifiedSearch matching seen).failed ++ i :: rest := by
  rw [verifiedSearch_hit, List.find?_eq_some_iff_append] at h
  obtain ⟨hi, before, rest, hfour, hbefore⟩ := h
  refine ⟨List.contains_iff_mem.mp hi, rest, ?_⟩
  rw [verifiedSearch_failed, hfour, List.takeWhile_append_of_pos hbefore, List.takeWhile_cons_of_neg (by simpa using hi),
    List.append_nil]

/-- Every candidate below a hit failed, and there are at most three of them. -/
theorem verifiedSearch_below_hit {matching seen : List Nat} (hs : seen.Pairwise (· < ·)) {i : Nat}
    (h : (verifiedSearch matching seen).hit = some i) :
    i ∈ matching ∧ i ∈ seen ∧ (verifiedSearch matching seen).failed.length ≤ 3 ∧
      ∀ j ∈ seen, j < i → j ∈ (verifiedSearch matching seen).failed := by
  obtain ⟨hi, rest, hfour⟩ := verifiedSearch_hit_some h
  have hlen : (seen.take 4).length ≤ 4 := List.length_take_le _ _
  have hseen : seen = (verifiedSearch matching seen).failed ++ i :: (rest ++ seen.drop 4) := by
    rw [← List.cons_append, ← List.append_assoc, ← hfour, List.take_append_drop]
  refine ⟨hi, ?_, ?_, fun j hj hji => ?_⟩
  · rw [hseen]; simp
  · rw [hfour, List.length_append, List.length_cons] at hlen
    omega
  · rw [hseen] at hs hj
    have habove := (List.pairwise_cons.mp (List.pairwise_append.mp hs).2.1).1
    rcases List.mem_append.mp hj with hj | hj
    · exact hj
    · rcases List.mem_cons.mp hj with rfl | hj
      · exact absurd hji (lt_irrefl _)
      · exact absurd (habove j hj) hji.asymm

/-- A miss comes after four failures or where no candidate is in `matching`. -/
theorem verifiedSearch_miss {matching seen : List Nat} (h : (verifiedSearch matching seen).hit = none) :
    (verifiedSearch matching seen).failed.length = 4 ∨ ∀ i ∈ seen, i ∉ matching := by
  rw [verifiedSearch_hit, List.find?_eq_none] at h
  simp only [List.contains_iff_mem] at h
  rcases Nat.lt_or_ge seen.length 4 with hshort | hlong
  · right
    rwa [List.take_of_length_le hshort.le] at h
  · left
    have hall : (verifiedSearch matching seen).failed = seen.take 4 :=
      List.takeWhile_eq_self_iff.mpr (by simpa using h)
    rw [hall, List.length_take_of_le hlong]

/-! ### Searches of a sound array -/

theorem State.mem_weirMatches {s : State} (h : s.tables.weir.wf = true) (key i : Nat) :
    i ∈ s.weirMatches key ↔ s.weirMatch key i := by
  rw [State.weirMatches, SMap.mem_find h rfl, State.weirMatch, Bool.and_eq_true, beq_iff_eq]

theorem State.mem_emtMatches {s : State} (h : s.tables.emt.wf = true) (key i : Nat) :
    i ∈ s.emtMatches key ↔ s.emtMatch key i := by
  rw [State.emtMatches, SMap.mem_find h rfl, State.emtMatch, Bool.and_eq_true, beq_iff_eq]

theorem State.pairwise_weirMatches {s : State} (h : s.tables.weir.wf = true) (key : Nat) :
    (s.weirMatches key).Pairwise (· < ·) := SMap.pairwise_find h _

theorem State.weirSearch_hit_of_sound {s : State} (h : s.tables.weir.wf = true) {r : Nat}
    (hsound : upsetWords s.tables.weirArr r = []) (key : Nat) :
    (s.weirSearch r key).hit = (s.weirMatches key).head? := by
  rw [State.weirSearch, hsound, arraySeen_nil (State.pairwise_weirMatches h key), verifiedSearch_self_hit]

theorem State.pairwise_emtMatches {s : State} (h : s.tables.emt.wf = true) (key : Nat) :
    (s.emtMatches key).Pairwise (· < ·) := SMap.pairwise_find h _

theorem State.emtSearch_hit_of_sound {s : State} (h : s.tables.emt.wf = true) {g : Nat}
    (hsound : upsetWords s.tables.emtArr g = []) (key : Nat) :
    (s.emtSearch g key).hit = (s.emtMatches key).head? := by
  rw [State.emtSearch, hsound, arraySeen_nil (State.pairwise_emtMatches h key), verifiedSearch_self_hit]

/-- The head of the rising list of what satisfies `p`: the lowest such index, and none where there is none (R298). -/
theorem head?_lowest_or_none {l : List Nat} (h : l.Pairwise (· < ·)) {p : Nat → Prop} (hp : ∀ j, j ∈ l ↔ p j) :
    (∀ i, l.head? = some i ↔ lowest p i) ∧ (l.head? = none ↔ ∀ i, ¬ p i) :=
  ⟨head?_eq_some_iff_lowest h hp, by simp only [List.head?_eq_none_iff, List.eq_nil_iff_forall_not_mem, hp]⟩

/-- Settles O21: on a sound array the candidates are the matches in rising order, and a verified search takes the first
of the first four candidates that passes. -/
theorem firstMatchAndVerifiedSearch : Obligations.FirstMatchAndVerifiedSearch := by
  refine ⟨fun s r key hweir hemt => ⟨fun hsound => ?_, fun hsound => ?_⟩, mem_arraySeen, fun matching seen hseen => ?_⟩
  · rw [State.weirSearch_hit_of_sound hweir hsound]
    exact head?_lowest_or_none (State.pairwise_weirMatches hweir key) (State.mem_weirMatches hweir key)
  · rw [State.emtSearch_hit_of_sound hemt hsound]
    exact head?_lowest_or_none (State.pairwise_emtMatches hemt key) (State.mem_emtMatches hemt key)
  · exact ⟨verifiedSearch_failed_length_le _ _, fun _ => mem_verifiedSearch_failed,
      fun _ => verifiedSearch_below_hit hseen, verifiedSearch_miss, verifiedSearch_fhMiss _ _⟩

end Sys2Proof.Machine
end

section
/-! PROOFS. What the issue of a Flume instruction leaves that works on its issuer's registers alone (R421, R427–R447),
by what it takes from the stacks and puts there. -/
namespace Sys2Proof.Machine

/-! ### The checks of R421 -/

/-- What an instruction does to the stacks: its pops, its pushes, whether it pops and whether it pushes the return
stack. -/
def OpSpec.stackUse (o : OpSpec) : Nat × Nat × Bool × Bool := (o.pops, o.pushes, o.rpop, o.rpush)

/-- An instruction of any engine whose stack needs are met passes the checks. -/
theorem check_none_of_stackUse {o : OpSpec} {w : Who} {a : Arch} {i : Nat} (p q : Nat) {rp ru : Bool}
    (ho : o.stackUse = (p, q, rp, ru)) (hh : o.helper = false) (hc : o.control = false) (hr : Nat.land i o.resv = 0)
    (hp : p ≤ a.ds.length) (hq : a.ds.length - p + q ≤ 16)
    (hrp : rp = true → a.rs ≠ []) (hru : ru = true → a.rs.length < 8) : o.check w a i = none := by
  obtain ⟨rfl, rfl, rfl, rfl⟩ : o.pops = p ∧ o.pushes = q ∧ o.rpop = rp ∧ o.rpush = ru := by
    simpa [OpSpec.stackUse] using ho
  have hrp' : ¬ (o.rpop = true ∧ a.rs = []) := fun h => hrp h.1 h.2
  have hru' : ¬ (o.rpush = true ∧ 8 ≤ a.rs.length) := fun h => absurd (hru h.1) (not_lt.mpr h.2)
  unfold OpSpec.check
  simp [hh, hc, show i &&& o.resv = 0 from hr, not_lt.mpr hp, not_lt.mpr hq, hrp', hru']

/-- An instruction of any engine that finds the data stack below its need takes STACK subcode 1. -/
theorem issue_underflow {w : Who} {o : OpSpec} {s : State} {body : Body} (h : s.atWord w o.mask o.pat o.resv)
    (hh : o.helper = false) (hc : o.control = false) (hp : (s.arch w).ds.length < o.pops) :
    issue w o s body = .next (s.faults w 3 1) := by
  obtain ⟨hwf, hissues, hword, hresv⟩ := h
  rw [issue_next hwf hissues hword, runInstr_check]
  simp [OpSpec.check, hh, hc, show s.wordOf w &&& o.resv = 0 from hresv, hp]

/-! ### Instructions that change the registers alone -/

/-- An instruction of any engine whose stack needs are met and whose body changes its issuer's registers alone. -/
theorem issue_regs {w : Who} {o : OpSpec} {s : State} {body : Body} {a : Arch} {j : Bool} (p q : Nat) {rp ru : Bool}
    (ho : o.stackUse = (p, q, rp, ru)) (hh : o.helper = false) (hc : o.control = false)
    (h : s.atWord w o.mask o.pat o.resv) (hp : p ≤ (s.arch w).ds.length) (hq : (s.arch w).ds.length - p + q ≤ 16)
    (hrp : rp = true → (s.arch w).rs ≠ []) (hru : ru = true → (s.arch w).rs.length < 8)
    (hb : ∀ t, body t (s.arch w) (s.wordOf w) = .ok { s := t, a := a, jump := j }) :
    issue w o s body = .next (s.leaves w a j) := by
  obtain ⟨-, -, -, hresv⟩ := id h
  exact issue_leaves h (check_none_of_stackUse p q ho hh hc hresv hp hq hrp hru) hb

/-- A body that changes the data stack alone, by the stack and by the instruction's word. -/
def wordBody (g : Nat → List Word → List Word) : Body := fun t a i => .ok { s := t, a := { a with ds := g i a.ds } }

theorem stackBody_eq_wordBody (f : List Word → List Word) : stackBody f = wordBody fun _ => f := rfl

theorem immBody_eq_wordBody (f : Word → Nat → Word) :
    immBody f = wordBody fun i ds => f (nth ds 0) (i % 256) :: ds.drop 1 := rfl

/-- An instruction that changes the data stack `ds` to `ds'` and nothing else. -/
theorem issue_wordBody {w : Who} {o : OpSpec} {s : State} {g : Nat → List Word → List Word} {ds ds' : List Word}
    (p q : Nat) (ho : o.stackUse = (p, q, false, false)) (hh : o.helper = false) (hc : o.control = false)
    (h : s.atWord w o.mask o.pat o.resv) (hds : (s.arch w).ds = ds) (hp : p ≤ ds.length) (hq : ds.length - p + q ≤ 16)
    (hg : g (s.wordOf w) ds = ds') : issue w o s (wordBody g) = .next (s.leavesStack w ds') := by
  subst hds hg
  exact issue_regs p q ho hh hc h hp hq nofun nofun fun _ => rfl

/-- An instruction that rearranges the data stack, whatever its word. -/
theorem issue_stackBody {w : Who} {o : OpSpec} {s : State} {f : List Word → List Word} {ds ds' : List Word}
    (p q : Nat) (ho : o.stackUse = (p, q, false, false)) (hh : o.helper = false) (hc : o.control = false)
    (h : s.atWord w o.mask o.pat o.resv) (hds : (s.arch w).ds = ds) (hp : p ≤ ds.length) (hq : ds.length - p + q ≤ 16)
    (hf : f ds = ds') : issue w o s (stackBody f) = .next (s.leavesStack w ds') := by
  rw [stackBody_eq_wordBody]
  exact issue_wordBody p q ho hh hc h hds hp hq hf

/-- A two-operand instruction, by the value `v` of its result. -/
theorem issue_binBody {w : Who} {o : OpSpec} {s : State} {f : Word → Word → Word} {a b v : Word} {r : List Word}
    (ho : o.stackUse = (2, 1, false, false)) (hh : o.helper = false) (hc : o.control = false)
    (h : s.atWord w o.mask o.pat o.resv) (hds : (s.arch w).ds = b :: a :: r) (hr : r.length ≤ 14) (hv : f a b = v) :
    issue w o s (binBody f) = .next (s.leavesStack w (v :: r)) := by
  subst hv
  exact issue_stackBody 2 1 ho hh hc h hds (by simp) (by simp only [List.length_cons]; omega) rfl

/-- An immediate instruction, by its IMM8 `i` and the value `v` of its result. -/
theorem issue_immBody {w : Who} {o : OpSpec} {s : State} {f : Word → Nat → Word} {a v : Word} {i : BitVec 8}
    {r : List Word} (ho : o.stackUse = (1, 1, false, false)) (hh : o.helper = false) (hc : o.control = false)
    (h : s.atWord w o.mask o.pat o.resv) (hds : (s.arch w).ds = a :: r) (hr : r.length ≤ 15)
    (hi : BitVec.ofNat 8 (s.wordOf w) = i) (hv : f a i.toNat = v) :
    issue w o s (immBody f) = .next (s.leavesStack w (v :: r)) := by
  subst hi hv
  rw [immBody_eq_wordBody]
  exact issue_wordBody 1 1 ho hh hc h hds (by simp) (by simp only [List.length_cons]; omega) (by simp [nth])

/-! ### The element number in a word's low bits (R420) -/

/-- A word whose low four bits are spelled out matches the code point without them, and holds them. -/
theorem atWord_element {s : State} {w : Who} {pat n : Nat} (h : s.atWord w 0xFF0F (pat + n) 0x00F0)
    (hpat : ∀ k < 16, (pat + k) &&& 0xFF00 = pat ∧ (pat + k) &&& 15 = k) (hn : n < 16) :
    s.atWord w 0xFF00 pat 0x00F0 ∧ s.wordOf w % 16 = n := by
  obtain ⟨hwf, hissues, hword, hresv⟩ := h
  have hword' : s.wordOf w &&& 0xFF0F = pat + n := hword
  obtain ⟨hop, hlow⟩ := hpat n hn
  rw [← hword', Nat.and_assoc] at hop hlow
  exact ⟨⟨hwf, hissues, hop, hresv⟩, (Nat.and_two_pow_sub_one_eq_mod _ 4).symm.trans hlow⟩

end Sys2Proof.Machine
end

section
/-! PROOFS. The values that the literal, two-operand, immediate and CRC instructions push (R427–R433), as results of the
word's arithmetic. -/
namespace Sys2Proof.Machine

/-! ### Two's complement (R427, R430, R441) -/

theorem signed_eq_toInt (n k : Nat) (hk : 0 < k) : signed n k = (BitVec.ofNat k n).toInt := by
  have hpow : 2 ^ k = 2 * 2 ^ (k - 1) := by rw [← Nat.pow_succ', Nat.succ_eq_add_one, Nat.sub_one_add_one hk.ne']
  rw [BitVec.toInt_eq_toNat_cond, BitVec.toNat_ofNat, signed]
  exact if_congr (by omega) rfl rfl

theorem signed_mod (n k : Nat) : signed (n % 2 ^ k) k = signed n k := by
  simp only [signed, Nat.mod_mod]

/-- A number's low `k` bits, sign-extended to a word. -/
theorem ofInt_signed (n k : Nat) (hk : 0 < k) : BitVec.ofInt 32 (signed n k) = (BitVec.ofNat k n).signExtend 32 := by
  rw [signed_eq_toInt n k hk, BitVec.signExtend]

/-- EXT's value: IMM12 appended to the low bits of the operand (R427). -/
theorem ofNat_shift12_add (a : Word) (n : Nat) :
    BitVec.ofNat 32 (a.toNat * 4096 + n % 4096) = a.extractLsb' 0 20 ++ BitVec.ofNat 12 n := by
  apply BitVec.eq_of_toNat_eq
  rw [BitVec.toNat_append, BitVec.toNat_ofNat, BitVec.toNat_ofNat,
    ← Nat.shiftLeft_add_eq_or_of_lt (Nat.mod_lt _ (by decide)), BitVec.extractLsb'_toNat, Nat.shiftRight_zero, Nat.shiftLeft_eq]
  omega

/-! ### Two operands (R429) -/

section
variable (a b : Word)

theorem aluAdd_eq_ofNat : aluAdd a b = BitVec.ofNat 32 (a.toNat + b.toNat) :=
  BitVec.eq_of_toNat_eq (by simp [aluAdd])

theorem aluSub_eq_ofInt : aluSub a b = BitVec.ofInt 32 (a.toInt - b.toInt) :=
  BitVec.eq_of_toInt_eq (by rw [aluSub, BitVec.toInt_sub, BitVec.toInt_ofInt])

theorem aluShl_eq_ofNat : aluShl a b = BitVec.ofNat 32 (a.toNat * 2 ^ (b.toNat % 32)) :=
  BitVec.eq_of_toNat_eq (by rw [aluShl, BitVec.toNat_shiftLeft, Nat.shiftLeft_eq, BitVec.toNat_ofNat])

theorem aluShr_eq_ofNat : aluShr a b = BitVec.ofNat 32 (a.toNat / 2 ^ (b.toNat % 32)) := by
  rw [← Nat.shiftRight_eq_div_pow, ← BitVec.toNat_ushiftRight, BitVec.ofNat_toNat, BitVec.setWidth_eq, aluShr]

theorem aluSar_eq_ofInt : aluSar a b = BitVec.ofInt 32 (a.toInt / 2 ^ (b.toNat % 32)) := by
  have hshift : a.toInt / 2 ^ (b.toNat % 32) = a.toInt >>> (b.toNat % 32) := by
    rw [Int.shiftRight_eq_div_pow]; norm_cast
  rw [hshift, ← BitVec.toInt_sshiftRight, BitVec.ofInt_toInt, aluSar]

theorem aluMul_eq_ofNat : aluMul a b = BitVec.ofNat 32 (a.toNat * b.toNat) :=
  BitVec.eq_of_toNat_eq (by simp [aluMul])

theorem aluMulhu_eq_extract : aluMulhu a b = (a.zeroExtend 64 * b.zeroExtend 64).extractLsb' 32 32 := by
  have hmul : a.toNat * b.toNat < 2 ^ 64 := by
    rw [show 2 ^ 64 = 2 ^ 32 * 2 ^ 32 by norm_num]
    exact Nat.mul_lt_mul'' a.isLt b.isLt
  apply BitVec.eq_of_toNat_eq
  rw [aluMulhu, BitVec.extractLsb'_toNat, BitVec.toNat_mul, BitVec.toNat_setWidth_of_le (by decide),
    BitVec.toNat_setWidth_of_le (by decide), Nat.mod_eq_of_lt hmul, Nat.shiftRight_eq_div_pow, BitVec.toNat_ofNat]

theorem aluMinu_eq_ofNat : aluMinu a b = BitVec.ofNat 32 (min a.toNat b.toNat) := by
  rw [aluMinu, Nat.min_def]
  split <;> simp

theorem aluMaxu_eq_ofNat : aluMaxu a b = BitVec.ofNat 32 (max a.toNat b.toNat) := by
  rw [aluMaxu, Nat.max_def]
  split <;> simp

theorem aluNe_eq_ite : aluNe a b = if a = b then 0 else 1 := by
  simp [aluNe, truth]

theorem aluLts_eq_ite : aluLts a b = if a.slt b then 1 else 0 := by
  simp [aluLts, truth, BitVec.slt_iff_toInt_lt]

end

/-! ### CRC steps (R432, R433) -/

/-- One bit step of the reflected CRC, on a word. -/
def crc32cBit (c : Word) : Word := if c.getLsbD 0 then (c >>> 1) ^^^ 0x82F63B78#32 else c >>> 1

/-- One bit step of CRC16, on a half-word. -/
def crc16Bit (c : BitVec 16) : BitVec 16 := if c.getLsbD 15 then (c <<< 1) ^^^ 0x1021#16 else c <<< 1

theorem crc32cBit_toNat (c : Word) : (crc32cBit c).toNat =
    if c.toNat % 2 = 1 then Nat.xor (c.toNat / 2) 0x82F63B78 else c.toNat / 2 := by
  have hbit : c.getLsbD 0 = true ↔ c.toNat % 2 = 1 := by
    rw [BitVec.getLsbD, Nat.testBit_zero, decide_eq_true_iff]
  have hshift : (c >>> 1).toNat = c.toNat / 2 := BitVec.toNat_ushiftRight c 1
  simp only [crc32cBit, hbit]
  split
  · rw [BitVec.toNat_xor, hshift]; rfl
  · exact hshift

theorem crc16Bit_toNat (c : BitVec 16) : (crc16Bit c).toNat =
    if c.toNat / 0x8000 % 2 = 1 then Nat.xor (2 * c.toNat) 0x1021 % 65536 else 2 * c.toNat % 65536 := by
  have hbit : c.getLsbD 15 = true ↔ c.toNat / 0x8000 % 2 = 1 := by
    rw [BitVec.getLsbD, Nat.testBit_eq_decide_div_mod_eq, decide_eq_true_iff]
  have hshift : (c <<< 1).toNat = 2 * c.toNat % 2 ^ 16 := by
    rw [BitVec.toNat_shiftLeft, Nat.shiftLeft_eq, Nat.mul_comm, pow_one]
  simp only [crc16Bit, hbit]
  split
  · rw [BitVec.toNat_xor, hshift]
    exact (Nat.xor_mod_two_pow (a := 2 * c.toNat) (b := 0x1021) (n := 16)).symm
  · exact hshift

theorem crcReflBits_eq_iterate (k : Nat) (c : Word) :
    crcReflBits 0x82F63B78 k c.toNat = (crc32cBit^[k] c).toNat := by
  induction k generalizing c with
  | zero => rfl
  | succ k ih => rw [crcReflBits, ← crc32cBit_toNat, ih, Function.iterate_succ_apply]

theorem crc16Bits_eq_iterate (k : Nat) (c : BitVec 16) : crc16Bits k c.toNat = (crc16Bit^[k] c).toNat := by
  induction k generalizing c with
  | zero => rfl
  | succ k ih => rw [crc16Bits, ← crc16Bit_toNat, ih, Function.iterate_succ_apply]

/-- The byte a CRC instruction consumes. -/
theorem ofNat8_toNat (b : Word) : BitVec.ofNat 8 b.toNat = b.extractLsb' 0 8 :=
  BitVec.eq_of_toNat_eq (by simp)

theorem aluCrc32c_eq_iterate (a b : Word) :
    aluCrc32c a b = crc32cBit^[8] (a ^^^ (b.extractLsb' 0 8).zeroExtend 32) := by
  have hstart : Nat.xor (a.toNat % 2 ^ 32) (BitVec.ofNat 8 b.toNat).toNat =
      (a ^^^ (b.extractLsb' 0 8).zeroExtend 32).toNat := by
    rw [BitVec.toNat_xor, Nat.mod_eq_of_lt a.isLt, ofNat8_toNat, BitVec.toNat_setWidth_of_le (by decide)]
    rfl
  rw [aluCrc32c, crcReflStep, hstart, crcReflBits_eq_iterate, BitVec.ofNat_toNat, BitVec.setWidth_eq]

theorem aluCrc16_eq_iterate (a b : Word) :
    aluCrc16 a b = (crc16Bit^[8] (a.extractLsb' 0 16 ^^^ (b.extractLsb' 0 8 ++ 0#8))).zeroExtend 32 := by
  have hstart : Nat.xor (a.toNat % 65536) ((BitVec.ofNat 8 b.toNat).toNat * 256) % 65536 =
      (a.extractLsb' 0 16 ^^^ (b.extractLsb' 0 8 ++ 0#8)).toNat := by
    have hlow : (a.extractLsb' 0 16).toNat = a.toNat % 65536 := BitVec.extractLsb'_toNat 0 16 a
    have hhigh : (b.extractLsb' 0 8 ++ 0#8).toNat = (b.extractLsb' 0 8).toNat * 256 := by
      rw [BitVec.toNat_append, BitVec.toNat_zero, Nat.or_zero, Nat.shiftLeft_eq]
    rw [BitVec.toNat_xor, hlow, hhigh, ofNat8_toNat]
    exact Nat.mod_eq_of_lt (Nat.xor_lt_two_pow (n := 16) (by omega) (by omega))
  rw [aluCrc16, crc16Step, hstart, crc16Bits_eq_iterate, BitVec.ofNat_toNat]

/-! ### Immediates (R430) -/

section
variable (a : Word) (i : BitVec 8)

theorem aluAddi_eq_signExtend : aluAddi a i.toNat = a + i.signExtend 32 := by
  rw [aluAddi, ofInt_signed _ 8 (by decide), BitVec.ofNat_toNat, BitVec.setWidth_eq]

theorem aluAndi_eq_zeroExtend : aluAndi a i.toNat = a &&& i.zeroExtend 32 := by
  rw [aluAndi, BitVec.ofNat_toNat]

theorem aluOri_eq_zeroExtend : aluOri a i.toNat = a ||| i.zeroExtend 32 := by
  rw [aluOri, BitVec.ofNat_toNat]

theorem aluXori_eq_zeroExtend : aluXori a i.toNat = a ^^^ i.zeroExtend 32 := by
  rw [aluXori, BitVec.ofNat_toNat]

theorem aluEqi_eq_ite : aluEqi a i.toNat = if a.toNat = i.toNat then 1 else 0 := by
  have heq : a = BitVec.ofNat 32 i.toNat ↔ a.toNat = i.toNat := by
    rw [← BitVec.toNat_inj, BitVec.toNat_ofNat, Nat.mod_eq_of_lt (by omega)]
  simp only [aluEqi, truth, heq]

variable {i} (hi : i.toNat < 32)
include hi

theorem aluShli_eq_shiftLeft : aluShli a i.toNat = a <<< i.toNat := by
  rw [aluShli, Nat.mod_eq_of_lt hi]

theorem aluShri_eq_ushiftRight : aluShri a i.toNat = a >>> i.toNat := by
  rw [aluShri, Nat.mod_eq_of_lt hi]

theorem aluSari_eq_sshiftRight : aluSari a i.toNat = a.sshiftRight i.toNat := by
  rw [aluSari, Nat.mod_eq_of_lt hi]

theorem aluTstbi_eq_ite : aluTstbi a i.toNat = if a.getLsbD i.toNat then 1 else 0 := by
  have hbit : (a >>> i.toNat).getLsbD 0 = a.getLsbD i.toNat := by simp
  rw [aluTstbi, Nat.mod_eq_of_lt hi, show (1 : Word) = 1#32 from rfl, BitVec.and_one_eq_setWidth_ofBool_getLsbD, hbit]
  cases a.getLsbD i.toNat <;> rfl

end

/-- A shift count with its reserved bits [7:5] zero (R426, R430). -/
theorem atWord_imm8_lt {s : State} {w : Who} {mask pat : Nat} (h : s.atWord w mask pat 0xE0) :
    (BitVec.ofNat 8 (s.wordOf w)).toNat < 32 := by
  obtain ⟨-, -, -, hresv⟩ := h
  generalize s.wordOf w = n at hresv ⊢
  have hfield : (n &&& 0xE0) >>> 5 = n / 32 % 8 := by
    rw [Nat.shiftRight_and_distrib, Nat.shiftRight_eq_div_pow]
    exact Nat.and_two_pow_sub_one_eq_mod _ 3
  have hzero : n / 32 % 8 = 0 := by rw [← hfield, show n &&& 0xE0 = 0 from hresv, Nat.zero_shiftRight]
  rw [BitVec.toNat_ofNat]
  omega

end Sys2Proof.Machine
end

section
/-! PROOFS. The data stack's instructions settled (R427–R433): each clause is one issue rule and the value its word
pushes. -/
namespace Sys2Proof.Machine

/-! ### PICK, PUT and ROLL (R427) -/

section
variable {w : Who} {s : State} {l r : List Word} {x v : Word}

/-- PICK, PUT or ROLL of element `n`: its stack needs are met for that `n`, and its body takes `n` from the word. -/
theorem issue_element {spec : Nat → OpSpec} {pat n : Nat} {f : Nat → List Word → List Word} {ds ds' : List Word}
    (p q : Nat) (hspec : spec n = { mask := 0xFF00, pat := pat, resv := 0x00F0, pops := p, pushes := q })
    (hpat : ∀ k < 16, (pat + k) &&& 0xFF00 = pat ∧ (pat + k) &&& 15 = k) (hn : n < 16)
    (h : s.atWord w 0xFF0F (pat + n) 0x00F0) (hds : (s.arch w).ds = ds) (hp : p ≤ ds.length)
    (hq : ds.length - p + q ≤ 16) (hf : f n ds = ds') :
    issue w (spec (s.wordOf w % 16)) s (wordBody fun i => f (i % 16)) = .next (s.leavesStack w ds') := by
  obtain ⟨hat, rfl⟩ := atWord_element h hpat hn
  rw [hspec]
  exact issue_wordBody p q rfl rfl rfl hat hds hp hq hf

/-- The same with fewer elements than it pops. -/
theorem issue_element_underflow {spec : Nat → OpSpec} {pat n : Nat} {body : Body} (p q : Nat)
    (hspec : spec n = { mask := 0xFF00, pat := pat, resv := 0x00F0, pops := p, pushes := q })
    (hpat : ∀ k < 16, (pat + k) &&& 0xFF00 = pat ∧ (pat + k) &&& 15 = k) (hn : n < 16)
    (h : s.atWord w 0xFF0F (pat + n) 0x00F0) (hp : (s.arch w).ds.length < p) :
    issue w (spec (s.wordOf w % 16)) s body = .next (s.faults w 3 1) := by
  obtain ⟨hat, rfl⟩ := atWord_element h hpat hn
  rw [hspec]
  exact issue_underflow hat rfl rfl hp

theorem exec_pick : exec (.pick w) s =
    issue w (specPick (s.wordOf w % 16)) s (wordBody fun i ds => nth ds (i % 16) :: ds) := rfl

theorem exec_put : exec (.put w) s =
    issue w (specPut (s.wordOf w % 16)) s (wordBody fun i ds => (ds.drop 1).set (i % 16) (nth ds 0)) := rfl

theorem exec_roll : exec (.roll w) s =
    issue w (specRoll (s.wordOf w % 16)) s (wordBody fun i ds => nth ds (i % 16) :: ds.eraseIdx (i % 16)) := rfl

theorem nth_append_length : nth (l ++ x :: r) l.length = x := by
  simp [nth, List.getD]

theorem pick_leaves (hds : (s.arch w).ds = l ++ x :: r) (hlt : (l ++ x :: r).length < 16)
    (h : s.atWord w 0xFF0F (0x9000 + l.length) 0x00F0) :
    exec (.pick w) s = .next (s.leavesStack w (x :: (l ++ x :: r))) := by
  have hlen : l.length + (r.length + 1) < 16 := by simpa using hlt
  refine exec_pick.trans (issue_element (f := fun n ds => nth ds n :: ds) (l.length + 1) (l.length + 2) rfl (by decide)
    (by omega) h hds (by simp) (by omega) ?_)
  rw [nth_append_length]

theorem put_leaves (hds : (s.arch w).ds = v :: (l ++ x :: r)) (hle : (v :: (l ++ x :: r)).length ≤ 16)
    (h : s.atWord w 0xFF0F (0x9100 + l.length) 0x00F0) :
    exec (.put w) s = .next (s.leavesStack w (l ++ v :: r)) := by
  have hlen : l.length + (r.length + 1) + 1 ≤ 16 := by simpa using hle
  refine exec_put.trans (issue_element (f := fun n ds => (ds.drop 1).set n (nth ds 0)) (l.length + 2) (l.length + 1) rfl
    (by decide) (by omega) h hds (by simp) (by omega) ?_)
  simp [nth]

theorem roll_leaves (hds : (s.arch w).ds = l ++ x :: r) (hle : (l ++ x :: r).length ≤ 16)
    (h : s.atWord w 0xFF0F (0x9200 + l.length) 0x00F0) :
    exec (.roll w) s = .next (s.leavesStack w (x :: (l ++ r))) := by
  have hlen : l.length + (r.length + 1) ≤ 16 := by simpa using hle
  refine exec_roll.trans (issue_element (f := fun n ds => nth ds n :: ds.eraseIdx n) (l.length + 1) (l.length + 1) rfl
    (by decide) (by omega) h hds (by simp) (by omega) ?_)
  simp [nth_append_length, List.eraseIdx_append_of_length_le]

end

/-- Settles O1, by the rule for a body that rearranges the data stack. -/
theorem stackInstructions : Obligations.StackInstructions := by
  intro w s ds hds hlen
  refine ⟨fun h => ?nop, ?dup, ?drop, ?swap, ?copyBelow, ?rot, ?nip, fun hlt h => ?depth, fun hlt h => ?pushs, ?ext,
    ?pick, ?put, ?roll, fun n hn => ⟨fun h hlt => ?pickUnder, fun h hlt => ?putUnder, fun h hlt => ?rollUnder⟩,
    ?under, fun h hnil => ?extUnder⟩
  case nop => exact issue_stackBody 0 0 rfl rfl rfl h hds (by simp) hlen rfl
  case dup =>
    rintro a r rfl hlt h
    exact issue_stackBody 1 2 rfl rfl rfl h hds (by simp) (by omega) rfl
  case drop =>
    rintro a r rfl h
    exact issue_stackBody 1 0 rfl rfl rfl h hds (by simp) (by omega) rfl
  case swap =>
    rintro a b r rfl h
    exact issue_stackBody 2 2 rfl rfl rfl h hds (by simp) (by omega) rfl
  case copyBelow =>
    rintro a b r rfl hlt h
    exact issue_stackBody 2 3 rfl rfl rfl h hds (by simp) (by omega) rfl
  case rot =>
    rintro a b c r rfl h
    exact issue_stackBody 3 3 rfl rfl rfl h hds (by simp) (by omega) rfl
  case nip =>
    rintro a b r rfl h
    exact issue_stackBody 2 1 rfl rfl rfl h hds (by simp) (by omega) rfl
  case depth => exact issue_stackBody 0 1 rfl rfl rfl h hds (by simp) (by omega) rfl
  case pushs =>
    exact issue_wordBody (g := fun i ds => BitVec.ofInt 32 (signed (i % 4096) 12) :: ds) 0 1 rfl rfl rfl h hds (by simp)
      (by omega)
      (congrArg (· :: ds) ((congrArg _ (signed_mod _ 12)).trans (ofInt_signed _ 12 (by decide))))
  case ext =>
    rintro a r rfl h
    exact issue_wordBody (g := fun i ds => BitVec.ofNat 32 ((nth ds 0).toNat * 4096 + i % 4096) :: ds.drop 1) 1 1 rfl
      rfl rfl h hds (by simp) (by omega) (congrArg (· :: r) (ofNat_shift12_add a _))
  case pick =>
    rintro l x r rfl hlt h
    exact pick_leaves hds hlt h
  case put =>
    rintro v l x r rfl h
    exact put_leaves hds hlen h
  case roll =>
    rintro l x r rfl h
    exact roll_leaves hds hlen h
  case pickUnder => exact issue_element_underflow (n + 1) (n + 2) rfl (by decide) hn h (hds ▸ hlt)
  case putUnder => exact issue_element_underflow (n + 2) (n + 1) rfl (by decide) hn h (hds ▸ hlt)
  case rollUnder => exact issue_element_underflow (n + 1) (n + 1) rfl (by decide) hn h (hds ▸ hlt)
  case under =>
    simp only [List.forall_mem_cons, List.not_mem_nil, false_imp_iff, implies_true, and_true]
    subst hds
    exact ⟨fun h hlt => issue_underflow h rfl rfl hlt, fun h hlt => issue_underflow h rfl rfl hlt,
      fun h hlt => issue_underflow h rfl rfl hlt, fun h hlt => issue_underflow h rfl rfl hlt,
      fun h hlt => issue_underflow h rfl rfl hlt, fun h hlt => issue_underflow h rfl rfl hlt⟩
  case extUnder => exact issue_underflow h rfl rfl (by simp [hds, hnil, specExt])

/-- Settles O2, by the rule for two-operand bodies and the value of each. -/
theorem twoOperandResults : Obligations.TwoOperandResults := by
  intro w s a b r hds hr
  exact ⟨fun h => issue_binBody rfl rfl rfl h hds hr (aluAdd_eq_ofNat a b),
    fun h => issue_binBody rfl rfl rfl h hds hr (aluSub_eq_ofInt a b),
    fun h => issue_binBody rfl rfl rfl h hds hr (f := aluAnd) rfl,
    fun h => issue_binBody rfl rfl rfl h hds hr (f := aluOr) rfl,
    fun h => issue_binBody rfl rfl rfl h hds hr (f := aluXor) rfl,
    fun h => issue_binBody rfl rfl rfl h hds hr (aluShl_eq_ofNat a b),
    fun h => issue_binBody rfl rfl rfl h hds hr (aluShr_eq_ofNat a b),
    fun h => issue_binBody rfl rfl rfl h hds hr (aluSar_eq_ofInt a b),
    fun h => issue_binBody rfl rfl rfl h hds hr (aluMul_eq_ofNat a b),
    fun h => issue_binBody rfl rfl rfl h hds hr (aluMulhu_eq_extract a b),
    fun h => issue_binBody rfl rfl rfl h hds hr (aluMinu_eq_ofNat a b),
    fun h => issue_binBody rfl rfl rfl h hds hr (aluMaxu_eq_ofNat a b),
    fun h => issue_binBody rfl rfl rfl h hds hr (f := aluEq) rfl,
    fun h => issue_binBody rfl rfl rfl h hds hr (aluNe_eq_ite a b),
    fun h => issue_binBody rfl rfl rfl h hds hr (f := aluLtu) rfl,
    fun h => issue_binBody rfl rfl rfl h hds hr (aluLts_eq_ite a b),
    fun h => issue_binBody rfl rfl rfl h hds hr (aluCrc32c_eq_iterate a b),
    fun h => issue_binBody rfl rfl rfl h hds hr (aluCrc16_eq_iterate a b)⟩

/-- Settles O4, by the rule for immediate bodies and the value of each. -/
theorem immediateResults : Obligations.ImmediateResults := by
  rintro w s a r _ hds hr rfl
  exact ⟨fun h => issue_immBody rfl rfl rfl h hds hr rfl (aluAddi_eq_signExtend a _),
    fun h => issue_immBody rfl rfl rfl h hds hr rfl (aluAndi_eq_zeroExtend a _),
    fun h => issue_immBody rfl rfl rfl h hds hr rfl (aluOri_eq_zeroExtend a _),
    fun h => issue_immBody rfl rfl rfl h hds hr rfl (aluXori_eq_zeroExtend a _),
    fun h => issue_immBody rfl rfl rfl h hds hr rfl (aluShli_eq_shiftLeft a (atWord_imm8_lt h)),
    fun h => issue_immBody rfl rfl rfl h hds hr rfl (aluShri_eq_ushiftRight a (atWord_imm8_lt h)),
    fun h => issue_immBody rfl rfl rfl h hds hr rfl (aluSari_eq_sshiftRight a (atWord_imm8_lt h)),
    fun h => issue_immBody rfl rfl rfl h hds hr rfl (aluEqi_eq_ite a _),
    fun h => issue_immBody rfl rfl rfl h hds hr rfl (f := aluLtui) rfl,
    fun h => issue_immBody rfl rfl rfl h hds hr rfl (aluTstbi_eq_ite a (atWord_imm8_lt h))⟩

end Sys2Proof.Machine
end

section
/-! PROOFS. Control transfer settled (R441–R444). -/
namespace Sys2Proof.Machine

/-! ### Branches (R441) -/

/-- A relative branch's target as the spec writes it: PC + 1 + sext(OFF10) within the PC's width. -/
theorem branchTarget_eq (w : Who) (pc n : Nat) :
    branchTarget (pcMod w) pc n = ((pc + 1 + (BitVec.ofNat 10 n).toInt) % (pcMod w : Int)).toNat := by
  have hdvd : pcMod w ∣ 2 ^ 32 := by
    cases w with
    | pe cl e th => exact pow_dvd_pow 2 (by decide : 16 ≤ 32)
    | ce k => exact pow_dvd_pow 2 (by decide : 21 ≤ 32)
  have hpos : ((2 ^ 32 : Nat) : Int) ≠ 0 := by decide
  rw [branchTarget, unsigned, show 1024 = 2 ^ 10 from rfl, signed_mod, signed_eq_toInt n 10 (by decide)]
  have hnonneg := Int.emod_nonneg ((pc : Int) + 1 + (BitVec.ofNat 10 n).toInt) hpos
  rw [← Int.toNat_natCast (((_ : Int) % _).toNat % _), Int.natCast_emod, Int.toNat_of_nonneg hnonneg,
    Int.emod_emod_of_dvd _ (Int.natCast_dvd_natCast.mpr hdvd)]

section
variable {w : Who} {p : Nat} {taken : Word → Bool} {t : State} {a : Arch} {i : Nat}

theorem branchBody_taken (h : taken (nth a.ds 0) = true) : branchBody w p taken t a i =
    .ok { s := t, a := { a with ds := a.ds.drop p, pc := branchTarget (pcMod w) a.pc i }, jump := true } := if_pos h

theorem branchBody_notTaken (h : taken (nth a.ds 0) = false) : branchBody w p taken t a i =
    .ok { s := t, a := { a with ds := a.ds.drop p } } := if_neg (Bool.eq_false_iff.mp h)

end

/-- A conditional branch, by whether its operand takes it. -/
theorem issue_branch {w : Who} {o : OpSpec} {s : State} {taken : Word → Bool} {v : Word} {r : List Word}
    (ho : o.stackUse = (1, 0, false, false)) (hh : o.helper = false) (hc : o.control = false)
    (h : s.atWord w o.mask o.pat o.resv) (hds : (s.arch w).ds = v :: r) (hlen : (s.arch w).ds.length ≤ 16) :
    issue w o s (branchBody w 1 taken) = .next
      (if taken v then s.leaves w { s.arch w with ds := r, pc := branchTarget (pcMod w) (s.arch w).pc (s.wordOf w) } true
       else s.leaves w { s.arch w with ds := r }) := by
  have hdrop : (s.arch w).ds.drop 1 = r := by rw [hds, List.drop_one, List.tail_cons]
  have htop : nth (s.arch w).ds 0 = v := by simp [hds, nth]
  have hp : 1 ≤ (s.arch w).ds.length := by simp [hds]
  split
  next hv =>
    exact issue_regs 1 0 ho hh hc h hp (by omega) nofun nofun fun t => by rw [branchBody_taken (htop ▸ hv), hdrop]
  next hv =>
    exact issue_regs 1 0 ho hh hc h hp (by omega) nofun nofun fun t => by
      rw [branchBody_notTaken (htop ▸ Bool.eq_false_iff.mpr hv), hdrop]

/-- Settles O5, by the target as the spec writes it and the rule for bodies that change the registers alone. -/
theorem controlTransfers : Obligations.ControlTransfers := by
  rintro w s _ target rfl hlen htarget
  obtain rfl : target = branchTarget (pcMod w) (s.arch w).pc (s.wordOf w) := htarget.trans (branchTarget_eq ..).symm
  refine ⟨fun h => ?bra, fun v r hds h => ?bz, fun v r hds h => ?bnz, fun hroom h => ?call, fun p q hrs h => ?ret,
    fun v r hds h => ?jmps, fun v r hds hroom h => ?calls⟩
  case bra => exact issue_regs 0 0 rfl rfl rfl h (by omega) (by omega) nofun nofun fun _ => rfl
  case bz => exact (issue_branch (o := specBz) (taken := fun a => a == 0) rfl rfl rfl h hds hlen).trans (by simp)
  case bnz =>
    exact (issue_branch (o := specBnz) (taken := fun a => a != 0) rfl rfl rfl h hds hlen).trans (by simp)
  case call => exact issue_regs 0 0 rfl rfl rfl h (by omega) (by omega) nofun (fun _ => hroom) fun _ => rfl
  case ret =>
    exact issue_regs 0 0 rfl rfl rfl h (by omega) (by omega) (fun _ => by simp [hrs]) nofun fun _ => by simp [hrs]
  case jmps => exact issue_regs 1 0 rfl rfl rfl h (by simp [hds]) (by omega) nofun nofun fun _ => by simp [hds, nth]
  case calls =>
    exact issue_regs 1 0 rfl rfl rfl h (by simp [hds]) (by omega) nofun (fun _ => hroom) fun _ => by simp [hds, nth]

end Sys2Proof.Machine
end

section
/-! PROOFS. RC, the repeats and the return stack settled (R422, R445–R447, R455). -/
namespace Sys2Proof.Machine

/-! ### What counting an instruction leaves of the program store -/

@[simp] theorem State.sampleTick_flume (s : State) (i : Nat) (what : Nat × Nat × Nat) :
    (s.sampleTick i what).flume = s.flume := by
  unfold State.sampleTick
  split
  · rfl
  · split_ifs <;> rfl

@[simp] theorem State.engEvent_flume (s : State) (n e th code : Nat) : (s.engEvent n e th code).flume = s.flume := by
  simp only [State.engEvent, State.engAdd, List.foldl_cons, List.foldl_nil]
  split_ifs <;> simp

/-- The program a thread or a control engine runs is the same while an instruction is counted (R375, R376). -/
theorem instrAt_counted (s : State) (w : Who) (pc : Nat) : (s.counted w).instrAt w pc = s.instrAt w pc := by
  cases w with
  | ce k => rfl
  | pe cl e th =>
    have hps : (s.counted (.pe cl e th)).flume.ps = s.flume.ps := by
      simp only [State.counted, State.issued, List.foldl_cons, List.foldl_nil]
      split
      · split_ifs <;> simp
      · simp
    simp only [State.instrAt, hps]

/-! ### Repeat targets (R422, R455) -/

/-- Whether the issuer is a control engine. -/
def isCe : Who → Bool
  | .ce _ => true
  | .pe _ _ _ => false

section
variable {ce x : Bool} {rc : Word} {i : Nat}

theorem targetCheck_of_changesRc (h : i / 0x100 = 0xB0 ∨ i = 0xB100 ∨ i = 0xB200 ∨ i = 0xB300 ∨ i / 0x100 = 0xB8) :
    targetCheck ce x rc i = some (2, 0) := by
  have hclass : i / 0x1000 = 0xB := by omega
  have hfun : i / 256 % 16 = 0 ∨ (i / 256 % 16 = 1 ∨ i / 256 % 16 = 2 ∨ i / 256 % 16 = 3) ∧ i % 256 = 0 ∨
      i / 256 % 16 = 8 := by omega
  obtain hf | ⟨hf | hf | hf, himm⟩ | hf := hfun <;>
    simp [targetCheck, undefinedWord, reservedBad, changesRc, *]

theorem targetCheck_of_jump (h : i / 0x1000 = 0x3 ∨ i = 0x0038 ∨ i = 0x0039 ∨ i = 0x003A) :
    targetCheck ce x rc i = some (2, 1) := by
  obtain h | rfl | rfl | rfl := h <;>
    simp [targetCheck, undefinedWord, zeroOpUndefined, reservedBad, changesRc, illegalTarget, *]

theorem targetCheck_of_control (h : i = 0xD000 ∨ i = 0xD100 ∨ i = 0xD200 ∨ i / 0x100 = 0xD6 ∨ i = 0xD800) :
    targetCheck true x rc i = some (2, 1) := by
  have hclass : i / 0x1000 = 0xD := by omega
  have hfun : (i / 256 % 16 = 0 ∨ i / 256 % 16 = 1 ∨ i / 256 % 16 = 2 ∨ i / 256 % 16 = 8) ∧ i % 256 = 0 ∨
      i / 256 % 16 = 6 := by omega
  obtain ⟨hf | hf | hf | hf, himm⟩ | hf := hfun <;>
    simp [targetCheck, undefinedWord, reservedBad, changesRc, illegalTarget, *]

theorem targetCheck_of_ending (h : i = 0xA708 ∨ i = 0xA709 ∨ i = 0xA70A) : targetCheck false x rc i = some (2, 1) := by
  obtain rfl | rfl | rfl := h <;> simp [targetCheck, undefinedWord, reservedBad, changesRc, illegalTarget]

theorem targetCheck_of_control_on_pe (hlo : 0xD000 ≤ i) (hhi : i ≤ 0xD8FF) : targetCheck false x rc i = some (1, 2) := by
  have hclass : i / 0x1000 = 0xD := by omega
  have hfun : i / 256 % 16 < 9 := by omega
  simp [targetCheck, undefinedWord, hclass, hfun]

theorem targetCheck_of_limit (hrc : 64 < rc.toNat) : targetCheck ce true rc 0x0010 = some (2, 2) := by
  simp [targetCheck, undefinedWord, zeroOpUndefined, reservedBad, changesRc, illegalTarget, hrc]

end

/-! ### REP and REPX (R388, R390, R422, R445) -/

section
variable {w : Who} {s : State} {x : Bool}

/-- The code point of REP and of REPX. -/
def specRepeat (x : Bool) : OpSpec := { mask := 0xFF00, pat := if x then 0xB200 else 0xB100, resv := 0xFF }

theorem exec_repeat : exec (if x then .repx w else .rep w) s = issue w (specRepeat x) s (repBody w x) := by
  cases x <;> rfl

/-- What REP or REPX does once its target has passed: past the target with RC at 0, else to it, repeating. -/
theorem repBody_of_legal {t : State} {a : Arch} {i : Nat}
    (h : targetCheck (isCe w) x a.rc (t.instrAt w (a.pc + 1)) = none) :
    repBody w x t a i =
      if a.rc = 0 then .ok { s := t, a := { a with pc := (a.pc + 2) % pcMod w }, jump := true }
      else .ok { s := t, a := { a with rep := some (a.pc, x), pc := (a.pc + 1) % pcMod w }, jump := true } := by
  cases w <;> simp only [isCe] at h <;> simp only [repBody, h]

theorem repBody_of_illegal {t : State} {a : Arch} {i : Nat} {f : Nat × Nat}
    (h : targetCheck (isCe w) x a.rc (t.instrAt w (a.pc + 1)) = some f) : repBody w x t a i = .error f := by
  cases w <;> simp only [isCe] at h <;> simp only [repBody, h]

variable (h : s.atWord w 0xFF00 (if x then 0xB200 else 0xB100) 0xFF) (hlen : (s.arch w).ds.length ≤ 16)
include h hlen

/-- REP or REPX over a legal target. -/
theorem repeat_leaves (ht : targetCheck (isCe w) x (s.arch w).rc (s.instrAt w ((s.arch w).pc + 1)) = none) :
    exec (if x then .repx w else .rep w) s = .next
      (if (s.arch w).rc = 0 then s.leaves w { s.arch w with pc := ((s.arch w).pc + 2) % pcMod w } true
       else s.leaves w { s.arch w with rep := some ((s.arch w).pc, x), pc := ((s.arch w).pc + 1) % pcMod w } true) := by
  obtain ⟨hwf, hissues, hword, hresv⟩ := h
  have hcheck : (specRepeat x).check w (s.arch w) (s.wordOf w) = none :=
    check_none_of_stackUse 0 0 rfl rfl rfl hresv (by omega) (by omega) nofun nofun
  rw [← instrAt_counted] at ht
  have hbody := repBody_of_legal (i := s.wordOf w) ht
  rw [exec_repeat, issue_next hwf hissues hword]
  split
  next hrc => rw [runInstr_ok hcheck (hbody.trans (if_pos hrc))]; rfl
  next hrc => rw [runInstr_ok hcheck (hbody.trans (if_neg hrc))]; rfl

/-- REP or REPX over an illegal target takes the fault of the target's first failing check. -/
theorem repeat_faults {c u : Nat}
    (ht : targetCheck (isCe w) x (s.arch w).rc (s.instrAt w ((s.arch w).pc + 1)) = some (c, u)) :
    exec (if x then .repx w else .rep w) s = .next (s.faults w c u) := by
  obtain ⟨hwf, hissues, hword, hresv⟩ := h
  have hcheck : (specRepeat x).check w (s.arch w) (s.wordOf w) = none :=
    check_none_of_stackUse 0 0 rfl rfl rfl hresv (by omega) (by omega) nofun nofun
  rw [← instrAt_counted] at ht
  rw [exec_repeat, issue_next hwf hissues hword, runInstr_error hcheck (repBody_of_illegal ht)]

end

/-! ### SETRC and LOOP (R445, R446) -/

theorem ofNat_mod_eq_zeroExtend (n : Nat) : BitVec.ofNat 32 (n % 256) = (BitVec.ofNat 8 n).zeroExtend 32 :=
  BitVec.ofNat_toNat 32 (BitVec.ofNat 8 n)

theorem loop_leaves {w : Who} {s : State} (h : s.atWord w 0xFF00 0xB800 0) (hlen : (s.arch w).ds.length ≤ 16) :
    exec (.loop w) s = .next
      (if (s.arch w).rc = 0 ∨ (s.arch w).rc = 1 then s.leaves w { s.arch w with rc := 0 }
       else s.leaves w { s.arch w with
         rc := (s.arch w).rc - 1
         pc := ((s.arch w).pc + pcMod w - (BitVec.ofNat 8 (s.wordOf w)).toNat) % pcMod w } true) := by
  have hone : (s.arch w).rc - 1 = 0 ↔ (s.arch w).rc = 1 := sub_eq_zero
  split
  next hrc =>
    refine issue_regs 0 0 rfl rfl rfl h (by omega) (by omega) nofun nofun fun t => ?_
    obtain hrc | hrc := hrc
    · rw [if_pos hrc, ← hrc]
    · have hne : (s.arch w).rc ≠ 0 := by rw [hrc]; decide
      rw [if_neg hne]
      exact if_pos (hone.mpr hrc)
  next hrc =>
    obtain ⟨hzero, hne⟩ := not_or.mp hrc
    refine issue_regs 0 0 rfl rfl rfl h (by omega) (by omega) nofun nofun fun t => ?_
    rw [if_neg hzero]
    exact if_neg (mt hone.mp hne)

/-- Settles O6: SETRC, the return stack and LOOP change the registers alone; REP and REPX by their target's check. -/
theorem repeatsAndReturnStack : Obligations.RepeatsAndReturnStack := by
  refine ⟨?regs, ?targets⟩
  case regs =>
    rintro w s _ rfl hlen
    refine ⟨fun h => ?setrc, fun v r hds h => ?poprc, fun hlt h => ?pushrc, fun v r hds hroom h => ?tor,
      fun p q hrs hlt h => ?fromr, fun p q hrs hlt h => ?rfetch, fun h => ?loop, fun x ht h => ?legal⟩
    case setrc =>
      exact issue_regs 0 0 rfl rfl rfl h (by omega) (by omega) nofun nofun fun _ => by rw [ofNat_mod_eq_zeroExtend]
    case poprc => exact issue_regs 1 0 rfl rfl rfl h (by simp [hds]) (by omega) nofun nofun fun _ => by simp [hds, nth]
    case pushrc => exact issue_regs 0 1 rfl rfl rfl h (by omega) (by omega) nofun nofun fun _ => rfl
    case tor =>
      exact issue_regs 1 0 rfl rfl rfl h (by simp [hds]) (by omega) nofun (fun _ => hroom) fun _ => by simp [hds, nth]
    case fromr =>
      exact issue_regs 0 1 rfl rfl rfl h (by omega) (by omega) (fun _ => by simp [hrs]) nofun fun _ => by simp [hrs]
    case rfetch =>
      exact issue_regs 0 1 rfl rfl rfl h (by omega) (by omega) (fun _ => by simp [hrs]) nofun fun _ => by simp [hrs]
    case loop => exact loop_leaves h hlen
    case legal => exact repeat_leaves h hlen (by cases w <;> exact ht)
  case targets =>
    intro w s x ce i hlen hce hi hlt hat e
    obtain rfl : ce = isCe w := by cases w <;> exact hce
    have hfault {c u : Nat} (ht : targetCheck (isCe w) x (s.arch w).rc i = some (c, u)) : e = .next (s.faults w c u) :=
      repeat_faults hat hlen (hi ▸ ht)
    refine ⟨fun h => hfault (targetCheck_of_changesRc h), fun h => hfault (targetCheck_of_jump h), fun hce h => ?control,
      fun hce h => ?ending, fun hce hlo hhi => ?controlOnPe, fun hx hrc h => ?limit⟩
    case control => exact hfault (hce ▸ targetCheck_of_control h)
    case ending => exact hfault (hce ▸ targetCheck_of_ending h)
    case controlOnPe => exact hfault (hce ▸ targetCheck_of_control_on_pe hlo hhi)
    case limit => exact hfault (by rw [hx, h]; exact targetCheck_of_limit hrc)

end Sys2Proof.Machine
end

section
/-! PROOFS. The values of the one-operand instructions (R429, R431), as results of the same arithmetic. -/
namespace Sys2Proof.Machine

/-! ### Leading zeros and set bits (R429) -/

theorem leadZerosFrom_le (n k : Nat) : leadZerosFrom n k ≤ k := by
  induction k with
  | zero => exact le_refl 0
  | succ k ih =>
    rw [leadZerosFrom]
    split <;> omega

/-- The low `k` bits of a number, by its bit `k - 1` and the bits below. -/
theorem mod_two_pow_succ_eq (n k : Nat) : n % 2 ^ (k + 1) = n / 2 ^ k % 2 * 2 ^ k + n % 2 ^ k := by
  rw [Nat.pow_succ, Nat.mod_mul, Nat.mul_comm, Nat.add_comm]

/-- The low `k` bits of a number fill all but its leading zeros. -/
theorem leadZerosFrom_bounds (n k : Nat) :
    n % 2 ^ k < 2 ^ (k - leadZerosFrom n k) ∧
      (leadZerosFrom n k < k → 2 ^ (k - 1 - leadZerosFrom n k) ≤ n % 2 ^ k) := by
  induction k with
  | zero => simp [Nat.mod_one]
  | succ k ih =>
    obtain ⟨habove, hbelow⟩ := ih
    have hle := leadZerosFrom_le n k
    rw [leadZerosFrom]
    split
    next hbit =>
      refine ⟨Nat.mod_lt _ (Nat.two_pow_pos _), fun _ => ?_⟩
      rw [mod_two_pow_succ_eq, hbit]
      simp
    next hbit =>
      have hzero : n / 2 ^ k % 2 = 0 := by omega
      rw [mod_two_pow_succ_eq, hzero, show k + 1 - (1 + leadZerosFrom n k) = k - leadZerosFrom n k by omega,
        show k + 1 - 1 - (1 + leadZerosFrom n k) = k - 1 - leadZerosFrom n k by omega]
      exact ⟨by omega, fun h => by have := hbelow (by omega); omega⟩

theorem popCount_eq_countP (n k : Nat) : popCount n k = (List.range k).countP fun i => n.testBit i := by
  induction k generalizing n with
  | zero => rfl
  | succ k ih =>
    rw [popCount, ih, List.range_succ_eq_map, List.countP_cons, List.countP_map, Nat.add_comm]
    congr 1
    · exact List.countP_congr fun i _ => by simp [Nat.testBit_succ]
    · rw [Nat.testBit_zero]
      rcases Nat.mod_two_eq_zero_or_one n with h | h <;> simp [h]

theorem aluNot_eq_ofNat (a : Word) : aluNot a = BitVec.ofNat 32 (2 ^ 32 - 1 - a.toNat) := by
  apply BitVec.eq_of_toNat_eq
  rw [aluNot, BitVec.toNat_not, BitVec.toNat_ofNat, Nat.mod_eq_of_lt (by omega)]

theorem aluNeg_eq_ofInt (a : Word) : aluNeg a = BitVec.ofInt 32 (-a.toInt) := by
  rw [aluNeg, show (0 : Word) = 0#32 from rfl, BitVec.zero_sub, BitVec.ofInt_neg, BitVec.ofInt_toInt]

theorem aluPopcnt_eq_countP (a : Word) :
    aluPopcnt a = BitVec.ofNat 32 ((List.range 32).countP fun i => a.getLsbD i) := by
  rw [aluPopcnt, popCount_eq_countP]
  rfl

theorem aluParity_eq_ite (a : Word) :
    aluParity a = if ((List.range 32).countP fun i => a.getLsbD i) % 2 = 1 then 1 else 0 := by
  rw [aluParity, popCount_eq_countP]
  change BitVec.ofNat 32 (((List.range 32).countP fun i => a.getLsbD i) % 2) = _
  rcases Nat.mod_two_eq_zero_or_one ((List.range 32).countP fun i => a.getLsbD i) with h | h <;> simp [h]

/-! ### Bits and bytes in reversed order (R431) -/

theorem revBits_lt (n k : Nat) : revBits n k < 2 ^ k := by
  induction k generalizing n with
  | zero => simp [revBits]
  | succ k ih =>
    have hlow := ih (n / 2)
    rw [revBits, Nat.pow_succ]
    rcases Nat.mod_two_eq_zero_or_one n with h | h <;> rw [h] <;> omega

theorem testBit_revBits (n k i : Nat) : (revBits n k).testBit i = (decide (i < k) && n.testBit (k - 1 - i)) := by
  induction k generalizing n with
  | zero => simp [revBits]
  | succ k ih =>
    rw [revBits, Nat.mul_comm, Nat.testBit_two_pow_mul_add _ (revBits_lt _ _), ih]
    split
    next hlt =>
      rw [show k + 1 - 1 - i = k - 1 - i + 1 by omega, Nat.testBit_succ]
      simp [hlt, Nat.lt_succ_of_lt hlt]
    next hge =>
      rcases Nat.eq_or_lt_of_le (Nat.le_of_not_lt hge) with rfl | hgt
      · simp [Nat.testBit_zero]
      · rw [Nat.testBit_lt_two_pow (i := i - k)]
        · simp [show ¬ i < k + 1 by omega]
        · have hpow : 2 ^ 1 ≤ 2 ^ (i - k) := Nat.pow_le_pow_right (by decide) (by omega)
          omega

theorem getLsbD_ofNat_revBits (a : Word) {k : Nat} {i : Nat} (hi : i < 32) :
    (BitVec.ofNat 32 (revBits a.toNat k)).getLsbD i = (decide (i < k) && a.getLsbD (k - 1 - i)) := by
  rw [BitVec.getLsbD_ofNat, testBit_revBits]
  simp [hi, BitVec.getLsbD]

/-- A word cut into bytes reads as those bytes side by side. -/
theorem toNat_append_bytes {n : Nat} (x : BitVec n) (b : Byte) : (x ++ b).toNat = x.toNat * 256 + b.toNat := by
  rw [BitVec.toNat_append, ← Nat.shiftLeft_add_eq_or_of_lt b.isLt, Nat.shiftLeft_eq]

theorem aluBswap16_eq_append (a : Word) :
    aluBswap16 a = 0#16 ++ (a.extractLsb' 0 8 ++ a.extractLsb' 8 8) := by
  apply BitVec.eq_of_toNat_eq
  rw [BitVec.toNat_append, toNat_append_bytes]
  simp [aluBswap16, leBytes, leNat, BitVec.extractLsb'_toNat, Nat.shiftRight_eq_div_pow]
  omega

theorem aluBswap32_eq_append (a : Word) :
    aluBswap32 a = a.extractLsb' 0 8 ++ a.extractLsb' 8 8 ++ a.extractLsb' 16 8 ++ a.extractLsb' 24 8 := by
  apply BitVec.eq_of_toNat_eq
  rw [toNat_append_bytes, toNat_append_bytes, toNat_append_bytes]
  simp [aluBswap32, leBytes, leNat, BitVec.extractLsb'_toNat, Nat.shiftRight_eq_div_pow, Nat.div_div_eq_div_mul]
  omega

theorem aluSext8_eq_signExtend (a : Word) : aluSext8 a = (a.extractLsb' 0 8).signExtend 32 := by
  rw [aluSext8, ofInt_signed _ 8 (by decide), ofNat8_toNat]

theorem aluSext16_eq_signExtend (a : Word) : aluSext16 a = (a.extractLsb' 0 16).signExtend 32 := by
  rw [aluSext16, ofInt_signed _ 16 (by decide)]
  congr 1

/-! ### The one-operand instructions -/

/-- A one-operand instruction, by the value `v` of its result. -/
theorem issue_unBody {w : Who} {o : OpSpec} {s : State} {f : Word → Word} {a v : Word} {r : List Word}
    (ho : o.stackUse = (1, 1, false, false)) (hh : o.helper = false) (hc : o.control = false)
    (h : s.atWord w o.mask o.pat o.resv) (hds : (s.arch w).ds = a :: r) (hr : r.length ≤ 15) (hv : f a = v) :
    issue w o s (unBody f) = .next (s.leavesStack w (v :: r)) := by
  subst hv
  exact issue_stackBody 1 1 ho hh hc h hds (by simp) (by simp only [List.length_cons]; omega) rfl

/-- Settles O3, by the rule for one-operand bodies and the value of each. -/
theorem oneOperandResults : Obligations.OneOperandResults := by
  intro w s a r hds hr
  refine ⟨fun h => issue_unBody rfl rfl rfl h hds hr (aluNot_eq_ofNat a),
    fun h => issue_unBody rfl rfl rfl h hds hr (aluNeg_eq_ofInt a), fun h => ?clz,
    fun h => issue_unBody rfl rfl rfl h hds hr (aluPopcnt_eq_countP a),
    fun h => issue_unBody rfl rfl rfl h hds hr (aluParity_eq_ite a),
    fun h => ⟨aluBrev8 a, issue_unBody rfl rfl rfl h hds hr rfl, fun _ hi => getLsbD_ofNat_revBits a hi⟩,
    fun h => ⟨aluBrev16 a, issue_unBody rfl rfl rfl h hds hr rfl, fun _ hi => getLsbD_ofNat_revBits a hi⟩,
    fun h => ⟨aluBrev32 a, issue_unBody rfl rfl rfl h hds hr rfl, fun i hi => ?brev32⟩,
    fun h => issue_unBody rfl rfl rfl h hds hr (aluBswap16_eq_append a),
    fun h => issue_unBody rfl rfl rfl h hds hr (aluBswap32_eq_append a),
    fun h => issue_unBody rfl rfl rfl h hds hr (aluSext8_eq_signExtend a),
    fun h => issue_unBody rfl rfl rfl h hds hr (aluSext16_eq_signExtend a)⟩
  case clz =>
    have hbounds := leadZerosFrom_bounds a.toNat 32
    rw [Nat.mod_eq_of_lt a.isLt] at hbounds
    exact ⟨leadZerosFrom a.toNat 32, leadZerosFrom_le _ _, issue_unBody rfl rfl rfl h hds hr rfl, hbounds⟩
  case brev32 => rw [aluBrev32, getLsbD_ofNat_revBits a hi, decide_eq_true hi, Bool.true_and]

end Sys2Proof.Machine
end

section
/-! PROOFS. The checks of R421 and the undefined code points settled (R422–R426). -/
namespace Sys2Proof.Machine

/-! ### The checks of an instruction of any engine (R421) -/

section
variable {w : Who} {o : OpSpec} {s : State} {body : Body}

/-- An instruction whose check fails takes that fault. -/
theorem issue_check {c u : Nat} (h : s.atWord w o.mask o.pat 0)
    (hc : o.check w (s.arch w) (s.wordOf w) = some (c, u)) : issue w o s body = .next (s.faults w c u) := by
  obtain ⟨hwf, hissues, hword, -⟩ := h
  rw [issue_next hwf hissues hword, runInstr_check hc]

/-- Checks 3 and 7 of an instruction of any engine that leaves the return stack alone. -/
theorem issue_checks (hh : o.helper = false) (hc : o.control = false) (h : s.atWord w o.mask o.pat 0) :
    (Nat.land (s.wordOf w) o.resv ≠ 0 → issue w o s body = .next (s.faults w 1 1)) ∧
    (Nat.land (s.wordOf w) o.resv = 0 → (s.arch w).ds.length < o.pops → issue w o s body = .next (s.faults w 3 1)) ∧
    (Nat.land (s.wordOf w) o.resv = 0 → o.pops ≤ (s.arch w).ds.length →
      16 + o.pops < (s.arch w).ds.length + o.pushes → issue w o s body = .next (s.faults w 3 0)) := by
  refine ⟨fun hresv => issue_check h ?_, fun hresv hpops => issue_check h ?_, fun hresv hpops hpush => issue_check h ?_⟩
  · simp only [OpSpec.check, hh, hc, hresv, Bool.false_eq_true, false_and, if_false, ne_eq, not_false_eq_true, if_true]
  · simp only [OpSpec.check, hh, hc, hresv, Bool.false_eq_true, false_and, if_false, ne_eq, not_true_eq_false, hpops,
      if_true]
  · have hover : 16 < (s.arch w).ds.length - o.pops + o.pushes := by omega
    simp only [OpSpec.check, hh, hc, hresv, Bool.false_eq_true, false_and, if_false, ne_eq, not_true_eq_false,
      not_lt.mpr hpops, hover, if_true]

/-- An instruction that passes its other checks with an empty return stack to pop. -/
theorem issue_return_underflow (p q : Nat) {ru : Bool} (ho : o.stackUse = (p, q, true, ru)) (hh : o.helper = false)
    (hc : o.control = false) (h : s.atWord w o.mask o.pat o.resv) (hp : p ≤ (s.arch w).ds.length)
    (hq : (s.arch w).ds.length - p + q ≤ 16) (hrs : (s.arch w).rs = []) :
    issue w o s body = .next (s.faults w 3 3) := by
  obtain ⟨rfl, rfl, hrp, -⟩ : o.pops = p ∧ o.pushes = q ∧ o.rpop = true ∧ o.rpush = ru := by
    simpa [OpSpec.stackUse] using ho
  obtain ⟨hwf, hissues, hword, hresv⟩ := h
  refine issue_check ⟨hwf, hissues, hword, Nat.and_zero _⟩ ?_
  simp only [OpSpec.check, hh, hc, hresv, Bool.false_eq_true, false_and, if_false, ne_eq, not_true_eq_false,
    not_lt.mpr hp, not_lt.mpr hq, hrp, hrs, and_self, if_true]

/-- An instruction that passes its other checks with a full return stack to push on. -/
theorem issue_return_overflow (p q : Nat) (ho : o.stackUse = (p, q, false, true)) (hh : o.helper = false)
    (hc : o.control = false) (h : s.atWord w o.mask o.pat o.resv) (hp : p ≤ (s.arch w).ds.length)
    (hq : (s.arch w).ds.length - p + q ≤ 16) (hrs : 8 ≤ (s.arch w).rs.length) :
    issue w o s body = .next (s.faults w 3 2) := by
  obtain ⟨rfl, rfl, hrp, hru⟩ : o.pops = p ∧ o.pushes = q ∧ o.rpop = false ∧ o.rpush = true := by
    simpa [OpSpec.stackUse] using ho
  obtain ⟨hwf, hissues, hword, hresv⟩ := h
  refine issue_check ⟨hwf, hissues, hword, Nat.and_zero _⟩ ?_
  simp only [OpSpec.check, hh, hc, hresv, Bool.false_eq_true, false_and, if_false, ne_eq, not_true_eq_false,
    not_lt.mpr hp, not_lt.mpr hq, hrp, hru, hrs, and_self, if_true]

/-- A control-extension word on a packet engine (R425). -/
theorem issue_control_on_pe {cl e th : Nat} (hh : o.helper = false) (hc : o.control = true)
    (h : s.atWord (.pe cl e th) o.mask o.pat 0) :
    issue (.pe cl e th) o s body = .next (s.faults (.pe cl e th) 1 2) :=
  issue_check h (by simp [OpSpec.check, hh, hc])

end

/-! ### Undefined code points (R424, R449) -/

/-- The classes of words that are undefined whatever the function of a helper unit. -/
theorem undefinedWord_of_class {w : Who} {i : Nat} (hlt : i < 0x10000)
    (h : i = 0 ∨ 0xE000 ≤ i ∨ i / 0x1000 = 0xC ∨ i / 0x400 = 0x13 ∨ i / 0x400 = 0x17 ∨ i / 0x400 = 0x1B ∨
      i / 0x400 = 0x1F ∨ (0x8A00 ≤ i ∧ i < 0x9000) ∨ (0x9300 ≤ i ∧ i < 0xA000) ∨ (0xA900 ≤ i ∧ i < 0xB000) ∨
      (0xB900 ≤ i ∧ i < 0xD000) ∨ (0xD900 ≤ i ∧ i < 0xE000) ∨ (∃ k, w = .ce k ∧ 0xA000 ≤ i ∧ i < 0xB000)) :
    undefinedWord (isCe w) i = true := by
  have hclass : i = 0 ∨ i / 0x1000 = 0xE ∨ i / 0x1000 = 0xF ∨ i / 0x1000 = 0xC ∨
      ((i / 0x1000 = 4 ∨ i / 0x1000 = 5 ∨ i / 0x1000 = 6 ∨ i / 0x1000 = 7) ∧ i / 0x400 % 4 = 3) ∨
      (i / 0x1000 = 8 ∧ 10 ≤ i / 256 % 16) ∨ (i / 0x1000 = 9 ∧ 3 ≤ i / 256 % 16) ∨
      (i / 0x1000 = 0xA ∧ (9 ≤ i / 256 % 16 ∨ isCe w = true)) ∨ (i / 0x1000 = 0xB ∧ 9 ≤ i / 256 % 16) ∨
      (i / 0x1000 = 0xD ∧ 9 ≤ i / 256 % 16) := by
    rcases h with h | h | h | h | h | h | h | h | h | h | h | h | ⟨k, rfl, h⟩
    case inr.inr.inr.inr.inr.inr.inr.inr.inr.inr.inr.inr =>
      exact .inr (.inr (.inr (.inr (.inr (.inr (.inr (.inl ⟨by omega, .inr rfl⟩)))))))
    all_goals omega
  rcases hclass with rfl | hk | hk | hk | ⟨hk | hk | hk | hk, hw⟩ | ⟨hk, hw⟩ | ⟨hk, hw⟩ | ⟨hk, hw | hw⟩ | ⟨hk, hw⟩ | ⟨hk, hw⟩ <;>
    simp [undefinedWord, zeroOpUndefined, *]

theorem exec_undefinedOpcode_of_undefinedWord {w : Who} {s : State} (hwf : w.wf = true) (hi : s.issues w = true)
    (hu : undefinedWord (isCe w) (s.wordOf w) = true) : exec (.undefinedOpcode w) s = .next (s.faults w 1 0) := by
  change execUndefinedOpcode w s = _
  cases w <;> exact (if_neg (by simp [hwf])).trans (if_pos (Bool.and_eq_true_iff.mpr ⟨hi, hu⟩))

theorem exec_undefinedOpcode_of_helper {cl e th : Nat} {s : State} (hwf : (Who.pe cl e th).wf = true)
    (hi : s.issues (.pe cl e th) = true) (hlo : 0xA000 ≤ s.wordOf (.pe cl e th)) (hhi : s.wordOf (.pe cl e th) < 0xA900)
    (hd : helperDefined (s.wordOf (.pe cl e th) / 256 % 16) (s.wordOf (.pe cl e th) % 256) = false) :
    exec (.undefinedOpcode (.pe cl e th)) s = .next (s.faults (.pe cl e th) 6 0) := by
  have hclass : s.wordOf (.pe cl e th) / 0x1000 = 0xA := by omega
  have hunit : ¬ 9 ≤ s.wordOf (.pe cl e th) / 256 % 16 := by omega
  have hdefined : undefinedWord false (s.wordOf (.pe cl e th)) = false := by simp [undefinedWord, hclass, hunit]
  refine (if_neg (by simp [hwf])).trans ((if_neg ?_).trans (if_pos ?_))
  · rw [Bool.and_eq_true]
    exact fun h => absurd h.2 (ne_true_of_eq_false hdefined)
  · rw [Bool.and_eq_true, Bool.and_eq_true, hi, beq_iff_eq, Bool.not_eq_true']
    exact ⟨⟨rfl, hclass⟩, hd⟩

/-- A control-extension instruction on a packet engine, under each of the nine names. -/
theorem exec_control_on_pe {cl e th : Nat} {s : State} {c : (Who → Instr) × Nat}
    (hc : c ∈ ([(Instr.reti, 0xD000), (Instr.ei, 0xD100), (Instr.di, 0xD200), (Instr.clean, 0xD300),
      (Instr.inval, 0xD400), (Instr.sync, 0xD500), (Instr.setseg, 0xD600), (Instr.getseg, 0xD700), (Instr.wait, 0xD800)] :
        List ((Who → Instr) × Nat)))
    (h : s.atWord (.pe cl e th) 0xFF00 c.2 0) : exec (c.1 (.pe cl e th)) s = .next (s.faults (.pe cl e th) 1 2) := by
  revert c
  simp only [List.forall_mem_cons, List.not_mem_nil, false_imp_iff, implies_true, and_true]
  exact ⟨issue_control_on_pe (o := specReti) rfl rfl, issue_control_on_pe (o := specEi) rfl rfl,
    issue_control_on_pe (o := specDi) rfl rfl, issue_control_on_pe (o := specClean) rfl rfl,
    issue_control_on_pe (o := specInval) rfl rfl, issue_control_on_pe (o := specSync) rfl rfl,
    issue_control_on_pe (o := specSetseg) rfl rfl, issue_control_on_pe (o := specGetseg) rfl rfl,
    issue_control_on_pe (o := specWait) rfl rfl⟩

/-- Settles O7: each listed instruction by its specification's checks, the undefined words by their class. -/
theorem instructionChecks : Obligations.InstructionChecks := by
  refine ⟨?listed, fun w s hlen => ⟨fun hwf hi hlt h => ?undefined, ?helper, ?control, fun hrs => ?underflow,
    fun hrs => ?overflow⟩⟩
  case listed =>
    simp only [List.forall_mem_cons, List.not_mem_nil, false_imp_iff, implies_true, and_true]
    exact ⟨fun w s h _ => issue_checks (o := specNop) rfl rfl h, fun w s h _ => issue_checks (o := specDup) rfl rfl h,
      fun w s h _ => issue_checks (o := specDrop) rfl rfl h, fun w s h _ => issue_checks (o := specSwap) rfl rfl h,
      fun w s h _ => issue_checks (o := specOver) rfl rfl h, fun w s h _ => issue_checks (o := specRot) rfl rfl h,
      fun w s h _ => issue_checks (o := specNip) rfl rfl h, fun w s h _ => issue_checks (o := specDepth) rfl rfl h,
      fun w s h _ => issue_checks (o := specPushs) rfl rfl h, fun w s h _ => issue_checks (o := specExt) rfl rfl h,
      fun w s h _ => issue_checks (o := specAdd) rfl rfl h, fun w s h _ => issue_checks (o := specSub) rfl rfl h,
      fun w s h _ => issue_checks (o := specMul) rfl rfl h, fun w s h _ => issue_checks (o := specSar) rfl rfl h,
      fun w s h _ => issue_checks (o := specLts) rfl rfl h, fun w s h _ => issue_checks (o := specNot) rfl rfl h,
      fun w s h _ => issue_checks (o := specClz) rfl rfl h, fun w s h _ => issue_checks (o := specCrc16) rfl rfl h,
      fun w s h _ => issue_checks (o := specAddi) rfl rfl h, fun w s h _ => issue_checks (o := specShli) rfl rfl h,
      fun w s h _ => issue_checks (o := specTstbi) rfl rfl h, fun w s h _ => issue_checks (o := specPoprc) rfl rfl h,
      fun w s h _ => issue_checks (o := specPushrc) rfl rfl h⟩
  case undefined => exact exec_undefinedOpcode_of_undefinedWord hwf hi (undefinedWord_of_class hlt h)
  case helper =>
    rintro cl e th rfl hwf hi hlo hhi hd
    exact exec_undefinedOpcode_of_helper hwf hi hlo hhi hd
  case control =>
    rintro cl e th rfl c hc h
    exact exec_control_on_pe hc h
  case underflow =>
    exact ⟨fun h => issue_return_underflow (o := specRet) 0 0 rfl rfl rfl h (by omega) (by omega) hrs,
      fun hlt h => issue_return_underflow (o := specFromr) 0 1 rfl rfl rfl h (by omega) (by omega) hrs,
      fun hlt h => issue_return_underflow (o := specRfetch) 0 1 rfl rfl rfl h (by omega) (by omega) hrs⟩
  case overflow =>
    refine ⟨fun h => issue_return_overflow (o := specCall) 0 0 rfl rfl rfl h (by omega) (by omega) hrs,
      fun hne h => issue_return_overflow (o := specCalls) 1 0 rfl rfl rfl h ?_ (by omega) hrs,
      fun hne h => issue_return_overflow (o := specTor) 1 0 rfl rfl rfl h ?_ (by omega) hrs⟩
    all_goals exact List.length_pos_iff.mpr hne

end Sys2Proof.Machine
end

section
/-! PROOFS. The module right after power-on reset settled. -/
namespace Sys2Proof.Machine

theorem State.rd_reset (a : Nat) : State.reset.rd a = resetOf a := rfl

theorem State.fld_reset (a hi lo : Nat) : State.reset.fld a hi lo = Wbits (resetOf a) hi lo := rfl

theorem State.sound_reset : State.reset.sound :=
  ⟨nofun, State.reset_memories, rfl, rfl, rfl, rfl, rfl, rfl, rfl⟩

/-- Settles O57: the register file of the reset state lists nothing, so each register reads as its table's value. -/
theorem resetState : Obligations.ResetState := by
  refine ⟨State.sound_reset, rfl, rfl, rfl, fun _ => rfl, rfl, fun _ => rfl, fun g hg => ?limits, fun g hg => ?budgets,
    rfl, rfl, rfl, rfl, rfl, rfl, fun n hn => ?alarms, rfl, rfl, rfl, rfl, rfl, rfl, rfl, rfl⟩
  case limits => rw [State.fld_reset]; interval_cases g <;> rfl
  case budgets => rw [State.rd_reset]; interval_cases g <;> rfl
  case alarms => rw [State.fld_reset, State.fld_reset]; interval_cases n <;> exact ⟨rfl, rfl⟩

end Sys2Proof.Machine
end

section
/-! PROOFS. Threads, contexts and engines read after writes, and what a fault leaves alone (R393–R397). -/
namespace Sys2Proof.Machine

/-! ### Reads after writes -/

section
variable (s : State)

@[simp] theorem State.thr_setThr (cl e th : Nat) (x : Thread) : (s.setThr cl e th x).thr cl e th = x := by
  simp [State.thr, State.setThr]

theorem State.thr_setThr_ne {cl e th cl' e' th' : Nat} (x : Thread) (h : thrNo cl' e' th' ≠ thrNo cl e th) :
    (s.setThr cl e th x).thr cl' e' th' = s.thr cl' e' th' := by
  simp [State.thr, State.setThr, h]

@[simp] theorem State.thr_setCtx (cl e th c : Nat) (x : Ctx) : (s.setCtx c x).thr cl e th = s.thr cl e th := rfl
@[simp] theorem State.shm_setThr (cl e th : Nat) (x : Thread) : (s.setThr cl e th x).flume.shm = s.flume.shm := rfl
@[simp] theorem State.ctx_setThr (cl e th c : Nat) (x : Thread) : (s.setThr cl e th x).ctx c = s.ctx c := rfl

@[simp] theorem State.ctx_setCtx (c d : Nat) (x : Ctx) : (s.setCtx c x).ctx d = if d = c then x else s.ctx d := by
  simp [State.ctx, State.setCtx]

@[simp] theorem State.ce_setCe (k j : Nat) (x : Ce) : (s.setCe k x).ce j = if j = k then x else s.ce j := by
  simp [State.ce, State.setCe]

@[simp] theorem State.rd_setThr (cl e th a : Nat) (x : Thread) : (s.setThr cl e th x).rd a = s.rd a := rfl
@[simp] theorem State.rd_setCtx (c a : Nat) (x : Ctx) : (s.setCtx c x).rd a = s.rd a := rfl
@[simp] theorem State.rd_setCe (k a : Nat) (x : Ce) : (s.setCe k x).rd a = s.rd a := rfl

@[simp] theorem State.setEvent_thr (a b n cl e th : Nat) : (s.setEvent a b n).thr cl e th = s.thr cl e th := by
  simp only [State.thr, State.setEvent_flume]
@[simp] theorem State.setEvent_ctx (a b n c : Nat) : (s.setEvent a b n).ctx c = s.ctx c := by
  simp only [State.ctx, State.setEvent_dsp]
@[simp] theorem State.setEvent_ce (a b n k : Nat) : (s.setEvent a b n).ce k = s.ce k := by
  simp only [State.ce, State.setEvent_flume]
@[simp] theorem State.spill_thr (i n cl e th : Nat) : (s.spill i n).thr cl e th = s.thr cl e th := by
  simp only [State.thr, State.spill_flume]
@[simp] theorem State.spill_ctx (i n c : Nat) : (s.spill i n).ctx c = s.ctx c := by
  simp only [State.ctx, State.spill_dsp]

/-- Freeing an engine's REPX holder changes nothing else. -/
theorem State.freeRepx_eq (cl e th : Nat) :
    s.freeRepx cl e th = { s with flume.repx := (s.freeRepx cl e th).flume.repx } := by
  unfold State.freeRepx
  split <;> rfl

@[simp] theorem State.freeRepx_thr (cl e th cl' e' th' : Nat) : (s.freeRepx cl e th).thr cl' e' th' = s.thr cl' e' th' := by
  rw [State.freeRepx_eq]; rfl
@[simp] theorem State.freeRepx_ctx (cl e th c : Nat) : (s.freeRepx cl e th).ctx c = s.ctx c := by
  rw [State.freeRepx_eq]; rfl
@[simp] theorem State.freeRepx_mem (cl e th : Nat) : (s.freeRepx cl e th).mem = s.mem := by
  rw [State.freeRepx_eq]
@[simp] theorem State.freeRepx_shm (cl e th : Nat) : (s.freeRepx cl e th).flume.shm = s.flume.shm := by
  rw [State.freeRepx_eq]

end

/-! ### Recording a fault (R397) -/

section
variable (s : State) (cl e th cause sub pc : Nat) (dbl : Bool)

/-- A fault counted and put into its cluster's first-fault record. -/
def State.faultNoted : State :=
  let t := (s.bump (Reg.flmCnt cl cause)).count 57 [cl, 16]
  let t := if t.bit (Reg.flmFaultInfo cl) 31 then t else t.wr (Reg.flmFaultPc cl) (BitVec.ofNat 32 (pc % 65536))
  t.record (Reg.flmFaultInfo cl) (e * 2 ^ 24 + th * 2 ^ 20 + cause * 2 ^ 16 + sub * 2 ^ 12 + b2n dbl * 2 ^ 8)

theorem State.regsCtrs_faultNoted : s.RegsCtrs (s.faultNoted cl e th cause sub pc dbl) := by
  unfold State.faultNoted State.RegsCtrs
  dsimp only
  split_ifs <;> rw [State.count_eq] <;> rfl

theorem State.recordFault_eq_faultNoted : s.recordFault cl e th cause sub pc dbl =
    (let u := s.faultNoted cl e th cause sub pc dbl
     let t := { u with flume.faultWindow := windowAdd u.flume.faultWindow cl 1 (u.fld (Reg.flmClAlarm cl) 15 0) }
     if alarmDue u.flume.faultWindow cl 1 (u.fld (Reg.flmClAlarm cl) 15 0) then
       t.setEvent (Reg.flmClEvents cl) 0 (124 + cl) else t) := rfl

/-- Recording a fault changes registers, counters and the alarm window alone. -/
theorem State.recordFault_eq : s.recordFault cl e th cause sub pc dbl =
    { s with
      regs := (s.recordFault cl e th cause sub pc dbl).regs
      ctrs := (s.recordFault cl e th cause sub pc dbl).ctrs
      flume.faultWindow := (s.recordFault cl e th cause sub pc dbl).flume.faultWindow } := by
  have hnoted := s.regsCtrs_faultNoted cl e th cause sub pc dbl
  rw [State.recordFault_eq_faultNoted]
  generalize s.faultNoted cl e th cause sub pc dbl = u at hnoted
  dsimp only
  split
  · rw [State.setEvent_eq, hnoted]
  · rw [hnoted]

@[simp] theorem State.recordFault_thr (cl' e' th' : Nat) :
    (s.recordFault cl e th cause sub pc dbl).thr cl' e' th' = s.thr cl' e' th' := by
  rw [State.recordFault_eq]; rfl
@[simp] theorem State.recordFault_ctx (c : Nat) : (s.recordFault cl e th cause sub pc dbl).ctx c = s.ctx c := by
  rw [State.recordFault_eq]; rfl
@[simp] theorem State.recordFault_mem : (s.recordFault cl e th cause sub pc dbl).mem = s.mem := by
  rw [State.recordFault_eq]
@[simp] theorem State.recordFault_shm : (s.recordFault cl e th cause sub pc dbl).flume.shm = s.flume.shm := by
  rw [State.recordFault_eq]

/-- The registers that hold a cluster's faults are the only ones below the event controller's that change. -/
theorem State.rd_recordFault {a : Nat} (ha : a < 0x700000) (hpc : a ≠ Reg.flmFaultPc cl) (hinfo : a ≠ Reg.flmFaultInfo cl)
    (hev : a ≠ Reg.flmClEvents cl) : (s.recordFault cl e th cause sub pc dbl).rd a = s.rd a := by
  have hnoted : (s.faultNoted cl e th cause sub pc dbl).rd a = s.rd a := by
    unfold State.faultNoted
    simp only [State.record, State.rd_wr, if_neg hinfo]
    split_ifs <;> simp [State.rd_count _ _ _ _ _ ha, hpc]
  rw [State.recordFault_eq_faultNoted]
  dsimp only
  split
  · rw [State.rd_setEvent _ _ _ _ _ ha, State.rd_setBit_other _ _ _ _ _ hev, ← hnoted]
    rfl
  · exact hnoted

end

end Sys2Proof.Machine
end

section
/-! PROOFS. Raising events (R822): what counting leaves alone, the RAISED count, the pending bits. -/
namespace Sys2Proof.Machine

/-! ### Single bits -/

section
variable (s : State)

theorem State.bit_setBit (a i c j : Nat) (b : Bool) (hi : i < 32) :
    (s.setBit a i b).bit c j = if c = a ∧ j = i then b else s.bit c j := by
  split
  next h =>
    obtain ⟨rfl, rfl⟩ := h
    exact State.bit_setBit_same _ _ _ _ hi
  next h => exact State.bit_setBit_other _ _ _ _ _ _ hi (by tauto)

theorem State.bit_of_rd {s t : State} {a : Nat} (h : t.rd a = s.rd a) (i : Nat) : t.bit a i = s.bit a i := by
  simp only [State.bit, State.fld, h]

theorem State.fld_of_rd {s t : State} {a : Nat} (h : t.rd a = s.rd a) (hi lo : Nat) : t.fld a hi lo = s.fld a hi lo := by
  simp only [State.fld, h]

theorem Wbits_word (w : Word) : Wbits w 31 0 = w.toNat := by
  rw [Wbits, bitsOf, Nat.pow_zero, Nat.div_one]
  exact Nat.mod_eq_of_lt w.isLt

theorem Wput_word (w : Word) (v : Nat) : Wput w 31 0 v = BitVec.ofNat 32 v := by
  apply BitVec.eq_of_toNat_eq
  rw [← Wbits_word, Wbits_Wput_same _ _ _ _ (by decide) (by decide), BitVec.toNat_ofNat]

end

/-! ### What counting leaves alone -/

/-- What counting an event can change: registers and counters of the performance counters, and what raising event 312,
their own, changes. -/
structure State.Counts (s t : State) : Prop where
  regsCtrs : s.RegsCtrs t
  rd : ∀ c < 0x740000, c ≠ Reg.evcRaised 312 → (∀ k < 5, c ≠ Reg.evcPending k 9) → t.rd c = s.rd c
  pending : ∀ k < 5, ∀ w < 16, ∀ i, s.bit (Reg.evcPending k w) i = true → t.bit (Reg.evcPending k w) i = true
  ctr : ∀ c < 0x740000, t.ctr c = s.ctr c

namespace State.Counts

theorem refl (s : State) : s.Counts s := ⟨rfl, fun _ _ _ _ => rfl, fun _ _ _ _ _ => id, fun _ _ => rfl⟩

theorem trans {s t u : State} (h : s.Counts t) (k : t.Counts u) : s.Counts u where
  regsCtrs := h.regsCtrs.trans k.regsCtrs
  rd c hc hr hp := (k.rd c hc hr hp).trans (h.rd c hc hr hp)
  pending n hn w hw i hb := k.pending n hn w hw i (h.pending n hn w hw i hb)
  ctr c hc := (k.ctr c hc).trans (h.ctr c hc)

theorem foldl {α : Type} {f : State → α → State} {l : List α} (h : ∀ (t : State), ∀ e ∈ l, t.Counts (f t e)) (s : State) :
    s.Counts (l.foldl f s) :=
  List.foldlRecOn l f (refl s) fun t ht e he => ht.trans (h t e he)

end State.Counts

section
variable (s : State)

/-- A bit set keeps every other set bit. -/
theorem State.bit_setBit_mono {a i c j : Nat} (hi : i < 32) (h : s.bit c j = true) : (s.setBit a i true).bit c j = true := by
  rw [State.bit_setBit _ _ _ _ _ _ hi]
  split
  · rfl
  · exact h

theorem State.counts_setBit {a i : Nat} (ha : 0x740000 ≤ a) (hi : i < 32) : s.Counts (s.setBit a i true) where
  regsCtrs := State.regsCtrs_setBit ..
  rd c hc _ _ := State.rd_setBit_other _ _ _ _ _ (by omega)
  pending _ _ _ _ _ := State.bit_setBit_mono s hi
  ctr _ _ := rfl

theorem State.counts_pmcAdd {i n : Nat} (hi : i < 64) : s.Counts (s.pmcAdd i n) := by
  have hctr : s.Counts (s.setCtr (Reg.pmcCnt i) ((s.ctr (Reg.pmcCnt i) + n) % 2 ^ 48)) :=
    ⟨State.regsCtrs_setCtr .., fun _ _ _ _ => rfl, fun _ _ _ _ _ => id, fun c hc => by
      simp only [State.ctr, State.setCtr, SMap.get_set]
      rw [if_neg]; simp only [Reg.pmcCnt]; omega⟩
  unfold State.pmcAdd
  dsimp only
  split
  · split
    · exact hctr.trans (State.counts_setBit _ (by decide) (by omega))
    · exact hctr.trans (State.counts_setBit _ (by decide) (by omega))
  · exact hctr

theorem State.lt_of_mem_routed {n k : Nat} (h : k ∈ s.routed n) : k < 5 := by
  simp only [State.routed, setBits, List.mem_filter, List.mem_range] at h
  exact h.1

/-- Raising a source touches its RAISED count and its pending words alone. -/
theorem State.rd_raiseBare_apart {n c : Nat} (hr : c ≠ Reg.evcRaised n) (hp : ∀ k < 5, c ≠ Reg.evcPending k (n / 32)) :
    (s.raiseBare n).rd c = s.rd c := by
  unfold State.raiseBare
  dsimp only
  refine (List.foldlRecOn (s.routed n) _ (motive := fun t : State => t.rd c = (s.setFld (Reg.evcRaised n) 31 0
    (s.fld (Reg.evcRaised n) 31 0 + 1)).rd c) rfl fun t ht k hk => ?_).trans (State.rd_setFld_other _ _ _ _ _ _ hr)
  rw [State.rd_setBit_other _ _ _ _ _ (hp k (s.lt_of_mem_routed hk)), ht]

/-- A pending word is no RAISED count. -/
theorem evcPending_ne_evcRaised {k w : Nat} (hk : k < 5) (hw : w < 16) (n : Nat) :
    Reg.evcPending k w ≠ Reg.evcRaised n := by
  simp only [Reg.evcPending, Reg.evcRaised]
  omega

theorem State.bit_raiseBare_mono {k w i : Nat} (n : Nat) (hk : k < 5) (hw : w < 16)
    (h : s.bit (Reg.evcPending k w) i = true) : (s.raiseBare n).bit (Reg.evcPending k w) i = true := by
  unfold State.raiseBare
  dsimp only
  refine List.foldlRecOn (s.routed n) _ (motive := fun t : State => t.bit (Reg.evcPending k w) i = true) ?_
    fun t ht k hk => State.bit_setBit_mono t (Nat.mod_lt _ (by decide)) ht
  rw [← h]
  exact State.bit_of_rd (State.rd_setFld_other _ _ _ _ _ _ (evcPending_ne_evcRaised hk hw n)) i

theorem State.counts_raiseBare_312 : s.Counts (s.raiseBare 312) where
  regsCtrs := State.regsCtrs_raiseBare ..
  rd _ _ := s.rd_raiseBare_apart
  pending _ hk _ hw _ := s.bit_raiseBare_mono 312 hk hw
  ctr _ _ := State.ctr_raiseBare ..

theorem mem_selected_index {s : State} {e : Nat × Word} (h : e ∈ s.selected) : (e.1 - Reg.pmcSel 0) / 4 < 64 := by
  simp only [State.selected, List.mem_filter, Bool.and_eq_true, decide_eq_true_eq] at h
  obtain ⟨-, ⟨hlo, hhi⟩, -⟩ := h
  simp only [Reg.pmcSel] at hlo hhi ⊢
  omega

theorem counts_pmcCount (k : Nat) (s : State) (ev : Nat) (is : List Nat) (n : Nat) : s.Counts (pmcCount k s ev is n) := by
  induction k generalizing s ev is n with
  | zero => exact .refl s
  | succ k ih =>
    unfold pmcCount
    split
    · exact .refl s
    · refine .foldl (fun t e he => ?_) s
      have hadd := t.counts_pmcAdd (n := n) (mem_selected_index he)
      split
      · split
        · exact ((hadd.trans (State.counts_setBit _ (by decide) (by decide))).trans
            (State.counts_raiseBare_312 _)).trans (ih ..)
        · exact hadd
      · exact .refl t

theorem State.counts_count (ev : Nat) (is : List Nat) (n : Nat) : s.Counts (s.count ev is n) :=
  counts_pmcCount 4 s ev is n

/-! ### Raising an event -/

theorem State.rd_evcRaised_raiseBare {n : Nat} (hn : n < 320) :
    (s.raiseBare n).rd (Reg.evcRaised n) = s.rd (Reg.evcRaised n) + 1 := by
  unfold State.raiseBare
  dsimp only
  refine List.foldlRecOn (s.routed n) _ (motive := fun t : State => t.rd (Reg.evcRaised n) = s.rd (Reg.evcRaised n) + 1) ?_
    fun t ht k hk => ?_
  · rw [State.setFld, State.rd_wr, if_pos rfl, Wput_word, State.fld, Wbits_word, BitVec.ofNat_add, BitVec.ofNat_toNat,
      BitVec.setWidth_eq]
    rfl
  · rw [State.rd_setBit_other _ _ _ _ _ (evcPending_ne_evcRaised (s.lt_of_mem_routed hk) (by omega) n).symm, ht]

theorem bitAt_eq_testBit (n i : Nat) : bitAt n i = n.testBit i := by
  rw [Nat.testBit_eq_decide_div_mod_eq, bitAt, beq_eq_decide]

theorem State.bit_pending_raiseBare {n k : Nat} (hk : k < 5) (hroute : bitAt (s.fld (Reg.evcRoute n) 4 0) k = true) :
    (s.raiseBare n).bit (Reg.evcPending k (n / 32)) (n % 32) = true := by
  have hmem : k ∈ s.routed n := by simp [State.routed, setBits, hk, hroute]
  have hmod : n % 32 < 32 := Nat.mod_lt _ (by decide)
  unfold State.raiseBare
  dsimp only
  generalize s.setFld (Reg.evcRaised n) 31 0 (s.fld (Reg.evcRaised n) 31 0 + 1) = t
  generalize s.routed n = l at hmem
  induction l generalizing t with
  | nil => cases hmem
  | cons j l ih =>
    rw [List.foldl_cons]
    rcases List.mem_cons.mp hmem with rfl | hmem
    · exact List.foldlRecOn l _ (motive := fun u : State => u.bit (Reg.evcPending k (n / 32)) (n % 32) = true)
        (State.bit_setBit_same _ _ _ _ hmod) fun u hu j _ => State.bit_setBit_mono u hmod hu
    · exact ih _ hmem

theorem State.raised_raiseBare {n : Nat} (hn : n < 320) : s.raised (s.raiseBare n) n :=
  ⟨fun _ => s.rd_evcRaised_raiseBare hn, fun _ hk h => s.bit_pending_raiseBare hk h⟩

end

/-- Counting keeps an event raised. -/
theorem State.raised.counts {s t u : State} {n : Nat} (h : s.raised t n) (hn : n < 320) (hc : t.Counts u) :
    s.raised u n := by
  refine ⟨fun hne => ?_, fun k hk hroute => hc.pending k hk _ (by omega) _ (h.2 k hk hroute)⟩
  rw [hc.rd _ (by simp only [Reg.evcRaised]; omega) (by simp only [Reg.evcRaised]; omega)
    fun k hk => (evcPending_ne_evcRaised hk (by decide) n).symm, h.1 hne]

theorem State.raised_raiseEvent (s : State) {n : Nat} (hn : n < 320) : s.raised (s.raiseEvent n) n :=
  (s.raised_raiseBare hn).counts hn (State.counts_count ..)

/-- An event raised is still raised where registers below the event controller's change before it. -/
theorem State.raised.of_rd {s t u : State} {n : Nat} (h : t.raised u n)
    (hs : ∀ a, 0x700000 ≤ a → t.rd a = s.rd a) : s.raised u n := by
  refine ⟨fun hne => ?_, fun k hk hroute => h.2 k hk ?_⟩
  · rw [h.1 hne, hs _ (by simp only [Reg.evcRaised]; omega)]
  · rwa [State.fld_of_rd (hs _ (by simp only [Reg.evcRoute]; omega))]

/-- An event raised is still raised where registers outside the event controller change after it. -/
theorem State.raised.after {s t u : State} {n : Nat} (h : s.raised t n) (hn : n < 320)
    (hu : ∀ a, 0x700800 ≤ a → a < 0x702000 → u.rd a = t.rd a) : s.raised u n := by
  refine ⟨fun hne => ?_, fun k hk hroute => ?_⟩
  · rw [hu _ (by simp only [Reg.evcRaised]; omega) (by simp only [Reg.evcRaised]; omega), h.1 hne]
  · rw [State.bit_of_rd (hu _ (by simp only [Reg.evcPending]; omega) (by simp only [Reg.evcPending]; omega)), h.2 k hk hroute]

/-- A second event raised keeps the first one raised. -/
theorem State.raised.raiseEvent {s t : State} {n m : Nat} (h : s.raised t n) (hn : n < 320) (hm : m < 320)
    (hne : n ≠ m) : s.raised (t.raiseEvent m) n := by
  refine State.raised.counts ⟨fun h312 => ?_, fun k hk hroute => ?_⟩ hn (State.counts_count ..)
  · rw [State.rd_raiseBare_apart, h.1 h312]
    · simp only [Reg.evcRaised]; omega
    · exact fun k hk => (evcPending_ne_evcRaised hk (by omega) n).symm
  · exact t.bit_raiseBare_mono m hk (by omega) (h.2 k hk hroute)

section
variable (s : State)

/-- Raising an event changes registers and counters alone, below the event controller's none. -/
theorem State.rd_raiseEvent_apart {n c : Nat} (hc : c < 0x740000) (hr : c ≠ Reg.evcRaised n) (hr' : c ≠ Reg.evcRaised 312)
    (hp : ∀ k < 5, c ≠ Reg.evcPending k (n / 32) ∧ c ≠ Reg.evcPending k 9) : (s.raiseEvent n).rd c = s.rd c := by
  rw [State.raiseEvent, (State.counts_count ..).rd c hc hr' fun k hk => (hp k hk).2,
    State.rd_raiseBare_apart _ hr fun k hk => (hp k hk).1]

/-- A bit set with its event raised reads as set. -/
theorem State.bit_setEvent_same {a b n : Nat} (hb : b < 32) (ha : a < 0x700000) : (s.setEvent a b n).bit a b = true := by
  rw [State.bit_of_rd (s.rd_setEvent a b n a ha), State.bit_setBit_same _ _ _ _ hb]

theorem State.raised_setEvent {a b n : Nat} (hn : n < 320) (ha : a < 0x700000) : s.raised (s.setEvent a b n) n :=
  (State.raised_raiseEvent _ hn).of_rd fun c hc => State.rd_setBit_other _ _ _ _ _ (by omega)

/-- Setting an event bit and raising its event touches that register alone below the event controller's. -/
theorem State.regsRaised_setEvent {a b n : Nat} (hn : n < 320) (ha : a < 0x700000) :
    s.regsRaised (s.setEvent a b n) [a] n :=
  ⟨s.raised_setEvent hn ha, fun c hc hca => by
    rw [State.rd_setEvent _ _ _ _ _ hc, State.rd_setBit_other _ _ _ _ _ (by simpa using hca)]⟩

end
end Sys2Proof.Machine
end

section
/-! PROOFS. Pending loads that arrive, what completing an instruction does to its issuer's registers, and what a fault
does to its issuer, settled (R384–R388, R392–R396, R403, R418, R437). -/
namespace Sys2Proof.Machine

/-! ### Arriving loads (R386) -/

/-- The oldest pending load of its kind gets its value. -/
theorem arrive_head {a : Arch} {p : PendingLoad} {rest : List PendingLoad} (hpend : a.pend = p :: rest)
    (harrived : p.arrived = false) (v : Option Word) :
    arrive a p.tag v = if p.delayDone then
        { a with pend := rest
                 ds := if p.slot < a.ds.length then a.ds.set (a.ds.length - 1 - p.slot) (v.getD p.value) else a.ds }
      else { a with pend := { p with arrived := true, value := v.getD p.value } :: rest } := by
  have hfind : ((p :: rest).findIdx? fun q => !q.arrived && q.tag == p.tag) = some 0 := by
    simp [List.findIdx?_cons, harrived]
  simp only [arrive, hpend, hfind]
  rfl

/-- Settles O13: the only pending load that has not arrived is the oldest one. -/
theorem loadDelivery : Obligations.LoadDelivery := by
  rintro w s a p rest hwf rfl hpend harrived htag
  have hexec : exec (.loadDeliver w) s = .next (s.setArch w (arrive (s.arch w) p.tag none)) := by
    rw [htag]
    exact if_pos hwf
  rw [hexec, arrive_head hpend harrived]
  cases p
  cases harrived
  rfl

/-! ### Completion (R386, R388, R418) -/

section
variable {w : Who} {s : State} {a : Arch}

theorem settle_nil (h : a.pend = []) : settle a = a := by
  cases a
  cases h
  rfl

theorem settle_singleton {p : PendingLoad} (h : a.pend = [p]) (hd : p.delayDone = false) :
    settle a = { a with
      ds := if p.arrived ∧ p.slot < a.ds.length then a.ds.set (a.ds.length - 1 - p.slot) p.value else a.ds
      pend := if p.arrived ∨ a.ds.length ≤ p.slot then [] else [{ p with delayDone := true }] } := by
  simp only [settle, h, List.foldl_cons, List.foldl_nil, hd, Bool.false_eq_true, if_false]
  by_cases hslot : a.ds.length ≤ p.slot
  · simp [hslot, not_lt.mpr hslot]
  · cases harrived : p.arrived <;> simp [hslot, setSlot, not_le.mp hslot]

/-- Settling pending loads leaves the repeat alone. -/
@[simp] theorem settle_rep : (settle a).rep = a.rep :=
  List.foldlRecOn a.pend _ (motive := fun b : Arch => b.rep = a.rep) rfl fun b hb p _ => by
    split_ifs <;> exact hb

/-- Outside a repeat the PC moves on after an instruction that does not jump. -/
theorem completeArch_next (load : Option PendingLoad) (hrep : a.rep = none) :
    completeArch w a.pc { s := s, a := a, load := load } =
      { settle a with pc := (a.pc + 1) % pcMod w, pend := (settle a).pend ++ load.toList } := by
  cases load <;> simp [completeArch, hrep]

theorem completeArch_jump (p : Nat) (hpend : a.pend = []) (hrep : a.rep = none) :
    completeArch w p { s := s, a := a, jump := true } = a := by
  simp [completeArch, settle_nil hpend, hrep]

/-- An iteration of a repeat ends with the instruction that left the PC at its target. -/
theorem completeArch_repeat {p : Nat} {x : Bool} (hpend : a.pend = []) (hrep : a.rep = some (p, x)) :
    completeArch w a.pc { s := s, a := a } =
      if a.rc = 1 then { a with rc := 0, rep := none, pc := (p + 2) % pcMod w } else { a with rc := a.rc - 1 } := by
  have hone : a.rc - 1#32 = 0#32 ↔ a.rc = 1#32 := sub_eq_zero
  simp [completeArch, settle_nil hpend, hrep, endIteration, hone]

end

/-! ### Faults (R393–R396, R403) -/

section
variable {s : State} {cl e th c : Nat} (cause sub pc : Nat)

theorem State.fault_pe_first (hctx : (s.thr cl e th).ctx = some c) (hst : (s.ctx c).st ≠ .exception) :
    s.fault (.pe cl e th) cause sub pc =
      (s.recordFault cl e th cause sub pc false).exceptionEntry cl e th c cause sub pc := by
  have hdbl : ((s.ctx c).st == CtxState.exception) = false := by simpa using hst
  simp [State.fault, State.peFault, hctx, hdbl]

theorem State.fault_pe_double (hctx : (s.thr cl e th).ctx = some c) (hst : (s.ctx c).st = .exception) :
    s.fault (.pe cl e th) cause sub pc = (s.recordFault cl e th cause sub pc true).doubleFault cl c := by
  simp [State.fault, State.peFault, hctx, hst]

/-- The exception vector of a cluster is no register of its faults. -/
theorem State.vector_recordFault (hcl : cl < 16) (dbl : Bool) :
    (s.recordFault cl e th cause sub pc dbl).fld (Reg.flmClCtrl cl) 15 0 = s.fld (Reg.flmClCtrl cl) 15 0 := by
  simp only [State.fld]
  rw [State.rd_recordFault] <;> simp only [Reg.flmClCtrl, Reg.flmFaultPc, Reg.flmFaultInfo, Reg.flmClEvents] <;> omega

end

theorem State.bit_evcLocal_setEvent (s : State) : (s.setEvent Reg.evcLocal 1 316).bit Reg.evcLocal 1 = true := by
  have hapart : ((s.setBit Reg.evcLocal 1 true).raiseEvent 316).rd Reg.evcLocal = (s.setBit Reg.evcLocal 1 true).rd Reg.evcLocal :=
    State.rd_raiseEvent_apart _ (by decide) (by decide) (by decide) fun k hk => by
      simp only [Reg.evcLocal, Reg.evcPending]
      omega
  rw [State.setEvent, State.bit_of_rd hapart, State.bit_setBit_same _ _ _ _ (by decide)]

/-- Ending a context with a drop leaves its outcome and a thread that waits for nothing. -/
theorem State.spillCtx_ending (s : State) (c counter : Nat) :
    ((s.spillCtx c counter).ctx c).ending = .drop counter ∧
      ((s.spillCtx c counter).thr (s.ctx c).cluster (s.ctx c).engine (s.ctx c).thread).wait = none := by
  simp only [State.spillCtx, State.freeRepx_ctx, State.freeRepx_thr, State.spill_ctx, State.spill_thr, State.ctx_setThr,
    State.ctx_setCtx, if_true]
  exact ⟨trivial, by simp [cancelCtx, State.setInst, State.ctx]⟩

/-- Settles O14, by one lemma per case of a completion and of a fault. -/
theorem completionAndFaultEntry : Obligations.CompletionAndFaultEntry := by
  refine ⟨fun w s a => ⟨fun hpend hrep => ?next, fun hpend hrep p => completeArch_jump p hpend hrep,
    fun p hpend hrep hd => ?pending, fun l hpend hrep => ?load, fun p x hpend hrep hrc => ?last,
    fun p x hpend hrep hrc => ?again⟩, ?first, ?double, ?vector, ?halt⟩
  case next => simp [completeArch_next none hrep, settle_nil hpend, hpend]
  case pending => simp [completeArch_next none hrep, settle_singleton hpend hd]
  case load => simp [completeArch_next (some l) hrep, settle_nil hpend, hpend]
  case last => rw [completeArch_repeat hpend hrep, if_pos hrc]
  case again => rw [completeArch_repeat hpend hrep, if_neg hrc]
  case first =>
    intro s cl e th cause sub pc c hcl hctx hst
    dsimp only
    rw [State.fault_pe_first cause sub pc hctx hst]
    simp [State.exceptionEntry, faultWord, State.vector_recordFault cause sub pc hcl]
  case double =>
    rintro s _ _ _ cause sub pc c hctx hst rfl rfl rfl
    dsimp only
    rw [State.fault_pe_double cause sub pc hctx hst]
    have hsame : ∀ t : State, t.ctx c = s.ctx c → ((t.spillCtx c 5).ctx c).ending = .drop 5 ∧
        ((t.spillCtx c 5).thr (s.ctx c).cluster (s.ctx c).engine (s.ctx c).thread).wait = none :=
      fun t ht => ht ▸ t.spillCtx_ending c 5
    exact hsame _ ((State.setEvent_ctx ..).trans (State.recordFault_ctx ..))
  case vector =>
    intro s k cause sub pc hlevel
    simp [State.fault, State.ceFault, hlevel, faultWord]
  case halt =>
    intro s k cause sub pc hlevel
    have hhalt : s.fault (.ce k) cause sub pc =
        (s.setCe k { s.ce k with halted := true, cause := cause, subcode := sub }).setEvent Reg.evcLocal 1 316 := by
      simp [State.fault, State.ceFault, hlevel]
    dsimp only
    rw [hhalt]
    refine ⟨?_, ?_, ?_⟩
    · rw [State.setEvent_ce, State.ce_setCe, if_pos rfl]
    · exact State.bit_evcLocal_setEvent _
    · rw [State.setEvent_mem, State.setCe_mem]

end Sys2Proof.Machine
end

section
/-! PROOFS. The control extension settled (R402, R407, R451–R453). -/
namespace Sys2Proof.Machine

/-- An instruction whose checks pass and whose body succeeds, as what it leaves. -/
theorem issue_completed {w : Who} {o : OpSpec} {s : State} {body : Body} {d : Done} {resv : Nat}
    (h : s.atWord w o.mask o.pat resv) (hc : o.check w (s.arch w) (s.wordOf w) = none)
    (hb : body (s.counted w) (s.arch w) (s.wordOf w) = .ok d) :
    issue w o s body = .next (s.completed d.s w d.a d.jump d.load d.deferred) := by
  obtain ⟨hwf, hissues, hword, -⟩ := h
  rw [issue_next hwf hissues hword, runInstr_ok hc hb]
  rfl

section
variable {k : Nat} {s : State} {o : OpSpec}

/-- The checks of R421 on a control engine, for an instruction that leaves the return stack alone. -/
theorem check_none_ce {a : Arch} {i : Nat} (p q : Nat) (ho : o.stackUse = (p, q, false, false)) (hh : o.helper = false)
    (hr : Nat.land i o.resv = 0) (hp : p ≤ a.ds.length) (hq : a.ds.length - p + q ≤ 16) :
    o.check (.ce k) a i = none := by
  obtain ⟨rfl, rfl, hrp, hru⟩ : o.pops = p ∧ o.pushes = q ∧ o.rpop = false ∧ o.rpush = false := by
    simpa [OpSpec.stackUse] using ho
  simp [OpSpec.check, hh, show i &&& o.resv = 0 from hr, not_lt.mpr hp, not_lt.mpr hq, hrp, hru]

/-- An instruction on a control engine whose stack needs are met. -/
theorem issue_ce {body : Body} {t : State} {a : Arch} (p q : Nat) (ho : o.stackUse = (p, q, false, false)) (hh : o.helper = false)
    (h : s.atWord (.ce k) o.mask o.pat o.resv) (hp : p ≤ (s.arch (.ce k)).ds.length)
    (hq : (s.arch (.ce k)).ds.length - p + q ≤ 16) (hb : body s (s.arch (.ce k)) (s.wordOf (.ce k)) = .ok { s := t, a := a }) :
    issue (.ce k) o s body = .next (s.completed t (.ce k) a) :=
  issue_completed (d := { s := t, a := a }) h (check_none_ce p q ho hh h.2.2.2 hp hq) hb

/-- A control-extension instruction that changes the engine beside its stacks. -/
theorem issue_ceBody {f : Ce → Ce} {c : Ce} (ho : o.stackUse = (0, 0, false, false)) (hh : o.helper = false)
    (h : s.atWord (.ce k) o.mask o.pat o.resv) (hlen : (s.arch (.ce k)).ds.length ≤ 16) (hf : f (s.ce k) = c) :
    issue (.ce k) o s (ceBody (.ce k) f) = .next (s.completed (s.setCe k c) (.ce k) (s.arch (.ce k))) := by
  subst hf
  exact issue_ce 0 0 ho hh h (Nat.zero_le _) (by omega) rfl

end

/-! ### RETI and CLEAN -/

section
variable {k : Nat} {s : State}

theorem exec_reti_base (h : s.atWord (.ce k) 0xFF00 0xD000 0xFF) (hlevel : (s.ce k).level = false) :
    exec (.reti (.ce k)) s = issue (.ce k) specReti s (ceBody (.ce k) id) :=
  (if_neg (by simp [h.1])).trans (if_neg (by simp [hlevel]))

/-- The word of RETI at an engine that serves an interrupt. -/
theorem returns_of_atWord (h : s.atWord (.ce k) 0xFFFF 0xD000 0) (hlevel : (s.ce k).level = true) :
    ((s.ce k).level && s.issues (.ce k) && Nat.land (s.wordOf (.ce k)) 0xFFFF == 0xD000) = true := by
  obtain ⟨-, hissues, hword, -⟩ := h
  rw [hlevel, hissues, Bool.true_and, Bool.true_and]
  exact beq_of_eq hword

theorem execReti_intr (hwf : (Who.ce k).wf = true)
    (hreti : ((s.ce k).level && s.issues (.ce k) && Nat.land (s.wordOf (.ce k)) 0xFFFF == 0xD000) = true) :
    execReti (.ce k) s = .next (s.setCe k { s.ce k with
      level := false, ie := true, base := { (s.ce k).base with pc := (s.ce k).resume }, intr := settle (s.ce k).intr }) :=
  (if_neg (by simp [hwf])).trans (if_pos hreti)

theorem exec_reti_intr (h : s.atWord (.ce k) 0xFFFF 0xD000 0) (hlevel : (s.ce k).level = true) :
    exec (.reti (.ce k)) s = .next (s.setCe k { s.ce k with
      level := false, ie := true, base := { (s.ce k).base with pc := (s.ce k).resume }, intr := settle (s.ce k).intr }) :=
  execReti_intr h.1 (returns_of_atWord h hlevel)

theorem segAddr_toNat (seg : Nat) (d : Word) : segAddr seg d.toNat = seg * 2 ^ 32 + d.toNat := by
  rw [segAddr, Nat.mod_eq_of_lt d.isLt]

section
variable {d : Word} {r : List Word}

theorem exec_clean_outside (h : s.atWord (.ce k) 0xFF00 0xD300 0xFF) (hwb : (s.ce k).wb.length < 16)
    (hds : (s.arch (.ce k)).ds = d :: r) (hlen : (s.arch (.ce k)).ds.length ≤ 16)
    (hline : cacheOpLine (s.ce k) d = none) :
    exec (.clean (.ce k)) s = .next (s.completed (s.setCe k (s.ce k)) (.ce k) { s.arch (.ce k) with ds := r }) := by
  refine (if_neg (by simp [h.1])).trans ((if_neg (by simp [hwb])).trans ?_)
  refine issue_ce (o := specClean) 1 0 rfl rfl h (by simp [hds]) (by omega) ?_
  simp only [hds, nth, List.getD_cons_zero, List.drop_one, List.tail_cons, hline]

theorem exec_clean_dirty {n : Nat} {l : CacheLine} (h : s.atWord (.ce k) 0xFF00 0xD300 0xFF)
    (hwb : (s.ce k).wb.length < 16) (hds : (s.arch (.ce k)).ds = d :: r) (hlen : (s.arch (.ce k)).ds.length ≤ 16)
    (hline : cacheOpLine (s.ce k) d = some n) (hl : (s.ce k).cache.find? (fun l => l.line == n && l.dirty) = some l) :
    exec (.clean (.ce k)) s = .next (s.completed (s.setCe k { s.ce k with
        wb := (s.ce k).wb ++ [{ addr := n * 64, data := l.data }]
        cache := (s.ce k).cache.map fun m => if m.line = n then { m with dirty := false } else m }) (.ce k)
      { s.arch (.ce k) with ds := r }) := by
  refine (if_neg (by simp [h.1])).trans ((if_neg (by simp [hwb])).trans ?_)
  refine issue_ce (o := specClean) 1 0 rfl rfl h (by simp [hds]) (by omega) ?_
  simp only [hds, nth, List.getD_cons_zero, List.drop_one, List.tail_cons, hline, hl]

theorem exec_inval (h : s.atWord (.ce k) 0xFF00 0xD400 0xFF) (hds : (s.arch (.ce k)).ds = d :: r)
    (hlen : (s.arch (.ce k)).ds.length ≤ 16) {c : Ce}
    (hc : cacheOpLine (s.ce k) d = none ∧ c = s.ce k ∨ ∃ n, cacheOpLine (s.ce k) d = some n ∧
      c = { s.ce k with cache := (s.ce k).cache.filter fun l => l.line != n }) :
    exec (.inval (.ce k)) s = .next (s.completed (s.setCe k c) (.ce k) { s.arch (.ce k) with ds := r }) := by
  refine issue_ce (o := specInval) 1 0 rfl rfl h (by simp [hds]) (by omega) ?_
  obtain ⟨hline, rfl⟩ | ⟨n, hline, rfl⟩ := hc <;>
    simp only [hds, nth, List.getD_cons_zero, List.drop_one, List.tail_cons, hline]

end

theorem cacheOpLine_of_inDram {c : Ce} {d : Word} (h : inDram (c.seg * 2 ^ 32 + d.toNat) = true) :
    cacheOpLine c d = some ((c.seg * 2 ^ 32 + d.toNat) / 64) := by
  simp only [cacheOpLine, segAddr_toNat, if_pos h]

theorem cacheOpLine_of_not_inDram {c : Ce} {d : Word} (h : ¬ inDram (c.seg * 2 ^ 32 + d.toNat) = true) :
    cacheOpLine c d = none := by
  simp only [cacheOpLine, segAddr_toNat, if_neg h]

end

/-- Settles O11, each clause by what its body does to the engine. -/
theorem controlExtension : Obligations.ControlExtension := by
  rintro k s _ _ c rfl rfl rfl hlen
  refine ⟨fun h hlevel => ?reti, exec_reti_intr, fun h => issue_ceBody rfl rfl h hlen rfl,
    fun h => issue_ceBody rfl rfl h hlen rfl, fun d r hds hwb h => ⟨fun hout => ?cleanOutside, fun l hin hl => ?cleanLine⟩,
    fun d r hds h => ?inval, fun h => issue_ceBody rfl rfl h hlen ?sync, fun h => ?setseg, fun hlt h => ?getseg,
    fun h => ?wait⟩
  case reti => exact (exec_reti_base h hlevel).trans (issue_ceBody rfl rfl h hlen rfl)
  case cleanOutside => exact exec_clean_outside h hwb hds hlen (cacheOpLine_of_not_inDram hout)
  case cleanLine => exact exec_clean_dirty h hwb hds hlen (cacheOpLine_of_inDram hin) hl
  case inval =>
    refine exec_inval h hds hlen ?_
    by_cases hin : inDram ((s.ce k).seg * 2 ^ 32 + d.toNat) = true
    · exact .inr ⟨_, cacheOpLine_of_inDram hin, by simp only [if_pos hin]⟩
    · exact .inl ⟨cacheOpLine_of_not_inDram hin, by simp only [if_neg hin]⟩
  case sync => cases (s.ce k).wb <;> rfl
  case setseg => exact issue_ce (o := specSetseg) 0 0 rfl rfl h (Nat.zero_le _) (by omega) rfl
  case getseg => exact issue_ce (o := specGetseg) 0 1 rfl rfl h (Nat.zero_le _) (by omega) rfl
  case wait =>
    refine issue_ce (o := specWait) 0 0 rfl rfl h (Nat.zero_le _) (by omega) ?_
    simp

end Sys2Proof.Machine
end

section
/-! PROOFS. Loads, stores and fetch-and-add settled (R381–R386, R400–R406, R434–R440). -/
namespace Sys2Proof.Machine

section
variable {s t u : State}

/-! ### What counting an instruction leaves alone -/

/-- `t` is `s` but for counters, the performance monitor and the registers from its block upwards. -/
structure State.Counting (s t : State) : Prop where
  eq : t = { s with regs := t.regs, ctrs := t.ctrs, pmc := t.pmc }
  rd : ∀ a < 0x700000, t.rd a = s.rd a

namespace State.Counting

theorem refl (s : State) : s.Counting s := ⟨rfl, fun _ _ => rfl⟩

theorem trans (h : s.Counting t) (k : t.Counting u) : s.Counting u :=
  ⟨by rw [k.eq, h.eq], fun a ha => (k.rd a ha).trans (h.rd a ha)⟩

theorem mem_eq (h : s.Counting t) : t.mem = s.mem := by rw [h.eq]
theorem dsp_eq (h : s.Counting t) : t.dsp = s.dsp := by rw [h.eq]
theorem flume_eq (h : s.Counting t) : t.flume = s.flume := by rw [h.eq]
theorem bpm_eq (h : s.Counting t) : t.bpm = s.bpm := by rw [h.eq]
theorem tables_eq (h : s.Counting t) : t.tables = s.tables := by rw [h.eq]
theorem flow_eq (h : s.Counting t) : t.flow = s.flow := by rw [h.eq]
theorem tb_eq (h : s.Counting t) : t.tb = s.tb := by rw [h.eq]

/-- Counting does not look at an engine's rotation. -/
theorem of_last {l : SMap Nat} (h : s.Counting t) :
    State.Counting { s with flume.last := l } { t with flume.last := l } :=
  ⟨by rw [h.eq], h.rd⟩

end State.Counting

theorem counting_bump {a : Nat} (n : Nat) : s.Counting (s.bump a n) := ⟨rfl, fun _ _ => rfl⟩

theorem counting_count (ev : Nat) (is : List Nat) (n : Nat) : s.Counting (s.count ev is n) :=
  ⟨by rw [State.count_eq], fun a ha => State.rd_count _ ev is n a ha⟩

theorem counting_sampleTick (i : Nat) (what : Nat × Nat × Nat) : s.Counting (s.sampleTick i what) := by
  unfold State.sampleTick
  split
  · exact .refl s
  · split_ifs
    · exact .refl s
    · exact ⟨rfl, fun _ _ => rfl⟩
    · exact ⟨rfl, fun _ _ => rfl⟩

theorem counting_engAdd (n e code m : Nat) : s.Counting (s.engAdd n e code m) := by
  have hne : ∀ j, ∀ a < 0x700000, a ≠ Reg.pmcEng n e j := fun j a ha h => by simp only [Reg.pmcEng] at h; omega
  have hstep : ∀ (t : State) (j : Nat), t.Counting (if t.fld (Reg.pmcEngSel n) (4 * j + 3) (4 * j) = code then
      if 2 ^ 32 ≤ t.fld (Reg.pmcEng n e j) 31 0 + m ∧ t.bit (Reg.pmcEngSel n) (30 + j) then
        { t.setFld (Reg.pmcEng n e j) 31 0 (t.fld (Reg.pmcEng n e j) 31 0 + m) with
          pmc.armed := t.pmc.armed.set ((n * 16 + e) * 2 + j) (some 3) }
      else t.setFld (Reg.pmcEng n e j) 31 0 (t.fld (Reg.pmcEng n e j) 31 0 + m)
    else t) := by
    intro t j
    split_ifs
    · exact ⟨rfl, fun a ha => t.rd_setFld_other _ _ _ _ _ (hne j a ha)⟩
    · exact ⟨rfl, fun a ha => t.rd_setFld_other _ _ _ _ _ (hne j a ha)⟩
    · exact .refl t
  exact (hstep s 0).trans (hstep _ 1)

theorem counting_engEvent (n e th code : Nat) : s.Counting (s.engEvent n e th code) := by
  unfold State.engEvent
  split
  · exact counting_engAdd n e code 1
  · exact .refl s

/-- An instruction of a packet engine as counted: the rotation of its engine moves on beside. -/
theorem counting_counted (cl e th : Nat) :
    State.Counting { s with flume.last := s.flume.last.set (cl * 16 + e) (th + 1) } (s.counted (.pe cl e th)) := by
  have hissue : State.Counting { s with flume.last := s.flume.last.set (cl * 16 + e) (th + 1) }
      { (s.bump (Reg.flmCnt cl 0)).count 56 [cl, 16] with
        flume.last := ((s.bump (Reg.flmCnt cl 0)).count 56 [cl, 16]).flume.last.set (cl * 16 + e) (th + 1) } := by
    have h := (counting_bump (s := s) (a := Reg.flmCnt cl 0) 1).trans (counting_count 56 [cl, 16] 1)
    rw [h.flume_eq]
    exact h.of_last
  have hcall : ∀ t u : State, t.Counting u → t.Counting (match hcallUnit (s.wordOf (.pe cl e th)) with
      | some n => if n = 8 then (u.engEvent cl e th 4).engEvent cl e th 5 else u.engEvent cl e th 4
      | none => u) := by
    intro t u hu
    split
    · split_ifs
      · exact (hu.trans (counting_engEvent cl e th 4)).trans (counting_engEvent cl e th 5)
      · exact hu.trans (counting_engEvent cl e th 4)
    · exact hu
  refine hcall _ _ ?_
  exact ((hissue.trans (counting_sampleTick _ _)).trans (counting_sampleTick _ _)).trans (counting_engEvent _ _ _ _)

theorem counted_flume (cl e th : Nat) :
    (s.counted (.pe cl e th)).flume = { s.flume with last := s.flume.last.set (cl * 16 + e) (th + 1) } :=
  (counting_counted cl e th).flume_eq

theorem State.rd_counted (w : Who) (a : Nat) (ha : a < 0x700000) : (s.counted w).rd a = s.rd a := by
  cases w with
  | ce k => rfl
  | pe cl e th => exact (counting_counted cl e th).rd a ha

@[simp] theorem State.counted_mem (w : Who) : (s.counted w).mem = s.mem := by
  cases w with
  | ce k => rfl
  | pe cl e th => exact (counting_counted cl e th).mem_eq

@[simp] theorem State.counted_bpm (cl e th : Nat) : (s.counted (.pe cl e th)).bpm = s.bpm :=
  (counting_counted cl e th).bpm_eq

@[simp] theorem State.counted_tables (cl e th : Nat) : (s.counted (.pe cl e th)).tables = s.tables :=
  (counting_counted cl e th).tables_eq

@[simp] theorem State.counted_flow (cl e th : Nat) : (s.counted (.pe cl e th)).flow = s.flow :=
  (counting_counted cl e th).flow_eq

@[simp] theorem State.counted_tb (cl e th : Nat) : (s.counted (.pe cl e th)).tb = s.tb :=
  (counting_counted cl e th).tb_eq

@[simp] theorem State.counted_ctx (cl e th c : Nat) : (s.counted (.pe cl e th)).ctx c = s.ctx c := by
  rw [State.ctx, (counting_counted cl e th).dsp_eq]; rfl

@[simp] theorem State.counted_dsp (cl e th : Nat) : (s.counted (.pe cl e th)).dsp = s.dsp :=
  (counting_counted cl e th).dsp_eq

@[simp] theorem State.counted_thr (cl e th cl' e' th' : Nat) : (s.counted (.pe cl e th)).thr cl' e' th' = s.thr cl' e' th' := by
  simp only [State.thr, counted_flume]

@[simp] theorem State.counted_ctxOf (cl e th cl' e' th' : Nat) :
    (s.counted (.pe cl e th)).ctxOf cl' e' th' = s.ctxOf cl' e' th' := by
  simp only [State.ctxOf, State.counted_thr]

@[simp] theorem State.counted_peLoad (cl e th k c x n : Nat) :
    (s.counted (.pe cl e th)).peLoad k c x n = s.peLoad k c x n := by
  simp only [State.peLoad, State.peByte, State.ctx, counted_flume, State.counted_dsp]

end

/-! ### The common path of an instruction at its word -/

/-- What an instruction leaves whose body answered `r`. -/
def State.bodyLeaves (s : State) (w : Who) : Except (Nat × Nat) Done → State
  | .error (c, u) => s.faults w c u
  | .ok d => s.completed d.s w d.a d.jump d.load d.deferred

theorem issue_bodyLeaves {w : Who} {o : OpSpec} {s : State} {body : Body} {resv : Nat}
    (h : s.atWord w o.mask o.pat resv) (hc : o.check w (s.arch w) (s.wordOf w) = none) :
    issue w o s body = .next (s.bodyLeaves w (body (s.counted w) (s.arch w) (s.wordOf w))) := by
  rw [issue_next h.1 h.2.1 h.2.2.1]
  cases hb : body (s.counted w) (s.arch w) (s.wordOf w) with
  | ok d => rw [runInstr_ok hc hb]; rfl
  | error f => obtain ⟨c, u⟩ := f; rw [runInstr_error hc hb]; rfl

/-- A memory instruction with a defined width that waits for nothing issues as the others do. -/
theorem issueMem_eq_issue {w : Who} {o : OpSpec} {s : State} {held : Ce → Arch → Nat → Bool} {body : Body} {resv : Nat}
    (h : s.atWord w o.mask o.pat resv) (hwi : s.wordOf w / 0x400 % 4 < 3)
    (hheld : ∀ k, w = .ce k → held (s.ce k) (s.arch w) (s.wordOf w) = false) :
    issueMem w o s held body = issue w o s body := by
  have hwidth : ¬ s.instrAt w (s.arch w).pc / 0x400 % 4 = 3 := by unfold State.wordOf at hwi; omega
  unfold issueMem
  rw [if_neg (by simp [h.1]), if_neg hwidth]
  refine if_neg ?_
  cases w with
  | pe cl e th => simp
  | ce k => simp [show held (s.ce k) (s.arch (.ce k)) (s.instrAt (.ce k) (s.arch (.ce k)).pc) = false from hheld k rfl]

/-! ### Loads and stores of a packet engine -/

theorem peSpace_eq_shared {x : Nat} : peSpace x = .shared ↔ 0x10000 ≤ x ∧ x < 0x50000 := by
  unfold peSpace
  split_ifs <;> simp <;> omega

theorem peSpace_ne_shared {x : Nat} : (peSpace x != .shared) = decide (x < 0x10000 ∨ 0x50000 ≤ x) := by
  rw [bne, Bool.eq_iff_iff]
  simp only [Bool.not_eq_true', beq_eq_false_iff_ne, ne_eq, peSpace_eq_shared, decide_eq_true_eq]
  omega

theorem peSpace_eq_frameRw {x : Nat} : peSpace x = .frameRw ↔ (0xB8 ≤ x ∧ x < 0x100) ∨ (0x200 ≤ x ∧ x < 0x400) := by
  unfold peSpace
  split_ifs <;> simp <;> omega

theorem peSpace_of_lt {x : Nat} (h : x < 0x400) : peSpace x = .frameRo ∨ peSpace x = .frameRw := by
  unfold peSpace
  split_ifs <;> simp

theorem peCheck_load_low {x n : Nat} (h : x < 0x400) : peCheck x n false = if x % n ≠ 0 then some (4, 0) else none := by
  unfold peCheck
  obtain h | h := peSpace_of_lt h <;> simp [h]

section
variable {s : State} {cl e th c : Nat}

theorem bodyLeaves_peLoadBody (x n slot : Nat) (ds : List Word) (hctx : (s.thr cl e th).ctx = some c) :
    s.bodyLeaves (.pe cl e th) (peLoadBody cl e th x n slot ds (s.counted (.pe cl e th)) (s.arch (.pe cl e th))) =
      match peCheck x n false with
      | some (k, u) => s.faults (.pe cl e th) k u
      | none => s.completed ((s.counted (.pe cl e th)).shmEvent cl e th x) (.pe cl e th)
          { s.arch (.pe cl e th) with ds := ds } false
          (some { slot := slot, value := s.peLoad cl c x n, arrived := decide (x < 0x10000 ∨ 0x50000 ≤ x) }) := by
  have hc : s.ctxOf cl e th = c := by simp [State.ctxOf, hctx]
  unfold peLoadBody
  cases peCheck x n false with
  | some f => rfl
  | none => simp only [peSpace_ne_shared, State.counted_peLoad, State.counted_ctxOf, hc]; rfl

theorem bodyLeaves_peStoreBody (x n : Nat) (v : Word) (ds : List Word) (hctx : (s.thr cl e th).ctx = some c) :
    s.bodyLeaves (.pe cl e th) (peStoreBody cl e th x n v ds (s.counted (.pe cl e th)) (s.arch (.pe cl e th))) =
      match peCheck x n true with
      | some (k, u) => s.faults (.pe cl e th) k u
      | none => s.completed ((s.counted (.pe cl e th)).peStore cl c x n v) (.pe cl e th)
          { s.arch (.pe cl e th) with ds := ds } := by
  have hc : s.ctxOf cl e th = c := by simp [State.ctxOf, hctx]
  unfold peStoreBody
  cases peCheck x n true with
  | some f => rfl
  | none => simp only [State.counted_ctxOf, hc]; rfl

end

/-- The checks of R421 for an instruction that leaves the return stack alone. -/
theorem check_none_of_stack {o : OpSpec} {w : Who} {a : Arch} {i : Nat} (p q : Nat)
    (ho : o.stackUse = (p, q, false, false)) (hh : o.helper = false) (hct : o.control = false)
    (hr : Nat.land i o.resv = 0) (hp : p ≤ a.ds.length) (hq : a.ds.length - p + q ≤ 16) : o.check w a i = none :=
  check_none_of_stackUse p q ho hh hct hr hp hq (by simp) (by simp)

section
variable {s t : State} {w : Who} {o : OpSpec} {body : Body}

/-- An instruction at its word, by what its body answers. -/
theorem issue_of_bodyLeaves (p q : Nat) (ho : o.stackUse = (p, q, false, false)) (hh : o.helper = false)
    (hct : o.control = false) (h : s.atWord w o.mask o.pat o.resv) (hp : p ≤ (s.arch w).ds.length)
    (hq : (s.arch w).ds.length - p + q ≤ 16)
    (hb : s.bodyLeaves w (body (s.counted w) (s.arch w) (s.wordOf w)) = t) : issue w o s body = .next t := by
  rw [issue_bodyLeaves h (check_none_of_stack p q ho hh hct h.2.2.2 hp hq), hb]

/-- The same for a memory instruction that waits for nothing. -/
theorem issueMem_of_bodyLeaves {held : Ce → Arch → Nat → Bool} (p q : Nat) (ho : o.stackUse = (p, q, false, false))
    (hh : o.helper = false) (hct : o.control = false) (h : s.atWord w o.mask o.pat o.resv)
    (hwi : s.wordOf w / 0x400 % 4 < 3) (hp : p ≤ (s.arch w).ds.length) (hq : (s.arch w).ds.length - p + q ≤ 16)
    (hheld : ∀ k, w = .ce k → held (s.ce k) (s.arch w) (s.wordOf w) = false)
    (hb : s.bodyLeaves w (body (s.counted w) (s.arch w) (s.wordOf w)) = t) : issueMem w o s held body = .next t := by
  rw [issueMem_eq_issue h hwi hheld]
  exact issue_of_bodyLeaves p q ho hh hct h hp hq hb

end

section
variable {s : State} {cl e th c wi x : Nat} {w : Who} {d v : Word} {r : List Word}

theorem widthOf_eq {i : Nat} (hwi : i / 0x400 % 4 = wi) : widthOf i = 2 ^ wi := by rw [widthOf, hwi]

theorem nth_zero_cons (l : List Word) : nth (d :: l) 0 = d := rfl
theorem nth_one_cons (l : List Word) : nth (d :: v :: l) 1 = v := rfl

theorem exec_ld_pe (hlen : (s.arch (.pe cl e th)).ds.length ≤ 16) (hctx : (s.thr cl e th).ctx = some c)
    (hwi : s.wordOf (.pe cl e th) / 0x400 % 4 = wi) (hw : wi < 3) (hds : (s.arch (.pe cl e th)).ds = d :: r)
    (hx : x = (d.toNat + s.wordOf (.pe cl e th) % 0x400) % 2 ^ 32) (h : s.atWord (.pe cl e th) 0xF000 0x4000 0) :
    exec (.ld (.pe cl e th)) s = .next (match peCheck x (2 ^ wi) false with
      | some (k, u) => s.faults (.pe cl e th) k u
      | none => s.completed ((s.counted (.pe cl e th)).shmEvent cl e th x) (.pe cl e th) (s.arch (.pe cl e th)) false
          (some { slot := r.length, value := s.peLoad cl c x (2 ^ wi), arrived := decide (x < 0x10000 ∨ 0x50000 ≤ x) })) := by
  have haddr : dispAddr d (s.wordOf (.pe cl e th)) = x := hx.symm
  change execLd _ s = _
  unfold execLd
  refine issueMem_of_bodyLeaves 1 1 rfl rfl rfl h (hwi ▸ hw) (by simp [hds])
    (by rw [hds] at hlen ⊢; simpa using hlen) (by simp) ?_
  refine (bodyLeaves_peLoadBody _ _ _ _ hctx).trans ?_
  have hslot : (s.arch (.pe cl e th)).ds.length - 1 = r.length := by rw [hds]; rfl
  have hnth : nth (s.arch (.pe cl e th)).ds 0 = d := by rw [hds]; rfl
  simp only [ldAddr, hnth, haddr, widthOf_eq hwi, hslot]

theorem exec_ldc_pe (hlen : (s.arch (.pe cl e th)).ds.length < 16) (hctx : (s.thr cl e th).ctx = some c)
    (hwi : s.wordOf (.pe cl e th) / 0x400 % 4 = wi) (hw : wi < 3)
    (hx : x = s.wordOf (.pe cl e th) % 0x400) (h : s.atWord (.pe cl e th) 0xF000 0x5000 0) :
    exec (.ldc (.pe cl e th)) s = .next (if x % 2 ^ wi ≠ 0 then s.faults (.pe cl e th) 4 0
      else s.completed (s.counted (.pe cl e th)) (.pe cl e th)
        { s.arch (.pe cl e th) with ds := BitVec.ofNat 32 x :: (s.arch (.pe cl e th)).ds } false
        (some { slot := (s.arch (.pe cl e th)).ds.length, value := s.peLoad cl c x (2 ^ wi) })) := by
  have haddr : dispOf (s.wordOf (.pe cl e th)) = x := hx.symm
  have hlow : x < 0x400 := hx ▸ Nat.mod_lt _ (by norm_num)
  have hspace : (peSpace x == .shared) = false := by obtain h | h := peSpace_of_lt hlow <;> rw [h] <;> rfl
  change execLdc _ s = _
  unfold execLdc
  refine issueMem_of_bodyLeaves 0 1 rfl rfl rfl h (hwi ▸ hw) (Nat.zero_le _) (by omega) (by simp) ?_
  refine (bodyLeaves_peLoadBody _ _ _ _ hctx).trans ?_
  simp only [haddr, widthOf_eq hwi, peCheck_load_low hlow, State.shmEvent, hspace,
    decide_eq_true (show x < 0x10000 ∨ 0x50000 ≤ x by omega)]
  by_cases hal : x % 2 ^ wi = 0 <;> simp [hal]

theorem exec_st_pe (hlen : (s.arch (.pe cl e th)).ds.length ≤ 16) (hctx : (s.thr cl e th).ctx = some c)
    (hwi : s.wordOf (.pe cl e th) / 0x400 % 4 = wi) (hw : wi < 3) (hds : (s.arch (.pe cl e th)).ds = d :: v :: r)
    (hx : x = (d.toNat + s.wordOf (.pe cl e th) % 0x400) % 2 ^ 32) (h : s.atWord (.pe cl e th) 0xF000 0x6000 0) :
    exec (.st (.pe cl e th)) s = .next (match peCheck x (2 ^ wi) true with
      | some (k, u) => s.faults (.pe cl e th) k u
      | none => s.completed ((s.counted (.pe cl e th)).peStore cl c x (2 ^ wi) v) (.pe cl e th)
          { s.arch (.pe cl e th) with ds := r }) := by
  have haddr : dispAddr d (s.wordOf (.pe cl e th)) = x := hx.symm
  change execSt _ s = _
  unfold execSt
  refine issueMem_of_bodyLeaves 2 0 rfl rfl rfl h (hwi ▸ hw) (by simp [hds]) (by omega) (by simp) ?_
  refine (bodyLeaves_peStoreBody _ _ _ _ hctx).trans ?_
  simp only [ldAddr, hds, nth_zero_cons, nth_one_cons, haddr, widthOf_eq hwi, List.drop_succ_cons, List.drop_zero]

theorem exec_stc_pe (hlen : (s.arch (.pe cl e th)).ds.length ≤ 16) (hctx : (s.thr cl e th).ctx = some c)
    (hwi : s.wordOf (.pe cl e th) / 0x400 % 4 = wi) (hw : wi < 3) (hds : (s.arch (.pe cl e th)).ds = v :: r)
    (hx : x = s.wordOf (.pe cl e th) % 0x400) (h : s.atWord (.pe cl e th) 0xF000 0x7000 0) :
    exec (.stc (.pe cl e th)) s = .next (match peCheck x (2 ^ wi) true with
      | some (k, u) => s.faults (.pe cl e th) k u
      | none => s.completed ((s.counted (.pe cl e th)).peStore cl c x (2 ^ wi) v) (.pe cl e th)
          { s.arch (.pe cl e th) with ds := r }) := by
  have haddr : dispOf (s.wordOf (.pe cl e th)) = x := hx.symm
  change execStc _ s = _
  unfold execStc
  refine issueMem_of_bodyLeaves 1 0 rfl rfl rfl h (hwi ▸ hw) (by simp [hds]) (by omega) (by simp) ?_
  refine (bodyLeaves_peStoreBody _ _ _ _ hctx).trans ?_
  simp only [hds, nth_zero_cons, haddr, widthOf_eq hwi, List.drop_succ_cons, List.drop_zero]

theorem exec_fadd_pe (hds : (s.arch (.pe cl e th)).ds = d :: v :: r) (hlen : (s.arch (.pe cl e th)).ds.length ≤ 16)
    (h : s.atWord (.pe cl e th) 0xF0FF 0x0040 0x0F00) :
    exec (.fadd (.pe cl e th)) s = .next
      (if d.toNat % 4 ≠ 0 then s.faults (.pe cl e th) 4 0
       else if d.toNat < 0x10000 ∨ 0x50000 ≤ d.toNat then s.faults (.pe cl e th) 5 0
       else s.completed (((s.counted (.pe cl e th)).peStore cl 0 d.toNat 4 (s.peLoad cl 0 d.toNat 4 + v)).engEvent cl e th 6)
         (.pe cl e th) { s.arch (.pe cl e th) with ds := v :: r } false
         (some { slot := r.length, value := s.peLoad cl 0 d.toNat 4, arrived := false })) := by
  change execFadd _ s = _
  unfold execFadd
  refine issue_of_bodyLeaves 2 1 rfl rfl rfl h (by simp [hds]) (by omega) ?_
  simp only [peFaddBody, hds, nth_zero_cons, nth_one_cons, peSpace_ne_shared, decide_eq_true_eq, State.counted_peLoad]
  split_ifs <;> rfl

end

/-! ### What a store changes -/

theorem leBytes_getElem (n k i : Nat) (h : i < (leBytes n k).length) : (leBytes n k)[i] = BitVec.ofNat 8 (n / 256 ^ i) := by
  induction k generalizing n i with
  | zero => simp at h
  | succ k ih =>
    cases i with
    | zero => simp [leBytes]
    | succ i =>
      simp only [leBytes, List.getElem_cons_succ]
      rw [ih, Nat.div_div_eq_div_mul, Nat.pow_succ']

theorem extractLsb'_eq_ofNat (v : Word) (i : Nat) : v.extractLsb' (8 * i) 8 = BitVec.ofNat 8 (v.toNat / 256 ^ i) := by
  apply BitVec.eq_of_toNat_eq
  rw [BitVec.extractLsb'_toNat, BitVec.toNat_ofNat, Nat.shiftRight_eq_div_pow, Nat.pow_mul]

/-- An address a store may write, with every byte of its item in the same space. -/
theorem store_space {x wi : Nat} (hw : wi < 3) (h : peCheck x (2 ^ wi) true = none) :
    (peSpace x = .shared ∧ ∀ i < 2 ^ wi, peSpace (x + i) = .shared) ∨
    (peSpace x = .frameRw ∧ ∀ i < 2 ^ wi, peSpace (x + i) = .frameRw) := by
  have hal : x % 2 ^ wi = 0 := by
    by_contra hne
    simp [peCheck, hne] at h
  have hn : 2 ^ wi = 1 ∨ 2 ^ wi = 2 ∨ 2 ^ wi = 4 := by interval_cases wi <;> simp
  have hspace : peSpace x = .shared ∨ peSpace x = .frameRw := by
    simp only [peCheck, hal, ne_eq, not_true_eq_false, if_false] at h
    cases hx : peSpace x <;> simp [hx] at h ⊢
  obtain hx | hx := hspace
  · refine .inl ⟨hx, fun i hi => peSpace_eq_shared.mpr ?_⟩
    rw [peSpace_eq_shared] at hx
    obtain hn | hn | hn := hn <;> rw [hn] at hal hi <;> omega
  · refine .inr ⟨hx, fun i hi => peSpace_eq_frameRw.mpr ?_⟩
    rw [peSpace_eq_frameRw] at hx
    obtain hn | hn | hn := hn <;> rw [hn] at hal hi <;> omega

section
variable {s : State} {cl c x : Nat}

theorem peStore_shared (n : Nat) (v : Word) (h : peSpace x = .shared) : s.peStore cl c x n v =
    { s with flume.shm := putBytes s.flume.shm (cl * 0x40000 + (x - 0x10000)) (leBytes v.toNat n) } := by
  simp only [State.peStore, h]

theorem peStore_frame (n : Nat) (v : Word) (h : peSpace x = .frameRw) : s.peStore cl c x n v =
    s.setCtx c { s.ctx c with frame := putBytes (s.ctx c).frame x (leBytes v.toNat n) } := by
  simp only [State.peStore, h]

theorem peByte_peStore_at {wi i : Nat} (v : Word) (hw : wi < 3) (h : peCheck x (2 ^ wi) true = none) (hi : i < 2 ^ wi) :
    (s.peStore cl c x (2 ^ wi) v).peByte cl c (x + i) = v.extractLsb' (8 * i) 8 := by
  have hlen : i < (leBytes v.toNat (2 ^ wi)).length := by simpa using hi
  rw [extractLsb'_eq_ofNat, ← leBytes_getElem _ _ _ hlen]
  obtain ⟨hx, hxi⟩ | ⟨hx, hxi⟩ := store_space hw h
  · rw [peStore_shared _ _ hx]
    simp only [State.peByte, hxi i hi]
    have hlow := (peSpace_eq_shared.mp hx).1
    rw [show cl * 0x40000 + (x + i - 0x10000) = cl * 0x40000 + (x - 0x10000) + i by omega]
    exact get_putBytes _ _ _ _ hlen
  · rw [peStore_frame _ _ hx]
    simp only [State.peByte, hxi i hi, State.ctx_setCtx, if_pos, Ctx.byte]
    exact get_putBytes _ _ _ _ hlen

theorem peByte_peStore_outside {n y : Nat} (v : Word) (h : y < x ∨ x + n ≤ y) :
    (s.peStore cl c x n v).peByte cl c y = s.peByte cl c y := by
  cases hx : peSpace x
  case shared =>
    rw [peStore_shared _ _ hx]
    have hlow := (peSpace_eq_shared.mp hx).1
    cases hy : peSpace y <;> simp only [State.peByte, hy, State.ctx]
    have hylow := (peSpace_eq_shared.mp hy).1
    exact get_putBytes_ne _ _ _ _ (by simp only [leBytes_length]; omega)
  case frameRw =>
    rw [peStore_frame _ _ hx]
    have hbyte : (putBytes (s.ctx c).frame x (leBytes v.toNat n)).get y = (s.ctx c).frame.get y :=
      get_putBytes_ne _ _ _ _ (by simpa using h)
    cases hy : peSpace y <;> simp only [State.peByte, hy, State.ctx_setCtx, if_pos, Ctx.byte, hbyte] <;> rfl
  all_goals simp only [State.peStore, hx]

theorem byte_peStore_ne {d n : Nat} (y : Nat) (v : Word) (h : d ≠ c) :
    ((s.peStore cl c x n v).ctx d).byte y = (s.ctx d).byte y := by
  cases hx : peSpace x
  case frameRw => rw [peStore_frame _ _ hx, State.ctx_setCtx, if_neg h]
  case shared => rw [peStore_shared _ _ hx]; rfl
  all_goals simp only [State.peStore, hx]

theorem peByte_peStore_cluster {k n y : Nat} (v : Word) (hk : k ≠ cl) (hlo : 0x10000 ≤ y) (hhi : y < 0x50000)
    (hx4 : peSpace x = .shared → x + n ≤ 0x50000) :
    (s.peStore cl c x n v).peByte k c y = s.peByte k c y := by
  have hy : peSpace y = .shared := peSpace_eq_shared.mpr ⟨hlo, hhi⟩
  simp only [State.peByte, hy]
  cases hx : peSpace x
  case shared =>
    rw [peStore_shared _ _ hx]
    obtain ⟨hxlo, hxhi⟩ := peSpace_eq_shared.mp hx
    have hend := hx4 hx
    exact get_putBytes_ne _ _ _ _ (by simp only [leBytes_length]; omega)
  case frameRw => rw [peStore_frame _ _ hx]; rfl
  all_goals simp only [State.peStore, hx]

end

/-- A store changes context bytes and cluster-shared memory alone. -/
theorem peStore_keeps (s : State) (cl c x n : Nat) (v : Word) :
    (s.peStore cl c x n v).mem = s.mem ∧ (s.peStore cl c x n v).flume.ps = s.flume.ps ∧
    (s.peStore cl c x n v).regs = s.regs ∧ (s.peStore cl c x n v).ctrs = s.ctrs := by
  unfold State.peStore
  split <;> exact ⟨rfl, rfl, rfl, rfl⟩

/-- Settles O8. -/
theorem packetEngineMemory : Obligations.PacketEngineMemory := by
  refine ⟨fun cl e th c wi x s w a hwho ha hlen hctx hwi hw => ?_, fun cl e th s w a d v r hwho ha hds hlen h => ?_,
    fun s cl c x wi v hw hcheck => ⟨fun i hi => peByte_peStore_at v hw hcheck hi,
      fun y hy => peByte_peStore_outside v hy, fun d y hd => byte_peStore_ne y v hd, ?_, peStore_keeps s cl c x _ v⟩⟩
  · subst hwho ha
    exact ⟨fun d r hds hx h => exec_ld_pe hlen hctx hwi hw hds hx h,
      fun hroom hx h => exec_ldc_pe hroom hctx hwi hw hx h,
      fun d v r hds hx h => exec_st_pe hlen hctx hwi hw hds hx h,
      fun v r hds hx h => exec_stc_pe hlen hctx hwi hw hds hx h⟩
  · subst hwho ha
    exact exec_fadd_pe hds hlen h
  · intro k y hk _ _ hlo hhi
    refine peByte_peStore_cluster v hk hlo hhi fun hx => ?_
    obtain ⟨-, hall⟩ | ⟨hframe, -⟩ := store_space hw hcheck
    · have hlast := (peSpace_eq_shared.mp (hall (2 ^ wi - 1) (Nat.sub_lt (by positivity) one_pos))).2
      have : 0 < 2 ^ wi := by positivity
      omega
    · simp [hframe] at hx

end Sys2Proof.Machine
end

section
/-! PROOFS. A control engine's loads, stores, register accesses and fetch-and-add settled (R163, R400, R404–R406,
R434–R438, R454). -/
namespace Sys2Proof.Machine

section
variable {s : State} {k wi x : Nat} {d v : Word} {r : List Word}

theorem segAddr_dispAddr (seg i : Nat) (d : Word) : segAddr seg (dispAddr d i) = seg * 2 ^ 32 + (d.toNat + i % 0x400) % 2 ^ 32 := by
  rw [segAddr, dispAddr, Nat.mod_mod, dispOf]

/-- A memory instruction that waits changes nothing (R404, R405). -/
theorem issueMem_waits {o : OpSpec} {held : Ce → Arch → Nat → Bool} {body : Body} {resv : Nat}
    (h : s.atWord (.ce k) o.mask o.pat resv) (hwi : s.wordOf (.ce k) / 0x400 % 4 < 3)
    (hc : o.check (.ce k) (s.arch (.ce k)) (s.wordOf (.ce k)) = none)
    (hheld : held (s.ce k) (s.arch (.ce k)) (s.wordOf (.ce k)) = true) : issueMem (.ce k) o s held body = .next s := by
  have hwidth : ¬ s.instrAt (.ce k) (s.arch (.ce k)).pc / 0x400 % 4 = 3 := by unfold State.wordOf at hwi; omega
  unfold State.wordOf at hc hheld
  unfold issueMem
  rw [if_neg (by simp [h.1]), if_neg hwidth]
  exact if_pos (by simp [hc, hheld])

/-! ### The instructions by their accesses -/

theorem exec_ld_ce (hlen : (s.arch (.ce k)).ds.length ≤ 16) (hwi : s.wordOf (.ce k) / 0x400 % 4 = wi) (hw : wi < 3)
    (hds : (s.arch (.ce k)).ds = d :: r) (hx : x = (s.ce k).seg * 2 ^ 32 + (d.toNat + s.wordOf (.ce k) % 0x400) % 2 ^ 32)
    (h : s.atWord (.ce k) 0xF000 0x4000 0) : exec (.ld (.ce k)) s = .next
      (if (s.ce k).holds x (2 ^ wi) false then s
       else s.bodyLeaves (.ce k) (ceLoadBody k x (2 ^ wi) r.length (s.arch (.ce k)).ds s (s.arch (.ce k)))) := by
  have haddr : segAddr (s.ce k).seg (dispAddr d (s.wordOf (.ce k))) = x := (segAddr_dispAddr _ _ _).trans hx.symm
  have hnth : nth (s.arch (.ce k)).ds 0 = d := by rw [hds]; rfl
  have hslot : (s.arch (.ce k)).ds.length - 1 = r.length := by rw [hds]; rfl
  have hpops : 1 ≤ (s.arch (.ce k)).ds.length := by simp [hds]
  have hq : (s.arch (.ce k)).ds.length - 1 + 1 ≤ 16 := by omega
  change execLd _ s = _
  unfold execLd
  split_ifs with hheld
  · exact issueMem_waits h (hwi ▸ hw) (check_none_of_stack 1 1 rfl rfl rfl h.2.2.2 hpops hq)
      (by simpa only [hnth, haddr, widthOf_eq hwi] using hheld)
  · refine issueMem_of_bodyLeaves 1 1 rfl rfl rfl h (hwi ▸ hw) hpops hq ?_ ?_
    · rintro _ ⟨⟩
      simpa only [hnth, haddr, widthOf_eq hwi, Bool.not_eq_true] using hheld
    · change s.bodyLeaves _ (ceLoadBody k (segAddr (s.ce k).seg (dispAddr (nth (s.arch (.ce k)).ds 0) (s.wordOf (.ce k))))
        (widthOf (s.wordOf (.ce k))) _ _ _ _) = _
      simp only [hnth, haddr, widthOf_eq hwi, hslot]
      rfl

theorem exec_ldc_ce (hlen : (s.arch (.ce k)).ds.length < 16) (hwi : s.wordOf (.ce k) / 0x400 % 4 = wi) (hw : wi < 3)
    (hx : x = 0x1000000 + k * 0x400000 + s.wordOf (.ce k) % 0x400) (h : s.atWord (.ce k) 0xF000 0x5000 0) :
    exec (.ldc (.ce k)) s = .next (s.bodyLeaves (.ce k) (ceLoadBody k x (2 ^ wi) (s.arch (.ce k)).ds.length
      (BitVec.ofNat 32 (s.wordOf (.ce k) % 0x400) :: (s.arch (.ce k)).ds) s (s.arch (.ce k)))) := by
  have haddr : localAddr k (dispOf (s.wordOf (.ce k))) = x := hx.symm
  change execLdc _ s = _
  unfold execLdc
  refine issueMem_of_bodyLeaves 0 1 rfl rfl rfl h (hwi ▸ hw) (Nat.zero_le _) (by omega) (by simp) ?_
  simp only [haddr, widthOf_eq hwi]
  rfl

theorem exec_st_ce (hlen : (s.arch (.ce k)).ds.length ≤ 16) (hwi : s.wordOf (.ce k) / 0x400 % 4 = wi) (hw : wi < 3)
    (hds : (s.arch (.ce k)).ds = d :: v :: r)
    (hx : x = (s.ce k).seg * 2 ^ 32 + (d.toNat + s.wordOf (.ce k) % 0x400) % 2 ^ 32)
    (h : s.atWord (.ce k) 0xF000 0x6000 0) : exec (.st (.ce k)) s = .next
      (if (s.ce k).holds x (2 ^ wi) true then s
       else s.bodyLeaves (.ce k) (ceStoreBody k x (2 ^ wi) v r s (s.arch (.ce k)))) := by
  have haddr : segAddr (s.ce k).seg (dispAddr d (s.wordOf (.ce k))) = x := (segAddr_dispAddr _ _ _).trans hx.symm
  have hnth : nth (s.arch (.ce k)).ds 0 = d := by rw [hds]; rfl
  have hval : nth (s.arch (.ce k)).ds 1 = v := by rw [hds]; rfl
  have hrest : (s.arch (.ce k)).ds.drop 2 = r := by rw [hds]; rfl
  have hpops : 2 ≤ (s.arch (.ce k)).ds.length := by simp [hds]
  have hq : (s.arch (.ce k)).ds.length - 2 + 0 ≤ 16 := by omega
  change execSt _ s = _
  unfold execSt
  split_ifs with hheld
  · exact issueMem_waits h (hwi ▸ hw) (check_none_of_stack 2 0 rfl rfl rfl h.2.2.2 hpops hq)
      (by simpa only [hnth, haddr, widthOf_eq hwi] using hheld)
  · refine issueMem_of_bodyLeaves 2 0 rfl rfl rfl h (hwi ▸ hw) hpops hq ?_ ?_
    · rintro _ ⟨⟩
      simpa only [hnth, haddr, widthOf_eq hwi, Bool.not_eq_true] using hheld
    · change s.bodyLeaves _ (ceStoreBody k (segAddr (s.ce k).seg (dispAddr (nth (s.arch (.ce k)).ds 0) (s.wordOf (.ce k))))
        (widthOf (s.wordOf (.ce k))) _ _ _ _) = _
      simp only [hnth, haddr, widthOf_eq hwi, hval, hrest]
      rfl

theorem exec_stc_ce (hlen : (s.arch (.ce k)).ds.length ≤ 16) (hwi : s.wordOf (.ce k) / 0x400 % 4 = wi) (hw : wi < 3)
    (hds : (s.arch (.ce k)).ds = v :: r) (hx : x = 0x1000000 + k * 0x400000 + s.wordOf (.ce k) % 0x400)
    (hheld : (s.ce k).holds x (2 ^ wi) true = false) (h : s.atWord (.ce k) 0xF000 0x7000 0) :
    exec (.stc (.ce k)) s = .next (s.bodyLeaves (.ce k) (ceStoreBody k x (2 ^ wi) v r s (s.arch (.ce k)))) := by
  have haddr : localAddr k (dispOf (s.wordOf (.ce k))) = x := hx.symm
  have hval : nth (s.arch (.ce k)).ds 0 = v := by rw [hds]; rfl
  have hrest : (s.arch (.ce k)).ds.drop 1 = r := by rw [hds]; rfl
  change execStc _ s = _
  unfold execStc
  refine issueMem_of_bodyLeaves 1 0 rfl rfl rfl h (hwi ▸ hw) (by simp [hds]) (by omega) ?_ ?_
  · rintro _ ⟨⟩
    simpa only [haddr, widthOf_eq hwi] using hheld
  · simp only [haddr, widthOf_eq hwi, hval, hrest]
    rfl

/-! ### The accesses by their space -/

theorem ceCheck_memory {n : Nat} (hal : x % n = 0) (hlo : 0x1000000 ≤ x) (hm : memMapped x = true) : ceCheck x n = none := by
  simp [ceCheck, hal, not_lt.mpr hlo, hm]

theorem memMapped_local (h : 0x1000000 ≤ x ∧ x < 0x2000000) : memMapped x = true := by
  simp [memMapped, h]

theorem memMapped_dram (hlo : 0x2000000000 ≤ x) (hhi : x < 0x4000000000) : memMapped x = true := by
  simp [memMapped, hlo, hhi]

theorem inLocal_eq : inLocal x = decide (0x1000000 ≤ x ∧ x < 0x2000000) := by
  simp [inLocal, Bool.decide_and]

theorem inLocal_local (h : 0x1000000 ≤ x ∧ x < 0x2000000) : inLocal x = true := by simp [inLocal_eq, h]

theorem inLocal_dram (hlo : 0x2000000000 ≤ x) : inLocal x = false := by
  simp only [inLocal_eq, decide_eq_false_iff_not]; omega

theorem holds_load (c : Ce) {n : Nat} (hlo : 0x1000000 ≤ x) : c.holds x n false = false := by
  simp [Ce.holds, not_lt.mpr hlo]

theorem holds_store_dram (c : Ce) {n : Nat} (hlo : 0x2000000000 ≤ x) : c.holds x n true = false := by
  have h : ¬ x < 0x1000000 := by omega
  simp [Ce.holds, inLocal_dram hlo, h]

theorem holds_store_local (c : Ce) {n : Nat} (hx : 0x1000000 ≤ x ∧ x < 0x2000000) (hal : x % n = 0) :
    c.holds x n true = decide (16 ≤ c.wb.length) := by
  simp [Ce.holds, ceCheck_memory hal hx.1 (memMapped_local hx), inLocal_local hx, not_lt.mpr hx.1]

theorem holds_fault (c : Ce) {n : Nat} {b : Bool} {f : Nat × Nat} (h : ceCheck x n = some f) : c.holds x n b = false := by
  simp [Ce.holds, h]

theorem holds_register (c : Ce) {b : Bool} (hx : x < 0x1000000) (hal : x % 4 = 0) : c.holds x 4 b = !c.wb.isEmpty := by
  have hcheck : ceCheck x 4 = none := by simp [ceCheck, hal, hx]
  have hlocal : inLocal x = false := by simp only [inLocal_eq, decide_eq_false_iff_not]; omega
  simp [Ce.holds, hcheck, hx, hlocal]

section
variable {n slot : Nat} {ds : List Word} {a : Arch}

theorem bodyLeaves_load_local (hal : x % n = 0) (hx : 0x1000000 ≤ x ∧ x < 0x2000000) :
    s.bodyLeaves (.ce k) (ceLoadBody k x n slot ds s a) = s.completed s (.ce k) { a with ds := ds } false
      (some { slot := slot, value := BitVec.ofNat 32 (leNat ((List.range n).map fun i => s.ceByte (s.ce k) (x + i))) }) := by
  simp only [ceLoadBody, ceCheck_memory hal hx.1 (memMapped_local hx), if_neg (not_lt.mpr hx.1), inLocal_local hx, if_true]
  rfl

theorem bodyLeaves_load_hit {l : CacheLine} (hal : x % n = 0) (hlo : 0x2000000000 ≤ x) (hhi : x < 0x4000000000)
    (hl : (s.ce k).lineOf x = some l) :
    s.bodyLeaves (.ce k) (ceLoadBody k x n slot ds s a) = s.completed (s.setCe k ((s.ce k).touch l.line)) (.ce k)
      { a with ds := ds } false (some { slot := slot, value := BitVec.ofNat 32 (leNat (slice l.data (x % 64) n)) }) := by
  have h0 : ¬ x < 0x1000000 := by omega
  simp only [ceLoadBody, ceCheck_memory hal (by omega) (memMapped_dram hlo hhi), if_neg h0, inLocal_dram hlo, hl,
    Bool.false_eq_true, if_false]
  rfl

theorem bodyLeaves_load_miss (hal : x % n = 0) (hlo : 0x2000000000 ≤ x) (hhi : x < 0x4000000000)
    (hl : (s.ce k).lineOf x = none) :
    s.bodyLeaves (.ce k) (ceLoadBody k x n slot ds s a) = s.completed (s.setCe k { s.ce k with
      uses := (s.ce k).uses + 1
      misses := (s.ce k).misses ++ [{ addr := x, width := n, tag := (s.ce k).uses + 1 }] }) (.ce k)
      { a with ds := ds } false (some { slot := slot, arrived := false, tag := (s.ce k).uses + 1 }) := by
  have h0 : ¬ x < 0x1000000 := by omega
  simp only [ceLoadBody, ceCheck_memory hal (by omega) (memMapped_dram hlo hhi), if_neg h0, inLocal_dram hlo, hl,
    Bool.false_eq_true, if_false]
  rfl

theorem bodyLeaves_load_register (hx : x < 0x1000000) (hal : x % 4 = 0) :
    s.bodyLeaves (.ce k) (ceLoadBody k x 4 slot ds s a) = s.completed (s.busRead k x).2 (.ce k) { a with ds := ds } false
      (some { slot := slot, value := (s.busRead k x).1, arrived := false }) := by
  have hcheck : ceCheck x 4 = none := by simp [ceCheck, hal, hx]
  simp only [ceLoadBody, hcheck, if_pos hx]
  rfl

theorem bodyLeaves_load_fault {c u : Nat} (h : ceCheck x n = some (c, u)) :
    s.bodyLeaves (.ce k) (ceLoadBody k x n slot ds s a) = s.faults (.ce k) c u := by
  simp only [ceLoadBody, h]; rfl

theorem bodyLeaves_store_local (hal : x % n = 0) (hx : 0x1000000 ≤ x ∧ x < 0x2000000) :
    s.bodyLeaves (.ce k) (ceStoreBody k x n v ds s a) = s.completed (s.setCe k { s.ce k with
      wb := (s.ce k).wb ++ [{ addr := x, data := leBytes v.toNat n }] }) (.ce k) { a with ds := ds } := by
  simp only [ceStoreBody, ceCheck_memory hal hx.1 (memMapped_local hx), if_neg (not_lt.mpr hx.1), inLocal_local hx, if_true]
  rfl

theorem bodyLeaves_store_hit {l : CacheLine} (hal : x % n = 0) (hlo : 0x2000000000 ≤ x) (hhi : x < 0x4000000000)
    (hl : (s.ce k).lineOf x = some l) :
    s.bodyLeaves (.ce k) (ceStoreBody k x n v ds s a) = s.completed (s.setCe k { (s.ce k).touch l.line with
      cache := ((s.ce k).touch l.line).cache.map fun m => if m.line = l.line then storeLine m x (leBytes v.toNat n) else m })
      (.ce k) { a with ds := ds } := by
  have h0 : ¬ x < 0x1000000 := by omega
  simp only [ceStoreBody, ceCheck_memory hal (by omega) (memMapped_dram hlo hhi), if_neg h0, inLocal_dram hlo, hl,
    Bool.false_eq_true, if_false]
  rfl

theorem bodyLeaves_store_miss (hal : x % n = 0) (hlo : 0x2000000000 ≤ x) (hhi : x < 0x4000000000)
    (hl : (s.ce k).lineOf x = none) :
    s.bodyLeaves (.ce k) (ceStoreBody k x n v ds s a) = s.completed (s.setCe k { s.ce k with
      misses := (s.ce k).misses ++ [{ addr := x, width := n, store := some (leBytes v.toNat n) }] }) (.ce k)
      { a with ds := ds } := by
  have h0 : ¬ x < 0x1000000 := by omega
  simp only [ceStoreBody, ceCheck_memory hal (by omega) (memMapped_dram hlo hhi), if_neg h0, inLocal_dram hlo, hl,
    Bool.false_eq_true, if_false]
  rfl

theorem bodyLeaves_store_register (hx : x < 0x1000000) (hal : x % 4 = 0) :
    s.bodyLeaves (.ce k) (ceStoreBody k x 4 v ds s a) = s.completed (s.busWrite k x v) (.ce k) { a with ds := ds } := by
  have hcheck : ceCheck x 4 = none := by simp [ceCheck, hal, hx]
  simp only [ceStoreBody, hcheck, if_pos hx]
  rfl

theorem bodyLeaves_store_fault {c u : Nat} (h : ceCheck x n = some (c, u)) :
    s.bodyLeaves (.ce k) (ceStoreBody k x n v ds s a) = s.faults (.ce k) c u := by
  simp only [ceStoreBody, h]; rfl

end

end

/-- Settles O9: each instruction by its access, each access by the space of its address. -/
theorem controlEngineMemory : Obligations.ControlEngineMemory := by
  refine ⟨?direct, ?cached⟩
  case direct =>
    rintro k wi x s _ _ _ rfl rfl rfl hlen hwi hw hal
    refine ⟨fun d r hds hx h => ⟨fun hlocal => ?_, fun l hlo hhi hl => ?_⟩, fun hx hk hroom h => ?_,
      fun d v r hds hx h hlocal hwb => ?_, fun v r hds hx hk hwb h => ?_⟩
    · rw [exec_ld_ce hlen hwi hw hds hx h, if_neg (by simp [holds_load _ hlocal.1]), bodyLeaves_load_local hal hlocal]
    · rw [exec_ld_ce hlen hwi hw hds hx h, if_neg (by simp [holds_load _ (show 0x1000000 ≤ x by omega)]),
        bodyLeaves_load_hit hal hlo hhi hl]
    · rw [exec_ldc_ce hroom hwi hw hx h, bodyLeaves_load_local hal (by omega)]
    · rw [exec_st_ce hlen hwi hw hds hx h, if_neg (by simp [holds_store_local _ hlocal hal, hwb]),
        bodyLeaves_store_local hal hlocal]
    · have hlocal : 0x1000000 ≤ x ∧ x < 0x2000000 := by omega
      rw [exec_stc_ce hlen hwi hw hds hx (by simp [holds_store_local _ hlocal hal, hwb]) h,
        bodyLeaves_store_local hal hlocal]
  case cached =>
    rintro k wi x s _ _ _ d v r rfl rfl rfl hlen hwi hw hal hx hlo hhi
    refine ⟨fun l hds h hl => ?_, fun hds h hl => ?_, fun hds h hl => ?_⟩
    · rw [exec_st_ce hlen hwi hw hds hx h, if_neg (by simp [holds_store_dram _ hlo]), bodyLeaves_store_hit hal hlo hhi hl]
    · rw [exec_st_ce hlen hwi hw hds hx h, if_neg (by simp [holds_store_dram _ hlo]), bodyLeaves_store_miss hal hlo hhi hl]
    · rw [exec_ld_ce hlen hwi hw hds hx h, if_neg (by simp [holds_load _ (show 0x1000000 ≤ x by omega)]),
        bodyLeaves_load_miss hal hlo hhi hl]

/-- A control engine's fetch-and-add at its word. -/
theorem exec_fadd_ce {s : State} {k x : Nat} {d v : Word} {r : List Word} (hlen : (s.arch (.ce k)).ds.length ≤ 16)
    (hds : (s.arch (.ce k)).ds = d :: v :: r) (hx : x = (s.ce k).seg * 2 ^ 32 + d.toNat)
    (h : s.atWord (.ce k) 0xF0FF 0x0040 0x0F00) :
    exec (.fadd (.ce k)) s = .next (s.bodyLeaves (.ce k) (ceFaddBody k x v s (s.arch (.ce k)))) := by
  have haddr : segAddr (s.ce k).seg d.toNat = x := (segAddr_toNat _ _).trans hx.symm
  have hnth : nth (s.arch (.ce k)).ds 0 = d := by rw [hds]; rfl
  have hval : nth (s.arch (.ce k)).ds 1 = v := by rw [hds]; rfl
  change execFadd _ s = _
  unfold execFadd
  refine issue_of_bodyLeaves 2 1 rfl rfl rfl h (by simp [hds]) (by omega) ?_
  change s.bodyLeaves _ (ceFaddBody k (segAddr (s.ce k).seg (nth (s.arch (.ce k)).ds 0).toNat) (nth (s.arch (.ce k)).ds 1) s
    (s.arch (.ce k))) = _
  simp only [hnth, hval, haddr]

theorem ceCheck_align {x wi : Nat} (hw : wi < 3) (h : x % 2 ^ wi ≠ 0 ∨ (x < 0x1000000 ∧ wi ≠ 2)) :
    ceCheck x (2 ^ wi) = some (4, 0) := by
  by_cases hal : x % 2 ^ wi = 0
  · obtain ⟨hx, hne⟩ := h.resolve_left (not_not.mpr hal)
    have hfour : 2 ^ wi ≠ 4 := by interval_cases wi <;> simp at hne ⊢
    simp [ceCheck, hal, hx, hfour]
  · simp [ceCheck, hal]

/-- Settles O10: register accesses, waits, faults and fetch-and-add by the access of each. -/
theorem controlEngineAccesses : Obligations.ControlEngineAccesses := by
  rintro k wi x s _ _ _ d v r rfl rfl rfl hlen hwi hw
  refine ⟨fun hx hds => ⟨fun h hbad => ?_, fun h hbad => ?_, fun h hal hlo hout => ?_, fun h hreg hal htwo => ?_,
    fun h hreg hal htwo => ?_, fun h hlo hhi hal hfull => ?_⟩, fun hx hds h => ?_⟩
  · have hcheck := ceCheck_align hw hbad
    rw [exec_ld_ce hlen hwi hw hds hx h, if_neg (by simp [holds_fault _ hcheck]), bodyLeaves_load_fault hcheck]
  · have hcheck := ceCheck_align hw hbad
    rw [exec_st_ce hlen hwi hw hds hx h, if_neg (by simp [holds_fault _ hcheck]), bodyLeaves_store_fault hcheck]
  · have hunmapped : memMapped x = false := by simp [memMapped]; omega
    have hcheck : ceCheck x (2 ^ wi) = some (5, 0) := by
      simp [ceCheck, hal, show ¬ x < 0x1000000 by omega, hunmapped]
    rw [exec_ld_ce hlen hwi hw hds hx h, if_neg (by simp [holds_fault _ hcheck]), bodyLeaves_load_fault hcheck]
  · subst htwo
    rw [exec_ld_ce hlen hwi hw hds hx h, show (2 : Nat) ^ 2 = 4 from rfl, holds_register _ hreg hal, bodyLeaves_load_register hreg hal]
    cases hwb : (s.ce k).wb <;> simp
  · subst htwo
    rw [exec_st_ce hlen hwi hw hds hx h, show (2 : Nat) ^ 2 = 4 from rfl, holds_register _ hreg hal, bodyLeaves_store_register hreg hal]
    cases hwb : (s.ce k).wb <;> simp
  · rw [exec_st_ce hlen hwi hw hds hx h, if_pos (by simp [holds_store_local _ ⟨hlo, hhi⟩ hal, hfull])]
  · rw [exec_fadd_ce hlen hds hx h]
    simp only [ceFaddBody, inLocal_eq, hds]
    by_cases hal : x % 4 = 0
    · by_cases hin : 0x1000000 ≤ x ∧ x < 0x2000000
      · simp [hal, hin, show ¬ (x < 0x1000000 ∨ 0x2000000 ≤ x) by omega]; rfl
      · simp [hal, hin, show x < 0x1000000 ∨ 0x2000000 ≤ x by omega]; rfl
    · simp [hal]; rfl

end Sys2Proof.Machine
end

section
/-! PROOFS. Helper calls: what an accepted call leaves (R449, R457–R463). -/
namespace Sys2Proof.Machine

/-- What an HCALL leaves whose unit, seeing the state `k`, has answered. -/
def State.callLeaves (s k : State) (cl e th unit fn p q : Nat) (args : List Nat) (r : List Word) : Accept → State
  | .wait j => s.completed (k.leaveWaiting cl e th
        { pc := (s.arch (.pe cl e th)).faultPc, unit := unit, waiting := some (fn, args) } j) (.pe cl e th)
      { s.arch (.pe cl e th) with ds := r } false none true
  | .fault t sub => if q = 0 then s.faults (.pe cl e th) 6 sub else s.calledFault t cl e th unit p sub
  | .done t rs o bs => if q = 0 then s.completed t (.pe cl e th) { s.arch (.pe cl e th) with ds := r }
      else s.called t cl e th unit p rs (o, bs)

section
variable {s : State} {cl e th c unit fn q : Nat} {args r : List Word}

/-- What the thread hands its unit. -/
def callOf (cl c fn : Nat) (args : List Word) : Call := { cl := cl, ctx := c, fn := fn, args := args.map BitVec.toNat }

theorem check_none_call (hp : args.length ≤ (s.arch (.pe cl e th)).ds.length)
    (hq : (s.arch (.pe cl e th)).ds.length - args.length + q ≤ 16) :
    (callSpec unit fn args.length q).check (.pe cl e th) (s.arch (.pe cl e th)) (s.wordOf (.pe cl e th)) = none := by
  simp [OpSpec.check, callSpec, not_lt.mpr hp, not_lt.mpr hq]

/-- A call whose unit sees the state `f` makes of the counted one: its answer decides what the call leaves. -/
theorem issue_call_in {f : State → State} (hctx : ((f (s.counted (.pe cl e th))).thr cl e th).ctx = some c)
    (hlate : ((f (s.counted (.pe cl e th))).thr cl e th).late = none) (h : s.atCall cl e th c unit fn q args r) :
    issue (.pe cl e th) (callSpec unit fn args.length q) s (fun t => callBody (.pe cl e th) unit fn args.length q (f t)) =
      .next (s.callLeaves (f (s.counted (.pe cl e th))) cl e th unit fn args.length q (args.map BitVec.toNat) r
        (acceptCall unit (f (s.counted (.pe cl e th))) (callOf cl c fn args))) := by
  obtain ⟨hword, -, -, hds, hroom⟩ := h
  have htake : ((s.arch (.pe cl e th)).ds.take args.length).reverse = args := by
    rw [hds, List.take_left' (by simp), List.reverse_reverse]
  have hdrop : (s.arch (.pe cl e th)).ds.drop args.length = r := by
    rw [hds, List.drop_left' (by simp)]
  have hlen : (s.arch (.pe cl e th)).ds.length = args.length + r.length := by simp [hds]
  rw [issue_bodyLeaves (o := callSpec unit fn args.length q) hword (check_none_call (by omega) (by omega))]
  simp only [callBody, hctx, hlate, htake, Option.getD_some, Option.isSome_none, Bool.false_eq_true, if_false]
  cases hA : acceptCall unit (f (s.counted (.pe cl e th))) (callOf cl c fn args) with
  | wait j => simp only [callOf] at hA; simp only [hA, callDone, State.callLeaves, hdrop]; rfl
  | fault t sub =>
    simp only [callOf] at hA
    by_cases hq : q = 0
    · simp only [hA, callDone, State.callLeaves, if_pos hq]; rfl
    · simp only [hA, callDone, State.callLeaves, if_neg hq]; rfl
  | done t rs o bs =>
    simp only [callOf] at hA
    by_cases hq : q = 0
    · simp only [hA, callDone, State.callLeaves, if_pos hq, hdrop]; rfl
    · simp only [hA, callDone, State.callLeaves, if_neg hq]; rfl

/-- A call of a unit that looks at the counted state itself. -/
theorem issue_call (h : s.atCall cl e th c unit fn q args r) :
    issue (.pe cl e th) (callSpec unit fn args.length q) s (callBody (.pe cl e th) unit fn args.length q) =
      .next (s.callLeaves (s.counted (.pe cl e th)) cl e th unit fn args.length q (args.map BitVec.toNat) r
        (acceptCall unit (s.counted (.pe cl e th)) (callOf cl c fn args))) :=
  issue_call_in (f := id) (by simpa using h.2.1) (by simpa using h.2.2.1) h

theorem issue_call_done {t : State} {rs : List Nat} {o : Nat} {bs : List Byte} (h : s.atCall cl e th c unit fn (q + 1) args r)
    (hA : acceptCall unit (s.counted (.pe cl e th)) (callOf cl c fn args) = .done t rs o bs) :
    issue (.pe cl e th) (callSpec unit fn args.length (q + 1)) s (callBody (.pe cl e th) unit fn args.length (q + 1)) =
      .next (s.called t cl e th unit args.length rs (o, bs)) := by
  rw [issue_call h, hA]; rfl

theorem issue_call_fault {t : State} {sub : Nat} (h : s.atCall cl e th c unit fn (q + 1) args r)
    (hA : acceptCall unit (s.counted (.pe cl e th)) (callOf cl c fn args) = .fault t sub) :
    issue (.pe cl e th) (callSpec unit fn args.length (q + 1)) s (callBody (.pe cl e th) unit fn args.length (q + 1)) =
      .next (s.calledFault t cl e th unit args.length sub) := by
  rw [issue_call h, hA]; rfl

/-- A call that returns nothing: done, or a fault at its issue. -/
theorem issue_order_done {t : State} {rs : List Nat} {o : Nat} {bs : List Byte} (h : s.atCall cl e th c unit fn 0 args r)
    (hA : acceptCall unit (s.counted (.pe cl e th)) (callOf cl c fn args) = .done t rs o bs) :
    issue (.pe cl e th) (callSpec unit fn args.length 0) s (callBody (.pe cl e th) unit fn args.length 0) =
      .next (s.completed t (.pe cl e th) { s.arch (.pe cl e th) with ds := r }) := by
  rw [issue_call h, hA]; rfl

theorem issue_order_fault {t : State} {sub : Nat} (h : s.atCall cl e th c unit fn 0 args r)
    (hA : acceptCall unit (s.counted (.pe cl e th)) (callOf cl c fn args) = .fault t sub) :
    issue (.pe cl e th) (callSpec unit fn args.length 0) s (callBody (.pe cl e th) unit fn args.length 0) =
      .next (s.faults (.pe cl e th) 6 sub) := by
  rw [issue_call h, hA]; rfl

end

/-! ### Lengths and ranges (R459–R461) -/

section
variable {k : State} {ofs len m : Nat} {A : Accept}

theorem lenIn_iff : lenIn len m = true ↔ 1 ≤ len ∧ len ≤ m := by simp [lenIn]
theorem srcRange_iff : srcRange ofs len = true ↔ ofs + len ≤ 0x400 := by simp [srcRange]
theorem dstRange_iff : dstRange ofs len = true ↔
    (0xB8 ≤ ofs ∧ ofs + len ≤ 0x100) ∨ (0x200 ≤ ofs ∧ ofs + len ≤ 0x400) := by simp [dstRange]

theorem checked_ok {a b : Bool} (ha : a = true) (hb : b = true) : checked k a b A = A := by simp [checked, ha, hb]
theorem checked_len {a b : Bool} (ha : a = false) : checked k a b A = .fault k 5 := by simp [checked, ha]
theorem checked_range {a b : Bool} (ha : a = true) (hb : b = false) : checked k a b A = .fault k 1 := by simp [checked, ha, hb]

end

/-! ### The hash, CRC, checksum and timestamp helpers (R464–R468, R472) -/

section
variable {s : State} {cl e th c unit fn : Nat} {seed ofs ofb len : Word} {r : List Word} {i : Who → Instr}
  {f : Nat → List Byte → Nat}

/-- A helper of one byte range: its result, and its two argument faults. -/
theorem exec_ranged (hi : ∀ w t, exec (i w) t = issue w (callSpec unit fn 3 1) t (callBody w unit fn 3 1))
    (hf : ∀ k, acceptCall unit k (callOf cl c fn [seed, ofs, len]) = rangeFn k (callOf cl c fn [seed, ofs, len]) f)
    (h : s.atCall cl e th c unit fn 1 [seed, ofs, len] r) :
    (1 ≤ len.toNat ∧ len.toNat ≤ 256 ∧ ofs.toNat + len.toNat ≤ 0x400 → exec (i (.pe cl e th)) s = .next
      (s.called (s.counted (.pe cl e th)) cl e th unit 3
        [f seed.toNat ((List.range len.toNat).map fun j => (s.ctx c).frame.get (ofs.toNat + j))])) ∧
    (len = 0 ∨ 256 < len.toNat → exec (i (.pe cl e th)) s = .next
      (s.calledFault (s.counted (.pe cl e th)) cl e th unit 3 5)) ∧
    (1 ≤ len.toNat → len.toNat ≤ 256 → 0x400 < ofs.toNat + len.toNat → exec (i (.pe cl e th)) s = .next
      (s.calledFault (s.counted (.pe cl e th)) cl e th unit 3 1)) := by
  have hrange : ∀ k, acceptCall unit k (callOf cl c fn [seed, ofs, len]) =
      checked k (lenIn len.toNat 256) (srcRange ofs.toNat len.toNat) (.done k [f seed.toNat ((k.ctx c).bytes ofs.toNat len.toNat)]) :=
    hf
  rw [hi]
  refine ⟨fun ⟨hlo, hhi, hend⟩ => ?_, fun hlen => ?_, fun hlo hhi hend => ?_⟩
  · refine (issue_call_done h ((hrange _).trans (checked_ok (lenIn_iff.mpr ⟨hlo, hhi⟩) (srcRange_iff.mpr hend)))).trans ?_
    rw [State.counted_ctx]; rfl
  · refine issue_call_fault h ((hrange _).trans (checked_len ?_))
    rw [Bool.eq_false_iff, ne_eq, lenIn_iff]
    obtain rfl | hlen := hlen
    · simp
    · omega
  · refine issue_call_fault h ((hrange _).trans (checked_range (lenIn_iff.mpr ⟨hlo, hhi⟩) ?_))
    rw [Bool.eq_false_iff, ne_eq, srcRange_iff]
    omega

theorem symHash_eq (n : Nat) (a b : List Byte) :
    symHash n a b = hashFin (crc32cBytes n (if bytesLt b a then b ++ a else a ++ b)) := by
  unfold symHash crc32cBytes
  split <;> rw [List.foldl_append]

end

/-- Settles O15. -/
theorem hashChecksumAndTimeCalls : Obligations.HashChecksumAndTimeCalls := by
  refine ⟨fun cl e th c s seed ofs ofb len r => ⟨?ranged, fun h hlo hhi hofs hofb => ?symh, fun h => ?csumAdj⟩,
    fun cl e th c s r => ⟨fun h => ?now, fun h => ?ns64, fun h => ?age⟩⟩
  case ranged =>
    simp only [List.forall_mem_cons, List.not_mem_nil, false_imp_iff, implies_true, and_true]
    exact ⟨exec_ranged (i := Instr.h32m) (f := fun n bs => hashFin (crc32cBytes n bs)) (fun _ _ => rfl) fun _ => rfl,
      exec_ranged (i := Instr.hcallCrc32c) (f := crc32cBytes) (fun _ _ => rfl) fun _ => rfl,
      exec_ranged (i := Instr.hcallCrc16) (f := crc16Bytes) (fun _ _ => rfl) fun _ => rfl,
      exec_ranged (i := Instr.crc32) (f := crc32Bytes) (fun _ _ => rfl) fun _ => rfl,
      exec_ranged (i := Instr.csum) (f := csumRange) (fun _ _ => rfl) fun _ => rfl⟩
  case symh =>
    have hchecked := checked_ok (k := s.counted (.pe cl e th)) (lenIn_iff.mpr ⟨hlo, hhi⟩)
      (Bool.and_eq_true_iff.mpr ⟨srcRange_iff.mpr hofs, srcRange_iff.mpr hofb⟩)
      (A := .done (s.counted (.pe cl e th)) [symHash seed.toNat (((s.counted (.pe cl e th)).ctx c).bytes ofs.toNat len.toNat)
        (((s.counted (.pe cl e th)).ctx c).bytes ofb.toNat len.toNat)])
    refine (issue_call_done h hchecked).trans ?_
    rw [State.counted_ctx, symHash_eq]; rfl
  case csumAdj => exact issue_call_done h rfl
  case now =>
    refine (issue_call_done h (rs := [s.tb.sec % 2 ^ 32, s.tb.ns, s.tb.frac / 2 ^ 32]) ?_)
    change Accept.done _ [_, _, _] 0 [] = _
    rw [State.counted_tb]
  case ns64 =>
    refine (issue_call_done h (rs := [s.ns64 % 2 ^ 32, s.ns64 / 2 ^ 32]) ?_)
    change Accept.done _ [State.ns64 _ % 2 ^ 32, _] 0 [] = _
    rw [State.ns64, State.counted_tb]; rfl
  case age =>
    refine (issue_call_done h (rs := [s.ageOf (s.ctx c).ts80]) ?_)
    change Accept.done _ [State.ageOf _ _] 0 [] = _
    simp only [State.ageOf, State.counted_tb]
    rw [State.counted_ctx]; rfl

end Sys2Proof.Machine
end

section
/-! PROOFS. Buffer calls, header edits and the calls that end a context settled (R462, R469–R486). -/
namespace Sys2Proof.Machine

section
variable {s : State} {cl e th c unit fn q : Nat} {args r : List Word}

theorem State.fld_counted (w : Who) (a hi lo : Nat) (ha : a < 0x700000) : (s.counted w).fld a hi lo = s.fld a hi lo := by
  rw [State.fld, State.rd_counted w a ha, State.fld]

/-! ### Work buffers -/

theorem bpmAccess_counted (h boff len : Nat) : (s.counted (.pe cl e th)).bpmAccess h boff len = s.bpmAccess h boff len := by
  simp only [State.bpmAccess, State.handleBuf, State.poolCount, State.buf, State.bufAddr, State.pool, State.counted_bpm]
  rfl

theorem poolOwner_counted (hcl : cl < 16) :
    (s.counted (.pe cl e th)).fld (Reg.bpmClOwner cl) 5 0 = s.fld (Reg.bpmClOwner cl) 5 0 :=
  State.fld_counted _ _ _ _ (by simp only [Reg.bpmClOwner]; omega)

end

/-- Settles O16: each answer of the buffer pool manager as the call's result. -/
theorem bufferCalls : Obligations.BufferCalls := by
  intro cl e th c s x y ofs len r w k o hcl
  have ho : k.fld (Reg.bpmClOwner cl) 5 0 = o := poolOwner_counted hcl
  refine ⟨fun h => ?alloc, fun h => ?free, fun h => ?handover, fun h => ?share, fun h hlo hhi hdst => ?read,
    fun h hlo hhi hsrc => ?write⟩
  case alloc => rw [← ho]; exact issue_call_done h rfl
  case free => rw [← ho]; exact issue_call_done h rfl
  case handover => rw [← ho]; exact issue_call_done h rfl
  case share => rw [← ho]; exact issue_call_done h rfl
  case read =>
    have haccess : k.bpmAccess x.toNat y.toNat len.toNat = s.bpmAccess x.toNat y.toNat len.toNat := bpmAccess_counted _ _ _
    have hbytes : k.ldBytes (s.bpmAccess x.toNat y.toNat len.toNat).2 len.toNat =
        (List.range len.toNat).map fun i => s.mem.get ((s.bpmAccess x.toNat y.toNat len.toNat).2 + i) := by
      simp only [State.ldBytes, State.ldb, k, State.counted_mem]
    have hA : acceptCall 4 k (callOf cl c 4 [x, y, ofs, len]) = if (s.bpmAccess x.toNat y.toNat len.toNat).1 = 0
        then .done k [0] ofs.toNat ((List.range len.toNat).map fun i =>
          s.mem.get ((s.bpmAccess x.toNat y.toNat len.toNat).2 + i))
        else .done k [(s.bpmAccess x.toNat y.toNat len.toNat).1] := by
      refine (checked_ok (lenIn_iff.mpr ⟨hlo, hhi⟩) (dstRange_iff.mpr hdst)).trans ?_
      change (if (k.bpmAccess x.toNat y.toNat len.toNat).1 = 0 then
        Accept.done k [0] ofs.toNat (k.ldBytes (k.bpmAccess x.toNat y.toNat len.toNat).2 len.toNat)
        else .done k [(k.bpmAccess x.toNat y.toNat len.toNat).1]) = _
      rw [haccess, hbytes]
    split_ifs at hA ⊢ <;> exact issue_call_done h hA
  case write =>
    have haccess : k.bpmAccess x.toNat y.toNat len.toNat = s.bpmAccess x.toNat y.toNat len.toNat := bpmAccess_counted _ _ _
    have hA : acceptCall 4 k (callOf cl c 5 [x, y, ofs, len]) =
        .done (if (s.bpmAccess x.toNat y.toNat len.toNat).1 = 0
          then k.stBytes (s.bpmAccess x.toNat y.toNat len.toNat).2
            ((List.range len.toNat).map fun i => (s.ctx c).frame.get (ofs.toNat + i))
          else k) [(s.bpmAccess x.toNat y.toNat len.toNat).1] := by
      refine (checked_ok (lenIn_iff.mpr ⟨hlo, hhi⟩) (srcRange_iff.mpr hsrc)).trans ?_
      change Accept.done (if (k.bpmAccess x.toNat y.toNat len.toNat).1 = 0 then
        k.stBytes (k.bpmAccess x.toNat y.toNat len.toNat).2 ((k.ctx c).bytes ofs.toNat len.toNat) else k)
          [(k.bpmAccess x.toNat y.toNat len.toNat).1] 0 [] = _
      rw [haccess, show k.ctx c = s.ctx c from State.counted_ctx cl e th c]
      rfl
    refine (issue_call_done h hA).trans ?_
    split_ifs with hzero
    · rw [hzero]; rfl
    · rfl

/-! ### Header edits -/

section
variable {s : State} {cl e th c fn : Nat} {args r : List Word} {i : Who → Instr}

theorem Edit.ranged_iff {d : Edit} : d.ranged = true ↔ d.kind ≠ .insert := by simp [Edit.ranged]

/-- An order to the edit unit that queues an edit. -/
theorem exec_queued (d : Edit) (hi : ∀ w t, exec (i w) t = issue w (callSpec 7 fn args.length 0) t (callBody w 7 fn args.length 0))
    (hA : acceptCall 7 (s.counted (.pe cl e th)) (callOf cl c fn args) =
      queueEdit (s.counted (.pe cl e th)) (callOf cl c fn args) d)
    (h : s.atCall cl e th c 7 fn 0 args r) : exec (i (.pe cl e th)) s = .next
      (if (s.ctx c).avail < d.pos + (if d.ranged then d.len else 0) then s.faults (.pe cl e th) 6 2
       else if (s.ctx c).edits.any d.conflicts then s.faults (.pe cl e th) 6 3
       else if editsFit ((s.ctx c).edits ++ [d]) then
         s.completed ((s.counted (.pe cl e th)).setCtx c { s.ctx c with edits := (s.ctx c).edits ++ [d] }) (.pe cl e th)
           { s.arch (.pe cl e th) with ds := r }
       else s.faults (.pe cl e th) 6 4) := by
  have hA' := hA.trans (show _ = (if (s.ctx c).avail < d.pos + (if d.ranged then d.len else 0) then
        Accept.fault (s.counted (.pe cl e th)) 2
      else if (s.ctx c).edits.any d.conflicts then .fault (s.counted (.pe cl e th)) 3
      else if !editsFit ((s.ctx c).edits ++ [d]) then .fault (s.counted (.pe cl e th)) 4
      else .done ((s.counted (.pe cl e th)).setCtx c { s.ctx c with edits := (s.ctx c).edits ++ [d] }) []) by
    simp only [queueEdit, callOf, State.counted_ctx])
  rw [hi, issue_call h, hA']
  cases editsFit ((s.ctx c).edits ++ [d])
  · simp only [Bool.not_false, if_true, Bool.false_eq_true, if_false]
    split_ifs <;> rfl
  · simp only [Bool.not_true, if_true, Bool.false_eq_true, if_false]
    split_ifs <;> rfl

/-- An order to the edit unit that is always carried out. -/
theorem exec_ordered {x : Ctx} (hi : ∀ w t, exec (i w) t = issue w (callSpec 7 fn args.length 0) t (callBody w 7 fn args.length 0))
    (hA : acceptCall 7 (s.counted (.pe cl e th)) (callOf cl c fn args) = .done ((s.counted (.pe cl e th)).setCtx c x) [])
    (h : s.atCall cl e th c 7 fn 0 args r) : exec (i (.pe cl e th)) s = .next
      (s.completed ((s.counted (.pe cl e th)).setCtx c x) (.pe cl e th) { s.arch (.pe cl e th) with ds := r }) :=
  (hi _ _).trans (issue_order_done h hA)

end

/-- Settles O17. -/
theorem headerEdits : Obligations.HeaderEdits := by
  intro cl e th c s pos ofs len r w k x done bytes
  have hctx : k.ctx c = s.ctx c := State.counted_ctx cl e th c
  have hdata : ∀ (kind : EditKind) (fn : Nat), 1 ≤ len.toNat → len.toNat ≤ 64 → ofs.toNat + len.toNat ≤ 0x400 →
      dataEdit k (callOf cl c fn [pos, ofs, len]) kind = queueEdit k (callOf cl c fn [pos, ofs, len])
        { kind := kind, pos := pos.toNat, len := len.toNat, data := bytes } := by
    intro kind fn hlo hhi hend
    refine (checked_ok (lenIn_iff.mpr ⟨hlo, hhi⟩) (srcRange_iff.mpr hend)).trans ?_
    change queueEdit k _ { kind := kind, pos := pos.toNat, len := len.toNat, data := (k.ctx c).bytes ofs.toNat len.toNat } = _
    rw [hctx]; rfl
  refine ⟨?data, fun h hlo hhi => ?remove, fun h => ?stamp, fun h => ?siphon, fun h => ?culvert, fun h => ?clear⟩
  case data =>
    simp only [List.forall_mem_cons, List.not_mem_nil, false_imp_iff, implies_true, and_true]
    exact ⟨fun h hlo hhi hend => exec_queued (s := s) (cl := cl) (e := e) (th := th) (c := c) (i := .replace) (fn := 0) (args := [pos, ofs, len]) _ (fun _ _ => rfl)
        (hdata .replace 0 hlo hhi hend) h,
      fun h hlo hhi hend => exec_queued (s := s) (cl := cl) (e := e) (th := th) (c := c) (i := .editInsert) (fn := 1) (args := [pos, ofs, len]) _ (fun _ _ => rfl)
        (hdata .insert 1 hlo hhi hend) h⟩
  case remove =>
    exact exec_queued (i := .remove) (fn := 2) (args := [pos, len]) { kind := .remove, pos := pos.toNat, len := len.toNat } (fun _ _ => rfl)
      (checked_ok (lenIn_iff.mpr ⟨hlo, hhi⟩) rfl) h
  case stamp => exact exec_queued { kind := .stamp, pos := pos.toNat, len := 10 } (fun _ _ => rfl) rfl h
  case siphon =>
    refine exec_ordered (fun _ _ => rfl) ?_ h
    change Accept.done (k.setCtx c { k.ctx c with siphonEn := bitAt pos.toNat 4, siphon := pos.toNat % 16, siphonEdited := bitAt pos.toNat 5 }) [] 0 [] = _
    rw [hctx, bitAt_eq_testBit, bitAt_eq_testBit]; rfl
  case culvert =>
    refine exec_ordered (fun _ _ => rfl) ?_ h
    change Accept.done (k.setCtx c { k.ctx c with culvert := bitAt pos.toNat 0 }) [] 0 [] = _
    rw [hctx, bitAt_eq_testBit]; rfl
  case clear =>
    refine exec_ordered (fun _ _ => rfl) ?_ h
    change Accept.done (k.setCtx c { k.ctx c with edits := [] }) [] 0 [] = _
    rw [hctx]

/-! ### The ending calls -/

theorem State.portExists_counted {s : State} (w : Who) (p : Nat) : (s.counted w).portExists p = s.portExists p := by
  have hmode : ∀ g, (s.counted w).cageMode g = s.cageMode g := by
    intro g
    unfold State.cageMode
    split
    · exact State.fld_counted _ _ _ _ (by simp only [Reg.pgCtrl]; omega)
    · rfl
  simp only [State.portExists, hmode]

/-- Settles O18: which of the two answers each call gives. -/
theorem endingCalls : Obligations.EndingCalls := by
  intro cl e th c s p q r w k x ends drops tc
  have hctx : k.ctx c = s.ctx c := State.counted_ctx cl e th c
  have hends : ∀ (fn : Nat) (args : List Word) (n : Ending), endCtx k (callOf cl c fn args) n = .done (k.setCtx c { x with ending := n }) [] := by
    intro fn args n
    simp only [endCtx, callOf, hctx]; rfl
  have hdrops : ∀ (fn : Nat) (args : List Word) (n : Nat),
      dropCtx k (callOf cl c fn args) n = .done ((k.setCtx c { x with ending := .drop n }).spill n) [] := by
    intro fn args n
    simp only [dropCtx, callOf, hctx]; rfl
  have hport : k.portExists p.toNat = s.portExists p.toNat := State.portExists_counted w _
  refine ⟨fun h => ?emit, fun h => ?emitMc, fun h => issue_order_done h (hdrops _ _ _)⟩
  case emit =>
    have hA : acceptCall 7 k (callOf cl c 8 [p, q]) = if x.culvert then endCtx k (callOf cl c 8 [p, q]) (.culvert tc)
        else if p.toNat ≤ 133 ∧ q.toNat ≤ 7 ∧ s.portExists p.toNat = true then endCtx k (callOf cl c 8 [p, q]) (.unicast p.toNat q.toNat)
        else dropCtx k (callOf cl c 8 [p, q]) 7 := by
      change (if (k.ctx c).culvert then endCtx k _ (.culvert (k.ctx c).tcInForce)
        else if 133 < p.toNat ∨ 7 < q.toNat ∨ (!k.portExists p.toNat) = true then dropCtx k _ 7 else endCtx k _ (.unicast p.toNat q.toNat)) = _
      rw [hctx, hport]
      refine ite_congr rfl (fun _ => rfl) fun _ => ?_
      by_cases hvalid : p.toNat ≤ 133 ∧ q.toNat ≤ 7 ∧ s.portExists p.toNat = true
      · rw [if_pos hvalid, if_neg]
        rw [hvalid.2.2]
        simp only [Bool.not_true, Bool.false_eq_true, or_false]
        omega
      · rw [if_neg hvalid, if_pos]
        by_contra hno
        rw [not_or, not_or, not_lt, not_lt, Bool.not_eq_true', Bool.not_eq_false] at hno
        exact hvalid hno
    split_ifs at hA ⊢
    · exact issue_order_done h (hA.trans (hends _ _ _))
    · exact issue_order_done h (hA.trans (hends _ _ _))
    · exact issue_order_done h (hA.trans (hdrops _ _ _))
  case emitMc =>
    have hA : acceptCall 7 k (callOf cl c 9 [p, q]) = if x.culvert then endCtx k (callOf cl c 9 [p, q]) (.culvert tc)
        else if p.toNat ≤ 4095 ∧ q.toNat ≤ 3 then endCtx k (callOf cl c 9 [p, q]) (.multicast p.toNat q.toNat)
        else dropCtx k (callOf cl c 9 [p, q]) 7 := by
      change (if (k.ctx c).culvert then endCtx k _ (.culvert (k.ctx c).tcInForce)
        else if 4095 < p.toNat ∨ 3 < q.toNat then dropCtx k _ 7 else endCtx k _ (.multicast p.toNat q.toNat)) = _
      rw [hctx]
      refine ite_congr rfl (fun _ => rfl) fun _ => ?_
      by_cases hvalid : p.toNat ≤ 4095 ∧ q.toNat ≤ 3
      · rw [if_pos hvalid, if_neg (by omega)]
      · rw [if_neg hvalid, if_pos (by omega)]
    split_ifs at hA ⊢
    · exact issue_order_done h (hA.trans (hends _ _ _))
    · exact issue_order_done h (hA.trans (hends _ _ _))
    · exact issue_order_done h (hA.trans (hdrops _ _ _))

end Sys2Proof.Machine
end

section
/-! PROOFS. Results that reach their thread, and the re-lookup calls, settled (R449, R450, R471–R473). -/
namespace Sys2Proof.Machine

section
variable {s t : State} {cl e th : Nat}

/-- Holding an engine's REPX changes nothing else. -/
theorem State.holdRepx_eq : s.holdRepx (.pe cl e th) = { s with flume.repx := (s.holdRepx (.pe cl e th)).flume.repx } := by
  unfold State.holdRepx
  split
  · contradiction
  · split
    · rfl
    · rename_i heq _ _
      cases heq
      exact s.freeRepx_eq cl e th

@[simp] theorem State.thr_holdRepx (cl' e' th' : Nat) : (s.holdRepx (.pe cl e th)).thr cl' e' th' = s.thr cl' e' th' := by
  rw [State.holdRepx_eq]; rfl

/-- The issuing thread after an instruction: what the instruction made of it, with the registers it completes with. -/
theorem State.thr_completed (a : Arch) (j : Bool) (l : Option PendingLoad) (d : Bool) :
    (s.completed t (.pe cl e th) a j l d).thr cl e th = { t.thr cl e th with
      arch := completeArch (.pe cl e th) (s.arch (.pe cl e th)).pc { s := t, a := a, jump := j, load := l, deferred := d } } := by
  rw [State.completed, State.thr_holdRepx]
  exact t.thr_setThr cl e th _

theorem State.tickets_completed (a : Arch) (j : Bool) (l : Option PendingLoad) (d : Bool) :
    (s.completed t (.pe cl e th) a j l d).flume.tickets = t.flume.tickets := by
  rw [State.completed, State.holdRepx_eq]; rfl

theorem State.tables_completed (a : Arch) (j : Bool) (l : Option PendingLoad) (d : Bool) :
    (s.completed t (.pe cl e th) a j l d).tables = t.tables := by
  rw [State.completed, State.holdRepx_eq]; rfl

end

theorem endIteration_of_none {m : Nat} {a : Arch} (h : a.rep = none) : endIteration m a = a := by
  simp [endIteration, h]

/-- Settles O19. -/
theorem resultDelivery : Obligations.ResultDelivery := by
  intro cl e th c s k hwf hup hctx hlate hwait hwaiting
  have hexec : exec (.helperResult (.pe cl e th)) s = .next (s.deliverCall cl e th k) := by
    change execHelperResult (.pe cl e th) s = _
    simp [execHelperResult, hwf, hlate, hwait, occurs, hup, hwaiting]
  refine ⟨fun hfault hrep => ⟨_, hexec, ?_⟩, fun u f hfault => ?_⟩
  · have ht : s.deliverCall cl e th k = ((s.setCtx c ((s.ctx c).putBytes k.put.1 k.put.2)).setThr cl e th
        { s.thr cl e th with wait := none, arch := { (s.thr cl e th).arch with ds := k.results ++ (s.thr cl e th).arch.ds } }).holdRepx
          (.pe cl e th) := by
      simp only [State.deliverCall, hfault, hctx, Option.getD_some]
      rw [endIteration_of_none (by exact hrep)]
    have hctx' : (s.deliverCall cl e th k).ctx c = (s.ctx c).putBytes k.put.1 k.put.2 := by
      rw [ht, State.holdRepx_eq]
      exact (s.ctx_setCtx _ _ _).trans (if_pos rfl)
    have hthr : (s.deliverCall cl e th k).thr cl e th = { s.thr cl e th with
        wait := none, arch := { (s.thr cl e th).arch with ds := k.results ++ (s.thr cl e th).arch.ds } } := by
      rw [ht, State.thr_holdRepx, State.thr_setThr]
    refine ⟨by rw [hthr], by rw [hthr], fun i hi => ?_, fun y hy => ?_, ?_⟩
    · rw [hctx', List.getD_eq_getElem _ _ hi]
      exact get_putBytes _ _ _ _ hi
    · rw [hctx']
      exact get_putBytes_ne _ _ _ _ hy
    · rw [ht, State.holdRepx_eq]
      exact ⟨rfl, rfl, rfl, rfl⟩
  · rw [hexec]
    simp only [State.deliverCall, hfault]
    rfl

/-! ### Re-lookups -/

section
variable {s : State} {us : List ArrayUpset}

/-- `t` is `s` but for array words. -/
def State.OnlyArrays (s t : State) : Prop :=
  t = { s with tables.weirArr := t.tables.weirArr, tables.emtArr := t.tables.emtArr }

theorem State.OnlyArrays.trans {s t u : State} (h : s.OnlyArrays t) (k : t.OnlyArrays u) : s.OnlyArrays u := by
  unfold State.OnlyArrays at *; rw [k, h]

theorem onlyArrays_upset (s : State) (u : ArrayUpset) : s.OnlyArrays (s.upset u) := by
  unfold State.upset
  cases u.table <;> rfl

/-- Upsets change array words alone. -/
theorem State.upsets_eq (us : List ArrayUpset) : ∀ s : State, s.OnlyArrays (s.upsets us) := by
  induction us with
  | nil => intro s; rfl
  | cons u us ih => intro s; exact (onlyArrays_upset s u).trans (ih _)

@[simp] theorem State.upsets_thr (cl e th : Nat) : (s.upsets us).thr cl e th = s.thr cl e th := by rw [State.upsets_eq]; rfl
@[simp] theorem State.upsets_ctx (c : Nat) : (s.upsets us).ctx c = s.ctx c := by rw [State.upsets_eq]; rfl
@[simp] theorem State.upsets_rd (a : Nat) : (s.upsets us).rd a = s.rd a := by rw [State.upsets_eq]; rfl
@[simp] theorem State.upsets_weir : (s.upsets us).tables.weir = s.tables.weir := by rw [State.upsets_eq]
@[simp] theorem State.upsets_emt : (s.upsets us).tables.emt = s.tables.emt := by rw [State.upsets_eq]

end

section
variable {s : State} {cl e th c : Nat} {us : List ArrayUpset}

theorem weirKeyLen_seen : ((s.counted (.pe cl e th)).upsets us).weirKeyLen = s.weirKeyLen := by
  have hwide : ((s.counted (.pe cl e th)).upsets us).wide = s.wide := by
    rw [State.wide, State.bit, State.fld, State.upsets_rd, State.rd_counted _ _ (by decide)]; rfl
  rw [State.weirKeyLen, hwide, State.weirKeyLen]

theorem missAd_seen : ((s.counted (.pe cl e th)).upsets us).missAd = s.missAd := by
  have h : ∀ i < 4, ((s.counted (.pe cl e th)).upsets us).rd (Reg.weirMissAd i) = s.rd (Reg.weirMissAd i) := by
    intro i hi
    rw [State.upsets_rd, State.rd_counted _ _ (by simp only [Reg.weirMissAd]; omega)]
  simp only [State.missAd, List.range, List.range.loop, List.flatMap_cons, List.flatMap_nil, h 0 (by omega), h 1 (by omega),
    h 2 (by omega), h 3 (by omega)]

end

/-- The status word of a search's result (R471). -/
theorem searchStatus (o : SearchOut) : b2n o.hit.isSome + 2 * b2n (o.failed != []) =
    (if o.hit.isSome then 1 else 0) + (if o.failed = [] then 0 else 2) := by
  cases o.failed <;> cases o.hit <;> rfl

section
variable {s : State} {cl e th c fn q : Nat} {us : List ArrayUpset} {args r : List Word}

/-- A re-lookup call, with the state its lane sees. -/
theorem issue_relookup {unit : Nat} (h : s.atCall cl e th c unit fn q args r) :
    issue (.pe cl e th) (callSpec unit fn args.length q) s
      (fun t => callBody (.pe cl e th) unit fn args.length q (t.upsets us)) =
      .next (s.callLeaves ((s.counted (.pe cl e th)).upsets us) cl e th unit fn args.length q (args.map BitVec.toNat) r
        (acceptCall unit ((s.counted (.pe cl e th)).upsets us) (callOf cl c fn args))) :=
  issue_call_in (f := fun t => t.upsets us) (by simpa using h.2.1) (by simpa using h.2.2.1) h

theorem callLeaves_done {unit p : Nat} {args : List Nat} {k t : State} {rs : List Nat} {o : Nat} {bs : List Byte} :
    s.callLeaves k cl e th unit fn p (q + 1) args r (.done t rs o bs) = s.called t cl e th unit p rs (o, bs) := rfl

theorem callLeaves_fault {unit p sub : Nat} {args : List Nat} {k t : State} :
    s.callLeaves k cl e th unit fn p (q + 1) args r (.fault t sub) = s.calledFault t cl e th unit p sub := rfl

/-- What a call that waits for its lane leaves (R459, R472). -/
theorem callLeaves_wait {unit : Nat} {args : List Nat} {k : State} :
    ((s.callLeaves k cl e th unit fn args.length q args r (.wait none)).thr cl e th).wait = some
      { pc := (s.arch (.pe cl e th)).faultPc, unit := unit, waiting := some (fn, args), ticket := some k.ticket } ∧
    (s.callLeaves k cl e th unit fn args.length q args r (.wait none)).flume.tickets = k.flume.tickets + 1 ∧
    (s.callLeaves k cl e th unit fn args.length q args r (.wait none)).tables = k.tables := by
  refine ⟨?_, ?_, ?_⟩
  · simp only [State.callLeaves, State.thr_completed, State.leaveWaiting, State.setWait, State.thr_setThr]
  · rw [State.callLeaves, State.tickets_completed]; rfl
  · rw [State.callLeaves, State.tables_completed]; rfl

end

/-- Settles O20: the answer of the lane for each case of the call. -/
theorem relookupCalls : Obligations.RelookupCalls := by
  intro cl e th c s kofs adofs r us w k hus bytes
  have hctx : k.ctx c = s.ctx c := (State.upsets_ctx c).trans (State.counted_ctx cl e th c)
  have hlen : k.weirKeyLen = s.weirKeyLen := weirKeyLen_seen
  have hlanes : ∀ fn args, k.lanesCall (callOf cl c fn args) = k.laneServes cl k.ticket := fun _ _ => rfl
  have hwlook : ∀ t, issue w (callSpec 5 0 2 2) s (fun t => callBody w 5 0 2 2 (t.upsets us)) = t →
      exec (.wlook w us) s = t := fun t ht => (if_pos hus).trans ht
  have helook : ∀ t, issue w (callSpec 6 0 1 3) s (fun t => callBody w 6 0 1 3 (t.upsets us)) = t →
      exec (.elook w us) s = t := fun t ht => (if_pos hus).trans ht
  have hW : acceptCall 5 k (callOf cl c 0 [kofs, adofs]) =
      if !srcRange kofs.toNat s.weirKeyLen || !dstRange adofs.toNat 16 then .fault k 1
      else if !k.laneServes cl k.ticket then .wait none
      else
        let o := (k.count 40 [cl]).weirLookup cl (beNat (bytes kofs.toNat s.weirKeyLen))
        .done o.2 [(if o.1.hit.isSome then 1 else 0) + (if o.1.failed = [] then 0 else 2), o.1.hit.getD 0] adofs.toNat
          (leBytes (match o.1.hit with | some i => (s.tables.weir.get i).ad | none => s.missAd) 16) := by
    change acceptWlook k (callOf cl c 0 [kofs, adofs]) = _
    simp only [acceptWlook, callOf, hlen, hctx, searchStatus, missAd_seen, k, State.upsets_weir, State.counted_tables, w]
    rfl
  have hE : acceptCall 6 k (callOf cl c 0 [kofs]) =
      if !srcRange kofs.toNat 14 then .fault k 1
      else if !k.laneServes cl k.ticket then .wait none
      else
        let o := k.emtSearch cl (beNat (bytes kofs.toNat 14))
        .done ((k.count 40 [cl]).emtFalseHits cl o) [(if o.hit.isSome then 1 else 0) + (if o.failed = [] then 0 else 2),
          o.hit.getD 0, (match o.hit with | some i => (s.tables.emt.get i).data | none => 0)] := by
    change acceptElook k (callOf cl c 0 [kofs]) = _
    simp only [acceptElook, callOf, hctx, searchStatus, k, State.upsets_emt, State.counted_tables, w]
    rfl
  refine ⟨fun h hsrc hdst hserves => ?_, fun h hout => ?_, fun h hsrc hdst hserves => ?_, fun h hout => ?_,
    fun h hsrc hserves => ?_, fun h hsrc hserves => ?_⟩
  · have hrange : (!srcRange kofs.toNat s.weirKeyLen || !dstRange adofs.toNat 16) = false := by
      rw [srcRange_iff.mpr hsrc, dstRange_iff.mpr hdst]; rfl
    rw [hrange, hserves] at hW
    exact hwlook _ ((issue_relookup h).trans (by
      rw [hW]; exact congrArg _ callLeaves_done))
  · have hrange : (!srcRange kofs.toNat s.weirKeyLen || !dstRange adofs.toNat 16) = true := by
      rw [Bool.or_eq_true, Bool.not_eq_true', Bool.not_eq_true', Bool.eq_false_iff, Bool.eq_false_iff, ne_eq, ne_eq,
        srcRange_iff, dstRange_iff]
      omega
    rw [hrange] at hW
    exact hwlook _ ((issue_relookup h).trans (by
      rw [hW]; exact congrArg _ callLeaves_fault))
  · have hrange : (!srcRange kofs.toNat s.weirKeyLen || !dstRange adofs.toNat 16) = false := by
      rw [srcRange_iff.mpr hsrc, dstRange_iff.mpr hdst]; rfl
    rw [hrange, hserves] at hW
    obtain ⟨hwait, htickets, htables⟩ := callLeaves_wait (s := s) (cl := cl) (e := e) (th := th) (fn := 0) (q := 2) (unit := 5)
      (args := [kofs.toNat, adofs.toNat]) (r := r) (k := k)
    exact ⟨_, _, hwlook _ ((issue_relookup h).trans (by rw [hW]; rfl)), hwait, rfl, rfl, htickets, htables⟩
  · have hrange : srcRange kofs.toNat 14 = false := by rw [Bool.eq_false_iff, ne_eq, srcRange_iff]; omega
    rw [hrange] at hE
    exact helook _ ((issue_relookup h).trans (by rw [hE]; exact congrArg _ callLeaves_fault))
  · rw [srcRange_iff.mpr hsrc, hserves] at hE
    exact helook _ ((issue_relookup h).trans (by rw [hE]; exact congrArg _ callLeaves_done))
  · rw [srcRange_iff.mpr hsrc, hserves] at hE
    obtain ⟨hwait, htickets, htables⟩ := callLeaves_wait (s := s) (cl := cl) (e := e) (th := th) (fn := 0) (q := 3) (unit := 6)
      (args := [kofs.toNat]) (r := r) (k := k)
    exact ⟨_, _, helook _ ((issue_relookup h).trans (by rw [hE]; rfl)), hwait, rfl, rfl, htickets, htables⟩

end Sys2Proof.Machine
end

section
/-! PROOFS. The form of a step (log entry 1): a clock edge may write memory without a sample being due. -/
namespace Sys2Proof.Machine

/-- The running core 10 µs into an orderly stop (R75), no queue sampled: an EXPORT of a valid record is committed and
waits to be applied (R552), and the export ring of 1024 entries at address 0x30_0000_0000 takes requests (R557). -/
def settlingExport : State :=
  let s : State := { State.reset with
    boot.core := .running, boot.stop := .orderly, tb.run := 10000 * nsUnit
    flow.insts := SMap.set {} 0 { live := true, resolved := some true }
    flow.logs := SMap.set {} 0 [{ fn := 15, x := 1, results := [0] }]
    flow.lines := SMap.set {} 0 { have_ := 1, data := SMap.set {} 0 0x80 } }
  (s.wr Reg.fleExpCtrl 0x80000000).wr Reg.fleExpBaseHi 0x30

theorem sampledQueues_settlingExport : settlingExport.sampledQueues = [] := by decide

/-- The edge ends the stop's first 10 µs, so the entry is applied: its cause, 1, stands in the ring's first entry. -/
theorem mem_tick_settlingExport : (tick settlingExport).mem.get 0x3000000009 = 1 := by decide +kernel

/-- Refutes O56: the edge at which an orderly stop settles applies the committed entries (R75, R552), and an EXPORT among
them writes its request to the export ring in memory, with no queue sampled. -/
theorem not_stepRunsFront : ¬ Obligations.StepRunsFront := by
  unfold Obligations.StepRunsFront
  intro h
  obtain ⟨t, hstep, -, -, hmem, -⟩ := (h settlingExport).2 rfl
  have ht : tick settlingExport = t := Host.Outcome.next.inj hstep
  have hsame := congrArg (Mem.get · 0x3000000009) (hmem sampledQueues_settlingExport)
  rw [← ht, mem_tick_settlingExport] at hsame
  exact absurd hsame (by decide)

end Sys2Proof.Machine
end

section
/-! PROOFS. Lookup results (R287–R302): a parse result's profile number is not bounded, and neither is the register its
lookup reads. -/
namespace Sys2Proof.Machine

/-- A parse result whose profile number lies past the 256 profiles: its `WEIR.PROF_A` is at the address of `PMC.OVF_LO`. -/
def farParse : ParseResult := { pcls := 343809 }

theorem weirProfA_farParse : Reg.weirProfA farParse.pcls = Reg.pmcOvfLo := rfl

/-- The running core with that result waiting in group 0, a Weir entry that every key matches, and performance counter 31
one short of its wrap, counting the lookups of lane 0 (event 40). -/
def farLookup : State :=
  { State.reset with
    boot.core := .running
    hdg.out := SMap.set {} 0 [farParse]
    tables.weir := SMap.set {} 0 { valid := true }
    regs := SMap.set {} (Reg.pmcSel 31) 0x80000028
    ctrs := SMap.set {} (Reg.pmcCnt 31) (2 ^ 48 - 1) }

/-- What a step hands to Dispatch: which results hit a Weir entry. -/
def weirHitsOf : Out → List Bool
  | .next t => t.tables.out.map LookupResult.weirHit
  | _ => []

/-- Counting the lookup sets bit 31 of `PMC.OVF_LO`, which the lookup then reads as the profile's WEIR bit. -/
theorem weirHitsOf_farLookup : weirHitsOf (exec (.lookup 0 0 [] none) farLookup) = [true] := by decide +kernel

/-- Refutes O22: the lookup of `farParse` reads its profile after event 40 is counted, where that count has set the bit
that the profile before the step, 0, does not have; a Weir lookup is made and hits. -/
theorem not_lookupResults : ¬ Obligations.LookupResults := by
  unfold Obligations.LookupResults
  rintro ⟨h, -⟩
  have hprof : farLookup.rd (Reg.weirProfA farParse.pcls) = 0 := by decide +kernel
  have hmiss : farLookup.missAd = 0 := by decide +kernel
  have hlook := h 0 0 farLookup farParse [] none none none (by decide) (by decide) (by decide) (by decide) (by decide +kernel)
    (by decide +kernel) (by decide) (by decide) (by decide) (by decide)
  simp only [hprof, hmiss] at hlook
  obtain ⟨t, hstep, -, hout, -⟩ := hlook (Or.inl (by decide)) (Or.inl (by decide)) (Or.inl (by decide))
  have hhits := weirHitsOf_farLookup
  rw [hstep] at hhits
  change t.tables.out.map LookupResult.weirHit = [true] at hhits
  rw [hout] at hhits
  exact absurd hhits (by decide)

end Sys2Proof.Machine
end

section
/-! PROOFS. The steps of the maintenance walks settled (R304–R310). -/
namespace Sys2Proof.Machine

section
variable {s : State} {us : List ArrayUpset} {r : Nat}

theorem exec_walkStep_weir (hup : s.coreUp = true) (hus : us.all ArrayUpset.wf = true) (hr : r < 10) :
    exec (.walkStep .weir r us none) s = .next ((s.upsets us).weirWalk r) := by
  change execWalkStep .weir r us none s = _
  simp only [execWalkStep, TableSel.hasReplica, hr, decide_true, hus, Option.all_none, Bool.and_true, whenWf, if_true, occurs, hup]

theorem exec_walkStep_emt (hup : s.coreUp = true) (hus : us.all ArrayUpset.wf = true) (hr : r < 20) :
    exec (.walkStep .emt r us none) s = .next ((s.upsets us).emtWalk r) := by
  change execWalkStep .emt r us none s = _
  simp only [execWalkStep, TableSel.hasReplica, hr, decide_true, hus, Option.all_none, Bool.and_true, whenWf, if_true, occurs, hup]

theorem exec_walkStep_error {table : TableSel} {e : StoreError} (hup : s.coreUp = true) (hus : us.all ArrayUpset.wf = true)
    (hr : table.hasReplica r = true) (he : e.store = table.copies) :
    exec (.walkStep table r us (some e)) s = .next (s.storeFault e.store 0 r e.word e.syndrome) := by
  change execWalkStep table r us (some e) s = _
  simp only [execWalkStep, hr, hus, Option.all_some, he, beq_self_eq_true, Bool.and_true, whenWf, if_true, occurs, hup]

theorem weirSize_upsets : (s.upsets us).weirSize = s.weirSize := by rw [State.upsets_eq]; rfl
theorem hitClock_upsets : (s.upsets us).hitClock = s.hitClock := by rw [State.upsets_eq]; rfl
theorem lastHit_upsets : (s.upsets us).tables.lastHit = s.tables.lastHit := by rw [State.upsets_eq]
theorem walk_upsets : (s.upsets us).tables.walk = s.tables.walk := by rw [State.upsets_eq]
theorem regs_upsets : (s.upsets us).regs = s.regs := by rw [State.upsets_eq]
theorem mem_upsets : (s.upsets us).mem = s.mem := by rw [State.upsets_eq]
theorem ctr_upsets (c : Nat) : (s.upsets us).ctr c = s.ctr c := by rw [State.upsets_eq]; rfl

/-- A last-hit time that a walk leaves, for a time kept modulo 2^32 (R310). -/
theorem clampHit_of_lt {now t : Nat} (ht : t < 2 ^ 32) : clampHit now t =
    if 2 ^ 30 < (now + 2 ^ 32 - t) % 2 ^ 32 ∧ (now + 2 ^ 32 - t) % 2 ^ 32 < 2 ^ 31 then (now + 2 ^ 32 - 2 ^ 30) % 2 ^ 32 else t := by
  simp only [clampHit, Nat.mod_eq_of_lt ht]

/-- A step of a walk, with the position it goes on to and the last-hit time it leaves at `k`. -/
def State.emtStepped (s : State) (g k next hit : Nat) : State :=
  let t := { s with tables.walk := s.tables.walk.set (100 + g) next, tables.lastHit := s.tables.lastHit.set k hit }
  if (s.tables.emtArr.get k).isSome then State.bump { t with tables.emtArr := t.tables.emtArr.set k none } (Reg.emtCnt g 6) else t

theorem emtWalk_eq (g : Nat) : s.emtWalk g = s.emtStepped g (g * 65536 + s.tables.walk.get (100 + g))
    ((s.tables.walk.get (100 + g) + 1) % 65536)
    (clampHit s.hitClock (s.tables.lastHit.get (g * 65536 + s.tables.walk.get (100 + g)))) := rfl

section
variable (g k next hit : Nat)

/-- A walk leaves no word at its position that differs from its copy. -/
theorem emtArr_emtStepped (j : Nat) :
    (s.emtStepped g k next hit).tables.emtArr.get j = if j = k then none else s.tables.emtArr.get j := by
  by_cases hword : (s.tables.emtArr.get k).isSome = true
  · rw [State.emtStepped, if_pos hword]; exact SMap.get_set ..
  · rw [State.emtStepped, if_neg hword]
    by_cases hj : j = k
    · rw [if_pos hj, hj]; exact Option.not_isSome_iff_eq_none.mp hword
    · rw [if_neg hj]

theorem walk_emtStepped : (s.emtStepped g k next hit).tables.walk.get (100 + g) = next := by
  have hset := (SMap.get_set s.tables.walk (k := 100 + g) (v := next) (100 + g)).trans (if_pos rfl)
  unfold State.emtStepped; dsimp only; split <;> exact hset

theorem lastHit_emtStepped (j : Nat) :
    (s.emtStepped g k next hit).tables.lastHit.get j = if j = k then hit else s.tables.lastHit.get j := by
  unfold State.emtStepped; dsimp only; split <;> exact SMap.get_set ..

theorem emtStepped_same : (s.emtStepped g k next hit).tables.emt = s.tables.emt ∧
    (s.emtStepped g k next hit).regs = s.regs ∧ (s.emtStepped g k next hit).mem = s.mem := by
  unfold State.emtStepped; dsimp only; split <;> exact ⟨rfl, rfl, rfl⟩

theorem ctr_emtStepped : (s.emtStepped g k next hit).ctr (Reg.emtCnt g 6) =
    if (s.tables.emtArr.get k).isSome then (s.ctr (Reg.emtCnt g 6) + 1) % 2 ^ 64 else s.ctr (Reg.emtCnt g 6) := by
  unfold State.emtStepped; dsimp only
  split
  · exact (State.ctr_bump ..).trans (if_pos rfl)
  · rfl

end
end

/-- Settles O23: the walk's next entry, its repair and its last-hit time; an uncorrectable copy stops the module. -/
theorem walkSteps : Obligations.WalkSteps := by
  intro r us s hup hus
  generalize hseen : s.upsets us = u
  refine ⟨fun hr => ?weir, fun hr => ?emt, fun table e hr he => exec_walkStep_error hup hus hr he⟩
  case weir =>
    rw [exec_walkStep_weir hup hus hr, State.weirWalk, weirSize_upsets, hseen]
    dsimp only
    split <;> rfl
  case emt =>
    have hwalk : u.tables.walk = s.tables.walk := by rw [← hseen, walk_upsets]
    have hlast : u.tables.lastHit = s.tables.lastHit := by rw [← hseen, lastHit_upsets]
    have hclock : u.hitClock = s.hitClock := by rw [← hseen, hitClock_upsets]
    have hstep := exec_walkStep_emt hup hus hr
    rw [hseen, emtWalk_eq, hwalk, hlast, hclock] at hstep
    dsimp only
    generalize hnext : (s.tables.walk.get (100 + r) + 1) % 65536 = next at *
    generalize r * 65536 + s.tables.walk.get (100 + r) = k at *
    generalize hhit : clampHit s.hitClock (s.tables.lastHit.get k) = hit at *
    obtain ⟨hemt, hregs, hmem⟩ := emtStepped_same (s := u) r k next hit
    refine ⟨_, hstep, walk_emtStepped .., ?_, ?_, fun j hj => ?_, fun hlt => ?_, fun j hj => ?_, ?_, ?_, ?_⟩
    · rw [hemt, ← hseen, State.upsets_emt]
    · rw [emtArr_emtStepped, if_pos rfl]
    · rw [emtArr_emtStepped, if_neg hj]
    · rw [lastHit_emtStepped, if_pos rfl, ← hhit, clampHit_of_lt hlt]
    · rw [lastHit_emtStepped, if_neg hj, hlast]
    · rw [hregs, ← hseen, regs_upsets]
    · rw [hmem, ← hseen, mem_upsets]
    · rw [ctr_emtStepped, ← hseen, ctr_upsets]

end Sys2Proof.Machine
end

section
/-! PROOFS. Command rows and command results (R169, R173, R174): what reaches a register, and the word a command leaves. -/
namespace Sys2Proof.Machine

section
variable {s t : State} {acc a b : Nat} {l : List Nat}

/-! ### Rows that are the write of one register -/

theorem regCmd_reaches (h : s.reaches acc a) (f : State → State) : regCmd acc a f s = f s := by
  obtain ⟨-, hheld, hreach⟩ := h
  simp [regCmd, hheld, hreach]

theorem writeRow_reaches {wf g : Bool} (h : s.reaches acc a) (hwf : wf = true) (hg : g = true) (f : State → State) :
    writeRow wf acc a g f s = .next (f s) := by
  rw [writeRow, hwf, hg, regCmd_reaches h]; rfl

/-! ### Registers other than the listed ones -/

theorem State.regsBut.refl : s.regsBut s l := fun _ _ => rfl

theorem State.regsBut.of_regs (h : s.regsBut t l) {u : State} (hu : u.regs = t.regs) : s.regsBut u l := fun c hc => by
  rw [← h c hc, State.rd, State.rd, hu]

theorem State.regsBut.wr (h : s.regsBut t l) {v : Word} (ha : a ∈ l) : s.regsBut (t.wr a v) l := fun c hc => by
  rw [State.rd_wr, if_neg (ne_of_mem_of_not_mem ha hc).symm, h c hc]

theorem State.regsBut.setFld (h : s.regsBut t l) {hi lo v : Nat} (ha : a ∈ l) : s.regsBut (t.setFld a hi lo v) l :=
  h.wr ha

theorem State.regsBut.setBit (h : s.regsBut t l) {i : Nat} {v : Bool} (ha : a ∈ l) : s.regsBut (t.setBit a i v) l := h.wr ha

theorem State.regsBut.accept (h : s.regsBut t l) (ha : a ∈ l) : s.regsBut (t.cmdAccept a) l := h.setFld ha
theorem State.regsBut.done (h : s.regsBut t l) {v : Nat} (ha : a ∈ l) : s.regsBut (t.cmdDone a v) l := h.wr ha

/-- `t` is `s` but for registers. -/
def State.RegsOnly (s t : State) : Prop := t = { s with regs := t.regs }

theorem State.RegsOnly.refl : s.RegsOnly s := rfl
theorem State.RegsOnly.trans {u : State} (h : s.RegsOnly t) (k : t.RegsOnly u) : s.RegsOnly u := by
  unfold State.RegsOnly at *; rw [k, h]
theorem regsOnly_wr (v : Word) : s.RegsOnly (s.wr a v) := rfl
theorem State.RegsOnly.wr (h : s.RegsOnly t) {v : Word} : s.RegsOnly (t.wr a v) := h.trans (regsOnly_wr v)
theorem State.RegsOnly.setFld (h : s.RegsOnly t) {hi lo v : Nat} : s.RegsOnly (t.setFld a hi lo v) := h.wr
theorem State.RegsOnly.setBit (h : s.RegsOnly t) {i : Nat} {v : Bool} : s.RegsOnly (t.setBit a i v) := h.wr
theorem State.RegsOnly.accept (h : s.RegsOnly t) : s.RegsOnly (t.cmdAccept a) := h.wr
theorem State.RegsOnly.done (h : s.RegsOnly t) {v : Nat} : s.RegsOnly (t.cmdDone a v) := h.wr
theorem State.RegsOnly.freeCtr {u : State} {f : Nat} (h : s.RegsOnly u) (k : State.RegsOnly { u with freeCtr := f } t) :
    t = { s with regs := t.regs, freeCtr := f } := by
  unfold State.RegsOnly at *; rw [k, h]
theorem State.RegsOnly.tables_eq (h : s.RegsOnly t) : t.tables = s.tables := by rw [h]

/-! ### Command results -/

theorem State.fld_of_regs {hi lo : Nat} (h : t.regs = s.regs) : t.fld a hi lo = s.fld a hi lo := by
  rw [State.fld, State.rd, h]; rfl

theorem bitsOf_head {n hi lo k : Nat} (h : lo ≤ hi) (hn : bitsOf n hi lo = k) : bitsOf n lo lo = k % 2 := by
  have hpow : 2 ∣ 2 ^ (hi + 1 - lo) := dvd_pow_self 2 (by omega)
  simp only [bitsOf] at *
  rw [← hn, Nat.mod_mod_of_dvd _ hpow, show lo + 1 - lo = 1 by omega, Nat.pow_one]

theorem fld_cmdAccept : (s.cmdAccept a).fld a 29 29 = 0 :=
  bitsOf_head (hi := 31) (by decide) (State.fld_setFld_same (s := s) a 31 29 2 (by decide) (by decide))

theorem rd_cmdDone {v : Nat} (ht : t.fld a 29 29 = 0) (hv : v < 2 ^ 29) : (t.cmdDone a v).rd a = resultWord v := by
  rw [State.cmdDone, State.rd_wr, if_pos rfl, ht, Nat.zero_mul, Nat.add_zero, Nat.mod_eq_of_lt hv, resultWord]

end

end Sys2Proof.Machine
end

section
/-! PROOFS. The WEIR commands settled (R299, R323–R327). -/
namespace Sys2Proof.Machine

/-! ### Searches of a sound array -/

theorem verifiedSearch_self (m : List Nat) : verifiedSearch m m = { hit := m.head?, failed := [], fhMiss := false } := by
  have hfailed : (verifiedSearch m m).failed = [] := by
    rw [verifiedSearch_failed, List.takeWhile_eq_nil_iff]
    intro h
    simp
  have hhit := verifiedSearch_self_hit m
  have hmiss : (verifiedSearch m m).fhMiss = ((verifiedSearch m m).failed.length == 4) := rfl
  rw [hfailed] at hmiss
  generalize verifiedSearch m m = o at *
  cases o
  simp_all

section
variable {s t : State} {r lane key i acc a : Nat} {v : Word}

theorem weirSearch_of_sound (hwf : s.tables.weir.wf = true) (hsound : upsetWords s.tables.weirArr r = []) :
    s.weirSearch r key = { hit := (s.weirMatches key).head?, failed := [], fhMiss := false } := by
  rw [State.weirSearch, hsound, arraySeen_nil (State.pairwise_weirMatches hwf key), verifiedSearch_self]

theorem emtSearch_of_sound (hwf : s.tables.emt.wf = true) (hsound : upsetWords s.tables.emtArr r = []) :
    s.emtSearch r key = { hit := (s.emtMatches key).head?, failed := [], fhMiss := false } := by
  rw [State.emtSearch, hsound, arraySeen_nil (State.pairwise_emtMatches hwf key), verifiedSearch_self]

/-! ### Words in registers -/

theorem rd_setWords_other {f : Nat → Nat} {n w : Nat} (ha : ∀ k < n, a ≠ f k) : (s.setWords f n w).rd a = s.rd a := by
  unfold State.setWords
  induction n with
  | zero => rfl
  | succ n ih =>
    rw [List.range_succ, List.foldl_append, List.foldl_cons, List.foldl_nil, State.rd_wr, if_neg (ha n (by omega)),
      ih fun k hk => ha k (by omega)]

theorem rd_setWords {f : Nat → Nat} {n w k : Nat} (hf : ∀ i < n, ∀ j < n, f i = f j → i = j) (hk : k < n) :
    (s.setWords f n w).rd (f k) = BitVec.ofNat 32 (w / 2 ^ (32 * k)) := by
  unfold State.setWords
  induction n with
  | zero => omega
  | succ n ih =>
    rw [List.range_succ, List.foldl_append, List.foldl_cons, List.foldl_nil, State.rd_wr]
    rcases Nat.lt_succ_iff_lt_or_eq.mp hk with hlt | rfl
    · rw [if_neg fun h => absurd (hf k hk n (by omega) h) (by omega), ih (fun i hi j hj => hf i (by omega) j (by omega)) hlt]
    · rw [if_pos rfl]

theorem State.RegsOnly.setWords (h : s.RegsOnly t) (f : Nat → Nat) (n w : Nat) : s.RegsOnly (t.setWords f n w) := by
  unfold State.setWords
  induction n with
  | zero => exact h
  | succ n ih =>
    rw [List.range_succ, List.foldl_append, List.foldl_cons, List.foldl_nil]
    exact ih.wr

/-- A word of the number that `m` words keep. -/
theorem word_of_mod (x : Nat) {k m : Nat} (hk : k < m) : x % 2 ^ (32 * m) / 2 ^ (32 * k) % 2 ^ 32 = x / 2 ^ (32 * k) % 2 ^ 32 := by
  obtain ⟨d, rfl⟩ : ∃ d, m = k + (1 + d) := ⟨m - k - 1, by omega⟩
  rw [Nat.mul_add, Nat.pow_add, Nat.mod_mul_right_div_self, Nat.mod_mod_of_dvd _ (pow_dvd_pow 2 (by omega))]

theorem word_of_mod_above (x : Nat) {k m : Nat} (hk : m ≤ k) : x % 2 ^ (32 * m) / 2 ^ (32 * k) = 0 :=
  Nat.div_eq_of_lt ((Nat.mod_lt _ (Nat.two_pow_pos _)).trans_le (Nat.pow_le_pow_right (by decide) (by omega)))

/-! ### An entry written in every replica -/

/-- Array words rewritten from their copies. -/
theorem foldl_weirArr_none (ks : List Nat) : ∀ t : State,
    ks.foldl (fun (t : State) k => { t with tables.weirArr := t.tables.weirArr.set k none }) t =
      { t with tables.weirArr := ks.foldl (fun m k => m.set k none) t.tables.weirArr } := by
  induction ks with
  | nil => exact fun t => rfl
  | cons k ks ih => exact fun t => (ih _).trans rfl

theorem get_foldl_set {V : Type} [DecidableEq V] [Inhabited V] (ks : List Nat) (v : V) (j : Nat) : ∀ m : SMap V,
    (ks.foldl (fun m k => m.set k v) m).get j = if j ∈ ks then v else m.get j := by
  induction ks with
  | nil => intro m; rfl
  | cons k ks ih =>
    intro m
    rw [List.foldl_cons, ih, SMap.get_set]
    by_cases hj : j = k <;> by_cases hjs : j ∈ ks <;> simp [hj, hjs]

theorem weirWritten_eq (e : WeirEntry) : s.weirWritten i e =
    { s with tables.weir := s.tables.weir.set i e
             tables.weirArr := ((List.range 10).map fun r => r * 65536 + i).foldl (fun m k => m.set k none) s.tables.weirArr } := by
  rw [State.weirWritten]
  exact (List.foldl_map ..).symm.trans (foldl_weirArr_none _ _)

/-! ### The commands -/

/-- The entry in the staging registers (R324). -/
def State.stagedEntry (s : State) : WeirEntry :=
  { valid := s.bit Reg.weirWrFlags 0
    val := s.wordsOf Reg.weirWrVal s.weirWords
    mask := s.wordsOf Reg.weirWrMask s.weirWords
    ad := s.wordsOf Reg.weirWrAd 4 }

section
variable (hbusy : s.bit Reg.weirResult 30 = false)
include hbusy

theorem writeWeirCmd_write (hop : Wbits v 3 0 = 1) (hi : Wbits v 18 4 < s.weirSize) :
    writeWeirCmd s v = (s.weirWritten (Wbits v 18 4) s.stagedEntry).tableDone Reg.weirResult 0 (some (Wbits v 18 4)) := by
  simp [writeWeirCmd, State.stagedEntry, State.cmdBusy, hbusy, hop, Nat.not_le.mpr hi]

theorem writeWeirCmd_invalidate (hop : Wbits v 3 0 = 2) (hi : Wbits v 18 4 < s.weirSize) :
    writeWeirCmd s v = (s.weirWritten (Wbits v 18 4) { s.tables.weir.get (Wbits v 18 4) with valid := false }).tableDone
      Reg.weirResult 0 (some (Wbits v 18 4)) := by
  simp [writeWeirCmd, State.cmdBusy, hbusy, hop, Nat.not_le.mpr hi]

/-- The registers that show an entry (R324). -/
def State.weirShown (s : State) (e : WeirEntry) : State :=
  (((s.setWords Reg.weirRdVal 20 (e.val % 2 ^ (32 * s.weirWords))).setWords Reg.weirRdMask 20
    (e.mask % 2 ^ (32 * s.weirWords))).setWords Reg.weirRdAd 4 e.ad).wr Reg.weirRdFlags (BitVec.ofNat 32 (b2n e.valid))

theorem writeWeirCmd_read (hop : Wbits v 3 0 = 3) (hi : Wbits v 18 4 < s.weirSize) (hr : Wbits v 27 24 < 10) :
    writeWeirCmd s v = (s.weirShown (s.tables.weir.get (Wbits v 18 4))).tableDone Reg.weirResult 0 (some (Wbits v 18 4)) := by
  simp [writeWeirCmd, State.cmdBusy, hbusy, hop, Nat.not_le.mpr hi, Nat.not_le.mpr hr, State.weirShown]

theorem writeWeirCmd_search (hop : Wbits v 3 0 = 4) (hr : Wbits v 27 24 < 10) :
    writeWeirCmd s v = s.weirSearchCmd (Wbits v 27 24) (s.wordsOf Reg.weirWrVal s.weirWords) := by
  simp [writeWeirCmd, State.cmdBusy, hbusy, hop, Nat.not_le.mpr hr]

end

/-- A command's result word where it ends with an entry. -/
theorem rd_tableDone {code : Nat} (hv : code * 2 ^ 25 + i < 2 ^ 29) :
    (s.tableDone a code (some i)).rd a = resultWord (code * 2 ^ 25 + i) := rd_cmdDone fld_cmdAccept hv

theorem State.RegsOnly.tableDone (h : s.RegsOnly t) {code : Nat} : s.RegsOnly (t.tableDone a code (some i)) := h.accept.done

theorem regsBut_tableDone {code : Nat} {l : List Nat} (h : s.regsBut t l) (ha : a ∈ l) :
    s.regsBut (t.tableDone a code (some i)) l := (h.accept ha).done ha

theorem weirSize_le : s.weirSize ≤ 2 ^ 15 := by unfold State.weirSize; split <;> decide

/-- What a command that writes an entry leaves. -/
theorem tableDone_weirWritten (e : WeirEntry) (hi : i < 2 ^ 15) :
    let t := (s.weirWritten i e).tableDone Reg.weirResult 0 (some i)
    t = { s with regs := t.regs, tables.weir := t.tables.weir, tables.weirArr := t.tables.weirArr } ∧
    ((∀ r < 10, t.tables.weirArr.get (r * 65536 + i) = none) ∧
      ∀ j, (∀ r < 10, j ≠ r * 65536 + i) → t.tables.weirArr.get j = s.tables.weirArr.get j) ∧
    t.tables.weir.get i = e ∧ (∀ j, j ≠ i → t.tables.weir.get j = s.tables.weir.get j) ∧
    t.rd Reg.weirResult = resultWord i ∧ s.regsBut t [Reg.weirResult] := by
  have htables : ((s.weirWritten i e).tableDone Reg.weirResult 0 (some i)).tables = (s.weirWritten i e).tables :=
    State.RegsOnly.refl.tableDone.tables_eq
  have hregs : (s.weirWritten i e).regs = s.regs := by rw [weirWritten_eq]
  have hresult := rd_tableDone (s := s.weirWritten i e) (a := Reg.weirResult) (code := 0) (i := i) (by omega)
  rw [Nat.zero_mul, Nat.zero_add] at hresult
  refine ⟨?_, ⟨fun r hr => ?_, fun j hj => ?_⟩, ?_, fun j hj => ?_, hresult, ?_⟩
  · have h := State.RegsOnly.refl (s := s.weirWritten i e) |>.tableDone (a := Reg.weirResult) (code := 0) (i := i)
    rw [h, weirWritten_eq]
  · rw [htables, weirWritten_eq]
    exact (get_foldl_set _ _ _ _).trans (if_pos (List.mem_map.mpr ⟨r, List.mem_range.mpr hr, rfl⟩))
  · rw [htables, weirWritten_eq]
    refine (get_foldl_set _ _ _ _).trans (if_neg fun h => ?_)
    obtain ⟨r, hr, hjr⟩ := List.mem_map.mp h
    exact hj r (List.mem_range.mp hr) hjr.symm
  · rw [htables, weirWritten_eq]; exact (SMap.get_set ..).trans (if_pos rfl)
  · rw [htables, weirWritten_eq]; exact (SMap.get_set ..).trans (if_neg hj)
  · have h := regsBut_tableDone (code := 0) (i := i) (State.regsBut.refl (s := s.weirWritten i e)) (List.mem_singleton_self Reg.weirResult)
    exact fun c hc => (h c hc).trans (by rw [State.rd, State.rd, hregs])

/-- What a READ leaves (R324). -/
theorem regsBut_weirShown (e : WeirEntry) : ∀ a, (a < 0x200300 ∨ 0x200414 ≤ a) → (s.weirShown e).rd a = s.rd a := by
  intro a ha
  rw [State.weirShown, State.rd_wr, if_neg (by simp only [Reg.weirRdFlags]; omega),
    rd_setWords_other (by simp only [Reg.weirRdAd]; omega), rd_setWords_other (by simp only [Reg.weirRdMask]; omega),
    rd_setWords_other (by simp only [Reg.weirRdVal]; omega)]

theorem rd_weirShown (e : WeirEntry) :
    (∀ k < 20, (s.weirShown e).rd (Reg.weirRdVal k) = BitVec.ofNat 32 (e.val % 2 ^ (32 * s.weirWords) / 2 ^ (32 * k))) ∧
    (∀ k < 20, (s.weirShown e).rd (Reg.weirRdMask k) = BitVec.ofNat 32 (e.mask % 2 ^ (32 * s.weirWords) / 2 ^ (32 * k))) ∧
    (∀ k < 4, (s.weirShown e).rd (Reg.weirRdAd k) = BitVec.ofNat 32 (e.ad / 2 ^ (32 * k))) ∧
    (s.weirShown e).rd Reg.weirRdFlags = BitVec.ofNat 32 (b2n e.valid) := by
  refine ⟨fun k hk => ?_, fun k hk => ?_, fun k hk => ?_, by rw [State.weirShown, State.rd_wr, if_pos rfl]⟩
  · rw [State.weirShown, State.rd_wr, if_neg (by simp only [Reg.weirRdVal, Reg.weirRdFlags]; omega),
      rd_setWords_other (by simp only [Reg.weirRdVal, Reg.weirRdAd]; omega),
      rd_setWords_other (by simp only [Reg.weirRdVal, Reg.weirRdMask]; omega),
      rd_setWords (by simp only [Reg.weirRdVal]; omega) hk]
  · rw [State.weirShown, State.rd_wr, if_neg (by simp only [Reg.weirRdMask, Reg.weirRdFlags]; omega),
      rd_setWords_other (by simp only [Reg.weirRdMask, Reg.weirRdAd]; omega),
      rd_setWords (by simp only [Reg.weirRdMask]; omega) hk]
  · rw [State.weirShown, State.rd_wr, if_neg (by simp only [Reg.weirRdAd, Reg.weirRdFlags]; omega),
      rd_setWords (by simp only [Reg.weirRdAd]; omega) hk]

theorem regsOnly_weirShown (e : WeirEntry) : s.RegsOnly (s.weirShown e) :=
  (((State.RegsOnly.refl.setWords ..).setWords ..).setWords ..).wr

end

/-! ### SEARCH -/

section
variable {s : State} {r key : Nat}

theorem backPressure_of_regs {t : State} (hregs : s.regsBut t [Reg.weirResult]) (hdsp : t.dsp = s.dsp) :
    t.backPressure = s.backPressure := by
  have hrd : ∀ a, a ≠ Reg.weirResult → t.rd a = s.rd a := fun a ha => hregs a (by simpa using ha)
  have hlimits := hrd Reg.dspLimits (by decide)
  have hctrl := hrd Reg.dspCtrl (by decide)
  simp only [State.backPressure, State.freeCtxs, State.allFull, State.clEnabled, State.clLimit, State.clHeld, State.fld,
    hlimits, hctrl, hdsp]
  rfl

theorem laneServes_cmdAccept (lane : Nat) : (s.cmdAccept Reg.weirResult).laneServes lane (s.cmdAccept Reg.weirResult).ticket =
    s.laneServes lane s.ticket := by
  have hpressure : (s.cmdAccept Reg.weirResult).backPressure = s.backPressure :=
    backPressure_of_regs (State.regsBut.refl.accept (List.mem_singleton_self _)) (State.cmdAccept_dsp s _)
  simp only [State.laneServes, State.laneWaiters, State.laneOwn, State.ticket, hpressure, State.cmdAccept_flume,
    State.cmdAccept_tables, State.cmdAccept_hdg, State.cmdAccept_tb]
  rfl

theorem fld_set_freeCtr (t : State) (f a hi lo : Nat) : State.fld { t with freeCtr := f } a hi lo = t.fld a hi lo := rfl
theorem bit_set_search (t : State) (x : Option TableSearch) (n a i : Nat) :
    State.bit { t with tables.search := x, flume.tickets := n } a i = t.bit a i := rfl

theorem regsBut_set_freeCtr {t : State} {l : List Nat} (h : s.regsBut t l) (f : Nat) : s.regsBut { t with freeCtr := f } l := h
theorem regsBut_set_search {t : State} {l : List Nat} (h : s.regsBut t l) (x : Option TableSearch) (n : Nat) :
    s.regsBut { t with tables.search := x, flume.tickets := n } l := h

/-- A SEARCH of a sound array that its lane serves at once. -/
theorem weirSearchCmd_served (hwf : s.tables.weir.wf = true) (hsound : upsetWords s.tables.weirArr r = [])
    (hserves : s.laneServes (2 * r) s.ticket = true) :
    s.weirSearchCmd r key = match (s.weirMatches key).head? with
      | some k => (s.cmdAccept Reg.weirResult).cmdDone Reg.weirResult k
      | none => State.cmdDone { s.cmdAccept Reg.weirResult with freeCtr := s.freeCtr + 1 } Reg.weirResult
          (2 * 2 ^ 25 + Config.freeValue s.freeCtr % 2 ^ 15) := by
  have htables := State.cmdAccept_tables s Reg.weirResult
  have hmatches : (s.cmdAccept Reg.weirResult).weirMatches key = s.weirMatches key := by
    rw [State.weirMatches, htables, State.weirMatches]
  rw [State.weirSearchCmd, laneServes_cmdAccept, hserves, if_pos rfl, State.weirSearched,
    weirSearch_of_sound (by rw [htables]; exact hwf) (by rw [htables]; exact hsound), hmatches]
  cases (s.weirMatches key).head? with
  | some k => simp [State.weirFalseHits, State.tableResult]
  | none => simp [State.weirFalseHits, State.tableResult, State.draw, show Reg.weirResult ≠ Reg.emtResult by decide]

theorem weirSearchCmd_waits (hserves : s.laneServes (2 * r) s.ticket = false) :
    s.weirSearchCmd r key = { s.cmdAccept Reg.weirResult with
      tables.search := some { lane := 2 * r, key := key, ticket := s.ticket }, flume.tickets := s.flume.tickets + 1 } := by
  rw [State.weirSearchCmd, laneServes_cmdAccept, hserves, if_neg (by decide)]
  simp only [State.ticket, State.cmdAccept_flume, State.cmdAccept_tb]

end

/-! ### Shadows and WEIR.CTRL -/

section
variable {s : State} {acc a b : Nat}

theorem rd_commitShadow : (s.commitShadow acc a).rd b = if b = a then (s.shadow acc a).getD (s.rd a) else s.rd b := by
  unfold State.commitShadow
  cases s.shadow acc a with
  | none => split <;> simp_all
  | some w => exact State.rd_wr (s := s) a b w

theorem shadow_setShadow (v : Option Word) : (s.setShadow acc a v).shadow acc b = if b = a then v else s.shadow acc b := by
  rw [State.shadow, State.setShadow, SMap.get_set, State.shadow]
  simp only [Nat.add_right_inj]

theorem shadow_commitShadow : (s.commitShadow acc a).shadow acc b = if b = a then none else s.shadow acc b := by
  unfold State.commitShadow
  cases h : s.shadow acc a with
  | none => split <;> simp_all
  | some w => rw [shadow_setShadow]; rfl

theorem tables_commitShadow : (s.commitShadow acc a).tables = s.tables := by
  unfold State.commitShadow
  split <;> rfl

/-- Every entry made invalid. -/
theorem get_foldl_invalid (ks : List Nat) (i : Nat) : ∀ m : SMap WeirEntry,
    (ks.foldl (fun m i => m.mod i fun e => { e with valid := false }) m).get i =
      if i ∈ ks then { m.get i with valid := false } else m.get i := by
  induction ks with
  | nil => intro m; rfl
  | cons k ks ih =>
    intro m
    rw [List.foldl_cons, ih, SMap.get_mod]
    by_cases hk : i = k <;> by_cases hks : i ∈ ks <;> simp [hk, hks]

theorem valid_foldl_keys {m : SMap WeirEntry} (hwf : m.wf = true) (i : Nat) :
    ((m.keys.foldl (fun m i => m.mod i fun e => { e with valid := false }) m).get i).valid = false := by
  rw [get_foldl_invalid]
  split
  · rfl
  · rename_i hkey
    by_contra hvalid
    have hfind := (SMap.mem_find hwf (p := WeirEntry.valid) rfl i).mpr (Bool.not_eq_false _ ▸ hvalid)
    obtain ⟨e, he, rfl⟩ := List.mem_map.mp hfind
    exact hkey (List.mem_map.mpr ⟨e, List.mem_of_mem_filter he, rfl⟩)

end

theorem busy_cmdAccept {s : State} {a : Nat} : (s.cmdAccept a).bit a 30 = true := by
  have h := State.fld_setFld_same (s := s) a 31 29 2 (by decide) (by decide)
  rw [State.bit, State.cmdAccept, beq_iff_eq]
  simp only [State.fld, Wbits, bitsOf] at *
  omega

theorem shadow_wr {s : State} {acc a b : Nat} {v : Word} : (s.wr a v).shadow acc b = s.shadow acc b := rfl

theorem writeMissAd3_eq (acc : Nat) (s : State) (v : Word) : writeMissAd3 acc s v =
    (((s.commitShadow acc (Reg.weirMissAd 0)).commitShadow acc (Reg.weirMissAd 1)).commitShadow acc (Reg.weirMissAd 2)).wr
      (Reg.weirMissAd 3) v := rfl

theorem wide_of_word (v : Word) : (Wbits (v &&& 1#32) 0 0 == 1) = v.getLsbD 0 := by
  have hand : (v &&& 1#32).toNat = v.toNat % 2 := by rw [BitVec.toNat_and]; exact Nat.and_one_is_mod _
  rw [Wbits, bitsOf, hand, BitVec.getLsbD, Nat.testBit_zero]
  simp
  rfl

/-- Settles O24: what each command of WEIR.CMD leaves, and the writes of WEIR.CTRL, of the miss data and of a profile. -/
theorem weirCommands : Obligations.WeirCommands := by
  refine ⟨fun acc i v s h hbusy hv hi => ?cmd, fun acc v s h hbusy hop => ?busy, fun acc p v s hp => ⟨fun h => ?ctrl, fun h => ?miss, fun h => ?prof⟩⟩
  case busy =>
    refine (writeRow_reaches h (decide_eq_true h.1) (beq_iff_eq.mpr hop) _).trans ?_
    simp [writeWeirCmd, State.cmdBusy, hbusy, hop]
  case ctrl =>
    have hbit : (s.wr Reg.weirCtrl (v &&& 1#32)).wide = v.getLsbD 0 := by
      rw [State.wide, State.bit, State.fld_wr, if_pos rfl]
      exact wide_of_word v
    refine ⟨writeWeirCtrl s v, writeRow_reaches h (decide_eq_true h.1) rfl _, ?_⟩
    by_cases hwide : s.bit Reg.weirCtrl 0 = v.getLsbD 0
    · have hsame : writeWeirCtrl s v = s.wr Reg.weirCtrl (v &&& 1#32) := if_pos (hbit.trans hwide.symm)
      rw [hsame]
      exact ⟨(State.rd_wr ..).trans (if_pos rfl), State.regsBut.refl.wr (List.mem_singleton_self _), fun _ => rfl,
        fun hne => absurd hwide hne⟩
    · have hclear : writeWeirCtrl s v = { s.wr Reg.weirCtrl (v &&& 1#32) with
          tables.weir := s.tables.weir.keys.foldl (fun m i => m.mod i fun e => { e with valid := false }) s.tables.weir
          tables.weirArr := {} } := if_neg fun h => hwide (h.symm.trans hbit)
      rw [hclear]
      exact ⟨(State.rd_wr ..).trans (if_pos rfl), State.regsBut.refl.wr (List.mem_singleton_self _), fun h => absurd h hwide,
        fun _ hwf => ⟨valid_foldl_keys hwf, rfl⟩⟩
  case miss =>
    have hrow : exec (.missAdCommit acc v) s = .next (writeMissAd3 acc s v) := writeRow_reaches h (decide_eq_true h.1) rfl _
    rw [writeMissAd3_eq] at hrow
    refine ⟨_, hrow, (State.rd_wr ..).trans (if_pos rfl), fun k hk => ?_, fun c hc => ?_, ?_⟩
    · interval_cases k <;> simp [rd_commitShadow, shadow_wr, shadow_commitShadow, Reg.weirMissAd]
    · simp only [List.mem_cons, List.not_mem_nil, or_false, not_or] at hc
      obtain ⟨h0, h1, h2, h3⟩ := hc
      rw [State.rd_wr, if_neg h3, rd_commitShadow, if_neg h2, rd_commitShadow, if_neg h1, rd_commitShadow, if_neg h0]
    · exact (tables_commitShadow.trans tables_commitShadow).trans tables_commitShadow
  case prof =>
    have hrow : exec (.profileCommit acc p v) s = .next (writeProfA acc p s v) :=
      writeRow_reaches h (by simp [h.1, hp]) rfl _
    refine ⟨_, hrow, (State.rd_wr ..).trans (if_pos rfl), fun a ha => ?_, fun c hc => ?_, ?_⟩
    · have hp : ∀ q, Reg.weirProfSeg01 p ≠ Reg.weirProfA q ∧ Reg.weirProfSeg23 p ≠ Reg.weirProfA q ∧
          Reg.weirProfSeg01 p ≠ Reg.weirProfSeg23 q := by
        simp only [Reg.weirProfSeg01, Reg.weirProfSeg23, Reg.weirProfA]; omega
      rcases List.mem_pair.mp ha with rfl | rfl <;>
        simp [writeProfA, rd_commitShadow, shadow_wr, shadow_commitShadow, hp, (hp _).2.2.symm]
    · simp only [List.mem_cons, List.not_mem_nil, or_false, not_or] at hc
      obtain ⟨h0, h1, h2⟩ := hc
      rw [writeProfA, State.rd_wr, if_neg h0, rd_commitShadow, if_neg h2, rd_commitShadow, if_neg h1]
    · exact tables_commitShadow.trans tables_commitShadow
  case cmd =>
    intro words n agree
    have hlow : i < 2 ^ 15 := hi.trans_le weirSize_le
    have hi' : Wbits v 18 4 < s.weirSize := hv ▸ hi
    have haccept : s.regsBut (s.cmdAccept Reg.weirResult) [Reg.weirResult] := State.regsBut.refl.accept (List.mem_singleton_self _)
    refine ⟨fun hop => ?write, fun hop => ?invalidate, fun hop hr => ?read, fun hop hr hwf hsound hserves => ?search, fun hop hr hserves => ?waits⟩
    case write =>
      have hrow : exec (.weirCmdWrite acc v) s = .next (writeWeirCmd s v) :=
        writeRow_reaches h (decide_eq_true h.1) (beq_iff_eq.mpr hop) _
      rw [writeWeirCmd_write hbusy hop hi', hv] at hrow
      exact ⟨_, hrow, tableDone_weirWritten _ hlow⟩
    case invalidate =>
      have hrow : exec (.weirCmdInvalidate acc v) s = .next (writeWeirCmd s v) :=
        writeRow_reaches h (decide_eq_true h.1) (beq_iff_eq.mpr hop) _
      rw [writeWeirCmd_invalidate hbusy hop hi', hv] at hrow
      exact ⟨_, hrow, tableDone_weirWritten _ hlow⟩
    case read =>
      have hrow : exec (.weirCmdRead acc v) s = .next (writeWeirCmd s v) :=
        writeRow_reaches h (decide_eq_true h.1) (beq_iff_eq.mpr hop) _
      rw [writeWeirCmd_read hbusy hop hi' hr, hv] at hrow
      have hdone : ∀ a, a ≠ Reg.weirResult → ((s.weirShown (s.tables.weir.get i)).tableDone Reg.weirResult 0 (some i)).rd a =
          (s.weirShown (s.tables.weir.get i)).rd a := fun a ha =>
        regsBut_tableDone State.regsBut.refl (List.mem_singleton_self _) a (by simpa using ha)
      obtain ⟨hval, hmask, had, hflags⟩ := rd_weirShown (s := s) (s.tables.weir.get i)
      have hn : n = s.weirWords := rfl
      have hn20 : n ≤ 20 := by rw [hn, State.weirWords]; split <;> decide
      refine ⟨_, hrow, (regsOnly_weirShown _).tableDone, fun k hk => ?_, fun k hk => ?_, fun k hk hk' => ?_, fun k hk => ?_, ?_, ?_,
        fun a ha hne => ?_⟩
      · rw [hdone _ (by simp only [Reg.weirRdVal, Reg.weirResult]; omega), hval k (by omega), BitVec.toNat_ofNat, ← hn, word_of_mod _ hk]
      · rw [hdone _ (by simp only [Reg.weirRdMask, Reg.weirResult]; omega), hmask k (by omega), BitVec.toNat_ofNat, ← hn, word_of_mod _ hk]
      · rw [hdone _ (by simp only [Reg.weirRdVal, Reg.weirResult]; omega), hval k hk', ← hn, word_of_mod_above _ hk,
          hdone _ (by simp only [Reg.weirRdMask, Reg.weirResult]; omega), hmask k hk', ← hn, word_of_mod_above _ hk]
        exact ⟨rfl, rfl⟩
      · rw [hdone _ (by simp only [Reg.weirRdAd, Reg.weirResult]; omega), had k hk, BitVec.toNat_ofNat]
      · rw [hdone _ (by decide), hflags]
        cases (s.tables.weir.get i).valid <;> rfl
      · have hresult := rd_tableDone (s := s.weirShown (s.tables.weir.get i)) (a := Reg.weirResult) (code := 0) (i := i) (by omega)
        rwa [Nat.zero_mul, Nat.zero_add] at hresult
      · rw [hdone _ hne, regsBut_weirShown _ a ha]
    case search =>
      have hrow : exec (.weirCmdSearch acc v) s = .next (writeWeirCmd s v) :=
        writeRow_reaches h (decide_eq_true h.1) (beq_iff_eq.mpr hop) _
      rw [writeWeirCmd_search hbusy hop hr, weirSearchCmd_served hwf hsound hserves] at hrow
      obtain ⟨hfirst, hnone⟩ := head?_lowest_or_none (State.pairwise_weirMatches hwf (words Reg.weirWrVal n))
        (State.mem_weirMatches hwf (words Reg.weirWrVal n))
      refine ⟨fun k hk hk15 => ?_, fun hno => ?_⟩
      · rw [show (s.weirMatches (s.wordsOf Reg.weirWrVal s.weirWords)).head? = some k from (hfirst k).mpr hk] at hrow
        exact ⟨_, hrow, State.RegsOnly.refl.accept.done, rd_cmdDone fld_cmdAccept (by omega),
          (State.regsBut.refl.accept (List.mem_singleton_self _)).done (List.mem_singleton_self _)⟩
      · rw [show (s.weirMatches (s.wordsOf Reg.weirWrVal s.weirWords)).head? = none from hnone.mpr hno] at hrow
        have hx : Config.freeValue s.freeCtr % 2 ^ 15 < 2 ^ 15 := Nat.mod_lt _ (by decide)
        exact ⟨_, _, hrow, hx, State.RegsOnly.refl.accept.freeCtr State.RegsOnly.refl.done,
          rd_cmdDone ((fld_set_freeCtr ..).trans fld_cmdAccept) (by omega),
          (regsBut_set_freeCtr haccept _).done (List.mem_singleton_self _)⟩
    case waits =>
      have hrow : exec (.weirCmdSearch acc v) s = .next (writeWeirCmd s v) :=
        writeRow_reaches h (decide_eq_true h.1) (beq_iff_eq.mpr hop) _
      rw [writeWeirCmd_search hbusy hop hr, weirSearchCmd_waits hserves] at hrow
      exact ⟨_, hrow, (bit_set_search ..).trans busy_cmdAccept,
        regsBut_set_search haccept _ _, rfl⟩

end Sys2Proof.Machine
end

section
/-! PROOFS. The EMT commands settled (R311, R317, R331, R332). -/
namespace Sys2Proof.Machine

/-! ### The lowest free entry -/

theorem foldl_lowestFree {l : List Nat} (hrise : l.Pairwise (· < ·)) : ∀ k, (∀ x ∈ l, k ≤ x) →
    k ≤ l.foldl (fun k i => if i = k then k + 1 else k) k ∧ l.foldl (fun k i => if i = k then k + 1 else k) k ∉ l ∧
      ∀ j, k ≤ j → j < l.foldl (fun k i => if i = k then k + 1 else k) k → j ∈ l := by
  induction l with
  | nil => simp
  | cons a l ih =>
    intro k hk
    obtain ⟨habove, hrest⟩ := List.pairwise_cons.mp hrise
    rw [List.foldl_cons]
    by_cases hak : a = k
    · subst hak
      obtain ⟨hle, hnot, hall⟩ := ih hrest (a + 1) fun x hx => habove x hx
      rw [if_pos rfl]
      refine ⟨by omega, ?_, fun j hj hlt => ?_⟩
      · simp only [List.mem_cons, not_or]; exact ⟨by omega, hnot⟩
      · rcases Nat.eq_or_lt_of_le hj with rfl | hj
        · exact List.mem_cons_self
        · exact List.mem_cons_of_mem _ (hall j hj hlt)
    · have hka : k < a := lt_of_le_of_ne (hk a List.mem_cons_self) (Ne.symm hak)
      obtain ⟨hle, hnot, hall⟩ := ih hrest k fun x hx => hka.le.trans (habove x hx).le
      rw [if_neg hak]
      have hmin : l.foldl (fun k i => if i = k then k + 1 else k) k = k := by
        by_contra hne
        exact absurd (habove k (hall k le_rfl (by omega))) (by omega)
      rw [hmin] at hnot ⊢
      refine ⟨le_rfl, ?_, fun j hj hlt => absurd hj (by omega)⟩
      simp only [List.mem_cons, not_or]; exact ⟨by omega, hnot⟩

/-- The lowest number not in a rising list. -/
theorem lowestFree_eq {l : List Nat} (hrise : l.Pairwise (· < ·)) {i : Nat} (hi : i ∉ l) (hbelow : ∀ j < i, j ∈ l) :
    lowestFree l = i := by
  obtain ⟨-, hnot, hall⟩ := foldl_lowestFree hrise 0 fun x _ => Nat.zero_le x
  change l.foldl (fun k i => if i = k then k + 1 else k) 0 = i
  rcases Nat.lt_trichotomy (l.foldl (fun k i => if i = k then k + 1 else k) 0) i with h | h | h
  · exact absurd (hbelow _ h) hnot
  · exact h
  · exact absurd (hall i (Nat.zero_le _) h) hi

section
variable {s t : State} {i a key acc op : Nat} {v : Word} {e : EmtEntry}

theorem mem_emt_valid (hwf : s.tables.emt.wf = true) (k : Nat) :
    k ∈ s.tables.emt.find (fun x => x.valid) ↔ (s.tables.emt.get k).valid = true := SMap.mem_find hwf rfl k

theorem lowestFree_emt (hwf : s.tables.emt.wf = true) (hi : lowest (fun k => (s.tables.emt.get k).valid = false) i) :
    lowestFree (s.tables.emt.find fun x => x.valid) = i := by
  obtain ⟨hfree, hbelow⟩ := hi
  refine lowestFree_eq (SMap.pairwise_find hwf _) ?_ fun j hj => ?_
  · rw [mem_emt_valid hwf, hfree]; decide
  · rw [mem_emt_valid hwf]; exact Bool.eq_true_of_not_eq_false (hbelow j hj)

/-- With a free entry among the 65,536, fewer are in use. -/
theorem used_emt_lt (hwf : s.tables.emt.wf = true) (hfree : (s.tables.emt.get i).valid = false) (hi : i < 65536)
    (hrange : ∀ k, 65536 ≤ k → (s.tables.emt.get k).valid = false) :
    (s.tables.emt.find fun x => x.valid).length < 65536 := by
  have hnodup : (s.tables.emt.find fun x => x.valid).Nodup := (SMap.pairwise_find hwf _).imp (fun h => Nat.ne_of_lt h)
  have hsub : (s.tables.emt.find fun x => x.valid) ⊆ (List.range 65536).erase i := by
    intro k hk
    have hvalid := (mem_emt_valid hwf k).mp hk
    refine (List.mem_erase_of_ne ?_).mpr (List.mem_range.mpr ?_)
    · rintro rfl; rw [hfree] at hvalid; cases hvalid
    · by_contra hlt
      rw [hrange k (by omega)] at hvalid; cases hvalid
  have hlen := (List.Nodup.subperm hnodup hsub).length_le
  rw [List.length_erase_of_mem (List.mem_range.mpr hi), List.length_range] at hlen
  omega

/-! ### An entry written -/

theorem onlyArrays_emtMend (g : Nat) : s.OnlyArrays (s.emtMend g i) := rfl

theorem emtWritten_eq : State.OnlyArrays { s with tables.emt := s.tables.emt.set i e } (s.emtWritten i e) := by
  unfold State.emtWritten
  generalize List.range 20 = l
  generalize State.mk .. = t
  induction l generalizing t with
  | nil => rfl
  | cons g l ih => exact (onlyArrays_emtMend g).trans (ih _)

theorem emt_emtWritten : (s.emtWritten i e).tables.emt = s.tables.emt.set i e := by rw [emtWritten_eq]
theorem learnQ_emtWritten : (s.emtWritten i e).tables.learnQ = s.tables.learnQ := by rw [emtWritten_eq]
theorem regs_emtWritten : (s.emtWritten i e).regs = s.regs := by rw [emtWritten_eq]

theorem get_emt_set (j : Nat) : (s.tables.emt.set i e).get j = if j = i then e else s.tables.emt.get j := SMap.get_set ..

/-- What a command that writes an entry and no last-hit time leaves. -/
theorem tableDone_emtWritten (hi : i < 65536) :
    let t := (s.emtWritten i e).tableDone Reg.emtResult 0 (some i)
    t.tables.emt.get i = e ∧ (∀ j, j ≠ i → t.tables.emt.get j = s.tables.emt.get j) ∧
    t.rd Reg.emtResult = resultWord i ∧ s.regsBut t [Reg.emtResult] ∧ t.tables.learnQ = s.tables.learnQ := by
  have htables : ((s.emtWritten i e).tableDone Reg.emtResult 0 (some i)).tables = (s.emtWritten i e).tables :=
    State.RegsOnly.refl.tableDone.tables_eq
  have hresult := rd_tableDone (s := s.emtWritten i e) (a := Reg.emtResult) (code := 0) (i := i) (by omega)
  rw [Nat.zero_mul, Nat.zero_add] at hresult
  refine ⟨?_, fun j hj => ?_, hresult, ?_, ?_⟩
  · rw [htables, emt_emtWritten, get_emt_set, if_pos rfl]
  · rw [htables, emt_emtWritten, get_emt_set, if_neg hj]
  · exact regsBut_tableDone (State.regsBut.refl.of_regs regs_emtWritten) (List.mem_singleton_self _)
  · rw [htables, learnQ_emtWritten]

theorem setHits_eq (c : Nat) : s.setHits i c = { s with
    tables.lastHit := ((List.range 20).map fun g => g * 65536 + i).foldl (fun m k => m.set k c) s.tables.lastHit } := by
  rw [List.foldl_map]; rfl

/-- What an INSERT into a free entry leaves. -/
theorem tableDone_emtPut (hi : i < 65536) :
    let t := (s.emtPut i e).tableDone Reg.emtResult 0 (some i)
    t.tables.emt.get i = e ∧ (∀ j, j ≠ i → t.tables.emt.get j = s.tables.emt.get j) ∧
    (∀ g < 20, t.tables.lastHit.get (g * 65536 + i) = s.hitClock) ∧
    t.rd Reg.emtResult = resultWord i ∧ s.regsBut t [Reg.emtResult] ∧ t.tables.learnQ = s.tables.learnQ := by
  have htables : ((s.emtPut i e).tableDone Reg.emtResult 0 (some i)).tables = (s.emtPut i e).tables :=
    State.RegsOnly.refl.tableDone.tables_eq
  have hput := setHits_eq (s := s.emtWritten i e) (i := i) s.hitClock
  have hregs : (s.emtPut i e).regs = s.regs := by rw [State.emtPut, hput, regs_emtWritten]
  have hemt : (s.emtPut i e).tables.emt = s.tables.emt.set i e := by rw [State.emtPut, hput, emt_emtWritten]
  have hresult := rd_tableDone (s := s.emtPut i e) (a := Reg.emtResult) (code := 0) (i := i) (by omega)
  rw [Nat.zero_mul, Nat.zero_add] at hresult
  refine ⟨?_, fun j hj => ?_, fun g hg => ?_, hresult, ?_, ?_⟩
  · rw [htables, hemt, get_emt_set, if_pos rfl]
  · rw [htables, hemt, get_emt_set, if_neg hj]
  · rw [htables, State.emtPut, hput, get_foldl_set]
    exact if_pos (List.mem_map.mpr ⟨g, List.mem_range.mpr hg, rfl⟩)
  · exact regsBut_tableDone (State.regsBut.refl.of_regs hregs) (List.mem_singleton_self _)
  · rw [htables, State.emtPut, hput, learnQ_emtWritten]

/-! ### The commands -/

/-- The entry that a command by KEY writes. -/
def State.emtStaged (s : State) (key : Nat) : EmtEntry :=
  { valid := true, key := key, data := (s.rd Reg.emtData).toNat, isStatic := s.bit Reg.emtFlags 0 }

/-- An entry's verify copy and associated data changed, its last-hit time kept. -/
def State.emtUpdated (s : State) (i : Nat) (e : EmtEntry) : State := { s with tables.emt := s.tables.emt.set i e }

/-- A command by KEY on a sound replica. -/
theorem emtByKey_of_sound {g : Nat} (hwf : s.tables.emt.wf = true) (hsound : upsetWords s.tables.emtArr g = []) :
    s.emtByKey op g key = match (s.emtMatches key).head? with
      | none => if op = 1 then s.emtInsert (s.emtStaged key) else s.tableDone Reg.emtResult 2 none
      | some k =>
        if op = 1 then s.tableDone Reg.emtResult 1 (some k)
        else if op = 2 then (s.emtWritten k { s.tables.emt.get k with valid := false }).tableDone Reg.emtResult 0 (some k)
        else if op = 3 then s.emtRead k
        else (s.emtUpdated k (s.emtStaged key)).tableDone Reg.emtResult 0 (some k) := by
  simp only [State.emtByKey, emtSearch_of_sound hwf hsound]
  rfl

theorem emtByKey_found {g k : Nat} (hwf : s.tables.emt.wf = true) (hsound : upsetWords s.tables.emtArr g = [])
    (hlow : lowest (s.emtMatch key) k) : s.emtByKey op g key =
      if op = 1 then s.tableDone Reg.emtResult 1 (some k)
      else if op = 2 then (s.emtWritten k { s.tables.emt.get k with valid := false }).tableDone Reg.emtResult 0 (some k)
      else if op = 3 then s.emtRead k
      else (s.emtUpdated k (s.emtStaged key)).tableDone Reg.emtResult 0 (some k) := by
  rw [emtByKey_of_sound hwf hsound,
    ((head?_lowest_or_none (State.pairwise_emtMatches hwf key) (State.mem_emtMatches hwf key)).1 k).mpr hlow]

theorem emtByKey_missed {g : Nat} (hwf : s.tables.emt.wf = true) (hsound : upsetWords s.tables.emtArr g = [])
    (hno : ∀ k, ¬ s.emtMatch key k) : s.emtByKey op g key =
      if op = 1 then s.emtInsert (s.emtStaged key) else s.tableDone Reg.emtResult 2 none := by
  rw [emtByKey_of_sound hwf hsound,
    (head?_lowest_or_none (State.pairwise_emtMatches hwf key) (State.mem_emtMatches hwf key)).2.mpr hno]

theorem writeEmtCmd_byKey (hop : Wbits v 3 0 = op) (hkey : op = 1 ∨ op = 2 ∨ op = 6) :
    writeEmtCmd s v = s.emtByKey op 0 (s.wordsOf Reg.emtKey 4 % 2 ^ 112) := by
  rcases hkey with rfl | rfl | rfl <;> simp [writeEmtCmd, hop]

theorem writeEmtCmd_lookup (hop : Wbits v 3 0 = 3) (hr : Wbits v 28 24 < 20) :
    writeEmtCmd s v = s.emtByKey 3 (Wbits v 28 24) (s.wordsOf Reg.emtKey 4 % 2 ^ 112) := by
  simp [writeEmtCmd, hop, Nat.not_le.mpr hr]

theorem writeEmtCmd_read (hop : Wbits v 3 0 = 4) (hr : Wbits v 28 24 < 20) : writeEmtCmd s v = s.emtRead (Wbits v 19 4) := by
  simp [writeEmtCmd, hop, Nat.not_le.mpr hr]

theorem writeEmtCmd_invalidate (hop : Wbits v 3 0 = 5) : writeEmtCmd s v =
    (s.emtWritten (Wbits v 19 4) { s.tables.emt.get (Wbits v 19 4) with valid := false }).tableDone Reg.emtResult 0
      (some (Wbits v 19 4)) := by
  simp [writeEmtCmd, hop]

/-- What LOOKUP and READ show of an entry (R332). -/
theorem emtRead_shows (hi : i < 65536) :
    let x := s.tables.emt.get i
    s.RegsOnly (s.emtRead i) ∧ (s.emtRead i).rd Reg.emtRdData = BitVec.ofNat 32 x.data ∧
    (s.emtRead i).rd Reg.emtRdFlags = BitVec.ofNat 32 (b2n x.valid * 2 + b2n x.isStatic) ∧
    (∀ k < 4, (s.emtRead i).rd (Reg.emtRdKey k) = BitVec.ofNat 32 (x.key / 2 ^ (32 * k))) ∧
    (s.emtRead i).rd Reg.emtRdLastHit = BitVec.ofNat 32 (s.lastHitOf i) ∧ (s.emtRead i).rd Reg.emtResult = resultWord i := by
  have hdone : ∀ (t : State) a, a ≠ Reg.emtResult → (t.tableDone Reg.emtResult 0 (some i)).rd a = t.rd a := fun t a ha =>
    regsBut_tableDone State.regsBut.refl (List.mem_singleton_self _) a (by simpa using ha)
  have hkey : ∀ k < 4, Reg.emtRdKey k ≠ Reg.emtResult ∧ Reg.emtRdKey k ≠ Reg.emtRdFlags ∧ Reg.emtRdKey k ≠ Reg.emtRdLastHit ∧
      Reg.emtRdKey k ≠ Reg.emtRdData := fun k _ => by
    simp only [Reg.emtRdKey, Reg.emtResult, Reg.emtRdFlags, Reg.emtRdLastHit, Reg.emtRdData]; omega
  refine ⟨((State.RegsOnly.refl.setWords ..).wr.wr.wr).tableDone, ?_, ?_, fun k hk => ?_, ?_, ?_⟩ <;> unfold State.emtRead
  · rw [hdone _ _ (by decide), State.rd_wr, if_neg (by decide), State.rd_wr, if_neg (by decide), State.rd_wr, if_pos rfl]
  · rw [hdone _ _ (by decide), State.rd_wr, if_pos rfl]
  · obtain ⟨hresult, hflags, hhit, hdata⟩ := hkey k hk
    rw [hdone _ _ hresult, State.rd_wr, if_neg hflags, State.rd_wr, if_neg hhit, State.rd_wr, if_neg hdata,
      rd_setWords (by simp only [Reg.emtRdKey]; omega) hk]
  · rw [hdone _ _ (by decide), State.rd_wr, if_neg (by decide), State.rd_wr, if_pos rfl]
  · exact (rd_tableDone (by omega)).trans (by rw [Nat.zero_mul, Nat.zero_add])

/-- A command that ends with no entry: its index is a free value. -/
theorem tableDone_none {code : Nat} : s.tableDone Reg.emtResult code none =
    State.cmdDone { s.cmdAccept Reg.emtResult with freeCtr := s.freeCtr + 1 } Reg.emtResult
      (code * 2 ^ 25 + Config.freeValue s.freeCtr % 2 ^ 16) := by
  simp [State.tableDone, State.tableResult, State.draw]

end

/-- Settles O25: each command by its operation, after a search of a sound replica where it is by KEY. -/
theorem emtCommands : Obligations.EmtCommands := by
  intro acc i v s e h hwf hsound hrange key he
  have hacc : decide (acc < 7) = true := decide_eq_true h.1
  have hkey : s.wordsOf Reg.emtKey 4 % 2 ^ 112 = key := rfl
  have hstaged : s.emtStaged key = e := he.symm
  have hrow : ∀ op, Wbits v 3 0 = op → writeRow (acc < 7) acc Reg.emtCmd (Wbits v 3 0 == op) (fun t => writeEmtCmd t v) s =
      .next (writeEmtCmd s v) := fun op hop => writeRow_reaches h hacc (beq_iff_eq.mpr hop) _
  have hby : ∀ op, (op = 1 ∨ op = 2 ∨ op = 6) → Wbits v 3 0 = op →
      writeRow (acc < 7) acc Reg.emtCmd (Wbits v 3 0 == op) (fun t => writeEmtCmd t v) s = .next (s.emtByKey op 0 key) :=
    fun op h3 hop => (hrow op hop).trans (by rw [writeEmtCmd_byKey hop h3, hkey])
  have hsound0 := hsound 0 (by decide)
  refine ⟨fun hop hno hfree hi => ?insert, fun hop hlow hi => ?present, fun hop hlow hi => ?delete, fun hop hr hlow hi => ?lookup,
    fun hop hr hv => ?read, fun hop hv => ?invalidate, fun hop hlow hi => ?update, fun hop hno => ?absent, fun hpop hv => ?pop⟩
  case insert =>
    have hput : s.emtByKey 1 0 key = (s.emtPut i e).tableDone Reg.emtResult 0 (some i) := by
      rw [emtByKey_missed hwf hsound0 hno, hstaged]
      simp only [State.emtInsert, if_true, used_emt_lt hwf hfree.1 hi hrange, lowestFree_emt hwf hfree]
    exact ⟨_, (hby 1 (.inl rfl) hop).trans (by rw [hput]), tableDone_emtPut hi⟩
  case present =>
    exact ⟨_, (hby 1 (.inl rfl) hop).trans (by rw [emtByKey_found hwf hsound0 hlow, if_pos rfl]), State.RegsOnly.refl.tableDone,
      (rd_tableDone (by omega)).trans (by rw [Nat.one_mul]), regsBut_tableDone State.regsBut.refl (List.mem_singleton_self _)⟩
  case delete =>
    obtain ⟨hget, hother, hresult, hregs, hlearn⟩ :=
      tableDone_emtWritten (s := s) (e := { s.tables.emt.get i with valid := false }) hi
    exact ⟨_, (hby 2 (.inr (.inl rfl)) hop).trans (by rw [emtByKey_found hwf hsound0 hlow]; rfl), by rw [hget], hother, hresult, hregs, hlearn⟩
  case lookup =>
    obtain ⟨hregs, hdata, hflags, hkeys, hlast, hresult⟩ := emtRead_shows (s := s) hi
    obtain ⟨hvalid, hkeyi⟩ := hlow.1
    refine ⟨s.emtRead i, (hrow 3 hop).trans (by rw [writeEmtCmd_lookup hop hr, hkey, emtByKey_found hwf (hsound _ hr) hlow]; rfl), hregs, hdata, ?_,
      fun k hk => ?_, hlast, hresult⟩
    · rw [hflags, hvalid]; cases (s.tables.emt.get i).isStatic <;> rfl
    · rw [hkeys k hk, hkeyi]
  case read =>
    have hi : i < 65536 := hv ▸ Wbits_lt v 19 4
    obtain ⟨hregs, hdata, hflags, hkeys, hlast, hresult⟩ := emtRead_shows (s := s) hi
    refine ⟨s.emtRead i, (hrow 4 hop).trans (by rw [writeEmtCmd_read hop hr, hv]), hregs, hdata, ?_, hkeys, hlast, hresult⟩
    rw [hflags]; cases (s.tables.emt.get i).valid <;> cases (s.tables.emt.get i).isStatic <;> rfl
  case invalidate =>
    have hi : i < 65536 := hv ▸ Wbits_lt v 19 4
    obtain ⟨hget, hother, hresult, hregs, hlearn⟩ :=
      tableDone_emtWritten (s := s) (e := { s.tables.emt.get i with valid := false }) hi
    exact ⟨_, (hrow 5 hop).trans (by rw [writeEmtCmd_invalidate hop, hv]), by rw [hget], hother, hresult, hregs, hlearn⟩
  case update =>
    have htables : ((s.emtUpdated i e).tableDone Reg.emtResult 0 (some i)).tables = (s.emtUpdated i e).tables :=
      State.RegsOnly.refl.tableDone.tables_eq
    have hrow6 : exec (.emtUpdate acc v) s = .next ((s.emtUpdated i e).tableDone Reg.emtResult 0 (some i)) :=
      (hby 6 (.inr (.inr rfl)) hop).trans (by rw [emtByKey_found hwf hsound0 hlow, hstaged]; rfl)
    refine ⟨_, hrow6, ?_, fun j hj => ?_, ?_, ?_, ?_⟩
    · rw [htables]; exact (get_emt_set i).trans (if_pos rfl)
    · rw [htables]; exact (get_emt_set j).trans (if_neg hj)
    · rw [htables]; rfl
    · exact (rd_tableDone (by omega)).trans (by rw [Nat.zero_mul, Nat.zero_add])
    · exact regsBut_tableDone (State.regsBut.refl.of_regs (u := s.emtUpdated i e) rfl) (List.mem_singleton_self _)
  case absent =>
    have hx : Config.freeValue s.freeCtr % 2 ^ 16 < 2 ^ 16 := Nat.mod_lt _ (by decide)
    refine ⟨s.tableDone Reg.emtResult 2 none, _, fun h2 => (hby 2 (.inr (.inl rfl)) h2).trans (by rw [emtByKey_missed hwf hsound0 hno]; rfl),
      fun h6 => (hby 6 (.inr (.inr rfl)) h6).trans (by rw [emtByKey_missed hwf hsound0 hno]; rfl), ?_, hx, ?_, ?_⟩ <;> rw [tableDone_none]
    · exact State.RegsOnly.refl.accept.freeCtr State.RegsOnly.refl.done
    · exact rd_cmdDone ((fld_set_freeCtr ..).trans fld_cmdAccept) (by omega)
    · exact (regsBut_set_freeCtr (State.regsBut.refl.accept (List.mem_singleton_self _)) _).done (List.mem_singleton_self _)
  case pop =>
    exact (writeRow_reaches hpop hacc (beq_iff_eq.mpr hv) _).trans (by rw [writeLqPop, if_pos hv])

end Sys2Proof.Machine
end

section
/-! PROOFS. Flow operations: what staging sees (R516, R536–R545), and what it leaves. -/
namespace Sys2Proof.Machine

/-! ### Tags in use -/

/-- A list of what the entries of a rising map show is the same after a write that shows the same. -/
theorem filterMap_smapPut {V W : Type} [DecidableEq V] [Inhabited V] (f : V → Option W) {l : List (Nat × V)} {k : Nat} {v : V}
    (hrise : SMap.rising l = true) (hnone : smapFind l k = none → f v = none) (hsome : ∀ w, smapFind l k = some w → f w = f v) :
    (smapPut l k v).filterMap (fun e => f e.2) = l.filterMap fun e => f e.2 := by
  induction l with
  | nil => simp [smapPut, hnone rfl]
  | cons e r ih =>
    obtain ⟨a, w⟩ := e
    obtain ⟨habove, hr⟩ := (SMap.rising_cons _ _).mp hrise
    rw [smapPut]
    split_ifs with hlt heq
    · have hfind : smapFind ((a, w) :: r) k = none := by
        rw [smapFind, if_neg (by omega)]
        by_contra hne
        obtain ⟨x, hx⟩ := Option.ne_none_iff_exists'.mp hne
        have hak : a < k := habove _ ((smapFind_eq_some_iff hr k x).mp hx)
        omega
      rw [List.filterMap_cons_none (f := fun e : Nat × V => f e.2) (hnone hfind)]
    · have hf := hsome w (by rw [smapFind, if_pos heq.symm])
      simp only [List.filterMap_cons, hf]
    · have hfind : smapFind ((a, w) :: r) k = smapFind r k := by rw [smapFind, if_neg (Ne.symm heq)]
      rw [hfind] at hnone hsome
      simp only [List.filterMap_cons, ih hr hnone hsome]

section
variable {s t u : State} {i key : Nat}

theorem tagsUsed_touched (hwf : s.flow.insts.wf = true) (x : FlowCtx) (htag : x.tag = (s.inst i).tag) (hx : x ≠ default) :
    (s.setInst i x).tagsUsed = s.tagsUsed := by
  have hrise : SMap.rising s.flow.insts.entries = true := (Bool.and_eq_true_iff.mp hwf).1
  have hset : (s.setInst i x).flow.insts.entries = smapPut s.flow.insts.entries i x := by
    change (SMap.setD s.flow.insts default i x).entries = _
    rw [SMap.setD, if_neg hx]
  rw [State.tagsUsed, hset]
  refine filterMap_smapPut FlowCtx.tag hrise (fun hnone => ?_) fun w hw => ?_
  · rw [htag, State.inst, SMap.get, SMap.getD, hnone]; rfl
  · rw [htag, State.inst, SMap.get, SMap.getD, hw]; rfl

/-! ### What flow operations see -/

/-- `t` is to a flow operation as `s` is: the same images, logs, limits and instances, but for what an access leaves behind. -/
structure State.FlowAs (s t : State) : Prop where
  logs : t.flow.logs = s.flow.logs
  seed : t.flow.sliceSeed = s.flow.sliceSeed
  base : t.flow.base = s.flow.base
  mem : t.mem = s.mem
  dsp : t.dsp = s.dsp
  tb : t.tb = s.tb
  thr : ∀ cl e th, t.thr cl e th = s.thr cl e th
  rd : ∀ a < 0x700000, t.rd a = s.rd a
  have_ : ∀ k, (t.flow.lines.get k).have_ = (s.flow.lines.get k).have_
  data : ∀ k, (t.flow.lines.get k).data = (s.flow.lines.get k).data
  tag : ∀ j, (t.inst j).tag = (s.inst j).tag
  tags : t.tagsUsed = s.tagsUsed

theorem State.FlowAs.refl (s : State) : s.FlowAs s :=
  ⟨rfl, rfl, rfl, rfl, rfl, rfl, fun _ _ _ => rfl, fun _ _ => rfl, fun _ => rfl, fun _ => rfl, fun _ => rfl, rfl⟩

theorem State.FlowAs.trans (h : s.FlowAs t) (k : t.FlowAs u) : s.FlowAs u where
  logs := k.logs.trans h.logs
  seed := k.seed.trans h.seed
  base := k.base.trans h.base
  mem := k.mem.trans h.mem
  dsp := k.dsp.trans h.dsp
  tb := k.tb.trans h.tb
  thr cl e th := (k.thr cl e th).trans (h.thr cl e th)
  rd a ha := (k.rd a ha).trans (h.rd a ha)
  have_ x := (k.have_ x).trans (h.have_ x)
  data x := (k.data x).trans (h.data x)
  tag j := (k.tag j).trans (h.tag j)
  tags := k.tags.trans h.tags

theorem State.Counting.flowAs (h : s.Counting t) : s.FlowAs t := by
  have hflow := h.flow_eq
  refine ⟨by rw [hflow], by rw [hflow], by rw [hflow], h.mem_eq, h.dsp_eq, h.tb_eq, fun cl e th => ?_, h.rd, fun _ => by rw [hflow],
    fun _ => by rw [hflow], fun _ => by rw [State.inst, hflow, State.inst], by rw [State.tagsUsed, hflow, State.tagsUsed]⟩
  rw [State.thr, h.flume_eq]; rfl

theorem flowAs_counted (cl e th : Nat) : s.FlowAs (s.counted (.pe cl e th)) := by
  have hflow := State.counted_flow (s := s) cl e th
  exact ⟨by rw [hflow], by rw [hflow], by rw [hflow], State.counted_mem _, State.counted_dsp .., State.counted_tb ..,
    fun _ _ _ => State.counted_thr .., fun a ha => State.rd_counted _ a ha, fun _ => by rw [hflow], fun _ => by rw [hflow],
    fun _ => by rw [State.inst, hflow, State.inst], by rw [State.tagsUsed, hflow, State.tagsUsed]⟩

namespace State.FlowAs

variable (h : s.FlowAs t)
include h

theorem fld {a : Nat} (ha : a < 0x700000) (hi lo : Nat) : t.fld a hi lo = s.fld a hi lo := by rw [State.fld, h.rd a ha, State.fld]
theorem recSize : t.recSize = s.recSize := by rw [State.recSize, h.fld (by decide), State.recSize]
theorem log (k : Nat) : t.log k = s.log k := by rw [State.log, h.logs, State.log]
theorem recByte (k i : Nat) : t.recByte k i = s.recByte k i := by
  simp only [State.recByte, h.have_, h.data, State.recAddr, h.base, h.recSize, State.ldb, h.mem]
theorem committed (k : Nat) : t.committed k = s.committed k := by simp only [State.committed, h.recSize, h.recByte]
theorem speculative (k : Nat) : t.speculative k = s.speculative k := by
  simp only [State.speculative, h.log, h.recSize, State.entryHash, h.seed, h.committed]
theorem stageLimit (j k : Nat) : t.stageLimit j k = s.stageLimit j k := by
  simp only [State.stageLimit, State.stagedRecords, State.stagedOf, h.logs]
  rfl
theorem stageWait (j k : Nat) : t.stageWait j k = s.stageWait j k := by
  simp only [State.stageWait, h.tag, h.tags, State.sliceStaged, h.logs, State.logLimit, h.fld (show Reg.fleCtrl < 0x700000 by decide),
    State.logCtxs, h.log]
  rfl
theorem cached (k : Nat) (hc : s.cached k) : t.cached k := by
  simpa only [State.cached, h.recSize, h.have_] using hc
theorem mayStage (j k : Nat) (hm : s.mayStage j k) : t.mayStage j k := by
  simpa only [State.mayStage, h.stageLimit, h.stageWait] using hm

end State.FlowAs

theorem touchRec_flowAs (hwf : s.flow.insts.wf = true) : s.FlowAs (s.touchRec i key) := by
  unfold State.touchRec
  dsimp only
  split
  · exact .refl s
  · refine ⟨rfl, rfl, rfl, rfl, rfl, rfl, fun _ _ _ => rfl, fun _ _ => rfl, fun _ => rfl, fun _ => rfl, fun j => ?_, ?_⟩
    · rw [State.inst, State.setInst, SMap.get_set]
      split
      · rename_i hj; rw [hj]
      · rfl
    · refine tagsUsed_touched hwf _ rfl fun hdef => ?_
      have htouched := congrArg FlowCtx.touched hdef
      exact absurd htouched (List.append_ne_nil_of_right_ne_nil _ (List.cons_ne_nil _ _))

/-! ### A record in the cache -/

theorem recSize_cases (s : State) : s.recSize = 64 ∨ s.recSize = 128 ∨ s.recSize = 256 := by
  have h4 : s.fld Reg.fleGeom 31 30 < 4 := Wbits_lt _ 31 30
  rw [State.recSize]
  generalize s.fld Reg.fleGeom 31 30 = n at *
  interval_cases n <;> simp

theorem missingAtoms_cached (hc : s.cached key) : s.missingAtoms key s.allAtoms = [] := by
  rw [State.missingAtoms, List.filter_eq_nil_iff]
  intro n hn
  obtain ⟨h4, hbit⟩ : n < 4 ∧ bitAt s.allAtoms n = true := by simpa [setBits] using hn
  have hatoms : n < s.recSize / 64 := by
    rw [State.allAtoms] at hbit
    rcases recSize_cases s with h | h | h <;> rw [h] at hbit ⊢ <;> interval_cases n <;> simp_all <;> revert hbit <;> decide
  simp [hc n hatoms]

theorem have_ne_zero (hc : s.cached key) : (s.flow.lines.get key).have_ ≠ 0 := by
  intro hzero
  have hbit := hc 0 (by rcases recSize_cases s with h | h | h <;> rw [h] <;> decide)
  rw [hzero] at hbit
  exact absurd hbit (by decide)

theorem fillLine_flowAs (hmissing : s.missingAtoms key i = []) : s.FlowAs (s.fillLine key i) := by
  rw [State.fillLine, hmissing]
  have hline : ∀ l : FlowLine, l.have_ = (s.flow.lines.get key).have_ → l.data = (s.flow.lines.get key).data → ∀ k,
      ((s.flow.lines.set key l).get k).have_ = (s.flow.lines.get k).have_ ∧
        ((s.flow.lines.set key l).get k).data = (s.flow.lines.get k).data := by
    intro l hhave hdata k
    rw [SMap.get_set]
    split
    · rename_i hk; rw [hk]; exact ⟨hhave, hdata⟩
    · exact ⟨rfl, rfl⟩
  exact ⟨rfl, rfl, rfl, rfl, rfl, rfl, fun _ _ _ => rfl, fun _ _ => rfl, 
    fun k => (hline { s.flow.lines.get key with used := s.flow.uses + 1 } rfl rfl k).1,
    fun k => (hline { s.flow.lines.get key with used := s.flow.uses + 1 } rfl rfl k).2, fun _ => rfl, rfl⟩

/-- An access to a record in the cache finds every atom there. -/
theorem fetchAtoms_cached (hc : s.cached key) : ∃ t, s.fetchAtoms key s.allAtoms = some t ∧ s.FlowAs t ∧
    t.flow.insts = s.flow.insts := by
  have hmissing := missingAtoms_cached hc
  have hroom : s.makeRoom key = some s := if_pos (have_ne_zero hc)
  refine ⟨(s.fillLine key s.allAtoms).bump (sliceCnt (keySlice key) 0), ?_, ?_, rfl⟩
  · simp only [State.fetchAtoms, hroom, hmissing, if_true]
  · exact (fillLine_flowAs hmissing).trans (counting_bump 1).flowAs

theorem opStarted_flowAs (n : Nat) : s.FlowAs (s.opStarted n) ∧ (s.opStarted n).flow.insts = s.flow.insts :=
  ⟨(counting_count ..).flowAs, by rw [State.opStarted, (counting_count ..).flow_eq]⟩

/-! ### What staging leaves -/

theorem touchRec_eq (s : State) (i key : Nat) : s.touchRec i key = { s with flow.insts := (s.touchRec i key).flow.insts } := by
  unfold State.touchRec
  dsimp only
  split <;> rfl

theorem stage_eq (s : State) (i key : Nat) (e : LogEntry) : s.stage i key e = { s with
    flow.insts := (s.stage i key e).flow.insts
    flow.seq := s.flow.seq + 1
    flow.logs := s.flow.logs.mod key fun l => l ++ [{ e with seq := s.flow.seq, inst := i }] } := by
  unfold State.stage
  dsimp only
  rw [touchRec_eq]
  rfl

theorem mem_stage (s : State) (i key : Nat) (e : LogEntry) : (s.stage i key e).mem = s.mem := by rw [stage_eq]
theorem rd_stage (s : State) (i key : Nat) (e : LogEntry) (a : Nat) : (s.stage i key e).rd a = s.rd a := by rw [stage_eq]; rfl

theorem log_stage (s : State) (i key : Nat) (e : LogEntry) (k : Nat) : (s.stage i key e).log k =
    if k = key then s.log key ++ [{ e with seq := s.flow.seq, inst := i }] else s.log k := by
  rw [State.log, stage_eq]
  exact SMap.get_mod ..

theorem committed_stage (s : State) (i key : Nat) (e : LogEntry) (k : Nat) : (s.stage i key e).committed k = s.committed k := by
  rw [stage_eq]; rfl

/-- The speculative image after one more entry (R544). -/
theorem speculative_stage (s : State) (i key : Nat) (e : LogEntry) (hfn : e.fn ≠ 1) : (s.stage i key e).speculative key =
    (applyEntry s.recSize key 0 (s.speculative key) e).1 := by
  have hrec : (s.stage i key e).recSize = s.recSize := by rw [stage_eq]; rfl
  have hhash : ∀ x, (s.stage i key e).entryHash x = s.entryHash x := fun x => by rw [stage_eq]; rfl
  rw [State.speculative, log_stage, if_pos rfl, committed_stage, List.foldl_append, List.foldl_cons, List.foldl_nil]
  simp only [hrec, hhash]
  have hentry : s.entryHash { e with seq := s.flow.seq, inst := i } = 0 := if_neg hfn
  rw [hentry, State.speculative]
  rfl

/-! ### What an accepted call leaves -/

section
variable {cl e th c unit p : Nat} {rs : List Nat} {put : Nat × List Byte}

theorem called_eq : s.called t cl e th unit p rs put = { t with flume := (s.called t cl e th unit p rs put).flume } := by
  rw [State.called, State.completed, State.holdRepx_eq]
  rfl

theorem log_called (k : Nat) : (s.called t cl e th unit p rs put).log k = t.log k := by rw [called_eq]; rfl
theorem speculative_called (k : Nat) : (s.called t cl e th unit p rs put).speculative k = t.speculative k := by rw [called_eq]; rfl
theorem committed_called (k : Nat) : (s.called t cl e th unit p rs put).committed k = t.committed k := by rw [called_eq]; rfl
theorem mem_called : (s.called t cl e th unit p rs put).mem = t.mem := by rw [called_eq]
theorem rd_called (a : Nat) : (s.called t cl e th unit p rs put).rd a = t.rd a := by rw [called_eq]; rfl

theorem wait_called : ((s.called t cl e th unit p rs put).thr cl e th).wait = some
    { pc := (s.arch (.pe cl e th)).faultPc, unit := unit, results := rs.reverse.map (BitVec.ofNat 32), put := put } := by
  rw [State.called, State.thr_completed, State.setWait, State.thr_setThr]

theorem ds_called (hpend : (s.arch (.pe cl e th)).pend = []) :
    ((s.called t cl e th unit p rs put).arch (.pe cl e th)).ds = (s.arch (.pe cl e th)).ds.drop p := by
  rw [State.arch, State.called, State.thr_completed]
  have hsettle := settle_nil (a := { s.arch (.pe cl e th) with ds := (s.arch (.pe cl e th)).ds.drop p }) hpend
  simp only [completeArch, hsettle, if_true]
  split <;> rfl

end

/-! ### Operations by handle -/

section
variable {cl e th c fn q : Nat} {args r : List Word} {img : List Byte}

theorem arg_map {d : Call} (hargs : d.args = args.map BitVec.toNat) (i : Nat) : d.arg i = (args.getD i 0).toNat := by
  rw [Call.arg, hargs, List.getD_eq_getElem?_getD, List.getD_eq_getElem?_getD, List.getElem?_map]
  cases args[i]? <;> rfl

/-- The unit at an operation by handle whose record is in the cache and valid (R513, R536). -/
theorem acceptHandle_cached {d : Call} (hargs : d.args = args.map BitVec.toNat)
    (hok : s.handleOk (args.getD 0 0).toNat (args.getD 1 0).toNat = true) (hkey : handleKey (args.getD 0 0).toNat = key)
    (hc : s.cached key) : ∃ t, s.FlowAs t ∧ t.flow.insts = s.flow.insts ∧
      acceptHandle s d = onRecord s t d (s.instOf d.ctx) key := by
  obtain ⟨t, hfetch, htas, hinsts⟩ := fetchAtoms_cached hc
  obtain ⟨hsas, hsinsts⟩ := opStarted_flowAs (s := t) (keySlice key)
  refine ⟨_, htas.trans hsas, hsinsts.trans hinsts, ?_⟩
  simp only [acceptHandle, arg_map hargs, hok, Bool.not_true, Bool.false_eq_true, if_false, hkey, hfetch]

theorem FlowAs_handleOk (h : s.FlowAs t) (lo hi : Nat) : t.handleOk lo hi = s.handleOk lo hi := by
  simp only [State.handleOk, State.buckets, h.fld (show Reg.fleGeom < 0x700000 by decide)]
  rfl

theorem FlowAs_ingressNs (h : s.FlowAs t) (n : Nat) : t.ingressNs n = s.ingressNs n := by
  simp only [State.ingressNs, h.tb]

theorem FlowAs_ctx (h : s.FlowAs t) (n : Nat) : t.ctx n = s.ctx n := by rw [State.ctx, h.dsp, State.ctx]
theorem FlowAs_instOf (h : s.FlowAs t) (n : Nat) : t.instOf n = s.instOf n := by rw [State.instOf, h.dsp, State.instOf]

/-- The entry an operation by handle stages. -/
def State.handleStaged (s : State) (cl c fn : Nat) (args : List Word) : LogEntry :=
  handleEntry (callOf cl c fn args) (s.ctx c) (s.ingressNs (s.ctx c).ts80)

/-- An operation by handle on a valid record in the cache: `u` is the state with the record counted as operated on. -/
theorem acceptFlow_handle (h : s.atHandle cl e th c fn q args r key img) (hwf : s.flow.insts.wf = true)
    (hfn : 2 ≤ fn) (hfn' : fn < 16) (hbad : (callOf cl c fn args).bad s.recSize = none) :
    ∃ u, s.FlowAs u ∧ acceptCall 8 (s.counted (.pe cl e th)) (callOf cl c fn args) =
      if fn = 3 then .done u [0] ((callOf cl c fn args).arg 3)
        (slice img ((callOf cl c fn args).arg 2) ((callOf cl c fn args).arg 4))
      else
        let rs := (applyEntry s.recSize key 0 img (s.handleStaged cl c fn args)).2
        if rs.head? = some 0 then stageOr (s.counted (.pe cl e th)) u (callOf cl c fn args) (s.instOf c) key
          { s.handleStaged cl c fn args with results := rs } (handleLo key)
        else .done u rs := by
  obtain ⟨-, hok, hkey, hc, himg, hvalid, hgen⟩ := h
  have hk := flowAs_counted (s := s) cl e th
  obtain ⟨t, htas, hinsts, haccept⟩ := acceptHandle_cached (s := s.counted (.pe cl e th)) (d := callOf cl c fn args) rfl
    (by rw [FlowAs_handleOk hk, hok]) hkey (hk.cached _ hc)
  have hst := hk.trans htas
  have hwf' : t.flow.insts.wf = true := by rw [hinsts, State.counted_flow]; exact hwf
  have htouch := touchRec_flowAs (i := s.instOf c) (key := key) hwf'
  refine ⟨t.touchRec (s.instOf c) key, hst.trans htouch, ?_⟩
  have hd : (callOf cl c fn args).fn = fn := rfl
  have hdc : (callOf cl c fn args).ctx = c := rfl
  have hgen1 : (callOf cl c fn args).arg 1 = (args.getD 1 0).toNat := arg_map rfl 1
  have hspec : t.speculative key = img := by rw [hst.speculative, himg]
  have hflow : acceptCall 8 (s.counted (.pe cl e th)) (callOf cl c fn args) =
      acceptHandle (s.counted (.pe cl e th)) (callOf cl c fn args) := by
    change acceptFlow _ _ = _
    rw [acceptFlow, if_neg (by rw [hd]; omega), hk.recSize, hbad]
    exact if_neg (by rw [hd]; omega)
  rw [hflow, haccept, onRecord]
  simp only [hspec, hvalid, hgen, hgen1, hd, hdc, FlowAs_instOf hk, FlowAs_ctx hk, FlowAs_ingressNs hk, hst.recSize,
    State.handleStaged, Bool.not_true, Bool.false_or, bne_self_eq_false, Bool.false_eq_true, if_false]
  rfl

theorem stageOr_done {d : Call} {i n : Nat} {en : LogEntry} (h : t.mayStage i key) :
    stageOr s t d i key en n = .done (t.stage i key en) en.results := by
  simp only [stageOr, h.1, h.2]

/-- An operation whose entry takes effect is staged (R538, R543, R544). -/
theorem handle_stages {img' : List Byte} {rs : List Nat} (h : s.atHandle cl e th c fn (q + 1) args r key img)
    (hm : s.mayStage (s.instOf c) key) (hwf : s.flow.insts.wf = true) (hfn : 2 ≤ fn ∧ fn ≠ 3 ∧ fn < 16)
    (hbad : (callOf cl c fn args).bad s.recSize = none)
    (happly : applyEntry s.recSize key 0 img (s.handleStaged cl c fn args) = (img', 0 :: rs)) :
    ∃ t, issue (.pe cl e th) (callSpec 8 fn args.length (q + 1)) s (callBody (.pe cl e th) 8 fn args.length (q + 1)) = .next t ∧
      s.stages t cl e th c key ((0 :: rs).map (BitVec.ofNat 32)) r img' := by
  obtain ⟨u, hu, haccept⟩ := acceptFlow_handle h hwf hfn.1 hfn.2.2 hbad
  obtain ⟨hcall, -, -, -, himg, -, -⟩ := h
  have hentry : (s.handleStaged cl c fn args).fn ≠ 1 := by
    have hfn' : (s.handleStaged cl c fn args).fn = fn := by
      rw [State.handleStaged, handleEntry]; split <;> rfl
    omega
  rw [if_neg hfn.2.1, happly] at haccept
  dsimp only at haccept
  rw [if_pos (List.head?_cons ..), stageOr_done (hu.mayStage _ _ hm)] at haccept
  have hds := hcall.2.2.2.1
  refine ⟨_, issue_call_done hcall haccept, ?_⟩
  generalize hen : ({ s.handleStaged cl c fn args with results := 0 :: rs } : LogEntry) = en at *
  have hen1 : en.fn ≠ 1 := by rw [← hen]; exact hentry
  have happly' : ∀ k, applyEntry s.recSize key k img en = applyEntry s.recSize key k img (s.handleStaged cl c fn args) :=
    fun k => by rw [← hen]; rfl
  refine ⟨?_, fun hpend => ?_, ?_, ?_, fun k hk => ?_, ⟨{ en with seq := u.flow.seq, inst := s.instOf c }, ?_, rfl⟩, ?_, fun a ha => ?_⟩
  · rw [wait_called, ← hen, ← List.map_reverse]
  · rw [ds_called hpend, hds, List.drop_left' (by simp)]
  · rw [speculative_called, speculative_stage _ _ _ _ hen1, hu.recSize, hu.speculative, himg, happly', happly]
  · rw [committed_called, committed_stage, hu.committed]
  · rw [log_called, log_stage, if_neg hk, hu.log]
  · rw [log_called, log_stage, if_pos rfl, hu.log]
  · rw [mem_called, mem_stage, hu.mem]
  · rw [rd_called, rd_stage, hu.rd a ha]

/-- An operation that takes no effect, or a read: its results and bytes, and no log changed. -/
theorem handle_answers {u : State} {rs : List Nat} {o : Nat} {bs : List Byte} (hcall : s.atCall cl e th c 8 fn (q + 1) args r)
    (hu : s.FlowAs u) (haccept : acceptCall 8 (s.counted (.pe cl e th)) (callOf cl c fn args) = .done u rs o bs) :
    ∃ t, issue (.pe cl e th) (callSpec 8 fn args.length (q + 1)) s (callBody (.pe cl e th) 8 fn args.length (q + 1)) = .next t ∧
      (t.thr cl e th).wait = some { pc := (s.arch (.pe cl e th)).faultPc, unit := 8, results := rs.reverse.map (BitVec.ofNat 32),
                                    put := (o, bs) } ∧
      (∀ k, t.log k = s.log k) ∧ t.mem = s.mem := by
  refine ⟨_, issue_call_done hcall haccept, wait_called, fun k => ?_, ?_⟩
  · rw [log_called, hu.log]
  · rw [mem_called, hu.mem]

end

end

end Sys2Proof.Machine
end

section
/-! PROOFS. Flow operations by handle settled (R536–R541, R544). -/
namespace Sys2Proof.Machine

/-! ### Fields of an image -/

theorem leBytes_mod (n k : Nat) : leBytes (n % 2 ^ (8 * k)) k = leBytes n k := by
  induction k generalizing n with
  | zero => rfl
  | succ k ih =>
    have hpow : 2 ^ (8 * (k + 1)) = 256 * 2 ^ (8 * k) := by rw [Nat.mul_succ, Nat.pow_add, Nat.mul_comm]
    have hhead : BitVec.ofNat 8 (n % 2 ^ (8 * (k + 1))) = BitVec.ofNat 8 n := by
      apply BitVec.eq_of_toNat_eq
      rw [BitVec.toNat_ofNat, BitVec.toNat_ofNat, hpow]
      exact Nat.mod_mod_of_dvd _ (Dvd.intro _ rfl)
    rw [leBytes, leBytes, hhead, hpow, Nat.mod_mul_right_div_self, ih]

theorem leNat_lt (l : List Byte) : leNat l < 2 ^ (8 * l.length) := by
  induction l with
  | nil => decide
  | cons b l ih =>
    have hb : b.toNat < 256 := b.isLt
    rw [leNat, List.length_cons, Nat.mul_succ, Nat.pow_add]
    omega

theorem fieldOf_lt (img : List Byte) (o n : Nat) : fieldOf img o n < 2 ^ (8 * n) := by
  have h := leNat_lt (slice img o n)
  rwa [slice, List.length_map, List.length_range] at h

/-- The bits of `y` removed from a word (R536). -/
theorem sub_land_eq {v : Nat} (hv : v < 2 ^ 32) (y : Word) : v - Nat.land v y.toNat = (BitVec.ofNat 32 v &&& ~~~y).toNat := by
  have hdisjoint : (BitVec.ofNat 32 v &&& y) &&& (BitVec.ofNat 32 v &&& ~~~y) = 0#32 := by
    ext i
    simp only [BitVec.getElem_and, BitVec.getElem_not, BitVec.getElem_zero]
    cases y[i] <;> simp
  have hsplit : (BitVec.ofNat 32 v &&& y) + (BitVec.ofNat 32 v &&& ~~~y) = BitVec.ofNat 32 v := by
    rw [BitVec.add_eq_or_of_and_eq_zero _ _ hdisjoint]
    ext i; simp
    cases y[i] <;> simp
  have hsum := BitVec.toNat_add_of_and_eq_zero hdisjoint
  have hv' : (BitVec.ofNat 32 v).toNat = v := Nat.mod_eq_of_lt hv
  have hand : (BitVec.ofNat 32 v &&& y).toNat = Nat.land v y.toNat := by rw [BitVec.toNat_and, hv']; rfl
  rw [hsplit, hv', hand] at hsum
  omega

theorem lor_eq {v : Nat} (hv : v < 2 ^ 32) (y : Word) : Nat.lor v y.toNat = (BitVec.ofNat 32 v ||| y).toNat := by
  rw [BitVec.toNat_or, BitVec.toNat_ofNat, Nat.mod_eq_of_lt hv]; rfl

theorem signed_toNat (y : Word) : signed y.toNat 32 = y.toInt := by
  have hy : y.toNat % 2 ^ 32 = y.toNat := Nat.mod_eq_of_lt y.isLt
  rw [signed, hy, BitVec.toInt_eq_toNat_cond]
  split_ifs <;> first | rfl | omega

/-- The sum of FADD64 (R536). -/
theorem unsigned_add_signed (v : Nat) (y : Word) :
    unsigned ((v : Int) + signed y.toNat 32) 64 = (BitVec.ofNat 64 v + y.signExtend 64).toNat := by
  have hofInt : BitVec.ofInt 64 ((v : Int) + y.toInt) = BitVec.ofNat 64 v + y.signExtend 64 := by
    rw [BitVec.ofInt_add, BitVec.ofInt_natCast]; rfl
  rw [signed_toNat, ← hofInt, BitVec.toNat_ofInt, unsigned]

/-- The token bucket of R541: what it charges, and what it then holds. -/
theorem policeBlock_spec (last tokens rate burst now len : Nat) :
    let b := policeBlock last tokens rate burst now len
    let have_ := if now ≤ last then tokens else min burst (tokens + (now - last) * rate / 256)
    (len * 256 ≤ have_ → b.2.2 = 0 ∧ b.2.1 = have_ - len * 256) ∧ (have_ < len * 256 → b.2.2 = 1 ∧ b.2.1 = have_) ∧
      b.1 = max last now ∧ (tokens ≤ burst → b.2.1 ≤ burst) := by
  intro b have_
  have htokens : (if last < now then min burst (tokens + (now - last) * rate / 256) else tokens) = have_ := by
    simp only [have_]
    split_ifs <;> first | rfl | omega
  have hlast : (if last < now then now else last) = max last now := by split_ifs <;> omega
  have hb : b = if len * 256 ≤ have_ then (max last now, have_ - len * 256, 0) else (max last now, have_, 1) := by
    simp only [b, policeBlock, htokens, hlast]
  have hburst : tokens ≤ burst → have_ ≤ burst := fun h => by
    simp only [have_]
    split_ifs
    · exact h
    · exact Nat.min_le_left _ _
  rw [hb]
  split_ifs with hcost
  · exact ⟨fun _ => ⟨rfl, rfl⟩, fun h => absurd hcost (by omega), rfl, fun h => (Nat.sub_le _ _).trans (hburst h)⟩
  · exact ⟨fun h => absurd h hcost, fun _ => ⟨rfl, rfl⟩, rfl, hburst⟩

theorem fieldOk_iff {rs n al : Nat} {x : Word} : fieldOk rs x.toNat n al = true ↔
    x.toNat % al = 0 ∧ writeBase rs ≤ x.toNat ∧ x.toNat + n ≤ rs := by
  simp [fieldOk, and_assoc]

theorem slice_bytes (x : Ctx) {o n i k : Nat} (h : i + k ≤ n) : slice (x.bytes o n) i k = x.bytes (o + i) k := by
  rw [slice, Ctx.bytes, Ctx.bytes]
  refine List.map_congr_left fun j hj => ?_
  have hj' : i + j < n := by have := List.mem_range.mp hj; omega
  rw [byteAt, List.getD_eq_getElem _ _ (by simpa using hj')]
  simp [Nat.add_assoc]

section
variable {img : List Byte} {en : LogEntry} {n key hs : Nat}

/-- FADD64 on a valid record (R536). -/
theorem applyEntry_fadd64 (hvalid : recValid img = true) (hgen : recGen img = en.gen) (hfn : en.fn = 6) :
    applyEntry n key hs img en =
      (imgPut img en.roff (leBytes (unsigned ((fieldOf img en.roff 8 : Int) + signed en.x 32) 64) 8),
        [0, fieldOf img en.roff 8 % 2 ^ 32, fieldOf img en.roff 8 / 2 ^ 32]) := by
  simp only [applyEntry, hvalid, hgen, hfn, Bool.not_true, bne_self_eq_false, Bool.or_self, Bool.false_eq_true, if_false,
    Nat.reduceEqDiff, if_true]

/-- POLICE on a valid record (R536, R541). -/
theorem applyEntry_police (hvalid : recValid img = true) (hgen : recGen img = en.gen) (hfn : en.fn = 14) :
    applyEntry n key hs img en =
      let b := policeBlock (fieldOf img en.roff 8) (fieldOf img (en.roff + 8) 4) (leNat (slice en.bytes 0 4))
        (leNat (slice en.bytes 4 4)) en.ns en.x
      (imgPut img en.roff (leBytes b.1 8 ++ leBytes b.2.1 4 ++ leBytes 0 4), [0, b.2.2]) := by
  simp only [applyEntry, hvalid, hgen, hfn, Bool.not_true, bne_self_eq_false, Bool.or_self, Bool.false_eq_true, if_false,
    Nat.reduceEqDiff, if_true]

/-- CAS32 on a valid record (R536). -/
theorem applyEntry_cas (hvalid : recValid img = true) (hgen : recGen img = en.gen) (hfn : en.fn = 7) :
    applyEntry n key hs img en = if fieldOf img en.roff 4 = en.x then (imgPut img en.roff (leBytes en.y 4), [0, fieldOf img en.roff 4])
      else (img, [6, fieldOf img en.roff 4]) := by
  simp only [applyEntry, hvalid, hgen, hfn, Bool.not_true, bne_self_eq_false, Bool.or_self, Bool.false_eq_true, if_false,
    Nat.reduceEqDiff, if_true]

end

/-- Settles O26: each operation's entry takes effect on the valid record and is staged; a read and a failed compare leave
every log as it was. -/
theorem flowOperationsByHandle : Obligations.FlowOperationsByHandle := by
  refine ⟨fun cl e th c key s lo hi x y z r img => ?_, policeBlock_spec⟩
  intro w ns bytes old put field one hm hwf
  have hold : old < 2 ^ 32 := fieldOf_lt img x.toNat 4
  have hput : ∀ v, put (v % 2 ^ 32) = put v := fun v => congrArg (imgPut img x.toNat) (leBytes_mod v 4)
  refine ⟨fun h => ?delete, fun h hlo hhi hend hdst => ?read, fun h hlo hhi hsrc hf => ?write, fun h hf => ?fadd32, fun h hf => ?fadd64,
    fun h hf => ⟨fun heq => ?cas, fun hne => ?casFails⟩, fun h hf => ?minu, fun h hf => ?maxu, fun h hf => ?setbits,
    fun h hf => ?clrbits, fun h hf => ?stamp, fun h hx => ?account, fun h hz hy hf => ?police, fun h => ?exportOp⟩
  all_goals obtain ⟨hvalid, hgen⟩ := h.2.2.2.2.2
  all_goals simp only [List.getD_cons_succ, List.getD_cons_zero] at hgen
  case delete =>
    exact handle_stages h hm hwf (by decide) rfl (rs := []) (by
      simp [applyEntry, State.handleStaged, handleEntry, callOf, Call.arg, hvalid, hgen])
  case read =>
    have hbad : (callOf cl c 3 [lo, hi, x, y, z]).bad s.recSize = none := by
      simp [Call.bad, callOf, Call.arg, dstRange_iff.mpr hdst, hend, hhi]
      omega
    obtain ⟨u, hu, haccept⟩ := acceptFlow_handle h hwf (by decide) (by decide) hbad
    exact handle_answers h.1 hu (haccept.trans (if_pos rfl))
  case write =>
    have hbad : (callOf cl c 4 [lo, hi, x, y, z]).bad s.recSize = none := by
      simp [Call.bad, callOf, Call.arg, srcRange_iff.mpr hsrc, fieldOk_iff.mpr hf, hhi]
      omega
    exact handle_stages h hm hwf (by decide) hbad (rs := []) (by
      simp [applyEntry, State.handleStaged, handleEntry, callOf, Call.arg, hvalid, hgen]; rfl)
  case fadd32 =>
    rw [hput]
    exact handle_stages h hm hwf (by decide) (if_pos (fieldOk_iff.mpr hf)) (rs := [old]) (by
      simp [applyEntry, State.handleStaged, handleEntry, callOf, Call.arg, hvalid, hgen, rmw32]; exact ⟨rfl, rfl⟩)
  case fadd64 =>
    intro v
    have hresults := handle_stages h hm hwf (by decide) (if_pos (fieldOk_iff.mpr hf))
      (applyEntry_fadd64 (en := s.handleStaged cl c 6 [lo, hi, x, y]) hvalid hgen rfl)
    have hlow : BitVec.ofNat 32 (v % 2 ^ 32) = BitVec.ofNat 32 v := by
      apply BitVec.eq_of_toNat_eq; rw [BitVec.toNat_ofNat, BitVec.toNat_ofNat, Nat.mod_mod]
    rw [← unsigned_add_signed, ← hlow]
    exact hresults
  case cas =>
    exact handle_stages h hm hwf (by decide) (if_pos (fieldOk_iff.mpr hf))
      ((applyEntry_cas (en := s.handleStaged cl c 7 [lo, hi, x, y, z]) hvalid hgen rfl).trans (if_pos heq))
  case casFails =>
    obtain ⟨u, hu, haccept⟩ := acceptFlow_handle h hwf (by decide) (by decide) (if_pos (fieldOk_iff.mpr hf))
    rw [(applyEntry_cas (en := s.handleStaged cl c 7 [lo, hi, x, y, z]) hvalid hgen rfl).trans (if_neg hne)] at haccept
    obtain ⟨t, hstep, hwait, hlog, -⟩ := handle_answers h.1 hu haccept
    exact ⟨t, hstep, hwait, hlog⟩
  case minu =>
    exact handle_stages h hm hwf (by decide) (if_pos (fieldOk_iff.mpr hf)) (rs := [old]) (by
      simp [applyEntry, State.handleStaged, handleEntry, callOf, Call.arg, hvalid, hgen, rmw32]; exact ⟨rfl, rfl⟩)
  case maxu =>
    exact handle_stages h hm hwf (by decide) (if_pos (fieldOk_iff.mpr hf)) (rs := [old]) (by
      simp [applyEntry, State.handleStaged, handleEntry, callOf, Call.arg, hvalid, hgen, rmw32]; exact ⟨rfl, rfl⟩)
  case setbits =>
    rw [← lor_eq hold]
    exact handle_stages h hm hwf (by decide) (if_pos (fieldOk_iff.mpr hf)) (rs := [old]) (by
      simp [applyEntry, State.handleStaged, handleEntry, callOf, Call.arg, hvalid, hgen, rmw32]; exact ⟨rfl, rfl⟩)
  case clrbits =>
    rw [← sub_land_eq hold]
    exact handle_stages h hm hwf (by decide) (if_pos (fieldOk_iff.mpr hf)) (rs := [old]) (by
      simp [applyEntry, State.handleStaged, handleEntry, callOf, Call.arg, hvalid, hgen, rmw32]; exact ⟨rfl, rfl⟩)
  case stamp =>
    exact handle_stages h hm hwf (by decide) (if_pos (fieldOk_iff.mpr hf)) (rs := []) (by
      simp [applyEntry, State.handleStaged, handleEntry, callOf, Call.arg, hvalid, hgen]; rfl)
  case account =>
    exact handle_stages h hm hwf (by decide) (if_neg (by simpa [callOf, Call.arg] using hx)) (rs := []) (by
      simp [applyEntry, State.handleStaged, handleEntry, callOf, Call.arg, hvalid, hgen]; rfl)
  case police =>
    intro b
    have hbad : (callOf cl c 14 [lo, hi, x, y, z]).bad s.recSize = none := by
      simp [Call.bad, callOf, Call.arg, srcRange_iff.mpr hy, fieldOk_iff.mpr hf, hz]
    have happly := applyEntry_police (n := s.recSize) (key := key) (hs := 0) (en := s.handleStaged cl c 14 [lo, hi, x, y, z])
      hvalid hgen rfl
    have hbytes : (s.handleStaged cl c 14 [lo, hi, x, y, z]).bytes = (s.ctx c).bytes y.toNat 8 := rfl
    rw [hbytes, slice_bytes _ (by decide), slice_bytes _ (by decide)] at happly
    exact handle_stages h hm hwf (by decide) hbad happly
  case exportOp =>
    exact handle_stages h hm hwf (by decide) rfl (rs := []) (by
      simp [applyEntry, State.handleStaged, handleEntry, callOf, Call.arg, hvalid, hgen])

end Sys2Proof.Machine
end

section
/-! PROOFS. Keyed flow operations and ABORT settled (R500–R502, R522, R536, R537, R555). -/
namespace Sys2Proof.Machine

/-! ### Sums over the entries of a sparse map -/

section
variable {V : Type} [DecidableEq V] [Inhabited V] {m : SMap V} {f : V → Nat}

/-- What `f` shows of the values listed, summed. -/
def SMap.total (f : V → Nat) (m : SMap V) : Nat := (m.entries.map fun e => f e.2).sum

theorem sum_smapPut {l : List (Nat × V)} (hrise : SMap.rising l = true) (hf : f default = 0) (k : Nat) (v : V) :
    ((smapPut l k v).map fun e => f e.2).sum + f ((smapFind l k).getD default) = (l.map fun e => f e.2).sum + f v := by
  induction l with
  | nil => simp [smapPut, smapFind, hf]
  | cons e r ih =>
    obtain ⟨a, w⟩ := e
    obtain ⟨habove, hr⟩ := (SMap.rising_cons _ _).mp hrise
    rw [smapPut, smapFind]
    split_ifs with hlt heq hak hak
    · omega
    · have hnone : smapFind r k = none := by
        by_contra hne
        obtain ⟨x, hx⟩ := Option.ne_none_iff_exists'.mp hne
        have hak : a < k := habove _ ((smapFind_eq_some_iff hr k x).mp hx)
        omega
      simp only [hnone, Option.getD_none, hf, List.map_cons, List.sum_cons]; omega
    · simp only [Option.getD_some, List.map_cons, List.sum_cons]; omega
    · omega
    · omega
    · have := ih hr
      simp only [List.map_cons, List.sum_cons]; omega

theorem sum_smapErase {l : List (Nat × V)} (hrise : SMap.rising l = true) (hf : f default = 0) (k : Nat) :
    ((smapErase l k).map fun e => f e.2).sum + f ((smapFind l k).getD default) = (l.map fun e => f e.2).sum := by
  induction l with
  | nil => simp [smapErase, smapFind, hf]
  | cons e r ih =>
    obtain ⟨a, w⟩ := e
    obtain ⟨habove, hr⟩ := (SMap.rising_cons _ _).mp hrise
    have := ih hr
    by_cases hak : a = k
    · subst hak
      have hrest : smapErase ((a, w) :: r) a = r := by
        rw [smapErase, List.filter_cons_of_neg (by simp)]
        refine List.filter_eq_self.mpr fun e he => ?_
        have := habove e he
        simp only [bne_iff_ne, ne_eq]; omega
      simp only [hrest, smapFind, if_true, Option.getD_some, List.map_cons, List.sum_cons]; omega
    · have hrest : smapErase ((a, w) :: r) k = (a, w) :: smapErase r k := List.filter_cons_of_pos (by simpa using hak)
      rw [hrest, smapFind, if_neg hak]
      simp only [List.map_cons, List.sum_cons]; omega

/-- One value replaced. -/
theorem SMap.total_set (hwf : m.wf = true) (hf : f default = 0) (k : Nat) (v : V) :
    SMap.total f (m.set k v) + f (m.get k) = SMap.total f m + f v := by
  have hrise : SMap.rising m.entries = true := (Bool.and_eq_true_iff.mp hwf).1
  simp only [SMap.total, SMap.set, SMap.setD, SMap.get, SMap.getD]
  split_ifs with hv
  · rw [sum_smapErase hrise hf, hv, hf, Nat.add_zero]
  · exact sum_smapPut hrise hf k v

/-- A sum to which no value read adds anything. -/
theorem SMap.total_eq_zero (hwf : m.wf = true) (h : ∀ k, f (m.get k) = 0) : SMap.total f m = 0 := by
  have hrise : SMap.rising m.entries = true := (Bool.and_eq_true_iff.mp hwf).1
  refine List.sum_eq_zero fun x hx => ?_
  obtain ⟨⟨k, v⟩, he, rfl⟩ := List.mem_map.mp hx
  have hget : m.get k = v := by rw [SMap.get, SMap.getD, (smapFind_eq_some_iff hrise k v).mpr he]; rfl
  rw [← h k, hget]

end

/-! ### ABORT (R555) -/

/-- The entries of instance `j` in a log. -/
def instCount (j : Nat) (l : List LogEntry) : Nat := (l.filter fun e => e.inst == j).length

section
variable {s t : State} {i j key : Nat} {e : LogEntry}

theorem stagedOf_eq : s.stagedOf j = SMap.total (instCount j) s.flow.logs := rfl

/-- A log replaced by one with as many entries of an instance. -/
theorem stagedOf_set (hwf : s.flow.logs.wf = true) {l : List LogEntry} (hl : instCount j l = instCount j (s.log key)) :
    State.stagedOf { s with flow.logs := s.flow.logs.set key l } j = s.stagedOf j := by
  have h := SMap.total_set hwf (f := instCount j) rfl key l
  rw [hl] at h
  rw [stagedOf_eq, stagedOf_eq]
  exact Nat.add_right_cancel h

theorem instCount_takeOver (l : List LogEntry) : instCount j (takeOver e l) = instCount j l := by
  induction l with
  | nil => rfl
  | cons x l ih =>
    rw [takeOver]
    unfold instCount at *
    split_ifs
    · by_cases hx : x.inst = j <;> simp [hx]
    · by_cases hx : x.inst = j <;> simp [hx, ih]

/-- Removing a cancelled entry leaves as many entries of each instance, record by record. -/
theorem dropEntry_counts (hwf : s.flow.logs.wf = true) (k : Nat) : (s.dropEntry key e).flow.logs.wf = true ∧
    (s.dropEntry key e).stagedOf j = s.stagedOf j ∧ instCount j ((s.dropEntry key e).log k) = instCount j (s.log k) := by
  unfold State.dropEntry
  split_ifs
  · refine ⟨SMap.wf_set hwf _ _, stagedOf_set hwf (instCount_takeOver _), ?_⟩
    rw [State.log, SMap.get_mod]
    split_ifs with hk
    · rw [instCount_takeOver, hk]; rfl
    · rfl
  · exact ⟨hwf, rfl, rfl⟩

theorem foldl_dropEntry_counts (k : Nat) (es : List LogEntry) : ∀ s : State, s.flow.logs.wf = true →
    (es.foldl (fun u e => u.dropEntry key e) s).flow.logs.wf = true ∧
    (es.foldl (fun u e => u.dropEntry key e) s).stagedOf j = s.stagedOf j ∧
    instCount j ((es.foldl (fun u e => u.dropEntry key e) s).log k) = instCount j (s.log k) := by
  induction es with
  | nil => exact fun s hwf => ⟨hwf, rfl, rfl⟩
  | cons e es ih =>
    intro s hwf
    obtain ⟨hwf', hstaged, hcount⟩ := dropEntry_counts (key := key) (e := e) (j := j) hwf k
    obtain ⟨h1, h2, h3⟩ := ih _ hwf'
    exact ⟨h1, h2.trans hstaged, h3.trans hcount⟩

/-- The entries of an instance removed from one record's log. -/
def State.abortKey (i : Nat) (s : State) (key : Nat) : State :=
  ((s.log key).filter fun e => e.inst == i).foldl (fun u e => u.dropEntry key e)
    { s with flow.logs := s.flow.logs.set key ((s.log key).filter fun e => e.inst != i) }

theorem instCount_kept (l : List LogEntry) : instCount j (l.filter fun e => e.inst != i) = if j = i then 0 else instCount j l := by
  unfold instCount
  rw [List.filter_filter]
  split_ifs with h
  · rw [List.length_eq_zero_iff, List.filter_eq_nil_iff]
    intro e _; simp only [Bool.and_eq_true, beq_iff_eq, bne_iff_ne]; omega
  · congr 1
    refine List.filter_congr fun e _ => ?_
    by_cases he : e.inst = j <;> simp [he, h]

theorem abortKey_counts (hwf : s.flow.logs.wf = true) (k : Nat) : (s.abortKey i key).flow.logs.wf = true ∧
    (j ≠ i → (s.abortKey i key).stagedOf j = s.stagedOf j) ∧
    instCount i ((s.abortKey i key).log k) = if k = key then 0 else instCount i (s.log k) := by
  have hwf' : (s.flow.logs.set key ((s.log key).filter fun e => e.inst != i)).wf = true := SMap.wf_set hwf _ _
  have hdrop := fun j => foldl_dropEntry_counts (key := key) (j := j) k ((s.log key).filter fun e => e.inst == i)
    { s with flow.logs := s.flow.logs.set key ((s.log key).filter fun e => e.inst != i) } hwf'
  refine ⟨(hdrop j).1, fun hj => (hdrop j).2.1.trans (stagedOf_set hwf ?_), (hdrop i).2.2.trans ?_⟩
  · rw [instCount_kept, if_neg hj]
  · have hlog : State.log { s with flow.logs := s.flow.logs.set key ((s.log key).filter fun e => e.inst != i) } k =
        if k = key then (s.log key).filter fun e => e.inst != i else s.log k := SMap.get_set ..
    rw [hlog]
    split_ifs
    · rw [instCount_kept, if_pos rfl]
    · rfl

theorem foldl_abortKey_counts (k : Nat) (ks : List Nat) : ∀ s : State, s.flow.logs.wf = true →
    (ks.foldl (State.abortKey i) s).flow.logs.wf = true ∧
    (j ≠ i → (ks.foldl (State.abortKey i) s).stagedOf j = s.stagedOf j) ∧
    instCount i ((ks.foldl (State.abortKey i) s).log k) = if k ∈ ks then 0 else instCount i (s.log k) := by
  induction ks with
  | nil => exact fun s hwf => ⟨hwf, fun _ => rfl, rfl⟩
  | cons key ks ih =>
    intro s hwf
    obtain ⟨hwf', hstaged, hcount⟩ := abortKey_counts (i := i) (j := j) (key := key) hwf k
    obtain ⟨h1, h2, h3⟩ := ih _ hwf'
    refine ⟨h1, fun hj => (h2 hj).trans (hstaged hj), ?_⟩
    rw [List.foldl_cons, h3, hcount]
    by_cases hk : k = key <;> simp [hk]

/-- A record on which an instance holds no entries. -/
theorem instCount_of_not_mem (hwf : s.flow.logs.wf = true) {k : Nat} (hk : k ∉ s.stagedRecords i) : instCount i (s.log k) = 0 := by
  have hrise : SMap.rising s.flow.logs.entries = true := (Bool.and_eq_true_iff.mp hwf).1
  rw [State.log, SMap.get, SMap.getD]
  cases hfind : smapFind s.flow.logs.entries k with
  | none => rfl
  | some l =>
    have hmem := (smapFind_eq_some_iff hrise k l).mp hfind
    have hno : ¬ (l.any fun e => e.inst == i) = true := fun hany =>
      hk (List.mem_map.mpr ⟨(k, l), List.mem_filter.mpr ⟨hmem, hany⟩, rfl⟩)
    rw [Option.getD_some, instCount, List.length_eq_zero_iff, List.filter_eq_nil_iff]
    intro e he heq
    exact hno (List.any_eq_true.mpr ⟨e, he, heq⟩)

/-- ABORT leaves no entry of its instance, and every other instance its own (R555). -/
theorem abortStaged_spec (hwf : s.flow.logs.wf = true) (i : Nat) : (s.abortStaged i).stagedOf i = 0 ∧
    ((s.abortStaged i).inst i).tag = none ∧ ∀ j, j ≠ i → (s.abortStaged i).stagedOf j = s.stagedOf j := by
  have hcounts := fun j k => foldl_abortKey_counts (i := i) (j := j) k (s.stagedRecords i) s hwf
  have hstaged : ∀ j, (s.abortStaged i).stagedOf j = ((s.stagedRecords i).foldl (State.abortKey i) s).stagedOf j := fun _ => rfl
  refine ⟨?_, ?_, fun j hj => (hstaged j).trans ((hcounts j 0).2.1 hj)⟩
  · rw [hstaged, stagedOf_eq]
    refine SMap.total_eq_zero (hcounts i 0).1 fun k => ?_
    have hk := (hcounts i k).2.2
    rw [State.log] at hk
    rw [hk]
    split_ifs with hmem
    · rfl
    · exact instCount_of_not_mem hwf hmem
  · have hinst : (s.abortStaged i).inst i = { s.inst i with tag := none } := (SMap.get_set ..).trans (if_pos rfl)
    rw [hinst]

end

/-! ### What a search of the store leaves of the logs (R500, R516) -/

section
variable {s t u : State} {key mask tenant : Nat} {bs : List Byte}

theorem flow_foldl_stBytes {α : Type} (f : State → α → Nat × List Byte) (l : List α) : ∀ t : State,
    (l.foldl (fun t n => t.stBytes (f t n).1 (f t n).2) t).flow = t.flow := by
  induction l with
  | nil => exact fun t => rfl
  | cons n l ih => exact fun t => ih _

theorem logs_writeBack : (s.writeBack key).flow.logs = s.flow.logs := by
  have hflow := flow_foldl_stBytes (fun t n => (t.recAddr key (64 * n), (List.range 64).map fun i =>
    (s.flow.lines.get key).data.get (64 * n + i))) (setBits (s.flow.lines.get key).dirty 4) s
  unfold State.writeBack
  dsimp only at hflow ⊢
  generalize (setBits (s.flow.lines.get key).dirty 4).foldl _ s = t at *
  have hlogs : t.flow.logs = s.flow.logs := congrArg Flow.logs hflow
  split_ifs
  · exact hlogs
  · exact (congrArg Flow.logs (counting_bump ..).flow_eq).trans hlogs

theorem logs_makeRoom (h : s.makeRoom key = some t) : t.flow.logs = s.flow.logs := by
  unfold State.makeRoom at h
  dsimp only at h
  split_ifs at h
  · cases h; rfl
  · cases h; rfl
  · split at h
    · cases h
    · cases h; exact logs_writeBack

theorem logs_fetchAtoms (h : s.fetchAtoms key mask = some t) : t.flow.logs = s.flow.logs := by
  unfold State.fetchAtoms at h
  cases hroom : s.makeRoom key with
  | none => rw [hroom] at h; cases h
  | some u =>
    rw [hroom] at h
    simp only [Option.some.injEq] at h
    have hfill : (u.fillLine key mask).flow.logs = s.flow.logs := (show _ = u.flow.logs from rfl).trans (logs_makeRoom hroom)
    rw [← h]
    split_ifs
    · exact hfill
    · rw [(counting_count ..).flow_eq]; exact hfill

theorem logs_searchReads (h : s.searchReads tenant bs = some t) : t.flow.logs = s.flow.logs := by
  unfold State.searchReads at h
  dsimp only at h
  split at h
  · cases h
  · rename_i u hu
    have hlogs := logs_fetchAtoms hu
    split_ifs at h
    · cases h; exact hlogs
    · split at h
      · cases h; exact hlogs
      · split at h
        · cases h
        · rename_i v hv
          cases h; exact (logs_fetchAtoms hv).trans hlogs

theorem mayStage_fillLine {i k : Nat} (h : s.mayStage i k) : (s.fillLine key mask).mayStage i k := h

end

/-! ### Keyed operations -/

section
variable {s u : State} {cl e th c fn q : Nat} {tenant kofs klen : Word} {r : List Word}

/-- No keyed operation that came earlier on the home position is undecided (R501). -/
theorem keyedAhead_false {d : Call} {home : Nat}
    (h : ∀ e ∈ s.flume.threads.entries, ∀ x ∈ s.undecided e.2, x.2 ≠ home) : s.keyedAhead d home = false := by
  rw [State.keyedAhead, List.any_eq_false]
  intro e he
  rw [Bool.not_eq_true, List.any_eq_false]
  intro x hx
  simp [h e he x hx]

/-- What a keyed operation that is served at once needs: a key of a length and range R522 and R536 allow, no sharding, and no
earlier keyed operation on its home position. -/
def State.keyedOkay (s u : State) (cl e th c : Nat) (tenant kofs klen : Word) : Prop :=
  let cand := s.candidates (tenant.toNat % 65536) ((s.ctx c).bytes kofs.toNat klen.toNat)
  1 ≤ klen.toNat ∧ klen.toNat ≤ (if s.recSize = 64 then 24 else 48) ∧ kofs.toNat + klen.toNat ≤ 0x400 ∧
    s.bit Reg.fleShard 31 = false ∧
    (s.counted (.pe cl e th)).searchReads (tenant.toNat % 65536) ((s.ctx c).bytes kofs.toNat klen.toNat) = some u ∧
    ∀ x ∈ s.flume.threads.entries, ∀ y ∈ (s.counted (.pe cl e th)).undecided x.2, y.2 ≠ cand.at_ cand.home

variable {d : Call} {t : State}

theorem candidates_flowAs {s t : State} (hseed1 : t.flow.seed1 = s.flow.seed1) (hseed2 : t.flow.seed2 = s.flow.seed2)
    (h : s.FlowAs t) (tn : Nat) (key : List Byte) : t.candidates tn key = s.candidates tn key := by
  simp only [State.candidates, hseed1, hseed2, h.seed, State.buckets, h.fld (show Reg.fleGeom < 0x700000 by decide)]
  rfl

/-- A keyed operation served at once: the search decides what it does (R500, R502). -/
theorem acceptFlow_keyed (hd : d = callOf cl c fn [tenant, kofs, klen]) (hfn : fn < 2)
    (h : s.keyedOkay u cl e th c tenant kofs klen) :
    let key := (s.ctx c).bytes kofs.toNat klen.toNat
    let cand := s.candidates (tenant.toNat % 65536) key
    let t := u.opStarted cand.slice
    acceptCall 8 (s.counted (.pe cl e th)) d = match t.findKey (tenant.toNat % 65536) key with
      | some k => keyFound (s.counted (.pe cl e th)) t d (s.instOf c) k cand (tenant.toNat % 65536) key
          (s.ingressNs (s.ctx c).ts80)
      | none => if fn = 0 then .done t [1, 0, 0]
          else createNew (s.counted (.pe cl e th)) t d (s.instOf c) cand (tenant.toNat % 65536) key
            (s.ingressNs (s.ctx c).ts80) := by
  obtain ⟨hlo, hhi, hend, hshard, hsearch, hahead⟩ := h
  have hk := flowAs_counted (s := s) cl e th
  have hflow := State.counted_flow (s := s) cl e th
  have harg : d.arg 0 = tenant.toNat ∧ d.arg 1 = kofs.toNat ∧ d.arg 2 = klen.toNat ∧ d.fn = fn ∧ d.ctx = c := by
    subst hd; exact ⟨rfl, rfl, rfl, rfl, rfl⟩
  obtain ⟨h0, h1, h2, hdfn, hdc⟩ := harg
  have hbad : d.bad (s.counted (.pe cl e th)).recSize = none := by
    have hlen : ¬ (klen.toNat = 0 ∨ (if s.recSize = 64 then 24 else 48) < klen.toNat) := by omega
    rw [hk.recSize]
    obtain rfl | rfl : fn = 0 ∨ fn = 1 := by omega
    all_goals simp only [Call.bad, hdfn, h1, h2, if_neg hlen, srcRange_iff.mpr hend, if_true]
  have hcand := candidates_flowAs (congrArg Flow.seed1 hflow) (congrArg Flow.seed2 hflow) hk
  have hahead' : (s.counted (.pe cl e th)).keyedAhead d ((s.candidates (tenant.toNat % 65536)
      ((s.ctx c).bytes kofs.toNat klen.toNat)).at_ (s.candidates (tenant.toNat % 65536)
      ((s.ctx c).bytes kofs.toNat klen.toNat)).home) = false :=
    keyedAhead_false fun x hx => hahead x (by rw [(counting_counted cl e th).flume_eq] at hx; exact hx)
  have hshard' : (s.counted (.pe cl e th)).bit Reg.fleShard 31 = false :=
    (State.bit_of_rd (State.rd_counted _ _ (by decide)) 31).trans hshard
  intro key cand t
  change acceptFlow _ _ = _
  rw [acceptFlow, if_neg (by omega), hbad]
  simp only [hdfn, hfn, if_true, acceptKeyed, h0, h1, h2, hdc, FlowAs_ctx hk, FlowAs_instOf hk, FlowAs_ingressNs hk, hcand,
    hahead', hsearch, hshard', Bool.false_and, Bool.false_eq_true, if_false]
  rfl

/-- The log of every record is the same after a search and its counting. -/
theorem log_searched {n : Nat} (hsearch : (s.counted (.pe cl e th)).searchReads (tenant.toNat % 65536) key = some u)
    (k : Nat) : (u.opStarted n).log k = s.log k := by
  have hlogs : (u.opStarted n).flow.logs = s.flow.logs := by
    rw [State.opStarted, (counting_count ..).flow_eq, logs_searchReads hsearch, State.counted_flow]
  rw [State.log, hlogs, State.log]

/-- A call that stages an entry: its results, and its record's log with one more entry (R545). -/
theorem called_stage {key : Nat} {i : Nat} {en : LogEntry} {rs : List Nat} {p : Nat} (hlog : ∀ j, t.log j = s.log j) :
    let v := s.called (t.stage i key en) cl e th 8 p rs
    (v.thr cl e th).wait = some { pc := (s.arch (.pe cl e th)).faultPc, unit := 8, results := rs.reverse.map (BitVec.ofNat 32) } ∧
    v.log key = t.log key ++ [{ en with seq := t.flow.seq, inst := i }] ∧ (∀ j, j ≠ key → v.log j = s.log j) ∧ v.mem = t.mem :=
  ⟨wait_called, by rw [log_called, log_stage, if_pos rfl],
    fun j hj => by rw [log_called, log_stage, if_neg hj, hlog], by rw [mem_called, mem_stage]⟩

/-- CREATE of a key that is present stages its entry on the key's record (R502). -/
theorem keyFound_create {tn i k ns : Nat} {key : List Byte} {cand : Candidates} (hfn : d.fn = 1) (hm : t.mayStage i k) :
    ∃ en, keyFound s t d i k cand tn key ns = .done ((t.fillLine k t.allAtoms).stage i k en)
      [2, handleLo k, recGen ((t.fillLine k t.allAtoms).speculative k)] := by
  simp only [keyFound, hfn, one_ne_zero, if_false]
  exact ⟨_, stageOr_done (mayStage_fillLine hm)⟩

/-- CREATE at a free home position: the entry takes its record's place there (R502). -/
theorem createNew_free {tn i ns : Nat} {key : List Byte} {cand : Candidates}
    (hfree : t.posFree (cand.at_ cand.home) = true) (hc : t.cached (cand.at_ cand.home)) (hm : t.mayStage i (cand.at_ cand.home)) :
    ∃ v, t.FlowAs v ∧ createNew s t d i cand tn key ns = .done
      (v.stage i (cand.at_ cand.home) (createEntry d cand tn key { cand := cand.home } true ns
        [0, handleLo (cand.at_ cand.home), (recGen (t.committed (cand.at_ cand.home)) + 1) % 65536]))
      [0, handleLo (cand.at_ cand.home), (recGen (t.committed (cand.at_ cand.home)) + 1) % 65536] := by
  obtain ⟨v, hfetch, hv, -⟩ := fetchAtoms_cached hc
  refine ⟨v, hv, ?_⟩
  simp only [createNew, State.placeCreate, hfree, if_true, hfetch]
  rw [stageOr_done (hv.mayStage _ _ hm), hv.committed]
  rfl

end

/-- Settles O27, by the search a keyed operation makes and the place its entry then takes. -/
theorem keyedFlowOperations : Obligations.KeyedFlowOperations := by
  unfold Obligations.KeyedFlowOperations
  intro cl e th c k s u tenant kofs klen r w key cand okay t f hwf
  have hkeyed : ∀ {fn}, okay → fn < 2 → acceptCall 8 (s.counted w) (callOf cl c fn [tenant, kofs, klen]) =
      match t.findKey (tenant.toNat % 65536) key with
      | some k => keyFound (s.counted w) t (callOf cl c fn [tenant, kofs, klen]) (s.instOf c) k cand (tenant.toNat % 65536) key
          (s.ingressNs (s.ctx c).ts80)
      | none => if fn = 0 then .done t [1, 0, 0]
          else createNew (s.counted w) t (callOf cl c fn [tenant, kofs, klen]) (s.instOf c) cand (tenant.toNat % 65536) key
            (s.ingressNs (s.ctx c).ts80) :=
    fun {fn} (h : s.keyedOkay u cl e th c tenant kofs klen) hfn =>
      acceptFlow_keyed (d := callOf cl c fn [tenant, kofs, klen]) rfl hfn h
  refine ⟨fun hcall hok => ?_, fun hcall hok hfind hm => ?_, fun hcall hok hfind hfree hk hc hm => ?_, fun hcall => ?_,
    fun hlogs i => abortStaged_spec hlogs i⟩
  · have haccept := hkeyed hok (fn := 0) (by decide)
    cases hfind : t.findKey (tenant.toNat % 65536) key with
    | none => rw [hfind] at haccept; exact issue_call_done hcall haccept
    | some p => rw [hfind] at haccept; exact issue_call_done hcall haccept
  · have hlog := log_searched (n := cand.slice) hok.2.2.2.2.1
    have haccept := hkeyed hok (fn := 1) (by decide)
    rw [hfind] at haccept
    have hlog' : ∀ j, (f k).log j = s.log j := hlog
    obtain ⟨en, hstage⟩ := keyFound_create (s := s.counted w) (d := callOf cl c 1 [tenant, kofs, klen]) (cand := cand)
      (tn := tenant.toNat % 65536) (key := key) (ns := s.ingressNs (s.ctx c).ts80) rfl hm
    obtain ⟨hwait, hlogk, hother, hmem⟩ := called_stage hlog'
    refine ⟨_, issue_call_done hcall (haccept.trans hstage), hwait, ?_, hother, hmem⟩
    rw [hlogk, hlog' k]
    exact fun h => absurd (congrArg List.length h) (by simp)
  · have hlog := log_searched (n := cand.slice) hok.2.2.2.2.1
    have haccept := hkeyed hok (fn := 1) (by decide)
    subst hk
    obtain ⟨v, hv, hcreate⟩ := createNew_free (s := s.counted w) (d := callOf cl c 1 [tenant, kofs, klen])
      (tn := tenant.toNat % 65536) (ns := s.ingressNs (s.ctx c).ts80) (key := key) hfree hc hm
    rw [hfind] at haccept
    obtain ⟨hwait, hlogk, hother, hmem⟩ := called_stage (s := s) (t := v) fun j => (hv.log j).trans (hlog j)
    rw [hv.log] at hlogk
    exact ⟨_, _, issue_call_done hcall (haccept.trans hcreate), hwait, hlogk, rfl, rfl, rfl, rfl, rfl, hother, hmem.trans hv.mem⟩
  · refine issue_order_done hcall (rs := []) (o := 0) (bs := []) ?_
    change acceptFlow _ _ = _
    rw [acceptFlow, if_pos (show (callOf cl c 16 []).fn = 16 from rfl), FlowAs_instOf (flowAs_counted cl e th)]
    rfl

end Sys2Proof.Machine
end

section
/-! PROOFS. Events and counters, and stacking: the clock edge at which an orderly stop settles raises an event of a slice that
the module does not have, and its RAISED count lies on another block's register. -/
namespace Sys2Proof.Machine

/-- The running core 10 µs into an orderly stop (R75), `ns` nanoseconds into T's second, with a committed entry of function
3 waiting on a record of slice `slice`, which is not in memory: applied, it diverges (R553). -/
def settlingDiverged (slice ns : Nat) : State :=
  let s : State := { State.reset with
    boot.core := .running, boot.stop := .orderly, tb.run := 10000 * nsUnit, tb.ns := ns
    flow.insts := SMap.set {} 0 { live := true, resolved := some true }
    flow.logs := SMap.set {} (slice * 2 ^ 26) [{ fn := 3 }] }
  s.setBit Reg.fleCtrl 8 true

/-! ### The periodic snapshot (R829) -/

/-- RAISED of the event of slice 64340 lies on PMC.CTRL, whose SNAP_PERIOD is 1 µs. -/
def periodCounted : State := (settlingDiverged 64340 999).wr Reg.pmcCtrl 1

theorem noSnapshot_periodCounted : (tick periodCounted).bit Reg.pmcEvents 1 = false := by decide +kernel

/-- Refutes O40: in the settling edge of an orderly stop a divergence on a slice beyond the module's adds 1 to SNAP_PERIOD
before the snapshot is due, so that none is taken at the old period's boundary. -/
theorem not_eventsAndCounters : ¬ Obligations.EventsAndCounters := by
  unfold Obligations.EventsAndCounters
  intro h
  obtain ⟨-, -, -, ⟨-, hperiod⟩, -⟩ := h periodCounted (by decide)
  obtain ⟨-, hevent, -⟩ := hperiod 1 (by decide +kernel) (by decide +kernel) (by decide +kernel) (by decide +kernel)
  exact absurd (hevent.symm.trans noSnapshot_periodCounted) (by decide)

/-! ### The second of the lateral time exchange (R722) -/

/-- RAISED of the event of slice 129876 lies on STK.CTRL, whose mode is 2 and whose member number is 7; T follows the
stack's master, member 0. -/
def modeCounted : State := ((settlingDiverged 129876 999999999).wr Reg.stkCtrl 0xBFFFFFFF).wr Reg.tbCtrl 0x80000000

theorem missed_modeCounted : (tick modeCounted).stk.missed = 0 := by decide +kernel

/-- Refutes O51: in the settling edge of an orderly stop a divergence on a slice beyond the module's carries into the mode of
STK.CTRL, so that the second without an exchange is not counted as missed. -/
theorem not_stacking : ¬ Obligations.Stacking := by
  unfold Obligations.Stacking
  intro h
  obtain ⟨-, -, -, -, -, -, -, -, hmeasure⟩ := h modeCounted
  obtain ⟨-, -, hmissed⟩ := hmeasure _ rfl (by decide) (by decide +kernel) (by decide +kernel) (by decide +kernel) (by decide)
  obtain ⟨hcount, -⟩ := hmissed (by decide) (by decide) (by decide +kernel)
  exact absurd (hcount.symm.trans missed_modeCounted) (by decide)

end Sys2Proof.Machine
end

section
/-! PROOFS. What a function of the state leaves alone, said once per function: the parts it may change. -/
namespace Sys2Proof.Machine

/-- The block of a register below the event controller's; the event registers of the port groups, CLK.PG_GATE and the words
that a flow slice's events may be shown in stand for themselves. -/
def blockOf (a : Nat) : Nat :=
  if 0x401404 ≤ a ∧ a % 0x80 = 4 then 0x102
  else if 0x100000 ≤ a ∧ a < 0x180000 then (if a % 0x4000 = 8 then 0x100 else 0x10)
  else if a = Reg.clkPgGate then 0x101 else a / 0x10000

/-- The parts of the module's state; of the registers also what those of one block read, and the event bits 24 up of the
port groups, which no link state changes. -/
inductive Part where
  | block (n : Nat) | pgHigh
  | pending | freeCtr | regs | ctrs | shadows | rdData | mem | measDomain | supply | fuses | flash | aon | boot | ports
  | portWindow | hdg | tables | dsp | flume | flow | qm | bpm | sch | tb | stk | dmc | ecc | dma | pmc | mgt | test
  deriving DecidableEq

/-- A part is in `t` as it is in `s`. -/
def Part.Same (s t : State) : Part → Prop
  | .block n => ∀ a, a < 0x700000 → blockOf a = n → t.rd a = s.rd a
  | .pgHigh => ∀ g < 20, ∀ i, 24 ≤ i → t.bit (Reg.pgEvents g) i = s.bit (Reg.pgEvents g) i
  | .pending => t.pending = s.pending
  | .freeCtr => t.freeCtr = s.freeCtr
  | .regs => t.regs = s.regs
  | .ctrs => t.ctrs = s.ctrs
  | .shadows => t.shadows = s.shadows
  | .rdData => t.rdData = s.rdData
  | .mem => t.mem = s.mem
  | .measDomain => t.measDomain = s.measDomain
  | .supply => t.supply = s.supply
  | .fuses => t.fuses = s.fuses
  | .flash => t.flash = s.flash
  | .aon => t.aon = s.aon
  | .boot => t.boot = s.boot
  | .ports => t.ports = s.ports
  | .portWindow => t.portWindow = s.portWindow
  | .hdg => t.hdg = s.hdg
  | .tables => t.tables = s.tables
  | .dsp => t.dsp = s.dsp
  | .flume => t.flume = s.flume
  | .flow => t.flow = s.flow
  | .qm => t.qm = s.qm
  | .bpm => t.bpm = s.bpm
  | .sch => t.sch = s.sch
  | .tb => t.tb = s.tb
  | .stk => t.stk = s.stk
  | .dmc => t.dmc = s.dmc
  | .ecc => t.ecc = s.ecc
  | .dma => t.dma = s.dma
  | .pmc => t.pmc = s.pmc
  | .mgt => t.mgt = s.mgt
  | .test => t.test = s.test

/-- `t` differs from `s` in the listed parts alone. -/
structure State.Only (l : List Part) (s t : State) : Prop where
  same : ∀ p, p ∉ l → p.Same s t

section
variable {s t u : State} {l m : List Part}

theorem Part.Same.trans {p : Part} (h : p.Same s t) (k : p.Same t u) : p.Same s u := by
  cases p with
  | block n => exact fun a ha hn => (k a ha hn).trans (h a ha hn)
  | pgHigh => exact fun g hg i hi => (k g hg i hi).trans (h g hg i hi)
  | _ => exact Eq.trans k h

theorem Part.Same.symm {p : Part} (h : p.Same s t) : p.Same t s := by
  cases p with
  | block n => exact fun a ha hn => (h a ha hn).symm
  | pgHigh => exact fun g hg i hi => (h g hg i hi).symm
  | _ => exact Eq.symm h

namespace State.Only

theorem refl (l : List Part) (s : State) : State.Only l s s := ⟨fun p _ => by cases p <;> first | rfl | exact fun _ _ _ => rfl | exact fun _ _ _ _ => rfl⟩

theorem trans (h : State.Only l s t) (k : State.Only l t u) : State.Only l s u :=
  ⟨fun p hp => (h.same p hp).trans (k.same p hp)⟩

theorem mono (h : State.Only l s t) (hlm : l ⊆ m) : State.Only m s t := ⟨fun p hp => h.same p fun hl => hp (hlm hl)⟩

/-- A step that changes no more than `m` lists, after others. -/
theorem iff_of (hlm : l ⊆ m) (k : State.Only l t u) : State.Only m s u ↔ State.Only m s t := by
  refine ⟨fun h => ⟨fun p hp => ?_⟩, fun h => h.trans (k.mono hlm)⟩
  exact (h.same p hp).trans (k.same p fun hl => hp (hlm hl)).symm

theorem ite {c : Prop} [Decidable c] :
    State.Only l s (if c then t else u) ↔ (c → State.Only l s t) ∧ (¬ c → State.Only l s u) := by
  split <;> simp [*]

theorem foldl {α : Type} {f : State → α → State} (hf : ∀ t a, State.Only l t (f t a)) (as : List α) (h : State.Only l s t) :
    State.Only l s (as.foldl f t) := by
  induction as generalizing t with
  | nil => exact h
  | cons a as ih => exact ih (h.trans (hf t a))

end State.Only

end

/-! ### One part set -/

section
variable {s t : State} {l : List Part}

theorem only_refl : State.Only l s s ↔ True := iff_true_intro (.refl l s)

/-- A step repeated over a list. -/
theorem only_foldl {α : Type} {f : State → α → State} {as : List α} (hf : ∀ t a, State.Only l t (f t a)) :
    State.Only l s (as.foldl f t) ↔ State.Only l s t :=
  State.Only.iff_of (List.Subset.refl l) (State.Only.foldl hf as (.refl l t))

theorem only_set_pending (x : List Instr) (h : [.pending] ⊆ l) : State.Only l s { t with pending := x } ↔ State.Only l s t :=
  State.Only.iff_of h ⟨fun p hp => by cases p <;> first | exact absurd (List.mem_singleton_self _) hp | rfl | exact fun _ _ _ => rfl | exact fun _ _ _ _ => rfl⟩
theorem only_set_freeCtr (x : Nat) (h : [.freeCtr] ⊆ l) : State.Only l s { t with freeCtr := x } ↔ State.Only l s t :=
  State.Only.iff_of h ⟨fun p hp => by cases p <;> first | exact absurd (List.mem_singleton_self _) hp | rfl | exact fun _ _ _ => rfl | exact fun _ _ _ _ => rfl⟩
theorem only_set_ctrs (x : SMap Nat) (h : [.ctrs] ⊆ l) : State.Only l s { t with ctrs := x } ↔ State.Only l s t :=
  State.Only.iff_of h ⟨fun p hp => by cases p <;> first | exact absurd (List.mem_singleton_self _) hp | rfl | exact fun _ _ _ => rfl | exact fun _ _ _ _ => rfl⟩
theorem only_set_shadows (x : SMap (Option Word)) (h : [.shadows] ⊆ l) : State.Only l s { t with shadows := x } ↔ State.Only l s t :=
  State.Only.iff_of h ⟨fun p hp => by cases p <;> first | exact absurd (List.mem_singleton_self _) hp | rfl | exact fun _ _ _ => rfl | exact fun _ _ _ _ => rfl⟩
theorem only_set_rdData (x : SMap Word) (h : [.rdData] ⊆ l) : State.Only l s { t with rdData := x } ↔ State.Only l s t :=
  State.Only.iff_of h ⟨fun p hp => by cases p <;> first | exact absurd (List.mem_singleton_self _) hp | rfl | exact fun _ _ _ => rfl | exact fun _ _ _ _ => rfl⟩
theorem only_set_mem (x : Mem) (h : [.mem] ⊆ l) : State.Only l s { t with mem := x } ↔ State.Only l s t :=
  State.Only.iff_of h ⟨fun p hp => by cases p <;> first | exact absurd (List.mem_singleton_self _) hp | rfl | exact fun _ _ _ => rfl | exact fun _ _ _ _ => rfl⟩
theorem only_set_measDomain (x : Nat) (h : [.measDomain] ⊆ l) : State.Only l s { t with measDomain := x } ↔ State.Only l s t :=
  State.Only.iff_of h ⟨fun p hp => by cases p <;> first | exact absurd (List.mem_singleton_self _) hp | rfl | exact fun _ _ _ => rfl | exact fun _ _ _ _ => rfl⟩
theorem only_set_supply (x : Supply) (h : [.supply] ⊆ l) : State.Only l s { t with supply := x } ↔ State.Only l s t :=
  State.Only.iff_of h ⟨fun p hp => by cases p <;> first | exact absurd (List.mem_singleton_self _) hp | rfl | exact fun _ _ _ => rfl | exact fun _ _ _ _ => rfl⟩
theorem only_set_fuses (x : Fuses) (h : [.fuses] ⊆ l) : State.Only l s { t with fuses := x } ↔ State.Only l s t :=
  State.Only.iff_of h ⟨fun p hp => by cases p <;> first | exact absurd (List.mem_singleton_self _) hp | rfl | exact fun _ _ _ => rfl | exact fun _ _ _ _ => rfl⟩
theorem only_set_flash (x : Flash) (h : [.flash] ⊆ l) : State.Only l s { t with flash := x } ↔ State.Only l s t :=
  State.Only.iff_of h ⟨fun p hp => by cases p <;> first | exact absurd (List.mem_singleton_self _) hp | rfl | exact fun _ _ _ => rfl | exact fun _ _ _ _ => rfl⟩
theorem only_set_aon (x : AlwaysOn) (h : [.aon] ⊆ l) : State.Only l s { t with aon := x } ↔ State.Only l s t :=
  State.Only.iff_of h ⟨fun p hp => by cases p <;> first | exact absurd (List.mem_singleton_self _) hp | rfl | exact fun _ _ _ => rfl | exact fun _ _ _ _ => rfl⟩
theorem only_set_boot (x : Boot) (h : [.boot] ⊆ l) : State.Only l s { t with boot := x } ↔ State.Only l s t :=
  State.Only.iff_of h ⟨fun p hp => by cases p <;> first | exact absurd (List.mem_singleton_self _) hp | rfl | exact fun _ _ _ => rfl | exact fun _ _ _ _ => rfl⟩
theorem only_set_ports (x : SMap Port) (h : [.ports] ⊆ l) : State.Only l s { t with ports := x } ↔ State.Only l s t :=
  State.Only.iff_of h ⟨fun p hp => by cases p <;> first | exact absurd (List.mem_singleton_self _) hp | rfl | exact fun _ _ _ => rfl | exact fun _ _ _ _ => rfl⟩
theorem only_set_portWindow (x : WindowCounts) (h : [.portWindow] ⊆ l) : State.Only l s { t with portWindow := x } ↔ State.Only l s t :=
  State.Only.iff_of h ⟨fun p hp => by cases p <;> first | exact absurd (List.mem_singleton_self _) hp | rfl | exact fun _ _ _ => rfl | exact fun _ _ _ _ => rfl⟩
theorem only_set_hdg (x : Headgate) (h : [.hdg] ⊆ l) : State.Only l s { t with hdg := x } ↔ State.Only l s t :=
  State.Only.iff_of h ⟨fun p hp => by cases p <;> first | exact absurd (List.mem_singleton_self _) hp | rfl | exact fun _ _ _ => rfl | exact fun _ _ _ _ => rfl⟩
theorem only_set_tables (x : Tables) (h : [.tables] ⊆ l) : State.Only l s { t with tables := x } ↔ State.Only l s t :=
  State.Only.iff_of h ⟨fun p hp => by cases p <;> first | exact absurd (List.mem_singleton_self _) hp | rfl | exact fun _ _ _ => rfl | exact fun _ _ _ _ => rfl⟩
theorem only_set_dsp (x : Dispatch) (h : [.dsp] ⊆ l) : State.Only l s { t with dsp := x } ↔ State.Only l s t :=
  State.Only.iff_of h ⟨fun p hp => by cases p <;> first | exact absurd (List.mem_singleton_self _) hp | rfl | exact fun _ _ _ => rfl | exact fun _ _ _ _ => rfl⟩
theorem only_set_flume (x : Flume) (h : [.flume] ⊆ l) : State.Only l s { t with flume := x } ↔ State.Only l s t :=
  State.Only.iff_of h ⟨fun p hp => by cases p <;> first | exact absurd (List.mem_singleton_self _) hp | rfl | exact fun _ _ _ => rfl | exact fun _ _ _ _ => rfl⟩
theorem only_set_flow (x : Flow) (h : [.flow] ⊆ l) : State.Only l s { t with flow := x } ↔ State.Only l s t :=
  State.Only.iff_of h ⟨fun p hp => by cases p <;> first | exact absurd (List.mem_singleton_self _) hp | rfl | exact fun _ _ _ => rfl | exact fun _ _ _ _ => rfl⟩
theorem only_set_qm (x : SwitchCore) (h : [.qm] ⊆ l) : State.Only l s { t with qm := x } ↔ State.Only l s t :=
  State.Only.iff_of h ⟨fun p hp => by cases p <;> first | exact absurd (List.mem_singleton_self _) hp | rfl | exact fun _ _ _ => rfl | exact fun _ _ _ _ => rfl⟩
theorem only_set_bpm (x : BufferPools) (h : [.bpm] ⊆ l) : State.Only l s { t with bpm := x } ↔ State.Only l s t :=
  State.Only.iff_of h ⟨fun p hp => by cases p <;> first | exact absurd (List.mem_singleton_self _) hp | rfl | exact fun _ _ _ => rfl | exact fun _ _ _ _ => rfl⟩
theorem only_set_sch (x : Egress) (h : [.sch] ⊆ l) : State.Only l s { t with sch := x } ↔ State.Only l s t :=
  State.Only.iff_of h ⟨fun p hp => by cases p <;> first | exact absurd (List.mem_singleton_self _) hp | rfl | exact fun _ _ _ => rfl | exact fun _ _ _ _ => rfl⟩
theorem only_set_tb (x : TimeBase) (h : [.tb] ⊆ l) : State.Only l s { t with tb := x } ↔ State.Only l s t :=
  State.Only.iff_of h ⟨fun p hp => by cases p <;> first | exact absurd (List.mem_singleton_self _) hp | rfl | exact fun _ _ _ => rfl | exact fun _ _ _ _ => rfl⟩
theorem only_set_stk (x : Stacking) (h : [.stk] ⊆ l) : State.Only l s { t with stk := x } ↔ State.Only l s t :=
  State.Only.iff_of h ⟨fun p hp => by cases p <;> first | exact absurd (List.mem_singleton_self _) hp | rfl | exact fun _ _ _ => rfl | exact fun _ _ _ _ => rfl⟩
theorem only_set_dmc (x : DramCtl) (h : [.dmc] ⊆ l) : State.Only l s { t with dmc := x } ↔ State.Only l s t :=
  State.Only.iff_of h ⟨fun p hp => by cases p <;> first | exact absurd (List.mem_singleton_self _) hp | rfl | exact fun _ _ _ => rfl | exact fun _ _ _ _ => rfl⟩
theorem only_set_ecc (x : Protection) (h : [.ecc] ⊆ l) : State.Only l s { t with ecc := x } ↔ State.Only l s t :=
  State.Only.iff_of h ⟨fun p hp => by cases p <;> first | exact absurd (List.mem_singleton_self _) hp | rfl | exact fun _ _ _ => rfl | exact fun _ _ _ _ => rfl⟩
theorem only_set_dma (x : Dma) (h : [.dma] ⊆ l) : State.Only l s { t with dma := x } ↔ State.Only l s t :=
  State.Only.iff_of h ⟨fun p hp => by cases p <;> first | exact absurd (List.mem_singleton_self _) hp | rfl | exact fun _ _ _ => rfl | exact fun _ _ _ _ => rfl⟩
theorem only_set_pmc (x : Pmc) (h : [.pmc] ⊆ l) : State.Only l s { t with pmc := x } ↔ State.Only l s t :=
  State.Only.iff_of h ⟨fun p hp => by cases p <;> first | exact absurd (List.mem_singleton_self _) hp | rfl | exact fun _ _ _ => rfl | exact fun _ _ _ _ => rfl⟩
theorem only_set_mgt (x : Mgmt) (h : [.mgt] ⊆ l) : State.Only l s { t with mgt := x } ↔ State.Only l s t :=
  State.Only.iff_of h ⟨fun p hp => by cases p <;> first | exact absurd (List.mem_singleton_self _) hp | rfl | exact fun _ _ _ => rfl | exact fun _ _ _ _ => rfl⟩
theorem only_set_test (x : TestPort) (h : [.test] ⊆ l) : State.Only l s { t with test := x } ↔ State.Only l s t :=
  State.Only.iff_of h ⟨fun p hp => by cases p <;> first | exact absurd (List.mem_singleton_self _) hp | rfl | exact fun _ _ _ => rfl | exact fun _ _ _ _ => rfl⟩

/-! ### Registers -/

/-- The parts that a write to one register changes. -/
def regParts (a : Nat) : List Part := [.regs, .block (blockOf a)] ++ if blockOf a = 0x100 then [.pgHigh] else []

theorem blockOf_pgEvents {g : Nat} (hg : g < 20) : blockOf (Reg.pgEvents g) = 0x100 := by
  rw [blockOf, Reg.pgEvents, if_neg (by omega), if_pos (by omega), if_pos (by omega)]

/-- Registers changed, and what they read then. -/
theorem only_of_rd {u : State} (hu : u = { t with regs := u.regs }) (hregs : .regs ∈ l)
    (hblock : ∀ n, .block n ∉ l → ∀ a, a < 0x700000 → blockOf a = n → u.rd a = t.rd a)
    (hhigh : .pgHigh ∉ l → ∀ g < 20, ∀ i, 24 ≤ i → u.bit (Reg.pgEvents g) i = t.bit (Reg.pgEvents g) i) :
    State.Only l s u ↔ State.Only l s t := by
  refine State.Only.iff_of (List.Subset.refl l) ⟨fun p hp => ?_⟩
  cases p with
  | block n => exact hblock n hp
  | pgHigh => exact hhigh hp
  | regs => exact absurd hregs hp
  | _ => rw [hu]; rfl

/-- One register changed. -/
theorem only_of_rd_ne {u : State} {a : Nat} (hu : u = { t with regs := u.regs }) (h : regParts a ⊆ l)
    (hne : ∀ b, b ≠ a → u.rd b = t.rd b) : State.Only l s u ↔ State.Only l s t := by
  have hmem : ∀ b, .block (blockOf b) ∉ l → b ≠ a := fun b hb hba => hb (h (by simp [regParts, hba]))
  refine only_of_rd hu (h (by simp [regParts])) (fun n hn b _ hbn => hne b (hmem b (hbn ▸ hn))) fun hp g hg i _ => ?_
  refine State.bit_of_rd (hne _ fun hga => hp (h ?_)) i
  rw [regParts, ← hga, blockOf_pgEvents hg]
  simp

theorem only_wr (a : Nat) (v : Word) (h : regParts a ⊆ l) : State.Only l s (t.wr a v) ↔ State.Only l s t :=
  only_of_rd_ne rfl h fun b hb => by rw [State.rd_wr, if_neg hb]

/-- A register of the event controller's block or above it. -/
theorem only_wr_high {a : Nat} (v : Word) (ha : 0x700000 ≤ a) (h : [.regs] ⊆ l) : State.Only l s (t.wr a v) ↔ State.Only l s t := by
  have hne : ∀ b, b < 0x700000 → (t.wr a v).rd b = t.rd b := fun b hb => by rw [State.rd_wr, if_neg (by omega)]
  refine only_of_rd rfl (h (by simp)) (fun n _ b hb _ => hne b hb) fun _ g hg i _ => State.bit_of_rd (hne _ ?_) i
  rw [Reg.pgEvents]; omega

/-- An event bit of a port group below 24 set. -/
theorem only_setBit_pg {g i : Nat} (hi : g < 20 → i < 24) (hg : g < 21) (h : [.regs, .block 0x100] ⊆ l) :
    State.Only l s (t.setBit (Reg.pgEvents g) i true) ↔ State.Only l s t := by
  have hne : ∀ b, b ≠ Reg.pgEvents g → (t.setBit (Reg.pgEvents g) i true).rd b = t.rd b := fun b hb => State.rd_setBit_other (s := t) _ _ _ _ hb
  have hblock : blockOf (Reg.pgEvents g) = 0x100 := by rw [blockOf, Reg.pgEvents, if_neg (by omega), if_pos (by omega), if_pos (by omega)]
  refine only_of_rd rfl (h (by simp)) (fun n hn b _ hbn => hne b fun hba => hn (h ?_)) fun _ k hk20 j hj => ?_
  · rw [← hbn, hba, hblock]; simp
  · by_cases hk : k = g
    · subst hk; have := hi hk20; rw [State.bit_setBit _ _ _ _ _ _ (by omega), if_neg (by omega)]
    · exact State.bit_of_rd (hne _ fun h => hk (by rw [Reg.pgEvents, Reg.pgEvents] at h; omega)) j

/-! ### The named updates -/

theorem only_setFld (a hi lo v : Nat) (h : regParts a ⊆ l) : State.Only l s (t.setFld a hi lo v) ↔ State.Only l s t := only_wr _ _ h
theorem only_setBit (a i : Nat) (b : Bool) (h : regParts a ⊆ l) : State.Only l s (t.setBit a i b) ↔ State.Only l s t := only_wr _ _ h
theorem only_setPair (a b v : Nat) (ha : regParts a ⊆ l) (hb : regParts b ⊆ l) :
    State.Only l s (t.setPair a b v) ↔ State.Only l s t := (only_wr _ _ hb).trans (only_wr _ _ ha)
theorem only_bumpFld (a hi lo n : Nat) (h : regParts a ⊆ l) : State.Only l s (t.bumpFld a hi lo n) ↔ State.Only l s t := only_wr _ _ h
theorem only_record (a v : Nat) (h : regParts a ⊆ l) : State.Only l s (t.record a v) ↔ State.Only l s t := only_wr _ _ h
theorem only_setCtr (a v : Nat) (h : [.ctrs] ⊆ l) : State.Only l s (t.setCtr a v) ↔ State.Only l s t := only_set_ctrs _ h
theorem only_bump (a n : Nat) (h : [.ctrs] ⊆ l) : State.Only l s (t.bump a n) ↔ State.Only l s t := only_set_ctrs _ h

/-- Counters and registers changed, none of these below the event controller's. -/
theorem State.RegsCtrs.only_iff {u : State} (k : t.RegsCtrs u) (hrd : ∀ a, a < 0x700000 → u.rd a = t.rd a)
    (h : [.regs, .ctrs] ⊆ l) : State.Only l s u ↔ State.Only l s t := by
  refine State.Only.iff_of h ⟨fun p hp => ?_⟩
  cases p with
  | block n => exact fun a ha _ => hrd a ha
  | pgHigh => exact fun g hg i _ => State.bit_of_rd (hrd _ (by rw [Reg.pgEvents]; omega)) i
  | regs => exact absurd (by simp) hp
  | ctrs => exact absurd (by simp) hp
  | _ => rw [k]; rfl

theorem only_count (ev : Nat) (is : List Nat) (n : Nat) (h : [.regs, .ctrs] ⊆ l) :
    State.Only l s (t.count ev is n) ↔ State.Only l s t :=
  State.RegsCtrs.only_iff (State.count_eq ..) (fun _ => State.rd_count t _ _ _ _) h
theorem only_raiseEvent (n : Nat) (h : [.regs, .ctrs] ⊆ l) : State.Only l s (t.raiseEvent n) ↔ State.Only l s t :=
  State.RegsCtrs.only_iff (State.raiseEvent_eq ..) (fun _ => State.rd_raiseEvent t _ _) h
theorem only_setEvent (a b n : Nat) (h : regParts a ⊆ l) (hc : [.ctrs] ⊆ l) :
    State.Only l s (t.setEvent a b n) ↔ State.Only l s t := by
  have hregs : .regs ∈ l := h (by simp [regParts])
  exact (only_raiseEvent n (List.cons_subset.mpr ⟨hregs, hc⟩)).trans (only_setBit a b true h)
theorem only_setEvent_high {a : Nat} (b n : Nat) (ha : 0x700000 ≤ a) (h : [.regs, .ctrs] ⊆ l) :
    State.Only l s (t.setEvent a b n) ↔ State.Only l s t :=
  (only_raiseEvent n h).trans (only_wr_high _ ha fun _ hp => h (List.mem_singleton.mp hp ▸ List.mem_cons_self))
theorem only_setEvent_pg {g i : Nat} (n : Nat) (hi : g < 20 → i < 24) (hg : g < 21) (h : [.regs, .ctrs, .block 0x100] ⊆ l) :
    State.Only l s (t.setEvent (Reg.pgEvents g) i n) ↔ State.Only l s t :=
  (only_raiseEvent n fun _ hp => h (by simp at hp ⊢; tauto)).trans (only_setBit_pg hi hg fun _ hp => h (by simp at hp ⊢; tauto))
theorem only_spill (i n : Nat) (h : [.regs, .ctrs] ⊆ l) : State.Only l s (t.spill i n) ↔ State.Only l s t := by
  refine State.RegsCtrs.only_iff (State.spill_eq ..) (fun a ha => ?_) h
  unfold State.spill
  rw [State.rd_count _ _ _ _ _ ha]
  rfl

end

end Sys2Proof.Machine
end

section
/-! PROOFS. What they leave alone: the link states of ports. -/
namespace Sys2Proof.Machine

theorem groupOf_lt (p : Nat) : groupOf p < 21 := by
  rw [groupOf]; split_ifs <;> omega

theorem subOf_lt {p : Nat} (h : groupOf p < 20) : subOf p < 8 := by
  rw [groupOf] at h
  rw [subOf]
  split_ifs at h ⊢ <;> omega

section
variable {s u : State} {ps : List Part}

theorem only_modPort (p : Nat) (f : Port → Port) (h : [.ports] ⊆ ps) :
    State.Only ps s (u.modPort p f) ↔ State.Only ps s u := State.Only.iff_of h (by
  simp (disch := decide) only [State.modPort, only_set_ports, only_refl])

theorem only_linkChg (p : Nat) (h : [.regs, .ctrs, .block 256] ⊆ ps) :
    State.Only ps s (u.linkChg p) ↔ State.Only ps s u := State.Only.iff_of h (by
  refine (only_setEvent_pg _ (fun h => ?_) (groupOf_lt p) (List.Subset.refl _)).mpr (.refl _ _)
  exact (subOf_lt h).trans (by decide))

theorem only_setTx (p : Nat) (t : Tx) (h : [.sch] ⊆ ps) :
    State.Only ps s (u.setTx p t) ↔ State.Only ps s u := State.Only.iff_of h (by
  simp (disch := decide) only [State.setTx, only_set_sch, only_refl])

theorem only_lostCopy (siphon : Bool) (i : Nat) (p : Nat) (k : Option Nat) (h : [.regs, .ctrs] ⊆ ps) :
    State.Only ps s (u.lostCopy siphon i p k) ↔ State.Only ps s u := State.Only.iff_of h (by
  cases k <;> simp (disch := decide) only [State.lostCopy, only_spill, only_bump, only_refl, State.Only.ite, implies_true, and_self])

theorem only_setCopy (i : Nat) (c : Copy) (h : [.qm] ⊆ ps) :
    State.Only ps s (u.setCopy i c) ↔ State.Only ps s u := State.Only.iff_of h (by
  simp (disch := decide) only [State.setCopy, only_set_qm, only_refl])

theorem only_setPkt (i : Nat) (p : Pkt) (h : [.qm] ⊆ ps) :
    State.Only ps s (u.setPkt i p) ↔ State.Only ps s u := State.Only.iff_of h (by
  simp (disch := decide) only [State.setPkt, only_set_qm, only_refl])

theorem only_setPool (k : Nat) (p : Pool) (h : [.bpm] ⊆ ps) :
    State.Only ps s (u.setPool k p) ↔ State.Only ps s u := State.Only.iff_of h (by
  simp (disch := decide) only [State.setPool, only_set_bpm, only_refl])

theorem only_setHeld (o k n : Nat) (h : [.bpm] ⊆ ps) :
    State.Only ps s (u.setHeld o k n) ↔ State.Only ps s u := State.Only.iff_of h (by
  simp (disch := decide) only [State.setHeld, only_set_bpm, only_refl])

theorem only_lowRearm (k : Nat) (h : [.bpm] ⊆ ps) :
    State.Only ps s (u.lowRearm k) ↔ State.Only ps s u := State.Only.iff_of h (by
  simp (disch := decide) only [State.lowRearm, only_setPool, only_refl, State.Only.ite, implies_true, and_self])

theorem only_returnBuffer (o k b : Nat) (h : [.ctrs, .bpm] ⊆ ps) :
    State.Only ps s (u.returnBuffer o k b) ↔ State.Only ps s u := State.Only.iff_of h (by
  simp (disch := decide) only [State.returnBuffer, only_setPool, only_setHeld, only_bump, only_lowRearm, only_refl])

theorem only_returnCells (o : Nat) (cells : List Nat) (h : [.ctrs, .bpm] ⊆ ps) :
    State.Only ps s (u.returnCells o cells) ↔ State.Only ps s u := State.Only.iff_of h (by
  refine State.Only.foldl (fun t a => ?_) _ (.refl _ _)
  simp (disch := decide) only [only_returnBuffer, only_refl])

theorem only_freePkt (i : Nat) (h : [.ctrs, .qm, .bpm] ⊆ ps) :
    State.Only ps s (u.freePkt i) ↔ State.Only ps s u := State.Only.iff_of h (by
  simp (disch := decide) only [State.freePkt, only_setPkt, only_returnCells, only_refl, State.Only.ite, implies_true, and_self])

theorem only_endCopy (i : Nat) (h : [.ctrs, .qm, .bpm] ⊆ ps) :
    State.Only ps s (u.endCopy i) ↔ State.Only ps s u := State.Only.iff_of h (by
  unfold State.endCopy
  dsimp only
  split
  · exact .refl _ _
  · split <;> simp (disch := decide) only [only_setCopy, only_freePkt, only_setPkt, only_set_qm, only_refl, State.Only.ite,
      implies_true, and_self])

theorem only_draw (k : Nat) (h : [.freeCtr] ⊆ ps) :
    State.Only ps s (u.draw k).2 ↔ State.Only ps s u := State.Only.iff_of h (by
  simp (disch := decide) only [State.draw, only_set_freeCtr, only_refl])

theorem only_flushPort (p : Nat) (h : [.freeCtr, .regs, .ctrs, .qm, .bpm, .sch, .block 72, .block 88, .block 258] ⊆ ps) :
    State.Only ps s (u.flushPort p) ↔ State.Only ps s u := State.Only.iff_of h (by
  unfold State.flushPort
  dsimp only
  generalize hw : u.qm.copies.entries.filter _ = waiting
  have hcopies : State.Only [.freeCtr, .regs, .ctrs, .qm, .bpm, .sch, .block 72, .block 88, .block 258] u (waiting.foldl
      (fun t e => (t.lostCopy e.2.siphon 14 p (some 3)).endCopy e.1) (u.setTx p { u.tx p with chosen := none, cut := [] })) := by
    refine (only_foldl fun t e => ?_).mpr ?_ <;>
      simp (disch := decide) only [only_endCopy, only_lostCopy, only_setTx, only_refl]
  generalize waiting.foldl _ _ = t at *
  split <;> simp (disch := decide) only [only_setTx, only_endCopy, only_record, only_setEvent, only_bump, only_draw,
    hcopies, State.Only.ite, implies_true, and_self])

theorem only_pllHold  (h : [.regs, .ctrs, .block 4, .block 72, .block 88, .block 258] ⊆ ps) :
    State.Only ps s (u.pllHold) ↔ State.Only ps s u := State.Only.iff_of h (by
  simp (disch := decide) only [State.pllHold, only_setBit, only_setEvent, only_refl, State.Only.ite, implies_true, and_self])

theorem only_setLink (k : Nat) (l : Link) (h : [.stk] ⊆ ps) :
    State.Only ps s (u.setLink k l) ↔ State.Only ps s u := State.Only.iff_of h (by
  simp (disch := decide) only [State.setLink, only_set_stk, only_refl])

theorem only_linkEvent (k j : Nat) (h : [.regs, .ctrs] ⊆ ps) :
    State.Only ps s (u.linkEvent k j) ↔ State.Only ps s u := State.Only.iff_of h (by
  exact (only_setEvent_high _ _ (by rw [Reg.stkLinkEvents]; omega) (List.Subset.refl _)).mpr (.refl _ _))

theorem only_deepPair (masterChanged : Bool) (h : [.regs, .stk, .block 64] ⊆ ps) :
    State.Only ps s (u.deepPair masterChanged) ↔ State.Only ps s u := State.Only.iff_of h (by
  unfold State.deepPair
  split <;>
  simp (disch := decide) only [only_setFld, only_setBit, only_set_stk, only_refl, State.Only.ite, implies_true, and_self])

theorem only_set_tb_stk (x : TimeBase) (y : Stacking) (h : [.tb, .stk] ⊆ ps) :
    State.Only ps s { u with tb := x, stk := y } ↔ State.Only ps s u :=
  (only_set_stk (t := { u with tb := x }) y fun _ hp => h (List.mem_cons_of_mem _ hp)).trans
    (only_set_tb x fun _ hp => h (List.mem_singleton.mp hp ▸ List.mem_cons_self))

theorem only_refreshTable (via : Nat) (h : [.regs, .ctrs, .tb, .stk, .block 64, .block 72, .block 88, .block 258] ⊆ ps) :
    State.Only ps s (u.refreshTable via) ↔ State.Only ps s u := State.Only.iff_of h (by
  unfold State.refreshTable
  dsimp only
  have hlinks : ∀ (l : List Nat) (t : State), State.Only [.regs, .ctrs, .tb, .stk, .block 64, .block 72, .block 88, .block 258] u t →
      State.Only [.regs, .ctrs, .tb, .stk, .block 64, .block 72, .block 88, .block 258] u (l.foldl (fun t k => t.linkEvent k 2) t) :=
    fun l t ht => (only_foldl fun t k => (only_linkEvent k 2 (by decide)).mpr (.refl _ _)).mpr ht
  refine (only_deepPair _ (by decide)).mpr (State.Only.ite.mpr
    ⟨fun _ => (only_set_tb_stk _ _ (by decide)).mpr (hlinks _ _ ?_), fun _ => hlinks _ _ ?_⟩) <;>
  simp (disch := decide) only [only_setFld, only_set_stk, only_refl])

theorem only_setLinkState (k st reason : Nat) (h : [.freeCtr, .regs, .ctrs, .qm, .bpm, .sch, .tb, .stk, .block 64, .block 72, .block 88, .block 258] ⊆ ps) :
    State.Only ps s (u.setLinkState k st reason) ↔ State.Only ps s u := State.Only.iff_of h (by
  simp (disch := decide) only [State.setLinkState, only_setLink, only_linkEvent, only_flushPort, only_refreshTable, only_set_stk, only_refl, State.Only.ite, implies_true, and_self])

theorem only_linkRefresh (k : Nat) (h : [.freeCtr, .regs, .ctrs, .qm, .bpm, .sch, .tb, .stk, .block 64, .block 72, .block 88, .block 258] ⊆ ps) :
    State.Only ps s (u.linkRefresh k) ↔ State.Only ps s u := State.Only.iff_of h (by
  simp (disch := decide) only [State.linkRefresh, only_setLink, only_setLinkState, only_setTx, only_refl, State.Only.ite, implies_true, and_self])

theorem only_lateral (p : Nat) (h : [.freeCtr, .regs, .ctrs, .qm, .bpm, .sch, .tb, .stk, .block 64, .block 72, .block 88, .block 258] ⊆ ps) :
    State.Only ps s (u.lateral p) ↔ State.Only ps s u := State.Only.iff_of h (by
  simp (disch := decide) only [State.lateral, only_linkRefresh, only_refl, State.Only.ite, implies_true, and_self])

theorem only_leaveUp (p st : Nat) (h : [.freeCtr, .regs, .ctrs, .ports, .qm, .bpm, .sch, .tb, .stk, .block 4, .block 64, .block 256, .block 72, .block 88, .block 258] ⊆ ps) :
    State.Only ps s (u.leaveUp p st) ↔ State.Only ps s u := State.Only.iff_of h (by
  simp (disch := decide) only [State.leaveUp, only_modPort, only_linkChg, only_flushPort, only_setTx, only_pllHold, only_lateral, only_refl, State.Only.ite, implies_true, and_self])

theorem only_endArriving (p pkt : Nat) (h : [.ports] ⊆ ps) :
    State.Only ps s (u.endArriving p pkt) ↔ State.Only ps s u := State.Only.iff_of h (by
  simp (disch := decide) only [State.endArriving, only_modPort, only_refl])

theorem only_bwCount (p n : Nat) (h : [.pmc] ⊆ ps) :
    State.Only ps s (u.bwCount p n) ↔ State.Only ps s u := State.Only.iff_of h (by
  simp (disch := decide) only [State.bwCount, only_set_pmc, only_refl, State.Only.ite, implies_true, and_self])

theorem only_rxCount (p verdict bytes : Nat) (h : [.regs, .ctrs, .pmc] ⊆ ps) :
    State.Only ps s (u.rxCount p verdict bytes) ↔ State.Only ps s u := State.Only.iff_of h (by
  unfold State.rxCount
  split <;>
  simp (disch := decide) only [only_bump, only_count, only_bwCount, only_refl])

theorem only_cutFrame (pkt n : Nat) (h : [.qm] ⊆ ps) :
    State.Only ps s (u.cutFrame pkt n) ↔ State.Only ps s u := State.Only.iff_of h (by
  simp (disch := decide) only [State.cutFrame, only_setPkt, only_refl])

theorem only_portAlarm {p bit : Nat} (key n lim : Nat) (hbit : groupOf p < 20 → bit < 24) (h : [.regs, .ctrs, .portWindow, .block 256] ⊆ ps) :
    State.Only ps s (u.portAlarm p key n lim bit) ↔ State.Only ps s u := State.Only.iff_of h (by
  unfold State.portAlarm
  dsimp only
  split_ifs
  · exact (only_setEvent_pg _ hbit (groupOf_lt p) (by decide)).mpr ((only_set_portWindow _ (by decide)).mpr (.refl _ _))
  · exact (only_set_portWindow _ (by decide)).mpr (.refl _ _))

theorem only_countStomp (p : Nat) (h : [.regs, .ctrs, .portWindow, .block 256] ⊆ ps) :
    State.Only ps s (u.countStomp p) ↔ State.Only ps s u := State.Only.iff_of h (by
  refine (only_portAlarm _ _ _ (fun h => ?_) (by decide)).mpr ?_
  · have := subOf_lt h; omega
  · simp (disch := decide) only [only_bump, only_count, only_refl])

theorem only_stompPkt (pkt : Nat) (h : [.regs, .ctrs, .portWindow, .qm, .bpm, .sch, .block 256] ⊆ ps) :
    State.Only ps s (u.stompPkt pkt) ↔ State.Only ps s u := State.Only.iff_of h (by
  refine State.Only.foldl (fun t a => ?_) _ (.refl _ _)
  simp (disch := decide) only [only_countStomp, only_setTx, only_lostCopy, only_endCopy, only_refl, State.Only.ite, implies_true, and_self])

theorem only_pktVerdict (pkt v : Nat) (h : [.regs, .ctrs, .portWindow, .qm, .bpm, .sch, .block 256] ⊆ ps) :
    State.Only ps s (u.pktVerdict pkt v) ↔ State.Only ps s u := State.Only.iff_of h (by
  simp (disch := decide) only [State.pktVerdict, only_setPkt, only_stompPkt, only_refl, State.Only.ite, implies_true, and_self])

theorem only_flowVerdict (pkt v : Nat) (h : [.flow] ⊆ ps) :
    State.Only ps s (u.flowVerdict pkt v) ↔ State.Only ps s u := State.Only.iff_of h (by
  simp (disch := decide) only [State.flowVerdict, only_set_flow, only_refl])

theorem only_postNotice (n : Notice) (h : [.regs, .ctrs, .tables, .block 36] ⊆ ps) :
    State.Only ps s (u.postNotice n) ↔ State.Only ps s u := State.Only.iff_of h (by
  simp (disch := decide) only [State.postNotice, only_bump, only_setEvent, only_set_tables, only_refl, State.Only.ite, implies_true, and_self])

theorem only_postLearn (g : Nat) (n : Notice) (h : [.regs, .ctrs, .tables, .block 36] ⊆ ps) :
    State.Only ps s (u.postLearn g n) ↔ State.Only ps s u := State.Only.iff_of h (by
  simp (disch := decide) only [State.postLearn, only_bump, only_postNotice, only_set_tables, only_refl, State.Only.ite, implies_true, and_self])

theorem only_decideLearn (g : Nat) (n : Notice) (good : Bool) (h : [.regs, .ctrs, .tables, .block 36] ⊆ ps) :
    State.Only ps s (u.decideLearn g n good) ↔ State.Only ps s u := State.Only.iff_of h (by
  simp (disch := decide) only [State.decideLearn, only_postLearn, only_bump, only_refl, State.Only.ite, implies_true, and_self])

theorem only_learnVerdicts (pkt : Nat) (good : Bool) (h : [.regs, .ctrs, .tables, .block 36] ⊆ ps) :
    State.Only ps s (u.learnVerdicts pkt good) ↔ State.Only ps s u := State.Only.iff_of h (by
  refine State.Only.foldl (fun t g => ?_) _ (.refl _ _)
  refine (only_foldl fun u n => (only_decideLearn _ _ _ (by decide)).mpr (.refl _ _)).mpr ?_
  exact (only_set_tables _ (by decide)).mpr (.refl _ _))

theorem only_deliverVerdict (pkt v : Nat) (h : [.regs, .ctrs, .portWindow, .tables, .flow, .qm, .bpm, .sch, .block 36, .block 256] ⊆ ps) :
    State.Only ps s (u.deliverVerdict pkt v) ↔ State.Only ps s u := State.Only.iff_of h (by
  simp (disch := decide) only [State.deliverVerdict, only_pktVerdict, only_flowVerdict, only_learnVerdicts, only_refl])

theorem only_endReceiving (p : Nat) (h : [.regs, .ctrs, .ports, .portWindow, .tables, .flow, .qm, .bpm, .sch, .pmc, .block 36, .block 256] ⊆ ps) :
    State.Only ps s (u.endReceiving p) ↔ State.Only ps s u := State.Only.iff_of h (by
  refine State.Only.foldl (fun t a => ?_) _ (.refl _ _)
  simp (disch := decide) only [only_endArriving, only_rxCount, only_cutFrame, only_deliverVerdict, only_refl])

/-- What a port's going down may change: its own part, what follows for its queues, its frames being received and its lateral
link. -/
def linkParts : List Part := [.freeCtr, .regs, .ctrs, .ports, .portWindow, .tables, .flow, .qm, .bpm, .sch, .tb, .stk, .pmc, .block 4, .block 36, .block 64, .block 256, .block 72, .block 88, .block 258]

theorem only_portFall (p st : Nat) (h : linkParts ⊆ ps) :
    State.Only ps s (u.portFall p st) ↔ State.Only ps s u := State.Only.iff_of h (by
  simp (disch := decide) only [State.portFall, only_leaveUp, only_modPort, only_endReceiving, only_refl, State.Only.ite, implies_true, and_self])

theorem only_portRefresh (p : Nat) (h : linkParts ⊆ ps) :
    State.Only ps s (u.portRefresh p) ↔ State.Only ps s u := State.Only.iff_of h (by
  simp (disch := decide) only [State.portRefresh, only_portFall, only_modPort, only_refl, State.Only.ite, implies_true, and_self])

theorem only_groupRefresh (g : Nat) (h : linkParts ⊆ ps) :
    State.Only ps s (u.groupRefresh g) ↔ State.Only ps s u := State.Only.iff_of h (by
  refine State.Only.foldl (fun t a => ?_) _ (.refl _ _)
  simp (disch := decide) only [only_portRefresh, only_refl])

theorem only_setCage (n : Nat) (c : Cage) (h : .supply :: linkParts ⊆ ps) :
    State.Only ps s (u.setCage n c) ↔ State.Only ps s u := State.Only.iff_of h (by
  simp (disch := decide) only [State.setCage, only_groupRefresh, only_set_supply, only_refl, State.Only.ite, implies_true, and_self])

theorem only_powerCage (n : Nat) (h : .supply :: linkParts ⊆ ps) :
    State.Only ps s (u.powerCage n) ↔ State.Only ps s u := State.Only.iff_of h (by
  simp (disch := decide) only [State.powerCage, only_setCage, only_refl, State.Only.ite, implies_true, and_self])

end

end Sys2Proof.Machine
end

section
/-! PROOFS. What a port's going up or down does to the ports (R204–R210). -/
namespace Sys2Proof.Machine

/-! ### One port changed -/

section
variable {s t : State} {p st : Nat}

theorem get_modPort (s : State) (p : Nat) (f : Port → Port) (k : Nat) :
    (s.modPort p f).ports.get k = if k = p then f (s.ports.get p) else s.ports.get k := SMap.get_mod ..

/-- What follows a port's leaving state 5 leaves the ports alone. -/
def fallParts : List Part := [.freeCtr, .regs, .ctrs, .qm, .bpm, .sch, .tb, .stk, .block 4, .block 64, .block 256, .block 72, .block 88, .block 258]

theorem only_leaveUp_modPort (s : State) (p st : Nat) : State.Only fallParts
    (s.modPort p fun q => { q with state := st, calValid := false, linkDowns := satNat (q.linkDowns + 1) 65535 }) (s.leaveUp p st) := by
  simp (disch := decide) only [State.leaveUp, only_linkChg, only_flushPort, only_setTx, only_pllHold, only_lateral, only_refl,
    State.Only.ite, implies_true, and_self]

theorem get_leaveUp (s : State) (p st k : Nat) : (s.leaveUp p st).ports.get k =
    if k = p then { s.ports.get p with state := st, calValid := false, linkDowns := satNat ((s.ports.get p).linkDowns + 1) 65535 }
    else s.ports.get k := by
  have hports : (s.leaveUp p st).ports = _ := (only_leaveUp_modPort s p st).same .ports (by decide)
  rw [hports, get_modPort]

/-! ### Frames being received -/

/-- What the end of one frame being received does beside the port. -/
theorem only_frameEnds (s : State) (p i v : Nat) :
    State.Only [.regs, .ctrs, .portWindow, .tables, .flow, .qm, .bpm, .sch, .pmc, .block 36, .block 256] (s.endArriving p i)
      ((((s.endArriving p i).rxCount p v 0).cutFrame i (256 * (s.pkt i).cells.length)).deliverVerdict i v) := by
  simp (disch := decide) only [only_rxCount, only_cutFrame, only_deliverVerdict, only_refl]

/-- Nothing but the frames of one port's being received is another. -/
def Port.AsBut (q r : Port) : Prop := r = { q with receiving := r.receiving, arriving := r.arriving }

theorem Port.AsBut.trans {q r x : Port} (h : q.AsBut r) (k : r.AsBut x) : q.AsBut x := by
  rw [Port.AsBut, k, h]

theorem foldl_endReceiving (l : List Nat) (f : State → Nat → State)
    (hf : ∀ t i, ∃ v, f t i = (((t.endArriving p i).rxCount p v 0).cutFrame i (256 * (t.pkt i).cells.length)).deliverVerdict i v) :
    ∀ s : State, (∀ k, k ≠ p → (l.foldl f s).ports.get k = s.ports.get k) ∧
      Port.AsBut (s.ports.get p) ((l.foldl f s).ports.get p) ∧
      ((l.foldl f s).ports.get p).receiving = (s.ports.get p).receiving.filter fun n => decide (n ∉ l) := by
  induction l with
  | nil => exact fun s => ⟨fun _ _ => rfl, rfl, by simp⟩
  | cons i l ih =>
    intro s
    obtain ⟨v, hv⟩ := hf s i
    have hports : (f s i).ports = (s.endArriving p i).ports := by
      rw [hv]; exact (only_frameEnds s p i v).same .ports (by decide)
    have hget : ∀ k, (f s i).ports.get k = if k = p then { s.ports.get p with
        receiving := (s.ports.get p).receiving.filter (fun n => n != i)
        arriving := (s.ports.get p).arriving.set i default } else s.ports.get k := by
      intro k; rw [hports, State.endArriving, get_modPort]
    obtain ⟨hother, hsame, hrec⟩ := ih (f s i)
    refine ⟨fun k hk => (hother k hk).trans ((hget k).trans (if_neg hk)), ?_, ?_⟩
    · refine Port.AsBut.trans ?_ hsame
      rw [hget, if_pos rfl]; rfl
    · rw [List.foldl_cons, hrec, hget, if_pos rfl, List.filter_filter]
      refine List.filter_congr fun n _ => ?_
      by_cases hn : n = i <;> simp [hn]

/-- Frames being received end: the port has none any longer (R209, R210). -/
theorem get_endReceiving (s : State) (p : Nat) : (∀ k, k ≠ p → (s.endReceiving p).ports.get k = s.ports.get k) ∧
    Port.AsBut (s.ports.get p) ((s.endReceiving p).ports.get p) ∧ ((s.endReceiving p).ports.get p).receiving = [] := by
  obtain ⟨hother, hsame, hrec⟩ := foldl_endReceiving (p := p) (s.ports.get p).receiving _ (fun t i => ⟨_, rfl⟩) s
  refine ⟨hother, hsame, hrec.trans ?_⟩
  simp

/-! ### A port that goes down -/

theorem get_portFall_other (s : State) {p st k : Nat} (hk : k ≠ p) : (s.portFall p st).ports.get k = s.ports.get k := by
  unfold State.portFall
  dsimp only
  split_ifs <;> simp only [(get_endReceiving _ p).1 k hk, get_modPort, get_leaveUp, if_neg hk]

theorem portState_portFall (s : State) (p st : Nat) : (s.portFall p st).portState p = st := by
  have hend : ∀ t : State, ((t.endReceiving p).ports.get p).state = (t.ports.get p).state := fun t => by
    rw [(get_endReceiving t p).2.1]
  unfold State.portFall
  dsimp only
  split_ifs <;> simp only [hend, State.portState, get_modPort, get_leaveUp, if_true]

theorem get_portRefresh_other (s : State) {p k : Nat} (hk : k ≠ p) : (s.portRefresh p).ports.get k = s.ports.get k := by
  unfold State.portRefresh
  dsimp only
  split_ifs <;> simp only [get_portFall_other _ hk, get_modPort, if_neg hk]

/-- A port whose group has no supply is in state 0 (R204). -/
theorem portState_portRefresh_off (s : State) {p : Nat} (h : s.groupPowered (groupOf p) = false) : (s.portRefresh p).portState p = 0 := by
  unfold State.portRefresh
  simp only [h, Bool.and_false, Bool.not_false, if_true]
  split_ifs with h0
  · exact h0
  · exact portState_portFall ..

/-! ### The ports of a group -/

/-- A port of a group stands in that group. -/
theorem groupOf_of_mem {g : Nat} (hg : g < 20) (h : p ∈ s.groupPorts g) : groupOf p = g := by
  obtain ⟨i, hi, rfl⟩ := List.mem_map.mp h
  have hi8 : i < 8 ∧ (16 ≤ g → i = 0) := by
    rw [State.cageMode] at hi
    split_ifs at hi with h16
    · refine ⟨?_, by omega⟩
      unfold subPorts at hi
      split_ifs at hi <;> simp at hi <;> omega
    · simp [subPorts] at hi; omega
  rw [portOf, groupOf]
  split_ifs <;> omega

theorem groupPowered_of_only {l : List Part} (h : State.Only l s t) (hsupply : .supply ∉ l) (hboot : .boot ∉ l)
    (hgate : .block 0x101 ∉ l) (g : Nat) : t.groupPowered g = s.groupPowered g := by
  have hs : t.supply = s.supply := h.same .supply hsupply
  have hb : t.boot = s.boot := h.same .boot hboot
  rw [State.groupPowered, State.groupPowered, hs, hb,
    State.bit_of_rd (h.same (.block 0x101) hgate Reg.clkPgGate (by decide) (by decide))]

theorem only_portRefresh_self (s : State) (p : Nat) : State.Only linkParts s (s.portRefresh p) :=
  (only_portRefresh p (List.Subset.refl _)).mpr (.refl _ _)

theorem only_groupRefresh_self (s : State) (g : Nat) : State.Only linkParts s (s.groupRefresh g) :=
  (only_groupRefresh g (List.Subset.refl _)).mpr (.refl _ _)

theorem get_foldl_portRefresh_other {k : Nat} (l : List Nat) (hk : k ∉ l) : ∀ s : State,
    (l.foldl (fun t p => t.portRefresh p) s).ports.get k = s.ports.get k := by
  induction l with
  | nil => exact fun _ => rfl
  | cons p l ih =>
    rw [List.mem_cons, not_or] at hk
    exact fun s => (ih hk.2 _).trans (get_portRefresh_other s hk.1)

/-- The ports of other groups stay as they are. -/
theorem get_groupRefresh_other {g k : Nat} (hk : k ∉ s.groupPorts g) : (s.groupRefresh g).ports.get k = s.ports.get k :=
  get_foldl_portRefresh_other _ hk s

theorem foldl_portRefresh_off {g : Nat} (l : List Nat) (hl : ∀ p ∈ l, groupOf p = g) : ∀ s : State, s.groupPowered g = false →
    ∀ k, k ∈ l ∨ s.portState k = 0 → (l.foldl (fun t p => t.portRefresh p) s).portState k = 0 := by
  induction l with
  | nil => exact fun s _ k hk => hk.resolve_left List.not_mem_nil
  | cons p l ih =>
    intro s hoff k hk
    have hp : groupOf p = g := hl p List.mem_cons_self
    have hzero := portState_portRefresh_off s (p := p) (hp ▸ hoff)
    refine ih (fun q hq => hl q (List.mem_cons_of_mem _ hq)) _
      ((groupPowered_of_only (only_portRefresh_self s p) (by decide) (by decide) (by decide) g).trans hoff) k ?_
    by_cases hkp : k = p
    · rw [hkp]; exact .inr hzero
    · rcases hk with hk | hk
      · exact .inl ((List.mem_cons.mp hk).resolve_left hkp)
      · exact .inr (by rw [State.portState, get_portRefresh_other s hkp]; exact hk)

/-- With no supply every port of the group is in state 0 (R204). -/
theorem portState_groupRefresh_off {g : Nat} (hg : g < 20) (hoff : s.groupPowered g = false) (hp : p ∈ s.groupPorts g) :
    (s.groupRefresh g).portState p = 0 :=
  foldl_portRefresh_off _ (fun _ hq => groupOf_of_mem hg hq) s hoff p (.inl hp)

end

end Sys2Proof.Machine
end

section
/-! PROOFS. What `exec` does with the commands of the supervisor and of the boot: one equation for each. -/
namespace Sys2Proof.Machine

section
variable (s : State)

theorem exec_blobCopyDone : exec .blobCopyDone s = execBlobCopyDone s := rfl
theorem exec_conditionClear (which : EarthCondition) (absentMs : Nat) :
    exec (.conditionClear which absentMs) s = execConditionClear which absentMs s := rfl
theorem exec_corePllLockReturn (pll : Nat) : exec (.corePllLockReturn pll) s = execCorePllLockReturn pll s := rfl
theorem exec_dailyBinExpire : exec .dailyBinExpire s = execDailyBinExpire s := rfl
theorem exec_dramTraining (stack : Nat) (ok : Bool) : exec (.dramTraining stack ok) s = execDramTraining stack ok s := rfl
theorem exec_excursionLogWrite (inlet : Int) (sinceMs : Nat) :
    exec (.excursionLogWrite inlet sinceMs) s = execExcursionLogWrite inlet sinceMs s := rfl
theorem exec_excursionMinute (inlet : Int) : exec (.excursionMinute inlet) s = execExcursionMinute inlet s := rfl
theorem exec_fanFailed (fan percent heldMs : Nat) : exec (.fanFailed fan percent heldMs) s = execFanFailed fan percent heldMs s := rfl
theorem exec_fanRunning (fan percent heldMs : Nat) : exec (.fanRunning fan percent heldMs) s = execFanRunning fan percent heldMs s := rfl
theorem exec_faultRecordWrite : exec .faultRecordWrite s = execFaultRecordWrite s := rfl
theorem exec_freqMeasureDone (khz : Nat) : exec (.freqMeasureDone khz) s = execFreqMeasureDone khz s := rfl
theorem exec_fuseRetry (cage : Nat) (trips : Bool) : exec (.fuseRetry cage trips) s = execFuseRetry cage trips s := rfl
theorem exec_fuseTrip (cage : Nat) : exec (.fuseTrip cage) s = execFuseTrip cage s := rfl
theorem exec_highInput (vrms : Nat) : exec (.highInput vrms) s = execHighInput vrms s := rfl
theorem exec_inputRelayOpen : exec .inputRelayOpen s = execInputRelayOpen s := rfl
theorem exec_interruption (vrms heldMs : Nat) : exec (.interruption vrms heldMs) s = execInterruption vrms heldMs s := rfl
theorem exec_lnSwap (heldMs : Nat) : exec (.lnSwap heldMs) s = execLnSwap heldMs s := rfl
theorem exec_opticInserted (cage heldMs : Nat) (cmis : Bool) :
    exec (.opticInserted cage heldMs cmis) s = execOpticInserted cage heldMs cmis s := rfl
theorem exec_opticRemoved (cage : Nat) : exec (.opticRemoved cage) s = execOpticRemoved cage s := rfl
theorem exec_overVoltage (vrms : Nat) : exec (.overVoltage vrms) s = execOverVoltage vrms s := rfl
theorem exec_overloadClockRise : exec .overloadClockRise s = execOverloadClockRise s := rfl
theorem exec_overloadClockStep : exec .overloadClockStep s = execOverloadClockStep s := rfl
theorem exec_peOpen (ohms heldMs : Nat) : exec (.peOpen ohms heldMs) s = execPeOpen ohms heldMs s := rfl
theorem exec_pllLockLoss (pll : Nat) : exec (.pllLockLoss pll) s = execPllLockLoss pll s := rfl
theorem exec_recoveryWindowClose (micros : Nat) : exec (.recoveryWindowClose micros) s = execRecoveryWindowClose micros s := rfl
theorem exec_regionsCleared : exec .regionsCleared s = execRegionsCleared s := rfl
theorem exec_revalidateRecord (readout : RecordReadout) : exec (.revalidateRecord readout) s = execRevalidateRecord readout s := rfl
theorem exec_rideThroughEnd (vrms : Nat) : exec (.rideThroughEnd vrms) s = execRideThroughEnd vrms s := rfl
theorem exec_sag (vrms heldMs : Nat) : exec (.sag vrms heldMs) s = execSag vrms heldMs s := rfl
theorem exec_selfRefreshExit : exec .selfRefreshExit s = execSelfRefreshExit s := rfl
theorem exec_serdesCalibration (group : Nat) (ok : Bool) : exec (.serdesCalibration group ok) s = execSerdesCalibration group ok s := rfl
theorem exec_shedStep : exec .shedStep s = execShedStep s := rfl
theorem exec_supplyMeasure (m : SupplyReading) : exec (.supplyMeasure m) s = execSupplyMeasure m s := rfl
theorem exec_surge (milliamps : Nat) : exec (.surge milliamps) s = execSurge milliamps s := rfl
theorem exec_thermalStepDown (inlet tj : Int) (heldMs : Nat) :
    exec (.thermalStepDown inlet tj heldMs) s = execThermalStepDown inlet tj heldMs s := rfl
theorem exec_thermalStepUp (inlet tj : Int) (heldMs : Nat) :
    exec (.thermalStepUp inlet tj heldMs) s = execThermalStepUp inlet tj heldMs s := rfl

end

end Sys2Proof.Machine
end

section
/-! PROOFS. Cages settled: optics, fuses and load shedding (R33, R34, R82–R89, R107–R109). -/
namespace Sys2Proof.Machine

section
variable {l : List Part} {s t u : State}

/-- A register of a block left alone. -/
theorem State.Only.rd (h : State.Only l s t) {a : Nat} (ha : a < 0x700000) (hb : .block (blockOf a) ∉ l) : t.rd a = s.rd a :=
  h.same _ hb a ha rfl

theorem State.Only.fld (h : State.Only l s t) {a : Nat} (ha : a < 0x700000) (hb : .block (blockOf a) ∉ l) (hi lo : Nat) :
    t.fld a hi lo = s.fld a hi lo := State.fld_of_rd (h.rd ha hb) hi lo

theorem State.Only.bit (h : State.Only l s t) {a : Nat} (ha : a < 0x700000) (hb : .block (blockOf a) ∉ l) (i : Nat) :
    t.bit a i = s.bit a i := State.bit_of_rd (h.rd ha hb) i

/-! ### The supply of one cage -/

theorem only_setCage_self (s : State) (n : Nat) (c : Cage) : State.Only (.supply :: linkParts) s (s.setCage n c) :=
  (only_setCage n c (List.Subset.refl _)).mpr (.refl _ _)

theorem supply_setCage (s : State) (n : Nat) (c : Cage) :
    (s.setCage n c).supply = { s.supply with cages := s.supply.cages.set n c } := by
  unfold State.setCage
  dsimp only
  split_ifs
  · exact ((only_groupRefresh n (List.Subset.refl _)).mpr (.refl _ _)).same .supply (by decide)
  · rfl

theorem cage_setCage (s : State) (n : Nat) (c : Cage) (k : Nat) : (s.setCage n c).cage k = if k = n then c else s.cage k := by
  rw [State.cage, supply_setCage]
  exact SMap.get_set ..

theorem isShed_of_only (h : State.Only l s t) (hb : .block 1 ∉ l) (n : Nat) : t.isShed n = s.isShed n := by
  rw [State.isShed, State.isShed, h.bit (a := Reg.ssvShed) (by decide) hb]

theorem cagesAllowed_of_only (h : State.Only l s t) (hboot : .boot ∉ l) (hb : .block 2 ∉ l) (hon : t.supply.on = s.supply.on) :
    t.cagesAllowed = s.cagesAllowed := by
  have hsame : t.boot = s.boot := h.same .boot hboot
  have hfld := fun hi lo => h.fld (a := Reg.bootStatus) (by decide) hb hi lo
  have hbit := fun i => h.bit (a := Reg.bootStatus) (by decide) hb i
  simp only [State.cagesAllowed, hon, hsame, hfld, hbit]

theorem cage_powerCage (s : State) (n k : Nat) : (s.powerCage n).cage k =
    if k = n ∧ (s.cage n).present = true ∧ s.cagesAllowed = true ∧ s.isShed n = false then
      (if (s.cage n).latched then { s.cage n with fuse := .latched } else { s.cage n with fuse := .on, retries := 0 })
    else s.cage k := by
  unfold State.powerCage
  dsimp only
  by_cases hp : ((s.cage n).present && s.cagesAllowed && !s.isShed n) = true
  · rw [if_pos hp, cage_setCage]
    simp only [Bool.and_eq_true, Bool.not_eq_true', and_assoc] at hp
    by_cases hk : k = n
    · simp only [if_pos hk, hk, hp, and_self, if_true]
    · rw [if_neg hk, if_neg fun h => hk h.1]
  · rw [if_neg hp, if_neg]
    simpa [and_assoc] using fun _ : k = n => fun h1 h2 => by simpa [h1, h2] using hp

/-- Everything but one cage, its ports and what follows from them (the statements' words for a change of one cage). -/
theorem others_setCage (s : State) (n : Nat) (c : Cage) : (∀ k, k ≠ n → (s.setCage n c).cage k = s.cage k) ∧
    (s.setCage n c).mem = s.mem ∧ (s.setCage n c).boot = s.boot ∧ (s.setCage n c).flash = s.flash :=
  have h := only_setCage_self s n c
  ⟨fun k hk => by rw [cage_setCage, if_neg hk], h.same .mem (by decide), h.same .boot (by decide), h.same .flash (by decide)⟩

/-- With its fuse not on a cage's ports are in state 0 (R204). -/
theorem portState_setCage_off {n : Nat} {c : Cage} (hn : n < 20) (hup : s.coreUp = true) (hc : c.fuse ≠ .on) {p : Nat}
    (hp : p ∈ s.groupPorts n) : (s.setCage n c).portState p = 0 := by
  have hcore : State.coreUp { s with supply.cages := s.supply.cages.set n c } = true := hup
  unfold State.setCage
  simp only [hcore, if_true]
  refine portState_groupRefresh_off hn ?_ hp
  have hget : (s.supply.cages.set n c).get n = c := (SMap.get_set ..).trans (if_pos rfl)
  simp only [State.groupPowered, hget]
  cases hf : c.fuse <;> first | exact absurd hf hc | rfl


theorem others_powerCage (s : State) (n : Nat) : (∀ k, k ≠ n → (s.powerCage n).cage k = s.cage k) ∧
    (s.powerCage n).mem = s.mem ∧ (s.powerCage n).boot = s.boot ∧ (s.powerCage n).flash = s.flash :=
  have h := (only_powerCage (s := s) n (List.Subset.refl _)).mpr (.refl _ _)
  ⟨fun k hk => by rw [cage_powerCage, if_neg fun h => hk h.1], h.same .mem (by decide), h.same .boot (by decide),
    h.same .flash (by decide)⟩

/-- A cage may have power: the image runs, with the stacks trained in a cold run (R138). -/
theorem cagesAllowed_iff (hon : s.supply.on = true) : s.cagesAllowed = true ↔
    s.imageRuns = true ∧ (s.fld Reg.bootStatus 27 26 ≠ 0 ∨ ∀ k < 4, k ∈ s.boot.trained) := by
  simp [State.cagesAllowed, State.imageRuns, hon, and_assoc]

theorem coreUp_setCage (s : State) (n : Nat) (c : Cage) : (s.setCage n c).coreUp = s.coreUp := by
  rw [State.coreUp, State.coreUp, (others_setCage s n c).2.2.1]

theorem isShed_setCage (s : State) (n : Nat) (c : Cage) (k : Nat) : (s.setCage n c).isShed k = s.isShed k :=
  isShed_of_only (only_setCage_self s n c) (by decide) k

theorem cagesAllowed_setCage (s : State) (n : Nat) (c : Cage) : (s.setCage n c).cagesAllowed = s.cagesAllowed :=
  cagesAllowed_of_only (only_setCage_self s n c) (by decide) (by decide) (by rw [supply_setCage])

/-- A cage changed and then powered where it may be. -/
theorem cage_setCage_powerCage (s : State) (n : Nat) (c : Cage) : ((s.setCage n c).powerCage n).cage n =
    if c.present = true ∧ s.cagesAllowed = true ∧ s.isShed n = false then
      (if c.latched then { c with fuse := .latched } else { c with fuse := .on, retries := 0 })
    else c := by
  simp only [cage_powerCage, cage_setCage, cagesAllowed_setCage, isShed_setCage, if_true, true_and]

theorem others_setCage_powerCage (s : State) (n : Nat) (c : Cage) :
    (∀ k, k ≠ n → ((s.setCage n c).powerCage n).cage k = s.cage k) ∧ ((s.setCage n c).powerCage n).mem = s.mem ∧
      ((s.setCage n c).powerCage n).boot = s.boot ∧ ((s.setCage n c).powerCage n).flash = s.flash := by
  obtain ⟨h1, h2, h3, h4⟩ := others_powerCage (s.setCage n c) n
  obtain ⟨k1, k2, k3, k4⟩ := others_setCage s n c
  exact ⟨fun k hk => (h1 k hk).trans (k1 k hk), h2.trans k2, h3.trans k3, h4.trans k4⟩

/-- A word with one bit set names that cage alone. -/
theorem setBits_pow {n w : Nat} (hn : n < w) (hw : w ≤ 32) : setBits (BitVec.ofNat 32 (2 ^ n)).toNat w = [n] := by
  have hlt : 2 ^ n < 2 ^ 32 := Nat.pow_lt_pow_right (by decide) (by omega)
  have hbit : ∀ i, bitAt (BitVec.ofNat 32 (2 ^ n)).toNat i = decide (i = n) := fun i => by
    rw [BitVec.toNat_ofNat, Nat.mod_eq_of_lt hlt, bitAt_eq_testBit, Nat.testBit_two_pow]
    simp [eq_comm]
  have hcount : (List.range w).count n = 1 := List.count_eq_one_of_mem List.nodup_range (List.mem_range.mpr hn)
  rw [setBits, List.filter_congr fun i _ => (hbit i).trans (beq_eq_decide i n).symm, List.filter_beq, hcount]
  rfl

end

/-- Settles O33, by what one cage's supply changes. -/
theorem cageSupply : Obligations.CageSupply := by
  unfold Obligations.CageSupply
  intro s hon hup allowed others
  have hallowed : s.cagesAllowed = true ↔ allowed := cagesAllowed_iff hon
  refine ⟨fun n ms cmis hn hpresent hms => ?_, fun n hn hpresent => ?_, fun acc n hn hreach hlatched => ?_⟩
  · refine ⟨(s.setCage n { present := true, cmis := cmis }).powerCage n, ?_, others_setCage_powerCage .., ?_, ?_⟩
    · simp [exec_opticInserted, execOpticInserted, whenWf, occurs, hn, hon, hpresent, hms]
    · intro ha hs
      rw [cage_setCage_powerCage, if_pos ⟨rfl, hallowed.mpr ha, hs⟩]; rfl
    · intro ha
      rw [cage_setCage_powerCage, if_neg]
      rintro ⟨-, h1, h2⟩
      exact ha.elim (fun h => h (hallowed.mp h1)) fun h => by rw [h2] at h; cases h
  · refine ⟨s.setCage n {}, ?_, ?_, others_setCage .., fun p hp => portState_setCage_off hn hup (by decide) hp⟩
    · simp [exec_opticRemoved, execOpticRemoved, whenWf, occurs, hn, hpresent]
    · rw [cage_setCage, if_pos rfl]
  · have hrearm : writeFuseRearm s (BitVec.ofNat 32 (2 ^ n)) =
        (s.setCage n { s.cage n with fuse := .off, retries := 0, latched := false }).powerCage n := by
      rw [writeFuseRearm, setBits_pow hn (by decide), List.foldl_cons, List.foldl_nil, if_pos hlatched]
    refine ⟨_, writeRow_reaches hreach (by simpa using hreach.1) rfl _, ?_⟩
    rw [hrearm]
    refine ⟨others_setCage_powerCage .., fun ha hp hs => ?_, fun ha => ?_⟩
    · rw [cage_setCage_powerCage, if_pos ⟨hp, hallowed.mpr ha, hs⟩]; rfl
    · rw [cage_setCage_powerCage, if_neg]
      rintro ⟨hp, h1, h2⟩
      rcases ha with h | h | h
      · exact h (hallowed.mp h1)
      · exact absurd (hp.symm.trans h) (by decide)
      · exact absurd (h2.symm.trans h) (by decide)

end Sys2Proof.Machine
end

section
/-! PROOFS. Cage fuses and load shedding settled (R82–R89, R107–R109). -/
namespace Sys2Proof.Machine

section
variable {s t : State} {l : List Part} {n : Nat}

/-! ### A part left alone -/

namespace State.Only

variable (h : State.Only l s t)
include h

theorem pending_eq (hp : .pending ∉ l) : t.pending = s.pending := h.same .pending hp
theorem freeCtr_eq (hp : .freeCtr ∉ l) : t.freeCtr = s.freeCtr := h.same .freeCtr hp
theorem regs_eq (hp : .regs ∉ l) : t.regs = s.regs := h.same .regs hp
theorem ctrs_eq (hp : .ctrs ∉ l) : t.ctrs = s.ctrs := h.same .ctrs hp
theorem shadows_eq (hp : .shadows ∉ l) : t.shadows = s.shadows := h.same .shadows hp
theorem rdData_eq (hp : .rdData ∉ l) : t.rdData = s.rdData := h.same .rdData hp
theorem mem_eq (hp : .mem ∉ l) : t.mem = s.mem := h.same .mem hp
theorem measDomain_eq (hp : .measDomain ∉ l) : t.measDomain = s.measDomain := h.same .measDomain hp
theorem supply_eq (hp : .supply ∉ l) : t.supply = s.supply := h.same .supply hp
theorem fuses_eq (hp : .fuses ∉ l) : t.fuses = s.fuses := h.same .fuses hp
theorem flash_eq (hp : .flash ∉ l) : t.flash = s.flash := h.same .flash hp
theorem aon_eq (hp : .aon ∉ l) : t.aon = s.aon := h.same .aon hp
theorem boot_eq (hp : .boot ∉ l) : t.boot = s.boot := h.same .boot hp
theorem ports_eq (hp : .ports ∉ l) : t.ports = s.ports := h.same .ports hp
theorem portWindow_eq (hp : .portWindow ∉ l) : t.portWindow = s.portWindow := h.same .portWindow hp
theorem hdg_eq (hp : .hdg ∉ l) : t.hdg = s.hdg := h.same .hdg hp
theorem tables_eq (hp : .tables ∉ l) : t.tables = s.tables := h.same .tables hp
theorem dsp_eq (hp : .dsp ∉ l) : t.dsp = s.dsp := h.same .dsp hp
theorem flume_eq (hp : .flume ∉ l) : t.flume = s.flume := h.same .flume hp
theorem flow_eq (hp : .flow ∉ l) : t.flow = s.flow := h.same .flow hp
theorem qm_eq (hp : .qm ∉ l) : t.qm = s.qm := h.same .qm hp
theorem bpm_eq (hp : .bpm ∉ l) : t.bpm = s.bpm := h.same .bpm hp
theorem sch_eq (hp : .sch ∉ l) : t.sch = s.sch := h.same .sch hp
theorem tb_eq (hp : .tb ∉ l) : t.tb = s.tb := h.same .tb hp
theorem stk_eq (hp : .stk ∉ l) : t.stk = s.stk := h.same .stk hp
theorem dmc_eq (hp : .dmc ∉ l) : t.dmc = s.dmc := h.same .dmc hp
theorem ecc_eq (hp : .ecc ∉ l) : t.ecc = s.ecc := h.same .ecc hp
theorem dma_eq (hp : .dma ∉ l) : t.dma = s.dma := h.same .dma hp
theorem pmc_eq (hp : .pmc ∉ l) : t.pmc = s.pmc := h.same .pmc hp
theorem mgt_eq (hp : .mgt ∉ l) : t.mgt = s.mgt := h.same .mgt hp
theorem test_eq (hp : .test ∉ l) : t.test = s.test := h.same .test hp

end State.Only

theorem only_ssvEvent (i : Nat) (h : [.regs, .ctrs] ⊆ l) : State.Only l s (t.ssvEvent i) ↔ State.Only l s t := by
  unfold State.ssvEvent
  split_ifs
  · exact only_raiseEvent i h
  · exact Iff.rfl

theorem coreUp_of_only (h : State.Only l s t) (hb : .boot ∉ l) : t.coreUp = s.coreUp := by
  rw [State.coreUp, State.coreUp, h.boot_eq hb]

theorem coreUp_bumpFld (s : State) (a hi lo k : Nat) : (s.bumpFld a hi lo k).coreUp = s.coreUp := rfl

theorem groupPorts_of_only (h : State.Only l s t) (hb : .block 0x10 ∉ l) (hn : n < 20) : t.groupPorts n = s.groupPorts n := by
  have hmode : t.cageMode n = s.cageMode n := by
    rw [State.cageMode, State.cageMode, h.fld (by rw [Reg.pgCtrl]; omega)]
    rwa [show blockOf (Reg.pgCtrl n) = 0x10 by rw [blockOf, Reg.pgCtrl, if_neg (by omega), if_pos (by omega), if_neg (by omega)]]
  rw [State.groupPorts, State.groupPorts, hmode]

/-! ### A trip counted and raised -/

/-- The parts that a trip of a cage's fuse changes before the cage loses its supply. -/
def tripParts : List Part := [.regs, .ctrs, .block 1, .block 0x100, .pgHigh]

theorem blockOf_ssvCageI (hn : n < 20) : blockOf (Reg.ssvCageI n) = 1 := by
  rw [blockOf, Reg.ssvCageI, if_neg (by omega), if_neg (by omega), if_neg (by rw [Reg.clkPgGate]; omega)]; omega

theorem only_tripped (s : State) (hn : n < 20) : State.Only tripParts s (s.tripped n) := by
  have h1 : regParts (Reg.ssvCageI n) ⊆ tripParts := by rw [regParts, blockOf_ssvCageI hn]; decide
  have h2 : regParts (Reg.pgEvents n) ⊆ tripParts := by rw [regParts, blockOf_pgEvents hn]; decide
  have h0 : State.Only tripParts s ((s.bumpFld (Reg.ssvCageI n) 31 24).ssvEvent 293) :=
    (only_ssvEvent 293 (by decide)).mpr ((only_bumpFld _ _ _ _ h1).mpr (.refl _ _))
  rw [State.tripped]
  split_ifs
  · exact (only_setEvent _ _ _ h2 (by decide)).mpr h0
  · exact h0

/-- A trip of a powered core's cage: counted in its register and recorded in its group's events. -/
theorem tripped_eq (hup : s.coreUp = true) : s.tripped n =
    ((s.bumpFld (Reg.ssvCageI n) 31 24).raiseEvent 293).setEvent (Reg.pgEvents n) 24 (84 + n) := by
  have h1 : (s.bumpFld (Reg.ssvCageI n) 31 24).coreUp = true := (coreUp_bumpFld ..).trans hup
  have h2 : State.Only [.regs, .ctrs] (s.bumpFld (Reg.ssvCageI n) 31 24) ((s.bumpFld (Reg.ssvCageI n) 31 24).raiseEvent 293) :=
    (only_raiseEvent 293 (List.Subset.refl _)).mpr (.refl _ _)
  rw [State.tripped, State.ssvEvent, if_pos h1, if_pos ((coreUp_of_only h2 (by decide)).trans h1)]

theorem fld_tripped (hup : s.coreUp = true) (hn : n < 20) (h l : Nat) :
    (s.tripped n).fld (Reg.ssvCageI n) h l = (s.bumpFld (Reg.ssvCageI n) 31 24).fld (Reg.ssvCageI n) h l := by
  have ha : Reg.ssvCageI n < 0x700000 := by rw [Reg.ssvCageI]; omega
  rw [tripped_eq hup, State.fld_of_rd]
  rw [State.rd_setEvent _ _ _ _ _ ha, State.rd_setBit_other, State.rd_raiseEvent _ _ _ ha]
  rw [Reg.ssvCageI, Reg.pgEvents]; omega

/-- The statements' words for a fuse that has tripped: counted, the cage's current kept, the group's event set. -/
def Tripped (s t : State) (n : Nat) : Prop :=
  t.fld (Reg.ssvCageI n) 31 24 = min 255 (s.fld (Reg.ssvCageI n) 31 24 + 1) ∧
    t.fld (Reg.ssvCageI n) 15 0 = s.fld (Reg.ssvCageI n) 15 0 ∧ t.bit (Reg.pgEvents n) 24 = true

theorem tripped_tripped (hup : s.coreUp = true) (hn : n < 20) : Tripped s (s.tripped n) n := by
  refine ⟨?_, ?_, ?_⟩
  · rw [fld_tripped hup hn, State.bumpFld, State.fld_setFld_same _ _ _ _ _ (by decide) (by decide), satNat]
    split_ifs <;> omega
  · rw [fld_tripped hup hn, State.bumpFld, State.fld_setFld_apart _ _ _ _ _ _ _ (by decide) (by decide) (by decide)]
  · rw [tripped_eq hup]
    exact State.bit_setEvent_same (ha := by unfold Reg.pgEvents; omega) (hb := by decide) ..

/-- A change that leaves the supervisor's registers and the groups' upper events alone keeps a trip's traces. -/
theorem Tripped.of_only {u : State} (h : Tripped s t n) (hn : n < 20) (hu : State.Only l t u) (hb : .block 1 ∉ l)
    (hh : .pgHigh ∉ l) : Tripped s u n := by
  have hf := hu.fld (a := Reg.ssvCageI n) (by rw [Reg.ssvCageI]; omega) (by rwa [blockOf_ssvCageI hn])
  exact ⟨(hf 31 24).trans h.1, (hf 15 0).trans h.2.1, (hu.same .pgHigh hh n hn 24 (Nat.le_refl _)).trans h.2.2⟩

/-! ### A trip with its cage changed -/

theorem trip_setCage (hup : s.coreUp = true) (hn : n < 20) (c : Cage) :
    Tripped s ((s.tripped n).setCage n c) n ∧
      ((∀ k, k ≠ n → ((s.tripped n).setCage n c).cage k = s.cage k) ∧ ((s.tripped n).setCage n c).mem = s.mem ∧
        ((s.tripped n).setCage n c).boot = s.boot ∧ ((s.tripped n).setCage n c).flash = s.flash) ∧
      ((s.tripped n).setCage n c).cage n = c := by
  have ht := only_tripped s hn
  have hsupply : (s.tripped n).supply = s.supply := ht.same .supply (by decide)
  obtain ⟨h1, h2, h3, h4⟩ := others_setCage (s.tripped n) n c
  refine ⟨(tripped_tripped hup hn).of_only hn (only_setCage_self _ n c) (by decide) (by decide),
    ⟨fun k hk => ?_, h2.trans (ht.same .mem (by decide)), h3.trans (ht.same .boot (by decide)),
      h4.trans (ht.same .flash (by decide))⟩, ?_⟩
  · rw [h1 k hk, State.cage, hsupply]; rfl
  · rw [cage_setCage, if_pos rfl]

theorem only_ssvEvent_self (s : State) (i : Nat) : State.Only [.regs, .ctrs] s (s.ssvEvent i) :=
  (only_ssvEvent i (List.Subset.refl _)).mpr (.refl _ _)

/-! ### One cage shed -/

theorem isShed_setBit (b : Bool) (hn : n < 16) (k : Nat) : (s.setBit Reg.ssvShed n b).isShed k = if k = n then b else s.isShed k := by
  rw [State.isShed, State.bit_setBit _ _ _ _ _ _ (by omega)]
  by_cases hk : k = n
  · simp [hk, hn]
  · simp [hk, State.isShed]

/-- The cage that a shedding step takes: the highest that has power to lose. -/
theorem nextShed_eq (hn : n < 16) (hp : (s.cage n).present = true) (hs : s.isShed n = false) (hl : (s.cage n).latched = false)
    (hmax : ∀ k, n < k → k < 16 → (s.cage k).present = false ∨ s.isShed k = true ∨ (s.cage k).latched = true) :
    s.nextShed = some n := by
  have hsplit : (List.range 16).reverse = (List.range' (n + 1) (15 - n)).reverse ++ n :: (List.range n).reverse := by
    have h : List.range 16 = List.range n ++ n :: List.range' (n + 1) (15 - n) := by
      have hk : 16 = n + (15 - n + 1) := by omega
      rw [List.range_eq_range', hk, ← List.range'_append_1, List.range'_succ, List.range_eq_range']
      simp
    rw [h]; simp
  rw [State.nextShed, hsplit, List.find?_append, List.find?_eq_none.mpr, List.find?_cons_of_pos]
  · rfl
  · simp [hp, hs, hl]
  · intro k hk
    obtain ⟨h1, h2⟩ := List.mem_range'_1.mp (List.mem_reverse.mp hk)
    rcases hmax k (by omega) (by omega) with h | h | h <;> simp [h]

end

/-- Settles O34: a trip leaves its traces outside what the loss of a cage's supply changes. -/
theorem cageFuses : Obligations.CageFuses := by
  unfold Obligations.CageFuses
  intro s _ hup tripped others
  refine ⟨fun n hn hon => ?_, fun n hn hretry => ⟨?_, ?_⟩⟩
  · obtain ⟨h1, h2, h3⟩ := trip_setCage hup hn { s.cage n with fuse := .retrying, retries := 0 }
    refine ⟨_, by simp only [exec_fuseTrip, execFuseTrip, whenWf, hn, hon]; rfl, h1, h2, h3, fun p hp => ?_⟩
    have ht := only_tripped s hn
    exact portState_setCage_off hn ((coreUp_of_only ht (by decide)).trans hup) (by nofun)
      ((groupPorts_of_only ht (by decide) hn).symm ▸ hp)
  · exact ⟨_, by simp only [exec_fuseRetry, execFuseRetry, whenWf, occurs, hn, hretry]; rfl, by rw [cage_setCage, if_pos rfl], others_setCage ..⟩
  · refine ⟨s.retryTrips n, by simp only [exec_fuseRetry, execFuseRetry, whenWf, occurs, hn, hretry]; rfl, ?_⟩
    rw [State.retryTrips]
    dsimp only
    split_ifs with h3 h2 h2
    · exact trip_setCage hup hn _
    · omega
    · omega
    · obtain ⟨h1, ⟨hk, hmem, hboot, hflash⟩, hcage⟩ :=
        trip_setCage hup hn { s.cage n with fuse := .latched, retries := (s.cage n).retries + 1, latched := true }
      have he := only_ssvEvent_self ((s.tripped n).setCage n { s.cage n with fuse := .latched, retries := (s.cage n).retries + 1, latched := true }) 294
      have hsame := he.supply_eq (by decide)
      refine ⟨h1.of_only hn he (by decide) (by decide), ⟨fun k hkn => ?_, (he.mem_eq (by decide)).trans hmem,
        (he.boot_eq (by decide)).trans hboot, (he.flash_eq (by decide)).trans hflash⟩, ?_⟩
      · exact (congrArg (fun u : Supply => u.cages.get k) hsame).trans (hk k hkn)
      · exact (congrArg (fun u : Supply => u.cages.get n) hsame).trans hcage

/-- Settles O35, by what one cage's supply and its bit of SSV.SHED change. -/
theorem cageShedding : Obligations.CageShedding := by
  unfold Obligations.CageShedding
  intro s hon hup allowed others
  have hallowed : s.cagesAllowed = true ↔ allowed := cagesAllowed_iff hon
  refine ⟨fun n hn hsag hint hdue hp hs hl hmax => ?_, fun acc n hn hreach hshed => ?_⟩
  · refine ⟨s.shed n, ?_, ?_⟩
    · have hd : s.overloadDue = true := by
        rw [State.overloadDue, Supply.riding, hon, hsag, hint]
        split_ifs at hdue ⊢ <;> simp [hdue]
      simp only [exec_shedStep, execShedStep, nextShed_eq hn hp hs hl hmax, occurs, hd, if_true]
    · have he := only_ssvEvent_self ((s.setBit Reg.ssvShed n true).setCage n { s.cage n with fuse := .off, retries := 0 }) 296
      obtain ⟨hk, hmem, hboot, hflash⟩ := others_setCage (s.setBit Reg.ssvShed n true) n { s.cage n with fuse := .off, retries := 0 }
      have hsame := he.supply_eq (by decide)
      have hsheds : ∀ k, (s.shed n).isShed k = if k = n then true else s.isShed k := fun k => by
        rw [← isShed_setBit true hn]
        exact (isShed_of_only he (by decide) k).trans (isShed_setCage ..)
      refine ⟨by rw [hsheds, if_pos rfl], fun k _ hkn => by rw [hsheds, if_neg hkn], ⟨fun k hkn => ?_,
        (he.mem_eq (by decide)).trans hmem, (he.boot_eq (by decide)).trans hboot,
        (he.flash_eq (by decide)).trans hflash⟩, ?_, rfl, rfl⟩
      · exact (congrArg (fun u : Supply => u.cages.get k) hsame).trans (hk k hkn)
      · refine (congrArg (fun u : Supply => u.cages.get n) hsame).trans ?_
        exact (cage_setCage ..).trans (if_pos rfl)
  · have hclr : writeShedClr s (BitVec.ofNat 32 (2 ^ n)) = (s.setBit Reg.ssvShed n false).powerCage n := by
      rw [writeShedClr, setBits_pow hn (by decide), List.foldl_cons, List.foldl_nil, if_pos hshed]
    refine ⟨_, writeRow_reaches hreach (by simpa using hreach.1) rfl _, ?_⟩
    rw [hclr]
    have hset : State.Only [.regs, .block 1] s (s.setBit Reg.ssvShed n false) :=
      (only_setBit _ _ _ (by decide)).mpr (.refl _ _)
    have hsame : (s.setBit Reg.ssvShed n false).cagesAllowed = s.cagesAllowed := cagesAllowed_of_only hset (by decide) (by decide) rfl
    have hpower := (only_powerCage (s := s.setBit Reg.ssvShed n false) n (List.Subset.refl _)).mpr (.refl _ _)
    have hsheds : ∀ k, ((s.setBit Reg.ssvShed n false).powerCage n).isShed k = if k = n then false else s.isShed k := fun k => by
      rw [← isShed_setBit false hn]; exact isShed_of_only hpower (by decide) k
    refine ⟨others_powerCage .., by rw [hsheds, if_pos rfl], fun k _ hkn => by rw [hsheds, if_neg hkn], ?_⟩
    have hshedn : (s.setBit Reg.ssvShed n false).isShed n = false := (isShed_setBit false hn n).trans (if_pos rfl)
    have hcage : ∀ k, (s.setBit Reg.ssvShed n false).cage k = s.cage k := fun k => rfl
    refine ⟨fun hp ha hl => ?_, fun hp ha hl => ?_, fun ha => ?_⟩
    · rw [cage_powerCage, hsame, hcage, if_pos ⟨rfl, hp, hallowed.mpr ha, hshedn⟩, if_neg (by simp [hl])]
    · rw [cage_powerCage, hsame, hcage, if_pos ⟨rfl, hp, hallowed.mpr ha, hshedn⟩, if_pos hl]
    · rw [cage_powerCage, hsame, hcage, if_neg]
      rintro ⟨-, hp, h1, -⟩
      exact ha.elim (fun h => absurd (hp.symm.trans h) (by decide)) fun h => h (hallowed.mp h1)

end Sys2Proof.Machine
end

section
/-! PROOFS. The Flume clock's steps, fans, core PLLs and the frequency measurement settled (R90–R98, R189–R194). -/
namespace Sys2Proof.Machine

section
variable {s t : State}

/-! ### Events of the supervisor -/

theorem ssvEvent_up (h : s.coreUp = true) (i : Nat) : s.ssvEvent i = s.raiseEvent i := if_pos h

theorem supply_raiseEvent (s : State) (i : Nat) : (s.raiseEvent i).supply = s.supply := State.raiseEvent_supply ..

theorem coreUp_raiseEvent (s : State) (i : Nat) : (s.raiseEvent i).coreUp = s.coreUp := by
  rw [State.coreUp, State.coreUp, State.raiseEvent_boot]

theorem coreUp_setBit (s : State) (a i : Nat) (b : Bool) : (s.setBit a i b).coreUp = s.coreUp := rfl

/-! ### A clock step changed -/

/-- What the move of the Flume clock from the step in force to `k` leaves: the step, the PLL's event, all else as before. -/
def ClockMoved (s t : State) (k : Nat) : Prop :=
  t.flumeStep = k ∧ (k ≠ s.flumeStep → t.bit Reg.clkPllEvents 1 = true) ∧
    (∀ a, a < 0x700000 → a ≠ Reg.clkPllEvents → t.rd a = s.rd a) ∧ t.boot = s.boot ∧ t.mem = s.mem

theorem flumeStep_eq (hsup : t.supply = s.supply) (hrd : t.rd Reg.ssvThrottle = s.rd Reg.ssvThrottle) : t.flumeStep = s.flumeStep := by
  rw [State.flumeStep, State.flumeStep, hsup, State.fld_of_rd hrd]

theorem ClockMoved.raiseEvent {k : Nat} (h : ClockMoved s t k) (i : Nat) : ClockMoved s (t.raiseEvent i) k := by
  obtain ⟨hstep, hbit, hrd, hboot, hmem⟩ := h
  have hkept : ∀ a, a < 0x700000 → (t.raiseEvent i).rd a = t.rd a := fun a => State.rd_raiseEvent t i a
  refine ⟨(flumeStep_eq (supply_raiseEvent ..) (hkept _ (by decide))).trans hstep, fun hk => ?_,
    fun a ha hne => (hkept a ha).trans (hrd a ha hne), ?_, ?_⟩
  · rw [State.bit_of_rd (hkept _ (by decide)), hbit hk]
  · rw [State.raiseEvent_boot, hboot]
  · rw [State.raiseEvent_mem, hmem]

theorem clockMoved_clockMoved (hup : s.coreUp = true) (x : Supply) :
    ClockMoved s (State.clockMoved { s with supply := x } s.flumeStep) (State.flumeStep { s with supply := x }) := by
  have hup' : State.coreUp { s with supply := x } = true := hup
  rw [State.clockMoved, hup', Bool.true_and]
  split_ifs with h
  · have hrd : ∀ a, a ≠ Reg.clkPllEvents → (State.setBit { s with supply := x } Reg.clkPllEvents 1 true).rd a = s.rd a :=
      fun a ha => State.rd_setBit_other _ _ _ _ _ ha
    exact ⟨flumeStep_eq rfl (hrd _ (by decide)), fun _ => State.bit_setBit_same _ _ _ _ (by decide), fun a _ ha => hrd a ha, rfl, rfl⟩
  · exact ⟨rfl, fun hk => absurd (by simpa using h) hk, fun _ _ _ => rfl, rfl, rfl⟩

theorem rd_clockMoved_high (s : State) (old : Nat) {a : Nat} (ha : 0x700000 ≤ a) : (s.clockMoved old).rd a = s.rd a := by
  unfold State.clockMoved
  split_ifs
  · exact State.rd_setBit_other _ _ _ _ _ (by rw [Reg.clkPllEvents]; omega)
  · rfl

/-- An event raised once another one has been. -/
theorem raised_raiseEvent_twice {t : State} {m n : Nat} (hn : n < 312) (hm : m < 320) (hne : n ≠ m)
    (hs : ∀ a, 0x700000 ≤ a → t.rd a = s.rd a) : s.raised ((t.raiseEvent m).raiseEvent n) n := by
  have hraised := State.raised_raiseEvent (t.raiseEvent m) (n := n) (by omega)
  have hcount : (t.raiseEvent m).rd (Reg.evcRaised n) = s.rd (Reg.evcRaised n) := by
    rw [State.rd_raiseEvent_apart, hs _ (by rw [Reg.evcRaised]; omega)]
    all_goals simp only [Reg.evcRaised, Reg.evcPending] <;> omega
  have hroute : (t.raiseEvent m).rd (Reg.evcRoute n) = s.rd (Reg.evcRoute n) := by
    rw [State.rd_raiseEvent_apart, hs _ (by rw [Reg.evcRoute]; omega)]
    all_goals simp only [Reg.evcRaised, Reg.evcPending, Reg.evcRoute] <;> omega
  exact ⟨fun h => hcount ▸ hraised.1 h, fun k hk hr => hraised.2 k hk (by rwa [State.fld_of_rd hroute])⟩

/-- A step of the clock for a cause that the supervisor holds: event 297, and the clock moved where its step is another. -/
def ClockEvent (s t : State) (x : Supply) : Prop :=
  s.raised t 297 ∧ ClockMoved s t (State.flumeStep { s with supply := x }) ∧ t.supply = x

theorem coreUp_clockMoved (s : State) (old : Nat) : (s.clockMoved old).coreUp = s.coreUp := by
  unfold State.clockMoved
  split_ifs <;> rfl

theorem supply_clockMoved (s : State) (old : Nat) : (s.clockMoved old).supply = s.supply := by
  unfold State.clockMoved
  split_ifs <;> rfl

theorem clockMoved_event (hup : s.coreUp = true) (x : Supply) :
    ClockEvent s ((State.clockMoved { s with supply := x } s.flumeStep).ssvEvent 297) x := by
  have hcore := (coreUp_clockMoved { s with supply := x } s.flumeStep).trans hup
  rw [ssvEvent_up hcore]
  exact ⟨(State.raised_raiseEvent _ (by decide)).of_rd fun _ ha => (rd_clockMoved_high _ _ ha).trans rfl,
    (clockMoved_clockMoved hup x).raiseEvent 297, (supply_raiseEvent ..).trans (supply_clockMoved ..)⟩

/-- The same with a second event. -/
theorem clockMoved_events (hup : s.coreUp = true) (x : Supply) {n : Nat} (hn : n < 312) (hne : n ≠ 297) :
    ClockEvent s (((State.clockMoved { s with supply := x } s.flumeStep).ssvEvent 297).ssvEvent n) x ∧
      s.raised (((State.clockMoved { s with supply := x } s.flumeStep).ssvEvent 297).ssvEvent n) n := by
  obtain ⟨hr, hm, hsup⟩ := clockMoved_event hup x
  have hcore := (coreUp_clockMoved { s with supply := x } s.flumeStep).trans hup
  rw [ssvEvent_up hcore] at *
  rw [ssvEvent_up ((coreUp_raiseEvent ..).trans hcore)]
  exact ⟨⟨hr.raiseEvent (by decide) (by omega) hne.symm, hm.raiseEvent n, (supply_raiseEvent ..).trans hsup⟩,
    raised_raiseEvent_twice hn (by decide) hne fun _ ha => (rd_clockMoved_high _ _ ha).trans rfl⟩

/-! ### Fans -/

theorem fansFailed_eq (s : State) : s.fansFailed = ((List.range 6).filter fun n => decide (n ∈ s.supply.failed)).length := by
  simp [State.fansFailed, List.elem_eq_mem]

/-- One fan more among the failed of six. -/
theorem fansFailed_insert {s t : State} {fan : Nat} (hfan : fan < 6) (hs : fan ∉ s.supply.failed)
    (ht : ∀ k, k ∈ t.supply.failed ↔ k = fan ∨ k ∈ s.supply.failed) : t.fansFailed = s.fansFailed + 1 := by
  rw [fansFailed_eq, fansFailed_eq]
  have hperm : ((List.range 6).filter fun n => decide (n ∈ t.supply.failed)).Perm
      (fan :: (List.range 6).filter fun n => decide (n ∈ s.supply.failed)) := by
    refine (List.perm_ext_iff_of_nodup (List.nodup_range.filter _) (List.nodup_cons.mpr ⟨?_, List.nodup_range.filter _⟩)).mpr fun k => ?_
    · simp [hs]
    · simp only [List.mem_filter, List.mem_range, List.mem_cons, ht, decide_eq_true_eq]
      constructor
      · rintro ⟨hk, rfl | h⟩
        · exact .inl rfl
        · exact .inr ⟨hk, h⟩
      · rintro (rfl | ⟨hk, h⟩)
        · exact ⟨hfan, .inl rfl⟩
        · exact ⟨hk, .inr h⟩
  simpa using hperm.length_eq

/-- With a fan failed and automatic control the others turn at full speed. -/
theorem fanDuty_full {fan k : Nat} (hauto : s.bit Reg.ssvFanCtrl 31 = false) (hfan : fan < 6) (hfailed : fan ∈ s.supply.failed)
    (hk : k ≠ fan) : s.fanDuty k = 100 := by
  rw [State.fanDuty, hauto, if_neg (by decide), if_pos]
  exact List.any_eq_true.mpr ⟨fan, List.mem_range.mpr hfan, by simp [hk.symm, hfailed]⟩

theorem fanDuty_manual (hman : s.bit Reg.ssvFanCtrl 31 = true) (k : Nat) : s.fanDuty k = min 100 (s.fld Reg.ssvFanCtrl 6 0) := by
  rw [State.fanDuty, if_pos hman]

/-- A fan's mark changed with event 295. -/
theorem fan_event (hup : s.coreUp = true) (x : Supply) {fan : Nat} (hfan : fan < 6) (b : Bool) :
    ((State.setBit { s with supply := x } (Reg.ssvFan fan) 31 b).ssvEvent 295).bit (Reg.ssvFan fan) 31 = b ∧
      s.regsRaised ((State.setBit { s with supply := x } (Reg.ssvFan fan) 31 b).ssvEvent 295) [Reg.ssvFan fan] 295 ∧
      ((State.setBit { s with supply := x } (Reg.ssvFan fan) 31 b).ssvEvent 295).supply = x := by
  have ha : Reg.ssvFan fan < 0x700000 := by unfold Reg.ssvFan; omega
  have hup' : (State.setBit { s with supply := x } (Reg.ssvFan fan) 31 b).coreUp = true := (coreUp_setBit ..).trans hup
  rw [ssvEvent_up hup']
  refine ⟨?_, ⟨?_, fun a hlt hne => ?_⟩, (supply_raiseEvent ..).trans (State.setBit_supply ..)⟩
  · rw [State.bit_of_rd (State.rd_raiseEvent _ _ _ ha), State.bit_setBit_same _ _ _ _ (by decide)]
  · exact (State.raised_raiseEvent _ (by decide)).of_rd fun a hge => State.rd_setBit_other _ _ _ _ _ (by omega)
  · rw [State.rd_raiseEvent _ _ _ hlt, State.rd_setBit_other _ _ _ _ _ (by simpa using hne)]; rfl

/-! ### A frequency measured -/

theorem fld_cmdDone (s : State) (a v hi lo : Nat) : (s.cmdDone a v).fld a hi lo =
    bitsOf (2 ^ 31 + s.fld a 29 29 * 2 ^ 29 + v % 2 ^ 29) hi lo := by
  have h29 : s.fld a 29 29 < 2 := Nat.mod_lt _ (by decide)
  rw [State.cmdDone, State.fld_wr, if_pos rfl, Wbits, BitVec.toNat_ofNat, Nat.mod_eq_of_lt]
  omega

theorem bit_eq_decide (s : State) (a i : Nat) : s.bit a i = decide (s.fld a i i = 1) := by
  rw [State.bit]; exact beq_eq_decide ..

end

end Sys2Proof.Machine
end

section
/-! PROOFS. Gated port groups (R192), and the clock, fan and PLL commands settled (R90–R98, R189–R194). -/
namespace Sys2Proof.Machine

section
variable {s t : State} {l : List Part} {p g : Nat}

/-! ### Groups refreshed one after the other -/

theorem get_foldl_groupRefresh_other (gs : List Nat) (hgs : ∀ h ∈ gs, h < 20) (hg : g ∉ gs) (hp : groupOf p = g) : ∀ s : State,
    (gs.foldl State.groupRefresh s).ports.get p = s.ports.get p := by
  induction gs with
  | nil => exact fun _ => rfl
  | cons h gs ih =>
    rw [List.mem_cons, not_or] at hg
    intro s
    refine (ih (fun k hk => hgs k (List.mem_cons_of_mem _ hk)) hg.2 _).trans (get_groupRefresh_other fun hmem => hg.1 ?_)
    rw [← hp, groupOf_of_mem (hgs h List.mem_cons_self) hmem]

theorem groupPorts_groupRefresh (s : State) (h : Nat) (hg : g < 20) : (s.groupRefresh h).groupPorts g = s.groupPorts g :=
  groupPorts_of_only (only_groupRefresh_self s h) (by decide) hg

theorem foldl_groupRefresh_off (gs : List Nat) (hgs : ∀ h ∈ gs, h < 20) (hg : g < 20) : ∀ s : State, s.groupPowered g = false →
    p ∈ s.groupPorts g → g ∈ gs ∨ s.portState p = 0 → (gs.foldl State.groupRefresh s).portState p = 0 := by
  induction gs with
  | nil => exact fun s _ _ h => h.resolve_left List.not_mem_nil
  | cons h gs ih =>
    intro s hoff hp hor
    have hh : h < 20 := hgs h List.mem_cons_self
    refine ih (fun k hk => hgs k (List.mem_cons_of_mem _ hk)) _
      ((groupPowered_of_only (only_groupRefresh_self s h) (by decide) (by decide) (by decide) g).trans hoff)
      ((groupPorts_groupRefresh s h hg).symm ▸ hp) ?_
    by_cases hgh : g = h
    · subst hgh
      exact .inr (portState_groupRefresh_off hg hoff hp)
    · rcases hor with hor | hor
      · exact .inl ((List.mem_cons.mp hor).resolve_left hgh)
      · refine .inr ((congrArg Port.state (get_groupRefresh_other fun hmem => hgh ?_)).trans hor)
        rw [← groupOf_of_mem hg hp, groupOf_of_mem hh hmem]

/-! ### Port groups gated -/

theorem only_stompTx (p : Nat) (h : [.freeCtr, .sch] ⊆ l) : State.Only l s (t.stompTx p) ↔ State.Only l s t := by
  unfold State.stompTx
  dsimp only
  split_ifs
  · exact Iff.rfl
  · exact (only_set_sch _ fun _ hq => h (by simp at hq; simp [hq])).trans (only_draw 14 fun _ hq => h (by simp at hq; simp [hq]))

theorem only_stompGroup (s : State) (g : Nat) : State.Only [.freeCtr, .ctrs, .qm, .bpm, .sch] s (s.stompGroup g) := by
  unfold State.stompGroup
  refine (only_foldl fun u p => ?_).mpr (.refl _ _)
  split
  · exact (only_endCopy _ (by decide)).mpr ((only_stompTx _ (by decide)).mpr (.refl _ _))
  · exact .refl _ _

/-- The parts that a write of CLK.PG_GATE changes before the groups follow. -/
def gateParts : List Part := [.freeCtr, .ctrs, .qm, .bpm, .sch, .regs, .block 0x101]

/-- The state in which the groups changed by a write of CLK.PG_GATE are refreshed. -/
def gatedState (s : State) (new : Nat) : State :=
  (((setBits new 20).filter fun g => !bitAt (s.fld Reg.clkPgGate 19 0) g).foldl State.stompGroup s).setFld Reg.clkPgGate 19 0 new

theorem only_gatedState (s : State) (new : Nat) : State.Only gateParts s (gatedState s new) :=
  (only_setFld _ _ _ _ (by decide)).mpr
    (((only_foldl only_stompGroup).mpr (.refl _ _)).mono (by decide))

theorem fld_gatedState (s : State) (new : Nat) : (gatedState s new).fld Reg.clkPgGate 19 0 = new % 2 ^ 20 :=
  State.fld_setFld_same _ _ _ _ _ (by decide) (by decide)

theorem bitAt_bitsOf (n k i : Nat) : bitAt (bitsOf n k 0) i = (decide (i < k + 1) && bitAt n i) := by
  simp only [bitsOf, bitAt_eq_testBit, Nat.pow_zero, Nat.div_one, Nat.testBit_mod_two_pow, Nat.sub_zero]

theorem bit_eq_testBit (s : State) (a i : Nat) : s.bit a i = bitAt (s.rd a).toNat i := by
  rw [State.bit, State.fld, Wbits, bitsOf, bitAt]; simp

/-- A bit of CLK.PG_GATE as its field shows it. -/
theorem bitAt_gate (s : State) (hg : g < 20) : bitAt (s.fld Reg.clkPgGate 19 0) g = s.bit Reg.clkPgGate g := by
  rw [bit_eq_testBit, State.fld, Wbits, bitAt_bitsOf, decide_eq_true (by omega), Bool.true_and]

theorem bitAt_Wbits (v : Word) (hg : g < 20) : bitAt (Wbits v 19 0) g = v.getLsbD g := by
  rw [Wbits, bitAt_bitsOf, decide_eq_true (by omega), Bool.true_and, bitAt_eq_testBit]; rfl

/-- What a write of CLK.PG_GATE leaves: the field, the ports of groups newly gated in state 0, those of groups left as they
are untouched. -/
theorem writePgGate_spec (s : State) (v : Word) :
    (writePgGate s v).fld Reg.clkPgGate 19 0 = Wbits v 19 0 ∧
      (∀ g < 20, v.getLsbD g = true → s.bit Reg.clkPgGate g = false → ∀ p ∈ s.groupPorts g, (writePgGate s v).portState p = 0) ∧
      (∀ g < 20, v.getLsbD g = s.bit Reg.clkPgGate g → ∀ p ∈ s.groupPorts g, (writePgGate s v).portState p = s.portState p) ∧
      (writePgGate s v).mem = s.mem ∧ (writePgGate s v).boot = s.boot := by
  have heq : writePgGate s v = ((List.range 20).filter fun g => bitAt (s.fld Reg.clkPgGate 19 0) g != bitAt (Wbits v 19 0) g).foldl
      State.groupRefresh (gatedState s (Wbits v 19 0)) := rfl
  have hgate := only_gatedState s (Wbits v 19 0)
  have hrefresh : State.Only linkParts (gatedState s (Wbits v 19 0)) (writePgGate s v) := by
    rw [heq]; exact (only_foldl only_groupRefresh_self).mpr (.refl _ _)
  have hfld : (gatedState s (Wbits v 19 0)).fld Reg.clkPgGate 19 0 = Wbits v 19 0 :=
    (fld_gatedState ..).trans (Nat.mod_eq_of_lt (Nat.mod_lt _ (by decide)))
  have hlt : ∀ h ∈ (List.range 20).filter fun g => bitAt (s.fld Reg.clkPgGate 19 0) g != bitAt (Wbits v 19 0) g, h < 20 :=
    fun h hh => List.mem_range.mp (List.mem_of_mem_filter hh)
  refine ⟨?_, fun g hg hnew hold p hp => ?_, fun g hg hsame p hp => ?_, ?_, ?_⟩
  · rw [hrefresh.fld (by decide) (by decide), hfld]
  · rw [heq]
    refine foldl_groupRefresh_off _ hlt hg _ ?_ ((groupPorts_of_only hgate (by decide) hg).symm ▸ hp) (.inl ?_)
    · rw [State.groupPowered, ← bitAt_gate _ hg, hfld, bitAt_Wbits v hg, hnew, Bool.not_true, Bool.and_false]
    · simp [hg, bitAt_gate s hg, bitAt_Wbits v hg, hnew, hold]
  · rw [heq, State.portState, get_foldl_groupRefresh_other _ hlt (g := g) ?_ (groupOf_of_mem hg hp), hgate.ports_eq (by decide),
      State.portState]
    simp [bitAt_gate s hg, bitAt_Wbits v hg, hsame]
  · rw [hrefresh.mem_eq (by decide), hgate.mem_eq (by decide)]
  · rw [hrefresh.boot_eq (by decide), hgate.boot_eq (by decide)]

/-! ### The excursion budget -/

theorem excursion_set (hwf : s.supply.bins.wf = true) {t : State} {k : Nat} (ht : t.supply.bins = s.supply.bins.set k (s.supply.bins.get k + 1)) :
    t.excursion = s.excursion + 1 := by
  have h : ∀ m : SMap Nat, SMap.total id m = (m.entries.map Prod.snd).sum := fun m => rfl
  have hset := SMap.total_set (f := id) hwf rfl k (s.supply.bins.get k + 1)
  rw [State.excursion, State.excursion, ht, ← h, ← h]
  simp only [id] at hset
  omega

end

end Sys2Proof.Machine
end

section
/-! PROOFS. The statement on clock steps, fans, PLLs and the frequency measurement, clause by clause. -/
namespace Sys2Proof.Machine

section
variable {s : State}

theorem State.RegsOnly.measDomain {t u : State} (h : s.RegsOnly t) {d : Nat} (hu : u = { t with measDomain := d }) :
    u = { s with regs := u.regs, measDomain := d } := by
  unfold State.RegsOnly at h; rw [hu, h]

theorem coreUp_setFld (s : State) (a hi lo v : Nat) : (s.setFld a hi lo v).coreUp = s.coreUp := rfl

/-- A write of CEILING. -/
theorem writeThrottle_spec (hup : s.coreUp = true) (v : Word) :
    (writeThrottle s v).fld Reg.ssvThrottle 25 24 = Wbits v 25 24 ∧ (writeThrottle s v).supply = s.supply ∧
      (writeThrottle s v).flumeStep = max (max s.supply.thermStep s.supply.ovlStep) (min 2 (Wbits v 25 24)) ∧
      ((writeThrottle s v).flumeStep ≠ s.flumeStep →
        (writeThrottle s v).bit Reg.clkPllEvents 1 = true ∧ s.raised (writeThrottle s v) 297) ∧
      ∀ a, a < 0x700000 → a ≠ Reg.clkPllEvents → a ≠ Reg.ssvThrottle → (writeThrottle s v).rd a = s.rd a := by
  obtain ⟨t, ht⟩ : ∃ t, t = s.setFld Reg.ssvThrottle 25 24 (Wbits v 25 24) := ⟨_, rfl⟩
  have hfld : t.fld Reg.ssvThrottle 25 24 = Wbits v 25 24 :=
    ht ▸ (State.fld_setFld_same _ _ _ _ _ (by decide) (by decide)).trans (Nat.mod_eq_of_lt (Nat.mod_lt _ (by decide)))
  have hsup : t.supply = s.supply := ht ▸ State.setFld_supply ..
  have hcore : t.coreUp = true := ht ▸ (coreUp_setFld ..).trans hup
  have hdef : writeThrottle s v = if t.flumeStep = s.flumeStep then t else (t.clockMoved s.flumeStep).ssvEvent 297 := by
    rw [ht, writeThrottle]
  have hstep : t.flumeStep = max (max s.supply.thermStep s.supply.ovlStep) (min 2 (Wbits v 25 24)) := by
    rw [State.flumeStep, hfld, hsup]
  have hrd : ∀ a, a ≠ Reg.ssvThrottle → t.rd a = s.rd a := fun a ha =>
    ht ▸ State.rd_setFld_other _ _ _ _ _ _ ha
  by_cases hs : t.flumeStep = s.flumeStep
  · have heq : writeThrottle s v = t := hdef.trans (if_pos hs)
    rw [heq]
    exact ⟨hfld, hsup, hstep, fun h => absurd hs h, fun a _ _ ha => hrd a ha⟩
  · have heq : writeThrottle s v = (t.setBit Reg.clkPllEvents 1 true).raiseEvent 297 := by
      have hmoved : t.clockMoved s.flumeStep = t.setBit Reg.clkPllEvents 1 true :=
        if_pos (by rw [hcore]; simpa using hs)
      rw [hdef, if_neg hs, hmoved, ssvEvent_up ((coreUp_setBit ..).trans hcore)]
    have hlow : ∀ a, a < 0x700000 → ((t.setBit Reg.clkPllEvents 1 true).raiseEvent 297).rd a = (t.setBit Reg.clkPllEvents 1 true).rd a :=
      fun a => State.rd_raiseEvent _ _ _
    have hthr : ((t.setBit Reg.clkPllEvents 1 true).raiseEvent 297).rd Reg.ssvThrottle = t.rd Reg.ssvThrottle :=
      (hlow _ (by decide)).trans (State.rd_setBit_other _ _ _ _ _ (by decide))
    have hsup' : ((t.setBit Reg.clkPllEvents 1 true).raiseEvent 297).supply = t.supply :=
      (supply_raiseEvent ..).trans (State.setBit_supply ..)
    rw [heq]
    refine ⟨(State.fld_of_rd hthr _ _).trans hfld, hsup'.trans hsup, (flumeStep_eq hsup' hthr).trans hstep, fun _ => ⟨?_, ?_⟩, fun a ha h1 h2 => ?_⟩
    · rw [State.bit_of_rd (hlow _ (by decide)), State.bit_setBit_same _ _ _ _ (by decide)]
    · refine (State.raised_raiseEvent _ (by decide)).of_rd fun a ha => ?_
      rw [State.rd_setBit_other _ _ _ _ _ (by rw [Reg.clkPllEvents]; omega), hrd a (by rw [Reg.ssvThrottle]; omega)]
    · rw [hlow a ha, State.rd_setBit_other _ _ _ _ _ h1, hrd a h2]

/-- A fan that has failed long enough. -/
theorem fanFailed_spec (hon : s.supply.on = true) (hup : s.coreUp = true) {fan pc ms : Nat} (hfan : fan < 6) (hpc : pc < 20)
    (hms : 3000 ≤ ms) (hs : fan ∉ s.supply.failed) : ∃ t, exec (.fanFailed fan pc ms) s = .next t ∧
      t.bit (Reg.ssvFan fan) 31 = true ∧ s.regsRaised t [Reg.ssvFan fan] 295 ∧ t.fansFailed = s.fansFailed + 1 ∧
      (∀ k, k ∈ t.supply.failed ↔ k = fan ∨ k ∈ s.supply.failed) ∧ t.supply = { s.supply with failed := t.supply.failed } ∧
      (s.bit Reg.ssvFanCtrl 31 = false → ∀ k < 6, k ≠ fan → t.fanDuty k = 100) := by
  obtain ⟨hbit, hraised, hsup⟩ := fan_event hup { s.supply with failed := sortNats (fan :: s.supply.failed) } hfan true
  have hmem : ∀ k, k ∈ sortNats (fan :: s.supply.failed) ↔ k = fan ∨ k ∈ s.supply.failed := fun k => by simp
  refine ⟨_, by simp [exec_fanFailed, execFanFailed, whenWf, occurs, hfan, hon, hpc, hms, hs], hbit, hraised, ?_, ?_, ?_, fun hauto k _ hk => ?_⟩
  · exact fansFailed_insert hfan hs fun k => by rw [hsup]; exact hmem k
  · rw [hsup]; exact hmem
  · rw [hsup]
  · have hctrl : Reg.ssvFanCtrl ∉ [Reg.ssvFan fan] := by simp only [List.mem_singleton]; unfold Reg.ssvFanCtrl Reg.ssvFan; omega
    refine fanDuty_full (fan := fan) ?_ hfan ?_ hk
    · rw [State.bit_of_rd (hraised.2 _ (by decide) hctrl), hauto]
    · rw [hsup]; exact (hmem fan).mpr (.inl rfl)

/-- A failed fan that turns again. -/
theorem fanRunning_spec (hon : s.supply.on = true) (hup : s.coreUp = true) {fan pc ms : Nat} (hfan : fan < 6) (hpc : 80 ≤ pc)
    (hms : 10000 ≤ ms) (hs : fan ∈ s.supply.failed) : ∃ t, exec (.fanRunning fan pc ms) s = .next t ∧
      t.bit (Reg.ssvFan fan) 31 = false ∧ s.regsRaised t [Reg.ssvFan fan] 295 ∧ t.fansFailed + 1 = s.fansFailed ∧
      (∀ k, k ∈ t.supply.failed ↔ k ≠ fan ∧ k ∈ s.supply.failed) ∧ t.supply = { s.supply with failed := t.supply.failed } ∧
      (s.bit Reg.ssvFanCtrl 31 = true → ∀ k, t.fanDuty k = min 100 (s.fld Reg.ssvFanCtrl 6 0)) := by
  obtain ⟨hbit, hraised, hsup⟩ := fan_event hup { s.supply with failed := s.supply.failed.filter fun n => n != fan } hfan false
  have hmem : ∀ k, k ∈ s.supply.failed.filter (fun n => n != fan) ↔ k ≠ fan ∧ k ∈ s.supply.failed := fun k => by simp [and_comm]
  refine ⟨_, by simp [exec_fanRunning, execFanRunning, whenWf, occurs, hfan, hon, hpc, hms, hs], hbit, hraised, ?_, ?_, ?_, fun hman k => ?_⟩
  · refine (fansFailed_insert hfan ?_ fun k => ?_).symm
    · rw [hsup]; simp
    · rw [hsup, hmem]
      by_cases hk : k = fan <;> simp [hk, hs]
  · rw [hsup]; exact hmem
  · rw [hsup]
  · have hctrl : Reg.ssvFanCtrl ∉ [Reg.ssvFan fan] := by simp only [List.mem_singleton]; unfold Reg.ssvFanCtrl Reg.ssvFan; omega
    have hrd := hraised.2 Reg.ssvFanCtrl (by decide) hctrl
    rw [fanDuty_manual ((State.bit_of_rd hrd _).trans hman), State.fld_of_rd hrd]

/-- A minute above the excursion's limit. -/
theorem excursionMinute_spec (hon : s.supply.on = true) (hup : s.coreUp = true) {inlet : Int} (hin : 400 < inlet)
    (hwf : s.supply.bins.wf = true) : ∃ t, exec (.excursionMinute inlet) s = .next t ∧
      t.supply = { s.supply with bins := s.supply.bins.set s.supply.today (s.supply.bins.get s.supply.today + 1) } ∧
      t.excursion = s.excursion + 1 ∧ (s.excursion = 5759 → s.raised t 300) ∧ (∀ a, a < 0x700000 → t.rd a = s.rd a) := by
  obtain ⟨t, ht⟩ : ∃ t : State, t = { s with supply.bins := s.supply.bins.mod s.supply.today fun n => n + 1 } := ⟨_, rfl⟩
  have hsup : t.supply = { s.supply with bins := s.supply.bins.set s.supply.today (s.supply.bins.get s.supply.today + 1) } := ht ▸ rfl
  have hcore : t.coreUp = true := ht ▸ hup
  have hrd : ∀ a, t.rd a = s.rd a := fun a => ht ▸ rfl
  have hex : t.excursion = s.excursion + 1 := excursion_set hwf (congrArg Supply.bins hsup)
  have hexec : exec (.excursionMinute inlet) s = .next (if t.spent && !s.spent then t.ssvEvent 300 else t) := by
    simp only [exec_excursionMinute, execExcursionMinute, occurs, hon, hin, ht, decide_true, Bool.and_self, if_true]
  refine ⟨_, hexec, ?_⟩
  split_ifs with h
  · rw [ssvEvent_up hcore]
    refine ⟨(supply_raiseEvent ..).trans hsup, ?_, fun _ => (State.raised_raiseEvent t (by decide)).of_rd fun a _ => hrd a,
      fun a ha => (State.rd_raiseEvent t _ _ ha).trans (hrd a)⟩
    rw [State.excursion, supply_raiseEvent]; exact hex
  · refine ⟨hsup, hex, fun h9 => absurd ?_ h, fun a _ => hrd a⟩
    simp [State.spent, hex, h9]

/-- A write of CLK.MEAS_CMD. -/
theorem freqMeasure_spec {acc : Nat} {v : Word} (hreach : s.reaches acc Reg.clkMeasCmd) :
    (s.bit Reg.clkMeasResult 30 = true → ∃ t, exec (.freqMeasure acc v) s = .next t ∧ t.bit Reg.clkMeasResult 29 = true ∧
      t.bit Reg.clkMeasResult 30 = true ∧ t = { s with regs := t.regs } ∧ s.regsBut t [Reg.clkMeasResult]) ∧
    (s.bit Reg.clkMeasResult 30 = false → Wbits v 3 0 < 7 → ∃ t, exec (.freqMeasure acc v) s = .next t ∧
      t.fld Reg.clkMeasResult 31 29 = 2 ∧ t = { s with regs := t.regs, measDomain := Wbits v 3 0 } ∧ s.regsBut t [Reg.clkMeasResult]) ∧
    (s.bit Reg.clkMeasResult 30 = false → 7 ≤ Wbits v 3 0 → ∃ t, exec (.freqMeasure acc v) s = .next t ∧
      t.rd Reg.clkMeasResult = resultWord (Wbits v 3 0 * 2 ^ 25) ∧ t = { s with regs := t.regs } ∧ s.regsBut t [Reg.clkMeasResult]) := by
  have hexec : exec (.freqMeasure acc v) s = .next (writeMeasCmd s v) :=
    writeRow_reaches hreach (by simpa using hreach.1) rfl _
  have hd : Wbits v 3 0 < 16 := Nat.mod_lt _ (by decide)
  refine ⟨fun hbusy => ⟨_, hexec, ?_⟩, fun hidle hlt => ⟨_, hexec, ?_⟩, fun hidle hge => ⟨_, hexec, ?_⟩⟩
  · rw [writeMeasCmd, State.cmdBusy, if_pos hbusy, State.cmdReject]
    refine ⟨State.bit_setBit_same _ _ _ _ (by decide), ?_, State.RegsOnly.refl.setBit, State.regsBut.refl.setBit (by simp)⟩
    rw [State.bit_setBit_other _ _ _ _ _ _ (by decide) (.inr (by decide)), hbusy]
  · have heq : writeMeasCmd s v = { s.cmdAccept Reg.clkMeasResult with measDomain := Wbits v 3 0 } := by
      rw [writeMeasCmd, State.cmdBusy, hidle, if_neg (by decide), if_pos hlt]
    have hregs : (writeMeasCmd s v).regs = (s.cmdAccept Reg.clkMeasResult).regs := by rw [heq]
    refine ⟨?_, State.RegsOnly.refl.accept.measDomain heq, (State.regsBut.refl.accept (by simp)).of_regs hregs⟩
    rw [State.fld_of_regs hregs]
    exact State.fld_setFld_same s _ _ _ _ (by decide) (by decide)
  · rw [writeMeasCmd, State.cmdBusy, hidle, if_neg (by decide), if_neg (Nat.not_lt.mpr hge)]
    exact ⟨rd_cmdDone fld_cmdAccept (by omega), State.RegsOnly.refl.accept.done, (State.regsBut.refl.accept (by simp)).done (by simp)⟩

/-- A frequency measured. -/
theorem freqMeasureDone_spec (hup : s.coreUp = true) {khz f : Nat} (hbusy : s.bit Reg.clkMeasResult 30 = true)
    (hdom : s.measDomain < 7) (hf : f = s.domainKhz s.measDomain) (h1 : f ≤ khz + 1) (h2 : khz ≤ f + 1) :
    ∃ t, exec (.freqMeasureDone khz) s = .next t ∧
      t.bit Reg.clkMeasResult 31 = true ∧ t.bit Reg.clkMeasResult 30 = false ∧ t.fld Reg.clkMeasResult 28 25 = s.measDomain ∧
      t.fld Reg.clkMeasResult 21 0 = min khz (2 ^ 22 - 1) ∧ s.regsBut t [Reg.clkMeasResult] ∧ t = { s with regs := t.regs } := by
  have hslack : 1 ≤ s.measureSlack s.measDomain := by simp only [State.measureSlack]; omega
  have hs : satNat khz (2 ^ 22 - 1) = min khz (2 ^ 22 - 1) := by rw [satNat]; split_ifs <;> omega
  have h29 : s.fld Reg.clkMeasResult 29 29 < 2 := Nat.mod_lt _ (by decide)
  refine ⟨s.cmdDone Reg.clkMeasResult (s.measDomain * 2 ^ 25 + satNat khz (2 ^ 22 - 1)), ?_, ?_, ?_, ?_, ?_,
    State.regsBut.refl.done (by simp), rfl⟩
  · have g1 : s.domainKhz s.measDomain ≤ khz + s.measureSlack s.measDomain := by omega
    have g2 : khz ≤ s.domainKhz s.measDomain + s.measureSlack s.measDomain := by omega
    simp [exec_freqMeasureDone, execFreqMeasureDone, occurs, hup, State.cmdBusy, hbusy, g1, g2]
  · rw [bit_eq_decide, fld_cmdDone, hs, bitsOf]; exact decide_eq_true (by omega)
  · rw [bit_eq_decide, fld_cmdDone, hs, bitsOf]; exact decide_eq_false (by omega)
  · rw [fld_cmdDone, hs, bitsOf]; omega
  · rw [fld_cmdDone, hs, bitsOf]; omega

end

/-- Settles O36: what a clock step, a fan, a PLL and the frequency measurement change, clause by clause. -/
theorem clockStepsAndFans : Obligations.ClockStepsAndFans := by
  unfold Obligations.ClockStepsAndFans
  refine ⟨?_, fun s hup => ⟨?_, ?_, ?_, ?_, ?_⟩⟩
  · intro s hon hup step moved
    refine ⟨?_, ?_, ?_, ?_, ?_, ?_, ?_, ?_⟩
    · intro hnone hsag hint hover hsince hlt
      have hdue : s.overloadDue = true := by
        rw [State.overloadDue, Supply.riding, hon, hsag, hint]
        split_ifs <;> simp [hover, hsince]
      have hg : (s.nextShed.isNone && s.overloadDue && decide (100 ≤ s.supply.overMs) && decide (s.supply.ovlStep < 2)) = true := by
        simp [hnone, hdue, hover, hlt]
      refine ⟨_, by rw [exec_overloadClockStep, execOverloadClockStep, hg, occurs, if_pos rfl], ?_⟩
      split_ifs with h0
      · obtain ⟨⟨hr, hm, hsup⟩, hnext⟩ := clockMoved_events hup
          { s.supply with ovlStep := s.supply.ovlStep + 1, sinceStepMs := 0, shedding := true } (n := 301) (by decide) (by decide)
        exact ⟨hr, hm, fun _ => hnext, hsup⟩
      · obtain ⟨hr, hm, hsup⟩ := clockMoved_event hup
          { s.supply with ovlStep := s.supply.ovlStep + 1, sinceStepMs := 0, shedding := true }
        exact ⟨hr, hm, fun h => absurd h h0, hsup⟩
    · intro hpos hms
      obtain ⟨hr, hm, hsup⟩ := clockMoved_event hup { s.supply with ovlStep := s.supply.ovlStep - 1, underMs := 0 }
      exact ⟨_, by simp [exec_overloadClockRise, execOverloadClockRise, occurs, hon, hpos, hms], hr, hm, hsup⟩
    · intro inlet tj ms hhot hms hlt
      obtain ⟨hr, hm, hsup⟩ := clockMoved_event hup
        { s.supply with thermStep := s.supply.thermStep + 1, hotSteps := s.supply.hotSteps + 1, coolSteps := 0 }
      exact ⟨_, by simp [exec_thermalStepDown, execThermalStepDown, occurs, State.tooHot, hon, hhot, hms, hlt], hr, hm, hsup⟩
    · intro inlet tj ms hcool htj hms hpos
      obtain ⟨hr, hm, hsup⟩ := clockMoved_event hup
        { s.supply with thermStep := s.supply.thermStep - 1, coolSteps := s.supply.coolSteps + 1, hotSteps := 0 }
      exact ⟨_, by simp [exec_thermalStepUp, execThermalStepUp, occurs, State.coolEnough, hon, hcool, htj, hms, hpos], hr, hm, hsup⟩
    · exact fun acc v hreach => ⟨_, writeRow_reaches hreach (by simpa using hreach.1) rfl _, writeThrottle_spec hup v⟩
    · exact fun fan pc ms hfan hpc hms hs => fanFailed_spec hon hup hfan hpc hms hs
    · exact fun fan pc ms hfan hpc hms hs => fanRunning_spec hon hup hfan hpc hms hs
    · exact fun inlet hin hwf => excursionMinute_spec hon hup hin hwf
  · intro p hp hne hlock
    refine ⟨_, by simp [exec_pllLockLoss, execPllLockLoss, whenWf, occurs, hp, hne, hup, hlock]; rfl, ?_, State.bit_setBit_same _ _ _ _ (by omega),
      fun i hi hip => ⟨?_, ?_⟩, (State.regsBut.refl.setBit (by simp)).setBit (by simp), rfl⟩
    · rw [State.bit_setBit_other _ _ _ _ _ _ (by omega) (.inl (by decide)), State.bit_setBit_same _ _ _ _ (by omega)]
    · rw [State.bit_setBit_other _ _ _ _ _ _ (by omega) (.inl (by decide)), State.bit_setBit_other _ _ _ _ _ _ (by omega) (.inr hip)]
    · rw [State.bit_setBit_other _ _ _ _ _ _ (by omega) (.inr hip), State.bit_setBit_other _ _ _ _ _ _ (by omega) (.inl (by decide))]
  · intro p hp hne
    exact ⟨_, by simp [exec_corePllLockReturn, execCorePllLockReturn, whenWf, occurs, hp, hne, hup], State.bit_setBit_same _ _ _ _ (by omega),
      fun i hi hip => State.bit_setBit_other _ _ _ _ _ _ (by omega) (.inr hip), State.regsBut.refl.setBit (by simp), rfl⟩
  · exact fun acc v hreach => freqMeasure_spec hreach
  · exact fun khz f hbusy hdom hf h1 h2 => freqMeasureDone_spec hup hbusy hdom hf h1 h2
  · exact fun acc v hreach => ⟨_, writeRow_reaches hreach (by simpa using hreach.1) rfl _, writePgGate_spec s v⟩

end Sys2Proof.Machine
end

section
/-! PROOFS. The supervisor's measurements and input conditions settled (R64–R71, R95, R103–R106). -/
namespace Sys2Proof.Machine

/-! ### One register of each of several units changed in turn -/

section
variable {s : State} {f : Nat → Nat} {step : State → Nat → State}

theorem rd_foldl_apart (hstep : ∀ (t : State) k a, a ≠ f k → (step t k).rd a = t.rd a) {a : Nat} (l : List Nat) :
    ∀ s : State, (∀ k ∈ l, a ≠ f k) → (l.foldl step s).rd a = s.rd a := by
  induction l with
  | nil => exact fun _ _ => rfl
  | cons k l ih =>
    exact fun s ha => (ih _ fun j hj => ha j (List.mem_cons_of_mem _ hj)).trans (hstep s k a (ha k List.mem_cons_self))

/-- What the register of one unit reads: its own step's effect on what it read. -/
theorem rd_foldl_at (hstep : ∀ (t : State) k a, a ≠ f k → (step t k).rd a = t.rd a) (hinj : ∀ i j, f i = f j → i = j)
    {P : State → Prop} (hP : ∀ t k, P t → P (step t k)) {k : Nat} (l : List Nat) (hl : l.Nodup) (hk : k ∈ l) :
    ∀ s : State, P s → ∃ t, P t ∧ t.rd (f k) = s.rd (f k) ∧ (l.foldl step s).rd (f k) = (step t k).rd (f k) := by
  induction l with
  | nil => cases hk
  | cons j l ih =>
    obtain ⟨hj, hl'⟩ := List.nodup_cons.mp hl
    intro s hs
    by_cases hkj : k = j
    · subst hkj
      exact ⟨s, hs, rfl, rd_foldl_apart hstep l _ fun i hi h => hj (hinj _ _ h ▸ hi)⟩
    · obtain ⟨t, ht, hrd, hfin⟩ := ih hl' ((List.mem_cons.mp hk).resolve_left hkj) (step s j) (hP s j hs)
      exact ⟨t, ht, hrd.trans (hstep s j _ fun h => hkj (hinj _ _ h)), hfin⟩

end

section
variable {s : State}

/-- A field of each unit's register set. -/
theorem fld_foldl_setFld {f v : Nat → Nat} {hi lo : Nat} (hinj : ∀ i j, f i = f j → i = j) (hl : lo ≤ hi) (hh : hi < 32) {k n : Nat}
    (hk : k < n) (s : State) :
    ((List.range n).foldl (fun t k => t.setFld (f k) hi lo (v k)) s).fld (f k) hi lo = v k % 2 ^ (hi + 1 - lo) ∧
      ∀ h l, h < lo ∨ hi < l → ((List.range n).foldl (fun t k => t.setFld (f k) hi lo (v k)) s).fld (f k) h l = s.fld (f k) h l := by
  obtain ⟨t, -, hrd, hfin⟩ := rd_foldl_at (f := f) (step := fun t k => t.setFld (f k) hi lo (v k)) (P := fun _ => True)
    (fun t k a ha => State.rd_setFld_other _ _ _ _ _ _ ha) hinj (fun _ _ _ => trivial) _ List.nodup_range (List.mem_range.mpr hk) s trivial
  refine ⟨(State.fld_of_rd hfin _ _).trans (State.fld_setFld_same _ _ _ _ _ hl hh), fun h l ho => (State.fld_of_rd hfin _ _).trans ?_⟩
  rw [State.fld_setFld_apart _ _ _ _ _ _ _ hl hh ho, State.fld_of_rd hrd]

theorem rd_foldl_setFld {f v : Nat → Nat} {hi lo n a : Nat} (ha : ∀ k < n, a ≠ f k) (s : State) :
    ((List.range n).foldl (fun t k => t.setFld (f k) hi lo (v k)) s).rd a = s.rd a :=
  rd_foldl_apart (f := f) (fun t k a ha => State.rd_setFld_other _ _ _ _ _ _ ha) _ s fun k hk => ha k (List.mem_range.mp hk)

/-! ### What a measurement shows -/

theorem ssvCageI_inj {i j : Nat} (h : Reg.ssvCageI i = Reg.ssvCageI j) : i = j := by unfold Reg.ssvCageI at h; omega
theorem ssvFan_inj {i j : Nat} (h : Reg.ssvFan i = Reg.ssvFan j) : i = j := by unfold Reg.ssvFan at h; omega

/-- The input, the power and the temperatures as a measurement shows them. -/
def shownInput (s : State) (m : SupplyReading) : State :=
  (((s.setFld Reg.ssvMainsStatus 25 16 (satNat m.freq 1023)).setFld Reg.ssvMainsStatus 15 0 (satNat m.vrms 65535)).wr Reg.ssvPower
    (BitVec.ofNat 32 (satNat m.inputW 65535 * 65536 + satNat m.dcW 65535))).wr Reg.ssvTemp
    (BitVec.ofNat 32 (unsigned m.tj 16 * 65536 + unsigned m.inlet 16))

theorem showReading_eq_foldl (s : State) (m : SupplyReading) : s.showReading m =
    (List.range 6).foldl (fun t n => t.setFld (Reg.ssvFan n) 15 0 (satNat (m.fanRpm.getD n 0) 65535))
      ((List.range 20).foldl (fun t n => t.setFld (Reg.ssvCageI n) 15 0 (satNat (m.cageMa.getD n 0) 65535)) (shownInput s m)) := by
  rw [State.showReading, shownInput]

/-- The registers of a measurement below the fans' and the cages'. -/
theorem rd_showReading {a : Nat} (m : SupplyReading) (hc : ∀ k < 20, a ≠ Reg.ssvCageI k) (hf : ∀ k < 6, a ≠ Reg.ssvFan k) :
    (s.showReading m).rd a = (shownInput s m).rd a := by
  rw [showReading_eq_foldl]
  exact (rd_foldl_setFld hf _).trans (rd_foldl_setFld hc _)

theorem rd_shownInput_other {a : Nat} (m : SupplyReading) (h1 : a ≠ Reg.ssvMainsStatus) (h2 : a ≠ Reg.ssvPower) (h3 : a ≠ Reg.ssvTemp) :
    (shownInput s m).rd a = s.rd a := by
  rw [shownInput, State.rd_wr, if_neg h3, State.rd_wr, if_neg h2, State.rd_setFld_other _ _ _ _ _ _ h1, State.rd_setFld_other _ _ _ _ _ _ h1]

theorem fld_shownInput (m : SupplyReading) (hfreq : m.freq ≤ 1023) (hvrms : m.vrms ≤ 65535) (hin : m.inputW ≤ 65535) (hdc : m.dcW ≤ 65535) :
    (shownInput s m).fld Reg.ssvMainsStatus 15 0 = m.vrms ∧ (shownInput s m).fld Reg.ssvMainsStatus 25 16 = m.freq ∧
      (shownInput s m).fld Reg.ssvPower 31 16 = m.inputW ∧ (shownInput s m).fld Reg.ssvPower 15 0 = m.dcW := by
  have h1 : Reg.ssvMainsStatus ≠ Reg.ssvTemp ∧ Reg.ssvMainsStatus ≠ Reg.ssvPower ∧ Reg.ssvPower ≠ Reg.ssvTemp := by decide
  simp only [shownInput, State.fld_wr, if_neg h1.1, if_neg h1.2.1, if_neg h1.2.2, if_true, satNat, if_pos hfreq, if_pos hvrms,
    if_pos hin, if_pos hdc, State.fld_setFld_same _ _ _ _ _ (show 0 ≤ 15 by decide) (show 15 < 32 by decide),
    State.fld_setFld_apart _ _ 15 0 _ 25 16 (by decide) (by decide) (by decide),
    State.fld_setFld_same _ _ _ _ _ (show 16 ≤ 25 by decide) (show 25 < 32 by decide), Wbits, bitsOf, BitVec.toNat_ofNat]
  omega

theorem fld_showReading_cage (m : SupplyReading) {n : Nat} (hn : n < 20) :
    (s.showReading m).fld (Reg.ssvCageI n) 15 0 = satNat (m.cageMa.getD n 0) 65535 % 2 ^ 16 ∧
      (s.showReading m).fld (Reg.ssvCageI n) 31 24 = s.fld (Reg.ssvCageI n) 31 24 := by
  have hfan : ∀ k < 6, Reg.ssvCageI n ≠ Reg.ssvFan k := fun k hk => by unfold Reg.ssvCageI Reg.ssvFan; omega
  have hother : Reg.ssvCageI n ≠ Reg.ssvMainsStatus ∧ Reg.ssvCageI n ≠ Reg.ssvPower ∧ Reg.ssvCageI n ≠ Reg.ssvTemp := by
    unfold Reg.ssvCageI Reg.ssvTemp Reg.ssvPower Reg.ssvMainsStatus; omega
  obtain ⟨h1, h2⟩ := fld_foldl_setFld (f := Reg.ssvCageI) (v := fun n => satNat (m.cageMa.getD n 0) 65535) (hi := 15) (lo := 0)
    (fun _ _ => ssvCageI_inj) (by decide) (by decide) hn (shownInput s m)
  rw [showReading_eq_foldl]
  refine ⟨(State.fld_of_rd (rd_foldl_setFld hfan _) _ _).trans h1, (State.fld_of_rd (rd_foldl_setFld hfan _) _ _).trans ?_⟩
  exact (h2 31 24 (.inr (by decide))).trans (State.fld_of_rd (rd_shownInput_other m hother.1 hother.2.1 hother.2.2) _ _)

theorem fld_showReading_fan (m : SupplyReading) {n : Nat} (hn : n < 6) :
    (s.showReading m).fld (Reg.ssvFan n) 15 0 = satNat (m.fanRpm.getD n 0) 65535 % 2 ^ 16 := by
  rw [showReading_eq_foldl]
  exact (fld_foldl_setFld (f := Reg.ssvFan) (v := fun n => satNat (m.fanRpm.getD n 0) 65535) (hi := 15) (lo := 0)
    (fun _ _ => ssvFan_inj) (by decide) (by decide) hn _).1

theorem showReading_eq (m : SupplyReading) : s.RegsOnly (s.showReading m) := by
  have hfold : ∀ (f v : Nat → Nat) (l : List Nat) (t : State), s.RegsOnly t →
      s.RegsOnly (l.foldl (fun t k => t.setFld (f k) 15 0 (v k)) t) := fun f v l t ht =>
    List.foldlRecOn l _ ht fun _ hu _ _ => hu.setFld
  rw [showReading_eq_foldl]
  exact hfold _ _ _ _ (hfold _ _ _ _ State.RegsOnly.refl.setFld.setFld.wr.wr)

/-! ### What stands shown again -/

theorem rd_showInput {a : Nat} (ha : a ≠ Reg.ssvMainsStatus) : s.showInput.rd a = s.rd a := by
  simp only [State.showInput, State.rd_setBit_other _ _ _ _ _ ha]

theorem fld_showInput (hi lo : Nat) (h : hi < 28) : s.showInput.fld Reg.ssvMainsStatus hi lo = s.fld Reg.ssvMainsStatus hi lo := by
  simp only [State.showInput, State.setBit]
  repeat rw [State.fld_setFld_apart _ _ _ _ _ _ _ (by decide) (by decide) (.inl (by omega))]

/-- The four bits of conditions set one after the other. -/
theorem bits_setBit_four (t : State) (a : Nat) (b31 b30 b29 b28 : Bool) :
    ((((t.setBit a 31 b31).setBit a 30 b30).setBit a 29 b29).setBit a 28 b28).bit a 31 = b31 ∧
      ((((t.setBit a 31 b31).setBit a 30 b30).setBit a 29 b29).setBit a 28 b28).bit a 30 = b30 ∧
      ((((t.setBit a 31 b31).setBit a 30 b30).setBit a 29 b29).setBit a 28 b28).bit a 29 = b29 ∧
      ((((t.setBit a 31 b31).setBit a 30 b30).setBit a 29 b29).setBit a 28 b28).bit a 28 = b28 := by
  simp [State.bit_setBit]

theorem bits_showInput : s.showInput.bit Reg.ssvMainsStatus 31 = s.supply.peOpen ∧ s.showInput.bit Reg.ssvMainsStatus 30 = s.supply.lnSwap ∧
    s.showInput.bit Reg.ssvMainsStatus 29 = (s.supply.sagged || s.supply.interrupted) ∧
    s.showInput.bit Reg.ssvMainsStatus 28 = s.supply.high := by
  have hsup : ((s.setBit Reg.ssvMainsStatus 31 s.supply.peOpen).setBit Reg.ssvMainsStatus 30 s.supply.lnSwap).supply = s.supply :=
    (State.setBit_supply ..).trans (State.setBit_supply ..)
  unfold State.showInput
  extract_lets t
  have ht : t.supply = s.supply := hsup
  rw [ht]
  exact bits_setBit_four s Reg.ssvMainsStatus s.supply.peOpen s.supply.lnSwap (s.supply.sagged || s.supply.interrupted) s.supply.high

theorem rd_showFans {a : Nat} (ha : ∀ k < 6, a ≠ Reg.ssvFan k) : s.showFans.rd a = s.rd a :=
  rd_foldl_apart (f := Reg.ssvFan) (fun _ _ _ h => State.rd_setBit_other _ _ _ _ _ h) _ s fun k hk => ha k (List.mem_range.mp hk)

theorem showFans_fan {n : Nat} (hn : n < 6) : s.showFans.fld (Reg.ssvFan n) 15 0 = s.fld (Reg.ssvFan n) 15 0 ∧
    s.showFans.bit (Reg.ssvFan n) 31 = decide (n ∈ s.supply.failed) := by
  obtain ⟨t, ht, hrd, hfin⟩ := rd_foldl_at (f := Reg.ssvFan)
    (step := fun t n => t.setBit (Reg.ssvFan n) 31 (t.supply.failed.contains n)) (P := fun t => t.supply = s.supply)
    (fun _ _ _ h => State.rd_setBit_other _ _ _ _ _ h) (fun _ _ => ssvFan_inj) (fun t k h => (State.setBit_supply ..).trans h) _
    List.nodup_range (List.mem_range.mpr hn) s rfl
  refine ⟨(State.fld_of_rd hfin _ _).trans ?_, (State.bit_of_rd hfin _).trans ?_⟩
  · rw [State.setBit, State.fld_setFld_apart _ _ _ _ _ _ _ (by decide) (by decide) (by decide), State.fld_of_rd hrd]
  · rw [State.bit_setBit_same _ _ _ _ (by decide), ht]; simp [List.elem_eq_mem]

theorem showFans_eq : s.RegsOnly s.showFans :=
  List.foldlRecOn (List.range 6) _ (motive := fun t => s.RegsOnly t) State.RegsOnly.refl fun _ hu _ _ => hu.setBit

theorem showInput_eq : s.RegsOnly s.showInput := State.RegsOnly.refl.setBit.setBit.setBit.setBit

/-! ### A measurement -/

/-- A state whose supply is another: its registers are as they were. -/
theorem State.RegsOnly.supply {t u : State} (h : s.RegsOnly t) (x : Supply) (k : State.RegsOnly { t with supply := x } u) :
    u = { s with regs := u.regs, supply := x } := by
  unfold State.RegsOnly at *; rw [k, h]

theorem supplyMeasure_spec (hon : s.supply.on = true) (m : SupplyReading) (hfreq : m.freq ≤ 1023) (hvrms : m.vrms ≤ 65535)
    (hin : m.inputW ≤ 65535) (hdc : m.dcW ≤ 65535) : ∃ t, exec (.supplyMeasure m) s = .next t ∧
      t.fld Reg.ssvMainsStatus 15 0 = m.vrms ∧ t.fld Reg.ssvMainsStatus 25 16 = m.freq ∧
      t.fld Reg.ssvPower 31 16 = m.inputW ∧ t.fld Reg.ssvPower 15 0 = m.dcW ∧
      (∀ n < 20, t.fld (Reg.ssvCageI n) 15 0 = min 65535 (m.cageMa.getD n 0) ∧
        t.fld (Reg.ssvCageI n) 31 24 = s.fld (Reg.ssvCageI n) 31 24) ∧
      (∀ n < 6, t.fld (Reg.ssvFan n) 15 0 = min 65535 (m.fanRpm.getD n 0) ∧ t.bit (Reg.ssvFan n) 31 = decide (n ∈ s.supply.failed)) ∧
      t.bit Reg.ssvMainsStatus 31 = s.supply.peOpen ∧ t.bit Reg.ssvMainsStatus 30 = s.supply.lnSwap ∧
      t.bit Reg.ssvMainsStatus 29 = (s.supply.sagged || s.supply.interrupted) ∧
      t.bit Reg.ssvMainsStatus 28 = (s.supply.high && decide (26500 < m.vrms)) ∧
      ∃ hot cool, t.supply = s.supply.timers m hot cool ∧ t = { s with regs := t.regs, supply := t.supply } := by
  obtain ⟨u, hu⟩ : ∃ u, u = s.showReading m := ⟨_, rfl⟩
  obtain ⟨x, hx⟩ : ∃ x, x = u.supply.timers m (u.tooHot m.inlet m.tj) (u.coolEnough m.inlet m.tj) := ⟨_, rfl⟩
  have hregs : s.RegsOnly u := hu ▸ showReading_eq m
  have husup : u.supply = s.supply := by rw [hregs]
  obtain ⟨w, hw⟩ : ∃ w : State, w = { u with supply := x } := ⟨_, rfl⟩
  have hwsup : w.supply = x := by rw [hw]
  have hwrd : ∀ a, w.rd a = u.rd a := fun a => by rw [hw]; rfl
  have hisup : w.showInput.supply = x := by rw [showInput_eq]; exact hwsup
  have hexec : exec (.supplyMeasure m) s = .next w.showInput.showFans := by
    rw [exec_supplyMeasure, execSupplyMeasure, occurs, if_pos hon, hw, hx, hu]
  -- a register reads as the measurement left it
  have hrd : ∀ a, (∀ k < 6, a ≠ Reg.ssvFan k) → a ≠ Reg.ssvMainsStatus → w.showInput.showFans.rd a = u.rd a := fun a hf hm =>
    (rd_showFans hf).trans ((rd_showInput hm).trans (hwrd a))
  have hstatus : w.showInput.showFans.rd Reg.ssvMainsStatus = w.showInput.rd Reg.ssvMainsStatus :=
    rd_showFans fun k hk => by unfold Reg.ssvMainsStatus Reg.ssvFan; omega
  have hmains : ∀ hi lo, hi < 28 → w.showInput.showFans.fld Reg.ssvMainsStatus hi lo = u.fld Reg.ssvMainsStatus hi lo :=
    fun hi lo h => (State.fld_of_rd hstatus _ _).trans ((fld_showInput hi lo h).trans (State.fld_of_rd (hwrd _) _ _))
  obtain ⟨hvolts, hhz, hwatts, hdcw⟩ := fld_shownInput (s := s) m hfreq hvrms hin hdc
  have humains : u.rd Reg.ssvMainsStatus = (shownInput s m).rd Reg.ssvMainsStatus :=
    hu ▸ rd_showReading m (fun k hk => by unfold Reg.ssvMainsStatus Reg.ssvCageI; omega)
      fun k hk => by unfold Reg.ssvMainsStatus Reg.ssvFan; omega
  have hupower : u.rd Reg.ssvPower = (shownInput s m).rd Reg.ssvPower :=
    hu ▸ rd_showReading m (fun k hk => by unfold Reg.ssvPower Reg.ssvCageI; omega)
      fun k hk => by unfold Reg.ssvPower Reg.ssvFan; omega
  have hpower : w.showInput.showFans.rd Reg.ssvPower = u.rd Reg.ssvPower :=
    hrd _ (fun k hk => by unfold Reg.ssvPower Reg.ssvFan; omega) (by decide)
  have hsat : ∀ k, satNat k 65535 = min 65535 k := fun k => by rw [satNat]; split_ifs <;> omega
  obtain ⟨h31, h30, h29, h28⟩ := bits_showInput (s := w)
  have hbit : ∀ i, w.showInput.showFans.bit Reg.ssvMainsStatus i = w.showInput.bit Reg.ssvMainsStatus i := fun i => State.bit_of_rd hstatus i
  refine ⟨_, hexec, ?_, ?_, ?_, ?_, fun n hn => ⟨?_, ?_⟩, fun n hn => ⟨?_, ?_⟩, ?_, ?_, ?_, ?_, u.tooHot m.inlet m.tj,
    u.coolEnough m.inlet m.tj, ?_, ?_⟩
  · rw [hmains _ _ (by decide), State.fld_of_rd humains, hvolts]
  · rw [hmains _ _ (by decide), State.fld_of_rd humains, hhz]
  · rw [State.fld_of_rd (hpower.trans hupower), hwatts]
  · rw [State.fld_of_rd (hpower.trans hupower), hdcw]
  · rw [State.fld_of_rd (hrd _ (fun k hk => by unfold Reg.ssvCageI Reg.ssvFan; omega) (by unfold Reg.ssvCageI Reg.ssvMainsStatus; omega)),
      hu, (fld_showReading_cage m hn).1, hsat]
    omega
  · rw [State.fld_of_rd (hrd _ (fun k hk => by unfold Reg.ssvCageI Reg.ssvFan; omega) (by unfold Reg.ssvCageI Reg.ssvMainsStatus; omega)),
      hu, (fld_showReading_cage m hn).2]
  · rw [(showFans_fan hn).1, State.fld_of_rd ((rd_showInput (by unfold Reg.ssvFan Reg.ssvMainsStatus; omega)).trans (hwrd _)), hu,
      fld_showReading_fan m hn, hsat]
    omega
  · rw [(showFans_fan hn).2, hisup, hx, husup]; rfl
  · rw [hbit, h31, hwsup, hx, husup]; rfl
  · rw [hbit, h30, hwsup, hx, husup]; rfl
  · rw [hbit, h29, hwsup, hx, husup]; rfl
  · rw [hbit, h28, hwsup, hx, husup]; rfl
  · rw [showFans_eq, ← husup, ← hx]; exact hisup
  · have hfin : State.RegsOnly { u with supply := x } w.showInput.showFans := hw ▸ showInput_eq.trans showFans_eq
    have h := hregs.supply x hfin
    have hsup : w.showInput.showFans.supply = x := by rw [showFans_eq]; exact hisup
    rwa [← hsup] at h

end

end Sys2Proof.Machine
end

section
/-! PROOFS. The statement on the supervisor's measurements and input conditions, clause by clause. -/
namespace Sys2Proof.Machine

section
variable {s t : State}

/-! ### An input condition with its event -/

theorem supply_mainsEvent (s : State) (b n : Nat) : (s.mainsEvent b n).supply = s.supply := by
  unfold State.mainsEvent State.ssvEvent
  split_ifs
  · exact (supply_raiseEvent ..).trans (State.setBit_supply ..)
  · exact State.setBit_supply ..

/-- Where the module runs, what a condition's event does beside its bit. -/
theorem mainsEvent_spec (hup : s.coreUp = true) {b n : Nat} (hb : b < 32) (hn : n < 320) :
    (s.mainsEvent b n).bit Reg.ssvMainsEvents b = true ∧ s.regsRaised (s.mainsEvent b n) [Reg.ssvMainsEvents] n ∧
      (s.mainsEvent b n).supply = s.supply ∧ (s.mainsEvent b n).boot = s.boot ∧ (s.mainsEvent b n).mem = s.mem := by
  have heq : s.mainsEvent b n = s.setEvent Reg.ssvMainsEvents b n := if_pos ((coreUp_setBit ..).trans hup)
  refine ⟨?_, ?_, supply_mainsEvent .., ?_, ?_⟩ <;> rw [heq]
  · exact State.bit_setEvent_same (hb := hb) (ha := by decide) ..
  · exact State.regsRaised_setEvent _ hn (by decide)
  · exact State.setEvent_boot ..
  · exact State.setEvent_mem ..

/-- A condition shown in SSV.MAINS_STATUS before its event. -/
theorem regsRaised_mainsEvent {u : State} {b n : Nat} (hup : u.coreUp = true) (hb : b < 32) (hn : n < 320)
    (hrd : ∀ a, a ≠ Reg.ssvMainsStatus → u.rd a = s.rd a) :
    s.regsRaised (u.mainsEvent b n) [Reg.ssvMainsStatus, Reg.ssvMainsEvents] n := by
  obtain ⟨hr, hother⟩ := (mainsEvent_spec hup hb hn).2.1
  refine ⟨hr.of_rd fun a ha => hrd a (by rw [Reg.ssvMainsStatus]; omega), fun a ha hl => ?_⟩
  simp only [List.mem_cons, List.not_mem_nil, or_false, not_or] at hl
  exact (hother a ha (by simpa using hl.2)).trans (hrd a hl.1)

theorem rd_mainsEvent_status {u : State} {b n : Nat} (hup : u.coreUp = true) (hb : b < 32) (hn : n < 320) :
    (u.mainsEvent b n).rd Reg.ssvMainsStatus = u.rd Reg.ssvMainsStatus :=
  (mainsEvent_spec hup hb hn).2.1.2 _ (by decide) (by decide)

/-! ### The words of SSV.MAINS_STATUS -/

/-- A condition's bit and the voltage shown. -/
def shown (s : State) (bit : Nat) (on : Bool) (v : Nat) : State := (s.setBit Reg.ssvMainsStatus bit on).setFld Reg.ssvMainsStatus 15 0 v

theorem rd_shown {bit : Nat} {on : Bool} {v a : Nat} (ha : a ≠ Reg.ssvMainsStatus) : (shown s bit on v).rd a = s.rd a := by
  rw [shown, State.rd_setFld_other _ _ _ _ _ _ ha, State.rd_setBit_other _ _ _ _ _ ha]

theorem bit_shown {bit : Nat} {on : Bool} {v : Nat} (h1 : 16 ≤ bit) (h2 : bit < 32) : (shown s bit on v).bit Reg.ssvMainsStatus bit = on := by
  rw [shown, State.bit, State.fld_setFld_apart _ _ _ _ _ _ _ (by decide) (by decide) (.inr (by omega))]
  exact State.bit_setBit_same _ _ _ _ h2

theorem fld_shown {bit : Nat} {on : Bool} {v : Nat} (hv : v < 65536) : (shown s bit on v).fld Reg.ssvMainsStatus 15 0 = v := by
  rw [shown, State.fld_setFld_same _ _ _ _ _ (by decide) (by decide)]; omega

theorem shown_eq (s : State) (bit : Nat) (on : Bool) (v : Nat) : s.RegsOnly (shown s bit on v) := State.RegsOnly.refl.setBit.setFld

theorem coreUp_regsOnly (h : s.RegsOnly t) : t.coreUp = s.coreUp := by
  rw [State.coreUp, State.coreUp, h]

/-- A condition shown with its voltage and its event. -/
theorem shown_event (hup : s.coreUp = true) (x : Supply) {bit v b n : Nat} (h1 : 16 ≤ bit) (h2 : bit < 32) (hv : v < 65536)
    (hb : b < 32) (hn : n < 320) {t : State} (ht : t = (shown { s with supply := x } bit true v).mainsEvent b n) :
    t.bit Reg.ssvMainsStatus bit = true ∧ t.fld Reg.ssvMainsStatus 15 0 = v ∧ t.bit Reg.ssvMainsEvents b = true ∧
      s.regsRaised t [Reg.ssvMainsStatus, Reg.ssvMainsEvents] n ∧ t.supply = x ∧ t.boot = s.boot ∧ t.mem = s.mem := by
  have hs := shown_eq { s with supply := x } bit true v
  have hcore : (shown { s with supply := x } bit true v).coreUp = true := (coreUp_regsOnly hs).trans hup
  obtain ⟨hbit, -, hsup, hboot, hmem⟩ := mainsEvent_spec hcore hb hn
  have hstatus := rd_mainsEvent_status hcore hb hn
  rw [ht]
  refine ⟨(State.bit_of_rd hstatus _).trans (bit_shown h1 h2), (State.fld_of_rd hstatus _ _).trans (fld_shown hv), hbit,
    regsRaised_mainsEvent hcore hb hn fun a ha => (rd_shown ha).trans rfl, ?_, ?_, ?_⟩
  · rw [hsup, hs]
  · rw [hboot, hs]
  · rw [hmem, hs]

/-- An earth condition shown with its event. -/
theorem earth_event (hup : s.coreUp = true) (x : Supply) {bit b n : Nat} (hbit : bit < 32) (hb : b < 32) (hn : n < 320) {t : State}
    (ht : t = (State.setBit { s with supply := x } Reg.ssvMainsStatus bit true).mainsEvent b n) :
    t.bit Reg.ssvMainsStatus bit = true ∧ t.bit Reg.ssvMainsEvents b = true ∧
      s.regsRaised t [Reg.ssvMainsStatus, Reg.ssvMainsEvents] n ∧ t.supply = x := by
  have hcore : (State.setBit { s with supply := x } Reg.ssvMainsStatus bit true).coreUp = true := (coreUp_setBit ..).trans hup
  obtain ⟨hb', -, hsup, -⟩ := mainsEvent_spec hcore hb hn
  rw [ht]
  refine ⟨(State.bit_of_rd (rd_mainsEvent_status hcore hb hn) _).trans (State.bit_setBit_same _ _ _ _ hbit), hb',
    regsRaised_mainsEvent hcore hb hn fun a ha => (State.rd_setBit_other _ _ _ _ _ ha).trans rfl, ?_⟩
  exact hsup.trans (State.setBit_supply ..)

theorem sag_spec (hon : s.supply.on = true) (hup : s.coreUp = true) {v ms : Nat} (hv : v < 8500) (hms : 20 ≤ ms) (hv16 : v < 65536)
    (hidle : s.supply.sagged = false) : ∃ t, exec (.sag v ms) s = .next t ∧ t.bit Reg.ssvMainsStatus 29 = true ∧
      t.fld Reg.ssvMainsStatus 15 0 = v ∧ t.bit Reg.ssvMainsEvents 0 = true ∧
      s.regsRaised t [Reg.ssvMainsStatus, Reg.ssvMainsEvents] 288 ∧ t.supply = { s.supply with sagged := true, vrms := v } ∧
      t.boot = s.boot := by
  obtain ⟨h1, h2, h3, h4, h5, h6, -⟩ := shown_event hup { s.supply with sagged := true, vrms := v } (bit := 29) (b := 0) (n := 288)
    (by decide) (by decide) hv16 (by decide) (by decide) rfl
  have hg : (s.supply.on && !s.supply.sagged && decide (v < 8500) && decide (20 ≤ ms)) = true := by simp [hon, hidle, hv, hms]
  exact ⟨_, by rw [exec_sag, execSag, hg, occurs, if_pos rfl, shown], h1, h2, h3, h4, h5, h6⟩

theorem interruption_spec (hon : s.supply.on = true) (hup : s.coreUp = true) {v ms : Nat} (hv : v < 2000) (hms : 5 ≤ ms) (hv16 : v < 65536)
    (hidle : s.supply.interrupted = false) : ∃ t, exec (.interruption v ms) s = .next t ∧ t.bit Reg.ssvMainsStatus 29 = true ∧
      t.fld Reg.ssvMainsStatus 15 0 = v ∧ t.bit Reg.ssvMainsEvents 1 = true ∧
      s.regsRaised t [Reg.ssvMainsStatus, Reg.ssvMainsEvents] 289 ∧ t.supply = { s.supply with interrupted := true, vrms := v } ∧
      t.boot = s.boot := by
  obtain ⟨h1, h2, h3, h4, h5, h6, -⟩ := shown_event hup { s.supply with interrupted := true, vrms := v } (bit := 29) (b := 1) (n := 289)
    (by decide) (by decide) hv16 (by decide) (by decide) rfl
  have hg : (s.supply.on && !s.supply.interrupted && decide (v < 2000) && decide (5 ≤ ms)) = true := by simp [hon, hidle, hv, hms]
  exact ⟨_, by rw [exec_interruption, execInterruption, hg, occurs, if_pos rfl, shown], h1, h2, h3, h4, h5, h6⟩

/-! ### High input -/

theorem highInput_eq (s : State) (v : Nat) : s.highInput v =
    if s.supply.high then shown { s with supply.high := true, supply.vrms := v } 28 true (satNat v 65535)
    else (shown { s with supply.high := true, supply.vrms := v } 28 true (satNat v 65535)).mainsEvent 3 290 := rfl

theorem satNat_of_le {v m : Nat} (h : v ≤ m) : satNat v m = v := if_pos h

theorem highInput_supply (s : State) (v : Nat) : (s.highInput v).supply = { s.supply with high := true, vrms := v } := by
  rw [highInput_eq]
  split_ifs
  · rw [shown_eq]
  · rw [supply_mainsEvent, shown_eq]

theorem State.RegsOnly.withSupply {u : State} {x : Supply} (h : s.RegsOnly t) (hu : u = { t with supply := x }) :
    u = { s with regs := u.regs, supply := x } := by
  unfold State.RegsOnly at h; rw [hu, h]

theorem rideThroughEnd_spec (hon : s.supply.on = true) {v : Nat} (hride : s.supply.sagged = true ∨ s.supply.interrupted = true)
    (hlo : 8500 ≤ v) (hhi : v ≤ 26500) : ∃ t, exec (.rideThroughEnd v) s = .next t ∧
      t.bit Reg.ssvMainsStatus 29 = false ∧ t.fld Reg.ssvMainsStatus 15 0 = v ∧ s.regsBut t [Reg.ssvMainsStatus] ∧
      t = { s with
        regs := t.regs, supply.sagged := false, supply.interrupted := false, supply.overMs := 0
        supply.sinceStepMs := 0, supply.vrms := v, supply.rechargeMs := 0, supply.charged := false } := by
  have hg : (s.supply.on && s.supply.riding && inRange v) = true := by simp [hon, Supply.riding, hride, inRange, hlo, hhi]
  obtain ⟨t, ht⟩ : ∃ t, t = shown s 29 false v := ⟨_, rfl⟩
  have hregs : s.RegsOnly t := ht ▸ shown_eq ..
  have hsup : t.supply = s.supply := by rw [hregs]
  obtain ⟨u, hu⟩ : ∃ u : State, u = { t with supply := { s.supply with
    sagged := false, interrupted := false, overMs := 0, sinceStepMs := 0, vrms := v, rechargeMs := 0, charged := false } } := ⟨_, rfl⟩
  have hrd : ∀ a, u.rd a = t.rd a := fun a => by rw [hu]; rfl
  have hexec : exec (.rideThroughEnd v) s = .next u := by
    rw [exec_rideThroughEnd, execRideThroughEnd, hg, occurs, if_pos rfl, hu, ← hsup, ht, shown]
  refine ⟨u, hexec, ?_, ?_, fun a ha => ?_, hregs.withSupply hu⟩
  · rw [State.bit_of_rd (hrd _), ht, bit_shown (by decide) (by decide)]
  · rw [State.fld_of_rd (hrd _), ht, fld_shown (by omega)]
  · rw [hrd, ht, rd_shown (by simpa using ha)]

theorem highInput_again (hhigh : s.supply.high = true) {v : Nat} (hv : v < 65536) {t : State} (ht : t = s.highInput v) :
    t.fld Reg.ssvMainsStatus 15 0 = v ∧ t.bit Reg.ssvMainsStatus 28 = true ∧ s.regsBut t [Reg.ssvMainsStatus] ∧
      t = { s with regs := t.regs, supply.vrms := v } := by
  have heq : s.highInput v = shown { s with supply.high := true, supply.vrms := v } 28 true v := by
    rw [highInput_eq, if_pos hhigh, satNat_of_le (by omega)]
  rw [ht, heq]
  refine ⟨fld_shown hv, bit_shown (by decide) (by decide), fun a ha => (rd_shown (by simpa using ha)).trans rfl, ?_⟩
  have hsup : ({ s.supply with high := true, vrms := v } : Supply) = { s.supply with vrms := v } := by rw [← hhigh]
  have h := shown_eq { s with supply := { s.supply with high := true, vrms := v } } 28 true v
  rw [hsup] at h ⊢
  exact h

theorem highInput_bit (hup : s.coreUp = true) {v : Nat} : (s.highInput v).bit Reg.ssvMainsStatus 28 = true ∧ (s.highInput v).mem = s.mem := by
  obtain ⟨u, hu⟩ : ∃ u, u = shown { s with supply.high := true, supply.vrms := v } 28 true (satNat v 65535) := ⟨_, rfl⟩
  have hregs : State.RegsOnly { s with supply.high := true, supply.vrms := v } u := hu ▸ shown_eq ..
  have hbit : u.bit Reg.ssvMainsStatus 28 = true := hu ▸ bit_shown (by decide) (by decide)
  have hmem : u.mem = s.mem := by rw [hregs]
  have hcore : u.coreUp = true := (coreUp_regsOnly hregs).trans hup
  rw [highInput_eq, ← hu]
  split_ifs
  · exact ⟨hbit, hmem⟩
  · exact ⟨(State.bit_of_rd (rd_mainsEvent_status hcore (by decide) (by decide)) _).trans hbit,
      (mainsEvent_spec hcore (by decide) (by decide)).2.2.2.2.trans hmem⟩

/-- The time until the input relay opens. -/
def relayTime (d : Option Nat) (v : Nat) : Nat := match d with
  | some d => min d (if 30000 < v then 20 else 1000)
  | none => if 30000 < v then 20 else 1000

theorem overVoltage_spec (hon : s.supply.on = true) (hup : s.coreUp = true) {v : Nat} (hv : 27500 < v) :
    ∃ t, exec (.overVoltage v) s = .next t ∧ t.bit Reg.ssvMainsStatus 28 = true ∧
      t.supply = { s.supply with high := true, vrms := v, relayDue := some (relayTime s.supply.relayDue v) } ∧ t.mem = s.mem := by
  obtain ⟨u, hu⟩ : ∃ u, u = s.highInput v := ⟨_, rfl⟩
  obtain ⟨hbit, hmem⟩ := highInput_bit hup (v := v)
  have hsup : u.supply = _ := hu ▸ highInput_supply s v
  have hexec : exec (.overVoltage v) s = .next { u with supply.relayDue := some (relayTime s.supply.relayDue v) } := by
    simp only [exec_overVoltage, execOverVoltage, occurs, hon, hv, decide_true, Bool.and_self, if_true, hu]
    cases s.supply.relayDue <;> rfl
  refine ⟨_, hexec, ?_, ?_, ?_⟩
  · exact (State.bit_of_rd (s := u) rfl 28).trans (hu ▸ hbit)
  · show ({ u.supply with relayDue := _ } : Supply) = _
    rw [hsup]
  · exact (congrArg State.mem hu).trans hmem

theorem State.RegsOnly.supply_again {x : Supply} (h : State.RegsOnly { s with supply := x } t) (hsup : t.supply = x) :
    t = { s with regs := t.regs, supply := t.supply } := by
  rw [hsup]; exact h

theorem rd_supply (s : State) (x : Supply) (a : Nat) : State.rd { s with supply := x } a = s.rd a := rfl

theorem conditionClear_bit (x : Supply) {b : Nat} (hb : b < 32) {t : State}
    (ht : t = State.setBit { s with supply := x } Reg.ssvMainsStatus b false) : t.bit Reg.ssvMainsStatus b = false ∧
      (∀ i < 32, i ≠ b → t.bit Reg.ssvMainsStatus i = s.bit Reg.ssvMainsStatus i) ∧ s.regsBut t [Reg.ssvMainsStatus] ∧
      t = { s with regs := t.regs, supply := t.supply } ∧ t.supply = x := by
  obtain ⟨u, hu⟩ : ∃ u : State, u = { s with supply := x } := ⟨_, rfl⟩
  have husup : u.supply = x := by rw [hu]
  have hurd : ∀ a, u.rd a = s.rd a := fun a => by rw [hu, rd_supply]
  rw [← hu] at ht
  have hsup : t.supply = x := by rw [ht, State.setBit_supply, husup]
  have hregs : State.RegsOnly u t := by rw [ht]; exact State.RegsOnly.refl.setBit
  refine ⟨?_, fun i hi hne => ?_, fun a ha => ?_, (hu ▸ hregs : State.RegsOnly { s with supply := x } t).supply_again hsup, hsup⟩
  · rw [ht, State.bit_setBit_same _ _ _ _ hb]
  · rw [ht, State.bit_setBit_other _ _ _ _ _ _ hb (.inr hne), State.bit_of_rd (hurd _)]
  · rw [ht, State.rd_setBit_other _ _ _ _ _ (by simpa using ha), hurd]

end

/-- Settles O32: what a measurement shows, and each input condition with its bit and its event. -/
theorem supplyConditions : Obligations.SupplyConditions := by
  unfold Obligations.SupplyConditions
  intro s hon hup
  refine ⟨?_, ?_, ?_, ?_, ?_, ?_, ?_, ?_, ?_, ?_, ?_⟩
  · intro m hfreq hvrms hin hdc
    obtain ⟨t, hexec, h1, h2, h3, h4, h5, h6, h7, h8, h9, h10, hot, cool, hsup, heq⟩ := supplyMeasure_spec hon m hfreq hvrms hin hdc
    refine ⟨t, hexec, h1, h2, h3, h4, h5, h6, h7, h8, h9, h10, ?_, ?_, ?_, ?_, ?_, ?_, ?_, ?_, heq⟩ <;> rw [hsup, Supply.timers]
    · simp only [runOn, decide_eq_true_eq]
    · simp only [runOn, inRange, Bool.and_eq_true, decide_eq_true_eq]
    · simp only [runOn, decide_eq_true_eq]
  · simp only [List.forall_mem_cons, List.not_mem_nil, false_imp_iff, implies_true, and_true, if_true, Bool.false_eq_true, if_false]
    exact ⟨fun v ms hv hms hv16 hidle => sag_spec hon hup hv hms hv16 hidle,
      fun v ms hv hms hv16 hidle => interruption_spec hon hup hv hms hv16 hidle⟩
  · exact fun v hride hlo hhi => rideThroughEnd_spec hon hride hlo hhi
  · intro v hhi hv16
    have hsat : satNat v 65535 = v := satNat_of_le (by omega)
    have hexec : exec (.highInput v) s = .next (s.highInput v) := by
      simp [exec_highInput, execHighInput, occurs, hon, hhi]
    refine ⟨fun hlow => ?_, fun hhigh => ?_, fun hover => ?_⟩
    · obtain ⟨h1, h2, h3, h4, h5, -⟩ := shown_event hup { s.supply with high := true, vrms := v } (bit := 28) (b := 3) (n := 290)
        (by decide) (by decide) hv16 (by decide) (by decide) rfl
      have heq := highInput_eq s v
      rw [hlow, hsat] at heq
      exact ⟨_, hexec.trans (congrArg _ heq), h1, h2, h3, h4, h5⟩
    · exact ⟨_, hexec, highInput_again hhigh hv16 rfl⟩
    · obtain ⟨t, h1, h2, h3, h4⟩ := overVoltage_spec hon hup hover
      refine ⟨t, h1, h2, h3.trans ?_, h4⟩
      cases s.supply.relayDue <;> rfl
  · intro d hd
    simp [exec_inputRelayOpen, execInputRelayOpen, occurs, hon, hd]
  · intro ma hma
    obtain ⟨h1, h2, h3, -⟩ := mainsEvent_spec hup (b := 2) (n := 290) (by decide) (by decide)
    exact ⟨_, by simp [exec_surge, execSurge, occurs, hon, hma], h1, h2, h3⟩
  · intro ohms ms hohms hms hidle
    obtain ⟨h1, h2, h3, h4⟩ := earth_event hup { s.supply with peOpen := true } (bit := 31) (b := 4) (n := 291)
      (by decide) (by decide) (by decide) rfl
    exact ⟨_, by simp [exec_peOpen, execPeOpen, occurs, hon, hohms, hms, hidle], h1, h2, h3, h4⟩
  · intro ms hms hidle
    obtain ⟨h1, h2, h3, h4⟩ := earth_event hup { s.supply with lnSwap := true } (bit := 30) (b := 5) (n := 292)
      (by decide) (by decide) (by decide) rfl
    exact ⟨_, by simp [exec_lnSwap, execLnSwap, occurs, hon, hms, hidle], h1, h2, h3, h4⟩
  · intro w ms b hb hms
    cases w <;> subst hb
    · exact ⟨_, by simp [exec_conditionClear, execConditionClear, occurs, hon, hms], conditionClear_bit { s.supply with peOpen := false } (by decide) rfl⟩
    · exact ⟨_, by simp [exec_conditionClear, execConditionClear, occurs, hon, hms], conditionClear_bit { s.supply with lnSwap := false } (by decide) rfl⟩
  · rw [exec_dailyBinExpire, execDailyBinExpire, occurs, if_pos hon]; rfl
  · intro inlet ms hin hms
    have hg : (s.supply.on && decide (400 < inlet) && decide (3600000 ≤ ms)) = true := by simp [hon, hin, hms]
    rw [exec_excursionLogWrite, execExcursionLogWrite, hg]; rfl

end Sys2Proof.Machine
end

section
/-! PROOFS. Cleared stretches of memory, and the flags of the retention RAM. -/
namespace Sys2Proof.Machine

/-! ### Bytes outside a cleared stretch -/

theorem smapFind_filter {V : Type} (p : Nat → Bool) (l : List (Nat × V)) (k : Nat) :
    smapFind (l.filter fun e => p e.1) k = if p k then smapFind l k else none := by
  induction l with
  | nil => simp [smapFind]
  | cons e l ih =>
    obtain ⟨a, v⟩ := e
    by_cases ha : p a = true
    · rw [List.filter_cons_of_pos (by simpa using ha), smapFind, smapFind, ih]
      by_cases hk : a = k
      · subst hk; simp [ha]
      · simp [hk]
    · rw [List.filter_cons_of_neg (by simpa using ha), ih, smapFind]
      by_cases hk : a = k
      · subst hk; simp [ha]
      · simp [hk]

/-- Taking no address out of a stretch leaves what it covers. -/
theorem Junk.find_without_self (j : Junk) (a b : Nat) :
    ((j.without a a).find? fun k => k.covers b).map Junk.c = if j.covers b then some j.c else none := by
  have hcov : ∀ lo hi : Nat, (decide (lo < hi) && Junk.covers { j with lo := lo, hi := hi } b) = Junk.covers { j with lo := lo, hi := hi } b :=
    fun lo hi => by simp only [Junk.covers]; by_cases h : lo ≤ b ∧ b < hi <;> simp <;> omega
  have h1 : Junk.covers { j with hi := min j.hi a } b = (j.covers b && decide (b < a)) := by simp [Junk.covers, Bool.and_assoc]
  have h2 : Junk.covers { j with lo := max j.lo a } b = (j.covers b && decide (a ≤ b)) := by
    simp only [Junk.covers]; by_cases h : a ≤ b <;> simp [h]
  rw [Junk.without, List.find?_filter]
  have e1 := (hcov j.lo (min j.hi a)).trans h1
  have e2 := (hcov (max j.lo a) j.hi).trans h2
  simp only [List.find?_cons, List.find?_nil, Bool.decide_and, Bool.decide_eq_true, e1, e2]
  rcases Nat.lt_or_ge b a with hb | hb
  · cases hc : j.covers b <;> simp [hb, Nat.not_le.mpr hb]
  · cases hc : j.covers b <;> simp [hb, Nat.not_lt.mpr hb]

/-- Addresses outside the ones taken out of a list of stretches. -/
theorem find_flatMap_self (l : List Junk) (a b : Nat) :
    ((l.flatMap fun j => j.without a a).find? fun k => k.covers b).map Junk.c = (l.find? fun j => j.covers b).map Junk.c := by
  induction l with
  | nil => rfl
  | cons j l ih =>
    have e := j.find_without_self a b
    rw [List.flatMap_cons, List.find?_append, List.find?_cons]
    cases hf : (j.without a a).find? fun k => k.covers b with
    | none => cases hc : j.covers b <;> simp_all
    | some k => cases hc : j.covers b <;> simp_all

theorem Mem.get_clearRange (m : Mem) (a n b : Nat) : (m.clearRange a n).get b = if a ≤ b ∧ b < a + n then 0 else m.get b := by
  simp only [Mem.get, SMap.getD, Mem.clearRange, smapFind_filter (fun k => decide (k < a) || decide (a + n ≤ k)), Bool.or_eq_true, decide_eq_true_eq]
  by_cases h : a ≤ b ∧ b < a + n
  · rw [if_neg (by omega), if_pos h, Mem.unlisted_eq, Mem.find_none m.junk a (a + n) b h.1 h.2]; rfl
  · rw [if_neg h, if_pos (by omega), Mem.unlisted_eq, Mem.unlisted_eq m]
    rcases Nat.eq_zero_or_pos n with rfl | hn
    · rw [Nat.add_zero, find_flatMap_self]
    · rw [Mem.find_flatMap m.junk a (a + n) b (by omega) (by omega)]

theorem get_clearRange (m : SMap Byte) (a n b : Nat) : (clearRange m a n).get b = if a ≤ b ∧ b < a + n then 0 else m.get b := by
  simp only [SMap.get, SMap.getD, clearRange, smapFind_filter (fun k => decide (k < a) || decide (a + n ≤ k)), Bool.or_eq_true, decide_eq_true_eq]
  by_cases h : a ≤ b ∧ b < a + n
  · rw [if_neg (by omega), if_pos h]; rfl
  · rw [if_neg h, if_pos (by omega)]

end Sys2Proof.Machine
end

section
/-! PROOFS. The steps of a boot settled: training, calibration, self-refresh exit, cleared regions, re-validation and the fault
record (R136, R138, R140, R150–R155). -/
namespace Sys2Proof.Machine

section
variable {s t : State} {l : List Part}

/-! ### The retention RAM -/

theorem bitAt_putBits (n i j : Nat) (b : Bool) : bitAt (putBits n i i (b2n b)) j = if j = i then b else bitAt n j := by
  have hbit : ∀ m, bitAt m j = (bitsOf m j j == 1) := fun m => by simp [bitAt, bitsOf]
  rw [hbit, hbit]
  rcases Nat.lt_trichotomy j i with h | rfl | h
  · rw [bitsOf_putBits_below _ _ _ _ _ _ (le_refl i) h, if_neg (by omega)]
  · rw [bitsOf_putBits_same _ _ _ _ (le_refl j), if_pos rfl]; cases b <;> simp [b2n]
  · rw [bitsOf_putBits_above _ _ _ _ _ _ (le_refl i) h, if_neg (by omega)]

theorem ret_setRet_same (s : State) (o n v : Nat) : (s.setRet o n v).ret o n = v % 256 ^ n := by
  have h : getBytes (putBytes s.aon.retention o (leBytes v n)) o n = leBytes v n := by
    refine List.ext_getElem (by simp [getBytes]) fun i h1 h2 => ?_
    simp only [getBytes, List.getElem_map, List.getElem_range]
    exact get_putBytes _ o i _ h2
  exact (congrArg leNat h).trans (leNat_leBytes v n)

/-- What is stored in other bytes of the retention RAM leaves a value alone. -/
theorem ret_of_get {o n : Nat} (h : ∀ i < n, t.aon.retention.get (o + i) = s.aon.retention.get (o + i)) : t.ret o n = s.ret o n :=
  congrArg leNat (List.map_congr_left fun i hi => h i (List.mem_range.mp hi))

theorem ret_setRet_other (s : State) {o n v p m : Nat} (h : p + m ≤ o ∨ o + n ≤ p) : (s.setRet o n v).ret p m = s.ret p m :=
  ret_of_get fun i hi => get_putBytes_ne _ _ _ _ (by rw [leBytes_length]; omega)

/-- A flag of the retention RAM after one has been set. -/
theorem retFlag_setRetFlag (s : State) (i j : Nat) (b : Bool) (hi : i < 32) :
    (s.setRetFlag i b).retFlag j = if j = i then b else s.retFlag j := by
  have hlt : putBits (s.ret 4 4) i i (b2n b) < 2 ^ 32 :=
    putBits_lt _ _ _ _ _ (le_refl i) hi (leNat_lt _ |>.trans_eq (by simp [getBytes]))
  rw [State.retFlag, State.setRetFlag, ret_setRet_same, Nat.mod_eq_of_lt (by simpa using hlt), bitAt_putBits, State.retFlag]

theorem setRetFlag_eq (s : State) (i : Nat) (b : Bool) : s.setRetFlag i b = { s with aon.retention := (s.setRetFlag i b).aon.retention } := rfl

theorem only_setRetFlag (i : Nat) (b : Bool) (h : [.aon] ⊆ l) : State.Only l s (t.setRetFlag i b) ↔ State.Only l s t := by
  rw [setRetFlag_eq]; exact only_set_aon _ h

theorem getBytes_putBytes_prefix (m : SMap Byte) (a : Nat) (l r : List Byte) : getBytes (putBytes m a (l ++ r)) a l.length = l := by
  refine List.ext_getElem (by simp [getBytes]) fun i h1 h2 => ?_
  simp only [getBytes, List.getElem_map, List.getElem_range]
  rw [get_putBytes _ _ _ _ (by rw [List.length_append]; omega), List.getElem_append_left h2]

/-- The flags are outside the bytes cleared. -/
theorem retFlag_clearRange {a n j : Nat} {u : State} (ha : 8 ≤ a) (hu : u.aon.retention = clearRange t.aon.retention a n) :
    u.retFlag j = t.retFlag j := by
  rw [State.retFlag, State.retFlag, ret_of_get (s := t)]
  intro i hi
  rw [hu, get_clearRange, if_neg (by omega)]

/-! ### The fault record of a boot -/

/-- A record written: the next number, and the ring's mark at its slot. -/
theorem writeRecord_spec (s : State) (r : RecordBody) (slot seq : Nat) :
    (s.writeRecord r slot seq).flash.nextRecord = s.flash.nextRecord + 1 ∧
      getBytes (s.writeRecord r slot seq).flash.bytes (0x7800000 + s.flash.nextRecord % 64 * 0x10000) 4 = [0x47, 0x46, 0x4C, 0x54] ∧
      (s.writeRecord r slot seq).regs = s.regs ∧ (s.writeRecord r slot seq).mem = s.mem ∧ (s.writeRecord r slot seq).aon = s.aon := by
  unfold State.writeRecord
  refine ⟨rfl, ?_, rfl, rfl, rfl⟩
  simp only [List.append_assoc]
  exact getBytes_putBytes_prefix _ _ [0x47, 0x46, 0x4C, 0x54] _

/-- The record of a held capture. -/
def captureRecord (s : State) : State :=
  s.writeRecord { kind := 0, cause := s.ret 0x200 1, summary := getBytes s.aon.retention 0x200 512
                  capture := getBytes s.aon.retention 0x1000 61440 } s.boot.lastSlot s.boot.lastSeq

theorem captureRecord_spec (s : State) : (captureRecord s).flash.nextRecord = s.flash.nextRecord + 1 ∧
    getBytes (captureRecord s).flash.bytes (0x7800000 + s.flash.nextRecord % 64 * 0x10000) 4 = [0x47, 0x46, 0x4C, 0x54] ∧
    (captureRecord s).regs = s.regs ∧ (captureRecord s).mem = s.mem ∧ (captureRecord s).aon = s.aon := by
  rw [captureRecord]; exact writeRecord_spec ..

/-- What the writing of the capture leaves: its record, the flag, and the other flags but the capture's. -/
theorem flushCapture_spec (s : State) : s.flushCapture.retFlag retFlushed = true ∧ s.flushCapture.retFlag retNote = s.retFlag retNote ∧
    s.flushCapture.flash = (captureRecord s).flash ∧ s.flushCapture.regs = s.regs ∧ s.flushCapture.mem = s.mem := by
  obtain ⟨-, -, hregs, hmem, haon⟩ := captureRecord_spec s
  obtain ⟨t, ht⟩ : ∃ t, t = (captureRecord s).setRetFlag retFlushed true := ⟨_, rfl⟩
  have hflag : ∀ j, t.retFlag j = if j = retFlushed then true else s.retFlag j := fun j => by
    rw [ht, retFlag_setRetFlag _ _ _ _ (by decide), State.retFlag, State.ret, haon]; rfl
  have hsame : t.flash = (captureRecord s).flash ∧ t.regs = s.regs ∧ t.mem = s.mem := by
    have h : State.Only [.aon] (captureRecord s) t := ht ▸ (only_setRetFlag _ _ (List.Subset.refl _)).mpr (.refl _ _)
    exact ⟨h.flash_eq (by decide), (h.regs_eq (by decide)).trans hregs, (h.mem_eq (by decide)).trans hmem⟩
  have heq : s.flushCapture = if s.runMode = 0 then
      State.setRetFlag { t with aon.retention := clearRange (clearRange t.aon.retention 0x1000 61440) 0x200 0x200 } retCapture false
      else t := by
    rw [ht, captureRecord, State.flushCapture]
  rw [heq]
  split_ifs with hcold
  · obtain ⟨u, hu⟩ : ∃ u : State, u = { t with aon.retention := clearRange (clearRange t.aon.retention 0x1000 61440) 0x200 0x200 } := ⟨_, rfl⟩
    obtain ⟨v, hv⟩ : ∃ v : State, v = { t with aon.retention := clearRange t.aon.retention 0x1000 61440 } := ⟨_, rfl⟩
    have hu' : ∀ j, u.retFlag j = t.retFlag j := fun j =>
      (retFlag_clearRange (t := v) (a := 0x200) (n := 0x200) (by decide) (by rw [hu, hv])).trans
        (retFlag_clearRange (a := 0x1000) (n := 61440) (by decide) (by rw [hv]))
    rw [← hu]
    refine ⟨?_, ?_, ?_, ?_, ?_⟩
    · rw [retFlag_setRetFlag _ _ _ _ (by decide), if_neg (by decide), hu', hflag, if_pos rfl]
    · rw [retFlag_setRetFlag _ _ _ _ (by decide), if_neg (by decide), hu', hflag, if_neg (by decide)]
    · exact (congrArg State.flash hu).trans hsame.1
    · exact (congrArg State.regs hu).trans hsame.2.1
    · exact (congrArg State.mem hu).trans hsame.2.2
  · exact ⟨(hflag _).trans (if_pos rfl), (hflag _).trans (if_neg (by decide)), hsame⟩

/-! ### The guards of the boot's steps -/

theorem coreUp_of_boot (hcore : s.boot.core = .running) (hstop : s.boot.stop = .none) : s.coreUp = true := by
  rw [State.coreUp, hcore, hstop]; rfl

theorem booting_of_boot (hcore : s.boot.core = .running) (hstop : s.boot.stop = .none) : s.booting = true := by
  rw [State.booting, coreUp_of_boot hcore hstop, hstop]; rfl

theorem faultRecordWrite_spec (hboot : s.booting = true) (himg : s.imageRuns = true) (hsec : s.boot.sectionsDone = true)
    (hcap : s.retFlag retCapture = true) (hfl : s.retFlag retFlushed = false) (hnote : s.retFlag retNote = false) :
    ∃ t, exec .faultRecordWrite s = .next t ∧ t.flash.nextRecord = s.flash.nextRecord + 1 ∧ t.retFlag retFlushed = true ∧
      getBytes t.flash.bytes (0x7800000 + s.flash.nextRecord % 64 * 0x10000) 4 = [0x47, 0x46, 0x4C, 0x54] ∧
      t.regs = s.regs ∧ t.mem = s.mem := by
  obtain ⟨h1, h2, h3, h4, h5⟩ := flushCapture_spec s
  obtain ⟨k1, k2, -⟩ := captureRecord_spec s
  have heq : s.flushHeld = s.flushCapture := by
    rw [State.flushHeld, hcap, hfl]
    simp only [Bool.not_false, Bool.and_self, if_true, h2, hnote, Bool.false_eq_true, if_false]
  refine ⟨s.flushCapture, ?_, ?_, h1, ?_, h4, h5⟩
  · rw [exec_faultRecordWrite, execFaultRecordWrite, hboot, himg, hsec, heq, Bool.and_self, occurs, if_pos (by decide)]
  · rw [h3]; exact k1
  · rw [h3]; exact k2

/-! ### Calibration and training -/

theorem only_saveCal (s : State) : State.Only [.freeCtr, .aon] s s.saveCal := by
  have hdraw : ∀ n (t : State), State.Only [.freeCtr, .aon] t (drawBytes n t).2 := by
    intro n
    induction n with
    | zero => exact fun t => .refl _ t
    | succ n ih => exact fun t => ((only_draw 8 (by decide)).mpr (.refl _ t)).trans (ih _)
  unfold State.saveCal
  split_ifs
  · exact (only_setRetFlag _ _ (by decide)).mpr ((only_set_aon _ (by decide)).mpr (hdraw _ s))
  · exact .refl _ _

theorem trainFails_of_get {n k : Nat} (h : s.boot.trainFails.get n = k + 1) : s.startTraining = s := by
  refine if_neg fun hc => ?_
  rw [hc.2] at h
  exact absurd h (by simp [SMap.get, SMap.getD, smapFind])

theorem coreUp_kept (hl : State.Only l s t) (hb : .boot ∉ l) : t.boot = s.boot := hl.boot_eq hb

end

end Sys2Proof.Machine
end

section
/-! PROOFS. Training, calibration and service boot (R136, R138, R139). -/
namespace Sys2Proof.Machine

section
variable {s t : State} {l : List Part}

/-! ### Service boot -/

/-- What the entry of service boot shows and leaves alone. -/
theorem serviceBoot_spec (s : State) : s.serviceBoot.fld Reg.bootStatus 31 28 = 6 ∧ s.serviceBoot.bit Reg.bootStatus 24 = true ∧
    s.serviceBoot.bit (Reg.flmCeCtrl 0 0) 31 = true ∧ s.regsBut s.serviceBoot [Reg.bootStatus, Reg.flmCeCtrl 0 0] ∧
    s.serviceBoot = { s with regs := s.serviceBoot.regs, boot.uartLines := s.boot.uartLines + 1 } := by
  obtain ⟨t, ht⟩ : ∃ t, t = ((s.setFld Reg.bootStatus 31 28 6).setBit Reg.bootStatus 24 true).setBit (Reg.flmCeCtrl 0 0) 31 true := ⟨_, rfl⟩
  have heq : s.serviceBoot = { t with boot.uartLines := t.boot.uartLines + 1 } := by rw [ht, State.serviceBoot]
  have hrd : ∀ a, s.serviceBoot.rd a = t.rd a := fun a => by rw [heq]; rfl
  have hregs : s.RegsOnly t := ht ▸ State.RegsOnly.refl.setFld.setBit.setBit
  have hne : Reg.bootStatus ≠ Reg.flmCeCtrl 0 0 := by decide
  refine ⟨?_, ?_, ?_, fun a ha => ?_, ?_⟩
  · rw [State.fld_of_rd (hrd _), ht, State.fld_of_rd (State.rd_setBit_other _ _ _ _ _ hne), State.setBit,
      State.fld_setFld_apart _ _ _ _ _ _ _ (by decide) (by decide) (by decide), State.fld_setFld_same _ _ _ _ _ (by decide) (by decide)]
    rfl
  · rw [State.bit_of_rd (hrd _), ht, State.bit_setBit_other _ _ _ _ _ _ (by decide) (.inl hne), State.bit_setBit_same _ _ _ _ (by decide)]
  · rw [State.bit_of_rd (hrd _), ht, State.bit_setBit_same _ _ _ _ (by decide)]
  · rw [hrd, ht]
    exact ((State.regsBut.refl.setFld (by simp)).setBit (by simp)).setBit (by simp) a ha
  · have hr : s.serviceBoot.regs = t.regs := by rw [heq]
    rw [hr, heq]
    unfold State.RegsOnly at hregs
    rw [hregs]

/-! ### Cages without supply, engines halted -/

theorem fuse_foldl_off (gs : List Nat) : ∀ s : State, ∀ g, g ∈ gs ∨ (s.cage g).fuse = .off →
    ((gs.foldl (fun t c => t.setCage c { t.cage c with fuse := .off, retries := 0 }) s).cage g).fuse = .off := by
  induction gs with
  | nil => exact fun s g h => h.resolve_left List.not_mem_nil
  | cons c gs ih =>
    intro s g hg
    refine ih _ g ?_
    rw [cage_setCage]
    split_ifs with h
    · exact .inr rfl
    · exact hg.imp_left fun hm => (List.mem_cons.mp hm).resolve_left h

/-- The first four engines halted. -/
def haltEngines (s : State) : State := (List.range 4).foldl (fun t k => (t.setCe k {}).setBit (Reg.flmCeCtrl 0 k) 31 false) s

theorem flmCeCtrl_inj {i j : Nat} (h : Reg.flmCeCtrl 0 i = Reg.flmCeCtrl 0 j) : i = j := by unfold Reg.flmCeCtrl at h; omega

theorem bit_haltEngines {k : Nat} (hk : k < 4) : (haltEngines s).bit (Reg.flmCeCtrl 0 k) 31 = false := by
  obtain ⟨t, -, -, hfin⟩ := rd_foldl_at (f := Reg.flmCeCtrl 0) (step := fun t k => (t.setCe k {}).setBit (Reg.flmCeCtrl 0 k) 31 false)
    (P := fun _ => True) (fun t k a ha => (State.rd_setBit_other _ _ _ _ _ ha).trans rfl) (fun _ _ => flmCeCtrl_inj) (fun _ _ _ => trivial) _
    List.nodup_range (List.mem_range.mpr hk) s trivial
  rw [haltEngines, State.bit_of_rd hfin, State.bit_setBit_same _ _ _ _ (by decide)]

/-! ### Training -/

/-- The parts that the start of training changes. -/
def trainParts : List Part := [.regs, .aon, .mem, .freeCtr, .block 96, .block 97, .block 98, .block 99]

theorem only_startTraining (s : State) : State.Only trainParts s s.startTraining := by
  unfold State.startTraining
  split_ifs
  · refine (only_set_mem _ (by decide)).mpr ((only_set_freeCtr _ (by decide)).mpr ?_)
    refine List.foldlRecOn (List.range 4) _ (motive := fun t => State.Only trainParts s t)
      ((only_set_aon _ (by decide)).mpr (.refl _ _)) fun t ht k hk => (only_setFld _ _ _ _ ?_).mpr ht
    have hk4 : k < 4 := List.mem_range.mp hk
    interval_cases k <;> decide
  · exact .refl _ _

theorem dramTraining_ok (hboot : s.booting = true) (himg : s.imageRuns = true) {n : Nat} (hn : n < 4) (hmode : s.runMode = 0)
    (hnew : n ∉ s.boot.trained) : ∃ t, exec (.dramTraining n true) s = .next t ∧ t.bit (Reg.dnStatus n) 28 = true ∧
      t.boot.trained = s.boot.trained ++ [n] := by
  obtain ⟨u, hu⟩ : ∃ u, u = s.startTraining := ⟨_, rfl⟩
  obtain ⟨v, hv⟩ : ∃ v : State, v = State.setBit { u with boot.trained := u.boot.trained ++ [n] } (Reg.dnStatus n) 28 true := ⟨_, rfl⟩
  have huboot : u.boot = s.boot := hu ▸ (only_startTraining s).boot_eq (by decide)
  have hvboot : v.boot.trained = s.boot.trained ++ [n] := by rw [hv, State.setBit_boot, huboot]
  have hvbit : v.bit (Reg.dnStatus n) 28 = true := by rw [hv, State.bit_setBit_same _ _ _ _ (by decide)]
  have hpower : State.Only (.aon :: .supply :: linkParts) v ((List.range 20).foldl State.powerCage v.saveCal) :=
    (only_foldl fun w c => (only_powerCage c (by decide)).mpr (.refl _ w)).mpr ((only_saveCal v).mono (by decide))
  refine ⟨(List.range 20).foldl State.powerCage v.saveCal, ?_, ?_, ?_⟩
  · have hg : (s.booting && s.imageRuns && s.runMode == 0 && !s.boot.trained.contains n) = true := by
      simp [hboot, himg, hmode, hnew]
    rw [exec_dramTraining, execDramTraining, hg, occurs, if_pos rfl, State.train, if_pos rfl, hv, hu, whenWf, if_pos (by simpa using hn)]
  · rw [hpower.bit, hvbit]
    · unfold Reg.dnStatus; omega
    · interval_cases n <;> decide
  · rw [hpower.boot_eq (by decide), hvboot]

theorem dramTraining_failed (hboot : s.booting = true) (himg : s.imageRuns = true) {n : Nat} (hn : n < 4) (hmode : s.runMode = 0)
    (hnew : n ∉ s.boot.trained) (h2 : s.boot.trainFails.get n = 2) :
    ∃ t, exec (.dramTraining n false) s = .next t ∧ t.boot.trainFailed = true ∧
      t.fld Reg.bootStatus 31 28 = 6 ∧ t.bit Reg.bootStatus 24 = true ∧ (∀ g < 20, (t.cage g).fuse = .off) ∧
      ∀ k < 4, t.bit (Reg.flmCeCtrl 0 k) 31 = decide (k = 0) := by
  obtain ⟨u, hu⟩ : ∃ u : State, u = { s with boot.trainFails := s.boot.trainFails.set n 3 } := ⟨_, rfl⟩
  obtain ⟨v, hv⟩ : ∃ v : State, v = u.writeRecord { kind := 0, cause := 0xA, summary := ({ cause := 0xA, base := 0x600000 + 0x10000 * n } : FaultInfo).bytes u.ns64 0 } u.runningSlot u.runningSeq := ⟨_, rfl⟩
  obtain ⟨w, hw⟩ : ∃ w : State, w = (List.range 20).foldl (fun t c => t.setCage c { t.cage c with fuse := .off, retries := 0 }) (haltEngines v) := ⟨_, rfl⟩
  obtain ⟨x, hx⟩ : ∃ x : State, x = { w with boot.trainFailed := true } := ⟨_, rfl⟩
  obtain ⟨h1, h3, h4, h5, h6⟩ := serviceBoot_spec x
  have hstart : s.startTraining = s := trainFails_of_get h2
  have hexec : exec (.dramTraining n false) s = .next x.serviceBoot := by
    have hg : (s.booting && s.imageRuns && s.runMode == 0 && !s.boot.trained.contains n) = true := by
      simp [hboot, himg, hmode, hnew]
    have htrain : s.train n false = u.trainingFailed n := by
      simp only [State.train, hstart, h2, Bool.false_eq_true, if_false]
      rw [if_pos (by decide), hu]
    rw [exec_dramTraining, execDramTraining, hg, occurs, if_pos rfl, htrain, State.trainingFailed, whenWf, if_pos (by simpa using hn), hx, hw, hv, haltEngines]
  have hxw : ∀ a, x.rd a = w.rd a := fun a => by rw [hx]; rfl
  have hcages : State.Only (.supply :: linkParts) (haltEngines v) w :=
    hw ▸ (only_foldl fun w c => (only_setCage c _ (by decide)).mpr (.refl _ w)).mpr (.refl _ _)
  have hsup : x.serviceBoot.supply = w.supply := by rw [h6]; dsimp only; rw [hx]
  have hcage : ∀ g, x.serviceBoot.cage g = w.cage g := fun g => congrArg (fun y : Supply => y.cages.get g) hsup
  refine ⟨x.serviceBoot, hexec, ?_, h1, h3, fun g hg => ?_, fun k hk => ?_⟩
  · rw [h6, hx]
  · rw [hcage, hw]; exact fuse_foldl_off _ _ _ (.inl (List.mem_range.mpr hg))
  · by_cases hk0 : k = 0
    · rw [hk0]; exact h4
    · have hne : Reg.flmCeCtrl 0 k ∉ [Reg.bootStatus, Reg.flmCeCtrl 0 0] := by
        simp only [List.mem_cons, List.not_mem_nil, or_false, not_or]
        unfold Reg.bootStatus Reg.flmCeCtrl; omega
      rw [State.bit_of_rd ((h5 _ hne).trans (hxw _)), hcages.bit, bit_haltEngines hk, decide_eq_false hk0]
      · unfold Reg.flmCeCtrl; omega
      · interval_cases k <;> decide

/-! ### Calibration -/

theorem serdesCalibration_ok (hboot : s.booting = true) (himg : s.imageRuns = true) {g : Nat} (hg : g < 20) (hnew : g ∉ s.boot.calibrated)
    (hf : s.boot.calFails.get g < 3) : ∃ t, exec (.serdesCalibration g true) s = .next t ∧
      t.boot.calibrated = s.boot.calibrated ++ [g] ∧ t.mem = s.mem := by
  obtain ⟨u, hu⟩ : ∃ u : State, u = { s with boot.calibrated := s.boot.calibrated ++ [g] } := ⟨_, rfl⟩
  have h : State.Only (.aon :: linkParts) u (u.groupRefresh g).saveCal :=
    ((only_groupRefresh_self u g).mono (by decide)).trans ((only_saveCal _).mono (by decide))
  refine ⟨(u.groupRefresh g).saveCal, ?_, ?_, ?_⟩
  · have hguard : (s.booting && s.imageRuns && !s.calEnded g) = true := by simp [hboot, himg, State.calEnded, hnew, hf]
    rw [exec_serdesCalibration, execSerdesCalibration, hguard, occurs, if_pos rfl, State.calibrate, if_pos rfl, hu, whenWf, if_pos (by simpa using hg)]
  · rw [h.boot_eq (by decide), hu]
  · rw [h.mem_eq (by decide), hu]

theorem serdesCalibration_failed (hboot : s.booting = true) (himg : s.imageRuns = true) {g : Nat} (hg : g < 20) (hnew : g ∉ s.boot.calibrated)
    (h2 : s.boot.calFails.get g = 2) : ∃ t, exec (.serdesCalibration g false) s = .next t ∧ t.bit (Reg.pgEvents g) 25 = true ∧
      t.boot.calibrated = s.boot.calibrated ∧ t.mem = s.mem := by
  obtain ⟨u, hu⟩ : ∃ u : State, u = { s with boot.calFails := s.boot.calFails.set g 3 } := ⟨_, rfl⟩
  have ha : Reg.pgEvents g < 0x700000 := by unfold Reg.pgEvents; omega
  have hcal := only_saveCal (u.setEvent (Reg.pgEvents g) 25 (84 + g))
  refine ⟨(u.setEvent (Reg.pgEvents g) 25 (84 + g)).saveCal, ?_, ?_, ?_, ?_⟩
  · have hguard : (s.booting && s.imageRuns && !s.calEnded g) = true := by simp [hboot, himg, State.calEnded, hnew, h2]
    have hcalib : s.calibrate g false = (u.setEvent (Reg.pgEvents g) 25 (84 + g)).saveCal := by
      simp only [State.calibrate, h2, Bool.false_eq_true, if_false]
      rw [if_pos (by decide), hu]
    rw [exec_serdesCalibration, execSerdesCalibration, hguard, occurs, if_pos rfl, hcalib, whenWf, if_pos (by simpa using hg)]
  · exact (hcal.bit ha (by simp) 25).trans (State.bit_setEvent_same _ (by decide) ha)
  · rw [hcal.boot_eq (by decide), State.setEvent_boot, hu]
  · rw [hcal.mem_eq (by decide), State.setEvent_mem, hu]

end

end Sys2Proof.Machine
end

section
/-! PROOFS. Self-refresh exit, cleared regions, re-validation and BLOBs, and the statement on the boot's steps. -/
namespace Sys2Proof.Machine

section
variable {s t : State} {l : List Part}

/-! ### The step to PHASE 3 -/

theorem phaseCheck_spec (s : State) : s.RegsOnly s.phaseCheck ∧ s.regsBut s.phaseCheck [Reg.bootStatus] := by
  unfold State.phaseCheck
  split_ifs
  · exact ⟨State.RegsOnly.refl.setFld, State.regsBut.refl.setFld (by simp)⟩
  · exact ⟨State.RegsOnly.refl, State.regsBut.refl⟩

/-! ### Self-refresh exit -/

theorem dnStatus_inj {i j : Nat} (h : Reg.dnStatus i = Reg.dnStatus j) : i = j := by unfold Reg.dnStatus at h; omega

/-- The four stacks shown as up. -/
def stacksUp (s : State) : State := (List.range 4).foldl (fun t n => t.setFld (Reg.dnStatus n) 30 28 1) s

theorem stacksUp_spec (s : State) : (∀ n < 4, (stacksUp s).fld (Reg.dnStatus n) 30 28 = 1) ∧ s.RegsOnly (stacksUp s) ∧
    s.regsBut (stacksUp s) [Reg.dnStatus 0, Reg.dnStatus 1, Reg.dnStatus 2, Reg.dnStatus 3] := by
  refine ⟨fun n hn => ?_, List.foldlRecOn _ _ (motive := fun t => s.RegsOnly t) State.RegsOnly.refl fun _ hu _ _ => hu.setFld, fun a ha => ?_⟩
  · exact (fld_foldl_setFld (f := Reg.dnStatus) (v := fun _ => 1) (fun _ _ => dnStatus_inj) (by decide) (by decide) hn s).1
  · refine rd_foldl_setFld (f := Reg.dnStatus) (v := fun _ => 1) (fun k hk hak => ha ?_) s
    rw [hak]
    interval_cases k <;> simp

theorem selfRefreshExit_spec (hboot : s.booting = true) (himg : s.imageRuns = true) (hsec : s.boot.sectionsDone = true)
    (hmode : s.runMode ≠ 0) (hsr : s.boot.srExited = false) : ∃ t, exec .selfRefreshExit s = .next t ∧
      (∀ n < 4, t.fld (Reg.dnStatus n) 30 28 = 1) ∧ t.aon = { s.aon with dramHeld := false } ∧
      t.boot = { s.boot with srExited := true } ∧ (s.runMode = 2 → t.bit Reg.bootReval 30 = true) ∧
      s.regsBut t [Reg.dnStatus 0, Reg.dnStatus 1, Reg.dnStatus 2, Reg.dnStatus 3, Reg.bootReval] ∧ t.mem = s.mem := by
  obtain ⟨h1, h2, h3⟩ := stacksUp_spec s
  obtain ⟨v, hv⟩ : ∃ v, v = stacksUp s := ⟨_, rfl⟩
  rw [← hv] at h1 h2 h3
  obtain ⟨u, hu⟩ : ∃ u : State, u = { v with aon.dramHeld := false, boot.srExited := true } := ⟨_, rfl⟩
  have hurd : ∀ a, u.rd a = v.rd a := fun a => by rw [hu]; rfl
  have haon : u.aon = { s.aon with dramHeld := false } := by rw [hu, h2]
  have hub : u.boot = { s.boot with srExited := true } := by rw [hu, h2]
  have hum : u.mem = s.mem := by rw [hu, h2]
  have hfld : ∀ n < 4, u.fld (Reg.dnStatus n) 30 28 = 1 := fun n hn => (State.fld_of_rd (hurd _) _ _).trans (h1 n hn)
  have hbut : s.regsBut u [Reg.dnStatus 0, Reg.dnStatus 1, Reg.dnStatus 2, Reg.dnStatus 3, Reg.bootReval] := fun a ha =>
    (hurd a).trans (h3 a fun h => ha (by simp only [List.mem_cons] at h ⊢; tauto))
  have hmode' : u.runMode = s.runMode := State.fld_of_rd (hbut _ (by decide)) _ _
  have hexec : exec .selfRefreshExit s = .next (if s.runMode = 2 then u.setBit Reg.bootReval 30 true else u) := by
    have hg : (s.booting && s.imageRuns && s.boot.sectionsDone && s.runMode != 0 && !s.boot.srExited) = true := by
      simp [hboot, himg, hsec, hmode, hsr]
    rw [exec_selfRefreshExit, execSelfRefreshExit, hg, occurs, if_pos rfl, State.exitSelfRefresh, hu, hv, stacksUp]
  refine ⟨_, hexec, ?_⟩
  split_ifs with h2m
  · refine ⟨fun n hn => ?_, ?_, ?_, fun _ => State.bit_setBit_same _ _ _ _ (by decide), hbut.setBit (by simp), ?_⟩
    · rw [State.fld_of_rd (State.rd_setBit_other _ _ _ _ _ _), hfld n hn]
      unfold Reg.dnStatus Reg.bootReval; omega
    · rw [State.setBit_aon, haon]
    · rw [State.setBit_boot, hub]
    · rw [State.setBit_mem, hum]
  · exact ⟨hfld, haon, hub, fun h => absurd h h2m, hbut, hum⟩

/-! ### The regions cleared -/

/-- What is cleared reads 0, all else as before (R140, R772). -/
theorem get_clearDram (hlo : 0x2000000000 ≤ s.flow.base) (hhi : s.flow.base + s.regionSize ≤ 0x4000000000) (a : Nat) :
    s.clearDram.get a = if inDram a = true ∧ ¬ (s.runMode = 2 ∧ s.flow.base ≤ a ∧ a < s.flow.base + s.regionSize) then 0 else s.mem.get a := by
  unfold State.clearDram
  simp only [inDram, Bool.and_eq_true, decide_eq_true_eq]
  by_cases hm : s.runMode = 2
  · rw [if_pos hm, Mem.get_clearRange, Mem.get_clearRange]
    split_ifs <;> first | rfl | omega
  · rw [if_neg hm, Mem.get_clearRange]
    split_ifs <;> first | rfl | omega

theorem regionsCleared_spec (hboot : s.booting = true) (himg : s.imageRuns = true) (hsec : s.boot.sectionsDone = true)
    (hclr : s.boot.regionsCleared = false) (hmode : s.runMode = 1 ∨ s.runMode = 2) (hsr : s.boot.srExited = true)
    (hlo : 0x2000000000 ≤ s.flow.base) (hhi : s.flow.base + s.regionSize ≤ 0x4000000000) :
    ∃ t, exec .regionsCleared s = .next t ∧ t.boot = { s.boot with regionsCleared := true } ∧
      (∀ a, t.mem.get a = if inDram a = true ∧ ¬ (s.runMode = 2 ∧ s.flow.base ≤ a ∧ a < s.flow.base + s.regionSize) then 0
        else s.mem.get a) ∧ s.regsBut t [Reg.bootStatus] ∧ (s.runMode = 1 → t.flow.valid = {}) := by
  obtain ⟨u, hu⟩ : ∃ u : State, u = if s.runMode = 2 then { s with mem := s.clearDram, boot.regionsCleared := true }
    else { s with mem := s.clearDram, boot.regionsCleared := true, flow.valid := {} } := ⟨_, rfl⟩
  obtain ⟨hregs, hbut⟩ := phaseCheck_spec u
  have hexec : exec .regionsCleared s = .next u.phaseCheck := by
    have hg : (s.booting && s.imageRuns && s.boot.sectionsDone && !s.boot.regionsCleared &&
        (if s.runMode = 0 then (List.range 4).all fun n => s.boot.trained.contains n else s.boot.srExited)) = true := by
      rw [if_neg (by omega)]; simp [hboot, himg, hsec, hclr, hsr]
    rw [exec_regionsCleared, execRegionsCleared, hg, occurs, if_pos rfl, State.clearRegions, hu]
  have hub : u.boot = { s.boot with regionsCleared := true } := by rw [hu]; split_ifs <;> rfl
  have hum : u.mem = s.clearDram := by rw [hu]; split_ifs <;> rfl
  have hur : ∀ a, u.rd a = s.rd a := fun a => by rw [hu]; split_ifs <;> rfl
  refine ⟨_, hexec, ?_, fun a => ?_, fun a ha => ?_, fun h1 => ?_⟩
  · rw [hregs, hub]
  · rw [hregs]; dsimp only; rw [hum, get_clearDram hlo hhi]
  · rw [hbut a ha, hur]
  · rw [hregs]; dsimp only; rw [hu, if_neg (by omega)]

/-! ### Re-validation -/

/-- A record written as zeros. -/
theorem zeroRecord_spec (s : State) (i c : Nat) {a : Nat} (ha : a = s.flow.base + i * s.recSize) :
    (∀ x, a ≤ x → x < a + s.recSize → (s.zeroRecord i c).mem.get x = 0) ∧
      (∀ x, x < a ∨ a + s.recSize ≤ x → (s.zeroRecord i c).mem.get x = s.mem.get x) ∧
      (s.zeroRecord i c).fld c 31 0 = min (s.fld c 31 0 + 1) (2 ^ 32 - 1) ∧ s.regsBut (s.zeroRecord i c) [c] ∧
      (s.zeroRecord i c).flow = s.flow ∧ (s.zeroRecord i c).boot = s.boot := by
  obtain ⟨u, hu⟩ : ∃ u : State, u = { s with mem := s.mem.clearRange a s.recSize } := ⟨_, rfl⟩
  have heq : s.zeroRecord i c = u.setFld c 31 0 (satNat (s.fld c 31 0 + 1) (2 ^ 32 - 1)) := by rw [hu, ha]; rfl
  have hum : (s.zeroRecord i c).mem = s.mem.clearRange a s.recSize := by rw [heq, State.setFld_mem, hu]
  refine ⟨fun x h1 h2 => ?_, fun x hx => ?_, ?_, fun b hb => ?_, ?_, ?_⟩
  · rw [hum, Mem.get_clearRange, if_pos ⟨h1, h2⟩]
  · rw [hum, Mem.get_clearRange, if_neg (by omega)]
  · rw [heq, State.fld_setFld_same _ _ _ _ _ (by decide) (by decide), satNat]
    split_ifs <;> omega
  · rw [heq, State.rd_setFld_other _ _ _ _ _ _ (by simpa using hb), hu]; rfl
  · rw [heq, State.setFld_flow, hu]
  · rw [heq, State.setFld_boot, hu]

theorem revalidateRecord_exec (hboot : s.booting = true) (hbit : s.bit Reg.bootReval 30 = true) (hnext : s.boot.revalNext < s.recordCount)
    (c : RecordReadout) : exec (.revalidateRecord c) s =
      .next { s.revalidate s.boot.revalNext c with boot.revalNext := s.boot.revalNext + 1 } := by
  simp [exec_revalidateRecord, execRevalidateRecord, occurs, hboot, hbit, hnext]

/-- A record zeroed by re-validation, and the next one named. -/
theorem zeroRecord_next (s : State) (i c n : Nat) {a : Nat} (ha : a = s.flow.base + i * s.recSize) {t : State}
    (ht : t = { s.zeroRecord i c with boot.revalNext := n }) :
    t.boot = { s.boot with revalNext := n } ∧ (∀ x, a ≤ x → x < a + s.recSize → t.mem.get x = 0) ∧
      (∀ x, x < a ∨ a + s.recSize ≤ x → t.mem.get x = s.mem.get x) ∧
      t.fld c 31 0 = min (s.fld c 31 0 + 1) (2 ^ 32 - 1) ∧ s.regsBut t [c] ∧ t.flow = s.flow := by
  obtain ⟨h1, h2, h3, h4, h5, h6⟩ := zeroRecord_spec s i c ha
  have hmem : t.mem = (s.zeroRecord i c).mem := by rw [ht]
  have hrd : ∀ b, t.rd b = (s.zeroRecord i c).rd b := fun b => by rw [ht]; rfl
  refine ⟨?_, fun x hx1 hx2 => ?_, fun x hx => ?_, ?_, fun b hb => (hrd b).trans (h4 b hb), ?_⟩
  · rw [ht]; dsimp only; rw [h6]
  · rw [hmem, h1 x hx1 hx2]
  · rw [hmem, h2 x hx]
  · rw [State.fld_of_rd (hrd _), h3]
  · rw [ht]; dsimp only; rw [h5]

/-! ### The recovery window, BLOBs -/

theorem recoveryWindowClose_spec (hboot : s.booting = true) {us : Nat} (hus : us < 2 ^ 24) (hbit : s.bit Reg.bootReval 30 = true)
    (hnext : s.boot.revalNext = s.recordCount) (hch : s.dmc.chans = {}) : ∃ t, exec (.recoveryWindowClose us) s = .next t ∧
      t.rd Reg.bootReval = BitVec.ofNat 32 (2 ^ 31 + us) ∧ s.regsBut t [Reg.bootReval, Reg.bootStatus] ∧ t.mem = s.mem := by
  obtain ⟨u, hu⟩ : ∃ u, u = s.wr Reg.bootReval (BitVec.ofNat 32 (2 ^ 31 + us)) := ⟨_, rfl⟩
  obtain ⟨hregs, hbut⟩ := phaseCheck_spec u
  have hchans : u.dmc.chans = {} := by rw [hu, State.wr_dmc, hch]
  have hdrain : u.drainAll = u := by rw [State.drainAll, hchans]; rfl
  have hexec : exec (.recoveryWindowClose us) s = .next u.phaseCheck := by
    have hg : (s.booting && s.bit Reg.bootReval 30 && s.boot.revalNext == s.recordCount) = true := by simp [hboot, hbit, hnext]
    rw [exec_recoveryWindowClose, execRecoveryWindowClose, hg, occurs, if_pos rfl, State.closeWindow, satNat, if_pos (by omega), ← hu, hdrain]
  refine ⟨_, hexec, ?_, fun a ha => ?_, ?_⟩
  · rw [hbut _ (by decide), hu, State.rd_wr, if_pos rfl]
  · simp only [List.mem_cons, List.not_mem_nil, or_false, not_or] at ha
    rw [hbut a (by simpa using ha.2), hu, State.rd_wr, if_neg ha.1]
  · rw [hregs]; dsimp only; rw [hu, State.wr_mem]

theorem copyBlobs_regs (xs : List Section) (p : Section → List Byte) : ∀ s : State,
    xs.foldl (fun t x => t.copyBlob (p x)) s = { s with mem := (xs.foldl (fun t x => t.copyBlob (p x)) s).mem } := by
  induction xs with
  | nil => exact fun _ => rfl
  | cons x xs ih => exact fun s => (ih (s.copyBlob (p x))).trans rfl

theorem blobCopyDone_spec (hboot : s.booting = true) (himg : s.imageRuns = true) (hclr : s.boot.regionsCleared = true)
    (hblob : s.boot.blobsDone = false) : ∃ t, exec .blobCopyDone s = .next t ∧ t.boot = { s.boot with blobsDone := true } ∧
      s.regsBut t [Reg.bootStatus] ∧ ∀ x p, s.sectionsOf s.runningSlot 0xD = [x] → s.payload s.runningSlot x = p →
        (∀ i, i + 8 < p.length → t.mem.get (fieldAt p 0 8 + i) = p.getD (8 + i) 0) ∧
        ∀ a, a < fieldAt p 0 8 ∨ fieldAt p 0 8 + (p.length - 8) ≤ a → t.mem.get a = s.mem.get a := by
  obtain ⟨v, hv⟩ : ∃ v, v = (s.sectionsOf s.runningSlot 0xD).foldl (fun t x => t.copyBlob (s.payload s.runningSlot x)) s := ⟨_, rfl⟩
  obtain ⟨u, hu⟩ : ∃ u : State, u = { v with boot.blobsDone := true } := ⟨_, rfl⟩
  have hvs : v = { s with mem := v.mem } := hv ▸ copyBlobs_regs _ _ _
  obtain ⟨hregs, hbut⟩ := phaseCheck_spec u
  have hub : u.boot = { s.boot with blobsDone := true } := by rw [hu, hvs]
  have hur : ∀ a, u.rd a = s.rd a := fun a => by rw [hu, hvs]; rfl
  have hum : u.mem = v.mem := by rw [hu]
  have hexec : exec .blobCopyDone s = .next u.phaseCheck := by
    have hg : (s.booting && s.imageRuns && s.boot.regionsCleared && !s.boot.blobsDone) = true := by simp [hboot, himg, hclr, hblob]
    rw [exec_blobCopyDone, execBlobCopyDone, hg, occurs, if_pos rfl, State.copyBlobs, hu, hv]
  refine ⟨_, hexec, ?_, fun a ha => ?_, fun x p hx hp => ?_⟩
  · rw [hregs]; dsimp only; rw [hub]
  · rw [hbut a ha, hur]
  · have hmem : u.phaseCheck.mem = s.mem.putBytes (fieldAt p 0 8) (p.drop 8) := by
      rw [hregs]; dsimp only; rw [hum, hv, hx, ← hp]; rfl
    rw [hmem]
    refine ⟨fun i hi => ?_, fun a ha => ?_⟩
    · rw [Mem.get_putBytes _ _ _ _ (by rw [List.length_drop]; omega), List.getElem_drop, List.getD_eq_getElem _ _ (by omega)]
    · exact Mem.get_putBytes_ne _ _ _ _ (by rw [List.length_drop]; omega)

end

/-- Settles O29: each step of the boot on its registers, the retention RAM and memory. -/
theorem bootSteps : Obligations.BootSteps := by
  unfold Obligations.BootSteps
  intro s hcore hstop himg
  have hboot : s.booting = true := booting_of_boot hcore hstop
  refine ⟨fun hsec hcap hfl hnote => faultRecordWrite_spec hboot himg hsec hcap hfl hnote, fun n hn hmode hnew => ⟨?_, ?_⟩,
    fun g hg hnew hf => ⟨?_, ?_⟩, fun hsec hmode hsr => selfRefreshExit_spec hboot himg hsec hmode hsr, ?_, ?_, ?_, ?_⟩
  · exact dramTraining_ok hboot himg hn hmode hnew
  · exact dramTraining_failed hboot himg hn hmode hnew
  · exact serdesCalibration_ok hboot himg hg hnew hf
  · exact serdesCalibration_failed hboot himg hg hnew
  · intro hsec hclr hmode hsr hlo hhi cleared
    obtain ⟨t, hexec, hb, hmem, hregs, hflow⟩ := regionsCleared_spec hboot himg hsec hclr hmode hsr hlo hhi
    exact ⟨t, hexec, hb, fun a ha => (hmem a).trans (if_pos ha), fun a ha => (hmem a).trans (if_neg ha), hregs, hflow⟩
  · intro c hnext hbit a
    have hexec := revalidateRecord_exec hboot hbit hnext c
    refine ⟨fun hc => ?_, fun hc hval hkey => ?_, fun hc hval hkey => ?_⟩ <;> subst hc
    · obtain ⟨h1, h2, h3, h4, h5, h6⟩ := zeroRecord_next s s.boot.revalNext Reg.bootRevalInval (s.boot.revalNext + 1) (a := a) rfl rfl
      exact ⟨_, hexec, h1, h2, h3, h4, h5, h6⟩
    · have hrev : s.revalidate s.boot.revalNext .clean = s.zeroRecord s.boot.revalNext Reg.bootRevalIncons := by
        rw [State.revalidate, State.goodRecord]
        simp only [hval, Bool.not_true, Bool.false_eq_true, if_false, a] at hkey ⊢
        rw [if_pos hkey]
      rw [hrev] at hexec
      obtain ⟨-, h2, -, h4, h5, h6⟩ := zeroRecord_next s s.boot.revalNext Reg.bootRevalIncons (s.boot.revalNext + 1) (a := a) rfl rfl
      exact ⟨_, hexec, h2, h4, h5, h6⟩
    · have hrev : s.revalidate s.boot.revalNext .clean =
          { s with flow.valid := s.flow.valid.mod (s.boot.revalNext % 16) fun n => n + 1 } := by
        rw [State.revalidate, State.goodRecord]
        simp only [hval, Bool.not_true, Bool.false_eq_true, if_false, a] at hkey ⊢
        rw [if_neg (Nat.not_lt.mpr hkey)]
      rw [hexec, hrev]; rfl
  · exact fun us hus hbit hnext hch => recoveryWindowClose_spec hboot hus hbit hnext hch
  · exact fun hclr hblob => blobCopyDone_spec hboot himg hclr hblob

end Sys2Proof.Machine
end

section
/-! PROOFS. What they leave alone: the end of an orderly stop's first 10 µs. -/
namespace Sys2Proof.Machine

section
variable {s u : State} {ps : List Part}

theorem only_setInst (i : Nat) (x : FlowCtx) (h : [.flow] ⊆ ps) :
    State.Only ps s (u.setInst i x) ↔ State.Only ps s u := State.Only.iff_of h (by
  simp (disch := decide) only [State.setInst, only_set_flow, only_refl])

theorem only_fleCount (k : Nat) (h : [.regs, .ctrs] ⊆ ps) :
    State.Only ps s (u.fleCount k) ↔ State.Only ps s u := State.Only.iff_of h (by
  simp (disch := decide) only [State.fleCount, only_bump, only_count, only_refl, State.Only.ite, implies_true, and_self])

theorem only_retire (i : Nat) (h : [.flow] ⊆ ps) :
    State.Only ps s (u.retire i) ↔ State.Only ps s u := State.Only.iff_of h (by
  simp (disch := decide) only [State.retire, only_setInst, only_refl, State.Only.ite, implies_true, and_self])

theorem only_resolve (i : Nat) (ok : Bool) (h : [.regs, .ctrs, .flow] ⊆ ps) :
    State.Only ps s (u.resolve i ok) ↔ State.Only ps s u := State.Only.iff_of h (by
  simp (disch := decide) only [State.resolve, only_setInst, only_fleCount, only_retire, only_refl, State.Only.ite, implies_true, and_self])

theorem only_setCommitted (key : Nat) (img : List Byte) (h : [.flow] ⊆ ps) :
    State.Only ps s (u.setCommitted key img) ↔ State.Only ps s u := only_set_flow _ h

theorem only_setValid (slice n : Nat) (h : [.flow] ⊆ ps) :
    State.Only ps s (u.setValid slice n) ↔ State.Only ps s u := State.Only.iff_of h (by
  simp (disch := decide) only [State.setValid, only_set_flow, only_refl])

theorem only_stBytes (a : Nat) (bs : List Byte) (h : [.mem] ⊆ ps) :
    State.Only ps s (u.stBytes a bs) ↔ State.Only ps s u := State.Only.iff_of h (by
  simp (disch := decide) only [State.stBytes, only_set_mem, only_refl])

theorem only_writeBack (key : Nat) (h : [.ctrs, .mem, .flow] ⊆ ps) :
    State.Only ps s (u.writeBack key) ↔ State.Only ps s u := State.Only.iff_of h (by
  unfold State.writeBack
  extract_lets l atoms v f w
  have hv : State.Only [.ctrs, .mem, .flow] u v := State.Only.foldl (fun t n => (only_stBytes _ _ (by decide)).mpr (.refl _ _)) _ (.refl _ _)
  have hw : State.Only [.ctrs, .mem, .flow] u w := (only_set_flow _ (by decide)).mpr hv
  split_ifs
  · exact hw
  · exact (only_bump _ _ (by decide)).mpr hw)

/-- Room for a line made: another one written back and given up. -/
theorem only_makeRoom {key : Nat} {t : State} (h : u.makeRoom key = some t) : State.Only [.ctrs, .mem, .flow] u t := by
  unfold State.makeRoom at h
  dsimp only at h
  split_ifs at h
  · exact Option.some.inj h ▸ .refl _ _
  · exact Option.some.inj h ▸ .refl _ _
  · split at h
    · cases h
    · exact Option.some.inj h ▸ (only_set_flow _ (by decide)).mpr ((only_writeBack _ (by decide)).mpr (.refl _ _))

theorem only_fillLine (key mask : Nat) (h : [.flow] ⊆ ps) :
    State.Only ps s (u.fillLine key mask) ↔ State.Only ps s u := only_set_flow _ h

theorem only_fetchAtoms {key mask : Nat} {t : State} (h : u.fetchAtoms key mask = some t) : State.Only [.regs, .ctrs, .mem, .flow] u t := by
  unfold State.fetchAtoms at h
  split at h
  · cases h
  · next v hv =>
    have hroom : State.Only [.regs, .ctrs, .mem, .flow] u v := (only_makeRoom hv).mono (by decide)
    rw [← Option.some.inj h]
    split_ifs
    · exact (only_bump _ _ (by decide)).mpr ((only_fillLine _ _ (by decide)).mpr hroom)
    · exact (only_count _ _ _ (by decide)).mpr ((only_bump _ _ (by decide)).mpr ((only_fillLine _ _ (by decide)).mpr hroom))

theorem only_setHop (home : Nat) (hop : Option Nat) (h : [.regs, .ctrs, .mem, .flow] ⊆ ps) :
    State.Only ps s (u.setHop home hop) ↔ State.Only ps s u := State.Only.iff_of h (by
  unfold State.setHop
  dsimp only
  split_ifs
  · exact .refl _ _
  · split
    · next t ht => exact (only_setCommitted _ _ (by decide)).mpr (only_fetchAtoms ht)
    · exact (only_bump _ _ (by decide)).mpr ((only_stBytes _ _ (by decide)).mpr (.refl _ _)))

theorem only_clearHopOf (key : Nat) (img : List Byte) (h : [.regs, .ctrs, .mem, .flow] ⊆ ps) :
    State.Only ps s (u.clearHopOf key img) ↔ State.Only ps s u := State.Only.iff_of h (by
  simp (disch := decide) only [State.clearHopOf, only_setHop, only_refl, State.Only.ite, implies_true, and_self])

theorem only_fsEvent (slice bit : Nat) (h : [.regs, .ctrs, .block 258] ⊆ ps) :
    State.Only ps s (u.fsEvent slice bit) ↔ State.Only ps s u := by
  have hblock : blockOf (Reg.fleFsEvents slice) = 258 := by rw [blockOf, Reg.fleFsEvents, if_pos (by omega)]
  refine only_setEvent _ _ _ (fun p hp => h ?_) fun p hp => h ?_
  · rw [regParts, hblock] at hp
    simp at hp ⊢; tauto
  · simp at hp ⊢; tauto

theorem only_countEviction (sl : Nat) (h : [.regs, .ctrs, .flow, .block 258] ⊆ ps) :
    State.Only ps s (u.countEviction sl) ↔ State.Only ps s u := State.Only.iff_of h (by
  simp (disch := decide) only [State.countEviction, only_bump, only_fsEvent, only_set_flow, only_refl, State.Only.ite, implies_true, and_self])

theorem only_ringWrite (r : Ring) (entry : List Byte) (h : .mem :: regParts r.prod ⊆ ps) :
    State.Only ps s (u.ringWrite r entry) ↔ State.Only ps s u :=
  (only_wr _ _ fun _ hp => h (List.mem_cons_of_mem _ hp)).trans (only_stBytes _ _ fun _ hp => h (List.mem_singleton.mp hp ▸ List.mem_cons_self))

theorem only_exportRequest (key : Nat) (img : List Byte) (reason : Nat) (h : [.regs, .ctrs, .mem, .block 64] ⊆ ps) :
    State.Only ps s (u.exportRequest key img reason) ↔ State.Only ps s u := State.Only.iff_of h (by
  simp (disch := decide) only [State.exportRequest, only_ringWrite, only_fleCount, only_setEvent, only_refl, State.Only.ite, implies_true, and_self])

theorem only_evicted (key home cause : Nat) (old : List Byte) (h : [.regs, .ctrs, .mem, .flow, .block 64, .block 258] ⊆ ps) :
    State.Only ps s (u.evicted key home cause old) ↔ State.Only ps s u := State.Only.iff_of h (by
  simp (disch := decide) only [State.evicted, only_clearHopOf, only_countEviction, only_exportRequest, only_set_flow, only_refl, State.Only.ite, implies_true, and_self])

theorem only_commitCreate (key : Nat) (e : LogEntry) (img : List Byte) (h : [.regs, .ctrs, .mem, .flow, .block 64, .block 258] ⊆ ps) :
    State.Only ps s (u.commitCreate key e img) ↔ State.Only ps s u := State.Only.iff_of h (by
  unfold State.commitCreate
  extract_lets old c sl s1 s2 s3 s4
  have h4 : State.Only [.regs, .ctrs, .mem, .flow, .block 64, .block 258] u s4 := by
    simp (disch := decide) only [s4, s3, s2, s1, only_setCommitted, only_setValid, only_setHop, only_bump, only_refl, State.Only.ite,
      implies_true, and_self]
  split
  · split_ifs
    · exact (only_evicted _ _ _ _ (by decide)).mpr h4
    · exact h4
  · exact h4)

theorem only_invalidate (key : Nat) (h : [.regs, .ctrs, .mem, .flow] ⊆ ps) :
    State.Only ps s (u.invalidate key) ↔ State.Only ps s u := State.Only.iff_of h (by
  simp (disch := decide) only [State.invalidate, only_setCommitted, only_setValid, only_clearHopOf, only_refl])

theorem only_applyCommitted (key : Nat) (e : LogEntry) (h : [.regs, .ctrs, .mem, .flow, .block 64, .block 258] ⊆ ps) :
    State.Only ps s (u.applyCommitted key e).1 ↔ State.Only ps s u := State.Only.iff_of h (by
  simp (disch := decide) only [State.applyCommitted, apply_ite Prod.fst, only_commitCreate, only_invalidate, only_exportRequest,
    only_setCommitted, only_refl, State.Only.ite, implies_true, and_self])

theorem only_opErr (kind slice cl fn pos : Nat) (h : [.regs, .ctrs, .block 64, .block 258] ⊆ ps) :
    State.Only ps s (u.opErr kind slice cl fn pos) ↔ State.Only ps s u := State.Only.iff_of h (by
  simp (disch := decide) only [State.opErr, only_wr, only_record, only_fsEvent, only_refl, State.Only.ite, implies_true, and_self])

theorem only_diverged (key : Nat) (e : LogEntry) (h : [.regs, .ctrs, .block 64, .block 258] ⊆ ps) :
    State.Only ps s (u.diverged key e) ↔ State.Only ps s u := State.Only.iff_of h (by
  simp (disch := decide) only [State.diverged, only_fleCount, only_opErr, only_refl, State.Only.ite, implies_true, and_self])

theorem only_commitEntry (key : Nat) (e : LogEntry) (h : [.regs, .ctrs, .mem, .flow, .block 64, .block 258] ⊆ ps) :
    State.Only ps s (u.commitEntry key e) ↔ State.Only ps s u := State.Only.iff_of h (by
  simp (disch := decide) only [State.commitEntry, only_applyCommitted, only_diverged, only_refl, State.Only.ite, implies_true, and_self])

theorem only_dropEntry (key : Nat) (e : LogEntry) (h : [.flow] ⊆ ps) :
    State.Only ps s (u.dropEntry key e) ↔ State.Only ps s u := State.Only.iff_of h (by
  simp (disch := decide) only [State.dropEntry, only_set_flow, only_refl, State.Only.ite, implies_true, and_self])

theorem only_applyHead (key : Nat) (e : LogEntry) (h : [.regs, .ctrs, .mem, .flow, .block 64, .block 258] ⊆ ps) :
    State.Only ps s (u.applyHead key e) ↔ State.Only ps s u := State.Only.iff_of h (by
  simp (disch := decide) only [State.applyHead, only_commitEntry, only_dropEntry, only_retire, only_set_flow, only_refl, State.Only.ite, implies_true, and_self])

theorem only_drainLogs (n : Nat) (h : [.regs, .ctrs, .mem, .flow, .block 64, .block 258] ⊆ ps) :
    State.Only ps s (u.drainLogs n) ↔ State.Only ps s u := State.Only.iff_of h (by
  induction n generalizing u with
  | zero => exact .refl _ _
  | succ n ih =>
    unfold State.drainLogs
    split
    · exact .refl _ _
    · exact ((only_applyHead _ _ (by decide)).mpr (.refl _ _)).trans ih)

theorem only_settleFlows (h : [.regs, .ctrs, .mem, .flow, .block 64, .block 258] ⊆ ps) :
    State.Only ps s u.settleFlows ↔ State.Only ps s u := State.Only.iff_of h (by
  unfold State.settleFlows
  refine (only_drainLogs _ (by decide)).mpr (State.Only.foldl (fun t a => ?_) _ (.refl _ _))
  simp (disch := decide) only [only_resolve, only_refl, State.Only.ite, implies_true, and_self])

theorem only_setCtx (c : Nat) (x : Ctx) (h : [.dsp] ⊆ ps) :
    State.Only ps s (u.setCtx c x) ↔ State.Only ps s u := State.Only.iff_of h (by
  simp (disch := decide) only [State.setCtx, only_set_dsp, only_refl])

theorem only_set_dsp_flume (x : Dispatch) (y : Flume) (h : [.dsp, .flume] ⊆ ps) :
    State.Only ps s { u with dsp := x, flume := y } ↔ State.Only ps s u :=
  (only_set_flume (t := { u with dsp := x }) y fun _ hp => h (by simp at hp; simp [hp])).trans
    (only_set_dsp x fun _ hp => h (by simp at hp; simp [hp]))

theorem only_discardContexts (h : [.ctrs, .dsp, .flume, .qm, .bpm] ⊆ ps) :
    State.Only ps s u.discardContexts ↔ State.Only ps s u := State.Only.iff_of h (by
  unfold State.discardContexts
  extract_lets t
  have ht : State.Only [.ctrs, .dsp, .flume, .qm, .bpm] u t := State.Only.foldl (fun t a =>
    (only_setCtx _ _ (by decide)).mpr ((only_freePkt _ (by decide)).mpr (.refl _ _))) _ (.refl _ _)
  exact (only_set_dsp_flume _ _ (by decide)).mpr ht)

theorem only_settleStop (h : [.freeCtr, .regs, .ctrs, .mem, .boot, .dsp, .flume, .flow, .qm, .bpm, .sch, .block 64, .block 258] ⊆ ps) :
    State.Only ps s u.settleStop ↔ State.Only ps s u := State.Only.iff_of h (by
  refine (only_set_boot _ (by decide)).mpr ((only_discardContexts (by decide)).mpr ((only_settleFlows (by decide)).mpr ?_))
  exact State.Only.foldl (fun t p => (only_stompTx p (by decide)).mpr (.refl _ _)) _ (.refl _ _))

theorem only_writeBackAll (h : [.ctrs, .mem, .flow] ⊆ ps) :
    State.Only ps s u.writeBackAll ↔ State.Only ps s u := State.Only.iff_of h (by
  exact State.Only.foldl (fun t k => (only_writeBack k (by decide)).mpr (.refl _ _)) _ (.refl _ _))

theorem only_holdDram (h : [.aon] ⊆ ps) :
    State.Only ps s u.holdDram ↔ State.Only ps s u := State.Only.iff_of h (by
  simp (disch := decide) only [State.holdDram, only_setRetFlag, only_set_aon, only_refl])

end

end Sys2Proof.Machine
end

section
/-! PROOFS. The reset of the ASIC core and what is held over it (R75, R133, R140, R142, R175). -/
namespace Sys2Proof.Machine

/-! ### Memory kept -/

/-- What is left of a stretch in the addresses kept. -/
theorem Junk.covers_keep (j : Junk) (lo hi b : Nat) : Junk.covers { j with lo := max j.lo lo, hi := min j.hi hi } b =
    (j.covers b && decide (lo ≤ b) && decide (b < hi)) := by
  simp only [Junk.covers, ge_iff_le, sup_le_iff, lt_inf_iff, Bool.decide_and]
  cases decide (j.lo ≤ b) <;> cases decide (b < j.hi) <;> cases decide (lo ≤ b) <;> cases decide (b < hi) <;> rfl

theorem find_keep (l : List Junk) {lo hi b : Nat} (h1 : lo ≤ b) (h2 : b < hi) :
    (((l.map fun j => { j with lo := max j.lo lo, hi := min j.hi hi }).filter fun j => decide (j.lo < j.hi)).find? fun k => k.covers b).map Junk.c =
      (l.find? fun j => j.covers b).map Junk.c := by
  induction l with
  | nil => rfl
  | cons j l ih =>
    have hcov := j.covers_keep lo hi b
    rw [decide_eq_true h1, decide_eq_true h2, Bool.and_true, Bool.and_true] at hcov
    rw [List.map_cons, List.find?_cons]
    cases hc : j.covers b with
    | true =>
      rw [hc] at hcov
      have hne := (Junk.covers_iff _ _).mp hcov
      have hlt : max j.lo lo < min j.hi hi := Nat.lt_of_le_of_lt hne.1 hne.2
      rw [List.filter_cons_of_pos (by simpa using hlt), List.find?_cons, hcov]
      rfl
    | false =>
      rw [hc] at hcov
      rw [List.filter_cons]
      split_ifs
      · rw [List.find?_cons, hcov]; exact ih
      · exact ih

theorem find_keep_none (l : List Junk) {lo hi b : Nat} (h : ¬ (lo ≤ b ∧ b < hi)) :
    (((l.map fun j => { j with lo := max j.lo lo, hi := min j.hi hi }).filter fun j => decide (j.lo < j.hi)).find? fun k => k.covers b) = none := by
  rw [List.find?_eq_none]
  intro k hk
  obtain ⟨j, -, rfl⟩ := List.mem_map.mp (List.mem_of_mem_filter hk)
  rw [Junk.covers_keep]
  by_cases h1 : lo ≤ b
  · rw [decide_eq_false fun h2 => h ⟨h1, h2⟩, Bool.and_false]; decide
  · rw [decide_eq_false h1, Bool.and_false, Bool.false_and]; decide

theorem Mem.get_keep (m : Mem) (lo hi a : Nat) : (m.keep lo hi).get a = if lo ≤ a ∧ a < hi then m.get a else 0 := by
  simp only [Mem.get, SMap.getD, Mem.keep, smapFind_filter (fun k => decide (lo ≤ k) && decide (k < hi)), Bool.and_eq_true, decide_eq_true_eq]
  split_ifs with h
  · rw [Mem.unlisted_eq, Mem.unlisted_eq m, find_keep _ h.1 h.2]
  · rw [Mem.unlisted_eq, find_keep_none _ h]; rfl

section
variable {s t : State} {l : List Part}

/-! ### The reset -/

theorem rd_coreReset (s : State) (c : CoreState) (a : Nat) :
    (s.coreReset c).rd a = if a = Reg.bootNext then s.rd a else State.reset.rd a := by
  have h : smapFind s.regsKept.entries a = if (a == Reg.bootNext) = true then smapFind s.regs.entries a else none :=
    smapFind_filter (fun k => k == Reg.bootNext) _ _
  show (smapFind s.regsKept.entries a).getD (resetOf a) = _
  rw [h]
  by_cases ha : a = Reg.bootNext
  · rw [if_pos ha, if_pos (beq_iff_eq.mpr ha)]; rfl
  · rw [if_neg ha, if_neg (by simpa using ha)]; rfl

theorem get_memKept (s : State) (a : Nat) : s.memKept.get a = if s.aon.dramHeld = true ∧ inDram a = true then s.mem.get a else 0 := by
  have hin : inDram a = true ↔ 0x2000000000 ≤ a ∧ a < 0x4000000000 := by simp [inDram]
  unfold State.memKept
  by_cases hd : s.aon.dramHeld = true
  · simp only [hd, if_true, Mem.get_keep, true_and, hin]
  · rw [if_neg hd, if_neg fun h => hd h.1]; rfl

theorem smapFind_map {V : Type} (f : V → V) (l : List (Nat × V)) (k : Nat) :
    smapFind (l.map fun e => (e.1, f e.2)) k = (smapFind l k).map f := by
  induction l with
  | nil => rfl
  | cons e l ih =>
    obtain ⟨a, v⟩ := e
    simp only [List.map_cons, smapFind, ih]
    split_ifs <;> rfl

/-- Every cage after the reset: its supply off, a latched fuse still to be re-armed. -/
theorem cage_coreReset (s : State) (c : CoreState) (n : Nat) : (s.coreReset c).cage n = { s.cage n with fuse := .off, retries := 0 } := by
  show ((smapFind (s.supply.cages.entries.map fun e => (e.1, { e.2 with fuse := .off, retries := 0 })) n).getD default) = _
  rw [smapFind_map (fun c : Cage => { c with fuse := .off, retries := 0 })]
  show _ = { (smapFind s.supply.cages.entries n).getD default with fuse := .off, retries := 0 }
  cases smapFind s.supply.cages.entries n <;> rfl

/-! ### DRAM held -/

theorem dramUp_of_only (h : State.Only l s t) (h0 : .block 96 ∉ l) (h1 : .block 97 ∉ l) (h2 : .block 98 ∉ l) (h3 : .block 99 ∉ l) :
    t.dramUp = s.dramUp := by
  have hbit : ∀ n < 4, t.bit (Reg.dnStatus n) 28 = s.bit (Reg.dnStatus n) 28 := fun n hn => by
    refine h.bit (by unfold Reg.dnStatus; omega) ?_ 28
    interval_cases n <;> assumption
  simp only [State.dramUp]
  rw [Bool.eq_iff_iff, List.all_eq_true, List.all_eq_true]
  exact forall₂_congr fun n hn => by rw [hbit n (List.mem_range.mp hn)]

theorem holdDram_spec (s : State) : State.Only [.aon] s s.holdDram ∧ s.holdDram.aon.dramHeld = (s.dramUp || s.aon.dramHeld) ∧
    s.holdDram.retFlag retHeld = (s.dramUp || s.aon.dramHeld) ∧
    s.holdDram.aon = { s.aon with dramHeld := s.dramUp || s.aon.dramHeld, retention := s.holdDram.aon.retention } := by
  refine ⟨(only_holdDram (List.Subset.refl _)).mpr (.refl _ _), rfl, ?_, rfl⟩
  exact (retFlag_setRetFlag _ _ _ _ (by decide)).trans (if_pos rfl)

/-! ### The steps of a stop -/

/-- What the steps of an orderly stop change before the stacks are held. -/
def stopParts : List Part := [.freeCtr, .regs, .ctrs, .mem, .boot, .dsp, .flume, .flow, .qm, .bpm, .sch, .block 64, .block 258]

theorem only_settled (s : State) : State.Only stopParts s (if s.boot.settled then s else s.settleStop).writeBackAll := by
  refine (only_writeBackAll (by decide)).mpr ?_
  split_ifs
  · exact .refl _ _
  · exact (only_settleStop (by decide)).mpr (.refl _ _)

theorem boot_settleStop (s : State) : s.settleStop.boot = { s.boot with settled := true } := by
  have h : ∀ late : List Nat, State.Only [.freeCtr, .regs, .ctrs, .mem, .dsp, .flume, .flow, .qm, .bpm, .sch, .block 64, .block 258] s
      (late.foldl State.stompTx s).settleFlows.discardContexts := fun late =>
    (only_discardContexts (by decide)).mpr ((only_settleFlows (by decide)).mpr
      (State.Only.foldl (fun t p => (only_stompTx p (by decide)).mpr (.refl _ _)) late (.refl _ _)))
  unfold State.settleStop
  dsimp only
  rw [(h _).boot_eq (by decide)]

/-- The whole of the steps: what the boot block keeps, and whether the stacks are held. -/
theorem stopSteps_spec (s : State) : State.Only (.aon :: stopParts) s s.stopSteps ∧ s.stopSteps.boot = { s.boot with settled := true } ∧
    s.stopSteps.aon = { s.aon with dramHeld := s.dramUp || s.aon.dramHeld, retention := s.stopSteps.aon.retention } := by
  have h := only_settled s
  have hhold := only_holdDram (s := s) (u := (if s.boot.settled then s else s.settleStop).writeBackAll) (ps := .aon :: stopParts) (by decide)
  have hup : (if s.boot.settled then s else s.settleStop).writeBackAll.dramUp = s.dramUp :=
    dramUp_of_only h (by decide) (by decide) (by decide) (by decide)
  obtain ⟨h1, -, -, haon⟩ := holdDram_spec (if s.boot.settled then s else s.settleStop).writeBackAll
  have hwb : (if s.boot.settled then s else s.settleStop).writeBackAll.boot = (if s.boot.settled then s else s.settleStop).boot :=
    ((only_writeBackAll (List.Subset.refl _)).mpr (.refl _ _)).boot_eq (by decide)
  refine ⟨hhold.mpr (h.mono (by decide)), ?_, ?_⟩
  · rw [State.stopSteps, h1.boot_eq (by decide), hwb]
    split_ifs with hs
    · rw [← hs]
    · exact boot_settleStop s
  · rw [hup, h.aon_eq (by decide)] at haon
    exact haon

end

end Sys2Proof.Machine
end

section
/-! PROOFS. Fault stops: what their beginning leaves, and the capture at their end (R145–R149). -/
namespace Sys2Proof.Machine

section
variable {s t : State} {l : List Part}

/-! ### Transmitters stomped -/

theorem sending_stompTx (s : State) (q p : Nat) :
    ((s.stompTx q).sch.tx.get p).sending = if p = q then none else (s.sch.tx.get p).sending := by
  unfold State.stompTx
  dsimp only
  split_ifs with h0 hp hp
  · rw [hp]; exact Option.isNone_iff_eq_none.mp h0
  · rfl
  · exact (congrArg Tx.sending (SMap.get_set ..)).trans (by rw [if_pos hp])
  · exact (congrArg Tx.sending (SMap.get_set ..)).trans (by rw [if_neg hp]; rfl)

theorem sending_foldl_stompTx (ps : List Nat) {p : Nat} : ∀ s : State, p ∈ ps ∨ (s.sch.tx.get p).sending = none →
    ((ps.foldl State.stompTx s).sch.tx.get p).sending = none := by
  induction ps with
  | nil => exact fun s h => h.resolve_left List.not_mem_nil
  | cons q ps ih =>
    intro s h
    refine ih _ ?_
    rw [sending_stompTx]
    split_ifs with hp
    · exact .inr rfl
    · exact h.imp_left fun hm => (List.mem_cons.mp hm).resolve_left hp

theorem only_stompAll (s : State) : State.Only [.freeCtr, .sch] s s.stompAll :=
  State.Only.foldl (fun t p => (only_stompTx p (by decide)).mpr (.refl _ _)) _ (.refl _ _)

/-! ### The DRAM controllers frozen -/

theorem freezeDram_eq (s : State) : s.freezeDram none = (List.range 4).foldl (fun t n => t.setBit (Reg.dnStatus n) 31 true) s := by
  rw [State.freezeDram]

theorem freezeDram_spec (s : State) : s.RegsOnly (s.freezeDram none) ∧ (∀ n < 4, (s.freezeDram none).bit (Reg.dnStatus n) 31 = true) ∧
    s.regsBut (s.freezeDram none) [Reg.dnStatus 0, Reg.dnStatus 1, Reg.dnStatus 2, Reg.dnStatus 3] := by
  have hstep : ∀ (t : State) k a, a ≠ Reg.dnStatus k → (t.setBit (Reg.dnStatus k) 31 true).rd a = t.rd a :=
    fun _ _ _ h => State.rd_setBit_other _ _ _ _ _ h
  rw [freezeDram_eq]
  refine ⟨List.foldlRecOn (List.range 4) _ (motive := fun t => s.RegsOnly t) State.RegsOnly.refl fun _ hu _ _ => hu.setBit, fun n hn => ?_,
    fun a ha => rd_foldl_apart (f := Reg.dnStatus) hstep _ s fun k hk hak => ha ?_⟩
  · obtain ⟨t, -, -, hfin⟩ := rd_foldl_at (f := Reg.dnStatus) (P := fun _ => True) hstep (fun _ _ => dnStatus_inj) (fun _ _ _ => trivial) _
      List.nodup_range (List.mem_range.mpr hn) s trivial
    exact (State.bit_of_rd hfin 31).trans (State.bit_setBit_same _ _ _ _ (by decide))
  · have hk4 : k < 4 := List.mem_range.mp hk
    rw [hak]
    interval_cases k <;> simp

/-! ### The stop noted in the retention RAM -/

theorem only_setRet (o n v : Nat) (h : [.aon] ⊆ l) : State.Only l s (t.setRet o n v) ↔ State.Only l s t := only_set_aon _ h

theorem only_noteStop (s : State) (cause : Nat) : State.Only [.aon] s (s.noteStop cause) := by
  simp (disch := decide) only [State.noteStop, only_setRet, only_set_aon, only_refl]

theorem ns64_lt (s : State) : s.ns64 < 256 ^ 8 := Nat.mod_lt _ (by decide)

/-- The times of the last stops, and the cause. -/
theorem noteStop_spec (s : State) {cause : Nat} (hc : cause < 256) : (s.noteStop cause).ret 0x13 1 = cause ∧
    (s.noteStop cause).stopTime 0 = s.ns64 ∧ (∀ i, i < 0x13 ∨ 0x40 ≤ i → (s.noteStop cause).aon.retention.get i = s.aon.retention.get i) := by
  obtain ⟨u, hu⟩ : ∃ u : State, u = { s with aon.retention := putBytes s.aon.retention 0x20 (getBytes s.aon.retention 0x18 24) } := ⟨_, rfl⟩
  have heq : s.noteStop cause = ((u.setRet 0x18 8 s.ns64).setRet 0x38 8 s.ns64).setRet 0x13 1 cause := by rw [hu, State.noteStop]
  rw [heq]
  refine ⟨?_, ?_, fun i hi => ?_⟩
  · rw [ret_setRet_same]; omega
  · rw [State.stopTime, ret_setRet_other _ (by decide), ret_setRet_other _ (by decide), ret_setRet_same, Nat.mod_eq_of_lt (ns64_lt s)]
  · refine (get_putBytes_ne _ _ _ _ ?_).trans ((get_putBytes_ne _ _ _ _ ?_).trans ((get_putBytes_ne _ _ _ _ ?_).trans ?_))
    · rw [leBytes_length]; omega
    · rw [leBytes_length]; omega
    · rw [leBytes_length]; omega
    · rw [hu]
      exact get_putBytes_ne _ _ _ _ (by simp [getBytes]; omega)

theorem only_attemptFailed (s : State) (cause : Nat) : State.Only [.aon] s (s.attemptFailed cause) := by
  unfold State.attemptFailed
  split_ifs
  · exact .refl _ _
  · exact (only_setRet _ _ _ (List.Subset.refl _)).mpr (.refl _ _)

theorem slot_lt (s : State) : s.fld Reg.bootStatus 25 25 < 2 := Nat.mod_lt _ (by decide)

/-- The failed attempt counted, at addresses 0x10 and 0x11 alone. -/
theorem get_attemptFailed (s : State) (cause i : Nat) (hi : i < 0x10 ∨ 0x12 ≤ i) :
    (s.attemptFailed cause).aon.retention.get i = s.aon.retention.get i := by
  have := slot_lt s
  unfold State.attemptFailed
  split_ifs
  · rfl
  · exact get_putBytes_ne _ _ _ _ (by rw [leBytes_length]; omega)

theorem attempts_attemptFailed (hconf : s.boot.confirmed = false) (himg : s.imageRuns = true) {cause : Nat} (h2 : 2 ≤ cause) (h6 : cause ≤ 6) :
    (s.attemptFailed cause).attempts (s.fld Reg.bootStatus 25 25) = min 15 (s.attempts (s.fld Reg.bootStatus 25 25) + 1) := by
  simp only [State.imageRuns, Bool.and_eq_true, Bool.not_eq_true', bne_iff_ne, ne_eq] at himg
  obtain ⟨⟨-, hphase⟩, hserv⟩ := himg
  rw [State.attemptFailed, if_neg]
  · rw [State.attempts, State.setAttempts, ret_setRet_same, satNat]
    split_ifs <;> omega
  · simp [hconf, hserv, hphase]; omega

/-! ### The summary -/

theorem only_writeSummary (s : State) (f : FaultInfo) (c : Nat) : State.Only [.aon] s (s.writeSummary f c) := by
  simp (disch := decide) only [State.writeSummary, only_setRetFlag, only_set_aon, only_refl]

/-- A flag set leaves the bytes above the flags alone. -/
theorem get_setRetFlag (s : State) (i : Nat) (b : Bool) {a : Nat} (ha : 8 ≤ a) : (s.setRetFlag i b).aon.retention.get a = s.aon.retention.get a :=
  (get_putBytes_ne _ _ _ _ (by rw [leBytes_length]; omega)).trans (get_putBytes_ne _ _ _ _ (by rw [leBytes_length]; omega))

theorem writeSummary_spec (s : State) (f : FaultInfo) (c : Nat) (hf : f.cause < 256 ^ 4) : (s.writeSummary f c).ret 0x200 4 = f.cause ∧
    (s.writeSummary f c).retFlag retCapture = true ∧
    ∀ i, 8 ≤ i → i < 0x200 → (s.writeSummary f c).aon.retention.get i = s.aon.retention.get i := by
  obtain ⟨u, hu⟩ : ∃ u : State, u = { s with aon.retention := putBytes (clearRange s.aon.retention 0x200 0x200) 0x200 (f.bytes s.ns64 c) } := ⟨_, rfl⟩
  have heq : s.writeSummary f c = ((u.setRetFlag retCapture true).setRetFlag retFlushed false).setRetFlag retTruncated false := by
    rw [hu, State.writeSummary]
  have hget : ∀ a, 8 ≤ a → (s.writeSummary f c).aon.retention.get a = u.aon.retention.get a := fun a ha => by
    rw [heq, get_setRetFlag _ _ _ ha, get_setRetFlag _ _ _ ha, get_setRetFlag _ _ _ ha]
  refine ⟨?_, ?_, fun i h1 h2 => ?_⟩
  · rw [ret_of_get (s := u) fun i hi => hget _ (by omega), State.ret, hu]
    have h := getBytes_putBytes_prefix (clearRange s.aon.retention 0x200 0x200) 0x200 (leBytes f.cause 4)
      (leBytes f.base 4 ++ leBytes f.syndrome 4 ++ leBytes f.addr 8 ++ leBytes s.ns64 8 ++ leBytes f.region 4 ++ leBytes 0 8 ++ leBytes c 4)
    simp only [leBytes_length, List.append_assoc] at h
    simp only [FaultInfo.bytes, List.append_assoc, h]
    rw [leNat_leBytes, Nat.mod_eq_of_lt hf]
  · rw [heq, retFlag_setRetFlag _ _ _ _ (by decide), if_neg (by decide), retFlag_setRetFlag _ _ _ _ (by decide), if_neg (by decide),
      retFlag_setRetFlag _ _ _ _ (by decide), if_pos rfl]
  · rw [hget i h1, hu]
    dsimp only
    rw [get_putBytes_ne _ _ _ _ (by omega), get_clearRange, if_neg (by omega)]

end

end Sys2Proof.Machine
end

section
/-! PROOFS. Fault stops and what starts them, the watchdog, restart commands and the security commands (R130, R131, R145–R148,
R159, R160). -/
namespace Sys2Proof.Machine

section
variable {s t : State} {l : List Part}

/-! ### What a fault stop notes -/

/-- Whether a fault stop writes a summary: no earlier capture waits to reach flash. -/
def State.summaryFree (s : State) (f : FaultInfo) : Bool :=
  !(((s.noteStop f.cause).attemptFailed f.cause).retFlag retCapture && !((s.noteStop f.cause).attemptFailed f.cause).retFlag retFlushed)

/-- What a fault stop notes in the retention RAM. -/
def State.noted (s : State) (f : FaultInfo) : State :=
  if s.summaryFree f then ((s.noteStop f.cause).attemptFailed f.cause).writeSummary f 0 else (s.noteStop f.cause).attemptFailed f.cause

/-- The freeze and the frames in progress, after what is noted. -/
def State.frozen (s : State) (f : FaultInfo) : State :=
  (({ s.noted f with boot.capturing := s.summaryFree f }.setBit Reg.hdgStatus 31 false).freezeDram f.stack).stompAll

theorem get_noteAttempt (s : State) {c : Nat} (hc : c < 256) (i : Nat) (hi : i < 0x10 ∨ 0x40 ≤ i) :
    ((s.noteStop c).attemptFailed c).aon.retention.get i = s.aon.retention.get i := by
  rw [get_attemptFailed _ _ _ (by omega)]
  exact (noteStop_spec s hc).2.2 i (by omega)

/-- The summary leaves the bytes from the attempt counts up to itself alone. -/
theorem get_noted (s : State) (f : FaultInfo) (hf : f.cause < 256) {i : Nat} (h1 : 8 ≤ i) (h2 : i < 0x200) :
    (s.noted f).aon.retention.get i = ((s.noteStop f.cause).attemptFailed f.cause).aon.retention.get i := by
  unfold State.noted
  split_ifs
  · exact (writeSummary_spec _ f 0 (by omega)).2.2 i h1 h2
  · rfl

theorem only_noted (s : State) (f : FaultInfo) : State.Only [.aon] s (s.noted f) := by
  have h := (only_noteStop s f.cause).trans (only_attemptFailed (s.noteStop f.cause) f.cause)
  unfold State.noted
  split_ifs
  · exact h.trans (only_writeSummary _ f 0)
  · exact h

/-- Cause and time of the stop; the summary, unless an earlier capture is not yet in flash. -/
theorem noted_spec (s : State) (f : FaultInfo) (hf : f.cause < 256) : (s.noted f).ret 0x13 1 = f.cause ∧ (s.noted f).stopTime 0 = s.ns64 ∧
    (s.retFlag retCapture = false → (s.noted f).ret 0x200 4 = f.cause ∧ (s.noted f).retFlag retCapture = true) ∧
    (s.retFlag retCapture = true → s.retFlag retFlushed = false → (s.noted f).ret 0x200 4 = s.ret 0x200 4) := by
  obtain ⟨hcause, htime, -⟩ := noteStop_spec s hf
  obtain ⟨u, hu⟩ : ∃ u, u = (s.noteStop f.cause).attemptFailed f.cause := ⟨_, rfl⟩
  have hget : ∀ o n, (o + n ≤ 0x10 ∨ 0x40 ≤ o) → u.ret o n = s.ret o n := fun o n ho =>
    ret_of_get fun i hi => by rw [hu]; exact get_noteAttempt s hf _ (by omega)
  have hflag : ∀ j, u.retFlag j = s.retFlag j := fun j => congrArg (bitAt · j) (hget 4 4 (by omega))
  have hnote : ∀ o n, 0x12 ≤ o → o + n ≤ 0x200 → (s.noted f).ret o n = (s.noteStop f.cause).ret o n := fun o n h1 h2 =>
    ret_of_get fun i hi => by rw [get_noted s f hf (by omega) (by omega), get_attemptFailed _ _ _ (by omega)]
  refine ⟨(hnote _ _ (by decide) (by decide)).trans hcause, (hnote _ _ (by decide) (by decide)).trans htime, fun h => ?_, fun h1 h2 => ?_⟩
  · rw [State.noted, State.summaryFree, ← hu, hflag, h, Bool.false_and, Bool.not_false, if_pos rfl]
    obtain ⟨h1, h2, -⟩ := writeSummary_spec u f 0 (by omega)
    exact ⟨h1, h2⟩
  · rw [State.noted, State.summaryFree, ← hu, hflag, hflag, h1, h2, if_neg (by decide)]
    exact hget _ _ (by decide)

theorem attempts_noted (hconf : s.boot.confirmed = false) (himg : s.imageRuns = true) {f : FaultInfo} (h2 : 2 ≤ f.cause) (h6 : f.cause ≤ 6) :
    (s.noted f).attempts (s.fld Reg.bootStatus 25 25) = min 15 (s.attempts (s.fld Reg.bootStatus 25 25) + 1) := by
  have hslot := slot_lt s
  have hf : f.cause < 256 := by omega
  have honly := only_noteStop s f.cause
  have hboot := honly.boot_eq (by decide)
  have hrd : ∀ a, (s.noteStop f.cause).rd a = s.rd a := fun a => by rw [State.rd, State.rd, honly.regs_eq (by decide)]
  have hfld : (s.noteStop f.cause).fld Reg.bootStatus 25 25 = s.fld Reg.bootStatus 25 25 := State.fld_of_rd (hrd _) _ _
  have himg' : (s.noteStop f.cause).imageRuns = true := by
    rw [State.imageRuns, hboot, State.fld_of_rd (hrd _), State.bit_of_rd (hrd _)]; exact himg
  have hatt : (s.noteStop f.cause).attempts (s.fld Reg.bootStatus 25 25) = s.attempts (s.fld Reg.bootStatus 25 25) :=
    ret_of_get fun i hi => (noteStop_spec s hf).2.2 _ (by omega)
  have h := attempts_attemptFailed (s := s.noteStop f.cause) (by rw [hboot]; exact hconf) himg' h2 h6
  rw [hfld, hatt] at h
  exact (ret_of_get fun i hi => get_noted s f hf (by omega) (by omega)).trans h

/-! ### The stop begins -/

theorem sending_stompAll (s : State) {p : Nat} (hp : p < 132) : (s.stompAll.sch.tx.get p).sending = none := by
  rw [State.stompAll]
  exact sending_foldl_stompTx _ s (.inl (List.mem_range.mpr hp))

theorem State.RegsOnly.boot_eq (h : s.RegsOnly t) : t.boot = s.boot := by rw [h]
theorem State.RegsOnly.aon_eq (h : s.RegsOnly t) : t.aon = s.aon := by rw [h]
theorem State.RegsOnly.mem_eq (h : s.RegsOnly t) : t.mem = s.mem := by rw [h]
theorem State.RegsOnly.flash_eq (h : s.RegsOnly t) : t.flash = s.flash := by rw [h]

/-- What `FaultStopsAndRestarts` says of a fault stop just begun. -/
structure StopBegun (s : State) (f : FaultInfo) (t : State) : Prop where
  boot : t.boot.stop = .fault ∧ t.boot.cause = f.cause ∧ t.boot.core = s.boot.core ∧
    t.boot.requested = (if f.cause ≤ 4 then s.boot.onFault else s.boot.onWatchdog)
  aon : t.aon = (s.noted f).aon
  frozen : ∀ n < 4, t.bit (Reg.dnStatus n) 31 = true
  silent : ∀ p < 132, (t.sch.tx.get p).sending = none
  kept : t.mem = s.mem ∧ t.flash = s.flash ∧ t.bit Reg.hdgStatus 31 = false ∧
    s.regsBut t [Reg.dnStatus 0, Reg.dnStatus 1, Reg.dnStatus 2, Reg.dnStatus 3, Reg.hdgStatus]

theorem beginStop_eq (s : State) (f : FaultInfo) : s.beginStop f =
    { s.frozen f with boot.requested := (s.frozen f).faultMode f.cause, boot.cause := f.cause, boot.stop := .fault } := by
  rw [State.beginStop, State.frozen, State.noted, State.summaryFree]

theorem beginStop_spec (s : State) (f : FaultInfo) (hf : f.stack = none) : StopBegun s f (s.beginStop f) := by
  obtain ⟨u, hu⟩ : ∃ u, u = { s.noted f with boot.capturing := s.summaryFree f } := ⟨_, rfl⟩
  obtain ⟨v, hv⟩ : ∃ v, v = (u.setBit Reg.hdgStatus 31 false).freezeDram none := ⟨_, rfl⟩
  obtain ⟨w, hw⟩ : ∃ w, w = v.stompAll := ⟨_, rfl⟩
  have hfro : s.frozen f = w := by rw [hw, hv, hu, State.frozen, hf]
  have heq := beginStop_eq s f
  rw [hfro] at heq
  obtain ⟨hregs, hfroz, hbut⟩ := freezeDram_spec (u.setBit Reg.hdgStatus 31 false)
  rw [← hv] at hregs hfroz hbut
  have hall : State.Only [.freeCtr, .sch] v w := hw ▸ only_stompAll v
  have hnote := only_noted s f
  have huv : u.RegsOnly v := State.RegsOnly.refl.setBit.trans hregs
  have hboot : w.boot = { s.boot with capturing := s.summaryFree f } := by
    rw [hall.boot_eq (by decide), huv.boot_eq, hu]
    dsimp only
    rw [hnote.boot_eq (by decide)]
  have hrd : ∀ a, w.rd a = v.rd a := fun a => by rw [State.rd, State.rd, hall.regs_eq (by decide)]
  rw [heq]
  refine ⟨⟨rfl, rfl, (congrArg Boot.core hboot :), ?_⟩, ?_, fun n hn => (State.bit_of_rd (hrd _) _).trans (hfroz n hn), fun p hp => ?_, ?_, ?_, ?_, fun a ha => ?_⟩
  · rw [State.faultMode, hboot]
  · show w.aon = _
    rw [hall.aon_eq (by decide), huv.aon_eq, hu]
  · show (w.sch.tx.get p).sending = none
    rw [hw]
    exact sending_stompAll v hp
  · show w.mem = _
    rw [hall.mem_eq (by decide), huv.mem_eq, hu]
    exact hnote.mem_eq (by decide)
  · show w.flash = _
    rw [hall.flash_eq (by decide), huv.flash_eq, hu]
    exact hnote.flash_eq (by decide)
  · exact (State.bit_of_rd ((hrd _).trans (hbut _ (by decide))) 31).trans (State.bit_setBit_same _ _ _ _ (by decide))
  · simp only [List.mem_cons, List.not_mem_nil, or_false, not_or] at ha
    obtain ⟨h0, h1, h2, h3, hh⟩ := ha
    refine (hrd a).trans ((hbut a (by simp [h0, h1, h2, h3])).trans ((State.rd_setBit_other _ _ _ _ _ hh).trans ?_))
    rw [hu]
    exact congrArg (fun r => (smapFind r.entries a).getD _) (hnote.regs_eq (by decide))

theorem faultStop_begins (hcore : s.boot.core = .running) (hstop : s.boot.stop = .none) (f : FaultInfo) : s.faultStop f = s.beginStop f := by
  rw [State.faultStop, hcore, hstop]; rfl

end

end Sys2Proof.Machine
end

section
/-! PROOFS. The end of a fault stop, and the obligation on fault stops and restarts (R147–R149, R161). -/
namespace Sys2Proof.Machine

/-! ### The capture list -/

theorem segmentBytes_length (base : Nat) (p : List Byte) : (segmentBytes base p).length = 8 + p.length := by
  simp only [segmentBytes, List.length_append, leBytes_length]

/-- Segments are packed into the bytes there are. -/
theorem packSegments_length_le (l : List (Nat × List Byte)) : ∀ k, (packSegments k l).length ≤ k := by
  induction l with
  | nil => exact fun _ => Nat.zero_le _
  | cons e r ih =>
    intro k
    obtain ⟨base, p⟩ := e
    rw [packSegments]
    split_ifs with h1 h2
    · have := ih (k - (8 + p.length))
      rw [List.length_append, segmentBytes_length]
      omega
    · rw [segmentBytes_length, List.length_take]
      omega
    · exact Nat.zero_le _

/-- The list begins with the base of its first segment, given room for one pair. -/
theorem packSegments_take {k : Nat} (hk : 16 ≤ k) (base : Nat) (p : List Byte) (r : List (Nat × List Byte)) :
    (packSegments k ((base, p) :: r)).take 4 = leBytes base 4 := by
  have h : ∀ q w : List Byte, (segmentBytes base q ++ w).take 4 = leBytes base 4 := fun q w => by
    rw [segmentBytes, List.append_assoc, List.append_assoc, List.take_append_of_le_length (by rw [leBytes_length]),
      List.take_of_length_le (by rw [leBytes_length])]
  rw [packSegments]
  split_ifs
  · exact h p _
  · simpa using h (p.take ((k - 8) / 8 * 8)) []

theorem captureSegments_cons (s : State) : ∃ p r, s.captureSegments = (s.ret 0x204 4, p) :: r := by
  exact ⟨_, _, rfl⟩

section
variable {s t : State} {l : List Part}

/-! ### The capture closed -/

theorem only_writeCapture (s : State) (n ns : Nat) : State.Only [.aon] s (s.writeCapture n ns) := by
  simp (disch := decide) only [State.writeCapture, only_setRetFlag, only_setRet, only_set_aon, only_refl]

theorem writeCapture_spec (s : State) {n ns : Nat} (hn : n ≤ 61440) : (s.writeCapture n ns).ret 0x220 4 = (s.captureList n).length % 256 ^ 4 ∧
    getBytes (s.writeCapture n ns).aon.retention 0x1000 (s.captureList n).length = s.captureList n := by
  obtain ⟨l, hl⟩ : ∃ l, l = s.captureList n := ⟨_, rfl⟩
  rw [← hl]
  obtain ⟨u, hu⟩ : ∃ u : State, u = { s with aon.retention := putBytes (clearRange s.aon.retention 0x1000 61440) 0x1000 l } := ⟨_, rfl⟩
  obtain ⟨b, hb⟩ : ∃ b, b = (decide (61440 < s.captureSize) && decide (61440 ≤ n)) := ⟨_, rfl⟩
  have heq : s.writeCapture n ns = ((u.setRet 0x220 4 l.length).setRet 0x224 4 ns).setRetFlag retTruncated b := by
    rw [hb, hu, State.writeCapture, Nat.min_eq_left hn, hl]
  rw [heq]
  refine ⟨?_, List.ext_getElem (by simp [getBytes]) fun i h1 h2 => ?_⟩
  · rw [← ret_setRet_same u]
    refine ret_of_get fun i hi => ?_
    rw [get_setRetFlag _ _ _ (by omega)]
    exact get_putBytes_ne _ _ _ _ (by rw [leBytes_length]; omega)
  · simp only [getBytes, List.getElem_map, List.getElem_range]
    rw [get_setRetFlag _ _ _ (by omega)]
    refine (get_putBytes_ne _ _ _ _ (by rw [leBytes_length]; omega)).trans ((get_putBytes_ne _ _ _ _ (by rw [leBytes_length]; omega)).trans ?_)
    rw [hu]
    exact get_putBytes _ _ _ _ h2

/-- The list written in `n` bytes of time: it begins with the detecting block and ends with the base that closes it. -/
theorem captureList_spec (s : State) {n : Nat} (hn : 20 ≤ n) : ∃ l, s.captureList n = l ++ leBytes 0xFFFFFFFF 4 ∧ l.length + 4 ≤ n ∧
    l.take 4 = leBytes (s.ret 0x204 4) 4 := by
  obtain ⟨p, r, hcons⟩ := captureSegments_cons s
  refine ⟨packSegments (n - 4) s.captureSegments, rfl, ?_, ?_⟩
  · have := packSegments_length_le s.captureSegments (n - 4)
    omega
  · rw [hcons]
    exact packSegments_take (by omega) _ _ _

/-- The state the reset finds at the end of a fault stop. -/
def State.captured (s : State) (n ns : Nat) : State := if s.boot.capturing then s.writeCapture n ns else s

theorem only_captured (s : State) (n ns : Nat) : State.Only [.aon] s (s.captured n ns) := by
  unfold State.captured
  split_ifs
  · exact only_writeCapture s n ns
  · exact .refl _ _

theorem closeStop_eq (hchans : s.dmc.chans = {}) (n ns : Nat) : s.closeStop n ns = (s.captured n ns).holdDram.coreReset .held := by
  have h : (s.captured n ns).dmc.chans = {} := by rw [(only_captured s n ns).dmc_eq (by decide), hchans]
  have hq : (s.captured n ns).discardQueued = s.captured n ns := by
    rw [State.discardQueued, h]; rfl
  show (s.captured n ns).discardQueued.holdDram.coreReset .held = _
  rw [hq]

/-- What the reset at the end of a fault stop keeps and loses. -/
theorem holdDram_kept (h : State.Only [.aon] s t) (hheld : t.aon.dramHeld = s.aon.dramHeld) :
    State.Only [.aon] s t.holdDram ∧ t.holdDram.aon.dramHeld = (s.dramUp || s.aon.dramHeld) ∧
    t.holdDram.retFlag retHeld = (s.dramUp || s.aon.dramHeld) := by
  obtain ⟨h1, h2, h3, -⟩ := holdDram_spec t
  rw [dramUp_of_only h (by decide) (by decide) (by decide) (by decide), hheld] at h2 h3
  exact ⟨h.trans h1, h2, h3⟩

theorem captured_held (s : State) (n ns : Nat) : (s.captured n ns).aon.dramHeld = s.aon.dramHeld := by
  unfold State.captured
  split_ifs <;> rfl

end

end Sys2Proof.Machine
end

section
/-! PROOFS. The obligation on fault stops, the watchdog, restart commands and the security commands. -/
namespace Sys2Proof.Machine

section
variable (s : State)

theorem exec_confirmTimeout : exec .confirmTimeout s = execConfirmTimeout s := rfl
theorem exec_syswdExpire : exec .syswdExpire s = execSyswdExpire s := rfl
theorem exec_syswdHalf : exec .syswdHalf s = execSyswdHalf s := rfl
theorem exec_faultCaptureClose (captureBytes captureNs : Nat) :
    exec (.faultCaptureClose captureBytes captureNs) s = execFaultCaptureClose captureBytes captureNs s := rfl
theorem exec_restartCommand (acc : Nat) (v : Word) : exec (.restartCommand acc v) s = execRestartCommand acc v s := rfl
theorem exec_svnRaise (acc : Nat) (v : Word) : exec (.svnRaise acc v) s = execSvnRaise acc v s := rfl
theorem exec_keyRevoke (acc : Nat) (v : Word) : exec (.keyRevoke acc v) s = execKeyRevoke acc v s := rfl
theorem exec_confirm (acc : Nat) (v : Word) : exec (.confirm acc v) s = execConfirm acc v s := rfl
theorem exec_syswdKick (acc : Nat) (v : Word) : exec (.syswdKick acc v) s = execSyswdKick acc v s := rfl

end

section
variable {s t : State} {l : List Part}

theorem Wbits_of_getLsbD {v : Word} (hv : v.getLsbD 0 = true) : Wbits v 0 0 = 1 := by
  rw [BitVec.getLsbD, Nat.testBit_zero, decide_eq_true_eq] at hv
  rw [Wbits, bitsOf]
  omega

/-- What a fault stop just begun leaves, as the obligation lists it. -/
theorem beginStop_started (hcore : s.boot.core = .running) (f : FaultInfo) (hf : f.stack = none) (hc : f.cause < 256) (ht : t = s.beginStop f) :
    t.boot.stop = .fault ∧ t.boot.cause = f.cause ∧ t.boot.core = .running ∧
      t.boot.requested = (if f.cause ≤ 4 then s.boot.onFault else s.boot.onWatchdog) ∧ (∀ n < 4, t.bit (Reg.dnStatus n) 31 = true) ∧
      t.ret 0x13 1 = f.cause ∧ t.stopTime 0 = s.ns64 ∧ (s.retFlag retCapture = false → t.ret 0x200 4 = f.cause ∧ t.retFlag retCapture = true) ∧
      (s.retFlag retCapture = true → s.retFlag retFlushed = false → t.ret 0x200 4 = s.ret 0x200 4) ∧
      (∀ p < 132, (t.sch.tx.get p).sending = none) ∧ t.mem = s.mem ∧ t.flash = s.flash ∧
      t.bit Reg.hdgStatus 31 = false ∧ s.regsBut t [Reg.dnStatus 0, Reg.dnStatus 1, Reg.dnStatus 2, Reg.dnStatus 3, Reg.hdgStatus] := by
  obtain ⟨⟨b1, b2, b3, b4⟩, haon, hfroz, hsil, hmem, hflash, hhdg, hbut⟩ := beginStop_spec s f hf
  rw [← ht] at b1 b2 b3 b4 haon hfroz hsil hmem hflash hhdg hbut
  obtain ⟨n1, n2, n3, n4⟩ := noted_spec s f hc
  have hret : ∀ o n, t.ret o n = (s.noted f).ret o n := fun o n => by rw [State.ret, State.ret, haon]
  have hflag : ∀ i, t.retFlag i = (s.noted f).retFlag i := fun i => by rw [State.retFlag, State.retFlag, hret]
  refine ⟨b1, b2, b3.trans hcore, b4, hfroz, (hret _ _).trans n1, (hret _ _).trans n2, fun h => ?_, fun h1 h2 => (hret _ _).trans (n4 h1 h2), hsil,
    hmem, hflash, hhdg, hbut⟩
  rw [hret, hflag]
  exact n3 h

theorem beginStop_attempts (f : FaultInfo) (hf : f.stack = none) (hconf : s.boot.confirmed = false) (himg : s.imageRuns = true)
    (h2 : 2 ≤ f.cause) (h6 : f.cause ≤ 6) :
    (s.beginStop f).attempts (s.fld Reg.bootStatus 25 25) = min 15 (s.attempts (s.fld Reg.bootStatus 25 25) + 1) := by
  rw [State.attempts, State.ret, (beginStop_spec s f hf).aon]
  exact attempts_noted hconf himg h2 h6

/-! ### The watchdog's half -/

theorem syswdHalf_spec (hup : s.coreUp = true) (hon : s.bit Reg.bootSyswd 31 = true) (hhalf : s.boot.wdHalf = false)
    (htime : max 1 (s.fld Reg.bootSyswd 15 0) / 2 * 1000000 ≤ s.boot.wdNs) : ∃ t, exec .syswdHalf s = .next t ∧
      t.boot = { s.boot with wdHalf := true } ∧ t.bit Reg.evcLocal 0 = true ∧ (∀ a, a < 0x700000 → t.rd a = s.rd a) ∧ t.mem = s.mem := by
  obtain ⟨u, hu⟩ : ∃ u : State, u = { s with boot.wdHalf := true } := ⟨_, rfl⟩
  have hg : (s.coreUp && s.bit Reg.bootSyswd 31 && !s.boot.wdHalf && decide (s.wdTimeout / 2 * 1000000 ≤ s.boot.wdNs)) = true := by
    simp [hup, hon, hhalf, State.wdTimeout, htime]
  refine ⟨u.setEvent Reg.evcLocal 0 315, by rw [exec_syswdHalf, execSyswdHalf, hg, occurs, if_pos rfl, hu], ?_, ?_, fun a ha => ?_, ?_⟩
  · rw [State.setEvent_boot, hu]
  · have hrd : (u.setEvent Reg.evcLocal 0 315).rd Reg.evcLocal = (u.setBit Reg.evcLocal 0 true).rd Reg.evcLocal :=
      State.rd_raiseEvent_apart _ (by decide) (by decide) (by decide) (by decide)
    exact (State.bit_of_rd hrd 0).trans (State.bit_setBit_same _ _ _ _ (by decide))
  · rw [State.rd_setEvent _ _ _ _ _ ha, State.rd_setBit_other _ _ _ _ _ (by unfold Reg.evcLocal; omega), hu]
    rfl
  · rw [State.setEvent_mem, hu]

/-! ### The end of a fault stop -/

theorem get_holdDram (s : State) {i : Nat} (hi : 8 ≤ i) : s.holdDram.aon.retention.get i = s.aon.retention.get i := by
  obtain ⟨u, hu⟩ : ∃ u : State, u = { s with aon.dramHeld := s.dramUp || s.aon.dramHeld } := ⟨_, rfl⟩
  have h : s.holdDram = u.setRetFlag retHeld (s.dramUp || s.aon.dramHeld) := by rw [State.holdDram, hu]
  rw [h, get_setRetFlag _ _ _ hi, hu]

theorem faultCaptureClose_spec (hcore : s.boot.core = .running) (hstop : s.boot.stop = .fault) (hchans : s.dmc.chans = {}) (n ns : Nat) :
    ∃ t, exec (.faultCaptureClose n ns) s = .next t ∧ t.boot.core = .held ∧
      t.boot.stop = .none ∧ t.boot.cause = s.boot.cause ∧ t.boot.requested = s.boot.requested ∧ t.boot.holdRestart = s.boot.holdRestart ∧
      (∀ a, t.rd a = if a = Reg.bootNext then s.rd a else State.reset.rd a) ∧ t.ctrs = {} ∧ t.flume = State.reset.flume ∧
      t.aon.dramHeld = (s.dramUp || s.aon.dramHeld) ∧ t.retFlag retHeld = (s.dramUp || s.aon.dramHeld) ∧
      (∀ a, inDram a = true → t.mem.get a = if s.dramUp || s.aon.dramHeld then s.mem.get a else 0) ∧
      (∀ a, inDram a = false → t.mem.get a = 0) ∧ t.flash = s.flash ∧ t.fuses = s.fuses ∧
      t.supply.on = s.supply.on ∧ t.supply.sagged = s.supply.sagged ∧ t.supply.interrupted = s.supply.interrupted ∧
      t.supply.failed = s.supply.failed ∧ t.supply.thermStep = 0 ∧ t.supply.ovlStep = 0 ∧ t.supply.shedding = false ∧
      t.supply.bins = s.flash.bins ∧ (∀ c, t.cage c = { s.cage c with fuse := .off, retries := 0 }) ∧
      (s.boot.capturing = true → 20 ≤ n → n ≤ 61440 → ∃ l, l.length + 4 ≤ n ∧ t.ret 0x220 4 = l.length + 4 ∧
        getBytes t.aon.retention 0x1000 (l.length + 4) = l ++ leBytes 0xFFFFFFFF 4 ∧ l.take 4 = leBytes (s.ret 0x204 4) 4) := by
  obtain ⟨hkept, hheld, hflag⟩ := holdDram_kept (only_captured s n ns) (captured_held s n ns)
  obtain ⟨v, hv⟩ : ∃ v, v = (s.captured n ns).holdDram := ⟨_, rfl⟩
  rw [← hv] at hkept hheld hflag
  have hg : (s.boot.stop == .fault && s.boot.core == .running) = true := by rw [hstop, hcore]; rfl
  have hboot := hkept.boot_eq (by decide)
  have hflash := hkept.flash_eq (by decide)
  have hsup := hkept.supply_eq (by decide)
  have hmem := hkept.mem_eq (by decide)
  have hcage : ∀ c, v.cage c = s.cage c := fun c => by rw [State.cage, State.cage, hsup]
  have hrd : ∀ a, v.rd a = s.rd a := fun a => by rw [State.rd, State.rd, hkept.regs_eq (by decide)]
  refine ⟨v.coreReset .held, by rw [exec_faultCaptureClose, execFaultCaptureClose, hg, occurs, if_pos rfl, closeStop_eq hchans, hv], rfl, rfl,
    (congrArg Boot.cause hboot :), (congrArg Boot.requested hboot :), (congrArg Boot.holdRestart hboot :), fun a => ?_, rfl, rfl, hheld, hflag, fun a ha => ?_,
    fun a ha => ?_, hflash, hkept.fuses_eq (by decide), (congrArg Supply.on hsup :), (congrArg Supply.sagged hsup :), (congrArg Supply.interrupted hsup :),
    (congrArg Supply.failed hsup :), rfl, rfl, rfl, congrArg Flash.bins hflash, fun c => ?_, fun hcap h20 hn => ?_⟩
  · rw [rd_coreReset, hrd]
  · show v.memKept.get a = _
    simp only [get_memKept, hheld, hmem, ha, and_true]
  · show v.memKept.get a = _
    rw [get_memKept, ha, if_neg (by simp)]
  · rw [cage_coreReset, hcage]
  · obtain ⟨l, hl, hlen, htake⟩ := captureList_spec s h20
    obtain ⟨h1, h2⟩ := writeCapture_spec s (ns := ns) hn
    have hcapd : s.captured n ns = s.writeCapture n ns := if_pos hcap
    have hsize : (s.captureList n).length = l.length + 4 := by rw [hl, List.length_append, leBytes_length]
    have hget : ∀ i, 8 ≤ i → v.aon.retention.get i = (s.writeCapture n ns).aon.retention.get i := fun i hi => by
      rw [hv, hcapd, get_holdDram _ hi]
    refine ⟨l, hlen, ?_, ?_, htake⟩
    · show v.ret 0x220 4 = _
      rw [ret_of_get fun i hi => hget _ (by omega), h1, hsize]
      omega
    · show getBytes v.aon.retention 0x1000 _ = _
      rw [← hl, ← h2, ← hsize]
      exact List.map_congr_left fun i _ => hget _ (by omega)

/-! ### Restart commands -/

theorem dramHeld_setRet (s : State) (o n v : Nat) : (s.setRet o n v).aon.dramHeld = s.aon.dramHeld := rfl

theorem restart_spec (hcore : s.boot.core = .running) (hstop : s.boot.stop = .none) (mode : Nat) :
    (s.restart mode).boot.core = .held ∧ (s.restart mode).boot.cause = 1 ∧
      (s.restart mode).boot.requested = (if mode = 3 then s.boot.onCommand else mode) ∧
      (∀ a, (s.restart mode).rd a = if a = Reg.bootNext then s.rd a else State.reset.rd a) ∧ (s.restart mode).flash = s.flash ∧
      (s.restart mode).fuses = s.fuses ∧ (s.restart mode).aon.dramHeld = (s.dramUp || s.aon.dramHeld) := by
  obtain ⟨honly, -, haon⟩ := stopSteps_spec s
  obtain ⟨v, hv⟩ : ∃ v, v = s.stopSteps.setRet 0x13 1 1 := ⟨_, rfl⟩
  have hvs : State.Only (.aon :: stopParts) s v := hv ▸ (only_setRet _ _ _ (by decide)).mpr honly
  have heq : s.restart mode = { v.coreReset .held with boot.cause := 1, boot.requested := if mode = 3 then s.boot.onCommand else mode } := by
    rw [hv, State.restart, hstop, hcore, if_neg (by decide)]
  rw [heq]
  refine ⟨rfl, rfl, rfl, fun a => ?_, hvs.flash_eq (by decide), hvs.fuses_eq (by decide), ?_⟩
  · show (v.coreReset .held).rd a = _
    rw [rd_coreReset]
    split_ifs with ha
    · rw [ha]
      exact hvs.rd (by decide) (by decide)
    · rfl
  · show v.aon.dramHeld = _
    rw [hv]
    rw [dramHeld_setRet, haon]

/-! ### The security commands -/

/-- The slots revoked one after the other. -/
theorem bitAt_foldl_putBits (l : List Nat) (k : Nat) : ∀ n, bitAt (l.foldl (fun r i => putBits r i i 1) n) k = (bitAt n k || decide (k ∈ l)) := by
  induction l with
  | nil => exact fun n => by simp
  | cons i l ih =>
    intro n
    rw [List.foldl_cons, ih, show (1 : Nat) = b2n true from rfl, bitAt_putBits]
    by_cases hk : k = i
    · simp [hk]
    · simp [hk]

theorem writeKeyRevoke_spec {v : Word} (hkey : Wbits v 31 16 = 0xA5C3) : ∃ m, writeKeyRevoke s v = { s with fuses.revoked := m } ∧
    ∀ k, bitAt m k = (bitAt s.fuses.revoked k || (decide (k < 4) && v.getLsbD k && !(s.imageRuns && k == s.boot.keySlot))) := by
  refine ⟨_, by rw [writeKeyRevoke, if_pos hkey], fun k => ?_⟩
  rw [bitAt_foldl_putBits]
  congr 1
  simp only [setBits, List.mem_filter, bitAt_eq_testBit, BitVec.getLsbD, List.mem_range, Bool.decide_and, Bool.decide_eq_true]

theorem writeConfirm_spec {v : Word} (hv : v.getLsbD 0 = true) (himg : s.imageRuns = true) :
    (writeConfirm s v).boot = { s.boot with confirmed := true } ∧ (writeConfirm s v).attempts (s.fld Reg.bootStatus 25 25) = 0 ∧
      (writeConfirm s v).attempts (1 - s.fld Reg.bootStatus 25 25) = s.attempts (1 - s.fld Reg.bootStatus 25 25) ∧
      (writeConfirm s v).regs = s.regs ∧ (writeConfirm s v).mem = s.mem := by
  have heq : writeConfirm s v = { s with boot.confirmed := true }.setAttempts (s.fld Reg.bootStatus 25 25) 0 := by
    rw [writeConfirm, Wbits_of_getLsbD hv, himg, if_pos (by decide)]
  have hslot := slot_lt s
  rw [heq]
  refine ⟨rfl, ?_, ?_, rfl, rfl⟩
  · rw [State.attempts, State.setAttempts, ret_setRet_same]; rfl
  · rw [State.attempts, State.setAttempts, ret_setRet_other _ (by omega)]; rfl

end

/-- Settles O30: a stop's beginning from what it notes, freezes and stomps; its end from the reset of the core. -/
theorem faultStopsAndRestarts : Obligations.FaultStopsAndRestarts := by
  intro s hcore started
  refine ⟨?_, ?_, ?_, fun n ns hstop hchans => faultCaptureClose_spec hcore hstop hchans n ns, fun acc v hreach hkey => ⟨fun hstop => ?_, fun hstop => ?_⟩,
    fun acc v hreach hkey => ?_, fun acc v hreach hkey => ?_, fun acc v hreach hv himg => ?_, fun acc v hreach hv => ?_⟩
  · intro hstop himg hconf hs hrun
    have hg : (s.coreUp && s.imageRuns && !s.boot.confirmed && s.boot.confirmS != 0 && decide (s.boot.confirmS * 1000000000 ≤ s.boot.runNs)) = true := by
      simp [coreUp_of_boot hcore hstop, himg, hconf, hs, hrun]
    exact ⟨s.beginStop { cause := 6, base := 0x20000 },
      by rw [exec_confirmTimeout, execConfirmTimeout, hg, occurs, if_pos rfl, faultStop_begins hcore hstop],
      beginStop_started hcore { cause := 6, base := 0x20000 } rfl (by decide) rfl,
      beginStop_attempts { cause := 6, base := 0x20000 } rfl hconf himg (by decide) (by decide)⟩
  · intro hstop hon htime hfloor
    have hg : (s.coreUp && s.bit Reg.bootSyswd 31 && decide (max (s.wdTimeout * 1000000) s.boot.wdFloor ≤ s.boot.wdNs)) = true := by
      simp [coreUp_of_boot hcore hstop, hon, State.wdTimeout, htime, hfloor]
    exact ⟨s.beginStop { cause := 5, base := 0x20000 },
      by rw [exec_syswdExpire, execSyswdExpire, hg, occurs, if_pos rfl, faultStop_begins hcore hstop],
      beginStop_started hcore { cause := 5, base := 0x20000 } rfl (by decide) rfl⟩
  · intro hstop hon hhalf htime
    exact syswdHalf_spec (by simp [State.coreUp, hcore, hstop]) hon hhalf htime
  · obtain ⟨h1, h2, h3, h4, h5, h6, h7⟩ := restart_spec hcore hstop (Wbits v 1 0)
    refine ⟨s.restart (Wbits v 1 0), ?_, h1, h2, h3, h4, h5, h6, h7⟩
    rw [exec_restartCommand, execRestartCommand, writeRow_reaches hreach (by simpa using hreach.1) (by simpa using hkey) _, writeRestart, if_pos hkey]
  · rw [exec_restartCommand, execRestartCommand, writeRow_reaches hreach (by simpa using hreach.1) (by simpa using hkey) _, writeRestart, if_pos hkey,
      State.restart, if_pos (by simp [hstop])]
  · rw [exec_svnRaise, execSvnRaise, writeRow_reaches hreach (by simpa using hreach.1) (by simpa using hkey) _, writeSvnRaise, if_pos hkey]
  · obtain ⟨m, hm, hbits⟩ := writeKeyRevoke_spec (s := s) hkey
    exact ⟨m, by rw [exec_keyRevoke, execKeyRevoke, writeRow_reaches hreach (by simpa using hreach.1) (by simpa using hkey) _, hm], hbits⟩
  · exact ⟨_, by rw [exec_confirm, execConfirm, writeRow_reaches hreach (by simpa using hreach.1) (by simpa using Wbits_of_getLsbD hv) _],
      writeConfirm_spec hv himg⟩
  · rw [exec_syswdKick, execSyswdKick, writeRow_reaches hreach (by simpa using hreach.1) (by simpa using Wbits_of_getLsbD hv) _, writeSyswdKick,
      if_pos (Wbits_of_getLsbD hv), State.wdRestart]

end Sys2Proof.Machine
end

section
/-! PROOFS. Orderly stops, power fail and what ends them (R53, R67, R71, R75–R81, R93, R148). -/
namespace Sys2Proof.Machine

section
variable (s : State)

theorem exec_brownOut (vrms freq heldMs : Nat) : exec (.brownOut vrms freq heldMs) s = execBrownOut vrms freq heldMs s := rfl
theorem exec_thermalStop (tj : Int) : exec (.thermalStop tj) s = execThermalStop tj s := rfl
theorem exec_orderlyStopCoreOff : exec .orderlyStopCoreOff s = execOrderlyStopCoreOff s := rfl
theorem exec_orderlyRestart (vrms freq : Nat) (inlet diode : Int) (heldMs : Nat) :
    exec (.orderlyRestart vrms freq inlet diode heldMs) s = execOrderlyRestart vrms freq inlet diode heldMs s := rfl
theorem exec_powerFail (lostMs : Nat) : exec (.powerFail lostMs) s = execPowerFail lostMs s := rfl
theorem exec_alwaysOnStoreExhausted (heldMs : Nat) : exec (.alwaysOnStoreExhausted heldMs) s = execAlwaysOnStoreExhausted heldMs s := rfl
theorem exec_relayClose (vrms heldMs : Nat) (bootsel : Bool) :
    exec (.relayClose vrms heldMs bootsel) s = execRelayClose vrms heldMs bootsel s := rfl
theorem exec_lampTestEnd : exec .lampTestEnd s = execLampTestEnd s := rfl

end

section
variable {s t : State} {l : List Part}

/-! ### The header entries discarded -/

theorem only_sliceDone (k : Nat) (h : [.hdg] ⊆ l) : State.Only l s (t.sliceDone k) ↔ State.Only l s t := only_set_hdg _ h

theorem slices_sliceDone (s : State) (k i : Nat) : (s.sliceDone k).hdg.slices.get i = if i = k then {} else s.hdg.slices.get i :=
  SMap.get_set ..

theorem queue_foldl_sliceDone (ks : List Nat) : ∀ s : State, (ks.foldl State.sliceDone s).hdg.queue = s.hdg.queue := by
  induction ks with
  | nil => exact fun _ => rfl
  | cons k ks ih => exact fun s => ih (s.sliceDone k)

/-- With every taken slice done, none is taken. -/
theorem notTaken_foldl_sliceDone (ks : List Nat) {i : Nat} : ∀ s : State, i ∈ ks ∨ (s.hdg.slices.get i).st ≠ .taken →
    ((ks.foldl State.sliceDone s).hdg.slices.get i).st ≠ .taken := by
  induction ks with
  | nil => exact fun s h => h.resolve_left List.not_mem_nil
  | cons k ks ih =>
    intro s h
    refine ih _ ?_
    rw [slices_sliceDone]
    split_ifs with hk
    · exact .inr (by decide)
    · exact h.imp_left fun hm => (List.mem_cons.mp hm).resolve_left hk

theorem mem_find_of_get {V : Type} [Inhabited V] (m : SMap V) {p : V → Bool} (hd : p default = false) (k : Nat) (h : p (m.get k) = true) :
    k ∈ m.find p :=
  Tests.forallGet m (fun k v => p v = true → k ∈ m.find p)
    (fun e he hp => List.mem_map.mpr ⟨e, List.mem_filter.mpr ⟨he, hp⟩, rfl⟩) (fun _ h => by rw [hd] at h; exact absurd h (by decide)) k h

theorem dropHeaders_spec (s : State) : State.Only [.ctrs, .qm, .bpm, .hdg] s s.dropHeaders ∧ (∀ g, s.dropHeaders.headers g = []) ∧
    ((∀ g < 21, s.headers g = []) → s.dropHeaders.qm = s.qm) := by
  obtain ⟨t, ht⟩ : ∃ t, t = ((List.range 21).flatMap s.headers).foldl State.freePkt s := ⟨_, rfl⟩
  obtain ⟨u, hu⟩ : ∃ u : State, u = { t with hdg.queue := {} } := ⟨_, rfl⟩
  obtain ⟨ks, hks⟩ : ∃ ks, ks = s.hdg.slices.find fun x => x.st == .taken := ⟨_, rfl⟩
  have heq : s.dropHeaders = ks.foldl State.sliceDone u := by rw [hks, hu, ht, State.dropHeaders]
  have hst : State.Only [.ctrs, .qm, .bpm] s t := ht ▸ State.Only.foldl (fun t p => (only_freePkt p (by decide)).mpr (.refl _ _)) _ (.refl _ _)
  have hdone : State.Only [.hdg] u s.dropHeaders := heq ▸ State.Only.foldl (fun t k => (only_sliceDone k (by decide)).mpr (.refl _ _)) ks (.refl _ _)
  have hsu : State.Only [.ctrs, .qm, .bpm, .hdg] s u := hu ▸ (only_set_hdg _ (by decide)).mpr (hst.mono (by decide))
  refine ⟨hsu.trans (hdone.mono (by decide)), fun g => ?_, fun hempty => ?_⟩
  · have hq : s.dropHeaders.hdg.queue = {} := by rw [heq, queue_foldl_sliceDone, hu]
    have hslices : u.hdg.slices = s.hdg.slices := by
      have h := hst.hdg_eq (by decide)
      rw [hu, ← h]
    have hnot : ∀ i, (s.dropHeaders.hdg.slices.get i).st ≠ .taken := fun i => by
      rw [heq]
      refine notTaken_foldl_sliceDone ks u ?_
      by_cases hi : (u.hdg.slices.get i).st = .taken
      · refine .inl ?_
        rw [hks]
        rw [hslices] at hi
        exact mem_find_of_get _ rfl i (by rw [hi]; rfl)
      · exact .inr hi
    rw [State.headers, hq, List.append_eq_nil_iff]
    refine ⟨rfl, ?_⟩
    rw [List.map_eq_nil_iff, List.filter_eq_nil_iff]
    exact fun i _ => by simpa using hnot i
  · have hnil : (List.range 21).flatMap s.headers = [] := List.flatMap_eq_nil_iff.mpr fun g hg => hempty g (List.mem_range.mp hg)
    rw [hdone.qm_eq (by decide), hu, ht, hnil]
    rfl

/-! ### An orderly stop begins -/

theorem beginOrderly_spec (s : State) (cause event : Nat) (he : event = if cause = 7 then 299 else 298) {t : State} (ht : t = s.beginOrderly cause) :
    t.boot = { s.boot with
        stop := .orderly, cause := cause, requested := s.boot.onOrderly, orderlyErr := none, orderlyErrs := 0, stopRun := s.tb.run, settled := false } ∧
      t.bit Reg.hdgStatus 31 = false ∧ s.raised t event ∧ (∀ g < 21, t.headers g = []) ∧ t.mem = s.mem ∧
      ((∀ g < 21, s.headers g = []) → t.qm = s.qm ∧ s.regsRaised t [Reg.hdgStatus] event) := by
  have hev : event < 320 := by rw [he]; split_ifs <;> decide
  obtain ⟨u, hu⟩ : ∃ u, u = s.raiseEvent event := ⟨_, rfl⟩
  obtain ⟨v, hv⟩ : ∃ v, v = u.setBit Reg.hdgStatus 31 false := ⟨_, rfl⟩
  obtain ⟨w, hw⟩ : ∃ w, w = v.dropHeaders := ⟨_, rfl⟩
  have heq : t = { w with
      boot.stop := .orderly, boot.cause := cause, boot.requested := w.boot.onOrderly
      boot.orderlyErr := none, boot.orderlyErrs := 0, boot.stopRun := w.tb.run, boot.settled := false } := by
    rw [ht, hw, hv, hu, he, State.beginOrderly]
  obtain ⟨hdrop, hnone, hqm⟩ := dropHeaders_spec v
  rw [← hw] at hdrop hnone hqm
  have hsv : State.Only [.regs, .ctrs, .block 0x10, .block 0x102, .block 24] s v := by
    rw [hv, hu]
    exact (only_setBit _ _ _ (by decide)).mpr ((only_raiseEvent _ (by decide)).mpr (.refl _ _))
  have hsw := hsv.mono (m := [.regs, .ctrs, .block 0x10, .block 0x102, .block 24, .qm, .bpm, .hdg]) (by decide) |>.trans (hdrop.mono (by decide))
  have hrd : ∀ a, w.rd a = v.rd a := fun a => by rw [State.rd, State.rd, hdrop.regs_eq (by decide)]
  have hrdv : ∀ a, a < 0x700000 → a ≠ Reg.hdgStatus → w.rd a = s.rd a := fun a ha hne => by
    rw [hrd, hv, State.rd_setBit_other _ _ _ _ _ hne, hu, State.rd_raiseEvent _ _ _ ha]
  have hraised : s.raised w event := (hu ▸ State.raised_raiseEvent s hev : s.raised u event).after hev fun a ha _ => by
    rw [hrd, hv, State.rd_setBit_other _ _ _ _ _ (by unfold Reg.hdgStatus; omega)]
  have hheaders : ∀ g, v.headers g = s.headers g := fun g => by rw [State.headers, State.headers, hsv.hdg_eq (by decide)]
  rw [heq]
  refine ⟨?_, ?_, hraised, fun g _ => hnone g, hsw.mem_eq (by decide), fun h => ⟨?_, hraised, fun a ha hal => ?_⟩⟩
  · dsimp only
    rw [hsw.boot_eq (by decide), hsw.tb_eq (by decide)]
  · exact (State.bit_of_rd (hrd _) 31).trans (by rw [hv]; exact State.bit_setBit_same _ _ _ _ (by decide))
  · show w.qm = _
    rw [hqm fun g hg => (hheaders g).trans (h g hg), hsv.qm_eq (by decide)]
  · exact hrdv a ha (by simpa using hal)

/-! ### A condition met in a fault stop -/

theorem bitAt_ret_coincident (s : State) {i : Nat} (hi : i < 32) : bitAt ((s.coincident i).ret 0x228 4) i = true := by
  have hlt : putBits (s.ret 0x228 4) i i 1 < 2 ^ 32 :=
    putBits_lt _ _ _ _ _ (le_refl i) hi (leNat_lt _ |>.trans_eq (by simp [getBytes]))
  rw [State.coincident, ret_setRet_same, Nat.mod_eq_of_lt (by simpa using hlt), show (1 : Nat) = b2n true from rfl, bitAt_putBits, if_pos rfl]

theorem stopCondition_fault (hstop : s.boot.stop = .fault) {i cause : Nat} (hi : i < 32) (hc : cause = i + 7) :
    (s.stopCondition cause).boot.holdRestart = true ∧ bitAt (s.stopCondition cause).boot.holdBits i = true ∧
      (s.stopCondition cause).boot = { s.boot with holdRestart := true, holdBits := (s.stopCondition cause).boot.holdBits } ∧
      (s.boot.capturing = true → bitAt ((s.stopCondition cause).ret 0x228 4) i = true) ∧
      (s.boot.capturing = false → (s.stopCondition cause).aon = s.aon) ∧ (s.stopCondition cause).regs = s.regs := by
  obtain ⟨u, hu⟩ : ∃ u, u = if s.boot.capturing then s.coincident i else s := ⟨_, rfl⟩
  have heq : s.stopCondition cause = { u with boot.holdRestart := true, boot.holdBits := putBits s.boot.holdBits i i 1 } := by
    rw [hu, State.stopCondition, hstop, hc, Nat.add_sub_cancel]
  have huboot : u.boot = s.boot := by rw [hu]; split_ifs <;> rfl
  have huregs : u.regs = s.regs := by rw [hu]; split_ifs <;> rfl
  rw [heq]
  refine ⟨rfl, ?_, ?_, fun h => ?_, fun h => ?_, huregs⟩
  · show bitAt (putBits s.boot.holdBits i i 1) i = true
    rw [show (1 : Nat) = b2n true from rfl, bitAt_putBits, if_pos rfl]
  · dsimp only
    rw [huboot]
  · show bitAt (u.ret 0x228 4) i = true
    rw [hu, if_pos h, bitAt_ret_coincident s hi]
  · show u.aon = _
    rw [hu, h]; rfl

theorem stopCondition_none (hstop : s.boot.stop = .none) (cause : Nat) : s.stopCondition cause = s.beginOrderly cause := by
  rw [State.stopCondition, hstop]

/-! ### The end of an orderly stop -/

theorem only_writeRecord (s : State) (r : RecordBody) (slot seq : Nat) : State.Only [.flash] s (s.writeRecord r slot seq) := by
  simp (disch := decide) only [State.writeRecord, only_set_flash, only_refl]

/-- Bytes written are read back from any of them on. -/
theorem getBytes_putBytes_part (m : SMap Byte) (a : Nat) (p l r : List Byte) : getBytes (putBytes m a (p ++ l ++ r)) (a + p.length) l.length = l := by
  refine List.ext_getElem (by simp [getBytes]) fun i h1 h2 => ?_
  simp only [getBytes, List.getElem_map, List.getElem_range, Nat.add_assoc]
  rw [get_putBytes _ _ _ _ (by simp only [List.length_append]; omega), List.getElem_append_left (by simp only [List.length_append]; omega),
    List.getElem_append_right (by omega)]
  simp only [Nat.add_sub_cancel_left]

theorem writeRecord_kind (s : State) (r : RecordBody) (slot seq : Nat) :
    getBytes (s.writeRecord r slot seq).flash.bytes (0x7800008 + s.flash.nextRecord % 64 * 0x10000) 2 = [BitVec.ofNat 8 r.kind, BitVec.ofNat 8 r.cause] := by
  have hadd : 0x7800008 + s.flash.nextRecord % 64 * 0x10000 =
      0x7800000 + s.flash.nextRecord % 64 * 0x10000 + (leBytes 0x544C4647 4 ++ leBytes s.flash.nextRecord 4).length := by
    rw [List.length_append, leBytes_length, leBytes_length]; omega
  obtain ⟨w, hw⟩ : ∃ w : List Byte, w = [0, 0] ++ leBytes (crc32cStd (s.recordTail r slot seq)) 4 ++ s.recordTail r slot seq := ⟨_, rfl⟩
  have hbytes : (s.writeRecord r slot seq).flash.bytes = putBytes s.flash.bytes (0x7800000 + s.flash.nextRecord % 64 * 0x10000)
      (leBytes 0x544C4647 4 ++ leBytes s.flash.nextRecord 4 ++ [BitVec.ofNat 8 r.kind, BitVec.ofNat 8 r.cause] ++ w) := by
    rw [hw, State.writeRecord]
    simp only [List.append_assoc, List.cons_append, List.nil_append]
  rw [hbytes, hadd]
  exact getBytes_putBytes_part s.flash.bytes _ _ [BitVec.ofNat 8 r.kind, BitVec.ofNat 8 r.cause] w

theorem orderlyEnd_spec (s : State) : s.orderlyEnd.boot.core = .off ∧ s.orderlyEnd.boot.stop = .orderly ∧ s.orderlyEnd.boot.cause = s.boot.cause ∧
      s.orderlyEnd.boot.requested = s.boot.requested ∧
      (∀ a, s.orderlyEnd.rd a = if a = Reg.bootNext then s.rd a else State.reset.rd a) ∧
      s.orderlyEnd.flash.nextRecord = s.flash.nextRecord + 1 ∧
      getBytes s.orderlyEnd.flash.bytes (0x7800000 + s.flash.nextRecord % 64 * 0x10000) 4 = [0x47, 0x46, 0x4C, 0x54] ∧
      getBytes s.orderlyEnd.flash.bytes (0x7800008 + s.flash.nextRecord % 64 * 0x10000) 2 = [1, BitVec.ofNat 8 s.boot.cause] ∧
      s.orderlyEnd.aon.dramHeld = (s.dramUp || s.aon.dramHeld) ∧ s.orderlyEnd.fuses = s.fuses := by
  obtain ⟨honly, hboot, haon⟩ := stopSteps_spec s
  obtain ⟨u, hu⟩ : ∃ u, u = s.stopSteps := ⟨_, rfl⟩
  obtain ⟨r, hr, hrk, hrc⟩ : ∃ r : RecordBody, r = { kind := 1, cause := u.boot.cause, summary := u.orderlySummary } ∧ r.kind = 1 ∧ r.cause = u.boot.cause :=
    ⟨_, rfl, rfl, rfl⟩
  obtain ⟨v, hv⟩ : ∃ v, v = u.writeRecord r (u.fld Reg.bootStatus 25 25) u.runningSeq := ⟨_, rfl⟩
  obtain ⟨w, hw⟩ : ∃ w, w = v.setRet 0x13 1 v.boot.cause := ⟨_, rfl⟩
  have heq : s.orderlyEnd = { w.coreReset .off with boot.stop := .orderly } := by rw [hw, hv, hr, hu, State.orderlyEnd]
  rw [← hu] at honly hboot haon
  have hflash := honly.flash_eq (by decide)
  have hucause : u.boot.cause = s.boot.cause := by rw [hboot]
  obtain ⟨w1, w2, w3, -, w4⟩ := writeRecord_spec u r (u.fld Reg.bootStatus 25 25) u.runningSeq
  have w5 := writeRecord_kind u r (u.fld Reg.bootStatus 25 25) u.runningSeq
  rw [← hv] at w1 w2 w3 w4 w5
  have huv : State.Only [.flash] u v := hv ▸ only_writeRecord u r _ _
  have hvboot := huv.boot_eq (by decide)
  have hwboot : w.boot = { s.boot with settled := true } := by rw [hw, State.setRet_boot, hvboot, hboot]
  have hwflash : w.flash = v.flash := by rw [hw, State.setRet_flash]
  rw [heq]
  rw [hflash] at w1 w2 w5
  refine ⟨rfl, rfl, (congrArg Boot.cause hwboot :), (congrArg Boot.requested hwboot :), fun a => ?_, ?_, ?_, ?_, ?_, ?_⟩
  · show (w.coreReset .off).rd a = _
    rw [rd_coreReset]
    split_ifs with ha
    · have hrd : w.rd a = u.rd a := by rw [State.rd, State.rd, hw, State.setRet_regs, w3]
      rw [hrd, ha]
      exact honly.rd (by decide) (by decide)
    · rfl
  · show w.flash.nextRecord = _
    rw [hwflash, w1]
  · show getBytes w.flash.bytes _ 4 = _
    rw [hwflash, w2]
  · show getBytes w.flash.bytes _ 2 = _
    rw [hwflash, w5, hrk, hrc, hucause]
    rfl
  · show w.aon.dramHeld = _
    rw [hw, dramHeld_setRet, w4, haon]
  · show w.fuses = _
    rw [hw, State.setRet_fuses, huv.fuses_eq (by decide)]
    exact honly.fuses_eq (by decide)

/-! ### Power fail -/

theorem State.rd_of_regs (h : t.regs = s.regs) (a : Nat) : t.rd a = s.rd a := by rw [State.rd, State.rd, h]

theorem drawBytes_spec (n : Nat) : ∀ s : State, State.Only [.freeCtr] s (drawBytes n s).2 ∧ s.freeCtr ≤ (drawBytes n s).2.freeCtr := by
  induction n with
  | zero => exact fun s => ⟨.refl _ _, le_refl _⟩
  | succ n ih =>
    intro s
    obtain ⟨h1, h2⟩ := ih (s.draw 8).2
    exact ⟨((only_set_freeCtr _ (by decide)).mpr (.refl _ _)).trans h1, (Nat.le_succ _).trans h2⟩

/-- The state the power-fail path finds: the timekeeper saved, a fault stop's summary told. -/
def State.failing (s : State) : State :=
  let u := if s.boot.core = .running then { s with aon.timekeeper := s.total } else s
  if u.boot.stop = .fault ∧ u.boot.capturing then u.coincident 2 else u

theorem failing_spec (s : State) : State.Only [.aon] s s.failing ∧ s.failing.aon.timekeeper = if s.boot.core = .running then s.total else s.aon.timekeeper := by
  unfold State.failing
  dsimp only
  split_ifs
  · exact ⟨(only_setRet _ _ _ (by decide)).mpr ((only_set_aon _ (by decide)).mpr (.refl _ _)), rfl⟩
  · exact ⟨(only_set_aon _ (by decide)).mpr (.refl _ _), rfl⟩
  · exact ⟨(only_setRet _ _ _ (by decide)).mpr (.refl _ _), rfl⟩
  · exact ⟨.refl _ _, rfl⟩

/-- The retention RAM with the note of a power fail in it. -/
def State.powerNoted (s : State) : State :=
  (({ (drawBytes 256 s).2 with aon.retention := putBytes (drawBytes 256 s).2.aon.retention 0x100 (drawBytes 256 s).1 }.setRetFlag retNote true).setRetFlag
    retHeld false).setRet 0x13 1 9

theorem timekeeper_setRetFlag (s : State) (i : Nat) (b : Bool) : (s.setRetFlag i b).aon.timekeeper = s.aon.timekeeper := rfl

theorem powerNoted_spec (s : State) : State.Only [.freeCtr, .aon] s s.powerNoted ∧ s.powerNoted.aon.timekeeper = s.aon.timekeeper ∧
    s.powerNoted.retFlag retNote = true ∧ s.powerNoted.retFlag retHeld = false ∧ s.freeCtr ≤ s.powerNoted.freeCtr := by
  obtain ⟨h1, h2⟩ := drawBytes_spec 256 s
  obtain ⟨d, hd⟩ : ∃ d, d = drawBytes 256 s := ⟨_, rfl⟩
  obtain ⟨u, hu⟩ : ∃ u : State, u = { d.2 with aon.retention := putBytes d.2.aon.retention 0x100 d.1 } := ⟨_, rfl⟩
  obtain ⟨v, hv⟩ : ∃ v, v = (u.setRetFlag retNote true).setRetFlag retHeld false := ⟨_, rfl⟩
  have heq : s.powerNoted = v.setRet 0x13 1 9 := by rw [hv, hu, hd, State.powerNoted]
  rw [← hd] at h1 h2
  have hflag : ∀ i, (v.setRet 0x13 1 9).retFlag i = v.retFlag i := fun i => congrArg (bitAt · i) (ret_setRet_other _ (by decide))
  rw [heq]
  refine ⟨?_, ?_, ?_, ?_, ?_⟩
  · rw [hv, hu]
    exact (only_setRet _ _ _ (by decide)).mpr ((only_setRetFlag _ _ (by decide)).mpr ((only_setRetFlag _ _ (by decide)).mpr
      ((only_set_aon _ (by decide)).mpr (h1.mono (by decide)))))
  · show v.aon.timekeeper = _
    rw [hv, timekeeper_setRetFlag, timekeeper_setRetFlag, hu, ← h1.aon_eq (by decide)]
  · rw [hflag, hv, retFlag_setRetFlag _ _ _ _ (by decide), if_neg (by decide), retFlag_setRetFlag _ _ _ _ (by decide), if_pos rfl]
  · rw [hflag, hv, retFlag_setRetFlag _ _ _ _ (by decide), if_pos rfl]
  · show s.freeCtr ≤ v.freeCtr
    have hvd : State.Only [.aon] d.2 v := by
      rw [hv, hu]
      exact (only_setRetFlag _ _ (by decide)).mpr ((only_setRetFlag _ _ (by decide)).mpr ((only_set_aon _ (by decide)).mpr (.refl _ _)))
    rw [hvd.freeCtr_eq (by decide)]
    exact h2

theorem powerFail_spec (s : State) {t : State} (ht : t = s.powerFail) : t.supply.on = false ∧ t.boot.core = .off ∧ t.boot.cause = 9 ∧
      t.boot.requested = 0 ∧ t.boot.stop = .none ∧ t.retFlag retNote = true ∧ t.retFlag retHeld = false ∧ t.aon.dramHeld = false ∧
      (s.boot.core = .running → t.aon.timekeeper = s.total) ∧ (s.boot.core ≠ .running → t.aon.timekeeper = s.aon.timekeeper) ∧
      (∀ a, t.rd a = if a = Reg.bootNext then s.rd a else State.reset.rd a) ∧ (∀ a, t.mem.get a = 0) ∧ t.flash = s.flash ∧
      t.fuses = s.fuses ∧ s.freeCtr ≤ t.freeCtr := by
  obtain ⟨f1, f2⟩ := failing_spec s
  obtain ⟨n1, n2, n3, n4, n5⟩ := powerNoted_spec s.failing
  obtain ⟨u, hu⟩ : ∃ u, u = s.failing.powerNoted := ⟨_, rfl⟩
  rw [← hu] at n1 n2 n3 n4 n5
  obtain ⟨v, hv⟩ : ∃ v : State, v = { u with
    boot.cause := 9, boot.requested := 0, boot.holdRestart := false, boot.holdBits := 0, boot.lampTest := false, aon.dramHeld := false } := ⟨_, rfl⟩
  obtain ⟨x, hx, hon⟩ : ∃ x : Supply, t = { v.coreReset .off with supply := x } ∧ x.on = false := by
    refine ⟨{ on := false, relayOpen := v.supply.relayOpen, bins := v.flash.bins, today := v.supply.today
              cages := ⟨v.supply.cages.entries.map fun e => (e.1, { present := e.2.present, cmis := e.2.cmis })⟩ }, ?_, rfl⟩
    rw [ht, hv, hu, State.powerFail, State.powerNoted, State.failing]
  have hsu := (f1.mono (m := [.freeCtr, .aon]) (by decide)).trans n1
  have htime : t.aon.timekeeper = if s.boot.core = .running then s.total else s.aon.timekeeper := by
    rw [hx]
    show v.aon.timekeeper = _
    rw [hv, ← f2, ← n2]
  have hflag : ∀ i, t.retFlag i = u.retFlag i := fun i => by rw [hx, hv]; rfl
  refine ⟨?_, ?_, ?_, ?_, ?_, (hflag _).trans n3, (hflag _).trans n4, ?_, fun h => htime.trans (if_pos h), fun h => htime.trans (if_neg h),
    fun a => ?_, fun a => ?_, ?_, ?_, ?_⟩
  · rw [hx]; exact hon
  · rw [hx]; rfl
  · rw [hx, hv]; rfl
  · rw [hx, hv]; rfl
  · rw [hx]; rfl
  · rw [hx, hv]; rfl
  · have hrd : v.rd a = s.rd a := State.rd_of_regs (by rw [hv]; exact hsu.regs_eq (by decide)) a
    rw [hx]
    show (v.coreReset .off).rd a = _
    rw [rd_coreReset, hrd]
  · rw [hx]
    show v.memKept.get a = _
    rw [get_memKept, hv, if_neg (by simp)]
  · rw [hx, hv]; exact hsu.flash_eq (by decide)
  · rw [hx, hv]; exact hsu.fuses_eq (by decide)
  · rw [hx, hv]
    rw [f1.freeCtr_eq (by decide)] at n5
    exact n5

end

/-! ### What ends a stop -/

section
variable {s : State}

theorem mainsReturn_noted (halive : s.aon.alive = true) (hnote : s.retFlag retNote = true) (v : Nat) (b : Bool) : s.mainsReturn v b =
    { s with supply.on := true, supply.relayOpen := false, supply.vrms := v, boot.core := .held } := by
  unfold State.mainsReturn
  exact if_pos (by rw [halive]; exact hnote)

theorem orderlyRestart_spec {vrms freq ms : Nat} {inlet diode : Int} (hon : s.supply.on = true) (hstop : s.boot.stop = .orderly)
    (hcore : s.boot.core = .off) (hhold : s.boot.holdRestart = false) (hcause : s.boot.cause = 7 ∨ s.boot.cause = 8) :
    exec (.orderlyRestart vrms freq inlet diode ms) s = .next
      (if (s.boot.cause = 7 ∧ 8500 ≤ vrms ∧ vrms ≤ 26500 ∧ 470 ≤ freq ∧ freq ≤ 630 ∧ 2000 ≤ ms) ∨
          (s.boot.cause = 8 ∧ inlet ≤ 400 ∧ diode ≤ 900 ∧ 60000 ≤ ms)
       then { s with boot.stop := .none, boot.core := .held, boot.holdBits := 0 } else s) := by
  have hboot : ({ s with boot.stop := .none, boot.core := .held, boot.holdRestart := false, boot.holdBits := 0 } : State) =
      { s with boot.stop := .none, boot.core := .held, boot.holdBits := 0 } := by rw [← hhold]
  rw [exec_orderlyRestart, execOrderlyRestart]
  simp only [hhold, hboot, occurs, hon, hstop, hcore, Bool.false_eq_true, if_false]
  congr 1
  refine if_congr ?_ rfl rfl
  rcases hcause with h | h
  · simp [h, restartCondition, and_assoc]
  · simp [h, restartCondition, and_assoc]

end

/-! ### The obligation -/

theorem powerFails_of {s : State} {ms : Nat} (hcond : s.supply.relayOpen = true ∨
      (if s.supply.charged = false then 0 else if s.supply.dcW ≤ 5000 then 20 else 10) < ms ∨
        100 ≤ s.supply.over900Ms ∨ (s.boot.stop = .orderly ∧ s.boot.core = .running ∧ s.supply.vrms < 6000)) : s.powerFails ms = true := by
  simp only [State.powerFails, Bool.or_eq_true, decide_eq_true_eq, Bool.and_eq_true, beq_iff_eq, Supply.holdUpMs, Bool.not_eq_true', State.stopFed,
    Bool.and_eq_false_iff, decide_eq_false_iff_not, not_le]
  rcases hcond with h | h | h | ⟨h1, h2, h3⟩
  · exact .inl (.inl (.inl h))
  · exact .inl (.inl (.inr h))
  · exact .inl (.inr h)
  · exact .inr ⟨⟨h1, h2⟩, .inr h3⟩

/-- Settles O31: each stop from what its beginning discards, what its end records and what the reset keeps. -/
theorem orderlyStopsAndPowerFail : Obligations.OrderlyStopsAndPowerFail := by
  intro s stopped
  refine ⟨?_, ?_, ?_, ?_, ?_, ?_, ?_, ?_⟩
  · intro vrms freq ms hon hcore hms hin
    have hg : (s.supply.on && s.boot.core == .running && decide (200 < ms) &&
        (decide (vrms < 7500) || decide (freq < 470) || decide (630 < freq))) = true := by
      simpa [hon, hcore, hms, or_assoc] using hin
    have hexec : exec (.brownOut vrms freq ms) s = .next (s.stopCondition 7) := by rw [exec_brownOut, execBrownOut, hg, occurs, if_pos rfl]
    exact ⟨fun hstop => ⟨_, hexec, beginOrderly_spec s 7 299 rfl (stopCondition_none hstop 7)⟩,
      fun hstop => ⟨_, hexec, stopCondition_fault hstop (by decide) rfl⟩⟩
  · intro tj hon hcore htj
    have hg : (s.supply.on && s.boot.core == .running && decide (1200 ≤ tj)) = true := by simp [hon, hcore, htj]
    have hexec : exec (.thermalStop tj) s = .next (s.stopCondition 8) := by rw [exec_thermalStop, execThermalStop, hg, occurs, if_pos rfl]
    exact ⟨fun hstop => ⟨_, hexec, beginOrderly_spec s 8 298 rfl (stopCondition_none hstop 8)⟩,
      fun hstop => ⟨_, hexec, stopCondition_fault hstop (by decide) rfl⟩⟩
  · intro hstop hcore hrelay hv
    have hg : (s.boot.stop == .orderly && s.boot.core == .running && s.stopFed) = true := by simp [hstop, hcore, State.stopFed, hrelay, hv]
    exact ⟨_, by rw [exec_orderlyStopCoreOff, execOrderlyStopCoreOff, hg, occurs, if_pos rfl], orderlyEnd_spec s⟩
  · intro vrms freq inlet diode ms hon hstop hcore hhold hcause
    exact orderlyRestart_spec hon hstop hcore hhold hcause
  · intro ms hon hcond
    exact ⟨_, by rw [exec_powerFail, execPowerFail, powerFails_of hcond, hon, Bool.and_self, occurs, if_pos rfl], powerFail_spec s rfl⟩
  · intro ms hoff halive hms
    have hg : (!s.supply.on && s.aon.alive && decide (60000 ≤ ms)) = true := by simp [hoff, halive, hms]
    refine ⟨{ s with aon := { alive := false }, regs := ⟨s.regs.entries.filter fun e => e.1 != Reg.bootNext⟩ },
      by rw [exec_alwaysOnStoreExhausted, execAlwaysOnStoreExhausted, hg, occurs, if_pos rfl], rfl, fun a => ?_, rfl, rfl⟩
    show (smapFind (s.regs.entries.filter fun e => e.1 != Reg.bootNext) a).getD (resetOf a) = _
    rw [smapFind_filter (fun k => k != Reg.bootNext)]
    by_cases ha : a = Reg.bootNext
    · rw [if_neg (by simpa using ha), if_pos ha]; rfl
    · rw [if_pos (by simpa using ha), if_neg ha]; rfl
  · intro v ms b hopen h1 h2 hms
    have hexec : exec (.relayClose v ms b) s = .next
        (if s.supply.on then { s with supply.relayOpen := false, supply.vrms := v } else s.mainsReturn v b) := by
      have hg : (s.supply.relayOpen && decide (8500 ≤ v) && decide (v ≤ 26500) && decide (2000 ≤ ms)) = true := by simp [hopen, h1, h2, hms]
      rw [exec_relayClose, execRelayClose, hg, occurs, if_pos rfl]
    exact ⟨fun hon => by rw [hexec, if_pos hon], fun hoff halive hnote => by rw [hexec, hoff, mainsReturn_noted halive hnote]; rfl⟩
  · intro h
    rw [exec_lampTestEnd, execLampTestEnd, h, occurs, if_pos rfl]

end Sys2Proof.Machine
end

section
/-! PROOFS. Port states: a lateral link that leaves service reports a table change on the link the table names, and nothing keeps
that number below 4. -/
namespace Sys2Proof.Machine

/-- Lateral port P128 is up and its link in service; member 1 has been learnt over "link" 4668, whose table-change event is
18946, routed to target 0. -/
def strayLink : State :=
  let s : State := { State.reset with
    boot.core := .running
    ports := SMap.set {} 128 { state := 5 }
    stk.links := SMap.set {} 0 { state := 3 }
    stk.learnt := SMap.set {} 9 { valid := true, link := 4668, serial := 7 } }
  ((s.wr Reg.stkCtrl 0x40000000).setBit (Reg.stkLinkCfg 0) 31 true).wr (Reg.evcRoute 18946) 1

/-- RAISED of the port group's event after the port has gone down. -/
def raisedOnLoss : Option Word :=
  match exec (.linkLoss 128) strayLink with
  | .next t => some (t.rd (Reg.evcRaised 80))
  | _ => none

/-- The pending bit of event 18946 is bit 2 of RAISED of event 80. -/
theorem raisedOnLoss_eq : raisedOnLoss = some 5 := by decide +kernel

/-- Refutes O42: P128 goes down with its link in service; the table-change event on "link" 4668 sets a bit in the RAISED count
of the port group's own event, which so goes from 0 to 5. -/
theorem not_portStates : ¬ Obligations.PortStates := by
  unfold Obligations.PortStates
  intro h
  obtain ⟨-, -, -, -, -, -, -, -, hloss, -⟩ := h strayLink 128 16 0 (by decide +kernel) (by decide) (by decide) (by decide)
  obtain ⟨t, ht, -, -, hup, -⟩ := hloss (.inl (by decide +kernel))
  obtain ⟨⟨-, hraised, -⟩, -⟩ := hup (by decide +kernel)
  have hcount : raisedOnLoss = some (t.rd (Reg.evcRaised 80)) := by rw [raisedOnLoss, ht]
  rw [raisedOnLoss_eq, hraised (by decide)] at hcount
  exact absurd hcount (by decide +kernel)

end Sys2Proof.Machine
end

section
/-! PROOFS. The buffer pool manager: what taking, freeing and building do, and the obligation on its commands (R605–R623). -/
namespace Sys2Proof.Machine

section
variable (s : State)

theorem exec_bpmCmdAlloc (acc : Nat) (v : Word) : exec (.bpmCmdAlloc acc v) s = execBpmCmdAlloc acc v s := rfl
theorem exec_bpmCmdFree (acc : Nat) (v : Word) : exec (.bpmCmdFree acc v) s = execBpmCmdFree acc v s := rfl
theorem exec_bpmCmdHandover (acc : Nat) (v : Word) : exec (.bpmCmdHandover acc v) s = execBpmCmdHandover acc v s := rfl
theorem exec_bpmCmdShare (acc : Nat) (v : Word) : exec (.bpmCmdShare acc v) s = execBpmCmdShare acc v s := rfl
theorem exec_poolInit (acc : Nat) (v : Word) : exec (.poolInit acc v) s = execPoolInit acc v s := rfl
theorem exec_poolInitDone (pool : Nat) : exec (.poolInitDone pool) s = execPoolInitDone pool s := rfl

end

section
variable {s t u : State} {o k i n h : Nat}

/-! ### What reads the pools alone -/

theorem pool_setPool (s : State) (k j : Nat) (p : Pool) : (s.setPool k p).pool j = if j = k then p else s.pool j := SMap.get_set ..

theorem buf_setBuf (s : State) (k i x y : Nat) (b : Buf) : (s.setBuf k i b).buf x y = if bufKey x y = bufKey k i then b else s.buf x y :=
  SMap.get_set ..

theorem held_setHeld (s : State) (o k o' n : Nat) : (s.setHeld o k n).held o' k = if o' = o then n else s.held o' k := by
  rw [State.held, State.setHeld, State.held]
  refine (SMap.get_set ..).trans (if_congr ⟨fun h => by omega, fun h => by rw [h]⟩ rfl rfl)

theorem pool_of_bpm (hb : t.bpm = s.bpm) (k : Nat) : t.pool k = s.pool k := by rw [State.pool, State.pool, hb]
theorem buf_of_bpm (hb : t.bpm = s.bpm) (k i : Nat) : t.buf k i = s.buf k i := by rw [State.buf, State.buf, hb]
theorem held_of_bpm (hb : t.bpm = s.bpm) (o k : Nat) : t.held o k = s.held o k := by rw [State.held, State.held, hb]
theorem poolCount_of_bpm (hb : t.bpm = s.bpm) (k : Nat) : t.poolCount k = s.poolCount k := by rw [State.poolCount, State.poolCount, hb, pool_of_bpm hb]
theorem poolFree_of_bpm (hb : t.bpm = s.bpm) (k : Nat) : t.poolFree k = s.poolFree k := by
  rw [State.poolFree, State.poolFree, pool_of_bpm hb, poolCount_of_bpm hb, State.badBelow, State.badBelow, hb]
theorem handleBuf_of_bpm (hb : t.bpm = s.bpm) (h : Nat) : t.handleBuf h = s.handleBuf h := by
  rw [State.handleBuf, State.handleBuf]
  simp only [poolCount_of_bpm hb]

theorem mayTake_of_rd (hb : t.bpm = s.bpm) (hrd : ∀ a, 0x4C2000 ≤ a → a < 0x700000 → t.rd a = s.rd a) (ho : o < 64) (hk : k < 8) :
    t.mayTake o k = s.mayTake o k := by
  have hmin : ∀ p, p < 64 → t.ownMin p k = s.ownMin p k := fun p hp =>
    State.fld_of_rd (hrd _ (by unfold Reg.bpmOwnMin; omega) (by unfold Reg.bpmOwnMin; omega)) _ _
  have hmax : t.fld (Reg.bpmOwnMax o k) 23 0 = s.fld (Reg.bpmOwnMax o k) 23 0 :=
    State.fld_of_rd (hrd _ (by unfold Reg.bpmOwnMax; omega) (by unfold Reg.bpmOwnMax; omega)) _ _
  have hunmet : ((List.range 64).map fun p => t.ownMin p k - t.held p k) = (List.range 64).map fun p => s.ownMin p k - s.held p k :=
    List.map_congr_left fun p hp => by rw [hmin p (List.mem_range.mp hp), held_of_bpm hb]
  rw [State.mayTake, State.mayTake, poolFree_of_bpm hb, held_of_bpm hb, hmin o ho, State.ownMax, State.ownMax, hmax, poolCount_of_bpm hb,
    State.sharedFree, State.sharedFree, poolFree_of_bpm hb, hunmet]

/-! ### Taking and returning -/

/-- A step of the buffer pool manager: its own state, its counters, and its events. -/
structure BpmStep (s t : State) : Prop where
  only : State.Only [.regs, .ctrs, .bpm, .block 258] s t
  rd : ∀ a, a < 0x700000 → a ≠ Reg.bpmEvents → t.rd a = s.rd a

theorem BpmStep.of_eq {b : BufferPools} {c : SMap Nat} (h : t = { s with bpm := b, ctrs := c }) : BpmStep s t := by
  rw [h]
  exact ⟨(only_set_bpm (t := { s with ctrs := c }) _ (by decide)).mpr ((only_set_ctrs _ (by decide)).mpr (.refl _ _)), fun _ _ _ => rfl⟩

theorem BpmStep.trans (h : BpmStep s t) (k : BpmStep t u) : BpmStep s u :=
  ⟨h.only.trans k.only, fun a ha hne => (k.rd a ha hne).trans (h.rd a ha hne)⟩

theorem BpmStep.setEvent (s : State) {b n : Nat} : BpmStep s (s.setEvent Reg.bpmEvents b n) :=
  ⟨(only_setEvent _ _ _ (by decide) (by decide)).mpr (.refl _ _), fun a ha hne => by
    rw [State.rd_setEvent _ _ _ _ _ ha, State.rd_setBit_other _ _ _ _ _ hne]⟩

/-- A low-water event changes the pool's `fired` alone. -/
theorem lowWater_spec (s : State) (k : Nat) : BpmStep s (s.lowWater k) ∧ (∀ j, (s.lowWater k).pool j = if j = k then { s.pool k with fired := ((s.lowWater k).pool k).fired } else s.pool j) ∧
    (s.lowWater k).bpm.bufs = s.bpm.bufs ∧ (s.lowWater k).bpm.held = s.bpm.held ∧ ∀ c, c < 0x740000 → (s.lowWater k).ctr c = s.ctr c := by
  unfold State.lowWater
  dsimp only
  split_ifs
  · have hstep : BpmStep s (s.setPool k { s.pool k with fired := true }) := BpmStep.of_eq rfl
    refine ⟨hstep.trans (BpmStep.setEvent _), fun j => ?_, ?_, ?_, fun c hc => ?_⟩
    · rw [pool_of_bpm (State.setEvent_bpm _ _ _ _), pool_of_bpm (State.setEvent_bpm _ _ _ _), pool_setPool, pool_setPool, if_pos rfl]
    · rw [State.setEvent_bpm]; rfl
    · rw [State.setEvent_bpm]; rfl
    · rw [State.setEvent, State.ctr_raiseEvent _ _ _ hc]; rfl
  · refine ⟨BpmStep.of_eq rfl, fun j => ?_, rfl, rfl, fun _ _ => rfl⟩
    split_ifs with hj
    · rw [hj]
    · rfl

theorem lowRearm_spec (s : State) (k : Nat) : BpmStep s (s.lowRearm k) ∧ (∀ j, (s.lowRearm k).pool j = if j = k then { s.pool k with fired := ((s.lowRearm k).pool k).fired } else s.pool j) ∧
    (s.lowRearm k).bpm.bufs = s.bpm.bufs ∧ (s.lowRearm k).bpm.held = s.bpm.held ∧ (s.lowRearm k).ctrs = s.ctrs ∧ (s.lowRearm k).regs = s.regs := by
  unfold State.lowRearm
  dsimp only
  split_ifs
  · refine ⟨BpmStep.of_eq rfl, fun j => ?_, rfl, rfl, rfl, rfl⟩
    rw [pool_setPool, pool_setPool, if_pos rfl]
  · refine ⟨BpmStep.of_eq rfl, fun j => ?_, rfl, rfl, rfl, rfl⟩
    split_ifs with hj
    · rw [hj]
    · rfl

/-- A buffer taken: the head of the free list, its owner charged. -/
theorem takeBuffer_spec (ho : o < 64) (hk : 1 ≤ k) (hmay : s.mayTake o k = true) : ∃ n t, s.takeBuffer o k = some (n, t) ∧ BpmStep s t ∧
    ((s.pool k).freed.head? = some n ∨ (s.pool k).freed = [] ∧ n = (s.pool k).next) ∧ t.held o k = s.held o k + 1 ∧ t.bpm.bufs = s.bpm.bufs ∧
    t.ctr (Reg.bpmOwnCnt o 0) = (s.ctr (Reg.bpmOwnCnt o 0) + 1) % 2 ^ 64 := by
  have hfree : s.poolFree k ≠ 0 := fun h => by rw [State.mayTake, if_pos h] at hmay; exact absurd hmay (by decide)
  obtain ⟨n, p, hhead, hn⟩ : ∃ n p, s.takeHead k = some (n, s.setPool k p) ∧
      ((s.pool k).freed.head? = some n ∨ (s.pool k).freed = [] ∧ n = (s.pool k).next) := by
    unfold State.takeHead
    rw [if_neg hfree]
    dsimp only
    split
    next b r hfreed => exact ⟨b, _, rfl, .inl (by rw [hfreed]; rfl)⟩
    next hfreed => exact ⟨_, _, rfl, .inr ⟨hfreed, if_neg (by omega)⟩⟩
  obtain ⟨u, hu⟩ : ∃ u, u = ((s.setPool k p).setHeld o k ((s.setPool k p).held o k + 1)).bump (Reg.bpmOwnCnt o 0) 1 := ⟨_, rfl⟩
  obtain ⟨hstep, -, hbufs, hheld, hctr⟩ := lowWater_spec u k
  refine ⟨n, u.lowWater k, ?_, BpmStep.trans (hu ▸ BpmStep.of_eq rfl) hstep, hn, ?_, ?_, ?_⟩
  · rw [State.takeBuffer, if_pos hmay, hhead, hu]
  · rw [State.held, hheld, hu]
    exact (held_setHeld ..).trans (if_pos rfl)
  · rw [hbufs, hu]; rfl
  · rw [hctr _ (by unfold Reg.bpmOwnCnt; omega), hu, State.ctr_bump, if_pos rfl]
    rfl

/-- A buffer returned: the free list's head, its owner's charge less by one. -/
theorem returnBuffer_spec (s : State) {o k b : Nat} : BpmStep s (s.returnBuffer o k b) ∧ ((s.returnBuffer o k b).pool k).freed = b :: (s.pool k).freed ∧
    (s.returnBuffer o k b).held o k = s.held o k - 1 ∧ (s.returnBuffer o k b).bpm.bufs = s.bpm.bufs ∧
    (s.returnBuffer o k b).ctr (Reg.bpmOwnCnt o 1) = (s.ctr (Reg.bpmOwnCnt o 1) + 1) % 2 ^ 64 := by
  obtain ⟨p, hp⟩ : ∃ p : Pool, p = { s.pool k with freed := b :: (s.pool k).freed } := ⟨_, rfl⟩
  obtain ⟨u, hu⟩ : ∃ u, u = ((s.setPool k p).setHeld o k ((s.setPool k p).held o k - 1)).bump (Reg.bpmOwnCnt o 1) 1 := ⟨_, rfl⟩
  have heq : s.returnBuffer o k b = u.lowRearm k := by rw [hu, hp, State.returnBuffer]
  obtain ⟨hstep, hpool, hbufs, hheld, hctr, -⟩ := lowRearm_spec u k
  have hpk : u.pool k = p := by
    rw [hu]
    exact (pool_setPool ..).trans (if_pos rfl)
  rw [heq]
  refine ⟨BpmStep.trans (hu ▸ BpmStep.of_eq rfl) hstep, ?_, ?_, ?_, ?_⟩
  · rw [hpool, if_pos rfl, hpk, hp]
  · rw [State.held, hheld, hu]
    exact (held_setHeld ..).trans (if_pos rfl)
  · rw [hbufs, hu]; rfl
  · rw [State.ctr, hctr, ← State.ctr, hu, State.ctr_bump, if_pos rfl]
    rfl

/-! ### The command and its result -/

/-- What the statement lets a command of BPM.CMD change. -/
def BpmFrame (s t : State) : Prop := t.mem = s.mem ∧ t.qm = s.qm ∧ t.flow = s.flow ∧ t.dsp = s.dsp ∧
  ∀ a, a < 0x700000 → a ≠ Reg.bpmResult → a ≠ Reg.bpmResHandle → a ≠ Reg.bpmEvents → t.rd a = s.rd a

theorem rd_bpmDone (u : State) (c h : Nat) {a : Nat} (ha : a ≠ Reg.bpmResult) (ha' : a ≠ Reg.bpmResHandle) : (u.bpmDone c h).rd a = u.rd a := by
  rw [State.bpmDone, State.rd_wr, if_neg ha', State.cmdDone, State.rd_wr, if_neg ha]

theorem regsOnly_bpmDone (u : State) (c h : Nat) : u.RegsOnly (u.bpmDone c h) := State.RegsOnly.refl.done.wr

theorem rd_accepted {a : Nat} (ha : a ≠ Reg.bpmResult) : (s.cmdAccept Reg.bpmResult).rd a = s.rd a := State.rd_setFld_other _ _ _ _ _ _ ha

/-- A command accepted, its work, its result. -/
theorem bpmDone_spec (hstep : BpmStep (s.cmdAccept Reg.bpmResult) u) {c : Nat} (hc : c < 16) (h : Nat) : BpmFrame s (u.bpmDone c h) ∧
    (u.bpmDone c h).rd Reg.bpmResult = resultWord (c * 2 ^ 25) ∧ (u.bpmDone c h).rd Reg.bpmResHandle = BitVec.ofNat 32 h ∧
    (u.bpmDone c h).bpm = u.bpm ∧ (u.bpmDone c h).ctrs = u.ctrs := by
  have hfld : u.fld Reg.bpmResult 29 29 = 0 := (State.fld_of_rd (hstep.rd _ (by decide) (by decide)) _ _).trans fld_cmdAccept
  refine ⟨⟨?_, ?_, ?_, ?_, fun a ha h1 h2 h3 => ?_⟩, ?_, ?_, ?_, ?_⟩
  · rw [State.bpmDone, State.wr_mem, State.cmdDone_mem, hstep.only.mem_eq (by decide), State.cmdAccept_mem]
  · rw [State.bpmDone, State.wr_qm, State.cmdDone_qm, hstep.only.qm_eq (by decide), State.cmdAccept_qm]
  · rw [State.bpmDone, State.wr_flow, State.cmdDone_flow, hstep.only.flow_eq (by decide), State.cmdAccept_flow]
  · rw [State.bpmDone, State.wr_dsp, State.cmdDone_dsp, hstep.only.dsp_eq (by decide), State.cmdAccept_dsp]
  · rw [rd_bpmDone u c h h1 h2, hstep.rd a ha h3, rd_accepted h1]
  · rw [State.bpmDone, State.rd_wr, if_neg (by decide)]
    exact rd_cmdDone hfld (by omega)
  · rw [State.bpmDone, State.rd_wr, if_pos rfl]
  · rw [State.bpmDone, State.wr_bpm, State.cmdDone_bpm]
  · rw [State.bpmDone, State.wr_ctrs, State.cmdDone_ctrs]

/-! ### ALLOC, FREE, HANDOVER and SHARE -/

theorem accepted_rd {a : Nat} (h1 : 0x4C2000 ≤ a) : (s.cmdAccept Reg.bpmResult).rd a = s.rd a := rd_accepted (by unfold Reg.bpmResult; omega)

theorem mayTake_accepted (ho : o < 64) (hk : k < 8) : (s.cmdAccept Reg.bpmResult).mayTake o k = s.mayTake o k :=
  mayTake_of_rd (State.cmdAccept_bpm _ _) (fun _ h _ => accepted_rd h) ho hk

/-- The pools that may serve a size begin with the smallest whose buffers hold it. -/
theorem servingPools (hkh : (k, h) ∈ [(1, min h 256), (2, max 257 (min h 1024)), (3, max 1025 (min h 4096)), (4, max 4097 h)]) (h16 : h ≤ 16384) :
    1 ≤ k ∧ k < 8 ∧ ∃ r, [1, 2, 3, 4].filter (fun k => decide ((if h = 0 then 1 else h) ≤ poolSize k)) = k :: r := by
  obtain ⟨z, hz⟩ : ∃ z, z = if h = 0 then 1 else h := ⟨_, rfl⟩
  have hpos : ∀ {l : List Nat} {j : Nat}, z ≤ poolSize j → ∃ r, (j :: l).filter (fun k => decide (z ≤ poolSize k)) = j :: r := fun hj =>
    ⟨_, List.filter_cons_of_pos (by simpa using hj)⟩
  have hneg : ∀ {l : List Nat} {j : Nat}, ¬ z ≤ poolSize j → (j :: l).filter (fun k => decide (z ≤ poolSize k)) = l.filter fun k => decide (z ≤ poolSize k) :=
    fun hj => List.filter_cons_of_neg (by simpa using hj)
  have hsize : poolSize 1 = 256 ∧ poolSize 2 = 1024 ∧ poolSize 3 = 4096 ∧ poolSize 4 = 16384 := ⟨rfl, rfl, rfl, rfl⟩
  have hzh : z = h ∨ h = 0 ∧ z = 1 := by rw [hz]; split_ifs <;> simp [*]
  rw [← hz]
  simp only [List.mem_cons, Prod.mk.injEq, List.not_mem_nil, or_false] at hkh
  rcases hkh with ⟨rfl, hh⟩ | ⟨rfl, hh⟩ | ⟨rfl, hh⟩ | ⟨rfl, hh⟩
  · exact ⟨by decide, by decide, hpos (by omega)⟩
  · rw [hneg (by omega)]
    exact ⟨by decide, by decide, hpos (by omega)⟩
  · rw [hneg (by omega), hneg (by omega)]
    exact ⟨by decide, by decide, hpos (by omega)⟩
  · rw [hneg (by omega), hneg (by omega), hneg (by omega)]
    exact ⟨by decide, by decide, hpos (by omega)⟩

theorem bpmAlloc_spec (a : State) (ho : o < 64) (h16 : h ≤ 16384)
    (hkh : (k, h) ∈ [(1, min h 256), (2, max 257 (min h 1024)), (3, max 1025 (min h 4096)), (4, max 4097 h)]) (hmay : a.mayTake o k = true) :
    ∃ n t, a.bpmAlloc o h = (0, k * 2 ^ 28 + n, t) ∧ BpmStep a t ∧ t.buf k n = { owner := o, refs := 1 } ∧ t.held o k = a.held o k + 1 ∧
      ((a.pool k).freed.head? = some n ∨ (a.pool k).freed = [] ∧ n = (a.pool k).next) ∧ (∀ x y, bufKey x y ≠ bufKey k n → t.buf x y = a.buf x y) ∧
      t.ctr (Reg.bpmOwnCnt o 0) = (a.ctr (Reg.bpmOwnCnt o 0) + 1) % 2 ^ 64 := by
  obtain ⟨hk1, -, r, hr⟩ := servingPools hkh h16
  obtain ⟨n, t, htake, hstep, hn, hheld, hbufs, hctr⟩ := takeBuffer_spec ho hk1 hmay
  have htry : ∀ q, tryPools a o (k :: q) = some (k, n, t) := fun q => by rw [tryPools, htake]
  refine ⟨n, t.setBuf k n { owner := o, refs := 1 }, ?_, hstep.trans (BpmStep.of_eq rfl), (buf_setBuf ..).trans (if_pos rfl), hheld, hn, fun x y hxy => ?_, hctr⟩
  · unfold State.bpmAlloc
    dsimp only
    rw [hr]
    split_ifs
    · rw [htry]
    · rw [List.take_succ_cons, htry]
  · rw [buf_setBuf, if_neg hxy, State.buf, State.buf, hbufs]

theorem bpmAlloc_fails (a : State) (hno : 16384 < h ∨ ∀ k, 1 ≤ k → k ≤ 4 → a.mayTake o k = false) : a.bpmAlloc o h = (1, 0, a.allocFail o) := by
  have htry : ∀ l : List Nat, (∀ k ∈ l, a.mayTake o k = false) → tryPools a o l = none := fun l => by
    induction l with
    | nil => exact fun _ => rfl
    | cons k l ih =>
      intro hl
      rw [tryPools, State.takeBuffer, if_neg (by rw [hl k List.mem_cons_self]; decide)]
      exact ih fun j hj => hl j (List.mem_cons_of_mem _ hj)
  have hall : ∀ k ∈ [1, 2, 3, 4].filter (fun k => decide ((if h = 0 then 1 else h) ≤ poolSize k)), a.mayTake o k = false := fun k hk => by
    obtain ⟨hk4, hsize⟩ := List.mem_filter.mp hk
    have hk14 : 1 ≤ k ∧ k ≤ 4 := by simp only [List.mem_cons, List.not_mem_nil, or_false] at hk4; omega
    refine (hno.resolve_left fun h16 => ?_) k hk14.1 hk14.2
    have hle : poolSize k ≤ 16384 := by obtain ⟨h1, h4⟩ := hk14; interval_cases k <;> decide
    rw [if_neg (by omega), decide_eq_true_eq] at hsize
    omega
  unfold State.bpmAlloc
  dsimp only
  by_cases hb : a.bit (0x4C4014 + 0x20 * o) 0 = true
  · rw [if_pos hb, htry _ hall]
  · rw [if_neg hb, htry _ fun k hk => hall k (List.mem_of_mem_take hk)]

theorem allocFail_spec (a : State) (ho : o < 64) : BpmStep a (a.allocFail o) ∧ (a.allocFail o).bpm = a.bpm ∧
    (a.allocFail o).bit Reg.bpmEvents 5 = true ∧ a.raised (a.allocFail o) 245 ∧
    (a.allocFail o).ctr (Reg.bpmOwnCnt o 2) = (a.ctr (Reg.bpmOwnCnt o 2) + 1) % 2 ^ 64 := by
  obtain ⟨u, hu⟩ : ∃ u, u = a.bump (Reg.bpmOwnCnt o 2) 1 := ⟨_, rfl⟩
  have heq : a.allocFail o = u.setEvent Reg.bpmEvents 5 245 := by rw [hu, State.allocFail]
  rw [heq]
  refine ⟨BpmStep.trans (hu ▸ BpmStep.of_eq rfl) (BpmStep.setEvent _), ?_, State.bit_setEvent_same _ (by decide) (by decide), ?_, ?_⟩
  · rw [State.setEvent_bpm, hu, State.bump_bpm]
  · exact (State.raised_setEvent (s := u) (by decide) (by decide)).of_rd fun c _ => by rw [hu, State.rd_bump]
  · rw [State.setEvent, State.ctr_raiseEvent _ _ _ (by unfold Reg.bpmOwnCnt; omega), State.ctr_setBit, hu, State.ctr_bump, if_pos rfl]

/-- A command accepted leaves the pools, the buffers and what is held as they were. -/
theorem accepted_bpm : (s.cmdAccept Reg.bpmResult).bpm = s.bpm := State.cmdAccept_bpm _ _

theorem writeBpmCmd_eq {v : Word} (hbusy : s.cmdBusy Reg.bpmResult = false) (h1 : Wbits v 3 0 ≠ 0) : writeBpmCmd s v =
    (let op := Wbits v 3 0
     let o := Wbits v 13 8
     let a := s.cmdAccept Reg.bpmResult
     if op = 1 then (a.bpmAlloc o (s.rd Reg.bpmArg0).toNat).2.2.bpmDone (a.bpmAlloc o (s.rd Reg.bpmArg0).toNat).1 (a.bpmAlloc o (s.rd Reg.bpmArg0).toNat).2.1
     else if op = 2 then (a.bpmFree o (s.rd Reg.bpmArg0).toNat).2.bpmDone (a.bpmFree o (s.rd Reg.bpmArg0).toNat).1 0
     else if op = 3 then (a.bpmHandover o (s.rd Reg.bpmArg0).toNat (s.rd Reg.bpmArg1).toNat).2.bpmDone
       (a.bpmHandover o (s.rd Reg.bpmArg0).toNat (s.rd Reg.bpmArg1).toNat).1 0
     else if op = 4 then (a.bpmShare o (s.rd Reg.bpmArg0).toNat).2.bpmDone (a.bpmShare o (s.rd Reg.bpmArg0).toNat).1 0
     else if op = 5 then a.bpmInit ((s.rd Reg.bpmArg0).toNat % 8)
     else a.bpmDone 7 0) := by
  rw [writeBpmCmd, if_neg h1, hbusy, if_neg (by decide)]

end

end Sys2Proof.Machine
end

section
/-! PROOFS. The obligation on the commands of the buffer pool manager. -/
namespace Sys2Proof.Machine

section
variable {s t u : State} {o k i n h acc : Nat} {v : Word}

/-- What a finished command leaves beside its result register: the pools as its work left them. -/
theorem bpmDone_bpm (hstep : BpmStep (s.cmdAccept Reg.bpmResult) u) {c : Nat} (hc : c < 16) (h : Nat) :
    (∀ j, (u.bpmDone c h).pool j = u.pool j) ∧ (∀ x y, (u.bpmDone c h).buf x y = u.buf x y) ∧ (∀ o k, (u.bpmDone c h).held o k = u.held o k) ∧
    ∀ a, (u.bpmDone c h).ctr a = u.ctr a := by
  obtain ⟨-, -, -, hbpm, hctrs⟩ := bpmDone_spec hstep hc h
  exact ⟨pool_of_bpm hbpm, buf_of_bpm hbpm, held_of_bpm hbpm, fun a => by rw [State.ctr, State.ctr, hctrs]⟩

theorem exec_bpm (hreach : s.reaches acc Reg.bpmCmd) {op : Nat} (hop : Wbits v 3 0 = op) :
    writeRow (acc < 7) acc Reg.bpmCmd (Wbits v 3 0 == op) (fun t => writeBpmCmd t v) s = .next (writeBpmCmd s v) :=
  writeRow_reaches hreach (by simpa using hreach.1) (by simpa using hop) _

/-! ### ALLOC -/

theorem allocCmd_spec (hreach : s.reaches acc Reg.bpmCmd) (hbusy : s.cmdBusy Reg.bpmResult = false) (hop : Wbits v 3 0 = 1)
    (ho : o = Wbits v 13 8) (hh : h = (s.rd Reg.bpmArg0).toNat) (h16 : h ≤ 16384)
    (hkh : (k, h) ∈ [(1, min h 256), (2, max 257 (min h 1024)), (3, max 1025 (min h 4096)), (4, max 4097 h)]) (hmay : s.mayTake o k = true) :
    ∃ t n, exec (.bpmCmdAlloc acc v) s = .next t ∧ BpmFrame s t ∧ t.rd Reg.bpmResult = resultWord 0 ∧
      t.rd Reg.bpmResHandle = BitVec.ofNat 32 (k * 2 ^ 28 + n) ∧ t.buf k n = { owner := o, refs := 1 } ∧ t.held o k = s.held o k + 1 ∧
      ((s.pool k).freed.head? = some n ∨ (s.pool k).freed = [] ∧ n = (s.pool k).next) ∧
      (∀ x y, bufKey x y ≠ bufKey k n → t.buf x y = s.buf x y) ∧
      t.ctr (Reg.bpmOwnCnt o 0) = (s.ctr (Reg.bpmOwnCnt o 0) + 1) % 2 ^ 64 := by
  have ho64 : o < 64 := by rw [ho]; exact Wbits_lt _ _ _
  obtain ⟨-, hk8, -⟩ := servingPools hkh h16
  obtain ⟨n, t, halloc, hstep, hbuf, hheld, hn, hother, hctr⟩ :=
    bpmAlloc_spec (s.cmdAccept Reg.bpmResult) ho64 h16 hkh (by rwa [mayTake_accepted ho64 hk8])
  obtain ⟨d1, d2, d3, -⟩ := bpmDone_spec hstep (c := 0) (by decide) (k * 2 ^ 28 + n)
  obtain ⟨p1, p2, p3, p4⟩ := bpmDone_bpm hstep (c := 0) (by decide) (k * 2 ^ 28 + n)
  refine ⟨t.bpmDone 0 (k * 2 ^ 28 + n), n, ?_, d1, d2, d3, ?_, ?_, ?_, fun x y hxy => ?_, ?_⟩
  · rw [exec_bpmCmdAlloc, execBpmCmdAlloc, exec_bpm hreach hop, writeBpmCmd_eq hbusy (by omega)]
    dsimp only
    rw [if_pos hop, ← ho, ← hh, halloc]
  · rw [p2, hbuf]
  · rw [p3, hheld, held_of_bpm accepted_bpm]
  · rwa [pool_of_bpm accepted_bpm] at hn
  · rw [p2, hother x y hxy, buf_of_bpm accepted_bpm]
  · rw [p4, hctr, State.ctr, State.ctr, State.cmdAccept_ctrs]

theorem allocCmd_fails (hreach : s.reaches acc Reg.bpmCmd) (hbusy : s.cmdBusy Reg.bpmResult = false) (hop : Wbits v 3 0 = 1)
    (ho : o = Wbits v 13 8) (hh : h = (s.rd Reg.bpmArg0).toNat) (hno : 16384 < h ∨ ∀ k, 1 ≤ k → k ≤ 4 → s.mayTake o k = false) :
    ∃ t, exec (.bpmCmdAlloc acc v) s = .next t ∧ BpmFrame s t ∧ t.rd Reg.bpmResult = resultWord (2 ^ 25) ∧ t.bpm = s.bpm ∧
      t.bit Reg.bpmEvents 5 = true ∧ s.raised t 245 ∧ t.ctr (Reg.bpmOwnCnt o 2) = (s.ctr (Reg.bpmOwnCnt o 2) + 1) % 2 ^ 64 := by
  have ho64 : o < 64 := by rw [ho]; exact Wbits_lt _ _ _
  obtain ⟨a, ha⟩ : ∃ a, a = s.cmdAccept Reg.bpmResult := ⟨_, rfl⟩
  have hfail := bpmAlloc_fails (o := o) a (hno.imp_right fun h k h1 h4 => by rw [ha, mayTake_accepted ho64 (by omega)]; exact h k h1 h4)
  obtain ⟨hstep, hbpm, hbit, hraised, hctr⟩ := allocFail_spec a ho64
  rw [ha] at hstep
  obtain ⟨d1, d2, -, d4, -⟩ := bpmDone_spec hstep (c := 1) (by decide) 0
  obtain ⟨-, -, -, p4⟩ := bpmDone_bpm hstep (c := 1) (by decide) 0
  rw [← ha] at d1 d2 d4 p4
  refine ⟨(a.allocFail o).bpmDone 1 0, ?_, d1, d2, ?_, ?_, ?_, ?_⟩
  · rw [exec_bpmCmdAlloc, execBpmCmdAlloc, exec_bpm hreach hop, writeBpmCmd_eq hbusy (by omega)]
    dsimp only
    rw [if_pos hop, ← ho, ← hh, ← ha, hfail]
  · rw [d4, hbpm, ha, accepted_bpm]
  · rw [State.bit_of_rd (rd_bpmDone _ _ _ (by decide) (by decide)), hbit]
  · exact (hraised.of_rd fun c hc => by rw [ha, rd_accepted (by unfold Reg.bpmResult; omega)]).after (by decide)
      fun c hc _ => rd_bpmDone _ _ _ (by unfold Reg.bpmResult; omega) (by unfold Reg.bpmResHandle; omega)
  · rw [p4, hctr, ha, State.ctr, State.ctr, State.cmdAccept_ctrs]

/-! ### FREE, HANDOVER, SHARE -/

/-- A command whose work on the accepted state `a` is `u` with a status. -/
theorem finishes (ha : t = s.cmdAccept Reg.bpmResult) {w : Nat × State} {c : Nat} (hw : w = (c, u)) (hstep : BpmStep t u) (hc : c < 16) :
    BpmFrame s (w.2.bpmDone w.1 0) ∧ (w.2.bpmDone w.1 0).rd Reg.bpmResult = resultWord (c * 2 ^ 25) ∧ (w.2.bpmDone w.1 0).bpm = u.bpm ∧
    ∀ x, (w.2.bpmDone w.1 0).ctr x = u.ctr x := by
  rw [ha] at hstep
  obtain ⟨d1, d2, -, d4, d5⟩ := bpmDone_spec hstep hc 0
  rw [hw]
  exact ⟨d1, d2, d4, fun x => by rw [State.ctr, State.ctr]; exact congrArg (SMap.get · x) d5⟩

theorem freeCmd_eq (hreach : s.reaches acc Reg.bpmCmd) (hbusy : s.cmdBusy Reg.bpmResult = false) (hop : Wbits v 3 0 = 2) (ht : t = s.cmdAccept Reg.bpmResult) :
    exec (.bpmCmdFree acc v) s = .next ((t.bpmFree (Wbits v 13 8) (s.rd Reg.bpmArg0).toNat).2.bpmDone
      (t.bpmFree (Wbits v 13 8) (s.rd Reg.bpmArg0).toNat).1 0) := by
  rw [exec_bpmCmdFree, execBpmCmdFree, exec_bpm hreach hop, writeBpmCmd_eq hbusy (by omega)]
  dsimp only
  rw [if_neg (by omega), if_pos hop, ht]

/-- The buffer a handle names, on the accepted state. -/
theorem handle_accepted (ht : t = s.cmdAccept Reg.bpmResult) (hh : s.handleBuf h = some (k, i)) : t.handleBuf h = some (k, i) ∧ t.buf k i = s.buf k i := by
  rw [ht]
  exact ⟨(handleBuf_of_bpm accepted_bpm h).trans hh, buf_of_bpm accepted_bpm k i⟩

theorem freeLast_spec (hreach : s.reaches acc Reg.bpmCmd) (hbusy : s.cmdBusy Reg.bpmResult = false) (hop : Wbits v 3 0 = 2)
    (hh : s.handleBuf (s.rd Reg.bpmArg0).toNat = some (k, i)) (hown : (s.buf k i).owner = Wbits v 13 8) (hrefs : (s.buf k i).refs = 1) :
    ∃ t, exec (.bpmCmdFree acc v) s = .next t ∧ BpmFrame s t ∧ t.rd Reg.bpmResult = resultWord 0 ∧ t.buf k i = {} ∧
      (t.pool k).freed = i :: (s.pool k).freed ∧ t.held (Wbits v 13 8) k = s.held (Wbits v 13 8) k - 1 ∧
      t.ctr (Reg.bpmOwnCnt (Wbits v 13 8) 1) = (s.ctr (Reg.bpmOwnCnt (Wbits v 13 8) 1) + 1) % 2 ^ 64 := by
  obtain ⟨a, ha⟩ : ∃ a, a = s.cmdAccept Reg.bpmResult := ⟨_, rfl⟩
  obtain ⟨u, hu⟩ : ∃ u, u = a.setBuf k i {} := ⟨_, rfl⟩
  obtain ⟨h1, h2⟩ := handle_accepted ha hh
  have hbpm : a.bpm = s.bpm := ha ▸ accepted_bpm
  have hwork : a.bpmFree (Wbits v 13 8) (s.rd Reg.bpmArg0).toNat = (0, u.returnBuffer (Wbits v 13 8) k i) := by
    rw [State.bpmFree, h1]
    dsimp only
    rw [h2, if_neg (by omega), if_neg (not_not.mpr hown), if_neg (by omega), if_pos hrefs, hu]
  obtain ⟨hstep, hfreed, hheld, hbufs, hctr⟩ := returnBuffer_spec u (o := Wbits v 13 8) (k := k) (b := i)
  obtain ⟨d1, d2, d3, d4⟩ := finishes ha hwork ((BpmStep.of_eq (by rw [hu]; rfl)).trans hstep) (by decide)
  refine ⟨_, freeCmd_eq hreach hbusy hop ha, d1, d2, ?_, ?_, ?_, ?_⟩
  · rw [buf_of_bpm d3, State.buf, hbufs, hu]
    exact (buf_setBuf ..).trans (if_pos rfl)
  · rw [pool_of_bpm d3, hfreed, hu, ← pool_of_bpm hbpm]
    rfl
  · rw [held_of_bpm d3, hheld, hu, ← held_of_bpm hbpm]
    rfl
  · have hctrs : u.ctrs = s.ctrs := by rw [hu, ← State.cmdAccept_ctrs s Reg.bpmResult, ← ha]; rfl
    rw [d4, hctr, State.ctr, State.ctr, hctrs]

theorem freeShared_spec (hreach : s.reaches acc Reg.bpmCmd) (hbusy : s.cmdBusy Reg.bpmResult = false) (hop : Wbits v 3 0 = 2)
    (hh : s.handleBuf (s.rd Reg.bpmArg0).toNat = some (k, i)) (hown : (s.buf k i).owner = Wbits v 13 8) (h1 : 1 < (s.buf k i).refs)
    (hlt : (s.buf k i).refs < 65535) :
    ∃ t, exec (.bpmCmdFree acc v) s = .next t ∧ BpmFrame s t ∧ t.rd Reg.bpmResult = resultWord 0 ∧
      t.buf k i = { s.buf k i with refs := (s.buf k i).refs - 1 } ∧ t.bpm.pools = s.bpm.pools ∧ t.bpm.held = s.bpm.held := by
  obtain ⟨a, ha⟩ : ∃ a, a = s.cmdAccept Reg.bpmResult := ⟨_, rfl⟩
  obtain ⟨u, hu⟩ : ∃ u, u = a.setBuf k i { s.buf k i with refs := (s.buf k i).refs - 1 } := ⟨_, rfl⟩
  obtain ⟨g1, g2⟩ := handle_accepted ha hh
  have hbpm : a.bpm = s.bpm := ha ▸ accepted_bpm
  have hwork : a.bpmFree (Wbits v 13 8) (s.rd Reg.bpmArg0).toNat = (0, u) := by
    rw [State.bpmFree, g1]
    dsimp only
    rw [g2, if_neg (by omega), if_neg (not_not.mpr hown), if_neg (by omega), if_neg (by omega), hu]
  obtain ⟨d1, d2, d3, -⟩ := finishes ha hwork (BpmStep.of_eq (by rw [hu]; rfl)) (by decide)
  refine ⟨_, freeCmd_eq hreach hbusy hop ha, d1, d2, ?_, ?_, ?_⟩
  · rw [buf_of_bpm d3, hu]
    exact (buf_setBuf ..).trans (if_pos rfl)
  · rw [d3, hu, ← hbpm]; rfl
  · rw [d3, hu, ← hbpm]; rfl

theorem freeNone_spec (hreach : s.reaches acc Reg.bpmCmd) (hbusy : s.cmdBusy Reg.bpmResult = false) (hop : Wbits v 3 0 = 2)
    (hh : s.handleBuf (s.rd Reg.bpmArg0).toNat = none) :
    ∃ t, exec (.bpmCmdFree acc v) s = .next t ∧ BpmFrame s t ∧ t.rd Reg.bpmResult = resultWord (4 * 2 ^ 25) ∧ t.bpm = s.bpm := by
  obtain ⟨a, ha⟩ : ∃ a, a = s.cmdAccept Reg.bpmResult := ⟨_, rfl⟩
  have hbpm : a.bpm = s.bpm := ha ▸ accepted_bpm
  have hwork : a.bpmFree (Wbits v 13 8) (s.rd Reg.bpmArg0).toNat = (4, a) := by
    rw [State.bpmFree, handleBuf_of_bpm hbpm, hh]
  obtain ⟨d1, d2, d3, -⟩ := finishes ha hwork (BpmStep.of_eq rfl) (by decide)
  exact ⟨_, freeCmd_eq hreach hbusy hop ha, d1, d2, d3.trans hbpm⟩

theorem handoverCmd_spec (hreach : s.reaches acc Reg.bpmCmd) (hbusy : s.cmdBusy Reg.bpmResult = false) (hop : Wbits v 3 0 = 3)
    (hh : s.handleBuf (s.rd Reg.bpmArg0).toNat = some (k, i)) (hown : (s.buf k i).owner = Wbits v 13 8) (hrefs : (s.buf k i).refs ≠ 0)
    (hn : n = (s.rd Reg.bpmArg1).toNat % 64) (hne : n ≠ Wbits v 13 8) :
    ∃ t, exec (.bpmCmdHandover acc v) s = .next t ∧ BpmFrame s t ∧ t.rd Reg.bpmResult = resultWord 0 ∧
      t.buf k i = { s.buf k i with owner := n } ∧ t.held (Wbits v 13 8) k = s.held (Wbits v 13 8) k - 1 ∧ t.held n k = s.held n k + 1 ∧
      t.bpm.pools = s.bpm.pools := by
  obtain ⟨a, ha⟩ : ∃ a, a = s.cmdAccept Reg.bpmResult := ⟨_, rfl⟩
  obtain ⟨w, hw⟩ : ∃ w, w = a.setHeld (Wbits v 13 8) k (a.held (Wbits v 13 8) k - 1) := ⟨_, rfl⟩
  obtain ⟨u, hu⟩ : ∃ u, u = (w.setHeld n k (w.held n k + 1)).setBuf k i { s.buf k i with owner := n } := ⟨_, rfl⟩
  obtain ⟨g1, g2⟩ := handle_accepted ha hh
  have hbpm : a.bpm = s.bpm := ha ▸ accepted_bpm
  have hwheld : ∀ o, w.held o k = if o = Wbits v 13 8 then s.held (Wbits v 13 8) k - 1 else s.held o k := fun o => by
    rw [hw, held_setHeld, held_of_bpm hbpm, held_of_bpm hbpm]
  have huheld : ∀ o, u.held o k = if o = n then w.held n k + 1 else w.held o k := fun o => by
    rw [hu]; exact held_setHeld ..
  have hwork : a.bpmHandover (Wbits v 13 8) (s.rd Reg.bpmArg0).toNat (s.rd Reg.bpmArg1).toNat = (0, u) := by
    rw [State.bpmHandover, g1]
    dsimp only
    rw [g2, if_neg hrefs, if_neg (not_not.mpr hown), hu, hw, hn]
  obtain ⟨d1, d2, d3, -⟩ := finishes ha hwork (BpmStep.of_eq (by rw [hu, hw]; rfl)) (by decide)
  refine ⟨_, ?_, d1, d2, ?_, ?_, ?_, ?_⟩
  · rw [exec_bpmCmdHandover, execBpmCmdHandover, exec_bpm hreach hop, writeBpmCmd_eq hbusy (by omega)]
    dsimp only
    rw [if_neg (by omega), if_neg (by omega), if_pos hop, ← ha]
  · rw [buf_of_bpm d3, hu]
    exact (buf_setBuf ..).trans (if_pos rfl)
  · rw [held_of_bpm d3, huheld, if_neg (Ne.symm hne), hwheld, if_pos rfl]
  · rw [held_of_bpm d3, huheld, if_pos rfl, hwheld, if_neg hne]
  · rw [d3, hu, hw, ← hbpm]; rfl

theorem shareCmd_spec (hreach : s.reaches acc Reg.bpmCmd) (hbusy : s.cmdBusy Reg.bpmResult = false) (hop : Wbits v 3 0 = 4)
    (hh : s.handleBuf (s.rd Reg.bpmArg0).toNat = some (k, i)) (hrefs : (s.buf k i).refs ≠ 0) (ho : o = Wbits v 13 8) :
    ∃ t, exec (.bpmCmdShare acc v) s = .next t ∧ BpmFrame s t ∧ t.rd Reg.bpmResult = resultWord 0 ∧ t.bpm.pools = s.bpm.pools ∧
      t.bpm.held = s.bpm.held ∧ ((s.buf k i).refs < 65535 → t.buf k i = { s.buf k i with refs := (s.buf k i).refs + 1 }) ∧
      ((s.buf k i).refs = 65535 → t.buf k i = s.buf k i ∧ t.ctr (Reg.bpmOwnCnt o 3) = (s.ctr (Reg.bpmOwnCnt o 3) + 1) % 2 ^ 64) := by
  obtain ⟨a, ha⟩ : ∃ a, a = s.cmdAccept Reg.bpmResult := ⟨_, rfl⟩
  obtain ⟨g1, g2⟩ := handle_accepted ha hh
  have hbpm : a.bpm = s.bpm := ha ▸ accepted_bpm
  have hctr : ∀ x, a.ctr x = s.ctr x := fun x => by rw [ha, State.ctr, State.ctr, State.cmdAccept_ctrs]
  obtain ⟨u, hu⟩ : ∃ u, u = if (s.buf k i).refs = 65535 then a.bump (Reg.bpmOwnCnt o 3) 1
      else a.setBuf k i { s.buf k i with refs := (s.buf k i).refs + 1 } := ⟨_, rfl⟩
  have hwork : a.bpmShare o (s.rd Reg.bpmArg0).toNat = (0, u) := by
    rw [State.bpmShare, g1]
    dsimp only
    rw [g2, if_neg hrefs, hu]
    split_ifs <;> rfl
  have hstep : BpmStep a u := by
    rw [hu]
    split_ifs
    · exact BpmStep.of_eq rfl
    · exact BpmStep.of_eq rfl
  obtain ⟨d1, d2, d3, d4⟩ := finishes ha hwork hstep (by decide)
  refine ⟨_, ?_, d1, d2, ?_, ?_, fun h => ?_, fun h => ⟨?_, ?_⟩⟩
  · rw [exec_bpmCmdShare, execBpmCmdShare, exec_bpm hreach hop, writeBpmCmd_eq hbusy (by omega)]
    dsimp only
    rw [if_neg (by omega), if_neg (by omega), if_neg (by omega), if_pos hop, ← ho, ← ha]
  · rw [d3, hu, ← hbpm]; split_ifs <;> rfl
  · rw [d3, hu, ← hbpm]; split_ifs <;> rfl
  · rw [buf_of_bpm d3, hu, if_neg (by omega)]
    exact (buf_setBuf ..).trans (if_pos rfl)
  · rw [buf_of_bpm d3, hu, if_pos h, ← buf_of_bpm hbpm]
    rfl
  · rw [d4, hu, if_pos h, State.ctr_bump, if_pos rfl, hctr]

/-! ### INIT -/

theorem initCmd_eq (hreach : s.reaches acc Reg.bpmCmd) (hbusy : s.cmdBusy Reg.bpmResult = false) (hop : Wbits v 3 0 = 5) :
    exec (.poolInit acc v) s = .next ((s.cmdAccept Reg.bpmResult).bpmInit ((s.rd Reg.bpmArg0).toNat % 8)) := by
  rw [exec_poolInit, execPoolInit, exec_bpm hreach hop, writeBpmCmd_eq hbusy (by omega)]
  dsimp only
  rw [if_neg (by omega), if_neg (by omega), if_neg (by omega), if_neg (by omega), if_pos hop]

/-- The pool that INIT builds. -/
def State.newPool (s : State) (k : Nat) : Pool :=
  { built := true, building := s.fld (Reg.bpmPoolCount k) 23 0 != 0
    base := s.fld (Reg.bpmPoolBaseLo k) 31 12 * 2 ^ 12 + s.fld (Reg.bpmPoolBaseHi k) 7 0 * 2 ^ 32
    count := s.fld (Reg.bpmPoolCount k) 23 0, fired := (s.pool k).fired }

/-- The state with the pool being built, its low-water event raised where it is due. -/
def State.poolBuilt (s : State) (k : Nat) : State :=
  if (s.setPool k (s.newPool k)).poolFree k < s.poolFree k then (s.setPool k (s.newPool k)).lowWater k else s.setPool k (s.newPool k)

theorem poolBuilt_spec (s : State) (k : Nat) : BpmStep s (s.poolBuilt k) ∧ ((s.poolBuilt k).pool k).base = (s.newPool k).base ∧
    ((s.poolBuilt k).pool k).count = (s.newPool k).count ∧ ((s.poolBuilt k).pool k).built = true ∧
    ((s.poolBuilt k).pool k).building = (s.newPool k).building ∧ ((s.poolBuilt k).pool k).freed = [] ∧ ((s.poolBuilt k).pool k).next = 0 ∧
    ∀ j, j ≠ k → (s.poolBuilt k).pool j = s.pool j := by
  obtain ⟨u, hu⟩ : ∃ u, u = s.setPool k (s.newPool k) := ⟨_, rfl⟩
  have hpool : ∀ j, u.pool j = if j = k then s.newPool k else s.pool j := fun j => by rw [hu]; exact pool_setPool ..
  have hstep : BpmStep s u := hu ▸ BpmStep.of_eq rfl
  have heq : s.poolBuilt k = if u.poolFree k < s.poolFree k then u.lowWater k else u := by rw [hu, State.poolBuilt]
  obtain ⟨lstep, lpool, -⟩ := lowWater_spec u k
  rw [heq]
  split_ifs
  · rw [lpool, if_pos rfl, hpool, if_pos rfl]
    exact ⟨hstep.trans lstep, rfl, rfl, rfl, rfl, rfl, rfl, fun j hj => by rw [lpool, if_neg hj, hpool, if_neg hj]⟩
  · rw [hpool, if_pos rfl]
    exact ⟨hstep, rfl, rfl, rfl, rfl, rfl, rfl, fun j hj => by rw [hpool, if_neg hj]⟩

theorem poolFree_poolBuilt (s : State) {k : Nat} (hk : 1 ≤ k) : (s.poolBuilt k).poolFree k = 0 := by
  obtain ⟨-, -, hcount, hbuilt, hbuilding, hfreed, hnext, -⟩ := poolBuilt_spec s k
  have hcounted : (s.poolBuilt k).poolCount k = (s.newPool k).count := by rw [State.poolCount, if_neg (by omega), hcount]
  have hbad : ∀ n, (s.poolBuilt k).badBelow k n = 0 := fun n => if_neg (by omega)
  rw [State.poolFree, hbuilt, hbuilding, hfreed, hnext, hcounted, hbad]
  by_cases h : s.fld (Reg.bpmPoolCount k) 23 0 = 0
  · simp [State.newPool, h]
  · simp [State.newPool, h]

/-- INIT where no test refuses it. -/
theorem bpmInit_builds (s : State) {k : Nat} (h1 : 1 ≤ k) (h4 : k ≤ 4) (hheld : ∀ w < 64, s.held w k = 0)
    (hroom : (s.newPool k).count = 0 ∨ (0x2000000000 ≤ (s.newPool k).base ∧ (s.newPool k).base + (s.newPool k).count * poolSize k ≤ 0x4000000000 ∧
      ((s.newPool k).base + (s.newPool k).count * poolSize k ≤ s.flow.base ∨ s.flow.base + s.regionSize ≤ (s.newPool k).base) ∧
      ∀ j, 1 ≤ j → j ≤ 4 → j ≠ k → (s.pool j).built = true → (s.pool j).count ≠ 0 →
        (s.newPool k).base + (s.newPool k).count * poolSize k ≤ (s.pool j).base ∨ (s.pool j).base + (s.pool j).count * poolSize j ≤ (s.newPool k).base)) :
    s.bpmInit k = if (s.newPool k).count = 0 then (s.poolBuilt k).bpmDone 0 0 else (s.poolBuilt k).cmdAccept Reg.bpmResult := by
  have hnone : ((List.range 64).any fun o => s.held o k != 0) = false := by
    rw [List.any_eq_false]
    exact fun o ho => by simp [hheld o (List.mem_range.mp ho)]
  have hok : ¬ ((s.newPool k).count ≠ 0 ∧ ((!inDram (s.newPool k).base) = true ∨ 0x4000000000 < (s.newPool k).base + (s.newPool k).count * poolSize k ∨
      ((s.newPool k).base < s.flow.base + s.regionSize ∧ s.flow.base < (s.newPool k).base + (s.newPool k).count * poolSize k) ∨
      ∃ j < 4, j + 1 ≠ k ∧ (s.pool (j + 1)).built = true ∧ (s.pool (j + 1)).count ≠ 0 ∧
        (s.newPool k).base < (s.pool (j + 1)).base + (s.pool (j + 1)).count * poolSize (j + 1) ∧
        (s.pool (j + 1)).base < (s.newPool k).base + (s.newPool k).count * poolSize k)) := by
    rintro ⟨hne, hbad⟩
    have hpos : 0 < (s.newPool k).count * poolSize k := Nat.mul_pos (Nat.pos_of_ne_zero hne) (by interval_cases k <;> decide)
    obtain ⟨hlo, hhi, hflow, hothers⟩ := hroom.resolve_left hne
    rcases hbad with h | h | h | ⟨j, hj, hjk, hb, hc, g1, g2⟩
    · simp [inDram] at h; omega
    · omega
    · omega
    · have := hothers (j + 1) (by omega) (by omega) hjk hb hc
      omega
  unfold State.bpmInit
  dsimp only
  rw [if_neg (by omega)]
  refine (if_neg fun hc => hok ⟨hc.1, ?_⟩).trans ?_
  · have hc2 := hc.2
    simp only [Bool.or_eq_true, Bool.and_eq_true, decide_eq_true_eq, List.any_eq_true, List.mem_range, bne_iff_ne, ne_eq] at hc2
    rcases hc2 with ((h | h) | h) | ⟨j, hj, h⟩
    · exact .inl h
    · exact .inr (.inl h)
    · exact .inr (.inr (.inl h))
    · obtain ⟨⟨⟨⟨g1, g2⟩, g3⟩, g4⟩, g5⟩ := h
      exact .inr (.inr (.inr ⟨j, hj, g1, g2, g3, g4, g5⟩))
  · rw [hnone, if_neg (by decide)]
    rfl

/-- Registers of the pools are not the result register. -/
theorem newPool_accepted (k : Nat) (h1 : 1 ≤ k) : (s.cmdAccept Reg.bpmResult).newPool k = s.newPool k := by
  have hfld : ∀ a hi lo, 0x4C0100 ≤ a → (s.cmdAccept Reg.bpmResult).fld a hi lo = s.fld a hi lo := fun a hi lo ha =>
    State.fld_of_rd (rd_accepted (by unfold Reg.bpmResult; omega)) _ _
  rw [State.newPool, State.newPool, hfld _ _ _ (by unfold Reg.bpmPoolCount; omega), hfld _ _ _ (by unfold Reg.bpmPoolBaseLo; omega),
    hfld _ _ _ (by unfold Reg.bpmPoolBaseHi; omega), pool_of_bpm accepted_bpm]

theorem Wput_twice (w : Word) : Wput (Wput w 31 29 2) 31 29 2 = Wput w 31 29 2 := by
  have h := Wput_toNat w 31 29 2 (by decide) (by decide)
  apply BitVec.eq_of_toNat_eq
  rw [Wput_toNat _ _ _ _ (by decide) (by decide), h]
  simp only [putBits, bitsOf]
  omega

theorem initCmd_spec (hreach : s.reaches acc Reg.bpmCmd) (hbusy : s.cmdBusy Reg.bpmResult = false) (hop : Wbits v 3 0 = 5)
    (hk : k = (s.rd Reg.bpmArg0).toNat % 8) (h1 : 1 ≤ k) (h4 : k ≤ 4) (hheld : ∀ w < 64, s.held w k = 0)
    (hroom : (s.newPool k).count = 0 ∨ (0x2000000000 ≤ (s.newPool k).base ∧ (s.newPool k).base + (s.newPool k).count * poolSize k ≤ 0x4000000000 ∧
      ((s.newPool k).base + (s.newPool k).count * poolSize k ≤ s.flow.base ∨ s.flow.base + s.regionSize ≤ (s.newPool k).base) ∧
      ∀ j, 1 ≤ j → j ≤ 4 → j ≠ k → (s.pool j).built = true → (s.pool j).count ≠ 0 →
        (s.newPool k).base + (s.newPool k).count * poolSize k ≤ (s.pool j).base ∨ (s.pool j).base + (s.pool j).count * poolSize j ≤ (s.newPool k).base)) :
    ∃ t, exec (.poolInit acc v) s = .next t ∧ BpmFrame s t ∧ t.poolFree k = 0 ∧ (t.pool k).base = (s.newPool k).base ∧
      (t.pool k).count = (s.newPool k).count ∧ (∀ j, j ≠ k → t.pool j = s.pool j) ∧
      t.rd Reg.bpmResult = (if (s.newPool k).count = 0 then resultWord 0 else Wput (s.rd Reg.bpmResult) 31 29 2) := by
  obtain ⟨a, ha⟩ : ∃ a, a = s.cmdAccept Reg.bpmResult := ⟨_, rfl⟩
  have hbpm : a.bpm = s.bpm := ha ▸ accepted_bpm
  have hnew : a.newPool k = s.newPool k := ha ▸ newPool_accepted k h1
  have hflow : a.flow = s.flow := by rw [ha, State.cmdAccept_flow]
  have hsize : a.regionSize = s.regionSize := by
    rw [State.regionSize, State.regionSize, State.fld_of_rd (ha ▸ rd_accepted (by decide))]
  obtain ⟨b1, b2, b3, b4, b5, b6, b7, b8⟩ := poolBuilt_spec a k
  have hfree := poolFree_poolBuilt a h1
  have hinit := bpmInit_builds a h1 h4 (fun w hw => (held_of_bpm hbpm w k).trans (hheld w hw))
    (by rw [hnew, hflow, hsize]; simpa only [pool_of_bpm hbpm] using hroom)
  rw [hnew] at hinit b2 b3
  have hexec := initCmd_eq hreach hbusy hop
  rw [← ha, ← hk, hinit] at hexec
  rw [ha] at b1
  obtain ⟨d1, d2, -, d4, -⟩ := bpmDone_spec b1 (c := 0) (by decide) 0
  rw [← ha] at b1 d1 d2 d4
  by_cases hzero : (s.newPool k).count = 0
  · rw [if_pos hzero] at hexec ⊢
    exact ⟨_, hexec, d1, (poolFree_of_bpm d4 k).trans hfree, (congrArg Pool.base (pool_of_bpm d4 k)).trans b2,
      (congrArg Pool.count (pool_of_bpm d4 k)).trans b3, fun j hj => (pool_of_bpm d4 j).trans ((b8 j hj).trans (pool_of_bpm hbpm j)), d2⟩
  · rw [if_neg hzero] at hexec ⊢
    have hacc : ((a.poolBuilt k).cmdAccept Reg.bpmResult).bpm = (a.poolBuilt k).bpm := accepted_bpm
    refine ⟨_, hexec, ⟨?_, ?_, ?_, ?_, fun x hx g1 _ g3 => ?_⟩, (poolFree_of_bpm hacc k).trans hfree, (congrArg Pool.base (pool_of_bpm hacc k)).trans b2,
      (congrArg Pool.count (pool_of_bpm hacc k)).trans b3, fun j hj => (pool_of_bpm hacc j).trans ((b8 j hj).trans (pool_of_bpm hbpm j)), ?_⟩
    · rw [State.cmdAccept_mem, b1.only.mem_eq (by decide), ha, State.cmdAccept_mem]
    · rw [State.cmdAccept_qm, b1.only.qm_eq (by decide), ha, State.cmdAccept_qm]
    · rw [State.cmdAccept_flow, b1.only.flow_eq (by decide), hflow]
    · rw [State.cmdAccept_dsp, b1.only.dsp_eq (by decide), ha, State.cmdAccept_dsp]
    · rw [rd_accepted g1, b1.rd x hx g3, ha, rd_accepted g1]
    · have hword : ∀ u : State, (u.cmdAccept Reg.bpmResult).rd Reg.bpmResult = Wput (u.rd Reg.bpmResult) 31 29 2 := fun u => by
        rw [State.cmdAccept, State.setFld, State.rd_wr, if_pos rfl]
      rw [hword, b1.rd _ (by decide) (by decide), ha, hword]
      exact Wput_twice _

theorem initHeld_spec (hreach : s.reaches acc Reg.bpmCmd) (hbusy : s.cmdBusy Reg.bpmResult = false) (hop : Wbits v 3 0 = 5)
    (hk : k = (s.rd Reg.bpmArg0).toNat % 8) (h1 : 1 ≤ k) (h4 : k ≤ 4) (hheld : ∃ w < 64, s.held w k ≠ 0) (hcount : s.fld (Reg.bpmPoolCount k) 23 0 = 0) :
    ∃ t, exec (.poolInit acc v) s = .next t ∧ BpmFrame s t ∧ t.rd Reg.bpmResult = resultWord (8 * 2 ^ 25) ∧ t.bpm = s.bpm := by
  obtain ⟨a, ha⟩ : ∃ a, a = s.cmdAccept Reg.bpmResult := ⟨_, rfl⟩
  have hbpm : a.bpm = s.bpm := ha ▸ accepted_bpm
  have hacount : a.fld (Reg.bpmPoolCount k) 23 0 = 0 :=
    (State.fld_of_rd (ha ▸ rd_accepted (by unfold Reg.bpmResult Reg.bpmPoolCount; omega)) _ _).trans hcount
  have hany : ((List.range 64).any fun o => a.held o k != 0) = true := by
    obtain ⟨w, hw, hne⟩ := hheld
    exact List.any_eq_true.mpr ⟨w, List.mem_range.mpr hw, by rw [held_of_bpm hbpm]; simpa using hne⟩
  have hinit : a.bpmInit k = a.bpmDone 8 0 := by
    unfold State.bpmInit
    dsimp only
    rw [if_neg (by omega), if_neg fun hc => hc.1 hacount, if_pos hany]
  have hstep : BpmStep (s.cmdAccept Reg.bpmResult) a := ha ▸ BpmStep.of_eq rfl
  obtain ⟨d1, d2, -, d4, -⟩ := bpmDone_spec hstep (c := 8) (by decide) 0
  exact ⟨_, by rw [initCmd_eq hreach hbusy hop, ← ha, ← hk, hinit], d1, d2, d4.trans hbpm⟩

theorem poolInitDone_spec (s : State) (h1 : 1 ≤ k) (h4 : k ≤ 4) (hbuilding : (s.pool k).building = true) (hbuilt : (s.pool k).built = true) :
    ∃ t, exec (.poolInitDone k) s = .next t ∧ t.poolFree k = (s.pool k).count ∧ (t.pool k).freed = [] ∧ (t.pool k).next = 0 ∧
      t.bit Reg.bpmResult 31 = true ∧ t.bit Reg.bpmResult 30 = false ∧ (∀ j, j ≠ k → t.pool j = s.pool j) ∧
      s.regsBut t [Reg.bpmResult, Reg.bpmResHandle] ∧ t.mem = s.mem ∧ t.bpm.bufs = s.bpm.bufs := by
  obtain ⟨p, hp⟩ : ∃ p : Pool, p = { s.pool k with building := false, freed := [], next := 0 } := ⟨_, rfl⟩
  obtain ⟨u, hu⟩ : ∃ u, u = s.setPool k p := ⟨_, rfl⟩
  have hupool : ∀ j, u.pool j = if j = k then p else s.pool j := fun j => by rw [hu]; exact pool_setPool ..
  obtain ⟨lstep, lpool, lbufs, -, -, lregs⟩ := lowRearm_spec u k
  obtain ⟨w, hw⟩ : ∃ w, w = u.lowRearm k := ⟨_, rfl⟩
  rw [← hw] at lstep lpool lbufs lregs
  have hwpool : w.pool k = { p with fired := (w.pool k).fired } := by rw [lpool, if_pos rfl, hupool, if_pos rfl]
  have hdone : (w.bpmDone 0 0).bpm = w.bpm := by rw [State.bpmDone, State.wr_bpm, State.cmdDone_bpm]
  have hpool := pool_of_bpm hdone
  have hexec : exec (.poolInitDone k) s = .next (w.bpmDone 0 0) := by
    have hg : (decide (1 ≤ k) && decide (k < 5)) = true := by simp [h1]; omega
    rw [exec_poolInitDone, execPoolInitDone, whenWf, hg, if_pos rfl, occurs, hbuilding, if_pos rfl, ← hp, ← hu, ← hw]
  have hrd : ∀ a, w.rd a = s.rd a := fun a => by rw [State.rd, State.rd, lregs, hu]; rfl
  have hresult : (w.bpmDone 0 0).fld Reg.bpmResult = (w.cmdDone Reg.bpmResult 0).fld Reg.bpmResult := by
    funext hi lo
    exact State.fld_of_rd (by rw [State.bpmDone, State.rd_wr, if_neg (by decide), Nat.zero_mul]) hi lo
  have h29 : w.fld Reg.bpmResult 29 29 < 2 := Nat.mod_lt _ (by decide)
  refine ⟨_, hexec, ?_, ?_, ?_, ?_, ?_, fun j hj => ?_, fun a ha => ?_, ?_, ?_⟩
  · have hcounted : w.poolCount k = (s.pool k).count := by rw [State.poolCount, if_neg (by omega), hwpool, hp]
    have hbad : ∀ n, w.badBelow k n = 0 := fun n => if_neg (by omega)
    rw [poolFree_of_bpm hdone, State.poolFree, hcounted, hwpool, hp]
    simp [hbuilt, hbad]
  · rw [hpool, hwpool, hp]
  · rw [hpool, hwpool, hp]
  · rw [State.bit, hresult, fld_cmdDone]
    simp only [bitsOf, beq_iff_eq]; omega
  · rw [State.bit, hresult, fld_cmdDone]
    simp only [bitsOf, beq_eq_false_iff_ne]; omega
  · rw [hpool, lpool, if_neg hj, hupool, if_neg hj]
  · simp only [List.mem_cons, List.not_mem_nil, or_false, not_or] at ha
    rw [rd_bpmDone _ _ _ ha.1 ha.2, hrd]
  · rw [State.bpmDone, State.wr_mem, State.cmdDone_mem, lstep.only.mem_eq (by decide), hu]
    rfl
  · rw [hdone, lbufs, hu]
    rfl

end

/-- Settles O50: each command of BPM.CMD from what its work does to the accepted state and what the result register then holds. -/
theorem bufferPools : Obligations.BufferPools := by
  intro s acc v hreach hbusy o h frame
  refine ⟨fun hop h16 k hkh hmay => allocCmd_spec hreach hbusy hop rfl rfl h16 hkh hmay, fun hop hno => ?_, fun k i hh hown => ⟨?_, ?_, ?_⟩,
    fun k i hh hop hrefs => shareCmd_spec hreach hbusy hop hh hrefs rfl, fun hh hop => freeNone_spec hreach hbusy hop hh,
    fun k hk hop h1 h4 hheld => initCmd_spec hreach hbusy hop hk h1 h4 hheld,
    fun k hk hop h1 h4 hheld hcount => initHeld_spec hreach hbusy hop hk h1 h4 hheld hcount, fun u k h1 h4 => poolInitDone_spec u h1 h4⟩
  · obtain ⟨t, h1, h2, h3, h4, h5⟩ := allocCmd_fails hreach hbusy hop rfl rfl hno
    exact ⟨t, h1, h2, h3, h4, h5⟩
  · exact fun hop hrefs => freeLast_spec hreach hbusy hop hh hown hrefs
  · exact fun hop h1 hlt => freeShared_spec hreach hbusy hop hh hown h1 hlt
  · exact fun hop hrefs hne => handoverCmd_spec hreach hbusy hop hh hown hrefs rfl hne

end Sys2Proof.Machine
end

section
/-! PROOFS. The DRAM controller's queues: what a request completed, a request accepted and a pseudo-channel replaced leave. -/
namespace Sys2Proof.Machine

section
variable (s : State)

theorem exec_dramRequestAccept (r : DramReq) : exec (.dramRequestAccept r) s = execDramRequestAccept r s := rfl
theorem exec_dramCommandIssue (c : Nat) (column : Bool) (ready : List Nat) :
    exec (.dramCommandIssue c column ready) s = execDramCommandIssue c column ready s := rfl
theorem exec_dramReadComplete (c : Nat) (outs : List AtomOutcome) : exec (.dramReadComplete c outs) s = execDramReadComplete c outs s := rfl
theorem exec_dramRefresh (c : Nat) (busy : Bool) : exec (.dramRefresh c busy) s = execDramRefresh c busy s := rfl
theorem exec_dramTempRead (n : Nat) (x : Int) : exec (.dramTempRead n x) s = execDramTempRead n x s := rfl
theorem exec_selfRefreshEntry (n us : Nat) : exec (.selfRefreshEntry n us) s = execSelfRefreshEntry n us s := rfl
theorem exec_rowIdleClose (c b ns : Nat) : exec (.rowIdleClose c b ns) s = execRowIdleClose c b ns s := rfl

end

section
variable {s : State}

/-! ### Pseudo-channels -/

theorem dramMap_chan_lt (a : Nat) : (dramMap a).chan < 128 := by
  have hmod : ∀ n, n % 128 < 2 ^ 7 := fun n => Nat.mod_lt _ (by decide)
  have htwo : ∀ n, n % 2 < 2 ^ 7 := fun n => (Nat.mod_lt n (by decide)).trans (by decide)
  exact Nat.xor_lt_two_pow (Nat.xor_lt_two_pow (Nat.xor_lt_two_pow (Nat.xor_lt_two_pow (hmod _) (hmod _)) (hmod _)) (hmod _)) (htwo _)

theorem dramMap_bank_lt (a : Nat) : (dramMap a).bank < 16 := by
  have hmod : ∀ n, n % 16 < 2 ^ 4 := fun n => Nat.mod_lt _ (by decide)
  exact Nat.xor_lt_two_pow (hmod _) (hmod _)

theorem chan_setChan (s : State) (c : Nat) (x : Channel) (d : Nat) : (s.setChan c x).chan d = if d = c then x else s.chan d :=
  SMap.get_set ..

theorem chan_of_dmc {t : State} (h : t.dmc = s.dmc) (d : Nat) : t.chan d = s.chan d := by rw [State.chan, State.chan, h]

/-! ### A request completed -/

/-- The counters a completed request of a port is counted in. -/
theorem dmcPortCnt_ne {p i j : Nat} (h : i ≠ j) : Reg.dmcPortCnt p i ≠ Reg.dmcPortCnt p j := by
  unfold Reg.dmcPortCnt; omega

theorem regsCtrs_requestDone (s : State) (e : DramEntry) : s.RegsCtrs (s.requestDone e) := by
  rw [State.requestDone]
  refine (State.RegsCtrs.trans ?_ (State.counts_count ..).regsCtrs).trans (State.counts_count ..).regsCtrs
  refine State.RegsCtrs.trans ?_ (State.RegsCtrs.of_regs _)
  split
  · exact ((State.regsCtrs_setCtr s _ _).trans (State.regsCtrs_setCtr _ _ _)).trans (State.regsCtrs_setCtr _ _ _)
  · exact (State.regsCtrs_setCtr s _ _).trans (State.regsCtrs_setCtr _ _ _)

theorem requestDone_eq (s : State) (e : DramEntry) :
    s.requestDone e = { s with regs := (s.requestDone e).regs, ctrs := (s.requestDone e).ctrs } := regsCtrs_requestDone s e

@[simp] theorem requestDone_mem (s : State) (e : DramEntry) : (s.requestDone e).mem = s.mem := by rw [requestDone_eq]
@[simp] theorem requestDone_dmc (s : State) (e : DramEntry) : (s.requestDone e).dmc = s.dmc := by rw [requestDone_eq]
@[simp] theorem requestDone_boot (s : State) (e : DramEntry) : (s.requestDone e).boot = s.boot := by rw [requestDone_eq]

theorem rd_requestDone (e : DramEntry) {a : Nat} (ha : a < 0x700000) (hne : a ≠ Reg.dmcLatMax e.req.port) :
    (s.requestDone e).rd a = s.rd a := by
  rw [State.requestDone, State.rd_count _ _ _ _ _ ha, State.rd_count _ _ _ _ _ ha, State.rd_setFld_other _ _ _ _ _ _ hne]
  split <;> rfl

/-- A request that is done as it arrives leaves the longest latency as it is. -/
theorem rd_requestDone_now {e : DramEntry} (hp : e.req.port < 6) (hnow : e.accepted = s.nowNs) {a : Nat} (ha : a < 0x700000) :
    (s.requestDone e).rd a = s.rd a := by
  by_cases hne : a = Reg.dmcLatMax e.req.port
  · subst hne
    have hfld : ∀ t : State, (t.setFld (Reg.dmcLatMax e.req.port) 31 0 (max (t.fld (Reg.dmcLatMax e.req.port) 31 0) (satNat 0 (2 ^ 32 - 1)))).rd
        (Reg.dmcLatMax e.req.port) = t.rd (Reg.dmcLatMax e.req.port) := fun t => by
      rw [State.setFld, State.rd_wr, if_pos rfl, Wput_word, State.fld, Wbits_word, satNat]
      simp
    rw [State.requestDone, State.rd_count _ _ _ _ _ ha, State.rd_count _ _ _ _ _ ha, hnow, Nat.sub_self]
    rw [hfld]
    split <;> rfl
  · exact rd_requestDone e ha hne

theorem ctr_requestDone (e : DramEntry) {c : Nat} (hc : c < 0x740000) (h1 : c ≠ Reg.dmcPortCnt e.req.port 1)
    (h2 : c ≠ Reg.dmcPortCnt e.req.port 2) : (s.requestDone e).ctr c =
      if c = Reg.dmcPortCnt e.req.port 0 then (s.ctr (Reg.dmcPortCnt e.req.port 0) + 1) % 2 ^ 64 else s.ctr c := by
  have hset : ∀ (t : State) a hi lo v, (t.setFld a hi lo v).ctr c = t.ctr c := fun _ _ _ _ _ => rfl
  rw [State.requestDone, State.ctr_count _ _ _ _ _ hc, State.ctr_count _ _ _ _ _ hc, hset]
  split <;> simp only [State.ctr_bump, if_neg h1, if_neg h2]

theorem raised_requestDone {t : State} {e : DramEntry} (hp : e.req.port < 6) {n : Nat} (hn : n < 320) (h : s.raised t n) :
    s.raised (t.requestDone e) n := by
  rw [State.requestDone]
  refine State.raised.counts (State.raised.counts (h.after hn fun a h1 _ => ?_) hn (State.counts_count ..)) hn (State.counts_count ..)
  rw [State.rd_setFld_other _ _ _ _ _ _ (by rw [Reg.dmcLatMax]; omega)]
  split <;> rfl

/-! ### The bytes a write enables -/

theorem get_putEnabled (l : List (Option Byte)) : ∀ (m : Mem) (a x : Nat), (putEnabled m a l).get x =
    if a ≤ x ∧ x < a + l.length then (l.getD (x - a) none).getD (m.get x) else m.get x := by
  induction l with
  | nil => intro m a x; rw [if_neg (by simp)]; rfl
  | cons o l ih =>
    intro m a x
    have hstep : putEnabled m a (o :: l) = putEnabled (match o with | some b => m.set a b | none => m) (a + 1) l := by
      cases o <;> rfl
    rw [hstep, ih, List.length_cons]
    by_cases hx : x = a
    · subst hx
      rw [if_neg (by omega), if_pos (by omega), Nat.sub_self, List.getD_cons_zero]
      cases o with
      | none => rfl
      | some b => rw [Mem.get_set, if_pos rfl]; rfl
    · have hm : (match o with | some b => m.set a b | none => m).get x = m.get x := by
        cases o with
        | none => rfl
        | some b => rw [Mem.get_set, if_neg hx]
      rw [hm]
      by_cases hin : a + 1 ≤ x ∧ x < a + 1 + l.length
      · obtain ⟨k, hk⟩ : ∃ k, x - a = k + 1 := ⟨x - a - 1, by omega⟩
        rw [if_pos hin, if_pos (by omega), hk, List.getD_cons_succ, show x - (a + 1) = k by omega]
      · rw [if_neg hin, if_neg (by omega)]

/-! ### A request accepted -/

/-- A pseudo-channel with an entry at the end of its queue. -/
def Channel.queued (x : Channel) (e : DramEntry) : Channel :=
  if e.req.port = 0 then { x with banks := x.banks.set (dramMap e.req.addr).bank (x.banks.get (dramMap e.req.addr).bank ++ [e]) }
  else { x with shared := x.shared ++ [e] }

/-- The state with an entry queued, before a write's bytes are stored. -/
def State.entryQueued (s : State) (c : Nat) (e : DramEntry) : State :=
  ({ s with dmc.nextId := s.dmc.nextId + 1 } : State).setChan c ((s.chan c).queued e)

theorem dmcEnqueue_eq {c : Nat} {e e' : DramEntry}
    (he : e' = { e with id := s.dmc.nextId, old := s.ldBytes e.req.addr (64 * e.req.atoms) }) :
    s.dmcEnqueue c e = if e.req.write then
        { s.entryQueued c e' with mem := putEnabled s.mem e.req.addr e.req.data }.requestDone e'
      else s.entryQueued c e' := by
  rw [he]; rfl

theorem chan_entryQueued (s : State) (c : Nat) (e : DramEntry) (d : Nat) :
    (s.entryQueued c e).chan d = if d = c then (s.chan c).queued e else s.chan d := chan_setChan ..

theorem wake_eq {n : Nat} (h : s.bit (Reg.dnStatus n) 30 = false) : s.wake n = s := by
  rw [State.wake, h, Bool.false_and, if_neg (by decide)]

theorem wf_fields {r : DramReq} (h : r.wf = true) : r.port < 6 ∧ 1 ≤ r.atoms ∧ (r.write = true → r.data.length = 64 * r.atoms) := by
  simp only [DramReq.wf, Bool.and_eq_true, decide_eq_true_eq, Bool.or_eq_true, beq_iff_eq] at h
  obtain ⟨⟨⟨⟨⟨⟨hport, -⟩, -⟩, -⟩, hatoms⟩, -⟩, hdata⟩ := h
  exact ⟨hport, hatoms, fun hw => by simpa [hw] using hdata⟩

theorem dramRequestAccept_eq {r : DramReq} {c : Nat} (hwf : r.wf = true) (hc : (dramMap r.addr).chan = c) (hup : s.stackUp (c / 32) = true) :
    exec (.dramRequestAccept r) s = .next ((s.wake (c / 32)).offerEntry c { req := r, accepted := s.nowNs }) := by
  rw [exec_dramRequestAccept, execDramRequestAccept, hwf, whenWf, if_pos rfl, hc, occurs, hup, if_pos rfl]

theorem dramRequestAccept_holds {r : DramReq} {c : Nat} (hwf : r.wf = true) (hc : (dramMap r.addr).chan = c)
    (hup : s.stackUp (c / 32) = true) (hsr : s.bit (Reg.dnStatus (c / 32)) 30 = false)
    (hh : s.windowHolds r = true ∨ (s.chan c).room r = false) : exec (.dramRequestAccept r) s = .next (s.setChan c
      { s.chan c with waiting := (s.chan c).waiting ++ [{ req := r, accepted := s.nowNs }] }) := by
  rw [dramRequestAccept_eq hwf hc hup, wake_eq hsr, State.offerEntry, if_pos]
  rcases hh with h | h <;> simp [h]

theorem dramRequestAccept_enters {r : DramReq} {c : Nat} {e : DramEntry} (hwf : r.wf = true) (hc : (dramMap r.addr).chan = c)
    (hup : s.stackUp (c / 32) = true) (hsr : s.bit (Reg.dnStatus (c / 32)) 30 = false) (hwin : s.windowHolds r = false)
    (hroom : (s.chan c).room r = true) (hwait : (s.chan c).waiting = [])
    (he : e = { id := s.dmc.nextId, req := r, accepted := s.nowNs, old := s.mem.getBytes r.addr (64 * r.atoms) }) :
    exec (.dramRequestAccept r) s = .next (if r.write then
      { s.entryQueued c e with mem := putEnabled s.mem r.addr r.data }.requestDone e else s.entryQueued c e) := by
  rw [dramRequestAccept_eq hwf hc hup, wake_eq hsr, State.offerEntry, if_neg (by simp [hwin, hroom, hwait]), dmcEnqueue_eq he]

theorem dramRequestAccept_spec {r : DramReq} {c : Nat} {e : DramEntry} (hwf : r.wf = true) (hc : (dramMap r.addr).chan = c)
    (hup : s.stackUp (c / 32) = true) (hsr : s.bit (Reg.dnStatus (c / 32)) 30 = false) (hwin : s.windowHolds r = false)
    (hroom : (s.chan c).room r = true) (hwait : (s.chan c).waiting = [])
    (he : e = { id := s.dmc.nextId, req := r, accepted := s.nowNs, old := s.mem.getBytes r.addr (64 * r.atoms) }) :
    ∃ t, exec (.dramRequestAccept r) s = .next t ∧ t.dmc = (s.entryQueued c e).dmc ∧ (∀ a, a < 0x700000 → t.rd a = s.rd a) ∧
      (r.write = false → t.mem = s.mem ∧ t.ctrs = s.ctrs) ∧
      (r.write = true → t.ctr (Reg.dmcPortCnt r.port 0) = (s.ctr (Reg.dmcPortCnt r.port 0) + 1) % 2 ^ 64 ∧
        t.mem = putEnabled s.mem r.addr r.data) := by
  have hport := (wf_fields hwf).1
  have hexec := dramRequestAccept_enters hwf hc hup hsr hwin hroom hwait he
  cases hw : r.write with
  | false =>
    rw [hw, if_neg (by decide)] at hexec
    exact ⟨s.entryQueued c e, hexec, rfl, fun _ _ => rfl, fun _ => ⟨rfl, rfl⟩, fun h => absurd h (by decide)⟩
  | true =>
    rw [hw, if_pos rfl] at hexec
    obtain ⟨u, hu⟩ : ∃ u : State, u = { s.entryQueued c e with mem := putEnabled s.mem r.addr r.data } := ⟨_, rfl⟩
    have hereq : e.req = r := by rw [he]
    have hnow : e.accepted = u.nowNs := by rw [he, hu]; rfl
    have hrd : ∀ a, u.rd a = s.rd a := fun a => by rw [hu]; rfl
    have hctr : ∀ a, u.ctr a = s.ctr a := fun a => by rw [hu]; rfl
    have hp : e.req.port < 6 := hereq ▸ hport
    have h0 : Reg.dmcPortCnt r.port 0 < 0x740000 := by rw [Reg.dmcPortCnt]; omega
    refine ⟨u.requestDone e, hu ▸ hexec, by rw [requestDone_dmc, hu], fun a ha => (rd_requestDone_now hp hnow ha).trans (hrd a),
      fun h => absurd h (by decide), fun _ => ⟨?_, by rw [requestDone_mem, hu]⟩⟩
    rw [ctr_requestDone e h0 (hereq ▸ dmcPortCnt_ne (by decide)) (hereq ▸ dmcPortCnt_ne (by decide)), hereq, if_pos rfl, hctr]

theorem raised_offerEntry (s : State) {t : State} (c : Nat) {e : DramEntry} (hp : e.req.port < 6) {n : Nat} (hn : n < 320) (h : s.raised t n) :
    s.raised (t.offerEntry c e) n ∧ (∀ a, a < 0x700000 → a ≠ Reg.dmcLatMax e.req.port → (t.offerEntry c e).rd a = t.rd a) := by
  obtain ⟨e', he'⟩ : ∃ e' : DramEntry, e' = { e with id := t.dmc.nextId, old := t.ldBytes e.req.addr (64 * e.req.atoms) } := ⟨_, rfl⟩
  have hreq : e'.req = e.req := by rw [he']
  rw [State.offerEntry]
  split
  · exact ⟨h, fun _ _ _ => rfl⟩
  · rw [dmcEnqueue_eq he']
    split
    · exact ⟨raised_requestDone (by rw [hreq]; exact hp) hn h, fun a ha hne => rd_requestDone _ ha (by rwa [hreq])⟩
    · exact ⟨h, fun _ _ _ => rfl⟩

/-- A request that arrives at a stack in self-refresh wakes it. -/
theorem dramRequestAccept_wakes {r : DramReq} {n : Nat} (hwf : r.wf = true) (hc : (dramMap r.addr).chan / 32 = n)
    (hup : s.stackUp n = true) (h30 : s.bit (Reg.dnStatus n) 30 = true) (h29 : s.bit (Reg.dnStatus n) 29 = true) :
    ∃ t, exec (.dramRequestAccept r) s = .next t ∧ t.bit (Reg.dnStatus n) 30 = false ∧ t.bit (Reg.dnStatus n) 29 = false ∧
      t.bit (Reg.dnEvents n) 2 = true ∧ s.raised t (210 + 4 * n) := by
  have hn : n < 4 := by have := dramMap_chan_lt r.addr; omega
  obtain ⟨u, hu⟩ : ∃ u, u = (s.setBit (Reg.dnStatus n) 30 false).setBit (Reg.dnStatus n) 29 false := ⟨_, rfl⟩
  have hwake : s.wake n = u.setEvent (Reg.dnEvents n) 2 (210 + 4 * n) := by
    rw [State.wake, h30, h29, Bool.and_self, if_pos rfl, hu]
  have hev : Reg.dnEvents n < 0x700000 := by rw [Reg.dnEvents]; omega
  have hst : Reg.dnStatus n < 0x700000 := by rw [Reg.dnStatus]; omega
  have hne : Reg.dnStatus n ≠ Reg.dnEvents n := by rw [Reg.dnStatus, Reg.dnEvents]; omega
  have hport := (wf_fields hwf).1
  have hlat : ∀ a, a = Reg.dnStatus n ∨ a = Reg.dnEvents n → a ≠ Reg.dmcLatMax r.port := by
    unfold Reg.dnStatus Reg.dnEvents Reg.dmcLatMax; omega
  have hraised : s.raised (s.wake n) (210 + 4 * n) := by
    rw [hwake]
    refine (u.raised_setEvent (by omega) hev).of_rd fun a ha => ?_
    rw [hu, State.rd_setBit_other _ _ _ _ _ (by omega), State.rd_setBit_other _ _ _ _ _ (by omega)]
  obtain ⟨h1, h2⟩ := raised_offerEntry s (dramMap r.addr).chan (e := { req := r, accepted := s.nowNs }) hport (by omega) hraised
  have hstatus : ∀ i, ((s.wake n).offerEntry (dramMap r.addr).chan { req := r, accepted := s.nowNs }).bit (Reg.dnStatus n) i = u.bit (Reg.dnStatus n) i :=
    fun i => by
      rw [State.bit_of_rd (h2 _ hst (hlat _ (.inl rfl))), hwake, State.bit_of_rd (State.rd_setEvent _ _ _ _ _ hst),
        State.bit_of_rd (State.rd_setBit_other _ _ _ _ _ hne)]
  refine ⟨_, by rw [dramRequestAccept_eq hwf rfl (hc ▸ hup), hc], ?_, ?_, ?_, h1⟩
  · rw [hstatus, hu, State.bit_setBit _ _ _ _ _ _ (by decide), if_neg (by simp), State.bit_setBit_same _ _ _ _ (by decide)]
  · rw [hstatus, hu, State.bit_setBit_same _ _ _ _ (by decide)]
  · rw [State.bit_of_rd (h2 _ hev (hlat _ (.inr rfl))), hwake]
    exact State.bit_setEvent_same _ (by decide) hev

end

end Sys2Proof.Machine
end

section
/-! PROOFS. The DRAM controller's picks and the commands it issues for the shared side. -/
namespace Sys2Proof.Machine

section
variable {s : State}

/-! ### The shared side's pick -/

/-- A request goes before another: a higher class, or the same and accepted no later. -/
def State.beats (s : State) (e o : DramEntry) : Prop := s.effClass o < s.effClass e ∨ (s.effClass o = s.effClass e ∧ e.id ≤ o.id)

theorem beats_refl (s : State) (e : DramEntry) : s.beats e e := .inr ⟨rfl, le_rfl⟩

theorem beats_trans {a b c : DramEntry} (h : s.beats a b) (k : s.beats b c) : s.beats a c := by
  unfold State.beats at *; omega

theorem better_spec (s : State) (a b : DramEntry) : (s.better a b = a ∨ s.better a b = b) ∧ s.beats (s.better a b) a ∧ s.beats (s.better a b) b := by
  rw [State.better]
  unfold State.beats
  split
  · exact ⟨.inr rfl, by omega, by omega⟩
  · exact ⟨.inl rfl, by omega, by omega⟩

theorem foldl_better (l : List DramEntry) : ∀ a, (l.foldl s.better a = a ∨ l.foldl s.better a ∈ l) ∧
    ∀ o, o = a ∨ o ∈ l → s.beats (l.foldl s.better a) o := by
  induction l with
  | nil => exact fun a => ⟨.inl rfl, fun o ho => by simp only [List.not_mem_nil, or_false] at ho; rw [ho]; exact beats_refl s a⟩
  | cons b l ih =>
    intro a
    obtain ⟨hmem, hall⟩ := ih (s.better a b)
    obtain ⟨hpick, ha, hb⟩ := better_spec s a b
    have hbest := hall _ (.inl rfl)
    rw [List.foldl_cons]
    refine ⟨?_, fun o ho => ?_⟩
    · rcases hmem with h | h
      · rw [h]; exact hpick.imp id fun h => by rw [h]; exact List.mem_cons_self
      · exact .inr (List.mem_cons_of_mem _ h)
    · rcases ho with rfl | ho
      · exact beats_trans hbest ha
      · rcases List.mem_cons.mp ho with rfl | ho
        · exact beats_trans hbest hb
        · exact hall o (.inr ho)

theorem sharedPick_spec {x : Channel} {ok : DramEntry → Bool} {e : DramEntry} (h : s.sharedPick x ok = some e) :
    e ∈ x.shared ∧ ok e = true ∧ ∀ o ∈ x.shared, ok o = true → s.beats e o := by
  rw [State.sharedPick] at h
  split at h
  · exact absurd h (by simp)
  · next a l hl =>
    have hin : ∀ o, o = a ∨ o ∈ l ↔ o ∈ x.shared ∧ ok o = true := fun o => by
      rw [← List.mem_cons, ← hl, List.mem_filter]
    obtain ⟨hmem, hall⟩ := foldl_better (s := s) l a
    rw [Option.some.inj h] at hmem hall
    obtain ⟨h1, h2⟩ := (hin e).mp hmem
    exact ⟨h1, h2, fun o ho hok => hall o ((hin o).mpr ⟨ho, hok⟩)⟩

/-! ### The picked request's command -/

/-- A pseudo-channel as a shared-side request's command finds it: its first command noted, the request marked as begun. -/
def Channel.begun (x : Channel) (e : DramEntry) : Channel :=
  (if e.started then x else x.firstCommand e).putEntry { e with started := true }

variable {e : DramEntry} {x : Channel}

theorem putEntry_shared (hp : e.req.port ≠ 0) : x.putEntry e = { x with shared := x.shared.map fun o => if o.id = e.id then e else o } := by
  rw [Channel.putEntry, if_neg hp]

theorem begun_eq (hp : e.req.port ≠ 0) : (x.begun e).openRow = x.openRow ∧ (x.begun e).banks = x.banks ∧ (x.begun e).reads = x.reads ∧
    (x.begun e).waiting = x.waiting ∧ (x.begun e).shared = x.shared.map fun o => if o.id = e.id then { e with started := true } else o := by
  have hfirst : ∀ y : Channel, y = (if e.started then x else x.firstCommand e) → y.openRow = x.openRow ∧ y.banks = x.banks ∧
      y.reads = x.reads ∧ y.waiting = x.waiting ∧ y.shared = x.shared := by
    intro y hy
    rw [hy]
    split
    · exact ⟨rfl, rfl, rfl, rfl, rfl⟩
    · rw [Channel.firstCommand]
      split <;> exact ⟨rfl, rfl, rfl, rfl, rfl⟩
  obtain ⟨h1, h2, h3, h4, h5⟩ := hfirst _ rfl
  rw [Channel.begun, putEntry_shared (e := { e with started := true }) hp]
  exact ⟨h1, h2, h3, h4, by rw [h5]⟩

theorem issue_shared (c : Nat) (hp : e.req.port ≠ 0) (column : Bool) : s.issue c x e column =
    if column then s.columnCommand c (x.begun e) { e with started := true } else s.rowCommand c (x.begun e) { e with started := true } := by
  rw [State.issue, if_neg hp, Channel.begun]

theorem dramCommandIssue_shared {c : Nat} {ready : List Nat} {column : Bool} (hc : c < 128) (hx : s.chan c = x) (hup : s.stackUp (c / 32) = true)
    (hf : s.flowPick x (x.canIssue column ready) = none) (he : s.sharedPick x (x.canIssue column ready) = some e) (hp : e.req.port ≠ 0) :
    exec (.dramCommandIssue c column ready) s = .next (if column then s.columnCommand c (x.begun e) { e with started := true }
      else s.rowCommand c (x.begun e) { e with started := true }) := by
  rw [exec_dramCommandIssue, execDramCommandIssue, decide_eq_true hc, whenWf, if_pos rfl, hx]
  dsimp only
  rw [hf, he, State.chooseSide]
  dsimp only
  rw [occurs, hup, if_pos rfl, if_neg (by decide), issue_shared c hp]

/-! ### On the row bus -/

theorem dnCnt_lt {c : Nat} (hc : c < 128) {i : Nat} (hi : i < 8) : Reg.dnCnt (c / 32) i < 0x740000 := by rw [Reg.dnCnt]; omega

theorem rowIssue_spec {c : Nat} {ready : List Nat} (hc : c < 128) (hx : s.chan c = x) (hup : s.stackUp (c / 32) = true)
    (hf : s.flowPick x (x.canIssue false ready) = none) (he : s.sharedPick x (x.canIssue false ready) = some e) (hp : e.req.port ≠ 0) :
    ∃ t, exec (.dramCommandIssue c false ready) s = .next t ∧
      (x.openRow.get (dramMap e.req.addr).bank = none → (t.chan c).openRow.get (dramMap e.req.addr).bank = some (dramMap e.req.addr).row ∧
        t.ctr (Reg.dnCnt (c / 32) 0) = (s.ctr (Reg.dnCnt (c / 32) 0) + 1) % 2 ^ 64) ∧
      (x.openRow.get (dramMap e.req.addr).bank ≠ none → (t.chan c).openRow.get (dramMap e.req.addr).bank = none ∧ t.ctrs = s.ctrs) ∧
      (∀ b, b ≠ (dramMap e.req.addr).bank → (t.chan c).openRow.get b = x.openRow.get b) ∧ (t.chan c).shared.length = x.shared.length ∧
      (t.chan c).reads = x.reads ∧ (∀ d, d ≠ c → t.chan d = s.chan d) ∧ t.mem = s.mem ∧ ∀ a, a < 0x700000 → t.rd a = s.rd a := by
  have hexec := dramCommandIssue_shared hc hx hup hf he hp
  rw [if_neg (by decide), State.rowCommand] at hexec
  obtain ⟨hopen, -, hreads, -, hshared⟩ := begun_eq (x := x) hp
  dsimp only at hexec
  rw [hopen] at hexec
  cases hrow : x.openRow.get (dramMap e.req.addr).bank with
  | some r =>
    rw [hrow] at hexec
    refine ⟨_, hexec, fun h => absurd h (by simp), fun _ => ⟨?_, rfl⟩, fun b hb => ?_, ?_, ?_, fun d hd => ?_, rfl, fun _ _ => rfl⟩
    · rw [chan_setChan, if_pos rfl, SMap.get_set, if_pos rfl]
    · rw [chan_setChan, if_pos rfl, SMap.get_set, if_neg hb]
    · rw [chan_setChan, if_pos rfl, hshared, List.length_map]
    · rw [chan_setChan, if_pos rfl, hreads]
    · rw [chan_setChan, if_neg hd]
  | none =>
    rw [hrow] at hexec
    obtain ⟨y, hy⟩ : ∃ y : Channel, y = Channel.putEntry
      { x.begun e with openRow := x.openRow.set (dramMap e.req.addr).bank (some (dramMap e.req.addr).row) }
      { e with started := true, activated := true } := ⟨_, rfl⟩
    have hy' : y.openRow = x.openRow.set (dramMap e.req.addr).bank (some (dramMap e.req.addr).row) ∧ y.reads = x.reads ∧
        y.shared.length = x.shared.length := by
      rw [hy, putEntry_shared (by exact hp)]
      exact ⟨rfl, hreads, by rw [List.length_map, hshared, List.length_map]⟩
    obtain ⟨yopen, yreads, yshared⟩ := hy'
    have hchan : ∀ d, ((((s.setChan c y).bump (Reg.dnCnt (c / 32) 0)).count 82 [c / 32]).chan d) = if d = c then y else s.chan d :=
      fun d => (chan_of_dmc (by rw [State.count_dmc, State.bump_dmc]) d).trans (chan_setChan ..)
    refine ⟨_, hy ▸ hexec, fun _ => ⟨?_, ?_⟩, fun h => absurd rfl h, fun b hb => ?_, ?_, ?_, fun d hd => ?_, ?_, fun a ha => ?_⟩
    · rw [hchan, if_pos rfl, yopen, SMap.get_set, if_pos rfl]
    · rw [State.ctr_count _ _ _ _ _ (dnCnt_lt hc (by decide)), State.ctr_bump, if_pos rfl]; rfl
    · rw [hchan, if_pos rfl, yopen, SMap.get_set, if_neg hb]
    · rw [hchan, if_pos rfl, yshared]
    · rw [hchan, if_pos rfl, yreads]
    · rw [hchan, if_neg hd]
    · rw [State.count_mem]; rfl
    · rw [State.rd_count _ _ _ _ _ ha]; rfl

/-! ### On the column bus -/

theorem countBurst_read (hw : e.req.write = false) (c : Nat) : ∃ k, s.countBurst c e = k ∧
    k = { s with regs := k.regs, ctrs := k.ctrs } ∧ (∀ a, a < 0x700000 → k.rd a = s.rd a) ∧
    (c < 128 → k.ctr (Reg.dnCnt (c / 32) 6) = (s.ctr (Reg.dnCnt (c / 32) 6) + 1) % 2 ^ 64) := by
  have h1 : Reg.dnCnt (c / 32) 6 ≠ Reg.dnCnt (c / 32) 1 := by rw [Reg.dnCnt, Reg.dnCnt]; omega
  refine ⟨_, rfl, ?_⟩
  simp only [State.countBurst, hw, Bool.false_eq_true, if_false, Bool.not_false, Bool.true_or, if_true]
  obtain ⟨k, hk⟩ : ∃ k, k = (s.bump (Reg.dnCnt (c / 32) 6)).count 80 [c / 32] := ⟨_, rfl⟩
  have hfields : k = { s with regs := k.regs, ctrs := k.ctrs } := by rw [hk, State.count_eq]; rfl
  have hrd : ∀ a, a < 0x700000 → k.rd a = s.rd a := fun a ha => by rw [hk, State.rd_count _ _ _ _ _ ha]; rfl
  have hctr : c < 128 → k.ctr (Reg.dnCnt (c / 32) 6) = (s.ctr (Reg.dnCnt (c / 32) 6) + 1) % 2 ^ 64 := fun hc => by
    rw [hk, State.ctr_count _ _ _ _ _ (dnCnt_lt hc (by decide)), State.ctr_bump, if_pos rfl]
  rw [← hk]
  split
  · exact ⟨hfields, hrd, hctr⟩
  · refine ⟨by rw [hfields]; rfl, hrd, fun hc => ?_⟩
    rw [State.ctr_bump, if_neg h1, hctr hc]

theorem drainChan_empty {c : Nat} (h : (s.chan c).waiting = []) : ∃ u, s.drainChan c = u ∧ (∀ d, u.chan d = s.chan d) ∧
    u = { s with dmc := u.dmc } := by
  refine ⟨_, rfl, fun d => ?_, ?_⟩
  · rw [State.drainChan, h]
    dsimp only
    rw [List.foldl_nil, chan_setChan]
    split
    · next hd => rw [hd, ← h]
    · rfl
  · rw [State.drainChan, h]; rfl

theorem afterBurst_spec (s : State) (c : Nat) (x : Channel) (e : DramEntry) : ∃ y u, s.afterBurst c x e = u ∧
    y = { x with openRow := y.openRow } ∧ u.dmc = (s.setChan c y).dmc ∧ u = { s with dmc := u.dmc, ctrs := u.ctrs } ∧
    u.ctr (Reg.dnCnt (c / 32) 6) = s.ctr (Reg.dnCnt (c / 32) 6) := by
  rw [State.afterBurst]
  split
  · exact ⟨x, _, rfl, rfl, rfl, rfl, rfl⟩
  · refine ⟨{ x with openRow := x.openRow.set (dramMap e.req.addr).bank none }, _, rfl, rfl, rfl, rfl, ?_⟩
    rw [State.ctr_bump, if_neg (by rw [Reg.dnCnt, Reg.dnCnt]; omega)]
    rfl

/-- A read's last burst: it leaves its queue, and its data come back. -/
theorem columnCommand_last {c : Nat} {o : DramEntry} (ho : o = { e with issued := e.issued + 1, started := true }) (hw : e.req.write = false)
    (hlast : e.issued + 1 = e.req.atoms) : s.columnCommand c x e =
      ((s.countBurst c e).afterBurst c { x.dropEntry o with reads := (x.dropEntry o).reads ++ [o] } o).drainChan c := by
  rw [State.columnCommand]
  dsimp only
  rw [if_neg (by omega), if_pos (by simp [readsBack, hw]), ho]

theorem columnIssue_spec {c : Nat} {ready : List Nat} (hc : c < 128) (hx : s.chan c = x) (hup : s.stackUp (c / 32) = true)
    (hf : s.flowPick x (x.canIssue true ready) = none) (he : s.sharedPick x (x.canIssue true ready) = some e) (hp : e.req.port ≠ 0)
    (hw : e.req.write = false) (hlast : e.issued + 1 = e.req.atoms) (hwait : x.waiting = []) :
    ∃ t o, exec (.dramCommandIssue c true ready) s = .next t ∧ (t.chan c).reads = x.reads ++ [o] ∧ o.id = e.id ∧ o.req = e.req ∧ o.old = e.old ∧
      (t.chan c).shared = x.shared.filter (fun o => o.id != e.id) ∧ (t.chan c).banks = x.banks ∧ (∀ d, d ≠ c → t.chan d = s.chan d) ∧
      t.ctr (Reg.dnCnt (c / 32) 6) = (s.ctr (Reg.dnCnt (c / 32) 6) + 1) % 2 ^ 64 ∧ t.mem = s.mem ∧ ∀ a, a < 0x700000 → t.rd a = s.rd a := by
  obtain ⟨o, ho⟩ : ∃ o : DramEntry, o = { e with issued := e.issued + 1, started := true } := ⟨_, rfl⟩
  obtain ⟨y, hy⟩ : ∃ y : Channel, y = (x.begun e).dropEntry o := ⟨_, rfl⟩
  obtain ⟨k, hk, kfields, krd, kctr⟩ := countBurst_read (s := s) (e := { e with started := true }) hw c
  obtain ⟨z, u, hu, zfields, udmc, ufields, uctr⟩ := afterBurst_spec k c { y with reads := y.reads ++ [o] } o
  obtain ⟨-, hbanks, hreads, hwaiting, hshared⟩ := begun_eq (x := x) hp
  have hyeq : y = { x.begun e with shared := x.shared.filter fun o => o.id != e.id } := by
    rw [hy, Channel.dropEntry, if_neg (by rw [ho]; exact hp), hshared, ho]
    congr 1
    dsimp only
    generalize x.shared = l
    induction l with
    | nil => rfl
    | cons a l ih =>
      rw [List.map_cons, List.filter_cons, List.filter_cons, ih]
      by_cases ha : a.id = e.id <;> simp [ha]
  have hchan : ∀ d, u.chan d = if d = c then z else s.chan d := fun d =>
    (chan_of_dmc udmc d).trans ((chan_setChan ..).trans (by rw [chan_of_dmc (s := s) (t := k) (by rw [kfields])]))
  have hzwait : z.waiting = [] := by rw [zfields, hyeq]; exact hwaiting.trans hwait
  obtain ⟨t, ht, tchan, tfields⟩ := drainChan_empty (s := u) (c := c) (by rw [hchan, if_pos rfl, hzwait])
  have hcol : s.columnCommand c (x.begun e) { e with started := true } = t := by
    rw [columnCommand_last (e := { e with started := true }) ho hw hlast, hk, ← hy, hu, ht]
  have hexec := dramCommandIssue_shared hc hx hup hf he hp
  rw [if_pos rfl, hcol] at hexec
  refine ⟨t, o, hexec, ?_, by rw [ho], by rw [ho], by rw [ho], ?_, ?_, fun d hd => ?_, ?_, ?_, fun a ha => ?_⟩
  · rw [tchan, hchan, if_pos rfl, zfields, hyeq]
    dsimp only
    rw [hreads]
  · rw [tchan, hchan, if_pos rfl, zfields, hyeq]
  · rw [tchan, hchan, if_pos rfl, zfields, hyeq]
    exact hbanks
  · rw [tchan, hchan, if_neg hd]
  · have h : t.ctrs = u.ctrs := by rw [tfields]
    rw [← kctr hc, ← uctr, State.ctr, State.ctr, h]
  · rw [tfields, ufields, kfields]
  · rw [← krd a ha, State.rd, State.rd, tfields, ufields]

end

end Sys2Proof.Machine
end

section
/-! PROOFS. What corrections and uncorrectable atoms leave, and read data on its way to its requestor. -/
namespace Sys2Proof.Machine

section
variable {s : State} {l : List Part}

/-! ### Corrections counted -/

theorem only_eccAlarm (array : Bool) (i : Nat) (h : [.regs, .ctrs, .block 104, .block 258] ⊆ l) {t : State} :
    State.Only l s (t.eccAlarm array i) ↔ State.Only l s t :=
  (only_setEvent _ _ _ (fun p hp => h (by revert hp; revert p; decide)) fun p hp => h (by revert hp; revert p; decide)).trans
    (only_record _ _ fun p hp => h (by revert hp; revert p; decide))

theorem ecc_eccAlarm (s : State) (array : Bool) (i : Nat) : (s.eccAlarm array i).ecc = s.ecc := by
  rw [State.eccAlarm, State.setEvent_ecc]; rfl

theorem ctr_eccAlarm (s : State) (array : Bool) (i : Nat) {c : Nat} (hc : c < 0x740000) : (s.eccAlarm array i).ctr c = s.ctr c :=
  State.ctr_raiseEvent _ _ _ hc

/-- What a correction counted leaves: registers and counters of its own, and its alarm window. -/
theorem regionCorrected_spec (s : State) (i : Nat) : State.Only [.regs, .ctrs, .ecc, .block 104, .block 258] s (s.regionCorrected i) ∧
    (∃ w, (s.regionCorrected i).ecc = { s.ecc with corrWindow := w }) ∧
    ∀ c, c < 0x740000 → (s.regionCorrected i).ctr c = if c = Reg.eccRegionCorr i then (s.ctr (Reg.eccRegionCorr i) + 1) % 2 ^ 64 else s.ctr c := by
  obtain ⟨w, hw⟩ : ∃ w, w = windowAdd s.ecc.corrWindow i 1 (s.fld (Reg.eccRegionAlarm i) 23 0) := ⟨_, rfl⟩
  obtain ⟨t, ht⟩ : ∃ t : State, t = { s.bump (Reg.eccRegionCorr i) with ecc.corrWindow := w } := ⟨_, rfl⟩
  have honly : State.Only [.regs, .ctrs, .ecc, .block 104, .block 258] s t := by
    rw [ht, only_set_ecc _ (by decide), only_bump _ _ (by decide)]
    exact .refl _ _
  have hecc : t.ecc = { s.ecc with corrWindow := w } := by rw [ht]; rfl
  have hctr : ∀ c, t.ctr c = if c = Reg.eccRegionCorr i then (s.ctr (Reg.eccRegionCorr i) + 1) % 2 ^ 64 else s.ctr c := fun c => by
    rw [ht]; exact State.ctr_bump ..
  have heq : s.regionCorrected i = if alarmDue s.ecc.corrWindow i 1 (s.fld (Reg.eccRegionAlarm i) 23 0) then t.eccAlarm false i else t := by
    rw [ht, hw, State.regionCorrected]
  rw [heq]
  split
  · exact ⟨(only_eccAlarm _ _ (by decide)).mpr honly, ⟨w, (ecc_eccAlarm ..).trans hecc⟩, fun c hc => (ctr_eccAlarm _ _ _ hc).trans (hctr c)⟩
  · exact ⟨honly, ⟨w, hecc⟩, fun c _ => hctr c⟩

theorem stackCorrected_spec (s : State) {n : Nat} (hn : n < 4) :
    State.Only [.regs, .ctrs, .dmc, .block 258, .block 96, .block 97, .block 98, .block 99] s (s.stackCorrected n) ∧
    (∃ w, (s.stackCorrected n).dmc = { s.dmc with corrWindow := w }) ∧
    ∀ c, c < 0x740000 → (s.stackCorrected n).ctr c = if c = Reg.dnCnt n 5 then (s.ctr (Reg.dnCnt n 5) + 1) % 2 ^ 64 else s.ctr c := by
  obtain ⟨w, hw⟩ : ∃ w, w = windowAdd s.dmc.corrWindow n 1 (s.fld (Reg.dnAlarm n) 23 0) := ⟨_, rfl⟩
  obtain ⟨t, ht⟩ : ∃ t : State, t = { s.bump (Reg.dnCnt n 5) with dmc.corrWindow := w } := ⟨_, rfl⟩
  have honly : State.Only [.regs, .ctrs, .dmc, .block 258, .block 96, .block 97, .block 98, .block 99] s t := by
    rw [ht, only_set_dmc _ (by decide), only_bump _ _ (by decide)]
    exact .refl _ _
  have hdmc : t.dmc = { s.dmc with corrWindow := w } := by rw [ht]; rfl
  have hctr : ∀ c, t.ctr c = if c = Reg.dnCnt n 5 then (s.ctr (Reg.dnCnt n 5) + 1) % 2 ^ 64 else s.ctr c := fun c => by
    rw [ht]; exact State.ctr_bump ..
  have heq : s.stackCorrected n = if alarmDue s.dmc.corrWindow n 1 (s.fld (Reg.dnAlarm n) 23 0) then
      t.setEvent (Reg.dnEvents n) 0 (208 + 4 * n) else t := by
    rw [ht, hw, State.stackCorrected]
  rw [heq]
  split
  · refine ⟨(only_setEvent _ _ _ ?_ (by decide)).mpr honly, ⟨w, by rw [State.setEvent_dmc]; exact hdmc⟩,
      fun c hc => (State.ctr_raiseEvent _ _ _ hc).trans (hctr c)⟩
    interval_cases n <;> decide
  · exact ⟨honly, ⟨w, hdmc⟩, fun c _ => hctr c⟩

/-- The parts a corrected atom may change. -/
abbrev corrParts : List Part := [.regs, .ctrs, .dmc, .ecc, .block 258, .block 104, .block 96, .block 97, .block 98, .block 99]

theorem regionOf_le (s : State) (a : Nat) : s.regionOf a ≤ 16 := by
  rw [State.regionOf]
  cases h : (List.range 16).find? fun i => s.regionHolds i a with
  | none => simp
  | some i => simpa using (List.mem_range.mp (List.mem_of_find?_eq_some h)).le

theorem atomCorrected_spec (s : State) (a : Nat) : State.Only corrParts s (s.atomCorrected a) ∧
    (∃ w, (s.atomCorrected a).ecc = { s.ecc with corrWindow := w }) ∧ (∃ w, (s.atomCorrected a).dmc = { s.dmc with corrWindow := w }) ∧
    (s.atomCorrected a).ctr (Reg.eccRegionCorr (s.regionOf a)) = (s.ctr (Reg.eccRegionCorr (s.regionOf a)) + 1) % 2 ^ 64 ∧
    (s.atomCorrected a).ctr (Reg.dnCnt ((dramMap a).chan / 32) 5) = (s.ctr (Reg.dnCnt ((dramMap a).chan / 32) 5) + 1) % 2 ^ 64 := by
  have hn : (dramMap a).chan / 32 < 4 := by have := dramMap_chan_lt a; omega
  have hr := regionOf_le s a
  obtain ⟨u, hu⟩ : ∃ u, u = s.regionCorrected (s.regionOf a) := ⟨_, rfl⟩
  obtain ⟨honly, ⟨w, hecc⟩, hctr⟩ := regionCorrected_spec s (s.regionOf a)
  obtain ⟨konly, ⟨z, kdmc⟩, kctr⟩ := stackCorrected_spec u hn
  rw [← hu] at honly hecc hctr
  have hrl : Reg.eccRegionCorr (s.regionOf a) < 0x740000 := by rw [Reg.eccRegionCorr]; omega
  have hnl : Reg.dnCnt ((dramMap a).chan / 32) 5 < 0x740000 := by rw [Reg.dnCnt]; omega
  have hne : Reg.eccRegionCorr (s.regionOf a) ≠ Reg.dnCnt ((dramMap a).chan / 32) 5 := by rw [Reg.eccRegionCorr, Reg.dnCnt]; omega
  rw [State.atomCorrected, ← hu]
  refine ⟨(honly.mono (by decide)).trans (konly.mono (by decide)), ⟨w, by rw [konly.ecc_eq (by decide), hecc]⟩,
    ⟨z, by rw [kdmc, honly.dmc_eq (by decide)]⟩, ?_, ?_⟩
  · rw [kctr _ hrl, if_neg hne, hctr _ hrl, if_pos rfl]
  · rw [kctr _ hnl, if_pos rfl, hctr _ hnl, if_neg hne.symm]

/-! ### Faults -/

theorem freezeDram_regsOnly (s : State) (st : Option Nat) : s.RegsOnly (s.freezeDram st) := by
  have h := (freezeDram_spec s).1
  rw [freezeDram_eq] at h
  cases st with
  | none => rw [State.freezeDram]; exact h
  | some n => rw [State.freezeDram]; exact h.setBit

/-- A fault stop keeps memory and the DRAM controllers' state. -/
theorem faultStop_kept (hcore : s.boot.core = .running) (hstop : s.boot.stop = .none) (f : FaultInfo) :
    (s.faultStop f).boot.stop = .fault ∧ (s.faultStop f).boot.cause = f.cause ∧ (s.faultStop f).mem = s.mem ∧ (s.faultStop f).dmc = s.dmc := by
  obtain ⟨u, hu⟩ : ∃ u : State, u = { s.noted f with boot.capturing := s.summaryFree f } := ⟨_, rfl⟩
  obtain ⟨v, hv⟩ : ∃ v, v = (u.setBit Reg.hdgStatus 31 false).freezeDram f.stack := ⟨_, rfl⟩
  obtain ⟨w, hw⟩ : ∃ w, w = v.stompAll := ⟨_, rfl⟩
  have hfro : s.frozen f = w := by rw [hw, hv, hu, State.frozen]
  have huv : u.RegsOnly v := State.RegsOnly.refl.setBit.trans (hv ▸ freezeDram_regsOnly _ _)
  have hall : State.Only [.freeCtr, .sch] v w := hw ▸ only_stompAll v
  have hnote := only_noted s f
  rw [faultStop_begins hcore hstop, beginStop_eq, hfro]
  refine ⟨rfl, rfl, ?_, ?_⟩
  · show w.mem = _
    rw [hall.mem_eq (by decide), huv.mem_eq, hu]
    exact hnote.mem_eq (by decide)
  · show w.dmc = _
    have h : v.dmc = u.dmc := by rw [huv]
    rw [hall.dmc_eq (by decide), h, hu]
    exact hnote.dmc_eq (by decide)

/-- In a fault stop a further fault is only counted. -/
theorem faultStop_stopped (hstop : s.boot.stop = .fault) (f : FaultInfo) : State.Only [.aon] s (s.faultStop f) := by
  rw [State.faultStop]
  split
  · exact .refl _ _
  · rw [hstop]
    dsimp only
    rw [State.secondError]
    split
    · exact (only_setRet _ _ _ (by decide)).mpr (.refl _ _)
    · exact .refl _ _

/-! ### The atoms of a read -/

section
variable {e : DramEntry} {k : Nat}

theorem atomRead_clean (s : State) (e : DramEntry) (k : Nat) : s.atomRead e k .clean = (s, slice e.old (64 * k) 64) := by
  rw [State.atomRead]
  split <;> rfl

theorem readAtoms_clean {l : List AtomOutcome} (h : ∀ o ∈ l, o = .clean) (s : State) (e : DramEntry) : ∀ k,
    s.readAtoms e k l = (s, (List.range l.length).flatMap fun i => slice e.old (64 * (k + i)) 64) := by
  induction l with
  | nil => intro k; rfl
  | cons o l ih =>
    intro k
    rw [h o List.mem_cons_self, State.readAtoms, atomRead_clean]
    dsimp only
    rw [ih (fun o ho => h o (List.mem_cons_of_mem _ ho)), List.length_cons, List.range_succ_eq_map, List.flatMap_cons, List.flatMap_map]
    simp only [Nat.add_zero, Nat.add_assoc, Nat.add_comm 1]

/-- In a fault stop the atoms of a read change nothing but what the retention RAM counts. -/
theorem atomRead_stopped (hstop : s.boot.stop = .fault) (e : DramEntry) (k : Nat) (o : AtomOutcome) :
    State.Only [.aon] s (s.atomRead e k o).1 := by
  have hup : s.coreUp = false := by rw [State.coreUp, hstop]; simp
  unfold State.atomRead
  split
  · exact .refl _ _
  · cases o with
    | clean => exact .refl _ _
    | corrected n d => rw [hup]; exact .refl _ _
    | unseen d => exact .refl _ _
    | uncorrectable syn =>
      dsimp only
      split
      · exact .refl _ _
      · rw [State.atomFault]
        exact faultStop_stopped hstop _

theorem readAtoms_stopped (l : List AtomOutcome) (e : DramEntry) : ∀ (s : State) (k : Nat), s.boot.stop = .fault →
    State.Only [.aon] s (s.readAtoms e k l).1 := by
  induction l with
  | nil => exact fun s k _ => .refl _ _
  | cons o l ih =>
    intro s k hstop
    have h := atomRead_stopped hstop e k o
    rw [State.readAtoms]
    exact h.trans (ih _ _ (by rw [h.boot_eq (by decide), hstop]))

/-- An uncorrectable first atom starts the fault stop, and the read delivers nothing. -/
theorem readAtoms_uncorrectable (hw : e.req.write = false) (hcore : s.boot.core = .running) (hstop : s.boot.stop = .none)
    (hre : s.toRevalidation e.req = false) (syn : Nat) (rest : List AtomOutcome) :
    (s.readAtoms e k (.uncorrectable syn :: rest)).1.boot.stop = .fault ∧ (s.readAtoms e k (.uncorrectable syn :: rest)).1.boot.cause = 2 ∧
    (s.readAtoms e k (.uncorrectable syn :: rest)).1.dmc = s.dmc := by
  obtain ⟨u, hu⟩ : ∃ u, u = s.atomFault (e.req.addr + 64 * k) syn := ⟨_, rfl⟩
  have hfirst : (s.atomRead e k (.uncorrectable syn)).1 = u := by
    rw [State.atomRead, hw, Bool.false_and, if_neg (by decide)]
    rw [hre, if_neg (by decide), hu]
  have hkept := faultStop_kept hcore hstop
  obtain ⟨h1, h2, -, h4⟩ : u.boot.stop = .fault ∧ u.boot.cause = 2 ∧ u.mem = s.mem ∧ u.dmc = s.dmc := by
    rw [hu, State.atomFault]
    exact hkept _
  have hrest := readAtoms_stopped rest e u (k + 1) h1
  rw [State.readAtoms, hfirst]
  rw [hrest.boot_eq (by decide), hrest.dmc_eq (by decide)]
  exact ⟨h1, h2, h4⟩

end
end

end Sys2Proof.Machine
end

section
/-! PROOFS. The obligation on the stacked DRAM controller. -/
namespace Sys2Proof.Machine

section
variable {s : State} {c : Nat} {outs : List AtomOutcome} {e : DramEntry} {l : List DramEntry}

/-! ### Read data -/

/-- Read data goes to its requestor. -/
def State.delivered (s : State) (e : DramEntry) (data : List Byte) : State :=
  { s with dmc.delivered := s.dmc.delivered.set e.req.port data }.requestDone e

/-- What a read's return works on: the read gone from its pseudo-channel, and the state and data its atoms give. -/
def State.returned (s : State) (c : Nat) (outs : List AtomOutcome) (e : DramEntry) (l : List DramEntry) : State × List Byte :=
  (s.setChan c { s.chan c with reads := l }).readAtoms e 0 ((List.range e.req.atoms).map fun k => outs.getD k .clean)

theorem dramReadComplete_eq (hc : c < 128) (hcore : s.boot.core = .running) (hreads : (s.chan c).reads = e :: l) (hw : e.req.write = false) :
    exec (.dramReadComplete c outs) s = .next (if (s.returned c outs e l).1.coreUp then
      (s.returned c outs e l).1.delivered e (s.returned c outs e l).2 else (s.returned c outs e l).1) := by
  rw [exec_dramReadComplete, execDramReadComplete, decide_eq_true hc, whenWf, if_pos rfl, hreads]
  dsimp only
  rw [occurs, hcore, if_pos (by decide), State.returned, hw, Bool.false_or, State.delivered]
  cases (State.readAtoms _ _ _ _ : State × List Byte).1.coreUp <;> rfl

theorem coreUp_running (hup : s.coreUp = true) : s.boot.core = .running ∧ s.boot.stop ≠ .fault := by
  simpa [State.coreUp] using hup

/-- What a read that is delivered leaves, from the state `u` its atoms give. -/
theorem delivered_spec (u : State) (e : DramEntry) (data : List Byte) (hp : e.req.port < 6) :
    (u.delivered e data).dmc = { u.dmc with delivered := u.dmc.delivered.set e.req.port data } ∧ (u.delivered e data).mem = u.mem ∧
    (u.delivered e data).boot = u.boot ∧
    (u.delivered e data).ctr (Reg.dmcPortCnt e.req.port 0) = (u.ctr (Reg.dmcPortCnt e.req.port 0) + 1) % 2 ^ 64 ∧
    (∀ a, a < 0x700000 → a ≠ Reg.dmcLatMax e.req.port → (u.delivered e data).rd a = u.rd a) ∧
    ∀ a, a < 0x740000 → (∀ i < 3, a ≠ Reg.dmcPortCnt e.req.port i) → (u.delivered e data).ctr a = u.ctr a := by
  rw [State.delivered]
  refine ⟨by rw [requestDone_dmc], by rw [requestDone_mem], by rw [requestDone_boot], ?_, fun a ha hne => by rw [rd_requestDone e ha hne]; rfl,
    fun a ha hne => ?_⟩
  · rw [ctr_requestDone e (by rw [Reg.dmcPortCnt]; omega) (dmcPortCnt_ne (by decide)) (dmcPortCnt_ne (by decide)), if_pos rfl]
    rfl
  · rw [ctr_requestDone e ha (hne 1 (by decide)) (hne 2 (by decide)), if_neg (hne 0 (by decide))]
    rfl

theorem readComplete_clean (hc : c < 128) (hup : s.coreUp = true) (hreads : (s.chan c).reads = e :: l) (hw : e.req.write = false)
    (hclean : ∀ k < e.req.atoms, outs.getD k .clean = .clean) (hp : e.req.port < 6) : ∃ t, exec (.dramReadComplete c outs) s = .next t ∧
      (t.chan c).reads = l ∧ t.dmc.delivered.get e.req.port = ((List.range e.req.atoms).flatMap fun k => slice e.old (64 * k) 64) ∧
      (∀ p, p ≠ e.req.port → t.dmc.delivered.get p = s.dmc.delivered.get p) ∧ t.mem = s.mem ∧
      t.ctr (Reg.dmcPortCnt e.req.port 0) = (s.ctr (Reg.dmcPortCnt e.req.port 0) + 1) % 2 ^ 64 ∧
      ∀ a, a < 0x700000 → a ≠ Reg.dmcLatMax e.req.port → t.rd a = s.rd a := by
  obtain ⟨u, hu⟩ : ∃ u, u = s.setChan c { s.chan c with reads := l } := ⟨_, rfl⟩
  have hret : s.returned c outs e l = (u, (List.range e.req.atoms).flatMap fun k => slice e.old (64 * k) 64) := by
    rw [State.returned, ← hu, readAtoms_clean (by simpa using hclean)]
    simp
  have huup : u.coreUp = true := by rw [hu]; exact hup
  have hexec := dramReadComplete_eq (outs := outs) hc (coreUp_running hup).1 hreads hw
  rw [hret, if_pos huup] at hexec
  obtain ⟨d1, d2, -, d4, d5, -⟩ := delivered_spec u e ((List.range e.req.atoms).flatMap fun k => slice e.old (64 * k) 64) hp
  refine ⟨_, hexec, ?_, ?_, fun p hpe => ?_, ?_, ?_, fun a ha hne => ?_⟩
  · rw [State.chan, d1, hu]
    dsimp only [State.setChan]
    rw [SMap.get_set, if_pos rfl]
  · rw [d1, SMap.get_set, if_pos rfl]
  · rw [d1, SMap.get_set, if_neg hpe, hu]; rfl
  · rw [d2, hu]; rfl
  · rw [d4, hu]; rfl
  · rw [d5 a ha hne, hu]; rfl

/-- A read of one atom, by its outcome. -/
theorem returned_one {o : AtomOutcome} {rest : List AtomOutcome} (ha : e.req.atoms = 1) (ho : outs = o :: rest) :
    s.returned c outs e l = (s.setChan c { s.chan c with reads := l }).atomRead e 0 o := by
  rw [State.returned, ha, ho]
  show (_, _ ++ []) = _
  rw [List.append_nil]
  rfl

theorem readComplete_corrected (hc : c < 128) (hup : s.coreUp = true) (hreads : (s.chan c).reads = e :: l) (hw : e.req.write = false)
    {n : Nat} {d : List Byte} {rest : List AtomOutcome} (ha : e.req.atoms = 1) (hp : e.req.port < 6) (ho : outs = .corrected n d :: rest) :
    ∃ t, exec (.dramReadComplete c outs) s = .next t ∧ t.dmc.delivered.get e.req.port = slice d 0 64 ∧ t.mem = s.mem ∧
      t.ctr (Reg.eccRegionCorr (s.regionOf e.req.addr)) = (s.ctr (Reg.eccRegionCorr (s.regionOf e.req.addr)) + 1) % 2 ^ 64 ∧
      t.ctr (Reg.dnCnt ((dramMap e.req.addr).chan / 32) 5) = (s.ctr (Reg.dnCnt ((dramMap e.req.addr).chan / 32) 5) + 1) % 2 ^ 64 := by
  obtain ⟨u, hu⟩ : ∃ u, u = s.setChan c { s.chan c with reads := l } := ⟨_, rfl⟩
  have huup : u.coreUp = true := by rw [hu]; exact hup
  have hreg : u.regionOf e.req.addr = s.regionOf e.req.addr := by rw [hu]; rfl
  have huctr : ∀ a, u.ctr a = s.ctr a := fun a => by rw [hu]; rfl
  obtain ⟨honly, -, -, hrc, hnc⟩ := atomCorrected_spec u e.req.addr
  rw [hreg, huctr] at hrc
  rw [huctr] at hnc
  have hret : s.returned c outs e l = (u.atomCorrected e.req.addr, slice d 0 64) := by
    rw [returned_one ha ho, ← hu, State.atomRead, hw, Bool.false_and, if_neg (by decide), huup, if_pos rfl]
    rfl
  have hcore : (u.atomCorrected e.req.addr).coreUp = true := (coreUp_of_only honly (by decide)).trans huup
  have hexec := dramReadComplete_eq (outs := outs) hc (coreUp_running hup).1 hreads hw
  rw [hret, if_pos hcore] at hexec
  obtain ⟨d1, d2, -, -, -, d6⟩ := delivered_spec (u.atomCorrected e.req.addr) e (slice d 0 64) hp
  have hr := regionOf_le s e.req.addr
  have hn := dramMap_chan_lt e.req.addr
  refine ⟨_, hexec, ?_, ?_, ?_, ?_⟩
  · rw [d1, SMap.get_set, if_pos rfl]
  · rw [d2, honly.mem_eq (by decide), hu]; rfl
  · rw [d6 _ (by rw [Reg.eccRegionCorr]; omega) (fun i _ => by rw [Reg.eccRegionCorr, Reg.dmcPortCnt]; omega), hrc]
  · rw [d6 _ (by rw [Reg.dnCnt]; omega) (fun i _ => by rw [Reg.dnCnt, Reg.dmcPortCnt]; omega), hnc]

theorem readComplete_unseen (hc : c < 128) (hup : s.coreUp = true) (hreads : (s.chan c).reads = e :: l) (hw : e.req.write = false)
    {d : List Byte} {rest : List AtomOutcome} (ha : e.req.atoms = 1) (hp : e.req.port < 6) (ho : outs = .unseen d :: rest) :
    ∃ t, exec (.dramReadComplete c outs) s = .next t ∧
      t.dmc.delivered.get e.req.port = (if s.regionStrong (s.regionOf e.req.addr) then slice e.old 0 64 else slice d 0 64) ∧ t.mem = s.mem ∧
      t.ctr (Reg.eccRegionCorr (s.regionOf e.req.addr)) = s.ctr (Reg.eccRegionCorr (s.regionOf e.req.addr)) ∧ t.boot = s.boot := by
  obtain ⟨u, hu⟩ : ∃ u, u = s.setChan c { s.chan c with reads := l } := ⟨_, rfl⟩
  obtain ⟨data, hdata⟩ : ∃ x, x = if s.regionStrong (s.regionOf e.req.addr) then slice e.old 0 64 else slice d 0 64 := ⟨_, rfl⟩
  have huup : u.coreUp = true := by rw [hu]; exact hup
  have hret : s.returned c outs e l = (u, data) := by
    rw [returned_one ha ho, ← hu, State.atomRead, hw, Bool.false_and, if_neg (by decide), hdata, hu]
    rfl
  have hexec := dramReadComplete_eq (outs := outs) hc (coreUp_running hup).1 hreads hw
  rw [hret, if_pos huup] at hexec
  obtain ⟨d1, d2, d3, -, -, d6⟩ := delivered_spec u e data hp
  have hr := regionOf_le s e.req.addr
  refine ⟨_, hexec, ?_, ?_, ?_, ?_⟩
  · rw [d1, SMap.get_set, if_pos rfl, hdata]
  · rw [d2, hu]; rfl
  · rw [d6 _ (by rw [Reg.eccRegionCorr]; omega) (fun i _ => by rw [Reg.eccRegionCorr, Reg.dmcPortCnt]; omega), hu]
    rfl
  · rw [d3, hu]; rfl

theorem readComplete_uncorrectable (hc : c < 128) (hup : s.coreUp = true) (hreads : (s.chan c).reads = e :: l) (hw : e.req.write = false)
    {syn : Nat} {rest : List AtomOutcome} (ha : 1 ≤ e.req.atoms) (hstop : s.boot.stop = .none) (ho : outs = .uncorrectable syn :: rest)
    (hre : s.toRevalidation e.req = false) : ∃ t, exec (.dramReadComplete c outs) s = .next t ∧ t.boot.stop = .fault ∧ t.boot.cause = 2 ∧
      t.dmc.delivered = s.dmc.delivered := by
  obtain ⟨u, hu⟩ : ∃ u, u = s.setChan c { s.chan c with reads := l } := ⟨_, rfl⟩
  obtain ⟨m, hm⟩ : ∃ m, e.req.atoms = m + 1 := ⟨e.req.atoms - 1, by omega⟩
  obtain ⟨r, hr⟩ : ∃ r, (List.range e.req.atoms).map (fun k => outs.getD k .clean) = .uncorrectable syn :: r := by
    rw [hm, List.range_succ_eq_map, List.map_cons, ho]; exact ⟨_, rfl⟩
  have hcore := (coreUp_running hup).1
  obtain ⟨h1, h2, h3⟩ := readAtoms_uncorrectable (s := u) (k := 0) hw (by rw [hu]; exact hcore) (by rw [hu]; exact hstop) (by rw [hu]; exact hre) syn r
  have hret : (s.returned c outs e l).1 = (u.readAtoms e 0 (.uncorrectable syn :: r)).1 := by rw [State.returned, hr, hu]
  have hexec := dramReadComplete_eq (outs := outs) hc hcore hreads hw
  have hdown : (s.returned c outs e l).1.coreUp = false := by rw [State.coreUp, hret, h1]; simp
  rw [hdown, if_neg (by decide), hret] at hexec
  exact ⟨_, hexec, h1, h2, by rw [h3, hu]; rfl⟩

end

end Sys2Proof.Machine
end

section
/-! PROOFS. The obligation on the stacked DRAM controller: refresh, temperature and self-refresh. -/
namespace Sys2Proof.Machine

section
variable {s : State} {c n : Nat}

/-! ### Refresh -/

/-- A refresh falls due. -/
def State.refreshDue (s : State) (c : Nat) : Prop :=
  s.coreUp = false ∨ (s.chan c).refreshRun * 16 + (if s.bit (Reg.dnStatus (c / 32)) 27 then 1950 else 3900) * 2 ^ 48 ≤ s.tb.run * 16

/-- A pseudo-channel after a refresh of its next bank. -/
def Channel.refreshed (x : Channel) (run : Nat) : Channel :=
  { x with openRow := x.openRow.set x.refreshBank none, refreshBank := (x.refreshBank + 1) % 16, postponed := 0, refreshRun := run }

theorem dramRefresh_eq {busy : Bool} (hc : c < 128) (hcore : s.boot.core = .running) (h28 : s.bit (Reg.dnStatus (c / 32)) 28 = true)
    (h30 : s.bit (Reg.dnStatus (c / 32)) 30 = false) (hdue : s.refreshDue c) : exec (.dramRefresh c busy) s = .next
      (if busy && ((s.chan c).entries.any fun e => (dramMap e.req.addr).bank == (s.chan c).refreshBank) && decide ((s.chan c).postponed < 8) then
        s.setChan c { s.chan c with postponed := (s.chan c).postponed + 1, refreshRun := s.tb.run }
      else (s.setChan c ((s.chan c).refreshed s.tb.run)).bump (Reg.dnCnt (c / 32) 3)) := by
  have hslot : s.refreshSlot c = true := by
    simpa [State.refreshSlot, State.refi, nsUnit, State.refreshDue] using hdue
  rw [exec_dramRefresh, execDramRefresh, decide_eq_true hc, whenWf, if_pos rfl, occurs, hcore, h28, h30, hslot, if_pos (by decide)]
  rfl

theorem dramRefresh_runs {busy : Bool} (hc : c < 128) (hcore : s.boot.core = .running) (h28 : s.bit (Reg.dnStatus (c / 32)) 28 = true)
    (h30 : s.bit (Reg.dnStatus (c / 32)) 30 = false) (hdue : s.refreshDue c) (hfree : busy = false ∨ 8 ≤ (s.chan c).postponed) :
    ∃ t, exec (.dramRefresh c busy) s = .next t ∧ t.chan c = { s.chan c with
        openRow := (s.chan c).openRow.set (s.chan c).refreshBank none, refreshBank := ((s.chan c).refreshBank + 1) % 16, postponed := 0, refreshRun := s.tb.run } ∧
      t.ctr (Reg.dnCnt (c / 32) 3) = (s.ctr (Reg.dnCnt (c / 32) 3) + 1) % 2 ^ 64 ∧ (∀ d, d ≠ c → t.chan d = s.chan d) ∧ t.regs = s.regs ∧ t.mem = s.mem := by
  have hexec := dramRefresh_eq (busy := busy) hc hcore h28 h30 hdue
  rw [if_neg (by rcases hfree with h | h <;> simp [h])] at hexec
  refine ⟨_, hexec, ?_, ?_, fun d hd => ?_, rfl, rfl⟩
  · rw [chan_of_dmc (State.bump_dmc ..), chan_setChan, if_pos rfl]
    rfl
  · rw [State.ctr_bump, if_pos rfl]; rfl
  · rw [chan_of_dmc (State.bump_dmc ..), chan_setChan, if_neg hd]

theorem dramRefresh_postponed {busy : Bool} (hc : c < 128) (hcore : s.boot.core = .running) (h28 : s.bit (Reg.dnStatus (c / 32)) 28 = true)
    (h30 : s.bit (Reg.dnStatus (c / 32)) 30 = false) (hdue : s.refreshDue c) (hbusy : busy = true) (h8 : (s.chan c).postponed < 8)
    (hbank : ∃ e ∈ (s.chan c).entries, (dramMap e.req.addr).bank = (s.chan c).refreshBank) :
    exec (.dramRefresh c busy) s = .next (s.setChan c { s.chan c with postponed := (s.chan c).postponed + 1, refreshRun := s.tb.run }) := by
  have hany : ((s.chan c).entries.any fun e => (dramMap e.req.addr).bank == (s.chan c).refreshBank) = true :=
    List.any_eq_true.mpr (hbank.imp fun e he => ⟨he.1, beq_iff_eq.mpr he.2⟩)
  rw [dramRefresh_eq hc hcore h28 h30 hdue, hbusy, hany, decide_eq_true h8, if_pos (by decide)]

/-! ### Temperature -/

/-- The state with a stack's temperature and its hot state. -/
def State.tempShown (s : State) (n : Nat) (x : Int) : State :=
  if decide (85 ≤ x) then (s.setFld (Reg.dnStatus n) 7 0 (unsigned x 8)).setBit (Reg.dnStatus n) 27 true
  else if decide (x ≤ 82) then (s.setFld (Reg.dnStatus n) 7 0 (unsigned x 8)).setBit (Reg.dnStatus n) 27 false
  else s.setFld (Reg.dnStatus n) 7 0 (unsigned x 8)

theorem bit_setFld_apart (s : State) {a hi lo v i : Nat} (hl : lo ≤ hi) (hh : hi < 32) (h : hi < i) : (s.setFld a hi lo v).bit a i = s.bit a i := by
  rw [State.bit, State.bit, State.fld_setFld_apart s a hi lo v i i hl hh (.inr h)]

theorem fld_setBit_apart (s : State) {a i : Nat} {b : Bool} {hi lo : Nat} (hh : hi < i) (hi32 : i < 32) :
    (s.setBit a i b).fld a hi lo = s.fld a hi lo := by
  rw [State.setBit, State.fld_setFld_apart s a i i _ hi lo le_rfl hi32 (.inl hh)]

theorem unsigned_lt (x : Int) : unsigned x 8 < 2 ^ 8 := by
  rw [unsigned]; omega

theorem tempShown_spec (s : State) (n : Nat) (x : Int) : s.RegsOnly (s.tempShown n x) ∧ s.regsBut (s.tempShown n x) [Reg.dnStatus n] ∧
    (s.tempShown n x).fld (Reg.dnStatus n) 7 0 = unsigned x 8 ∧
    ((s.tempShown n x).bit (Reg.dnStatus n) 27 = true ↔ 85 ≤ x ∨ (82 < x ∧ s.bit (Reg.dnStatus n) 27 = true)) := by
  have hfld : (s.setFld (Reg.dnStatus n) 7 0 (unsigned x 8)).fld (Reg.dnStatus n) 7 0 = unsigned x 8 := by
    rw [State.fld_setFld_same _ _ _ _ _ (by decide) (by decide), Nat.mod_eq_of_lt (unsigned_lt x)]
  have hbut : s.regsBut (s.setFld (Reg.dnStatus n) 7 0 (unsigned x 8)) [Reg.dnStatus n] := fun a ha =>
    State.rd_setFld_other _ _ _ _ _ _ (by simpa using ha)
  rw [State.tempShown]
  by_cases h85 : 85 ≤ x
  · rw [decide_eq_true h85, if_pos rfl]
    exact ⟨State.RegsOnly.refl.setFld.setBit, fun a ha => (State.rd_setBit_other _ _ _ _ _ (by simpa using ha)).trans (hbut a ha),
      (fld_setBit_apart _ (by decide) (by decide)).trans hfld, by rw [State.bit_setBit_same _ _ _ _ (by decide)]; simp [h85]⟩
  rw [decide_eq_false h85, if_neg (by decide)]
  by_cases h82 : x ≤ 82
  · rw [decide_eq_true h82, if_pos rfl]
    exact ⟨State.RegsOnly.refl.setFld.setBit, fun a ha => (State.rd_setBit_other _ _ _ _ _ (by simpa using ha)).trans (hbut a ha),
      (fld_setBit_apart _ (by decide) (by decide)).trans hfld, by rw [State.bit_setBit_same _ _ _ _ (by decide)]; simp; omega⟩
  · rw [decide_eq_false h82, if_neg (by decide)]
    refine ⟨State.RegsOnly.refl.setFld, hbut, hfld, ?_⟩
    rw [bit_setFld_apart s (by decide) (by decide) (by decide)]
    exact ⟨fun h => .inr ⟨by omega, h⟩, fun h => h.elim (fun h => absurd h h85) fun h => h.2⟩

/-- The stacks whose temperature alarm is on, after a reading. -/
def State.tempHighAfter (s : State) (n : Nat) (x : Int) : List Nat :=
  if decide (signed (s.fld (Reg.dnAlarm n) 31 24) 8 ≤ x) then (if s.dmc.tempHigh.contains n then s.dmc.tempHigh else n :: s.dmc.tempHigh)
  else s.dmc.tempHigh.filter fun k => k != n

theorem dramTempRead_eq {x : Int} (hn : n < 4) (hup : s.coreUp = true) (hdue : s.dmc.tempRun.get n + 10 ^ 6 * 2 ^ 48 ≤ s.tb.run) (u : State)
    (hu : u = { s.tempShown n x with dmc := { s.dmc with tempHigh := s.tempHighAfter n x, tempRun := s.dmc.tempRun.set n s.tb.run } }) :
    exec (.dramTempRead n x) s = .next (if signed (s.fld (Reg.dnAlarm n) 31 24) 8 ≤ x ∧ n ∉ s.dmc.tempHigh then
      u.setEvent (Reg.dnEvents n) 3 (211 + 4 * n) else u) := by
  have hg : (s.coreUp && decide (s.dmc.tempRun.get n + msUnit ≤ s.tb.run)) = true := by
    rw [hup, Bool.true_and]; exact decide_eq_true hdue
  have hdmc : (s.tempShown n x).dmc = s.dmc := by rw [(tempShown_spec s n x).1]
  rw [exec_dramTempRead, execDramTempRead, decide_eq_true hn, whenWf, if_pos rfl, occurs, hg, if_pos rfl, hu]
  dsimp only
  rw [← State.tempShown, State.tempHighAfter]
  by_cases hhigh : signed (s.fld (Reg.dnAlarm n) 31 24) 8 ≤ x
  · rw [decide_eq_true hhigh, if_pos rfl, if_pos rfl]
    by_cases hwas : n ∈ s.dmc.tempHigh
    · simp [hwas, hdmc]
    · simp [hwas, hhigh, hdmc]
  · simp [hhigh, hdmc]

theorem dramTempRead_spec {x : Int} (hn : n < 4) (hup : s.coreUp = true) (hdue : s.dmc.tempRun.get n + 10 ^ 6 * 2 ^ 48 ≤ s.tb.run) :
    ∃ t, exec (.dramTempRead n x) s = .next t ∧ t.fld (Reg.dnStatus n) 7 0 = unsigned x 8 ∧
      (t.bit (Reg.dnStatus n) 27 = true ↔ 85 ≤ x ∨ (82 < x ∧ s.bit (Reg.dnStatus n) 27 = true)) ∧
      (signed (s.fld (Reg.dnAlarm n) 31 24) 8 ≤ x → n ∉ s.dmc.tempHigh → t.bit (Reg.dnEvents n) 3 = true ∧
        s.regsRaised t [Reg.dnStatus n, Reg.dnEvents n] (211 + 4 * n)) ∧
      (x < signed (s.fld (Reg.dnAlarm n) 31 24) 8 → s.regsBut t [Reg.dnStatus n]) ∧ t.dmc.chans = s.dmc.chans ∧
      t.dmc.tempRun.get n = s.tb.run ∧ t.mem = s.mem := by
  obtain ⟨u, hu⟩ : ∃ u : State, u = { s.tempShown n x with
    dmc := { s.dmc with tempHigh := s.tempHighAfter n x, tempRun := s.dmc.tempRun.set n s.tb.run } } := ⟨_, rfl⟩
  have hexec := dramTempRead_eq hn hup hdue u hu
  obtain ⟨hregs, hbut, hfld, hbit⟩ := tempShown_spec s n x
  have hurd : ∀ a, u.rd a = (s.tempShown n x).rd a := fun a => by rw [hu]; rfl
  have humem : u.mem = s.mem := by rw [hu]; exact hregs.mem_eq
  have hst : Reg.dnStatus n < 0x700000 := by rw [Reg.dnStatus]; omega
  have hev : Reg.dnEvents n < 0x700000 := by rw [Reg.dnEvents]; omega
  have hne : Reg.dnStatus n ≠ Reg.dnEvents n := by rw [Reg.dnStatus, Reg.dnEvents]; omega
  by_cases h : signed (s.fld (Reg.dnAlarm n) 31 24) 8 ≤ x ∧ n ∉ s.dmc.tempHigh
  · rw [if_pos h] at hexec
    have hstatus : (u.setEvent (Reg.dnEvents n) 3 (211 + 4 * n)).rd (Reg.dnStatus n) = (s.tempShown n x).rd (Reg.dnStatus n) := by
      rw [State.rd_setEvent _ _ _ _ _ hst, State.rd_setBit_other _ _ _ _ _ hne, hurd]
    obtain ⟨hr1, hr2⟩ := u.regsRaised_setEvent (a := Reg.dnEvents n) (b := 3) (n := 211 + 4 * n) (by omega) hev
    refine ⟨_, hexec, (State.fld_of_rd hstatus 7 0).trans hfld, by rw [State.bit_of_rd hstatus]; exact hbit,
      fun _ _ => ⟨State.bit_setEvent_same _ (by decide) hev, hr1.of_rd fun a ha => ?_, fun a ha hne => ?_⟩, fun hlt => absurd h.1 (by omega), ?_, ?_, ?_⟩
    · rw [hurd, hbut a (by simp; omega)]
    · simp only [List.mem_cons, List.not_mem_nil, or_false, not_or] at hne
      rw [hr2 a ha (by simpa using hne.2), hurd, hbut a (by simpa using hne.1)]
    · rw [State.setEvent_dmc, hu]
    · rw [State.setEvent_dmc, hu]
      dsimp only
      rw [SMap.get_set, if_pos rfl]
    · rw [State.setEvent_mem, humem]
  · rw [if_neg h] at hexec
    refine ⟨_, hexec, (State.fld_of_rd (hurd _) 7 0).trans hfld, by rw [State.bit_of_rd (hurd _)]; exact hbit, fun h1 h2 => absurd ⟨h1, h2⟩ h,
      fun _ a ha => (hurd a).trans (hbut a ha), ?_, ?_, humem⟩
    · rw [hu]
    · rw [hu]
      dsimp only
      rw [SMap.get_set, if_pos rfl]

/-! ### Self-refresh -/

/-- One step of closing a stack's open rows. -/
def State.rowsClosed (n : Nat) (t : State) (c : Nat) : State := if c / 32 = n then t.setChan c { t.chan c with openRow := {} } else t

theorem foldl_rowsClosed (n : Nat) (ks : List Nat) : ∀ s : State, State.Only [.dmc] s (ks.foldl (State.rowsClosed n) s) ∧
    ∀ c, (ks.foldl (State.rowsClosed n) s).chan c = if c / 32 = n ∧ c ∈ ks then { s.chan c with openRow := {} } else s.chan c := by
  induction ks with
  | nil => exact fun s => ⟨.refl _ _, fun c => by rw [if_neg (by simp)]; rfl⟩
  | cons k ks ih =>
    intro s
    have hstep : State.Only [.dmc] s (State.rowsClosed n s k) ∧
        ∀ c, (State.rowsClosed n s k).chan c = if c / 32 = n ∧ c = k then { s.chan c with openRow := {} } else s.chan c := by
      rw [State.rowsClosed]
      split
      · next hk =>
        refine ⟨(only_set_dmc _ (by decide)).mpr (.refl _ _), fun c => ?_⟩
        rw [chan_setChan]
        by_cases hck : c = k
        · rw [if_pos hck, if_pos ⟨hck ▸ hk, hck⟩, hck]
        · rw [if_neg hck, if_neg fun h => hck h.2]
      · next hk => exact ⟨.refl _ _, fun c => (if_neg fun h : c / 32 = n ∧ c = k => hk (h.2 ▸ h.1)).symm⟩
    obtain ⟨h1, h2⟩ := ih (State.rowsClosed n s k)
    rw [List.foldl_cons]
    refine ⟨hstep.1.trans h1, fun c => ?_⟩
    rw [h2, hstep.2]
    by_cases hn : c / 32 = n
    · by_cases hks : c ∈ ks
      · simp only [hn, hks, List.mem_cons, or_true, and_self, if_true]
        split <;> rfl
      · simp only [hn, hks, List.mem_cons, or_false, true_and, if_false]
    · simp only [hn, false_and, if_false]

theorem closeRows_spec (s : State) (n : Nat) : State.Only [.dmc] s (s.closeRows n) ∧
    ∀ c, (s.closeRows n).chan c = if c / 32 = n then { s.chan c with openRow := {} } else s.chan c := by
  obtain ⟨h1, h2⟩ := foldl_rowsClosed n s.dmc.chans.keys s
  have heq : s.closeRows n = s.dmc.chans.keys.foldl (State.rowsClosed n) s := rfl
  rw [heq]
  refine ⟨h1, fun c => ?_⟩
  rw [h2]
  by_cases hn : c / 32 = n
  · by_cases hk : c ∈ s.dmc.chans.keys
    · rw [if_pos ⟨hn, hk⟩, if_pos hn]
    · have hdef : s.chan c = {} := Tests.forallGet s.dmc.chans (fun k v => k ∉ s.dmc.chans.keys → v = {})
        (fun e he h => absurd (List.mem_map.mpr ⟨e, he, rfl⟩) h) (fun _ _ => rfl) c hk
      rw [if_neg fun h => hk h.2, if_pos hn, hdef]
  · rw [if_neg fun h => hn h.1, if_neg hn]

theorem selfRefreshEntry_spec {us : Nat} (hn : n < 4) (hup : s.stackUp n = true) (h31 : s.bit (Reg.dnSrCtrl n) 31 = true)
    (h30 : s.bit (Reg.dnStatus n) 30 = false) (hidle : s.stackBusy n = false) (hus : max 1 (s.fld (Reg.dnSrCtrl n) 15 0) ≤ us) :
    ∃ t, exec (.selfRefreshEntry n us) s = .next t ∧ t.bit (Reg.dnStatus n) 30 = true ∧ t.bit (Reg.dnStatus n) 29 = true ∧
      (∀ c, c / 32 = n → t.chan c = { s.chan c with openRow := {} }) ∧ (∀ c, c / 32 ≠ n → t.chan c = s.chan c) ∧
      t.ctr (Reg.dnCnt n 4) = (s.ctr (Reg.dnCnt n 4) + 1) % 2 ^ 64 ∧ t.bit (Reg.dnEvents n) 2 = true ∧
      s.regsRaised t [Reg.dnStatus n, Reg.dnEvents n] (210 + 4 * n) ∧ t.mem = s.mem := by
  obtain ⟨u, hu⟩ : ∃ u, u = s.closeRows n := ⟨_, rfl⟩
  obtain ⟨v, hv⟩ : ∃ v, v = (u.setFld (Reg.dnStatus n) 30 29 3).bump (Reg.dnCnt n 4) := ⟨_, rfl⟩
  obtain ⟨honly, hchan⟩ := closeRows_spec s n
  rw [← hu] at honly hchan
  have hexec : exec (.selfRefreshEntry n us) s = .next (v.setEvent (Reg.dnEvents n) 2 (210 + 4 * n)) := by
    rw [exec_selfRefreshEntry, execSelfRefreshEntry, decide_eq_true hn, whenWf, if_pos rfl, occurs, hup, h31, h30, hidle, decide_eq_true hus,
      if_pos (by decide), hv, hu]
  have hvrd : ∀ a, a ≠ Reg.dnStatus n → v.rd a = s.rd a := fun a ha => by
    rw [hv, State.rd_bump, State.rd_setFld_other _ _ _ _ _ _ ha, State.rd_of_regs (honly.regs_eq (by decide))]
  have hst : Reg.dnStatus n < 0x700000 := by rw [Reg.dnStatus]; omega
  have hev : Reg.dnEvents n < 0x700000 := by rw [Reg.dnEvents]; omega
  have hne : Reg.dnStatus n ≠ Reg.dnEvents n := by rw [Reg.dnStatus, Reg.dnEvents]; omega
  have hbits : v.fld (Reg.dnStatus n) 30 29 = 3 := by
    rw [hv, State.fld_of_rd (State.rd_bump ..), State.fld_setFld_same _ _ _ _ _ (by decide) (by decide)]
    rfl
  have hstatus : ∀ i, (v.setEvent (Reg.dnEvents n) 2 (210 + 4 * n)).bit (Reg.dnStatus n) i = v.bit (Reg.dnStatus n) i := fun i => by
    rw [State.bit_of_rd (State.rd_setEvent _ _ _ _ _ hst), State.bit_of_rd (State.rd_setBit_other _ _ _ _ _ hne)]
  have htchan : ∀ c, (v.setEvent (Reg.dnEvents n) 2 (210 + 4 * n)).chan c = u.chan c := fun c =>
    chan_of_dmc (by rw [State.setEvent_dmc, hv, State.bump_dmc, State.setFld_dmc]) c
  obtain ⟨hr1, hr2⟩ := v.regsRaised_setEvent (a := Reg.dnEvents n) (b := 2) (n := 210 + 4 * n) (by omega) hev
  refine ⟨_, hexec, ?_, ?_, fun c hc => ?_, fun c hc => ?_, ?_, State.bit_setEvent_same _ (by decide) hev,
    ⟨hr1.of_rd fun a ha => hvrd a (by omega), fun a ha hna => ?_⟩, ?_⟩
  · rw [hstatus]
    simp only [State.bit, State.fld, Wbits, bitsOf, beq_iff_eq] at hbits ⊢
    omega
  · rw [hstatus]
    simp only [State.bit, State.fld, Wbits, bitsOf, beq_iff_eq] at hbits ⊢
    omega
  · rw [htchan, hchan, if_pos hc]
  · rw [htchan, hchan, if_neg hc]
  · have hctrs : ∀ a, u.ctr a = s.ctr a := fun a => by rw [State.ctr, State.ctr, honly.ctrs_eq (by decide)]
    refine (State.ctr_raiseEvent _ _ _ (by rw [Reg.dnCnt]; omega)).trans ?_
    rw [State.ctr_setBit, hv, State.ctr_bump, if_pos rfl, ← hctrs, State.ctr, State.ctr, State.setFld_ctrs]
  · simp only [List.mem_cons, List.not_mem_nil, or_false, not_or] at hna
    rw [hr2 a ha (by simpa using hna.2), hvrd a hna.1]
  · rw [State.setEvent_mem, hv, State.bump_mem, State.setFld_mem, honly.mem_eq (by decide)]

theorem rowIdleClose_eq {b ns : Nat} (hc : c < 128) (hb : b < 16) (hup : s.stackUp (c / 32) = true) (hns : 1000 ≤ ns)
    (hopen : (s.chan c).openRow.get b ≠ none) :
    exec (.rowIdleClose c b ns) s = .next (s.setChan c { s.chan c with openRow := (s.chan c).openRow.set b none }) := by
  have hsome : ((s.chan c).openRow.get b).isSome = true := Option.isSome_iff_ne_none.mpr hopen
  rw [exec_rowIdleClose, execRowIdleClose, decide_eq_true hc, decide_eq_true hb, whenWf, if_pos (by decide), occurs, hup, decide_eq_true hns, hsome,
    if_pos (by decide)]

end

/-- Settles O52: the queues from what an entry queued and a request completed leave, the picks from the shared side's order, and the
answers of a read from what its atoms' outcomes leave. -/
theorem dramRequests : Obligations.DramRequests := by
  intro s
  refine ⟨fun r c e hwf hc hup hsr hwin hroom hwait he => ?_, fun r c hwf hc hup hsr hh => dramRequestAccept_holds hwf hc hup hsr hh,
    fun e => ⟨rfl, rfl⟩, fun r n hwf hc hup h30 h29 => dramRequestAccept_wakes hwf hc hup h30 h29, fun x ok e h => sharedPick_spec h,
    fun f e x hf he => ?_, fun c ready e x hc hx hup hf he hp => rowIssue_spec hc hx hup hf he hp,
    fun c ready e x hc hx hup hf he hp hw hlast hwait => columnIssue_spec hc hx hup hf he hp hw hlast hwait,
    fun c outs e l hc hup hreads hw => ⟨fun hclean hp => readComplete_clean hc hup hreads hw hclean hp,
      fun n d rest ha hp _ ho => readComplete_corrected hc hup hreads hw ha hp ho,
      fun d rest ha hp ho => readComplete_unseen hc hup hreads hw ha hp ho,
      fun syn rest ha hstop ho hre => readComplete_uncorrectable hc hup hreads hw ha hstop ho hre⟩,
    fun c busy hc hcore h28 h30 hdue => ⟨fun hfree => dramRefresh_runs hc hcore h28 h30 hdue hfree,
      fun hbusy h8 hbank => dramRefresh_postponed hc hcore h28 h30 hdue hbusy h8 hbank⟩,
    fun n x hn hup hdue => dramTempRead_spec hn hup hdue, fun n us hn hup h31 h30 hidle hus => selfRefreshEntry_spec hn hup h31 h30 hidle hus,
    fun c b ns hc hb hup hns hopen => rowIdleClose_eq hc hb hup hns hopen⟩
  · obtain ⟨t, hexec, hdmc, hrd, hread, hwrite⟩ := dramRequestAccept_spec hwf hc hup hsr hwin hroom hwait he
    have hchan : ∀ d, t.chan d = if d = c then (s.chan c).queued e else s.chan d := fun d =>
      (chan_of_dmc hdmc d).trans (chan_entryQueued ..)
    have hereq : e.req = r := by rw [he]
    refine ⟨t, hexec, by rw [hdmc]; rfl, fun hp => ?_, fun hp => ?_, fun d hd => by rw [hchan, if_neg hd], hrd, hread, fun hw => ?_⟩
    · rw [hchan, if_pos rfl, Channel.queued, hereq, if_pos hp]
      exact ⟨by rw [SMap.get_set, if_pos rfl], rfl⟩
    · rw [hchan, if_pos rfl, Channel.queued, hereq, if_neg hp]
      exact ⟨rfl, rfl⟩
    · obtain ⟨hctr, hmem⟩ := hwrite hw
      have hlen := (wf_fields hwf).2.2 hw
      refine ⟨hctr, fun i hi => ?_, fun a ha => ?_⟩
      · rw [hmem, get_putEnabled, if_pos (by omega), Nat.add_sub_cancel_left]
      · rw [hmem, get_putEnabled, if_neg (by omega)]
  · rw [State.chooseSide, if_neg hf, if_neg he]

end Sys2Proof.Machine
end

section
/-! PROOFS. The obligation on corrections in on-chip stores and on the DRAM scrubber. -/
namespace Sys2Proof.Machine

section
variable (s : State)

theorem exec_arrayRewrite (store p u w : Nat) (found : WordFound) :
    exec (.arrayRewrite store p u w found) s = execArrayRewrite store p u w found s := rfl
theorem exec_scrubRepair (acc : Nat) (v : Word) : exec (.scrubRepair acc v) s = execScrubRepair acc v s := rfl
theorem exec_scrubSurvey (acc : Nat) (v : Word) : exec (.scrubSurvey acc v) s = execScrubSurvey acc v s := rfl
theorem exec_scrubZero (acc : Nat) (v : Word) : exec (.scrubZero acc v) s = execScrubZero acc v s := rfl
theorem exec_scrubUnit (outs : List AtomOutcome) : exec (.scrubUnit outs) s = execScrubUnit outs s := rfl
theorem exec_scrubAbort (acc : Nat) (v : Word) : exec (.scrubAbort acc v) s = execScrubAbort acc v s := rfl

end

section
variable {s : State} {x : Scrub} {outs : List AtomOutcome} {acc : Nat} {v : Word}

/-! ### Words of on-chip stores -/

theorem storeClass_lt {store k : Nat} (h : storeClass store = some k) : k < 8 := by
  have hall : ∀ i < 24, ∀ j ∈ storeClass i, j < 8 := by decide
  by_cases hs : store < 24
  · exact hall store hs k h
  · rw [storeClass, List.getD_eq_default _ _ (by simpa using Nat.le_of_not_lt hs)] at h
    exact absurd h (by simp)

/-- An alarm shows in its event and in the record of the first one. -/
theorem eccAlarm_spec (s : State) (k : Nat) : (s.eccAlarm true k).bit Reg.eccEvents 1 = true ∧ (s.eccAlarm true k).bit Reg.eccAlarmInfo 31 = true ∧
    s.regsRaised (s.eccAlarm true k) [Reg.eccAlarmInfo, Reg.eccEvents] 225 := by
  obtain ⟨u, hu⟩ : ∃ u, u = s.record Reg.eccAlarmInfo (b2n true * 256 + k) := ⟨_, rfl⟩
  have heq : s.eccAlarm true k = u.setEvent Reg.eccEvents 1 225 := by rw [hu]; rfl
  have hurd : ∀ a, a ≠ Reg.eccAlarmInfo → u.rd a = s.rd a := fun a ha => by rw [hu, State.record, State.rd_wr, if_neg ha]
  have hu31 : u.bit Reg.eccAlarmInfo 31 = true := by
    rw [hu, State.record, State.bit, State.fld_wr, if_pos rfl, firstRecord]
    split
    · next h => rw [Wbits_Wput_other _ _ _ _ _ _ (by decide) (by decide) (.inr (by decide)), h]; rfl
    · rw [Wbits_Wput_other _ _ _ _ _ _ (by decide) (by decide) (.inr (by decide)), Wbits_Wput_same _ _ _ _ (by decide) (by decide)]; rfl
  obtain ⟨h1, h2⟩ := u.regsRaised_setEvent (a := Reg.eccEvents) (b := 1) (n := 225) (by decide) (by decide)
  rw [heq]
  refine ⟨State.bit_setEvent_same _ (by decide) (by decide), ?_, h1.of_rd fun a ha => hurd a (by unfold Reg.eccAlarmInfo; omega), fun a ha hna => ?_⟩
  · rw [State.bit_of_rd (h2 _ (by decide) (by decide)), hu31]
  · simp only [List.mem_cons, List.not_mem_nil, or_false, not_or] at hna
    rw [h2 a ha (by simpa using hna.2), hurd a hna.1]

/-- What a corrected on-chip word counted leaves. -/
theorem arrayCorrected_spec (s : State) {k : Nat} (hk : k < 8) : State.Only [.regs, .ctrs, .ecc, .block 104, .block 258] s (s.arrayCorrected k) ∧
    (s.arrayCorrected k).ctr (Reg.eccArrayCorr k) = (s.ctr (Reg.eccArrayCorr k) + 1) % 2 ^ 64 ∧
    (s.fld (Reg.eccArrayAlarm k) 23 0 = 0 → (s.arrayCorrected k).regs = s.regs) ∧
    (alarmDue s.ecc.corrWindow (32 + k) 1 (s.fld (Reg.eccArrayAlarm k) 23 0) = true → (s.arrayCorrected k).bit Reg.eccEvents 1 = true ∧
      (s.arrayCorrected k).bit Reg.eccAlarmInfo 31 = true ∧ s.regsRaised (s.arrayCorrected k) [Reg.eccAlarmInfo, Reg.eccEvents] 225) := by
  obtain ⟨w, hw⟩ : ∃ w, w = windowAdd s.ecc.corrWindow (32 + k) 1 (s.fld (Reg.eccArrayAlarm k) 23 0) := ⟨_, rfl⟩
  obtain ⟨t, ht⟩ : ∃ t : State, t = { s.bump (Reg.eccArrayCorr k) with ecc.corrWindow := w } := ⟨_, rfl⟩
  have hregs : t.regs = s.regs := by rw [ht]; rfl
  have hrd : ∀ a, t.rd a = s.rd a := State.rd_of_regs hregs
  have honly : State.Only [.regs, .ctrs, .ecc, .block 104, .block 258] s t := by
    rw [ht, only_set_ecc _ (by decide), only_bump _ _ (by decide)]
    exact .refl _ _
  have hctr : t.ctr (Reg.eccArrayCorr k) = (s.ctr (Reg.eccArrayCorr k) + 1) % 2 ^ 64 := by
    rw [ht]
    exact (State.ctr_bump ..).trans (if_pos rfl)
  have heq : s.arrayCorrected k = if alarmDue s.ecc.corrWindow (32 + k) 1 (s.fld (Reg.eccArrayAlarm k) 23 0) then t.eccAlarm true k else t := by
    rw [ht, hw, State.arrayCorrected]
  rw [heq]
  split
  · next hdue =>
    obtain ⟨h1, h2, h3, h4⟩ := eccAlarm_spec t k
    refine ⟨(only_eccAlarm _ _ (by decide)).mpr honly, (ctr_eccAlarm _ _ _ (by rw [Reg.eccArrayCorr]; omega)).trans hctr, fun h0 => ?_,
      fun _ => ⟨h1, h2, h3.of_rd fun a _ => hrd a, fun a ha hna => (h4 a ha hna).trans (hrd a)⟩⟩
    rw [h0, alarmDue] at hdue
    exact absurd hdue (by simp)
  · next hdue => exact ⟨honly, hctr, fun _ => hregs, fun h => absurd h hdue⟩

theorem arrayRewrite_wf {store p u w : Nat} (h1 : 1 ≤ store) (h2 : store < 0x18) (hp : p < 20) (hu : u < 256) (hw : w < 2 ^ 48) :
    (decide (1 ≤ store) && decide (store < 0x18) && decide (p < 20) && decide (u < 256) && decide (w < 2 ^ 48)) = true := by
  simp only [h1, h2, hp, hu, hw, decide_true, Bool.and_self]

theorem arrayRewrite_corrected {store p u w : Nat} {nd : Bool} (h1 : 1 ≤ store) (h2 : store < 0x18) (hp : p < 20) (hu : u < 256) (hw : w < 2 ^ 48) :
    exec (.arrayRewrite store p u w (.corrected nd)) s = match storeClass store with
      | some k => .next (if s.coreUp then s.arrayCorrected k else s)
      | none => .next s := by
  rw [exec_arrayRewrite, execArrayRewrite, arrayRewrite_wf h1 h2 hp hu hw, whenWf, if_pos rfl] <;> rfl

theorem arrayRewrite_failed {store p u w syn : Nat} (h1 : 1 ≤ store) (h2 : store < 0x18) (hp : p < 20) (hu : u < 256) (hw : w < 2 ^ 48)
    (hcore : s.boot.core = .running) (hstop : s.boot.stop = .none) :
    ∃ t, exec (.arrayRewrite store p u w (.failed syn)) s = .next t ∧ t.boot.stop = .fault ∧
      t.boot.cause = (if store = 0x0A ∨ store = 0x0B ∨ store = 0x0D ∨ store = 0x14 ∨ store = 0x17 then 4 else 3) := by
  refine ⟨s.storeFault store p u w syn, ?_, ?_⟩
  · rw [exec_arrayRewrite, execArrayRewrite, arrayRewrite_wf h1 h2 hp hu hw, whenWf, if_pos rfl]
  · have hkept := faultStop_kept hcore hstop
    rw [State.storeFault]
    obtain ⟨k1, k2, -, -⟩ := hkept { cause := if storeParity store then 4 else 3, base := storeBase store p, syndrome := syn, addr := u * 2 ^ 56 + store * 2 ^ 48 + w % 2 ^ 48 }
    refine ⟨k1, k2.trans ?_⟩
    simp only [storeParity, List.contains_eq_mem, List.mem_cons, List.not_mem_nil, or_false, decide_eq_true_eq]

/-! ### A scrub command's end -/

/-- The registers that show what a command has found. -/
def State.scrubShown (s : State) (x : Scrub) : State :=
  (((s.setFld Reg.eccScrubAtoms 31 0 x.atoms).setFld Reg.eccScrubCorr1 31 0 x.corr1).setFld Reg.eccScrubCorr2 31 0 x.corr2).setPair
    Reg.eccScrubFirstLo Reg.eccScrubFirstHi x.first |>.setPair Reg.eccScrubLastLo Reg.eccScrubLastHi x.last

theorem scrubShown_spec (s : State) (x : Scrub) : s.RegsOnly (s.scrubShown x) ∧ (s.scrubShown x).rd Reg.eccScrubAtoms = BitVec.ofNat 32 x.atoms ∧
    ∀ a, a < Reg.eccScrubAtoms ∨ Reg.eccScrubLastHi < a → (s.scrubShown x).rd a = s.rd a := by
  have hpair : ∀ (t : State) lo hi v a, a ≠ lo → a ≠ hi → (t.setPair lo hi v).rd a = t.rd a := fun t lo hi v a h1 h2 => by
    rw [State.setPair, State.rd_wr, if_neg h2, State.rd_wr, if_neg h1]
  refine ⟨State.RegsOnly.refl.setFld.setFld.setFld.wr.wr.wr.wr, ?_, fun a ha => ?_⟩
  · rw [State.scrubShown, hpair _ _ _ _ _ (by decide) (by decide), hpair _ _ _ _ _ (by decide) (by decide),
      State.rd_setFld_other _ _ _ _ _ _ (by decide), State.rd_setFld_other _ _ _ _ _ _ (by decide), State.setFld, State.rd_wr, if_pos rfl, Wput_word]
  · unfold Reg.eccScrubAtoms Reg.eccScrubLastHi at ha
    rw [State.scrubShown, hpair _ _ _ _ _ (by unfold Reg.eccScrubLastLo; omega) (by unfold Reg.eccScrubLastHi; omega),
      hpair _ _ _ _ _ (by unfold Reg.eccScrubFirstLo; omega) (by unfold Reg.eccScrubFirstHi; omega),
      State.rd_setFld_other _ _ _ _ _ _ (by unfold Reg.eccScrubCorr2; omega), State.rd_setFld_other _ _ _ _ _ _ (by unfold Reg.eccScrubCorr1; omega),
      State.rd_setFld_other _ _ _ _ _ _ (by unfold Reg.eccScrubAtoms; omega)]

/-- What a command that ends leaves: its result, the counts of what it found, and its event. -/
theorem scrubEnd_spec (s : State) (x : Scrub) (code : Nat) : (s.scrubEnd x code).ecc = { s.ecc with scrub := none } ∧
    (s.scrubEnd x code).mem = s.mem ∧ (s.scrubEnd x code).rd Reg.eccScrubAtoms = BitVec.ofNat 32 x.atoms ∧
    (s.scrubEnd x code).rd Reg.eccScrubResult = (s.cmdDone Reg.eccScrubResult (code * 2 ^ 26 + x.region * 2 ^ 21)).rd Reg.eccScrubResult ∧
    (s.scrubEnd x code).rd Reg.eccScrubProgress = s.rd Reg.eccScrubProgress ∧ (s.scrubEnd x code).bit Reg.eccEvents 2 = true ∧
    s.raised (s.scrubEnd x code) 226 := by
  obtain ⟨d, hd⟩ : ∃ d, d = s.cmdDone Reg.eccScrubResult (code * 2 ^ 26 + x.region * 2 ^ 21) := ⟨_, rfl⟩
  obtain ⟨u, hu⟩ : ∃ u : State, u = { d.scrubShown x with ecc.scrub := none } := ⟨_, rfl⟩
  obtain ⟨hregs, hatoms, hrd⟩ := scrubShown_spec d x
  have heq : s.scrubEnd x code = u.setEvent Reg.eccEvents 2 226 := by rw [hu, hd]; rfl
  have hurd : ∀ a, u.rd a = (d.scrubShown x).rd a := fun a => by rw [hu]; rfl
  have hdrd : ∀ a, a ≠ Reg.eccScrubResult → d.rd a = s.rd a := fun a ha => by rw [hd, State.cmdDone, State.rd_wr, if_neg ha]
  have hecc : (d.scrubShown x).ecc = s.ecc := by
    have h : (d.scrubShown x).ecc = d.ecc := by rw [hregs]
    rw [h, hd, State.cmdDone_ecc]
  have hset : ∀ a, a < 0x700000 → a ≠ Reg.eccEvents → (u.setEvent Reg.eccEvents 2 226).rd a = u.rd a := fun a h1 h2 => by
    rw [State.rd_setEvent _ _ _ _ _ h1, State.rd_setBit_other _ _ _ _ _ h2]
  rw [heq]
  refine ⟨?_, ?_, ?_, ?_, ?_, State.bit_setEvent_same _ (by decide) (by decide), (u.raised_setEvent (by decide) (by decide)).of_rd fun a ha => ?_⟩
  · rw [State.setEvent_ecc, hu]
    dsimp only
    rw [hecc]
  · rw [State.setEvent_mem, hu]
    dsimp only
    rw [hregs.mem_eq, hd, State.cmdDone_mem]
  · rw [hset _ (by decide) (by decide), hurd, hatoms]
  · rw [hset _ (by decide) (by decide), hurd, hrd _ (.inl (by decide)), hd]
  · rw [hset _ (by decide) (by decide), hurd, hrd _ (.inr (by decide)), hdrd _ (by decide)]
  · rw [hurd, hrd _ (.inr (by unfold Reg.eccScrubLastHi; omega)), hdrd _ (by unfold Reg.eccScrubResult; omega)]

/-! ### A scrub command accepted -/

/-- The state with a command accepted and its progress at 0. -/
def State.scrubAccepted (s : State) : State := (s.cmdAccept Reg.eccScrubResult).setFld Reg.eccScrubProgress 28 0 0

theorem scrubAccepted_spec (s : State) : s.RegsOnly s.scrubAccepted ∧ s.regsBut s.scrubAccepted [Reg.eccScrubResult, Reg.eccScrubProgress] ∧
    s.scrubAccepted.rd Reg.eccScrubResult = Wput (s.rd Reg.eccScrubResult) 31 29 2 ∧ s.scrubAccepted.fld Reg.eccScrubResult 29 29 = 0 ∧
    s.scrubAccepted.fld Reg.eccScrubProgress 28 0 = 0 := by
  refine ⟨State.RegsOnly.refl.accept.setFld, fun a ha => ?_, ?_, ?_, ?_⟩
  · simp only [List.mem_cons, List.not_mem_nil, or_false, not_or] at ha
    rw [State.scrubAccepted, State.rd_setFld_other _ _ _ _ _ _ ha.2, State.cmdAccept, State.rd_setFld_other _ _ _ _ _ _ ha.1]
  · rw [State.scrubAccepted, State.rd_setFld_other _ _ _ _ _ _ (by decide), State.cmdAccept, State.setFld, State.rd_wr, if_pos rfl]
  · rw [State.scrubAccepted, State.fld_setFld_other _ _ _ _ _ _ _ _ (by decide), fld_cmdAccept]
  · rw [State.scrubAccepted, State.fld_setFld_same _ _ _ _ _ (by decide) (by decide), Nat.zero_mod]

theorem find?_congr {α : Type} {p q : α → Bool} {l : List α} (h : ∀ i ∈ l, p i = q i) : l.find? p = l.find? q := by
  induction l with
  | nil => rfl
  | cons a l ih =>
    rw [List.find?_cons, List.find?_cons, h a List.mem_cons_self, ih fun i hi => h i (List.mem_cons_of_mem _ hi)]

theorem regionOf_of_rd {t : State} (h : ∀ i < 16, t.rd (Reg.eccRegion i) = s.rd (Reg.eccRegion i)) (a : Nat) : t.regionOf a = s.regionOf a := by
  rw [State.regionOf, State.regionOf]
  congr 1
  exact find?_congr fun i hi => by rw [State.regionHolds, State.regionHolds, h i (List.mem_range.mp hi)]

/-- Accepting a command leaves the ranges that commands cover. -/
theorem scrubRange_accepted (s : State) (r : Nat) : s.scrubAccepted.scrubRange r = s.scrubRange r := by
  have hrd : ∀ a, a ≠ Reg.eccScrubResult → a ≠ Reg.eccScrubProgress → s.scrubAccepted.rd a = s.rd a := fun a h1 h2 =>
    (scrubAccepted_spec s).2.1 a (by simp [h1, h2])
  have hregion : ∀ i < 16, s.scrubAccepted.rd (Reg.eccRegion i) = s.rd (Reg.eccRegion i) := fun i hi => by
    refine hrd _ ?_ ?_ <;> simp only [Reg.eccRegion, Reg.eccScrubResult, Reg.eccScrubProgress] <;> omega
  have hloose : s.scrubAccepted.looseGibs = s.looseGibs := by
    rw [State.looseGibs, State.looseGibs]
    simp only [regionOf_of_rd hregion]
  rw [State.scrubRange, State.scrubRange, hloose]
  by_cases hr : r < 16
  · rw [if_pos hr, if_pos hr, hregion r hr]
  · rw [if_neg hr, if_neg hr, State.fld_of_rd (hrd Reg.eccScrubStartLo (by decide) (by decide)), State.fld_of_rd (hrd Reg.eccScrubStartHi (by decide) (by decide)),
      State.fld_of_rd (hrd Reg.eccScrubLen (by decide) (by decide))]

theorem scrubStart_eq (s : State) (hreval : s.bit Reg.bootReval 30 = false) (m r : Nat) : s.scrubStart m r = match s.scrubRange r with
    | none => s.scrubAccepted.scrubEnd { mode := m, region := r } 2
    | some p => if p.2 = 0 then s.scrubAccepted.scrubEnd { mode := m, region := r } 0
      else { s.scrubAccepted with ecc.scrub := some { mode := m, region := r, start := p.1, units := p.2, next := s.scrubAccepted.tb.run } } := by
  have hbit : s.scrubAccepted.bit Reg.bootReval 30 = false :=
    (State.bit_of_rd ((scrubAccepted_spec s).2.1 _ (by decide)) 30).trans hreval
  rw [State.scrubStart, ← State.scrubAccepted]
  dsimp only
  rw [hbit, if_neg (by decide), scrubRange_accepted] <;> rfl

theorem scrubCommand_eq (hreach : s.reaches acc Reg.eccScrubCmd) (hbusy : s.cmdBusy Reg.eccScrubResult = false) {m : Nat} (h1 : 1 ≤ m) (h3 : m ≤ 3)
    (hm : Wbits v 1 0 = m) (hkey : m = 3 → Wbits v 31 16 = 0xA5C3) :
    (if m = 1 then exec (.scrubRepair acc v) s else if m = 2 then exec (.scrubSurvey acc v) s else exec (.scrubZero acc v) s) =
      .next (s.scrubStart m (Wbits v 12 8)) := by
  have hrow : ∀ k, m = k → writeRow (acc < 7) acc Reg.eccScrubCmd (Wbits v 1 0 == k) (fun t => writeScrubCmd t v) s =
      .next (s.scrubStart m (Wbits v 12 8)) := fun k hk => by
    rw [writeRow_reaches hreach (by simpa using hreach.1) (by simpa using hm.trans hk), writeScrubCmd, hm, if_neg, hbusy, if_neg (by decide)]
    rintro (h | ⟨h, hne⟩)
    · omega
    · exact hne (hkey h)
  by_cases hm1 : m = 1
  · rw [if_pos hm1, exec_scrubRepair, execScrubRepair, hrow 1 hm1]
  rw [if_neg hm1]
  by_cases hm2 : m = 2
  · rw [if_pos hm2, exec_scrubSurvey, execScrubSurvey, hrow 2 hm2]
  · rw [if_neg hm2, exec_scrubZero, execScrubZero, hrow 3 (by omega)]

/-- The result of a command that ends as it is accepted. -/
theorem scrubEnd_accepted (s : State) {m r code : Nat} (hr : r < 32) (hc : code < 8) :
    (s.scrubAccepted.scrubEnd { mode := m, region := r } code).mem = s.mem ∧
    (s.scrubAccepted.scrubEnd { mode := m, region := r } code).rd Reg.eccScrubResult = resultWord (code * 2 ^ 26 + r * 2 ^ 21) ∧
    (s.scrubAccepted.scrubEnd { mode := m, region := r } code).ecc.scrub = none := by
  obtain ⟨hregs, -, -, h29, -⟩ := scrubAccepted_spec s
  obtain ⟨e1, e2, -, e4, -⟩ := scrubEnd_spec s.scrubAccepted { mode := m, region := r } code
  exact ⟨e2.trans hregs.mem_eq, e4.trans (rd_cmdDone h29 (by dsimp only; omega)), by rw [e1]⟩

theorem scrubCommand_spec (hreach : s.reaches acc Reg.eccScrubCmd) (hbusy : s.cmdBusy Reg.eccScrubResult = false) {m r : Nat} (h1 : 1 ≤ m) (h3 : m ≤ 3)
    (hm : Wbits v 1 0 = m) (hkey : m = 3 → Wbits v 31 16 = 0xA5C3) (hr : Wbits v 12 8 = r) (hreval : s.bit Reg.bootReval 30 = false) :
    ∃ t, (if m = 1 then exec (.scrubRepair acc v) s else if m = 2 then exec (.scrubSurvey acc v) s else exec (.scrubZero acc v) s) = .next t ∧
      t.mem = s.mem ∧
      (s.scrubRange r = none → t.rd Reg.eccScrubResult = resultWord (2 * 2 ^ 26 + r * 2 ^ 21) ∧ t.ecc.scrub = none) ∧
      (∀ a, s.scrubRange r = some (a, 0) → t.rd Reg.eccScrubResult = resultWord (r * 2 ^ 21) ∧ t.ecc.scrub = none) ∧
      (∀ a n, s.scrubRange r = some (a, n) → n ≠ 0 → t.ecc.scrub = some { mode := m, region := r, start := a, units := n, next := s.tb.run } ∧
        t.rd Reg.eccScrubResult = Wput (s.rd Reg.eccScrubResult) 31 29 2 ∧ t.fld Reg.eccScrubProgress 28 0 = 0 ∧
        s.regsBut t [Reg.eccScrubResult, Reg.eccScrubProgress] ∧ t.ctrs = s.ctrs) := by
  have hr32 : r < 32 := hr ▸ Wbits_lt v 12 8
  have hexec := (scrubCommand_eq hreach hbusy h1 h3 hm hkey).trans (congrArg _ (scrubStart_eq s hreval m (Wbits v 12 8)))
  rw [hr] at hexec
  cases hrange : s.scrubRange r with
  | none =>
    obtain ⟨k1, k2, k3⟩ := scrubEnd_accepted s (m := m) hr32 (code := 2) (by decide)
    rw [hrange] at hexec
    exact ⟨_, hexec, k1, fun _ => ⟨k2, k3⟩, fun _ h => absurd h (by simp), fun _ _ h => absurd h (by simp)⟩
  | some p =>
    obtain ⟨a, n⟩ := p
    rw [hrange] at hexec
    dsimp only at hexec
    by_cases hn : n = 0
    · obtain ⟨k1, k2, k3⟩ := scrubEnd_accepted s (m := m) hr32 (code := 0) (by decide)
      rw [Nat.zero_mul, Nat.zero_add] at k2
      rw [if_pos hn] at hexec
      exact ⟨_, hexec, k1, fun h => absurd h (by simp), fun _ _ => ⟨k2, k3⟩, fun b n' h hn' => absurd ((by simpa using h : a = b ∧ n = n').2 ▸ hn) hn'⟩
    · obtain ⟨a1, a2, a3, -, a5⟩ := scrubAccepted_spec s
      obtain ⟨u, hu⟩ : ∃ u, u = s.scrubAccepted := ⟨_, rfl⟩
      rw [if_neg hn, ← hu] at hexec
      rw [← hu] at a1 a2 a3 a5
      refine ⟨_, hexec, a1.mem_eq, fun h => absurd h (by simp), fun b h => absurd (Prod.mk.inj (Option.some.inj h)).2 hn, fun b n' h _ => ?_⟩
      obtain ⟨rfl, rfl⟩ : a = b ∧ n = n' := Prod.mk.inj (Option.some.inj h)
      have htb : u.tb = s.tb := by rw [a1]
      have hctrs : u.ctrs = s.ctrs := by rw [a1]
      exact ⟨by rw [htb], a3, a5, a2, hctrs⟩

end

end Sys2Proof.Machine
end

section
/-! PROOFS. The obligation on the DRAM scrubber: its units. -/
namespace Sys2Proof.Machine

section
variable {s : State} {x : Scrub} {outs : List AtomOutcome}

/-! ### After a unit -/

theorem scrubNext_goesOn (s : State) (habort : x.abort = false) (hmore : x.done ≠ x.units) :
    s.scrubNext x = { s.setFld Reg.eccScrubProgress 28 0 x.done with ecc.scrub := some x } := by
  rw [State.scrubNext, habort, if_neg (by decide), if_neg hmore]

theorem scrubNext_ends (s : State) (hend : x.abort = true ∨ x.done = x.units) :
    s.scrubNext x = (s.setFld Reg.eccScrubProgress 28 0 x.done).scrubEnd x (b2n x.abort) := by
  rw [State.scrubNext]
  cases habort : x.abort with
  | true => rw [if_pos rfl]; rfl
  | false => rw [if_neg (by decide), if_pos (hend.resolve_left (by simp [habort]))]; rfl

theorem scrubNext_spec (s : State) (hr : x.region < 32) : (s.scrubNext x).mem = s.mem ∧
    (s.scrubNext x).fld Reg.eccScrubProgress 28 0 = x.done % 2 ^ 29 ∧
    (x.abort = false → x.done ≠ x.units → (s.scrubNext x).ecc.scrub = some x ∧ s.regsBut (s.scrubNext x) [Reg.eccScrubProgress]) ∧
    (x.abort = true ∨ x.done = x.units → (s.scrubNext x).ecc.scrub = none ∧ (s.scrubNext x).rd Reg.eccScrubAtoms = BitVec.ofNat 32 x.atoms ∧
      (s.scrubNext x).bit Reg.eccScrubResult 31 = true ∧ (s.scrubNext x).bit Reg.eccScrubResult 30 = false ∧
      (s.scrubNext x).fld Reg.eccScrubResult 28 26 = b2n x.abort ∧ (s.scrubNext x).bit Reg.eccEvents 2 = true ∧ s.raised (s.scrubNext x) 226) := by
  obtain ⟨u, hu⟩ : ∃ u, u = s.setFld Reg.eccScrubProgress 28 0 x.done := ⟨_, rfl⟩
  have humem : u.mem = s.mem := by rw [hu, State.setFld_mem]
  have hurd : ∀ a, a ≠ Reg.eccScrubProgress → u.rd a = s.rd a := fun a ha => by rw [hu, State.rd_setFld_other _ _ _ _ _ _ ha]
  have hufld : u.fld Reg.eccScrubProgress 28 0 = x.done % 2 ^ 29 := by rw [hu, State.fld_setFld_same _ _ _ _ _ (by decide) (by decide)]
  have habort : x.abort = true ∨ x.abort = false := by cases x.abort <;> simp
  by_cases hend : x.abort = true ∨ x.done = x.units
  · obtain ⟨e1, e2, e3, e4, e5, e6, e7⟩ := scrubEnd_spec u x (b2n x.abort)
    have h29 : u.fld Reg.eccScrubResult 29 29 < 2 := Nat.mod_lt _ (by decide)
    have hb : b2n x.abort < 2 := by cases x.abort <;> decide
    have hres : ∀ hi lo, (u.scrubEnd x (b2n x.abort)).fld Reg.eccScrubResult hi lo =
        bitsOf (2 ^ 31 + u.fld Reg.eccScrubResult 29 29 * 2 ^ 29 + (b2n x.abort * 2 ^ 26 + x.region * 2 ^ 21) % 2 ^ 29) hi lo := fun hi lo =>
      (State.fld_of_rd e4 hi lo).trans (fld_cmdDone ..)
    rw [scrubNext_ends s hend, ← hu]
    refine ⟨e2.trans humem, (State.fld_of_rd e5 28 0).trans hufld, fun h1 h2 => absurd hend (by simp [h1, h2]), fun _ => ⟨by rw [e1], e3, ?_, ?_, ?_, e6,
      e7.of_rd fun a ha => hurd a (by unfold Reg.eccScrubProgress; omega)⟩⟩
    · rw [State.bit, hres]; simp only [bitsOf, beq_iff_eq]; omega
    · rw [State.bit, hres]; simp only [bitsOf, beq_eq_false_iff_ne]; omega
    · rw [hres]; simp only [bitsOf]; omega
  · have h1 : x.abort = false := habort.resolve_left fun h => hend (.inl h)
    have h2 : x.done ≠ x.units := fun h => hend (.inr h)
    rw [scrubNext_goesOn s h1 h2, ← hu]
    exact ⟨humem, hufld, fun _ _ => ⟨rfl, fun a ha => hurd a (by simpa using ha)⟩, fun h => absurd h hend⟩

/-! ### A unit -/

/-- A command after one more unit. -/
def State.scrubStepped (s : State) (x : Scrub) : Scrub :=
  { x with done := x.done + 1, atoms := x.atoms + 4, next := max s.tb.run x.next + 1000 * 2 ^ 48 / max 1 (s.fld Reg.eccScrubRate 11 0) }

theorem execScrubUnit_eq (hx : s.ecc.scrub = some x) (hup : s.coreUp = true) (hnext : x.next < s.tb.run + 2 ^ 48) :
    exec (.scrubUnit outs) s = .next (if x.mode = 3 then
        { s with mem := s.mem.clearRange (s.scrubAddr x x.done) 256 }.scrubNext (s.scrubStepped x)
      else if (s.scrubAtoms (s.scrubStepped x) (s.scrubAddr x x.done) ((List.range 4).map fun k => outs.getD k .clean)).1.coreUp then
        (s.scrubAtoms (s.scrubStepped x) (s.scrubAddr x x.done) ((List.range 4).map fun k => outs.getD k .clean)).1.scrubNext
          (s.scrubAtoms (s.scrubStepped x) (s.scrubAddr x x.done) ((List.range 4).map fun k => outs.getD k .clean)).2
      else (s.scrubAtoms (s.scrubStepped x) (s.scrubAddr x x.done) ((List.range 4).map fun k => outs.getD k .clean)).1) := by
  have hg : (s.coreUp && decide (x.next < s.tb.run + nsUnit)) = true := by rw [hup, Bool.true_and]; exact decide_eq_true hnext
  rw [exec_scrubUnit, execScrubUnit, hx]
  dsimp only
  rw [occurs, hg, if_pos rfl, State.scrubUnit]
  rfl

theorem scrubAtoms_clean (hup : s.coreUp = true) {l : List AtomOutcome} (h : ∀ o ∈ l, o = .clean) : ∀ a, s.scrubAtoms x a l = (s, x) := by
  induction l with
  | nil => exact fun a => rfl
  | cons o l ih =>
    intro a
    rw [h o List.mem_cons_self, State.scrubAtoms, State.scrubAtom]
    dsimp only
    rw [hup, if_pos rfl]
    exact ih (fun o ho => h o (List.mem_cons_of_mem _ ho)) _

/-- A unit whose atoms read clean, or that is zeroed. -/
theorem scrubUnit_clean (hx : s.ecc.scrub = some x) (hup : s.coreUp = true) (hnext : x.next < s.tb.run + 2 ^ 48) (hr : x.region < 32)
    (hclean : x.mode ≠ 3 → ∀ k < 4, outs.getD k .clean = .clean) :
    ∃ t, exec (.scrubUnit outs) s = .next t ∧
      (∀ a, t.mem.get a = if x.mode = 3 ∧ s.scrubAddr x x.done ≤ a ∧ a < s.scrubAddr x x.done + 256 then 0 else s.mem.get a) ∧
      t.fld Reg.eccScrubProgress 28 0 = (x.done + 1) % 2 ^ 29 ∧
      (x.abort = false → x.done + 1 ≠ x.units → t.ecc.scrub = some (s.scrubStepped x) ∧ s.regsBut t [Reg.eccScrubProgress]) ∧
      (x.abort = true ∨ x.done + 1 = x.units → t.ecc.scrub = none ∧ t.rd Reg.eccScrubAtoms = BitVec.ofNat 32 (x.atoms + 4) ∧
        t.bit Reg.eccScrubResult 31 = true ∧ t.bit Reg.eccScrubResult 30 = false ∧ t.fld Reg.eccScrubResult 28 26 = b2n x.abort ∧
        t.bit Reg.eccEvents 2 = true ∧ s.raised t 226) := by
  have hexec := execScrubUnit_eq (outs := outs) hx hup hnext
  by_cases h3 : x.mode = 3
  · obtain ⟨u, hu⟩ : ∃ u : State, u = { s with mem := s.mem.clearRange (s.scrubAddr x x.done) 256 } := ⟨_, rfl⟩
    have hurd : ∀ a, u.rd a = s.rd a := fun a => by rw [hu]; rfl
    rw [if_pos h3, ← hu] at hexec
    obtain ⟨n1, n2, n3, n4⟩ := scrubNext_spec (x := s.scrubStepped x) u hr
    refine ⟨_, hexec, fun a => ?_, n2, fun ha hd => (n3 ha hd).imp_right fun k a ha => (k a ha).trans (hurd a), fun h => ?_⟩
    · rw [n1, hu, Mem.get_clearRange]
      simp only [h3, true_and]
    · obtain ⟨k1, k2, k3, k4, k5, k6, k7⟩ := n4 h
      exact ⟨k1, k2, k3, k4, k5, k6, k7.of_rd fun a _ => hurd a⟩
  · rw [if_neg h3, scrubAtoms_clean hup (by simpa using hclean h3), if_pos hup] at hexec
    obtain ⟨n1, n2, n3, n4⟩ := scrubNext_spec (x := s.scrubStepped x) s hr
    exact ⟨_, hexec, fun a => by rw [n1, if_neg fun h => h3 h.1], n2, n3, n4⟩

/-- A unit whose first atom is corrected. -/
theorem scrubUnit_corrected {n : Nat} {d : List Byte} (hx : s.ecc.scrub = some x) (hup : s.coreUp = true) (hnext : x.next < s.tb.run + 2 ^ 48)
    (habort : x.abort = false) (hmore : x.done + 1 ≠ x.units) (hmode : x.mode = 1 ∨ x.mode = 2) (ho : outs = [.corrected n d]) :
    ∃ t y, exec (.scrubUnit outs) s = .next t ∧ t.ecc.scrub = some y ∧ y.done = x.done + 1 ∧
      y.corr1 = x.corr1 + (if n = 2 ∧ s.regionStrong (s.regionOf (s.scrubAddr x x.done)) = true then 0 else 1) ∧
      y.corr2 = x.corr2 + (if n = 2 ∧ s.regionStrong (s.regionOf (s.scrubAddr x x.done)) = true then 1 else 0) ∧
      t.mem = (if x.mode = 1 then s.mem.putBytes (s.scrubAddr x x.done) (slice d 0 64) else s.mem) ∧
      t.ctr (Reg.eccRegionCorr (s.regionOf (s.scrubAddr x x.done))) = (s.ctr (Reg.eccRegionCorr (s.regionOf (s.scrubAddr x x.done))) + 1) % 2 ^ 64 := by
  obtain ⟨a, ha⟩ : ∃ a, a = s.scrubAddr x x.done := ⟨_, rfl⟩
  obtain ⟨y, hy⟩ : ∃ y, y = (s.scrubStepped x).corrected a (if s.regionStrong (s.regionOf a) then n else 1) := ⟨_, rfl⟩
  obtain ⟨u, hu⟩ : ∃ u, u = if x.mode = 1 then (s.atomCorrected a).stBytes a (slice d 0 64) else s.atomCorrected a := ⟨_, rfl⟩
  obtain ⟨honly, -, -, hctr, -⟩ := atomCorrected_spec s a
  have huctr : u.ctrs = (s.atomCorrected a).ctrs := by rw [hu]; split <;> rfl
  have huboot : u.boot = s.boot := by
    rw [← honly.boot_eq (by decide), hu]; split <;> rfl
  have humem : u.mem = if x.mode = 1 then s.mem.putBytes a (slice d 0 64) else s.mem := by
    rw [← honly.mem_eq (by decide), hu]; split <;> rfl
  have huup : u.coreUp = true := by rw [← hup, State.coreUp, State.coreUp, huboot]
  have hatoms : s.scrubAtoms (s.scrubStepped x) a ((List.range 4).map fun k => outs.getD k .clean) = (u, y) := by
    have hlist : (List.range 4).map (fun k => outs.getD k .clean) = [.corrected n d, .clean, .clean, .clean] := by rw [ho]; rfl
    have hatom : s.scrubAtom (s.scrubStepped x) a (.corrected n d) = (u, y) := by rw [hu, hy, State.scrubAtom]; rfl
    rw [hlist, State.scrubAtoms, hatom]
    dsimp only
    rw [huup, if_pos rfl, scrubAtoms_clean huup (by simp)]
  have hexec := execScrubUnit_eq (outs := outs) hx hup hnext
  rw [if_neg (by omega), ← ha, hatoms, if_pos huup, scrubNext_goesOn u (by rw [hy]; exact habort) (by rw [hy]; exact hmore)] at hexec
  have hsym : (if s.regionStrong (s.regionOf a) = true then n else 1) = 2 ↔ n = 2 ∧ s.regionStrong (s.regionOf a) = true := by
    split
    · next h => simp [h]
    · next h => simp [h]
  rw [← ha]
  refine ⟨_, y, hexec, rfl, by rw [hy]; rfl, ?_, ?_, humem, ?_⟩
  · rw [hy, Scrub.corrected]
    simp only [hsym]
    rfl
  · rw [hy, Scrub.corrected]
    simp only [hsym]
    rfl
  · exact (congrArg (fun c : SMap Nat => c.get _) huctr).trans hctr

theorem scrubUnit_uncorrectable {syn : Nat} (hx : s.ecc.scrub = some x) (hcore : s.boot.core = .running) (hstop : s.boot.stop = .none)
    (hnext : x.next < s.tb.run + 2 ^ 48) (hmode : x.mode = 1 ∨ x.mode = 2) (ho : outs = [.uncorrectable syn]) :
    ∃ t, exec (.scrubUnit outs) s = .next t ∧ t.boot.stop = .fault ∧ t.boot.cause = 2 ∧ t.mem = s.mem := by
  obtain ⟨a, ha⟩ : ∃ a, a = s.scrubAddr x x.done := ⟨_, rfl⟩
  obtain ⟨u, hu⟩ : ∃ u, u = s.atomFault a syn := ⟨_, rfl⟩
  have hkept := faultStop_kept hcore hstop
  obtain ⟨h1, h2, h3, -⟩ : u.boot.stop = .fault ∧ u.boot.cause = 2 ∧ u.mem = s.mem ∧ u.dmc = s.dmc := by
    rw [hu, State.atomFault]
    exact hkept _
  have hup : s.coreUp = true := by rw [State.coreUp, hcore, hstop]; rfl
  have hdown : u.coreUp = false := by rw [State.coreUp, h1]; simp
  have hatoms : s.scrubAtoms (s.scrubStepped x) a ((List.range 4).map fun k => outs.getD k .clean) = (u, s.scrubStepped x) := by
    have hlist : (List.range 4).map (fun k => outs.getD k .clean) = [.uncorrectable syn, .clean, .clean, .clean] := by rw [ho]; rfl
    rw [hlist, State.scrubAtoms, State.scrubAtom]
    dsimp only
    rw [← hu, hdown, if_neg (by decide)]
  have hexec := execScrubUnit_eq (outs := outs) hx hup hnext
  rw [if_neg (by omega), ← ha, hatoms, if_neg (by rw [hdown]; decide)] at hexec
  exact ⟨u, hexec, h1, h2, h3⟩

theorem scrubAbort_eq {acc : Nat} {v : Word} (hreach : s.reaches acc Reg.eccScrubAbort) (h : Wbits v 0 0 = 1) :
    exec (.scrubAbort acc v) s = .next { s with ecc.scrub := s.ecc.scrub.map fun x => { x with abort := true } } := by
  rw [exec_scrubAbort, execScrubAbort, writeRow_reaches hreach (by simpa using hreach.1) (by simpa using h), writeScrubAbort, if_pos h]

end

/-- Settles O53: a store's word from what a correction counted and a fault stop leave, a scrub command from how it is accepted and how it
ends, a unit from what its atoms' outcomes leave. -/
theorem correctionAndScrubbing : Obligations.CorrectionAndScrubbing := by
  intro s
  refine ⟨fun store p u w nd h1 h2 hp hu hw => ?_, fun store p u w syn h1 h2 hp hu hw hcore hstop => arrayRewrite_failed h1 h2 hp hu hw hcore hstop,
    fun acc v m r hreach hbusy h1 h3 hm hkey hr hreval => scrubCommand_spec hreach hbusy h1 h3 hm hkey hr hreval,
    fun outs x hx hup hnext hr hclean => scrubUnit_clean hx hup hnext hr hclean,
    fun outs x n d hx hup hnext habort hmore hmode ho _ => scrubUnit_corrected hx hup hnext habort hmore hmode ho,
    fun outs x syn hx hcore hstop hnext hmode ho => scrubUnit_uncorrectable hx hcore hstop hnext hmode ho,
    fun acc v hreach h => scrubAbort_eq hreach h⟩
  have hexec := arrayRewrite_corrected (s := s) (nd := nd) h1 h2 hp hu hw
  cases hk : storeClass store with
  | none =>
    rw [hk] at hexec
    exact ⟨s, hexec, rfl, rfl, rfl, fun _ => rfl, fun k h => absurd h (by simp)⟩
  | some k =>
    rw [hk] at hexec
    dsimp only at hexec
    cases hup : s.coreUp with
    | false =>
      rw [hup, if_neg (by decide)] at hexec
      exact ⟨s, hexec, rfl, rfl, rfl, fun _ => rfl, fun _ _ h => absurd h (by decide)⟩
    | true =>
      obtain ⟨honly, hctr, hzero, hdue⟩ := arrayCorrected_spec s (storeClass_lt hk)
      rw [hup, if_pos rfl] at hexec
      refine ⟨_, hexec, honly.mem_eq (by decide), honly.tables_eq (by decide), honly.flume_eq (by decide), fun h => absurd h (by simp), fun k' h _ => ?_⟩
      cases h
      exact ⟨hctr, hzero, hdue⟩

end Sys2Proof.Machine
end

section
/-! PROOFS. Registers stored through their writable bits, and the obligation on test and diagnostics: the analogue buses and the JTAG port. -/
namespace Sys2Proof.Machine

section
variable (s : State)

theorem exec_atbSample (bus level : Nat) : exec (.atbSample bus level) s = execAtbSample bus level s := rfl
theorem exec_idcode : exec .idcode s = execIdcode s := rfl
theorem exec_samplePreload (pins preload : Nat) : exec (.samplePreload pins preload) s = execSamplePreload pins preload s := rfl
theorem exec_extest (pins drive : Nat) : exec (.extest pins drive) s = execExtest pins drive s := rfl
theorem exec_bypass (bit : Bool) : exec (.bypass bit) s = execBypass bit s := rfl
theorem exec_testLogicReset : exec .testLogicReset s = execTestLogicReset s := rfl
theorem exec_retread (load : Bool) : exec (.retread load) s = execRetread load s := rfl
theorem exec_regacc (dr : Nat) : exec (.regacc dr) s = execRegacc dr s := rfl
theorem exec_selftest (acc : Nat) (v : Word) : exec (.selftest acc v) s = execSelftest acc v s := rfl
theorem exec_selftestDone (fails : List TestFail) : exec (.selftestDone fails) s = execSelftestDone fails s := rfl
theorem exec_testLock (acc : Nat) (v : Word) : exec (.testLock acc v) s = execTestLock acc v s := rfl
theorem exec_loopbackWrite (acc group : Nat) (v : Word) : exec (.loopbackWrite acc group v) s = execLoopbackWrite acc group v s := rfl
theorem exec_prbsCtrlWrite (acc group : Nat) (v : Word) : exec (.prbsCtrlWrite acc group v) s = execPrbsCtrlWrite acc group v s := rfl
theorem exec_prbsCheckerLock (group lane : Nat) (lock : Bool) (errors : Nat) :
    exec (.prbsCheckerLock group lane lock errors) s = execPrbsCheckerLock group lane lock errors s := rfl

end

section
variable {s t : State} {acc : Nat} {v : Word}

/-! ### Writable bits -/

/-- The writable bits of a register. -/
def rwMask (a : Nat) : Option Nat := (regAt a).map fun x => x.1.rwAt x.2.1

theorem storeRw_of_mask {a m : Nat} (hm : rwMask a = some m) (v : Word) :
    s.storeRw a v = s.wr a (BitVec.ofNat 32 (Nat.lor (Nat.land (s.rd a).toNat (2 ^ 32 - 1 - m)) (Nat.land v.toNat m))) := by
  rw [rwMask] at hm
  cases hreg : regAt a with
  | none => rw [hreg] at hm; exact absurd hm (by simp)
  | some x =>
    obtain ⟨r, i, j⟩ := x
    rw [hreg] at hm
    have hrw : r.rwAt i = m := Option.some.inj hm
    rw [State.storeRw, hreg]
    dsimp only
    rw [hrw]

/-- A write stores the writable bits and keeps the others. -/
theorem rd_storeRw {a : Nat} {m : Word} (hm : rwMask a = some m.toNat) (v : Word) (b : Nat) :
    (s.storeRw a v).rd b = if b = a then (s.rd a &&& ~~~m) ||| (v &&& m) else s.rd b := by
  have hword : BitVec.ofNat 32 (Nat.lor (Nat.land (s.rd a).toNat (2 ^ 32 - 1 - m.toNat)) (Nat.land v.toNat m.toNat)) =
      (s.rd a &&& ~~~m) ||| (v &&& m) := by
    apply BitVec.eq_of_toNat_eq
    rw [BitVec.toNat_ofNat, BitVec.toNat_or, BitVec.toNat_and, BitVec.toNat_and, BitVec.toNat_not,
      Nat.sub_right_comm]
    exact Nat.mod_eq_of_lt (Nat.or_lt_two_pow (Nat.and_lt_two_pow _ (by omega)) (Nat.and_lt_two_pow _ m.isLt))
  rw [storeRw_of_mask hm, State.rd_wr, hword]

theorem storeRw_regsOnly (a : Nat) (v : Word) : s.RegsOnly (s.storeRw a v) := State.storeRw_eq ..

/-- A field reads as its bits do. -/
theorem Wbits_congr {x y : Word} {hi lo : Nat} (h : ∀ i, lo ≤ i → i ≤ hi → x.getLsbD i = y.getLsbD i) : Wbits x hi lo = Wbits y hi lo := by
  refine Nat.eq_of_testBit_eq fun i => ?_
  rw [Wbits, Wbits, bitsOf, bitsOf, Nat.testBit_mod_two_pow, Nat.testBit_mod_two_pow, Nat.testBit_div_two_pow, Nat.testBit_div_two_pow]
  by_cases hi' : i < hi + 1 - lo
  · have hx := h (i + lo) (by omega) (by omega)
    rw [BitVec.getLsbD, BitVec.getLsbD] at hx
    rw [hx]
  · simp [hi']

theorem bit_eq_getLsbD (s : State) (a i : Nat) : s.bit a i = (s.rd a).getLsbD i := by
  rw [State.bit, State.fld, Wbits, bitsOf, Nat.add_sub_cancel_left, pow_one, BitVec.getLsbD, ← bitAt_eq_testBit, bitAt]

/-- A field whose bits are all writable reads as written. -/
theorem fld_storeRw {a : Nat} {m : Word} (hm : rwMask a = some m.toNat) {hi lo : Nat} (hall : ∀ i, lo ≤ i → i ≤ hi → m.getLsbD i = true) (v : Word) :
    (s.storeRw a v).fld a hi lo = Wbits v hi lo := by
  rw [State.fld, rd_storeRw hm, if_pos rfl]
  refine Wbits_congr fun i h1 h2 => ?_
  rw [BitVec.getLsbD_or, BitVec.getLsbD_and, BitVec.getLsbD_and, BitVec.getLsbD_not, hall i h1 h2]
  simp

theorem bit_storeRw {a : Nat} {m : Word} (hm : rwMask a = some m.toNat) {i : Nat} (hi : m.getLsbD i = true) (v : Word) :
    (s.storeRw a v).bit a i = v.getLsbD i := by
  rw [bit_eq_getLsbD, rd_storeRw hm, if_pos rfl, BitVec.getLsbD_or, BitVec.getLsbD_and, BitVec.getLsbD_and, BitVec.getLsbD_not, hi]
  simp

/-! ### Reads keep the test port -/

theorem accErr_test (acc a k : Nat) (w : Bool) : (s.accErr acc a k w).test = s.test := by rw [State.accErr_eq]

theorem busRead_test (s : State) (acc a : Nat) : (s.busRead acc a).2.test = s.test := by
  have hfold : ∀ (l : List Nat) (t : State), (l.foldl (fun t b => t.setShadow acc b (some (s.cur b))) t).test = t.test := by
    intro l
    induction l with
    | nil => exact fun _ => rfl
    | cons b l ih => exact fun t => ih _
  have hclear : ∀ (t : State) b (v : Word), ((t.clearRc b v).afterRead b).test = t.test := by
    intro t b v
    have h1 : (t.clearRc b v).test = t.test := by
      rw [State.clearRc]
      split
      · rfl
      · rw [State.wr_test]
    have h2 : ∀ (u : State) cl, (u.shmNext cl).test = u.test := fun u cl => by
      rw [State.shmNext]
      split
      · rw [State.setFld_test]
      · rfl
    rw [State.afterRead]
    split
    · exact h1
    · split
      · rw [h2, h1]
      · exact h1
  rw [State.busRead]
  cases s.reach acc a with
  | silent => rfl
  | error k => exact accErr_test ..
  | ok =>
    rw [State.readReg]
    dsimp only
    rw [hclear]
    by_cases hheld : (if latchable (canonAddr a) = true then s.shadow acc (canonAddr a) else none).isSome = true
    · rw [if_pos hheld]
      exact hfold _ _
    · rw [if_neg hheld]
      exact hfold _ _

/-! ### The analogue buses and the JTAG port -/

theorem atbSample_spec {b level : Nat} (hon : s.supply.on = true) (hb : b < 2) : ∃ t, exec (.atbSample b level) s = .next t ∧
    t.bit (Reg.ssvAtbAdc b) 31 = true ∧ (atbNode (s.fld (Reg.ssvAtbSel b) 7 0) = true → t.fld (Reg.ssvAtbAdc b) 11 0 = min level 4095) ∧
    (atbNode (s.fld (Reg.ssvAtbSel b) 7 0) = false → t.fld (Reg.ssvAtbAdc b) 11 0 = 0) ∧ t = { s with regs := t.regs } ∧
    s.regsBut t [Reg.ssvAtbAdc b] := by
  obtain ⟨n, hn⟩ : ∃ n, n = if atbNode (s.fld (Reg.ssvAtbSel b) 7 0) then satNat level 4095 else 0 := ⟨_, rfl⟩
  have hexec : exec (.atbSample b level) s = .next (s.wr (Reg.ssvAtbAdc b) (BitVec.ofNat 32 (2 ^ 31 + n))) := by
    rw [exec_atbSample, execAtbSample, decide_eq_true hb, whenWf, if_pos rfl, occurs, hon, if_pos rfl, hn]
  have hsat : satNat level 4095 = min level 4095 := by rw [satNat]; split <;> omega
  have hlt : n < 4096 := by rw [hn, hsat]; split <;> omega
  have hrd : (s.wr (Reg.ssvAtbAdc b) (BitVec.ofNat 32 (2 ^ 31 + n))).fld (Reg.ssvAtbAdc b) = bitsOf (2 ^ 31 + n) := by
    funext hi lo
    rw [State.fld_wr, if_pos rfl, Wbits, BitVec.toNat_ofNat, Nat.mod_eq_of_lt (by omega)]
  refine ⟨_, hexec, ?_, fun h => ?_, fun h => ?_, rfl, fun a ha => by rw [State.rd_wr, if_neg (by simpa using ha)]⟩
  · rw [State.bit, hrd]; simp only [bitsOf, beq_iff_eq]; omega
  · rw [hrd, ← hsat]
    rw [h, if_pos rfl] at hn
    simp only [bitsOf]; omega
  · rw [hrd]
    rw [h, if_neg (by decide)] at hn
    simp only [bitsOf]; omega

theorem jtagStep {b : Bool} (hon : s.supply.on = true) (u : State) (hu : b = s.supply.on) : occurs s b u = .next u := by
  rw [occurs, hu, hon, if_pos rfl]

theorem regacc_read {dr a : Nat} (hon : s.supply.on = true) (hlock : s.fuses.jtagLock = false) (ha : a = dr / 2 ^ 34 % 2 ^ 22 * 4)
    (h56 : dr / 2 ^ 56 % 2 = 0) : ∃ t, exec (.regacc dr) s = .next t ∧ t.test.ir = 0x20 ∧ t.test.accAddr = a ∧ t.test.accDone = true ∧
      t.test.accVal = ((s.jtag 0x20 s.regaccCapture).busRead 6 a).1.toNat ∧
      t.test.dr = (if s.test.accDone then 2 ^ 56 else 0) + s.test.accAddr * 2 ^ 32 + s.test.accVal := by
  have hbit : bitAt dr 56 = false := by rw [bitAt, h56]; rfl
  have haddr : bitsOf dr 55 34 * 4 = a := by rw [ha, bitsOf]
  have htest := busRead_test (s.jtag 0x20 s.regaccCapture) 6 a
  have hexec : exec (.regacc dr) s = .next { ((s.jtag 0x20 s.regaccCapture).busRead 6 a).2 with
      test.accAddr := a, test.accVal := ((s.jtag 0x20 s.regaccCapture).busRead 6 a).1.toNat, test.accDone := true } := by
    rw [exec_regacc, execRegacc, occurs, hon, if_pos rfl, hlock, if_neg (by decide), State.regaccAccess]
    dsimp only
    rw [hbit, if_neg (by decide), haddr]
  refine ⟨_, hexec, ?_, rfl, rfl, rfl, ?_⟩
  · show ((s.jtag 0x20 s.regaccCapture).busRead 6 a).2.test.ir = _
    rw [htest]; rfl
  · show ((s.jtag 0x20 s.regaccCapture).busRead 6 a).2.test.dr = _
    rw [htest]
    show s.regaccCapture = _
    rw [State.regaccCapture]
    cases s.test.accDone <;> rfl

theorem regacc_write {dr a : Nat} (hon : s.supply.on = true) (hlock : s.fuses.jtagLock = false) (ha : a = dr / 2 ^ 34 % 2 ^ 22 * 4)
    (h56 : dr / 2 ^ 56 % 2 = 1) : ∃ t, exec (.regacc dr) s = .next t ∧ t.test.accAddr = a ∧ t.test.accDone = true ∧
      ∀ x, t.rd x = ((s.jtag 0x20 s.regaccCapture).busWrite 6 a (BitVec.ofNat 32 dr)).rd x := by
  have hbit : bitAt dr 56 = true := by rw [bitAt, h56]; rfl
  have haddr : bitsOf dr 55 34 * 4 = a := by rw [ha, bitsOf]
  have hexec : exec (.regacc dr) s = .next { (s.jtag 0x20 s.regaccCapture).busWrite 6 a (BitVec.ofNat 32 dr) with
      test.accAddr := a, test.accVal := 0, test.accDone := true } := by
    rw [exec_regacc, execRegacc, occurs, hon, if_pos rfl, hlock, if_neg (by decide), State.regaccAccess]
    dsimp only
    rw [hbit, if_pos rfl, haddr]
  exact ⟨_, hexec, rfl, rfl, fun _ => rfl⟩

end

end Sys2Proof.Machine
end

section
/-! PROOFS. The obligation on test and diagnostics: memory tests, the test lock, loopbacks and PRBS. -/
namespace Sys2Proof.Machine

section
variable {s t : State} {acc : Nat} {v : Word}

/-! ### A group's ports restarted -/

/-- One port of a group that restarts. -/
def State.portRestarted (t : State) (p : Nat) : State := (if t.portState p ≤ 1 then t else t.portFall p 1).portRefresh p

theorem groupRestart_eq (s : State) (g : Nat) : s.groupRestart g = (s.groupPorts g).foldl State.portRestarted s := by
  rw [State.groupRestart]; rfl

theorem portState_portRefresh_le {p : Nat} (h : s.portState p ≤ 1) : (s.portRefresh p).portState p ≤ 1 := by
  unfold State.portRefresh
  dsimp only
  split_ifs
  · exact h
  · rw [portState_portFall]; decide
  · rw [State.portState, get_modPort, if_pos rfl]
  · rw [portState_portFall]
  · exact h

theorem portRestarted_spec (t : State) (p : Nat) : State.Only linkParts t (t.portRestarted p) ∧
    (∀ k, k ≠ p → (t.portRestarted p).ports.get k = t.ports.get k) ∧ (t.portRestarted p).portState p ≤ 1 := by
  obtain ⟨u, hu⟩ : ∃ u, u = if t.portState p ≤ 1 then t else t.portFall p 1 := ⟨_, rfl⟩
  have hfall : State.Only linkParts t u ∧ (∀ k, k ≠ p → u.ports.get k = t.ports.get k) ∧ u.portState p ≤ 1 := by
    rw [hu]
    split
    · next h => exact ⟨.refl _ _, fun _ _ => rfl, h⟩
    · exact ⟨(only_portFall p 1 (List.Subset.refl _)).mpr (.refl _ _), fun k hk => get_portFall_other _ hk, (portState_portFall ..).le⟩
  obtain ⟨h1, h2, h3⟩ := hfall
  rw [State.portRestarted, ← hu]
  exact ⟨(only_portRefresh p (List.Subset.refl _)).mpr h1, fun k hk => (get_portRefresh_other _ hk).trans (h2 k hk), portState_portRefresh_le h3⟩

theorem foldl_portRestarted (ps : List Nat) : ∀ s : State, State.Only linkParts s (ps.foldl State.portRestarted s) ∧
    (∀ k, k ∉ ps → (ps.foldl State.portRestarted s).ports.get k = s.ports.get k) ∧
    ∀ k, k ∈ ps ∨ s.portState k ≤ 1 → (ps.foldl State.portRestarted s).portState k ≤ 1 := by
  induction ps with
  | nil => exact fun s => ⟨.refl _ _, fun _ _ => rfl, fun k h => h.resolve_left (by simp)⟩
  | cons p ps ih =>
    intro s
    obtain ⟨h1, h2, h3⟩ := portRestarted_spec s p
    obtain ⟨k1, k2, k3⟩ := ih (s.portRestarted p)
    rw [List.foldl_cons]
    refine ⟨h1.trans k1, fun k hk => ?_, fun k hk => k3 k ?_⟩
    · rw [List.mem_cons, not_or] at hk
      rw [k2 k hk.2, h2 k hk.1]
    · by_cases hkp : k = p
      · exact .inr (hkp ▸ h3)
      · rcases hk with hk | hk
        · exact .inl ((List.mem_cons.mp hk).resolve_left hkp)
        · exact .inr (by rw [State.portState, h2 k hkp]; exact hk)

theorem groupRestart_spec (s : State) {g : Nat} (hg : g < 20) : State.Only linkParts s (s.groupRestart g) ∧
    (∀ p, groupOf p ≠ g → (s.groupRestart g).portState p = s.portState p) ∧
    ∀ p ∈ s.groupPorts g, (s.groupRestart g).portState p ≤ 1 := by
  obtain ⟨h1, h2, h3⟩ := foldl_portRestarted (s.groupPorts g) s
  rw [groupRestart_eq]
  exact ⟨h1, fun p hp => congrArg Port.state (h2 p fun hm => hp (groupOf_of_mem hg hm)), fun p hp => h3 p (.inl hp)⟩

/-- The ports of a group are named by its PG.CTRL alone. -/
theorem groupPorts_of_rd {g : Nat} (h : t.rd (Reg.pgCtrl g) = s.rd (Reg.pgCtrl g)) : t.groupPorts g = s.groupPorts g := by
  rw [State.groupPorts, State.groupPorts, State.cageMode, State.cageMode, State.fld_of_rd h]

/-! ### Loopbacks and PRBS -/

theorem rwMask_pgLoopback {g : Nat} (hg : g < 20) : rwMask (Reg.pgLoopback g) = some (0x7#32).toNat := by
  revert g; decide +kernel

theorem rwMask_pgPrbsCtrl {g : Nat} (hg : g < 20) : rwMask (Reg.pgPrbsCtrl g) = some (0x8000FF03#32).toNat := by
  revert g; decide +kernel

theorem loopbackWrite_spec {g : Nat} (hg : g < 20) (hreach : s.reaches acc (Reg.pgLoopback g)) : ∃ t, exec (.loopbackWrite acc g v) s = .next t ∧
    t.fld (Reg.pgLoopback g) 2 0 = Wbits v 2 0 ∧ (∀ p ∈ s.groupPorts g, t.portState p ≤ 1) ∧
    (∀ p, groupOf p ≠ g → t.portState p = s.portState p) ∧ t.mem = s.mem ∧ t.boot = s.boot := by
  obtain ⟨u, hu⟩ : ∃ u, u = s.storeRw (Reg.pgLoopback g) v := ⟨_, rfl⟩
  obtain ⟨h1, h2, h3⟩ := groupRestart_spec u hg
  have hexec : exec (.loopbackWrite acc g v) s = .next (u.groupRestart g) := by
    rw [exec_loopbackWrite, execLoopbackWrite, writeRow_reaches hreach (by simp [hreach.1, hg]) rfl, writeLoopback, hu]
  have hports : u.groupPorts g = s.groupPorts g := groupPorts_of_rd (by
    rw [hu, rd_storeRw (rwMask_pgLoopback hg), if_neg (by simp only [Reg.pgCtrl, Reg.pgLoopback]; omega)])
  refine ⟨_, hexec, ?_, hports ▸ h3, fun p hp => ?_, ?_, ?_⟩
  · rw [h1.fld (by rw [Reg.pgLoopback]; omega) (by interval_cases g <;> decide), hu]
    exact fld_storeRw (rwMask_pgLoopback hg) (by decide) v
  · rw [h2 p hp, State.portState, hu, State.storeRw_ports]; rfl
  · rw [h1.mem_eq (by decide), hu, State.storeRw_mem]
  · rw [h1.boot_eq (by decide), hu, State.storeRw_boot]

theorem prbsCtrlWrite_spec {g : Nat} (hg : g < 20) (hreach : s.reaches acc (Reg.pgPrbsCtrl g)) : ∃ t, exec (.prbsCtrlWrite acc g v) s = .next t ∧
    t.bit (Reg.pgPrbsCtrl g) 31 = v.getLsbD 31 ∧ t.fld (Reg.pgPrbsCtrl g) 23 16 = 0 ∧
    (v.getLsbD 31 = true → ∀ p ∈ s.groupPorts g, t.portState p ≤ 1) ∧ (v.getLsbD 31 = false → t.ports = s.ports) ∧
    t.mem = s.mem ∧ t.boot = s.boot := by
  obtain ⟨u, hu⟩ : ∃ u, u = (s.storeRw (Reg.pgPrbsCtrl g) v).setFld (Reg.pgPrbsCtrl g) 23 16 0 := ⟨_, rfl⟩
  have hexec : exec (.prbsCtrlWrite acc g v) s = .next (if Wbits v 31 31 = 1 then u.groupRestart g else u) := by
    rw [exec_prbsCtrlWrite, execPrbsCtrlWrite, writeRow_reaches hreach (by simp [hreach.1, hg]) rfl, writePrbsCtrl, hu]
  have hen : Wbits v 31 31 = 1 ↔ v.getLsbD 31 = true := by
    rw [Wbits, bitsOf, Nat.add_sub_cancel_left, pow_one, BitVec.getLsbD, ← bitAt_eq_testBit, bitAt, beq_iff_eq]
  have h31 : u.bit (Reg.pgPrbsCtrl g) 31 = v.getLsbD 31 := by
    rw [hu, bit_setFld_apart _ (by decide) (by decide) (by decide), bit_storeRw (rwMask_pgPrbsCtrl hg) (by decide)]
  have h23 : u.fld (Reg.pgPrbsCtrl g) 23 16 = 0 := by
    rw [hu, State.fld_setFld_same _ _ _ _ _ (by decide) (by decide), Nat.zero_mod]
  have hports : u.groupPorts g = s.groupPorts g := groupPorts_of_rd (by
    rw [hu, State.rd_setFld_other _ _ _ _ _ _ (by simp only [Reg.pgCtrl, Reg.pgPrbsCtrl]; omega), rd_storeRw (rwMask_pgPrbsCtrl hg),
      if_neg (by simp only [Reg.pgCtrl, Reg.pgPrbsCtrl]; omega)])
  have huports : u.ports = s.ports := by rw [hu, State.setFld_ports, State.storeRw_ports]
  have humem : u.mem = s.mem := by rw [hu, State.setFld_mem, State.storeRw_mem]
  have huboot : u.boot = s.boot := by rw [hu, State.setFld_boot, State.storeRw_boot]
  cases hv : v.getLsbD 31 with
  | true =>
    obtain ⟨h1, -, h3⟩ := groupRestart_spec u hg
    have ha : Reg.pgPrbsCtrl g < 0x700000 := by rw [Reg.pgPrbsCtrl]; omega
    have hblock : Part.block (blockOf (Reg.pgPrbsCtrl g)) ∉ linkParts := by interval_cases g <;> decide
    rw [if_pos (hen.mpr hv)] at hexec
    exact ⟨_, hexec, (h1.bit ha hblock 31).trans (h31.trans hv), (h1.fld ha hblock 23 16).trans h23, fun _ => hports ▸ h3, fun h => absurd h (by decide),
      (h1.mem_eq (by decide)).trans humem, (h1.boot_eq (by decide)).trans huboot⟩
  | false =>
    rw [if_neg (by rw [hen, hv]; decide)] at hexec
    exact ⟨_, hexec, h31.trans hv, h23, fun h => absurd h (by decide), fun _ => huports, humem, huboot⟩

theorem prbsCheckerLock_spec {g lane n : Nat} {lock : Bool} (hg : g < 20) (hl : lane < 8) (hup : s.coreUp = true)
    (hgate : s.bit Reg.clkPgGate g = false) (h31 : s.bit (Reg.pgPrbsCtrl g) 31 = true) (hlane : s.bit (Reg.pgPrbsCtrl g) (8 + lane) = true) :
    ∃ t, exec (.prbsCheckerLock g lane lock n) s = .next t ∧ t.bit (Reg.pgPrbsCtrl g) (16 + lane) = lock ∧
      (s.bit (Reg.pgPrbsCtrl g) (16 + lane) = true ∨ lock = true →
        (t.rd (Reg.pgPrbsErr g lane)).toNat = min ((s.rd (Reg.pgPrbsErr g lane)).toNat + n) (2 ^ 32 - 1)) ∧
      t = { s with regs := t.regs } ∧ s.regsBut t [Reg.pgPrbsCtrl g, Reg.pgPrbsErr g lane] := by
  obtain ⟨u, hu⟩ : ∃ u, u = if s.bit (Reg.pgPrbsCtrl g) (16 + lane) || lock then s.bumpFld (Reg.pgPrbsErr g lane) 31 0 n else s := ⟨_, rfl⟩
  have hexec : exec (.prbsCheckerLock g lane lock n) s = .next (u.setBit (Reg.pgPrbsCtrl g) (16 + lane) lock) := by
    rw [exec_prbsCheckerLock, execPrbsCheckerLock, decide_eq_true hg, decide_eq_true hl, whenWf, if_pos (by decide), occurs, hup, hgate, h31, hlane,
      if_pos (by decide), hu]
  have hne : Reg.pgPrbsErr g lane ≠ Reg.pgPrbsCtrl g := by rw [Reg.pgPrbsErr, Reg.pgPrbsCtrl]; omega
  have hregs : s.RegsOnly u := by
    rw [hu]
    split
    · exact State.RegsOnly.refl.setFld
    · exact State.RegsOnly.refl
  refine ⟨_, hexec, State.bit_setBit_same _ _ _ _ (by omega), fun h => ?_, hregs.setBit, fun a ha => ?_⟩
  · rw [State.rd_setBit_other _ _ _ _ _ hne, hu, if_pos (by simpa using h), State.bumpFld, State.setFld, State.rd_wr, if_pos rfl, Wput_word,
      State.fld, Wbits_word, satNat, BitVec.toNat_ofNat, Nat.mod_eq_of_lt (by split <;> omega)]
    split <;> omega
  · simp only [List.mem_cons, List.not_mem_nil, or_false, not_or] at ha
    rw [State.rd_setBit_other _ _ _ _ _ ha.1, hu]
    split
    · exact State.rd_setFld_other _ _ _ _ _ _ ha.2
    · rfl

/-! ### Memory tests and the lock -/

theorem selftest_eq (hreach : s.reaches acc Reg.glbSelftestCmd) : exec (.selftest acc v) s = .next (writeSelftest s v) := by
  rw [exec_selftest, execSelftest, writeRow_reaches hreach (by simpa using hreach.1) rfl]

theorem selftest_busy (hreach : s.reaches acc Reg.glbSelftestCmd) (hbusy : s.bit Reg.glbSelftestResult 30 = true) :
    ∃ t, exec (.selftest acc v) s = .next t ∧ t.bit Reg.glbSelftestResult 29 = true ∧ t = { s with regs := t.regs } ∧
      s.regsBut t [Reg.glbSelftestResult] := by
  refine ⟨s.setBit Reg.glbSelftestResult 29 true, ?_, State.bit_setBit_same _ _ _ _ (by decide), State.RegsOnly.refl.setBit,
    fun a ha => State.rd_setBit_other _ _ _ _ _ (by simpa using ha)⟩
  rw [selftest_eq hreach, writeSelftest, State.cmdBusy, hbusy, if_pos rfl, State.cmdReject]

theorem selftest_starts (hreach : s.reaches acc Reg.glbSelftestCmd) (hbusy : s.bit Reg.glbSelftestResult 30 = false)
    (hservice : s.bit Reg.bootStatus 24 = true) (hv : Wbits v 3 0 < 10) :
    ∃ t, exec (.selftest acc v) s = .next t ∧ t.fld Reg.glbSelftestResult 31 29 = 2 ∧
      t = { s with regs := t.regs, test.selftest := some (Wbits v 3 0) } ∧ s.regsBut t [Reg.glbSelftestResult] := by
  obtain ⟨u, hu⟩ : ∃ u, u = s.cmdAccept Reg.glbSelftestResult := ⟨_, rfl⟩
  have hregs : s.RegsOnly u := hu ▸ State.RegsOnly.refl.accept
  have hfld : u.fld Reg.glbSelftestResult 31 29 = 2 := by
    rw [hu, State.cmdAccept, State.fld_setFld_same _ _ _ _ _ (by decide) (by decide)]
    rfl
  have hrd : s.regsBut u [Reg.glbSelftestResult] := fun a ha => by
    rw [hu, State.cmdAccept, State.rd_setFld_other _ _ _ _ _ _ (by simpa using ha)]
  refine ⟨{ u with test.selftest := some (Wbits v 3 0) }, ?_, hfld, by rw [hregs], hrd⟩
  have hcode : (if (!s.bit Reg.bootStatus 24) = true then 2 else if 10 ≤ Wbits v 3 0 then 3 else 0) = 0 := by
    rw [hservice, Bool.not_true, if_neg (by decide), if_neg (by omega)]
  rw [selftest_eq hreach, writeSelftest, State.cmdBusy, hbusy, if_neg (by decide)]
  dsimp only
  rw [hcode, if_pos rfl, hu]

theorem selftest_refused {c : Nat} (hreach : s.reaches acc Reg.glbSelftestCmd) (hbusy : s.bit Reg.glbSelftestResult 30 = false)
    (hc : (s.bit Reg.bootStatus 24 = false ∧ c = 2) ∨ (s.bit Reg.bootStatus 24 = true ∧ 10 ≤ Wbits v 3 0 ∧ c = 3)) :
    ∃ t, exec (.selftest acc v) s = .next t ∧ t.rd Reg.glbSelftestResult = resultWord (c * 2 ^ 26 + Wbits v 3 0 * 2 ^ 22) ∧
      t = { s with regs := t.regs } ∧ s.regsBut t [Reg.glbSelftestResult, Reg.glbSelftestAddrLo, Reg.glbSelftestAddrHi] := by
  have hv : Wbits v 3 0 < 16 := Wbits_lt v 3 0
  have hcode : (if (!s.bit Reg.bootStatus 24) = true then 2 else if 10 ≤ Wbits v 3 0 then 3 else 0) = c := by
    rcases hc with ⟨h, rfl⟩ | ⟨h, h10, rfl⟩
    · rw [h]; rfl
    · rw [h, Bool.not_true, if_neg (by decide), if_pos h10]
  have hpos : c ≠ 0 ∧ c < 4 := by rcases hc with ⟨-, rfl⟩ | ⟨-, -, rfl⟩ <;> decide
  refine ⟨((s.cmdAccept Reg.glbSelftestResult).cmdDone Reg.glbSelftestResult (c * 2 ^ 26 + Wbits v 3 0 * 2 ^ 22)).setPair Reg.glbSelftestAddrLo
    Reg.glbSelftestAddrHi 0, ?_, ?_, State.RegsOnly.refl.accept.done.wr.wr, fun a ha => ?_⟩
  · rw [selftest_eq hreach, writeSelftest, State.cmdBusy, hbusy, if_neg (by decide)]
    dsimp only
    rw [hcode, if_neg hpos.1]
  · rw [State.setPair, State.rd_wr, if_neg (by decide), State.rd_wr, if_neg (by decide), rd_cmdDone fld_cmdAccept (by omega)]
  · simp only [List.mem_cons, List.not_mem_nil, or_false, not_or] at ha
    obtain ⟨h1, h2, h3⟩ := ha
    rw [State.setPair, State.rd_wr, if_neg h3, State.rd_wr, if_neg h2, State.cmdDone, State.rd_wr, if_neg h1, State.cmdAccept,
      State.rd_setFld_other _ _ _ _ _ _ h1]

/-- What undefining a target's contents leaves. -/
def State.TestKept (s t : State) : Prop := s.freeCtr ≤ t.freeCtr ∧ t.regs = s.regs ∧ t.flash = s.flash ∧ t.aon = s.aon

theorem testKept_scramble (s : State) (k : Nat) : s.TestKept (s.scramble k) := by
  unfold State.scramble
  dsimp only
  split <;> exact ⟨Nat.le_add_right _ _, rfl, rfl, rfl⟩

theorem testKept_foldl (l : List Nat) : ∀ s : State, s.TestKept (l.foldl State.scramble s) := by
  induction l with
  | nil => exact fun s => ⟨le_rfl, rfl, rfl, rfl⟩
  | cons k l ih =>
    intro s
    obtain ⟨a1, a2, a3, a4⟩ := testKept_scramble s k
    obtain ⟨b1, b2, b3, b4⟩ := ih (s.scramble k)
    exact ⟨a1.trans b1, b2.trans a2, b3.trans a3, b4.trans a4⟩

theorem selftestDone_eq {tgt : Nat} {fails : List TestFail} (hup : s.coreUp = true) (htest : s.test.selftest = some tgt) :
    exec (.selftestDone fails) s = .next (((if tgt = 9 then List.range 9 else [tgt]).foldl State.scramble s).selftestResult tgt fails) := by
  rw [exec_selftestDone, execSelftestDone, htest]
  dsimp only
  rw [occurs, hup, if_pos rfl]

/-- What the result of a memory test shows. -/
theorem selftestResult_spec (s : State) {tgt : Nat} {fails : List TestFail} (htgt : tgt < 10) (h29 : s.fld Reg.glbSelftestResult 29 29 = 0)
    (hfails : ∀ f ∈ fails, f.target < 10 ∧ f.addr < 2 ^ 64) (hlen : fails.length < 2 ^ 20) :
    (fails = [] → (s.selftestResult tgt fails).rd Reg.glbSelftestResult = resultWord (tgt * 2 ^ 22)) ∧
    (∀ f r, fails = f :: r → (s.selftestResult tgt fails).rd Reg.glbSelftestResult = resultWord (2 ^ 26 + f.target * 2 ^ 22 + fails.length) ∧
      ((s.selftestResult tgt fails).rd Reg.glbSelftestAddrLo).toNat + ((s.selftestResult tgt fails).rd Reg.glbSelftestAddrHi).toNat * 2 ^ 32 = f.addr) ∧
    s.regsBut (s.selftestResult tgt fails) [Reg.glbSelftestResult, Reg.glbSelftestAddrLo, Reg.glbSelftestAddrHi] := by
  obtain ⟨f0, hf0⟩ : ∃ f, f = fails.headD { target := tgt, addr := 0 } := ⟨_, rfl⟩
  obtain ⟨w, hw⟩ : ∃ w, w = (if fails = [] then 0 else 1) * 2 ^ 26 + f0.target % 16 * 2 ^ 22 + satNat fails.length (2 ^ 20 - 1) := ⟨_, rfl⟩
  obtain ⟨d, hd⟩ : ∃ d, d = s.cmdDone Reg.glbSelftestResult w := ⟨_, rfl⟩
  have hrd : ∀ a, (s.selftestResult tgt fails).rd a = (d.setPair Reg.glbSelftestAddrLo Reg.glbSelftestAddrHi f0.addr).rd a := fun a => by
    rw [State.selftestResult, ← hf0, ← hw, ← hd]
    rfl
  have hsat : satNat fails.length (2 ^ 20 - 1) = fails.length := by rw [satNat, if_pos (by omega)]
  have hwlt : w < 2 ^ 29 := by rw [hw, hsat]; split <;> omega
  have hres : (s.selftestResult tgt fails).rd Reg.glbSelftestResult = resultWord w := by
    rw [hrd, State.setPair, State.rd_wr, if_neg (by decide), State.rd_wr, if_neg (by decide), hd, rd_cmdDone h29 hwlt]
  refine ⟨fun h => ?_, fun f r h => ⟨?_, ?_⟩, fun a ha => ?_⟩
  · rw [hres, hw, hsat, hf0, h]
    dsimp only [List.headD_nil, List.length_nil]
    rw [if_pos rfl, Nat.mod_eq_of_lt (by omega), Nat.zero_mul, Nat.zero_add, Nat.add_zero]
  · have ht : f.target < 10 := (hfails f (by rw [h]; exact List.mem_cons_self)).1
    rw [hres, hw, hsat, hf0, if_neg (by rw [h]; simp), h, List.headD_cons, Nat.mod_eq_of_lt (by omega), Nat.one_mul]
  · have ha : f.addr < 2 ^ 64 := (hfails f (by rw [h]; exact List.mem_cons_self)).2
    have hf : f0 = f := by rw [hf0, h]; rfl
    rw [hrd, hrd, State.setPair, State.rd_wr, if_neg (by decide), State.rd_wr, if_pos rfl, State.rd_wr, if_pos rfl, BitVec.toNat_ofNat, BitVec.toNat_ofNat, hf]
    omega
  · simp only [List.mem_cons, List.not_mem_nil, or_false, not_or] at ha
    obtain ⟨h1, h2, h3⟩ := ha
    rw [hrd, State.setPair, State.rd_wr, if_neg h3, State.rd_wr, if_neg h2, hd, State.cmdDone, State.rd_wr, if_neg h1]

theorem selftestResult_kept (s : State) (tgt : Nat) (fails : List TestFail) : (s.selftestResult tgt fails).test.selftest = none ∧
    (s.selftestResult tgt fails).freeCtr = s.freeCtr ∧ (s.selftestResult tgt fails).flash = s.flash ∧ (s.selftestResult tgt fails).aon = s.aon ∧
    (s.selftestResult tgt fails).mem = s.mem ∧ (s.selftestResult tgt fails).flume = s.flume ∧ (s.selftestResult tgt fails).tables = s.tables := by
  obtain ⟨f, hf⟩ : ∃ f, f = fails.headD { target := tgt, addr := 0 } := ⟨_, rfl⟩
  obtain ⟨u, hu⟩ : ∃ u, u = (s.cmdDone Reg.glbSelftestResult ((if fails = [] then 0 else 1) * 2 ^ 26 + f.target % 16 * 2 ^ 22 +
    satNat fails.length (2 ^ 20 - 1))).setPair Reg.glbSelftestAddrLo Reg.glbSelftestAddrHi f.addr := ⟨_, rfl⟩
  have heq : s.selftestResult tgt fails = { u with test.selftest := none } := by rw [hu, hf, State.selftestResult]
  have hregs : s.RegsOnly u := hu ▸ State.RegsOnly.refl.done.wr.wr
  rw [heq]
  dsimp only
  rw [hregs]
  exact ⟨rfl, rfl, rfl, rfl, rfl, rfl, rfl⟩

theorem selftestDone_spec {tgt : Nat} {fails : List TestFail} (hup : s.coreUp = true) (htest : s.test.selftest = some tgt) (htgt : tgt < 10)
    (h29 : s.bit Reg.glbSelftestResult 29 = false) (hfails : ∀ f ∈ fails, f.target < 10 ∧ f.addr < 2 ^ 64) (hlen : fails.length < 2 ^ 20) :
    ∃ t, exec (.selftestDone fails) s = .next t ∧ t.test.selftest = none ∧ s.freeCtr ≤ t.freeCtr ∧
      (fails = [] → t.rd Reg.glbSelftestResult = resultWord (tgt * 2 ^ 22)) ∧
      (∀ f r, fails = f :: r → t.rd Reg.glbSelftestResult = resultWord (2 ^ 26 + f.target * 2 ^ 22 + fails.length) ∧
        (t.rd Reg.glbSelftestAddrLo).toNat + (t.rd Reg.glbSelftestAddrHi).toNat * 2 ^ 32 = f.addr) ∧
      s.regsBut t [Reg.glbSelftestResult, Reg.glbSelftestAddrLo, Reg.glbSelftestAddrHi] ∧ t.flash = s.flash ∧ t.aon = s.aon ∧
      (tgt = 0 ∨ tgt = 1 → t.mem = s.mem ∧ t.flume = s.flume ∧ t.tables = s.tables) := by
  obtain ⟨u, hu⟩ : ∃ u, u = (if tgt = 9 then List.range 9 else [tgt]).foldl State.scramble s := ⟨_, rfl⟩
  obtain ⟨k1, k2, k3, k4⟩ : s.TestKept u := hu ▸ testKept_foldl _ s
  have hurd : ∀ a, u.rd a = s.rd a := State.rd_of_regs k2
  have hu29 : u.fld Reg.glbSelftestResult 29 29 = 0 := by
    have h : s.fld Reg.glbSelftestResult 29 29 < 2 := Nat.mod_lt _ (by decide)
    rw [State.bit, beq_eq_false_iff_ne] at h29
    rw [State.fld_of_rd (hurd _)]
    omega
  obtain ⟨r1, r2, r3⟩ := selftestResult_spec u htgt hu29 hfails hlen
  obtain ⟨f1, f2, f3, f4, f5, f6, f7⟩ := selftestResult_kept u tgt fails
  refine ⟨u.selftestResult tgt fails, by rw [selftestDone_eq hup htest, hu], f1, f2.symm ▸ k1, r1, r2, fun a ha => (r3 a ha).trans (hurd a), f3.trans k3, f4.trans k4, fun h => ?_⟩
  have hkept : u = { s with freeCtr := s.freeCtr + 2 ^ 40 } := by
    rw [hu, if_neg (by omega)]
    rcases h with rfl | rfl <;> rfl
  rw [f5, f6, f7, hkept]
  exact ⟨rfl, rfl, rfl⟩

theorem testLock_eq (hreach : s.reaches acc Reg.glbTestLock) : exec (.testLock acc v) s = .next
    (if Wbits v 31 16 = 0xA5C3 ∧ v.getLsbD 0 = true ∧ s.bit Reg.bootStatus 24 = true then { s with fuses.jtagLock := true } else s) := by
  rw [exec_testLock, execTestLock, writeRow_reaches hreach (by simpa using hreach.1) rfl, writeTestLock]
  congr 1
  refine if_congr ?_ rfl rfl
  rw [Bool.and_eq_true, Bool.and_eq_true, decide_eq_true_eq, bitAt_eq_testBit, and_assoc, BitVec.getLsbD]

end

/-- Settles O41: the JTAG instructions from what each loads, the memory tests from what a result shows and what undefining a target keeps,
loopbacks and PRBS from what restarting a group's ports leaves. -/
theorem testAndDiagnostics : Obligations.TestAndDiagnostics := by
  intro s hon ir
  have hocc : ∀ u : State, occurs s s.supply.on u = .next u := fun u => by rw [occurs, hon, if_pos rfl]
  refine ⟨fun b level hb => atbSample_spec hon hb, ⟨_, hocc _, ⟨rfl, rfl, rfl⟩, rfl, rfl⟩, fun pins pre => ⟨_, hocc _, ⟨rfl, rfl, rfl⟩, rfl, rfl, rfl⟩,
    fun pins drive => ⟨fun h => ?_, fun h => ?_⟩, fun b => ⟨_, hocc _, ⟨rfl, rfl, rfl⟩, rfl, rfl⟩, ⟨_, hocc _, rfl, rfl, rfl, rfl⟩,
    fun hlock => ⟨?_, fun hir => ?_⟩, fun hlock l dr => ⟨?_, ?_⟩, fun dr a hlock ha => ⟨regacc_read hon hlock ha, regacc_write hon hlock ha⟩,
    fun acc v hreach => ⟨selftest_busy hreach, selftest_starts hreach, fun c => selftest_refused hreach⟩,
    fun tgt fails hup htest htgt h29 hfails hlen => selftestDone_spec hup htest htgt h29 hfails hlen, fun acc v hreach => testLock_eq hreach,
    fun acc g v hg hreach => loopbackWrite_spec hg hreach, fun acc g v hg hreach => prbsCtrlWrite_spec hg hreach,
    fun g lane lock n hg hl hup hgate h31 hlane => prbsCheckerLock_spec hg hl hup hgate h31 hlane⟩
  · exact ⟨{ s.jtag 0x03 pins with test.boundary := drive, test.driving := true }, by rw [exec_extest, execExtest, hocc, h, if_pos rfl],
      ⟨rfl, rfl, rfl⟩, rfl, rfl, rfl⟩
  · exact ⟨s.jtag 0x03 0, by rw [exec_extest, execExtest, hocc, h, if_neg (by decide)], ⟨rfl, rfl, rfl⟩, rfl, rfl⟩
  · exact ⟨{ s.jtag 0x21 0 with test.retOfs := 0 }, by rw [exec_retread, execRetread, hocc, hlock, if_neg (by decide), if_pos rfl], rfl, rfl, rfl⟩
  · exact ⟨{ s with test.dr := s.ret s.test.retOfs 4, test.retOfs := (s.test.retOfs + 4) % 65536 },
      by rw [exec_retread, execRetread, hocc, hlock, if_neg (by decide), if_neg (by decide), if_pos hir], rfl, rfl⟩
  · exact ⟨s.jtag 0x21 0, by rw [exec_retread, execRetread, hocc, hlock, if_pos rfl], ⟨rfl, rfl, rfl⟩, rfl⟩
  · exact ⟨s.jtag 0x20 0, by rw [exec_regacc, execRegacc, hocc, hlock, if_pos rfl], ⟨rfl, rfl, rfl⟩, rfl⟩

end Sys2Proof.Machine
end

section
/-! PROOFS. What an accessor reaches: register reads and writes with the core running. -/
namespace Sys2Proof.Machine

section
variable (s : State)

theorem exec_registerWrite (acc addr : Nat) (v : Word) : exec (.registerWrite acc addr v) s = execRegisterWrite acc addr v s := rfl
theorem exec_registerRead (acc addr : Nat) : exec (.registerRead acc addr) s = execRegisterRead acc addr s := rfl
theorem exec_ceRunWrite (acc k : Nat) (v : Word) : exec (.ceRunWrite acc k v) s = execCeRunWrite acc k v s := rfl
theorem exec_psDataWrite (acc cluster : Nat) (v : Word) : exec (.psDataWrite acc cluster v) s = execPsDataWrite acc cluster v s := rfl
theorem exec_shmDataAccess (acc cluster : Nat) (store : Option Word) :
    exec (.shmDataAccess acc cluster store) s = execShmDataAccess acc cluster store s := rfl

end

section
variable {s t : State} {acc a : Nat} {v : Word}

/-! ### What an address reaches -/

/-- The kind of the register at an address. -/
def regKind (a : Nat) : Option RegKind := (regAt a).map fun x => x.1.kind

/-- An address of a register that no gated port group holds back and that stands for itself. -/
def openAddr (a : Nat) : Prop := a % 4 = 0 ∧ a < 0x1000000 ∧ canonAddr a = a ∧ (regAt a).isSome = true ∧ (a < 0x100000 ∨ 0x150000 ≤ a)

theorem reach_open (hup : s.coreUp = true) (ha : openAddr a) : s.reach acc a = .ok := by
  obtain ⟨-, -, hcanon, hsome, hport⟩ := ha
  have hnone : (regAt a).isNone = false := by
    cases h : regAt a with
    | none => rw [h] at hsome; exact absurd hsome (by decide)
    | some _ => rfl
  rw [State.reach, hup, Bool.not_true, if_neg (by decide), hcanon, hnone, if_neg (by decide), if_neg (by omega)]

theorem reaches_open (hacc : acc < 7) (hup : s.coreUp = true) (hheld : s.busHeld acc = false) (ha : openAddr a) : s.reaches acc a :=
  ⟨hacc, hheld, reach_open hup ha⟩

theorem access_wf (hacc : acc < 7) (h4 : a % 4 = 0) (ha : a < 0x1000000) : (decide (acc < 7) && a % 4 == 0 && decide (a < 0x1000000)) = true := by
  simp [hacc, h4, ha]

theorem registerWrite_eq (hacc : acc < 7) (hheld : s.busHeld acc = false) (h4 : a % 4 = 0) (ha : a < 0x1000000) :
    exec (.registerWrite acc a v) s = .next (s.busWrite acc a v) := by
  rw [exec_registerWrite, execRegisterWrite, access_wf hacc h4 ha, whenWf, if_pos rfl, hheld, if_neg (by decide)]

theorem registerRead_eq (hacc : acc < 7) (hheld : s.busHeld acc = false) (h4 : a % 4 = 0) (ha : a < 0x1000000) :
    exec (.registerRead acc a) s = .next (s.readInto acc a) := by
  rw [exec_registerRead, execRegisterRead, access_wf hacc h4 ha, whenWf, if_pos rfl, hheld, if_neg (by decide)]

/-! ### Plain registers -/

theorem limitWritten_eq (s : State) (h : a < Reg.dnAlarm 0 ∨ Reg.eccArrayAlarm 7 < a) : limitWritten s a = s := by
  simp only [Reg.dnAlarm, Reg.eccArrayAlarm] at h
  rw [limitWritten, if_neg (by simp only [Reg.dnAlarm]; omega), if_neg (by simp only [Reg.eccRegionAlarm]; omega),
    if_neg (by simp only [Reg.eccArrayAlarm]; omega)]

theorem plainWrite_eq (hkind : regKind a = some .plain) : s.plainWrite acc a v = s.storeRw a v := by
  rw [regKind] at hkind
  cases hreg : regAt a with
  | none => rw [hreg] at hkind; exact absurd hkind (by simp)
  | some x =>
    obtain ⟨r, i⟩ := x
    rw [hreg] at hkind
    have hk : r.kind = .plain := Option.some.inj hkind
    rw [State.plainWrite, hreg]
    dsimp only
    rw [hk]

/-- The registers that these writes store plainly: none has an action of its own. -/
theorem writeReg_plain (s : State) (acc : Nat) (v : Word) (hkind : regKind a = some .plain)
    (ha : a ∈ [Reg.bootNext, Reg.tbJump, Reg.tbFreq, Reg.glbIdent, Reg.clkPllStatus] ∨ (0x700000 ≤ a ∧ a < 0x700C20) ∨
      (0x740100 ≤ a ∧ a < 0x780000) ∨ (0x300000 ≤ a ∧ a < 0x400000 ∧ a % 0x10000 = 0x100)) : s.writeReg acc a v = s.storeRw a v := by
  obtain ⟨o, ho⟩ : ∃ o, o = if a < 0x100000 then writeBoard s a v
    else if a < 0x180000 then writePorts s a v
    else if a < 0x280000 then writeTables acc s a v
    else if a < 0x480000 then writeEngines s a v
    else if a < 0x580000 then writeSwitch acc s a v
    else if a < 0x700000 then writeTimeMem s a v
    else writeCtrl s a v := ⟨_, rfl⟩
  have hboard : a ∈ [Reg.bootNext, Reg.glbIdent, Reg.clkPllStatus] → a < 0x100000 ∧ writeBoard s a v = none := by
    intro h
    simp only [List.mem_cons, List.not_mem_nil, or_false] at h
    rcases h with rfl | rfl | rfl <;> exact ⟨by decide, rfl⟩
  have htime : a ∈ [Reg.tbJump, Reg.tbFreq] → 0x580000 ≤ a ∧ a < 0x600000 ∧ writeTimeMem s a v = none := by
    intro h
    simp only [List.mem_cons, List.not_mem_nil, or_false] at h
    have hdma : chDescLocked s Reg.tbJump = false ∧ chDescLocked s Reg.tbFreq = false := ⟨rfl, rfl⟩
    rcases h with rfl | rfl
    · refine ⟨by decide, by decide, ?_⟩
      rw [writeTimeMem, hdma.1]; rfl
    · refine ⟨by decide, by decide, ?_⟩
      rw [writeTimeMem, hdma.2]; rfl
  have hctrl : (0x700000 ≤ a ∧ a < 0x700C20) ∨ (0x740100 ≤ a ∧ a < 0x780000) → writeCtrl s a v = none := by
    intro h
    rw [writeCtrl, if_neg (by unfold Reg.evcSet; omega), if_neg (by unfold Reg.pmcCmd; omega), if_neg (by unfold Reg.pmcBwCtrl; omega), if_neg (by omega)]
  have hengines : 0x300000 ≤ a ∧ a < 0x400000 ∧ a % 0x10000 = 0x100 → writeEngines s a v = none := by
    intro h
    rw [writeEngines, if_neg (by simp only [Reg.dspClAlarm]; omega), if_neg (by simp only [Reg.flmCeCtrl]; omega), if_pos ⟨h.1, h.2.1⟩, h.2.2]
    rfl
  have hnone : o = none ∧ (a < Reg.dnAlarm 0 ∨ Reg.eccArrayAlarm 7 < a) := by
    simp only [List.mem_cons, List.not_mem_nil, or_false] at ha hboard htime
    rw [ho]
    have hd : Reg.dnAlarm 0 = 0x600008 ∧ Reg.eccArrayAlarm 7 = 0x6800FC := ⟨rfl, rfl⟩
    rw [hd.1, hd.2]
    rcases ha with h | h | h | h
    · by_cases hb : a = Reg.bootNext ∨ a = Reg.glbIdent ∨ a = Reg.clkPllStatus
      · obtain ⟨h1, h2⟩ := hboard hb
        exact ⟨by rw [if_pos h1, h2], by omega⟩
      · obtain ⟨h1, h2, h3⟩ := htime (by tauto)
        exact ⟨by rw [if_neg (by omega), if_neg (by omega), if_neg (by omega), if_neg (by omega), if_neg (by omega), if_pos (by omega), h3], by omega⟩
    · exact ⟨by rw [if_neg (by omega), if_neg (by omega), if_neg (by omega), if_neg (by omega), if_neg (by omega), if_neg (by omega), hctrl (.inl h)], by omega⟩
    · exact ⟨by rw [if_neg (by omega), if_neg (by omega), if_neg (by omega), if_neg (by omega), if_neg (by omega), if_neg (by omega), hctrl (.inr h)], by omega⟩
    · exact ⟨by rw [if_neg (by omega), if_neg (by omega), if_neg (by omega), if_pos (by omega), hengines h], by omega⟩
  rw [State.writeReg, ← ho, hnone.1, Option.getD_none, limitWritten_eq _ hnone.2, plainWrite_eq hkind]

theorem registerWrite_plain (hacc : acc < 7) (hup : s.coreUp = true) (hheld : s.busHeld acc = false) (hopen : openAddr a)
    {m : Word} (hm : rwMask a = some m.toNat) (hwrite : s.writeReg acc a v = s.storeRw a v) :
    ∃ t, exec (.registerWrite acc a v) s = .next t ∧ t.rd a = (s.rd a &&& ~~~m) ||| (v &&& m) ∧ t = { s with regs := t.regs } ∧ s.regsBut t [a] := by
  refine ⟨s.storeRw a v, ?_, (rd_storeRw hm v a).trans (if_pos rfl), storeRw_regsOnly a v,
    fun b hb => (rd_storeRw hm v b).trans (if_neg (by simpa using hb))⟩
  rw [registerWrite_eq hacc hheld hopen.1 hopen.2.1, State.busWrite, reach_open hup hopen]
  dsimp only
  rw [hopen.2.2.1, hwrite]

/-! ### Accesses that reach nothing -/

/-- What a refused access records. -/
theorem accErr_spec (s : State) {acc kind : Nat} {w : Bool} (hacc : acc < 7) (hk : kind < 8) (ha : a < 2 ^ 24) :
    s.RegsOnly (s.accErr acc a kind w) ∧ s.regsBut (s.accErr acc a kind w) [Reg.glbAccErr, Reg.glbAccAddr] ∧
    (s.bit Reg.glbAccErr 31 = false → (s.accErr acc a kind w).rd Reg.glbAccAddr = BitVec.ofNat 32 a ∧
      (s.accErr acc a kind w).bit Reg.glbAccErr 31 = true ∧ (s.accErr acc a kind w).fld Reg.glbAccErr 29 27 = acc ∧
      (s.accErr acc a kind w).fld Reg.glbAccErr 26 24 = kind ∧ (s.accErr acc a kind w).bit Reg.glbAccErr 0 = w) ∧
    (s.bit Reg.glbAccErr 31 = true → (s.accErr acc a kind w).bit Reg.glbAccErr 30 = true ∧
      (s.accErr acc a kind w).fld Reg.glbAccErr 29 0 = s.fld Reg.glbAccErr 29 0 ∧ s.regsBut (s.accErr acc a kind w) [Reg.glbAccErr]) := by
  obtain ⟨u, hu⟩ : ∃ u, u = if s.bit Reg.glbAccErr 31 then s else s.wr Reg.glbAccAddr (BitVec.ofNat 32 (a % 2 ^ 24)) := ⟨_, rfl⟩
  obtain ⟨n, hn⟩ : ∃ n, n = acc * 2 ^ 27 + kind * 2 ^ 24 + b2n w := ⟨_, rfl⟩
  have heq : s.accErr acc a kind w = u.record Reg.glbAccErr n := by rw [State.accErr, ← hu, ← hn]
  have hw : b2n w < 2 := by cases w <;> decide
  have hregs : s.RegsOnly u := by
    rw [hu]; split
    · exact .refl
    · exact State.RegsOnly.refl.wr
  have hurd : ∀ b, b ≠ Reg.glbAccAddr → u.rd b = s.rd b := fun b hb => by
    rw [hu]; split
    · rfl
    · rw [State.rd_wr, if_neg hb]
  have hrec : ∀ hi lo, (s.accErr acc a kind w).fld Reg.glbAccErr hi lo = Wbits (firstRecord (s.rd Reg.glbAccErr) (BitVec.ofNat 32 n)) hi lo := fun hi lo => by
    rw [heq, State.record, State.fld_wr, if_pos rfl, hurd _ (by decide)]
  have hbut : s.regsBut (s.accErr acc a kind w) [Reg.glbAccErr, Reg.glbAccAddr] := fun b hb => by
    simp only [List.mem_cons, List.not_mem_nil, or_false, not_or] at hb
    rw [heq, State.record, State.rd_wr, if_neg hb.1, hurd b hb.2]
  refine ⟨heq ▸ hregs.wr, hbut, fun h31 => ?_, fun h31 => ?_⟩
  · have hold : ¬ Wbits (s.rd Reg.glbAccErr) 31 31 = 1 := by simpa [State.bit, State.fld] using h31
    have hbits : ∀ hi lo, lo ≤ hi → hi < 30 → (s.accErr acc a kind w).fld Reg.glbAccErr hi lo = bitsOf n hi lo := fun hi lo h1 h2 => by
      rw [hrec, firstRecord, if_neg hold, Wbits_Wput_other _ _ _ _ _ _ (by decide) (by decide) (.inl h2),
        Wbits_Wput_other _ _ _ _ _ _ (by decide) (by decide) (.inl (by omega)), Wbits, BitVec.toNat_ofNat, Nat.mod_eq_of_lt (by omega)]
    refine ⟨?_, ?_, ?_, ?_, ?_⟩
    · rw [heq, State.record, State.rd_wr, if_neg (by decide), hu, if_neg (by rw [h31]; decide), State.rd_wr, if_pos rfl, Nat.mod_eq_of_lt ha]
    · rw [State.bit, hrec, firstRecord, if_neg hold, Wbits_Wput_other _ _ _ _ _ _ (by decide) (by decide) (.inr (by decide)),
        Wbits_Wput_same _ _ _ _ (by decide) (by decide)]
      rfl
    · rw [hbits _ _ (by decide) (by decide), hn, bitsOf]; omega
    · rw [hbits _ _ (by decide) (by decide), hn, bitsOf]; omega
    · rw [State.bit, hbits _ _ (by decide) (by decide), hn, bitsOf]
      cases w
      · rw [beq_eq_false_iff_ne, show b2n false = 0 from rfl]; omega
      · rw [beq_iff_eq, show b2n true = 1 from rfl]; omega
  · have hold : Wbits (s.rd Reg.glbAccErr) 31 31 = 1 := by simpa [State.bit, State.fld] using h31
    have hus : u = s := by rw [hu, if_pos h31]
    refine ⟨?_, ?_, fun b hb => ?_⟩
    · rw [State.bit, hrec, firstRecord, if_pos hold, Wbits_Wput_same _ _ _ _ (by decide) (by decide)]; rfl
    · rw [hrec, firstRecord, if_pos hold, Wbits_Wput_other _ _ _ _ _ _ (by decide) (by decide) (.inl (by decide))]; rfl
    · rw [heq, State.record, State.rd_wr, if_neg (by simpa using hb), hus]

theorem reach_none (hup : s.coreUp = true) (ha : regAt (canonAddr a) = none) : s.reach acc a = .error 0 := by
  rw [State.reach, hup, Bool.not_true, if_neg (by decide), ha]; rfl

theorem reach_gated {g o : Nat} (hup : s.coreUp = true) (hg : g < 20) (ho : o ∈ [0, 0xC, 0x20]) (hgate : s.bit Reg.clkPgGate g = true) :
    s.reach acc (0x100000 + 0x4000 * g + o) = .error 1 := by
  have ho' : o < 0x4000 := by
    simp only [List.mem_cons, List.not_mem_nil, or_false] at ho; omega
  have hcanon : canonAddr (0x100000 + 0x4000 * g + o) = 0x100000 + 0x4000 * g + o := by rw [canonAddr, if_neg (by omega)]
  have hsome : ∀ k < 20, ∀ i ∈ [0, 0xC, 0x20], (regAt (0x100000 + 0x4000 * k + i)).isNone = false := by decide +kernel
  rw [State.reach, hup, Bool.not_true, if_neg (by decide), hcanon, hsome g hg o ho, if_neg (by decide),
    show (0x100000 + 0x4000 * g + o - 0x100000) / 0x4000 = g by omega, if_pos ⟨by omega, by omega, hgate⟩]

end

end Sys2Proof.Machine
end

section
/-! PROOFS. The obligation on the register bus. -/
namespace Sys2Proof.Machine

section
variable {s t : State} {acc a : Nat} {v : Word}

/-! ### Reads -/

theorem cur_plain (hlive : s.live a = none) (hkind : regKind a = some .plain) : s.cur a = s.rd a := by
  rw [regKind] at hkind
  cases hreg : regAt a with
  | none => rw [hreg] at hkind; exact absurd hkind (by simp)
  | some x =>
    obtain ⟨r, i⟩ := x
    rw [hreg] at hkind
    have hk : r.kind = .plain := Option.some.inj hkind
    rw [State.cur, hlive, hreg]
    dsimp only
    rw [hk]

theorem cur_counter (hlive : s.live a = none) (hkind : regKind a = some .counter) : s.cur a = BitVec.ofNat 32 (s.ctrWord a) := by
  rw [regKind] at hkind
  cases hreg : regAt a with
  | none => rw [hreg] at hkind; exact absurd hkind (by simp)
  | some x =>
    obtain ⟨r, i⟩ := x
    rw [hreg] at hkind
    have hk : r.kind = .counter := Option.some.inj hkind
    rw [State.cur, hlive, hreg]
    dsimp only
    rw [hk]

/-- A read that latches nothing and is not latched returns the register's value and clears its read-clear bits. -/
theorem readReg_plain (s : State) (acc : Nat) (hlatch : latchOf a = []) (hheld : latchable a = false) :
    s.readReg acc a = (s.cur a, (s.clearRc a (s.cur a)).afterRead a) := by
  rw [State.readReg, hlatch, hheld]
  rfl

/-- A read that latches another register's value for its accessor. -/
theorem readReg_latching {b : Nat} (s : State) (acc : Nat) (hlatch : latchOf a = [b]) (hheld : latchable a = false) :
    s.readReg acc a = (s.cur a, ((s.setShadow acc b (some (s.cur b))).clearRc a (s.cur a)).afterRead a) := by
  rw [State.readReg, hlatch, hheld]
  rfl

theorem clearRc_none (hrc : rcMask a = 0) (s : State) (v : Word) : s.clearRc a v = s := by
  rw [State.clearRc, hrc, show Nat.land v.toNat 0 = 0 from Nat.and_zero _, if_pos rfl]

theorem rd_clearRc {m : Word} (hrc : rcMask a = m.toNat) (s : State) (b : Nat) :
    (s.clearRc a (s.rd a)).rd b = if b = a then s.rd a &&& ~~~m else s.rd b := by
  obtain ⟨w, hw⟩ : ∃ w, w = s.rd a := ⟨_, rfl⟩
  have hland : Nat.land w.toNat m.toNat = (w &&& m).toNat := (BitVec.toNat_and ..).symm
  have hnot : ∀ x : Word, BitVec.ofNat 32 (Nat.land w.toNat (2 ^ 32 - 1 - x.toNat)) = w &&& ~~~x := fun x => by
    apply BitVec.eq_of_toNat_eq
    rw [BitVec.toNat_ofNat, BitVec.toNat_and, BitVec.toNat_not, Nat.sub_right_comm]
    exact Nat.mod_eq_of_lt (Nat.and_lt_two_pow _ (by omega))
  have hclear : w &&& ~~~(w &&& m) = w &&& ~~~m := by
    ext i hi
    simp only [BitVec.getElem_and, BitVec.getElem_not]
    cases w[i] <;> simp
  rw [State.clearRc, hrc, ← hw, hland]
  split
  · next h0 =>
    have hzero : w &&& m = 0 := BitVec.eq_of_toNat_eq h0
    rw [hzero] at hclear
    split
    · next hb => rw [hb, ← hw, ← hclear, show ~~~(0 : Word) = BitVec.allOnes 32 by decide, BitVec.and_allOnes]
    · rfl
  · rw [State.rd_wr, hnot, hclear]

theorem clearRc_regsOnly (s : State) (a : Nat) (v : Word) : s.RegsOnly (s.clearRc a v) := by
  rw [State.clearRc]
  split
  · exact .refl
  · exact State.RegsOnly.refl.wr

theorem afterRead_eq (s : State) (h : a < 0x300000 ∨ 0x400000 ≤ a) (hne : a ≠ Reg.tbEvents) : s.afterRead a = s := by
  rw [State.afterRead, if_neg hne, if_neg (by omega)]

/-- The registers whose reads the obligation lists hold their own values. -/
theorem live_none (s : State) (h : a ∈ [Reg.bootNext, Reg.tbFreq, Reg.qmEvents, Reg.ssvMainsEvents, Reg.clkPllEvents, Reg.glbAccErr]) :
    s.live a = none := by
  simp only [List.mem_cons, List.not_mem_nil, or_false] at h
  rcases h with rfl | rfl | rfl | rfl | rfl | rfl <;> rfl

theorem registerRead_plain (hacc : acc < 7) (hup : s.coreUp = true) (hheld : s.busHeld acc = false) (hopen : openAddr a)
    (hkind : regKind a = some .plain) (hlive : s.live a = none) (hlatch : latchOf a = [] ∧ latchable a = false) {m : Word}
    (hrc : rcMask a = m.toNat) (hafter : (a < 0x300000 ∨ 0x400000 ≤ a) ∧ a ≠ Reg.tbEvents) :
    ∃ t, exec (.registerRead acc a) s = .next t ∧ t.rdData.get acc = s.rd a ∧ t.rd a = s.rd a &&& ~~~m ∧
      (∀ k, k ≠ acc → t.rdData.get k = s.rdData.get k) ∧ s.regsBut t [a] ∧ t = { s with regs := t.regs, rdData := t.rdData } := by
  obtain ⟨u, hu⟩ : ∃ u, u = s.clearRc a (s.rd a) := ⟨_, rfl⟩
  have hregs : s.RegsOnly u := hu ▸ clearRc_regsOnly ..
  have hurd : ∀ b, u.rd b = if b = a then s.rd a &&& ~~~m else s.rd b := fun b => hu ▸ rd_clearRc hrc s b
  have hexec : exec (.registerRead acc a) s = .next { u with rdData := u.rdData.set acc (s.rd a) } := by
    rw [registerRead_eq hacc hheld hopen.1 hopen.2.1, State.readInto, State.busRead, reach_open hup hopen]
    dsimp only
    rw [hopen.2.2.1, readReg_plain s acc hlatch.1 hlatch.2, cur_plain hlive hkind, ← hu, afterRead_eq u hafter.1 hafter.2]
  have hdata : u.rdData = s.rdData := by rw [hregs]
  refine ⟨_, hexec, ?_, (hurd a).trans (if_pos rfl), fun k hk => ?_, fun b hb => (hurd b).trans (if_neg (by simpa using hb)), by rw [hregs]⟩
  · exact (SMap.get_set ..).trans (if_pos rfl)
  · exact (SMap.get_set ..).trans ((if_neg hk).trans (by rw [hdata]))

/-! ### A counter read in two halves -/

theorem qmSpill_facts {i : Nat} (hi : i < 16) : openAddr (Reg.qmSpill i) ∧ openAddr (Reg.qmSpill i + 4) ∧
    regKind (Reg.qmSpill i) = some .counter ∧ latchOf (Reg.qmSpill i) = [Reg.qmSpill i + 4] ∧ latchable (Reg.qmSpill i) = false ∧
    latchOf (Reg.qmSpill i + 4) = [] ∧ latchable (Reg.qmSpill i + 4) = true ∧ regKind (Reg.qmSpill i + 4) = some .counter ∧
    rcMask (Reg.qmSpill i) = 0 ∧ rcMask (Reg.qmSpill i + 4) = 0 := by
  unfold openAddr
  revert i; decide +kernel

theorem live_qmSpill (s : State) {i b : Nat} (hi : i < 16) (hb : b = 0 ∨ b = 4) : s.live (Reg.qmSpill i + b) = none := by
  have ha : 0x480200 ≤ Reg.qmSpill i + b ∧ Reg.qmSpill i + b < 0x480280 := by rw [Reg.qmSpill]; omega
  rw [State.live, if_neg (by omega), if_neg (by omega), if_neg (by omega), if_neg (by omega), if_neg (by omega), if_neg (by omega),
    if_neg (by omega), if_neg (by omega), if_neg (by omega), if_pos (by omega), qmLive, if_neg (by unfold Reg.qmStatus; omega),
    if_neg (by omega), if_neg (by omega)]

theorem registerRead_counter {i : Nat} (hacc : acc < 7) (hup : s.coreUp = true) (hheld : s.busHeld acc = false) (hi : i < 16) :
    ∃ t u, exec (.registerRead acc (Reg.qmSpill i)) s = .next t ∧ t.rdData.get acc = BitVec.ofNat 32 (s.ctr (Reg.qmSpill i)) ∧
      t.regs = s.regs ∧ t.ctrs = s.ctrs ∧ exec (.registerRead acc (Reg.qmSpill i + 4)) { t with ctrs := {} } = .next u ∧
      u.rdData.get acc = BitVec.ofNat 32 (s.ctr (Reg.qmSpill i) / 2 ^ 32) := by
  obtain ⟨o1, o2, k1, l1, h1, l2, h2, k2, r1, r2⟩ := qmSpill_facts hi
  have hlow : s.cur (Reg.qmSpill i) = BitVec.ofNat 32 (s.ctr (Reg.qmSpill i)) := by
    have hlive := live_qmSpill s hi (.inl rfl)
    rw [Nat.add_zero] at hlive
    rw [cur_counter hlive k1, State.ctrWord, if_pos (by rw [Reg.qmSpill]; omega)]
    exact BitVec.eq_of_toNat_eq (by rw [BitVec.toNat_ofNat, BitVec.toNat_ofNat, Nat.mod_mod])
  have hhigh : s.cur (Reg.qmSpill i + 4) = BitVec.ofNat 32 (s.ctr (Reg.qmSpill i) / 2 ^ 32) := by
    rw [cur_counter (live_qmSpill s hi (.inr rfl)) k2, State.ctrWord, if_neg (by rw [Reg.qmSpill]; omega), Nat.add_sub_cancel]
  obtain ⟨t, ht⟩ : ∃ t : State, t = { s.setShadow acc (Reg.qmSpill i + 4) (some (s.cur (Reg.qmSpill i + 4))) with
    rdData := s.rdData.set acc (s.cur (Reg.qmSpill i)) } := ⟨_, rfl⟩
  have hrange : ∀ b, b = Reg.qmSpill i ∨ b = Reg.qmSpill i + 4 → (b < 0x300000 ∨ 0x400000 ≤ b) ∧ b ≠ Reg.tbEvents := by
    unfold Reg.qmSpill Reg.tbEvents; omega
  have hexec : exec (.registerRead acc (Reg.qmSpill i)) s = .next t := by
    rw [registerRead_eq hacc hheld o1.1 o1.2.1, State.readInto, State.busRead, reach_open hup o1]
    dsimp only
    rw [o1.2.2.1, readReg_latching s acc l1 h1, clearRc_none r1,
      afterRead_eq _ (hrange _ (.inl rfl)).1 (hrange _ (.inl rfl)).2, ht]
    rfl
  obtain ⟨t', ht'⟩ : ∃ t' : State, t' = { t with ctrs := {} } := ⟨_, rfl⟩
  have hboot : t'.boot = s.boot ∧ t'.flume = s.flume := by rw [ht', ht]; exact ⟨rfl, rfl⟩
  have hup' : t'.coreUp = true := by rw [State.coreUp, hboot.1]; exact hup
  have hheld' : t'.busHeld acc = false := by rw [State.busHeld, hboot.2]; exact hheld
  have hshadow : t'.shadow acc (Reg.qmSpill i + 4) = some (s.cur (Reg.qmSpill i + 4)) := by
    rw [ht', ht]
    exact (SMap.get_set ..).trans (if_pos rfl)
  have hread := registerRead_eq (s := t') (acc := acc) hacc hheld' o2.1 o2.2.1
  refine ⟨t, t'.readInto acc (Reg.qmSpill i + 4), hexec, ?_, by rw [ht]; rfl, by rw [ht]; rfl, ht' ▸ hread, ?_⟩
  · rw [ht, ← hlow]
    exact (SMap.get_set ..).trans (if_pos rfl)
  · have hval : (t'.busRead acc (Reg.qmSpill i + 4)).1 = s.cur (Reg.qmSpill i + 4) := by
      rw [State.busRead, reach_open hup' o2]
      dsimp only
      rw [o2.2.2.1, State.readReg, h2, if_pos rfl, hshadow]
      rfl
    rw [State.readInto, hval, ← hhigh]
    exact (SMap.get_set ..).trans (if_pos rfl)

/-! ### Control engines and the data ports of a cluster -/

theorem ceCtrl_open {k : Nat} (hk : k < 4) : openAddr (Reg.flmCeCtrl 0 k) := by
  unfold openAddr
  revert k; decide +kernel

theorem flmPort_open {cl : Nat} (hcl : cl < 16) : openAddr (Reg.flmPsData cl) ∧ openAddr (Reg.flmShmData cl) ∧
    regKind (Reg.flmShmData cl) = some .plain ∧ latchOf (Reg.flmShmData cl) = [] ∧ latchable (Reg.flmShmData cl) = false ∧
    rcMask (Reg.flmShmData cl) = 0 := by
  unfold openAddr
  revert cl; decide +kernel

theorem ceRunWrite_eq {k : Nat} (hacc : acc < 7) (hup : s.coreUp = true) (hheld : s.busHeld acc = false) (hk : k < 4) :
    exec (.ceRunWrite acc k v) s = .next (writeCeCtrl k s v) := by
  rw [exec_ceRunWrite, execCeRunWrite, writeRow_reaches (reaches_open hacc hup hheld (ceCtrl_open hk)) (by simp [hacc, hk]) rfl]

theorem ceRunWrite_starts {k : Nat} (hacc : acc < 7) (hup : s.coreUp = true) (hheld : s.busHeld acc = false) (hk : k < 4)
    (hrun : s.bit (Reg.flmCeCtrl 0 k) 31 = false) (hv : Wbits v 31 31 = 1) : ∃ t, exec (.ceRunWrite acc k v) s = .next t ∧
      t.bit (Reg.flmCeCtrl 0 k) 31 = true ∧ t.ce k = {} ∧ (∀ j, j ≠ k → t.ce j = s.ce j) ∧ s.regsBut t [Reg.flmCeCtrl 0 k] ∧ t.mem = s.mem := by
  obtain ⟨u, hu⟩ : ∃ u, u = s.setCe k {} := ⟨_, rfl⟩
  have hce : ∀ j, (u.setBit (Reg.flmCeCtrl 0 k) 31 true).ce j = u.ce j := fun j => by rw [State.ce, State.ce, State.setBit_flume]
  refine ⟨u.setBit (Reg.flmCeCtrl 0 k) 31 true, ?_, State.bit_setBit_same _ _ _ _ (by decide), ?_, fun j hj => ?_, fun a ha => ?_, ?_⟩
  · rw [ceRunWrite_eq hacc hup hheld hk, writeCeCtrl, hv, if_neg (by decide), hrun, Bool.not_false, if_pos rfl, hu]
  · rw [hce, hu, State.ce_setCe, if_pos rfl]
  · rw [hce, hu, State.ce_setCe, if_neg hj]
  · rw [State.rd_setBit_other _ _ _ _ _ (by simpa using ha), hu, State.rd_setCe]
  · rw [State.setBit_mem, hu]; rfl

theorem ceRunWrite_stops {k : Nat} (hacc : acc < 7) (hup : s.coreUp = true) (hheld : s.busHeld acc = false) (hk : k < 4)
    (hrun : s.bit (Reg.flmCeCtrl 0 k) 31 = true) (hv : Wbits v 31 31 = 0) (hwb : (s.ce k).wb = []) : ∃ t, exec (.ceRunWrite acc k v) s = .next t ∧
      t.bit (Reg.flmCeCtrl 0 k) 31 = false ∧ t.ce k = {} ∧ (∀ j, j ≠ k → t.ce j = s.ce j) ∧ s.regsBut t [Reg.flmCeCtrl 0 k] ∧ t.mem = s.mem := by
  obtain ⟨u, hu⟩ : ∃ u, u = s.setCe k {} := ⟨_, rfl⟩
  have hce : ∀ j, (u.setBit (Reg.flmCeCtrl 0 k) 31 false).ce j = u.ce j := fun j => by rw [State.ce, State.ce, State.setBit_flume]
  refine ⟨u.setBit (Reg.flmCeCtrl 0 k) 31 false, ?_, State.bit_setBit_same _ _ _ _ (by decide), ?_, fun j hj => ?_, fun a ha => ?_, ?_⟩
  · rw [ceRunWrite_eq hacc hup hheld hk, writeCeCtrl, hv, if_pos rfl, hrun, Bool.not_true, if_neg (by decide), hwb, List.foldl_nil, hu]
  · rw [hce, hu, State.ce_setCe, if_pos rfl]
  · rw [hce, hu, State.ce_setCe, if_neg hj]
  · rw [State.rd_setBit_other _ _ _ _ _ (by simpa using ha), hu, State.rd_setCe]
  · rw [State.setBit_mem, hu]; rfl

/-- A data port's address register after an access, moved on where it counts. -/
theorem addr_moved (s : State) {a hi n : Nat} (hhi : hi < 31) {t : State}
    (ht : t = if s.bit a 31 then s.setFld a hi 0 (s.fld a hi 0 + n) else s) :
    s.RegsOnly t ∧ s.regsBut t [a] ∧ t.fld a hi 0 = (s.fld a hi 0 + if s.bit a 31 then n else 0) % 2 ^ (hi + 1) := by
  rw [ht]
  split
  · exact ⟨State.RegsOnly.refl.setFld, fun b hb => State.rd_setFld_other _ _ _ _ _ _ (by simpa using hb),
      State.fld_setFld_same _ _ _ _ _ (Nat.zero_le _) (by omega)⟩
  · exact ⟨.refl, fun _ _ => rfl, by rw [Nat.add_zero]; exact (Nat.mod_eq_of_lt (Wbits_lt ..)).symm⟩

theorem psDataWrite_spec {cl at_ : Nat} (hacc : acc < 7) (hup : s.coreUp = true) (hheld : s.busHeld acc = false) (hcl : cl < 16)
    (hat : at_ = 65536 * cl + s.fld (Reg.flmPsAddr cl) 15 0) : ∃ t, exec (.psDataWrite acc cl v) s = .next t ∧ t.flume.ps.get at_ = Wbits v 15 0 ∧
      (∀ j, j ≠ at_ → t.flume.ps.get j = s.flume.ps.get j) ∧
      t.fld (Reg.flmPsAddr cl) 15 0 = (s.fld (Reg.flmPsAddr cl) 15 0 + if s.bit (Reg.flmPsAddr cl) 31 then 1 else 0) % 65536 ∧
      s.regsBut t [Reg.flmPsAddr cl] ∧ t.mem = s.mem ∧ t.flume.shm = s.flume.shm := by
  obtain ⟨u, hu⟩ : ∃ u : State, u = { s with flume.ps := s.flume.ps.set at_ (Wbits v 15 0) } := ⟨_, rfl⟩
  obtain ⟨t, ht⟩ : ∃ t, t = if u.bit (Reg.flmPsAddr cl) 31 then u.setFld (Reg.flmPsAddr cl) 15 0 (u.fld (Reg.flmPsAddr cl) 15 0 + 1) else u := ⟨_, rfl⟩
  obtain ⟨h1, h2, h3⟩ := addr_moved u (by decide) ht
  have hurd : ∀ a, u.rd a = s.rd a := fun a => by rw [hu]; rfl
  have hflume : t.flume = u.flume := by rw [h1]
  have hexec : exec (.psDataWrite acc cl v) s = .next t := by
    rw [exec_psDataWrite, execPsDataWrite, writeRow_reaches (reaches_open hacc hup hheld (flmPort_open hcl).1) (by simp [hacc, hcl]) rfl, writePsData, ht, hu,
      hat, Nat.mul_comm 65536 cl]
    rfl
  refine ⟨t, hexec, ?_, fun j hj => ?_, ?_, fun a ha => (h2 a ha).trans (hurd a), ?_, ?_⟩
  · rw [hflume, hu]; exact (SMap.get_set ..).trans (if_pos rfl)
  · rw [hflume, hu]; exact (SMap.get_set ..).trans (if_neg hj)
  · rw [h3, State.fld_of_rd (hurd _), State.bit_of_rd (hurd _), show 2 ^ (15 + 1) = 65536 by decide]
  · rw [h1, hu]
  · rw [hflume, hu]

theorem writeReg_shmData (s : State) {cl : Nat} (acc : Nat) (hcl : cl < 16) : s.writeReg acc (Reg.flmShmData cl) v = writeShmData cl s v := by
  have ha : 0x300000 ≤ Reg.flmShmData cl ∧ Reg.flmShmData cl < 0x400000 ∧ Reg.flmShmData cl % 0x10000 = 0x12C ∧
      (Reg.flmShmData cl - 0x300000) / 0x10000 = cl ∧ Reg.flmShmData cl % 8 = 4 := by
    rw [Reg.flmShmData]; omega
  obtain ⟨h1, h2, h3, h4, h5⟩ := ha
  have hown : writeEngines s (Reg.flmShmData cl) v = some (writeShmData cl s v) := by
    rw [writeEngines, if_neg (by simp only [Reg.dspClAlarm]; omega), if_neg (by omega), if_pos ⟨h1, h2⟩, h3, h4]
    rfl
  rw [State.writeReg, if_neg (by omega), if_neg (by omega), if_neg (by omega), if_pos (by omega), hown, Option.getD_some,
    limitWritten_eq _ (.inl (by simp only [Reg.dnAlarm]; omega))]

theorem shmDataAccess_eq {cl : Nat} {o : Option Word} (hacc : acc < 7) (hheld : s.busHeld acc = false) (hcl : cl < 16) :
    exec (.shmDataAccess acc cl o) s = .next (match o with
      | some v => s.busWrite acc (Reg.flmShmData cl) v
      | none => s.readInto acc (Reg.flmShmData cl)) := by
  rw [exec_shmDataAccess]
  unfold execShmDataAccess
  rw [decide_eq_true hacc, decide_eq_true hcl, whenWf, if_pos (by decide), hheld, if_neg (by decide)] <;> rfl

theorem shmWrite_spec {cl at_ : Nat} (hacc : acc < 7) (hup : s.coreUp = true) (hheld : s.busHeld acc = false) (hcl : cl < 16)
    (hat : at_ = 0x40000 * cl + s.fld (Reg.flmShmAddr cl) 17 0) : ∃ t, exec (.shmDataAccess acc cl (some v)) s = .next t ∧
      getBytes t.flume.shm at_ 4 = leBytes v.toNat 4 ∧ (∀ j, j < at_ ∨ at_ + 4 ≤ j → t.flume.shm.get j = s.flume.shm.get j) ∧ t.mem = s.mem ∧
      s.regsBut t [Reg.flmShmAddr cl] ∧
      t.fld (Reg.flmShmAddr cl) 17 0 = (s.fld (Reg.flmShmAddr cl) 17 0 + if s.bit (Reg.flmShmAddr cl) 31 then 4 else 0) % 2 ^ 18 := by
  obtain ⟨u, hu⟩ : ∃ u : State, u = { s with flume.shm := putBytes s.flume.shm at_ (leBytes v.toNat 4) } := ⟨_, rfl⟩
  obtain ⟨h1, h2, h3⟩ := addr_moved u (a := Reg.flmShmAddr cl) (hi := 17) (n := 4) (by decide) rfl
  have heq : (if u.bit (Reg.flmShmAddr cl) 31 then u.setFld (Reg.flmShmAddr cl) 17 0 (u.fld (Reg.flmShmAddr cl) 17 0 + 4) else u) = u.shmNext cl := by
    rw [State.shmNext]
  rw [heq] at h1 h2 h3
  have hurd : ∀ a, u.rd a = s.rd a := fun a => by rw [hu]; rfl
  have hflume : (u.shmNext cl).flume = u.flume := by rw [h1]
  have hopen := (flmPort_open hcl).2.1
  have hexec : exec (.shmDataAccess acc cl (some v)) s = .next (u.shmNext cl) := by
    rw [shmDataAccess_eq hacc hheld hcl]
    dsimp only
    rw [State.busWrite, reach_open hup hopen]
    dsimp only
    rw [hopen.2.2.1, writeReg_shmData s acc hcl, writeShmData, hu, hat, Nat.mul_comm 0x40000 cl]
  have hlen : (leBytes v.toNat 4).length = 4 := rfl
  refine ⟨_, hexec, ?_, fun j hj => ?_, ?_, fun a ha => (h2 a ha).trans (hurd a), ?_⟩
  · rw [hflume, hu]
    have h := getBytes_putBytes_prefix s.flume.shm at_ (leBytes v.toNat 4) []
    rw [List.append_nil, hlen] at h
    exact h
  · rw [hflume, hu]
    exact get_putBytes_ne _ _ _ _ (by rw [hlen]; omega)
  · rw [h1, hu]
  · rw [h3, State.fld_of_rd (hurd _), State.bit_of_rd (hurd _)]

theorem shmRead_spec {cl at_ : Nat} (hacc : acc < 7) (hup : s.coreUp = true) (hheld : s.busHeld acc = false) (hcl : cl < 16)
    (hat : at_ = 0x40000 * cl + s.fld (Reg.flmShmAddr cl) 17 0) : ∃ t, exec (.shmDataAccess acc cl none) s = .next t ∧
      t.rdData.get acc = BitVec.ofNat 32 (leNat (getBytes s.flume.shm at_ 4)) ∧ t.flume = s.flume ∧ s.regsBut t [Reg.flmShmAddr cl] ∧
      t.fld (Reg.flmShmAddr cl) 17 0 = (s.fld (Reg.flmShmAddr cl) 17 0 + if s.bit (Reg.flmShmAddr cl) 31 then 4 else 0) % 2 ^ 18 := by
  obtain ⟨h1, h2, h3⟩ := addr_moved s (a := Reg.flmShmAddr cl) (hi := 17) (n := 4) (by decide) rfl
  have heq : (if s.bit (Reg.flmShmAddr cl) 31 then s.setFld (Reg.flmShmAddr cl) 17 0 (s.fld (Reg.flmShmAddr cl) 17 0 + 4) else s) = s.shmNext cl := by
    rw [State.shmNext]
  rw [heq] at h1 h2 h3
  obtain ⟨-, hopen, -, hlatch, hlable, hrc⟩ := flmPort_open hcl
  have ha : 0x300000 ≤ Reg.flmShmData cl ∧ Reg.flmShmData cl < 0x400000 ∧ Reg.flmShmData cl % 0x10000 = 0x12C ∧
      (Reg.flmShmData cl - 0x300000) / 0x10000 = cl ∧ Reg.flmShmData cl % 8 = 4 := by
    rw [Reg.flmShmData]; omega
  obtain ⟨a1, a2, a3, a4, a5⟩ := ha
  have hlive : s.live (Reg.flmShmData cl) = some (s.shmWord cl) := by
    have hrange : ¬ (Reg.flmCeCtrl 0 0 ≤ Reg.flmShmData cl ∧ Reg.flmShmData cl < Reg.flmCeCtrl 0 4 ∧ Reg.flmShmData cl % 8 = 4) := by
      simp only [Reg.flmCeCtrl, Reg.flmShmData]; omega
    rw [State.live, if_neg (by omega), if_neg (by omega), if_neg (by omega), if_neg (by omega), if_neg (by omega), if_neg (by omega),
      if_neg (by omega), if_pos (by omega), flmLive, a4]
    dsimp only
    rw [if_neg hrange, a3]
    rfl
  have hcur : s.cur (Reg.flmShmData cl) = BitVec.ofNat 32 (leNat (getBytes s.flume.shm at_ 4)) := by
    rw [State.cur, hlive, State.shmWord, hat, Nat.mul_comm 0x40000 cl]
  have hafter : s.afterRead (Reg.flmShmData cl) = s.shmNext cl := by
    rw [State.afterRead, if_neg (by unfold Reg.tbEvents; omega), if_pos ⟨a1, a2, a3⟩, a4]
  have hexec : exec (.shmDataAccess acc cl none) s = .next { s.shmNext cl with rdData := (s.shmNext cl).rdData.set acc (s.cur (Reg.flmShmData cl)) } := by
    rw [shmDataAccess_eq hacc hheld hcl]
    dsimp only
    rw [State.readInto, State.busRead, reach_open hup hopen]
    dsimp only
    rw [hopen.2.2.1, readReg_plain s acc hlatch hlable, clearRc_none hrc, hafter]
  refine ⟨_, hexec, ?_, ?_, h2, h3⟩
  · rw [← hcur]; exact (SMap.get_set ..).trans (if_pos rfl)
  · show (s.shmNext cl).flume = s.flume
    rw [h1]

end

/-- The registers whose plain writes the obligation lists, with their writable bits. -/
theorem plainWrites {n : Nat} (hn : n < 320) {e : Nat × Word} (he : e ∈ ([(Reg.bootNext, 0x3), (Reg.tbJump, 0x3FFFFFFF), (Reg.tbFreq, 0xFFFFFFFF),
    (Reg.glbIdent, 0), (Reg.clkPllStatus, 0), (Reg.evcRoute n, 0x1F), (Reg.flmClCtrl (n % 16), 0xFFFF), (Reg.pmcSel (n % 64), 0xC1FF03FF)] :
      List (Nat × Word))) : openAddr e.1 ∧ rwMask e.1 = some e.2.toNat ∧ regKind e.1 = some .plain ∧
    (e.1 ∈ [Reg.bootNext, Reg.tbJump, Reg.tbFreq, Reg.glbIdent, Reg.clkPllStatus] ∨ (0x700000 ≤ e.1 ∧ e.1 < 0x700C20) ∨
      (0x740100 ≤ e.1 ∧ e.1 < 0x780000) ∨ (0x300000 ≤ e.1 ∧ e.1 < 0x400000 ∧ e.1 % 0x10000 = 0x100)) := by
  have hfix : ∀ e ∈ ([(Reg.bootNext, 0x3), (Reg.tbJump, 0x3FFFFFFF), (Reg.tbFreq, 0xFFFFFFFF), (Reg.glbIdent, 0), (Reg.clkPllStatus, 0)] : List (Nat × Word)),
      openAddr e.1 ∧ rwMask e.1 = some e.2.toNat ∧ regKind e.1 = some .plain ∧
        e.1 ∈ [Reg.bootNext, Reg.tbJump, Reg.tbFreq, Reg.glbIdent, Reg.clkPllStatus] := by
    unfold openAddr; decide +kernel
  have hroute : ∀ n < 320, openAddr (Reg.evcRoute n) ∧ rwMask (Reg.evcRoute n) = some (0x1F : Word).toNat ∧ regKind (Reg.evcRoute n) = some .plain := by
    unfold openAddr; decide +kernel
  have hcl : ∀ n < 16, openAddr (Reg.flmClCtrl n) ∧ rwMask (Reg.flmClCtrl n) = some (0xFFFF : Word).toNat ∧ regKind (Reg.flmClCtrl n) = some .plain := by
    unfold openAddr; decide +kernel
  have hsel : ∀ n < 64, openAddr (Reg.pmcSel n) ∧ rwMask (Reg.pmcSel n) = some (0xC1FF03FF : Word).toNat ∧ regKind (Reg.pmcSel n) = some .plain := by
    unfold openAddr; decide +kernel
  simp only [List.mem_cons, List.not_mem_nil, or_false] at he hfix
  by_cases hidx : e = (Reg.evcRoute n, 0x1F) ∨ e = (Reg.flmClCtrl (n % 16), 0xFFFF) ∨ e = (Reg.pmcSel (n % 64), 0xC1FF03FF)
  · rcases hidx with rfl | rfl | rfl
    · obtain ⟨h1, h2, h3⟩ := hroute n hn
      exact ⟨h1, h2, h3, .inr (.inl (by simp only [Reg.evcRoute]; omega))⟩
    · obtain ⟨h1, h2, h3⟩ := hcl (n % 16) (by omega)
      exact ⟨h1, h2, h3, .inr (.inr (.inr (by simp only [Reg.flmClCtrl]; omega)))⟩
    · obtain ⟨h1, h2, h3⟩ := hsel (n % 64) (by omega)
      exact ⟨h1, h2, h3, .inr (.inr (.inl (by simp only [Reg.pmcSel]; omega)))⟩
  · obtain ⟨h1, h2, h3, h4⟩ := hfix e (by
      rcases he with h | h | h | h | h | h | h | h
      exacts [.inl h, .inr (.inl h), .inr (.inr (.inl h)), .inr (.inr (.inr (.inl h))), .inr (.inr (.inr (.inr h))), absurd (.inl h) hidx,
        absurd (.inr (.inl h)) hidx, absurd (.inr (.inr h)) hidx])
    exact ⟨h1, h2, h3, .inl (by simpa using h4)⟩

/-- The registers whose plain reads the obligation lists, with the bits a read clears. -/
theorem plainReads {e : Nat × Word} (he : e ∈ ([(Reg.bootNext, 0), (Reg.tbFreq, 0), (Reg.qmEvents, 0x7), (Reg.ssvMainsEvents, 0x3F),
    (Reg.clkPllEvents, 0x7F), (Reg.glbAccErr, 0xC0000000)] : List (Nat × Word))) : openAddr e.1 ∧ regKind e.1 = some .plain ∧
    e.1 ∈ [Reg.bootNext, Reg.tbFreq, Reg.qmEvents, Reg.ssvMainsEvents, Reg.clkPllEvents, Reg.glbAccErr] ∧ (latchOf e.1 = [] ∧ latchable e.1 = false) ∧
    rcMask e.1 = e.2.toNat ∧ (e.1 < 0x300000 ∨ 0x400000 ≤ e.1) ∧ e.1 ≠ Reg.tbEvents := by
  revert e
  unfold openAddr
  decide +kernel

/-- Settles O39: writes from the bits a register stores, reads from its value and the bits a read clears, refusals from what they record, and
the data ports from how their address registers move. -/
theorem registerBus : Obligations.RegisterBus := by
  intro s acc hacc hup hheld
  refine ⟨fun v n hn e he => ?_, fun a v h4 ha hnone => ?_, fun g o hg ho hgate h31 => ?_, fun e he => ?_,
    fun i hi => registerRead_counter hacc hup hheld hi, fun k v hk hrun hv => ceRunWrite_starts hacc hup hheld hk hrun hv,
    fun k v hk hrun hv hwb => ceRunWrite_stops hacc hup hheld hk hrun hv hwb, fun cl v hcl => psDataWrite_spec hacc hup hheld hcl rfl,
    fun cl v hcl => ⟨shmWrite_spec hacc hup hheld hcl rfl, shmRead_spec hacc hup hheld hcl rfl⟩⟩
  · obtain ⟨h1, h2, h3, h4⟩ := plainWrites hn he
    exact registerWrite_plain hacc hup hheld h1 h2 (writeReg_plain s acc v h3 h4)
  · have hreach := reach_none (acc := acc) hup hnone
    have hw : exec (.registerWrite acc a v) s = .next (s.accErr acc a 0 true) := by
      rw [registerWrite_eq hacc hheld h4 ha, State.busWrite, hreach]
    obtain ⟨k1, k2, k3, k4⟩ := accErr_spec s (kind := 0) (w := true) hacc (by decide) ha
    obtain ⟨l1, l2, l3, -⟩ := accErr_spec s (kind := 0) (w := false) hacc (by decide) ha
    refine ⟨fun h31 => ?_, fun h31 => ?_, ?_⟩
    · obtain ⟨e1, e2, e3, e4, e5⟩ := k3 h31
      exact ⟨_, hw, k1, e1, e2, e3, e4, e5, k2⟩
    · obtain ⟨e1, e2, e3⟩ := k4 h31
      exact ⟨_, hw, e1, e2, e3⟩
    · refine ⟨s.readInto acc a, registerRead_eq hacc hheld h4 ha, ?_, fun h31 => ?_, ?_⟩
      · rw [State.readInto, State.busRead, hreach]
        exact (SMap.get_set ..).trans (if_pos rfl)
      · rw [State.readInto, State.busRead, hreach]
        exact ⟨(l3 h31).2.1, (l3 h31).2.2.2.2⟩
      · rw [State.readInto, State.busRead, hreach]
        exact l2
  · have ho' : o < 0x4000 ∧ o % 4 = 0 := by
      simp only [List.mem_cons, List.not_mem_nil, or_false] at ho; omega
    obtain ⟨k1, k2, k3, -⟩ := accErr_spec s (a := 0x100000 + 0x4000 * g + o) (kind := 1) (w := true) hacc (by decide) (by omega)
    obtain ⟨-, e2, -, e4, -⟩ := k3 h31
    refine ⟨_, ?_, k1, e2, e4, k2⟩
    rw [registerWrite_eq hacc hheld (by omega) (by omega), State.busWrite, reach_gated hup hg ho hgate]
  · obtain ⟨h1, h2, h3, h4, h5, h6⟩ := plainReads he
    exact registerRead_plain hacc hup hheld h1 h2 (live_none s h3) h4 h5 h6

end Sys2Proof.Machine
end

section
/-! PROOFS. One microword that loads, extracts and writes no field, and the control store. -/
namespace Sys2Proof.Machine

section
variable (s : State)

theorem exec_microwordExecute (slice : Nat) (err : Option StoreError) :
    exec (.microwordExecute slice err) s = execMicrowordExecute slice err s := rfl
theorem exec_parseEnd (slice : Nat) : exec (.parseEnd slice) s = execParseEnd slice s := rfl
theorem exec_ucWrite (acc : Nat) (v : Word) : exec (.ucWrite acc v) s = execUcWrite acc v s := rfl
theorem exec_ucRead (acc : Nat) (v : Word) : exec (.ucRead acc v) s = execUcRead acc v s := rfl
theorem exec_hdgCtrlWrite (acc : Nat) (v : Word) : exec (.hdgCtrlWrite acc v) s = execHdgCtrlWrite acc v s := rfl

end

section
variable {s : State} {k acc w a b res : Nat} {x y : Slice} {v : Word}

/-! ### A microword that only computes -/

/-- A slice about to execute word `w` with operands `a` and `b`, which loads nothing, extracts nothing and writes no field of the result. -/
structure Computes (s : State) (k w a b res : Nat) (x y : Slice) : Prop where
  slice : k < 160
  at_ : s.hdg.slices.get k = x
  running : x.st = .running
  begun : x.first = false
  free : s.bit Reg.hdgCtrl 0 = false
  word : w = s.hdg.ucode.get (k / 8 * 4096 + x.addr)
  low : w % 2 ^ 40 = 0
  words : x.res.words < (if s.fld Reg.hdgCtrl 15 8 = 0 then 255 else s.fld Reg.hdgCtrl 15 8)
  ldw : w / 2 ^ 172 % 8 = 0
  xen : w / 2 ^ 90 % 2 = 0
  oen : w / 2 ^ 69 % 2 = 0
  fen : w / 2 ^ 64 % 2 = 0
  lvl : w / 2 ^ 57 % 4 = 0
  tag : w / 2 ^ 55 % 4 = 0
  cls : w / 2 ^ 40 % 4 = 0
  dst : w / 2 ^ 118 % 8 < 5
  adv : w / 2 ^ 99 % 8 < 5
  opA : a = x.scratch.get 0
  opB : (w / 2 ^ 124 % 8 = 0 ∧ b = w / 2 ^ 102 % 2 ^ 16) ∨ (w / 2 ^ 124 % 8 = 2 ∧ b = x.scratch.get 1)
  alu : (w / 2 ^ 121 % 8, res) ∈ [(0, a), (1, (a + b) % 2 ^ 32), (3, Nat.land a b), (4, Nat.lor a b), (5, Nat.xor a b)]
  after : y = { x with
    cur := min 511 (match w / 2 ^ 99 % 8 with
      | 1 => x.cur + w / 2 ^ 91 % 256
      | 2 => x.cur + res * 4 + w / 2 ^ 91 % 256
      | 3 => x.cur + res * 8 + w / 2 ^ 91 % 256
      | 4 => x.cur + res + w / 2 ^ 91 % 256
      | _ => x.cur)
    res := { x.res with words := x.res.words + 1 }
    scratch := if w / 2 ^ 118 % 8 = 0 then x.scratch else x.scratch.set (w / 2 ^ 118 % 8 - 1) res }

/-- The fields that such a word leaves at 0. -/
theorem Computes.fields (h : Computes s k w a b res x y) : uwLdw w = 0 ∧ uwXen w = false ∧ uwOen w = false ∧ uwFen w = false ∧ uwLvl w = 0 ∧
    uwTag w = 0 ∧ uwPcen w = false ∧ uwTcen w = false ∧ uwDst w < 5 ∧ uwAdv w < 5 ∧ uwAlu w < 6 := by
  have halu : w / 2 ^ 121 % 8 < 6 := by
    have h := h.alu
    simp only [List.mem_cons, Prod.mk.injEq, List.not_mem_nil, or_false] at h
    omega
  have h1 := h.xen
  have h2 := h.oen
  have h3 := h.fen
  have h4 := h.cls
  refine ⟨h.ldw, ?_, ?_, ?_, h.lvl, h.tag, ?_, ?_, h.dst, h.adv, halu⟩
  · rw [uwXen, bitAt, beq_eq_false_iff_ne]; omega
  · rw [uwOen, bitAt, beq_eq_false_iff_ne]; omega
  · rw [uwFen, bitAt, beq_eq_false_iff_ne]; omega
  · rw [uwPcen, bitAt, beq_eq_false_iff_ne]; omega
  · rw [uwTcen, bitAt, beq_eq_false_iff_ne]; omega

theorem Computes.uwRes_eq (h : Computes s k w a b res x y) (win : List Byte) : uwA x win w = a ∧ uwB x w = b ∧ uwRes w a b = res := by
  obtain ⟨hldw, -⟩ := h.fields
  refine ⟨?_, ?_, ?_⟩
  · rw [uwA, hldw, if_pos rfl, h.opA]
  · rw [uwB]
    rcases h.opB with ⟨h0, hb⟩ | ⟨h2, hb⟩
    · rw [show uwBsel w = 0 from h0, hb]; rfl
    · rw [show uwBsel w = 2 from h2, hb]; rfl
  · have halu := h.alu
    rw [uwRes]
    simp only [List.mem_cons, Prod.mk.injEq, List.not_mem_nil, or_false] at halu
    rcases halu with ⟨h1, h2⟩ | ⟨h1, h2⟩ | ⟨h1, h2⟩ | ⟨h1, h2⟩ | ⟨h1, h2⟩ <;> rw [show uwAlu w = _ from h1, h2] <;> rfl

theorem Computes.uwResult_eq (h : Computes s k w a b res x y) (win : List Byte) : uwResult x win w res = x.res := by
  obtain ⟨-, hxen, hoen, hfen, hlvl, htag, hpcen, htcen, -⟩ := h.fields
  simp only [uwResult, hxen, hoen, hfen, hlvl, htag, hpcen, htcen, Bool.false_and, Bool.false_eq_true, if_false]
  rfl

theorem Computes.uwFault_eq (h : Computes s k w a b res x y) (h1 : 1 ≤ uwSeq w) (h12 : uwSeq w ≤ 12) (h8 : uwSeq w = 8 → x.stack.length < 4)
    (h9 : uwSeq w = 9 → x.stack ≠ []) : uwFault w x.stack = none := by
  obtain ⟨hldw, hxen, -, -, hlvl, htag, -, -, hdst, hadv, halu⟩ := h.fields
  have hlow := h.low
  have hreserved : (decide (5 ≤ uwLdw w) || decide (6 ≤ uwAlu w) || decide (5 ≤ uwDst w) || decide (5 ≤ uwAdv w) || decide (2 ≤ uwLvl w) ||
      uwTag w == 3 || (uwXen w && (uwXlen w == 0 || decide (17 ≤ uwXlen w)))) = false := by
    simp only [hldw, hxen, hlvl, htag, Bool.false_and, Bool.or_false, Bool.or_eq_false_iff, decide_eq_false_iff_not]
    refine ⟨⟨⟨⟨⟨?_, ?_⟩, ?_⟩, ?_⟩, ?_⟩, rfl⟩ <;> omega
  rw [uwFault, hreserved, if_neg (by omega), if_neg (by omega), if_neg (by decide), if_neg (by omega), if_neg, if_neg, if_neg (by simp [hxen])]
  · exact fun hs => h9 hs.1 hs.2
  · exact fun hs => absurd (h8 hs.1) (by omega)

theorem Computes.uwCheck_eq (h : Computes s k w a b res x y) : s.uwCheck x w = none := by
  obtain ⟨hldw, hxen, hoen, -, hlvl, htag, -⟩ := h.fields
  rw [State.uwCheck]
  simp only [hldw, hxen, hoen, hlvl, htag]
  simp

/-- The slice after such a word, before its next address. -/
theorem Computes.after_eq (h : Computes s k w a b res x y) (win : List Byte) :
    ({ x with cur := uwCur x w res, first := false, res := { uwResult x win w res with words := x.res.words + 1 },
              scratch := if uwDst w = 0 then x.scratch else x.scratch.set (uwDst w - 1) res } : Slice) = y := by
  have hcur : uwCur x w res = y.cur := by rw [h.after]; rfl
  have hscratch : (if uwDst w = 0 then x.scratch else x.scratch.set (uwDst w - 1) res) = y.scratch := by rw [h.after]; rfl
  rw [h.uwResult_eq, hcur, hscratch, h.after]
  have hfirst := h.begun
  cases x
  simp only at hfirst
  rw [hfirst]

theorem Computes.exec_eq (h : Computes s k w a b res x y) (hup : s.coreUp = true) (h1 : 1 ≤ uwSeq w) (h12 : uwSeq w ≤ 12)
    (h8 : uwSeq w = 8 → x.stack.length < 4) (h9 : uwSeq w = 9 → x.stack ≠ []) :
    exec (.microwordExecute k none) s = .next (match uwSequence x w a b res with
      | .go addr st => s.setSlice k { y with addr := addr, stack := st }
      | .done => s.setSlice k (endParse (s.fld (Reg.hdgMalCtrl x.res.group) 1 0) y none)
      | .malformed r => s.setSlice k (endParse (s.fld (Reg.hdgMalCtrl x.res.group) 1 0) y (some r))) := by
  have hrunning : ({ x with st := .running, first := false } : Slice) = x := by
    have hst := h.running
    have hfirst := h.begun
    cases x
    simp only at hst hfirst
    rw [hst, hfirst]
  have hword := h.words
  obtain ⟨hA, hB, hR⟩ := h.uwRes_eq (s.pkt x.res.pkt).bytes
  rw [exec_microwordExecute, execMicrowordExecute, decide_eq_true h.slice, Option.all_none, whenWf, if_pos (by decide), h.at_]
  dsimp only
  simp only [h.begun, Bool.false_eq_true, if_false]
  rw [hup, h.running, if_neg (by decide), Option.isSome_none, if_neg (by decide), h.free, Bool.false_and, if_neg (by decide),
    hrunning, State.runWord]
  dsimp only
  rw [if_neg (by omega), ← h.word, h.uwFault_eq h1 h12 h8 h9]
  dsimp only
  rw [h.uwCheck_eq]
  dsimp only
  rw [hA, hB, hR, ← h.after_eq (s.pkt x.res.pkt).bytes] <;> rfl

/-- What comes after such a word, by its SEQ. -/
theorem Computes.sequence_eq (h : Computes s k w a b res x y) : uwSequence x w a b res =
    if uwSeq w = 12 then .malformed (uwRsn w) else match uwSeq w with
      | 1 => .go ((x.addr + 1) % 4096) x.stack
      | 2 => .go (uwNext w) x.stack
      | 3 => .go (if res == 0 then uwNext w else (x.addr + 1) % 4096) x.stack
      | 4 => .go (if res != 0 then uwNext w else (x.addr + 1) % 4096) x.stack
      | 5 => .go (if decide (a < b) then uwNext w else (x.addr + 1) % 4096) x.stack
      | 6 => .go (if decide (b ≤ a) then uwNext w else (x.addr + 1) % 4096) x.stack
      | 7 => .go ((uwNext w + res % 16) % 4096) x.stack
      | 8 => .go (uwNext w) ((x.addr + 1) % 4096 :: x.stack)
      | 9 => .go (x.stack.headD 0) (x.stack.drop 1)
      | 11 => if res = 0 then .done else .go (uwNext w) x.stack
      | _ => .done := by
  obtain ⟨-, -, -, hfen, -⟩ := h.fields
  rw [uwSequence, hfen] <;> rfl

theorem uwSeq_eq {n : Nat} (hn : n < 16) (h : w / 2 ^ 188 = n) : uwSeq w = n := by
  rw [uwSeq, bitsOf, h]; exact Nat.mod_eq_of_lt hn

/-- A word whose next address and stack are known. -/
theorem Computes.goes (h : Computes s k w a b res x y) (hup : s.coreUp = true) {n addr : Nat} {st : List Nat} (hn : 1 ≤ n ∧ n ≤ 12) (hseq : w / 2 ^ 188 = n)
    (h8 : n = 8 → x.stack.length < 4) (h9 : n = 9 → x.stack ≠ []) (hgo : uwSequence x w a b res = .go addr st) :
    exec (.microwordExecute k none) s = .next (s.setSlice k { y with addr := addr, stack := st }) := by
  have hs := uwSeq_eq (n := n) (by omega) hseq
  rw [h.exec_eq hup (by omega) (by omega) (by rwa [hs]) (by rwa [hs]), hgo]

/-- A word that goes on with the same stack. -/
theorem Computes.branches (h : Computes s k w a b res x y) (hup : s.coreUp = true) {n : Nat} {addr : Nat} (hn : 1 ≤ n ∧ n ≤ 7) (hseq : w / 2 ^ 188 = n)
    (hgo : uwSequence x w a b res = .go addr x.stack) : exec (.microwordExecute k none) s = .next (s.setSlice k { y with addr := addr }) := by
  have hstack : y.stack = x.stack := by rw [h.after]
  rw [h.goes hup (by omega) hseq (by omega) (by omega) hgo, ← hstack]

/-- A word that ends the parse. -/
theorem Computes.ends (h : Computes s k w a b res x y) (hup : s.coreUp = true) {n : Nat} {reason : Option Nat} (hn : n = 10 ∨ n = 12) (hseq : w / 2 ^ 188 = n)
    (hend : (uwSequence x w a b res = .done ∧ reason = none) ∨ ∃ r, uwSequence x w a b res = .malformed r ∧ reason = some r) :
    ∃ t, exec (.microwordExecute k none) s = .next t ∧ (t.hdg.slices.get k).st = .waiting ∧ (t.hdg.slices.get k).res.reason = reason.getD 0 ∧
      (t.hdg.slices.get k).res.parseEnd = y.cur ∧ (reason.isSome = true → bitAt (t.hdg.slices.get k).res.flags 0 = true) ∧
      (t.hdg.slices.get k).action = s.fld (Reg.hdgMalCtrl x.res.group) 1 0 ∧ t = { s with hdg := t.hdg } := by
  have hs := uwSeq_eq (n := n) (by omega) hseq
  obtain ⟨z, hz⟩ : ∃ z, z = endParse (s.fld (Reg.hdgMalCtrl x.res.group) 1 0) y reason := ⟨_, rfl⟩
  have hexec : exec (.microwordExecute k none) s = .next (s.setSlice k z) := by
    rw [h.exec_eq hup (by omega) (by omega) (by omega) (by omega), hz]
    rcases hend with ⟨h1, h2⟩ | ⟨r, h1, h2⟩ <;> rw [h1, h2]
  have hget : (s.setSlice k z).hdg.slices.get k = z := (SMap.get_set ..).trans (if_pos rfl)
  refine ⟨_, hexec, by rw [hget, hz]; rfl, by rw [hget, hz]; rfl, by rw [hget, hz]; rfl, fun hr => ?_, by rw [hget, hz]; rfl, rfl⟩
  rw [hget, hz, endParse]
  dsimp only
  rw [if_pos hr, bitAt_eq_testBit]
  exact (Nat.testBit_lor ..).trans (by simp)

/-! ### The control store -/

theorem ucCmd_eq {op : Nat} (hreach : s.reaches acc Reg.hdgUcCmd) (hop : Wbits v 1 0 = op) :
    writeRow (acc < 7) acc Reg.hdgUcCmd (Wbits v 1 0 == op) (fun t => writeUcCmd t v) s = .next (writeUcCmd s v) :=
  writeRow_reaches hreach (by simpa using hreach.1) (by simpa using hop) _

/-- UC_ADDR after a command, moved on where it counts. -/
def State.ucMoved (s : State) (v : Word) : State :=
  if Wbits v 4 4 = 1 then s.setFld Reg.hdgUcAddr 11 0 (s.fld Reg.hdgUcAddr 11 0 + 1) else s

theorem Wbits_bit_iff (v : Word) (i : Nat) : Wbits v i i = 1 ↔ v.getLsbD i = true := by
  rw [Wbits, bitsOf, Nat.add_sub_cancel_left, pow_one, BitVec.getLsbD, ← bitAt_eq_testBit, bitAt, beq_iff_eq]

theorem ucMoved_spec (s : State) (v : Word) : s.RegsOnly (s.ucMoved v) ∧ s.regsBut (s.ucMoved v) [Reg.hdgUcAddr] ∧
    (s.ucMoved v).fld Reg.hdgUcAddr 11 0 = (s.fld Reg.hdgUcAddr 11 0 + if v.getLsbD 4 then 1 else 0) % 4096 := by
  rw [State.ucMoved]
  by_cases hv : v.getLsbD 4 = true
  · rw [if_pos ((Wbits_bit_iff v 4).mpr hv), if_pos hv]
    exact ⟨State.RegsOnly.refl.setFld, fun a ha => State.rd_setFld_other _ _ _ _ _ _ (by simpa using ha),
      State.fld_setFld_same _ _ _ _ _ (by decide) (by decide)⟩
  · rw [if_neg fun h => hv ((Wbits_bit_iff v 4).mp h), if_neg hv]
    exact ⟨.refl, fun _ _ => rfl, (Nat.mod_eq_of_lt (Wbits_lt ..)).symm⟩

theorem ucWrite_spec (hreach : s.reaches acc Reg.hdgUcCmd) (hop : Wbits v 1 0 = 1) {at_ : Nat} (hat : at_ = s.fld Reg.hdgUcAddr 11 0) :
    ∃ t, exec (.ucWrite acc v) s = .next t ∧
      (∀ g < 20, t.hdg.ucode.get (g * 4096 + at_) = leNat ((List.range 6).flatMap fun i => leBytes (s.rd (Reg.hdgUcData i)).toNat 4)) ∧
      (∀ n, n % 4096 ≠ at_ ∨ 20 * 4096 ≤ n → t.hdg.ucode.get n = s.hdg.ucode.get n) ∧ t = { s with regs := t.regs, hdg := t.hdg } ∧
      t.fld Reg.hdgUcAddr 11 0 = (at_ + if v.getLsbD 4 then 1 else 0) % 4096 ∧ s.regsBut t [Reg.hdgUcAddr] := by
  obtain ⟨n, hn⟩ : ∃ n, n = leNat ((List.range 6).flatMap fun i => leBytes (s.rd (Reg.hdgUcData i)).toNat 4) := ⟨_, rfl⟩
  obtain ⟨u, hu⟩ : ∃ u : State, u = { s with hdg.ucode := (List.range 20).foldl (fun m g => m.set (g * 4096 + at_) n) s.hdg.ucode } := ⟨_, rfl⟩
  have hurd : ∀ a, u.rd a = s.rd a := fun a => by rw [hu]; rfl
  have hfld : u.fld Reg.hdgUcAddr 11 0 = at_ := by rw [State.fld_of_rd (hurd _), hat]
  obtain ⟨h1, h2, h3⟩ := ucMoved_spec u v
  have hexec : exec (.ucWrite acc v) s = .next (u.ucMoved v) := by
    rw [exec_ucWrite, execUcWrite, ucCmd_eq hreach hop, writeUcCmd, State.ucMoved, hfld, hop, ← hat, ← hn]
    dsimp only
    rw [if_pos rfl, ← hu]
    simp only [true_or, and_true]
  have hucode : (u.ucMoved v).hdg.ucode.get = fun j => if j ∈ (List.range 20).map (fun g => g * 4096 + at_) then n else s.hdg.ucode.get j := by
    have hh : (u.ucMoved v).hdg = u.hdg := by rw [h1]
    rw [hh, hu]
    funext j
    rw [← get_foldl_set, List.foldl_map]
  have hlt : at_ < 4096 := hat ▸ Wbits_lt _ 11 0
  refine ⟨_, hexec, fun g hg => ?_, fun j hj => ?_, ?_, ?_, fun a ha => (h2 a ha).trans (hurd a)⟩
  · rw [hucode, ← hn]
    exact if_pos (List.mem_map.mpr ⟨g, List.mem_range.mpr hg, rfl⟩)
  · rw [hucode]
    refine if_neg fun h => ?_
    obtain ⟨g, hg, rfl⟩ := List.mem_map.mp h
    have := List.mem_range.mp hg
    omega
  · rw [h1, hu]
  · rw [h3, hfld]

/-- UC_DATA loaded with the six words of a microword. -/
def State.ucLoaded (s : State) (n : Nat) : State := (List.range 6).foldl (fun t i => t.wr (Reg.hdgUcData i) (BitVec.ofNat 32 (n / 2 ^ (32 * i)))) s

theorem ucLoaded_spec (s : State) (n : Nat) : s.RegsOnly (s.ucLoaded n) ∧ (∀ i < 6, ((s.ucLoaded n).rd (Reg.hdgUcData i)).toNat = n / 2 ^ (32 * i) % 2 ^ 32) ∧
    ∀ a, (∀ i < 6, a ≠ Reg.hdgUcData i) → (s.ucLoaded n).rd a = s.rd a := by
  have hstep : ∀ (t : State) i a, a ≠ Reg.hdgUcData i → (t.wr (Reg.hdgUcData i) (BitVec.ofNat 32 (n / 2 ^ (32 * i)))).rd a = t.rd a := fun t i a ha => by
    rw [State.rd_wr, if_neg ha]
  have hinj : ∀ i j, Reg.hdgUcData i = Reg.hdgUcData j → i = j := fun i j h => by
    unfold Reg.hdgUcData at h; omega
  rw [State.ucLoaded]
  refine ⟨List.foldlRecOn (List.range 6) _ (motive := fun t => s.RegsOnly t) State.RegsOnly.refl fun _ hu _ _ => hu.wr, fun i hi => ?_,
    fun a ha => rd_foldl_apart (f := Reg.hdgUcData) hstep _ s fun i hi => ha i (List.mem_range.mp hi)⟩
  obtain ⟨t, -, -, hfin⟩ := rd_foldl_at (f := Reg.hdgUcData) (P := fun _ => True) hstep hinj (fun _ _ _ => trivial) _
    List.nodup_range (List.mem_range.mpr hi) s trivial
  rw [hfin, State.rd_wr, if_pos rfl, BitVec.toNat_ofNat]

theorem ucRead_spec (hreach : s.reaches acc Reg.hdgUcCmd) (hop : Wbits v 1 0 = 2) (hg : s.fld Reg.hdgUcAddr 20 16 < 20) :
    ∃ t, exec (.ucRead acc v) s = .next t ∧
      (∀ i < 6, (t.rd (Reg.hdgUcData i)).toNat =
        s.hdg.ucode.get (s.fld Reg.hdgUcAddr 20 16 * 4096 + s.fld Reg.hdgUcAddr 11 0) / 2 ^ (32 * i) % 2 ^ 32) ∧ t = { s with regs := t.regs } ∧
      ∀ a, a ≠ Reg.hdgUcAddr → (∀ i < 6, a ≠ Reg.hdgUcData i) → t.rd a = s.rd a := by
  obtain ⟨n, hn⟩ : ∃ n, n = s.hdg.ucode.get (s.fld Reg.hdgUcAddr 20 16 * 4096 + s.fld Reg.hdgUcAddr 11 0) := ⟨_, rfl⟩
  obtain ⟨u, hu⟩ : ∃ u, u = s.ucLoaded n := ⟨_, rfl⟩
  obtain ⟨l1, l2, l3⟩ := ucLoaded_spec s n
  rw [← hu] at l1 l2 l3
  have hfld : u.fld Reg.hdgUcAddr 11 0 = s.fld Reg.hdgUcAddr 11 0 := State.fld_of_rd (l3 _ (by decide)) 11 0
  obtain ⟨h1, h2, -⟩ := ucMoved_spec u v
  have hexec : exec (.ucRead acc v) s = .next (u.ucMoved v) := by
    rw [exec_ucRead, execUcRead, ucCmd_eq hreach hop, writeUcCmd, State.ucMoved, hfld, hop]
    dsimp only
    rw [if_neg (show ¬ 2 = 1 by decide), if_pos (show 2 = 2 from rfl), if_pos hg, ← hn, ← State.ucLoaded, ← hu]
    simp only [Nat.reduceEqDiff, or_true, and_true]
  have hne : ∀ i < 6, Reg.hdgUcData i ≠ Reg.hdgUcAddr := by decide
  refine ⟨_, hexec, fun i hi => ?_, l1.trans h1, fun a ha hd => ?_⟩
  · rw [← hn, ← l2 i hi, h2 _ (by simpa using hne i hi)]
  · rw [h2 a (by simpa using ha), l3 a hd]

theorem hdgCtrlWrite_spec (hreach : s.reaches acc Reg.hdgCtrl) : ∃ t, exec (.hdgCtrlWrite acc v) s = .next t ∧ t.rd Reg.hdgCtrl = v &&& 0xFF01 ∧
    s.regsBut t [Reg.hdgCtrl] ∧ t = { s with regs := t.regs } := by
  refine ⟨s.wr Reg.hdgCtrl (v &&& 0xFF01#32), ?_, (State.rd_wr ..).trans (if_pos rfl), fun a ha => by rw [State.rd_wr, if_neg (by simpa using ha)], rfl⟩
  rw [exec_hdgCtrlWrite, execHdgCtrlWrite, writeRow_reaches hreach (by simpa using hreach.1) rfl, writeHdgCtrl]

end

end Sys2Proof.Machine
end

section
/-! PROOFS. What a frame's way to the egress queues leaves unchanged (R372–R374, R573–R586). -/
namespace Sys2Proof.Machine

/-- The parts of the state that a frame's way out of the packet buffer changes. -/
def outParts : List Part := [.freeCtr, .regs, .ctrs, .qm, .bpm, .sch, .block 72, .block 258]

/-- A step of a frame's way out: these parts alone, and no counter or register of a block before the egress queues'. -/
structure State.Outgoes (s t : State) : Prop where
  only : State.Only outParts s t
  ctr : ∀ c, c < 0x480000 → t.ctr c = s.ctr c
  rd : ∀ c, c < 0x480000 → t.rd c = s.rd c

section
variable {s t u : State}

theorem State.Outgoes.refl (s : State) : s.Outgoes s := ⟨.refl _ _, fun _ _ => rfl, fun _ _ => rfl⟩
theorem State.Outgoes.trans (h : s.Outgoes t) (k : t.Outgoes u) : s.Outgoes u :=
  ⟨h.only.trans k.only, fun c hc => (k.ctr c hc).trans (h.ctr c hc), fun c hc => (k.rd c hc).trans (h.rd c hc)⟩
theorem State.Outgoes.ite {c : Prop} [Decidable c] (h : s.Outgoes t) (k : s.Outgoes u) : s.Outgoes (if c then t else u) := by
  split_ifs
  · exact h
  · exact k
theorem State.Outgoes.of_ctrs (h : State.Only outParts s t) (hc : t.ctrs = s.ctrs) (hr : t.regs = s.regs) : s.Outgoes t :=
  ⟨h, fun c _ => by rw [State.ctr, hc, ← State.ctr], fun c _ => State.rd_of_regs hr c⟩
theorem State.Outgoes.foldl {α : Type} {f : State → α → State} (hf : ∀ (t : State) x, t.Outgoes (f t x)) (l : List α) (s : State) :
    s.Outgoes (l.foldl f s) := by
  induction l generalizing s with
  | nil => exact .refl s
  | cons x xs ih => exact (hf s x).trans (ih _)

variable (s : State)

theorem outgoes_draw (k : Nat) : s.Outgoes (s.draw k).2 := .of_ctrs ((only_set_freeCtr _ (by decide)).mpr (.refl _ _)) rfl rfl
theorem outgoes_setQm (q : SwitchCore) : s.Outgoes { s with qm := q } := .of_ctrs ((only_set_qm _ (by decide)).mpr (.refl _ _)) rfl rfl
theorem outgoes_setSch (q : Egress) : s.Outgoes { s with sch := q } := .of_ctrs ((only_set_sch _ (by decide)).mpr (.refl _ _)) rfl rfl
theorem outgoes_bump {a : Nat} (n : Nat) (ha : 0x480000 ≤ a) : s.Outgoes (s.bump a n) :=
  ⟨(only_bump _ _ (by decide)).mpr (.refl _ _), fun c hc => by rw [State.ctr_bump, if_neg (by omega)], fun _ _ => rfl⟩
theorem outgoes_count (ev : Nat) (is : List Nat) (n : Nat) : s.Outgoes (s.count ev is n) :=
  ⟨(only_count _ _ _ (by decide)).mpr (.refl _ _), fun c hc => State.ctr_count _ _ _ _ _ (by omega), fun c hc => State.rd_count _ _ _ _ _ (by omega)⟩
theorem outgoes_setEvent {a : Nat} (b n : Nat) (h : regParts a ⊆ outParts) (ha : 0x480000 ≤ a) : s.Outgoes (s.setEvent a b n) :=
  ⟨(only_setEvent _ _ _ h (by decide)).mpr (.refl _ _), fun c hc => by rw [State.setEvent, State.ctr_raiseEvent _ _ _ (by omega)]; rfl,
    fun c hc => by rw [State.setEvent, State.rd_raiseEvent _ _ _ (by omega)]; exact State.rd_setBit_other _ _ _ _ _ (by omega)⟩
theorem outgoes_record {a : Nat} (v : Nat) (h : regParts a ⊆ outParts) (ha : 0x480000 ≤ a) : s.Outgoes (s.record a v) :=
  ⟨(only_record _ _ h).mpr (.refl _ _), fun _ _ => rfl, fun c hc => by rw [State.record, State.rd_wr, if_neg (by omega)]⟩
theorem outgoes_spill (i n : Nat) : s.Outgoes (s.spill i n) :=
  (outgoes_bump s n (by unfold Reg.qmSpill; omega)).trans (outgoes_count _ _ _ _)
theorem outgoes_setTx (p : Nat) (x : Tx) : s.Outgoes (s.setTx p x) := outgoes_setSch s _
theorem outgoes_setCopy (i : Nat) (c : Copy) : s.Outgoes (s.setCopy i c) := outgoes_setQm s _
theorem outgoes_setPkt (i : Nat) (p : Pkt) : s.Outgoes (s.setPkt i p) := outgoes_setQm s _

theorem outgoes_lostCopy (siphon : Bool) (i p : Nat) (k : Option Nat) : s.Outgoes (s.lostCopy siphon i p k) := by
  unfold State.lostCopy
  dsimp only
  split
  · exact (outgoes_spill s _ _).trans (.ite (outgoes_bump _ _ (by unfold qmCtr Reg.qmCnt; omega)) (.refl _))
  · exact outgoes_spill s _ _

theorem outgoes_chargeSluices (c : Copy) : s.Outgoes (s.chargeSluices c) :=
  .foldl (fun t _ => .ite (outgoes_setSch t _) (.refl t)) _ _

theorem outgoes_setBpm (b : BufferPools) : s.Outgoes { s with bpm := b } := .of_ctrs ((only_set_bpm _ (by decide)).mpr (.refl _ _)) rfl rfl

theorem outgoes_returnBuffer (o k b : Nat) : s.Outgoes (s.returnBuffer o k b) := by
  unfold State.returnBuffer State.lowRearm
  exact (((outgoes_setBpm s _).trans (outgoes_setBpm _ _)).trans (outgoes_bump _ _ (by unfold Reg.bpmOwnCnt; omega))).trans
    (.ite (outgoes_setBpm _ _) (.refl _))

theorem outgoes_returnCells (o : Nat) (cells : List Nat) : s.Outgoes (s.returnCells o cells) :=
  .foldl (fun t _ => outgoes_returnBuffer t _ _ _) _ _

theorem outgoes_freePkt (i : Nat) : s.Outgoes (s.freePkt i) := by
  unfold State.freePkt
  exact ((outgoes_setPkt s _ _).trans (.ite (.refl _) (outgoes_returnCells _ _ _))).trans (outgoes_returnCells _ _ _)

theorem outgoes_allocFail (o : Nat) : s.Outgoes (s.allocFail o) :=
  (outgoes_bump s _ (by unfold Reg.bpmOwnCnt; omega)).trans (outgoes_setEvent _ _ _ (by decide) (by decide))

theorem outgoes_setHeld (o k n : Nat) : s.Outgoes (s.setHeld o k n) := outgoes_setBpm s _
theorem outgoes_setPool (k : Nat) (p : Pool) : s.Outgoes (s.setPool k p) := outgoes_setBpm s _

theorem outgoes_lowWater (k : Nat) : s.Outgoes (s.lowWater k) :=
  .ite ((outgoes_setPool s _ _).trans (outgoes_setEvent _ _ _ (by decide) (by decide))) (.refl _)

theorem outgoes_takeBuffer {o k b : Nat} {t : State} (h : s.takeBuffer o k = some (b, t)) : s.Outgoes t := by
  unfold State.takeBuffer at h
  split_ifs at h
  split at h
  · exact absurd h (by simp)
  next c u hhead =>
    have hu : s.Outgoes u := by
      unfold State.takeHead at hhead
      split_ifs at hhead
      all_goals
        dsimp only at hhead
        split at hhead
        all_goals
          obtain ⟨-, rfl⟩ := Prod.mk.inj (Option.some.inj hhead)
          exact outgoes_setBpm s _
    obtain ⟨-, rfl⟩ := Prod.mk.inj (Option.some.inj h)
    exact ((hu.trans (outgoes_setHeld u o k _)).trans (outgoes_bump _ _ (by unfold Reg.bpmOwnCnt; omega))).trans (outgoes_lowWater _ _)

theorem outgoes_takeCells {n o : Nat} {l : List Nat} {t : State} (h : takeCells n o s = some (l, t)) : s.Outgoes t := by
  induction n generalizing s l t with
  | zero =>
    obtain ⟨-, rfl⟩ := Prod.mk.inj (Option.some.inj h)
    exact .refl s
  | succ n ih =>
    rw [takeCells] at h
    split at h
    · exact absurd h (by simp)
    next c u hcell =>
      split at h
      · exact absurd h (by simp)
      next m v hrest =>
        obtain ⟨-, rfl⟩ := Prod.mk.inj (Option.some.inj h)
        exact (outgoes_takeBuffer s hcell).trans (ih _ hrest)

theorem outgoes_enqueue (c : Copy) : s.Outgoes (s.enqueue c) := by
  unfold State.enqueue
  extract_lets before after ecnOn
  split
  next r u hdraw =>
    have hu : s.Outgoes u := by
      split_ifs at hdraw
      · exact (Prod.mk.inj hdraw).2 ▸ outgoes_draw s 16
      · exact (Prod.mk.inj hdraw).2 ▸ .refl s
    extract_lets c' i q1 s1 q2 s2 s3 k st sch s4 al due q3 s5
    have h1 : s.Outgoes s1 := hu.trans (outgoes_setQm u s1.qm)
    have h2 : s1.Outgoes s2 := by
      change s1.Outgoes (match c'.voq with | none => _ | some g => _)
      split
      · exact outgoes_setQm _ _
      · exact outgoes_setQm _ _
    have h3 : s2.Outgoes s3 := (outgoes_bump _ _ (by unfold qmCtr Reg.qmCnt; omega)).trans (outgoes_count _ _ _ _)
    have h5 : s.Outgoes s5 := (((h1.trans h2).trans h3).trans (outgoes_setSch _ _)).trans (outgoes_setQm _ _)
    exact h5.trans (.ite ((outgoes_record _ _ (by decide) (by decide)).trans (outgoes_setEvent _ _ _ (by decide) (by decide))) (.refl _))

theorem outgoes_ite_fst {c : Prop} [Decidable c] {x y : State × Bool} (hx : s.Outgoes x.1) (hy : s.Outgoes y.1) :
    s.Outgoes (if c then x else y).1 := by
  split_ifs
  · exact hx
  · exact hy

theorem outgoes_makeCopy (c : Copy) : s.Outgoes (s.makeCopy c).1 := by
  unfold State.makeCopy
  dsimp only
  refine outgoes_ite_fst _ (outgoes_lostCopy s false 8 133 none) (outgoes_ite_fst _ (outgoes_lostCopy s c.siphon 13 c.port (some 2)) (outgoes_ite_fst _ ?_ ?_))
  · exact ((outgoes_setQm s _).trans (outgoes_chargeSluices _ _)).trans (outgoes_setTx _ _ _)
  · exact outgoes_ite_fst _ (outgoes_enqueue s _) (outgoes_lostCopy s c.siphon 12 c.port (some 1))

theorem outgoes_makePortCopy (pkt : Nat) (x : Nat × Nat × Option Nat) : s.Outgoes (s.makePortCopy pkt x).1 := by
  unfold State.makePortCopy
  dsimp only
  split
  · exact outgoes_makeCopy s _
  · split
    · exact (outgoes_lostCopy s _ _ _ _).trans (outgoes_bump _ _ (by decide))
    · exact (outgoes_bump s _ (by decide)).trans (outgoes_makeCopy _ _)

theorem outgoes_makeSiphon (pkt session : Nat) (edited : Bool) : s.Outgoes (s.makeSiphon pkt session edited).1 := by
  unfold State.makeSiphon
  dsimp only
  by_cases hoff : Wbits (s.rd (Reg.qmSiphon session)) 31 31 = 0
  · rw [if_pos hoff]
    exact .refl s
  · rw [if_neg hoff]
    split
    · exact outgoes_spill s 16 1
    · split
      · exact outgoes_spill s 16 1
      · exact outgoes_makeCopy s _

theorem outgoes_portCopies (pkt : Nat) (l : List (Nat × Nat × Option Nat)) (n : Nat) :
    s.Outgoes (l.foldl (fun (a : State × Nat) x => let (u, ok) := a.1.makePortCopy pkt x; (u, a.2 + b2n ok)) (s, n)).1 := by
  induction l generalizing s n with
  | nil => exact .refl s
  | cons x xs ih => exact (outgoes_makePortCopy s pkt x).trans (ih _ _)

theorem outgoes_releasePkt (pkt : Nat) (edits : List Edit) (owner : Nat) (o : Outcome') : s.Outgoes (s.releasePkt pkt edits owner o) := by
  unfold State.releasePkt
  extract_lets p lose bad lim limited short
  have hlose : ∀ t : State, t.Outgoes (lose t) := fun t =>
    (State.Outgoes.ite (outgoes_spill t _ _) (.refl t)).trans (outgoes_freePkt _ _)
  have hlimited : ∀ t : State, t.Outgoes (limited t) := fun t => .ite (.refl t) (outgoes_spill t _ _)
  have hshort : ∀ t : State, t.Outgoes (short t) := fun t => .ite (hlimited t) (outgoes_spill t _ _)
  split_ifs
  · exact (hshort s).trans (hlose _)
  · exact (hlose s).trans (hlimited _)
  · exact ((outgoes_spill s _ _).trans (hlose _)).trans (hlimited _)
  · exact (outgoes_freePkt s _).trans (hlimited _)
  · split
    · exact ((outgoes_allocFail s _).trans (hshort _)).trans (hlose _)
    next cells t htake =>
      extract_lets q t' r r'
      have hr : s.Outgoes r.1 := ((outgoes_takeCells s htake).trans (outgoes_setPkt _ _ _)).trans (outgoes_portCopies _ _ _ _)
      have hr' : s.Outgoes r'.1 := by
        change s.Outgoes (Prod.fst (match o.siphon with | some (k, ed) => _ | none => r))
        split
        · exact hr.trans (outgoes_makeSiphon _ _ _ _)
        · exact hr
      exact .ite (hr'.trans (outgoes_freePkt _ _)) (hr'.trans (outgoes_setPkt _ _ _))

/-- A frame that goes to the control plane as it is. -/
theorem outgoes_toControl (r : ParseResult) (q : Nat) : s.Outgoes (s.toControl r q) :=
  (outgoes_setPkt s _ _).trans (outgoes_releasePkt _ _ _ _ _)

end

end Sys2Proof.Machine
end

section
/-! PROOFS. The end of a parse (R246, R264–R268, R272, R286). -/
namespace Sys2Proof.Machine

section
variable {s t : State} {k g : Nat} {r : ParseResult}

/-- A freed frame's slot is empty, and the counters before the buffer pools' stay. -/
theorem freePkt_spec (s : State) (i : Nat) : ((s.freePkt i).pkt i).live = false ∧ ∀ c, c < 0x4c0000 → (s.freePkt i).ctr c = s.ctr c := by
  have hcells : ∀ (t : State) (o : Nat) (l : List Nat), (t.returnCells o l).qm = t.qm ∧ ∀ c, c < 0x4c0000 → (t.returnCells o l).ctr c = t.ctr c := by
    intro t o l
    refine ⟨((only_returnCells o l (List.Subset.refl _)).mpr (.refl _ t)).qm_eq (by decide), fun c hc => ?_⟩
    unfold State.returnCells
    induction l generalizing t with
    | nil => rfl
    | cons b bs ih =>
      rw [List.foldl_cons, ih, State.returnBuffer]
      rw [State.ctr, (lowRearm_spec _ _).2.2.2.2.1, ← State.ctr, State.ctr_bump, if_neg (by unfold Reg.bpmOwnCnt; omega)]
      rfl
  unfold State.freePkt
  dsimp only
  obtain ⟨hq, hc⟩ := hcells (if (s.pkt i).voq.isSome = true then s.setPkt i {} else (s.setPkt i {}).returnCells (s.pkt i).owner (s.pkt i).cells)
    (s.pkt i).editOwner (s.pkt i).editCells
  obtain ⟨hq', hc'⟩ := hcells (s.setPkt i {}) (s.pkt i).owner (s.pkt i).cells
  have hqm : (if (s.pkt i).voq.isSome = true then s.setPkt i {} else (s.setPkt i {}).returnCells (s.pkt i).owner (s.pkt i).cells).qm =
      (s.setPkt i {}).qm := by
    split_ifs
    · rfl
    · exact hq'
  refine ⟨?_, fun c h => ?_⟩
  · rw [State.pkt, hq, hqm]
    exact congrArg Pkt.live ((SMap.get_set ..).trans (if_pos rfl))
  · rw [hc c h]
    split_ifs
    · rfl
    · exact hc' c h

/-- A parse that its slice has ended: the slice free, its group's list without it, the parse counted. -/
structure Ended (s t : State) (k g words : Nat) : Prop where
  free : t.hdg.slices.get k = {}
  others : ∀ j, j ≠ k → t.hdg.slices.get j = s.hdg.slices.get j
  inflight : t.hdg.inflight.get g = (s.hdg.inflight.get g).tail
  parsed : t.ctr (Reg.hdgParsed g) = (s.ctr (Reg.hdgParsed g) + 1) % 2 ^ 64
  words : t.ctr (Reg.hdgWords g) = (s.ctr (Reg.hdgWords g) + words) % 2 ^ 64
  mem : t.mem = s.mem

theorem Ended.of_hdg {u : State} {n : Nat} (h : Ended s t k g n) (hs : u.hdg.slices = t.hdg.slices) (hi : u.hdg.inflight = t.hdg.inflight)
    (hc : ∀ c, c < 0x480000 → c = Reg.hdgParsed g ∨ c = Reg.hdgWords g → u.ctr c = t.ctr c) (hg : g < 21) (hm : u.mem = t.mem) : Ended s u k g n where
  free := hs ▸ h.free
  others j hj := hs ▸ h.others j hj
  inflight := hi ▸ h.inflight
  parsed := (hc _ (by unfold Reg.hdgParsed; omega) (.inl rfl)).trans h.parsed
  words := (hc _ (by unfold Reg.hdgWords; omega) (.inr rfl)).trans h.words
  mem := hm.trans h.mem

theorem Ended.outgoes {u : State} {n : Nat} (h : Ended s t k g n) (ho : t.Outgoes u) (hg : g < 21) : Ended s u k g n :=
  h.of_hdg (by rw [ho.only.hdg_eq (by decide)]) (by rw [ho.only.hdg_eq (by decide)]) (fun c hc _ => ho.ctr c hc) hg (ho.only.mem_eq (by decide))

/-- A slice's own entry heads its group's list and stands in it once. -/
theorem filter_head {l : List Nat} (hhead : l.head? = some k) (hnd : l.Nodup) : l.filter (fun i => i != k) = l.tail := by
  cases l with
  | nil => exact absurd hhead (by simp)
  | cons x xs =>
    obtain rfl : x = k := Option.some.inj hhead
    rw [List.filter_cons_of_neg (by simp), List.tail_cons]
    refine List.filter_eq_self.mpr fun y hy => bne_iff_ne.mpr fun h => ?_
    exact (List.nodup_cons.mp hnd).1 (h ▸ hy)

theorem parsed_spec (hr : (s.hdg.slices.get k).res = r) (hgr : r.group = g) (hg : g < 21)
    (hhead : (s.hdg.inflight.get g).head? = some k) (hnd : (s.hdg.inflight.get g).Nodup) :
    ∃ t, t = (s.sliceDone k).parsed k r ∧ Ended s t k g r.words ∧ t.hdg.out = s.hdg.out ∧ t.qm = s.qm ∧
      (∀ i, t.ctr (Reg.hdgMalCnt g i) = s.ctr (Reg.hdgMalCnt g i) ∨ 32 ≤ i) ∧ t.ctr (Reg.qmSpill 1) = s.ctr (Reg.qmSpill 1) := by
  obtain ⟨u, hu⟩ : ∃ u, u = (((s.sliceDone k).bump (Reg.hdgParsed g)).bump (Reg.hdgWords g) r.words) := ⟨_, rfl⟩
  obtain ⟨v, hv⟩ : ∃ v, v = (u.count 32 [g]).count 33 [g] r.words := ⟨_, rfl⟩
  have heq : (s.sliceDone k).parsed k r = if k / 8 = g then v else v.bump (Reg.hdgBorrowed g) := by
    rw [hv, hu, State.parsed, hgr]
  have hslices : u.hdg = (s.sliceDone k).hdg := by rw [hu, State.bump_hdg, State.bump_hdg]
  have huc : ∀ c, u.ctr c = if c = Reg.hdgWords g then (s.ctr c + r.words) % 2 ^ 64
      else if c = Reg.hdgParsed g then (s.ctr c + 1) % 2 ^ 64 else s.ctr c := by
    intro c
    have hne : Reg.hdgWords g ≠ Reg.hdgParsed g := by unfold Reg.hdgWords Reg.hdgParsed; omega
    rw [hu, State.ctr_bump]
    split_ifs with h1 h2
    · rw [h1, State.ctr_bump, if_neg hne]
      rfl
    · rw [State.ctr_bump, if_pos h2, h2]
      rfl
    · rw [State.ctr_bump, if_neg h2]
      rfl
  have hvc : ∀ c, c < 0x740000 → v.ctr c = u.ctr c := fun c hc => by rw [hv, State.ctr_count _ _ _ _ _ hc, State.ctr_count _ _ _ _ _ hc]
  have hvhdg : v.hdg = (s.sliceDone k).hdg := by rw [hv, State.count_hdg, State.count_hdg, hslices]
  have hvqm : v.qm = s.qm := by rw [hv, State.count_qm, State.count_qm, hu]; rfl
  have hvmem : v.mem = s.mem := by rw [hv, State.count_mem, State.count_mem, hu]; rfl
  have hend : Ended s v k g r.words := by
    refine ⟨?_, fun j hj => ?_, ?_, ?_, ?_, hvmem⟩
    · rw [hvhdg]; exact (SMap.get_set ..).trans (if_pos rfl)
    · rw [hvhdg]; exact (SMap.get_set ..).trans (if_neg hj)
    · rw [hvhdg, State.sliceDone]
      dsimp only
      rw [hr, hgr, SMap.get_mod, if_pos rfl]
      exact filter_head hhead hnd
    · rw [hvc _ (by unfold Reg.hdgParsed; omega), huc, if_neg (by unfold Reg.hdgWords Reg.hdgParsed; omega), if_pos rfl]
    · rw [hvc _ (by unfold Reg.hdgWords; omega), huc, if_pos rfl]
  have hapart : ∀ c, c < 0x740000 → c ≠ Reg.hdgWords g → c ≠ Reg.hdgParsed g → v.ctr c = s.ctr c := fun c hc h1 h2 => by
    rw [hvc c hc, huc, if_neg h1, if_neg h2]
  have hmal : ∀ i, v.ctr (Reg.hdgMalCnt g i) = s.ctr (Reg.hdgMalCnt g i) ∨ 32 ≤ i := fun i => by
    rcases Nat.lt_or_ge i 32 with hi | hi
    · exact .inl (hapart _ (by unfold Reg.hdgMalCnt; omega) (by unfold Reg.hdgMalCnt Reg.hdgWords; omega)
        (by unfold Reg.hdgMalCnt Reg.hdgParsed; omega))
    · exact .inr hi
  have hspill : v.ctr (Reg.qmSpill 1) = s.ctr (Reg.qmSpill 1) :=
    hapart _ (by decide) (by unfold Reg.hdgWords Reg.qmSpill; omega) (by unfold Reg.hdgParsed Reg.qmSpill; omega)
  have hout : v.hdg.out = s.hdg.out := by rw [hvhdg]; rfl
  refine ⟨_, rfl, ?_⟩
  rw [heq]
  split_ifs
  · exact ⟨hend, hout, hvqm, hmal, hspill⟩
  · have hb : ∀ c, c ≠ Reg.hdgBorrowed g → (v.bump (Reg.hdgBorrowed g)).ctr c = v.ctr c := fun c hc => by rw [State.ctr_bump, if_neg hc]
    refine ⟨hend.of_hdg rfl rfl (fun c _ h => hb c ?_) hg rfl, hout, hvqm, fun i => ?_, ?_⟩
    · rcases h with rfl | rfl
      · unfold Reg.hdgParsed Reg.hdgBorrowed; omega
      · unfold Reg.hdgWords Reg.hdgBorrowed; omega
    · rcases hmal i with h | h
      · by_cases hi : 32 ≤ i
        · exact .inr hi
        · exact .inl ((hb _ (by unfold Reg.hdgMalCnt Reg.hdgBorrowed; omega)).trans h)
      · exact .inr h
    · exact (hb _ (by unfold Reg.hdgBorrowed Reg.qmSpill; omega)).trans hspill

theorem malformed_spec {n reason : Nat} (h : Ended s t k g n) (hg : g < 21) (hreason : reason < 32) :
    Ended s (t.malformed g reason) k g n ∧ (t.malformed g reason).hdg.out = t.hdg.out ∧ (t.malformed g reason).qm = t.qm ∧
    (t.malformed g reason).ctr (Reg.hdgMalCnt g reason) = (t.ctr (Reg.hdgMalCnt g reason) + 1) % 2 ^ 64 ∧
    (t.malformed g reason).ctr (Reg.qmSpill 1) = t.ctr (Reg.qmSpill 1) := by
  obtain ⟨w, hw⟩ : ∃ w, w = windowAdd (t.bump (Reg.hdgMalCnt g reason)).hdg.malWindow g 1 ((t.bump (Reg.hdgMalCnt g reason)).fld (Reg.hdgMalCtrl g) 31 16) := ⟨_, rfl⟩
  obtain ⟨u, hu⟩ : ∃ u, u = { t.bump (Reg.hdgMalCnt g reason) with hdg.malWindow := w } := ⟨_, rfl⟩
  have huc : ∀ c, u.ctr c = if c = Reg.hdgMalCnt g reason then (t.ctr c + 1) % 2 ^ 64 else t.ctr c := fun c => by
    rw [hu]
    refine (State.ctr_bump ..).trans ?_
    split_ifs with hc
    · rw [hc]
    · rfl
  have hbase : Ended s u k g n ∧ u.hdg.out = t.hdg.out ∧ u.qm = t.qm ∧ u.ctr (Reg.hdgMalCnt g reason) = (t.ctr (Reg.hdgMalCnt g reason) + 1) % 2 ^ 64 ∧
      u.ctr (Reg.qmSpill 1) = t.ctr (Reg.qmSpill 1) := by
    refine ⟨h.of_hdg (by rw [hu]; rfl) (by rw [hu]; rfl) (fun c _ hc => ?_) hg (by rw [hu]; rfl), by rw [hu]; rfl, by rw [hu]; rfl, ?_, ?_⟩
    · rw [huc, if_neg]
      rcases hc with rfl | rfl
      · unfold Reg.hdgParsed Reg.hdgMalCnt; omega
      · unfold Reg.hdgWords Reg.hdgMalCnt; omega
    · rw [huc, if_pos rfl]
    · rw [huc, if_neg (by unfold Reg.qmSpill Reg.hdgMalCnt; omega)]
  have hkept : ∀ v : State, (v = u.setEvent (Reg.hdgEvents g) 0 (104 + g) ∨ v = u.setBit (Reg.hdgEvents g) 0 true) → v.hdg = u.hdg ∧ v.qm = u.qm ∧ v.mem = u.mem ∧
      ∀ c, c < 0x740000 → v.ctr c = u.ctr c := by
    rintro v (rfl | rfl)
    · exact ⟨State.setEvent_hdg .., State.setEvent_qm .., State.setEvent_mem .., fun c hc => by rw [State.setEvent, State.ctr_raiseEvent _ _ _ hc]; rfl⟩
    · exact ⟨rfl, rfl, rfl, fun _ _ => rfl⟩
  have heq : t.malformed g reason = if alarmDue (t.bump (Reg.hdgMalCnt g reason)).hdg.malWindow g 1 ((t.bump (Reg.hdgMalCnt g reason)).fld (Reg.hdgMalCtrl g) 31 16) = true
      then (if g < 20 then u.setEvent (Reg.hdgEvents g) 0 (104 + g) else u.setBit (Reg.hdgEvents g) 0 true) else u := by
    rw [hu, hw, State.malformed]
  have hall : ∀ v : State, v.hdg = u.hdg → v.qm = u.qm → v.mem = u.mem → (∀ c, c < 0x740000 → v.ctr c = u.ctr c) →
      Ended s v k g n ∧ v.hdg.out = t.hdg.out ∧ v.qm = t.qm ∧ v.ctr (Reg.hdgMalCnt g reason) = (t.ctr (Reg.hdgMalCnt g reason) + 1) % 2 ^ 64 ∧
      v.ctr (Reg.qmSpill 1) = t.ctr (Reg.qmSpill 1) := by
    intro v hh hq hm hc
    obtain ⟨he, hout, hqm, hmal, hsp⟩ := hbase
    exact ⟨he.of_hdg (by rw [hh]) (by rw [hh]) (fun c hc' _ => hc c (by omega)) hg hm, by rw [hh, hout], hq.trans hqm,
      (hc _ (by unfold Reg.hdgMalCnt; omega)).trans hmal, (hc _ (by decide)).trans hsp⟩
  rw [heq]
  split_ifs
  · obtain ⟨h1, h2, h3, h4⟩ := hkept _ (.inl rfl)
    exact hall _ h1 h2 h3 h4
  · obtain ⟨h1, h2, h3, h4⟩ := hkept _ (.inr rfl)
    exact hall _ h1 h2 h3 h4
  · exact hbase

end

end Sys2Proof.Machine
end

section
/-! PROOFS. The obligation on Headgate's parsing (R246–R286). -/
namespace Sys2Proof.Machine

section
variable {s : State} {k g : Nat} {r : ParseResult}

/-- A slice whose parse is over and heads its group's list. -/
structure Ends (s : State) (k g : Nat) (r : ParseResult) : Prop where
  up : s.coreUp = true
  slice : k < 160
  waiting : (s.hdg.slices.get k).st = .waiting
  res : (s.hdg.slices.get k).res = r
  grp : r.group = g
  group_lt : g < 21
  head : (s.hdg.inflight.get g).head? = some k
  nodup : (s.hdg.inflight.get g).Nodup

theorem Ends.held (h : Ends s k g r) (hgood : bitAt r.flags 0 = false)
    (hfull : s.backPressure = true ∨ 300 ≤ (s.hdg.out.entries.map fun e => e.2.length).sum + s.tables.out.length) :
    exec (.parseEnd k) s = .next s := by
  rw [exec_parseEnd, execParseEnd, decide_eq_true h.slice, whenWf, if_pos rfl]
  dsimp only
  rw [h.res, hgood]
  refine if_pos ?_
  rw [← State.inPipeline] at hfull
  rcases hfull with hb | hf
  · simp [hb]
  · simp [hf]

theorem Ends.through (h : Ends s k g r) (hthrough : bitAt r.flags 0 = false ∨ (s.hdg.slices.get k).action = 1 ∧ r.reason < 32) (hbp : s.backPressure = false)
    (hfull : ¬ 300 ≤ (s.hdg.out.entries.map fun e => e.2.length).sum + s.tables.out.length) : ∃ t, exec (.parseEnd k) s = .next t ∧
      Ended s t k g r.words ∧ t.hdg.out.get g = s.hdg.out.get g ++ [r] ∧ t.qm = s.qm ∧
      (bitAt r.flags 0 = true → t.ctr (Reg.hdgMalCnt g r.reason) = (s.ctr (Reg.hdgMalCnt g r.reason) + 1) % 2 ^ 64) := by
  obtain ⟨t, ht, hend, hout, hqm, hmal, -⟩ := parsed_spec h.res h.grp h.group_lt h.head h.nodup
  obtain ⟨u, hu⟩ : ∃ u, u = if bitAt r.flags 0 = true then t.malformed g r.reason else t := ⟨_, rfl⟩
  have hspec : Ended s u k g r.words ∧ u.hdg.out = s.hdg.out ∧ u.qm = s.qm ∧
      (bitAt r.flags 0 = true → u.ctr (Reg.hdgMalCnt g r.reason) = (s.ctr (Reg.hdgMalCnt g r.reason) + 1) % 2 ^ 64) := by
    rw [hu]
    split_ifs with hbad
    · have hr : r.reason < 32 := (hthrough.resolve_left (by rw [hbad]; decide)).2
      obtain ⟨he, ho, hq, hm, -⟩ := malformed_spec hend h.group_lt hr
      exact ⟨he, ho.trans hout, hq.trans hqm, fun _ => by rw [hm, (hmal _).resolve_right (by omega)]⟩
    · exact ⟨hend, hout, hqm, fun hb => absurd hb hbad⟩
  obtain ⟨he, ho, hq, hm⟩ := hspec
  have hopen : (!bitAt r.flags 0 || (s.hdg.slices.get k).action == 1) = true := by
    rcases hthrough with hg | ⟨ha, -⟩
    · rw [hg]; rfl
    · rw [ha]; exact Bool.or_true _
  refine ⟨{ u with hdg.out := u.hdg.out.mod g fun l => l ++ [r] }, ?_, he.of_hdg rfl rfl (fun _ _ _ => rfl) h.group_lt rfl, ?_, hq, hm⟩
  · rw [exec_parseEnd, execParseEnd, decide_eq_true h.slice, whenWf, if_pos rfl]
    dsimp only
    rw [h.res, h.grp, h.up, h.waiting, h.head, hopen, hbp, State.inPipeline, decide_eq_false hfull, if_neg (by simp), if_pos rfl, ← ht, ← hu]
  · dsimp only
    rw [SMap.get_mod, if_pos rfl, ho]

theorem Ends.bad (h : Ends s k g r) (hbad : bitAt r.flags 0 = true) (hact : (s.hdg.slices.get k).action ≠ 1) (hreason : r.reason < 32) :
    ∃ u, Ended s u k g r.words ∧ u.hdg.out = s.hdg.out ∧ u.ctr (Reg.hdgMalCnt g r.reason) = (s.ctr (Reg.hdgMalCnt g r.reason) + 1) % 2 ^ 64 ∧
      u.ctr (Reg.qmSpill 1) = s.ctr (Reg.qmSpill 1) ∧
      exec (.parseEnd k) s = .next (if (s.hdg.slices.get k).action = 2 then u.toControl r r.tc else (u.spill 1).freePkt r.pkt) := by
  obtain ⟨t, ht, hend, hout, -, hmal, hsp⟩ := parsed_spec h.res h.grp h.group_lt h.head h.nodup
  obtain ⟨he, ho, -, hm, hs⟩ := malformed_spec hend h.group_lt hreason
  refine ⟨t.malformed g r.reason, he, ho.trans hout, by rw [hm, (hmal _).resolve_right (by omega)], hs.trans hsp, ?_⟩
  rw [exec_parseEnd, execParseEnd, decide_eq_true h.slice, whenWf, if_pos rfl]
  dsimp only
  rw [h.res, h.grp, h.up, h.waiting, h.head, hbad, beq_eq_false_iff_ne.mpr hact, if_neg (by simp), if_neg (by decide), ← ht, if_pos rfl]
  split_ifs <;> rfl

/-- A malformed frame sent to the control plane. -/
theorem Ends.steered (h : Ends s k g r) (hbad : bitAt r.flags 0 = true) (hact : (s.hdg.slices.get k).action = 2) (hreason : r.reason < 32) :
    ∃ t, exec (.parseEnd k) s = .next t ∧ Ended s t k g r.words ∧ t.hdg.out = s.hdg.out ∧
      t.ctr (Reg.hdgMalCnt g r.reason) = (s.ctr (Reg.hdgMalCnt g r.reason) + 1) % 2 ^ 64 := by
  obtain ⟨u, he, ho, hm, -, hx⟩ := h.bad hbad (by rw [hact]; decide) hreason
  have hgo := outgoes_toControl u r r.tc
  have hg := h.group_lt
  refine ⟨_, hx.trans (by rw [if_pos hact]), he.outgoes hgo h.group_lt, by rw [hgo.only.hdg_eq (by decide), ho], ?_⟩
  rw [hgo.ctr _ (by unfold Reg.hdgMalCnt; omega), hm]

/-- A malformed frame dropped. -/
theorem Ends.dropped (h : Ends s k g r) (hbad : bitAt r.flags 0 = true) (hact : (s.hdg.slices.get k).action = 0) (hreason : r.reason < 32) :
    ∃ t, exec (.parseEnd k) s = .next t ∧ Ended s t k g r.words ∧ t.hdg.out = s.hdg.out ∧ (t.pkt r.pkt).live = false ∧
      t.ctr (Reg.hdgMalCnt g r.reason) = (s.ctr (Reg.hdgMalCnt g r.reason) + 1) % 2 ^ 64 ∧
      t.ctr (Reg.qmSpill 1) = (s.ctr (Reg.qmSpill 1) + 1) % 2 ^ 64 := by
  obtain ⟨u, he, ho, hm, hsp, hx⟩ := h.bad hbad (by rw [hact]; decide) hreason
  have hgo := (outgoes_spill u 1 1).trans (outgoes_freePkt _ r.pkt)
  obtain ⟨hlive, hctr⟩ := freePkt_spec (u.spill 1) r.pkt
  have hg := h.group_lt
  refine ⟨_, hx.trans (by rw [if_neg (by rw [hact]; decide)]), he.outgoes hgo h.group_lt, by rw [hgo.only.hdg_eq (by decide), ho], hlive, ?_, ?_⟩
  · rw [hgo.ctr _ (by unfold Reg.hdgMalCnt; omega), hm]
  · rw [hctr _ (by decide), State.spill, State.ctr_count _ _ _ _ _ (by decide), State.ctr_bump, if_pos rfl, hsp]

end

/-- Settles O45: a microword that only computes ends in its sequencing; a parse's end delivers, steers or drops. -/
theorem headgateParsing : Obligations.HeadgateParsing := by
  intro s hup
  refine ⟨?_, ?_, fun acc v hreach hop => ucWrite_spec hreach hop rfl, fun acc v hreach hop hg => ?_, fun acc v hreach => hdgCtrlWrite_spec hreach⟩
  · intro k x w a b res hk hx hst hfirst hhold hw hlow hwords hldw hxen hoen hfen hlvl htag hcls hdst hadv ha hb halu y next go
    have h : Computes s k w a b res x y :=
      ⟨hk, hx, hst, hfirst, hhold, hw, hlow, hwords, hldw, hxen, hoen, hfen, hlvl, htag, hcls, hdst, hadv, ha, hb, halu, rfl⟩
    refine ⟨fun hs => ?_, fun hs => ?_, fun hs => ?_, fun hs => ?_, fun hs => ?_, fun hs => ?_, fun hs => ?_, fun hs hlen => ?_,
      fun p q hs hstack => ?_, fun hs => ?_, fun hs => ?_⟩
    · exact h.branches hup (by decide) hs (by rw [h.sequence_eq, uwSeq_eq (by decide) hs] <;> rfl)
    · exact h.branches hup (by decide) hs (by rw [h.sequence_eq, uwSeq_eq (by decide) hs] <;> rfl)
    · exact h.branches hup (by decide) hs (by rw [h.sequence_eq, uwSeq_eq (by decide) hs] <;> rfl)
    · exact h.branches hup (by decide) hs (by rw [h.sequence_eq, uwSeq_eq (by decide) hs] <;> rfl)
    · exact h.branches hup (by decide) hs (by rw [h.sequence_eq, uwSeq_eq (by decide) hs] <;> rfl)
    · exact h.branches hup (by decide) hs (by rw [h.sequence_eq, uwSeq_eq (by decide) hs] <;> rfl)
    · exact h.branches hup (by decide) hs (by rw [h.sequence_eq, uwSeq_eq (by decide) hs] <;> rfl)
    · exact h.goes hup (by decide) hs (fun _ => hlen) (fun h => absurd h (by decide)) (by rw [h.sequence_eq, uwSeq_eq (by decide) hs] <;> rfl)
    · exact h.goes hup (by decide) hs (fun h => absurd h (by decide)) (fun _ => by rw [hstack]; exact List.cons_ne_nil _ _)
        (by rw [h.sequence_eq, uwSeq_eq (by decide) hs, hstack] <;> rfl)
    · obtain ⟨t, ht, hst, hr, hp, -, ha, heq⟩ := h.ends hup (.inl rfl) hs (reason := none)
        (.inl ⟨by rw [h.sequence_eq, uwSeq_eq (by decide) hs] <;> rfl, rfl⟩)
      exact ⟨t, ht, hst, hr, hp, ha, heq⟩
    · obtain ⟨t, ht, hst, hr, -, hf, ha, heq⟩ := h.ends hup (.inr rfl) hs (reason := some (uwRsn w))
        (.inr ⟨_, by rw [h.sequence_eq, uwSeq_eq (by decide) hs] <;> rfl, rfl⟩)
      exact ⟨t, ht, hst, hr, hf rfl, ha, heq⟩
  · intro k g r hk hst hres hgr hg hhead hnd ends full
    have h : Ends s k g r := ⟨hup, hk, hst, hres, hgr, hg, hhead, hnd⟩
    have hends : ∀ {t}, Ended s t k g r.words → ends t := fun he => ⟨he.free, he.others, he.inflight, he.parsed, he.words, he.mem⟩
    refine ⟨fun hgood hbp hfull => ?_, h.held, fun hbad hact hbp hfull hr => ?_, fun hbad hact hr => ?_, fun hbad hact hr => ?_⟩
    · obtain ⟨t, ht, he, ho, hq, -⟩ := h.through (.inl hgood) hbp hfull
      exact ⟨t, ht, hends he, ho, hq⟩
    · obtain ⟨t, ht, he, ho, hq, hm⟩ := h.through (.inr ⟨hact, hr⟩) hbp hfull
      exact ⟨t, ht, hends he, ho, hq, hm hbad⟩
    · obtain ⟨t, ht, he, ho, hm⟩ := h.steered hbad hact hr
      exact ⟨t, ht, hends he, ho, hm⟩
    · obtain ⟨t, ht, he, ho, hl, hm, hs⟩ := h.dropped hbad hact hr
      exact ⟨t, ht, hends he, ho, hl, hm, hs⟩
  · exact ucRead_spec hreach hop hg

end Sys2Proof.Machine
end

section
/-! PROOFS. Admission and the offers of headers (R242–R244, R269, R271, R569). -/
namespace Sys2Proof.Machine

section
variable (s : State)

theorem exec_frameAdmit (port : Nat) (frame : RxFrame) : exec (.frameAdmit port frame) s = execFrameAdmit port frame s := rfl
theorem exec_ingressCellTake (pkt : Nat) (err : Option RxError) : exec (.ingressCellTake pkt err) s = execIngressCellTake pkt err s := rfl
theorem exec_headerOffer (group : Nat) (newCycle : Bool) : exec (.headerOffer group newCycle) s = execHeaderOffer group newCycle s := rfl
theorem exec_parseStart (slice : Nat) (whole : Bool) : exec (.parseStart slice whole) s = execParseStart slice whole s := rfl

end

section
variable {s t u : State} {i k g p : Nat}

/-! ### What the PFC comparison changes -/

/-- A step that changes registers, counters and the egress side alone, and no counter before the event controller's. -/
structure PfcStep (s t : State) : Prop where
  rest : t = { s with regs := t.regs, ctrs := t.ctrs, sch := t.sch }
  ctr : ∀ c, c < 0x740000 → t.ctr c = s.ctr c

theorem PfcStep.trans (h : PfcStep s t) (k : PfcStep t u) : PfcStep s u :=
  ⟨by rw [k.rest, h.rest], fun c hc => (k.ctr c hc).trans (h.ctr c hc)⟩
theorem PfcStep.ite {c : Prop} [Decidable c] (h : PfcStep s t) (k : PfcStep s u) : PfcStep s (if c then t else u) := by
  split_ifs
  · exact h
  · exact k
theorem PfcStep.refl (s : State) : PfcStep s s := ⟨rfl, fun _ _ => rfl⟩
theorem PfcStep.setBit (s : State) (a b : Nat) (v : Bool) : PfcStep s (s.setBit a b v) := ⟨rfl, fun _ _ => rfl⟩
theorem PfcStep.setTx (s : State) (p : Nat) (x : Tx) : PfcStep s (s.setTx p x) := ⟨rfl, fun _ _ => rfl⟩
theorem PfcStep.setEvent (s : State) (a b n : Nat) : PfcStep s (s.setEvent a b n) :=
  ⟨by rw [State.setEvent_eq], fun c hc => by rw [State.setEvent, State.ctr_raiseEvent _ _ _ hc]; rfl⟩

theorem pfcCompare_step (s : State) (p : Nat) : PfcStep s (s.pfcCompare p) := by
  have howe : ∀ (t : State) (x : Bool), PfcStep t (t.owePfc p x) := fun t x => .ite (.setTx t _ _) (.refl t)
  unfold State.pfcCompare
  refine .ite (.refl s) ?_
  exact .ite (((PfcStep.setBit s _ _ _).trans (.setEvent _ _ _ _)).trans (howe _ _)) (.ite ((PfcStep.setBit s _ _ _).trans (howe _ _)) (.refl s))

/-! ### Cells -/

/-- A buffer taken changes the buffer pools' own state and events alone. -/
theorem takeBuffer_step {o b : Nat} (h : s.takeBuffer o k = some (b, t)) : BpmStep s t := by
  unfold State.takeBuffer at h
  split_ifs at h
  split at h
  · exact absurd h (by simp)
  next c u hhead =>
    have hu : ∃ b, u = { s with bpm := b } := by
      unfold State.takeHead at hhead
      split_ifs at hhead
      all_goals
        dsimp only at hhead
        split at hhead
        all_goals
          obtain ⟨-, rfl⟩ := Prod.mk.inj (Option.some.inj hhead)
          exact ⟨_, rfl⟩
    obtain ⟨b', rfl⟩ := hu
    obtain ⟨-, rfl⟩ := Prod.mk.inj (Option.some.inj h)
    exact BpmStep.trans (BpmStep.of_eq rfl) (lowWater_spec _ k).1

theorem allocFail_step (s : State) (o : Nat) : BpmStep s (s.allocFail o) :=
  BpmStep.trans (BpmStep.of_eq (t := s.bump (Reg.bpmOwnCnt o 2) 1) rfl) (BpmStep.setEvent _)

/-- A frame's next cell: its packet gains the cell or is marked incomplete; the buffer pools pay for it. -/
theorem takePktCell_spec (s : State) (i : Nat) : ∃ u l inc, BpmStep s u ∧ (s.takePktCell i).1 = u.setPkt i { s.pkt i with cells := l, incomplete := inc } ∧
    l.length ≤ (s.pkt i).cells.length + 1 := by
  unfold State.takePktCell
  dsimp only
  have hfail : ∃ u l inc, BpmStep s u ∧ (s.allocFail (s.pkt i).owner).setPkt i { s.pkt i with incomplete := true } =
      u.setPkt i { s.pkt i with cells := l, incomplete := inc } ∧ l.length ≤ (s.pkt i).cells.length + 1 :=
    ⟨_, (s.pkt i).cells, true, allocFail_step s _, rfl, Nat.le_succ _⟩
  split
  · split_ifs
    · exact hfail
    · exact ⟨s, _, (s.pkt i).incomplete, BpmStep.of_eq rfl, rfl, (List.length_append ..).le⟩
  · split
    next c t hcell => exact ⟨t, _, (s.pkt i).incomplete, takeBuffer_step hcell, rfl, (List.length_append ..).le⟩
    · exact hfail

theorem pkt_setPkt (s : State) (i j : Nat) (p : Pkt) : (s.setPkt i p).pkt j = if j = i then p else s.pkt j := SMap.get_set ..

theorem BpmStep.qm_eq (h : BpmStep s t) : t.qm = s.qm := h.only.qm_eq (by decide)

/-- A frame admitted: a new packet at the end of its group's queue, with at most its first cell. -/
theorem admitPkt_spec (s : State) (p : Pkt) : ∃ t l inc, s.admitPkt p = (t, s.qm.nextPkt) ∧
    t.pkt s.qm.nextPkt = { p with live := true, group := groupOf p.port, owner := groupOf p.port,
                                  voq := if s.qm.shared then none else some (groupOf p.port), cells := l, incomplete := inc } ∧
    l.length ≤ p.cells.length + 1 ∧ (∀ k, k ≠ s.qm.nextPkt → t.pkt k = s.pkt k) ∧ t.qm.nextPkt = s.qm.nextPkt + 1 ∧
    t.hdg = { s.hdg with queue := s.hdg.queue.mod (groupOf p.port) fun q => q ++ [s.qm.nextPkt] } ∧ t.ports = s.ports ∧ t.mem = s.mem := by
  obtain ⟨q, hq⟩ : ∃ q : Pkt, q = { p with live := true, group := groupOf p.port, owner := groupOf p.port,
                                           voq := if s.qm.shared then none else some (groupOf p.port) } := ⟨_, rfl⟩
  obtain ⟨a, ha⟩ : ∃ a, a = { s with qm.nextPkt := s.qm.nextPkt + 1 }.setPkt s.qm.nextPkt q := ⟨_, rfl⟩
  have hpkt : ∀ j, a.pkt j = if j = s.qm.nextPkt then q else s.pkt j := fun j => by rw [ha]; exact pkt_setPkt ..
  obtain ⟨u, l, inc, hu, heq, hl⟩ := takePktCell_spec a s.qm.nextPkt
  rw [hpkt, if_pos rfl] at heq hl
  have hqm := hu.qm_eq
  have hhdg : u.hdg = s.hdg := (hu.only.hdg_eq (by decide)).trans (by rw [ha]; rfl)
  obtain ⟨b, hb⟩ : ∃ b, b = { u.setPkt s.qm.nextPkt { q with cells := l, incomplete := inc } with
    hdg.queue := u.hdg.queue.mod (groupOf p.port) fun l => l ++ [s.qm.nextPkt] } := ⟨_, rfl⟩
  have hc := pfcCompare_step b p.port
  obtain ⟨t, ht⟩ : ∃ t, t = b.pfcCompare p.port := ⟨_, rfl⟩
  rw [← ht] at hc
  have hbq : t.qm = (u.setPkt s.qm.nextPkt { q with cells := l, incomplete := inc }).qm := by rw [hc.rest, hb]
  refine ⟨t, l, inc, ?_, ?_, by rwa [hq] at hl, fun k hk => ?_, ?_, ?_, ?_, ?_⟩
  · rw [State.admitPkt]
    dsimp only
    rw [← hq, ← ha, heq, ht, hb] <;> rfl
  · rw [State.pkt, hbq, ← State.pkt, pkt_setPkt, if_pos rfl, hq]
  · rw [State.pkt, hbq, ← State.pkt, pkt_setPkt, if_neg hk, State.pkt, hqm, ← State.pkt, hpkt, if_neg hk]
  · rw [hbq]
    change u.qm.nextPkt = _
    rw [hqm, ha]; rfl
  · rw [hc.rest, hb]
    dsimp only
    rw [← hhdg]; rfl
  · rw [hc.rest, hb]
    change u.ports = _
    rw [hu.only.ports_eq (by decide), ha]; rfl
  · rw [hc.rest, hb]
    change u.mem = _
    rw [hu.only.mem_eq (by decide), ha]; rfl

end

end Sys2Proof.Machine
end

section
/-! PROOFS. The obligation on admission, header offers and the start of a parse (R212–R271, R569). -/
namespace Sys2Proof.Machine

section
variable {s t u : State} {i k g p : Nat} {f : RxFrame} {err : Option RxError}

/-! ### Admission -/

/-- The timestamp of a frame for which T was sampled with no jump since. -/
theorem rxStamp_eq {taken u lane ago : Nat} (hjumps : ∀ j ∈ s.tb.jumps, j.atRun + ago * 2 ^ 32 ≤ s.tb.run)
    (htaken : (taken : Int) = ((s.total : Int) - (ago * 2 ^ 32 : Nat)) % (2 ^ 48 * 1000000000 * 2 ^ 48))
    (hu : (u : Int) = (((taken / 2 ^ 32 : Nat) : Int) - (s.rd (Reg.rxDelay (groupOf p) (subOf p))).toNat -
      ((s.ports.get p).skews.getD lane 0 : Nat) - signed (s.rd (Reg.rxTrim (groupOf p) (subOf p))).toNat 32) % (2 ^ 32 * 1000000000 * 65536)) :
    s.rxStamp p ago lane = ts80Of (u / 65536 / 1000000000) (u / 65536 % 1000000000) (u % 65536) := by
  have hnone : s.jumpsSince ago = [] := List.filter_eq_nil_iff.mpr fun j hj => by
    have h := hjumps j hj
    simp only [decide_eq_true_eq]
    omega
  have hsampled : s.sampled ago = taken := by
    rw [State.sampled, hnone, moveTime]
    have hspan : ((timeSpan : Nat) : Int) = 2 ^ 48 * 1000000000 * 2 ^ 48 := by decide
    have hsub : (s.total : Int) + (-((ago * 2 ^ 32 : Nat) : Int) - (([] : List Jump).map Jump.size).sum) = (s.total : Int) - (ago * 2 ^ 32 : Nat) := by
      rw [List.map_nil, List.sum_nil]
      omega
    rw [hsub, hspan, ← htaken]
    rfl
  have hunits : (((2 ^ 32 * 1000000000 * 65536 : Nat) : Nat) : Int) = 2 ^ 32 * 1000000000 * 65536 := by decide
  rw [State.rxStamp, hsampled, unitsTs, hunits, ← hu]
  rfl

theorem frameAdmit_eq (hp : p < 128) (hlane : f.lane < 8) (hrec : s.receives p = true) (hup : (s.ports.get p).upRun + f.ago * 2 ^ 32 ≤ s.tb.run)
    (hlen : 64 ≤ f.bytes.length) (hty : etherType f.bytes ≠ 0x8808) {r : State × Nat}
    (hr : s.admitPkt { port := p, origin := p, bytes := f.bytes, ts80 := s.rxStamp p f.ago f.lane, steps := s.sampledSteps f.ago } = r) :
    exec (.frameAdmit p f) s = .next (if s.mayAdmit p = true then
      { r.1 with ports := r.1.ports.mod p fun q => { q with receiving := q.receiving ++ [r.2], arriving := q.arriving.set r.2 f } }
      else s.admitDrop p) := by
  have hbegun : (s.begunUp p f && decide (64 ≤ f.bytes.length) && etherType f.bytes != 0x8808 &&
      !(decide (128 ≤ p) && etherType f.bytes == 0x88B5)) = true := by
    rw [State.begunUp, hrec, decide_eq_true hup, decide_eq_true hlen, bne_iff_ne.mpr hty, decide_eq_false (by omega)]
    rfl
  have hcarries : s.carries p = true := by rw [State.carries, decide_eq_true hp, Bool.true_or]
  rw [exec_frameAdmit, execFrameAdmit, decide_eq_true hlane, decide_eq_true (show p < 132 by omega), whenWf, if_pos (by decide), occurs, hbegun, if_pos rfl,
    hcarries, Bool.true_and, hr]

theorem admitted_spec (hadmit : s.mayAdmit p = true) (hp : p < 128) (hlane : f.lane < 8) (hrec : s.receives p = true)
    (hup : (s.ports.get p).upRun + f.ago * 2 ^ 32 ≤ s.tb.run) (hlen : 64 ≤ f.bytes.length) (hty : etherType f.bytes ≠ 0x8808)
    (hi : i = s.qm.nextPkt) (hg : g = groupOf p) :
    ∃ t, exec (.frameAdmit p f) s = .next t ∧ (t.pkt i).live = true ∧ (t.pkt i).port = p ∧ (t.pkt i).bytes = f.bytes ∧ (t.pkt i).verdict = none ∧
      (t.pkt i).ts80 = s.rxStamp p f.ago f.lane ∧ t.qm.nextPkt = i + 1 ∧ t.hdg.queue.get g = s.hdg.queue.get g ++ [i] ∧
      (∀ k, k ≠ g → t.hdg.queue.get k = s.hdg.queue.get k) ∧ (t.ports.get p).receiving = (s.ports.get p).receiving ++ [i] ∧
      (t.ports.get p).arriving.get i = f ∧ (∀ k, k ≠ i → t.pkt k = s.pkt k) ∧ t.mem = s.mem ∧
      (s.qm.shared = false → (t.pkt i).voq = some g ∧ (t.pkt i).cells.length ≤ 1) := by
  obtain ⟨t, l, inc, heq, hpkt, hl, hothers, hnext, hhdg, hports, hmem⟩ := admitPkt_spec s
    { port := p, origin := p, bytes := f.bytes, ts80 := s.rxStamp p f.ago f.lane, steps := s.sampledSteps f.ago }
  have hexec := frameAdmit_eq hp hlane hrec hup hlen hty heq
  rw [if_pos hadmit] at hexec
  dsimp only at hexec hpkt hhdg
  rw [← hi] at hexec hpkt hothers hnext hhdg
  rw [← hg] at hpkt hhdg
  rw [hports] at hexec
  refine ⟨_, hexec, ?_⟩
  have hqueue : ∀ k, t.hdg.queue.get k = if k = g then s.hdg.queue.get g ++ [i] else s.hdg.queue.get k := fun k => by rw [hhdg, SMap.get_mod]
  have hport : ((s.ports.mod p fun q => { q with receiving := q.receiving ++ [i], arriving := q.arriving.set i f }).get p) =
      { s.ports.get p with receiving := (s.ports.get p).receiving ++ [i], arriving := (s.ports.get p).arriving.set i f } := by
    rw [SMap.get_mod, if_pos rfl]
  obtain ⟨v, hv⟩ : ∃ v, v = { t with ports := s.ports.mod p fun q => { q with receiving := q.receiving ++ [i], arriving := q.arriving.set i f } } := ⟨_, rfl⟩
  have hvp : ∀ k, v.pkt k = t.pkt k := fun k => by rw [hv]; rfl
  have hvpo : v.ports = s.ports.mod p fun q => { q with receiving := q.receiving ++ [i], arriving := q.arriving.set i f } := by rw [hv]
  rw [← hv]
  refine ⟨?_, ?_, ?_, ?_, ?_, ?_, ?_, fun k hk => ?_, ?_, ?_, fun k hk => ?_, ?_, fun hsh => ?_⟩
  · rw [hvp, hpkt]
  · rw [hvp, hpkt]
  · rw [hvp, hpkt]
  · rw [hvp, hpkt]
  · rw [hvp, hpkt]
  · rw [hv]; exact hnext
  · rw [hv]; exact (hqueue g).trans (if_pos rfl)
  · rw [hv]; exact (hqueue k).trans (if_neg hk)
  · rw [hvpo, hport]
  · rw [hvpo, hport]; exact (SMap.get_set ..).trans (if_pos rfl)
  · rw [hvp, hothers k hk]
  · rw [hv]; exact hmem
  · rw [hvp, hpkt, hsh]
    exact ⟨rfl, hl⟩

theorem refused_spec (hadmit : s.mayAdmit p = false) (hp : p < 128) (hlane : f.lane < 8) (hrec : s.receives p = true)
    (hup : (s.ports.get p).upRun + f.ago * 2 ^ 32 ≤ s.tb.run) (hlen : 64 ≤ f.bytes.length) (hty : etherType f.bytes ≠ 0x8808) (hg : g = groupOf p) :
    ∃ t, exec (.frameAdmit p f) s = .next t ∧ t.qm = s.qm ∧ t.hdg = s.hdg ∧ t.ports = s.ports ∧
      t.ctr (Reg.hdgAdmitDrop g (subOf p)) = (s.ctr (Reg.hdgAdmitDrop g (subOf p)) + 1) % 2 ^ 64 ∧
      t.ctr (Reg.qmSpill 0) = (s.ctr (Reg.qmSpill 0) + 1) % 2 ^ 64 ∧ ∀ a, a < 0x700000 → t.rd a = s.rd a := by
  have hgroup : g < 21 := by rw [hg]; unfold groupOf; split_ifs <;> omega
  have hsub : subOf p < 8 := by unfold subOf; split_ifs <;> omega
  obtain ⟨a, ha⟩ : ∃ a, a = s.bump (Reg.hdgAdmitDrop g (subOf p)) 1 := ⟨_, rfl⟩
  obtain ⟨b, hb⟩ : ∃ b, b = a.count 34 [g] := ⟨_, rfl⟩
  obtain ⟨c, hc⟩ : ∃ c, c = b.bump (Reg.qmSpill 0) 1 := ⟨_, rfl⟩
  have hne : Reg.hdgAdmitDrop g (subOf p) ≠ Reg.qmSpill 0 := by unfold Reg.hdgAdmitDrop Reg.qmSpill; omega
  have hlow : Reg.hdgAdmitDrop g (subOf p) < 0x740000 := by unfold Reg.hdgAdmitDrop; omega
  have hrc : s.RegsCtrs (s.admitDrop p) := by
    rw [State.admitDrop, ← hg, ← ha, ← hb]
    exact ((ha ▸ State.regsCtrs_setCtr _ _ _ : s.RegsCtrs a).trans (hb ▸ State.count_eq ..)).trans (State.spill_eq ..)
  refine ⟨s.admitDrop p, (frameAdmit_eq hp hlane hrec hup hlen hty rfl).trans (by rw [if_neg (by rw [hadmit]; decide)]), ?_, ?_, ?_, ?_, ?_, fun x hx => ?_⟩
  · rw [hrc]
  · rw [hrc]
  · rw [hrc]
  · rw [State.admitDrop, ← hg, ← ha, ← hb, State.spill, ← hc, State.ctr_count _ _ _ _ _ hlow, hc, State.ctr_bump, if_neg hne, hb,
      State.ctr_count _ _ _ _ _ hlow, ha, State.ctr_bump, if_pos rfl]
  · rw [State.admitDrop, ← hg, ← ha, ← hb, State.spill, ← hc, State.ctr_count _ _ _ _ _ (by decide), hc, State.ctr_bump, if_pos rfl, hb,
      State.ctr_count _ _ _ _ _ (by decide), ha, State.ctr_bump, if_neg hne.symm]
  · rw [State.admitDrop, ← hg, ← ha, ← hb, State.spill, ← hc, State.rd_count _ _ _ _ _ hx, hc, State.rd_bump, hb, State.rd_count _ _ _ _ _ hx, ha,
      State.rd_bump]

/-! ### Cells of an ingress buffer -/

/-- One of the numbers up to a list's length is not in the list. -/
theorem find_unused (l : List Nat) : ∃ c, (List.range (l.length + 1)).find? (fun n => !l.contains n) = some c ∧ c ∉ l ∧ c ≤ l.length := by
  obtain ⟨c, hc⟩ : ∃ c, (List.range (l.length + 1)).find? (fun n => !l.contains n) = some c := by
    rw [← Option.isSome_iff_exists, List.find?_isSome]
    by_contra hall
    push Not at hall
    have hsub : List.range (l.length + 1) ⊆ l := fun n hn => by simpa using hall n hn
    have hle := (List.nodup_range.subperm hsub).length_le
    rw [List.length_range] at hle
    omega
  have hin := List.mem_range.mp (List.mem_of_find?_eq_some hc)
  exact ⟨c, hc, by simpa using List.find?_some hc, by omega⟩

theorem ingressCell_spec (hlive : (s.pkt i).live = true) (hvoq : (s.pkt i).voq = some g) (hinc : (s.pkt i).incomplete = false)
    (hcells : (s.pkt i).cells.length < ((s.pkt i).bytes.length + 255) / 256) (hrec : i ∈ (s.ports.get (s.pkt i).port).receiving)
    (hroom : (s.voqCells g).length < 1024) :
    ∃ t c, exec (.ingressCellTake i err) s = .next t ∧ t.pkt i = { s.pkt i with cells := (s.pkt i).cells ++ [c] } ∧ c ∉ s.voqCells g ∧
      c ≤ (s.voqCells g).length ∧ (∀ k, k ≠ i → t.pkt k = s.pkt k) ∧ t.regs = s.regs ∧ t.bpm = s.bpm := by
  obtain ⟨c, hfind, hc, hle⟩ := find_unused (s.voqCells g)
  obtain ⟨a, ha⟩ : ∃ a, a = s.noteErr (s.pkt i).port i err := ⟨_, rfl⟩
  have hapkt : ∀ j, a.pkt j = s.pkt j := fun j => by rw [ha]; rfl
  have hused : a.voqCells g = s.voqCells g := by rw [ha]; rfl
  have htake : a.takePktCell i = (a.setPkt i { s.pkt i with cells := (s.pkt i).cells ++ [c] }, true) := by
    rw [State.takePktCell, hapkt]
    dsimp only
    rw [hvoq]
    dsimp only
    rw [hused, if_neg (by omega), hfind, Option.getD_some]
  have hdue : ((s.pkt i).live && !(s.pkt i).incomplete && decide ((s.pkt i).cells.length < cellsOf (s.pkt i).bytes.length) &&
      (s.ports.get (s.pkt i).port).receiving.contains i) = true := by
    rw [hlive, hinc, decide_eq_true (by unfold cellsOf; exact hcells), List.contains_iff_mem.mpr hrec]
    rfl
  refine ⟨a.setPkt i { s.pkt i with cells := (s.pkt i).cells ++ [c] }, c, ?_, ?_, hc, hle, fun k hk => ?_, by rw [ha]; rfl, by rw [ha]; rfl⟩
  · rw [exec_ingressCellTake, execIngressCellTake]
    dsimp only
    rw [occurs, hdue, if_pos rfl, ← ha, htake, if_pos rfl]
  · rw [pkt_setPkt, if_pos rfl]
  · rw [pkt_setPkt, if_neg hk, hapkt]

end

end Sys2Proof.Machine
end

section
/-! PROOFS. Header offers, the start of a parse, and the obligation on admission (R242–R244, R271). -/
namespace Sys2Proof.Machine

section
variable {s t u : State} {i k g h n : Nat} {fresh whole : Bool} {r : List Nat}

/-! ### Which slice an offer takes -/

theorem freeSlices_length (s : State) (h : Nat) :
    (s.freeSlices h).length = ((List.range 8).filter fun j => (s.hdg.slices.get (8 * h + j)).st == .idle).length := by
  rw [State.freeSlices, List.filter_map, List.length_map]
  rfl

theorem freeSlices_head (hk : k < 8) (hidle : (s.hdg.slices.get (8 * h + k)).st = .idle)
    (hfirst : ∀ j < k, ¬ (s.hdg.slices.get (8 * h + j)).st = .idle) : (s.freeSlices h).head? = some (8 * h + k) := by
  rw [State.freeSlices, List.filter_map, List.head?_map, List.head?_filter]
  rw [List.find?_range_eq_some.mpr ⟨?_, List.mem_range.mpr hk, fun j hj => ?_⟩, Option.map_some]
  · simpa using hidle
  · simpa using hfirst j hj

theorem minBy_mem {α : Type} {key : α → Nat} {l : List α} {b : α} (h : minBy key l = some b) : b ∈ l := by
  induction l generalizing b with
  | nil => exact absurd h (by simp [minBy])
  | cons a r ih =>
    rw [minBy] at h
    split at h
    · obtain rfl := Option.some.inj h
      exact List.mem_cons_self
    next c hc =>
      split_ifs at h
      · obtain rfl := Option.some.inj h
        exact List.mem_cons_of_mem _ (ih hc)
      · obtain rfl := Option.some.inj h
        exact List.mem_cons_self

/-- The least key, the first of those that have it. -/
theorem minBy_split {α : Type} {key : α → Nat} {a : α} {l m : List α} (hl : ∀ x ∈ l, key a < key x) (hm : ∀ x ∈ m, key a ≤ key x) :
    minBy key (l ++ a :: m) = some a := by
  induction l with
  | nil =>
    rw [List.nil_append, minBy]
    split
    · rfl
    next b hb => rw [if_neg (Nat.not_lt.mpr (hm b (minBy_mem hb)))]
  | cons x xs ih =>
    rw [List.cons_append, minBy, ih fun y hy => hl y (List.mem_cons_of_mem _ hy)]
    exact if_pos (hl x List.mem_cons_self)

theorem minBy_range {key : Nat → Nat} {m : Nat} (hh : h < m) (hmin : ∀ j < m, key h ≤ key j) (hfirst : ∀ j < h, key h < key j) :
    minBy key (List.range m) = some h := by
  obtain ⟨d, rfl⟩ : ∃ d, m = h + 1 + d := ⟨m - (h + 1), by omega⟩
  rw [List.range_add, List.range_succ, List.append_assoc, List.singleton_append]
  refine minBy_split (fun x hx => hfirst x (List.mem_range.mp hx)) fun x hx => ?_
  obtain ⟨y, hy, rfl⟩ := List.mem_map.mp hx
  exact hmin _ (by have := List.mem_range.mp hy; omega)

/-- Free slices of a group, counted as the statement counts them. -/
def State.freeCount (s : State) (h : Nat) : Nat := ((List.range 8).filter fun j => (s.hdg.slices.get (8 * h + j)).st == .idle).length

/-- An offer goes to the first free slice of the group's own, and else to the first of the group with the most. -/
theorem offerTo_own (hg : g < 20) (hk : k < 8) (hidle : (s.hdg.slices.get (8 * g + k)).st = .idle)
    (hfirst : ∀ j < k, ¬ (s.hdg.slices.get (8 * g + j)).st = .idle) : s.offerTo g = some (8 * g + k) ∧ s.freeSlices g ≠ [] := by
  have hhead := freeSlices_head hk hidle hfirst
  cases hl : s.freeSlices g with
  | nil => rw [hl] at hhead; exact absurd hhead (by simp)
  | cons x xs =>
    rw [hl] at hhead
    refine ⟨?_, List.cons_ne_nil _ _⟩
    rw [State.offerTo, if_pos hg, hl]
    exact hhead

theorem offerTo_other (hg : g = 20 ∨ s.freeCount g = 0) (hh : h < 20) (hk : k < 8) (hidle : (s.hdg.slices.get (8 * h + k)).st = .idle)
    (hfirst : ∀ j < k, ¬ (s.hdg.slices.get (8 * h + j)).st = .idle) (hmost : ∀ j < 20, s.freeCount j ≤ s.freeCount h)
    (hbefore : ∀ j < h, s.freeCount j < s.freeCount h) : s.offerTo g = some (8 * h + k) ∧ (g < 20 → s.freeSlices g = []) := by
  have hnone : g < 20 → s.freeSlices g = [] := fun hlt => by
    rw [← List.length_eq_zero_iff, freeSlices_length]
    exact hg.resolve_left (by omega)
  have hlen : ∀ j, (s.freeSlices j).length = s.freeCount j := freeSlices_length s
  have hle : s.freeCount h ≤ 8 := (List.length_filter_le ..).trans (by simp)
  have hmin : minBy (fun h => 8 - (s.freeSlices h).length) (List.range 20) = some h :=
    minBy_range hh (fun j hj => by rw [hlen, hlen]; have := hmost j hj; omega) fun j hj => by rw [hlen, hlen]; have := hbefore j hj; omega
  refine ⟨?_, hnone⟩
  rw [State.offerTo, show (if g < 20 then s.freeSlices g else []) = [] from ?_]
  · dsimp only
    rw [hmin]
    exact freeSlices_head hk hidle hfirst
  · split_ifs with hlt
    · exact hnone hlt
    · rfl

/-! ### Offers -/

/-- What the new cycle of an offer leaves as it is. -/
theorem offerCycle_spec (s : State) (fresh : Bool) (hoffer : fresh = true ∨ g ∉ s.hdg.offered) :
    (s.offerCycle fresh).hdg.queue = s.hdg.queue ∧ (s.offerCycle fresh).hdg.inflight = s.hdg.inflight ∧
    (s.offerCycle fresh).hdg.slices = s.hdg.slices ∧ g ∉ (s.offerCycle fresh).hdg.offered ∧ ∃ x, s.offerCycle fresh = { s with hdg := x } := by
  rw [State.offerCycle]
  split_ifs with hf
  · exact ⟨rfl, rfl, rfl, by simp, _, rfl⟩
  · exact ⟨rfl, rfl, rfl, hoffer.resolve_left hf, s.hdg, rfl⟩

/-- A group's head header handed over. -/
theorem offer_taken (hup : s.coreUp = true) (hg : g < 21) (hqueue : s.hdg.queue.get g = i :: r) (hflight : (s.hdg.inflight.get g).length < 32)
    (hverdict : ∀ v, (s.pkt i).verdict = some v → v = 0) (hoffer : fresh = true ∨ g ∉ s.hdg.offered)
    (hturn : ∀ t : State, t.hdg.queue = s.hdg.queue → t.hdg.slices = s.hdg.slices → t.mayOffer g = true → t.offerTo g = some n ∧ t.offerTurn g = true) :
    ∃ t, exec (.headerOffer g fresh) s = .next t ∧ t.hdg.queue.get g = r ∧
      t.hdg.inflight.get g = s.hdg.inflight.get g ++ [n] ∧ (t.hdg.slices.get n).st = .taken ∧ (t.hdg.slices.get n).res.pkt = i ∧
      (t.hdg.slices.get n).res.port = (s.pkt i).port ∧ (t.hdg.slices.get n).res.group = g ∧ g ∈ t.hdg.offered ∧
      (∀ j, j ≠ n → t.hdg.slices.get j = s.hdg.slices.get j) ∧ t = { s with hdg := t.hdg } := by
  obtain ⟨u, hu⟩ : ∃ u, u = s.offerCycle fresh := ⟨_, rfl⟩
  obtain ⟨hq, hfl, hsl, hoff, x, hx⟩ := offerCycle_spec s fresh hoffer
  rw [← hu] at hq hfl hsl hoff hx
  have huup : u.coreUp = true := by rw [hx]; exact hup
  have hpkt : ∀ j, u.pkt j = s.pkt j := fun j => by rw [hx]; rfl
  have hbad : u.badTail i = false := by
    rw [State.badTail, hpkt]
    cases hv : (s.pkt i).verdict with
    | none => rfl
    | some v => rw [hverdict v hv]; rfl
  have hcont : u.hdg.offered.contains g = false := by simpa using hoff
  have hmay : u.mayOffer g = true := by
    rw [State.mayOffer, huup, hq, hqueue, List.head?_cons, Option.any_some, hbad, hcont, hfl, decide_eq_true hflight]
    rfl
  obtain ⟨hto, htu⟩ := hturn u hq hsl hmay
  have hslice : (u.handOver g n i).hdg.slices = s.hdg.slices.set n
      { st := .taken, res := { port := (s.pkt i).port, pass := (s.pkt i).pass, group := g, pkt := i } } := by
    rw [State.handOver, State.setSlice]
    dsimp only
    rw [hsl, hpkt]
  refine ⟨u.handOver g n i, ?_, ?_, ?_, ?_, ?_, ?_, ?_, List.mem_cons_self, fun j hj => ?_, by rw [hx]; rfl⟩
  · rw [exec_headerOffer, execHeaderOffer, decide_eq_true hg, whenWf, if_pos rfl, ← hu]
    dsimp only
    rw [hq, hqueue]
    dsimp only
    rw [huup, hcont, if_neg (by decide), hbad, if_neg (by decide), hto]
    dsimp only
    rw [hmay, htu, occurs, if_pos (by decide)]
  · rw [State.handOver, State.setSlice]
    dsimp only
    rw [SMap.get_mod, if_pos rfl, hq, hqueue, List.drop_one, List.tail_cons]
  · rw [State.handOver, State.setSlice]
    dsimp only
    rw [SMap.get_mod, if_pos rfl, hfl]
  all_goals rw [hslice, SMap.get_set]
  · rw [if_pos rfl]
  · rw [if_pos rfl]
  · rw [if_pos rfl]
  · rw [if_pos rfl]
  · rw [if_neg hj]

end

end Sys2Proof.Machine
end

section
/-! PROOFS. The obligation on Headgate's admission (R212–R271, R569). -/
namespace Sys2Proof.Machine

section
variable {s t u : State} {i k g h n v : Nat} {fresh whole : Bool} {r : List Nat}

theorem offerTurn_own (hmay : t.mayOffer g = true) (hg : g < 20) (hfree : t.freeSlices g ≠ []) : t.offerTurn g = true := by
  rw [State.offerTurn, State.offersOwn, hmay, decide_eq_true hg, bne_iff_ne.mpr hfree]
  rfl

theorem offerTurn_alone (hg : g < 20 → t.freeSlices g = []) (hothers : ∀ j < 21, j ≠ g → t.hdg.queue.get j = []) : t.offerTurn g = true := by
  rw [State.offerTurn]
  refine (Bool.or_eq_true _ _).mpr (.inr (List.all_eq_true.mpr fun j hj => ?_))
  have hj21 := List.mem_range.mp hj
  by_cases hjg : j = g
  · subst hjg
    have hnot : t.offersOwn j = false := by
      rw [State.offersOwn]
      by_cases hlt : j < 20
      · rw [hg hlt]; simp
      · rw [decide_eq_false hlt]; simp
    rw [hnot]
    simp
  · have hmay : t.mayOffer j = false := by
      rw [State.mayOffer, hothers j hj21 hjg]
      simp
    rw [State.offersOwn, State.offersOther, hmay]
    simp

/-- A header whose frame has a bad verdict is discarded. -/
theorem offer_discards (hup : s.coreUp = true) (hg : g < 21) (hqueue : s.hdg.queue.get g = i :: r) (hv : (s.pkt i).verdict = some v) (hbad : v ≠ 0)
    (hoffer : fresh = true ∨ g ∉ s.hdg.offered) : ∃ t, exec (.headerOffer g fresh) s = .next t ∧
      t.hdg.queue.get g = r ∧ t.hdg.slices = s.hdg.slices ∧ (t.pkt i).live = false ∧
      t.ctr (Reg.qmSpill 17) = (s.ctr (Reg.qmSpill 17) + 1) % 2 ^ 64 := by
  obtain ⟨u, hu⟩ : ∃ u, u = s.offerCycle fresh := ⟨_, rfl⟩
  obtain ⟨hq, -, hsl, hoff, x, hx⟩ := offerCycle_spec s fresh hoffer
  rw [← hu] at hq hsl hoff hx
  have huup : u.coreUp = true := by rw [hx]; exact hup
  have hpkt : u.pkt i = s.pkt i := by rw [hx]; rfl
  have htail : u.badTail i = true := by
    rw [State.badTail, hpkt, hv, Option.any_some]
    exact bne_iff_ne.mpr hbad
  have hcont : u.hdg.offered.contains g = false := by simpa using hoff
  obtain ⟨a, ha⟩ : ∃ a, a = { u with hdg.queue := s.hdg.queue.set g r, hdg.offered := g :: u.hdg.offered } := ⟨_, rfl⟩
  obtain ⟨b, hb⟩ : ∃ b, b = (a.spill 17).freePkt i := ⟨_, rfl⟩
  obtain ⟨hlive, hctr⟩ := freePkt_spec (a.spill 17) i
  rw [← hb] at hlive hctr
  have hout : a.Outgoes b := hb ▸ (outgoes_spill a 17 1).trans (outgoes_freePkt _ i)
  have hcmp := pfcCompare_step b (a.pkt i).port
  have hhdg : (b.pfcCompare (a.pkt i).port).hdg = a.hdg := by rw [hcmp.rest]; exact hout.only.hdg_eq (by decide)
  refine ⟨b.pfcCompare (a.pkt i).port, ?_, ?_, ?_, ?_, ?_⟩
  · rw [exec_headerOffer, execHeaderOffer, decide_eq_true hg, whenWf, if_pos rfl, ← hu]
    dsimp only
    rw [hq, hqueue]
    dsimp only
    rw [huup, hcont, if_neg (by decide), htail, if_pos rfl, State.headerDiscard, hb, ha]
  · rw [hhdg, ha]
    exact (SMap.get_set ..).trans (if_pos rfl)
  · rw [hhdg, ha]
    exact hsl
  · have hqm : (b.pfcCompare (a.pkt i).port).qm = b.qm := by rw [hcmp.rest]
    rw [State.pkt, hqm, ← State.pkt]
    exact hlive
  · rw [hcmp.ctr _ (by decide), hctr _ (by decide), State.spill, State.ctr_count _ _ _ _ _ (by decide), State.ctr_bump, if_pos rfl, ha, hx]
    rfl

/-- A group that has had its offer in this cycle has no other. -/
theorem offer_waits (hg : g < 21) (hoff : g ∈ s.hdg.offered) : exec (.headerOffer g false) s = .next s := by
  have hcont : s.hdg.offered.contains g = true := List.contains_iff_mem.mpr hoff
  rw [exec_headerOffer, execHeaderOffer, decide_eq_true hg, whenWf, if_pos rfl, State.offerCycle, if_neg (by decide)]
  dsimp only
  split
  · rfl
  · rw [hcont, Bool.or_true, if_pos rfl]

/-! ### The start of a parse -/

theorem parse_starts (hup : s.coreUp = true) (hk : k < 160) (hst : (s.hdg.slices.get k).st = .taken) (hhold : s.bit Reg.hdgCtrl 0 = false)
    (hn : n = (s.pkt (s.hdg.slices.get k).res.pkt).bytes.length) (hlen : 256 ≤ n ∨ whole = true)
    (hv : ∀ v, (s.pkt (s.hdg.slices.get k).res.pkt).verdict = some v → v = 0) : ∃ t, exec (.parseStart k whole) s = .next t ∧
      (t.hdg.slices.get k).st = .running ∧ (t.hdg.slices.get k).avail = min 256 (n - 4) ∧
      (t.hdg.slices.get k).res = { (s.hdg.slices.get k).res with lenValid := whole } ∧
      (∀ j, j ≠ k → t.hdg.slices.get j = s.hdg.slices.get j) ∧ t.hdg.queue = s.hdg.queue ∧ t.qm = s.qm := by
  have htail : s.badTail (s.hdg.slices.get k).res.pkt = false := by
    rw [State.badTail]
    cases hp : (s.pkt (s.hdg.slices.get k).res.pkt).verdict with
    | none => rfl
    | some v => rw [hv v hp]; rfl
  obtain ⟨x, hx⟩ : ∃ x, x = s.hdg.slices.get k := ⟨_, rfl⟩
  obtain ⟨a, ha⟩ : ∃ a, a = s.setSlice k { x with st := .running, avail := min 256 (n - 4), res := { x.res with lenValid := whole } } := ⟨_, rfl⟩
  have hcmp := pfcCompare_step a x.res.port
  have hget : ∀ j, (a.pfcCompare x.res.port).hdg.slices.get j = if j = k then
      { x with st := .running, avail := min 256 (n - 4), res := { x.res with lenValid := whole } } else s.hdg.slices.get j := fun j => by
    rw [hcmp.rest, ha]
    exact SMap.get_set ..
  refine ⟨a.pfcCompare x.res.port, ?_, by rw [hget, if_pos rfl], by rw [hget, if_pos rfl], by rw [hget, if_pos rfl, hx],
    fun j hj => by rw [hget, if_neg hj], by rw [hcmp.rest, ha]; rfl, by rw [hcmp.rest, ha]; rfl⟩
  rw [exec_parseStart, execParseStart, decide_eq_true hk, whenWf, if_pos rfl]
  dsimp only
  rw [hup, hst, hhold, if_neg (by decide), htail, if_neg (by decide), ← hx, if_neg, ha, hn, hx]
  rintro ⟨h1, h2⟩
  rcases hlen with h | h
  · rw [hn] at h
    rw [hx] at h1
    omega
  · rw [h] at h2
    exact absurd h2 (by decide)

theorem parse_held (hk : k < 160) (hhold : s.bit Reg.hdgCtrl 0 = true) : exec (.parseStart k whole) s = .next s := by
  rw [exec_parseStart, execParseStart, decide_eq_true hk, whenWf, if_pos rfl]
  dsimp only
  rw [hhold, Bool.or_true, if_pos rfl]

end

/-- Settles O44: admission, cells, offers and the start of a parse, each by its own lemma. -/
theorem headgateAdmission : Obligations.HeadgateAdmission := by
  intro s hup
  refine ⟨?_, fun i g err hlive hvoq hinc hcells hrec hroom => ingressCell_spec hlive hvoq hinc hcells hrec hroom, ?_,
    fun g hg hoff => offer_waits hg hoff, fun g fresh i r v hg hq hv hbad hoff => offer_discards hup hg hq hv hbad hoff,
    fun k whole n hk hst hhold hn hlen hv => parse_starts hup hk hst hhold hn hlen hv, fun k whole hk _ hhold => parse_held hk hhold⟩
  · intro f p i g hp hlane hrec hupRun hlen hty hi hg
    refine ⟨fun hadmit => ?_, fun hadmit => refused_spec hadmit hp hlane hrec hupRun hlen hty hg⟩
    obtain ⟨t, ht, hlive, hport, hbytes, hverdict, hts, hnext, hqueue, hothers, hreceiving, harriving, hpkts, hmem, hvoq⟩ :=
      admitted_spec hadmit hp hlane hrec hupRun hlen hty hi hg
    refine ⟨t, ht, hlive, hport, hbytes, hverdict, fun hjumps taken u htaken hu => ?_, hnext, hqueue, hothers, hreceiving, harriving, hpkts, hmem, hvoq⟩
    rw [hg] at hu
    rw [hts, rxStamp_eq hjumps htaken hu]
  · intro g fresh i r hg hqueue hflight hverdict hoffer idle free takes
    refine ⟨fun k hg20 hk hidle hfirst => offer_taken hup hg hqueue hflight hverdict hoffer fun t hq hsl hmay => ?_,
      fun h k hgf hothers hh hk hidle hfirst hmost hbefore => offer_taken hup hg hqueue hflight hverdict hoffer fun t hq hsl hmay => ?_⟩
    · obtain ⟨hto, hfree⟩ := offerTo_own (s := t) hg20 hk (by rw [hsl]; exact hidle) (by rw [hsl]; exact hfirst)
      exact ⟨hto, offerTurn_own hmay hg20 hfree⟩
    · have hcount : ∀ j, t.freeCount j = free j := fun j => by rw [State.freeCount, hsl]
      obtain ⟨hto, hnone⟩ := offerTo_other (s := t) (g := g) (h := h) (by rw [hcount]; exact hgf) hh hk (by rw [hsl]; exact hidle) (by rw [hsl]; exact hfirst)
        (fun j hj => by rw [hcount, hcount]; exact hmost j hj) fun j hj => by rw [hcount, hcount]; exact hbefore j hj
      exact ⟨hto, offerTurn_alone hnone (by rw [hq]; exact hothers)⟩

end Sys2Proof.Machine
end

section
/-! PROOFS. Contexts as their table lists them, and a context built (R336–R349). -/
namespace Sys2Proof.Machine

section
variable {V : Type} [DecidableEq V] [Inhabited V]

/-- A canonical table lists what reads as something. -/
theorem SMap.mem_entries_iff {m : SMap V} (h : m.wf = true) (k : Nat) (v : V) : (k, v) ∈ m.entries ↔ m.get k = v ∧ v ≠ default := by
  obtain ⟨hrise, hne⟩ := Bool.and_eq_true_iff.mp h
  rw [← smapFind_eq_some_iff hrise, SMap.get, SMap.getD]
  constructor
  · intro hfind
    have hv := List.all_eq_true.mp hne (k, v) ((smapFind_eq_some_iff hrise k v).mp hfind)
    rw [hfind]
    exact ⟨rfl, of_decide_eq_true hv⟩
  · rintro ⟨hget, hv⟩
    cases hf : smapFind m.entries k with
    | none => rw [hf] at hget; exact absurd hget.symm hv
    | some w => rw [hf] at hget; exact congrArg some hget

end

section
variable (s : State)
theorem exec_contextBuild : exec .contextBuild s = execContextBuild s := rfl
theorem exec_contextSlot (cluster engine : Nat) : exec (.contextSlot cluster engine) s = execContextSlot cluster engine s := rfl
theorem exec_threadTake (cluster engine thread : Nat) :
    exec (.threadTake cluster engine thread) s = execThreadTake cluster engine thread s := rfl
theorem exec_contextEnd (ctx : Nat) : exec (.contextEnd ctx) s = execContextEnd ctx s := rfl
theorem exec_release (ctx : Nat) : exec (.release ctx) s = execRelease ctx s := rfl
theorem exec_watchdogExpire (ctx : Nat) : exec (.watchdogExpire ctx) s = execWatchdogExpire ctx s := rfl
theorem exec_exceptionWatchdogExpire (ctx : Nat) : exec (.exceptionWatchdogExpire ctx) s = execExceptionWatchdogExpire ctx s := rfl

end

section
variable {s t : State} {c n dom : Nat} {l : LookupResult} {q : List LookupResult}

theorem mem_ctxsWith (hwf : s.dsp.ctxs.wf = true) {p : Ctx → Bool} (hp : p default = false) (k : Nat) (x : Ctx) :
    (k, x) ∈ s.ctxsWith p ↔ s.ctx k = x ∧ p x = true := by
  rw [State.ctxsWith, List.mem_filter, SMap.mem_entries_iff hwf]
  constructor
  · rintro ⟨⟨hget, -⟩, hpx⟩
    exact ⟨hget, hpx⟩
  · rintro ⟨hget, hpx⟩
    refine ⟨⟨hget, fun hd => ?_⟩, hpx⟩
    rw [hd, hp] at hpx
    exact absurd hpx (by decide)

theorem ctx_setCtx_eq (s : State) (c k : Nat) (x : Ctx) : (s.setCtx c x).ctx k = if k = c then x else s.ctx k := SMap.get_set ..

/-- The lowest free context. -/
theorem freeCtx_eq (hwf : s.dsp.ctxs.wf = true) (hc : lowest (fun c => (s.ctx c).st = .free) c) : s.freeCtx = c := by
  obtain ⟨hfree, hbelow⟩ := hc
  have hmem : ∀ k, k ∈ s.dsp.ctxs.find (fun c => c.st != .free) ↔ (s.ctx k).st ≠ .free := fun k =>
    (SMap.mem_find hwf rfl k).trans bne_iff_ne
  exact lowestFree_eq (SMap.pairwise_find hwf _) (fun h => (hmem c).mp h hfree) fun j hj => (hmem j).mpr (hbelow j hj)

/-! ### The cluster a context goes to -/

theorem clOpen_iff : s.clOpen n = true ↔ (s.dsp.buildCycle = s.parseCycle → s.dsp.accepted.count n < 2) := by
  rw [State.clOpen, State.acceptedNow, decide_eq_true_eq]
  split_ifs with h
  · exact ⟨fun hc _ => hc, fun hc => hc h⟩
  · exact ⟨fun _ hb => absurd hb h, fun _ => by simp⟩

/-- The cluster next in turn takes the context where it can. -/
theorem pickCluster_next (hn : n < 16) (hturn : n = (s.dsp.rr + 1) % 16) (hen : s.clEnabled n = true) (hheld : s.clHeld n < s.clLimit)
    (hopen : s.dsp.buildCycle = s.parseCycle → s.dsp.accepted.count n < 2) : s.pickCluster = (some n, []) := by
  have hall : s.allFull = false := by
    rw [State.allFull, List.all_eq_false]
    exact ⟨n, List.mem_range.mpr hn, by rw [hen, decide_eq_false (by omega)]; decide⟩
  have horder : s.clOrder.filter (fun n => s.clEnabled n) = n :: ((List.range' 1 15).map fun i => (s.dsp.rr + 1 + i) % 16).filter fun n => s.clEnabled n := by
    rw [State.clOrder, show List.range 16 = 0 :: List.range' 1 15 by decide, List.map_cons, List.filter_cons_of_pos, Nat.add_zero, ← hturn]
    rwa [Nat.add_zero, ← hturn]
  have hstop : (decide (s.clLimit ≤ s.clHeld n) || !s.clOpen n) = false := by
    rw [clOpen_iff.mpr hopen, decide_eq_false (by omega)]
    rfl
  rw [State.pickCluster]
  dsimp only
  rw [hall, if_neg (by decide), horder, List.takeWhile_cons_of_neg (by rw [hstop]; decide)]
  rfl

/-- With every enabled cluster at its two contexts of this cycle, none takes one. -/
theorem pickCluster_none (hcycle : s.dsp.buildCycle = s.parseCycle) (hfull : ∀ n < 16, s.clEnabled n = true → 2 ≤ s.dsp.accepted.count n) :
    s.pickCluster.1 = none := by
  have hclosed : ∀ n ∈ s.clOrder.filter (fun n => s.clEnabled n), s.clOpen n = false := fun n hn => by
    obtain ⟨hmem, hen⟩ := List.mem_filter.mp hn
    obtain ⟨i, -, rfl⟩ := List.mem_map.mp hmem
    rw [← Bool.not_eq_true, clOpen_iff]
    exact fun h => absurd (h hcycle) (by have := hfull _ (Nat.mod_lt _ (by decide)) hen; omega)
  rw [State.pickCluster]
  split_ifs
  · exact List.find?_eq_none.mpr fun n hn => by rw [hclosed n hn]; decide
  · dsimp only
    rw [List.takeWhile_eq_self_iff.mpr fun n hn => by rw [hclosed n hn]; simp, List.drop_length]
    rfl

/-! ### A context built -/

/-- What a context built on a cluster is. -/
structure Built (s t : State) (l : LookupResult) (c n : Nat) : Prop where
  dsp : ∃ x, t.dsp = { s.dsp with
    ctxs := s.dsp.ctxs.set c x, rr := n, builds := s.dsp.builds + 1
    nextSeq := s.dsp.nextSeq.set x.domain ((x.seq + 1) % 65536), buildCycle := s.parseCycle, accepted := n :: s.acceptedNow } ∧
    x.st = .ready ∧ x.pkt = l.parse.pkt ∧ x.domain = s.domainOf l (s.flowHashOf l) ∧ x.seq = s.dsp.nextSeq.get x.domain ∧ x.cluster = n ∧
    x.built = s.dsp.builds + 1 ∧ x.ending = .none ∧ x.edits = [] ∧
    x.deadline = (tsSec (s.contextTs (s.pkt l.parse.pkt)) * 1000000000 + tsNs (s.contextTs (s.pkt l.parse.pkt)) + s.budget l.tc) % 2 ^ 32 ∧
    x.avail = availOf (s.pkt l.parse.pkt).bytes.length ∧
    ∀ i, i < x.avail → x.byte (0x100 + i) = (s.pkt l.parse.pkt).bytes.getD i 0
  tables : t.tables = s.tables
  mem : t.mem = s.mem
  ctr : t.ctr (Reg.dspClCnt n 0) = (s.ctr (Reg.dspClCnt n 0) + 1) % 2 ^ 64
  rd : ∀ a, a < 0x700000 → t.rd a = s.rd a

/-- The header window of a new context holds the frame's first bytes. -/
theorem ctxFrame_window (md frame : List Byte) {i : Nat} (hi : i < availOf frame.length) :
    (ctxFrame md frame).get (0x100 + i) = frame.getD i 0 := by
  have hlen : i < (frame.take (availOf frame.length)).length := by
    rw [List.length_take]
    unfold availOf at *
    omega
  rw [ctxFrame, get_putBytes _ _ _ _ hlen, List.getElem_take, List.getD_eq_getElem]

/-- A context entered in its table, on cluster `n`, with its record in the flow engine. -/
def State.enterCtx (s : State) (c n : Nat) (x : Ctx) (f : FlowCtx) : State :=
  (({ s.setCtx c x with dsp.rr := n, dsp.builds := s.dsp.builds + 1, dsp.nextSeq := s.dsp.nextSeq.set x.domain ((x.seq + 1) % 65536)
                        dsp.buildCycle := s.parseCycle, dsp.accepted := n :: s.acceptedNow }.setInst x.built f).bump (Reg.dspClCnt n 0)).count 48 [n, 16]

/-- The state in which the context's packet has its timestamp and the parse's offsets. -/
def State.stampedPkt (s : State) (l : LookupResult) : State :=
  (s.setPkt l.parse.pkt { s.pkt l.parse.pkt with ts80 := s.contextTs (s.pkt l.parse.pkt) }).keepParse l.parse

theorem buildCtx_eq (s : State) (l : LookupResult) (n : Nat) : ∃ md f d, s.buildCtx l n [] = (s.stampedPkt l).enterCtx s.freeCtx n
    { st := .ready, pass := l.parse.pass, seq := (s.stampedPkt l).dsp.nextSeq.get ((s.stampedPkt l).domainOf l ((s.stampedPkt l).flowHashOf l))
      domain := (s.stampedPkt l).domainOf l ((s.stampedPkt l).flowHashOf l), deadline := d
      cluster := n, built := (s.stampedPkt l).dsp.builds + 1, frame := ctxFrame md (s.pkt l.parse.pkt).bytes, pkt := l.parse.pkt
      avail := availOf (s.pkt l.parse.pkt).bytes.length, siphonEn := bitAt l.ad 125, siphon := bitsOf l.ad 124 121, culvert := bitAt l.ad 120 } f ∧
    d = (tsSec (s.contextTs (s.pkt l.parse.pkt)) * 1000000000 + tsNs (s.contextTs (s.pkt l.parse.pkt)) + (s.stampedPkt l).budget l.tc) % 2 ^ 32 :=
  ⟨_, _, _, rfl, rfl⟩

theorem enterCtx_spec (s : State) (c : Nat) (x : Ctx) (f : FlowCtx) (hn : n < 16) :
    (s.enterCtx c n x f).dsp = { s.dsp with
      ctxs := s.dsp.ctxs.set c x, rr := n, builds := s.dsp.builds + 1, nextSeq := s.dsp.nextSeq.set x.domain ((x.seq + 1) % 65536)
      buildCycle := s.parseCycle, accepted := n :: s.acceptedNow } ∧ (s.enterCtx c n x f).tables = s.tables ∧ (s.enterCtx c n x f).mem = s.mem ∧
    (s.enterCtx c n x f).ctr (Reg.dspClCnt n 0) = (s.ctr (Reg.dspClCnt n 0) + 1) % 2 ^ 64 ∧ ∀ a, a < 0x700000 → (s.enterCtx c n x f).rd a = s.rd a := by
  have hapart : Reg.dspClCnt n 0 < 0x740000 := by unfold Reg.dspClCnt; omega
  unfold State.enterCtx
  refine ⟨State.count_dsp .., State.count_tables .., State.count_mem .., ?_, fun a ha => State.rd_count _ _ _ _ _ ha⟩
  rw [State.ctr_count _ _ _ _ _ hapart, State.ctr_bump, if_pos rfl]
  rfl

theorem stampedPkt_eq (s : State) (l : LookupResult) : ∃ x, s.stampedPkt l = { s with qm := x } := ⟨_, rfl⟩

/-- What a context's build reads of the registers does not see the packets. -/
theorem build_reads (s : State) (x : SwitchCore) (l : LookupResult) : ({ s with qm := x } : State).flowHashOf l = s.flowHashOf l ∧
    (∀ fh, ({ s with qm := x } : State).domainOf l fh = s.domainOf l fh) ∧ ({ s with qm := x } : State).budget l.tc = s.budget l.tc ∧
    ({ s with qm := x } : State).acceptedNow = s.acceptedNow := ⟨rfl, fun _ => rfl, rfl, rfl⟩

theorem buildCtx_built (hn : n < 16) (hc : s.freeCtx = c) : Built s (s.buildCtx l n []) l c n := by
  obtain ⟨md, f, d, heq, hd⟩ := buildCtx_eq s l n
  obtain ⟨q, hq⟩ := stampedPkt_eq s l
  obtain ⟨hfh, hdom, hbudget, hacc⟩ := build_reads s q l
  rw [hq, hc, hfh, hdom] at heq
  rw [hq, hbudget] at hd
  obtain ⟨hdsp, htables, hmem, hctr, hrd⟩ := enterCtx_spec { s with qm := q } c _ f hn
  rw [← heq] at hdsp htables hmem hctr hrd
  rw [hacc] at hdsp
  exact ⟨⟨_, hdsp, rfl, rfl, rfl, rfl, rfl, rfl, rfl, rfl, hd, rfl, fun i hi => ctxFrame_window md _ hi⟩, htables, hmem, hctr, hrd⟩

end

end Sys2Proof.Machine
end

section
/-! PROOFS. Contexts built, slotted and taken by threads (R336–R353, R378). -/
namespace Sys2Proof.Machine

section
variable {s t : State} {c n dom cl e th i : Nat} {l : LookupResult} {q : List LookupResult} {x : Ctx}

/-! ### Building -/

theorem contextBuild_builds (hup : s.coreUp = true) (hout : s.tables.out = l :: q) (hfree : s.freeCtxs ≠ 0) (hpick : s.pickCluster = (some n, [])) :
    exec .contextBuild s = .next ({ s with tables.out := q }.buildCtx l n []) := by
  rw [exec_contextBuild, execContextBuild, hout]
  dsimp only
  rw [if_neg hfree, hpick]
  dsimp only
  rw [occurs, if_pos hup]

theorem contextBuild_waits (hfree : s.freeCtxs ≠ 0) (hpick : s.pickCluster.1 = none) : exec .contextBuild s = .next s := by
  rw [exec_contextBuild, execContextBuild]
  split
  · rfl
  · dsimp only
    rw [if_neg hfree]
    split
    next cl full hp => rw [hp] at hpick; exact absurd hpick (by simp)
    · rfl

theorem contextBuild_drops (hup : s.coreUp = true) (hout : s.tables.out = l :: q) (hfree : s.freeCtxs = 0) :
    ∃ t, exec .contextBuild s = .next t ∧ t.tables.out = q ∧ t.dsp = s.dsp ∧
      (t.pkt l.parse.pkt).live = false ∧ t.ctr (Reg.qmSpill 3) = (s.ctr (Reg.qmSpill 3) + 1) % 2 ^ 64 := by
  obtain ⟨a, ha⟩ : ∃ a, a = { s with tables.out := q } := ⟨_, rfl⟩
  obtain ⟨b, hb⟩ : ∃ b, b = (a.spill 3).freePkt l.parse.pkt := ⟨_, rfl⟩
  obtain ⟨hlive, hctr⟩ := freePkt_spec (a.spill 3) l.parse.pkt
  rw [← hb] at hlive hctr
  have hgo : a.Outgoes b := hb ▸ (outgoes_spill a 3 1).trans (outgoes_freePkt _ _)
  refine ⟨b, ?_, ?_, ?_, hlive, ?_⟩
  · rw [exec_contextBuild, execContextBuild, hout]
    dsimp only
    rw [if_pos hfree, occurs, if_pos hup, hb, ha]
  · rw [hgo.only.tables_eq (by decide), ha]
  · rw [hgo.only.dsp_eq (by decide), ha]
  · rw [hctr _ (by decide), State.spill, State.ctr_count _ _ _ _ _ (by decide), State.ctr_bump, if_pos rfl, ha]
    rfl

/-! ### The earliest deadline -/

theorem isBefore_asymm {a b : Nat} (h : isBefore a b 32 = true) : isBefore b a 32 = false ∧ b ≠ a := by
  rw [isBefore, Bool.and_eq_true_iff, decide_eq_true_eq, decide_eq_true_eq] at h
  rw [isBefore, Bool.and_eq_false_iff, decide_eq_false_iff_not, decide_eq_false_iff_not]
  refine ⟨.inr ?_, fun hab => ?_⟩
  · omega
  · rw [hab] at h
    omega

theorem earliest_mem {tie : Ctx → Nat} {l : List (Nat × Ctx)} {b : Nat × Ctx} (h : earliest tie l = some b) : b ∈ l := by
  induction l generalizing b with
  | nil => exact absurd h (by simp [earliest])
  | cons a r ih =>
    rw [earliest] at h
    split at h
    · obtain rfl := Option.some.inj h
      exact List.mem_cons_self
    next d hd =>
      split_ifs at h
      · obtain rfl := Option.some.inj h
        exact List.mem_cons_of_mem _ (ih hd)
      · obtain rfl := Option.some.inj h
        exact List.mem_cons_self

/-- The context whose deadline is before every other's comes first. -/
theorem earliest_eq {tie : Ctx → Nat} {l : List (Nat × Ctx)} {a : Nat × Ctx} (ha : a ∈ l)
    (hothers : ∀ b ∈ l, b ≠ a → isBefore a.2.deadline b.2.deadline 32 = true) : earliest tie l = some a := by
  induction l with
  | nil => exact absurd ha (by simp)
  | cons d r ih =>
    rw [earliest]
    by_cases hda : d = a
    · subst hda
      split
      · rfl
      next b hb =>
        by_cases hbd : b = d
        · rw [hbd]
          exact ite_self _
        · obtain ⟨hafter, hne⟩ := isBefore_asymm (hothers b (List.mem_cons_of_mem _ (earliest_mem hb)) hbd)
          rw [hafter, beq_eq_false_iff_ne.mpr hne]
          rfl
    · have har : a ∈ r := (List.mem_cons.mp ha).resolve_left (Ne.symm hda)
      rw [ih har fun b hb => hothers b (List.mem_cons_of_mem _ hb)]
      dsimp only
      rw [hothers d List.mem_cons_self hda, Bool.true_or, if_pos rfl]

/-- The earliest of the contexts that satisfy a test. -/
theorem earliest_ctxsWith (hwf : s.dsp.ctxs.wf = true) {p : Ctx → Bool} (hp : p default = false) {tie : Ctx → Nat} (hi : p (s.ctx i) = true)
    (hothers : ∀ k, k ≠ i → p (s.ctx k) = true → isBefore (s.ctx i).deadline (s.ctx k).deadline 32 = true) :
    earliest tie (s.ctxsWith p) = some (i, s.ctx i) := by
  refine earliest_eq ((mem_ctxsWith hwf hp i _).mpr ⟨rfl, hi⟩) fun b hb hne => ?_
  obtain ⟨k, y⟩ := b
  obtain ⟨rfl, hpy⟩ := (mem_ctxsWith hwf hp k y).mp hb
  exact hothers k (fun hk => hne (by rw [hk])) hpy

/-! ### The place of a context -/

/-- The first word's bytes, read back. -/
theorem word_putBytes (m : SMap Byte) (w : Nat) : (List.range 4).map (fun a => (putBytes m 0 (leBytes w 4)).get a) = leBytes w 4 := by
  refine List.ext_getElem (by simp) fun k h1 h2 => ?_
  rw [List.getElem_map, List.getElem_range]
  exact (congrArg _ (Nat.zero_add k).symm).trans (get_putBytes m 0 k _ h2)

theorem place_byte (x : Ctx) (e th : Nat) {a : Nat} (ha : 4 ≤ a) : (x.place e th).byte a = x.byte a := by
  rw [Ctx.place, Ctx.byte]
  exact get_putBytes_ne _ _ _ _ (.inr (by rw [leBytes_length]; omega))

theorem place_word (x : Ctx) {e th : Nat} (he : e < 16) (hth : th < 8) :
    leNat ((List.range 4).map fun a => (x.place e th).byte a) / 2 ^ 23 % 16 = e ∧
    leNat ((List.range 4).map fun a => (x.place e th).byte a) / 2 ^ 27 % 8 = th := by
  obtain ⟨w, hw⟩ : ∃ w, w = leNat ((List.range 4).map fun i => x.byte i) := ⟨_, rfl⟩
  have hlt : w < 2 ^ 32 := by
    rw [hw]
    exact (leNat_lt _).trans_le (by simp)
  have hword : leNat ((List.range 4).map fun a => (x.place e th).byte a) = putBits (putBits w 29 27 th) 26 23 e := by
    have h1 := putBits_lt w 29 27 th 32 (by decide) (by decide) hlt
    have h2 := putBits_lt (putBits w 29 27 th) 26 23 e 32 (by decide) (by decide) h1
    have hb := word_putBytes x.frame (putBits (putBits w 29 27 th) 26 23 e)
    simp only [Ctx.place, Ctx.byte] at hw ⊢
    rw [← hw, hb, leNat_leBytes]
    exact Nat.mod_eq_of_lt h2
  have hlow := bitsOf_putBits_same (putBits w 29 27 th) 26 23 e (by decide)
  have habove := bitsOf_putBits_above (putBits w 29 27 th) 26 23 e 29 27 (by decide) (by decide)
  rw [bitsOf_putBits_same w 29 27 th (by decide)] at habove
  rw [hword]
  simp only [bitsOf] at hlow habove
  omega

/-! ### Slots and threads -/

theorem contextSlot_spec (hup : s.coreUp = true) (hcl : cl < 16) (he : e < 16) (hwf : s.dsp.ctxs.wf = true) (hst : (s.ctx i).st = .ready)
    (hcluster : (s.ctx i).cluster = cl)
    (hfirst : ∀ k, k ≠ i → (s.ctx k).st = .ready → (s.ctx k).cluster = cl → isBefore (s.ctx i).deadline (s.ctx k).deadline 32 = true)
    (hslots : ∀ k, (s.ctx k).st = .slotted → (s.ctx k).cluster = cl → (s.ctx k).engine ≠ e) :
    ∃ t, exec (.contextSlot cl e) s = .next t ∧ (t.ctx i).st = .slotted ∧ (t.ctx i).engine = e ∧
      (∀ a, 4 ≤ a → (t.ctx i).byte a = (s.ctx i).byte a) ∧ leNat ((List.range 4).map fun a => (t.ctx i).byte a) / 2 ^ 23 % 16 = e ∧
      (∀ k, k ≠ i → t.ctx k = s.ctx k) ∧ t.flume = s.flume ∧ t.regs = s.regs := by
  have hearly := earliest_ctxsWith (s := s) (i := i) (p := fun c => c.st == .ready && c.cluster == cl) (tie := fun c => c.built) hwf rfl
    (by rw [hst, hcluster]; simp) fun k hk hp => by
      rw [Bool.and_eq_true_iff, beq_iff_eq, beq_iff_eq] at hp
      exact hfirst k hk hp.1 hp.2
  have hheld : s.ctxsWith (fun c => c.st == .slotted && c.cluster == cl && c.engine == e) = [] := List.eq_nil_iff_forall_not_mem.mpr fun b hb => by
    obtain ⟨k, y⟩ := b
    obtain ⟨rfl, hp⟩ := (mem_ctxsWith hwf rfl k y).mp hb
    rw [Bool.and_eq_true_iff, Bool.and_eq_true_iff, beq_iff_eq, beq_iff_eq, beq_iff_eq] at hp
    exact hslots k hp.1.1 hp.1.2 hp.2
  obtain ⟨y, hy⟩ : ∃ y, y = { (s.ctx i).place e 0 with st := .slotted, engine := e, slotted := s.dsp.slots + 1 } := ⟨_, rfl⟩
  have hbyte : ∀ a, y.byte a = ((s.ctx i).place e 0).byte a := fun a => by rw [hy]; rfl
  have hctx : ∀ k, ({ s.setCtx i y with dsp.slots := s.dsp.slots + 1 } : State).ctx k = if k = i then y else s.ctx k := fun k => ctx_setCtx_eq s i k y
  refine ⟨{ s.setCtx i y with dsp.slots := s.dsp.slots + 1 }, ?_, ?_, ?_, fun a ha => ?_, ?_, fun k hk => ?_, rfl, rfl⟩
  · rw [exec_contextSlot, execContextSlot, decide_eq_true hcl, decide_eq_true he, whenWf, if_pos (by decide)]
    dsimp only
    rw [hearly]
    dsimp only
    rw [hup, hheld, occurs, if_pos (by decide), hy]
  · rw [hctx, if_pos rfl, hy]
  · rw [hctx, if_pos rfl, hy]
  · rw [hctx, if_pos rfl, hbyte, place_byte _ _ _ ha]
  · rw [hctx, if_pos rfl]
    simp only [hbyte]
    exact (place_word (s.ctx i) he (by decide)).1
  · rw [hctx, if_neg hk]

theorem rd_engEvent (s : State) (n e th code : Nat) {a : Nat} (ha : a < 0x740000) : (s.engEvent n e th code).rd a = s.rd a := by
  have hne : ∀ j, a ≠ Reg.pmcEng n e j := fun j h => by simp only [Reg.pmcEng] at h; omega
  have hstep : ∀ (t : State) (j : Nat), (if t.fld (Reg.pmcEngSel n) (4 * j + 3) (4 * j) = code then
      if 2 ^ 32 ≤ t.fld (Reg.pmcEng n e j) 31 0 + 1 ∧ t.bit (Reg.pmcEngSel n) (30 + j) then
        { t.setFld (Reg.pmcEng n e j) 31 0 (t.fld (Reg.pmcEng n e j) 31 0 + 1) with
          pmc.armed := t.pmc.armed.set ((n * 16 + e) * 2 + j) (some 3) }
      else t.setFld (Reg.pmcEng n e j) 31 0 (t.fld (Reg.pmcEng n e j) 31 0 + 1)
    else t).rd a = t.rd a := by
    intro t j
    split_ifs
    · exact t.rd_setFld_other _ _ _ _ _ (hne j)
    · exact t.rd_setFld_other _ _ _ _ _ (hne j)
    · rfl
  unfold State.engEvent
  split
  · exact (hstep _ 1).trans (hstep s 0)
  · rfl

theorem threadTake_spec (hup : s.coreUp = true) (hcl : cl < 16) (he : e < 16) (hth : th < 8) (hwf : s.dsp.ctxs.wf = true)
    (hst : (s.ctx i).st = .slotted) (hcluster : (s.ctx i).cluster = cl) (hengine : (s.ctx i).engine = e)
    (hfirst : ∀ k, k ≠ i → (s.ctx k).st = .slotted → (s.ctx k).cluster = cl → (s.ctx k).engine = e →
      isBefore (s.ctx i).deadline (s.ctx k).deadline 32 = true)
    (hfree : (s.thr cl e th).ctx = none) : ∃ t, exec (.threadTake cl e th) s = .next t ∧ (t.ctx i).st = .running ∧ (t.ctx i).thread = th ∧
      (t.thr cl e th).ctx = some i ∧ (t.thr cl e th).wait = none ∧
      (t.thr cl e th).arch = { pc := leNat [(s.ctx i).byte 0x9C, (s.ctx i).byte 0x9D] } ∧
      leNat ((List.range 4).map fun a => (t.ctx i).byte a) / 2 ^ 27 % 8 = th ∧ (∀ a, 4 ≤ a → (t.ctx i).byte a = (s.ctx i).byte a) ∧
      (t.ctx i).wdFrom = s.flume.cycles ∧
      (∀ k, k ≠ i → t.ctx k = s.ctx k) ∧ (∀ a, a < 0x740000 → t.rd a = s.rd a) ∧ t.mem = s.mem := by
  have hearly := earliest_ctxsWith (s := s) (i := i) (p := fun c => c.st == .slotted && c.cluster == cl && c.engine == e) (tie := fun c => c.slotted) hwf rfl
    (by rw [hst, hcluster, hengine]; simp) fun k hk hp => by
      rw [Bool.and_eq_true_iff, Bool.and_eq_true_iff, beq_iff_eq, beq_iff_eq, beq_iff_eq] at hp
      exact hfirst k hk hp.1.1 hp.1.2 hp.2
  obtain ⟨y, hy⟩ : ∃ y, y = { (s.ctx i).place e th with st := .running, thread := th, wdFrom := s.flume.cycles } := ⟨_, rfl⟩
  obtain ⟨u, hu⟩ : ∃ u, u = (s.setCtx i y).setThr cl e th { ctx := some i, arch := { pc := (s.ctx i).entry } } := ⟨_, rfl⟩
  have hbyte : ∀ a, y.byte a = ((s.ctx i).place e th).byte a := fun a => by rw [hy]; rfl
  have hcount := counting_engEvent (s := u) cl e th 8
  have hctx : ∀ k, (u.engEvent cl e th 8).ctx k = if k = i then y else s.ctx k := fun k => by
    rw [State.ctx, hcount.dsp_eq, hu]
    exact ctx_setCtx_eq s i k y
  have hthr : (u.engEvent cl e th 8).thr cl e th = { ctx := some i, arch := { pc := (s.ctx i).entry } } := by
    rw [State.thr, hcount.flume_eq, hu]
    exact (SMap.get_set ..).trans (if_pos rfl)
  refine ⟨u.engEvent cl e th 8, ?_, ?_, ?_, by rw [hthr], by rw [hthr], by rw [hthr]; rfl, ?_, fun a ha => ?_, ?_, fun k hk => ?_, fun a ha => ?_, ?_⟩
  · rw [exec_threadTake, execThreadTake, decide_eq_true hcl, decide_eq_true he, decide_eq_true hth, whenWf, if_pos (by decide), hearly]
    dsimp only
    rw [hup, hfree, occurs, if_pos (by decide), hu, hy]
  · rw [hctx, if_pos rfl, hy]
  · rw [hctx, if_pos rfl, hy]
  · rw [hctx, if_pos rfl]
    simp only [hbyte]
    exact (place_word (s.ctx i) he hth).2
  · rw [hctx, if_pos rfl, hbyte, place_byte _ _ _ ha]
  · rw [hctx, if_pos rfl, hy]
  · rw [hctx, if_neg hk]
  · rw [rd_engEvent _ _ _ _ _ ha, hu]
    rfl
  · rw [hcount.mem_eq, hu]
    rfl

end

end Sys2Proof.Machine
end

section
/-! PROOFS. Contexts ended and released (R348, R356–R359). -/
namespace Sys2Proof.Machine

section
variable {s t : State} {c n cl : Nat} {x : Ctx}

/-! ### The end -/

/-- A deadline missed: its counter and its alarm, with no context changed. -/
theorem deadlineMiss_spec (s : State) (hcl : cl < 16) :
    (∃ r k w, s.deadlineMiss cl = { s with regs := r, ctrs := k, dsp.missWindow := w }) ∧
    (s.deadlineMiss cl).ctr (Reg.dspClCnt cl 1) = (s.ctr (Reg.dspClCnt cl 1) + 1) % 2 ^ 64 := by
  have hapart : Reg.dspClCnt cl 1 < 0x740000 := by unfold Reg.dspClCnt; omega
  obtain ⟨u, hu⟩ : ∃ u, u = (s.bump (Reg.dspClCnt cl 1) 1).count 51 [cl, 16] := ⟨_, rfl⟩
  have hrc : s.RegsCtrs u := hu ▸ (State.regsCtrs_setCtr _ _ _ : s.RegsCtrs (s.bump (Reg.dspClCnt cl 1) 1)).trans (State.count_eq ..)
  have huc : u.ctr (Reg.dspClCnt cl 1) = (s.ctr (Reg.dspClCnt cl 1) + 1) % 2 ^ 64 := by
    rw [hu, State.ctr_count _ _ _ _ _ hapart, State.ctr_bump, if_pos rfl]
  obtain ⟨v, hv⟩ : ∃ v, v = { u with dsp.missWindow := windowAdd u.dsp.missWindow cl 1 (u.fld (Reg.dspClAlarm cl) 15 0) } := ⟨_, rfl⟩
  have hvform : ∃ r k w, v = { s with regs := r, ctrs := k, dsp.missWindow := w } := ⟨_, _, _, by rw [hv, hrc]⟩
  have hvc : v.ctr (Reg.dspClCnt cl 1) = u.ctr (Reg.dspClCnt cl 1) := by rw [hv]; rfl
  have heq : s.deadlineMiss cl = if alarmDue u.dsp.missWindow cl 1 (u.fld (Reg.dspClAlarm cl) 15 0) = true
      then v.setEvent (Reg.dspClEvents cl) 1 (156 + cl) else v := by rw [State.deadlineMiss, ← hu, hv]
  rw [heq]
  split_ifs
  · obtain ⟨r, k, w, hform⟩ := hvform
    refine ⟨⟨_, _, w, (State.setEvent_eq ..).trans (by rw [hform])⟩, ?_⟩
    rw [State.setEvent, State.ctr_raiseEvent _ _ _ hapart]
    exact hvc.trans huc
  · exact ⟨hvform, hvc.trans huc⟩

theorem contextEnd_spec (hup : s.coreUp = true) (hc : c < 8192) (hx : s.ctx c = x) (hst : x.st = .running ∨ x.st = .exception)
    (hend : x.ending ≠ .none) (hcl : x.cluster < 16) :
    ∃ t, exec (.contextEnd c) s = .next t ∧
      t.ctx c = { x with st := .ended, wd := (s.flume.cycles - x.wdFrom) / 1000000, readyAt := s.tb.run } ∧ (∀ k, k ≠ c → t.ctx k = s.ctx k) ∧
      t.thr x.cluster x.engine x.thread = {} ∧ (t.inst x.built).ended = true ∧
      t.ctr (Reg.dspClCnt x.cluster 1) = (if isBefore x.deadline (s.ns64 % 2 ^ 32) 32
        then (s.ctr (Reg.dspClCnt x.cluster 1) + 1) % 2 ^ 64 else s.ctr (Reg.dspClCnt x.cluster 1)) ∧ t.mem = s.mem ∧ t.qm = s.qm := by
  obtain ⟨y, hy⟩ : ∃ y, y = { x with st := .ended, wd := (s.flume.cycles - x.wdFrom) / 1000000, readyAt := s.tb.run } := ⟨_, rfl⟩
  obtain ⟨a, ha⟩ : ∃ a, a = ((s.setCtx c y).setThr x.cluster x.engine x.thread {}).freeRepx x.cluster x.engine x.thread := ⟨_, rfl⟩
  obtain ⟨r, hform⟩ : ∃ r, a = { (s.setCtx c y).setThr x.cluster x.engine x.thread {} with flume.repx := r } := by
    rw [ha, State.freeRepx]
    split_ifs
    · exact ⟨_, rfl⟩
    · exact ⟨_, rfl⟩
  obtain ⟨b, hb⟩ : ∃ b, b = a.setInst x.built { a.inst x.built with ended := true } := ⟨_, rfl⟩
  have hbctx : ∀ k, b.ctx k = if k = c then y else s.ctx k := fun k => by
    rw [hb, hform]
    exact ctx_setCtx_eq s c k y
  have hbthr : b.thr x.cluster x.engine x.thread = {} := by
    rw [hb, hform]
    exact (SMap.get_set ..).trans (if_pos rfl)
  have hbinst : (b.inst x.built).ended = true := by
    rw [hb]
    exact congrArg FlowCtx.ended ((SMap.get_set ..).trans (if_pos rfl))
  have hbctr : ∀ k, b.ctr k = s.ctr k := fun k => by rw [hb, hform]; rfl
  have hbmem : b.mem = s.mem := by rw [hb, hform]; rfl
  have hbqm : b.qm = s.qm := by rw [hb, hform]; rfl
  have hwd : s.wdCount x = (s.flume.cycles - x.wdFrom) / 1000000 := by rw [State.wdCount, if_pos hst]
  have hdue : (s.coreUp && (x.st == .running || x.st == .exception) && x.ending != .none) = true := by
    rw [hup, bne_iff_ne.mpr hend]
    rcases hst with h | h <;> rw [h] <;> rfl
  have hexec : exec (.contextEnd c) s = .next (if isBefore x.deadline (s.ns64 % 2 ^ 32) 32 = true then b.deadlineMiss x.cluster else b) := by
    rw [exec_contextEnd, execContextEnd, decide_eq_true hc, whenWf, if_pos rfl]
    dsimp only
    rw [hx, occurs, hdue, if_pos rfl, hwd, ← hy, ← ha, ← hb]
  refine ⟨_, hexec, ?_⟩
  split_ifs
  · obtain ⟨⟨r', k', w', hmiss⟩, hctr⟩ := deadlineMiss_spec b hcl
    refine ⟨?_, fun k hk => ?_, ?_, ?_, hctr.trans (by rw [hbctr]), ?_, ?_⟩
    · rw [hmiss]; exact (hbctx c).trans ((if_pos rfl).trans hy)
    · rw [hmiss]; exact (hbctx k).trans (if_neg hk)
    · rw [hmiss]; exact hbthr
    · rw [hmiss]; exact hbinst
    · rw [hmiss]; exact hbmem
    · rw [hmiss]; exact hbqm
  · exact ⟨(hbctx c).trans ((if_pos rfl).trans hy), fun k hk => (hbctx k).trans (if_neg hk), hbthr, hbinst, hbctr _, hbmem, hbqm⟩

/-! ### The release -/

/-- A context may be released: Turnout works, and this one is next. -/
def State.releases (s : State) (c : Nat) : Bool := s.boot.core == .running && s.boot.stop == .none && s.nextRelease == some c

theorem release_waits (hc : c < 8192) (h : s.releases c = false) : exec (.release c) s = .next s := by
  rw [State.releases] at h
  rw [exec_release, execRelease, decide_eq_true hc, whenWf, if_pos rfl]
  dsimp only
  rw [occurs, h, if_neg (by decide)]

theorem mem_releasable (hwf : s.dsp.ctxs.wf = true) (k : Nat) (y : Ctx) :
    (k, y) ∈ s.releasable ↔ s.ctx k = y ∧ y.st = .ended ∧ y.seq = s.dsp.relSeq.get y.domain := by
  rw [State.releasable, mem_ctxsWith hwf rfl, Bool.and_eq_true_iff, beq_iff_eq, beq_iff_eq]

/-- What the next context to be released is. -/
theorem nextRelease_some (hwf : s.dsp.ctxs.wf = true) (h : s.nextRelease = some c) :
    (s.ctx c).st = .ended ∧ (s.ctx c).seq = s.dsp.relSeq.get (s.ctx c).domain ∧ s.releasedNow.length < 20 ∧ (s.ctx c).domain ∉ s.releasedNow := by
  rw [State.nextRelease] at h
  split_ifs at h with hlen
  obtain ⟨e, he, hec⟩ := Option.map_eq_some_iff.mp h
  obtain ⟨k, y⟩ := e
  obtain rfl : k = c := hec
  obtain ⟨hmem, hdom⟩ := List.mem_filter.mp (minBy_mem he)
  obtain ⟨rfl, hst, hseq⟩ := (mem_releasable hwf k y).mp hmem
  exact ⟨hst, hseq, by omega, by simpa using hdom⟩

/-- The context releasable for the longest is next, of several the lowest number. -/
theorem nextRelease_eq (hwf : s.dsp.ctxs.wf = true) (hst : (s.ctx c).st = .ended) (hseq : (s.ctx c).seq = s.dsp.relSeq.get (s.ctx c).domain)
    (hlen : s.releasedNow.length < 20) (hdom : (s.ctx c).domain ∉ s.releasedNow)
    (hfirst : ∀ k, k ≠ c → (s.ctx k).st = .ended → (s.ctx k).seq = s.dsp.relSeq.get (s.ctx k).domain →
      (s.ctx c).readyAt < (s.ctx k).readyAt ∨ ((s.ctx c).readyAt = (s.ctx k).readyAt ∧ c < k)) : s.nextRelease = some c := by
  have hmem : (c, s.ctx c) ∈ s.releasable.filter fun e => !s.releasedNow.contains e.2.domain :=
    List.mem_filter.mpr ⟨(mem_releasable hwf c _).mpr ⟨rfl, hst, hseq⟩, by simpa using hdom⟩
  have hsorted : (s.releasable.filter fun e => !s.releasedNow.contains e.2.domain).Pairwise fun a b => a.1 < b.1 :=
    List.Pairwise.filter _ (List.Pairwise.filter _ (List.pairwise_map.mp (SMap.pairwise_keys (Bool.and_eq_true_iff.mp hwf).1)))
  have hother : ∀ e ∈ s.releasable.filter fun e => !s.releasedNow.contains e.2.domain, e.1 ≠ c →
      (s.ctx c).readyAt < e.2.readyAt ∨ ((s.ctx c).readyAt = e.2.readyAt ∧ c < e.1) := by
    rintro ⟨k, y⟩ he hk
    obtain ⟨rfl, hsk, hqk⟩ := (mem_releasable hwf k y).mp (List.mem_filter.mp he).1
    exact hfirst k hk hsk hqk
  obtain ⟨l, m, hsplit⟩ := List.append_of_mem hmem
  rw [hsplit] at hsorted hother
  obtain ⟨-, hright, hleft⟩ := List.pairwise_append.mp hsorted
  rw [State.nextRelease, if_neg (by omega), hsplit, minBy_split (fun e he => ?_) fun e he => ?_]
  · rfl
  · have hlt : e.1 < c := hleft e he (c, s.ctx c) List.mem_cons_self
    have := hother e (List.mem_append_left _ he) (by omega)
    show (s.ctx c).readyAt < e.2.readyAt
    omega
  · have hlt : c < e.1 := (List.pairwise_cons.mp hright).1 e he
    have := hother e (List.mem_append_right _ (List.mem_cons_of_mem _ he)) (by omega)
    show (s.ctx c).readyAt ≤ e.2.readyAt
    omega

/-- Contexts changed one after another, each from what it was. -/
theorem ctx_foldl_setCtx (f : Ctx → Ctx) (l : List (Nat × Ctx)) (s u : State) (hl : ∀ e ∈ l, e.2 = s.ctx e.1) (k : Nat) :
    (l.foldl (fun u e => u.setCtx e.1 (f e.2)) u).ctx k = (if k ∈ l.map Prod.fst then f (s.ctx k) else u.ctx k) := by
  induction l generalizing u with
  | nil => rfl
  | cons e r ih =>
    rw [List.foldl_cons, ih _ fun b hb => hl b (List.mem_cons_of_mem _ hb), List.map_cons, ctx_setCtx_eq]
    by_cases hr : k ∈ r.map Prod.fst
    · rw [if_pos hr, if_pos (List.mem_cons_of_mem _ hr)]
    · by_cases hk : k = e.1
      · rw [if_neg hr, if_pos hk, if_pos (hk ▸ List.mem_cons_self), hl e List.mem_cons_self, hk]
      · rw [if_neg hr, if_neg hk, if_neg (by simp only [List.mem_cons, not_or]; exact ⟨hk, hr⟩)]

theorem foldl_setCtx_eq (f : Ctx → Ctx) (l : List (Nat × Ctx)) (u : State) :
    ∃ m, l.foldl (fun u e => u.setCtx e.1 (f e.2)) u = { u with dsp.ctxs := m } := by
  induction l generalizing u with
  | nil => exact ⟨_, rfl⟩
  | cons e r ih =>
    obtain ⟨m, hm⟩ := ih (u.setCtx e.1 (f e.2))
    exact ⟨m, hm⟩

/-- REL_SEQ moves on, and the context that it then names is releasable. -/
theorem advanceDomain_spec (hwf : s.dsp.ctxs.wf = true) (d q : Nat) : (∃ m, s.advanceDomain d q =
      { s with dsp.ctxs := m, dsp.relSeq := s.dsp.relSeq.set d ((q + 1) % 65536) }) ∧
    ∀ k, (s.advanceDomain d q).ctx k = if (s.ctx k).st = .ended ∧ (s.ctx k).domain = d ∧ (s.ctx k).seq = (q + 1) % 65536
      then { s.ctx k with readyAt := s.tb.run } else s.ctx k := by
  obtain ⟨t, ht⟩ : ∃ t, t = { s with dsp.relSeq := s.dsp.relSeq.set d ((q + 1) % 65536) } := ⟨_, rfl⟩
  have htctx : ∀ k, t.ctx k = s.ctx k := fun k => by rw [ht]; rfl
  have htwf : t.dsp.ctxs.wf = true := by rw [ht]; exact hwf
  have hrel : t.dsp.relSeq.get d = (q + 1) % 65536 := by rw [ht]; exact (SMap.get_set ..).trans (if_pos rfl)
  have heq : s.advanceDomain d q = (t.releasable.filter fun e => e.2.domain == d).foldl
      (fun u e => u.setCtx e.1 { e.2 with readyAt := s.tb.run }) t := by rw [State.advanceDomain, ht]
  have hmem : ∀ k y, (k, y) ∈ t.releasable.filter (fun e => e.2.domain == d) ↔ t.ctx k = y ∧ y.st = .ended ∧ y.domain = d ∧ y.seq = (q + 1) % 65536 := by
    intro k y
    rw [List.mem_filter, mem_releasable htwf, beq_iff_eq]
    constructor
    · rintro ⟨⟨h1, h2, h3⟩, h4⟩
      exact ⟨h1, h2, h4, by rw [h3, h4, hrel]⟩
    · rintro ⟨h1, h2, h4, h3⟩
      exact ⟨⟨h1, h2, by rw [h3, h4, hrel]⟩, h4⟩
  refine ⟨?_, fun k => ?_⟩
  · obtain ⟨m, hm⟩ := foldl_setCtx_eq (fun y => { y with readyAt := s.tb.run }) (t.releasable.filter fun e => e.2.domain == d) t
    exact ⟨m, by rw [heq, hm, ht]⟩
  · rw [heq, ctx_foldl_setCtx (fun y => { y with readyAt := s.tb.run }) _ t t, htctx]
    · refine if_congr ?_ rfl rfl
      rw [List.mem_map]
      constructor
      · rintro ⟨⟨k', y⟩, he, rfl⟩
        obtain ⟨rfl, h⟩ := (hmem k' y).mp he
        rwa [htctx] at h
      · intro h
        exact ⟨(k, s.ctx k), (hmem k _).mpr ⟨htctx k, h⟩, rfl⟩
    · rintro ⟨k', y⟩ he
      exact ((hmem k' y).mp he).1.symm

/-- A packet given up leaves the copies as they are. -/
theorem freePkt_copies (s : State) (i : Nat) : (s.freePkt i).qm.copies = s.qm.copies := by
  have hcells : ∀ (t : State) (o : Nat) (l : List Nat), (t.returnCells o l).qm = t.qm := fun t o l =>
    ((only_returnCells o l (List.Subset.refl _)).mpr (.refl _ t)).qm_eq (by decide)
  unfold State.freePkt
  rw [hcells]
  split_ifs
  · rfl
  · rw [hcells]
    rfl

/-- A packet with no copy to make and no Siphon is given up. -/
theorem releasePkt_drops {i o : Nat} {edits : List Edit} (hinc : (s.pkt i).incomplete = false) (hv : ∀ v, (s.pkt i).verdict = some v → v = 0) :
    s.releasePkt i edits o {} = s.freePkt i := by
  have hnone : ((s.pkt i).verdict.any fun v => v != 0) = false := by
    cases h : (s.pkt i).verdict with
    | none => rfl
    | some v => rw [hv v h]; rfl
  rw [State.releasePkt]
  dsimp only
  rw [hinc, if_neg (by decide), hnone, if_neg (by decide), if_pos ⟨rfl, rfl⟩]
  rfl

theorem release_frees (hup : s.coreUp = true) (hc : c < 8192) (hx : s.ctx c = x) (hst : x.st = .ended) (hwf : s.dsp.ctxs.wf = true)
    (hseq : x.seq = s.dsp.relSeq.get x.domain) (hstop : s.boot.stop = .none)
    (hcycle : s.dsp.relCycle = s.parseCycle → s.dsp.released.length < 20 ∧ x.domain ∉ s.dsp.released)
    (hfirst : ∀ k, k ≠ c → (s.ctx k).st = .ended → (s.ctx k).seq = s.dsp.relSeq.get (s.ctx k).domain →
      x.readyAt < (s.ctx k).readyAt ∨ (x.readyAt = (s.ctx k).readyAt ∧ c < k))
    (hend : x.ending = .drop n) (hsiphon : x.siphonEn = false) (hinc : (s.pkt x.pkt).incomplete = false)
    (hv : ∀ v, (s.pkt x.pkt).verdict = some v → v = 0) :
    ∃ t, exec (.release c) s = .next t ∧ (t.ctx c).st = .free ∧
      (∀ k, k ≠ c → t.ctx k = if (s.ctx k).st = .ended ∧ (s.ctx k).domain = x.domain ∧ (s.ctx k).seq = (x.seq + 1) % 65536
        then { s.ctx k with readyAt := s.tb.run } else s.ctx k) ∧
      t.dsp.relSeq.get x.domain = (x.seq + 1) % 65536 ∧ (∀ d, d ≠ x.domain → t.dsp.relSeq.get d = s.dsp.relSeq.get d) ∧
      t.ctr Reg.dspReleased = (s.ctr Reg.dspReleased + 1) % 2 ^ 64 ∧ (t.pkt x.pkt).live = false ∧ t.qm.copies = s.qm.copies ∧ t.mem = s.mem := by
  have hnow : s.releasedNow.length < 20 ∧ x.domain ∉ s.releasedNow := by
    rw [State.releasedNow]
    split_ifs with h
    · exact hcycle h
    · exact ⟨by simp, by simp⟩
  have hnext : s.nextRelease = some c := nextRelease_eq hwf (by rw [hx]; exact hst) (by rw [hx]; exact hseq) hnow.1 (by rw [hx]; exact hnow.2)
    (by rw [hx]; exact hfirst)
  have hrun : (s.boot.core == .running) = true := by
    rw [State.coreUp] at hup
    exact (Bool.and_eq_true_iff.mp hup).1
  have hdue : (s.boot.core == .running && s.boot.stop == .none && s.nextRelease == some c) = true := by
    rw [hrun, hstop, hnext]
    simp
  have hout : s.outcomeOf x = {} := by
    rw [State.outcomeOf, hend, hsiphon] <;> rfl
  have hempty : x.emptyGroup {} = false := by rw [Ctx.emptyGroup, hend]
  obtain ⟨y, hy⟩ : ∃ y : Ctx, y = { x with st := .free, frame := {}, edits := [], ending := .none } := ⟨_, rfl⟩
  have hawf : (s.setCtx c y).dsp.ctxs.wf = true := SMap.wf_set hwf _ _
  obtain ⟨⟨m, hform⟩, hctx⟩ := advanceDomain_spec (s := s.setCtx c y) hawf x.domain x.seq
  obtain ⟨a, ha⟩ : ∃ a, a = (s.setCtx c y).advanceDomain x.domain x.seq := ⟨_, rfl⟩
  rw [← ha] at hform hctx
  obtain ⟨cycle, hcyc⟩ : ∃ k, k = s.parseCycle := ⟨_, rfl⟩
  obtain ⟨b, hb⟩ : ∃ b, b = { a with dsp.relCycle := cycle, dsp.released := x.domain :: s.releasedNow } := ⟨_, rfl⟩
  obtain ⟨u, hu⟩ : ∃ u, u = (b.bump Reg.dspReleased 1).count 49 [x.cluster, 16] := ⟨_, rfl⟩
  have hbctxs : b.dsp.ctxs = a.dsp.ctxs := by rw [hb]
  have hudsp : u.dsp = b.dsp := by rw [hu, State.count_dsp, State.bump_dsp]
  have huqm : u.qm = s.qm := by rw [hu, State.count_qm, State.bump_qm, hb, hform]; rfl
  have hupkt : u.pkt x.pkt = s.pkt x.pkt := by rw [State.pkt, huqm, ← State.pkt]
  have hexec : exec (.release c) s = .next (u.freePkt x.pkt) := by
    rw [exec_release, execRelease, decide_eq_true hc, whenWf, if_pos rfl]
    dsimp only
    rw [hx, occurs, hdue, if_pos rfl, hout, hempty, if_neg (by decide), ← hy, ← ha, ← hcyc, ← hb, ← hu, releasePkt_drops (hupkt ▸ hinc) (hupkt ▸ hv)]
  have hgo := outgoes_freePkt u x.pkt
  obtain ⟨hlive, -⟩ := freePkt_spec u x.pkt
  have htctx : ∀ k, (u.freePkt x.pkt).ctx k = a.ctx k := fun k => by
    rw [State.ctx, hgo.only.dsp_eq (by decide), hudsp, hbctxs, State.ctx]
  have hrel : ∀ d, (u.freePkt x.pkt).dsp.relSeq.get d = if d = x.domain then (x.seq + 1) % 65536 else s.dsp.relSeq.get d := fun d => by
    rw [hgo.only.dsp_eq (by decide), hudsp, hb, hform]
    exact SMap.get_set ..
  have hother : ∀ k, k ≠ c → (s.setCtx c y).ctx k = s.ctx k := fun k hk => (ctx_setCtx_eq s c k y).trans (if_neg hk)
  have hself : (s.setCtx c y).ctx c = y := (ctx_setCtx_eq s c c y).trans (if_pos rfl)
  refine ⟨_, hexec, ?_, fun k hk => ?_, (hrel _).trans (if_pos rfl), fun d hd => (hrel d).trans (if_neg hd), ?_, hlive, ?_, ?_⟩
  · have hfree : y.st = .free := by rw [hy]
    rw [htctx, hctx, hself, hfree, if_neg fun h => absurd h.1 (by decide), hfree]
  · rw [htctx, hctx, hother k hk]
    rfl
  · rw [hgo.ctr _ (by decide), hu, State.ctr_count _ _ _ _ _ (by decide), State.ctr_bump, if_pos rfl, hb, hform]
    rfl
  · rw [← huqm]
    exact freePkt_copies u x.pkt
  · rw [hgo.only.mem_eq (by decide), hu, State.count_mem, State.bump_mem, hb, hform]
    rfl

end

end Sys2Proof.Machine
end

section
/-! PROOFS. The watchdogs, and the obligation on the life of a context (R361–R364). -/
namespace Sys2Proof.Machine

section
variable {s t u : State} {c cl e th cause sub pc n : Nat} {dbl : Bool} {x : Ctx}

/-! ### A fault's record -/

theorem regsCtrs_bump (s : State) (a n : Nat) : s.RegsCtrs (s.bump a n) := State.regsCtrs_setCtr _ _ _

theorem raised_faultNoted (h : s.raised t n) (hn : n < 320) (hcl : cl < 16) : s.raised (t.faultNoted cl e th cause sub pc dbl) n := by
  unfold State.faultNoted
  have hcount : s.raised ((t.bump (Reg.flmCnt cl cause)).count 57 [cl, 16]) n :=
    State.raised.counts (t := t.bump (Reg.flmCnt cl cause)) (h.after hn fun _ _ _ => rfl) hn (State.counts_count ..)
  have hwr : ∀ {v : State} {a : Nat} {w : Word}, s.raised v n → a < 0x700000 → s.raised (v.wr a w) n := fun hv ha =>
    hv.after hn fun b hb _ => by rw [State.rd_wr, if_neg (by omega)]
  dsimp only [State.record]
  refine hwr ?_ (by unfold Reg.flmFaultInfo; omega)
  split_ifs
  · exact hcount
  · exact hwr hcount (by unfold Reg.flmFaultPc; omega)

theorem raised_recordFault (h : s.raised t n) (hn : n < 320) (hcl : cl < 16) (hne : n ≠ 124 + cl) :
    s.raised (t.recordFault cl e th cause sub pc dbl) n := by
  have hnoted := raised_faultNoted (e := e) (th := th) (cause := cause) (sub := sub) (pc := pc) (dbl := dbl) h hn hcl
  rw [State.recordFault_eq_faultNoted]
  generalize t.faultNoted cl e th cause sub pc dbl = u at hnoted
  dsimp only
  split
  · rw [State.setEvent]
    refine State.raised.raiseEvent (hnoted.after hn fun b hb _ => ?_) hn (by omega) hne
    rw [State.rd_setBit_other _ _ _ _ _ (by unfold Reg.flmClEvents; omega)]
    rfl
  · exact hnoted.after hn fun _ _ _ => rfl

theorem ctr_recordFault (s : State) (cl e th cause sub pc : Nat) (dbl : Bool) {k : Nat} (hk : k < 0x740000) :
    (s.recordFault cl e th cause sub pc dbl).ctr k = if k = Reg.flmCnt cl cause then (s.ctr k + 1) % 2 ^ 64 else s.ctr k := by
  have hnoted : (s.faultNoted cl e th cause sub pc dbl).ctr k = if k = Reg.flmCnt cl cause then (s.ctr k + 1) % 2 ^ 64 else s.ctr k := by
    have hcount : ((s.bump (Reg.flmCnt cl cause)).count 57 [cl, 16]).ctr k = if k = Reg.flmCnt cl cause then (s.ctr k + 1) % 2 ^ 64 else s.ctr k := by
      rw [State.ctr_count _ _ _ _ _ hk, State.ctr_bump]
      split_ifs with h
      · rw [h]
      · rfl
    rw [← hcount]
    unfold State.faultNoted
    dsimp only [State.record]
    split_ifs <;> rfl
  rw [State.recordFault_eq_faultNoted, ← hnoted]
  generalize s.faultNoted cl e th cause sub pc dbl = u
  dsimp only
  split
  · rw [State.setEvent, State.ctr_raiseEvent _ _ _ hk]
    rfl
  · rfl

/-- The record of a double fault. -/
theorem info_recordFault (s : State) (hcl : cl < 16) (e th pc : Nat) : (s.recordFault cl e th 7 0 pc true).bit (Reg.flmFaultInfo cl) 31 = true ∧
    (s.bit (Reg.flmFaultInfo cl) 31 = false → (s.recordFault cl e th 7 0 pc true).bit (Reg.flmFaultInfo cl) 8 = true ∧
      (s.recordFault cl e th 7 0 pc true).fld (Reg.flmFaultInfo cl) 19 16 = 7) := by
  have hlow : Reg.flmFaultInfo cl < 0x700000 := by unfold Reg.flmFaultInfo; omega
  have hrd : (s.recordFault cl e th 7 0 pc true).rd (Reg.flmFaultInfo cl) = firstRecord (s.rd (Reg.flmFaultInfo cl))
      (BitVec.ofNat 32 (e * 2 ^ 24 + th * 2 ^ 20 + 7 * 2 ^ 16 + 0 * 2 ^ 12 + b2n true * 2 ^ 8)) := by
    have hnoted : (s.faultNoted cl e th 7 0 pc true).rd (Reg.flmFaultInfo cl) = firstRecord (s.rd (Reg.flmFaultInfo cl))
        (BitVec.ofNat 32 (e * 2 ^ 24 + th * 2 ^ 20 + 7 * 2 ^ 16 + 0 * 2 ^ 12 + b2n true * 2 ^ 8)) := by
      unfold State.faultNoted
      dsimp only [State.record]
      rw [State.rd_wr, if_pos rfl]
      congr 1
      split_ifs
      · exact State.rd_count _ _ _ _ _ hlow
      · rw [State.rd_wr, if_neg (by unfold Reg.flmFaultInfo Reg.flmFaultPc; omega)]
        exact State.rd_count _ _ _ _ _ hlow
    rw [State.recordFault_eq_faultNoted, ← hnoted]
    generalize s.faultNoted cl e th 7 0 pc true = u
    dsimp only
    split
    · rw [State.rd_setEvent _ _ _ _ _ hlow, State.rd_setBit_other _ _ _ _ _ (by unfold Reg.flmFaultInfo Reg.flmClEvents; omega)]
      rfl
    · rfl
  have hbits : ∀ hi lo, (s.recordFault cl e th 7 0 pc true).fld (Reg.flmFaultInfo cl) hi lo = Wbits (firstRecord (s.rd (Reg.flmFaultInfo cl))
      (BitVec.ofNat 32 (e * 2 ^ 24 + th * 2 ^ 20 + 7 * 2 ^ 16 + 0 * 2 ^ 12 + b2n true * 2 ^ 8))) hi lo := fun hi lo => by rw [State.fld, hrd]
  obtain ⟨v, hv⟩ : ∃ v, v = BitVec.ofNat 32 (e * 2 ^ 24 + th * 2 ^ 20 + 7 * 2 ^ 16 + 0 * 2 ^ 12 + b2n true * 2 ^ 8) := ⟨_, rfl⟩
  rw [← hv] at hbits
  have hv8 : Wbits v 8 8 = 1 ∧ Wbits v 19 16 = 7 := by
    rw [hv, Wbits, Wbits, bitsOf, bitsOf, BitVec.toNat_ofNat]
    have hb : b2n true = 1 := rfl
    rw [hb]
    omega
  by_cases hold : Wbits (s.rd (Reg.flmFaultInfo cl)) 31 31 = 1
  · refine ⟨?_, fun h => ?_⟩
    · rw [State.bit, hbits, firstRecord, if_pos hold, Wbits_Wput_other _ _ _ _ _ _ (by decide) (by decide) (.inr (by decide)), hold]
      rfl
    · rw [State.bit, State.fld, hold] at h
      exact absurd h (by decide)
  · refine ⟨?_, fun _ => ⟨?_, ?_⟩⟩
    · rw [State.bit, hbits, firstRecord, if_neg hold, Wbits_Wput_other _ _ _ _ _ _ (by decide) (by decide) (.inr (by decide)),
        Wbits_Wput_same _ _ _ _ (by decide) (by decide)]
      rfl
    · rw [State.bit, hbits, firstRecord, if_neg hold, Wbits_Wput_other _ _ _ _ _ _ (by decide) (by decide) (.inl (by decide)),
        Wbits_Wput_other _ _ _ _ _ _ (by decide) (by decide) (.inl (by decide)), hv8.1]
      rfl
    · rw [hbits, firstRecord, if_neg hold, Wbits_Wput_other _ _ _ _ _ _ (by decide) (by decide) (.inl (by decide)),
        Wbits_Wput_other _ _ _ _ _ _ (by decide) (by decide) (.inl (by decide)), hv8.2]

/-! ### The watchdogs -/

/-- What a watchdog does first: its counter and its event. -/
def State.bitten (s : State) (cl k : Nat) : State := (s.bump (Reg.dspClCnt cl k)).setEvent (Reg.dspClEvents cl) 2 (156 + cl)

theorem bitten_spec (s : State) {k : Nat} (hcl : cl < 16) (hk : k < 4) : s.RegsCtrs (s.bitten cl k) ∧ (s.bitten cl k).bit (Reg.dspClEvents cl) 2 = true ∧
    (s.bitten cl k).ctr (Reg.dspClCnt cl k) = (s.ctr (Reg.dspClCnt cl k) + 1) % 2 ^ 64 ∧ s.raised (s.bitten cl k) (156 + cl) ∧
    (∀ a, a < 0x740000 → a ≠ Reg.dspClCnt cl k → (s.bitten cl k).ctr a = s.ctr a) ∧
    ∀ a, a < 0x700000 → a ≠ Reg.dspClEvents cl → (s.bitten cl k).rd a = s.rd a := by
  have hlow : Reg.dspClEvents cl < 0x700000 := by unfold Reg.dspClEvents; omega
  have hcnt : Reg.dspClCnt cl k < 0x740000 := by unfold Reg.dspClCnt; omega
  have hctr : ∀ a, a < 0x740000 → (s.bitten cl k).ctr a = (s.bump (Reg.dspClCnt cl k)).ctr a := fun a ha => by
    rw [State.bitten, State.setEvent, State.ctr_raiseEvent _ _ _ ha]; rfl
  refine ⟨(regsCtrs_bump s _ _).trans (State.setEvent_eq ..), State.bit_setEvent_same _ (by decide) hlow, ?_, ?_, fun a ha hne => ?_, fun a ha hne => ?_⟩
  · rw [hctr _ hcnt, State.ctr_bump, if_pos rfl]
  · exact State.raised.of_rd (State.raised_setEvent (s.bump (Reg.dspClCnt cl k)) (by omega) hlow) fun _ _ => rfl
  · rw [hctr _ ha, State.ctr_bump, if_neg hne]
  · rw [State.bitten, State.rd_setEvent _ _ _ _ _ ha, State.rd_setBit_other _ _ _ _ _ hne]
    rfl

/-- The exception entry: its words on the stack, the vector, the state; registers and counters as they were. -/
theorem exceptionEntry_spec (s : State) (cl e th c cause sub pc : Nat) : ((s.exceptionEntry cl e th c cause sub pc).ctx c).st = .exception ∧
    ((s.exceptionEntry cl e th c cause sub pc).thr cl e th).arch.ds.head? = some (faultWord cause sub) ∧
    ((s.exceptionEntry cl e th c cause sub pc).thr cl e th).arch.pc = s.fld (Reg.flmClCtrl cl) 15 0 ∧
    (s.exceptionEntry cl e th c cause sub pc).mem = s.mem ∧ (∀ a, (s.exceptionEntry cl e th c cause sub pc).rd a = s.rd a) ∧
    ∀ k, (s.exceptionEntry cl e th c cause sub pc).ctr k = s.ctr k := by
  unfold State.exceptionEntry
  rw [State.freeRepx_eq]
  exact ⟨congrArg Ctx.st ((SMap.get_set ..).trans (if_pos rfl)),
    (congrArg (fun y : Thread => y.arch.ds.head?) ((SMap.get_set ..).trans (if_pos rfl)) :),
    (congrArg (fun y : Thread => y.arch.pc) ((SMap.get_set ..).trans (if_pos rfl)) :), rfl, fun _ => rfl, fun _ => rfl⟩

theorem watchdog_spec (hup : s.coreUp = true) (hc : c < 8192) (hx : s.ctx c = x) (hst : x.st = .running) (hend : x.ending = .none)
    (hdue : max 1000 (s.fld Reg.dspWd 19 0) ≤ (s.flume.cycles - x.wdFrom) / 1000000) (hcl : x.cluster < 16)
    (hthr : (s.thr x.cluster x.engine x.thread).ctx = some c) : ∃ t, exec (.watchdogExpire c) s = .next t ∧ (t.ctx c).st = .exception ∧
      (t.thr x.cluster x.engine x.thread).arch.ds.head? = some (BitVec.ofNat 32 (7 * 2 ^ 28)) ∧
      (t.thr x.cluster x.engine x.thread).arch.pc = s.fld (Reg.flmClCtrl x.cluster) 15 0 ∧
      t.bit (Reg.dspClEvents x.cluster) 2 = true ∧ t.ctr (Reg.dspClCnt x.cluster 2) = (s.ctr (Reg.dspClCnt x.cluster 2) + 1) % 2 ^ 64 ∧
      s.raised t (156 + x.cluster) ∧ t.mem = s.mem := by
  obtain ⟨hrc, hbit, hctr, hraised, -, hrd⟩ := bitten_spec s (k := 2) hcl (by decide)
  obtain ⟨u, hu⟩ : ∃ u, u = s.bitten x.cluster 2 := ⟨_, rfl⟩
  rw [← hu] at hrc hbit hctr hraised hrd
  obtain ⟨pc, hpc⟩ : ∃ pc, pc = (s.thr x.cluster x.engine x.thread).wdPc := ⟨_, rfl⟩
  obtain ⟨v, hv⟩ : ∃ v, v = u.recordFault x.cluster x.engine x.thread 7 0 pc false := ⟨_, rfl⟩
  obtain ⟨hexc, hds, hvec, hmem, hrd', hctr'⟩ := exceptionEntry_spec v x.cluster x.engine x.thread c 7 0 pc
  have huctx : u.ctx c = x := by rw [hrc]; exact hx
  have huthr : (u.thr x.cluster x.engine x.thread).ctx = some c := by rw [hrc]; exact hthr
  have hdbl : ((u.ctx c).st == .exception) = false := by rw [huctx, hst]; rfl
  have hwd : (s.coreUp && x.st == .running && x.ending == .none && decide (s.wdLimit ≤ s.wdCount x)) = true := by
    rw [hup, hst, hend, State.wdLimit, State.wdCount, if_pos (.inl hst), decide_eq_true hdue]
    rfl
  refine ⟨v.exceptionEntry x.cluster x.engine x.thread c 7 0 pc, ?_, hexc, hds, ?_, ?_, ?_, ?_, ?_⟩
  · rw [exec_watchdogExpire, execWatchdogExpire, decide_eq_true hc, whenWf, if_pos rfl]
    dsimp only
    rw [hx, occurs, hwd, if_pos rfl, ← State.bitten, ← hu, ← hpc, State.peFault, huthr]
    dsimp only
    rw [hdbl, if_neg (by decide), ← hv]
  · rw [hvec, hv, State.vector_recordFault _ _ _ hcl]
    exact State.fld_of_rd (hrd _ (by unfold Reg.flmClCtrl; omega) (by unfold Reg.flmClCtrl Reg.dspClEvents; omega)) _ _
  · rw [State.bit_of_rd (hrd' _), hv, State.bit_of_rd (State.rd_recordFault _ _ _ _ _ _ _ _ (by unfold Reg.dspClEvents; omega)
      (by unfold Reg.dspClEvents Reg.flmFaultPc; omega) (by unfold Reg.dspClEvents Reg.flmFaultInfo; omega)
      (by unfold Reg.dspClEvents Reg.flmClEvents; omega)), hbit]
  · rw [hctr', hv, ctr_recordFault _ _ _ _ _ _ _ _ (by unfold Reg.dspClCnt; omega), if_neg (by unfold Reg.dspClCnt Reg.flmCnt; omega), hctr]
  · have hr := raised_recordFault (e := x.engine) (th := x.thread) (cause := 7) (sub := 0) (pc := pc) (dbl := false) hraised (by omega) hcl (by omega)
    rw [← hv] at hr
    exact hr.after (by omega) fun a _ _ => hrd' a
  · rw [hmem, hv, State.recordFault_mem, hrc]


/-- A context ended by a drop: no other context, and of the registers and counters what a count in the Spillway changes. -/
theorem spillCtx_spec (s : State) (c counter : Nat) : (∀ k, k ≠ c → (s.spillCtx c counter).ctx k = s.ctx k) ∧
    (∀ a, a < 0x700000 → (s.spillCtx c counter).rd a = s.rd a) ∧
    (∀ k, k < 0x740000 → (s.spillCtx c counter).ctr k = if k = Reg.qmSpill counter then (s.ctr k + 1) % 2 ^ 64 else s.ctr k) ∧
    ∀ {r : State} {n : Nat}, r.raised s n → n < 320 → r.raised (s.spillCtx c counter) n := by
  obtain ⟨a, cl, e, th, ha, hctx, hregs, hctrs⟩ : ∃ (a : State) (cl e th : Nat), s.spillCtx c counter = (a.spill counter).freeRepx cl e th ∧
      (∀ k, k ≠ c → a.ctx k = s.ctx k) ∧ a.regs = s.regs ∧ a.ctrs = s.ctrs :=
    ⟨_, _, _, _, rfl, fun k hk => (SMap.get_set ..).trans (if_neg hk), rfl, rfl⟩
  have hrd : ∀ b, a.rd b = s.rd b := fun b => by rw [State.rd, hregs, ← State.rd]
  have hctr : ∀ b, a.ctr b = s.ctr b := fun b => by rw [State.ctr, hctrs, ← State.ctr]
  rw [ha]
  refine ⟨fun k hk => ?_, fun b hb => ?_, fun k hk => ?_, fun {r n} hr hn => ?_⟩
  · rw [State.freeRepx_ctx, State.ctx, State.spill_dsp]
    exact hctx k hk
  · rw [State.freeRepx_eq]
    exact (State.rd_count _ _ _ _ _ hb).trans (hrd b)
  · rw [State.freeRepx_eq]
    refine (State.ctr_count _ _ _ _ _ hk).trans ((State.ctr_bump ..).trans ?_)
    rw [hctr, hctr]
    split_ifs with h
    · rw [h]
    · rfl
  · rw [State.freeRepx_eq]
    have h1 : r.raised (a.bump (Reg.qmSpill counter)) n := hr.after hn fun b _ _ => hrd b
    exact (h1.counts hn (State.counts_count _ 73 [counter] 1)).after hn fun _ _ _ => rfl

theorem excWatchdog_spec (hup : s.coreUp = true) (hc : c < 8192) (hx : s.ctx c = x) (hst : x.st = .exception) (hend : x.ending = .none)
    (hdue : max 100 (s.fld Reg.dspExcWd 19 0) ≤ (s.flume.cycles - x.wdFrom) / 1000000) (hcl : x.cluster < 16) :
    ∃ t, exec (.exceptionWatchdogExpire c) s = .next t ∧ (t.ctx c).ending = .drop 4 ∧ (∀ k, k ≠ c → t.ctx k = s.ctx k) ∧
      t.bit (Reg.dspClEvents x.cluster) 2 = true ∧ t.ctr (Reg.dspClCnt x.cluster 3) = (s.ctr (Reg.dspClCnt x.cluster 3) + 1) % 2 ^ 64 ∧
      t.ctr (Reg.qmSpill 4) = (s.ctr (Reg.qmSpill 4) + 1) % 2 ^ 64 ∧
      t.ctr (Reg.flmCnt x.cluster 7) = (s.ctr (Reg.flmCnt x.cluster 7) + 1) % 2 ^ 64 ∧ t.bit (Reg.flmFaultInfo x.cluster) 31 = true ∧
      (s.bit (Reg.flmFaultInfo x.cluster) 31 = false → t.bit (Reg.flmFaultInfo x.cluster) 8 = true ∧
        t.fld (Reg.flmFaultInfo x.cluster) 19 16 = 7) ∧ s.raised t (156 + x.cluster) := by
  obtain ⟨hrc, hbit, hctr, hraised, hctrs, hrd⟩ := bitten_spec s (k := 3) hcl (by decide)
  obtain ⟨u, hu⟩ : ∃ u, u = s.bitten x.cluster 3 := ⟨_, rfl⟩
  rw [← hu] at hrc hbit hctr hraised hctrs hrd
  obtain ⟨pc, hpc⟩ : ∃ pc, pc = (s.thr x.cluster x.engine x.thread).wdPc := ⟨_, rfl⟩
  obtain ⟨v, hv⟩ : ∃ v, v = u.recordFault x.cluster x.engine x.thread 7 0 pc true := ⟨_, rfl⟩
  obtain ⟨hothers, hrd', hctr', hkeeps⟩ := spillCtx_spec v c 4
  have hvctr := fun k hk => ctr_recordFault u x.cluster x.engine x.thread 7 0 pc true (k := k) hk
  rw [← hv] at hvctr
  have hinfo := info_recordFault u hcl x.engine x.thread pc
  rw [← hv] at hinfo
  have hinfolow : Reg.flmFaultInfo x.cluster < 0x700000 := by unfold Reg.flmFaultInfo; omega
  have hold : u.bit (Reg.flmFaultInfo x.cluster) 31 = s.bit (Reg.flmFaultInfo x.cluster) 31 :=
    State.bit_of_rd (hrd _ hinfolow (by unfold Reg.flmFaultInfo Reg.dspClEvents; omega)) _
  have hwd : (s.coreUp && x.st == .exception && x.ending == .none && decide (s.excLimit ≤ s.wdCount x)) = true := by
    rw [hup, hst, hend, State.excLimit, State.wdCount, if_pos (.inr hst), decide_eq_true hdue]
    rfl
  refine ⟨v.spillCtx c 4, ?_, (State.spillCtx_ending v c 4).1, fun k hk => ?_, ?_, ?_, ?_, ?_, ?_, fun h => ⟨?_, ?_⟩, ?_⟩
  · rw [exec_exceptionWatchdogExpire, execExceptionWatchdogExpire, decide_eq_true hc, whenWf, if_pos rfl]
    dsimp only
    rw [hx, occurs, hwd, if_pos rfl, ← State.bitten, ← hu, ← hpc, ← hv]
  · rw [hothers k hk, hv, State.recordFault_ctx, hrc]
    rfl
  · rw [State.bit_of_rd (hrd' _ (by unfold Reg.dspClEvents; omega)), hv, State.bit_of_rd (State.rd_recordFault _ _ _ _ _ _ _ _
      (by unfold Reg.dspClEvents; omega) (by unfold Reg.dspClEvents Reg.flmFaultPc; omega) (by unfold Reg.dspClEvents Reg.flmFaultInfo; omega)
      (by unfold Reg.dspClEvents Reg.flmClEvents; omega)), hbit]
  · rw [hctr' _ (by unfold Reg.dspClCnt; omega), if_neg (by unfold Reg.dspClCnt Reg.qmSpill; omega), hvctr _ (by unfold Reg.dspClCnt; omega),
      if_neg (by unfold Reg.dspClCnt Reg.flmCnt; omega), hctr]
  · rw [hctr' _ (by decide), if_pos rfl, hvctr _ (by decide), if_neg (by unfold Reg.flmCnt Reg.qmSpill; omega), hctrs _ (by decide)
      (by unfold Reg.dspClCnt Reg.qmSpill; omega)]
  · rw [hctr' _ (by unfold Reg.flmCnt; omega), if_neg (by unfold Reg.flmCnt Reg.qmSpill; omega), hvctr _ (by unfold Reg.flmCnt; omega), if_pos rfl,
      hctrs _ (by unfold Reg.flmCnt; omega) (by unfold Reg.flmCnt Reg.dspClCnt; omega)]
  · rw [State.bit_of_rd (hrd' _ hinfolow), hinfo.1]
  · rw [State.bit_of_rd (hrd' _ hinfolow), (hinfo.2 (hold.trans h)).1]
  · rw [State.fld_of_rd (hrd' _ hinfolow), (hinfo.2 (hold.trans h)).2]
  · refine hkeeps ?_ (by omega)
    rw [hv]
    exact raised_recordFault hraised (by omega) hcl (by omega)

end

/-- Settles O46: a context's life, one lemma for each of its steps. -/
theorem contextLife : Obligations.ContextLife := by
  intro s hup
  refine ⟨?_, ?_, ?_, ?_, ?_, ?_, ?_, ?_, ?_⟩
  · intro l q c dom n hout hwf hfree hc hdom hn hturn hen hheld hopen
    have hb := buildCtx_built (s := { s with tables.out := q }) (l := l) hn (freeCtx_eq (s := { s with tables.out := q }) hwf hc)
    obtain ⟨⟨x, hdsp, hst, hpkt, hxdom, hseq, hcl, hbuilt, hend, hedits, hdead, havail, hbytes⟩, htab, hmem, hctr, hrd⟩ := hb
    have hctx : ∀ d, ({ s with tables.out := q }.buildCtx l n []).ctx d = if d = c then x else s.ctx d := fun d => by
      rw [State.ctx, hdsp]
      exact SMap.get_set ..
    have hdom' : x.domain = dom := hxdom.trans hdom.symm
    have hself := (hctx c).trans (if_pos rfl)
    have hnext : ({ s with tables.out := q }.buildCtx l n []).dsp.nextSeq.get dom = (s.dsp.nextSeq.get dom + 1) % 65536 := by
      rw [hdsp]
      dsimp only
      rw [hdom', SMap.get_set, if_pos rfl, hseq, hdom']
    obtain ⟨u, hu⟩ : ∃ u, u = { s with tables.out := q }.buildCtx l n [] := ⟨_, rfl⟩
    have hexec := contextBuild_builds hup hout hfree (pickCluster_next hn hturn hen hheld hopen)
    rw [← hu] at hexec hdsp htab hmem hctr hrd hctx hself hnext
    exact ⟨u, hexec, by rw [htab], by rw [hself, hst], by rw [hself, hpkt], by rw [hself, hdom'], by rw [hself, hseq, hdom'], hnext,
      by rw [hself, hcl], by rw [hdsp], by rw [hself, hbuilt], by rw [hself, hend], by rw [hself, hedits], by rw [hself, hdead]; rfl,
      by rw [hself]; exact hbytes, by rw [hself, havail]; rfl, fun d hd => (hctx d).trans (if_neg hd), hctr, hmem, hrd⟩
  · exact fun hfree hcycle hfull => contextBuild_waits hfree (pickCluster_none hcycle hfull)
  · exact fun l q hout hfree => contextBuild_drops hup hout hfree
  · exact fun cl e i hcl he hwf hst hcluster hfirst hslots => contextSlot_spec hup hcl he hwf hst hcluster hfirst hslots
  · exact fun cl e th i hcl he hth hwf hst hcluster hengine hfirst hfree => threadTake_spec hup hcl he hth hwf hst hcluster hengine hfirst hfree
  · exact fun c x hc hx hst hend hcl => contextEnd_spec hup hc hx hst hend hcl
  · intro c x hc hx hst hwf
    have hwait : ∀ {P : Prop}, (s.nextRelease = some c → P) → ¬ P → s.releases c = false := fun hP hn => by
      rw [State.releases, beq_eq_false_iff_ne.mpr fun h => hn (hP h), Bool.and_false]
    refine ⟨fun hseq => release_waits hc (hwait (fun h => ?_) hseq), fun hstop => release_waits hc ?_,
      fun hcycle hdone => release_waits hc (hwait (P := s.releasedNow.length < 20 ∧ x.domain ∉ s.releasedNow) (fun h => ?_) ?_),
      fun n hseq hstop hcycle hfirst hend hsiphon hinc hv => release_frees hup hc hx hst hwf hseq hstop hcycle hfirst hend hsiphon hinc hv⟩
    · rw [← hx]
      exact (nextRelease_some hwf h).2.1
    · rw [State.releases, beq_eq_false_iff_ne.mpr hstop, Bool.and_false, Bool.false_and]
    · obtain ⟨-, -, h1, h2⟩ := nextRelease_some hwf h
      exact ⟨h1, hx ▸ h2⟩
    · rw [State.releasedNow, if_pos hcycle]
      rintro ⟨h1, h2⟩
      exact hdone.elim (fun h => by omega) h2
  · exact fun c x hc hx hst hend hdue hcl hthr => watchdog_spec hup hc hx hst hend hdue hcl hthr
  · exact fun c x hc hx hst hend hdue hcl => excWatchdog_spec hup hc hx hst hend hdue hcl

end Sys2Proof.Machine
end

section
/-! PROOFS. Committed images in the cache, and what follows an entry that is applied (R516, R549–R551). -/
namespace Sys2Proof.Machine

section
variable {s t u : State} {key k n i : Nat} {img : List Byte} {e : LogEntry}

/-! ### The committed image -/

/-- A record's image depends on its lines, on DRAM and on the geometry. -/
theorem committed_of (hlines : t.flow.lines = s.flow.lines) (hbase : t.flow.base = s.flow.base) (hmem : t.mem = s.mem)
    (hgeom : t.rd Reg.fleGeom = s.rd Reg.fleGeom) (k : Nat) : t.committed k = s.committed k := by
  have hsize : t.recSize = s.recSize := by rw [State.recSize, State.fld_of_rd hgeom, State.recSize]
  simp only [State.committed, hsize, State.recByte, hlines, State.recAddr, hbase, State.ldb, hmem]

theorem length_committed (s : State) (k : Nat) : (s.committed k).length = s.recSize := by rw [State.committed, List.length_map, List.length_range]

theorem byteAt_committed (hi : i < s.recSize) : byteAt (s.committed k) i = s.recByte k i := by
  rw [byteAt, State.committed, List.getD_eq_getElem _ _ (by simpa using hi), List.getElem_map, List.getElem_range]

/-- A list of bytes is what its places read as. -/
theorem map_byteAt (l : List Byte) : (List.range l.length).map (byteAt l) = l := by
  refine List.ext_getElem (by simp) fun j h1 h2 => ?_
  rw [List.getElem_map, List.getElem_range, byteAt, List.getD_eq_getElem _ _ h2]

theorem byteAt_of_slice {l m : List Byte} {a j : Nat} (h : slice l (64 * a) 64 = slice m (64 * a) 64) (hj : j / 64 = a) : byteAt l j = byteAt m j := by
  have hget : (slice l (64 * a) 64)[j % 64]? = (slice m (64 * a) 64)[j % 64]? := by rw [h]
  have hsum : 64 * a + j % 64 = j := by omega
  simpa [slice, Nat.mod_lt, hsum] using hget

/-- Atoms written one after another into a line's bytes. -/
theorem get_atoms (f : Nat → Byte) (l : List Nat) (d : SMap Byte) (j : Nat) :
    (l.foldl (fun d a => (List.range 64).foldl (fun d i => d.set (64 * a + i) (f (64 * a + i))) d) d).get j = if j / 64 ∈ l then f j else d.get j := by
  have hone : ∀ (d : SMap Byte) (a : Nat), ((List.range 64).foldl (fun d i => d.set (64 * a + i) (f (64 * a + i))) d).get j =
      if j / 64 = a then f j else d.get j := by
    intro d a
    have hgen : ∀ (ks : List Nat) (d : SMap Byte), (ks.foldl (fun d i => d.set (64 * a + i) (f (64 * a + i))) d).get j =
        if ∃ i ∈ ks, j = 64 * a + i then f j else d.get j := by
      intro ks
      induction ks with
      | nil => simp
      | cons i ks ih =>
        intro d
        rw [List.foldl_cons, ih, SMap.get_set]
        by_cases hks : ∃ i ∈ ks, j = 64 * a + i
        · rw [if_pos hks, if_pos (hks.imp fun x hx => ⟨List.mem_cons_of_mem _ hx.1, hx.2⟩)]
        · rw [if_neg hks]
          by_cases hj : j = 64 * a + i
          · rw [if_pos hj, if_pos ⟨i, List.mem_cons_self, hj⟩, hj]
          · rw [if_neg hj, if_neg]
            rintro ⟨x, hx, hjx⟩
            rcases List.mem_cons.mp hx with rfl | hx
            · exact hj hjx
            · exact hks ⟨x, hx, hjx⟩
    rw [hgen]
    refine if_congr ⟨?_, fun h => ⟨j % 64, List.mem_range.mpr (Nat.mod_lt _ (by decide)), by omega⟩⟩ rfl rfl
    rintro ⟨i, hi, rfl⟩
    have := List.mem_range.mp hi
    omega
  induction l generalizing d with
  | nil => rfl
  | cons a l ih =>
    rw [List.foldl_cons, ih, hone]
    by_cases hl : j / 64 ∈ l
    · rw [if_pos hl, if_pos (List.mem_cons_of_mem _ hl)]
    · by_cases ha : j / 64 = a
      · rw [if_neg hl, if_pos ha, if_pos (ha ▸ List.mem_cons_self)]
      · rw [if_neg hl, if_neg ha, if_neg (by simp only [List.mem_cons, not_or]; exact ⟨ha, hl⟩)]

/-- The image of a cached record replaced: its line's bytes alone. -/
theorem setCommitted_spec (hc : s.cached key) (hlen : img.length = s.recSize) : (s.setCommitted key img).committed key = img ∧
    (∀ k, k ≠ key → (s.setCommitted key img).committed k = s.committed k) ∧ (∀ k, s.cached k → (s.setCommitted key img).cached k) ∧
    ∃ l : FlowLine, s.setCommitted key img = { s with flow.lines := s.flow.lines.set key l } := by
  obtain ⟨changed, hchanged⟩ : ∃ c, c = (List.range (s.recSize / 64)).filter fun a => slice (s.committed key) (64 * a) 64 != slice img (64 * a) 64 := ⟨_, rfl⟩
  have hnone : (changed.filter fun a => !bitAt (s.flow.lines.get key).have_ a) = [] := List.filter_eq_nil_iff.mpr fun a ha => by
    rw [hchanged] at ha
    simp [hc a (List.mem_range.mp (List.mem_filter.mp ha).1)]
  obtain ⟨l, hl, hhave, hdata⟩ : ∃ l : FlowLine, s.setCommitted key img = { s with flow.lines := s.flow.lines.set key l } ∧
      l.have_ = (s.flow.lines.get key).have_ ∧ ∀ j, l.data.get j = if j / 64 ∈ changed then byteAt img j else (s.flow.lines.get key).data.get j := by
    refine ⟨_, rfl, ?_, fun j => ?_⟩
    · dsimp only
      rw [← hchanged, hnone]
      rfl
    · dsimp only
      rw [← hchanged]
      exact get_atoms (byteAt img) changed _ j
  have hget : ∀ k, (s.setCommitted key img).flow.lines.get k = if k = key then l else s.flow.lines.get k := fun k => by
    rw [hl]; exact SMap.get_set ..
  have hsize : (s.setCommitted key img).recSize = s.recSize := by rw [hl]; rfl
  refine ⟨?_, fun k hk => ?_, fun k hck => ?_, l, hl⟩
  · refine Eq.trans ?_ (map_byteAt img)
    rw [State.committed, hsize, hlen]
    refine List.map_congr_left fun j hj => ?_
    have hj' := List.mem_range.mp hj
    have hatom : j / 64 < s.recSize / 64 := by rcases recSize_cases s with h | h | h <;> rw [h] at hj' ⊢ <;> omega
    rw [State.recByte, hget, if_pos rfl]
    rw [hhave, if_pos (hc _ hatom), hdata]
    split_ifs with hin
    · rfl
    · have hsame : slice (s.committed key) (64 * (j / 64)) 64 = slice img (64 * (j / 64)) 64 := by
        by_contra hne
        exact hin (hchanged ▸ List.mem_filter.mpr ⟨List.mem_range.mpr hatom, bne_iff_ne.mpr hne⟩)
      rw [← byteAt_of_slice hsame rfl, byteAt_committed hj', State.recByte]
      rw [if_pos (hc _ hatom)]
  · have hline : (s.setCommitted key img).flow.lines.get k = s.flow.lines.get k := (hget k).trans (if_neg hk)
    simp only [State.committed, State.recByte, hline, hsize]
    rw [hl]
    rfl
  · intro n hn
    rw [hsize] at hn
    rw [hget]
    split_ifs with hk
    · rw [hhave, ← hk]
      exact hck n hn
    · exact hck n hn

/-- An invalidated image is as long as before. -/
theorem length_recClear (h : img ≠ []) : (recClear img).length = img.length := by
  have := List.length_pos_of_ne_nil h
  rw [recClear, imgPut]
  simp
  omega

/-! ### What follows a result that differs -/

theorem fleCount_ctr (s : State) (j : Nat) {c : Nat} (hc : c < 0x740000) :
    (s.fleCount j).ctr c = if c = Reg.fleCnt j then (s.ctr c + 1) % 2 ^ 64 else s.ctr c := by
  have hb : (s.bump (Reg.fleCnt j)).ctr c = if c = Reg.fleCnt j then (s.ctr c + 1) % 2 ^ 64 else s.ctr c := by
    rw [State.ctr_bump]
    split_ifs with h
    · rw [h]
    · rfl
  rw [← hb, State.fleCount]
  split_ifs
  · exact State.ctr_count _ _ _ _ _ hc
  · exact State.ctr_count _ _ _ _ _ hc
  · rfl

theorem regsCtrs_fleCount (s : State) (j : Nat) : s.RegsCtrs (s.fleCount j) := by
  rw [State.fleCount]
  split_ifs
  · exact (regsCtrs_bump s _ _).trans (State.count_eq ..)
  · exact (regsCtrs_bump s _ _).trans (State.count_eq ..)
  · exact regsCtrs_bump s _ _

theorem rd_fleCount (s : State) (j : Nat) {a : Nat} (ha : a < 0x700000) : (s.fleCount j).rd a = s.rd a := by
  rw [State.fleCount]
  split_ifs
  · exact State.rd_count _ _ _ _ _ ha
  · exact State.rd_count _ _ _ _ _ ha
  · rfl

theorem opErr_spec (s : State) {kind sl cl fn pos : Nat} (hsl : sl < 16) : s.RegsCtrs (s.opErr kind sl cl fn pos) ∧
    (s.opErr kind sl cl fn pos).bit (Reg.fleFsEvents sl) 2 = true ∧ (s.opErr kind sl cl fn pos).bit Reg.fleOpErrInfo 31 = true ∧
    (∀ c, c < 0x740000 → (s.opErr kind sl cl fn pos).ctr c = s.ctr c) ∧
    ∀ a, a < 0x700000 → a ≠ Reg.fleOpErrPos → a ≠ Reg.fleOpErrInfo → a ≠ Reg.fleFsEvents sl → (s.opErr kind sl cl fn pos).rd a = s.rd a := by
  have hlow : Reg.fleFsEvents sl < 0x700000 := by unfold Reg.fleFsEvents; omega
  have hne : Reg.fleOpErrInfo ≠ Reg.fleFsEvents sl := by unfold Reg.fleOpErrInfo Reg.fleFsEvents; omega
  obtain ⟨u, hu⟩ : ∃ u, u = if s.bit Reg.fleOpErrInfo 31 = true then s else s.wr Reg.fleOpErrPos (BitVec.ofNat 32 pos) := ⟨_, rfl⟩
  have hregs : s.RegsCtrs u := by
    rw [hu]
    split_ifs
    · rfl
    · exact State.RegsCtrs.of_regs _
  have hurd : ∀ a, a ≠ Reg.fleOpErrPos → u.rd a = s.rd a := fun a ha => by
    rw [hu]
    split_ifs
    · rfl
    · rw [State.rd_wr, if_neg ha]
  have huctr : ∀ c, u.ctr c = s.ctr c := fun c => by
    rw [hu]
    split_ifs <;> rfl
  obtain ⟨v, hv⟩ : ∃ v, v = u.record Reg.fleOpErrInfo (sl * 2 ^ 26 + cl * 2 ^ 22 + kind * 2 ^ 18 + fn) := ⟨_, rfl⟩
  have hvrd : ∀ a, a ≠ Reg.fleOpErrInfo → v.rd a = u.rd a := fun a ha => by rw [hv, State.record, State.rd_wr, if_neg ha]
  have hvinfo : v.bit Reg.fleOpErrInfo 31 = true := by
    rw [hv, State.record, State.bit, State.fld_wr, if_pos rfl, firstRecord]
    split_ifs with h
    · rw [Wbits_Wput_other _ _ _ _ _ _ (by decide) (by decide) (.inr (by decide)), h]; rfl
    · rw [Wbits_Wput_other _ _ _ _ _ _ (by decide) (by decide) (.inr (by decide)), Wbits_Wput_same _ _ _ _ (by decide) (by decide)]; rfl
  have heq : s.opErr kind sl cl fn pos = v.setEvent (Reg.fleFsEvents sl) 2 (172 + sl) := by rw [hv, hu, State.opErr, State.fsEvent]
  rw [heq]
  refine ⟨(hregs.trans (hv ▸ State.RegsCtrs.of_regs _)).trans (State.setEvent_eq ..), State.bit_setEvent_same _ (by decide) hlow, ?_, fun c hc => ?_, fun a ha h1 h2 h3 => ?_⟩
  · rw [State.bit_of_rd ((State.rd_setEvent _ _ _ _ _ (by decide)).trans (State.rd_setBit_other _ _ _ _ _ hne)), hvinfo]
  · rw [State.setEvent, State.ctr_raiseEvent _ _ _ hc, hv]
    exact huctr c
  · rw [State.rd_setEvent _ _ _ _ _ ha, State.rd_setBit_other _ _ _ _ _ h3, hvrd a h2, hurd a h1]

/-- An entry that diverged: counted, and recorded where CTRL says so. -/
theorem diverged_spec (s : State) (e : LogEntry) (hsl : keySlice key < 16) : s.RegsCtrs (s.diverged key e) ∧
    (∀ c, c < 0x740000 → (s.diverged key e).ctr c = if c = Reg.fleCnt 3 then (s.ctr c + 1) % 2 ^ 64 else s.ctr c) ∧
    (s.diverged key e).rd Reg.fleGeom = s.rd Reg.fleGeom ∧
    (s.bit Reg.fleCtrl 8 = true → (s.diverged key e).bit (Reg.fleFsEvents (keySlice key)) 2 = true ∧ (s.diverged key e).bit Reg.fleOpErrInfo 31 = true) := by
  have hctrl : (s.fleCount 3).bit Reg.fleCtrl 8 = s.bit Reg.fleCtrl 8 := State.bit_of_rd (rd_fleCount s 3 (by decide)) 8
  obtain ⟨hrc, hev, hinfo, hctr, hrd⟩ := opErr_spec (s.fleCount 3) (kind := 12) (cl := e.cluster) (fn := e.fn) (pos := handleLo key) hsl
  rw [State.diverged]
  rw [hctrl]
  split_ifs with h
  · refine ⟨(regsCtrs_fleCount s 3).trans hrc, fun c hc => (hctr c hc).trans (fleCount_ctr s 3 hc), ?_, fun _ => ⟨hev, hinfo⟩⟩
    rw [hrd _ (by decide) (by decide) (by decide) (by unfold Reg.fleGeom Reg.fleFsEvents; omega), rd_fleCount s 3 (by decide)]
  · exact ⟨regsCtrs_fleCount s 3, fun c hc => fleCount_ctr s 3 hc, rd_fleCount s 3 (by decide), fun hb => absurd hb h⟩

end

end Sys2Proof.Machine
end

section
/-! PROOFS. A staged entry worked off (R505, R506, R549–R552). -/
namespace Sys2Proof.Machine

section
variable (s : State)

theorem exec_contextResolve (inst : Nat) : exec (.contextResolve inst) s = execContextResolve inst s := rfl
theorem exec_logEntryApply (slice : Nat) : exec (.logEntryApply slice) s = execLogEntryApply slice s := rfl
theorem exec_noticePost (sweep : Bool) : exec (.noticePost sweep) s = execNoticePost sweep s := rfl

end

section
variable {s t u v : State} {key k n i : Nat} {img : List Byte} {res : List Nat} {e : LogEntry} {l : List LogEntry}

/-! ### An access that hits -/

/-- A cached record as an access to it leaves it. -/
def State.hit (s : State) (key : Nat) : State := (s.fillLine key s.allAtoms).bump (sliceCnt (keySlice key) 0)

theorem fetchAtoms_hit (hc : s.cached key) : s.fetchAtoms key s.allAtoms = some (s.hit key) ∧ s.FlowAs (s.hit key) := by
  have hmissing := missingAtoms_cached hc
  have hroom : s.makeRoom key = some s := if_pos (have_ne_zero hc)
  refine ⟨?_, (fillLine_flowAs hmissing).trans (counting_bump 1).flowAs⟩
  simp only [State.fetchAtoms, hroom, hmissing, if_true, State.hit]

theorem hit_ctr (s : State) (key c : Nat) : (s.hit key).ctr c = if c = sliceCnt (keySlice key) 0 then (s.ctr c + 1) % 2 ^ 64 else s.ctr c := by
  rw [State.hit, State.ctr_bump]
  split_ifs with h
  · rw [h]; rfl
  · rfl

/-- The atom 0 of a cached record is there. -/
theorem fetchAtom_cached (hc : s.cached key) : ∃ t, s.fetchAtoms key 1 = some t ∧ s.FlowAs t := by
  have hzero : bitAt (s.flow.lines.get key).have_ 0 = true := hc 0 (by rcases recSize_cases s with h | h | h <;> rw [h] <;> decide)
  have hmissing : s.missingAtoms key 1 = [] := by
    rw [State.missingAtoms, List.filter_eq_nil_iff]
    intro n hn
    obtain ⟨h4, hbit⟩ : n < 4 ∧ bitAt 1 n = true := by simpa [setBits] using hn
    obtain rfl : n = 0 := by
      interval_cases n
      · rfl
      all_goals exact absurd hbit (by decide)
    simp [hzero]
  have hroom : s.makeRoom key = some s := if_pos (have_ne_zero hc)
  refine ⟨(s.fillLine key 1).bump (sliceCnt (keySlice key) 0), ?_, (fillLine_flowAs hmissing).trans (counting_bump 1).flowAs⟩
  simp only [State.fetchAtoms, hroom, hmissing, if_true]

/-- Cached homes find their lines. -/
theorem hopsFit_cached (homes : List Nat) (hc : ∀ h ∈ homes, s.cached h) : s.hopsFit homes = true := by
  rw [State.hopsFit]
  suffices h : ∀ t : State, s.FlowAs t → (homes.foldl (fun t h => t.bind fun u => u.fetchAtoms h 1) (some t)).isSome = true from h s (.refl s)
  induction homes with
  | nil => exact fun t _ => rfl
  | cons h hs ih =>
    intro t ht
    obtain ⟨u, hu, htu⟩ := fetchAtom_cached (ht.cached h (hc h List.mem_cons_self))
    rw [List.foldl_cons, Option.bind_some, hu]
    exact ih (fun x hx => hc x (List.mem_cons_of_mem _ hx)) u (ht.trans htu)

theorem entryHops_hit (hc : s.cached key) (e : LogEntry) : (s.hit key).entryHops key e = s.entryHops key e := by
  obtain ⟨-, hf⟩ := fetchAtoms_hit hc
  have hcand : ∀ tn ks, (s.hit key).candidates tn ks = s.candidates tn ks := candidates_flowAs rfl rfl hf
  have himg : ∀ img, (s.hit key).imgCandidates img = s.imgCandidates img := fun img => hcand _ _
  have hhome : ∀ img, (s.hit key).homeKey img = s.homeKey img := fun img => by rw [State.homeKey, himg, State.homeKey]
  have hnames : ∀ img, (s.hit key).hopNames key img = s.hopNames key img := fun img => by
    rw [State.hopNames, State.hopNames, himg]
    rw [hf.committed] <;> rfl
  have hhop : ∀ img, (s.hit key).hopOf key img = s.hopOf key img := fun img => by rw [State.hopOf, State.hopOf, hnames, hhome]
  rw [State.entryHops, State.entryHops, hf.committed, hcand, hhop]

/-! ### An entry committed -/

theorem retire_eq (s : State) (i : Nat) : ∃ m, s.retire i = { s with flow.insts := m } := by
  rw [State.retire]
  split_ifs
  · exact ⟨_, rfl⟩
  · exact ⟨_, rfl⟩

/-- What the comparison of an applied entry's result with the one returned leaves. -/
theorem commitEntry_spec (ht : t.applyCommitted key e = (v, res)) (hsl : keySlice key < 16) :
    v.RegsCtrs (t.commitEntry key e) ∧ (t.commitEntry key e).rd Reg.fleGeom = v.rd Reg.fleGeom ∧
    (∀ c, c < 0x740000 → c ≠ Reg.fleCnt 3 → (t.commitEntry key e).ctr c = v.ctr c) ∧
    (res = e.results → t.commitEntry key e = v) ∧
    (res ≠ e.results → (t.commitEntry key e).ctr (Reg.fleCnt 3) = (v.ctr (Reg.fleCnt 3) + 1) % 2 ^ 64 ∧
      (v.bit Reg.fleCtrl 8 = true → (t.commitEntry key e).bit (Reg.fleFsEvents (keySlice key)) 2 = true ∧
        (t.commitEntry key e).bit Reg.fleOpErrInfo 31 = true)) := by
  have heq : t.commitEntry key e = if res = e.results then v else v.diverged key e := by rw [State.commitEntry, ht]
  obtain ⟨hrc, hctr, hgeom, hbits⟩ := diverged_spec v e hsl
  rw [heq]
  split_ifs with h
  · exact ⟨rfl, rfl, fun _ _ _ => rfl, fun _ => rfl, fun hne => absurd h hne⟩
  · exact ⟨hrc, hgeom, fun c hc hne => by rw [hctr c hc, if_neg hne], fun he => absurd he h, fun _ => ⟨by rw [hctr _ (by decide), if_pos rfl], hbits⟩⟩

/-- The state a slice works an entry off in: its record accessed, the entry out of its log. -/
def State.taken (s : State) (key : Nat) : State := { s.hit key with flow.logs := (s.hit key).flow.logs.mod key fun l => l.drop 1 }

theorem taken_spec (hc : s.cached key) (hlog : s.log key = e :: l) : (s.taken key).log key = l ∧ (∀ k, k ≠ key → (s.taken key).log k = s.log k) ∧
    (∀ k, (s.taken key).committed k = s.committed k) ∧ (s.taken key).recSize = s.recSize ∧ (s.taken key).cached key ∧
    (∀ c, (s.taken key).ctr c = if c = sliceCnt (keySlice key) 0 then (s.ctr c + 1) % 2 ^ 64 else s.ctr c) := by
  obtain ⟨-, hf⟩ := fetchAtoms_hit hc
  have hget : ∀ k, (s.taken key).log k = if k = key then ((s.hit key).log key).drop 1 else (s.hit key).log k := fun k => SMap.get_mod ..
  refine ⟨?_, fun k hk => ?_, fun k => ?_, hf.recSize, hf.cached key hc, hit_ctr s key⟩
  · rw [hget, if_pos rfl, hf.log, hlog]; rfl
  · rw [hget, if_neg hk, hf.log]
  · exact (committed_of (s := s.hit key) rfl rfl rfl rfl k).trans (hf.committed k)

/-- A slice's next entry, of a record that is cached, is applied. -/
theorem logEntry_applied (hup : s.coreUp = true) (hn : n < 16) (hnext : s.nextHead (some n) = some (key, e))
    (hres : (s.inst e.inst).resolved = some true) (hc : s.cached key) (hhops : ∀ h ∈ s.entryHops key e, s.cached h) :
    exec (.logEntryApply n) s = .next (((s.taken key).commitEntry key e).retire e.inst) := by
  obtain ⟨hfetch, hf⟩ := fetchAtoms_hit hc
  have hfit : (s.hit key).hopsFit ((s.hit key).entryHops key e) = true := by
    rw [entryHops_hit hc]
    exact hopsFit_cached _ fun h hh => hf.cached h (hhops h hh)
  have hhit : ((s.hit key).inst e.inst).resolved = some true := hres
  rw [exec_logEntryApply, execLogEntryApply, decide_eq_true hn, whenWf, if_pos rfl, hnext]
  dsimp only
  rw [if_pos hres, hfetch]
  dsimp only
  rw [if_pos hfit, occurs, if_pos hup, State.applyHead, if_pos hhit]
  rfl

/-- A slice works off entries of its own records. -/
theorem slice_nextHead (hnext : s.nextHead (some n) = some (key, e)) : keySlice key = n := by
  have hmem := minBy_mem hnext
  rw [State.readyHeads, List.mem_filterMap] at hmem
  obtain ⟨⟨k, es⟩, -, h⟩ := hmem
  dsimp only at h
  split at h
  · exact absurd h (by simp)
  · split_ifs at h with hcond
    obtain ⟨rfl, -⟩ := Prod.mk.inj (Option.some.inj h)
    simpa using (Bool.and_eq_true_iff.mp hcond).1

/-- A cancelled entry is removed, and a later create of its key takes over. -/
theorem logEntry_dropped (hup : s.coreUp = true) (hn : n < 16) (hnext : s.nextHead (some n) = some (key, e)) (hlog : s.log key = e :: l)
    (hres : (s.inst e.inst).resolved = some false) : ∃ t, exec (.logEntryApply n) s = .next t ∧
      t.log key = (if e.own then takeOver e l else l) ∧ (∀ k, k ≠ key → t.log k = s.log k) ∧
      (∀ k, t.committed k = s.committed k) ∧ t.mem = s.mem ∧ t.regs = s.regs ∧ t.ctrs = s.ctrs ∧ t.flow.eqNotices = s.flow.eqNotices := by
  have hne : ¬ (s.inst e.inst).resolved = some true := by rw [hres]; decide
  obtain ⟨a, ha⟩ : ∃ a, a = { s with flow.logs := s.flow.logs.mod key fun l => l.drop 1 } := ⟨_, rfl⟩
  obtain ⟨m, hm⟩ : ∃ m, a.dropEntry key e = { s with flow.logs := m } ∧ ∀ k, m.get k =
      if k = key then (if e.own then takeOver e l else l) else s.log k := by
    have hget : ∀ k, a.flow.logs.get k = if k = key then l else s.log k := fun k => by
      rw [ha]
      refine (SMap.get_mod ..).trans (if_congr Iff.rfl ?_ rfl)
      change (s.log key).drop 1 = l
      rw [hlog]; rfl
    rw [State.dropEntry]
    by_cases hown : e.own = true
    · refine ⟨a.flow.logs.mod key (takeOver e), by rw [if_pos hown, ha], fun k => ?_⟩
      rw [SMap.get_mod, if_pos hown, hget, hget, if_pos rfl]
      split_ifs <;> rfl
    · refine ⟨a.flow.logs, by rw [if_neg hown, ha], fun k => ?_⟩
      rw [if_neg hown, hget]
  obtain ⟨hdrop, hget⟩ := hm
  obtain ⟨w, hw⟩ := retire_eq ({ s with flow.logs := m } : State) e.inst
  obtain ⟨u, hu⟩ : ∃ u, u = ({ s with flow.logs := m } : State).retire e.inst := ⟨_, rfl⟩
  have hlogs : u.flow.logs = m := by rw [hu, hw]
  refine ⟨u, ?_, by rw [State.log, hlogs, hget, if_pos rfl], fun k hk => by rw [State.log, hlogs, hget, if_neg hk],
    fun k => by rw [hu, hw]; exact committed_of rfl rfl rfl rfl k, by rw [hu, hw], by rw [hu, hw], by rw [hu, hw], by rw [hu, hw]⟩
  rw [exec_logEntryApply, execLogEntryApply, decide_eq_true hn, whenWf, if_pos rfl, hnext]
  dsimp only
  rw [if_neg hne, occurs, if_pos hup, State.applyHead, if_neg hne, ← ha, hdrop, hu]

end

end Sys2Proof.Machine
end

section
/-! PROOFS. What an applied entry leaves (R505, R506, R549–R551). -/
namespace Sys2Proof.Machine

section
variable {s t u v : State} {key k n i : Nat} {img : List Byte} {res : List Nat} {e : LogEntry} {l : List LogEntry}

/-- The state after an entry applied, from what its rule made of the record. -/
structure Worked (s v t : State) (key : Nat) (e : LogEntry) (res : List Nat) : Prop where
  flow : ∃ m, t.flow = { v.flow with insts := m }
  mem : t.mem = v.mem
  committed : ∀ k, t.committed k = v.committed k
  ctr : ∀ c, c < 0x740000 → c ≠ Reg.fleCnt 3 → t.ctr c = v.ctr c
  same : res = e.results → t.regs = v.regs ∧ t.ctr (Reg.fleCnt 3) = v.ctr (Reg.fleCnt 3)
  differs : res ≠ e.results → t.ctr (Reg.fleCnt 3) = (v.ctr (Reg.fleCnt 3) + 1) % 2 ^ 64 ∧
    (v.bit Reg.fleCtrl 8 = true → t.bit (Reg.fleFsEvents (keySlice key)) 2 = true ∧ t.bit Reg.fleOpErrInfo 31 = true)

theorem worked_of (hv : (s.taken key).applyCommitted key e = (v, res)) (hsl : keySlice key < 16) :
    Worked s v (((s.taken key).commitEntry key e).retire e.inst) key e res := by
  obtain ⟨hrc, hgeom, hctr, hsame, hdiffers⟩ := commitEntry_spec hv hsl
  obtain ⟨w, hw⟩ : ∃ w, w = (s.taken key).commitEntry key e := ⟨_, rfl⟩
  rw [← hw] at hrc hgeom hctr hsame hdiffers ⊢
  obtain ⟨m, hm⟩ := retire_eq w e.inst
  have hflow : w.flow = v.flow := by rw [hrc]
  have hmem : w.mem = v.mem := by rw [hrc]
  rw [hm]
  refine ⟨⟨m, by rw [← hflow]⟩, hmem, fun k => committed_of ?_ ?_ hmem hgeom k, hctr, fun h => ?_, hdiffers⟩
  · change w.flow.lines = _
    rw [hflow]
  · change w.flow.base = _
    rw [hflow]
  · rw [← hsame h]
    exact ⟨rfl, rfl⟩

/-- An entry's rule, on the record as the slice finds it. -/
theorem applyCommitted_taken (hc : s.cached key) (hlog : s.log key = e :: l) (himg : (img, res) = applyEntry s.recSize key (s.entryHash e) (s.committed key) e) :
    (s.taken key).applyCommitted key e =
      if e.fn = 1 then (if res.head? = some 0 then (s.taken key).commitCreate key e img else s.taken key, res)
      else if e.fn = 2 then (if res = [0] then (s.taken key).invalidate key else s.taken key, res)
      else if e.fn = 15 then (if res = [0] then (s.taken key).exportRequest key (s.committed key) e.x else s.taken key, res)
      else ((s.taken key).setCommitted key img, res) := by
  obtain ⟨-, -, hcom, hsize, -⟩ := taken_spec hc hlog
  have hhash : (s.taken key).entryHash e = s.entryHash e := rfl
  rw [State.applyCommitted]
  rw [hcom, hsize, hhash, ← himg]

/-- A record operation applied to the committed image. -/
theorem worked_plain (hc : s.cached key) (hlog : s.log key = e :: l) (hsl : keySlice key < 16) (himg : (img, res) = applyEntry s.recSize key (s.entryHash e) (s.committed key) e)
    (hlen : img.length = s.recSize) (h1 : e.fn ≠ 1) (h2 : e.fn ≠ 2) (h15 : e.fn ≠ 15) {t : State}
    (ht : t = ((s.taken key).commitEntry key e).retire e.inst) :
    t.committed key = img ∧ (∀ k, k ≠ key → t.committed k = s.committed k) ∧ t.mem = s.mem ∧
      (res = e.results → t.regs = s.regs ∧ t.ctr (Reg.fleCnt 3) = s.ctr (Reg.fleCnt 3)) ∧
      (res ≠ e.results → t.ctr (Reg.fleCnt 3) = (s.ctr (Reg.fleCnt 3) + 1) % 2 ^ 64 ∧
        (s.bit Reg.fleCtrl 8 = true → t.bit (Reg.fleFsEvents (keySlice key)) 2 = true ∧ t.bit Reg.fleOpErrInfo 31 = true)) := by
  obtain ⟨-, -, hcom, hsize, hcached, hctr⟩ := taken_spec hc hlog
  obtain ⟨hself, hothers, -, fl, hform⟩ := setCommitted_spec (img := img) hcached (hlen.trans hsize.symm)
  have hv := applyCommitted_taken hc hlog himg
  rw [if_neg h1, if_neg h2, if_neg h15] at hv
  have hw := worked_of hv hsl
  rw [← ht] at hw
  have hne : Reg.fleCnt 3 ≠ sliceCnt (keySlice key) 0 := by unfold Reg.fleCnt sliceCnt Reg.fleFsCnt; omega
  have hcnt : ((s.taken key).setCommitted key img).ctr (Reg.fleCnt 3) = s.ctr (Reg.fleCnt 3) := by
    rw [hform]
    exact (hctr _).trans (if_neg hne)
  have hregs : ((s.taken key).setCommitted key img).regs = s.regs := by rw [hform]; rfl
  refine ⟨(hw.committed key).trans hself, fun k hk => (hw.committed k).trans ((hothers k hk).trans (hcom k)), hw.mem.trans (by rw [hform]; rfl),
    fun h => ?_, fun h => ?_⟩
  · obtain ⟨hr, hcc⟩ := hw.same h
    exact ⟨hr.trans hregs, hcc.trans hcnt⟩
  · obtain ⟨hcc, hbits⟩ := hw.differs h
    exact ⟨by rw [hcc, hcnt], fun hb => hbits (by rw [State.bit_of_rd (by rw [State.rd, hregs, ← State.rd])]; exact hb)⟩

/-- A delete applied. -/
theorem worked_delete (hc : s.cached key) (hlog : s.log key = e :: l) (hsl : keySlice key < 16) (himg : (img, res) = applyEntry s.recSize key (s.entryHash e) (s.committed key) e)
    (h2 : e.fn = 2) (hres : res = [0]) (hplace : recDisplaced (s.committed key) = false) {t : State}
    (ht : t = ((s.taken key).commitEntry key e).retire e.inst) :
    t.committed key = recClear (s.committed key) ∧ (∀ k, k ≠ key → t.committed k = s.committed k) ∧
      t.flow.valid.get (keySlice key) = s.flow.valid.get (keySlice key) - 1 := by
  obtain ⟨-, -, hcom, hsize, hcached, -⟩ := taken_spec hc hlog
  have hne : s.committed key ≠ [] := by
    rw [← List.length_pos_iff, length_committed]
    rcases recSize_cases s with h | h | h <;> rw [h] <;> decide
  obtain ⟨hself, hothers, -, fl, hform⟩ := setCommitted_spec (img := recClear (s.committed key)) hcached
    ((length_recClear hne).trans ((length_committed s key).trans hsize.symm))
  have hv := applyCommitted_taken hc hlog himg
  rw [if_neg (by rw [h2]; decide), if_pos h2, if_pos hres] at hv
  have hinv : (s.taken key).invalidate key = ((s.taken key).setCommitted key (recClear (s.committed key))).setValid (keySlice key)
      ((s.taken key).flow.valid.get (keySlice key) - 1) := by
    rw [State.invalidate]
    rw [hcom, State.clearHopOf, hplace, Bool.false_and, if_neg (by decide)]
  have hw := worked_of hv hsl
  rw [← ht, hinv] at hw
  have hkept : ∀ k, (((s.taken key).setCommitted key (recClear (s.committed key))).setValid (keySlice key) ((s.taken key).flow.valid.get (keySlice key) - 1)).committed k =
      ((s.taken key).setCommitted key (recClear (s.committed key))).committed k := fun k => committed_of rfl rfl rfl rfl k
  refine ⟨((hw.committed key).trans (hkept key)).trans hself, fun k hk => ((hw.committed k).trans (hkept k)).trans ((hothers k hk).trans (hcom k)), ?_⟩
  obtain ⟨m, hm⟩ := hw.flow
  rw [hm]
  exact (SMap.get_set ..).trans (if_pos rfl)

/-- A create applied to a position that is free. -/
theorem worked_create (hc : s.cached key) (hlog : s.log key = e :: l) (hsl : keySlice key < 16) (himg : (img, res) = applyEntry s.recSize key (s.entryHash e) (s.committed key) e)
    (hlen : img.length = s.recSize) (h1 : e.fn = 1) (hown : e.own = true) (hmatch : recMatches (s.committed key) e.tenant e.bytes = false)
    (hhome : e.cand = e.home) (hevict : e.evict = none) (hvalid : recValid (s.committed key) = false) {t : State}
    (ht : t = ((s.taken key).commitEntry key e).retire e.inst) :
    t.committed key = img ∧ (∀ k, k ≠ key → t.committed k = s.committed k) ∧
      t.flow.valid.get (keySlice key) = s.flow.valid.get (keySlice key) + 1 ∧ t.flow.eqNotices = s.flow.eqNotices ∧
      t.ctr (Reg.fleFsCnt (keySlice key) 4) = (s.ctr (Reg.fleFsCnt (keySlice key) 4) + 1) % 2 ^ 64 := by
  obtain ⟨-, -, hcom, hsize, hcached, hctr⟩ := taken_spec hc hlog
  obtain ⟨hself, hothers, -, fl, hform⟩ := setCommitted_spec (img := img) hcached (hlen.trans hsize.symm)
  have hzero : res.head? = some 0 := by
    have hr : res = (applyEntry s.recSize key (s.entryHash e) (s.committed key) e).2 := by rw [← himg]
    rw [hr, applyEntry, if_pos h1, hmatch, if_neg (by decide), if_pos hown]
    rfl
  have hv := applyCommitted_taken hc hlog himg
  rw [if_pos h1, if_pos hzero] at hv
  have hcreate : (s.taken key).commitCreate key e img = (((s.taken key).setCommitted key img).setValid (keySlice key)
      (((s.taken key).setCommitted key img).flow.valid.get (keySlice key) + 1)).bump (sliceCnt (keySlice key) 4) := by
    rw [State.commitCreate]
    rw [hcom, hevict, if_pos hhome, hvalid, if_neg (by decide)]
  have hw := worked_of hv hsl
  rw [← ht, hcreate] at hw
  obtain ⟨a, ha⟩ : ∃ a, a = (s.taken key).setCommitted key img := ⟨_, rfl⟩
  rw [← ha] at hw hself hothers hform
  have hkept : ∀ k, ((a.setValid (keySlice key) (a.flow.valid.get (keySlice key) + 1)).bump (sliceCnt (keySlice key) 4)).committed k = a.committed k :=
    fun k => committed_of rfl rfl rfl rfl k
  obtain ⟨m, hm⟩ := hw.flow
  refine ⟨((hw.committed key).trans (hkept key)).trans hself, fun k hk => ((hw.committed k).trans (hkept k)).trans ((hothers k hk).trans (hcom k)), ?_, ?_, ?_⟩
  · rw [hm]
    refine ((SMap.get_set ..).trans (if_pos rfl)).trans ?_
    rw [hform]
    rfl
  · rw [hm]
    change a.flow.eqNotices = _
    rw [hform]
    rfl
  · rw [hw.ctr _ (by unfold Reg.fleFsCnt; omega) (by unfold Reg.fleFsCnt Reg.fleCnt; omega), State.ctr_bump, sliceCnt, if_pos rfl, hform]
    change ((s.taken key).ctr (Reg.fleFsCnt (keySlice key) 4) + 1) % 2 ^ 64 = _
    rw [hctr, if_neg (by unfold sliceCnt Reg.fleFsCnt; omega)]

end

end Sys2Proof.Machine
end

section
/-! PROOFS. Contexts resolved, notices placed, and the obligation on staged entries (R508–R510, R547–R552). -/
namespace Sys2Proof.Machine

section
variable {s t u : State} {i q : Nat} {n : FlowNotice} {l : List FlowNotice}

/-! ### Resolution -/

theorem stagedOf_of_logs (h : t.flow.logs = s.flow.logs) (i : Nat) : t.stagedOf i = s.stagedOf i := by rw [State.stagedOf, h, State.stagedOf]

theorem contextResolve_spec (hup : s.coreUp = true) (hdue : (s.inst i).due = true) {ok : Bool}
    (hok : ok = (!(s.inst i).cancel && (s.inst i).verdict == some 0)) :
    ∃ t, exec (.contextResolve i) s = .next t ∧ (s.stagedOf i = 0 → t.inst i = {}) ∧
      (s.stagedOf i ≠ 0 → t.inst i = { s.inst i with resolved := some ok, touched := [] }) ∧ (∀ j, j ≠ i → t.inst j = s.inst j) ∧
      t.ctr (Reg.fleCnt (if ok then 0 else 1)) = (s.ctr (Reg.fleCnt (if ok then 0 else 1)) + 1) % 2 ^ 64 ∧
      t.flow.logs = s.flow.logs ∧ t.flow.lines = s.flow.lines ∧ t.mem = s.mem ∧ ∀ a, a < 0x700000 → t.rd a = s.rd a := by
  obtain ⟨y, hy⟩ : ∃ y, y = { s.inst i with resolved := some ok, touched := [] } := ⟨_, rfl⟩
  obtain ⟨a, ha⟩ : ∃ a, a = (s.setInst i y).fleCount (if ok then 0 else 1) := ⟨_, rfl⟩
  have hrc : (s.setInst i y).RegsCtrs a := ha ▸ regsCtrs_fleCount _ _
  have hainst : ∀ j, a.inst j = if j = i then y else s.inst j := fun j => by rw [State.inst, hrc]; exact SMap.get_set ..
  have hlogs : a.flow.logs = s.flow.logs := by rw [hrc]; rfl
  have hlines : a.flow.lines = s.flow.lines := by rw [hrc]; rfl
  have hmem : a.mem = s.mem := by rw [hrc]; rfl
  have hctr : a.ctr (Reg.fleCnt (if ok then 0 else 1)) = (s.ctr (Reg.fleCnt (if ok then 0 else 1)) + 1) % 2 ^ 64 := by
    rw [ha, fleCount_ctr _ _ (by unfold Reg.fleCnt; split_ifs <;> decide), if_pos rfl]
    rfl
  have hrd : ∀ b, b < 0x700000 → a.rd b = s.rd b := fun b hb => by rw [ha, rd_fleCount _ _ hb]; rfl
  have hlive : (s.inst i).live = true := by
    rw [FlowCtx.due] at hdue
    simp only [Bool.and_eq_true] at hdue
    exact hdue.1.1.1
  have hexec : exec (.contextResolve i) s = .next (a.retire i) := by
    rw [exec_contextResolve, execContextResolve, hup, hdue, occurs, if_pos (by decide), ← hok, State.resolve, ← hy, ← ha]
  have hself : a.inst i = y := (hainst i).trans (if_pos rfl)
  have hretire : a.retire i = if s.stagedOf i = 0 then a.setInst i {} else a := by
    rw [State.retire]
    rw [hself, stagedOf_of_logs hlogs, hy]
    refine if_congr ⟨fun h => h.2.2, fun h => ⟨hlive, rfl, h⟩⟩ rfl rfl
  rw [hretire] at hexec
  by_cases hzero : s.stagedOf i = 0
  · rw [if_pos hzero] at hexec
    exact ⟨_, hexec, fun _ => (SMap.get_set ..).trans (if_pos rfl), fun hne => absurd hzero hne,
      fun j hj => (SMap.get_set ..).trans ((if_neg hj).trans ((hainst j).trans (if_neg hj))), hctr, hlogs, hlines, hmem, hrd⟩
  · rw [if_neg hzero] at hexec
    exact ⟨_, hexec, fun h => absurd h hzero, fun _ => by rw [hself, hy], fun j hj => (hainst j).trans (if_neg hj), hctr, hlogs, hlines, hmem, hrd⟩

theorem contextResolve_waits (hdue : (s.inst i).due = false) : exec (.contextResolve i) s = .next s := by
  rw [exec_contextResolve, execContextResolve, hdue, Bool.and_false, occurs, if_neg (by decide)]

/-! ### Logs -/

theorem logs_setHop (s : State) (home : Nat) (h : Option Nat) : (s.setHop home h).flow.logs = s.flow.logs := by
  rw [State.setHop]
  split_ifs
  · rfl
  · split
    next t ht => exact (show _ = t.flow.logs from rfl).trans (logs_fetchAtoms ht)
    · rfl

theorem logs_clearHopOf (s : State) (key : Nat) (img : List Byte) : (s.clearHopOf key img).flow.logs = s.flow.logs := by
  rw [State.clearHopOf]
  split_ifs
  · exact logs_setHop _ _ _
  · rfl

theorem flow_of_regsCtrs (h : s.RegsCtrs t) : t.flow.logs = s.flow.logs := by rw [h]

theorem logs_exportRequest (s : State) (key : Nat) (img : List Byte) (reason : Nat) : (s.exportRequest key img reason).flow.logs = s.flow.logs := by
  rw [State.exportRequest]
  split_ifs
  · rfl
  · exact flow_of_regsCtrs ((regsCtrs_fleCount s 9).trans (State.setEvent_eq ..))

theorem logs_ite {c : Prop} [Decidable c] (ht : t.flow.logs = s.flow.logs) (hu : u.flow.logs = s.flow.logs) :
    (if c then t else u).flow.logs = s.flow.logs := by
  split_ifs
  · exact ht
  · exact hu

theorem logs_setWindow (s : State) (w : WindowCounts) : ({ s with flow.evictWindow := w } : State).flow.logs = s.flow.logs := rfl
theorem logs_setNotices (s : State) (q : List FlowNotice) : ({ s with flow.eqNotices := q } : State).flow.logs = s.flow.logs := rfl

theorem logs_countEviction (s : State) (sl : Nat) : (s.countEviction sl).flow.logs = s.flow.logs := by
  obtain ⟨a, ha⟩ : ∃ a, a = s.bump (sliceCnt sl 5) := ⟨_, rfl⟩
  obtain ⟨w, hw⟩ : ∃ w, w = windowAdd a.flow.evictWindow sl 1 (a.fld (Reg.fleFsAlarm sl) 15 0) := ⟨_, rfl⟩
  obtain ⟨b, hb⟩ : ∃ b, b = { a with flow.evictWindow := w } := ⟨_, rfl⟩
  have hlogs : b.flow.logs = s.flow.logs := by rw [hb, logs_setWindow, ha, State.bump_flow]
  have heq : s.countEviction sl = if alarmDue a.flow.evictWindow sl 1 (a.fld (Reg.fleFsAlarm sl) 15 0) = true then b.fsEvent sl 1 else b := by
    rw [State.countEviction, hb, hw, ha]
  rw [heq]
  exact logs_ite ((congrArg Flow.logs (State.setEvent_flow ..)).trans hlogs) hlogs

/-- What follows a create that evicted a record, once the victim's home is changed. -/
def State.evictedNoted (s : State) (key cause : Nat) (old : List Byte) (q : List FlowNotice) : State :=
  if ({ s with flow.eqNotices := q }.countEviction (keySlice key)).bit Reg.fleExpCtrl 30 = true then
    ({ s with flow.eqNotices := q }.countEviction (keySlice key)).exportRequest key old 5
  else { s with flow.eqNotices := q }.countEviction (keySlice key)

theorem logs_evicted (s : State) (key home cause : Nat) (old : List Byte) : (s.evicted key home cause old).flow.logs = s.flow.logs := by
  obtain ⟨a, ha⟩ : ∃ a, a = if s.homeKey old = home then s else s.clearHopOf key old := ⟨_, rfl⟩
  have hlogs : a.flow.logs = s.flow.logs := ha ▸ logs_ite rfl (logs_clearHopOf _ _ _)
  obtain ⟨q, hq⟩ : ∃ q, q = a.flow.eqNotices ++ [noticeOf cause key old] := ⟨_, rfl⟩
  have heq : s.evicted key home cause old = a.evictedNoted key cause old q := by rw [State.evictedNoted, hq, ha, State.evicted]
  have hcount : ({ a with flow.eqNotices := q }.countEviction (keySlice key)).flow.logs = s.flow.logs :=
    (logs_countEviction ..).trans ((logs_setNotices a q).trans hlogs)
  rw [heq]
  exact logs_ite ((logs_exportRequest ..).trans hcount) hcount

theorem logs_setCommitted (s : State) (key : Nat) (img : List Byte) : (s.setCommitted key img).flow.logs = s.flow.logs := by
  obtain ⟨m, hm⟩ : ∃ m, s.setCommitted key img = { s with flow.lines := m } := ⟨_, rfl⟩
  rw [hm]

theorem logs_setValid (s : State) (sl n : Nat) : (s.setValid sl n).flow.logs = s.flow.logs := rfl

theorem logs_commitCreate (s : State) (key : Nat) (e : LogEntry) (img : List Byte) : (s.commitCreate key e img).flow.logs = s.flow.logs := by
  unfold State.commitCreate
  extract_lets old c sl a b d f
  have ha : a.flow.logs = s.flow.logs := logs_setCommitted s key img
  have hb : b.flow.logs = s.flow.logs := logs_ite ha ((logs_setValid a _ _).trans ha)
  have hd : d.flow.logs = s.flow.logs := logs_ite hb ((logs_setHop b _ _).trans hb)
  have hf : f.flow.logs = s.flow.logs := hd
  split
  · exact logs_ite ((logs_evicted ..).trans hf) hf
  · exact hf

theorem logs_applyCommitted (s : State) (key : Nat) (e : LogEntry) : (s.applyCommitted key e).1.flow.logs = s.flow.logs := by
  unfold State.applyCommitted
  extract_lets img r
  split_ifs
  · exact logs_commitCreate ..
  · rfl
  · exact (logs_clearHopOf ..).trans ((logs_setValid _ _ _).trans (logs_setCommitted ..))
  · rfl
  · exact logs_exportRequest ..
  · rfl
  · exact logs_setCommitted ..

/-! ### Notices -/

theorem length_noticeBytes (n : FlowNotice) (x y : Nat) : (n.bytes (leBytes x 2 ++ leBytes y 4)).length = 128 := by
  rw [FlowNotice.bytes]
  simp only [List.length_append, leBytes_length, slice_length]

/-- An entry written to a ring: its bytes, and the producer index. -/
theorem ringWrite_spec (s : State) (r : Ring) {entry : List Byte} (hlen : entry.length = 128) : (∃ k, s.ringWrite r entry = { s with mem := (s.ringWrite r entry).mem, regs := k }) ∧
    (s.ringWrite r entry).mem = s.mem.putBytes (s.ringBase r + 128 * ((s.rd r.prod).toNat % s.ringSize r)) entry ∧
    ∀ a, (s.ringWrite r entry).rd a = if a = r.prod then s.rd r.prod + 1 else s.rd a := by
  refine ⟨⟨_, rfl⟩, by rw [State.ringWrite, hlen]; rfl, fun a => ?_⟩
  rw [State.ringWrite]
  rw [State.rd_wr]
  refine if_congr Iff.rfl ?_ rfl
  apply BitVec.eq_of_toNat_eq
  simp [BitVec.toNat_add]

theorem ringUsed_zero {r : Ring} (h : s.rd r.prod = s.rd r.cons) : s.ringUsed r = 0 := by
  rw [State.ringUsed, h]
  have := (s.rd r.cons).isLt
  omega

theorem eqNotice_posted (hup : s.coreUp = true) (hq : s.flow.eqNotices = n :: l) (htakes : s.ringTakes (fleRing 0) = true) :
    ∃ t, exec (.noticePost false) s = .next t ∧ t.flow.eqNotices = l ∧ t.flow.eqSeq = (s.flow.eqSeq + 1) % 65536 ∧
      t.mem = s.mem.putBytes (s.ringBase (fleRing 0) + 128 * ((s.rd (Reg.fleEqProd 0)).toNat % s.ringSize (fleRing 0)))
        (n.bytes (leBytes s.flow.eqSeq 2 ++ leBytes s.tb.sec 4)) ∧
      t.rd (Reg.fleEqProd 0) = s.rd (Reg.fleEqProd 0) + 1 ∧
      (s.rd (Reg.fleEqProd 0) = s.rd (Reg.fleEqCons 0) → t.bit (Reg.fleEqEvents 0) 0 = true ∧ s.raised t 193) ∧
      (∀ a, a < 0x700000 → a ≠ Reg.fleEqProd 0 → a ≠ Reg.fleEqEvents 0 → t.rd a = s.rd a) := by
  obtain ⟨a, ha⟩ : ∃ a, a = { s with flow.eqNotices := l, flow.eqSeq := (s.flow.eqSeq + 1) % 65536 } := ⟨_, rfl⟩
  have hard : ∀ b, a.rd b = s.rd b := fun b => by rw [ha]; rfl
  have hamem : a.mem = s.mem := by rw [ha]
  have haflow : a.flow.eqNotices = l ∧ a.flow.eqSeq = (s.flow.eqSeq + 1) % 65536 := by rw [ha]; exact ⟨rfl, rfl⟩
  have hafacts : a.ringTakes (fleRing 0) = true ∧ a.ringBase (fleRing 0) = s.ringBase (fleRing 0) ∧ a.ringSize (fleRing 0) = s.ringSize (fleRing 0) ∧
      a.ringUsed (fleRing 0) = s.ringUsed (fleRing 0) ∧ a.tb = s.tb := by
    rw [ha]
    exact ⟨htakes, rfl, rfl, rfl, rfl⟩
  obtain ⟨hat, hbase, hsize, hused, htb⟩ := hafacts
  obtain ⟨b, hb⟩ : ∃ b, b = a.ringWrite (fleRing 0) (n.bytes (leBytes s.flow.eqSeq 2 ++ leBytes s.tb.sec 4)) := ⟨_, rfl⟩
  obtain ⟨⟨k, hform⟩, hmem, hrd⟩ := ringWrite_spec a (fleRing 0) (length_noticeBytes n s.flow.eqSeq s.tb.sec)
  rw [← hb] at hform hmem hrd
  have hbflow : b.flow = a.flow := by rw [hform]
  have hbmem : b.mem = s.mem.putBytes (s.ringBase (fleRing 0) + 128 * ((s.rd (Reg.fleEqProd 0)).toNat % s.ringSize (fleRing 0)))
      (n.bytes (leBytes s.flow.eqSeq 2 ++ leBytes s.tb.sec 4)) := by
    rw [hmem, hamem, hbase, hsize, hard] <;> rfl
  have hprod : b.rd (Reg.fleEqProd 0) = s.rd (Reg.fleEqProd 0) + 1 := (hrd _).trans ((if_pos rfl).trans (congrArg (· + 1) (hard _)))
  have hother : ∀ c, c ≠ Reg.fleEqProd 0 → b.rd c = s.rd c := fun c hc => (hrd c).trans ((if_neg hc).trans (hard c))
  have hexec : exec (.noticePost false) s = .next (if s.ringUsed (fleRing 0) = 0 then b.setEvent (Reg.fleEqEvents 0) 0 193 else b) := by
    rw [exec_noticePost, execNoticePost, occurs, if_pos hup, State.postQueue, if_pos (show b2n false = 0 from rfl), hq]
    dsimp only
    rw [← ha, State.placeNotice, if_pos hat]
    dsimp only
    rw [hused, htb, ← hb, State.queueEvent, if_pos rfl]
  have hlow : Reg.fleEqEvents 0 < 0x700000 := by decide
  refine ⟨_, hexec, ?_⟩
  by_cases hzero : s.ringUsed (fleRing 0) = 0
  · rw [if_pos hzero]
    refine ⟨by rw [State.setEvent_flow, hbflow, haflow.1], by rw [State.setEvent_flow, hbflow, haflow.2], by rw [State.setEvent_mem, hbmem], ?_,
      fun _ => ⟨State.bit_setEvent_same _ (by decide) hlow, ?_⟩, fun c hc h1 h2 => ?_⟩
    · rw [State.rd_setEvent _ _ _ _ _ (by decide), State.rd_setBit_other _ _ _ _ _ (by decide), hprod]
    · exact State.raised.of_rd (State.raised_setEvent b (by decide) hlow) fun c hc => hother c fun h => absurd (h ▸ hc) (by decide)
    · rw [State.rd_setEvent _ _ _ _ _ hc, State.rd_setBit_other _ _ _ _ _ h2, hother c h1]
  · rw [if_neg hzero]
    exact ⟨by rw [hbflow, haflow.1], by rw [hbflow, haflow.2], hbmem, hprod, fun h => absurd (ringUsed_zero (r := fleRing 0) h) hzero,
      fun c _ h1 _ => hother c h1⟩

theorem eqNotice_lost (hup : s.coreUp = true) (hq : s.flow.eqNotices = n :: l) (htakes : s.ringTakes (fleRing 0) = false) :
    ∃ t, exec (.noticePost false) s = .next t ∧ t.flow.eqNotices = l ∧ t.flow.eqSeq = (s.flow.eqSeq + 1) % 65536 ∧ t.mem = s.mem ∧
      t.rd (Reg.fleEqLost 0) = s.rd (Reg.fleEqLost 0) + 1 ∧ t.bit (Reg.fleEqEvents 0) 1 = true ∧
      s.regsRaised t [Reg.fleEqLost 0, Reg.fleEqEvents 0] 193 := by
  obtain ⟨a, ha⟩ : ∃ a, a = { s with flow.eqNotices := l, flow.eqSeq := (s.flow.eqSeq + 1) % 65536 } := ⟨_, rfl⟩
  have hard : ∀ b, a.rd b = s.rd b := fun b => by rw [ha]; rfl
  have hat : a.ringTakes (fleRing 0) = false := by rw [ha]; exact htakes
  obtain ⟨b, hb⟩ : ∃ b, b = a.wr (Reg.fleEqLost 0) (a.rd (Reg.fleEqLost 0) + 1) := ⟨_, rfl⟩
  have hbrd : ∀ c, b.rd c = if c = Reg.fleEqLost 0 then s.rd (Reg.fleEqLost 0) + 1 else s.rd c := fun c => by rw [hb, State.rd_wr, hard, hard]
  have hexec : exec (.noticePost false) s = .next (b.setEvent (Reg.fleEqEvents 0) 1 193) := by
    rw [exec_noticePost, execNoticePost, occurs, if_pos hup, State.postQueue, if_pos (show b2n false = 0 from rfl), hq]
    dsimp only
    rw [← ha, State.placeNotice, if_neg (by rw [hat]; decide), State.loseNotice, if_pos rfl, ← hb, State.queueEvent, if_pos rfl]
  have hlow : Reg.fleEqEvents 0 < 0x700000 := by decide
  refine ⟨_, hexec, by rw [State.setEvent_flow, hb, ha]; rfl, by rw [State.setEvent_flow, hb, ha]; rfl, by rw [State.setEvent_mem, hb, ha]; rfl, ?_,
    State.bit_setEvent_same _ (by decide) hlow, State.raised.of_rd (State.raised_setEvent b (by decide) hlow) fun c hc => ?_, fun c hc hne => ?_⟩
  · rw [State.rd_setEvent _ _ _ _ _ (by decide), State.rd_setBit_other _ _ _ _ _ (by decide), hbrd, if_pos rfl]
  · rw [hbrd, if_neg fun h => absurd (h ▸ hc) (by decide)]
  · simp only [List.mem_cons, List.not_mem_nil, or_false, not_or] at hne
    rw [State.rd_setEvent _ _ _ _ _ hc, State.rd_setBit_other _ _ _ _ _ hne.2, hbrd, if_neg hne.1]

theorem sqNotice_posted (hup : s.coreUp = true) (hsweep : s.flow.sweep = none) (hq : s.flow.sqNotices = n :: l) :
    ∃ t, exec (.noticePost true) s = .next t ∧ t.flow.sqNotices = l ∧ t.flow.sqSeq = (s.flow.sqSeq + 1) % 65536 ∧ t.tables = s.tables ∧
      (if s.ringTakes (fleRing 1) then t.rd (Reg.fleEqProd 1) = s.rd (Reg.fleEqProd 1) + 1 ∧ t.ctrs = s.ctrs
       else t.mem = s.mem ∧ t.rd (Reg.fleEqLost 1) = s.rd (Reg.fleEqLost 1) + 1 ∧ t.bit (Reg.fleEqEvents 1) 1 = true) := by
  obtain ⟨a, ha⟩ : ∃ a, a = { s with flow.sqNotices := l, flow.sqSeq := (s.flow.sqSeq + 1) % 65536 } := ⟨_, rfl⟩
  have hard : ∀ b, a.rd b = s.rd b := fun b => by rw [ha]; rfl
  have hat : a.ringTakes (fleRing 1) = s.ringTakes (fleRing 1) := by rw [ha]; rfl
  have haflow : a.flow.sqNotices = l ∧ a.flow.sqSeq = (s.flow.sqSeq + 1) % 65536 ∧ a.flow.sweep = none := by rw [ha]; exact ⟨rfl, rfl, hsweep⟩
  obtain ⟨p, hp⟩ : ∃ p, p = a.placeNotice 1 s.flow.sqSeq n := ⟨_, rfl⟩
  have hexec : p.flow.sweep = none → exec (.noticePost true) s = .next p := fun hnone => by
    rw [exec_noticePost, execNoticePost, occurs, if_pos hup, State.postQueue, if_neg (by decide), hq]
    dsimp only
    rw [← ha]
    change Host.Outcome.next ((a.placeNotice 1 s.flow.sqSeq n).sweepCheck) = _
    rw [← hp, State.sweepCheck, hnone]
  cases htakes : s.ringTakes (fleRing 1) with
  | true =>
    obtain ⟨⟨k, hform⟩, -, hrd⟩ := ringWrite_spec a (fleRing 1) (length_noticeBytes n s.flow.sqSeq a.tb.sec)
    obtain ⟨b, hb⟩ : ∃ b, b = a.ringWrite (fleRing 1) (n.bytes (leBytes s.flow.sqSeq 2 ++ leBytes a.tb.sec 4)) := ⟨_, rfl⟩
    rw [← hb] at hform hrd
    have hpe : p = if a.ringUsed (fleRing 1) = 0 then b.setBit (Reg.fleEqEvents 1) 0 true else b := by
      rw [hp, State.placeNotice, if_pos (hat.trans htakes)]
      dsimp only
      rw [← hb, State.queueEvent, if_neg (by decide : ¬ (1 : Nat) = 0)]
    have hpflow : p.flow = a.flow := by
      rw [hpe]
      split_ifs
      · rw [State.setBit_flow, hform]
      · rw [hform]
    have hprod : p.rd (Reg.fleEqProd 1) = s.rd (Reg.fleEqProd 1) + 1 := by
      have hbp : b.rd (Reg.fleEqProd 1) = s.rd (Reg.fleEqProd 1) + 1 := (hrd _).trans ((if_pos rfl).trans (congrArg (· + 1) (hard _)))
      rw [hpe]
      split_ifs
      · rw [State.rd_setBit_other _ _ _ _ _ (by decide), hbp]
      · exact hbp
    have hpctrs : p.ctrs = s.ctrs ∧ p.tables = s.tables := by
      have hbc : b.ctrs = s.ctrs ∧ b.tables = s.tables := by rw [hform, ha]; exact ⟨rfl, rfl⟩
      rw [hpe]
      split_ifs
      · exact hbc
      · exact hbc
    exact ⟨p, hexec (by rw [hpflow, haflow.2.2]), by rw [hpflow, haflow.1], by rw [hpflow, haflow.2.1], hpctrs.2, by rw [if_pos rfl]; exact ⟨hprod, hpctrs.1⟩⟩
  | false =>
    obtain ⟨b, hb⟩ : ∃ b, b = (a.wr (Reg.fleEqLost 1) (a.rd (Reg.fleEqLost 1) + 1)).setBit (Reg.fleEqEvents 1) 1 true := ⟨_, rfl⟩
    have hbflow : b.flow = a.flow := by rw [hb]; rfl
    have hpe : p = { b with flow.sweep := none } := by
      rw [hp, State.placeNotice, if_neg (by rw [hat, htakes]; decide), State.loseNotice, if_neg (by decide), State.queueEvent, if_neg (by decide), ← hb,
        hbflow, haflow.2.2]
      rfl
    have hprd : ∀ c, p.rd c = b.rd c := fun c => by rw [hpe]; rfl
    refine ⟨p, hexec (by rw [hpe]), ?_, ?_, ?_, ?_⟩
    · rw [hpe, ← haflow.1, ← hbflow]
    · rw [hpe, ← haflow.2.1, ← hbflow]
    · rw [hpe, hb, ha]; rfl
    · rw [if_neg (by decide)]
      refine ⟨by rw [hpe, hb, ha]; rfl, ?_, ?_⟩
      · rw [hprd, hb, State.rd_setBit_other _ _ _ _ _ (by decide), State.rd_wr, if_pos rfl, hard]
      · rw [State.bit_of_rd (hprd _), hb, State.bit_setBit_same _ _ _ _ (by decide)]

end

/-- Settles O47: contexts resolve, entries are applied or removed, notices are placed or lost. -/
theorem stagedEntries : Obligations.StagedEntries := by
  intro s hup
  refine ⟨fun i hdue => contextResolve_spec hup hdue rfl, fun i hdue => contextResolve_waits hdue,
    fun n key e l hn hnext hlog hres => logEntry_dropped hup hn hnext hlog hres, ?_, ?_,
    fun n l hq htakes => eqNotice_posted hup hq htakes, fun n l hq htakes => eqNotice_lost hup hq htakes,
    fun n l hsweep hq => sqNotice_posted hup hsweep hq⟩
  · intro n key e l img res hn hnext hlog hres hc hhops himg hlen
    have hsl : keySlice key < 16 := by rw [slice_nextHead hnext]; exact hn
    obtain ⟨hself, hothers, -, -, -, -⟩ := taken_spec hc hlog
    have hlogs : ∀ k, (((s.taken key).commitEntry key e).retire e.inst).log k = (s.taken key).log k := fun k => by
      obtain ⟨m, hm⟩ := (worked_of (s := s) (e := e) (Prod.mk.eta (p := (s.taken key).applyCommitted key e)).symm hsl).flow
      have hkept := logs_applyCommitted (s.taken key) key e
      rw [State.log, hm, State.log, ← hkept]
    refine ⟨_, logEntry_applied hup hn hnext hres hc hhops, ?_, fun k hk => ?_, fun h1 h2 h15 => worked_plain hc hlog hsl himg hlen h1 h2 h15 rfl,
      fun h2 h0 hplace => worked_delete hc hlog hsl himg h2 h0 hplace rfl,
      fun h1 hown hmatch hhome hevict hvalid => worked_create hc hlog hsl himg hlen h1 hown hmatch hhome hevict hvalid rfl⟩
    · exact (hlogs key).trans hself
    · exact (hlogs k).trans (hothers k hk)
  · intro n hn hnext
    rw [exec_logEntryApply, execLogEntryApply, decide_eq_true hn, whenWf, if_pos rfl, hnext] <;> rfl

end Sys2Proof.Machine
end

section
/-! PROOFS. What the parts of a sweep leave of it (R519, R520). -/
namespace Sys2Proof.Machine

section
variable (s : State)

theorem exec_sweepCount (acc : Nat) (v : Word) : exec (.sweepCount acc v) s = execSweepCount acc v s := rfl
theorem exec_sweepReport (acc : Nat) (v : Word) : exec (.sweepReport acc v) s = execSweepReport acc v s := rfl
theorem exec_sweepExpire (acc : Nat) (v : Word) : exec (.sweepExpire acc v) s = execSweepExpire acc v s := rfl
theorem exec_sweepRecord (slice : Nat) : exec (.sweepRecord slice) s = execSweepRecord slice s := rfl
theorem exec_sweepAbort (acc : Nat) (v : Word) : exec (.sweepAbort acc v) s = execSweepAbort acc v s := rfl
theorem exec_exportFormat : exec .exportFormat s = execExportFormat s := rfl
theorem exec_exportMessageSend (heldMs : Nat) : exec (.exportMessageSend heldMs) s = execExportMessageSend heldMs s := rfl

end

section
variable {s t u : State} {key k n i : Nat} {img : List Byte}

/-! ### What stays of a running sweep -/

/-- The sweep and its notices, the logs and the geometry stay; the records may change. -/
structure State.SweepKept (s t : State) : Prop where
  sweep : t.flow.sweep = s.flow.sweep
  notices : t.flow.sqNotices = s.flow.sqNotices
  logs : t.flow.logs = s.flow.logs
  geom : t.rd Reg.fleGeom = s.rd Reg.fleGeom

theorem State.SweepKept.refl (s : State) : s.SweepKept s := ⟨rfl, rfl, rfl, rfl⟩

theorem State.SweepKept.trans (h : s.SweepKept t) (g : t.SweepKept u) : s.SweepKept u :=
  ⟨g.sweep.trans h.sweep, g.notices.trans h.notices, g.logs.trans h.logs, g.geom.trans h.geom⟩

theorem State.SweepKept.buckets (h : s.SweepKept t) : t.buckets = s.buckets := by
  rw [State.buckets, State.fld_of_rd h.geom, State.buckets]

theorem State.SweepKept.of_flow (hflow : t.flow = s.flow) (hgeom : t.rd Reg.fleGeom = s.rd Reg.fleGeom) : s.SweepKept t :=
  ⟨by rw [hflow], by rw [hflow], by rw [hflow], hgeom⟩

theorem sweepKept_bump (s : State) (a m : Nat) : s.SweepKept (s.bump a m) := .of_flow (State.bump_flow ..) rfl

theorem sweepKept_setValid (s : State) (sl m : Nat) : s.SweepKept (s.setValid sl m) := ⟨rfl, rfl, rfl, rfl⟩

theorem sweepKept_lines (s : State) (m : SMap FlowLine) : s.SweepKept { s with flow.lines := m } := ⟨rfl, rfl, rfl, rfl⟩

theorem sweepKept_setCommitted (s : State) (key : Nat) (img : List Byte) : s.SweepKept (s.setCommitted key img) := by
  obtain ⟨m, hm⟩ : ∃ m, s.setCommitted key img = { s with flow.lines := m } := ⟨_, rfl⟩
  rw [hm]
  exact sweepKept_lines s m

theorem sweepKept_writeBack (s : State) (key : Nat) : s.SweepKept (s.writeBack key) := by
  have hflow := flow_foldl_stBytes (fun t n => (t.recAddr key (64 * n), (List.range 64).map fun i =>
    (s.flow.lines.get key).data.get (64 * n + i))) (setBits (s.flow.lines.get key).dirty 4) s
  have hregs : ∀ (l : List Nat) (t : State), (l.foldl (fun t n => t.stBytes (t.recAddr key (64 * n))
      ((List.range 64).map fun i => (s.flow.lines.get key).data.get (64 * n + i))) t).rd Reg.fleGeom = t.rd Reg.fleGeom := by
    intro l
    induction l with
    | nil => exact fun t => rfl
    | cons n l ih => exact fun t => ih _
  have hgeom := hregs (setBits (s.flow.lines.get key).dirty 4) s
  unfold State.writeBack
  dsimp only at hflow hgeom ⊢
  generalize (setBits (s.flow.lines.get key).dirty 4).foldl _ s = t at *
  have hkept : s.SweepKept { t with flow.lines := t.flow.lines.set key { s.flow.lines.get key with dirty := 0 } } :=
    (State.SweepKept.of_flow hflow hgeom).trans (sweepKept_lines ..)
  split_ifs
  · exact hkept
  · exact hkept.trans (sweepKept_bump ..)

theorem sweepKept_makeRoom (h : s.makeRoom key = some t) : s.SweepKept t := by
  unfold State.makeRoom at h
  dsimp only at h
  split_ifs at h
  · cases h; exact .refl s
  · cases h; exact .refl s
  · split at h
    · cases h
    · cases h; exact (sweepKept_writeBack ..).trans (sweepKept_lines ..)

theorem sweepKept_fillLine (s : State) (key mask : Nat) : s.SweepKept (s.fillLine key mask) := ⟨rfl, rfl, rfl, rfl⟩

theorem sweepKept_fetchAtoms {mask : Nat} (h : s.fetchAtoms key mask = some t) : s.SweepKept t := by
  unfold State.fetchAtoms at h
  cases hroom : s.makeRoom key with
  | none => rw [hroom] at h; cases h
  | some u =>
    rw [hroom] at h
    simp only [Option.some.injEq] at h
    have hfill : s.SweepKept (u.fillLine key mask) := (sweepKept_makeRoom hroom).trans (sweepKept_fillLine ..)
    rw [← h]
    split_ifs
    · exact hfill.trans (sweepKept_bump ..)
    · exact (hfill.trans (sweepKept_bump ..)).trans
        (.of_flow (counting_count ..).flow_eq (State.rd_count _ _ _ _ _ (by decide)))

theorem sweepKept_setHop (s : State) (home : Nat) (hop : Option Nat) : s.SweepKept (s.setHop home hop) := by
  rw [State.setHop]
  split_ifs
  · exact .refl s
  · split
    next t ht => exact (sweepKept_fetchAtoms ht).trans (sweepKept_setCommitted ..)
    next => exact (State.SweepKept.of_flow (s := s) (t := s.stBytes _ _) rfl rfl).trans (sweepKept_bump ..)

theorem sweepKept_clearHopOf (s : State) (key : Nat) (img : List Byte) : s.SweepKept (s.clearHopOf key img) := by
  rw [State.clearHopOf]
  split_ifs
  · exact sweepKept_setHop ..
  · exact .refl s

theorem sweepKept_invalidate (s : State) (key : Nat) : s.SweepKept (s.invalidate key) :=
  ((sweepKept_setCommitted ..).trans (sweepKept_setValid ..)).trans (sweepKept_clearHopOf ..)

theorem sweepKept_exportRequest (s : State) (key : Nat) (img : List Byte) (reason : Nat) : s.SweepKept (s.exportRequest key img reason) := by
  rw [State.exportRequest]
  split_ifs
  · obtain ⟨⟨r, hr⟩, -, hrd⟩ := ringWrite_spec s exportRing (length_noticeBytes (noticeOf (reason % 256) key img) 0 0)
    have hbytes : leBytes 0 6 = leBytes 0 2 ++ leBytes 0 4 := by decide
    rw [hbytes]
    exact .of_flow (by rw [hr]) ((hrd _).trans (if_neg (by decide)))
  · exact .of_flow (by rw [((regsCtrs_fleCount s 9).trans (State.setEvent_eq ..) : s.RegsCtrs _)])
      (((State.rd_setEvent _ _ _ _ _ (by decide)).trans (State.rd_setBit_other _ _ _ _ _ (by decide))).trans (rd_fleCount s 9 (by decide)))

/-! ### A record removed by a sweep (R497) -/

theorem recHop_recClear (h : img ≠ []) : recHop (recClear img) = recHop img := by
  obtain ⟨b, l, rfl⟩ := List.exists_cons_of_ne_nil h
  rfl

theorem committed_ne_nil (s : State) (key : Nat) : s.committed key ≠ [] := by
  rw [← List.length_pos_iff, length_committed]
  rcases recSize_cases s with h | h | h <;> rw [h] <;> decide

/-- A record no hop field names, or none displaced, is removed with its own line alone. -/
theorem invalidate_plain (hc : s.cached key) (hhop : (recDisplaced (s.committed key) && s.hopNames key (s.committed key)) = false) :
    (s.invalidate key).committed key = recClear (s.committed key) := by
  have hne := committed_ne_nil s key
  obtain ⟨hself, hothers, -, fl, hform⟩ := setCommitted_spec hc (img := recClear (s.committed key)) ((length_recClear hne).trans (length_committed s key))
  obtain ⟨u, hu⟩ : ∃ u, u = (s.setCommitted key (recClear (s.committed key))).setValid (keySlice key) (s.flow.valid.get (keySlice key) - 1) := ⟨_, rfl⟩
  have hcom : ∀ k, u.committed k = (s.setCommitted key (recClear (s.committed key))).committed k := fun k => hu ▸ committed_of rfl rfl rfl rfl k
  have hcand : u.imgCandidates (s.committed key) = s.imgCandidates (s.committed key) := by
    rw [hu, hform]
    rfl
  have hnames : u.hopNames key (s.committed key) = s.hopNames key (s.committed key) := by
    obtain ⟨home, hh⟩ : ∃ h, h = (s.imgCandidates (s.committed key)).at_ (s.imgCandidates (s.committed key)).home := ⟨_, rfl⟩
    have hrec : recHop (u.committed home) = recHop (s.committed home) := by
      rw [hcom]
      by_cases hk : home = key
      · rw [hk, hself, recHop_recClear hne]
      · rw [hothers home hk]
    rw [State.hopNames, State.hopNames, hcand, ← hh, hrec] <;> rfl
  have hinv : s.invalidate key = u := by
    rw [State.invalidate]
    rw [← hu, State.clearHopOf, hnames, hhop, if_neg (by decide)]
  rw [hinv, hcom, hself]

end

end Sys2Proof.Machine
end

section
/-! PROOFS. A position of a sweep read (R519, R520). -/
namespace Sys2Proof.Machine

section
variable {s t u h : State} {key k n i mode : Nat} {img : List Byte} {w v : Sweep}

/-! ### Counts of a sweep -/

/-- One more in a count. -/
def Sweep.more (w : Sweep) (i : Nat) : Sweep := { w with cnt := w.cnt.mod i fun n => n + 1 }

/-- The next position of a slice that is not through. -/
def Sweep.next (w : Sweep) (n : Nat) : Sweep := { w with pos := w.pos.set n (w.pos.get n + 1) }

theorem more_cnt (w : Sweep) (i j : Nat) : (w.more i).cnt.get j = if j = i then w.cnt.get j + 1 else w.cnt.get j := by
  rw [Sweep.more, SMap.get_mod]
  split_ifs with h
  · rw [h]
  · rfl

/-- A sweep that differs in its counts alone. -/
def Sweep.Along (w v : Sweep) : Prop := ∃ c, v = { w with cnt := c }

theorem Sweep.Along.refl (w : Sweep) : w.Along w := ⟨w.cnt, rfl⟩
theorem Sweep.Along.more (h : w.Along v) (i : Nat) : w.Along (v.more i) := by
  obtain ⟨c, rfl⟩ := h
  exact ⟨_, rfl⟩

theorem sweepAdd_sweep (hv : s.flow.sweep = some v) (i : Nat) : (s.sweepAdd i).flow.sweep = some (v.more i) := by
  rw [State.sweepAdd, hv]
  rfl

theorem sweepAdd_notices (s : State) (i : Nat) : (s.sweepAdd i).flow.sqNotices = s.flow.sqNotices := rfl
theorem sweepAdd_logs (s : State) (i : Nat) : (s.sweepAdd i).flow.logs = s.flow.logs := rfl
theorem sweepAdd_lines (s : State) (i : Nat) : (s.sweepAdd i).flow.lines = s.flow.lines := rfl
theorem sweepAdd_rd (s : State) (i a : Nat) : (s.sweepAdd i).rd a = s.rd a := rfl
theorem sweepAdd_committed (s : State) (i k : Nat) : (s.sweepAdd i).committed k = s.committed k := rfl
theorem sweepAdd_matches (s : State) (i : Nat) (img : List Byte) : (s.sweepAdd i).sweepMatches img = s.sweepMatches img := rfl
theorem sweepAdd_hopNames (s : State) (i key : Nat) (img : List Byte) : (s.sweepAdd i).hopNames key img = s.hopNames key img := rfl
theorem sweepAdd_cached (s : State) (i : Nat) : (s.sweepAdd i).cached key = s.cached key := rfl
theorem sweepAdd_buckets (s : State) (i : Nat) : (s.sweepAdd i).buckets = s.buckets := rfl

/-! ### The next position -/

/-- A slice that is not through goes to its next position, and the sweep goes on. -/
theorem sweepNext_spec (hv : s.flow.sweep = some v) (hpos : v.pos.get n + 1 < s.buckets * 8) (hmask : v.mask ≠ 0) (habort : v.abort = false) :
    (s.sweepNext n).sweepCheck = { s with flow.sweep := some (v.next n) } := by
  have hnext : s.sweepNext n = { s with flow.sweep := some (v.next n) } := by
    rw [State.sweepNext, hv, Option.map_some]
    dsimp only
    rw [if_pos hpos]
    rfl
  have hgo : ¬ (s.flow.sqNotices = [] ∧ ((v.next n).mask = 0 ∨ (v.next n).abort = true)) := by
    rintro ⟨-, hz | ha⟩
    · exact hmask hz
    · exact absurd (habort.symm.trans ha) (by decide)
  rw [hnext, State.sweepCheck]
  dsimp only
  rw [if_neg hgo]

/-- The state before the slice passes on. -/
structure Scanned (s u : State) (w v : Sweep) : Prop where
  sweep : u.flow.sweep = some v
  along : w.Along v
  logs : u.flow.logs = s.flow.logs
  buckets : u.buckets = s.buckets

theorem Scanned.more (g : Scanned s u w v) (i : Nat) : Scanned s (u.sweepAdd i) w (v.more i) :=
  ⟨sweepAdd_sweep g.sweep i, g.along.more i, g.logs, g.buckets⟩

theorem Scanned.kept (g : Scanned s u w v) (hk : u.SweepKept t) : Scanned s t w v :=
  ⟨hk.sweep.trans g.sweep, g.along, hk.logs.trans g.logs, hk.buckets.trans g.buckets⟩

theorem Scanned.noticed (g : Scanned s u w v) (q : List FlowNotice) : Scanned s { u with flow.sqNotices := q } w v :=
  ⟨g.sweep, g.along, g.logs, g.buckets⟩

theorem Scanned.next (g : Scanned s u w v) (hpos : w.pos.get n + 1 < s.buckets * 8) (hmask : w.mask ≠ 0) (habort : w.abort = false) :
    (u.sweepNext n).sweepCheck = { u with flow.sweep := some (v.next n) } := by
  obtain ⟨c, hc⟩ := g.along
  have hpos' : v.pos.get n + 1 < u.buckets * 8 := by rw [hc, g.buckets]; exact hpos
  exact sweepNext_spec g.sweep hpos' (by rw [hc]; exact hmask) (by rw [hc]; exact habort)

theorem next_pos (h : w.Along v) (n : Nat) : (v.next n).mode = w.mode ∧ (v.next n).mask = w.mask ∧ (v.next n).pos.get n = w.pos.get n + 1 ∧
    ∀ k, k ≠ n → (v.next n).pos.get k = w.pos.get k := by
  obtain ⟨c, rfl⟩ := h
  refine ⟨rfl, rfl, ?_, fun k hk => ?_⟩
  · exact (SMap.get_set ..).trans (if_pos rfl)
  · exact (SMap.get_set ..).trans (if_neg hk)

/-! ### The record at a position -/

/-- A matched record counted, reported or expired, with no export asked for. -/
theorem sweepMatched_spec (hc : u.cached key) (himg : img = u.committed key) (hplace : recDisplaced img = false) (g : Scanned s u w v)
    (hnone : u.flow.sqNotices = []) (mode : Nat) :
    (mode = 1 → u.sweepMatched mode key img = u.sweepAdd 1) ∧
    (mode = 2 → u.bit Reg.fleExpCtrl 29 = false → Scanned s (u.sweepMatched mode key img) w (v.more 1) ∧
      (u.sweepMatched mode key img).committed key = img ∧ (u.sweepMatched mode key img).flow.sqNotices = [noticeOf 2 key img]) ∧
    (mode = 3 → u.bit Reg.fleExpCtrl 29 = false → Scanned s (u.sweepMatched mode key img) w ((v.more 1).more 2) ∧
      (u.sweepMatched mode key img).committed key = recClear img ∧ (u.sweepMatched mode key img).flow.sqNotices = [noticeOf 3 key img]) := by
  obtain ⟨a, ha⟩ : ∃ a, a = { u.sweepAdd 1 with flow.sqNotices := (u.sweepAdd 1).flow.sqNotices ++ [noticeOf mode key img] } := ⟨_, rfl⟩
  have hnotices : a.flow.sqNotices = [noticeOf mode key img] := by rw [ha, sweepAdd_notices, hnone]; rfl
  have hscanned : Scanned s a w (v.more 1) := ha ▸ (g.more 1).noticed _
  have hcom : a.committed key = img := by rw [himg, ha]; rfl
  have hbit : a.bit Reg.fleExpCtrl 29 = u.bit Reg.fleExpCtrl 29 := by rw [ha]; rfl
  have heq : mode ≠ 1 → u.bit Reg.fleExpCtrl 29 = false → u.sweepMatched mode key img = if mode = 3 then (a.invalidate key).sweepAdd 2 else a := by
    intro h1 h29
    rw [State.sweepMatched]
    dsimp only
    rw [if_neg h1, ← ha, hbit, h29, if_neg (show ¬ false = true by decide)]
  refine ⟨fun h1 => ?_, fun h2 h29 => ?_, fun h3 h29 => ?_⟩
  · rw [State.sweepMatched]
    dsimp only
    rw [if_pos h1]
  · rw [heq (by omega) h29, if_neg (by omega), ← h2]
    exact ⟨hscanned, hcom, hnotices⟩
  · rw [heq (by omega) h29, if_pos h3]
    have hca : a.cached key := by rw [ha]; exact hc
    have hkept := sweepKept_invalidate a key
    refine ⟨(hscanned.kept hkept).more 2, ?_, ?_⟩
    · rw [sweepAdd_committed, invalidate_plain hca (by rw [hcom, hplace, Bool.false_and]), hcom]
    · rw [sweepAdd_notices, hkept.notices, hnotices, h3]

/-- Whatever is asked for, a matched record leaves the sweep itself, apart from its counts. -/
theorem sweepMatched_scanned (g : Scanned s u w v) (mode key : Nat) (img : List Byte) :
    ∃ m, Scanned s (u.sweepMatched mode key img) w m ∧ m.cnt.get 0 = v.cnt.get 0 ∧ m.cnt.get 1 = v.cnt.get 1 + 1 := by
  have hone : (v.more 1).cnt.get 0 = v.cnt.get 0 ∧ (v.more 1).cnt.get 1 = v.cnt.get 1 + 1 :=
    ⟨by rw [more_cnt, if_neg (by decide)], by rw [more_cnt, if_pos rfl]⟩
  have htwo : ((v.more 1).more 2).cnt.get 0 = v.cnt.get 0 ∧ ((v.more 1).more 2).cnt.get 1 = v.cnt.get 1 + 1 :=
    ⟨by rw [more_cnt, if_neg (by decide), hone.1], by rw [more_cnt, if_neg (by decide), hone.2]⟩
  obtain ⟨a, ha⟩ : ∃ a, a = { u.sweepAdd 1 with flow.sqNotices := (u.sweepAdd 1).flow.sqNotices ++ [noticeOf mode key img] } := ⟨_, rfl⟩
  obtain ⟨b, hb⟩ : ∃ b, b = if a.bit Reg.fleExpCtrl 29 then a.exportRequest key img (if mode = 3 then 1 else 2) else a := ⟨_, rfl⟩
  have hsa : Scanned s a w (v.more 1) := ha ▸ (g.more 1).noticed _
  have hsb : Scanned s b w (v.more 1) := by
    by_cases h29 : a.bit Reg.fleExpCtrl 29 = true
    · rw [hb, if_pos h29]
      exact hsa.kept (sweepKept_exportRequest ..)
    · rw [hb, if_neg h29]
      exact hsa
  have heq : u.sweepMatched mode key img = if mode = 1 then u.sweepAdd 1 else if mode = 3 then (b.invalidate key).sweepAdd 2 else b := by
    rw [State.sweepMatched]
    dsimp only
    rw [← ha, ← hb]
  rw [heq]
  split_ifs
  · exact ⟨_, g.more 1, hone⟩
  · exact ⟨_, (hsb.kept (sweepKept_invalidate ..)).more 2, htwo⟩
  · exact ⟨_, hsb, hone⟩

end

end Sys2Proof.Machine
end

section
/-! PROOFS. One step of a sweep (R519, R520). -/
namespace Sys2Proof.Machine

section
variable {s t u h : State} {key k n i mode : Nat} {img : List Byte} {w v : Sweep}

theorem mask_ne_zero {m : Nat} (h : bitAt m n = true) : m ≠ 0 := by
  rintro rfl
  simp [bitAt_eq_testBit] at h

theorem sweepRecord_runs (hup : s.coreUp = true) (hw : s.flow.sweep = some w) (hn : n < 16) (hbit : bitAt w.mask n = true)
    (habort : w.abort = false) (hnone : s.flow.sqNotices = []) : exec (.sweepRecord n) s = .next (s.sweepStep w n) := by
  rw [exec_sweepRecord, execSweepRecord, decide_eq_true hn, whenWf, if_pos rfl, hw]
  dsimp only
  rw [hup, hbit, hnone, habort, occurs, if_pos (by decide)]

/-- A cached record that no entry holds is read, and the slice goes on to its next position. -/
theorem sweepStep_reads (hc : s.cached key) (hkey : key = recKey n (w.pos.get n)) (hvalid : recValid (s.committed key) = true)
    (hheld : s.lineHeld key = false) (hhome : w.mode = 3 → recDisplaced (s.committed key) = true → s.cached (s.homeKey (s.committed key))) :
    s.sweepStep w n = (((s.hit key).sweepRecord w.mode key).sweepNext n).sweepCheck := by
  obtain ⟨hfetch, hf⟩ := fetchAtoms_hit hc
  have hcand : ∀ tn ks, (s.hit key).candidates tn ks = s.candidates tn ks := candidates_flowAs rfl rfl hf
  have hhomes : ∀ img, (s.hit key).homeKey img = s.homeKey img := fun img => by
    rw [State.homeKey, State.imgCandidates, hcand, State.homeKey, State.imgCandidates]
  obtain ⟨hops, hhops⟩ : ∃ l, l = if w.mode = 3 && (s.hit key).sweepMatches ((s.hit key).committed key) then
      (s.hit key).hopOf key ((s.hit key).committed key) else [] := ⟨_, rfl⟩
  have hall : ∀ x ∈ hops, (s.hit key).cached x := by
    intro x hx
    rw [hhops] at hx
    split_ifs at hx with hm
    · rw [State.hopOf] at hx
      split_ifs at hx with hd
      · rw [List.mem_singleton] at hx
        simp only [Bool.and_eq_true, decide_eq_true_eq] at hm hd
        rw [hx, hhomes, hf.committed]
        exact hf.cached _ (hhome hm.1 (by rw [← hf.committed]; exact hd.1))
      · cases hx
    · cases hx
  rw [State.sweepStep, ← hkey]
  dsimp only
  rw [hvalid, hheld, hfetch]
  dsimp only
  rw [← hhops, hopsFit_cached hops hall]
  rfl

theorem sweepStep_invalid (hkey : key = recKey n (w.pos.get n)) (hvalid : recValid (s.committed key) = false) :
    s.sweepStep w n = (s.sweepNext n).sweepCheck := by
  rw [State.sweepStep, ← hkey, hvalid, Bool.not_false, if_pos rfl]

theorem sweepStep_held (hkey : key = recKey n (w.pos.get n)) (hvalid : recValid (s.committed key) = true) (hheld : s.lineHeld key = true) :
    s.sweepStep w n = ((s.sweepAdd 3).sweepNext n).sweepCheck := by
  rw [State.sweepStep, ← hkey, hvalid, hheld, Bool.not_true, if_neg (by decide), if_pos rfl]

/-- What the record at a position does to the state `x` that holds it in the cache. -/
theorem sweepRecord_eq (s : State) (mode key : Nat) : s.sweepRecord mode key =
    if recDisplaced (s.committed key) = true ∧ s.hopNames key (s.committed key) = false then ((s.sweepAdd 0).invalidate key).sweepAdd 4
    else if s.sweepMatches (s.committed key) = true then (s.sweepAdd 0).sweepMatched mode key (s.committed key) else s.sweepAdd 0 := by
  rw [State.sweepRecord, sweepAdd_hopNames, sweepAdd_matches]
  cases recDisplaced (s.committed key) <;> cases s.hopNames key (s.committed key) <;> rfl

/-! ### The clause -/

theorem hit_swept (s : State) (key : Nat) : s.SweepKept (s.hit key) := (sweepKept_fillLine ..).trans (sweepKept_bump ..)

theorem hit_hopNames (hc : s.cached key) (img : List Byte) : (s.hit key).hopNames key img = s.hopNames key img := by
  obtain ⟨-, hf⟩ := fetchAtoms_hit hc
  have hcand : (s.hit key).imgCandidates img = s.imgCandidates img :=
    (candidates_flowAs rfl rfl hf : ∀ tn ks, (s.hit key).candidates tn ks = s.candidates tn ks) _ _
  rw [State.hopNames, State.hopNames, hcand]
  rw [hf.committed] <;> rfl

theorem hit_matches (hc : s.cached key) (img : List Byte) : (s.hit key).sweepMatches img = s.sweepMatches img := by
  obtain ⟨-, hf⟩ := fetchAtoms_hit hc
  have hbit : (s.hit key).bit Reg.fleSweepTenant 31 = s.bit Reg.fleSweepTenant 31 := State.bit_of_rd (hf.rd _ (by decide)) 31
  have hns : (s.hit key).ns64 = s.ns64 := by rw [State.ns64, hf.tb, State.ns64]
  rw [State.sweepMatches, State.sweepMatches, hns, hf.recSize, hbit, hf.fld (by decide), State.pair, hf.rd _ (by decide), hf.rd _ (by decide)] <;> rfl

/-- What a valid record that no entry holds does to the sweep's state. -/
theorem sweepRecord_cases (hc : s.cached key) (hw : s.flow.sweep = some w) (hnone : s.flow.sqNotices = []) (himg : img = s.committed key) (mode : Nat)
    {u : State} (hu : u = (s.hit key).sweepRecord mode key) :
    ∃ v, Scanned s u w v ∧
      (recDisplaced img = true → s.hopNames key img = false → u.committed key = recClear img ∧ v.cnt.get 4 = w.cnt.get 4 + 1 ∧ u.flow.sqNotices = []) ∧
      (recDisplaced img = false → v.cnt.get 0 = w.cnt.get 0 + 1 ∧
        (s.sweepMatches img = false → v.cnt.get 1 = w.cnt.get 1 ∧ u.committed key = img ∧ u.flow.sqNotices = []) ∧
        (s.sweepMatches img = true → v.cnt.get 1 = w.cnt.get 1 + 1 ∧
          (mode = 1 → u.committed key = img ∧ u.flow.sqNotices = []) ∧
          (mode = 2 → s.bit Reg.fleExpCtrl 29 = false → u.committed key = img ∧ u.flow.sqNotices = [noticeOf 2 key img]) ∧
          (mode = 3 → s.bit Reg.fleExpCtrl 29 = false → u.committed key = recClear img ∧ v.cnt.get 2 = w.cnt.get 2 + 1 ∧
            u.flow.sqNotices = [noticeOf 3 key img]))) := by
  obtain ⟨-, hf⟩ := fetchAtoms_hit hc
  have hswept := hit_swept s key
  obtain ⟨x, hx⟩ : ∃ x, x = (s.hit key).sweepAdd 0 := ⟨_, rfl⟩
  have hxc : x.cached key := by rw [hx]; exact hf.cached key hc
  have hxcom : x.committed key = img := by rw [hx, sweepAdd_committed, hf.committed, himg]
  have hxnone : x.flow.sqNotices = [] := by rw [hx, sweepAdd_notices, hswept.notices, hnone]
  have hxbit : x.bit Reg.fleExpCtrl 29 = s.bit Reg.fleExpCtrl 29 := by rw [hx]; exact State.bit_of_rd (hf.rd _ (by decide)) 29
  have h0 : Scanned s x w (w.more 0) :=
    ⟨by rw [hx]; exact sweepAdd_sweep (hswept.sweep.trans hw) 0, (Sweep.Along.refl w).more 0, by rw [hx]; exact hswept.logs, by rw [hx]; exact hswept.buckets⟩
  have hcnt0 : (w.more 0).cnt.get 0 = w.cnt.get 0 + 1 := by rw [more_cnt, if_pos rfl]
  have hcnt1 : (w.more 0).cnt.get 1 = w.cnt.get 1 := by rw [more_cnt, if_neg (by decide)]
  rw [sweepRecord_eq, hf.committed, ← himg, hit_hopNames hc, hit_matches hc, ← hx] at hu
  by_cases hd : recDisplaced img = true ∧ s.hopNames key img = false
  · rw [if_pos hd] at hu
    have hkept := sweepKept_invalidate x key
    have hplain := invalidate_plain hxc (by rw [hxcom, hd.1, Bool.true_and, hx, sweepAdd_hopNames, hit_hopNames hc, hd.2])
    refine ⟨((w.more 0).more 4), hu ▸ (h0.kept hkept).more 4, fun _ _ => ⟨?_, ?_, ?_⟩, fun hno => absurd (hd.1.symm.trans hno) (by decide)⟩
    · rw [hu, sweepAdd_committed, hplain, hxcom]
    · rw [more_cnt, if_pos rfl, more_cnt, if_neg (by decide)]
    · rw [hu, sweepAdd_notices, hkept.notices, hxnone]
  · rw [if_neg hd] at hu
    by_cases hm : s.sweepMatches img = true
    · rw [if_pos hm] at hu
      obtain ⟨v, hv, h0', h1'⟩ := sweepMatched_scanned h0 mode key img
      rw [← hu] at hv
      refine ⟨v, hv, fun h1 h2 => absurd ⟨h1, h2⟩ hd, fun hplace => ?_⟩
      obtain ⟨h1, h2, h3⟩ := sweepMatched_spec hxc hxcom.symm hplace h0 hxnone mode
      rw [← hu, hxbit] at h2 h3
      rw [← hu] at h1
      refine ⟨h0'.trans hcnt0, fun hno => absurd (hm.symm.trans hno) (by decide), fun _ => ⟨h1'.trans (by rw [hcnt1]), fun hmode => ?_, fun hmode h29 => (h2 hmode h29).2, fun hmode h29 => ?_⟩⟩
      · rw [h1 hmode]
        exact ⟨hxcom, hxnone⟩
      · obtain ⟨hg, hcom, hnote⟩ := h3 hmode h29
        have hveq : v = ((w.more 0).more 1).more 2 := Option.some.inj (hv.sweep.symm.trans hg.sweep)
        refine ⟨hcom, ?_, hnote⟩
        rw [hveq, more_cnt, if_pos rfl, more_cnt, if_neg (by decide), more_cnt, if_neg (by decide)]
    · rw [if_neg hm] at hu
      refine ⟨w.more 0, hu ▸ h0, fun h1 h2 => absurd ⟨h1, h2⟩ hd, fun _ => ⟨hcnt0, fun _ => ⟨hcnt1, hu ▸ hxcom, hu ▸ hxnone⟩, fun h => absurd h hm⟩⟩

theorem sweepRecord_spec (hup : s.coreUp = true) (hw : s.flow.sweep = some w) (hn : n < 16) (hbit : bitAt w.mask n = true)
    (habort : w.abort = false) (hnone : s.flow.sqNotices = []) (hkey : key = recKey n (w.pos.get n)) (hpos : w.pos.get n + 1 < s.buckets * 8)
    (hc : recValid (s.committed key) = true → s.lineHeld key = false → s.cached key)
    (hhome : w.mode = 3 → recDisplaced (s.committed key) = true → s.cached (s.homeKey (s.committed key))) :
    ∃ t u, exec (.sweepRecord n) s = .next t ∧ t.flow.sweep = some u ∧ u.mode = w.mode ∧ u.mask = w.mask ∧
      u.pos.get n = w.pos.get n + 1 ∧ (∀ k, k ≠ n → u.pos.get k = w.pos.get k) ∧ t.flow.logs = s.flow.logs ∧
      (recValid (s.committed key) = false → u.cnt = w.cnt ∧ t.flow.lines = s.flow.lines ∧ t.flow.sqNotices = []) ∧
      (recValid (s.committed key) = true → s.lineHeld key = true → u.cnt.get 3 = w.cnt.get 3 + 1 ∧ u.cnt.get 0 = w.cnt.get 0 ∧
        t.flow.lines = s.flow.lines ∧ t.flow.sqNotices = []) ∧
      (recValid (s.committed key) = true → s.lineHeld key = false → recDisplaced (s.committed key) = true →
        s.hopNames key (s.committed key) = false → t.committed key = recClear (s.committed key) ∧ u.cnt.get 4 = w.cnt.get 4 + 1 ∧
        t.flow.sqNotices = []) ∧
      (recValid (s.committed key) = true → s.lineHeld key = false → recDisplaced (s.committed key) = false →
        u.cnt.get 0 = w.cnt.get 0 + 1 ∧
        (s.sweepMatches (s.committed key) = false → u.cnt.get 1 = w.cnt.get 1 ∧ t.committed key = s.committed key ∧ t.flow.sqNotices = []) ∧
        (s.sweepMatches (s.committed key) = true → u.cnt.get 1 = w.cnt.get 1 + 1 ∧
          (w.mode = 1 → t.committed key = s.committed key ∧ t.flow.sqNotices = []) ∧
          (w.mode = 2 → s.bit Reg.fleExpCtrl 29 = false → t.committed key = s.committed key ∧
            t.flow.sqNotices = [noticeOf 2 key (s.committed key)]) ∧
          (w.mode = 3 → s.bit Reg.fleExpCtrl 29 = false → t.committed key = recClear (s.committed key) ∧ u.cnt.get 2 = w.cnt.get 2 + 1 ∧
            t.flow.sqNotices = [noticeOf 3 key (s.committed key)]))) := by
  have hmask := mask_ne_zero hbit
  have hrun := sweepRecord_runs hup hw hn hbit habort hnone
  have h0 : Scanned s s w w := ⟨hw, .refl w, rfl, rfl⟩
  cases hvalid : recValid (s.committed key) with
  | false =>
    rw [sweepStep_invalid hkey hvalid, h0.next hpos hmask habort] at hrun
    obtain ⟨hmode, hm, hp, hps⟩ := next_pos h0.along n
    refine ⟨_, w.next n, hrun, rfl, hmode, hm, hp, hps, rfl, fun _ => ⟨rfl, rfl, hnone⟩, ?_, ?_, ?_⟩
    all_goals exact fun h => absurd h (by decide)
  | true =>
    cases hheld : s.lineHeld key with
    | true =>
      have h3 := h0.more 3
      rw [sweepStep_held hkey hvalid hheld, h3.next hpos hmask habort] at hrun
      obtain ⟨hmode, hm, hp, hps⟩ := next_pos h3.along n
      refine ⟨_, (w.more 3).next n, hrun, rfl, hmode, hm, hp, hps, rfl, fun h => absurd h (by decide), fun _ _ => ⟨?_, ?_, rfl, hnone⟩, ?_, ?_⟩
      · exact (more_cnt w 3 3).trans (if_pos rfl)
      · exact (more_cnt w 3 0).trans (if_neg (by decide))
      all_goals exact fun _ h => absurd h (by decide)
    | false =>
      have hca := hc hvalid hheld
      obtain ⟨x, hx⟩ : ∃ x, x = (s.hit key).sweepRecord w.mode key := ⟨_, rfl⟩
      obtain ⟨v, hv, hlost, hplaced⟩ := sweepRecord_cases hca hw hnone rfl w.mode hx
      rw [sweepStep_reads hca hkey hvalid hheld hhome, ← hx, hv.next hpos hmask habort] at hrun
      obtain ⟨hmode, hm, hp, hps⟩ := next_pos hv.along n
      exact ⟨_, v.next n, hrun, rfl, hmode, hm, hp, hps, hv.logs, fun h => absurd h (by decide), fun _ h => absurd h (by decide),
        fun _ _ => hlost, fun _ _ => hplaced⟩

end

end Sys2Proof.Machine
end

section
/-! PROOFS. A sweep's start and end, and the entries of the export ring (R519–R521, R533, R559). -/
namespace Sys2Proof.Machine

section
variable {s t u : State} {a acc m k n i : Nat} {v : Word} {w : Sweep}

/-! ### The end of a sweep -/

theorem rd_setFld_word (s : State) (a : Nat) (hm : m < 2 ^ 32) : (s.setFld a 31 0 m).rd a = BitVec.ofNat 32 m := by
  have hfld := State.fld_setFld_same (s := s) a 31 0 m (by decide) (by decide)
  refine BitVec.eq_of_toNat_eq ?_
  rw [← Wbits_word]
  refine hfld.trans ?_
  rw [BitVec.toNat_ofNat, Nat.mod_eq_of_lt hm]

theorem satNat_le (n m : Nat) : satNat n m ≤ m := by
  rw [satNat]
  split_ifs with h
  · exact h
  · exact Nat.le_refl m

theorem fleSweepCnt_inj {i j : Nat} (h : Reg.fleSweepCnt i = Reg.fleSweepCnt j) : i = j := by
  simpa [Reg.fleSweepCnt] using h

/-- The counts written out. -/
def State.sweepCounted (s : State) (cnt : SMap Nat) : State :=
  (List.range 6).foldl (fun t i => t.setFld (Reg.fleSweepCnt i) 31 0 (satNat (cnt.get i) (2 ^ 32 - 1))) s

theorem sweepCounted_spec (s : State) (cnt : SMap Nat) : (∃ r, s.sweepCounted cnt = { s with regs := r }) ∧
    (∀ a, (∀ i < 6, a ≠ Reg.fleSweepCnt i) → (s.sweepCounted cnt).rd a = s.rd a) ∧
    ∀ i < 6, (s.sweepCounted cnt).rd (Reg.fleSweepCnt i) = BitVec.ofNat 32 (satNat (cnt.get i) (2 ^ 32 - 1)) := by
  have hstep : ∀ (t : State) k a, a ≠ Reg.fleSweepCnt k → (t.setFld (Reg.fleSweepCnt k) 31 0 (satNat (cnt.get k) (2 ^ 32 - 1))).rd a = t.rd a :=
    fun t k a ha => State.rd_setFld_other _ _ _ _ _ _ ha
  refine ⟨?_, fun a ha => ?_, fun i hi => ?_⟩
  · rw [State.sweepCounted]
    generalize List.range 6 = l
    induction l generalizing s with
    | nil => exact ⟨s.regs, rfl⟩
    | cons i l ih =>
      obtain ⟨r, hr⟩ := ih (s.setFld (Reg.fleSweepCnt i) 31 0 (satNat (cnt.get i) (2 ^ 32 - 1)))
      exact ⟨r, hr⟩
  · exact rd_foldl_apart hstep _ s fun k hk => ha k (List.mem_range.mp hk)
  · obtain ⟨t, -, -, h⟩ := rd_foldl_at hstep (fun _ _ => fleSweepCnt_inj) (P := fun _ => True) (fun _ _ _ => trivial) (List.range 6)
      List.nodup_range (List.mem_range.mpr hi) s trivial
    exact h.trans (rd_setFld_word t _ (by have := satNat_le (cnt.get i) (2 ^ 32 - 1); omega))

theorem sweepEnd_spec (s : State) (cnt : SMap Nat) {code : Nat} (hcode : code < 8) {t : State} (ht : t = s.sweepEnd cnt code) :
    t.flow = { s.flow with sweep := none } ∧ t.mem = s.mem ∧
    t.rd Reg.fleSweepResult = BitVec.ofNat 32 (2 ^ 31 + s.fld Reg.fleSweepResult 29 29 * 2 ^ 29 + code * 2 ^ 26) ∧
    s.raised t 192 ∧ ∀ i < 6, t.rd (Reg.fleSweepCnt i) = BitVec.ofNat 32 (satNat (cnt.get i) (2 ^ 32 - 1)) := by
  obtain ⟨x, hx⟩ : ∃ x, x = s.cmdDone Reg.fleSweepResult (code * 2 ^ 26) := ⟨_, rfl⟩
  obtain ⟨y, hy⟩ : ∃ y, y = x.raiseEvent 192 := ⟨_, rfl⟩
  obtain ⟨⟨r, hform⟩, hother, hcnt⟩ := sweepCounted_spec y cnt
  have heq : t = { y.sweepCounted cnt with flow.sweep := none } := by rw [ht, hy, hx, State.sweepEnd, State.sweepCounted]
  have hrd : ∀ a, t.rd a = (y.sweepCounted cnt).rd a := fun a => by rw [heq]; rfl
  have hxother : ∀ a, a ≠ Reg.fleSweepResult → x.rd a = s.rd a := fun a ha => by rw [hx, State.cmdDone, State.rd_wr, if_neg ha]
  have hyflow : y.flow = s.flow := by rw [hy, State.raiseEvent_flow, hx, State.cmdDone, State.wr_flow]
  have hymem : y.mem = s.mem := by rw [hy, State.raiseEvent_mem, hx, State.cmdDone, State.wr_mem]
  refine ⟨by rw [heq, hform]; dsimp only; rw [hyflow], by rw [heq, hform]; exact hymem, ?_, ?_, fun i hi => (hrd _).trans (hcnt i hi)⟩
  · rw [hrd, hother _ fun i _ => by simp only [Reg.fleSweepResult, Reg.fleSweepCnt]; omega, hy,
      State.rd_raiseEvent _ _ _ (by decide), hx, State.cmdDone, State.rd_wr, if_pos rfl, Nat.mod_eq_of_lt (by omega)]
  · refine (State.raised.of_rd (hy ▸ State.raised_raiseEvent x (by decide)) fun a ha => hxother a (by simp only [Reg.fleSweepResult]; omega)).after (by decide) fun a h1 h2 => ?_
    exact (hrd a).trans (hother a fun i hi => by simp only [Reg.fleSweepCnt]; omega)

/-! ### SWEEP_CMD and SWEEP_ABORT -/

/-- A SWEEP_CMD of a mode that the module has, its unit idle. -/
theorem writeSweepCmd_spec (h1 : 1 ≤ m) (h3 : m ≤ 3) (hm : Wbits v 2 0 = m) (hidle : s.cmdBusy Reg.fleSweepResult = false) {t : State} (ht : t = writeSweepCmd s v) :
    t.mem = s.mem ∧ t.flow.lines = s.flow.lines ∧ t.flow.logs = s.flow.logs ∧
    (m ≠ 1 → s.bit (Reg.fleEqBaseHi 1) 31 = false → t.rd Reg.fleSweepResult = resultWord (2 * 2 ^ 26) ∧ t.flow.sweep = none) ∧
    ((m = 1 ∨ s.bit (Reg.fleEqBaseHi 1) 31 = true) → Wbits v 31 16 ≠ 0 → t.rd Reg.fleSweepResult = Wput (s.rd Reg.fleSweepResult) 31 29 2 ∧
      t.flow.sweep = some { mode := m, mask := Wbits v 31 16 } ∧ s.regsBut t [Reg.fleSweepResult]) := by
  obtain ⟨x, hx⟩ : ∃ x, x = s.cmdAccept Reg.fleSweepResult := ⟨_, rfl⟩
  have hring : x.bit (Reg.fleEqBaseHi 1) 31 = s.bit (Reg.fleEqBaseHi 1) 31 := by
    rw [hx]; exact State.bit_of_rd (State.rd_setFld_other _ _ _ _ _ _ (by decide)) 31
  have hflow : x.flow = s.flow := hx ▸ State.cmdAccept_flow ..
  have hmem : x.mem = s.mem := hx ▸ State.cmdAccept_mem ..
  have hword : x.fld Reg.fleSweepResult 29 29 = 0 := hx ▸ fld_cmdAccept
  have hword' : x.rd Reg.fleSweepResult = Wput (s.rd Reg.fleSweepResult) 31 29 2 := by
    rw [hx, State.cmdAccept, State.setFld, State.rd_wr, if_pos rfl]
  have hlines : x.flow.lines = s.flow.lines := congrArg Flow.lines hflow
  have hlogs : x.flow.logs = s.flow.logs := congrArg Flow.logs hflow
  have hregs : s.regsBut x [Reg.fleSweepResult] := fun a ha => hx ▸ State.rd_setFld_other _ _ _ _ _ _ (by simpa using ha)
  have heq : writeSweepCmd s v = if 2 ≤ m ∧ !s.bit (Reg.fleEqBaseHi 1) 31 then x.sweepEnd {} 2 else if Wbits v 31 16 = 0 then x.sweepEnd {} 0
      else { x with flow.sweep := some { mode := m, mask := Wbits v 31 16 } } := by
    rw [writeSweepCmd]
    dsimp only
    rw [hm, if_neg (by omega), hidle, if_neg (by decide), if_neg (by omega), ← hx, hring]
  have hended : ∀ code < 8, (x.sweepEnd {} code).mem = s.mem ∧ (x.sweepEnd {} code).flow = { s.flow with sweep := none } ∧
      (x.sweepEnd {} code).rd Reg.fleSweepResult = resultWord (code * 2 ^ 26) := by
    intro code hcode
    obtain ⟨hf, hme, hr, -⟩ := sweepEnd_spec x {} hcode rfl
    refine ⟨hme.trans hmem, hf.trans (by rw [hflow]), hr.trans ?_⟩
    rw [hword, Nat.zero_mul, Nat.add_zero, resultWord]
  rw [ht, heq]
  cases hon : s.bit (Reg.fleEqBaseHi 1) 31 with
  | false =>
    by_cases hm1 : m = 1
    · rw [if_neg (by omega)]
      by_cases hz : Wbits v 31 16 = 0
      · rw [if_pos hz]
        obtain ⟨hme, hf, -⟩ := hended 0 (by decide)
        exact ⟨hme, by rw [hf], by rw [hf], fun h => absurd hm1 h, fun _ h => absurd hz h⟩
      · rw [if_neg hz]
        exact ⟨hmem, hlines, hlogs, fun h => absurd hm1 h, fun _ _ => ⟨hword', rfl, hregs⟩⟩
    · rw [if_pos (by simp; omega)]
      obtain ⟨hme, hf, hr⟩ := hended 2 (by decide)
      exact ⟨hme, by rw [hf], by rw [hf], fun _ _ => ⟨hr, by rw [hf]⟩, fun h => absurd h (by simp [hm1])⟩
  | true =>
    rw [if_neg (by simp)]
    by_cases hz : Wbits v 31 16 = 0
    · rw [if_pos hz]
      obtain ⟨hme, hf, -⟩ := hended 0 (by decide)
      exact ⟨hme, by rw [hf], by rw [hf], fun _ h => absurd h (by decide), fun _ h => absurd hz h⟩
    · rw [if_neg hz]
      exact ⟨hmem, hlines, hlogs, fun _ h => absurd h (by decide), fun _ _ => ⟨hword', rfl, hregs⟩⟩

theorem sweepCmd_runs (hreach : s.reaches acc Reg.fleSweepCmd) (h1 : 1 ≤ m) (h3 : m ≤ 3) (hm : Wbits v 2 0 = m) :
    (if m = 1 then exec (.sweepCount acc v) s else if m = 2 then exec (.sweepReport acc v) s else exec (.sweepExpire acc v) s) =
      .next (writeSweepCmd s v) := by
  have hacc := hreach.1
  obtain rfl | rfl | rfl : m = 1 ∨ m = 2 ∨ m = 3 := by omega
  · rw [if_pos rfl, exec_sweepCount]
    exact writeRow_reaches hreach (by simpa using hacc) (by simpa using hm) _
  · rw [if_neg (by decide), if_pos rfl, exec_sweepReport]
    exact writeRow_reaches hreach (by simpa using hacc) (by simpa using hm) _
  · rw [if_neg (by decide), if_neg (by decide), exec_sweepExpire]
    exact writeRow_reaches hreach (by simpa using hacc) (by simpa using hm) _

theorem sweepAbort_spec (hreach : s.reaches acc Reg.fleSweepAbort) (hv : Wbits v 0 0 = 1) (hw : s.flow.sweep = some w) :
    ∃ t, exec (.sweepAbort acc v) s = .next t ∧ t.mem = s.mem ∧ t.flow.logs = s.flow.logs ∧ t.flow.lines = s.flow.lines ∧
      (s.flow.sqNotices ≠ [] → t = { s with flow := t.flow } ∧ t.flow.sweep = some { w with abort := true }) ∧
      (s.flow.sqNotices = [] → t.flow.sweep = none ∧ t.rd Reg.fleSweepResult = BitVec.ofNat 32 (2 ^ 31 + s.fld Reg.fleSweepResult 29 29 * 2 ^ 29 + 2 ^ 26) ∧
        s.raised t 192 ∧ ∀ i < 6, t.rd (Reg.fleSweepCnt i) = BitVec.ofNat 32 (satNat (w.cnt.get i) (2 ^ 32 - 1))) := by
  obtain ⟨x, hx⟩ : ∃ x, x = { s with flow.sweep := some { w with abort := true } } := ⟨_, rfl⟩
  have hrun : exec (.sweepAbort acc v) s = .next x.sweepCheck := by
    rw [exec_sweepAbort, execSweepAbort, writeRow_reaches hreach (by simpa using hreach.1) (by simpa using hv), writeSweepAbort, if_pos hv, hw, hx]
    rfl
  have hcheck : x.sweepCheck = if s.flow.sqNotices = [] then x.sweepEnd w.cnt 1 else x := by
    rw [hx, State.sweepCheck]
    dsimp only
    simp only [or_true, and_true, if_true]
  by_cases hnone : s.flow.sqNotices = []
  · rw [if_pos hnone] at hcheck
    obtain ⟨hf, hme, hr, hraised, hcnt⟩ := sweepEnd_spec x w.cnt (by decide) hcheck
    rw [hcheck] at hrun
    rw [hcheck] at hf hme hr hraised hcnt
    refine ⟨_, hrun, hme.trans (by rw [hx]), by rw [hf, hx], by rw [hf, hx], fun h => absurd hnone h, fun _ => ⟨by rw [hf], hr.trans ?_, ?_, hcnt⟩⟩
    · rw [hx]; rfl
    · exact hraised.of_rd fun a _ => by rw [hx]; rfl
  · rw [if_neg hnone] at hcheck
    rw [hcheck] at hrun
    refine ⟨_, hrun, by rw [hx], by rw [hx], by rw [hx], fun _ => ⟨by rw [hx], by rw [hx]⟩, fun h => absurd h hnone⟩

/-! ### The exporter's records -/

theorem exportFormat_spec {m : IpfixMsg} {entry : List Byte} (hup : s.coreUp = true) (hm : s.flow.msg.getD s.newMsg = m) (hfull : m.full = false)
    (hne : s.rd Reg.fleExpProd ≠ s.rd Reg.fleExpCons) (hk : k = (s.rd Reg.fleExpCons).toNat)
    (hentry : entry = s.mem.getBytes (s.ringBase exportRing + 128 * (k % s.ringSize exportRing)) 128) :
    exec .exportFormat s = .next ({ s with flow.msg := some { m with records := m.records ++ [dataRecord s.recSize s.expKeyLen m.utc entry] } }.wr
      Reg.fleExpCons (s.rd Reg.fleExpCons + 1)) := by
  have hword : BitVec.ofNat 32 (k + 1) = s.rd Reg.fleExpCons + 1 := by
    rw [hk]
    refine BitVec.eq_of_toNat_eq ?_
    simp [BitVec.toNat_add]
  have hread : s.ldBytes (s.ringBase exportRing + 128 * (k % s.ringSize exportRing)) 128 = entry := by rw [hentry]; rfl
  rw [exec_exportFormat, execExportFormat]
  dsimp only
  rw [hm, hup, hfull, bne_iff_ne.mpr hne, occurs, if_pos (by decide), State.formatEntry]
  dsimp only
  rw [← hk, hword, hread]

theorem length_dataRecord (r k utc : Nat) (entry : List Byte) : (dataRecord r k utc entry).length = k + 33 := by
  rw [dataRecord]
  simp only [List.length_append, List.length_map, List.length_range, beBytes_length, List.length_singleton]

end

end Sys2Proof.Machine
end

section
/-! PROOFS. Messages of the exporter, and the sweeps' statement (R560–R562). -/
namespace Sys2Proof.Machine

section
variable {s t : State} {m : IpfixMsg}

theorem outgoes_takePktCell (s : State) (i : Nat) : s.Outgoes (s.takePktCell i).1 := by
  unfold State.takePktCell
  dsimp only
  split
  · split_ifs
    · exact (outgoes_allocFail s _).trans (outgoes_setPkt _ _ _)
    · exact outgoes_setPkt _ _ _
  · split
    next c u hc => exact (outgoes_takeBuffer s hc).trans (outgoes_setPkt _ _ _)
    next => exact (outgoes_allocFail s _).trans (outgoes_setPkt _ _ _)

theorem outgoes_takeRest (n : Nat) (s : State) (i : Nat) : s.Outgoes (takeRest n s i) := by
  induction n generalizing s with
  | zero => exact .refl s
  | succ n ih =>
    rw [takeRest]
    exact .ite (.refl s) ((outgoes_takePktCell s i).trans (ih _))

theorem outgoes_placeMsg (s : State) (port tc : Nat) (f : List Byte) : s.Outgoes (s.placeMsg port tc f) := by
  unfold State.placeMsg
  extract_lets i p q a
  exact (((outgoes_setQm s _).trans (outgoes_setPkt _ i p)).trans (outgoes_takeRest _ _ _)).trans (outgoes_releasePkt a _ _ _ _)

theorem exportMessageSend_spec {ms : Nat} (hup : s.coreUp = true) (hmsg : s.flow.msg = some m) (hrecords : m.records ≠ [])
    (hdue : m.full = true ∨ s.expHoldMs ≤ ms) :
    ∃ t, exec (.exportMessageSend ms) s = .next t ∧ t.flow.msg = none ∧ t.rd Reg.fleExpSeq = s.rd Reg.fleExpSeq + BitVec.ofNat 32 m.records.length ∧
      t.flow.lines = s.flow.lines ∧ t.mem = s.mem ∧ (∀ a, a < 0x480000 → a ≠ Reg.fleExpSeq → t.rd a = s.rd a) ∧
      (s.portExists m.port = false → t.ctr (Reg.qmSpill 9) = (s.ctr (Reg.qmSpill 9) + 1) % 2 ^ 64 ∧ t.qm = s.qm) ∧
      (s.portExists m.port = true → t.ctr (Reg.fleCnt 7) = (s.ctr (Reg.fleCnt 7) + m.records.length) % 2 ^ 64 ∧
        t.ctr (Reg.fleCnt 8) = (s.ctr (Reg.fleCnt 8) + 1) % 2 ^ 64) := by
  obtain ⟨x, hx⟩ : ∃ x, x = { s with flow.msg := none }.wr Reg.fleExpSeq (s.rd Reg.fleExpSeq + BitVec.ofNat 32 m.records.length) := ⟨_, rfl⟩
  have hrun : exec (.exportMessageSend ms) s = .next (s.sendMsg m) := by
    rw [exec_exportMessageSend, execExportMessageSend, hmsg]
    dsimp only
    rw [hup, bne_iff_ne.mpr hrecords, occurs, if_pos (by simpa using hdue)]
  have hflow : x.flow = { s.flow with msg := none } := by rw [hx, State.wr_flow]
  have hmem : x.mem = s.mem := by rw [hx, State.wr_mem]
  have hqm : x.qm = s.qm := by rw [hx, State.wr_qm]
  have hctr : ∀ c, x.ctr c = s.ctr c := fun c => by rw [hx]; rfl
  have hseq : x.rd Reg.fleExpSeq = s.rd Reg.fleExpSeq + BitVec.ofNat 32 m.records.length := by rw [hx, State.rd_wr, if_pos rfl]
  have hrd : ∀ a, a ≠ Reg.fleExpSeq → x.rd a = s.rd a := fun a ha => by rw [hx, State.rd_wr, if_neg ha]; rfl
  have hport : x.portExists m.port = s.portExists m.port := by
    have hmode : ∀ g, x.cageMode g = s.cageMode g := fun g => by
      rw [State.cageMode, State.cageMode]
      split_ifs with hg
      · exact State.fld_of_rd (hrd _ (by simp only [Reg.pgCtrl, Reg.fleExpSeq]; omega)) 1 0
      · rfl
    rw [State.portExists, hmode, State.portExists]
  obtain ⟨f, hf⟩ : ∃ f, f = s.msgFrame m := ⟨_, rfl⟩
  have heq : s.sendMsg m = if !s.portExists m.port then x.spill 9 else ((x.bump (Reg.fleCnt 7) m.records.length).bump (Reg.fleCnt 8)).placeMsg m.port m.tc f := by
    rw [State.sendMsg, ← hf]
    dsimp only
    rw [← hx, hport]
  rw [heq] at hrun
  cases hexists : s.portExists m.port with
  | false =>
    rw [hexists, Bool.not_false, if_pos rfl] at hrun
    have hrc := State.spill_eq (s := x) 9 1
    have hflow' : (x.spill 9).flow = x.flow := by rw [hrc]
    have hrd' : ∀ a, a < 0x480000 → (x.spill 9).rd a = x.rd a := fun a ha => (outgoes_spill x 9 1).rd a ha
    refine ⟨_, hrun, by rw [hflow', hflow], (hrd' _ (by decide)).trans hseq, by rw [hflow', hflow], by rw [hrc]; exact hmem,
      fun a ha hne => (hrd' a ha).trans (hrd a hne), fun _ => ⟨?_, by rw [hrc]; exact hqm⟩, fun h => absurd h (by decide)⟩
    rw [State.spill, State.ctr_count _ _ _ _ _ (by decide), State.ctr_bump, if_pos rfl, hctr]
  | true =>
    rw [hexists, Bool.not_true, if_neg (by decide)] at hrun
    obtain ⟨y, hy⟩ : ∃ y, y = (x.bump (Reg.fleCnt 7) m.records.length).bump (Reg.fleCnt 8) := ⟨_, rfl⟩
    rw [← hy] at hrun
    have hgo := outgoes_placeMsg y m.port m.tc f
    have hyrd : ∀ a, y.rd a = x.rd a := fun a => by rw [hy, State.rd_bump, State.rd_bump]
    have hyflow : y.flow = x.flow := by rw [hy, State.bump_flow, State.bump_flow]
    have hymem : y.mem = x.mem := by rw [hy, State.bump_mem, State.bump_mem]
    have hflow' := (hgo.only.flow_eq (by decide)).trans hyflow
    refine ⟨_, hrun, by rw [hflow', hflow], (hgo.rd _ (by decide)).trans ((hyrd _).trans hseq), by rw [hflow', hflow],
      (hgo.only.mem_eq (by decide)).trans (hymem.trans hmem), fun a ha hne => (hgo.rd a ha).trans ((hyrd a).trans (hrd a hne)),
      fun h => absurd h (by decide), fun _ => ⟨?_, ?_⟩⟩
    · rw [hgo.ctr _ (by decide), hy, State.ctr_bump, if_neg (by decide), State.ctr_bump, if_pos rfl, hctr]
    · rw [hgo.ctr _ (by decide), hy, State.ctr_bump, if_pos rfl, State.ctr_bump, if_neg (by decide), hctr]

theorem sweepMatches_iff (s : State) (img : List Byte) : s.sweepMatches img = true ↔
    recPinned img = false ∧ (s.bit Reg.fleSweepTenant 31 = true → recTenant img = s.fld Reg.fleSweepTenant 15 0) ∧
      s.pair Reg.fleSweepIdleLo Reg.fleSweepIdleHi ≤ (s.ns64 + 2 ^ 64 - recLast s.recSize img) % 2 ^ 64 ∧
      (s.ns64 + 2 ^ 64 - recLast s.recSize img) % 2 ^ 64 < 2 ^ 63 := by
  rw [State.sweepMatches]
  simp only [Bool.and_eq_true, Bool.not_eq_true', Bool.or_eq_true, beq_iff_eq, decide_eq_true_eq, and_assoc]
  refine and_congr_right fun _ => and_congr_left fun _ => ?_
  cases s.bit Reg.fleSweepTenant 31 <;> simp

end

/-! ### The statement -/

/-- Settles O48: a command is accepted or answered at once, a sweep reads one position after another, the exporter's entries become
records of a message, and a message goes out. -/
theorem sweepsAndExport : Obligations.SweepsAndExport := by
  intro s hup
  exact ⟨fun acc v m hreach h1 h3 hm hidle => ⟨_, sweepCmd_runs hreach h1 h3 hm, writeSweepCmd_spec h1 h3 hm hidle rfl⟩,
    fun w n key hw hn hbit habort hnone hkey hpos hc hhome => sweepRecord_spec hup hw hn hbit habort hnone hkey hpos hc hhome,
    fun img => sweepMatches_iff s img, fun acc v w hreach hv hw => sweepAbort_spec hreach hv hw,
    fun m k entry hm hfull hne hk hentry => exportFormat_spec hup hm hfull hne hk hentry, length_dataRecord,
    fun ms m hmsg hrecords hdue => exportMessageSend_spec hup hmsg hrecords hdue, fun m => rfl⟩

end Sys2Proof.Machine
end
